-- ==== Sys2Proof/Word.lean ====
section
/-!
DEFINITION. The byte, the name of a register cell, and the sparse store every register group is held in.
-/

namespace Sys2Proof

/-- One byte of a frame, a record or a memory. -/
abbrev Byte := BitVec 8

/-- The name of one register cell: the register (`Obj.id`), the instance and the element. -/
structure Key where
  o : Nat
  i : Nat
  j : Nat
deriving DecidableEq, Repr

/-- The order of cells in a canonical store: by register, then instance, then element. -/
def Key.lt (a b : Key) : Bool :=
  a.o < b.o || (a.o == b.o && (a.i < b.i || (a.i == b.i && a.j < b.j)))

/-- Cells that hold a value; a cell not listed holds its register's reset value. In canonical form the names rise
strictly. -/
abbrev Store (α : Type) := List (Key × α)

end Sys2Proof
end

