-- ==== Sys2Proof/Syntax.lean ====
section
/-!
DEFINITION. The commands of the module and the operands they carry.
-/

namespace Sys2Proof

/-- The authentication trailer of a CAN request (R283). -/
structure Trailer where
  role : Nat
  counter : Nat
  mac : List Byte
deriving DecidableEq, Repr

/-- How a request arrives and what vouches for it. -/
inductive Auth where
  /-- On an Ethernet session: its identifier, the GCM sequence of the first segment, the GCM tags of the segments. -/
  | session (ident seq : Nat) (macs : List (List Byte))
  /-- A plain datagram without a session on ETH0 (0) or ETH1 (1). -/
  | plain (port : Nat)
  /-- On CAN0: priority, node address, and the trailer where there is one. -/
  | can (prio node : Nat) (trailer : Option Trailer)
deriving DecidableEq, Repr

/-- A Farar request: who asks, its tag and epoch, and whether its last segment has arrived. -/
structure Req where
  auth : Auth
  tag : Nat
  epoch : Nat
  complete : Bool := true
deriving DecidableEq, Repr

/-- The mirror of a frame (Table 17.3), field by field: the packing of its records is not given in full. -/
structure Mirror where
  frame : Nat
  seq : Nat
  flags : Nat
  generation : Nat
  /-- 16 substitution words. -/
  substitution : List Nat
  /-- The 12-byte states of LP0 to LP1023. -/
  slots : List (List Byte)
  /-- 24 outlet targets and 24 voltage limits; 64 block shares, 64 pre-charge voltages; 64 ramp factors. -/
  targets : List Int
  shares : List Int
  ramps : List Rat
  /-- Per block: state, allocation state, set in use, migration step, its frame count, contactor bits, bound outlet.
  -/
  blocks : List (List Int)
  phases : List Int
  /-- Per outlet: state, latch, end cause, bound context, step of its sequence, its frame count. -/
  outlets : List (List Int)
  /-- Load channel commands (96) and states (96), safe output states, function states (8), start-up test result. -/
  outputs : List Int
  /-- Module time of the slow slice. -/
  time : Int
deriving DecidableEq, Repr

/-- The data set of a PTP Announce message (IEEE 1588). -/
structure Announce where
  identity : List Byte
  domain : Nat
  priority1 : Nat
  clockClass : Nat
  accuracy : Nat
  variance : Nat
  priority2 : Nat
  steps : Nat
deriving DecidableEq, Repr

/-- What travels on the configuration sync (R397). -/
inductive SyncItem where
  /-- The acknowledgement of what was sent before. -/
  | ack
  /-- The value of a synced object. -/
  | cell (index sub : Nat) (value : List Byte)
  /-- A commit of 0x1010. -/
  | commit
  /-- A transition to a life-cycle state (R270). -/
  | transition (state : Nat)
  /-- An entry of the session record store. -/
  | record (entry : List Byte)
  /-- An item of the journal (Table 19.7). -/
  | journal (item : List Byte)
  /-- Host command 3 that was written to the standby (R403). -/
  | handOver
  /-- Mirror format version, dictionary version, life-cycle state, safety configuration CRC, firmware version
  (R408). -/
  | versions (mirror dictionary state crc firmware : Nat)
  /-- The health report: score and fitness (R405). -/
  | report (score : Nat) (fit : Bool)
  /-- Topology results in the order of 0x2003:01 to 05, then refused phases and absent outstations (R17). -/
  | topology (values : List Nat)
deriving DecidableEq, Repr

/-- The commands of the module, one for each row of the opcode table: what the host asks, what its buses, sensors, clocks
and partners tell, and the instants that its own timing brings. -/
inductive Instr where
  /-- The frame tick starts a frame of L(k) cycles and loads the fast-pass limits of the previous frame as LE
  references (R25). -/
  | frameStart
  /-- A telemetry link frame from a cabinet terminal is received, CRC-checked and written into the LE input
  registers (R53). -/
  | telemetryFrame (link : Fin 16) (lane : Fin 2) (line : List Bool)
  /-- At F0 + 3.0 µs each link without good telemetry has its previous sample substituted and its late counters
  raised (R28). -/
  | telemetryDeadline
  /-- Consecutive missing telemetry or undispatched commands on a link reach the stale limit, and the link is
  treated as lost (R28). -/
  | staleLimitReached (link : Fin 16)
  /-- From F0 + 3.0 µs LE issues the due fast and divided slots by level and slot number (R113). -/
  | fastClassEvaluation (mism again late : List Nat) (done peak : Nat)
  /-- After 50 000 mismatch-free frames, starts of the blocks stopped for mismatch are allowed again (R123). -/
  | mismatchFreePeriodEnd
  /-- At F0 + 10.0 µs any fast-class slot not written back holds its previous output and is counted (R28). -/
  | fastClassDeadline
  /-- Fast-class overruns in 8 consecutive frames hand over when ACTIVE, or ramp every block down when SOLO (R28). -/
  | fastClassOverrunLimit
  /-- The command assembler packs duties, edges and profiles into one command frame per link and dispatches it
  (R50). -/
  | commandDispatch (missed : List (Fin 16))
  /-- A command frame not dispatched by F0 + 12.0 µs is not sent and is counted (R28). -/
  | dispatchDeadline (link : Fin 16)
  /-- The allocator fast pass sets each outlet's current target, scale factors and block shares for the next frame
  (R142). -/
  | allocatorFastPass
  /-- A fast pass not complete by F1 leaves the previous limits in force, is counted and logged (R6). -/
  | allocatorFastPassOverrun
  /-- Four consecutive fast-pass overruns ramp every block down (R136). -/
  | fastPassOverrunLimit
  /-- A slow tick falls in each frame whose counter is a multiple of 500 (R30). -/
  | slowTick (mism again late : List Nat)
  /-- Every 5000 frames all temperature channels and supply monitors are read, filtered and published (R193). -/
  | housekeepingRound (temps : List (Int × Int)) (supplies : List Nat) (fitted : Bool) (offs : List Nat)
  /-- A completed allocation pass takes effect at the next fast pass and resets the scale factors to 1 (R129). -/
  | allocationPassComplete
  /-- An eye scan of a lane completes, and adaptation runs on its eye figure (R56). -/
  | eyeScanComplete (link : Fin 16) (lane : Fin 4) (ef : Fin 256)
  /-- A write of the requested Dune depth is accepted for application at the next k = 0 (R21). -/
  | duneDepthWrite (r : Req) (data : List Byte)
  /-- At the first frame with k = 0 after acceptance the requested depth is applied and logged (R21). -/
  | duneDepthApplied
  /-- A sampling lead write is checked against the terminals' ready times and carried in the next command frame
  (R26). -/
  | samplingLeadWrite (r : Req) (data : List Byte)
  /-- A PTP Sync yields an offset that the servo slews or declines to apply (R34). -/
  | ptpSync (identity : List Byte) (domain : Nat) (diff : Int)
  /-- A PTP Announce is taken into the best master clock selection (R33). -/
  | ptpAnnounce (a : Announce)
  /-- A PTP delay response completes a path delay measurement (R33). -/
  | ptpDelayResp (identity : List Byte) (diff : Int)
  /-- An announce receipt timeout or 4 s without Sync puts time quality into holdover (R35). -/
  | ptpLockLost
  /-- After 24 h in holdover the time quality becomes free-running (R35). -/
  | holdoverTimeout
  /-- A TIME-role write of module time is slewed, or stepped when larger than 1 s, and logged (R34). -/
  | moduleTimeWrite (r : Req) (data : List Byte)
  /-- Every 60 s while locked or in holdover, module time is written into the RTC (R36). -/
  | rtcUpdate
  /-- Each second the crystal is compared with the RTC, and a clock fault is declared after 4 bad seconds (R37). -/
  | clockCheck (ppb : Int)
  /-- Loss of PLL lock holds the module in POR until lock returns (R37). -/
  | pllLockLost
  /-- A reset is released, the straps are read, frame ticks start and KC boots from ROM (R424). -/
  | porRelease (simplexOpen slotOpen : Bool) (rtc : Int) (since : Nat)
  /-- KC completes verification of the selected and metrology images, or falls back to the other slot (R286). -/
  | imageVerified
  /-- The journal is mounted and replayed, and PER, SEAL and BAT objects are restored (R452). -/
  | journalMount (batteryGood : Bool) (torn : Nat) (newerBad lost : Bool) (retBad : List Nat)
  /-- ETH0 is up and Farar sessions are accepted at stage 4, and link bring-up begins on a simplex backplane (R495).
  -/
  | dictionaryAvailable (holdUp : Nat)
  /-- The role is set to SOLO or ISOLATED at stage 5 from the simplex strap (R16). -/
  | roleEstablished
  /-- A start-up stage exceeds its Max time and event 0x2034 is logged (R15). -/
  | startupStageTimeout
  /-- Declared elements are checked against what is found, and mismatches are refused (R11). -/
  | topologyCheck
  /-- The topology check completes, the result is published and unrefused outlets become ready (R9). -/
  | topologyCheckComplete
  /-- A host write of 1 to 0x2004 runs the check for all unenergised elements (R11). -/
  | runTopologyCheck (r : Req)
  /-- At the retry interval the module drives CLn.CKD and starts bring-up of a link (R59). -/
  | linkBringUp (link : Fin 16)
  /-- A write of 1 to 0x3006 moves the link to CLOCK and restarts bring-up (R60). -/
  | restartBringUp (r : Req) (link : Fin 16) (data : List Byte)
  /-- The terminal's derived clock is detected and training frames start on all data lanes (R59). -/
  | ckuDetected (link : Fin 16)
  /-- A training frame is received, giving eye figures, turnaround and the one-way delay D (R58). -/
  | trainingFrame (link : Fin 16) (lane : Fin 2) (arrival : Nat) (line : List Bool)
  /-- After at least 12 scans every lane has adapted or left service, and synchronisation begins (R59). -/
  | alignComplete (link : Fin 16)
  /-- The terminal identity read over service channel 3 is compared with the declaration and ready time (R59). -/
  | identityRead (link : Fin 16)
  /-- The terminal returns the CRC of the applied configuration image, and KEEP_ALIVE commands begin (R59). -/
  | configurationCrcReturned (link : Fin 16)
  /-- Bring-up not finished within 4.0 s refuses a declared link or returns an undeclared one to DOWN (R59). -/
  | bringUpTimeout (link : Fin 16)
  /-- A service frame is received, acknowledged and acted on for its channel (R54). -/
  | serviceFrame (link : Fin 16) (lane : Fin 2) (line : List Bool)
  /-- No acknowledged progress for 16 frames resends from the oldest unacknowledged service frame (R54). -/
  | serviceResendTimeout (link : Fin 16) (lane : Fin 2)
  /-- 50 frames after link loss the module sends SAFE_OFF with all contactors open (R65). -/
  | linkLostKeepAliveEnd (link : Fin 16)
  /-- 500 frames after link loss bring-up restarts at ALIGN or CLOCK (R65). -/
  | linkLostRetry (link : Fin 16)
  /-- A write to 0x3007:02 sends terminal firmware over service channel 0 (R54). -/
  | firmwareDataWrite (r : Req) (link : Fin 16) (data : List Byte)
  /-- A write to 0x3007:03 activates the terminal firmware, restarting the terminal (R66). -/
  | activateTerminalFirmware (r : Req) (link : Fin 16) (data : List Byte)
  /-- The terminal accepts a valid command frame and applies it at its apply frame (R61). -/
  | terminalCommandAccept (link : Fin 16) (late : Bool) (frame : List Byte)
  /-- A frame without an accepted command makes the terminal hold, then ramp off (R62). -/
  | terminalHold (link : Fin 16)
  /-- At F(n+41) without commands the terminal turns every phase off and enters SAFE_OFF (R62). -/
  | terminalSafeOff (link : Fin 16)
  /-- The terminal turns a phase off on desaturation, over-current or high-side undervoltage (R61). -/
  | terminalPhaseFault (phase : Fin 256) (cause : Fin 8)
  /-- A start request is judged against the start conditions and accepted or refused with a cause (R83). -/
  | blockStartRequest (block : Fin 64)
  /-- A stop request moves the block to RAMP_OFF or OFF (R89). -/
  | blockStopRequest (block : Fin 64)
  /-- The block output falls below 10 % of the input bus, and TEST begins (R83). -/
  | outputDischargeWaitEnd (block : Fin 64)
  /-- After 2500 frames without discharge the start is refused with cause 1 (R83). -/
  | outputDischargeTimeout (block : Fin 64)
  /-- The 4 test samples are judged, and shorted high sides are locked out (R86). -/
  | shortedHighSideEvaluation (block : Fin 64)
  /-- The start delay elapses and the block waits for gate-drive ready (R85). -/
  | startDelayEnd (block : Fin 64)
  /-- Gate-drive ready is reported and the block enters RAMP_ON with preset duty slots (R85). -/
  | gateDriveReady (block : Fin 64)
  /-- Gate-drive ready missing 200 frames after the delay refuses the start with cause 3 (R87). -/
  | gateDriveTimeout (block : Fin 64)
  /-- The start ramp elapses and the block enters RUNNING (R85). -/
  | rampOnComplete (block : Fin 64)
  /-- The ramp factor reaches 0, all phases are sent OFF and STOP_DELAY begins (R89). -/
  | rampOffComplete (block : Fin 64)
  /-- The stop delay elapses and the block is OFF (R89). -/
  | stopDelayEnd (block : Fin 64)
  /-- A write to 0x3200:22 clears the latch when all voltages are below 50 V (R93). -/
  | clearOverVoltageLatch (r : Req) (block : Fin 64) (data : List Byte)
  /-- After the retry delay the phase returns to ACTIVE with a preset duty, or to OFF (R94). -/
  | retryDelayEnd (phase : Fin 256)
  /-- A write to 0x3800:13 clears a phase lockout when permitted (R96). -/
  | clearLockout (r : Req) (phase : Fin 256) (data : List Byte)
  /-- Light load for 500 frames sheds the highest-numbered non-bootstrap switching phase (R102). -/
  | phaseShed (block : Fin 64)
  /-- A write to 0x5000:1C presets the slot's integrator at its next evaluation (R119). -/
  | presetOutput (r : Req) (slot : Fin 1024) (data : List Byte)
  /-- A write to 0x5000:1D clears the slot's integrator at its next evaluation (R120). -/
  | clearIntegrator (r : Req) (slot : Fin 1024) (data : List Byte)
  /-- A write of the parent or reference source keeps both in agreement and rederives levels (R112). -/
  | parentSlotWrite (r : Req) (slot : Fin 1024) (source : Bool) (data : List Byte)
  /-- A write to 0x5410:0A starts the test signal injection when allowed (R126). -/
  | startInjection (r : Req)
  /-- A write to 0x5410:0B ends the injection (R126). -/
  | stopInjection (r : Req)
  /-- A chirp or step reaching N + 16384 evaluations ends the injection (R126). -/
  | injectionLengthReached
  /-- A write of 1 to 0x5420:08 hands a free bank to LE and starts the capture (R127). -/
  | startCapture (r : Req)
  /-- A write of 2 to 0x5420:08 ends the capture and pushes the bank (R127). -/
  | stopCapture (r : Req)
  /-- After 16384 sampled evaluations the bank is handed to XD and pushed (R127). -/
  | captureComplete
  /-- Every 10 s the planning pass fills contexts over the next 4 h by price (R141). -/
  | planningPass (completes : Bool)
  /-- A planning pass not complete within 10 s is discarded (R130). -/
  | planningPassTimeout
  /-- A write of the dynamic site limit restarts its hold time and restores host control (R132). -/
  | dynamicLimitWrite (r : Req) (data : List Byte)
  /-- The dynamic limit not rewritten within the hold time takes the fallback (R132). -/
  | dynamicLimitExpiry
  /-- Mains present on a feeder for 10 s ends the withholding of its blocks (R137). -/
  | mainsPresentHoldEnd (feeder : Fin 4)
  /-- A migration or release starts once its conditions hold, and the block's share ramps down (R149). -/
  | migrationStart (block : Fin 64)
  /-- Block output below 5 A for 3 frames commands the reach open and switches to set B (R150). -/
  | migrationReachOpen (block : Fin 64)
  /-- At O + 1500 the reach must report open, and pre-charge or the release stop follows (R150). -/
  | migrationWaitEnd (block : Fin 64)
  /-- The block output is within 2 % of the target for 8 frames, and the reach to the target is commanded closed
  (R150). -/
  | migrationPreChargeDone (block : Fin 64)
  /-- The target reach reports closed and the block's share ramps up (R150). -/
  | migrationClosedReported (block : Fin 64)
  /-- 1000 frames after closure the block is settled at the target (R150). -/
  | migrationSettled (block : Fin 64)
  /-- No opening below 5 A by M + 1250 abandons the migration with cause 2 (R151). -/
  | migrationOpenTimeout (block : Fin 64)
  /-- Pre-charge not within 2 % by its limit abandons with cause 5 (R151). -/
  | migrationPreChargeTimeout (block : Fin 64)
  /-- Closure not reported by C + 2000 withholds the block with cause 6 (R151). -/
  | migrationCloseTimeout (block : Fin 64)
  /-- A write to 0x3200:09 clears a withhold when every reach reports open (R148). -/
  | clearWithhold (r : Req) (block : Fin 64) (data : List Byte)
  /-- Three agreeing pilot readings change the pilot state (R157). -/
  | pilotStateChange (outlet : Fin 24) (readings : List (Int × Int))
  /-- Three agreeing proximity readings change its state (R158). -/
  | proximityStateChange (outlet : Fin 24) (readings : List Nat)
  /-- Three agreeing HVIL readings change its state (R159). -/
  | hvilStateChange (outlet : Fin 24) (readings : List Nat)
  /-- A contactor feedback differing from its command for 100 ms is a fault (R160). -/
  | contactorFeedbackFault (outlet : Fin 24) (feedback : Fin 4)
  /-- A SERVICE write to 0x4005:03 clears a feedback or weld cause of unavailability (R181). -/
  | clearContactorFault (r : Req) (outlet : Fin 24) (data : List Byte)
  /-- A SLAC run starts with a new network membership key (R162). -/
  | cmSlacParmReq (outlet : Fin 24) (runId : Nat)
  /-- A run heard on several ports is answered only on the port 6 dB clearer than the rest (R163). -/
  | slacRunArbitration (runId : Nat) (heard : List (Nat × Nat))
  /-- An SDP request is answered with the port's address, TCP port and security (R164). -/
  | sdpRequest (outlet : Fin 24) (tls : Bool)
  /-- A TCP connection is accepted, or refused while one is open (R164). -/
  | tcpConnection (outlet : Fin 24)
  /-- The protocol of highest vehicle priority is selected, or the outlet closes with cause 11 (R165). -/
  | supportedAppProtocol (outlet : Fin 24) (options : List Nat)
  /-- A closed TCP connection, TLS alert or link down for 2 s ends the session with cause 11 (R182). -/
  | communicationLost (outlet : Fin 24)
  /-- Once the vehicle identifies itself a context is bound by the order of R187 (R187). -/
  | vehicleIdentified (outlet : Fin 24) (contract good : Bool) (evccid emaid : List Byte)
  /-- A vehicle authorisation request is answered ongoing, granted, or passed to the host (R169). -/
  | authorisationRequest (outlet : Fin 24)
  /-- A host write of 1 or 2 to 0x6000:0C grants or denies authorisation (R188). -/
  | authorisationWrite (r : Req) (ctx : Fin 250) (data : List Byte)
  /-- No decision within 0x4004:08 ends the session with cause 18 (R169). -/
  | authorisationTimeout (outlet : Fin 24)
  /-- A certificate installation or update request is relayed to the host (R167). -/
  | certificateRequest (outlet : Fin 24) (body : List Byte)
  /-- The host's response body is returned to the vehicle (R167). -/
  | certificateResponseWrite (r : Req) (outlet : Fin 24) (data : List Byte)
  /-- After 60 s the certificate request is answered with the failure code (R167). -/
  | certificateTimeout (outlet : Fin 24)
  /-- CableCheckReq enters CABLE_CHECK when all conditions hold (R172). -/
  | cableCheckReq (outlet : Fin 24)
  /-- An IMD status frame updates self-test and insulation status (R173). -/
  | imdStatusFrame (outlet : Fin 24) (frame : List Byte)
  /-- An IMD status frame missing for 300 ms makes the IMD silent (R173). -/
  | imdSilent (outlet : Fin 24)
  /-- A keep alive is sent each second when no other IMD command is due (R173). -/
  | imdKeepAlive (outlet : Fin 24)
  /-- Both outlet feedbacks report closed, and the session's start register values are taken (R227). -/
  | outletContactorsClosed (outlet : Fin 24)
  /-- After 2500 frames the test voltage is reached and the measure command sent (R174). -/
  | cableCheckRampEnd (outlet : Fin 24)
  /-- Cable check not passed by Q + 0x4004:03 fails with cause 9 (R175). -/
  | cableCheckTimeout (outlet : Fin 24)
  /-- PreChargeReq ramps the bound blocks' pre-charge voltage to the target (R176). -/
  | preChargeReq (outlet : Fin 24) (target : Nat)
  /-- DMn current above the limit for 50 frames makes an emergency stop with cause 10 (R176). -/
  | preChargeCurrentExceeded (outlet : Fin 24)
  /-- PowerDelivery start with pre-charge complete enters DELIVERING and switches blocks to set A (R176). -/
  | powerDeliveryStart (outlet : Fin 24)
  /-- No PowerDelivery start within 0x4004:04 stops with cause 10 (R176). -/
  | preChargeTimeout (outlet : Fin 24)
  /-- CurrentDemand sets the request term and is answered with present values and limits (R178). -/
  | currentDemandReq (outlet : Fin 24) (tv ti mv mi soc err : Nat) (marked : Bool)
  /-- No CurrentDemand for 0x4004:09 makes a normal stop with cause 11 (R178). -/
  | demandSilenceTimeout (outlet : Fin 24)
  /-- DMn above 1.02 times the EV maximum for 10 frames makes an emergency stop with cause 20 (R177). -/
  | evOverVoltage (outlet : Fin 24)
  /-- A vehicle PowerDelivery stop starts or advances a normal stop (R179). -/
  | powerDeliveryStop (outlet : Fin 24)
  /-- DMn current below 5 A for 3 frames advances the stop (R179). -/
  | stopCurrentDecayed (outlet : Fin 24)
  /-- At S + 50 000 frames the stop proceeds and the opening counts as under load (R179). -/
  | stopCurrentTimeout (outlet : Fin 24)
  /-- DMn below 60 V commands both outlet contactors open (R179). -/
  | outputDischarged (outlet : Fin 24)
  /-- DMn at or above 60 V 1 s into WELD_CHECK opens the contactors and leaves the weld check outstanding (R179). -/
  | vehicleVoltageRemains (outlet : Fin 24)
  /-- Both feedbacks report open, the stop register values are taken and the weld test begins (R179). -/
  | outletContactorsOpen (outlet : Fin 24)
  /-- A weld test half is judged after 100 frames at test voltage (R181). -/
  | weldTestHalfComplete (outlet : Fin 24)
  /-- After 0x4004:0B frames the outlet contactors open regardless of current (R180). -/
  | emergencyOpenDelay (outlet : Fin 24)
  /-- No bound capacity for 0x4004:0A seconds makes a normal stop with cause 15 (R182). -/
  | noCapacityTimeout (outlet : Fin 24)
  /-- A host write of 1 to 0x4005:02 makes a normal stop (R179). -/
  | stopSessionNormal (r : Req) (outlet : Fin 24)
  /-- A host write of 2 to 0x4005:02 makes an emergency stop (R180). -/
  | stopSessionEmergency (r : Req) (outlet : Fin 24)
  /-- Command 1 creates a PENDING context with a new serial (R188). -/
  | createPending (r : Req) (ctx : Fin 250)
  /-- Command 2 creates a RESERVED context with a new serial (R188). -/
  | createReserved (r : Req) (ctx : Fin 250)
  /-- Command 3 frees a PENDING or RESERVED context without a record (R186). -/
  | cancel (r : Req) (ctx : Fin 250)
  /-- Command 4 makes a normal stop of the context's session (R179). -/
  | contextNormalStop (r : Req) (ctx : Fin 250)
  /-- Command 5 makes an emergency stop of the context's session (R180). -/
  | contextEmergencyStop (r : Req) (ctx : Fin 250)
  /-- A PENDING expiry or RESERVED window end frees the context (R185). -/
  | contextExpiry (ctx : Fin 250)
  /-- A coolant unit status frame updates flow and status (R213). -/
  | coolantStatusFrame (outlet : Fin 24) (frame : List Byte)
  /-- A status missing for 500 ms zeroes the model flow and holds the pump slot (R213). -/
  | coolantUnitSilent (outlet : Fin 24)
  /-- Each 62.5 µs ME scales the samples and accumulates energy and charge registers (R218). -/
  | metrologySample (inputs : List Int)
  /-- A missing crossing for 2.5 cycles or low voltage sets no mains on a feeder (R222). -/
  | noMains (feeder : Fin 4)
  /-- Ten good half-cycles end the no-mains state (R222). -/
  | mainsReturned (feeder : Fin 4)
  /-- Each second the means and extremes are published and the registers committed (R219). -/
  | meteringSecond
  /-- A metrology channel without transitions for 1 ms or overloaded over 1 % of a second is faulted (R228). -/
  | channelFault (channel : Fin 76) (stuck : Bool)
  /-- One second free of fault conditions clears a channel fault (R228). -/
  | channelFaultCleared (channel : Fin 76)
  /-- A due or owed pulse is emitted when the output is free (R231). -/
  | pulseEmit (output : Fin 4)
  /-- In BACKUP each RTC second a 10 ms burst of DM currents is judged for theft (R233). -/
  | theftWatchBurst (means : List Int)
  /-- At each 15 min window end the register increments of the pair are compared (R235). -/
  | crossCheckWindowEnd (partner : List Int)
  /-- The standby sets its published registers to the values sent by the active each second (R234). -/
  | meteringValuesSync (values : List Nat)
  /-- The seal switch closes, opening the seal with an audit entry (R237). -/
  | sealOpened
  /-- The seal switch opens, closing the seal with an audit entry (R237). -/
  | sealClosed
  /-- A write to 0x8001:02 stores metrology image data with the seal open (R239). -/
  | metrologyImageData (r : Req) (data : List Byte)
  /-- A write to 0x8001:03 activates the metrology image at the next reset (R239). -/
  | activateMetrologyImage (r : Req)
  /-- A write to 0x8020:06 clears the theft log (R233). -/
  | clearTheftLog (r : Req)
  /-- A switch point changes the tariff slot in force at a boundary (R245). -/
  | tariffSlotSwitch
  /-- A demand interval or subinterval ends and demand is judged and ranked (R248). -/
  | demandIntervalEnd
  /-- The calendar closing instant closes the billing period into a closed period record (R252). -/
  | billingPeriodClose
  /-- A write of 1 to 0x9500:03 closes the billing period (R252). -/
  | closePeriod (r : Req)
  /-- A write to 0x9000:05 schedules activation of the pending calendar (R247). -/
  | calendarActivationWrite (r : Req) (data : List Byte)
  /-- At the activation instant the pending calendar becomes active (R247). -/
  | calendarActivation
  /-- DST starts or ends, and skipped or repeated minutes act as set out (R246). -/
  | dstChange
  /-- The boundary takes effect at the first ME sample after its record is committed (R255). -/
  | boundaryRecordCommitted
  /-- KC signs the session record and the context becomes SEALED on commit (R261). -/
  | recordSealed (ctx : Fin 250)
  /-- A write to 0x9600:03 selects a record by serial for reading (R263). -/
  | recordSelect (r : Req) (data : List Byte)
  /-- A write to 0x9600:06 collects a record and frees its context (R263). -/
  | collectRecord (r : Req) (data : List Byte)
  /-- A write to 0x9600:07 releases collected entries up to a serial (R263). -/
  | releaseUpTo (r : Req) (data : List Byte)
  /-- An accepted tamper input change makes a tamper log entry (R265). -/
  | tamperInputChange (input : Fin 8) (closed : Bool)
  /-- An idle outlet with current below 1 A for 1 s has its magnetic field checked (R266). -/
  | magneticCheck (outlet : Fin 24) (readings : List Int)
  /-- A write to 0x9798:01 requests a magnetic check of outlets (R266). -/
  | runMagneticTest (r : Req) (data : List Byte)
  /-- A write of 2 to 0xB000:01 requests the transition to FIELD (R268). -/
  | requestField (r : Req)
  /-- A write of 3 to 0xB000:01 requests the transition to SERVICE (R268). -/
  | requestService (r : Req)
  /-- A HOST_ADMIN then SERVICE write of 4 to 0xB000:01 requests RETIRED (R268). -/
  | requestRetired (r : Req)
  /-- A first RETIRED write not confirmed within 60 s lapses (R268). -/
  | retiredConfirmLapse
  /-- KC completes a life-cycle transition, commits it and releases operations (R269). -/
  | transitionComplete (refused : Nat)
  /-- A write to 0xB010:01 changes the field metering key version (R273). -/
  | fieldMeteringKeyVersion (r : Req) (data : List Byte)
  /-- Every 12 500 frames KC re-masks the shares of every root and key (R274). -/
  | reMask
  /-- Every 86 400 s the key blobs are re-wrapped with fresh masks (R275). -/
  | blobRewrap
  /-- A random source health test failure restarts it, and three within an hour fail the source (R278). -/
  | healthTestFailed (test : Fin 3)
  /-- Every 10 s a failed source reruns its start-up test and resumes waiting work when it passes (R278). -/
  | randomSourceRestart (passes : Bool)
  /-- A nonce written to 0xB020:02 makes KC sign an attestation statement (R279). -/
  | attestationNonce (r : Req) (nonce : List Byte)
  /-- A role public key write installs the key and ends that role's sessions (R282). -/
  | roleKeyWrite (r : Req) (index : Fin 5) (data : List Byte)
  /-- A CAN role MAC key write stores it wrapped and resets the role's counter (R283). -/
  | canRoleKeyWrite (r : Req) (index : Fin 5) (data : List Byte)
  /-- A write of 1 to 0xB011:01 generates an ECDSA P-256 SECC key (R276). -/
  | generateSeccKeyP256 (r : Req)
  /-- A write of 2 to 0xB011:01 generates an ECDSA P-521 SECC key (R276). -/
  | generateSeccKeyP521 (r : Req)
  /-- A write of 3 to 0xB011:01 generates an EdDSA Ed448 SECC key (R276). -/
  | generateSeccKeyEd448 (r : Req)
  /-- A write to 0xB210:02 stores firmware image data in the inactive slot (R287). -/
  | imageDataWrite (r : Req) (data : List Byte)
  /-- A write to 0xB210:03 verifies the image and selects it on trial (R287). -/
  | activateImage (r : Req)
  /-- A write to 0xB200:06 after 600 s makes the trial image final (R287). -/
  | confirmTrialImage (r : Req)
  /-- OPEN carries step 1 of the session opening and is answered with step 2 (R307). -/
  | open (port : Fin 2) (addr tag epoch : Nat) (payload : List Byte)
  /-- CONFIRM carries the role signature and opens or refuses the session (R307). -/
  | confirm (ident seq tag epoch : Nat) (sig mac : List Byte)
  /-- CLOSE ends the session after its response (R307). -/
  | close (r : Req)
  /-- A session without traffic for 300 s ends (R282). -/
  | sessionIdleTimeout
  /-- A session ends after 86 400 s of module time (R282). -/
  | sessionLifetimeEnd
  /-- The 60 s refusal of openings from an address ends (R282). -/
  | openingLockoutEnd
  /-- A READ request returns the value in effect with its status (R291). -/
  | read (r : Req) (index sub : Nat)
  /-- A WRITE to an object without a row of its own is judged and takes effect at its owner's boundary (R7). -/
  | write (r : Req) (index sub : Nat) (data : List Byte)
  /-- ABORT discards an incomplete request or stops a response being sent (R303). -/
  | abort (r : Req)
  /-- BLOCK_ACK lets the sender continue with the next block of 128 segments (R310). -/
  | blockAck (tag : Fin 256)
  /-- A UDP request not complete 1.0 s after its first segment is answered 0x0A (R306). -/
  | requestIncomplete (space tag : Nat)
  /-- A segment gap or missing BLOCK_ACK of 100 ms ends the CAN transfer (R310). -/
  | canTransferTimeout (tag : Fin 256)
  /-- A write of 1 to 0x1010:01 starts a commit of PER and SEAL values to flash (R293). -/
  | commitConfiguration (r : Req)
  /-- The new configuration generation is verified and valid, and the commit is answered (R293). -/
  | commitComplete
  /-- A write of 2 to 0x1010:01 reverts every uncommitted change (R294). -/
  | discardChanges (r : Req)
  /-- WINDOW_POST binds a push channel and posts a receive window (R311). -/
  | windowPost (r : Req) (channel : Fin 8) (data : List Byte)
  /-- The module fills the oldest posted window with ready push items (R312). -/
  | pushData (channel : Fin 8)
  /-- A window ends when the flush time has passed with nothing further ready (R312). -/
  | windowFlush (channel : Fin 8)
  /-- An item unacknowledged 10 s after its window is pushed again (R313). -/
  | pushResend (channel : Fin 8)
  /-- Queued items without a window for 60 s log event 0x1211 (R313). -/
  | pushNoWindow (channel : Fin 8)
  /-- A write to 0xC004:01 exports one log as a push item (R319). -/
  | exportLog (r : Req) (data : List Byte)
  /-- A received CAN frame is matched to the first receive object and stored (R327). -/
  | canFrameReceived (bus : Fin 4) (ext fd remote : Bool) (ident : Nat) (data : List Byte)
  /-- A write to a send object's data queues a frame (R329). -/
  | canDataWrite (r : Req) (mo : Fin 512) (data : List Byte)
  /-- A send period elapses and queues a frame (R329). -/
  | canSendPeriod (mo : Fin 512)
  /-- A frame completes and deferred object changes take effect (R330). -/
  | canFrameSent (bus : Fin 4)
  /-- A change to a pending send object's identifier or format is deferred (R330). -/
  | canObjectChange (r : Req) (mo : Fin 512) (field : Fin 4) (data : List Byte)
  /-- A write to 0x1400:0E aborts the object's pending frame (R330). -/
  | canAbort (r : Req) (mo : Fin 512)
  /-- A watched receive object takes no frame within its deadline (R332). -/
  | deadlineMiss (mo : Fin 512)
  /-- A write of 1 to 0x1480:11 enters time-triggered operation at the next bus idle (R333). -/
  | ttEnter (r : Req) (bus : Fin 2)
  /-- A write of 2 to 0x1480:11 leaves at the end of the matrix cycle (R333). -/
  | ttLeave (r : Req) (bus : Fin 2)
  /-- At a window's time mark the scheduled object sends or is expected (R336). -/
  | ttWindowMark (bus : Fin 2)
  /-- A bus error moves the error counters, with warning and passive events (R337). -/
  | canBusError (bus : Fin 4) (transmitting primary : Bool)
  /-- At bus-off every pending frame is aborted (R338). -/
  | busOff (bus : Fin 4)
  /-- After 1 s the firmware requests recovery, or stays off after 8 in an hour (R338). -/
  | busOffRecoveryRequest (bus : Fin 4)
  /-- The controller is error active again and resumes its operation (R338). -/
  | busOffRecovered (bus : Fin 4)
  /-- A write to 0x1480:0B restarts a controller off by fault (R338). -/
  | restartController (r : Req) (bus : Fin 4)
  /-- New bit timing takes effect at the next bus idle (R325). -/
  | bitTimingApply (bus : Fin 4)
  /-- A module that becomes SOLO or ACTIVE leaves bus monitoring at the next bus idle (R320). -/
  | busMonitoringExit (bus : Fin 2)
  /-- A missing crossing continues the estimate in holdover, relocking after 8 (R340). -/
  | crossingMissing
  /-- A round of priority windows lets a node claim the line (R350). -/
  | claimRound (heard : List (Fin 4))
  /-- A STATUS frame from an outstation updates its inputs and outputs (R352). -/
  | status (header body : List Byte)
  /-- An ALARM frame is acknowledged and logged (R352). -/
  | alarm (header body : List Byte)
  /-- An ACK frame ends repetition of the acknowledged frame (R351). -/
  | ack (header body : List Byte)
  /-- A SOUND frame is measured to derive a slot map (R344). -/
  | sound (header : List Byte) (snr : List Int)
  /-- A MAP frame installs a new map generation and is acknowledged (R344). -/
  | map (header body : List Byte)
  /-- A missing response repeats the frame, abandoning it after the limit (R351). -/
  | responseTimeoutRepeat
  /-- Each poll interval a POLL is sent to a declared outstation (R352). -/
  | poll (outstation : Fin 63)
  /-- A write to 0xB840:06 sends a COMMAND to the outstation (R352). -/
  | outstationCommand (r : Req) (outstation : Fin 63) (data : List Byte)
  /-- The re-estimation interval starts channel estimation of a link direction (R345). -/
  | estimationDue (outstation : Fin 63) (fromOs : Bool)
  /-- A host write to 0x7000:02 commands a host-sourced channel (R356). -/
  | loadSwitchCommand (r : Req) (channel : Fin 96) (data : List Byte)
  /-- A current above the hard-short threshold latches the channel within 2 µs (R360). -/
  | hardShort (channel : Fin 96) (current : Nat)
  /-- Inrush current above threshold for 100 µs latches the channel (R360). -/
  | inrushOverCurrent (channel : Fin 96) (current : Nat)
  /-- Steady current above threshold for 100 µs latches the channel (R360). -/
  | steadyOverCurrent (channel : Fin 96) (current : Nat)
  /-- The inrush window ends and the channel enters ON (R359). -/
  | inrushWindowEnd (channel : Fin 96)
  /-- The junction reaches 175 °C and the channel latches or waits to restart (R363). -/
  | thermalShutdown (channel : Fin 96) (junction : Nat)
  /-- The junction falls to 150 °C and a waiting channel restarts (R363). -/
  | junctionCooled (channel : Fin 96) (junction : Int)
  /-- A write to 0x7000:0C clears a latched channel or restarts a shed one (R365). -/
  | clearLatch (r : Req) (channel : Fin 96)
  /-- A group over its rating for 100 ms sheds a channel or holds coil turn-ons (R368). -/
  | groupOverCurrent (group : Fin 8) (current : Nat)
  /-- A group voltage below its level sets a flag and logs an event (R368). -/
  | groupUndervoltage (group : Fin 8) (voltage : Nat)
  /-- A group below 80 % for 1 s restarts its first shed cooling channel (R369). -/
  | shedRestart (group : Fin 8) (current : Nat)
  /-- A held coil turn-on enters INRUSH once no other channel of the group is in INRUSH (R370). -/
  | coilTurnOnRelease (group : Fin 4) (current : Nat)
  /-- A group supply above 36.0 V puts its channels in SUPPLY_OFF (R371). -/
  | groupOverVoltage (group : Fin 8) (voltage : Nat)
  /-- Load ground more than 1.5 V above logic ground turns every channel off (R371). -/
  | lossOfGround (offset : Nat)
  /-- A supply fault ends and each channel follows its command with a new inrush window (R372). -/
  | supplyFaultReturn (ground : Bool) (group : Fin 8) (voltage : Nat)
  /-- Each 1 ms HP samples inputs, evaluates functions, sets outputs and runs a diagnostic step (R374). -/
  | hpCycle (levels : Fin 256) (srst : Bool) (pulses above5 above18 : Fin 256)
  /-- A test source pulses off and its contact inputs are checked (R379). -/
  | testPulse (source : Fin 2) (high : Fin 256)
  /-- A safe output that is on is pulsed off and read back (R384). -/
  | offPulse (output : Fin 8) (below5 above18 : Bool)
  /-- A failed HP diagnostic switches every safe output off and halts HP (R375). -/
  | hpSafeState (diagnostic : Fin 5)
  /-- The HP watchdog expires and resets HP alone (R425). -/
  | hpWatchdog
  /-- A write to 0xA030:05 starts a brake test (R386). -/
  | startBrakeTest (r : Req) (manipulator : Fin 2)
  /-- A write to 0xA030:06 starts the encoder count over the hold time (R386). -/
  | testTorqueApplied (r : Req) (manipulator : Fin 2) (count : Int)
  /-- The hold time ends and the test passes or fails on the encoder count (R386). -/
  | brakeTestHoldEnd (manipulator : Fin 2) (count : Int)
  /-- No torque confirmation within 10 s aborts the brake test (R386). -/
  | torqueConfirmTimeout (manipulator : Fin 2)
  /-- No passed test within 8 h makes a brake test due (R387). -/
  | brakeTestDue (manipulator : Fin 2)
  /-- A SERVICE write to 0xA030:07 clears a failed-test lockout (R386). -/
  | clearBrakeLockout (r : Req) (manipulator : Fin 2)
  /-- A SERVICE write to 0xA022:02 clears a latched output fault (R385). -/
  | clearOutputFault (r : Req) (data : List Byte)
  /-- A SERVICE write of the pending CRC to 0xA040:02 puts the safety configuration in use (R388). -/
  | confirmConfiguration (r : Req) (data : List Byte)
  /-- A write to 0xA050:01 sets the host demand for SO4 to SO7 (R383). -/
  | outputDemand (r : Req) (data : List Byte)
  /-- Role command 1 asserts the ACTIVE line of an ISOLATED module (R392). -/
  | becomeActive (r : Req)
  /-- Two frames later both lines are compared and slot 0 becomes ACTIVE (R392). -/
  | activeLineSample (partnerLine : Bool)
  /-- Role command 2 makes a STANDBY module resign and become ISOLATED (R410). -/
  | isolate (r : Req)
  /-- Role command 3 starts an orderly handover when the standby is fit (R403). -/
  | handOver (r : Req)
  /-- Role command 4 or seen lease frames start the join sequence (R407). -/
  | join (r : Option Req)
  /-- A lease REQUEST is received and answered with GRANT by the standby (R398). -/
  | request (frame : List Byte)
  /-- A lease GRANT counts the frame as granted at the active (R398). -/
  | grant (frame : List Byte)
  /-- At F0 + 5.0 µs a frame without a good GRANT counts as ungranted (R398). -/
  | grantDeadline
  /-- L ungranted frames make the active go unpaired or fence (R398). -/
  | leaseExpiry (live : Bool)
  /-- The standby takes the token after L + 1 frames without REQUEST with ACTIVE deasserted (R399). -/
  | takeover (partnerLine : Bool)
  /-- A lease RELEASE asks the standby to accept an orderly handover (R403). -/
  | release (frame : List Byte)
  /-- A lease ACCEPT lets the active fence at the next frame start (R403). -/
  | accept (frame : List Byte)
  /-- A lease REFUSE cancels the handover (R403). -/
  | refuse (frame : List Byte)
  /-- A lease RESIGN is answered with RESIGN_ACK and the active goes unpaired (R410). -/
  | resign (frame : List Byte)
  /-- A RESIGN_ACK lets the standby become ISOLATED (R410). -/
  | resignAck (frame : List Byte)
  /-- The partner's ACTIVE line changes, gating output enables (R393). -/
  | partnerActiveLineChange (asserted : Bool)
  /-- The standby compares its shadow evaluation with the mirror and adopts the mirrored state (R396). -/
  | mirrorFrame (m : Mirror) (good : Bool)
  /-- A configuration sync item is applied and acknowledged by the standby (R397). -/
  | configurationSync (item : SyncItem)
  /-- No sync acknowledgement within 50 ms marks the standby out of sync (R397). -/
  | syncAckTimeout
  /-- The full configuration sync of a join completes (R407). -/
  | fullSyncComplete (values : List (Nat × Nat × List Byte)) (items : List (List Byte)) (generation : Nat)
  /-- A join step missing its deadline leaves the module ISOLATED (R408). -/
  | joinFailed (cause : Fin 5)
  /-- 60 s after a failed join the sequence is retried (R408). -/
  | joinRetry
  /-- A fenced module not STANDBY within 2 s becomes ISOLATED (R390). -/
  | fencedTimeout
  /-- Each second the Kaolin report is built, scored and exchanged (R405). -/
  | healthReport
  /-- Every 10 ms a heartbeat is sent on CAN1 (R406). -/
  | heartbeat
  /-- VAUX below 16.0 V opens the Quicksand window (R417). -/
  | supplyWarning (vaux : Nat)
  /-- VAUX above 17.0 V for 10 ms closes the window and resumes held outlets (R416). -/
  | windowRecovery (vaux : Nat)
  /-- Every 100 ms in the window the registers are committed again (R417). -/
  | dipCommitPeriod
  /-- An episode passing 500 ms starts stopping sessions (R420). -/
  | dipEpisodeLimit
  /-- Every 250 frames the next outlet stops with end cause 21 (R421). -/
  | stagedSessionStop
  /-- VAUX above 17.0 V for 1 s ends the episode (R420). -/
  | dipEpisodeEnd (vaux : Nat)
  /-- VAUX at or below 12.0 V causes BOR once the warning commit is valid (R416). -/
  | brownOut (vaux cell : Nat)
  /-- An unserviced processor watchdog asserts a WDT reset (R425). -/
  | watchdogReset (processor : Fin 4)
  /-- A write of 1 to 0x2005 requests SWR when no session or block is active (R426). -/
  | softwareResetQuiet (r : Req)
  /-- A write of 2 to 0x2005 requests SWR unconditionally (R426). -/
  | softwareResetAtOnce (r : Req)
  /-- 100 ms after the answer SWR is asserted (R426). -/
  | softwareResetAssert
  /-- Idle conditions held for the idle delay enter IDLE (R429). -/
  | enterIdle
  /-- A write to 0x2103:03 wakes the module from IDLE (R430). -/
  | wake (r : Req)
  /-- A write to 0x2102:05 resets the charge drawn from the cell (R432). -/
  | cellReplaced (r : Req)
  /-- An input below −0.5 V drives its gate off within 2 µs (R414). -/
  | reverseInput (input : Fin 3) (volts : Int)
  /-- An input forward in range for 1 s has its gate driven on (R414). -/
  | gateOn (input : Fin 3) (volts : Nat)
  /-- VAUX above 34.0 V logs event 0x2115 (R414). -/
  | vauxOverVoltage (volts : Nat)
  /-- A 1000BASE-T link comes up or goes down (R482). -/
  | ethernetLinkUp (port : Fin 2) (up gigabit : Bool)
  /-- A lockstep mismatch or private memory error halts the processor and asserts WDT (R436). -/
  | lockstepMismatch (processor : Fin 5)
  /-- A corrected pool error is written back and counted (R437). -/
  | poolSingleBitError (address : Fin 6291456)
  /-- An uncorrectable pool error triggers the owner's reaction (R437). -/
  | poolDoubleBitError (address : Fin 6291456) (slot : Fin 1024) (channels : List (Fin 76)) (push : Option (Fin 8))
  /-- A bank owner hands the bank to a new owner (R439). -/
  | ownerRegisterWrite (bank : Fin 24) (requester newOwner : Fin 9)
  /-- An owner grants or withdraws XD secondary access (R440). -/
  | xdGrant (bank : Fin 24) (requester : Fin 9) (grant : Fin 3)
  /-- At F0 + 12.0 µs Silt saves, March-tests and restores one region (R443). -/
  | siltRegionTest (singles doubles : List (Fin 64)) (failed : Bool)
  /-- A test not done by S + 10.0 µs is abandoned and restored (R445). -/
  | siltTestAbandon (singles doubles : List (Fin 64))
  /-- The journal controller starts a commit of pending items (R449). -/
  | journalCommit
  /-- The commit's CRC is written and its values become visible (R448). -/
  | commitValid
  /-- Non-urgent items held 2000 frames start a commit (R449). -/
  | batchHoldEnd
  /-- A failed page program takes its sector out of use (R457). -/
  | programVerifyFailed (sector : Fin 1024)
  /-- A backup cell reading 2.8 V or more while VAUX is absent moves the power state from OFF to BACKUP (R428). -/
  | cellInserted (volts : Nat)
  /-- Once per RTC minute in BACKUP the cell is judged, and below 2.5 V or removed the module goes from BACKUP to
  OFF (R432). -/
  | rtcMinuteCellCheck (volts : Nat) (fitted : Bool)
  /-- An internal rail outside plus or minus 10 percent of nominal makes its hardware supervisor hold the module in
  POR (R415). -/
  | internalRailFault (rail : Fin 27)
  /-- A full resync of an out-of-sync standby not complete within 25 s makes the module ISOLATED (R390). -/
  | resyncTimeout
  /-- A vehicle protocol request with no step of its own, such as charge parameter discovery, welding detection or
  SessionStop, is answered within 250 ms (R168). -/
  | vehicleRequest (outlet : Fin 24) (kind mv mi tv soc : Nat)
deriving DecidableEq, Repr

end Sys2Proof
end

