-- ==== Sys2Proof/Decode.lean ====
section
/-!
DEFINITION. Decoding: the opcode table gives no row any bits, for the block takes commands and has no instruction words.
-/

namespace Sys2Proof

/-- The command that a word spells by the bits of the opcode table: none, since no row has bits. -/
def decodeTableWord (_nbits _w : Nat) : Option Instr := none

end Sys2Proof
end

