-- ==== Sys2Proof/Config.lean ====
section
/-!
DEFINITION. What an implementation fixes and the spec leaves open: the cryptographic primitives the spec cites by their
standards, the real functions, and the free values. None of them has a body: nothing can be proved of their values.
-/

namespace Sys2Proof.Config

/-- SHA-256 (FIPS 180-4). -/
opaque sha256 (m : List Byte) : List Byte

/-- SHA-384 (FIPS 180-4). -/
opaque sha384 (m : List Byte) : List Byte

/-- HMAC-SHA-256 (FIPS 198-1): key, message. -/
opaque hmac256 (k m : List Byte) : List Byte

/-- The ciphertext of AES-GCM (SP 800-38D): key, nonce, additional data, plaintext. -/
opaque gcmCipher (k n a p : List Byte) : List Byte

/-- The 16-byte tag of AES-GCM: key, nonce, additional data, plaintext. -/
opaque gcmTag (k n a p : List Byte) : List Byte

/-- ECDSA signing on a curve (256, 384): private key, nonce material, digest. -/
opaque ecdsaSign (curve : Nat) (d nonce h : List Byte) : List Byte

/-- ECDSA verification on a curve: public key, digest, signature. -/
opaque ecdsaVerify (curve : Nat) (q h sig : List Byte) : Bool

/-- The public key of a private key on a curve (256, 384, 521; 448 for Ed448). -/
opaque publicKey (curve : Nat) (d : List Byte) : List Byte

/-- The shared secret of ECDH on a curve: own private key, peer's public key. -/
opaque ecdh (curve : Nat) (d q : List Byte) : List Byte

/-- The order n of a curve. -/
opaque curveOrder (curve : Nat) : Nat

/-- The random source: the bytes of draw number `n`. -/
opaque random (n : Nat) : List Byte

/-- The public keys of Traryn whose hashes are fused: 0 firmware key, 1 metrology key. -/
opaque trarynKey (k : Nat) : List Byte

/-- The fused device key that the blob key is derived from. -/
opaque fusedDeviceKey : List Byte

/-- The device identity key, ECDSA P-384 private key. -/
opaque deviceIdentityKey : List Byte

/-- A value that the spec leaves open: draw `n` of the open point `p`. -/
opaque free (p n : Nat) : Int

/-- A byte value that the spec leaves open. -/
opaque freeBytes (p n : Nat) : List Byte

/-- sin(2 pi x), with which an injected sine or chirp is formed (Table 5.4). -/
opaque sinTurns (x : Rat) : Rat

/-- The coefficient of the first-order high-pass at 0.5 Hz of the AC channels, whose discrete form R216 does not give. -/
opaque highPass : Rat

/-- Numbers of the header of a firmware image, whose layout R285 does not give: 0 version, 1 security version. -/
opaque imageNumber (k : Nat) (slot : List Byte) : Nat

/-- Parts of a firmware image: 0 header that is signed, 1 SHA-384 in it, 2 signature, 3 body. -/
opaque imagePart (k : Nat) (slot : List Byte) : List Byte

/-- The PKCS #10 request of an SECC key: its kind (1 P-256, 2 P-521, 3 Ed448), private key, draw of the random source. -/
opaque pkcs10 (kind : Nat) (d nonce : List Byte) : List Byte

/-- The exponential function. -/
opaque exp (x : Rat) : Rat

/-- The natural logarithm. -/
opaque ln (x : Rat) : Rat

/-- The square root of a non-negative number. -/
opaque sqrt (x : Rat) : Rat

/-- The nominal voltage of an internal rail [mV], monitor `k` of Table 18.2, which the spec does not give. -/
opaque railNominal (k : Nat) : Nat

/-- The seven check bits of a pool word under the SECDED code, which the spec does not give. -/
opaque secdedBits (w : Nat) : Nat

end Sys2Proof.Config
end

