-- ==== Sys2Proof/Machine/Objects.lean ====
section
/-!
DEFINITION. The objects of the dictionary: one constant per row of the spec's object tables, with its address,
encoding, access right and roles, retention class, default and range. Roles are masks: bit r stands for role code r of
Table 11.6 and bit 0 for a requester without a role.
-/

namespace Sys2Proof.Machine

/-- The value types of Table 12.1 (a record is no cell of its own). -/
inductive Ty where
  | bool
  | u (bytes : Nat)
  | i (bytes : Nat)
  | f32
  | bf
  | str
  | octet
deriving DecidableEq, Repr

/-- The access rights of Table 0.1 (`sealWo`: a SEAL object that cannot be read). -/
inductive Right where
  | ro | rw | wo | rws | seal | sealWo
deriving DecidableEq, Repr

/-- The retention classes of Table 0.2. -/
inductive Cls where
  | vol | ret | per | seal | bat
deriving DecidableEq, Repr

/-- The range column of an object table. -/
inductive Rng where
  /-- Every value of the type. -/
  | any
  /-- From `lo` to `hi`. -/
  | rng (lo hi : Int)
  /-- One of the values listed. -/
  | oneOf (l : List Int)
  /-- From `lo` to `hi`, or the one value `v` (for example 0xFF none). -/
  | orOne (lo hi v : Int)
  /-- A bit field whose bits outside the mask are reserved (R292). -/
  | mask (m : Nat)
  /-- A binary32 value between two rationals. -/
  | f32 (lo hi : Rat)
  /-- A binary32 scale: magnitude from 1.0 to 1.0E6. -/
  | scale
  /-- A length in bytes. -/
  | len (lo hi : Nat)
deriving DecidableEq, Repr

/-- Temperature channel default by the channel's place (Table 8.4): pins, cable body, coolant supply, coolant return,
the module's own channels TC120 to TC131, and a spare (role unused, taken as monitor). -/
def tcLevel (c : Nat) (pin body supply ret own spare : Int) : Int :=
  if c < 120 then
    (if c % 5 = 0 ∨ c % 5 = 1 then pin else if c % 5 = 2 then body else if c % 5 = 3 then supply else ret)
  else if c < 132 then own else spare

/-- Class of a load switch channel (Table 15.1): 0 coil, 1 drive, 2 light. -/
def lsClassOf (c : Nat) : Int := if c < 48 then 0 else if c < 64 then 1 else 2

/-- A value by load switch class. -/
def byClass (c : Nat) (coil drive light : Int) : Int :=
  if c < 48 then coil else if c < 64 then drive else light

/-- Owner code of a bank at start (Table 19.3). -/
def bankOwnerAtStart (b : Nat) : Int :=
  if b < 8 then 6 else if b < 10 then 7 else if b < 12 then 3 else if b < 16 then 1 else if b < 20 then 2
  else if b = 20 then 5 else if b = 21 then 4 else 8

/-- The bytes of an ASCII string. -/
def asciiBytes (t : String) : List Byte := t.toList.map fun c => BitVec.ofNat 8 c.toNat

/-- One row of an object table. Instance `i` stands at index `base + stride * (i - first)`, and element `j` of the row at
subindex `sub + subStep * j`; message objects (`mo`) stand at 0x1400 + 0x100 * controller + number. -/
structure Obj where
  base : Nat
  sub : Nat
  nsub : Nat := 1
  subStep : Nat := 1
  stride : Nat := 0
  count : Nat := 1
  first : Nat := 0
  mo : Bool := false
  ty : Ty
  right : Right
  rd : Nat
  wr : Nat
  cls : Cls
  /-- The module commits the object itself, so it is never uncommitted (R295). -/
  own : Bool := false
  dflt : Nat → Nat → Int := fun _ _ => 0
  obytes : List Byte := []
  rng : Rng := .any

/-- The address of instance 0, element 0, as one number: names the row. -/
def Obj.id (o : Obj) : Nat := o.base * 256 + o.sub

/-- The dictionary index of instance `i`. -/
def Obj.index (o : Obj) (i : Nat) : Nat :=
  if o.mo then 0x1400 + 0x100 * (i / 128) + i % 128 else o.base + o.stride * i

/-- A register of the module that the dictionary does not show: number `n`, above every dictionary address. -/
def Obj.hidden (n : Nat) (d : Nat → Int := fun _ => 0) (c : Cls := .vol) : Obj :=
  { base := 0x10000 + n, sub := 0, ty := .i 16, right := .ro, rd := 0, wr := 0, cls := c, own := true,
    dflt := fun i _ => d i }


/-- 0x2000:01: Power state (01_architecture, Table 1.11). -/
def Obj.powerState : Obj :=
  { base := 0x2000, sub := 0x01, ty := .u 1, right := .ro, rd := 0x3F, wr := 0x00, cls := .vol, dflt := fun _ _ => 3, rng := .oneOf [2, 3] }

/-- 0x2000:02: Start-up stage (01_architecture, Table 1.11). -/
def Obj.startUpStage : Obj :=
  { base := 0x2000, sub := 0x02, ty := .u 1, right := .ro, rd := 0x3F, wr := 0x00, cls := .vol, rng := .rng 0 7 }

/-- 0x2003:01: Topology result (01_architecture, Table 1.11). -/
def Obj.topologyResult : Obj :=
  { base := 0x2003, sub := 0x01, ty := .u 1, right := .ro, rd := 0x3F, wr := 0x00, cls := .vol, rng := .oneOf [0, 1, 2, 3, 4] }

/-- 0x2003:02: Refused cabinets (01_architecture, Table 1.11). -/
def Obj.refusedCabinets : Obj :=
  { base := 0x2003, sub := 0x02, ty := .u 2, right := .ro, rd := 0x3F, wr := 0x00, cls := .vol }

/-- 0x2003:03: Refused blocks (01_architecture, Table 1.11). -/
def Obj.refusedBlocks : Obj :=
  { base := 0x2003, sub := 0x03, ty := .u 8, right := .ro, rd := 0x3F, wr := 0x00, cls := .vol }

/-- 0x2003:04: Refused outlets (01_architecture, Table 1.11). -/
def Obj.refusedOutlets : Obj :=
  { base := 0x2003, sub := 0x04, ty := .u 4, right := .ro, rd := 0x3F, wr := 0x00, cls := .vol }

/-- 0x2003:05: Refused feeders (01_architecture, Table 1.11). -/
def Obj.refusedFeeders : Obj :=
  { base := 0x2003, sub := 0x05, ty := .u 1, right := .ro, rd := 0x3F, wr := 0x00, cls := .vol }

/-- 0x2003:06: Absent outstations (01_architecture, Table 1.11). -/
def Obj.absentOutstations : Obj :=
  { base := 0x2003, sub := 0x06, ty := .u 8, right := .ro, rd := 0x3F, wr := 0x00, cls := .vol }

/-- 0x2003:07: Refused phase count (01_architecture, Table 1.11). -/
def Obj.refusedPhases : Obj :=
  { base := 0x2003, sub := 0x07, ty := .u 2, right := .ro, rd := 0x3F, wr := 0x00, cls := .vol, rng := .rng 0 256 }

/-- 0x2003:08: Time of last check (01_architecture, Table 1.11). -/
def Obj.lastCheckTime : Obj :=
  { base := 0x2003, sub := 0x08, ty := .i 8, right := .ro, rd := 0x3F, wr := 0x00, cls := .vol }

/-- 0x2004:00: Run topology check (01_architecture, Table 1.11). -/
def Obj.runTopologyCheck : Obj :=
  { base := 0x2004, sub := 0x00, ty := .u 1, right := .wo, rd := 0x00, wr := 0x0C, cls := .vol, rng := .oneOf [1] }

/-- 0x2200:00: Frame counter (02_frame, Table 2.8). -/
def Obj.frameCounter : Obj :=
  { base := 0x2200, sub := 0x00, ty := .u 8, right := .ro, rd := 0x3F, wr := 0x00, cls := .vol }

/-- 0x2201:01: Requested Dune depth (02_frame, Table 2.8). -/
def Obj.requestedDuneDepth : Obj :=
  { base := 0x2201, sub := 0x01, ty := .u 1, right := .rw, rd := 0x0C, wr := 0x0C, cls := .per, rng := .rng 0 3 }

/-- 0x2201:02: Applied Dune depth (02_frame, Table 2.8). -/
def Obj.appliedDuneDepth : Obj :=
  { base := 0x2201, sub := 0x02, ty := .u 1, right := .ro, rd := 0x3F, wr := 0x00, cls := .vol, rng := .rng 0 3 }

/-- 0x2202:00: Sampling lead (02_frame, Table 2.8). -/
def Obj.samplingLead : Obj :=
  { base := 0x2202, sub := 0x00, ty := .u 2, right := .rw, rd := 0x0C, wr := 0x0C, cls := .per, dflt := fun _ _ => 2000, rng := .rng 200 3600 }

/-- 0x2204:01: Late telemetry count (02_frame, Table 2.8). -/
def Obj.lateTelemetry : Obj :=
  { base := 0x2204, sub := 0x01, ty := .u 4, right := .ro, rd := 0x3F, wr := 0x00, cls := .vol }

/-- 0x2204:02: Fast-class overrun count (02_frame, Table 2.8). -/
def Obj.fastOverruns : Obj :=
  { base := 0x2204, sub := 0x02, ty := .u 4, right := .ro, rd := 0x3F, wr := 0x00, cls := .vol }

/-- 0x2204:03: Dispatch miss count (02_frame, Table 2.8). -/
def Obj.dispatchMisses : Obj :=
  { base := 0x2204, sub := 0x03, ty := .u 4, right := .ro, rd := 0x3F, wr := 0x00, cls := .vol }

/-- 0x2204:04: Allocator fast pass overrun count (02_frame, Table 2.8). -/
def Obj.fastPassOverruns : Obj :=
  { base := 0x2204, sub := 0x04, ty := .u 4, right := .ro, rd := 0x3F, wr := 0x00, cls := .vol }

/-- 0x2204:05: Slow-class overrun count (02_frame, Table 2.8). -/
def Obj.slowOverruns : Obj :=
  { base := 0x2204, sub := 0x05, ty := .u 4, right := .ro, rd := 0x3F, wr := 0x00, cls := .vol }

/-- 0x2205:00: Stale limit (02_frame, Table 2.8). -/
def Obj.staleLimit : Obj :=
  { base := 0x2205, sub := 0x00, ty := .u 1, right := .rw, rd := 0x0C, wr := 0x0C, cls := .per, dflt := fun _ _ => 3, rng := .rng 1 6 }

/-- 0x2210:00: Module time (UTC) (02_frame, Table 2.8). -/
def Obj.moduleTime : Obj :=
  { base := 0x2210, sub := 0x00, ty := .i 8, right := .rw, rd := 0x3F, wr := 0x20, cls := .bat }

/-- 0x2211:00: Time quality (02_frame, Table 2.8). -/
def Obj.timeQuality : Obj :=
  { base := 0x2211, sub := 0x00, ty := .u 1, right := .ro, rd := 0x3F, wr := 0x00, cls := .vol, rng := .rng 0 3 }

/-- 0x2212:01: PTP enable (02_frame, Table 2.8). -/
def Obj.ptpEnable : Obj :=
  { base := 0x2212, sub := 0x01, ty := .bool, right := .rw, rd := 0x04, wr := 0x04, cls := .per, dflt := fun _ _ => 1, rng := .rng 0 1 }

/-- 0x2212:02: PTP domain (02_frame, Table 2.8). -/
def Obj.ptpDomain : Obj :=
  { base := 0x2212, sub := 0x02, ty := .u 1, right := .rw, rd := 0x04, wr := 0x04, cls := .per, rng := .rng 0 127 }

/-- 0x2213:01: Rate trim (02_frame, Table 2.8). -/
def Obj.rateTrim : Obj :=
  { base := 0x2213, sub := 0x01, ty := .i 4, right := .ro, rd := 0x3F, wr := 0x00, cls := .vol, rng := .rng (-1200000) 1200000 }

/-- 0x2213:02: Last PTP offset (02_frame, Table 2.8). -/
def Obj.lastPTPOffset : Obj :=
  { base := 0x2213, sub := 0x02, ty := .i 8, right := .ro, rd := 0x3F, wr := 0x00, cls := .vol }

/-- 0x2213:03: Master identity (02_frame, Table 2.8). -/
def Obj.masterIdentity : Obj :=
  { base := 0x2213, sub := 0x03, ty := .octet, right := .ro, rd := 0x3F, wr := 0x00, cls := .vol, rng := .len 8 8 }

/-- 0x2213:04: Time in holdover (02_frame, Table 2.8). -/
def Obj.timeInHoldover : Obj :=
  { base := 0x2213, sub := 0x04, ty := .u 4, right := .ro, rd := 0x3F, wr := 0x00, cls := .vol }

/-- 0x2214:00: Crystal deviation against RTC (02_frame, Table 2.8). -/
def Obj.crystalDeviationAgainstRTC : Obj :=
  { base := 0x2214, sub := 0x00, ty := .i 4, right := .ro, rd := 0x3F, wr := 0x00, cls := .vol }

/-- 0x3000:01: Link declared (03_cabinet_links, Table 3.17). -/
def Obj.linkDeclared : Obj :=
  { base := 0x3000, sub := 0x01, stride := 0x20, count := 16, ty := .bool, right := .rw, rd := 0x0C, wr := 0x0C, cls := .per, rng := .rng 0 1 }

/-- 0x3000:02: Declared phase count (03_cabinet_links, Table 3.17). -/
def Obj.declaredPhaseCount : Obj :=
  { base := 0x3000, sub := 0x02, stride := 0x20, count := 16, ty := .u 1, right := .rw, rd := 0x0C, wr := 0x0C, cls := .per, rng := .rng 0 16 }

/-- 0x3000:03: Declared block count (03_cabinet_links, Table 3.17). -/
def Obj.declaredBlockCount : Obj :=
  { base := 0x3000, sub := 0x03, stride := 0x20, count := 16, ty := .u 1, right := .rw, rd := 0x0C, wr := 0x0C, cls := .per, rng := .rng 0 4 }

/-- 0x3000:04: Declared matrix contactor count (03_cabinet_links, Table 3.17). -/
def Obj.declaredContactorCount : Obj :=
  { base := 0x3000, sub := 0x04, stride := 0x20, count := 16, ty := .u 1, right := .rw, rd := 0x0C, wr := 0x0C, cls := .per, rng := .rng 0 16 }

/-- 0x3000:05: Declared interface version (03_cabinet_links, Table 3.17). -/
def Obj.declaredVersion : Obj :=
  { base := 0x3000, sub := 0x05, stride := 0x20, count := 16, ty := .u 2, right := .rw, rd := 0x0C, wr := 0x0C, cls := .per, dflt := fun _ _ => 256, rng := .oneOf [0x0100] }

/-- 0x3000:06: Declared high-side supply map (03_cabinet_links, Table 3.17). -/
def Obj.declaredSupplyMap : Obj :=
  { base := 0x3000, sub := 0x06, stride := 0x20, count := 16, ty := .u 2, right := .rw, rd := 0x0C, wr := 0x0C, cls := .per }

/-- 0x3000:07: Declared terminal serial (03_cabinet_links, Table 3.17). -/
def Obj.declaredSerial : Obj :=
  { base := 0x3000, sub := 0x07, stride := 0x20, count := 16, ty := .octet, right := .rw, rd := 0x0C, wr := 0x0C, cls := .per, obytes := List.replicate 8 0, rng := .len 8 8 }

/-- 0x3001:01: Data transmit swing (03_cabinet_links, Table 3.17). -/
def Obj.dataTransmitSwing : Obj :=
  { base := 0x3001, sub := 0x01, stride := 0x20, count := 16, ty := .u 2, right := .rw, rd := 0x0C, wr := 0x0C, cls := .per, dflt := fun _ _ => 800, rng := .rng 400 1000 }

/-- 0x3001:02: Data transmit de-emphasis (03_cabinet_links, Table 3.17). -/
def Obj.dataTransmitDeEmphasis : Obj :=
  { base := 0x3001, sub := 0x02, stride := 0x20, count := 16, ty := .u 1, right := .rw, rd := 0x0C, wr := 0x0C, cls := .per, rng := .rng 0 2 }

/-- 0x3001:03: Bring-up retry interval (03_cabinet_links, Table 3.17). -/
def Obj.bringUpRetryInterval : Obj :=
  { base := 0x3001, sub := 0x03, stride := 0x20, count := 16, ty := .u 2, right := .rw, rd := 0x0C, wr := 0x0C, cls := .per, dflt := fun _ _ => 10, rng := .rng 1 600 }

/-- 0x3002:01: Link state (03_cabinet_links, Table 3.17). -/
def Obj.linkState : Obj :=
  { base := 0x3002, sub := 0x01, stride := 0x20, count := 16, ty := .u 1, right := .ro, rd := 0x3F, wr := 0x00, cls := .vol, rng := .rng 0 10 }

/-- 0x3002:02: Lanes in service (03_cabinet_links, Table 3.17). -/
def Obj.lanesInService : Obj :=
  { base := 0x3002, sub := 0x02, stride := 0x20, count := 16, ty := .u 1, right := .ro, rd := 0x3F, wr := 0x00, cls := .vol }

/-- 0x3002:03 to 0x3002:06: EF of U0, U1, D0, D1 (03_cabinet_links, Table 3.17). -/
def Obj.eyeFigure : Obj :=
  { base := 0x3002, sub := 0x03, nsub := 4, stride := 0x20, count := 16, ty := .u 1, right := .ro, rd := 0x3F, wr := 0x00, cls := .vol, rng := .rng 0 255 }

/-- 0x3002:07: One-way delay D (03_cabinet_links, Table 3.17). -/
def Obj.oneWayDelayD : Obj :=
  { base := 0x3002, sub := 0x07, stride := 0x20, count := 16, ty := .u 2, right := .ro, rd := 0x3F, wr := 0x00, cls := .vol, rng := .rng 0 9600 }

/-- 0x3002:08: Last refusal cause (03_cabinet_links, Table 3.17). -/
def Obj.lastRefusalCause : Obj :=
  { base := 0x3002, sub := 0x08, stride := 0x20, count := 16, ty := .u 1, right := .ro, rd := 0x3F, wr := 0x00, cls := .vol, rng := .rng 0 5 }

/-- 0x3003:01 to 0x3003:04: CRC failures on U0, U1, D0, D1 (03_cabinet_links, Table 3.17). -/
def Obj.laneCrcFailures : Obj :=
  { base := 0x3003, sub := 0x01, nsub := 4, stride := 0x20, count := 16, ty := .u 4, right := .ro, rd := 0x3F, wr := 0x00, cls := .vol }

/-- 0x3003:05: Late or missing telemetry (03_cabinet_links, Table 3.17). -/
def Obj.lateOrMissingTelemetry : Obj :=
  { base := 0x3003, sub := 0x05, stride := 0x20, count := 16, ty := .u 4, right := .ro, rd := 0x3F, wr := 0x00, cls := .vol }

/-- 0x3003:06: Commands dropped by terminal (03_cabinet_links, Table 3.17). -/
def Obj.commandsDroppedByTerminal : Obj :=
  { base := 0x3003, sub := 0x06, stride := 0x20, count := 16, ty := .u 4, right := .ro, rd := 0x3F, wr := 0x00, cls := .vol }

/-- 0x3003:07: Link-lost count (03_cabinet_links, Table 3.17). -/
def Obj.linkLostCount : Obj :=
  { base := 0x3003, sub := 0x07, stride := 0x20, count := 16, ty := .u 4, right := .ro, rd := 0x3F, wr := 0x00, cls := .vol }

/-- 0x3003:08: Service resends (03_cabinet_links, Table 3.17). -/
def Obj.serviceResends : Obj :=
  { base := 0x3003, sub := 0x08, stride := 0x20, count := 16, ty := .u 4, right := .ro, rd := 0x3F, wr := 0x00, cls := .vol }

/-- 0x3004:01 to 0x3004:09: Terminal identity: version, phases, blocks, contactors, supply map, ready time, maker, serial, firmware (03_cabinet_links, Table 3.17). -/
def Obj.idVersion : Obj :=
  { base := 0x3004, sub := 0x01, stride := 0x20, count := 16, ty := .u 2, right := .ro, rd := 0x3F, wr := 0x00, cls := .vol }

/-- 0x3004:01 to 0x3004:09: Terminal identity: version, phases, blocks, contactors, supply map, ready time, maker, serial, firmware (03_cabinet_links, Table 3.17). -/
def Obj.idPhases : Obj :=
  { base := 0x3004, sub := 0x02, stride := 0x20, count := 16, ty := .u 1, right := .ro, rd := 0x3F, wr := 0x00, cls := .vol }

/-- 0x3004:01 to 0x3004:09: Terminal identity: version, phases, blocks, contactors, supply map, ready time, maker, serial, firmware (03_cabinet_links, Table 3.17). -/
def Obj.idBlocks : Obj :=
  { base := 0x3004, sub := 0x03, stride := 0x20, count := 16, ty := .u 1, right := .ro, rd := 0x3F, wr := 0x00, cls := .vol }

/-- 0x3004:01 to 0x3004:09: Terminal identity: version, phases, blocks, contactors, supply map, ready time, maker, serial, firmware (03_cabinet_links, Table 3.17). -/
def Obj.idContactors : Obj :=
  { base := 0x3004, sub := 0x04, stride := 0x20, count := 16, ty := .u 1, right := .ro, rd := 0x3F, wr := 0x00, cls := .vol }

/-- 0x3004:01 to 0x3004:09: Terminal identity: version, phases, blocks, contactors, supply map, ready time, maker, serial, firmware (03_cabinet_links, Table 3.17). -/
def Obj.idSupplyMap : Obj :=
  { base := 0x3004, sub := 0x05, stride := 0x20, count := 16, ty := .u 2, right := .ro, rd := 0x3F, wr := 0x00, cls := .vol }

/-- 0x3004:01 to 0x3004:09: Terminal identity: version, phases, blocks, contactors, supply map, ready time, maker, serial, firmware (03_cabinet_links, Table 3.17). -/
def Obj.idReadyTime : Obj :=
  { base := 0x3004, sub := 0x06, stride := 0x20, count := 16, ty := .u 2, right := .ro, rd := 0x3F, wr := 0x00, cls := .vol }

/-- 0x3004:01 to 0x3004:09: Terminal identity: version, phases, blocks, contactors, supply map, ready time, maker, serial, firmware (03_cabinet_links, Table 3.17). -/
def Obj.idMaker : Obj :=
  { base := 0x3004, sub := 0x07, stride := 0x20, count := 16, ty := .str, right := .ro, rd := 0x3F, wr := 0x00, cls := .vol }

/-- 0x3004:01 to 0x3004:09: Terminal identity: version, phases, blocks, contactors, supply map, ready time, maker, serial, firmware (03_cabinet_links, Table 3.17). -/
def Obj.idSerial : Obj :=
  { base := 0x3004, sub := 0x08, stride := 0x20, count := 16, ty := .octet, right := .ro, rd := 0x3F, wr := 0x00, cls := .vol, rng := .len 8 8 }

/-- 0x3004:01 to 0x3004:09: Terminal identity: version, phases, blocks, contactors, supply map, ready time, maker, serial, firmware (03_cabinet_links, Table 3.17). -/
def Obj.idFirmware : Obj :=
  { base := 0x3004, sub := 0x09, stride := 0x20, count := 16, ty := .u 4, right := .ro, rd := 0x3F, wr := 0x00, cls := .vol }

/-- 0x3005:01: Terminal configuration image (03_cabinet_links, Table 3.17). -/
def Obj.terminalConfigurationImage : Obj :=
  { base := 0x3005, sub := 0x01, stride := 0x20, count := 16, ty := .octet, right := .rw, rd := 0x0C, wr := 0x0C, cls := .per, rng := .len 0 4096 }

/-- 0x3005:02: Applied image CRC (03_cabinet_links, Table 3.17). -/
def Obj.appliedImageCRC : Obj :=
  { base := 0x3005, sub := 0x02, stride := 0x20, count := 16, ty := .u 4, right := .ro, rd := 0x3F, wr := 0x00, cls := .vol }

/-- 0x3006:00: Restart bring-up (03_cabinet_links, Table 3.17). -/
def Obj.restartBringUp : Obj :=
  { base := 0x3006, sub := 0x00, stride := 0x20, count := 16, ty := .u 1, right := .wo, rd := 0x00, wr := 0x0C, cls := .vol, rng := .oneOf [1] }

/-- 0x3007:01: Firmware write offset (03_cabinet_links, Table 3.17). -/
def Obj.firmwareWriteOffset : Obj :=
  { base := 0x3007, sub := 0x01, stride := 0x20, count := 16, ty := .u 4, right := .rw, rd := 0x08, wr := 0x08, cls := .vol }

/-- 0x3007:02: Firmware data (03_cabinet_links, Table 3.17). -/
def Obj.firmwareData : Obj :=
  { base := 0x3007, sub := 0x02, stride := 0x20, count := 16, ty := .octet, right := .wo, rd := 0x00, wr := 0x08, cls := .vol, rng := .len 1 65536 }

/-- 0x3007:03: Activate terminal firmware (03_cabinet_links, Table 3.17). -/
def Obj.activateTerminalFirmware : Obj :=
  { base := 0x3007, sub := 0x03, stride := 0x20, count := 16, ty := .u 1, right := .wo, rd := 0x00, wr := 0x08, cls := .vol, rng := .oneOf [1] }

/-- 0x3200:10: Carrier multiple (04_phase_control, Table 4.7). -/
def Obj.carrierMultiple : Obj :=
  { base := 0x3200, sub := 0x10, stride := 0x1, count := 64, ty := .u 1, right := .rw, rd := 0x0C, wr := 0x0C, cls := .per, dflt := fun _ _ => 2, rng := .oneOf [1, 2, 4] }

/-- 0x3200:11: Alignment (04_phase_control, Table 4.7). -/
def Obj.alignment : Obj :=
  { base := 0x3200, sub := 0x11, stride := 0x1, count := 64, ty := .u 1, right := .rw, rd := 0x0C, wr := 0x0C, cls := .per, dflt := fun _ _ => 2, rng := .oneOf [0, 1, 2] }

/-- 0x3200:12: Minimum on-time (04_phase_control, Table 4.7). -/
def Obj.minimumOnTime : Obj :=
  { base := 0x3200, sub := 0x12, stride := 0x1, count := 64, ty := .u 2, right := .rw, rd := 0x0C, wr := 0x0C, cls := .per, dflt := fun _ _ => 40, rng := .rng 0 2000 }

/-- 0x3200:13: Minimum off-time (04_phase_control, Table 4.7). -/
def Obj.minimumOffTime : Obj :=
  { base := 0x3200, sub := 0x13, stride := 0x1, count := 64, ty := .u 2, right := .rw, rd := 0x0C, wr := 0x0C, cls := .per, dflt := fun _ _ => 40, rng := .rng 0 2000 }

/-- 0x3200:14: Duty ceiling (04_phase_control, Table 4.7). -/
def Obj.dutyCeiling : Obj :=
  { base := 0x3200, sub := 0x14, stride := 0x1, count := 64, ty := .u 2, right := .rw, rd := 0x0C, wr := 0x0C, cls := .per, dflt := fun _ _ => 65535, rng := .rng 0 65535 }

/-- 0x3200:15: Start delay (04_phase_control, Table 4.7). -/
def Obj.startDelay : Obj :=
  { base := 0x3200, sub := 0x15, stride := 0x1, count := 64, ty := .u 2, right := .rw, rd := 0x0C, wr := 0x0C, cls := .per, dflt := fun _ _ => 50, rng := .rng 0 65535 }

/-- 0x3200:16: Start ramp (04_phase_control, Table 4.7). -/
def Obj.startRamp : Obj :=
  { base := 0x3200, sub := 0x16, stride := 0x1, count := 64, ty := .u 2, right := .rw, rd := 0x0C, wr := 0x0C, cls := .per, dflt := fun _ _ => 1000, rng := .rng 0 65535 }

/-- 0x3200:17: Stop ramp (04_phase_control, Table 4.7). -/
def Obj.stopRamp : Obj :=
  { base := 0x3200, sub := 0x17, stride := 0x1, count := 64, ty := .u 2, right := .rw, rd := 0x0C, wr := 0x0C, cls := .per, dflt := fun _ _ => 1000, rng := .rng 0 65535 }

/-- 0x3200:18: Stop delay (04_phase_control, Table 4.7). -/
def Obj.stopDelay : Obj :=
  { base := 0x3200, sub := 0x18, stride := 0x1, count := 64, ty := .u 2, right := .rw, rd := 0x0C, wr := 0x0C, cls := .per, dflt := fun _ _ => 50, rng := .rng 0 65535 }

/-- 0x3200:19: Block current rating (04_phase_control, Table 4.7). -/
def Obj.blockCurrentRating : Obj :=
  { base := 0x3200, sub := 0x19, stride := 0x1, count := 64, ty := .u 2, right := .rw, rd := 0x0C, wr := 0x0C, cls := .per, rng := .rng 0 20000 }

/-- 0x3200:1A: Shedding enable (04_phase_control, Table 4.7). -/
def Obj.sheddingEnable : Obj :=
  { base := 0x3200, sub := 0x1A, stride := 0x1, count := 64, ty := .bool, right := .rw, rd := 0x0C, wr := 0x0C, cls := .per, dflt := fun _ _ => 1, rng := .rng 0 1 }

/-- 0x3200:1B: Step threshold (04_phase_control, Table 4.7). -/
def Obj.stepThreshold : Obj :=
  { base := 0x3200, sub := 0x1B, stride := 0x1, count := 64, ty := .u 2, right := .rw, rd := 0x0C, wr := 0x0C, cls := .per, dflt := fun _ _ => 100, rng := .rng 1 20000 }

/-- 0x3200:1C: Block state (04_phase_control, Table 4.7). -/
def Obj.blockState : Obj :=
  { base := 0x3200, sub := 0x1C, stride := 0x1, count := 64, ty := .u 2, right := .ro, rd := 0x3F, wr := 0x00, cls := .vol }

/-- 0x3200:1D: Usable phases (04_phase_control, Table 4.7). -/
def Obj.usablePhases : Obj :=
  { base := 0x3200, sub := 0x1D, stride := 0x1, count := 64, ty := .u 1, right := .ro, rd := 0x3F, wr := 0x00, cls := .vol, rng := .rng 0 4 }

/-- 0x3200:1E: Switching phases (04_phase_control, Table 4.7). -/
def Obj.switchingPhases : Obj :=
  { base := 0x3200, sub := 0x1E, stride := 0x1, count := 64, ty := .u 1, right := .ro, rd := 0x3F, wr := 0x00, cls := .vol, rng := .rng 0 4 }

/-- 0x3200:1F: Effective rating (04_phase_control, Table 4.7). -/
def Obj.effectiveRating : Obj :=
  { base := 0x3200, sub := 0x1F, stride := 0x1, count := 64, ty := .u 2, right := .ro, rd := 0x3F, wr := 0x00, cls := .vol, rng := .rng 0 20000 }

/-- 0x3200:20: Last start refusal cause (04_phase_control, Table 4.7). -/
def Obj.lastStartRefusalCause : Obj :=
  { base := 0x3200, sub := 0x20, stride := 0x1, count := 64, ty := .u 1, right := .ro, rd := 0x3F, wr := 0x00, cls := .vol, rng := .oneOf [0, 1, 2, 3, 4, 5, 6, 7, 8, 9] }

/-- 0x3200:21: Start count (04_phase_control, Table 4.7). -/
def Obj.startCount : Obj :=
  { base := 0x3200, sub := 0x21, stride := 0x1, count := 64, ty := .u 4, right := .ro, rd := 0x3F, wr := 0x00, cls := .vol }

/-- 0x3200:22: Clear over-voltage latch (04_phase_control, Table 4.7). -/
def Obj.clearOverVoltageLatch : Obj :=
  { base := 0x3200, sub := 0x22, stride := 0x1, count := 64, ty := .u 1, right := .wo, rd := 0x00, wr := 0x0C, cls := .vol, rng := .oneOf [1] }

/-- 0x3200:23: Latching outlet (04_phase_control, Table 4.7). -/
def Obj.latchingOutlet : Obj :=
  { base := 0x3200, sub := 0x23, stride := 0x1, count := 64, ty := .u 1, right := .ro, rd := 0x3F, wr := 0x00, cls := .vol, dflt := fun _ _ => 255, rng := .orOne 0 23 0xFF }

/-- 0x3800:01: Phase declared (04_phase_control, Table 4.8). -/
def Obj.phaseDeclared : Obj :=
  { base := 0x3800, sub := 0x01, stride := 0x1, count := 256, ty := .bool, right := .rw, rd := 0x0C, wr := 0x0C, cls := .per, rng := .rng 0 1 }

/-- 0x3800:02: Dead time (04_phase_control, Table 4.8). -/
def Obj.deadTime : Obj :=
  { base := 0x3800, sub := 0x02, stride := 0x1, count := 256, ty := .u 2, right := .rw, rd := 0x0C, wr := 0x0C, cls := .per, dflt := fun _ _ => 40, rng := .rng 4 1000 }

/-- 0x3800:03: Turn-on strong (04_phase_control, Table 4.8). -/
def Obj.strongOn : Obj :=
  { base := 0x3800, sub := 0x03, stride := 0x1, count := 256, ty := .u 1, right := .rw, rd := 0x0C, wr := 0x0C, cls := .per, dflt := fun _ _ => 20, rng := .rng 0 255 }

/-- 0x3800:04: Turn-on weak, configured (04_phase_control, Table 4.8). -/
def Obj.weakOnConfigured : Obj :=
  { base := 0x3800, sub := 0x04, stride := 0x1, count := 256, ty := .u 1, right := .rw, rd := 0x0C, wr := 0x0C, cls := .per, dflt := fun _ _ => 10, rng := .rng 0 255 }

/-- 0x3800:05: Turn-off strong (04_phase_control, Table 4.8). -/
def Obj.strongOff : Obj :=
  { base := 0x3800, sub := 0x05, stride := 0x1, count := 256, ty := .u 1, right := .rw, rd := 0x0C, wr := 0x0C, cls := .per, dflt := fun _ _ => 20, rng := .rng 0 255 }

/-- 0x3800:06: Turn-off weak, configured (04_phase_control, Table 4.8). -/
def Obj.weakOffConfigured : Obj :=
  { base := 0x3800, sub := 0x06, stride := 0x1, count := 256, ty := .u 1, right := .rw, rd := 0x0C, wr := 0x0C, cls := .per, dflt := fun _ _ => 10, rng := .rng 0 255 }

/-- 0x3800:07: Weak lower limit (04_phase_control, Table 4.8). -/
def Obj.weakLowerLimit : Obj :=
  { base := 0x3800, sub := 0x07, stride := 0x1, count := 256, ty := .u 1, right := .rw, rd := 0x0C, wr := 0x0C, cls := .per, dflt := fun _ _ => 2, rng := .rng 0 255 }

/-- 0x3800:08: Weak upper limit (04_phase_control, Table 4.8). -/
def Obj.weakUpperLimit : Obj :=
  { base := 0x3800, sub := 0x08, stride := 0x1, count := 256, ty := .u 1, right := .rw, rd := 0x0C, wr := 0x0C, cls := .per, dflt := fun _ _ => 50, rng := .rng 0 255 }

/-- 0x3800:09: dv/dt target, turn-on (04_phase_control, Table 4.8). -/
def Obj.dvdtTargetOn : Obj :=
  { base := 0x3800, sub := 0x09, stride := 0x1, count := 256, ty := .u 1, right := .rw, rd := 0x0C, wr := 0x0C, cls := .per, rng := .rng 0 255 }

/-- 0x3800:0A: dv/dt target, turn-off (04_phase_control, Table 4.8). -/
def Obj.dvdtTargetOff : Obj :=
  { base := 0x3800, sub := 0x0A, stride := 0x1, count := 256, ty := .u 1, right := .rw, rd := 0x0C, wr := 0x0C, cls := .per, rng := .rng 0 255 }

/-- 0x3800:0B: dv/dt band (04_phase_control, Table 4.8). -/
def Obj.dvdtBand : Obj :=
  { base := 0x3800, sub := 0x0B, stride := 0x1, count := 256, ty := .u 1, right := .rw, rd := 0x0C, wr := 0x0C, cls := .per, dflt := fun _ _ => 4, rng := .rng 1 32 }

/-- 0x3800:0C: Bootstrap minimum low-side on-time (04_phase_control, Table 4.8). -/
def Obj.bootstrapMin : Obj :=
  { base := 0x3800, sub := 0x0C, stride := 0x1, count := 256, ty := .u 2, right := .rw, rd := 0x0C, wr := 0x0C, cls := .per, dflt := fun _ _ => 80, rng := .rng 40 2000 }

/-- 0x3800:0D: Phase state (04_phase_control, Table 4.8). -/
def Obj.phaseState : Obj :=
  { base := 0x3800, sub := 0x0D, stride := 0x1, count := 256, ty := .u 1, right := .ro, rd := 0x3F, wr := 0x00, cls := .vol, rng := .rng 0 7 }

/-- 0x3800:0E: Turn-on weak, applied (04_phase_control, Table 4.8). -/
def Obj.weakOnApplied : Obj :=
  { base := 0x3800, sub := 0x0E, stride := 0x1, count := 256, ty := .u 1, right := .ro, rd := 0x3F, wr := 0x00, cls := .vol, dflt := fun _ _ => 10, rng := .rng 0 255 }

/-- 0x3800:0F: Turn-off weak, applied (04_phase_control, Table 4.8). -/
def Obj.weakOffApplied : Obj :=
  { base := 0x3800, sub := 0x0F, stride := 0x1, count := 256, ty := .u 1, right := .ro, rd := 0x3F, wr := 0x00, cls := .vol, dflt := fun _ _ => 10, rng := .rng 0 255 }

/-- 0x3800:10: Fault count (04_phase_control, Table 4.8). -/
def Obj.faultCount : Obj :=
  { base := 0x3800, sub := 0x10, stride := 0x1, count := 256, ty := .u 4, right := .ro, rd := 0x3F, wr := 0x00, cls := .vol }

/-- 0x3800:11: Last fault status (04_phase_control, Table 4.8). -/
def Obj.lastFaultStatus : Obj :=
  { base := 0x3800, sub := 0x11, stride := 0x1, count := 256, ty := .u 1, right := .ro, rd := 0x3F, wr := 0x00, cls := .vol }

/-- 0x3800:12: Lockout cause (04_phase_control, Table 4.8). -/
def Obj.lockoutCause : Obj :=
  { base := 0x3800, sub := 0x12, stride := 0x1, count := 256, ty := .u 1, right := .ro, rd := 0x3F, wr := 0x00, cls := .per, own := true, rng := .oneOf [0, 1, 2, 3, 4] }

/-- 0x3800:13: Clear lockout (04_phase_control, Table 4.8). -/
def Obj.clearLockout : Obj :=
  { base := 0x3800, sub := 0x13, stride := 0x1, count := 256, ty := .u 1, right := .wo, rd := 0x00, wr := 0x0C, cls := .vol, rng := .oneOf [1] }

/-- 0x3800:14: Retry delay (04_phase_control, Table 4.8). -/
def Obj.retryDelay : Obj :=
  { base := 0x3800, sub := 0x14, stride := 0x1, count := 256, ty := .u 2, right := .rw, rd := 0x0C, wr := 0x0C, cls := .per, dflt := fun _ _ => 50, rng := .rng 0 1000 }

/-- 0x3800:15: Largest dv/dt, turn-on, last slow tick (04_phase_control, Table 4.8). -/
def Obj.dvdtMaxOn : Obj :=
  { base := 0x3800, sub := 0x15, stride := 0x1, count := 256, ty := .u 1, right := .ro, rd := 0x3F, wr := 0x00, cls := .vol }

/-- 0x3800:16: Largest dv/dt, turn-off, last slow tick (04_phase_control, Table 4.8). -/
def Obj.dvdtMaxOff : Obj :=
  { base := 0x3800, sub := 0x16, stride := 0x1, count := 256, ty := .u 1, right := .ro, rd := 0x3F, wr := 0x00, cls := .vol }

/-- 0x5000:01: Kind (05_loop_engine, Table 5.8). -/
def Obj.slotKind : Obj :=
  { base := 0x5000, sub := 0x01, stride := 0x1, count := 1024, ty := .u 1, right := .ro, rd := 0x3F, wr := 0x00, cls := .vol, dflt := fun i _ => if i < 256 then 1 else if i < 320 then 2 else if i < 344 then 3 else if i < 368 then 4 else if i < 416 then (if i % 2 = 0 then 5 else 6) else 0, rng := .rng 0 6 }

/-- 0x5000:02: Class (05_loop_engine, Table 5.8). -/
def Obj.slotClass : Obj :=
  { base := 0x5000, sub := 0x02, stride := 0x1, count := 1024, ty := .u 1, right := .rw, rd := 0x0C, wr := 0x0C, cls := .per, dflt := fun i _ => if i < 368 then 0 else if i < 416 then 2 else 3, rng := .oneOf [0, 1, 2, 3] }

/-- 0x5000:03: Divide exponent (05_loop_engine, Table 5.8). -/
def Obj.slotDivide : Obj :=
  { base := 0x5000, sub := 0x03, stride := 0x1, count := 1024, ty := .u 1, right := .rw, rd := 0x0C, wr := 0x0C, cls := .per, dflt := fun _ _ => 1, rng := .rng 1 9 }

/-- 0x5000:04: Parent slot (05_loop_engine, Table 5.8). -/
def Obj.slotParent : Obj :=
  { base := 0x5000, sub := 0x04, stride := 0x1, count := 1024, ty := .u 2, right := .rw, rd := 0x0C, wr := 0x0C, cls := .per, dflt := fun _ _ => 65535, rng := .orOne 0 1023 0xFFFF }

/-- 0x5000:05: Law (05_loop_engine, Table 5.8). -/
def Obj.slotLaw : Obj :=
  { base := 0x5000, sub := 0x05, stride := 0x1, count := 1024, ty := .u 1, right := .rw, rd := 0x0C, wr := 0x0C, cls := .per, rng := .oneOf [0, 1, 2] }

/-- 0x5000:06: Polarity (05_loop_engine, Table 5.8). -/
def Obj.slotPolarity : Obj :=
  { base := 0x5000, sub := 0x06, stride := 0x1, count := 1024, ty := .bool, right := .rw, rd := 0x0C, wr := 0x0C, cls := .per, rng := .rng 0 1 }

/-- 0x5000:07: Gain table (05_loop_engine, Table 5.8). -/
def Obj.slotGainTable : Obj :=
  { base := 0x5000, sub := 0x07, stride := 0x1, count := 1024, ty := .u 1, right := .rw, rd := 0x0C, wr := 0x0C, cls := .per, dflt := fun _ _ => 255, rng := .orOne 0 63 0xFF }

/-- 0x5000:08: Proportional gain k_p (05_loop_engine, Table 5.8). -/
def Obj.slotKp : Obj :=
  { base := 0x5000, sub := 0x08, stride := 0x1, count := 1024, ty := .f32, right := .rw, rd := 0x0C, wr := 0x0C, cls := .per, rng := .f32 0 1000000 }

/-- 0x5000:09: Integral gain k_i (05_loop_engine, Table 5.8). -/
def Obj.slotKi : Obj :=
  { base := 0x5000, sub := 0x09, stride := 0x1, count := 1024, ty := .f32, right := .rw, rd := 0x0C, wr := 0x0C, cls := .per, rng := .f32 0 1000000 }

/-- 0x5000:0A, 0x5000:0B: Output minimum, maximum (05_loop_engine, Table 5.8). -/
def Obj.slotOutMin : Obj :=
  { base := 0x5000, sub := 0x0A, stride := 0x1, count := 1024, ty := .f32, right := .rw, rd := 0x0C, wr := 0x0C, cls := .per, rng := .f32 (-3*10^38) (3*10^38) }

/-- 0x5000:0A, 0x5000:0B: Output minimum, maximum (05_loop_engine, Table 5.8). -/
def Obj.slotOutMax : Obj :=
  { base := 0x5000, sub := 0x0B, stride := 0x1, count := 1024, ty := .f32, right := .rw, rd := 0x0C, wr := 0x0C, cls := .per, rng := .f32 (-3*10^38) (3*10^38) }

/-- 0x5000:0C, 0x5000:0D: Integrator minimum, maximum (05_loop_engine, Table 5.8). -/
def Obj.slotIntMin : Obj :=
  { base := 0x5000, sub := 0x0C, stride := 0x1, count := 1024, ty := .f32, right := .rw, rd := 0x0C, wr := 0x0C, cls := .per, rng := .f32 (-3*10^38) (3*10^38) }

/-- 0x5000:0C, 0x5000:0D: Integrator minimum, maximum (05_loop_engine, Table 5.8). -/
def Obj.slotIntMax : Obj :=
  { base := 0x5000, sub := 0x0D, stride := 0x1, count := 1024, ty := .f32, right := .rw, rd := 0x0C, wr := 0x0C, cls := .per, rng := .f32 (-3*10^38) (3*10^38) }

/-- 0x5000:0F: Measurement source (05_loop_engine, Table 5.8). -/
def Obj.slotMeasSource : Obj :=
  { base := 0x5000, sub := 0x0F, stride := 0x1, count := 1024, ty := .u 2, right := .rw, rd := 0x0C, wr := 0x0C, cls := .per }

/-- 0x5000:10: Reference source (05_loop_engine, Table 5.8). -/
def Obj.slotRefSource : Obj :=
  { base := 0x5000, sub := 0x10, stride := 0x1, count := 1024, ty := .u 2, right := .rw, rd := 0x0C, wr := 0x0C, cls := .per }

/-- 0x5000:11: Feed-forward source (05_loop_engine, Table 5.8). -/
def Obj.slotFfSource : Obj :=
  { base := 0x5000, sub := 0x11, stride := 0x1, count := 1024, ty := .u 2, right := .rw, rd := 0x0C, wr := 0x0C, cls := .per }

/-- 0x5000:12: Run state (05_loop_engine, Table 5.8). -/
def Obj.slotRunState : Obj :=
  { base := 0x5000, sub := 0x12, stride := 0x1, count := 1024, ty := .u 1, right := .ro, rd := 0x3F, wr := 0x00, cls := .vol, rng := .oneOf [0, 1, 2, 3] }

/-- 0x5000:13 to 0x5000:17: Reference, measurement, error, integrator, clamped output (05_loop_engine, Table 5.8). -/
def Obj.slotReference : Obj :=
  { base := 0x5000, sub := 0x13, stride := 0x1, count := 1024, ty := .f32, right := .ro, rd := 0x3F, wr := 0x00, cls := .vol }

/-- 0x5000:13 to 0x5000:17: Reference, measurement, error, integrator, clamped output (05_loop_engine, Table 5.8). -/
def Obj.slotMeasurement : Obj :=
  { base := 0x5000, sub := 0x14, stride := 0x1, count := 1024, ty := .f32, right := .ro, rd := 0x3F, wr := 0x00, cls := .vol }

/-- 0x5000:13 to 0x5000:17: Reference, measurement, error, integrator, clamped output (05_loop_engine, Table 5.8). -/
def Obj.slotError : Obj :=
  { base := 0x5000, sub := 0x15, stride := 0x1, count := 1024, ty := .f32, right := .ro, rd := 0x3F, wr := 0x00, cls := .vol }

/-- 0x5000:13 to 0x5000:17: Reference, measurement, error, integrator, clamped output (05_loop_engine, Table 5.8). -/
def Obj.slotIntegrator : Obj :=
  { base := 0x5000, sub := 0x16, stride := 0x1, count := 1024, ty := .f32, right := .ro, rd := 0x3F, wr := 0x00, cls := .vol }

/-- 0x5000:13 to 0x5000:17: Reference, measurement, error, integrator, clamped output (05_loop_engine, Table 5.8). -/
def Obj.slotOutput : Obj :=
  { base := 0x5000, sub := 0x17, stride := 0x1, count := 1024, ty := .f32, right := .ro, rd := 0x3F, wr := 0x00, cls := .vol }

/-- 0x5000:18: Flags (05_loop_engine, Table 5.8). -/
def Obj.slotFlags : Obj :=
  { base := 0x5000, sub := 0x18, stride := 0x1, count := 1024, ty := .u 2, right := .ro, rd := 0x3F, wr := 0x00, cls := .vol }

/-- 0x5000:19: Mismatch count (05_loop_engine, Table 5.8). -/
def Obj.slotMismatches : Obj :=
  { base := 0x5000, sub := 0x19, stride := 0x1, count := 1024, ty := .u 4, right := .ro, rd := 0x3F, wr := 0x00, cls := .vol }

/-- 0x5000:1A: Host value (05_loop_engine, Table 5.8). -/
def Obj.slotHostValue : Obj :=
  { base := 0x5000, sub := 0x1A, stride := 0x1, count := 1024, ty := .f32, right := .rw, rd := 0x0C, wr := 0x0C, cls := .vol, rng := .f32 (-3*10^38) (3*10^38) }

/-- 0x5000:1B: Level (05_loop_engine, Table 5.8). -/
def Obj.slotLevel : Obj :=
  { base := 0x5000, sub := 0x1B, stride := 0x1, count := 1024, ty := .u 1, right := .ro, rd := 0x3F, wr := 0x00, cls := .vol, rng := .rng 0 3 }

/-- 0x5000:1C: Preset output (05_loop_engine, Table 5.8). -/
def Obj.slotPreset : Obj :=
  { base := 0x5000, sub := 0x1C, stride := 0x1, count := 1024, ty := .f32, right := .wo, rd := 0x00, wr := 0x0C, cls := .vol, rng := .f32 (-3*10^38) (3*10^38) }

/-- 0x5000:1D: Clear integrator (05_loop_engine, Table 5.8). -/
def Obj.slotClear : Obj :=
  { base := 0x5000, sub := 0x1D, stride := 0x1, count := 1024, ty := .u 1, right := .wo, rd := 0x00, wr := 0x0C, cls := .vol, rng := .oneOf [1] }

/-- 0x5000:20 to 0x5000:27: Set B: law, gain table, k_p, k_i, output min, output max, integrator min, integrator max (05_loop_engine, Table 5.8). -/
def Obj.slotBLaw : Obj :=
  { base := 0x5100, sub := 0x20, stride := 0x1, count := 64, ty := .u 1, right := .rw, rd := 0x0C, wr := 0x0C, cls := .per, rng := .rng 0 2 }

/-- 0x5000:20 to 0x5000:27: Set B: law, gain table, k_p, k_i, output min, output max, integrator min, integrator max (05_loop_engine, Table 5.8). -/
def Obj.slotBGainTable : Obj :=
  { base := 0x5100, sub := 0x21, stride := 0x1, count := 64, ty := .u 1, right := .rw, rd := 0x0C, wr := 0x0C, cls := .per, dflt := fun _ _ => 255, rng := .orOne 0 63 0xFF }

/-- 0x5000:20 to 0x5000:27: Set B: law, gain table, k_p, k_i, output min, output max, integrator min, integrator max (05_loop_engine, Table 5.8). -/
def Obj.slotBKp : Obj :=
  { base := 0x5100, sub := 0x22, stride := 0x1, count := 64, ty := .f32, right := .rw, rd := 0x0C, wr := 0x0C, cls := .per, rng := .f32 0 1000000 }

/-- 0x5000:20 to 0x5000:27: Set B: law, gain table, k_p, k_i, output min, output max, integrator min, integrator max (05_loop_engine, Table 5.8). -/
def Obj.slotBKi : Obj :=
  { base := 0x5100, sub := 0x23, stride := 0x1, count := 64, ty := .f32, right := .rw, rd := 0x0C, wr := 0x0C, cls := .per, rng := .f32 0 1000000 }

/-- 0x5000:20 to 0x5000:27: Set B: law, gain table, k_p, k_i, output min, output max, integrator min, integrator max (05_loop_engine, Table 5.8). -/
def Obj.slotBOutMin : Obj :=
  { base := 0x5100, sub := 0x24, stride := 0x1, count := 64, ty := .f32, right := .rw, rd := 0x0C, wr := 0x0C, cls := .per, rng := .f32 (-3*10^38) (3*10^38) }

/-- 0x5000:20 to 0x5000:27: Set B: law, gain table, k_p, k_i, output min, output max, integrator min, integrator max (05_loop_engine, Table 5.8). -/
def Obj.slotBOutMax : Obj :=
  { base := 0x5100, sub := 0x25, stride := 0x1, count := 64, ty := .f32, right := .rw, rd := 0x0C, wr := 0x0C, cls := .per, rng := .f32 (-3*10^38) (3*10^38) }

/-- 0x5000:20 to 0x5000:27: Set B: law, gain table, k_p, k_i, output min, output max, integrator min, integrator max (05_loop_engine, Table 5.8). -/
def Obj.slotBIntMin : Obj :=
  { base := 0x5100, sub := 0x26, stride := 0x1, count := 64, ty := .f32, right := .rw, rd := 0x0C, wr := 0x0C, cls := .per, rng := .f32 (-3*10^38) (3*10^38) }

/-- 0x5000:20 to 0x5000:27: Set B: law, gain table, k_p, k_i, output min, output max, integrator min, integrator max (05_loop_engine, Table 5.8). -/
def Obj.slotBIntMax : Obj :=
  { base := 0x5100, sub := 0x27, stride := 0x1, count := 64, ty := .f32, right := .rw, rd := 0x0C, wr := 0x0C, cls := .per, rng := .f32 (-3*10^38) (3*10^38) }

/-- 0x5000:28: Set in use (05_loop_engine, Table 5.8). -/
def Obj.slotSetInUse : Obj :=
  { base := 0x5100, sub := 0x28, stride := 0x1, count := 64, ty := .u 1, right := .ro, rd := 0x3F, wr := 0x00, cls := .vol, rng := .oneOf [0, 1] }

/-- 0x5800:01 to 0x5800:40: Points g0 to g63 (05_loop_engine, Table 5.9). -/
def Obj.gainPoint : Obj :=
  { base := 0x5800, sub := 0x01, nsub := 64, stride := 0x1, count := 64, ty := .f32, right := .rw, rd := 0x0C, wr := 0x0C, cls := .per, dflt := fun _ _ => 0x3f800000, rng := .f32 0 1000000 }

/-- 0x5800:41: Mode (05_loop_engine, Table 5.9). -/
def Obj.gainMode : Obj :=
  { base := 0x5800, sub := 0x41, stride := 0x1, count := 64, ty := .u 1, right := .rw, rd := 0x0C, wr := 0x0C, cls := .per, rng := .oneOf [0, 1] }

/-- 0x5800:42: Error span S (05_loop_engine, Table 5.9). -/
def Obj.gainSpan : Obj :=
  { base := 0x5800, sub := 0x42, stride := 0x1, count := 64, ty := .f32, right := .rw, rd := 0x0C, wr := 0x0C, cls := .per, dflt := fun _ _ => 0x3f800000, rng := .f32 (1/1000000) 1000000 }

/-- 0x5800:43: Slots using the table (05_loop_engine, Table 5.9). -/
def Obj.gainUsers : Obj :=
  { base := 0x5800, sub := 0x43, stride := 0x1, count := 64, ty := .u 2, right := .ro, rd := 0x3F, wr := 0x00, cls := .vol, rng := .rng 0 1024 }

/-- 0x5400:01: Fast and divided slots enabled (05_loop_engine, Table 5.10). -/
def Obj.fastAndDividedSlotsEnabled : Obj :=
  { base := 0x5400, sub := 0x01, ty := .u 2, right := .ro, rd := 0x3F, wr := 0x00, cls := .vol, rng := .rng 0 768 }

/-- 0x5400:02: Corrected mismatches (05_loop_engine, Table 5.10). -/
def Obj.correctedMismatches : Obj :=
  { base := 0x5400, sub := 0x02, ty := .u 4, right := .ro, rd := 0x3F, wr := 0x00, cls := .vol }

/-- 0x5400:03: Frames with a second mismatch (05_loop_engine, Table 5.10). -/
def Obj.framesWithASecondMismatch : Obj :=
  { base := 0x5400, sub := 0x03, ty := .u 4, right := .ro, rd := 0x3F, wr := 0x00, cls := .vol }

/-- 0x5400:04: Fast-window completion, last frame (05_loop_engine, Table 5.10). -/
def Obj.fastWindowLast : Obj :=
  { base := 0x5400, sub := 0x04, ty := .u 2, right := .ro, rd := 0x3F, wr := 0x00, cls := .vol }

/-- 0x5400:05: Fast-window completion, worst since reset (05_loop_engine, Table 5.10). -/
def Obj.fastWindowWorst : Obj :=
  { base := 0x5400, sub := 0x05, ty := .u 2, right := .ro, rd := 0x3F, wr := 0x00, cls := .vol }

/-- 0x5400:06: Peak evaluations in flight (05_loop_engine, Table 5.10). -/
def Obj.peakInFlight : Obj :=
  { base := 0x5400, sub := 0x06, ty := .u 1, right := .ro, rd := 0x3F, wr := 0x00, cls := .vol, rng := .rng 0 128 }

/-- 0x5410:01: Injection target (05_loop_engine, Table 5.10). -/
def Obj.injectionTarget : Obj :=
  { base := 0x5410, sub := 0x01, ty := .u 2, right := .rw, rd := 0x0C, wr := 0x0C, cls := .vol, rng := .rng 0 1023 }

/-- 0x5410:02: Injection point (05_loop_engine, Table 5.10). -/
def Obj.injectionPoint : Obj :=
  { base := 0x5410, sub := 0x02, ty := .u 1, right := .rw, rd := 0x0C, wr := 0x0C, cls := .vol, rng := .oneOf [0, 1, 2] }

/-- 0x5410:03: Signal (05_loop_engine, Table 5.10). -/
def Obj.injectionSignal : Obj :=
  { base := 0x5410, sub := 0x03, ty := .u 1, right := .rw, rd := 0x0C, wr := 0x0C, cls := .vol }

/-- 0x5410:04: Amplitude A (05_loop_engine, Table 5.10). -/
def Obj.injectionAmplitude : Obj :=
  { base := 0x5410, sub := 0x04, ty := .f32, right := .rw, rd := 0x0C, wr := 0x0C, cls := .vol, rng := .f32 (-3*10^38) (3*10^38) }

/-- 0x5410:05, 0x5410:06: Frequencies f0, f1 (05_loop_engine, Table 5.10). -/
def Obj.injectionF0 : Obj :=
  { base := 0x5410, sub := 0x05, ty := .f32, right := .rw, rd := 0x0C, wr := 0x0C, cls := .vol, rng := .f32 0 25000 }

/-- 0x5410:05, 0x5410:06: Frequencies f0, f1 (05_loop_engine, Table 5.10). -/
def Obj.injectionF1 : Obj :=
  { base := 0x5410, sub := 0x06, ty := .f32, right := .rw, rd := 0x0C, wr := 0x0C, cls := .vol, rng := .f32 0 25000 }

/-- 0x5410:07: Length or step delay N (05_loop_engine, Table 5.10). -/
def Obj.injectionLength : Obj :=
  { base := 0x5410, sub := 0x07, ty := .u 4, right := .rw, rd := 0x0C, wr := 0x0C, cls := .vol, dflt := fun _ _ => 16384, rng := .rng 1 16777215 }

/-- 0x5410:08: PRBS order n (05_loop_engine, Table 5.10). -/
def Obj.prbsOrder : Obj :=
  { base := 0x5410, sub := 0x08, ty := .u 1, right := .rw, rd := 0x0C, wr := 0x0C, cls := .vol, dflt := fun _ _ => 11, rng := .rng 7 15 }

/-- 0x5410:09: PRBS bit hold b (05_loop_engine, Table 5.10). -/
def Obj.prbsHold : Obj :=
  { base := 0x5410, sub := 0x09, ty := .u 2, right := .rw, rd := 0x0C, wr := 0x0C, cls := .vol, dflt := fun _ _ => 1, rng := .rng 1 256 }

/-- 0x5410:0A: Start injection (05_loop_engine, Table 5.10). -/
def Obj.startInjection : Obj :=
  { base := 0x5410, sub := 0x0A, ty := .u 1, right := .wo, rd := 0x00, wr := 0x0C, cls := .vol, rng := .oneOf [1] }

/-- 0x5410:0B: Stop injection (05_loop_engine, Table 5.10). -/
def Obj.stopInjection : Obj :=
  { base := 0x5410, sub := 0x0B, ty := .u 1, right := .wo, rd := 0x00, wr := 0x0C, cls := .vol, rng := .oneOf [1] }

/-- 0x5410:0C: Injection state (05_loop_engine, Table 5.10). -/
def Obj.injectionState : Obj :=
  { base := 0x5410, sub := 0x0C, ty := .u 1, right := .ro, rd := 0x3F, wr := 0x00, cls := .vol, rng := .oneOf [0, 1] }

/-- 0x5420:01 to 0x5420:04: Capture signals 0 to 3 (05_loop_engine, Table 5.10). -/
def Obj.captureSignal : Obj :=
  { base := 0x5420, sub := 0x01, nsub := 4, ty := .u 4, right := .rw, rd := 0x0C, wr := 0x0C, cls := .vol, dflt := fun _ _ => 0xffffffff }

/-- 0x5420:05: Trigger slot (05_loop_engine, Table 5.10). -/
def Obj.triggerSlot : Obj :=
  { base := 0x5420, sub := 0x05, ty := .u 2, right := .rw, rd := 0x0C, wr := 0x0C, cls := .vol, rng := .rng 0 1023 }

/-- 0x5420:06: Capture bank (05_loop_engine, Table 5.10). -/
def Obj.captureBank : Obj :=
  { base := 0x5420, sub := 0x06, ty := .u 1, right := .rw, rd := 0x0C, wr := 0x0C, cls := .per, dflt := fun _ _ => 23, rng := .rng 0 23 }

/-- 0x5420:07: Push channel (05_loop_engine, Table 5.10). -/
def Obj.capturePushChannel : Obj :=
  { base := 0x5420, sub := 0x07, ty := .u 1, right := .rw, rd := 0x0C, wr := 0x0C, cls := .per, dflt := fun _ _ => 1, rng := .rng 0 7 }

/-- 0x5420:08: Start or stop capture (05_loop_engine, Table 5.10). -/
def Obj.captureCommand : Obj :=
  { base := 0x5420, sub := 0x08, ty := .u 1, right := .wo, rd := 0x00, wr := 0x0C, cls := .vol, rng := .oneOf [1, 2] }

/-- 0x5420:09: Capture state (05_loop_engine, Table 5.10). -/
def Obj.captureState : Obj :=
  { base := 0x5420, sub := 0x09, ty := .u 1, right := .ro, rd := 0x3F, wr := 0x00, cls := .vol, rng := .oneOf [0, 1, 2, 3] }

/-- 0x5420:0A: Samples taken (05_loop_engine, Table 5.10). -/
def Obj.samplesTaken : Obj :=
  { base := 0x5420, sub := 0x0A, ty := .u 2, right := .ro, rd := 0x3F, wr := 0x00, cls := .vol, rng := .rng 0 16384 }

/-- 0x5420:0B: Capture start frame (05_loop_engine, Table 5.10). -/
def Obj.captureStartFrame : Obj :=
  { base := 0x5420, sub := 0x0B, ty := .u 8, right := .ro, rd := 0x3F, wr := 0x00, cls := .vol }

/-- 0x3300:01: Static site import limit (06_power_sharing, Table 6.7). -/
def Obj.staticSiteImportLimit : Obj :=
  { base := 0x3300, sub := 0x01, ty := .u 4, right := .rw, rd := 0x04, wr := 0x04, cls := .per, rng := .rng 0 400000 }

/-- 0x3300:02: Dynamic site import limit (06_power_sharing, Table 6.7). -/
def Obj.dynamicSiteImportLimit : Obj :=
  { base := 0x3300, sub := 0x02, ty := .u 4, right := .rw, rd := 0x06, wr := 0x06, cls := .vol, dflt := fun _ _ => 0xffffffff, rng := .orOne 0 400000 0xFFFFFFFF }

/-- 0x3300:03: Dynamic limit hold time (06_power_sharing, Table 6.7). -/
def Obj.dynamicLimitHoldTime : Obj :=
  { base := 0x3300, sub := 0x03, ty := .u 2, right := .rw, rd := 0x04, wr := 0x04, cls := .per, rng := .rng 0 3600 }

/-- 0x3300:04: Dynamic limit fallback (06_power_sharing, Table 6.7). -/
def Obj.dynamicLimitFallback : Obj :=
  { base := 0x3300, sub := 0x04, ty := .u 4, right := .rw, rd := 0x04, wr := 0x04, cls := .per, dflt := fun _ _ => 0xffffffff, rng := .orOne 0 400000 0xFFFFFFFF }

/-- 0x3300:06: Auxiliary reserve (06_power_sharing, Table 6.7). -/
def Obj.auxReserve : Obj :=
  { base := 0x3300, sub := 0x06, ty := .u 4, right := .rw, rd := 0x04, wr := 0x04, cls := .per, rng := .rng 0 400000 }

/-- 0x3300:07: Conversion efficiency η (06_power_sharing, Table 6.7). -/
def Obj.efficiency : Obj :=
  { base := 0x3300, sub := 0x07, ty := .u 2, right := .rw, rd := 0x04, wr := 0x04, cls := .per, dflt := fun _ _ => 960, rng := .rng 800 1000 }

/-- 0x3300:08: Block headroom (06_power_sharing, Table 6.7). -/
def Obj.blockHeadroom : Obj :=
  { base := 0x3300, sub := 0x08, ty := .u 1, right := .rw, rd := 0x04, wr := 0x04, cls := .per, dflt := fun _ _ => 90, rng := .rng 50 100 }

/-- 0x3300:09: Effective site limit (06_power_sharing, Table 6.7). -/
def Obj.effectiveSiteLimit : Obj :=
  { base := 0x3300, sub := 0x09, ty := .u 4, right := .ro, rd := 0x3F, wr := 0x00, cls := .vol }

/-- 0x3300:0A: Import estimate (06_power_sharing, Table 6.7). -/
def Obj.importEstimate : Obj :=
  { base := 0x3300, sub := 0x0A, ty := .i 4, right := .ro, rd := 0x3F, wr := 0x00, cls := .vol }

/-- 0x3300:0B: Site scale factor (06_power_sharing, Table 6.7). -/
def Obj.siteScaleFactor : Obj :=
  { base := 0x3300, sub := 0x0B, ty := .u 2, right := .ro, rd := 0x3F, wr := 0x00, cls := .vol, dflt := fun _ _ => 10000, rng := .rng 0 10000 }

/-- 0x3300:0C: Available DC power C (06_power_sharing, Table 6.7). -/
def Obj.availableDCPowerC : Obj :=
  { base := 0x3300, sub := 0x0C, ty := .u 4, right := .ro, rd := 0x3F, wr := 0x00, cls := .vol }

/-- 0x3300:0D: Measured auxiliary load (06_power_sharing, Table 6.7). -/
def Obj.measuredAuxiliaryLoad : Obj :=
  { base := 0x3300, sub := 0x0D, ty := .i 4, right := .ro, rd := 0x3F, wr := 0x00, cls := .vol }

/-- 0x3300:0E: Scaling count (06_power_sharing, Table 6.7). -/
def Obj.scalingCount : Obj :=
  { base := 0x3300, sub := 0x0E, ty := .u 4, right := .ro, rd := 0x3F, wr := 0x00, cls := .vol }

/-- 0x3300:10: Allocation pass overruns (06_power_sharing, Table 6.7). -/
def Obj.allocationPassOverruns : Obj :=
  { base := 0x3300, sub := 0x10, ty := .u 4, right := .ro, rd := 0x3F, wr := 0x00, cls := .vol }

/-- 0x3301:01 to 0x3301:08: Price of T1 to T8 (06_power_sharing, Table 6.7). -/
def Obj.price : Obj :=
  { base := 0x3301, sub := 0x01, nsub := 8, ty := .i 4, right := .rw, rd := 0x06, wr := 0x06, cls := .per }

/-- 0x3302:01: Planning enable (06_power_sharing, Table 6.7). -/
def Obj.planningEnable : Obj :=
  { base := 0x3302, sub := 0x01, ty := .bool, right := .rw, rd := 0x04, wr := 0x04, cls := .per, dflt := fun _ _ => 1, rng := .rng 0 1 }

/-- 0x3302:02: Time of last plan (06_power_sharing, Table 6.7). -/
def Obj.lastPlanTime : Obj :=
  { base := 0x3302, sub := 0x02, ty := .i 8, right := .ro, rd := 0x3F, wr := 0x00, cls := .vol }

/-- 0x3302:03: Contexts at risk (06_power_sharing, Table 6.7). -/
def Obj.contextsAtRisk : Obj :=
  { base := 0x3302, sub := 0x03, ty := .u 1, right := .ro, rd := 0x3F, wr := 0x00, cls := .vol, rng := .rng 0 250 }

/-- 0x3310:01: Feeder power limit (06_power_sharing, Table 6.8). -/
def Obj.feederPowerLimit : Obj :=
  { base := 0x3310, sub := 0x01, stride := 0x1, count := 4, ty := .u 4, right := .rw, rd := 0x04, wr := 0x04, cls := .per, dflt := fun _ _ => 0xffffffff, rng := .orOne 0 400000 0xFFFFFFFF }

/-- 0x3310:02: Feeder phase current limit (06_power_sharing, Table 6.8). -/
def Obj.feederPhaseCurrentLimit : Obj :=
  { base := 0x3310, sub := 0x02, stride := 0x1, count := 4, ty := .u 4, right := .rw, rd := 0x04, wr := 0x04, cls := .per, dflt := fun _ _ => 0xffffffff, rng := .orOne 0 100000 0xFFFFFFFF }

/-- 0x3310:03: Feeder import (06_power_sharing, Table 6.8). -/
def Obj.feederImport : Obj :=
  { base := 0x3310, sub := 0x03, stride := 0x1, count := 4, ty := .i 4, right := .ro, rd := 0x3F, wr := 0x00, cls := .vol }

/-- 0x3320:01: Feeder of cabinet (06_power_sharing, Table 6.8). -/
def Obj.feederOfCabinet : Obj :=
  { base := 0x3320, sub := 0x01, stride := 0x1, count := 16, ty := .u 1, right := .rw, rd := 0x0C, wr := 0x0C, cls := .per, rng := .rng 0 3 }

/-- 0x3320:02: Cabinet input power limit (06_power_sharing, Table 6.8). -/
def Obj.cabinetPowerLimit : Obj :=
  { base := 0x3320, sub := 0x02, stride := 0x1, count := 16, ty := .u 4, right := .rw, rd := 0x04, wr := 0x04, cls := .per, dflt := fun _ _ => 0xffffffff, rng := .orOne 0 40000 0xFFFFFFFF }

/-- 0x3320:03: Cabinet input power (06_power_sharing, Table 6.8). -/
def Obj.cabinetInputPower : Obj :=
  { base := 0x3320, sub := 0x03, stride := 0x1, count := 16, ty := .i 4, right := .ro, rd := 0x3F, wr := 0x00, cls := .vol }

/-- 0x3340:01: Rise rate (06_power_sharing, Table 6.8). -/
def Obj.riseRate : Obj :=
  { base := 0x3340, sub := 0x01, stride := 0x1, count := 24, ty := .u 2, right := .rw, rd := 0x04, wr := 0x04, cls := .per, dflt := fun _ _ => 1000, rng := .rng 1 40000 }

/-- 0x3340:02: Allocation fall rate (06_power_sharing, Table 6.8). -/
def Obj.allocationFallRate : Obj :=
  { base := 0x3340, sub := 0x02, stride := 0x1, count := 24, ty := .u 2, right := .rw, rd := 0x04, wr := 0x04, cls := .per, dflt := fun _ _ => 500, rng := .rng 1 40000 }

/-- 0x3340:03: Allocated power (06_power_sharing, Table 6.8). -/
def Obj.allocatedPower : Obj :=
  { base := 0x3340, sub := 0x03, stride := 0x1, count := 24, ty := .u 4, right := .ro, rd := 0x3F, wr := 0x00, cls := .vol }

/-- 0x3340:04: Allocated current (06_power_sharing, Table 6.8). -/
def Obj.allocatedCurrent : Obj :=
  { base := 0x3340, sub := 0x04, stride := 0x1, count := 24, ty := .u 2, right := .ro, rd := 0x3F, wr := 0x00, cls := .vol, rng := .rng 0 40000 }

/-- 0x3340:05: Current target (06_power_sharing, Table 6.8). -/
def Obj.currentTarget : Obj :=
  { base := 0x3340, sub := 0x05, stride := 0x1, count := 24, ty := .u 2, right := .ro, rd := 0x3F, wr := 0x00, cls := .vol, rng := .rng 0 40000 }

/-- 0x3340:06: Binding term (06_power_sharing, Table 6.8). -/
def Obj.bindingTerm : Obj :=
  { base := 0x3340, sub := 0x06, stride := 0x1, count := 24, ty := .u 1, right := .ro, rd := 0x3F, wr := 0x00, cls := .vol, rng := .oneOf [0, 1, 2, 3, 4, 5, 6, 7, 8, 9, 10] }

/-- 0x3340:07: Bound blocks (06_power_sharing, Table 6.8). -/
def Obj.boundBlocks : Obj :=
  { base := 0x3340, sub := 0x07, stride := 0x1, count := 24, ty := .u 8, right := .ro, rd := 0x3F, wr := 0x00, cls := .vol }

/-- 0x3340:08: Planned power (06_power_sharing, Table 6.8). -/
def Obj.plannedPower : Obj :=
  { base := 0x3340, sub := 0x08, stride := 0x1, count := 24, ty := .u 4, right := .ro, rd := 0x3F, wr := 0x00, cls := .vol }

/-- 0x3360:01: Class minimum power (06_power_sharing, Table 6.8). -/
def Obj.classMinimumPower : Obj :=
  { base := 0x3360, sub := 0x01, stride := 0x1, count := 8, ty := .u 4, right := .rw, rd := 0x04, wr := 0x04, cls := .per, rng := .rng 0 37500 }

/-- 0x3360:02: May take blocks from lower classes (06_power_sharing, Table 6.8). -/
def Obj.classMayTake : Obj :=
  { base := 0x3360, sub := 0x02, stride := 0x1, count := 8, ty := .bool, right := .rw, rd := 0x04, wr := 0x04, cls := .per, rng := .rng 0 1 }

/-- 0x3370:01: Concurrent migrations (06_power_sharing, Table 6.8). -/
def Obj.concurrentMigrations : Obj :=
  { base := 0x3370, sub := 0x01, ty := .u 1, right := .rw, rd := 0x04, wr := 0x04, cls := .per, dflt := fun _ _ => 4, rng := .rng 1 8 }

/-- 0x3370:02: Migration enable (06_power_sharing, Table 6.8). -/
def Obj.migrationEnable : Obj :=
  { base := 0x3370, sub := 0x02, ty := .bool, right := .rw, rd := 0x04, wr := 0x04, cls := .per, dflt := fun _ _ => 1, rng := .rng 0 1 }

/-- 0x3370:03: Migrations, joins and releases completed (06_power_sharing, Table 6.8). -/
def Obj.migrationsCompleted : Obj :=
  { base := 0x3370, sub := 0x03, ty := .u 4, right := .ro, rd := 0x3F, wr := 0x00, cls := .vol }

/-- 0x3370:04: Migrations, joins and releases abandoned (06_power_sharing, Table 6.8). -/
def Obj.migrationsAbandoned : Obj :=
  { base := 0x3370, sub := 0x04, ty := .u 4, right := .ro, rd := 0x3F, wr := 0x00, cls := .vol }

/-- 0x3370:05: Contactor rated life (06_power_sharing, Table 6.8). -/
def Obj.contactorRatedLife : Obj :=
  { base := 0x3370, sub := 0x05, ty := .u 4, right := .rw, rd := 0x04, wr := 0x04, cls := .per, dflt := fun _ _ => 0x186a0, rng := .rng 1000 10000000 }

/-- 0x3200:01 to 0x3200:04: Reach 0 to 3 outlet (06_power_sharing, Table 6.9). -/
def Obj.reach : Obj :=
  { base := 0x3200, sub := 0x01, nsub := 4, stride := 0x1, count := 64, ty := .u 1, right := .rw, rd := 0x0C, wr := 0x0C, cls := .per, dflt := fun _ _ => 255, rng := .orOne 0 23 0xFF }

/-- 0x3200:05: Allocation state (06_power_sharing, Table 6.9). -/
def Obj.allocState : Obj :=
  { base := 0x3200, sub := 0x05, stride := 0x1, count := 64, ty := .u 1, right := .ro, rd := 0x3F, wr := 0x00, cls := .vol, rng := .oneOf [0, 1, 2, 3, 4, 5, 6, 7] }

/-- 0x3200:06: Bound outlet (06_power_sharing, Table 6.9). -/
def Obj.boundOutlet : Obj :=
  { base := 0x3200, sub := 0x06, stride := 0x1, count := 64, ty := .u 1, right := .ro, rd := 0x3F, wr := 0x00, cls := .vol, dflt := fun _ _ => 255, rng := .orOne 0 23 0xFF }

/-- 0x3200:07: Share (06_power_sharing, Table 6.9). -/
def Obj.blockShare : Obj :=
  { base := 0x3200, sub := 0x07, stride := 0x1, count := 64, ty := .u 2, right := .ro, rd := 0x3F, wr := 0x00, cls := .vol, rng := .rng 0 65535 }

/-- 0x3200:08: Withhold cause (06_power_sharing, Table 6.9). -/
def Obj.withholdCause : Obj :=
  { base := 0x3200, sub := 0x08, stride := 0x1, count := 64, ty := .u 1, right := .ro, rd := 0x3F, wr := 0x00, cls := .vol, rng := .oneOf [0, 1, 2, 3] }

/-- 0x3200:09: Clear withhold (06_power_sharing, Table 6.9). -/
def Obj.clearWithhold : Obj :=
  { base := 0x3200, sub := 0x09, stride := 0x1, count := 64, ty := .u 1, right := .wo, rd := 0x00, wr := 0x0C, cls := .vol, rng := .oneOf [1] }

/-- 0x3200:24 to 0x3200:27: Operations, reach 0 to 3 (06_power_sharing, Table 6.9). -/
def Obj.contactorOperations : Obj :=
  { base := 0x3200, sub := 0x24, nsub := 4, stride := 0x1, count := 64, ty := .u 4, right := .ro, rd := 0x3F, wr := 0x00, cls := .per, own := true }

/-- 0x3200:28 to 0x3200:2B: Openings under load, reach 0 to 3 (06_power_sharing, Table 6.9). -/
def Obj.contactorLoadOpenings : Obj :=
  { base := 0x3200, sub := 0x28, nsub := 4, stride := 0x1, count := 64, ty := .u 4, right := .ro, rd := 0x3F, wr := 0x00, cls := .per, own := true }

/-- 0x4000:01: Outlet declared (07_outlets_sessions, Table 7.12). -/
def Obj.outletDeclared : Obj :=
  { base := 0x4000, sub := 0x01, stride := 0x40, count := 24, ty := .bool, right := .rw, rd := 0x0C, wr := 0x0C, cls := .per, rng := .rng 0 1 }

/-- 0x4000:02: Mode (07_outlets_sessions, Table 7.12). -/
def Obj.outletMode : Obj :=
  { base := 0x4000, sub := 0x02, stride := 0x40, count := 24, ty := .u 1, right := .rw, rd := 0x0C, wr := 0x0C, cls := .per, rng := .oneOf [0, 1] }

/-- 0x4000:03: Proximity window low (07_outlets_sessions, Table 7.12). -/
def Obj.proximityWindowLow : Obj :=
  { base := 0x4000, sub := 0x03, stride := 0x40, count := 24, ty := .u 2, right := .rw, rd := 0x0C, wr := 0x0C, cls := .per, rng := .rng 0 10000 }

/-- 0x4000:04: Proximity window high (07_outlets_sessions, Table 7.12). -/
def Obj.proximityWindowHigh : Obj :=
  { base := 0x4000, sub := 0x04, stride := 0x40, count := 24, ty := .u 2, right := .rw, rd := 0x0C, wr := 0x0C, cls := .per, rng := .rng 0 10000 }

/-- 0x4000:05: Outlet rated current (07_outlets_sessions, Table 7.12). -/
def Obj.outletRatedCurrent : Obj :=
  { base := 0x4000, sub := 0x05, stride := 0x40, count := 24, ty := .u 2, right := .rw, rd := 0x0C, wr := 0x0C, cls := .per, rng := .rng 0 40000 }

/-- 0x4000:06: Outlet rated voltage (07_outlets_sessions, Table 7.12). -/
def Obj.outletRatedVoltage : Obj :=
  { base := 0x4000, sub := 0x06, stride := 0x40, count := 24, ty := .u 4, right := .rw, rd := 0x0C, wr := 0x0C, cls := .per, rng := .rng 0 150000 }

/-- 0x4000:07: Over-voltage level (07_outlets_sessions, Table 7.12). -/
def Obj.overVoltageLevel : Obj :=
  { base := 0x4000, sub := 0x07, stride := 0x40, count := 24, ty := .u 4, right := .rw, rd := 0x0C, wr := 0x0C, cls := .per, dflt := fun _ _ => 0x25d78, rng := .rng 0 165000 }

/-- 0x4000:09: IMD bus (07_outlets_sessions, Table 7.12). -/
def Obj.imdBus : Obj :=
  { base := 0x4000, sub := 0x09, stride := 0x40, count := 24, ty := .u 1, right := .rw, rd := 0x0C, wr := 0x0C, cls := .per, dflt := fun _ _ => 2, rng := .oneOf [2, 3] }

/-- 0x4000:0A: IMD base identifier (07_outlets_sessions, Table 7.12). -/
def Obj.imdBaseId : Obj :=
  { base := 0x4000, sub := 0x0A, stride := 0x40, count := 24, ty := .u 4, right := .rw, rd := 0x0C, wr := 0x0C, cls := .per, rng := .rng 0 536870910 }

/-- 0x4000:0B: IMD identifier format (07_outlets_sessions, Table 7.12). -/
def Obj.imdIdFormat : Obj :=
  { base := 0x4000, sub := 0x0B, stride := 0x40, count := 24, ty := .bool, right := .rw, rd := 0x0C, wr := 0x0C, cls := .per, rng := .rng 0 1 }

/-- 0x4000:0C: Protocol mask (07_outlets_sessions, Table 7.12). -/
def Obj.protocolMask : Obj :=
  { base := 0x4000, sub := 0x0C, stride := 0x40, count := 24, ty := .u 1, right := .rw, rd := 0x0C, wr := 0x0C, cls := .per, dflt := fun _ _ => 61, rng := .mask 0x3F }

/-- 0x4000:0D: Default class (07_outlets_sessions, Table 7.12). -/
def Obj.defaultClass : Obj :=
  { base := 0x4000, sub := 0x0D, stride := 0x40, count := 24, ty := .u 1, right := .rw, rd := 0x04, wr := 0x04, cls := .per, dflt := fun _ _ => 4, rng := .rng 0 7 }

/-- 0x4000:0E: Authorisation mode (07_outlets_sessions, Table 7.12). -/
def Obj.authorisationMode : Obj :=
  { base := 0x4000, sub := 0x0E, stride := 0x40, count := 24, ty := .u 1, right := .rw, rd := 0x04, wr := 0x04, cls := .per, rng := .oneOf [0, 1] }

/-- 0x4000:10: HVIL in use (07_outlets_sessions, Table 7.12). -/
def Obj.hvilInUse : Obj :=
  { base := 0x4000, sub := 0x10, stride := 0x40, count := 24, ty := .bool, right := .rw, rd := 0x0C, wr := 0x0C, cls := .per, dflt := fun _ _ => 1, rng := .rng 0 1 }

/-- 0x4001:01: Outlet state (07_outlets_sessions, Table 7.12). -/
def Obj.outletState : Obj :=
  { base := 0x4001, sub := 0x01, stride := 0x40, count := 24, ty := .u 1, right := .ro, rd := 0x3F, wr := 0x00, cls := .vol, rng := .rng 0 9 }

/-- 0x4001:02: Available (07_outlets_sessions, Table 7.12). -/
def Obj.available : Obj :=
  { base := 0x4001, sub := 0x02, stride := 0x40, count := 24, ty := .bool, right := .ro, rd := 0x3F, wr := 0x00, cls := .vol, rng := .rng 0 1 }

/-- 0x4001:03: Unavailability causes (07_outlets_sessions, Table 7.12). -/
def Obj.unavailCauses : Obj :=
  { base := 0x4001, sub := 0x03, stride := 0x40, count := 24, ty := .u 2, right := .ro, rd := 0x3F, wr := 0x00, cls := .vol, dflt := fun _ _ => 1 }

/-- 0x4001:04: Bound context (07_outlets_sessions, Table 7.12). -/
def Obj.boundContext : Obj :=
  { base := 0x4001, sub := 0x04, stride := 0x40, count := 24, ty := .u 1, right := .ro, rd := 0x3F, wr := 0x00, cls := .vol, dflt := fun _ _ => 255, rng := .orOne 0 249 0xFF }

/-- 0x4001:05: Protocol in use (07_outlets_sessions, Table 7.12). -/
def Obj.protocolInUse : Obj :=
  { base := 0x4001, sub := 0x05, stride := 0x40, count := 24, ty := .u 1, right := .ro, rd := 0x3F, wr := 0x00, cls := .vol, rng := .oneOf [0, 1, 2, 3, 4] }

/-- 0x4001:06: Last end cause (07_outlets_sessions, Table 7.12). -/
def Obj.lastEndCause : Obj :=
  { base := 0x4001, sub := 0x06, stride := 0x40, count := 24, ty := .u 1, right := .ro, rd := 0x3F, wr := 0x00, cls := .vol, rng := .rng 0 22 }

/-- 0x4001:07: Weld check outstanding (07_outlets_sessions, Table 7.12). -/
def Obj.weldOutstanding : Obj :=
  { base := 0x4001, sub := 0x07, stride := 0x40, count := 24, ty := .bool, right := .ro, rd := 0x3F, wr := 0x00, cls := .per, own := true, rng := .rng 0 1 }

/-- 0x4001:08: Weld result (07_outlets_sessions, Table 7.12). -/
def Obj.weldResult : Obj :=
  { base := 0x4001, sub := 0x08, stride := 0x40, count := 24, ty := .u 1, right := .ro, rd := 0x3F, wr := 0x00, cls := .per, own := true, rng := .oneOf [0, 1, 2, 3, 4] }

/-- 0x4001:09: Contactor feedback (07_outlets_sessions, Table 7.12). -/
def Obj.contactorFeedback : Obj :=
  { base := 0x4001, sub := 0x09, stride := 0x40, count := 24, ty := .u 1, right := .ro, rd := 0x3F, wr := 0x00, cls := .vol }

/-- 0x4001:0A: Insulation resistance (07_outlets_sessions, Table 7.12). -/
def Obj.insulationResistance : Obj :=
  { base := 0x4001, sub := 0x0A, stride := 0x40, count := 24, ty := .u 4, right := .ro, rd := 0x3F, wr := 0x00, cls := .vol }

/-- 0x4002:01: Pilot state (07_outlets_sessions, Table 7.12). -/
def Obj.pilotState : Obj :=
  { base := 0x4002, sub := 0x01, stride := 0x40, count := 24, ty := .u 1, right := .ro, rd := 0x3F, wr := 0x00, cls := .vol, rng := .oneOf [0, 1, 2, 3, 4, 5, 6] }

/-- 0x4002:02, 0x4002:03: Pilot positive, negative level (07_outlets_sessions, Table 7.12). -/
def Obj.pilotPositive : Obj :=
  { base := 0x4002, sub := 0x02, stride := 0x40, count := 24, ty := .i 2, right := .ro, rd := 0x3F, wr := 0x00, cls := .vol }

/-- 0x4002:02, 0x4002:03: Pilot positive, negative level (07_outlets_sessions, Table 7.12). -/
def Obj.pilotNegative : Obj :=
  { base := 0x4002, sub := 0x03, stride := 0x40, count := 24, ty := .i 2, right := .ro, rd := 0x3F, wr := 0x00, cls := .vol }

/-- 0x4002:04: Pilot duty applied (07_outlets_sessions, Table 7.12). -/
def Obj.pilotDutyApplied : Obj :=
  { base := 0x4002, sub := 0x04, stride := 0x40, count := 24, ty := .u 2, right := .ro, rd := 0x3F, wr := 0x00, cls := .vol, rng := .rng 0 1000 }

/-- 0x4002:05: Proximity resistance (07_outlets_sessions, Table 7.12). -/
def Obj.proximityResistance : Obj :=
  { base := 0x4002, sub := 0x05, stride := 0x40, count := 24, ty := .u 2, right := .ro, rd := 0x3F, wr := 0x00, cls := .vol }

/-- 0x4002:06: HVIL resistance (07_outlets_sessions, Table 7.12). -/
def Obj.hvilResistance : Obj :=
  { base := 0x4002, sub := 0x06, stride := 0x40, count := 24, ty := .u 2, right := .ro, rd := 0x3F, wr := 0x00, cls := .vol }

/-- 0x4002:07: SLAC mean attenuation (07_outlets_sessions, Table 7.12). -/
def Obj.slacMeanAttenuation : Obj :=
  { base := 0x4002, sub := 0x07, stride := 0x40, count := 24, ty := .u 1, right := .ro, rd := 0x3F, wr := 0x00, cls := .vol }

/-- 0x4003:01: EVCCID (07_outlets_sessions, Table 7.12). -/
def Obj.evccid : Obj :=
  { base := 0x4003, sub := 0x01, stride := 0x40, count := 24, ty := .octet, right := .ro, rd := 0x3F, wr := 0x00, cls := .vol, rng := .len 6 6 }

/-- 0x4003:02: EV maximum voltage (07_outlets_sessions, Table 7.12). -/
def Obj.evMaximumVoltage : Obj :=
  { base := 0x4003, sub := 0x02, stride := 0x40, count := 24, ty := .u 4, right := .ro, rd := 0x3F, wr := 0x00, cls := .vol }

/-- 0x4003:03: EV maximum current (07_outlets_sessions, Table 7.12). -/
def Obj.evMaximumCurrent : Obj :=
  { base := 0x4003, sub := 0x03, stride := 0x40, count := 24, ty := .u 2, right := .ro, rd := 0x3F, wr := 0x00, cls := .vol }

/-- 0x4003:04: EV target voltage (07_outlets_sessions, Table 7.12). -/
def Obj.evTargetVoltage : Obj :=
  { base := 0x4003, sub := 0x04, stride := 0x40, count := 24, ty := .u 4, right := .ro, rd := 0x3F, wr := 0x00, cls := .vol }

/-- 0x4003:05: EV target current (07_outlets_sessions, Table 7.12). -/
def Obj.evTargetCurrent : Obj :=
  { base := 0x4003, sub := 0x05, stride := 0x40, count := 24, ty := .u 2, right := .ro, rd := 0x3F, wr := 0x00, cls := .vol }

/-- 0x4003:06: State of charge (07_outlets_sessions, Table 7.12). -/
def Obj.stateOfCharge : Obj :=
  { base := 0x4003, sub := 0x06, stride := 0x40, count := 24, ty := .u 1, right := .ro, rd := 0x3F, wr := 0x00, cls := .vol, dflt := fun _ _ => 255, rng := .orOne 0 100 0xFF }

/-- 0x4003:07: EV error code (07_outlets_sessions, Table 7.12). -/
def Obj.evErrorCode : Obj :=
  { base := 0x4003, sub := 0x07, stride := 0x40, count := 24, ty := .u 1, right := .ro, rd := 0x3F, wr := 0x00, cls := .vol }

/-- 0x4003:0A: Maximum current sent (07_outlets_sessions, Table 7.12). -/
def Obj.maxCurrentSent : Obj :=
  { base := 0x4003, sub := 0x0A, stride := 0x40, count := 24, ty := .u 2, right := .ro, rd := 0x3F, wr := 0x00, cls := .vol }

/-- 0x4003:0C: Certificate request body (07_outlets_sessions, Table 7.12). -/
def Obj.certificateRequestBody : Obj :=
  { base := 0x4003, sub := 0x0C, stride := 0x40, count := 24, ty := .octet, right := .ro, rd := 0x06, wr := 0x00, cls := .vol, rng := .len 0 8192 }

/-- 0x4003:0D: Certificate response body (07_outlets_sessions, Table 7.12). -/
def Obj.certificateResponseBody : Obj :=
  { base := 0x4003, sub := 0x0D, stride := 0x40, count := 24, ty := .octet, right := .wo, rd := 0x00, wr := 0x06, cls := .vol, rng := .len 0 8192 }

/-- 0x4004:01: Insulation valid threshold (07_outlets_sessions, Table 7.12). -/
def Obj.insulationValidThreshold : Obj :=
  { base := 0x4004, sub := 0x01, stride := 0x40, count := 24, ty := .u 2, right := .rw, rd := 0x0C, wr := 0x0C, cls := .per, dflt := fun _ _ => 500, rng := .rng 100 5000 }

/-- 0x4004:02: Insulation fault threshold (07_outlets_sessions, Table 7.12). -/
def Obj.insulationFaultThreshold : Obj :=
  { base := 0x4004, sub := 0x02, stride := 0x40, count := 24, ty := .u 2, right := .rw, rd := 0x0C, wr := 0x0C, cls := .per, dflt := fun _ _ => 100, rng := .rng 100 5000 }

/-- 0x4004:03: Cable check timeout (07_outlets_sessions, Table 7.12). -/
def Obj.cableCheckTimeout : Obj :=
  { base := 0x4004, sub := 0x03, stride := 0x40, count := 24, ty := .u 2, right := .rw, rd := 0x0C, wr := 0x0C, cls := .per, dflt := fun _ _ => 30, rng := .rng 5 60 }

/-- 0x4004:04: Pre-charge timeout (07_outlets_sessions, Table 7.12). -/
def Obj.preChargeTimeout : Obj :=
  { base := 0x4004, sub := 0x04, stride := 0x40, count := 24, ty := .u 2, right := .rw, rd := 0x0C, wr := 0x0C, cls := .per, dflt := fun _ _ => 70, rng := .rng 10 300 }

/-- 0x4004:05: Pre-charge current limit (07_outlets_sessions, Table 7.12). -/
def Obj.preChargeCurrentLimit : Obj :=
  { base := 0x4004, sub := 0x05, stride := 0x40, count := 24, ty := .u 2, right := .rw, rd := 0x0C, wr := 0x0C, cls := .per, dflt := fun _ _ => 20, rng := .rng 5 100 }

/-- 0x4004:07: Weld test voltage (07_outlets_sessions, Table 7.12). -/
def Obj.weldTestVoltage : Obj :=
  { base := 0x4004, sub := 0x07, stride := 0x40, count := 24, ty := .u 2, right := .rw, rd := 0x0C, wr := 0x0C, cls := .per, dflt := fun _ _ => 1000, rng := .rng 500 5000 }

/-- 0x4004:08: Authorisation timeout (07_outlets_sessions, Table 7.12). -/
def Obj.authorisationTimeout : Obj :=
  { base := 0x4004, sub := 0x08, stride := 0x40, count := 24, ty := .u 2, right := .rw, rd := 0x04, wr := 0x04, cls := .per, dflt := fun _ _ => 60, rng := .rng 5 600 }

/-- 0x4004:09: Demand silence limit (07_outlets_sessions, Table 7.12). -/
def Obj.demandSilenceLimit : Obj :=
  { base := 0x4004, sub := 0x09, stride := 0x40, count := 24, ty := .u 2, right := .rw, rd := 0x0C, wr := 0x0C, cls := .per, dflt := fun _ _ => 1000, rng := .rng 100 5000 }

/-- 0x4004:0A: No-capacity limit (07_outlets_sessions, Table 7.12). -/
def Obj.noCapacityLimit : Obj :=
  { base := 0x4004, sub := 0x0A, stride := 0x40, count := 24, ty := .u 2, right := .rw, rd := 0x04, wr := 0x04, cls := .per, dflt := fun _ _ => 5, rng := .rng 1 60 }

/-- 0x4004:0B: Emergency open delay (07_outlets_sessions, Table 7.12). -/
def Obj.emergencyOpenDelay : Obj :=
  { base := 0x4004, sub := 0x0B, stride := 0x40, count := 24, ty := .u 2, right := .rw, rd := 0x0C, wr := 0x0C, cls := .per, dflt := fun _ _ => 1500, rng := .rng 500 5000 }

/-- 0x4005:01: Out of service (07_outlets_sessions, Table 7.12). -/
def Obj.outOfService : Obj :=
  { base := 0x4005, sub := 0x01, stride := 0x40, count := 24, ty := .bool, right := .rw, rd := 0x06, wr := 0x06, cls := .per, rng := .rng 0 1 }

/-- 0x4005:02: Stop session (07_outlets_sessions, Table 7.12). -/
def Obj.stopSession : Obj :=
  { base := 0x4005, sub := 0x02, stride := 0x40, count := 24, ty := .u 1, right := .wo, rd := 0x00, wr := 0x06, cls := .vol, rng := .oneOf [1, 2] }

/-- 0x4005:03: Clear contactor fault (07_outlets_sessions, Table 7.12). -/
def Obj.clearContactorFault : Obj :=
  { base := 0x4005, sub := 0x03, stride := 0x40, count := 24, ty := .u 1, right := .wo, rd := 0x00, wr := 0x08, cls := .vol, rng := .oneOf [1] }

/-- 0x6000:01: Context state (07_outlets_sessions, Table 7.13). -/
def Obj.ctxState : Obj :=
  { base := 0x6000, sub := 0x01, stride := 0x1, count := 250, ty := .u 1, right := .ro, rd := 0x3F, wr := 0x00, cls := .per, own := true, rng := .rng 0 6 }

/-- 0x6000:02: Session serial (07_outlets_sessions, Table 7.13). -/
def Obj.ctxSerial : Obj :=
  { base := 0x6000, sub := 0x02, stride := 0x1, count := 250, ty := .u 4, right := .ro, rd := 0x3F, wr := 0x00, cls := .per, own := true, rng := .rng 1 4294967295 }

/-- 0x6000:03: Identity kind (07_outlets_sessions, Table 7.13). -/
def Obj.ctxIdentityKind : Obj :=
  { base := 0x6000, sub := 0x03, stride := 0x1, count := 250, ty := .u 1, right := .rw, rd := 0x06, wr := 0x06, cls := .per, own := true, rng := .oneOf [0, 1, 2, 3] }

/-- 0x6000:04: Identity (07_outlets_sessions, Table 7.13). -/
def Obj.ctxIdentity : Obj :=
  { base := 0x6000, sub := 0x04, stride := 0x1, count := 250, ty := .octet, right := .rw, rd := 0x06, wr := 0x06, cls := .per, own := true, rng := .len 0 32 }

/-- 0x6000:05: Priority class (07_outlets_sessions, Table 7.13). -/
def Obj.ctxClass : Obj :=
  { base := 0x6000, sub := 0x05, stride := 0x1, count := 250, ty := .u 1, right := .rw, rd := 0x06, wr := 0x06, cls := .per, own := true, dflt := fun _ _ => 4, rng := .rng 0 7 }

/-- 0x6000:06: Energy need (07_outlets_sessions, Table 7.13). -/
def Obj.ctxEnergyNeed : Obj :=
  { base := 0x6000, sub := 0x06, stride := 0x1, count := 250, ty := .u 4, right := .rw, rd := 0x06, wr := 0x06, cls := .per, own := true, rng := .rng 0 10000000 }

/-- 0x6000:07: Departure time (07_outlets_sessions, Table 7.13). -/
def Obj.ctxDeparture : Obj :=
  { base := 0x6000, sub := 0x07, stride := 0x1, count := 250, ty := .i 8, right := .rw, rd := 0x06, wr := 0x06, cls := .per, own := true }

/-- 0x6000:08: Tariff assignment (07_outlets_sessions, Table 7.13). -/
def Obj.ctxTariff : Obj :=
  { base := 0x6000, sub := 0x08, stride := 0x1, count := 250, ty := .u 1, right := .rw, rd := 0x06, wr := 0x06, cls := .per, own := true, rng := .rng 0 15 }

/-- 0x6000:09: Outlet (07_outlets_sessions, Table 7.13). -/
def Obj.ctxOutlet : Obj :=
  { base := 0x6000, sub := 0x09, stride := 0x1, count := 250, ty := .u 1, right := .rw, rd := 0x06, wr := 0x06, cls := .per, own := true, dflt := fun _ _ => 255, rng := .orOne 0 23 0xFF }

/-- 0x6000:0A: Reservation start (07_outlets_sessions, Table 7.13). -/
def Obj.ctxReservationStart : Obj :=
  { base := 0x6000, sub := 0x0A, stride := 0x1, count := 250, ty := .i 8, right := .rw, rd := 0x06, wr := 0x06, cls := .per, own := true }

/-- 0x6000:0B: Reservation end or expiry (07_outlets_sessions, Table 7.13). -/
def Obj.ctxExpiry : Obj :=
  { base := 0x6000, sub := 0x0B, stride := 0x1, count := 250, ty := .i 8, right := .rw, rd := 0x06, wr := 0x06, cls := .per, own := true }

/-- 0x6000:0C: Authorisation (07_outlets_sessions, Table 7.13). -/
def Obj.ctxAuthorisation : Obj :=
  { base := 0x6000, sub := 0x0C, stride := 0x1, count := 250, ty := .u 1, right := .rw, rd := 0x06, wr := 0x06, cls := .per, own := true, rng := .oneOf [0, 1, 2] }

/-- 0x6000:0D: Command (07_outlets_sessions, Table 7.13). -/
def Obj.ctxCommand : Obj :=
  { base := 0x6000, sub := 0x0D, stride := 0x1, count := 250, ty := .u 1, right := .wo, rd := 0x00, wr := 0x06, cls := .vol, own := true, rng := .oneOf [1, 2, 3, 4, 5] }

/-- 0x6000:0E: Energy so far (07_outlets_sessions, Table 7.13). -/
def Obj.ctxEnergy : Obj :=
  { base := 0x6000, sub := 0x0E, stride := 0x1, count := 250, ty := .u 8, right := .ro, rd := 0x3F, wr := 0x00, cls := .vol, own := true }

/-- 0x6000:0F: End cause (07_outlets_sessions, Table 7.13). -/
def Obj.ctxEndCause : Obj :=
  { base := 0x6000, sub := 0x0F, stride := 0x1, count := 250, ty := .u 1, right := .ro, rd := 0x3F, wr := 0x00, cls := .per, own := true, rng := .rng 0 22 }

/-- 0x6000:10: Start time (07_outlets_sessions, Table 7.13). -/
def Obj.ctxStartTime : Obj :=
  { base := 0x6000, sub := 0x10, stride := 0x1, count := 250, ty := .i 8, right := .ro, rd := 0x3F, wr := 0x00, cls := .per, own := true }

/-- 0x6000:11: Metering register set (07_outlets_sessions, Table 7.13). -/
def Obj.ctxRegSet : Obj :=
  { base := 0x6000, sub := 0x11, stride := 0x1, count := 250, ty := .u 1, right := .ro, rd := 0x3F, wr := 0x00, cls := .per, own := true, dflt := fun i _ => i, rng := .rng 0 249 }

/-- 0x7100:01: Sensor type (08_thermal_cooling, Table 8.10). -/
def Obj.tcSensorType : Obj :=
  { base := 0x7100, sub := 0x01, stride := 0x1, count := 144, ty := .u 1, right := .rw, rd := 0x0C, wr := 0x0C, cls := .per, dflt := fun i _ => if 120 ≤ i ∧ i < 132 then 4 else 3 }

/-- 0x7100:02: Spare role (08_thermal_cooling, Table 8.10). -/
def Obj.tcSpareRole : Obj :=
  { base := 0x7100, sub := 0x02, stride := 0x1, count := 144, ty := .u 1, right := .rw, rd := 0x0C, wr := 0x0C, cls := .per, rng := .rng 0 3 }

/-- 0x7100:03: Assigned outlet (08_thermal_cooling, Table 8.10). -/
def Obj.tcOutlet : Obj :=
  { base := 0x7100, sub := 0x03, stride := 0x1, count := 144, ty := .u 1, right := .rw, rd := 0x0C, wr := 0x0C, cls := .per, dflt := fun _ _ => 255, rng := .orOne 0 23 0xFF }

/-- 0x7100:04: Diode ideality η (08_thermal_cooling, Table 8.10). -/
def Obj.tcIdeality : Obj :=
  { base := 0x7100, sub := 0x04, stride := 0x1, count := 144, ty := .u 2, right := .rw, rd := 0x0C, wr := 0x0C, cls := .per, dflt := fun _ _ => 10080, rng := .rng 9500 11000 }

/-- 0x7100:05: NTC B value (08_thermal_cooling, Table 8.10). -/
def Obj.tcNtcB : Obj :=
  { base := 0x7100, sub := 0x05, stride := 0x1, count := 144, ty := .u 2, right := .rw, rd := 0x0C, wr := 0x0C, cls := .per, dflt := fun _ _ => 3435, rng := .rng 2000 6000 }

/-- 0x7100:06: Offset trim (08_thermal_cooling, Table 8.10). -/
def Obj.tcTrim : Obj :=
  { base := 0x7100, sub := 0x06, stride := 0x1, count := 144, ty := .i 2, right := .rw, rd := 0x0C, wr := 0x0C, cls := .per, rng := .rng (-500) 500 }

/-- 0x7100:07: Warning level (08_thermal_cooling, Table 8.10). -/
def Obj.tcWarning : Obj :=
  { base := 0x7100, sub := 0x07, stride := 0x1, count := 144, ty := .i 2, right := .rw, rd := 0x0C, wr := 0x0C, cls := .per, dflt := fun i _ => tcLevel i 800 700 600 700 1100 800, rng := .rng (-550) 2500 }

/-- 0x7100:08: Stop level (08_thermal_cooling, Table 8.10). -/
def Obj.tcStop : Obj :=
  { base := 0x7100, sub := 0x08, stride := 0x1, count := 144, ty := .i 2, right := .rw, rd := 0x0C, wr := 0x0C, cls := .per, dflt := fun i _ => tcLevel i 900 850 650 800 1250 1000, rng := .rng (-550) 2500 }

/-- 0x7100:09: Lower window (08_thermal_cooling, Table 8.10). -/
def Obj.tcLower : Obj :=
  { base := 0x7100, sub := 0x09, stride := 0x1, count := 144, ty := .i 2, right := .rw, rd := 0x0C, wr := 0x0C, cls := .per, dflt := fun i _ => tcLevel i (-400) (-400) (-300) (-300) (-450) (-400), rng := .rng (-550) 2500 }

/-- 0x7100:0A: Hysteresis (08_thermal_cooling, Table 8.10). -/
def Obj.tcHyst : Obj :=
  { base := 0x7100, sub := 0x0A, stride := 0x1, count := 144, ty := .u 1, right := .rw, rd := 0x0C, wr := 0x0C, cls := .per, dflt := fun _ _ => 20, rng := .rng 5 100 }

/-- 0x7100:0B: Rate warning (08_thermal_cooling, Table 8.10). -/
def Obj.tcRateWarn : Obj :=
  { base := 0x7100, sub := 0x0B, stride := 0x1, count := 144, ty := .u 2, right := .rw, rd := 0x0C, wr := 0x0C, cls := .per, dflt := fun i _ => tcLevel i 100 200 200 200 0 0, rng := .rng 0 5000 }

/-- 0x7100:0C: Rate stop (08_thermal_cooling, Table 8.10). -/
def Obj.tcRateStop : Obj :=
  { base := 0x7100, sub := 0x0C, stride := 0x1, count := 144, ty := .u 2, right := .rw, rd := 0x0C, wr := 0x0C, cls := .per, dflt := fun i _ => tcLevel i 300 500 500 500 0 0, rng := .rng 0 5000 }

/-- 0x7100:0D: Filtered temperature (08_thermal_cooling, Table 8.10). -/
def Obj.tcFiltered : Obj :=
  { base := 0x7100, sub := 0x0D, stride := 0x1, count := 144, ty := .i 2, right := .ro, rd := 0x3F, wr := 0x00, cls := .vol }

/-- 0x7100:0E: Rate of rise (08_thermal_cooling, Table 8.10). -/
def Obj.tcRate : Obj :=
  { base := 0x7100, sub := 0x0E, stride := 0x1, count := 144, ty := .i 2, right := .ro, rd := 0x3F, wr := 0x00, cls := .vol }

/-- 0x7100:0F: Channel state (08_thermal_cooling, Table 8.10). -/
def Obj.tcState : Obj :=
  { base := 0x7100, sub := 0x0F, stride := 0x1, count := 144, ty := .u 1, right := .ro, rd := 0x3F, wr := 0x00, cls := .vol, rng := .rng 0 4 }

/-- 0x7100:10: Broken cause (08_thermal_cooling, Table 8.10). -/
def Obj.tcBrokenCause : Obj :=
  { base := 0x7100, sub := 0x10, stride := 0x1, count := 144, ty := .u 1, right := .ro, rd := 0x3F, wr := 0x00, cls := .vol, rng := .oneOf [0, 1] }

/-- 0x7100:11: Last raw reading (08_thermal_cooling, Table 8.10). -/
def Obj.tcRaw : Obj :=
  { base := 0x7100, sub := 0x11, stride := 0x1, count := 144, ty := .i 2, right := .ro, rd := 0x3F, wr := 0x00, cls := .vol }

/-- 0x4010:01: Loop resistance at 20 °C (08_thermal_cooling, Table 8.11). -/
def Obj.loopResistance : Obj :=
  { base := 0x4010, sub := 0x01, stride := 0x40, count := 24, ty := .u 4, right := .rw, rd := 0x0C, wr := 0x0C, cls := .per, rng := .rng 0 1000000 }

/-- 0x4010:02: Temperature coefficient α (08_thermal_cooling, Table 8.11). -/
def Obj.tempCoefficient : Obj :=
  { base := 0x4010, sub := 0x02, stride := 0x40, count := 24, ty := .u 2, right := .rw, rd := 0x0C, wr := 0x0C, cls := .per, dflt := fun _ _ => 3930, rng := .rng 0 10000 }

/-- 0x4010:03: Conductor heat capacity C_c (08_thermal_cooling, Table 8.11). -/
def Obj.heatCapacityC : Obj :=
  { base := 0x4010, sub := 0x03, stride := 0x40, count := 24, ty := .u 4, right := .rw, rd := 0x0C, wr := 0x0C, cls := .per, rng := .rng 0 1000000 }

/-- 0x4010:04: Conductance G_cc (08_thermal_cooling, Table 8.11). -/
def Obj.conductance : Obj :=
  { base := 0x4010, sub := 0x04, stride := 0x40, count := 24, ty := .u 4, right := .rw, rd := 0x0C, wr := 0x0C, cls := .per, rng := .rng 0 1000000 }

/-- 0x4010:05: Coolant heat capacity C_k (08_thermal_cooling, Table 8.11). -/
def Obj.heatCapacityK : Obj :=
  { base := 0x4010, sub := 0x05, stride := 0x40, count := 24, ty := .u 4, right := .rw, rd := 0x0C, wr := 0x0C, cls := .per, rng := .rng 0 1000000 }

/-- 0x4010:06: Coolant volumetric heat capacity ρc_p (08_thermal_cooling, Table 8.11). -/
def Obj.volumetricHeat : Obj :=
  { base := 0x4010, sub := 0x06, stride := 0x40, count := 24, ty := .u 2, right := .rw, rd := 0x0C, wr := 0x0C, cls := .per, dflt := fun _ _ => 3600, rng := .rng 500 5000 }

/-- 0x4010:07: Conductor limit θ_lim (08_thermal_cooling, Table 8.11). -/
def Obj.conductorLimit : Obj :=
  { base := 0x4010, sub := 0x07, stride := 0x40, count := 24, ty := .i 2, right := .rw, rd := 0x0C, wr := 0x0C, cls := .per, dflt := fun _ _ => 900, rng := .rng 400 1500 }

/-- 0x4010:08: Prediction horizon H (08_thermal_cooling, Table 8.11). -/
def Obj.predictionHorizon : Obj :=
  { base := 0x4010, sub := 0x08, stride := 0x40, count := 24, ty := .u 1, right := .rw, rd := 0x0C, wr := 0x0C, cls := .per, dflt := fun _ _ => 10, rng := .rng 1 60 }

/-- 0x4010:09: Model valid (08_thermal_cooling, Table 8.11). -/
def Obj.modelValid : Obj :=
  { base := 0x4010, sub := 0x09, stride := 0x40, count := 24, ty := .bool, right := .ro, rd := 0x3F, wr := 0x00, cls := .vol, rng := .rng 0 1 }

/-- 0x4011:01: Conductor temperature θ_c (08_thermal_cooling, Table 8.11). -/
def Obj.thetaC : Obj :=
  { base := 0x4011, sub := 0x01, stride := 0x40, count := 24, ty := .i 2, right := .ro, rd := 0x3F, wr := 0x00, cls := .vol }

/-- 0x4011:02: Coolant temperature θ_k (08_thermal_cooling, Table 8.11). -/
def Obj.thetaK : Obj :=
  { base := 0x4011, sub := 0x02, stride := 0x40, count := 24, ty := .i 2, right := .ro, rd := 0x3F, wr := 0x00, cls := .vol }

/-- 0x4011:03: Coolant rate dk (08_thermal_cooling, Table 8.11). -/
def Obj.coolantRate : Obj :=
  { base := 0x4011, sub := 0x03, stride := 0x40, count := 24, ty := .i 2, right := .ro, rd := 0x3F, wr := 0x00, cls := .vol }

/-- 0x4011:04: Predicted conductor temperature (08_thermal_cooling, Table 8.11). -/
def Obj.predictedTheta : Obj :=
  { base := 0x4011, sub := 0x04, stride := 0x40, count := 24, ty := .i 2, right := .ro, rd := 0x3F, wr := 0x00, cls := .vol }

/-- 0x4011:05: Cable limit (08_thermal_cooling, Table 8.11). -/
def Obj.cableLimit : Obj :=
  { base := 0x4011, sub := 0x05, stride := 0x40, count := 24, ty := .u 2, right := .ro, rd := 0x3F, wr := 0x00, cls := .vol, rng := .rng 0 40000 }

/-- 0x4011:06: Connector limit (08_thermal_cooling, Table 8.11). -/
def Obj.connectorLimit : Obj :=
  { base := 0x4011, sub := 0x06, stride := 0x40, count := 24, ty := .u 2, right := .ro, rd := 0x3F, wr := 0x00, cls := .vol, rng := .rng 0 40000 }

/-- 0x4011:07: Thermal stop causes (08_thermal_cooling, Table 8.11). -/
def Obj.thermalStopCauses : Obj :=
  { base := 0x4011, sub := 0x07, stride := 0x40, count := 24, ty := .u 2, right := .ro, rd := 0x3F, wr := 0x00, cls := .vol }

/-- 0x4011:08: Connector limit frozen (08_thermal_cooling, Table 8.11). -/
def Obj.connectorLimitFrozen : Obj :=
  { base := 0x4011, sub := 0x08, stride := 0x40, count := 24, ty := .bool, right := .ro, rd := 0x3F, wr := 0x00, cls := .vol, rng := .rng 0 1 }

/-- 0x4011:09: Flow used by the model (08_thermal_cooling, Table 8.11). -/
def Obj.flowUsed : Obj :=
  { base := 0x4011, sub := 0x09, stride := 0x40, count := 24, ty := .u 2, right := .ro, rd := 0x3F, wr := 0x00, cls := .vol }

/-- 0x4012:01: Pump actuator (08_thermal_cooling, Table 8.11). -/
def Obj.pumpActuator : Obj :=
  { base := 0x4012, sub := 0x01, stride := 0x40, count := 24, ty := .u 1, right := .rw, rd := 0x0C, wr := 0x0C, cls := .per, rng := .oneOf [0, 1] }

/-- 0x4012:02: Pump drive channel (08_thermal_cooling, Table 8.11). -/
def Obj.pumpDriveChannel : Obj :=
  { base := 0x4012, sub := 0x02, stride := 0x40, count := 24, ty := .u 1, right := .rw, rd := 0x0C, wr := 0x0C, cls := .per, dflt := fun _ _ => 255, rng := .orOne 48 63 0xFF }

/-- 0x4012:03: Flow source (08_thermal_cooling, Table 8.11). -/
def Obj.flowSource : Obj :=
  { base := 0x4012, sub := 0x03, stride := 0x40, count := 24, ty := .u 1, right := .rw, rd := 0x0C, wr := 0x0C, cls := .per, rng := .oneOf [0, 1] }

/-- 0x4012:04: Flow at full command Q100 (08_thermal_cooling, Table 8.11). -/
def Obj.flowQ100 : Obj :=
  { base := 0x4012, sub := 0x04, stride := 0x40, count := 24, ty := .u 2, right := .rw, rd := 0x0C, wr := 0x0C, cls := .per, rng := .rng 0 20000 }

/-- 0x4012:05: Minimum flow in session Q_min (08_thermal_cooling, Table 8.11). -/
def Obj.flowQmin : Obj :=
  { base := 0x4012, sub := 0x05, stride := 0x40, count := 24, ty := .u 2, right := .rw, rd := 0x0C, wr := 0x0C, cls := .per, rng := .rng 0 20000 }

/-- 0x4012:06: Maximum flow Q_max (08_thermal_cooling, Table 8.11). -/
def Obj.flowQmax : Obj :=
  { base := 0x4012, sub := 0x06, stride := 0x40, count := 24, ty := .u 2, right := .rw, rd := 0x0C, wr := 0x0C, cls := .per, rng := .rng 0 20000 }

/-- 0x4012:07: Idle flow Q_idle (08_thermal_cooling, Table 8.11). -/
def Obj.flowQidle : Obj :=
  { base := 0x4012, sub := 0x07, stride := 0x40, count := 24, ty := .u 2, right := .rw, rd := 0x0C, wr := 0x0C, cls := .per, rng := .rng 0 20000 }

/-- 0x4012:08: Flow ramp start θ_q0 (08_thermal_cooling, Table 8.11). -/
def Obj.flowTheta0 : Obj :=
  { base := 0x4012, sub := 0x08, stride := 0x40, count := 24, ty := .i 2, right := .rw, rd := 0x0C, wr := 0x0C, cls := .per, dflt := fun _ _ => 600, rng := .rng 0 1500 }

/-- 0x4012:09: Flow ramp end θ_q1 (08_thermal_cooling, Table 8.11). -/
def Obj.flowTheta1 : Obj :=
  { base := 0x4012, sub := 0x09, stride := 0x40, count := 24, ty := .i 2, right := .rw, rd := 0x0C, wr := 0x0C, cls := .per, dflt := fun _ _ => 800, rng := .rng 10 1500 }

/-- 0x4012:0A: Valve actuator (08_thermal_cooling, Table 8.11). -/
def Obj.valveActuator : Obj :=
  { base := 0x4012, sub := 0x0A, stride := 0x40, count := 24, ty := .u 1, right := .rw, rd := 0x0C, wr := 0x0C, cls := .per, rng := .oneOf [0, 1, 2] }

/-- 0x4012:0B: Valve drive channel (08_thermal_cooling, Table 8.11). -/
def Obj.valveDriveChannel : Obj :=
  { base := 0x4012, sub := 0x0B, stride := 0x40, count := 24, ty := .u 1, right := .rw, rd := 0x0C, wr := 0x0C, cls := .per, dflt := fun _ _ => 255, rng := .orOne 48 63 0xFF }

/-- 0x4012:0C: Coolant supply target (08_thermal_cooling, Table 8.11). -/
def Obj.coolantSupplyTarget : Obj :=
  { base := 0x4012, sub := 0x0C, stride := 0x40, count := 24, ty := .i 2, right := .rw, rd := 0x0C, wr := 0x0C, cls := .per, dflt := fun _ _ => 350, rng := .rng 50 600 }

/-- 0x4012:0D: Flow target (08_thermal_cooling, Table 8.11). -/
def Obj.flowTarget : Obj :=
  { base := 0x4012, sub := 0x0D, stride := 0x40, count := 24, ty := .u 2, right := .ro, rd := 0x3F, wr := 0x00, cls := .vol }

/-- 0x4012:0E: Pump command applied (08_thermal_cooling, Table 8.11). -/
def Obj.pumpCommandApplied : Obj :=
  { base := 0x4012, sub := 0x0E, stride := 0x40, count := 24, ty := .u 2, right := .ro, rd := 0x3F, wr := 0x00, cls := .vol, rng := .rng 0 10000 }

/-- 0x4012:0F: Valve command applied (08_thermal_cooling, Table 8.11). -/
def Obj.valveCommandApplied : Obj :=
  { base := 0x4012, sub := 0x0F, stride := 0x40, count := 24, ty := .u 2, right := .ro, rd := 0x3F, wr := 0x00, cls := .vol, rng := .rng 0 10000 }

/-- 0x4013:01: Coolant unit bus (08_thermal_cooling, Table 8.11). -/
def Obj.coolantBus : Obj :=
  { base := 0x4013, sub := 0x01, stride := 0x40, count := 24, ty := .u 1, right := .rw, rd := 0x0C, wr := 0x0C, cls := .per, dflt := fun _ _ => 255, rng := .oneOf [2, 3, 0xFF] }

/-- 0x4013:02: Coolant unit base identifier (08_thermal_cooling, Table 8.11). -/
def Obj.coolantBaseId : Obj :=
  { base := 0x4013, sub := 0x02, stride := 0x40, count := 24, ty := .u 4, right := .rw, rd := 0x0C, wr := 0x0C, cls := .per, rng := .rng 0 536870910 }

/-- 0x4013:03: Coolant unit identifier format (08_thermal_cooling, Table 8.11). -/
def Obj.coolantIdFormat : Obj :=
  { base := 0x4013, sub := 0x03, stride := 0x40, count := 24, ty := .bool, right := .rw, rd := 0x0C, wr := 0x0C, cls := .per, rng := .rng 0 1 }

/-- 0x4013:04: Last unit status (08_thermal_cooling, Table 8.11). -/
def Obj.coolantStatus : Obj :=
  { base := 0x4013, sub := 0x04, stride := 0x40, count := 24, ty := .u 1, right := .ro, rd := 0x3F, wr := 0x00, cls := .vol }

/-- 0x4013:05: Coolant unit silent (08_thermal_cooling, Table 8.11). -/
def Obj.coolantSilent : Obj :=
  { base := 0x4013, sub := 0x05, stride := 0x40, count := 24, ty := .bool, right := .ro, rd := 0x3F, wr := 0x00, cls := .vol, rng := .rng 0 1 }

/-- 0x3008:01: Phase derating start (08_thermal_cooling, Table 8.12). -/
def Obj.phaseDeratingStart : Obj :=
  { base := 0x3008, sub := 0x01, stride := 0x20, count := 16, ty := .i 2, right := .rw, rd := 0x0C, wr := 0x0C, cls := .per, dflt := fun _ _ => 1000, rng := .rng 0 1500 }

/-- 0x3008:02: Phase stop (08_thermal_cooling, Table 8.12). -/
def Obj.phaseStop : Obj :=
  { base := 0x3008, sub := 0x02, stride := 0x20, count := 16, ty := .i 2, right := .rw, rd := 0x0C, wr := 0x0C, cls := .per, dflt := fun _ _ => 1250, rng := .rng 10 1500 }

/-- 0x3008:03: Coolant inlet derating start (08_thermal_cooling, Table 8.12). -/
def Obj.coolantInletDeratingStart : Obj :=
  { base := 0x3008, sub := 0x03, stride := 0x20, count := 16, ty := .i 2, right := .rw, rd := 0x0C, wr := 0x0C, cls := .per, dflt := fun _ _ => 500, rng := .rng 0 1000 }

/-- 0x3008:04: Coolant inlet stop (08_thermal_cooling, Table 8.12). -/
def Obj.coolantInletStop : Obj :=
  { base := 0x3008, sub := 0x04, stride := 0x20, count := 16, ty := .i 2, right := .rw, rd := 0x0C, wr := 0x0C, cls := .per, dflt := fun _ _ => 600, rng := .rng 10 1000 }

/-- 0x3008:05: Air warning (08_thermal_cooling, Table 8.12). -/
def Obj.airWarning : Obj :=
  { base := 0x3008, sub := 0x05, stride := 0x20, count := 16, ty := .i 2, right := .rw, rd := 0x0C, wr := 0x0C, cls := .per, dflt := fun _ _ => 600, rng := .rng 0 1000 }

/-- 0x3008:06: Terminal die warning (08_thermal_cooling, Table 8.12). -/
def Obj.terminalDieWarning : Obj :=
  { base := 0x3008, sub := 0x06, stride := 0x20, count := 16, ty := .i 2, right := .rw, rd := 0x0C, wr := 0x0C, cls := .per, dflt := fun _ _ => 1000, rng := .rng 0 1500 }

/-- 0x3008:07: Highest phase temperature (08_thermal_cooling, Table 8.12). -/
def Obj.highestPhaseTemp : Obj :=
  { base := 0x3008, sub := 0x07, stride := 0x20, count := 16, ty := .i 2, right := .ro, rd := 0x3F, wr := 0x00, cls := .vol }

/-- 0x3008:08: Coolant inlet temperature (08_thermal_cooling, Table 8.12). -/
def Obj.coolantInletTemp : Obj :=
  { base := 0x3008, sub := 0x08, stride := 0x20, count := 16, ty := .i 2, right := .ro, rd := 0x3F, wr := 0x00, cls := .vol }

/-- 0x3200:2C: Cabinet thermal limit (08_thermal_cooling, Table 8.12). -/
def Obj.cabinetThermalLimit : Obj :=
  { base := 0x3200, sub := 0x2C, stride := 0x1, count := 64, ty := .u 2, right := .ro, rd := 0x3F, wr := 0x00, cls := .vol, rng := .rng 0 20000 }

/-- 0x2410:01: Journal writes permitted (08_thermal_cooling, Table 8.12). -/
def Obj.journalWritesPermitted : Obj :=
  { base := 0x2410, sub := 0x01, ty := .bool, right := .ro, rd := 0x3F, wr := 0x00, cls := .vol, rng := .rng 0 1 }

/-- 0x2410:02: Flash writes permitted (08_thermal_cooling, Table 8.12). -/
def Obj.flashWritesPermitted : Obj :=
  { base := 0x2410, sub := 0x02, ty := .bool, right := .ro, rd := 0x3F, wr := 0x00, cls := .vol, rng := .rng 0 1 }

/-- 0x2410:03: Battery-domain shadow in use (08_thermal_cooling, Table 8.12). -/
def Obj.batteryDomainShadowInUse : Obj :=
  { base := 0x2410, sub := 0x03, ty := .u 2, right := .ro, rd := 0x3F, wr := 0x00, cls := .vol, rng := .rng 0 256 }

/-- 0x2410:04: Event entries dropped (08_thermal_cooling, Table 8.12). -/
def Obj.eventEntriesDropped : Obj :=
  { base := 0x2410, sub := 0x04, ty := .u 4, right := .ro, rd := 0x3F, wr := 0x00, cls := .vol }

/-- 0x8000:01: Metrology firmware version (09_metering, Table 9.8). -/
def Obj.metrologyFirmwareVersion : Obj :=
  { base := 0x8000, sub := 0x01, ty := .u 4, right := .ro, rd := 0x3F, wr := 0x00, cls := .vol }

/-- 0x8000:02: Metrology image CRC-32 (09_metering, Table 9.8). -/
def Obj.metrologyImageCRC32 : Obj :=
  { base := 0x8000, sub := 0x02, ty := .u 4, right := .ro, rd := 0x3F, wr := 0x00, cls := .vol }

/-- 0x8000:03: Metrology image SHA-256 (09_metering, Table 9.8). -/
def Obj.metrologyImageSHA256 : Obj :=
  { base := 0x8000, sub := 0x03, ty := .octet, right := .ro, rd := 0x3F, wr := 0x00, cls := .vol, rng := .len 32 32 }

/-- 0x8000:04: Seal open (09_metering, Table 9.8). -/
def Obj.sealOpen : Obj :=
  { base := 0x8000, sub := 0x04, ty := .bool, right := .ro, rd := 0x3F, wr := 0x00, cls := .vol, rng := .rng 0 1 }

/-- 0x8000:05: Audit entries used (09_metering, Table 9.8). -/
def Obj.auditEntriesUsed : Obj :=
  { base := 0x8000, sub := 0x05, ty := .u 2, right := .ro, rd := 0x3F, wr := 0x00, cls := .per, own := true, rng := .rng 0 1024 }

/-- 0x8000:06: Last audit sequence (09_metering, Table 9.8). -/
def Obj.lastAuditSequence : Obj :=
  { base := 0x8000, sub := 0x06, ty := .u 4, right := .ro, rd := 0x3F, wr := 0x00, cls := .per, own := true }

/-- 0x8000:07: Audit entry selector (09_metering, Table 9.8). -/
def Obj.auditEntrySelector : Obj :=
  { base := 0x8000, sub := 0x07, ty := .u 2, right := .rw, rd := 0x3F, wr := 0x3F, cls := .vol, rng := .rng 0 1023 }

/-- 0x8000:08: Audit entry (09_metering, Table 9.8). -/
def Obj.auditEntry : Obj :=
  { base := 0x8000, sub := 0x08, ty := .octet, right := .ro, rd := 0x3F, wr := 0x00, cls := .vol, rng := .len 48 48 }

/-- 0x8001:01: Metrology image write offset (09_metering, Table 9.8). -/
def Obj.metrologyImageWriteOffset : Obj :=
  { base := 0x8001, sub := 0x01, ty := .u 4, right := .seal, rd := 0x10, wr := 0x10, cls := .vol }

/-- 0x8001:02: Metrology image data (09_metering, Table 9.8). -/
def Obj.metrologyImageData : Obj :=
  { base := 0x8001, sub := 0x02, ty := .octet, right := .sealWo, rd := 0x00, wr := 0x10, cls := .vol, rng := .len 1 65536 }

/-- 0x8001:03: Activate metrology image (09_metering, Table 9.8). -/
def Obj.activateMetrologyImage : Obj :=
  { base := 0x8001, sub := 0x03, ty := .u 1, right := .sealWo, rd := 0x00, wr := 0x10, cls := .vol, rng := .oneOf [1] }

/-- 0x8010:01: Last judged window end (09_metering, Table 9.8). -/
def Obj.lastJudgedWindowEnd : Obj :=
  { base := 0x8010, sub := 0x01, ty := .i 8, right := .ro, rd := 0x3F, wr := 0x00, cls := .vol }

/-- 0x8010:02: Largest difference, last window (09_metering, Table 9.8). -/
def Obj.largestDifferenceLastWindow : Obj :=
  { base := 0x8010, sub := 0x02, ty := .u 4, right := .ro, rd := 0x3F, wr := 0x00, cls := .vol }

/-- 0x8010:03: Windows over limit (09_metering, Table 9.8). -/
def Obj.windowsOverLimit : Obj :=
  { base := 0x8010, sub := 0x03, ty := .u 4, right := .ro, rd := 0x3F, wr := 0x00, cls := .per, own := true }

/-- 0x8010:04: Cross-check limit (09_metering, Table 9.8). -/
def Obj.crossCheckLimit : Obj :=
  { base := 0x8010, sub := 0x04, ty := .u 2, right := .seal, rd := 0x10, wr := 0x10, cls := .seal, dflt := fun _ _ => 2000, rng := .rng 500 10000 }

/-- 0x8020:01: Theft threshold (09_metering, Table 9.8). -/
def Obj.theftThreshold : Obj :=
  { base := 0x8020, sub := 0x01, ty := .u 2, right := .seal, rd := 0x10, wr := 0x10, cls := .seal, dflt := fun _ _ => 50, rng := .rng 10 1000 }

/-- 0x8020:02: Theft entries in use (09_metering, Table 9.8). -/
def Obj.theftEntriesInUse : Obj :=
  { base := 0x8020, sub := 0x02, ty := .u 1, right := .ro, rd := 0x3F, wr := 0x00, cls := .bat, rng := .rng 0 64 }

/-- 0x8020:03: Theft log overflow count (09_metering, Table 9.8). -/
def Obj.theftLogOverflowCount : Obj :=
  { base := 0x8020, sub := 0x03, ty := .u 4, right := .ro, rd := 0x3F, wr := 0x00, cls := .bat }

/-- 0x8020:04: Theft entry selector (09_metering, Table 9.8). -/
def Obj.theftEntrySelector : Obj :=
  { base := 0x8020, sub := 0x04, ty := .u 1, right := .rw, rd := 0x3F, wr := 0x3F, cls := .vol, rng := .rng 0 63 }

/-- 0x8020:05: Theft entry (09_metering, Table 9.8). -/
def Obj.theftEntry : Obj :=
  { base := 0x8020, sub := 0x05, ty := .octet, right := .ro, rd := 0x3F, wr := 0x00, cls := .bat, rng := .len 32 32 }

/-- 0x8020:06: Clear theft log (09_metering, Table 9.8). -/
def Obj.clearTheftLog : Obj :=
  { base := 0x8020, sub := 0x06, ty := .u 1, right := .wo, rd := 0x00, wr := 0x14, cls := .vol, rng := .oneOf [1] }

/-- 0x8030:01: Pulse source (09_metering, Table 9.8). -/
def Obj.pulseSource : Obj :=
  { base := 0x8030, sub := 0x01, stride := 0x1, count := 4, ty := .u 2, right := .rw, rd := 0x14, wr := 0x14, cls := .per }

/-- 0x8030:02: Pulse constant c (09_metering, Table 9.8). -/
def Obj.pulseConstant : Obj :=
  { base := 0x8030, sub := 0x02, stride := 0x1, count := 4, ty := .u 4, right := .rw, rd := 0x14, wr := 0x14, cls := .per, dflt := fun _ _ => 1000, rng := .rng 1 1000000 }

/-- 0x8030:03: Configured width W (09_metering, Table 9.8). -/
def Obj.pulseWidth : Obj :=
  { base := 0x8030, sub := 0x03, stride := 0x1, count := 4, ty := .u 2, right := .rw, rd := 0x14, wr := 0x14, cls := .per, dflt := fun _ _ => 30, rng := .rng 1 100 }

/-- 0x8030:04: Pulses owed (09_metering, Table 9.8). -/
def Obj.pulsesOwed : Obj :=
  { base := 0x8030, sub := 0x04, stride := 0x1, count := 4, ty := .u 4, right := .ro, rd := 0x3F, wr := 0x00, cls := .vol }

/-- 0x8030:05: Pulse flags (09_metering, Table 9.8). -/
def Obj.pulseFlags : Obj :=
  { base := 0x8030, sub := 0x05, stride := 0x1, count := 4, ty := .u 1, right := .ro, rd := 0x3F, wr := 0x00, cls := .vol }

/-- 0x8030:06: Pulses emitted (09_metering, Table 9.8). -/
def Obj.pulsesEmitted : Obj :=
  { base := 0x8030, sub := 0x06, stride := 0x1, count := 4, ty := .u 4, right := .ro, rd := 0x3F, wr := 0x00, cls := .per, own := true }

/-- 0x8100:01: Voltage scale (09_metering, Table 9.9). -/
def Obj.voltageScale : Obj :=
  { base := 0x8100, sub := 0x01, stride := 0x1, count := 24, ty := .f32, right := .seal, rd := 0x10, wr := 0x10, cls := .seal, dflt := fun _ _ => 0x44ea6000, rng := .scale }

/-- 0x8100:02: Voltage offset (09_metering, Table 9.9). -/
def Obj.voltageOffset : Obj :=
  { base := 0x8100, sub := 0x02, stride := 0x1, count := 24, ty := .i 4, right := .seal, rd := 0x10, wr := 0x10, cls := .seal, rng := .rng (-10000) 10000 }

/-- 0x8100:03: Current scale (09_metering, Table 9.9). -/
def Obj.currentScale : Obj :=
  { base := 0x8100, sub := 0x03, stride := 0x1, count := 24, ty := .f32, right := .seal, rd := 0x10, wr := 0x10, cls := .seal, dflt := fun _ _ => 0x456a6000, rng := .scale }

/-- 0x8100:04: Current offset (09_metering, Table 9.9). -/
def Obj.currentOffset : Obj :=
  { base := 0x8100, sub := 0x04, stride := 0x1, count := 24, ty := .i 4, right := .seal, rd := 0x10, wr := 0x10, cls := .seal, rng := .rng (-10000) 10000 }

/-- 0x8100:05: Starting current (09_metering, Table 9.9). -/
def Obj.startingCurrent : Obj :=
  { base := 0x8100, sub := 0x05, stride := 0x1, count := 24, ty := .u 2, right := .seal, rd := 0x10, wr := 0x10, cls := .seal, dflt := fun _ _ => 10, rng := .rng 1 100 }

/-- 0x8200:01, 0x8200:02: Voltage, current (09_metering, Table 9.9). -/
def Obj.dcVoltage : Obj :=
  { base := 0x8200, sub := 0x01, stride := 0x1, count := 24, ty := .i 4, right := .ro, rd := 0x3F, wr := 0x00, cls := .vol }

/-- 0x8200:01, 0x8200:02: Voltage, current (09_metering, Table 9.9). -/
def Obj.dcCurrent : Obj :=
  { base := 0x8200, sub := 0x02, stride := 0x1, count := 24, ty := .i 4, right := .ro, rd := 0x3F, wr := 0x00, cls := .vol }

/-- 0x8200:03 to 0x8200:05: 1 s mean voltage, current, power (09_metering, Table 9.9). -/
def Obj.dcMeanVoltage : Obj :=
  { base := 0x8200, sub := 0x03, stride := 0x1, count := 24, ty := .i 4, right := .ro, rd := 0x3F, wr := 0x00, cls := .vol }

/-- 0x8200:03 to 0x8200:05: 1 s mean voltage, current, power (09_metering, Table 9.9). -/
def Obj.dcMeanCurrent : Obj :=
  { base := 0x8200, sub := 0x04, stride := 0x1, count := 24, ty := .i 4, right := .ro, rd := 0x3F, wr := 0x00, cls := .vol }

/-- 0x8200:03 to 0x8200:05: 1 s mean voltage, current, power (09_metering, Table 9.9). -/
def Obj.dcMeanPower : Obj :=
  { base := 0x8200, sub := 0x05, stride := 0x1, count := 24, ty := .i 4, right := .ro, rd := 0x3F, wr := 0x00, cls := .vol }

/-- 0x8200:06: Import energy (09_metering, Table 9.9). -/
def Obj.dcImport : Obj :=
  { base := 0x8200, sub := 0x06, stride := 0x1, count := 24, ty := .octet, right := .ro, rd := 0x3F, wr := 0x00, cls := .bat, rng := .len 10 10 }

/-- 0x8200:07: Export energy (09_metering, Table 9.9). -/
def Obj.dcExport : Obj :=
  { base := 0x8200, sub := 0x07, stride := 0x1, count := 24, ty := .octet, right := .ro, rd := 0x3F, wr := 0x00, cls := .bat, rng := .len 10 10 }

/-- 0x8200:08: Import charge (09_metering, Table 9.9). -/
def Obj.dcCharge : Obj :=
  { base := 0x8200, sub := 0x08, stride := 0x1, count := 24, ty := .octet, right := .ro, rd := 0x3F, wr := 0x00, cls := .bat, rng := .len 10 10 }

/-- 0x8200:09 to 0x8200:0E: Highest voltage, its time; highest current, its time; highest power, its time (09_metering, Table 9.9). -/
def Obj.dcHighest : Obj :=
  { base := 0x8200, sub := 0x09, nsub := 3, subStep := 2, stride := 0x1, count := 24, ty := .i 4, right := .ro, rd := 0x3F, wr := 0x00, cls := .bat }

/-- 0x8200:09 to 0x8200:0E: Highest voltage, its time; highest current, its time; highest power, its time (09_metering, Table 9.9). -/
def Obj.dcHighestTime : Obj :=
  { base := 0x8200, sub := 0x0A, nsub := 3, subStep := 2, stride := 0x1, count := 24, ty := .i 8, right := .ro, rd := 0x3F, wr := 0x00, cls := .bat }

/-- 0x8200:0F: Overload time (09_metering, Table 9.9). -/
def Obj.overloadTime : Obj :=
  { base := 0x8200, sub := 0x0F, stride := 0x1, count := 24, ty := .u 4, right := .ro, rd := 0x3F, wr := 0x00, cls := .bat }

/-- 0x8200:10: Theft charge (09_metering, Table 9.9). -/
def Obj.theftCharge : Obj :=
  { base := 0x8200, sub := 0x10, stride := 0x1, count := 24, ty := .u 4, right := .ro, rd := 0x3F, wr := 0x00, cls := .bat }

/-- 0x8200:11: Channel status (09_metering, Table 9.9). -/
def Obj.dcStatus : Obj :=
  { base := 0x8200, sub := 0x11, stride := 0x1, count := 24, ty := .u 1, right := .ro, rd := 0x3F, wr := 0x00, cls := .vol }

/-- 0x8300:01: Nominal phase voltage (09_metering, Table 9.10). -/
def Obj.nominalPhaseVoltage : Obj :=
  { base := 0x8300, sub := 0x01, stride := 0x1, count := 4, ty := .u 2, right := .rw, rd := 0x0C, wr := 0x0C, cls := .per, dflt := fun _ _ => 2300, rng := .rng 1000 4000 }

/-- 0x8300:02: Nominal frequency (09_metering, Table 9.10). -/
def Obj.nominalFrequency : Obj :=
  { base := 0x8300, sub := 0x02, stride := 0x1, count := 4, ty := .u 1, right := .rw, rd := 0x0C, wr := 0x0C, cls := .per, dflt := fun _ _ => 50, rng := .oneOf [50, 60] }

/-- 0x8300:03 to 0x8300:05: Voltage scales L1 to L3 (09_metering, Table 9.10). -/
def Obj.afVoltageScale : Obj :=
  { base := 0x8300, sub := 0x03, nsub := 3, stride := 0x1, count := 4, ty := .f32, right := .seal, rd := 0x10, wr := 0x10, cls := .seal, dflt := fun _ _ => 0x447a0000, rng := .scale }

/-- 0x8300:06 to 0x8300:09: Current scales L1 to L3, neutral (09_metering, Table 9.10). -/
def Obj.afCurrentScale : Obj :=
  { base := 0x8300, sub := 0x06, nsub := 4, stride := 0x1, count := 4, ty := .f32, right := .seal, rd := 0x10, wr := 0x10, cls := .seal, dflt := fun _ _ => 0x447a0000, rng := .scale }

/-- 0x8300:0A to 0x8300:0C: Phase trims L1 to L3 (09_metering, Table 9.10). -/
def Obj.afPhaseTrim : Obj :=
  { base := 0x8300, sub := 0x0A, nsub := 3, stride := 0x1, count := 4, ty := .i 2, right := .seal, rd := 0x10, wr := 0x10, cls := .seal, rng := .rng (-10000) 10000 }

/-- 0x8300:0D: Starting power (09_metering, Table 9.10). -/
def Obj.afStartingPower : Obj :=
  { base := 0x8300, sub := 0x0D, stride := 0x1, count := 4, ty := .u 2, right := .seal, rd := 0x10, wr := 0x10, cls := .seal, dflt := fun _ _ => 10, rng := .rng 1 100 }

/-- 0x8300:0E: Neutral mismatch level (09_metering, Table 9.10). -/
def Obj.neutralMismatchLevel : Obj :=
  { base := 0x8300, sub := 0x0E, stride := 0x1, count := 4, ty := .u 2, right := .rw, rd := 0x04, wr := 0x04, cls := .per, dflt := fun _ _ => 500, rng := .rng 10 5000 }

/-- 0x8340:01 to 0x8340:03: RMS voltage L1 to L3 (09_metering, Table 9.10). -/
def Obj.afVoltage : Obj :=
  { base := 0x8340, sub := 0x01, nsub := 3, stride := 0x1, count := 4, ty := .u 4, right := .ro, rd := 0x3F, wr := 0x00, cls := .vol }

/-- 0x8340:04 to 0x8340:07: RMS current L1 to L3, neutral (09_metering, Table 9.10). -/
def Obj.afCurrent : Obj :=
  { base := 0x8340, sub := 0x04, nsub := 4, stride := 0x1, count := 4, ty := .u 4, right := .ro, rd := 0x3F, wr := 0x00, cls := .vol }

/-- 0x8340:08: Frequency (09_metering, Table 9.10). -/
def Obj.afFrequency : Obj :=
  { base := 0x8340, sub := 0x08, stride := 0x1, count := 4, ty := .u 4, right := .ro, rd := 0x3F, wr := 0x00, cls := .vol }

/-- 0x8340:09, 0x8340:0A: Active, reactive power total (09_metering, Table 9.10). -/
def Obj.afActivePower : Obj :=
  { base := 0x8340, sub := 0x09, stride := 0x1, count := 4, ty := .i 4, right := .ro, rd := 0x3F, wr := 0x00, cls := .vol }

/-- 0x8340:09, 0x8340:0A: Active, reactive power total (09_metering, Table 9.10). -/
def Obj.afReactivePower : Obj :=
  { base := 0x8340, sub := 0x0A, stride := 0x1, count := 4, ty := .i 4, right := .ro, rd := 0x3F, wr := 0x00, cls := .vol }

/-- 0x8340:0B to 0x8340:0D: Active power L1 to L3 (09_metering, Table 9.10). -/
def Obj.afPhasePower : Obj :=
  { base := 0x8340, sub := 0x0B, nsub := 3, stride := 0x1, count := 4, ty := .i 4, right := .ro, rd := 0x3F, wr := 0x00, cls := .vol }

/-- 0x8340:0E: No mains (09_metering, Table 9.10). -/
def Obj.noMains : Obj :=
  { base := 0x8340, sub := 0x0E, stride := 0x1, count := 4, ty := .bool, right := .ro, rd := 0x3F, wr := 0x00, cls := .vol, dflt := fun _ _ => 1, rng := .rng 0 1 }

/-- 0x8340:0F to 0x8340:12: Import, export, inductive, capacitive energy (09_metering, Table 9.10). -/
def Obj.afEnergy : Obj :=
  { base := 0x8340, sub := 0x0F, nsub := 4, stride := 0x1, count := 4, ty := .octet, right := .ro, rd := 0x3F, wr := 0x00, cls := .bat, rng := .len 10 10 }

/-- 0x8340:13 to 0x8340:1A: Highest and lowest phase voltage, highest phase current, highest total power, each with its time (09_metering, Table 9.10). -/
def Obj.afExtreme : Obj :=
  { base := 0x8340, sub := 0x13, nsub := 4, subStep := 2, stride := 0x1, count := 4, ty := .i 4, right := .ro, rd := 0x3F, wr := 0x00, cls := .bat }

/-- 0x8340:13 to 0x8340:1A: Highest and lowest phase voltage, highest phase current, highest total power, each with its time (09_metering, Table 9.10). -/
def Obj.afExtremeTime : Obj :=
  { base := 0x8340, sub := 0x14, nsub := 4, subStep := 2, stride := 0x1, count := 4, ty := .i 8, right := .ro, rd := 0x3F, wr := 0x00, cls := .bat }

/-- 0x8380:01, 0x8380:02: Site DC import, site AC import (09_metering, Table 9.10). -/
def Obj.siteDcImport : Obj :=
  { base := 0x8380, sub := 0x01, ty := .octet, right := .ro, rd := 0x3F, wr := 0x00, cls := .vol, rng := .len 10 10 }

/-- 0x8380:01, 0x8380:02: Site DC import, site AC import (09_metering, Table 9.10). -/
def Obj.siteAcImport : Obj :=
  { base := 0x8380, sub := 0x02, ty := .octet, right := .ro, rd := 0x3F, wr := 0x00, cls := .vol, rng := .len 10 10 }

/-- 0x8800:01 to 0x8800:03: Start import, export, charge (09_metering, Table 9.10). -/
def Obj.startReg : Obj :=
  { base := 0x8800, sub := 0x01, nsub := 3, stride := 0x1, count := 250, ty := .octet, right := .ro, rd := 0x3F, wr := 0x00, cls := .per, own := true, rng := .len 10 10 }

/-- 0x8800:04: Start time (09_metering, Table 9.10). -/
def Obj.startTime : Obj :=
  { base := 0x8800, sub := 0x04, stride := 0x1, count := 250, ty := .i 8, right := .ro, rd := 0x3F, wr := 0x00, cls := .per, own := true }

/-- 0x8800:05 to 0x8800:07: Stop import, export, charge (09_metering, Table 9.10). -/
def Obj.stopReg : Obj :=
  { base := 0x8800, sub := 0x05, nsub := 3, stride := 0x1, count := 250, ty := .octet, right := .ro, rd := 0x3F, wr := 0x00, cls := .per, own := true, rng := .len 10 10 }

/-- 0x8800:08: Stop time (09_metering, Table 9.10). -/
def Obj.stopTime : Obj :=
  { base := 0x8800, sub := 0x08, stride := 0x1, count := 250, ty := .i 8, right := .ro, rd := 0x3F, wr := 0x00, cls := .per, own := true }

/-- 0x8800:09: Register set flags (09_metering, Table 9.10). -/
def Obj.regSetFlags : Obj :=
  { base := 0x8800, sub := 0x09, stride := 0x1, count := 250, ty := .u 1, right := .ro, rd := 0x3F, wr := 0x00, cls := .per, own := true }

/-- 0x8800:0A: Outlet (09_metering, Table 9.10). -/
def Obj.regSetOutlet : Obj :=
  { base := 0x8800, sub := 0x0A, stride := 0x1, count := 250, ty := .u 1, right := .ro, rd := 0x3F, wr := 0x00, cls := .per, own := true, dflt := fun _ _ => 255, rng := .orOne 0 23 0xFF }

/-- 0x9000:01: Slot in force (10_billing, Table 10.10). -/
def Obj.slotInForce : Obj :=
  { base := 0x9000, sub := 0x01, ty := .u 1, right := .ro, rd := 0x3F, wr := 0x00, cls := .vol, dflt := fun _ _ => 1, rng := .rng 1 8 }

/-- 0x9000:02: Standard offset (10_billing, Table 10.10). -/
def Obj.standardOffset : Obj :=
  { base := 0x9000, sub := 0x02, ty := .i 2, right := .rw, rd := 0x24, wr := 0x24, cls := .per, rng := .rng (-720) 840 }

/-- 0x9000:03: DST in force (10_billing, Table 10.10). -/
def Obj.dstInForce : Obj :=
  { base := 0x9000, sub := 0x03, ty := .bool, right := .ro, rd := 0x3F, wr := 0x00, cls := .vol, rng := .rng 0 1 }

/-- 0x9000:05: Calendar activation instant (10_billing, Table 10.10). -/
def Obj.activationInstant : Obj :=
  { base := 0x9000, sub := 0x05, ty := .i 8, right := .rw, rd := 0x04, wr := 0x04, cls := .per }

/-- 0x9000:06: Calendar activations (10_billing, Table 10.10). -/
def Obj.calendarActivations : Obj :=
  { base := 0x9000, sub := 0x06, ty := .u 4, right := .ro, rd := 0x3F, wr := 0x00, cls := .per, own := true }

/-- 0x9000:07: Last boundary sequence (10_billing, Table 10.10). -/
def Obj.lastBoundarySequence : Obj :=
  { base := 0x9000, sub := 0x07, ty := .u 4, right := .ro, rd := 0x3F, wr := 0x00, cls := .per, own := true }

/-- 0x9000:08: Boundary record selector (10_billing, Table 10.10). -/
def Obj.boundaryRecordSelector : Obj :=
  { base := 0x9000, sub := 0x08, ty := .u 4, right := .rw, rd := 0x3F, wr := 0x3F, cls := .vol }

/-- 0x9000:09: Boundary record (10_billing, Table 10.10). -/
def Obj.boundaryRecord : Obj :=
  { base := 0x9000, sub := 0x09, ty := .octet, right := .ro, rd := 0x3F, wr := 0x00, cls := .vol, rng := .len 160 160 }

/-- 0x9000:0A: Clock audit entries used (10_billing, Table 10.10). -/
def Obj.clockAuditEntriesUsed : Obj :=
  { base := 0x9000, sub := 0x0A, ty := .u 2, right := .ro, rd := 0x3F, wr := 0x00, cls := .per, own := true, rng := .rng 0 256 }

/-- 0x9010:01 to 0x9010:08: Outlet import T1 to T8 (10_billing, Table 10.10). -/
def Obj.outletTariff : Obj :=
  { base := 0x9010, sub := 0x01, nsub := 8, stride := 0x1, count := 24, ty := .octet, right := .ro, rd := 0x3F, wr := 0x00, cls := .bat, rng := .len 10 10 }

/-- 0x9030:01 to 0x9030:10: Feeder import, export T1 to T8 (10_billing, Table 10.10). -/
def Obj.feederTariff : Obj :=
  { base := 0x9030, sub := 0x01, nsub := 16, stride := 0x1, count := 4, ty := .octet, right := .ro, rd := 0x3F, wr := 0x00, cls := .bat, rng := .len 10 10 }

/-- 0x9038:01 to 0x9038:10: Site DC, AC import T1 to T8 (10_billing, Table 10.10). -/
def Obj.siteTariff : Obj :=
  { base := 0x9038, sub := 0x01, nsub := 16, ty := .octet, right := .ro, rd := 0x3F, wr := 0x00, cls := .bat, rng := .len 10 10 }

/-- 0x9100:00: Season (10_billing, Table 10.10). -/
def Obj.season : Obj :=
  { base := 0x9100, sub := 0x00, stride := 0x1, count := 12, ty := .u 2, right := .rw, rd := 0x04, wr := 0x04, cls := .per }

/-- 0x9110:01 to 0x9110:07: Week profile, Monday to Sunday (10_billing, Table 10.10). -/
def Obj.weekProfile : Obj :=
  { base := 0x9110, sub := 0x01, nsub := 7, stride := 0x1, count := 16, ty := .u 1, right := .rw, rd := 0x04, wr := 0x04, cls := .per, rng := .rng 0 31 }

/-- 0x9120:01 to 0x9120:10: Day profile switch points (10_billing, Table 10.10). -/
def Obj.dayProfile : Obj :=
  { base := 0x9120, sub := 0x01, nsub := 16, stride := 0x1, count := 32, ty := .u 2, right := .rw, rd := 0x04, wr := 0x04, cls := .per }

/-- 0x9200:01 to 0x9200:80, 0x9201:01 to 0x9201:80: Special days 0 to 127, 128 to 255 (10_billing, Table 10.10). -/
def Obj.specialDays : Obj :=
  { base := 0x9200, sub := 0x01, nsub := 128, stride := 0x1, count := 2, ty := .u 4, right := .rw, rd := 0x04, wr := 0x04, cls := .per }

/-- 0x9300:01, 0x9300:02: DST years from, to (10_billing, Table 10.10). -/
def Obj.dstYears : Obj :=
  { base := 0x9300, sub := 0x01, nsub := 2, stride := 0x1, count := 2, ty := .u 2, right := .rw, rd := 0x04, wr := 0x04, cls := .per }

/-- 0x9300:03, 0x9300:04: DST start, end (10_billing, Table 10.10). -/
def Obj.dstRule : Obj :=
  { base := 0x9300, sub := 0x03, nsub := 2, stride := 0x1, count := 2, ty := .u 4, right := .rw, rd := 0x04, wr := 0x04, cls := .per }

/-- 0x9300:05: DST shift (10_billing, Table 10.10). -/
def Obj.dstShift : Obj :=
  { base := 0x9300, sub := 0x05, stride := 0x1, count := 2, ty := .u 1, right := .rw, rd := 0x04, wr := 0x04, cls := .per, dflt := fun _ _ => 60, rng := .rng 0 120 }

/-- 0x9400:01: Demand interval (10_billing, Table 10.10). -/
def Obj.demandInterval : Obj :=
  { base := 0x9400, sub := 0x01, ty := .u 1, right := .rw, rd := 0x04, wr := 0x04, cls := .per, dflt := fun _ _ => 5, rng := .rng 0 7 }

/-- 0x9400:02: Demand mode (10_billing, Table 10.10). -/
def Obj.demandMode : Obj :=
  { base := 0x9400, sub := 0x02, ty := .u 1, right := .rw, rd := 0x04, wr := 0x04, cls := .per, rng := .oneOf [0, 1] }

/-- 0x9400:03: Subintervals k (10_billing, Table 10.10). -/
def Obj.subintervals : Obj :=
  { base := 0x9400, sub := 0x03, ty := .u 1, right := .rw, rd := 0x04, wr := 0x04, cls := .per, dflt := fun _ _ => 3, rng := .oneOf [2, 3, 5, 15] }

/-- 0x9400:04: Configuration in use (10_billing, Table 10.10). -/
def Obj.configurationInUse : Obj :=
  { base := 0x9400, sub := 0x04, ty := .u 2, right := .ro, rd := 0x3F, wr := 0x00, cls := .per, own := true, dflt := fun _ _ => 1283 }

/-- 0x9410:01: Running demand (10_billing, Table 10.10). -/
def Obj.runningDemand : Obj :=
  { base := 0x9410, sub := 0x01, stride := 0x1, count := 29, ty := .u 4, right := .ro, rd := 0x3F, wr := 0x00, cls := .vol }

/-- 0x9410:02, 0x9410:03: Last demand, its end (10_billing, Table 10.10). -/
def Obj.lastDemand : Obj :=
  { base := 0x9410, sub := 0x02, stride := 0x1, count := 29, ty := .u 4, right := .ro, rd := 0x3F, wr := 0x00, cls := .per, own := true }

/-- 0x9410:02, 0x9410:03: Last demand, its end (10_billing, Table 10.10). -/
def Obj.lastDemandEnd : Obj :=
  { base := 0x9410, sub := 0x03, stride := 0x1, count := 29, ty := .i 8, right := .ro, rd := 0x3F, wr := 0x00, cls := .per, own := true }

/-- 0x9410:04: Last interval flags (10_billing, Table 10.10). -/
def Obj.lastIntervalFlags : Obj :=
  { base := 0x9410, sub := 0x04, stride := 0x1, count := 29, ty := .u 1, right := .ro, rd := 0x3F, wr := 0x00, cls := .per, own := true }

/-- 0x9410:10 to 0x9410:3F: Top demands, slot T1 rank 1 to slot T8 rank 3: value, end (10_billing, Table 10.10). -/
def Obj.topDemand : Obj :=
  { base := 0x9410, sub := 0x10, nsub := 24, subStep := 2, stride := 0x1, count := 29, ty := .u 4, right := .ro, rd := 0x3F, wr := 0x00, cls := .per, own := true }

/-- 0x9410:10 to 0x9410:3F: Top demands, slot T1 rank 1 to slot T8 rank 3: value, end (10_billing, Table 10.10). -/
def Obj.topDemandEnd : Obj :=
  { base := 0x9410, sub := 0x11, nsub := 24, subStep := 2, stride := 0x1, count := 29, ty := .i 8, right := .ro, rd := 0x3F, wr := 0x00, cls := .per, own := true }

/-- 0x9500:01: Closing schedule (10_billing, Table 10.10). -/
def Obj.closingSchedule : Obj :=
  { base := 0x9500, sub := 0x01, ty := .u 1, right := .rw, rd := 0x04, wr := 0x04, cls := .per, dflt := fun _ _ => 1, rng := .oneOf [0, 1, 2] }

/-- 0x9500:02: Closing day and minute (10_billing, Table 10.10). -/
def Obj.closingDayMinute : Obj :=
  { base := 0x9500, sub := 0x02, ty := .u 2, right := .rw, rd := 0x04, wr := 0x04, cls := .per, dflt := fun _ _ => 2048 }

/-- 0x9500:03: Close period (10_billing, Table 10.10). -/
def Obj.closePeriod : Obj :=
  { base := 0x9500, sub := 0x03, ty := .u 1, right := .wo, rd := 0x00, wr := 0x04, cls := .vol, rng := .oneOf [1] }

/-- 0x9500:04: Open period number (10_billing, Table 10.10). -/
def Obj.openPeriod : Obj :=
  { base := 0x9500, sub := 0x04, ty := .u 4, right := .ro, rd := 0x3F, wr := 0x00, cls := .per, own := true, dflt := fun _ _ => 1 }

/-- 0x9500:05: Period push channel (10_billing, Table 10.10). -/
def Obj.periodPushChannel : Obj :=
  { base := 0x9500, sub := 0x05, ty := .u 1, right := .rw, rd := 0x04, wr := 0x04, cls := .per, dflt := fun _ _ => 3, rng := .rng 0 7 }

/-- 0x9501:01: Closed period selector (10_billing, Table 10.10). -/
def Obj.closedPeriodSelector : Obj :=
  { base := 0x9501, sub := 0x01, ty := .u 1, right := .rw, rd := 0x3F, wr := 0x3F, cls := .vol, rng := .rng 0 23 }

/-- 0x9501:02: Closed period (10_billing, Table 10.10). -/
def Obj.closedPeriod : Obj :=
  { base := 0x9501, sub := 0x02, ty := .octet, right := .ro, rd := 0x3F, wr := 0x00, cls := .vol, rng := .len 12164 12164 }

/-- 0x9600:01: Signature curve (10_billing, Table 10.10). -/
def Obj.signatureCurve : Obj :=
  { base := 0x9600, sub := 0x01, ty := .u 1, right := .rw, rd := 0x04, wr := 0x04, cls := .per, dflt := fun _ _ => 1, rng := .oneOf [1, 2] }

/-- 0x9600:02: Record push channel (10_billing, Table 10.10). -/
def Obj.recordPushChannel : Obj :=
  { base := 0x9600, sub := 0x02, ty := .u 1, right := .rw, rd := 0x04, wr := 0x04, cls := .per, dflt := fun _ _ => 2, rng := .rng 0 7 }

/-- 0x9600:03: Record selector (10_billing, Table 10.10). -/
def Obj.recordSelector : Obj :=
  { base := 0x9600, sub := 0x03, ty := .u 4, right := .rw, rd := 0x3F, wr := 0x3F, cls := .vol }

/-- 0x9600:04: Record entry (10_billing, Table 10.10). -/
def Obj.recordEntry : Obj :=
  { base := 0x9600, sub := 0x04, ty := .octet, right := .ro, rd := 0x3F, wr := 0x00, cls := .vol, rng := .len 512 512 }

/-- 0x9600:05: OCMF view (10_billing, Table 10.10). -/
def Obj.ocmfView : Obj :=
  { base := 0x9600, sub := 0x05, ty := .str, right := .ro, rd := 0x3F, wr := 0x00, cls := .vol, rng := .len 0 2048 }

/-- 0x9600:06: Collect record (10_billing, Table 10.10). -/
def Obj.collectRecord : Obj :=
  { base := 0x9600, sub := 0x06, ty := .u 4, right := .wo, rd := 0x00, wr := 0x06, cls := .vol }

/-- 0x9600:07: Release up to (10_billing, Table 10.10). -/
def Obj.releaseUpTo : Obj :=
  { base := 0x9600, sub := 0x07, ty := .u 4, right := .wo, rd := 0x00, wr := 0x04, cls := .vol }

/-- 0x9600:08: Entries in use, uncollected (10_billing, Table 10.10). -/
def Obj.recordCounts : Obj :=
  { base := 0x9600, sub := 0x08, ty := .u 4, right := .ro, rd := 0x3F, wr := 0x00, cls := .per, own := true }

/-- 0x9700:01: Tamper enable (10_billing, Table 10.10). -/
def Obj.tamperEnable : Obj :=
  { base := 0x9700, sub := 0x01, ty := .u 1, right := .rw, rd := 0x04, wr := 0x04, cls := .per, dflt := fun _ _ => 255 }

/-- 0x9700:02: Tamper polarity (10_billing, Table 10.10). -/
def Obj.tamperPolarity : Obj :=
  { base := 0x9700, sub := 0x02, ty := .u 1, right := .rw, rd := 0x04, wr := 0x04, cls := .per }

/-- 0x9700:03: Tamper input states (10_billing, Table 10.10). -/
def Obj.tamperInputStates : Obj :=
  { base := 0x9700, sub := 0x03, ty := .u 1, right := .ro, rd := 0x3F, wr := 0x00, cls := .vol }

/-- 0x9700:04: Tamper log overwrites (10_billing, Table 10.10). -/
def Obj.tamperLogOverwrites : Obj :=
  { base := 0x9700, sub := 0x04, ty := .u 4, right := .ro, rd := 0x3F, wr := 0x00, cls := .bat }

/-- 0x9700:05: Tamper entry selector (10_billing, Table 10.10). -/
def Obj.tamperEntrySelector : Obj :=
  { base := 0x9700, sub := 0x05, ty := .u 1, right := .rw, rd := 0x3F, wr := 0x3F, cls := .vol, rng := .rng 0 127 }

/-- 0x9700:06: Tamper entry (10_billing, Table 10.10). -/
def Obj.tamperEntry : Obj :=
  { base := 0x9700, sub := 0x06, ty := .octet, right := .ro, rd := 0x3F, wr := 0x00, cls := .bat, rng := .len 16 16 }

/-- 0x9780:01: Zero-field voltage (10_billing, Table 10.10). -/
def Obj.magZero : Obj :=
  { base := 0x9780, sub := 0x01, stride := 0x1, count := 24, ty := .u 2, right := .rw, rd := 0x0C, wr := 0x0C, cls := .per, dflt := fun _ _ => 1650, rng := .rng 0 3300 }

/-- 0x9780:02: Sensitivity (10_billing, Table 10.10). -/
def Obj.magSensitivity : Obj :=
  { base := 0x9780, sub := 0x02, stride := 0x1, count := 24, ty := .u 2, right := .rw, rd := 0x0C, wr := 0x0C, cls := .per, dflt := fun _ _ => 500, rng := .rng 1 10000 }

/-- 0x9780:03: Field threshold (10_billing, Table 10.10). -/
def Obj.magThreshold : Obj :=
  { base := 0x9780, sub := 0x03, stride := 0x1, count := 24, ty := .u 2, right := .rw, rd := 0x0C, wr := 0x0C, cls := .per, dflt := fun _ _ => 2000, rng := .rng 100 50000 }

/-- 0x9780:04: Last field (10_billing, Table 10.10). -/
def Obj.magLastField : Obj :=
  { base := 0x9780, sub := 0x04, stride := 0x1, count := 24, ty := .i 4, right := .ro, rd := 0x3F, wr := 0x00, cls := .vol }

/-- 0x9780:05: Last check time (10_billing, Table 10.10). -/
def Obj.magLastTime : Obj :=
  { base := 0x9780, sub := 0x05, stride := 0x1, count := 24, ty := .i 8, right := .ro, rd := 0x3F, wr := 0x00, cls := .vol }

/-- 0x9780:06: Last result (10_billing, Table 10.10). -/
def Obj.magLastResult : Obj :=
  { base := 0x9780, sub := 0x06, stride := 0x1, count := 24, ty := .u 1, right := .ro, rd := 0x3F, wr := 0x00, cls := .per, own := true, rng := .oneOf [0, 1, 2] }

/-- 0x9798:01: Run magnetic test (10_billing, Table 10.10). -/
def Obj.runMagneticTest : Obj :=
  { base := 0x9798, sub := 0x01, ty := .u 4, right := .wo, rd := 0x00, wr := 0x0C, cls := .vol, rng := .mask 0xFFFFFF }

/-- 0x2001:00: Life-cycle state (11_security, Table 11.9). -/
def Obj.lifeCycleState : Obj :=
  { base := 0x2001, sub := 0x00, ty := .u 1, right := .ro, rd := 0x3F, wr := 0x00, cls := .per, own := true, dflt := fun _ _ => 1, rng := .rng 0 4 }

/-- 0xB000:01: Requested transition (11_security, Table 11.9). -/
def Obj.requestedTransition : Obj :=
  { base := 0xB000, sub := 0x01, ty := .u 1, right := .wo, rd := 0x00, wr := 0x0C, cls := .vol, rng := .oneOf [2, 3, 4] }

/-- 0xB000:02: Time of last transition (11_security, Table 11.9). -/
def Obj.timeOfLastTransition : Obj :=
  { base := 0xB000, sub := 0x02, ty := .i 8, right := .ro, rd := 0x3F, wr := 0x00, cls := .per, own := true }

/-- 0xB010:01: Field metering key version (11_security, Table 11.9). -/
def Obj.fmkVersion : Obj :=
  { base := 0xB010, sub := 0x01, ty := .u 1, right := .rw, rd := 0x04, wr := 0x04, cls := .per, dflt := fun _ _ => 1, rng := .rng 1 255 }

/-- 0xB010:02, 0xB010:03: Field metering public key P-256, P-384 (11_security, Table 11.9). -/
def Obj.fmkPublicP256 : Obj :=
  { base := 0xB010, sub := 0x02, ty := .octet, right := .ro, rd := 0x3F, wr := 0x00, cls := .per, own := true, rng := .len 65 65 }

/-- 0xB010:02, 0xB010:03: Field metering public key P-256, P-384 (11_security, Table 11.9). -/
def Obj.fmkPublicP384 : Obj :=
  { base := 0xB010, sub := 0x03, ty := .octet, right := .ro, rd := 0x3F, wr := 0x00, cls := .per, own := true, rng := .len 97 97 }

/-- 0xB010:04, 0xB010:05: Key identifier P-256, P-384 (11_security, Table 11.9). -/
def Obj.fmkKeyId : Obj :=
  { base := 0xB010, sub := 0x04, nsub := 2, ty := .u 4, right := .ro, rd := 0x3F, wr := 0x00, cls := .per, own := true }

/-- 0xB011:01: Generate SECC key (11_security, Table 11.9). -/
def Obj.generateSeccKey : Obj :=
  { base := 0xB011, sub := 0x01, ty := .u 1, right := .wo, rd := 0x00, wr := 0x04, cls := .vol, rng := .oneOf [1, 2, 3] }

/-- 0xB011:02: SECC certificate request (11_security, Table 11.9). -/
def Obj.seccCertificateRequest : Obj :=
  { base := 0xB011, sub := 0x02, ty := .octet, right := .ro, rd := 0x04, wr := 0x00, cls := .per, own := true }

/-- 0xB011:03: SECC certificate chain (11_security, Table 11.9). -/
def Obj.seccCertificateChain : Obj :=
  { base := 0xB011, sub := 0x03, ty := .octet, right := .rw, rd := 0x04, wr := 0x04, cls := .per, rng := .len 0 8192 }

/-- 0xB011:04: V2G and contract roots (11_security, Table 11.9). -/
def Obj.v2gAndContractRoots : Obj :=
  { base := 0xB011, sub := 0x04, ty := .octet, right := .rw, rd := 0x04, wr := 0x04, cls := .per, rng := .len 0 32768 }

/-- 0xB020:01: Attestation key selector (11_security, Table 11.9). -/
def Obj.attestationKeySelector : Obj :=
  { base := 0xB020, sub := 0x01, ty := .u 1, right := .rw, rd := 0x3F, wr := 0x3F, cls := .vol, rng := .rng 0 4 }

/-- 0xB020:02: Attestation nonce (11_security, Table 11.9). -/
def Obj.attestationNonce : Obj :=
  { base := 0xB020, sub := 0x02, ty := .octet, right := .wo, rd := 0x00, wr := 0x3F, cls := .vol, rng := .len 32 32 }

/-- 0xB020:03: Attestation statement (11_security, Table 11.9). -/
def Obj.attestationStatement : Obj :=
  { base := 0xB020, sub := 0x03, ty := .octet, right := .ro, rd := 0x3F, wr := 0x00, cls := .vol, rng := .len 428 428 }

/-- 0xB020:04: Device identity certificate (11_security, Table 11.9). -/
def Obj.deviceIdentityCertificate : Obj :=
  { base := 0xB020, sub := 0x04, ty := .octet, right := .ro, rd := 0x3F, wr := 0x00, cls := .per, own := true }

/-- 0xB100:01 to 0xB100:05: Role public keys (11_security, Table 11.9). -/
def Obj.rolePublicKey : Obj :=
  { base := 0xB100, sub := 0x01, nsub := 3, ty := .octet, right := .rw, rd := 0x04, wr := 0x04, cls := .per, rng := .len 65 65 }

/-- 0xB100:01 to 0xB100:05: Role public keys (11_security, Table 11.9). -/
def Obj.metrologyPublicKey : Obj :=
  { base := 0xB100, sub := 0x04, ty := .octet, right := .seal, rd := 0x10, wr := 0x14, cls := .per, rng := .len 65 65 }

/-- 0xB100:01 to 0xB100:05: Role public keys (11_security, Table 11.9). -/
def Obj.timePublicKey : Obj :=
  { base := 0xB100, sub := 0x05, ty := .octet, right := .rw, rd := 0x04, wr := 0x04, cls := .per, rng := .len 65 65 }

/-- 0xB101:01 to 0xB101:05: CAN role MAC keys (11_security, Table 11.9). -/
def Obj.canRoleKey : Obj :=
  { base := 0xB101, sub := 0x01, nsub := 3, ty := .octet, right := .wo, rd := 0x00, wr := 0x04, cls := .per, own := true, rng := .len 32 32 }

/-- 0xB101:01 to 0xB101:05: CAN role MAC keys (11_security, Table 11.9). -/
def Obj.canMetrologyKey : Obj :=
  { base := 0xB101, sub := 0x04, ty := .octet, right := .sealWo, rd := 0x00, wr := 0x14, cls := .per, own := true, rng := .len 32 32 }

/-- 0xB101:01 to 0xB101:05: CAN role MAC keys (11_security, Table 11.9). -/
def Obj.canTimeKey : Obj :=
  { base := 0xB101, sub := 0x05, ty := .octet, right := .wo, rd := 0x00, wr := 0x04, cls := .per, own := true, rng := .len 32 32 }

/-- 0xB102:01 to 0xB102:05: Last accepted CAN counter (11_security, Table 11.9). -/
def Obj.canCounter : Obj :=
  { base := 0xB102, sub := 0x01, nsub := 5, ty := .u 4, right := .ro, rd := 0x3F, wr := 0x00, cls := .per, own := true }

/-- 0xB110:01: Open Ethernet sessions (11_security, Table 11.9). -/
def Obj.openEthernetSessions : Obj :=
  { base := 0xB110, sub := 0x01, ty := .u 1, right := .ro, rd := 0x3F, wr := 0x00, cls := .vol, rng := .rng 0 16 }

/-- 0xB110:02: Authentication failures (11_security, Table 11.9). -/
def Obj.authenticationFailures : Obj :=
  { base := 0xB110, sub := 0x02, ty := .u 4, right := .ro, rd := 0x3F, wr := 0x00, cls := .vol }

/-- 0xB200:01: Image in use (11_security, Table 11.9). -/
def Obj.imageInUse : Obj :=
  { base := 0xB200, sub := 0x01, ty := .u 1, right := .ro, rd := 0x3F, wr := 0x00, cls := .vol, rng := .oneOf [0, 1] }

/-- 0xB200:02: Boot selection (11_security, Table 11.9). -/
def Obj.bootSelection : Obj :=
  { base := 0xB200, sub := 0x02, ty := .u 1, right := .rw, rd := 0x0C, wr := 0x0C, cls := .per, rng := .oneOf [0, 1] }

/-- 0xB200:03, 0xB200:04: Image A, B version (11_security, Table 11.9). -/
def Obj.imageVersion : Obj :=
  { base := 0xB200, sub := 0x03, nsub := 2, ty := .u 4, right := .ro, rd := 0x3F, wr := 0x00, cls := .vol }

/-- 0xB200:05: Minimum security version (11_security, Table 11.9). -/
def Obj.minimumSecurityVersion : Obj :=
  { base := 0xB200, sub := 0x05, ty := .u 2, right := .ro, rd := 0x3F, wr := 0x00, cls := .per, own := true }

/-- 0xB200:06: Confirm trial image (11_security, Table 11.9). -/
def Obj.confirmTrialImage : Obj :=
  { base := 0xB200, sub := 0x06, ty := .u 1, right := .wo, rd := 0x00, wr := 0x0C, cls := .vol, rng := .oneOf [1] }

/-- 0xB200:07: Trial state (11_security, Table 11.9). -/
def Obj.trialState : Obj :=
  { base := 0xB200, sub := 0x07, ty := .u 1, right := .ro, rd := 0x3F, wr := 0x00, cls := .per, own := true, rng := .oneOf [0, 1, 2] }

/-- 0xB210:01: Image write offset (11_security, Table 11.9). -/
def Obj.imageWriteOffset : Obj :=
  { base := 0xB210, sub := 0x01, ty := .u 4, right := .rw, rd := 0x0C, wr := 0x0C, cls := .vol }

/-- 0xB210:02: Image data (11_security, Table 11.9). -/
def Obj.imageData : Obj :=
  { base := 0xB210, sub := 0x02, ty := .octet, right := .wo, rd := 0x00, wr := 0x0C, cls := .vol, rng := .len 1 65536 }

/-- 0xB210:03: Activate image (11_security, Table 11.9). -/
def Obj.activateImage : Obj :=
  { base := 0xB210, sub := 0x03, ty := .u 1, right := .wo, rd := 0x00, wr := 0x0C, cls := .vol, rng := .oneOf [1] }

/-- 0xB300:01: Random source state (11_security, Table 11.9). -/
def Obj.randomSourceState : Obj :=
  { base := 0xB300, sub := 0x01, ty := .u 1, right := .ro, rd := 0x3F, wr := 0x00, cls := .vol, rng := .oneOf [0, 1, 2] }

/-- 0xB300:02: Health test failures (11_security, Table 11.9). -/
def Obj.healthTestFailures : Obj :=
  { base := 0xB300, sub := 0x02, ty := .u 4, right := .ro, rd := 0x3F, wr := 0x00, cls := .vol }

/-- 0x1000:01: Vendor (12_dictionary, Table 12.13). -/
def Obj.vendor : Obj :=
  { base := 0x1000, sub := 0x01, ty := .str, right := .ro, rd := 0x3F, wr := 0x00, cls := .per, own := true, obytes := asciiBytes "Traryn" }

/-- 0x1000:02: Part number (12_dictionary, Table 12.13). -/
def Obj.partNumber : Obj :=
  { base := 0x1000, sub := 0x02, ty := .str, right := .ro, rd := 0x3F, wr := 0x00, cls := .per, own := true, obytes := asciiBytes "SWV9624" }

/-- 0x1000:03: Module serial (12_dictionary, Table 12.13). -/
def Obj.moduleSerial : Obj :=
  { base := 0x1000, sub := 0x03, ty := .octet, right := .ro, rd := 0x3F, wr := 0x00, cls := .per, own := true, rng := .len 8 8 }

/-- 0x1000:04: Hardware revision (12_dictionary, Table 12.13). -/
def Obj.hardwareRevision : Obj :=
  { base := 0x1000, sub := 0x04, ty := .u 2, right := .ro, rd := 0x3F, wr := 0x00, cls := .per, own := true }

/-- 0x1000:05: Firmware version in use (12_dictionary, Table 12.13). -/
def Obj.firmwareVersionInUse : Obj :=
  { base := 0x1000, sub := 0x05, ty := .u 4, right := .ro, rd := 0x3F, wr := 0x00, cls := .vol }

/-- 0x1000:06: Dictionary version (12_dictionary, Table 12.13). -/
def Obj.dictionaryVersion : Obj :=
  { base := 0x1000, sub := 0x06, ty := .u 2, right := .ro, rd := 0x3F, wr := 0x00, cls := .per, own := true, dflt := fun _ _ => 256 }

/-- 0x1000:08: Base MAC address (12_dictionary, Table 12.13). -/
def Obj.baseMACAddress : Obj :=
  { base := 0x1000, sub := 0x08, ty := .octet, right := .ro, rd := 0x3F, wr := 0x00, cls := .per, own := true, rng := .len 6 6 }

/-- 0x1010:01: Commit configuration (12_dictionary, Table 12.13). -/
def Obj.commitCommand : Obj :=
  { base := 0x1010, sub := 0x01, ty := .u 1, right := .wo, rd := 0x00, wr := 0x1C, cls := .vol, rng := .oneOf [1, 2] }

/-- 0x1010:02: Uncommitted changes (12_dictionary, Table 12.13). -/
def Obj.uncommittedChanges : Obj :=
  { base := 0x1010, sub := 0x02, ty := .bool, right := .ro, rd := 0x3F, wr := 0x00, cls := .vol, rng := .rng 0 1 }

/-- 0x1010:03: Uncommitted objects (12_dictionary, Table 12.13). -/
def Obj.uncommittedObjects : Obj :=
  { base := 0x1010, sub := 0x03, ty := .u 2, right := .ro, rd := 0x3F, wr := 0x00, cls := .vol }

/-- 0x1010:04: Commit count (12_dictionary, Table 12.13). -/
def Obj.commitCount : Obj :=
  { base := 0x1010, sub := 0x04, ty := .u 4, right := .ro, rd := 0x3F, wr := 0x00, cls := .per, own := true }

/-- 0x1010:05: Time of last commit (12_dictionary, Table 12.13). -/
def Obj.timeOfLastCommit : Obj :=
  { base := 0x1010, sub := 0x05, ty := .i 8, right := .ro, rd := 0x3F, wr := 0x00, cls := .per, own := true }

/-- 0x1100:01: Site node address (12_dictionary, Table 12.13). -/
def Obj.siteNodeAddress : Obj :=
  { base := 0x1100, sub := 0x01, ty := .u 1, right := .rw, rd := 0x04, wr := 0x04, cls := .per, dflt := fun _ _ => 1, rng := .rng 1 63 }

/-- 0x1100:02: Own node address (12_dictionary, Table 12.13). -/
def Obj.ownNodeAddress : Obj :=
  { base := 0x1100, sub := 0x02, ty := .u 1, right := .rw, rd := 0x0C, wr := 0x0C, cls := .per, dflt := fun _ _ => 2, rng := .rng 1 63 }

/-- 0x1100:03: Farar on CAN0 (12_dictionary, Table 12.13). -/
def Obj.fararOnCan : Obj :=
  { base := 0x1100, sub := 0x03, ty := .bool, right := .rw, rd := 0x04, wr := 0x04, cls := .per, dflt := fun _ _ => 1, rng := .rng 0 1 }

/-- 0x1100:04: Outstanding transactions (12_dictionary, Table 12.13). -/
def Obj.outstandingTransactions : Obj :=
  { base := 0x1100, sub := 0x04, ty := .u 1, right := .ro, rd := 0x3F, wr := 0x00, cls := .vol, rng := .rng 0 128 }

/-- 0x1100:05: Dropped frames and datagrams (12_dictionary, Table 12.13). -/
def Obj.droppedFramesAndDatagrams : Obj :=
  { base := 0x1100, sub := 0x05, ty := .u 4, right := .ro, rd := 0x3F, wr := 0x00, cls := .vol }

/-- 0x1180:01: IPv4 address (12_dictionary, Table 12.13). -/
def Obj.ipAddress : Obj :=
  { base := 0x1180, sub := 0x01, stride := 0x1, count := 2, ty := .u 4, right := .rw, rd := 0x04, wr := 0x04, cls := .per, dflt := fun i _ => if i = 0 then 0xC0A8600A else 0xC0A8610A }

/-- 0x1180:02: Subnet mask (12_dictionary, Table 12.13). -/
def Obj.subnetMask : Obj :=
  { base := 0x1180, sub := 0x02, stride := 0x1, count := 2, ty := .u 4, right := .rw, rd := 0x04, wr := 0x04, cls := .per, dflt := fun _ _ => 0xffffff00 }

/-- 0x1180:03: Gateway (12_dictionary, Table 12.13). -/
def Obj.gateway : Obj :=
  { base := 0x1180, sub := 0x03, stride := 0x1, count := 2, ty := .u 4, right := .rw, rd := 0x04, wr := 0x04, cls := .per }

/-- 0x1180:04: VLAN identifier (12_dictionary, Table 12.13). -/
def Obj.vlanIdentifier : Obj :=
  { base := 0x1180, sub := 0x04, stride := 0x1, count := 2, ty := .u 2, right := .rw, rd := 0x04, wr := 0x04, cls := .per, rng := .rng 0 4094 }

/-- 0x1180:05: Link state (12_dictionary, Table 12.13). -/
def Obj.ethLinkState : Obj :=
  { base := 0x1180, sub := 0x05, stride := 0x1, count := 2, ty := .u 1, right := .ro, rd := 0x3F, wr := 0x00, cls := .vol, rng := .oneOf [0, 1] }

/-- 0x1200:01: Bound session (12_dictionary, Table 12.14). -/
def Obj.boundSession : Obj :=
  { base := 0x1200, sub := 0x01, stride := 0x1, count := 8, ty := .u 4, right := .ro, rd := 0x3F, wr := 0x00, cls := .vol, rng := .oneOf [0] }

/-- 0x1200:02: Roles allowed (12_dictionary, Table 12.14). -/
def Obj.rolesAllowed : Obj :=
  { base := 0x1200, sub := 0x02, stride := 0x1, count := 8, ty := .u 1, right := .rw, rd := 0x04, wr := 0x04, cls := .per, dflt := fun _ _ => 14, rng := .mask 0x3E }

/-- 0x1200:03: Flush time (12_dictionary, Table 12.14). -/
def Obj.flushTime : Obj :=
  { base := 0x1200, sub := 0x03, stride := 0x1, count := 8, ty := .u 2, right := .rw, rd := 0x04, wr := 0x04, cls := .per, dflt := fun _ _ => 1000, rng := .rng 10 10000 }

/-- 0x1200:04: Windows posted, unfilled (12_dictionary, Table 12.14). -/
def Obj.windowsPosted : Obj :=
  { base := 0x1200, sub := 0x04, stride := 0x1, count := 8, ty := .u 1, right := .ro, rd := 0x3F, wr := 0x00, cls := .vol, rng := .rng 0 4 }

/-- 0x1200:05: Items queued (12_dictionary, Table 12.14). -/
def Obj.itemsQueued : Obj :=
  { base := 0x1200, sub := 0x05, stride := 0x1, count := 8, ty := .u 4, right := .ro, rd := 0x3F, wr := 0x00, cls := .vol }

/-- 0x1200:06: Last item sequence sent (12_dictionary, Table 12.14). -/
def Obj.lastItemSequenceSent : Obj :=
  { base := 0x1200, sub := 0x06, stride := 0x1, count := 8, ty := .u 4, right := .ro, rd := 0x3F, wr := 0x00, cls := .vol }

/-- 0x1200:07: Last item acknowledged (12_dictionary, Table 12.14). -/
def Obj.lastItemAcknowledged : Obj :=
  { base := 0x1200, sub := 0x07, stride := 0x1, count := 8, ty := .u 4, right := .ro, rd := 0x3F, wr := 0x00, cls := .vol }

/-- 0x1200:08: Resends (12_dictionary, Table 12.14). -/
def Obj.resends : Obj :=
  { base := 0x1200, sub := 0x08, stride := 0x1, count := 8, ty := .u 4, right := .ro, rd := 0x3F, wr := 0x00, cls := .vol }

/-- 0xC000:01: Event push channel (12_dictionary, Table 12.14). -/
def Obj.eventPushChannel : Obj :=
  { base := 0xC000, sub := 0x01, ty := .u 1, right := .rw, rd := 0x04, wr := 0x04, cls := .per, rng := .rng 0 7 }

/-- 0xC000:02: Last event sequence (12_dictionary, Table 12.14). -/
def Obj.lastEventSequence : Obj :=
  { base := 0xC000, sub := 0x02, ty := .u 4, right := .ro, rd := 0x3F, wr := 0x00, cls := .per, own := true }

/-- 0xC000:03: Event entry selector (12_dictionary, Table 12.14). -/
def Obj.eventEntrySelector : Obj :=
  { base := 0xC000, sub := 0x03, ty := .u 4, right := .rw, rd := 0x3F, wr := 0x3F, cls := .vol }

/-- 0xC000:04: Event entry (12_dictionary, Table 12.14). -/
def Obj.eventEntry : Obj :=
  { base := 0xC000, sub := 0x04, ty := .octet, right := .ro, rd := 0x3F, wr := 0x00, cls := .vol, rng := .len 36 36 }

/-- 0xC000:05: Entries overwritten before push (12_dictionary, Table 12.14). -/
def Obj.entriesOverwrittenBeforePush : Obj :=
  { base := 0xC000, sub := 0x05, ty := .u 4, right := .ro, rd := 0x3F, wr := 0x00, cls := .per, own := true }

/-- 0xC000:06: Oldest sequence held (12_dictionary, Table 12.14). -/
def Obj.oldestSequenceHeld : Obj :=
  { base := 0xC000, sub := 0x06, ty := .u 4, right := .ro, rd := 0x3F, wr := 0x00, cls := .vol }

/-- 0xC000:07: Last event acknowledged (12_dictionary, Table 12.14). -/
def Obj.lastEventAcknowledged : Obj :=
  { base := 0xC000, sub := 0x07, ty := .u 4, right := .ro, rd := 0x3F, wr := 0x00, cls := .per, own := true }

/-- 0xC004:01: Export log (12_dictionary, Table 12.14). -/
def Obj.exportLog : Obj :=
  { base := 0xC004, sub := 0x01, ty := .u 1, right := .wo, rd := 0x00, wr := 0x1C, cls := .vol, rng := .oneOf [1, 2, 3, 4, 5] }

/-- 0xC004:02: Export push channel (12_dictionary, Table 12.14). -/
def Obj.exportPushChannel : Obj :=
  { base := 0xC004, sub := 0x02, ty := .u 1, right := .rw, rd := 0x04, wr := 0x04, cls := .per, dflt := fun _ _ => 4, rng := .rng 0 7 }

/-- 0x1400:01: Use (13_can, Table 13.5). -/
def Obj.moUse : Obj :=
  { base := 0x1400, sub := 0x01, stride := 0x1, count := 512, mo := true, ty := .u 1, right := .rw, rd := 0x04, wr := 0x04, cls := .per, rng := .oneOf [0, 1, 2] }

/-- 0x1400:02: Identifier (13_can, Table 13.5). -/
def Obj.moId : Obj :=
  { base := 0x1400, sub := 0x02, stride := 0x1, count := 512, mo := true, ty := .u 4, right := .rw, rd := 0x04, wr := 0x04, cls := .per }

/-- 0x1400:03: Flags (13_can, Table 13.5). -/
def Obj.moFlags : Obj :=
  { base := 0x1400, sub := 0x03, stride := 0x1, count := 512, mo := true, ty := .u 1, right := .rw, rd := 0x04, wr := 0x04, cls := .per, rng := .mask 0x3F }

/-- 0x1400:04: Mask (13_can, Table 13.5). -/
def Obj.moMask : Obj :=
  { base := 0x1400, sub := 0x04, stride := 0x1, count := 512, mo := true, ty := .u 4, right := .rw, rd := 0x04, wr := 0x04, cls := .per, dflt := fun _ _ => 0x1fffffff }

/-- 0x1400:05: Data length (13_can, Table 13.5). -/
def Obj.moLength : Obj :=
  { base := 0x1400, sub := 0x05, stride := 0x1, count := 512, mo := true, ty := .u 1, right := .rw, rd := 0x04, wr := 0x04, cls := .per, dflt := fun _ _ => 8, rng := .oneOf [0, 1, 2, 3, 4, 5, 6, 7, 8, 12, 16, 20, 24, 32, 48, 64] }

/-- 0x1400:06: Data (13_can, Table 13.5). -/
def Obj.moData : Obj :=
  { base := 0x1400, sub := 0x06, stride := 0x1, count := 512, mo := true, ty := .octet, right := .rw, rd := 0x06, wr := 0x06, cls := .vol, rng := .len 0 64 }

/-- 0x1400:07: FIFO next (13_can, Table 13.5). -/
def Obj.moFifoNext : Obj :=
  { base := 0x1400, sub := 0x07, stride := 0x1, count := 512, mo := true, ty := .u 1, right := .rw, rd := 0x04, wr := 0x04, cls := .per, dflt := fun _ _ => 255, rng := .orOne 0 127 0xFF }

/-- 0x1400:08: Send period (13_can, Table 13.5). -/
def Obj.moPeriod : Obj :=
  { base := 0x1400, sub := 0x08, stride := 0x1, count := 512, mo := true, ty := .u 2, right := .rw, rd := 0x04, wr := 0x04, cls := .per, rng := .rng 0 60000 }

/-- 0x1400:09: Deadline (13_can, Table 13.5). -/
def Obj.moDeadline : Obj :=
  { base := 0x1400, sub := 0x09, stride := 0x1, count := 512, mo := true, ty := .u 2, right := .rw, rd := 0x04, wr := 0x04, cls := .per, rng := .rng 0 60000 }

/-- 0x1400:0A: Status (13_can, Table 13.5). -/
def Obj.moStatus : Obj :=
  { base := 0x1400, sub := 0x0A, stride := 0x1, count := 512, mo := true, ty := .u 1, right := .ro, rd := 0x3F, wr := 0x00, cls := .vol }

/-- 0x1400:0B: Last receive or send time (13_can, Table 13.5). -/
def Obj.moTime : Obj :=
  { base := 0x1400, sub := 0x0B, stride := 0x1, count := 512, mo := true, ty := .i 8, right := .ro, rd := 0x3F, wr := 0x00, cls := .vol }

/-- 0x1400:0C: Deadline misses (13_can, Table 13.5). -/
def Obj.moMisses : Obj :=
  { base := 0x1400, sub := 0x0C, stride := 0x1, count := 512, mo := true, ty := .u 4, right := .ro, rd := 0x3F, wr := 0x00, cls := .vol }

/-- 0x1400:0D: Overruns (13_can, Table 13.5). -/
def Obj.moOverruns : Obj :=
  { base := 0x1400, sub := 0x0D, stride := 0x1, count := 512, mo := true, ty := .u 4, right := .ro, rd := 0x3F, wr := 0x00, cls := .vol }

/-- 0x1400:0E: Abort (13_can, Table 13.5). -/
def Obj.moAbort : Obj :=
  { base := 0x1400, sub := 0x0E, stride := 0x1, count := 512, mo := true, ty := .u 1, right := .wo, rd := 0x00, wr := 0x06, cls := .vol, rng := .oneOf [1] }

/-- 0x1400:0F: Pending identifier (13_can, Table 13.5). -/
def Obj.moPendingId : Obj :=
  { base := 0x1400, sub := 0x0F, stride := 0x1, count := 512, mo := true, ty := .u 4, right := .ro, rd := 0x3F, wr := 0x00, cls := .vol }

/-- 0x1480:01: Controller enable (13_can, Table 13.6). -/
def Obj.controllerEnable : Obj :=
  { base := 0x1480, sub := 0x01, stride := 0x100, count := 4, ty := .bool, right := .rw, rd := 0x04, wr := 0x04, cls := .per, dflt := fun _ _ => 1, rng := .rng 0 1 }

/-- 0x1480:02: Nominal rate code (13_can, Table 13.6). -/
def Obj.nominalRateCode : Obj :=
  { base := 0x1480, sub := 0x02, stride := 0x100, count := 4, ty := .u 1, right := .rw, rd := 0x04, wr := 0x04, cls := .per, dflt := fun _ _ => 2, rng := .rng 0 3 }

/-- 0x1480:03: Data rate code (13_can, Table 13.6). -/
def Obj.dataRateCode : Obj :=
  { base := 0x1480, sub := 0x03, stride := 0x100, count := 4, ty := .u 1, right := .rw, rd := 0x04, wr := 0x04, cls := .per, dflt := fun _ _ => 1, rng := .rng 0 4 }

/-- 0x1480:04: Triple sampling (13_can, Table 13.6). -/
def Obj.tripleSampling : Obj :=
  { base := 0x1480, sub := 0x04, stride := 0x100, count := 4, ty := .bool, right := .rw, rd := 0x04, wr := 0x04, cls := .per, rng := .rng 0 1 }

/-- 0x1480:05: Termination (13_can, Table 13.6). -/
def Obj.termination : Obj :=
  { base := 0x1480, sub := 0x05, stride := 0x100, count := 4, ty := .bool, right := .rw, rd := 0x0C, wr := 0x0C, cls := .per, rng := .rng 0 1 }

/-- 0x1480:06: Error warning threshold (13_can, Table 13.6). -/
def Obj.errorWarningThreshold : Obj :=
  { base := 0x1480, sub := 0x06, stride := 0x100, count := 4, ty := .u 1, right := .rw, rd := 0x04, wr := 0x04, cls := .per, dflt := fun _ _ => 96, rng := .rng 1 127 }

/-- 0x1480:07: Controller state (13_can, Table 13.6). -/
def Obj.controllerState : Obj :=
  { base := 0x1480, sub := 0x07, stride := 0x100, count := 4, ty := .u 1, right := .ro, rd := 0x3F, wr := 0x00, cls := .vol, rng := .oneOf [0, 1, 2, 3, 4, 5, 6, 7] }

/-- 0x1480:08, 0x1480:09: TEC, REC (13_can, Table 13.6). -/
def Obj.transmitErrors : Obj :=
  { base := 0x1480, sub := 0x08, stride := 0x100, count := 4, ty := .u 1, right := .ro, rd := 0x3F, wr := 0x00, cls := .vol, rng := .rng 0 255 }

/-- 0x1480:08, 0x1480:09: TEC, REC (13_can, Table 13.6). -/
def Obj.receiveErrors : Obj :=
  { base := 0x1480, sub := 0x09, stride := 0x100, count := 4, ty := .u 1, right := .ro, rd := 0x3F, wr := 0x00, cls := .vol, rng := .rng 0 255 }

/-- 0x1480:0A: Recoveries in the last 3600 s (13_can, Table 13.6). -/
def Obj.recoveriesInTheLast3600S : Obj :=
  { base := 0x1480, sub := 0x0A, stride := 0x100, count := 4, ty := .u 1, right := .ro, rd := 0x3F, wr := 0x00, cls := .vol, rng := .rng 0 8 }

/-- 0x1480:0B: Restart controller (13_can, Table 13.6). -/
def Obj.restartController : Obj :=
  { base := 0x1480, sub := 0x0B, stride := 0x100, count := 4, ty := .u 1, right := .wo, rd := 0x00, wr := 0x0C, cls := .vol, rng := .oneOf [1] }

/-- 0x1480:0C: Unmatched frames dropped (13_can, Table 13.6). -/
def Obj.unmatchedFramesDropped : Obj :=
  { base := 0x1480, sub := 0x0C, stride := 0x100, count := 4, ty := .u 4, right := .ro, rd := 0x3F, wr := 0x00, cls := .vol }

/-- 0x1480:0D: Remote frames ignored (13_can, Table 13.6). -/
def Obj.remoteFramesIgnored : Obj :=
  { base := 0x1480, sub := 0x0D, stride := 0x100, count := 4, ty := .u 4, right := .ro, rd := 0x3F, wr := 0x00, cls := .vol }

/-- 0x1480:0E, 0x1480:0F: Frames received, sent (13_can, Table 13.6). -/
def Obj.framesReceived : Obj :=
  { base := 0x1480, sub := 0x0E, stride := 0x100, count := 4, ty := .u 4, right := .ro, rd := 0x3F, wr := 0x00, cls := .vol }

/-- 0x1480:0E, 0x1480:0F: Frames received, sent (13_can, Table 13.6). -/
def Obj.framesSent : Obj :=
  { base := 0x1480, sub := 0x0F, stride := 0x100, count := 4, ty := .u 4, right := .ro, rd := 0x3F, wr := 0x00, cls := .vol }

/-- 0x1480:10: Operation (13_can, Table 13.6). -/
def Obj.operation : Obj :=
  { base := 0x1480, sub := 0x10, stride := 0x100, count := 4, ty := .u 1, right := .ro, rd := 0x3F, wr := 0x00, cls := .vol, rng := .oneOf [0, 1] }

/-- 0x1480:11: Time-triggered command (13_can, Table 13.6). -/
def Obj.timeTriggeredCommand : Obj :=
  { base := 0x1480, sub := 0x11, stride := 0x100, count := 4, first := 2, ty := .u 1, right := .wo, rd := 0x00, wr := 0x04, cls := .vol, rng := .oneOf [1, 2] }

/-- 0x1480:12: Automatic entry (13_can, Table 13.6). -/
def Obj.automaticEntry : Obj :=
  { base := 0x1480, sub := 0x12, stride := 0x100, count := 4, first := 2, ty := .bool, right := .rw, rd := 0x04, wr := 0x04, cls := .per, rng := .rng 0 1 }

/-- 0x1480:13: Miss threshold (13_can, Table 13.6). -/
def Obj.missThreshold : Obj :=
  { base := 0x1480, sub := 0x13, stride := 0x100, count := 4, first := 2, ty := .u 1, right := .rw, rd := 0x04, wr := 0x04, cls := .per, dflt := fun _ _ => 3, rng := .rng 1 255 }

/-- 0x1480:14: Reference message identifier (13_can, Table 13.6). -/
def Obj.refId : Obj :=
  { base := 0x1480, sub := 0x14, stride := 0x100, count := 4, first := 2, ty := .u 4, right := .rw, rd := 0x04, wr := 0x04, cls := .per }

/-- 0x1480:15: Reference message format (13_can, Table 13.6). -/
def Obj.refFormat : Obj :=
  { base := 0x1480, sub := 0x15, stride := 0x100, count := 4, first := 2, ty := .bool, right := .rw, rd := 0x04, wr := 0x04, cls := .per, rng := .rng 0 1 }

/-- 0x1480:16: Basic cycles (13_can, Table 13.6). -/
def Obj.basicCycles : Obj :=
  { base := 0x1480, sub := 0x16, stride := 0x100, count := 4, first := 2, ty := .u 1, right := .rw, rd := 0x04, wr := 0x04, cls := .per, dflt := fun _ _ => 1, rng := .oneOf [1, 2, 4, 8, 16, 32, 64] }

/-- 0x1480:17: Basic cycle length (13_can, Table 13.6). -/
def Obj.basicCycleLength : Obj :=
  { base := 0x1480, sub := 0x17, stride := 0x100, count := 4, first := 2, ty := .u 2, right := .rw, rd := 0x04, wr := 0x04, cls := .per, dflt := fun _ _ => 5000, rng := .rng 100 65535 }

/-- 0x1480:18: Cycle count (13_can, Table 13.6). -/
def Obj.cycleCount : Obj :=
  { base := 0x1480, sub := 0x18, stride := 0x100, count := 4, first := 2, ty := .u 1, right := .ro, rd := 0x3F, wr := 0x00, cls := .vol, rng := .rng 0 63 }

/-- 0x1490:01 to 0x1490:1F: Time marks of windows 1 to 31 (13_can, Table 13.6). -/
def Obj.timeMark : Obj :=
  { base := 0x1490, sub := 0x01, nsub := 31, stride := 0x100, count := 4, first := 2, ty := .u 2, right := .rw, rd := 0x04, wr := 0x04, cls := .per, rng := .rng 0 65534 }

/-- 0x14A0:01: Schedule matrix (13_can, Table 13.6). -/
def Obj.scheduleMatrix : Obj :=
  { base := 0x14A0, sub := 0x01, stride := 0x100, count := 4, first := 2, ty := .octet, right := .rw, rd := 0x04, wr := 0x04, cls := .per, obytes := List.replicate 4096 0, rng := .len 4096 4096 }

/-- 0xB800:01: Link enable (14_mains_link, Table 14.6). -/
def Obj.linkEnable : Obj :=
  { base := 0xB800, sub := 0x01, ty := .bool, right := .rw, rd := 0x04, wr := 0x04, cls := .per, rng := .rng 0 1 }

/-- 0xB800:02: Reference channel (14_mains_link, Table 14.6). -/
def Obj.referenceChannel : Obj :=
  { base := 0xB800, sub := 0x02, ty := .u 1, right := .rw, rd := 0x0C, wr := 0x0C, cls := .per, rng := .mask 0x0F }

/-- 0xB800:03: Carrier f (14_mains_link, Table 14.6). -/
def Obj.carrier : Obj :=
  { base := 0xB800, sub := 0x03, ty := .u 2, right := .rw, rd := 0x0C, wr := 0x0C, cls := .per, dflt := fun _ _ => 670, rng := .rng 400 900 }

/-- 0xB800:04: Pulse cycles N (14_mains_link, Table 14.6). -/
def Obj.pulseCycles : Obj :=
  { base := 0xB800, sub := 0x04, ty := .u 1, right := .rw, rd := 0x0C, wr := 0x0C, cls := .per, dflt := fun _ _ => 8, rng := .rng 2 21 }

/-- 0xB800:05: Repeat limit (14_mains_link, Table 14.6). -/
def Obj.repeatLimit : Obj :=
  { base := 0xB800, sub := 0x05, ty := .u 1, right := .rw, rd := 0x04, wr := 0x04, cls := .per, dflt := fun _ _ => 3, rng := .rng 0 7 }

/-- 0xB800:06: Poll interval (14_mains_link, Table 14.6). -/
def Obj.pollInterval : Obj :=
  { base := 0xB800, sub := 0x06, ty := .u 2, right := .rw, rd := 0x04, wr := 0x04, cls := .per, dflt := fun _ _ => 10, rng := .rng 1 3600 }

/-- 0xB800:07: Drive amplitude (14_mains_link, Table 14.6). -/
def Obj.driveAmplitude : Obj :=
  { base := 0xB800, sub := 0x07, ty := .u 1, right := .rw, rd := 0x0C, wr := 0x0C, cls := .per, dflt := fun _ _ => 50, rng := .rng 10 100 }

/-- 0xB800:08: Re-estimation interval (14_mains_link, Table 14.6). -/
def Obj.reEstimationInterval : Obj :=
  { base := 0xB800, sub := 0x08, ty := .u 2, right := .rw, rd := 0x04, wr := 0x04, cls := .per, dflt := fun _ _ => 3600, rng := .rng 60 65535 }

/-- 0xB800:09: Link state (14_mains_link, Table 14.6). -/
def Obj.mplState : Obj :=
  { base := 0xB800, sub := 0x09, ty := .u 1, right := .ro, rd := 0x3F, wr := 0x00, cls := .vol, rng := .oneOf [0, 1, 2, 3, 4] }

/-- 0xB800:0A: Claim threshold (14_mains_link, Table 14.6). -/
def Obj.claimThreshold : Obj :=
  { base := 0xB800, sub := 0x0A, ty := .u 2, right := .rw, rd := 0x0C, wr := 0x0C, cls := .per, dflt := fun _ _ => 20, rng := .rng 1 1000 }

/-- 0xB800:0B, 0xB800:0C: Loading 2, loading 1 threshold (14_mains_link, Table 14.6). -/
def Obj.loading2Threshold : Obj :=
  { base := 0xB800, sub := 0x0B, ty := .u 1, right := .rw, rd := 0x0C, wr := 0x0C, cls := .per, dflt := fun _ _ => 16, rng := .rng 0 40 }

/-- 0xB800:0B, 0xB800:0C: Loading 2, loading 1 threshold (14_mains_link, Table 14.6). -/
def Obj.loading1Threshold : Obj :=
  { base := 0xB800, sub := 0x0C, ty := .u 1, right := .rw, rd := 0x0C, wr := 0x0C, cls := .per, dflt := fun _ _ => 8, rng := .rng 0 40 }

/-- 0xB800:0D: Last crossing deviation (14_mains_link, Table 14.6). -/
def Obj.lastCrossingDeviation : Obj :=
  { base := 0xB800, sub := 0x0D, ty := .i 2, right := .ro, rd := 0x3F, wr := 0x00, cls := .vol }

/-- 0xB800:0E: Broadcast repetitions (14_mains_link, Table 14.6). -/
def Obj.broadcastRepetitions : Obj :=
  { base := 0xB800, sub := 0x0E, ty := .u 1, right := .rw, rd := 0x04, wr := 0x04, cls := .per, dflt := fun _ _ => 2, rng := .rng 1 4 }

/-- 0xB800:0F: Erased half-cycles (14_mains_link, Table 14.6). -/
def Obj.erasedHalfCycles : Obj :=
  { base := 0xB800, sub := 0x0F, ty := .u 4, right := .ro, rd := 0x3F, wr := 0x00, cls := .vol }

/-- 0xB841:01: Outstation declared (14_mains_link, Table 14.7). -/
def Obj.osDeclared : Obj :=
  { base := 0xB840, sub := 0x01, stride := 0x1, count := 63, first := 1, ty := .bool, right := .rw, rd := 0x0C, wr := 0x0C, cls := .per, rng := .rng 0 1 }

/-- 0xB841:02: Outstation state (14_mains_link, Table 14.7). -/
def Obj.osState : Obj :=
  { base := 0xB840, sub := 0x02, stride := 0x1, count := 63, first := 1, ty := .u 1, right := .ro, rd := 0x3F, wr := 0x00, cls := .vol, rng := .oneOf [0, 1, 2, 3] }

/-- 0xB841:03: Last answer (14_mains_link, Table 14.7). -/
def Obj.osLastAnswer : Obj :=
  { base := 0xB840, sub := 0x03, stride := 0x1, count := 63, first := 1, ty := .i 8, right := .ro, rd := 0x3F, wr := 0x00, cls := .vol }

/-- 0xB841:04: Inputs (14_mains_link, Table 14.7). -/
def Obj.osInputs : Obj :=
  { base := 0xB840, sub := 0x04, stride := 0x1, count := 63, first := 1, ty := .u 2, right := .ro, rd := 0x3F, wr := 0x00, cls := .vol }

/-- 0xB841:05: Outputs reported (14_mains_link, Table 14.7). -/
def Obj.osOutputs : Obj :=
  { base := 0xB840, sub := 0x05, stride := 0x1, count := 63, first := 1, ty := .u 2, right := .ro, rd := 0x3F, wr := 0x00, cls := .vol }

/-- 0xB841:06: Command (14_mains_link, Table 14.7). -/
def Obj.osCommand : Obj :=
  { base := 0xB840, sub := 0x06, stride := 0x1, count := 63, first := 1, ty := .octet, right := .rw, rd := 0x06, wr := 0x06, cls := .vol, rng := .len 6 6 }

/-- 0xB841:07, 0xB841:08: Map to, from the outstation (14_mains_link, Table 14.7). -/
def Obj.osMap : Obj :=
  { base := 0xB840, sub := 0x07, nsub := 2, stride := 0x1, count := 63, first := 1, ty := .u 4, right := .ro, rd := 0x3F, wr := 0x00, cls := .vol, dflt := fun _ _ => 0x55555555 }

/-- 0xB841:09: Frames abandoned (14_mains_link, Table 14.7). -/
def Obj.osAbandoned : Obj :=
  { base := 0xB840, sub := 0x09, stride := 0x1, count := 63, first := 1, ty := .u 4, right := .ro, rd := 0x3F, wr := 0x00, cls := .vol }

/-- 0xB841:0A: Alarms (14_mains_link, Table 14.7). -/
def Obj.osAlarms : Obj :=
  { base := 0xB840, sub := 0x0A, stride := 0x1, count := 63, first := 1, ty := .u 4, right := .ro, rd := 0x3F, wr := 0x00, cls := .vol }

/-- 0xB841:0B: Map generation in use (14_mains_link, Table 14.7). -/
def Obj.osMapGeneration : Obj :=
  { base := 0xB840, sub := 0x0B, stride := 0x1, count := 63, first := 1, ty := .u 1, right := .ro, rd := 0x3F, wr := 0x00, cls := .vol }

/-- 0xB841:0C: Command outcome (14_mains_link, Table 14.7). -/
def Obj.osOutcome : Obj :=
  { base := 0xB840, sub := 0x0C, stride := 0x1, count := 63, first := 1, ty := .u 1, right := .ro, rd := 0x3F, wr := 0x00, cls := .vol, rng := .oneOf [0, 1, 2, 3] }

/-- 0x7000:01: Channel class (15_load_switches, Table 15.5). -/
def Obj.lsClass : Obj :=
  { base := 0x7000, sub := 0x01, stride := 0x1, count := 96, ty := .u 1, right := .ro, rd := 0x3F, wr := 0x00, cls := .per, own := true, dflt := fun i _ => lsClassOf i, rng := .oneOf [0, 1, 2] }

/-- 0x7000:02: Command (15_load_switches, Table 15.5). -/
def Obj.lsCommand : Obj :=
  { base := 0x7000, sub := 0x02, stride := 0x1, count := 96, ty := .u 2, right := .rw, rd := 0x06, wr := 0x06, cls := .vol, rng := .rng 0 10000 }

/-- 0x7000:03: Steady threshold (15_load_switches, Table 15.5). -/
def Obj.lsSteady : Obj :=
  { base := 0x7000, sub := 0x03, stride := 0x1, count := 96, ty := .u 2, right := .rw, rd := 0x0C, wr := 0x0C, cls := .per, dflt := fun i _ => byClass i 450 800 200 }

/-- 0x7000:04: Inrush threshold (15_load_switches, Table 15.5). -/
def Obj.lsInrush : Obj :=
  { base := 0x7000, sub := 0x04, stride := 0x1, count := 96, ty := .u 2, right := .rw, rd := 0x0C, wr := 0x0C, cls := .per, dflt := fun i _ => byClass i 2000 2500 800 }

/-- 0x7000:05: Inrush window (15_load_switches, Table 15.5). -/
def Obj.lsWindow : Obj :=
  { base := 0x7000, sub := 0x05, stride := 0x1, count := 96, ty := .u 2, right := .rw, rd := 0x0C, wr := 0x0C, cls := .per, dflt := fun i _ => byClass i 200 500 50 }

/-- 0x7000:06: Thermal mode (15_load_switches, Table 15.5). -/
def Obj.lsThermalMode : Obj :=
  { base := 0x7000, sub := 0x06, stride := 0x1, count := 96, ty := .bool, right := .rw, rd := 0x0C, wr := 0x0C, cls := .per, dflt := fun i _ => byClass i 1 0 0, rng := .rng 0 1 }

/-- 0x7000:07: Retry limit (15_load_switches, Table 15.5). -/
def Obj.lsRetryLimit : Obj :=
  { base := 0x7000, sub := 0x07, stride := 0x1, count := 96, ty := .u 1, right := .rw, rd := 0x0C, wr := 0x0C, cls := .per, dflt := fun _ _ => 8, rng := .rng 1 15 }

/-- 0x7000:08: PWM frequency (15_load_switches, Table 15.5). -/
def Obj.lsPwm : Obj :=
  { base := 0x7000, sub := 0x08, stride := 0x1, count := 64, first := 48, ty := .u 2, right := .rw, rd := 0x0C, wr := 0x0C, cls := .per, dflt := fun _ _ => 500, rng := .rng 100 2000 }

/-- 0x7000:09: Off-state diagnostics (15_load_switches, Table 15.5). -/
def Obj.lsDiag : Obj :=
  { base := 0x7000, sub := 0x09, stride := 0x1, count := 96, ty := .bool, right := .rw, rd := 0x0C, wr := 0x0C, cls := .per, dflt := fun _ _ => 1, rng := .rng 0 1 }

/-- 0x7000:0A: Channel state (15_load_switches, Table 15.5). -/
def Obj.lsState : Obj :=
  { base := 0x7000, sub := 0x0A, stride := 0x1, count := 96, ty := .u 1, right := .ro, rd := 0x3F, wr := 0x00, cls := .vol, rng := .rng 0 6 }

/-- 0x7000:0B: Latch cause (15_load_switches, Table 15.5). -/
def Obj.lsCause : Obj :=
  { base := 0x7000, sub := 0x0B, stride := 0x1, count := 96, ty := .u 1, right := .ro, rd := 0x3F, wr := 0x00, cls := .ret, rng := .oneOf [0, 1, 2, 3, 4, 5, 6] }

/-- 0x7000:0C: Clear latch or restart (15_load_switches, Table 15.5). -/
def Obj.lsClear : Obj :=
  { base := 0x7000, sub := 0x0C, stride := 0x1, count := 96, ty := .u 1, right := .wo, rd := 0x00, wr := 0x0C, cls := .vol, rng := .oneOf [1] }

/-- 0x7000:0D: Output current (15_load_switches, Table 15.5). -/
def Obj.lsCurrent : Obj :=
  { base := 0x7000, sub := 0x0D, stride := 0x1, count := 96, ty := .i 2, right := .ro, rd := 0x3F, wr := 0x00, cls := .vol }

/-- 0x7000:0E: Junction temperature (15_load_switches, Table 15.5). -/
def Obj.lsJunction : Obj :=
  { base := 0x7000, sub := 0x0E, stride := 0x1, count := 96, ty := .i 2, right := .ro, rd := 0x3F, wr := 0x00, cls := .vol }

/-- 0x7000:0F: Off-state result (15_load_switches, Table 15.5). -/
def Obj.lsOffResult : Obj :=
  { base := 0x7000, sub := 0x0F, stride := 0x1, count := 96, ty := .u 1, right := .ro, rd := 0x3F, wr := 0x00, cls := .vol, rng := .oneOf [0, 1, 2, 3] }

/-- 0x7000:10: Restarts in window (15_load_switches, Table 15.5). -/
def Obj.lsRestarts : Obj :=
  { base := 0x7000, sub := 0x10, stride := 0x1, count := 96, ty := .u 1, right := .ro, rd := 0x3F, wr := 0x00, cls := .vol, rng := .rng 0 15 }

/-- 0x7000:11: Latch count (15_load_switches, Table 15.5). -/
def Obj.lsLatches : Obj :=
  { base := 0x7000, sub := 0x11, stride := 0x1, count := 96, ty := .u 4, right := .ro, rd := 0x3F, wr := 0x00, cls := .vol }

/-- 0x7000:12: Command source (15_load_switches, Table 15.5). -/
def Obj.lsSource : Obj :=
  { base := 0x7000, sub := 0x12, stride := 0x1, count := 96, ty := .u 1, right := .ro, rd := 0x3F, wr := 0x00, cls := .vol, rng := .oneOf [0, 1, 2] }

/-- 0x2140:01: Group voltage (15_load_switches, Table 15.6). -/
def Obj.groupVoltage : Obj :=
  { base := 0x2140, sub := 0x01, stride := 0x1, count := 8, ty := .u 2, right := .ro, rd := 0x3F, wr := 0x00, cls := .vol }

/-- 0x2140:02: Group current (15_load_switches, Table 15.6). -/
def Obj.groupCurrent : Obj :=
  { base := 0x2140, sub := 0x02, stride := 0x1, count := 8, ty := .u 2, right := .ro, rd := 0x3F, wr := 0x00, cls := .vol }

/-- 0x2140:03: Group flags (15_load_switches, Table 15.6). -/
def Obj.groupFlags : Obj :=
  { base := 0x2140, sub := 0x03, stride := 0x1, count := 8, ty := .u 1, right := .ro, rd := 0x3F, wr := 0x00, cls := .vol }

/-- 0x2140:04: Undervoltage level (15_load_switches, Table 15.6). -/
def Obj.undervoltageLevel : Obj :=
  { base := 0x2140, sub := 0x04, stride := 0x1, count := 8, ty := .u 2, right := .rw, rd := 0x0C, wr := 0x0C, cls := .per, dflt := fun _ _ => 1800, rng := .rng 1200 2400 }

/-- 0x2140:05: Over-current episodes (15_load_switches, Table 15.6). -/
def Obj.overCurrentEpisodes : Obj :=
  { base := 0x2140, sub := 0x05, stride := 0x1, count := 8, ty := .u 4, right := .ro, rd := 0x3F, wr := 0x00, cls := .vol }

/-- 0xA000:01 to 0xA000:08: Configuration of SI0 to SI7 (16_safety, Table 16.7). -/
def Obj.siConfig : Obj :=
  { base := 0xA000, sub := 0x01, nsub := 8, ty := .u 1, right := .rws, rd := 0x08, wr := 0x08, cls := .per }

/-- 0xA010:01: Input mask (16_safety, Table 16.7). -/
def Obj.inputMask : Obj :=
  { base := 0xA010, sub := 0x01, stride := 0x1, count := 8, ty := .u 1, right := .rws, rd := 0x08, wr := 0x08, cls := .per }

/-- 0xA010:02: Output mask (16_safety, Table 16.7). -/
def Obj.outputMask : Obj :=
  { base := 0xA010, sub := 0x02, stride := 0x1, count := 8, ty := .u 1, right := .rws, rd := 0x08, wr := 0x08, cls := .per }

/-- 0xA010:03: Restart mode (16_safety, Table 16.7). -/
def Obj.restartMode : Obj :=
  { base := 0xA010, sub := 0x03, stride := 0x1, count := 8, ty := .u 1, right := .rws, rd := 0x08, wr := 0x08, cls := .per, rng := .oneOf [0, 1] }

/-- 0xA010:04: Function state (16_safety, Table 16.7). -/
def Obj.functionState : Obj :=
  { base := 0xA010, sub := 0x04, stride := 0x1, count := 8, ty := .u 1, right := .ro, rd := 0x3F, wr := 0x00, cls := .vol, dflt := fun _ _ => 1, rng := .oneOf [0, 1] }

/-- 0xA020:01: Safe output states (16_safety, Table 16.7). -/
def Obj.safeOutputStates : Obj :=
  { base := 0xA020, sub := 0x01, ty := .u 1, right := .ro, rd := 0x3F, wr := 0x00, cls := .vol }

/-- 0xA020:02: Read-back above 18 V (16_safety, Table 16.7). -/
def Obj.readBackAbove18V : Obj :=
  { base := 0xA020, sub := 0x02, ty := .u 1, right := .ro, rd := 0x3F, wr := 0x00, cls := .vol }

/-- 0xA021:01: Safe input states (16_safety, Table 16.7). -/
def Obj.safeInputStates : Obj :=
  { base := 0xA021, sub := 0x01, ty := .u 1, right := .ro, rd := 0x3F, wr := 0x00, cls := .vol }

/-- 0xA021:02: Input faults (16_safety, Table 16.7). -/
def Obj.inputFaults : Obj :=
  { base := 0xA021, sub := 0x02, ty := .u 1, right := .ro, rd := 0x3F, wr := 0x00, cls := .vol }

/-- 0xA022:01: Output faults (16_safety, Table 16.7). -/
def Obj.outputFaults : Obj :=
  { base := 0xA022, sub := 0x01, ty := .u 2, right := .ro, rd := 0x3F, wr := 0x00, cls := .per, own := true }

/-- 0xA022:02: Clear output fault (16_safety, Table 16.7). -/
def Obj.clearOutputFault : Obj :=
  { base := 0xA022, sub := 0x02, ty := .u 1, right := .wo, rd := 0x00, wr := 0x08, cls := .vol, rng := .rng 0 7 }

/-- 0xA023:00: HP state (16_safety, Table 16.7). -/
def Obj.hpState : Obj :=
  { base := 0xA023, sub := 0x00, ty := .u 1, right := .ro, rd := 0x3F, wr := 0x00, cls := .vol, rng := .oneOf [0, 1, 2] }

/-- 0xA030:01: Brake test hold time (16_safety, Table 16.7). -/
def Obj.brakeTestHoldTime : Obj :=
  { base := 0xA030, sub := 0x01, stride := 0x1, count := 2, ty := .u 2, right := .rws, rd := 0x08, wr := 0x08, cls := .per, dflt := fun _ _ => 2000, rng := .rng 500 10000 }

/-- 0xA030:02: Allowed encoder count (16_safety, Table 16.7). -/
def Obj.allowedEncoderCount : Obj :=
  { base := 0xA030, sub := 0x02, stride := 0x1, count := 2, ty := .u 2, right := .rws, rd := 0x08, wr := 0x08, cls := .per, dflt := fun _ _ => 4, rng := .rng 0 1000 }

/-- 0xA030:03: Last test result (16_safety, Table 16.7). -/
def Obj.brakeTestResult : Obj :=
  { base := 0xA030, sub := 0x03, stride := 0x1, count := 2, ty := .u 1, right := .ro, rd := 0x3F, wr := 0x00, cls := .per, own := true, rng := .oneOf [0, 1, 2] }

/-- 0xA030:04: Last test time (16_safety, Table 16.7). -/
def Obj.brakeTestTime : Obj :=
  { base := 0xA030, sub := 0x04, stride := 0x1, count := 2, ty := .i 8, right := .ro, rd := 0x3F, wr := 0x00, cls := .per, own := true }

/-- 0xA030:05: Start brake test (16_safety, Table 16.7). -/
def Obj.startBrakeTest : Obj :=
  { base := 0xA030, sub := 0x05, stride := 0x1, count := 2, ty := .u 1, right := .wo, rd := 0x00, wr := 0x0E, cls := .vol, rng := .oneOf [1] }

/-- 0xA030:06: Test torque applied (16_safety, Table 16.7). -/
def Obj.testTorqueApplied : Obj :=
  { base := 0xA030, sub := 0x06, stride := 0x1, count := 2, ty := .u 1, right := .wo, rd := 0x00, wr := 0x0E, cls := .vol, rng := .oneOf [1] }

/-- 0xA030:07: Clear brake lockout (16_safety, Table 16.7). -/
def Obj.clearBrakeLockout : Obj :=
  { base := 0xA030, sub := 0x07, stride := 0x1, count := 2, ty := .u 1, right := .wo, rd := 0x00, wr := 0x08, cls := .vol, rng := .oneOf [1] }

/-- 0xA040:01: Pending configuration CRC (16_safety, Table 16.7). -/
def Obj.pendingConfigurationCRC : Obj :=
  { base := 0xA040, sub := 0x01, ty := .u 4, right := .ro, rd := 0x3F, wr := 0x00, cls := .vol }

/-- 0xA040:02: Confirm configuration (16_safety, Table 16.7). -/
def Obj.confirmConfiguration : Obj :=
  { base := 0xA040, sub := 0x02, ty := .u 4, right := .wo, rd := 0x00, wr := 0x08, cls := .vol }

/-- 0xA040:03: Configuration CRC in use (16_safety, Table 16.7). -/
def Obj.configurationCRCInUse : Obj :=
  { base := 0xA040, sub := 0x03, ty := .u 4, right := .ro, rd := 0x3F, wr := 0x00, cls := .per, own := true }

/-- 0xA041:01: Guard inputs outstanding (16_safety, Table 16.7). -/
def Obj.guardInputsOutstanding : Obj :=
  { base := 0xA041, sub := 0x01, ty := .u 1, right := .ro, rd := 0x3F, wr := 0x00, cls := .vol }

/-- 0xA050:01: Output demand (16_safety, Table 16.7). -/
def Obj.outputDemand : Obj :=
  { base := 0xA050, sub := 0x01, ty := .u 1, right := .rw, rd := 0x06, wr := 0x06, cls := .vol, dflt := fun _ _ => 15 }

/-- 0xA800:01: Role (17_redundancy, Table 17.13). -/
def Obj.role : Obj :=
  { base := 0xA800, sub := 0x01, ty := .u 1, right := .ro, rd := 0x3F, wr := 0x00, cls := .vol, dflt := fun _ _ => 4, rng := .oneOf [0, 1, 2, 3, 4] }

/-- 0xA800:02: Role command (17_redundancy, Table 17.13). -/
def Obj.roleCommand : Obj :=
  { base := 0xA800, sub := 0x02, ty := .u 1, right := .wo, rd := 0x00, wr := 0x0C, cls := .vol, rng := .oneOf [1, 2, 3, 4] }

/-- 0xA800:03: Backplane (17_redundancy, Table 17.13). -/
def Obj.backplane : Obj :=
  { base := 0xA800, sub := 0x03, ty := .u 1, right := .ro, rd := 0x3F, wr := 0x00, cls := .vol }

/-- 0xA800:04: Partner role (17_redundancy, Table 17.13). -/
def Obj.partnerRole : Obj :=
  { base := 0xA800, sub := 0x04, ty := .u 1, right := .ro, rd := 0x3F, wr := 0x00, cls := .vol, dflt := fun _ _ => 255 }

/-- 0xA800:05: Takeovers (17_redundancy, Table 17.13). -/
def Obj.takeovers : Obj :=
  { base := 0xA800, sub := 0x05, ty := .u 4, right := .ro, rd := 0x3F, wr := 0x00, cls := .per, own := true }

/-- 0xA800:06: Last cause (17_redundancy, Table 17.13). -/
def Obj.lastCause : Obj :=
  { base := 0xA800, sub := 0x06, ty := .u 1, right := .ro, rd := 0x3F, wr := 0x00, cls := .vol }

/-- 0xA800:07: Time of last role change (17_redundancy, Table 17.13). -/
def Obj.timeOfLastRoleChange : Obj :=
  { base := 0xA800, sub := 0x07, ty := .i 8, right := .ro, rd := 0x3F, wr := 0x00, cls := .vol }

/-- 0xA800:08: Partner link state (17_redundancy, Table 17.13). -/
def Obj.partnerLinkState : Obj :=
  { base := 0xA800, sub := 0x08, ty := .u 1, right := .ro, rd := 0x3F, wr := 0x00, cls := .vol }

/-- 0xA800:09: Site IPv4 address (17_redundancy, Table 17.13). -/
def Obj.siteIpAddress : Obj :=
  { base := 0xA800, sub := 0x09, ty := .u 4, right := .rw, rd := 0x04, wr := 0x04, cls := .per, dflt := fun _ _ => 0xc0a86014 }

/-- 0xA801:00: Lease length L (17_redundancy, Table 17.13). -/
def Obj.leaseLength : Obj :=
  { base := 0xA801, sub := 0x00, ty := .u 1, right := .rw, rd := 0x0C, wr := 0x0C, cls := .per, dflt := fun _ _ => 3, rng := .rng 2 16 }

/-- 0xA802:01: Score (17_redundancy, Table 17.13). -/
def Obj.fitScore : Obj :=
  { base := 0xA802, sub := 0x01, ty := .u 1, right := .ro, rd := 0x3F, wr := 0x00, cls := .vol, rng := .rng 0 100 }

/-- 0xA802:02: Fit to take over (17_redundancy, Table 17.13). -/
def Obj.fitToTakeOver : Obj :=
  { base := 0xA802, sub := 0x02, ty := .bool, right := .ro, rd := 0x3F, wr := 0x00, cls := .vol, rng := .rng 0 1 }

/-- 0xA802:03: Fitness threshold (17_redundancy, Table 17.13). -/
def Obj.fitnessThreshold : Obj :=
  { base := 0xA802, sub := 0x03, ty := .u 1, right := .rw, rd := 0x04, wr := 0x04, cls := .per, dflt := fun _ _ => 70, rng := .rng 1 100 }

/-- 0xA802:04: Items listed (17_redundancy, Table 17.13). -/
def Obj.itemsListed : Obj :=
  { base := 0xA802, sub := 0x04, ty := .u 1, right := .ro, rd := 0x3F, wr := 0x00, cls := .vol, rng := .rng 0 64 }

/-- 0xA802:05: Item list (17_redundancy, Table 17.13). -/
def Obj.itemList : Obj :=
  { base := 0xA802, sub := 0x05, ty := .octet, right := .ro, rd := 0x3F, wr := 0x00, cls := .vol, rng := .len 16 16 }

/-- 0xA802:06, 0xA802:07: Partner score, partner fit (17_redundancy, Table 17.13). -/
def Obj.partnerScore : Obj :=
  { base := 0xA802, sub := 0x06, ty := .u 1, right := .ro, rd := 0x3F, wr := 0x00, cls := .vol, rng := .rng 0 100 }

/-- 0xA802:06, 0xA802:07: Partner score, partner fit (17_redundancy, Table 17.13). -/
def Obj.partnerFit : Obj :=
  { base := 0xA802, sub := 0x07, ty := .bool, right := .ro, rd := 0x3F, wr := 0x00, cls := .vol, rng := .rng 0 1 }

/-- 0xA802:08: Time of report (17_redundancy, Table 17.13). -/
def Obj.reportTime : Obj :=
  { base := 0xA802, sub := 0x08, ty := .i 8, right := .ro, rd := 0x3F, wr := 0x00, cls := .vol }

/-- 0xA803:01: Mirrors received (17_redundancy, Table 17.13). -/
def Obj.mirrorsReceived : Obj :=
  { base := 0xA803, sub := 0x01, ty := .u 4, right := .ro, rd := 0x3F, wr := 0x00, cls := .vol }

/-- 0xA803:02: Mirrors missing or failed (17_redundancy, Table 17.13). -/
def Obj.mirrorsMissingOrFailed : Obj :=
  { base := 0xA803, sub := 0x02, ty := .u 4, right := .ro, rd := 0x3F, wr := 0x00, cls := .vol }

/-- 0xA803:03: Shadow mismatches (17_redundancy, Table 17.13). -/
def Obj.shadowMismatches : Obj :=
  { base := 0xA803, sub := 0x03, ty := .u 4, right := .ro, rd := 0x3F, wr := 0x00, cls := .vol }

/-- 0xA803:04: Frames ungranted (17_redundancy, Table 17.13). -/
def Obj.framesUngranted : Obj :=
  { base := 0xA803, sub := 0x04, ty := .u 4, right := .ro, rd := 0x3F, wr := 0x00, cls := .vol }

/-- 0x2002:01: Last reset cause (18_supply_reset, Table 18.9). -/
def Obj.lastResetCause : Obj :=
  { base := 0x2002, sub := 0x01, ty := .u 1, right := .ro, rd := 0x3F, wr := 0x00, cls := .per, own := true, rng := .oneOf [0, 1, 2, 3] }

/-- 0x2002:02: WDT source (18_supply_reset, Table 18.9). -/
def Obj.wdtSource : Obj :=
  { base := 0x2002, sub := 0x02, ty := .u 1, right := .ro, rd := 0x3F, wr := 0x00, cls := .per, own := true, rng := .oneOf [0, 1, 2, 3, 4] }

/-- 0x2002:03: Time of last reset (18_supply_reset, Table 18.9). -/
def Obj.timeOfLastReset : Obj :=
  { base := 0x2002, sub := 0x03, ty := .i 8, right := .ro, rd := 0x3F, wr := 0x00, cls := .per, own := true }

/-- 0x2002:04 to 0x2002:07: POR, BOR, WDT, SWR counts (18_supply_reset, Table 18.9). -/
def Obj.resetCount : Obj :=
  { base := 0x2002, sub := 0x04, nsub := 4, ty := .u 4, right := .ro, rd := 0x3F, wr := 0x00, cls := .per, own := true }

/-- 0x2002:08: HP watchdog resets (18_supply_reset, Table 18.9). -/
def Obj.hpWatchdogResets : Obj :=
  { base := 0x2002, sub := 0x08, ty := .u 4, right := .ro, rd := 0x3F, wr := 0x00, cls := .per, own := true }

/-- 0x2002:09: Duration of last BACKUP (18_supply_reset, Table 18.9). -/
def Obj.durationOfLastBackup : Obj :=
  { base := 0x2002, sub := 0x09, ty := .u 4, right := .ro, rd := 0x3F, wr := 0x00, cls := .per, own := true }

/-- 0x2005:00: Software reset (18_supply_reset, Table 18.9). -/
def Obj.softwareReset : Obj :=
  { base := 0x2005, sub := 0x00, ty := .u 1, right := .wo, rd := 0x00, wr := 0x0C, cls := .vol, rng := .oneOf [1, 2] }

/-- 0x2100:01 to 0x2100:03: VAUX, VSAFE, VLOAD voltage (18_supply_reset, Table 18.9). -/
def Obj.supplyVoltage : Obj :=
  { base := 0x2100, sub := 0x01, nsub := 3, ty := .u 2, right := .ro, rd := 0x3F, wr := 0x00, cls := .vol }

/-- 0x2100:04: VAUX current (18_supply_reset, Table 18.9). -/
def Obj.vauxCurrent : Obj :=
  { base := 0x2100, sub := 0x04, ty := .u 2, right := .ro, rd := 0x3F, wr := 0x00, cls := .vol }

/-- 0x2100:05, 0x2100:06: VSAFE, VLOAD current (18_supply_reset, Table 18.9). -/
def Obj.supplyCurrent : Obj :=
  { base := 0x2100, sub := 0x05, nsub := 2, ty := .u 2, right := .ro, rd := 0x3F, wr := 0x00, cls := .vol }

/-- 0x2100:07: Module power (18_supply_reset, Table 18.9). -/
def Obj.modulePower : Obj :=
  { base := 0x2100, sub := 0x07, ty := .u 2, right := .ro, rd := 0x3F, wr := 0x00, cls := .vol }

/-- 0x2100:08: Input flags (18_supply_reset, Table 18.9). -/
def Obj.inputFlags : Obj :=
  { base := 0x2100, sub := 0x08, ty := .u 2, right := .ro, rd := 0x3F, wr := 0x00, cls := .vol }

/-- 0x2101:01: Quicksand window (18_supply_reset, Table 18.9). -/
def Obj.quicksandWindow : Obj :=
  { base := 0x2101, sub := 0x01, ty := .u 1, right := .ro, rd := 0x3F, wr := 0x00, cls := .vol, rng := .oneOf [0, 1, 2] }

/-- 0x2101:02: Dips without reset (18_supply_reset, Table 18.9). -/
def Obj.dipsWithoutReset : Obj :=
  { base := 0x2101, sub := 0x02, ty := .u 4, right := .ro, rd := 0x3F, wr := 0x00, cls := .per, own := true }

/-- 0x2101:03: Episode elapsed time (18_supply_reset, Table 18.9). -/
def Obj.episodeElapsedTime : Obj :=
  { base := 0x2101, sub := 0x03, ty := .u 2, right := .ro, rd := 0x3F, wr := 0x00, cls := .vol }

/-- 0x2101:04: Lowest VAUX in last dip (18_supply_reset, Table 18.9). -/
def Obj.lowestVauxInLastDip : Obj :=
  { base := 0x2101, sub := 0x04, ty := .u 2, right := .ro, rd := 0x3F, wr := 0x00, cls := .per, own := true }

/-- 0x2101:05: Time of last warning (18_supply_reset, Table 18.9). -/
def Obj.timeOfLastWarning : Obj :=
  { base := 0x2101, sub := 0x05, ty := .i 8, right := .ro, rd := 0x3F, wr := 0x00, cls := .per, own := true }

/-- 0x2102:01: VBAT voltage (18_supply_reset, Table 18.9). -/
def Obj.vbatVoltage : Obj :=
  { base := 0x2102, sub := 0x01, ty := .u 2, right := .ro, rd := 0x3F, wr := 0x00, cls := .vol }

/-- 0x2102:02: Cell state (18_supply_reset, Table 18.9). -/
def Obj.cellState : Obj :=
  { base := 0x2102, sub := 0x02, ty := .u 1, right := .ro, rd := 0x3F, wr := 0x00, cls := .vol, rng := .oneOf [0, 1, 2] }

/-- 0x2102:03: Time in BACKUP, total (18_supply_reset, Table 18.9). -/
def Obj.timeInBackupTotal : Obj :=
  { base := 0x2102, sub := 0x03, ty := .u 4, right := .ro, rd := 0x3F, wr := 0x00, cls := .bat }

/-- 0x2102:04: Charge drawn from cell (18_supply_reset, Table 18.9). -/
def Obj.chargeDrawnFromCell : Obj :=
  { base := 0x2102, sub := 0x04, ty := .u 4, right := .ro, rd := 0x3F, wr := 0x00, cls := .bat }

/-- 0x2102:05: Cell replaced (18_supply_reset, Table 18.9). -/
def Obj.cellReplaced : Obj :=
  { base := 0x2102, sub := 0x05, ty := .u 1, right := .wo, rd := 0x00, wr := 0x0C, cls := .vol, rng := .oneOf [1] }

/-- 0x2103:01: Idle enable (18_supply_reset, Table 18.9). -/
def Obj.idleEnable : Obj :=
  { base := 0x2103, sub := 0x01, ty := .bool, right := .rw, rd := 0x04, wr := 0x04, cls := .per, dflt := fun _ _ => 1, rng := .rng 0 1 }

/-- 0x2103:02: Idle delay (18_supply_reset, Table 18.9). -/
def Obj.idleDelay : Obj :=
  { base := 0x2103, sub := 0x02, ty := .u 2, right := .rw, rd := 0x04, wr := 0x04, cls := .per, dflt := fun _ _ => 300, rng := .rng 10 3600 }

/-- 0x2103:03: Wake (18_supply_reset, Table 18.9). -/
def Obj.wake : Obj :=
  { base := 0x2103, sub := 0x03, ty := .u 1, right := .wo, rd := 0x00, wr := 0x06, cls := .vol, rng := .oneOf [1] }

/-- 0x2120:01 to 0x2120:28: Supply monitors, Table 18.2 (18_supply_reset, Table 18.9). -/
def Obj.supplyMonitor : Obj :=
  { base := 0x2120, sub := 0x01, nsub := 40, ty := .u 2, right := .ro, rd := 0x3F, wr := 0x00, cls := .vol }

/-- 0x2400:01: Silt passes (19_memory, Table 19.10). -/
def Obj.siltPasses : Obj :=
  { base := 0x2400, sub := 0x01, ty := .u 4, right := .ro, rd := 0x3F, wr := 0x00, cls := .vol }

/-- 0x2400:02: Current region (19_memory, Table 19.10). -/
def Obj.currentRegion : Obj :=
  { base := 0x2400, sub := 0x02, ty := .u 2, right := .ro, rd := 0x3F, wr := 0x00, cls := .vol, rng := .rng 0 24575 }

/-- 0x2400:03: Last pass length (19_memory, Table 19.10). -/
def Obj.lastPassLength : Obj :=
  { base := 0x2400, sub := 0x03, ty := .u 4, right := .ro, rd := 0x3F, wr := 0x00, cls := .vol }

/-- 0x2400:04: Abandoned region tests (19_memory, Table 19.10). -/
def Obj.abandonedRegionTests : Obj :=
  { base := 0x2400, sub := 0x04, ty := .u 4, right := .ro, rd := 0x3F, wr := 0x00, cls := .vol }

/-- 0x2400:05: Skipped regions (19_memory, Table 19.10). -/
def Obj.skippedRegions : Obj :=
  { base := 0x2400, sub := 0x05, ty := .u 4, right := .ro, rd := 0x3F, wr := 0x00, cls := .vol }

/-- 0x2400:06: Background in use (19_memory, Table 19.10). -/
def Obj.backgroundInUse : Obj :=
  { base := 0x2400, sub := 0x06, ty := .u 1, right := .ro, rd := 0x3F, wr := 0x00, cls := .vol, rng := .oneOf [0, 1] }

/-- 0x2401:01 to 0x2401:05: Lockstep and private memory faults: AP0, AP1, MP, HP, KC (19_memory, Table 19.10). -/
def Obj.lockstepFaults : Obj :=
  { base := 0x2401, sub := 0x01, nsub := 5, ty := .u 4, right := .ro, rd := 0x3F, wr := 0x00, cls := .per, own := true }

/-- 0x2401:06: Private memory corrected errors (19_memory, Table 19.10). -/
def Obj.privateMemoryCorrectedErrors : Obj :=
  { base := 0x2401, sub := 0x06, ty := .u 4, right := .ro, rd := 0x3F, wr := 0x00, cls := .vol }

/-- 0x2402:01: Head commit sequence (19_memory, Table 19.10). -/
def Obj.headCommitSequence : Obj :=
  { base := 0x2402, sub := 0x01, ty := .u 8, right := .ro, rd := 0x3F, wr := 0x00, cls := .vol }

/-- 0x2402:02: Commit ring fill (19_memory, Table 19.10). -/
def Obj.commitRingFill : Obj :=
  { base := 0x2402, sub := 0x02, ty := .u 2, right := .ro, rd := 0x3F, wr := 0x00, cls := .vol, rng := .rng 0 1000 }

/-- 0x2402:03: Commits in the last second (19_memory, Table 19.10). -/
def Obj.commitsInTheLastSecond : Obj :=
  { base := 0x2402, sub := 0x03, ty := .u 2, right := .ro, rd := 0x3F, wr := 0x00, cls := .vol }

/-- 0x2402:04: Bytes committed in the last second (19_memory, Table 19.10). -/
def Obj.bytesCommittedInTheLastSecond : Obj :=
  { base := 0x2402, sub := 0x04, ty := .u 4, right := .ro, rd := 0x3F, wr := 0x00, cls := .vol }

/-- 0x2402:05: Torn commits at last mount (19_memory, Table 19.10). -/
def Obj.tornCommitsAtLastMount : Obj :=
  { base := 0x2402, sub := 0x05, ty := .u 2, right := .ro, rd := 0x3F, wr := 0x00, cls := .vol }

/-- 0x2402:06: Ring wraps (19_memory, Table 19.10). -/
def Obj.ringWraps : Obj :=
  { base := 0x2402, sub := 0x06, ty := .u 4, right := .ro, rd := 0x3F, wr := 0x00, cls := .per, own := true }

/-- 0x2402:07: Archive fill (19_memory, Table 19.10). -/
def Obj.archiveFill : Obj :=
  { base := 0x2402, sub := 0x07, ty := .u 2, right := .ro, rd := 0x3F, wr := 0x00, cls := .vol, rng := .rng 0 1000 }

/-- 0x2403:01: Configuration generation in use (19_memory, Table 19.10). -/
def Obj.configurationGenerationInUse : Obj :=
  { base := 0x2403, sub := 0x01, ty := .u 4, right := .ro, rd := 0x3F, wr := 0x00, cls := .vol }

/-- 0x2403:02: Highest sector erase count (19_memory, Table 19.10). -/
def Obj.highestSectorEraseCount : Obj :=
  { base := 0x2403, sub := 0x02, ty := .u 4, right := .ro, rd := 0x3F, wr := 0x00, cls := .vol }

/-- 0x2403:03: Sectors out of use (19_memory, Table 19.10). -/
def Obj.sectorsOutOfUse : Obj :=
  { base := 0x2403, sub := 0x03, ty := .u 2, right := .ro, rd := 0x3F, wr := 0x00, cls := .per, own := true, rng := .rng 0 1024 }

/-- 0x2420:01: Owner (19_memory, Table 19.11). -/
def Obj.owner : Obj :=
  { base := 0x2420, sub := 0x01, stride := 0x1, count := 24, ty := .u 1, right := .ro, rd := 0x3F, wr := 0x00, cls := .vol, dflt := fun i _ => bankOwnerAtStart i, rng := .rng 0 8 }

/-- 0x2420:02: XD secondary access (19_memory, Table 19.11). -/
def Obj.xdSecondaryAccess : Obj :=
  { base := 0x2420, sub := 0x02, stride := 0x1, count := 24, ty := .u 1, right := .ro, rd := 0x3F, wr := 0x00, cls := .vol, rng := .oneOf [0, 1, 2] }

/-- 0x2420:03: Corrected errors (19_memory, Table 19.11). -/
def Obj.correctedErrors : Obj :=
  { base := 0x2420, sub := 0x03, stride := 0x1, count := 24, ty := .u 4, right := .ro, rd := 0x3F, wr := 0x00, cls := .vol }

/-- 0x2420:04: Uncorrectable errors (19_memory, Table 19.11). -/
def Obj.uncorrectableErrors : Obj :=
  { base := 0x2420, sub := 0x04, stride := 0x1, count := 24, ty := .u 4, right := .ro, rd := 0x3F, wr := 0x00, cls := .vol }

/-- 0x2420:05: March failures (19_memory, Table 19.11). -/
def Obj.marchFailures : Obj :=
  { base := 0x2420, sub := 0x05, stride := 0x1, count := 24, ty := .u 4, right := .ro, rd := 0x3F, wr := 0x00, cls := .per, own := true }

/-- 0x2420:06: Last error address (19_memory, Table 19.11). -/
def Obj.lastErrorAddress : Obj :=
  { base := 0x2420, sub := 0x06, stride := 0x1, count := 24, ty := .u 4, right := .ro, rd := 0x3F, wr := 0x00, cls := .vol }

/-- 0x2420:07: Refused owner writes (19_memory, Table 19.11). -/
def Obj.refusedOwnerWrites : Obj :=
  { base := 0x2420, sub := 0x07, stride := 0x1, count := 24, ty := .u 4, right := .ro, rd := 0x3F, wr := 0x00, cls := .vol }

/-- 0x2420:08: Handovers (19_memory, Table 19.11). -/
def Obj.handovers : Obj :=
  { base := 0x2420, sub := 0x08, stride := 0x1, count := 24, ty := .u 4, right := .ro, rd := 0x3F, wr := 0x00, cls := .vol }

/-- 0x2006:01: Straps read (20_module, Table 20.12). -/
def Obj.strapsRead : Obj :=
  { base := 0x2006, sub := 0x01, ty := .u 1, right := .ro, rd := 0x3F, wr := 0x00, cls := .vol }

/-- 0x2006:02: Operating time (20_module, Table 20.12). -/
def Obj.operatingTime : Obj :=
  { base := 0x2006, sub := 0x02, ty := .u 4, right := .ro, rd := 0x3F, wr := 0x00, cls := .per, own := true }

/-- 0x2006:03: Time with any die channel above 100 °C (20_module, Table 20.12). -/
def Obj.timeWithAnyDieChannelAbove100C : Obj :=
  { base := 0x2006, sub := 0x03, ty := .u 4, right := .ro, rd := 0x3F, wr := 0x00, cls := .per, own := true }

/-- 0x2006:04: Starts (20_module, Table 20.12). -/
def Obj.starts : Obj :=
  { base := 0x2006, sub := 0x04, ty := .u 4, right := .ro, rd := 0x3F, wr := 0x00, cls := .per, own := true }

/-- A piece of the object table. -/
def objTablePart0 : List Obj :=
  [Obj.powerState, Obj.startUpStage, Obj.topologyResult, Obj.refusedCabinets,
   Obj.refusedBlocks, Obj.refusedOutlets, Obj.refusedFeeders, Obj.absentOutstations,
   Obj.refusedPhases, Obj.lastCheckTime, Obj.runTopologyCheck, Obj.frameCounter,
   Obj.requestedDuneDepth, Obj.appliedDuneDepth, Obj.samplingLead, Obj.lateTelemetry,
   Obj.fastOverruns, Obj.dispatchMisses, Obj.fastPassOverruns, Obj.slowOverruns,
   Obj.staleLimit, Obj.moduleTime, Obj.timeQuality, Obj.ptpEnable,
   Obj.ptpDomain, Obj.rateTrim, Obj.lastPTPOffset, Obj.masterIdentity,
   Obj.timeInHoldover, Obj.crystalDeviationAgainstRTC, Obj.linkDeclared, Obj.declaredPhaseCount,
   Obj.declaredBlockCount, Obj.declaredContactorCount, Obj.declaredVersion, Obj.declaredSupplyMap,
   Obj.declaredSerial, Obj.dataTransmitSwing, Obj.dataTransmitDeEmphasis, Obj.bringUpRetryInterval]

/-- A piece of the object table. -/
def objTablePart1 : List Obj :=
  [Obj.linkState, Obj.lanesInService, Obj.eyeFigure, Obj.oneWayDelayD,
   Obj.lastRefusalCause, Obj.laneCrcFailures, Obj.lateOrMissingTelemetry, Obj.commandsDroppedByTerminal,
   Obj.linkLostCount, Obj.serviceResends, Obj.idVersion, Obj.idPhases,
   Obj.idBlocks, Obj.idContactors, Obj.idSupplyMap, Obj.idReadyTime,
   Obj.idMaker, Obj.idSerial, Obj.idFirmware, Obj.terminalConfigurationImage,
   Obj.appliedImageCRC, Obj.restartBringUp, Obj.firmwareWriteOffset, Obj.firmwareData,
   Obj.activateTerminalFirmware, Obj.carrierMultiple, Obj.alignment, Obj.minimumOnTime,
   Obj.minimumOffTime, Obj.dutyCeiling, Obj.startDelay, Obj.startRamp,
   Obj.stopRamp, Obj.stopDelay, Obj.blockCurrentRating, Obj.sheddingEnable,
   Obj.stepThreshold, Obj.blockState, Obj.usablePhases, Obj.switchingPhases]

/-- A piece of the object table. -/
def objTablePart2 : List Obj :=
  [Obj.effectiveRating, Obj.lastStartRefusalCause, Obj.startCount, Obj.clearOverVoltageLatch,
   Obj.latchingOutlet, Obj.phaseDeclared, Obj.deadTime, Obj.strongOn,
   Obj.weakOnConfigured, Obj.strongOff, Obj.weakOffConfigured, Obj.weakLowerLimit,
   Obj.weakUpperLimit, Obj.dvdtTargetOn, Obj.dvdtTargetOff, Obj.dvdtBand,
   Obj.bootstrapMin, Obj.phaseState, Obj.weakOnApplied, Obj.weakOffApplied,
   Obj.faultCount, Obj.lastFaultStatus, Obj.lockoutCause, Obj.clearLockout,
   Obj.retryDelay, Obj.dvdtMaxOn, Obj.dvdtMaxOff, Obj.slotKind,
   Obj.slotClass, Obj.slotDivide, Obj.slotParent, Obj.slotLaw,
   Obj.slotPolarity, Obj.slotGainTable, Obj.slotKp, Obj.slotKi,
   Obj.slotOutMin, Obj.slotOutMax, Obj.slotIntMin, Obj.slotIntMax]

/-- A piece of the object table. -/
def objTablePart3 : List Obj :=
  [Obj.slotMeasSource, Obj.slotRefSource, Obj.slotFfSource, Obj.slotRunState,
   Obj.slotReference, Obj.slotMeasurement, Obj.slotError, Obj.slotIntegrator,
   Obj.slotOutput, Obj.slotFlags, Obj.slotMismatches, Obj.slotHostValue,
   Obj.slotLevel, Obj.slotPreset, Obj.slotClear, Obj.slotBLaw,
   Obj.slotBGainTable, Obj.slotBKp, Obj.slotBKi, Obj.slotBOutMin,
   Obj.slotBOutMax, Obj.slotBIntMin, Obj.slotBIntMax, Obj.slotSetInUse,
   Obj.gainPoint, Obj.gainMode, Obj.gainSpan, Obj.gainUsers,
   Obj.fastAndDividedSlotsEnabled, Obj.correctedMismatches, Obj.framesWithASecondMismatch, Obj.fastWindowLast,
   Obj.fastWindowWorst, Obj.peakInFlight, Obj.injectionTarget, Obj.injectionPoint,
   Obj.injectionSignal, Obj.injectionAmplitude, Obj.injectionF0, Obj.injectionF1]

/-- A piece of the object table. -/
def objTablePart4 : List Obj :=
  [Obj.injectionLength, Obj.prbsOrder, Obj.prbsHold, Obj.startInjection,
   Obj.stopInjection, Obj.injectionState, Obj.captureSignal, Obj.triggerSlot,
   Obj.captureBank, Obj.capturePushChannel, Obj.captureCommand, Obj.captureState,
   Obj.samplesTaken, Obj.captureStartFrame, Obj.staticSiteImportLimit, Obj.dynamicSiteImportLimit,
   Obj.dynamicLimitHoldTime, Obj.dynamicLimitFallback, Obj.auxReserve, Obj.efficiency,
   Obj.blockHeadroom, Obj.effectiveSiteLimit, Obj.importEstimate, Obj.siteScaleFactor,
   Obj.availableDCPowerC, Obj.measuredAuxiliaryLoad, Obj.scalingCount, Obj.allocationPassOverruns,
   Obj.price, Obj.planningEnable, Obj.lastPlanTime, Obj.contextsAtRisk,
   Obj.feederPowerLimit, Obj.feederPhaseCurrentLimit, Obj.feederImport, Obj.feederOfCabinet,
   Obj.cabinetPowerLimit, Obj.cabinetInputPower, Obj.riseRate, Obj.allocationFallRate]

/-- A piece of the object table. -/
def objTablePart5 : List Obj :=
  [Obj.allocatedPower, Obj.allocatedCurrent, Obj.currentTarget, Obj.bindingTerm,
   Obj.boundBlocks, Obj.plannedPower, Obj.classMinimumPower, Obj.classMayTake,
   Obj.concurrentMigrations, Obj.migrationEnable, Obj.migrationsCompleted, Obj.migrationsAbandoned,
   Obj.contactorRatedLife, Obj.reach, Obj.allocState, Obj.boundOutlet,
   Obj.blockShare, Obj.withholdCause, Obj.clearWithhold, Obj.contactorOperations,
   Obj.contactorLoadOpenings, Obj.outletDeclared, Obj.outletMode, Obj.proximityWindowLow,
   Obj.proximityWindowHigh, Obj.outletRatedCurrent, Obj.outletRatedVoltage, Obj.overVoltageLevel,
   Obj.imdBus, Obj.imdBaseId, Obj.imdIdFormat, Obj.protocolMask,
   Obj.defaultClass, Obj.authorisationMode, Obj.hvilInUse, Obj.outletState,
   Obj.available, Obj.unavailCauses, Obj.boundContext, Obj.protocolInUse]

/-- A piece of the object table. -/
def objTablePart6 : List Obj :=
  [Obj.lastEndCause, Obj.weldOutstanding, Obj.weldResult, Obj.contactorFeedback,
   Obj.insulationResistance, Obj.pilotState, Obj.pilotPositive, Obj.pilotNegative,
   Obj.pilotDutyApplied, Obj.proximityResistance, Obj.hvilResistance, Obj.slacMeanAttenuation,
   Obj.evccid, Obj.evMaximumVoltage, Obj.evMaximumCurrent, Obj.evTargetVoltage,
   Obj.evTargetCurrent, Obj.stateOfCharge, Obj.evErrorCode, Obj.maxCurrentSent,
   Obj.certificateRequestBody, Obj.certificateResponseBody, Obj.insulationValidThreshold, Obj.insulationFaultThreshold,
   Obj.cableCheckTimeout, Obj.preChargeTimeout, Obj.preChargeCurrentLimit, Obj.weldTestVoltage,
   Obj.authorisationTimeout, Obj.demandSilenceLimit, Obj.noCapacityLimit, Obj.emergencyOpenDelay,
   Obj.outOfService, Obj.stopSession, Obj.clearContactorFault, Obj.ctxState,
   Obj.ctxSerial, Obj.ctxIdentityKind, Obj.ctxIdentity, Obj.ctxClass]

/-- A piece of the object table. -/
def objTablePart7 : List Obj :=
  [Obj.ctxEnergyNeed, Obj.ctxDeparture, Obj.ctxTariff, Obj.ctxOutlet,
   Obj.ctxReservationStart, Obj.ctxExpiry, Obj.ctxAuthorisation, Obj.ctxCommand,
   Obj.ctxEnergy, Obj.ctxEndCause, Obj.ctxStartTime, Obj.ctxRegSet,
   Obj.tcSensorType, Obj.tcSpareRole, Obj.tcOutlet, Obj.tcIdeality,
   Obj.tcNtcB, Obj.tcTrim, Obj.tcWarning, Obj.tcStop,
   Obj.tcLower, Obj.tcHyst, Obj.tcRateWarn, Obj.tcRateStop,
   Obj.tcFiltered, Obj.tcRate, Obj.tcState, Obj.tcBrokenCause,
   Obj.tcRaw, Obj.loopResistance, Obj.tempCoefficient, Obj.heatCapacityC,
   Obj.conductance, Obj.heatCapacityK, Obj.volumetricHeat, Obj.conductorLimit,
   Obj.predictionHorizon, Obj.modelValid, Obj.thetaC, Obj.thetaK]

/-- A piece of the object table. -/
def objTablePart8 : List Obj :=
  [Obj.coolantRate, Obj.predictedTheta, Obj.cableLimit, Obj.connectorLimit,
   Obj.thermalStopCauses, Obj.connectorLimitFrozen, Obj.flowUsed, Obj.pumpActuator,
   Obj.pumpDriveChannel, Obj.flowSource, Obj.flowQ100, Obj.flowQmin,
   Obj.flowQmax, Obj.flowQidle, Obj.flowTheta0, Obj.flowTheta1,
   Obj.valveActuator, Obj.valveDriveChannel, Obj.coolantSupplyTarget, Obj.flowTarget,
   Obj.pumpCommandApplied, Obj.valveCommandApplied, Obj.coolantBus, Obj.coolantBaseId,
   Obj.coolantIdFormat, Obj.coolantStatus, Obj.coolantSilent, Obj.phaseDeratingStart,
   Obj.phaseStop, Obj.coolantInletDeratingStart, Obj.coolantInletStop, Obj.airWarning,
   Obj.terminalDieWarning, Obj.highestPhaseTemp, Obj.coolantInletTemp, Obj.cabinetThermalLimit,
   Obj.journalWritesPermitted, Obj.flashWritesPermitted, Obj.batteryDomainShadowInUse, Obj.eventEntriesDropped]

/-- A piece of the object table. -/
def objTablePart9 : List Obj :=
  [Obj.metrologyFirmwareVersion, Obj.metrologyImageCRC32, Obj.metrologyImageSHA256, Obj.sealOpen,
   Obj.auditEntriesUsed, Obj.lastAuditSequence, Obj.auditEntrySelector, Obj.auditEntry,
   Obj.metrologyImageWriteOffset, Obj.metrologyImageData, Obj.activateMetrologyImage, Obj.lastJudgedWindowEnd,
   Obj.largestDifferenceLastWindow, Obj.windowsOverLimit, Obj.crossCheckLimit, Obj.theftThreshold,
   Obj.theftEntriesInUse, Obj.theftLogOverflowCount, Obj.theftEntrySelector, Obj.theftEntry,
   Obj.clearTheftLog, Obj.pulseSource, Obj.pulseConstant, Obj.pulseWidth,
   Obj.pulsesOwed, Obj.pulseFlags, Obj.pulsesEmitted, Obj.voltageScale,
   Obj.voltageOffset, Obj.currentScale, Obj.currentOffset, Obj.startingCurrent,
   Obj.dcVoltage, Obj.dcCurrent, Obj.dcMeanVoltage, Obj.dcMeanCurrent,
   Obj.dcMeanPower, Obj.dcImport, Obj.dcExport, Obj.dcCharge]

/-- A piece of the object table. -/
def objTablePart10 : List Obj :=
  [Obj.dcHighest, Obj.dcHighestTime, Obj.overloadTime, Obj.theftCharge,
   Obj.dcStatus, Obj.nominalPhaseVoltage, Obj.nominalFrequency, Obj.afVoltageScale,
   Obj.afCurrentScale, Obj.afPhaseTrim, Obj.afStartingPower, Obj.neutralMismatchLevel,
   Obj.afVoltage, Obj.afCurrent, Obj.afFrequency, Obj.afActivePower,
   Obj.afReactivePower, Obj.afPhasePower, Obj.noMains, Obj.afEnergy,
   Obj.afExtreme, Obj.afExtremeTime, Obj.siteDcImport, Obj.siteAcImport,
   Obj.startReg, Obj.startTime, Obj.stopReg, Obj.stopTime,
   Obj.regSetFlags, Obj.regSetOutlet, Obj.slotInForce, Obj.standardOffset,
   Obj.dstInForce, Obj.activationInstant, Obj.calendarActivations, Obj.lastBoundarySequence,
   Obj.boundaryRecordSelector, Obj.boundaryRecord, Obj.clockAuditEntriesUsed, Obj.outletTariff]

/-- A piece of the object table. -/
def objTablePart11 : List Obj :=
  [Obj.feederTariff, Obj.siteTariff, Obj.season, Obj.weekProfile,
   Obj.dayProfile, Obj.specialDays, Obj.dstYears, Obj.dstRule,
   Obj.dstShift, Obj.demandInterval, Obj.demandMode, Obj.subintervals,
   Obj.configurationInUse, Obj.runningDemand, Obj.lastDemand, Obj.lastDemandEnd,
   Obj.lastIntervalFlags, Obj.topDemand, Obj.topDemandEnd, Obj.closingSchedule,
   Obj.closingDayMinute, Obj.closePeriod, Obj.openPeriod, Obj.periodPushChannel,
   Obj.closedPeriodSelector, Obj.closedPeriod, Obj.signatureCurve, Obj.recordPushChannel,
   Obj.recordSelector, Obj.recordEntry, Obj.ocmfView, Obj.collectRecord,
   Obj.releaseUpTo, Obj.recordCounts, Obj.tamperEnable, Obj.tamperPolarity,
   Obj.tamperInputStates, Obj.tamperLogOverwrites, Obj.tamperEntrySelector, Obj.tamperEntry]

/-- A piece of the object table. -/
def objTablePart12 : List Obj :=
  [Obj.magZero, Obj.magSensitivity, Obj.magThreshold, Obj.magLastField,
   Obj.magLastTime, Obj.magLastResult, Obj.runMagneticTest, Obj.lifeCycleState,
   Obj.requestedTransition, Obj.timeOfLastTransition, Obj.fmkVersion, Obj.fmkPublicP256,
   Obj.fmkPublicP384, Obj.fmkKeyId, Obj.generateSeccKey, Obj.seccCertificateRequest,
   Obj.seccCertificateChain, Obj.v2gAndContractRoots, Obj.attestationKeySelector, Obj.attestationNonce,
   Obj.attestationStatement, Obj.deviceIdentityCertificate, Obj.rolePublicKey, Obj.metrologyPublicKey,
   Obj.timePublicKey, Obj.canRoleKey, Obj.canMetrologyKey, Obj.canTimeKey,
   Obj.canCounter, Obj.openEthernetSessions, Obj.authenticationFailures, Obj.imageInUse,
   Obj.bootSelection, Obj.imageVersion, Obj.minimumSecurityVersion, Obj.confirmTrialImage,
   Obj.trialState, Obj.imageWriteOffset, Obj.imageData, Obj.activateImage]

/-- A piece of the object table. -/
def objTablePart13 : List Obj :=
  [Obj.randomSourceState, Obj.healthTestFailures, Obj.vendor, Obj.partNumber,
   Obj.moduleSerial, Obj.hardwareRevision, Obj.firmwareVersionInUse, Obj.dictionaryVersion,
   Obj.baseMACAddress, Obj.commitCommand, Obj.uncommittedChanges, Obj.uncommittedObjects,
   Obj.commitCount, Obj.timeOfLastCommit, Obj.siteNodeAddress, Obj.ownNodeAddress,
   Obj.fararOnCan, Obj.outstandingTransactions, Obj.droppedFramesAndDatagrams, Obj.ipAddress,
   Obj.subnetMask, Obj.gateway, Obj.vlanIdentifier, Obj.ethLinkState,
   Obj.boundSession, Obj.rolesAllowed, Obj.flushTime, Obj.windowsPosted,
   Obj.itemsQueued, Obj.lastItemSequenceSent, Obj.lastItemAcknowledged, Obj.resends,
   Obj.eventPushChannel, Obj.lastEventSequence, Obj.eventEntrySelector, Obj.eventEntry,
   Obj.entriesOverwrittenBeforePush, Obj.oldestSequenceHeld, Obj.lastEventAcknowledged, Obj.exportLog]

/-- A piece of the object table. -/
def objTablePart14 : List Obj :=
  [Obj.exportPushChannel, Obj.moUse, Obj.moId, Obj.moFlags,
   Obj.moMask, Obj.moLength, Obj.moData, Obj.moFifoNext,
   Obj.moPeriod, Obj.moDeadline, Obj.moStatus, Obj.moTime,
   Obj.moMisses, Obj.moOverruns, Obj.moAbort, Obj.moPendingId,
   Obj.controllerEnable, Obj.nominalRateCode, Obj.dataRateCode, Obj.tripleSampling,
   Obj.termination, Obj.errorWarningThreshold, Obj.controllerState, Obj.transmitErrors,
   Obj.receiveErrors, Obj.recoveriesInTheLast3600S, Obj.restartController, Obj.unmatchedFramesDropped,
   Obj.remoteFramesIgnored, Obj.framesReceived, Obj.framesSent, Obj.operation,
   Obj.timeTriggeredCommand, Obj.automaticEntry, Obj.missThreshold, Obj.refId,
   Obj.refFormat, Obj.basicCycles, Obj.basicCycleLength, Obj.cycleCount]

/-- A piece of the object table. -/
def objTablePart15 : List Obj :=
  [Obj.timeMark, Obj.scheduleMatrix, Obj.linkEnable, Obj.referenceChannel,
   Obj.carrier, Obj.pulseCycles, Obj.repeatLimit, Obj.pollInterval,
   Obj.driveAmplitude, Obj.reEstimationInterval, Obj.mplState, Obj.claimThreshold,
   Obj.loading2Threshold, Obj.loading1Threshold, Obj.lastCrossingDeviation, Obj.broadcastRepetitions,
   Obj.erasedHalfCycles, Obj.osDeclared, Obj.osState, Obj.osLastAnswer,
   Obj.osInputs, Obj.osOutputs, Obj.osCommand, Obj.osMap,
   Obj.osAbandoned, Obj.osAlarms, Obj.osMapGeneration, Obj.osOutcome,
   Obj.lsClass, Obj.lsCommand, Obj.lsSteady, Obj.lsInrush,
   Obj.lsWindow, Obj.lsThermalMode, Obj.lsRetryLimit, Obj.lsPwm,
   Obj.lsDiag, Obj.lsState, Obj.lsCause, Obj.lsClear]

/-- A piece of the object table. -/
def objTablePart16 : List Obj :=
  [Obj.lsCurrent, Obj.lsJunction, Obj.lsOffResult, Obj.lsRestarts,
   Obj.lsLatches, Obj.lsSource, Obj.groupVoltage, Obj.groupCurrent,
   Obj.groupFlags, Obj.undervoltageLevel, Obj.overCurrentEpisodes, Obj.siConfig,
   Obj.inputMask, Obj.outputMask, Obj.restartMode, Obj.functionState,
   Obj.safeOutputStates, Obj.readBackAbove18V, Obj.safeInputStates, Obj.inputFaults,
   Obj.outputFaults, Obj.clearOutputFault, Obj.hpState, Obj.brakeTestHoldTime,
   Obj.allowedEncoderCount, Obj.brakeTestResult, Obj.brakeTestTime, Obj.startBrakeTest,
   Obj.testTorqueApplied, Obj.clearBrakeLockout, Obj.pendingConfigurationCRC, Obj.confirmConfiguration,
   Obj.configurationCRCInUse, Obj.guardInputsOutstanding, Obj.outputDemand, Obj.role,
   Obj.roleCommand, Obj.backplane, Obj.partnerRole, Obj.takeovers]

/-- A piece of the object table. -/
def objTablePart17 : List Obj :=
  [Obj.lastCause, Obj.timeOfLastRoleChange, Obj.partnerLinkState, Obj.siteIpAddress,
   Obj.leaseLength, Obj.fitScore, Obj.fitToTakeOver, Obj.fitnessThreshold,
   Obj.itemsListed, Obj.itemList, Obj.partnerScore, Obj.partnerFit,
   Obj.reportTime, Obj.mirrorsReceived, Obj.mirrorsMissingOrFailed, Obj.shadowMismatches,
   Obj.framesUngranted, Obj.lastResetCause, Obj.wdtSource, Obj.timeOfLastReset,
   Obj.resetCount, Obj.hpWatchdogResets, Obj.durationOfLastBackup, Obj.softwareReset,
   Obj.supplyVoltage, Obj.vauxCurrent, Obj.supplyCurrent, Obj.modulePower,
   Obj.inputFlags, Obj.quicksandWindow, Obj.dipsWithoutReset, Obj.episodeElapsedTime,
   Obj.lowestVauxInLastDip, Obj.timeOfLastWarning, Obj.vbatVoltage, Obj.cellState,
   Obj.timeInBackupTotal, Obj.chargeDrawnFromCell, Obj.cellReplaced, Obj.idleEnable]

/-- A piece of the object table. -/
def objTablePart18 : List Obj :=
  [Obj.idleDelay, Obj.wake, Obj.supplyMonitor, Obj.siltPasses,
   Obj.currentRegion, Obj.lastPassLength, Obj.abandonedRegionTests, Obj.skippedRegions,
   Obj.backgroundInUse, Obj.lockstepFaults, Obj.privateMemoryCorrectedErrors, Obj.headCommitSequence,
   Obj.commitRingFill, Obj.commitsInTheLastSecond, Obj.bytesCommittedInTheLastSecond, Obj.tornCommitsAtLastMount,
   Obj.ringWraps, Obj.archiveFill, Obj.configurationGenerationInUse, Obj.highestSectorEraseCount,
   Obj.sectorsOutOfUse, Obj.owner, Obj.xdSecondaryAccess, Obj.correctedErrors,
   Obj.uncorrectableErrors, Obj.marchFailures, Obj.lastErrorAddress, Obj.refusedOwnerWrites,
   Obj.handovers, Obj.strapsRead, Obj.operatingTime, Obj.timeWithAnyDieChannelAbove100C,
   Obj.starts]

/-- Every object of the dictionary: the rows of the spec's object tables, in the order of its chapters. -/
def objTable : List Obj :=
  objTablePart0 ++ objTablePart1 ++ objTablePart2 ++ objTablePart3 ++ objTablePart4 ++ objTablePart5 ++ objTablePart6 ++ objTablePart7 ++ objTablePart8 ++ objTablePart9 ++ objTablePart10 ++ objTablePart11 ++ objTablePart12 ++ objTablePart13 ++ objTablePart14 ++ objTablePart15 ++ objTablePart16 ++ objTablePart17 ++ objTablePart18

end Sys2Proof.Machine
end

