-- ==== Sys2Proof/Machine/Registers.lean ====
section
/-!
DEFINITION. The registers of the module that the dictionary does not show: state the rules of the spec name or imply.
A register called a sequence, real, log or byte register lives in that store of `State`.
-/

namespace Sys2Proof.Machine

/-- Elapsed module time since reset in ns, at the trimmed rate and untouched by steps (R493). -/
def Reg.elapsed : Obj := .hidden 0x0201

/-- Fraction of a nanosecond of module time not yet counted, a real register (R32). -/
def Reg.timeFrac : Obj := .hidden 0x0202

/-- Elapsed time [ns] at the start of the frame in progress (R25). -/
def Reg.frameStartAt : Obj := .hidden 0x0203

/-- Length L of the frame in progress in core cycles (R18). -/
def Reg.frameLength : Obj := .hidden 0x0204 (fun _ => 8000)

/-- Offset still to be slewed [ns], a real register (R34). -/
def Reg.slewLeft : Obj := .hidden 0x0205

/-- Consecutive Sync intervals with an offset below 1 µs (R35). -/
def Reg.goodSyncs : Obj := .hidden 0x0206

/-- Consecutive seconds with the crystal more than 100 ppm from the RTC (R37). -/
def Reg.clockBad : Obj := .hidden 0x0207

/-- Consecutive seconds without (R37). -/
def Reg.clockGood : Obj := .hidden 0x0208

/-- 1 while a clock fault is declared (R37). -/
def Reg.clockFault : Obj := .hidden 0x0209

/-- The real-time clock, TIME64 [ns] (R36). -/
def Reg.rtcTime : Obj := .hidden 0x020A (c := .bat)

/-- 1 while the RTC is valid (R35). -/
def Reg.rtcValid : Obj := .hidden 0x020B (c := .bat)

/-- Elapsed time [ns] of the last write of the RTC (R36). -/
def Reg.rtcUpdatedAt : Obj := .hidden 0x020C

/-- 1 while a PTP master is selected (R33). -/
def Reg.ptpMaster : Obj := .hidden 0x020D

/-- The announce data set of the master selected, a sequence register (R33). -/
def Reg.ptpMasterPriority : Obj := .hidden 0x020E

/-- Masters heard, a sequence register (R33). -/
def Reg.ptpMasters : Obj := .hidden 0x020F

/-- Elapsed time [ns] of the last Sync (R35). -/
def Reg.ptpSyncAt : Obj := .hidden 0x0210

/-- Elapsed time [ns] of the last Announce (R35). -/
def Reg.ptpAnnounceAt : Obj := .hidden 0x0211

/-- Mean path delay in ns (R33). -/
def Reg.ptpDelay : Obj := .hidden 0x0212

/-- Elapsed time [ns] at which holdover was entered (R35). -/
def Reg.holdoverAt : Obj := .hidden 0x0213

/-- Consecutive frames with a fast-class overrun (R28). -/
def Reg.fastOverrunRun : Obj := .hidden 0x0214

/-- Part of the rate trim that corrects frequency [ppb] (R32). -/
def Reg.freqTrim : Obj := .hidden 0x0215

/-- Receipt time less departure time of the last Sync [ns] (R33). -/
def Reg.ptpDiff : Obj := .hidden 0x0216

/-- 1 while the partner's ACTIVE line is sampled asserted (R13). -/
def Reg.partnerActive : Obj := .hidden 0x0101

/-- 1 when the cabinet has passed the topology check (R9). Instances: 16. -/
def Reg.cabPassed : Obj := .hidden 0x0102

/-- 1 when the block has passed it (R9). Instances: 64. -/
def Reg.blockPassed : Obj := .hidden 0x0103

/-- 1 when the phase has passed it (R9). Instances: 256. -/
def Reg.phasePassed : Obj := .hidden 0x0104

/-- 1 when the outlet has passed it (R9). Instances: 24. -/
def Reg.outletPassed : Obj := .hidden 0x0105

/-- 1 when the feeder has passed it (R9). Instances: 4. -/
def Reg.feederPassed : Obj := .hidden 0x0106

/-- 1 while elements wait for the check (R11). -/
def Reg.topologyDue : Obj := .hidden 0x0107

/-- Time since VAUX rose at which the stage in 0x2000:02 was reached [ns] (R15). -/
def Reg.stageAt : Obj := .hidden 0x0108

/-- Elapsed time at POR assertion, origin of Table 1.9 [ns] (R15). -/
def Reg.startedAt : Obj := .hidden 0x0109

/-- Elapsed time at which the module became ACTIVE [ns], for step 7 of Table 1.9 (R16). -/
def Reg.activeSince : Obj := .hidden 0x010A

/-- 1 when event 0x2034 has been logged for the stage being waited for (R15). -/
def Reg.stageLate : Obj := .hidden 0x010B

/-- Consecutive frames in which the phase met the idle window (R496). Instances: 256. -/
def Reg.idleFrames : Obj := .hidden 0x010C

/-- 1 when the partner's lease frames or ACTIVE line were seen since stage 4 (R16). -/
def Reg.partnerSeen : Obj := .hidden 0x010D

/-- Elapsed time at which stage 4 was reached [ns] (R16). -/
def Reg.rolesAt : Obj := .hidden 0x010E

/-- 1 when the check due covers every unenergised element: at start-up and after a write to 0x2004 (R11). -/
def Reg.topologyFull : Obj := .hidden 0x010F (fun _ => 1)

/-- Frame in which the link state was entered (R60). Instances: 16. -/
def Reg.linkSince : Obj := .hidden 0x0301

/-- Elapsed time at step 1 of Table 3.11 [ns] (R59). Instances: 16. -/
def Reg.linkBringUpAt : Obj := .hidden 0x0302

/-- Consecutive frames without good telemetry (R28). Instances: 16. -/
def Reg.linkMisses : Obj := .hidden 0x0303

/-- Consecutive command frames not dispatched (R28). Instances: 16. -/
def Reg.linkDispatchMisses : Obj := .hidden 0x0304

/-- 1 when a good telemetry copy of the frame has been taken (R48). Instances: 16. -/
def Reg.linkGood : Obj := .hidden 0x0305

/-- Consecutive good telemetry frames since the first command frame of step 7 (R59). Instances: 16. -/
def Reg.linkGoodRun : Obj := .hidden 0x0306

/-- 1 after the first command frame of step 7 (R59). Instances: 16. -/
def Reg.linkCommanded : Obj := .hidden 0x0307

/-- Steps of Table 3.11 completed (R59). Instances: 16. -/
def Reg.linkSteps : Obj := .hidden 0x0308

/-- 1 when the link has passed its recheck by R11 since it last entered RUN (R65). Instances: 16. -/
def Reg.linkRechecked : Obj := .hidden 0x0309

/-- 1 while CLn.CKU is present (R65). Instances: 16. -/
def Reg.ckuPresent : Obj := .hidden 0x030A

/-- Lane 4c + l (U0, U1, D0, D1): consecutive frames whose copy failed the CRC (R57). Instances: 64. -/
def Reg.laneCrcRun : Obj := .hidden 0x030B

/-- Lane: frames since its copies last failed the CRC (R57). Instances: 64. -/
def Reg.laneCrcGood : Obj := .hidden 0x030C

/-- Lane: consecutive scans with EF below 64 (R57). Instances: 64. -/
def Reg.laneLowScans : Obj := .hidden 0x030D

/-- Lane: consecutive scans with EF 96 or above (R57). Instances: 64. -/
def Reg.laneGoodScans : Obj := .hidden 0x030E

/-- Lane: scans since training began (R59). Instances: 64. -/
def Reg.laneScans : Obj := .hidden 0x030F

/-- Lane: 1 when its copy of this frame failed the CRC (R57). Instances: 64. -/
def Reg.laneCopyFailed : Obj := .hidden 0x0310

/-- Down CRC failure count last reported (Table 3.6). Instances: 16. -/
def Reg.downCrcSeen : Obj := .hidden 0x0311

/-- Dropped-command count last reported (R64). Instances: 16. -/
def Reg.dropsSeen : Obj := .hidden 0x0312

/-- Sequence of the last command frame (Table 3.4). Instances: 16. -/
def Reg.commandSeq : Obj := .hidden 0x0313

/-- Sequence of the last good telemetry frame; 65536 none (R48). Instances: 16. -/
def Reg.telemetrySeq : Obj := .hidden 0x0314 (fun _ => 65536)

/-- Lane: destuffing state, 64 times the last line bit plus its run (R45). Instances: 64. -/
def Reg.rxLine : Obj := .hidden 0x0315

/-- Apply frame of the last command frame dispatched (R28). Instances: 16. -/
def Reg.dispatchedFrame : Obj := .hidden 0x0316

/-- Lane 2c + l of the module's transmitters: stuffing state (R45). Instances: 32. -/
def Reg.txLine : Obj := .hidden 0x0317

/-- Lane 2c + l: sequence of the last service frame sent (R54). Instances: 32. -/
def Reg.serviceTxSeq : Obj := .hidden 0x0318

/-- Lane: highest sequence acknowledged by the terminal (R54). Instances: 32. -/
def Reg.serviceTxAcked : Obj := .hidden 0x0319

/-- Lane: highest sequence received in order (R54). Instances: 32. -/
def Reg.serviceRxSeq : Obj := .hidden 0x031A

/-- Lane: frame by which an acknowledgement is due; 0 none (R54). Instances: 32. -/
def Reg.serviceAckDue : Obj := .hidden 0x031B

/-- Lane: frame of the last acknowledged progress (R54). Instances: 32. -/
def Reg.serviceProgressAt : Obj := .hidden 0x031C

/-- Lane: resends of the oldest unacknowledged frame (R54). Instances: 32. -/
def Reg.serviceResendRun : Obj := .hidden 0x031D

/-- Lane: 1 when its service channel has failed (R54). Instances: 32. -/
def Reg.serviceFailed : Obj := .hidden 0x031E

/-- Lane: service frames unacknowledged, oldest first, a log register (R54). Instances: 32. -/
def Reg.serviceQueue : Obj := .hidden 0x031F

/-- Service payloads that wait for a place among the 8 unacknowledged, a log register (R54). Instances: 16. -/
def Reg.serviceWaiting : Obj := .hidden 0x0320

/-- 1 while an activation of terminal firmware is under way (R66). Instances: 16. -/
def Reg.firmwareActivating : Obj := .hidden 0x0321

/-- Phase current rating of the terminal identity [0.1 A] (Table 3.9). Instances: 16. -/
def Reg.phaseRating : Obj := .hidden 0x0322

/-- Input bus rating of the terminal identity [0.1 V] (Table 3.9). Instances: 16. -/
def Reg.busRating : Obj := .hidden 0x0323

/-- Launch instant T1 of the module's training frame [156.25 ps] (R58). Instances: 16. -/
def Reg.trainingT1 : Obj := .hidden 0x0324

/-- Contactor word of the last command frame (R65). Instances: 16. -/
def Reg.contactorWord : Obj := .hidden 0x0325

/-- Telemetry: input bus voltage [0.05 V] (Table 3.6). Instances: 16. -/
def Reg.tmBusVoltage : Obj := .hidden 0x0326

/-- Telemetry: input bus current [0.1 A]. Instances: 16. -/
def Reg.tmBusCurrent : Obj := .hidden 0x0327

/-- Telemetry: elements 0 to 3, coolant inlet, coolant outlet, cabinet air, terminal die [degC]. Instances: 16. -/
def Reg.tmTemps : Obj := .hidden 0x0328

/-- Telemetry: gate-drive ready, hold, ramp-off, SAFE_OFF in [3:0]. Instances: 16. -/
def Reg.tmState : Obj := .hidden 0x0329

/-- Telemetry: command echo. Instances: 16. -/
def Reg.tmEcho : Obj := .hidden 0x032A

/-- 1 when the sample of this frame is the previous one (R28). Instances: 16. -/
def Reg.tmSubstituted : Obj := .hidden 0x032B

/-- Telemetry: block output voltage [0.05 V] (Table 3.7). Instances: 64. -/
def Reg.tmOutVoltage : Obj := .hidden 0x032C

/-- Telemetry: block output current [0.1 A]. Instances: 64. -/
def Reg.tmOutCurrent : Obj := .hidden 0x032D

/-- Telemetry: contactor states, 2 bits per reach. Instances: 64. -/
def Reg.tmContactors : Obj := .hidden 0x032E

/-- Telemetry: block flags. Instances: 64. -/
def Reg.tmBlockFlags : Obj := .hidden 0x032F

/-- Telemetry: phase current [0.02 A]. Instances: 256. -/
def Reg.tmCurrent : Obj := .hidden 0x0330

/-- Telemetry: switch-node voltage [0.05 V]. Instances: 256. -/
def Reg.tmSwitchNode : Obj := .hidden 0x0331

/-- Telemetry: dv/dt at turn-on [0.5 V/ns]. Instances: 256. -/
def Reg.tmDvdtOn : Obj := .hidden 0x0332

/-- Telemetry: dv/dt at turn-off [0.5 V/ns]. Instances: 256. -/
def Reg.tmDvdtOff : Obj := .hidden 0x0333

/-- Telemetry: phase temperature [degC]. Instances: 256. -/
def Reg.tmPhaseTemp : Obj := .hidden 0x0334

/-- Telemetry: phase status. Instances: 256. -/
def Reg.tmStatus : Obj := .hidden 0x0335

/-- Phase status of the previous telemetry frame (R95). Instances: 256. -/
def Reg.tmStatusBefore : Obj := .hidden 0x0336

/-- Telemetry: duty echo. Instances: 256. -/
def Reg.tmDuty : Obj := .hidden 0x0337

/-- Telemetry: fault time. Instances: 256. -/
def Reg.tmFaultTime : Obj := .hidden 0x0338 (fun _ => 65535)

/-- Terminal: mode in force, 0 RUN, 1 KEEP_ALIVE, 2 SAFE_OFF (R52). Instances: 16. -/
def Reg.termMode : Obj := .hidden 0x0339 (fun _ => 2)

/-- Terminal: frame for which the last command was accepted (R61). Instances: 16. -/
def Reg.termFrame : Obj := .hidden 0x033A

/-- Terminal: frames since a command was accepted (R62). Instances: 16. -/
def Reg.termMissed : Obj := .hidden 0x033B

/-- Terminal: contactor word in force (R61). Instances: 16. -/
def Reg.termWord : Obj := .hidden 0x033C

/-- Terminal: commands dropped (R61). Instances: 16. -/
def Reg.termDrops : Obj := .hidden 0x033D

/-- Terminal: the command frame in force, a byte register (R62). Instances: 16. -/
def Reg.termCommand : Obj := .hidden 0x033E

/-- Terminal: L of the frame in progress (R23). Instances: 16. -/
def Reg.termLength : Obj := .hidden 0x033F (fun _ => 8000)

/-- Terminal: dither index of the frame in progress (R23). Instances: 16. -/
def Reg.termIndex : Obj := .hidden 0x0340

/-- Terminal: Dune depth last received (R23). Instances: 16. -/
def Reg.termDepth : Obj := .hidden 0x0341

/-- Terminal: phase held off by a fault (R61). Instances: 256. -/
def Reg.termFault : Obj := .hidden 0x0342

/-- Terminal: frame in which the fault was detected (R61). Instances: 256. -/
def Reg.termFaultFrame : Obj := .hidden 0x0343

/-- Terminal: 1 unless SAFE_OFF by hold end waits for a new synchronisation (R63). Instances: 16. -/
def Reg.termSynced : Obj := .hidden 0x0344 (fun _ => 1)

/-- 1 after F0 + 3.0 us of the frame in progress (R25). -/
def Reg.deadlinePassed : Obj := .hidden 0x0345

/-- Identity record returned on channel 3, a byte register (Table 3.9). Instances: 16. -/
def Reg.identityData : Obj := .hidden 0x0346

/-- CRC returned on channel 2 plus 1; 0 none (R54). Instances: 16. -/
def Reg.configCrc : Obj := .hidden 0x0347

/-- Terminal: number of the frame in progress (R23). Instances: 16. -/
def Reg.termNow : Obj := .hidden 0x0348

/-- Terminal: on and off edges executed in the frame in progress, in turn, a sequence register (R62). Instances: 256. -/
def Reg.termEdges : Obj := .hidden 0x0349

/-- Terminal: record command in force, 0 OFF, 1 SWITCH, 2 LOW_LATCH (R52). Instances: 256. -/
def Reg.termPhaseCmd : Obj := .hidden 0x034A

/-- Terminal: command-error bit of the phase (R51). Instances: 256. -/
def Reg.termCommandError : Obj := .hidden 0x034B

/-- The model's own: how many free values have been drawn. -/
def Reg.freeCount : Obj := .hidden 0x034C

/-- Frame in which the block state was entered (R69). Instances: 64. -/
def Reg.blockSince : Obj := .hidden 0x0401

/-- 1 while a start waits for the output to discharge (R83). Instances: 64. -/
def Reg.startWaiting : Obj := .hidden 0x0402

/-- Frame of the waiting start request, or S of Table 4.4 (R83, R85). Instances: 64. -/
def Reg.startAt : Obj := .hidden 0x0403

/-- 1 while a start request of STOP_DELAY is held (R90). Instances: 64. -/
def Reg.startHeld : Obj := .hidden 0x0404

/-- Frame at which the start delay ended; 0 while it runs (R87). Instances: 64. -/
def Reg.gateReadyBy : Obj := .hidden 0x0405

/-- Ramp factor r, a real register (R88). Instances: 64. -/
def Reg.ramp : Obj := .hidden 0x0406

/-- 1 while starts are refused after a second mismatch (R123). Instances: 64. -/
def Reg.startRefused : Obj := .hidden 0x0407

/-- Commanded matrix contactors, bit r for reach r (R50). Instances: 64. -/
def Reg.contactorCommand : Obj := .hidden 0x0408

/-- Test samples above 10 % of the bus voltage (R86). Instances: 256. -/
def Reg.testOver : Obj := .hidden 0x0409

/-- Largest switch-node voltage of the test [0.05 V] (R86). Instances: 256. -/
def Reg.testLargest : Obj := .hidden 0x040A

/-- Frame in which the phase entered RETRY (R94). Instances: 256. -/
def Reg.retryAt : Obj := .hidden 0x040B

/-- Frames of the counted faults of the last 1000 frames, a sequence register (R95). Instances: 256. -/
def Reg.faultFrames : Obj := .hidden 0x040C

/-- 1 when a turn-on edge was applied since the last counted fault (R95). Instances: 256. -/
def Reg.turnedOn : Obj := .hidden 0x040D

/-- Duty D of the phase after the ceiling [1/65536] (R75). Instances: 256. -/
def Reg.dutyCommanded : Obj := .hidden 0x040E

/-- Duty D written by the phase duty slot [1/65536] (R106). Instances: 256. -/
def Reg.dutyRaw : Obj := .hidden 0x040F

/-- 1 when R72 clamped the duty (R97). Instances: 256. -/
def Reg.dutyClamped : Obj := .hidden 0x0410

/-- Off edge of the last pair of the previous frame, relative to that frame's start (R77). Instances: 256. -/
def Reg.lastOff : Obj := .hidden 0x0411

/-- L of the frame that edge belongs to (R77). Instances: 256. -/
def Reg.lastLength : Obj := .hidden 0x0412

/-- Frame of the last change of the block's active set (R97). Instances: 64. -/
def Reg.activeSetAt : Obj := .hidden 0x0413

/-- Consecutive frames of open-phase deviation (R98). Instances: 256. -/
def Reg.openCount : Obj := .hidden 0x0414

/-- Consecutive active frames with unchanged bits [3:0] (R99). Instances: 256. -/
def Reg.stuckCount : Obj := .hidden 0x0415

/-- Those bits (R99). Instances: 256. -/
def Reg.stuckBits : Obj := .hidden 0x0416

/-- Commanded duties of the last 64 of those frames, newest first, a sequence register (R99). Instances: 256. -/
def Reg.stuckDuties : Obj := .hidden 0x0417

/-- Consecutive frames with the current out of range (R99). Instances: 256. -/
def Reg.rangeCount : Obj := .hidden 0x0418

/-- Consecutive frames of current mismatch (R99). Instances: 64. -/
def Reg.mismatchCount : Obj := .hidden 0x0419

/-- The last 1024 deviations from the median under normal duty [0.01 A], newest first, a sequence register (R98). Instances: 256. -/
def Reg.deviations : Obj := .hidden 0x041A

/-- Consecutive frames below the shedding level (R102). Instances: 64. -/
def Reg.shedHold : Obj := .hidden 0x041B

/-- Block reference of the previous frame [A], a real register (R103). Instances: 64. -/
def Reg.lastReference : Obj := .hidden 0x041C

/-- 1 while the outlet's over-voltage latch is set (R91). Instances: 24. -/
def Reg.outletLatch : Obj := .hidden 0x041D

/-- Largest dv/dt at turn-on since the last slow tick (R81). Instances: 256. -/
def Reg.trimPeakOn : Obj := .hidden 0x041E

/-- Largest dv/dt at turn-off since the last slow tick (R81). Instances: 256. -/
def Reg.trimPeakOff : Obj := .hidden 0x041F

/-- Elements 0 on, 1 off: slow ticks at w_max above the target (R82). Instances: 256. -/
def Reg.trimStuck : Obj := .hidden 0x0420

/-- 1 when the block is withdrawn from the allocator (R65). Instances: 64. -/
def Reg.blockEmpty : Obj := .hidden 0x0421

/-- Sum of active phase currents used as the block output current [20 mA] (R99). Instances: 64. -/
def Reg.phasesMeasured : Obj := .hidden 0x0422

/-- Block reference of the previous frame [A], a real register (R103). Instances: 64. -/
def Reg.referenceBefore : Obj := .hidden 0x0423

/-- Consecutive OFF frames with a valid sample, at most 4 (R496). Instances: 256. -/
def Reg.idleJudged : Obj := .hidden 0x0424

/-- Test samples taken of the start in progress (R86). Instances: 64. -/
def Reg.testFrames : Obj := .hidden 0x0425

/-- Elements 0 reference, 1 measurement, 2 error, 3 applied Kp, 4 Ki h, 5 p, 6 q, 7 integrator, 8 residue, 9 feed-forward, 10 unclamped output, 11 u_min, 12 u_max, 13 clamped output, 14 injected signal; real registers in the formats of R115. Instances: 1024. -/
def Reg.slotReal : Obj := .hidden 0x0501

/-- Value of the preset pending, a real register (R119). Instances: 1024. -/
def Reg.slotPresetValue : Obj := .hidden 0x0502

/-- 1 while a preset is pending (R119). Instances: 1024. -/
def Reg.slotPresetDue : Obj := .hidden 0x0503

/-- 1 while a clear is pending (R120). Instances: 1024. -/
def Reg.slotClearDue : Obj := .hidden 0x0504

/-- 1 while the slot is held (R120). Instances: 1024. -/
def Reg.slotHeld : Obj := .hidden 0x0505

/-- Core cycle of the previous evaluation (R117). Instances: 1024. -/
def Reg.slotLast : Obj := .hidden 0x0506

/-- 1 when the next evaluation is the first after an enable, preset or clear (R117). Instances: 1024. -/
def Reg.slotFirst : Obj := .hidden 0x0507 (fun _ => 1)

/-- Core cycles since reset at the start of the frame in progress (R18). -/
def Reg.coreCycles : Obj := .hidden 0x0508

/-- Fast-class slots not written back by the deadline of this frame, a sequence register (R28). -/
def Reg.unfinished : Obj := .hidden 0x0509

/-- Slow-class slots not complete by the next slow tick, a sequence register (R28). -/
def Reg.slowUnfinished : Obj := .hidden 0x050A

/-- Consecutive frames with a second mismatch (R123). -/
def Reg.secondMismatchRun : Obj := .hidden 0x050B

/-- 1 when every block is sent OFF records in the next frame (R123). -/
def Reg.allOffNext : Obj := .hidden 0x050C

/-- Parameter set chosen for the block, 0 A, 1 B, from the next F0 (R107). Instances: 64. -/
def Reg.setNext : Obj := .hidden 0x050D

/-- Current target loaded as LE reference at F0 [0.1 A] (R25). Instances: 24. -/
def Reg.leTarget : Obj := .hidden 0x050E

/-- Current target of the last completed fast pass [0.1 A] (R6). Instances: 24. -/
def Reg.fastTarget : Obj := .hidden 0x050F

/-- Outlet voltage limit of the session [0.01 V] (Table 5.1). Instances: 24. -/
def Reg.voltageLimit : Obj := .hidden 0x0510

/-- Pre-charge voltage of the block [0.01 V] (Table 5.1). Instances: 64. -/
def Reg.preVoltage : Obj := .hidden 0x0511

/-- k, target evaluations since the start of the injection (R124). -/
def Reg.injectionCount : Obj := .hidden 0x0512

/-- Chirp phase, a real register (R124). -/
def Reg.injectionPhase : Obj := .hidden 0x0513

/-- The PRBS shift register (R125). -/
def Reg.prbsState : Obj := .hidden 0x0514

/-- Target slot of the running injection (R126). -/
def Reg.injectionSlot : Obj := .hidden 0x0515

/-- 1 when the capture belongs to the injection (R128). -/
def Reg.captureBelongs : Obj := .hidden 0x0516

/-- Frame of the last mismatch (R123). -/
def Reg.lastMismatch : Obj := .hidden 0x0517

/-- Outlet voltage limit loaded as LE reference at F0 [0.01 V] (R25, Table 5.1). Instances: 24. -/
def Reg.leVoltage : Obj := .hidden 0x0518

/-- Reference of LP(368 + k), a real register (R211). Instances: 48. -/
def Reg.coolReference : Obj := .hidden 0x0519

/-- Measurement of LP(368 + k), a real register (R211). Instances: 48. -/
def Reg.coolMeasurement : Obj := .hidden 0x051A

/-- Feed-forward of LP(368 + k), a real register (R211). Instances: 48. -/
def Reg.coolForward : Obj := .hidden 0x051B

/-- Bank of the capture under way (R127). -/
def Reg.captureIn : Obj := .hidden 0x051C (fun _ => 23)

/-- Frame plus 1 of the last frame with a second mismatch (R123). -/
def Reg.secondMismatchAt : Obj := .hidden 0x051D

/-- The metrology audit log, a log register of 48-byte entries (R238). -/
def Reg.auditLog : Obj := .hidden 0x0901 (c := .per)

/-- Elements 0 import, 1 export, 2 charge: register with residue [2^-48 mWh, 2^-48 mAh] (R224). Instances: 24. -/
def Reg.dmSum : Obj := .hidden 0x0902 (c := .bat)

/-- Metrology samples since reset (R216). -/
def Reg.sampleCount : Obj := .hidden 0x0903

/-- A standby's own increments since the last values received; instance the register, element 16 times the instance of the meter plus its element [2^-48] (R234). Instances: 4096. -/
def Reg.shadowSum : Obj := .hidden 0x0904

/-- Elements 0 voltage [V], 1 current [A], 2 power [W]: sums over the second in progress, a real register (R219). Instances: 24. -/
def Reg.secAcc : Obj := .hidden 0x0905

/-- Samples in the second in progress (R219). -/
def Reg.secCount : Obj := .hidden 0x0906

/-- The last whole second of module time handled, plus 1 (R219). -/
def Reg.secondDone : Obj := .hidden 0x0907

/-- Overloaded samples of the channel in the second in progress (R228). Instances: 76. -/
def Reg.overloads : Obj := .hidden 0x0908

/-- 1 while the channel is faulted (R228). Instances: 76. -/
def Reg.channelFault : Obj := .hidden 0x0909

/-- Elapsed time [ns] at which a fault condition of the channel was last found (R228). Instances: 76. -/
def Reg.channelBadAt : Obj := .hidden 0x090A

/-- Last input code of an AC channel (R216). Instances: 76. -/
def Reg.hpInput : Obj := .hidden 0x090B

/-- High-passed inputs of an AC channel [2^-64 V], newest first, a sequence register (R216, R217). Instances: 76. -/
def Reg.hpHist : Obj := .hidden 0x090C

/-- Elements L1 to L3: 1 when the channel has exceeded 10 % of the nominal peak since its last crossing (R220). Instances: 4. -/
def Reg.afPeak : Obj := .hidden 0x090D

/-- Elements L1 to L3: core cycles of the last crossing; 3 to 5 of the last rising one (R220). Instances: 4. -/
def Reg.afCrossAt : Obj := .hidden 0x090E

/-- Elements L1 to L3: 1 when the last half-cycle lay within 10 % of nominal (R222). Instances: 4. -/
def Reg.afHalfGood : Obj := .hidden 0x090F

/-- Consecutive good half-cycles (R222). Instances: 4. -/
def Reg.afGood : Obj := .hidden 0x0910

/-- Core cycles at which the cycle in progress began (R221). Instances: 4. -/
def Reg.afCycleAt : Obj := .hidden 0x0911

/-- Samples in the cycle in progress (R221). Instances: 4. -/
def Reg.afCount : Obj := .hidden 0x0912

/-- Sums of the cycle in progress: elements 0 to 2 V^2, 3 to 6 I^2, 7 to 9 v i, 10 to 12 v' i, 13 residual^2, a real register (R221, R223). Instances: 4. -/
def Reg.afAcc : Obj := .hidden 0x0913

/-- The last 10 periods [core cycles], newest first, a sequence register (R221). Instances: 4. -/
def Reg.afPeriods : Obj := .hidden 0x0914

/-- Reactive power L1 to L3 of the last cycle [var], a real register (R223). Instances: 4. -/
def Reg.afPhaseReactive : Obj := .hidden 0x0915

/-- Active power L1 to L3 of the last cycle [W], a real register (R223). Instances: 4. -/
def Reg.afActive : Obj := .hidden 0x0916

/-- 1 when a phase stayed below 20 % of nominal in the last cycle (R222). Instances: 4. -/
def Reg.afLow : Obj := .hidden 0x0917

/-- Consecutive cycles with the crossings in the order L1, L3, L2 (R223). Instances: 4. -/
def Reg.afReversed : Obj := .hidden 0x0918

/-- Consecutive cycles with the residual above the mismatch level (R223). Instances: 4. -/
def Reg.afMismatch : Obj := .hidden 0x0919

/-- Sums over the second of what the cycles published: elements 0 to 2 voltage, 3 to 5 current, 6 power, 7 cycles, a real register (R219). Instances: 4. -/
def Reg.afSecAcc : Obj := .hidden 0x091A

/-- Increment of the source not yet turned into due pulses, times the constant (R230). Instances: 8. -/
def Reg.pulseAcc : Obj := .hidden 0x091B

/-- Elapsed time [ns] plus 1 of the last due pulse; 0 none (R231). Instances: 8. -/
def Reg.pulseLastDue : Obj := .hidden 0x091C

/-- Time between the last two due pulses [ns]; 0 before the second (R231). Instances: 8. -/
def Reg.pulsePeriod : Obj := .hidden 0x091D

/-- Elapsed time [ns] until which the output is busy (R231). Instances: 8. -/
def Reg.pulseBusyUntil : Obj := .hidden 0x091E

/-- Theft log, 32-byte entries, oldest first, a log register (R233). -/
def Reg.theftLog : Obj := .hidden 0x091F (c := .bat)

/-- Number of the outlet's open theft entry plus 1; 0 none (R233). Instances: 24. -/
def Reg.theftOpen : Obj := .hidden 0x0920 (c := .bat)

/-- 1 when the previous second exceeded the threshold (R233). Instances: 24. -/
def Reg.theftExceeded : Obj := .hidden 0x0921 (c := .bat)

/-- Theft charge of the outlet beyond its whole mAh [mA s] (R233). Instances: 24. -/
def Reg.theftFraction : Obj := .hidden 0x0922 (c := .bat)

/-- Charge of the outlet's episode so far [mA s] (R233). Instances: 24. -/
def Reg.theftEntrySum : Obj := .hidden 0x0923 (c := .bat)

/-- Increments in the cross-check window: DM import 0 to 23, AF import and export 24 to 31 [2^-48 mWh] (R235). Instances: 32. -/
def Reg.windowSum : Obj := .hidden 0x0924

/-- 1 when the cross-check window in progress is not to be judged (R235). -/
def Reg.windowBad : Obj := .hidden 0x0925 (fun _ => 1)

/-- Module time of the start of the window in progress [ns] (R235). -/
def Reg.windowAt : Obj := .hidden 0x0926

/-- Contexts that were DELIVERING on the DM in the window, a sequence register (R235). Instances: 24. -/
def Reg.windowServed : Obj := .hidden 0x0927

/-- Metrology slot of the running image (R455). -/
def Reg.metrologySlot : Obj := .hidden 0x0928 (c := .per)

/-- 1 when the other metrology slot is to be used at the next reset (R239). -/
def Reg.metrologyPending : Obj := .hidden 0x0929 (c := .per)

/-- Pulses that a reset lost and the next start reports (R232). Instances: 4. -/
def Reg.pulsesLost : Obj := .hidden 0x092A (c := .bat)

/-- Sequence number of the last event entry (R316). -/
def Reg.eventSeq : Obj := .hidden 0x0C01 (c := .per)

/-- The event log ring, a log register of 36-byte entries (R316). -/
def Reg.eventRing : Obj := .hidden 0x0C02 (c := .per)

/-- Event entries that wait in the pool buffer for the journal window, a log register (R204). -/
def Reg.eventWaiting : Obj := .hidden 0x0C03

/-- Instance the event code, element the element number: elapsed time [ns] plus 1 of the last entry under a rate limit; 0 none (R318). -/
def Reg.eventStamps : Obj := .hidden 0x0C04

/-- Instance the event code, element the element number: occurrences held back (R318). -/
def Reg.suppressed : Obj := .hidden 0x0C05

/-- 0 none, 1 commit, 2 discard in progress (R295). -/
def Reg.commitRunning : Obj := .hidden 0x0C06

/-- Elapsed time [ns] at which the commit was accepted (R293). -/
def Reg.commitAt : Obj := .hidden 0x0C07

/-- Lowest CAN counter not accepted after a reset, per role (R284). Instances: 5. -/
def Reg.canFloor : Obj := .hidden 0x0C08 (c := .per)

/-- Identifier of the next Ethernet session (R307). -/
def Reg.nextSession : Obj := .hidden 0x0C09 (fun _ => 1)

/-- Failed openings: source address and elapsed time [ns] in turn, a sequence register (R282). -/
def Reg.failedOpenings : Obj := .hidden 0x0C0A

/-- Addresses refused openings and the elapsed time [ns] of the end, in turn, a sequence register (R282). -/
def Reg.lockedOut : Obj := .hidden 0x0C0B

/-- Value written to 0x1180 or 0x1181 plus 1, by port and field; it takes effect at the next reset after its commit, 0 none (Table 12.13). Instances: 2. -/
def Reg.ethStaged : Obj := .hidden 0x0C0C

/-- Items of the channel not yet acknowledged, oldest first, kind then bytes, a log register (R312, R313). Instances: 8. -/
def Reg.pushQueue : Obj := .hidden 0x0C0D

/-- Elapsed time [ns] plus 1 since which the channel has items and no window; 0 none (R313). Instances: 8. -/
def Reg.pushIdleSince : Obj := .hidden 0x0C0E

/-- Posted windows of the channel unfilled: number and size in turn, oldest first, a sequence register (R311). Instances: 8. -/
def Reg.pushWindows : Obj := .hidden 0x0C0F

/-- Last window number posted (R311). Instances: 8. -/
def Reg.pushLastWindow : Obj := .hidden 0x0C10

/-- Bytes placed in the oldest window (R312). Instances: 8. -/
def Reg.pushFilled : Obj := .hidden 0x0C11

/-- Elapsed time [ns] plus 1 of the first byte of the oldest window; 0 none (R312). Instances: 8. -/
def Reg.pushWindowAt : Obj := .hidden 0x0C12

/-- Segments sent in the oldest window (R312). Instances: 8. -/
def Reg.pushSegment : Obj := .hidden 0x0C13

/-- Bytes of the item in progress already sent (R312). Instances: 8. -/
def Reg.pushOffset : Obj := .hidden 0x0C14

/-- Items of the queue already sent since the last resend (R312). Instances: 8. -/
def Reg.pushNext : Obj := .hidden 0x0C15

/-- Elapsed times [ns] plus 1 at which the windows that carry the ends of the unacknowledged items were completed, oldest item first, a sequence register (R313). Instances: 8. -/
def Reg.pushAckDue : Obj := .hidden 0x0C16

/-- 1 when items were lost before the next one (Table 12.9). Instances: 8. -/
def Reg.pushLost : Obj := .hidden 0x0C17

/-- Item sequence of the first item in the queue (R312). Instances: 8. -/
def Reg.pushFirst : Obj := .hidden 0x0C18 (fun _ => 1)

/-- Items dropped whose event 0x1210 is still to be logged (Table 12.10). Instances: 8. -/
def Reg.pushDropped : Obj := .hidden 0x0C19

/-- Items whose end lies in the window being filled (R312). Instances: 8. -/
def Reg.pushEndsOpen : Obj := .hidden 0x0C1A

/-- Values that the commit in progress writes: register, instance, element, value in turn, a sequence register (R293). -/
def Reg.commitNums : Obj := .hidden 0x0C1B

/-- Byte values that it writes: register, instance and element in 4 bytes each, then the value, a log register (R293). -/
def Reg.commitBytes : Obj := .hidden 0x0C1C

/-- By tag: what is left of a response on CAN0 behind the block sent last, a byte register (R310). Instances: 256. -/
def Reg.canRest : Obj := .hidden 0x0C1D

/-- By tag: elapsed time [ns] at which that block was sent (R310). Instances: 256. -/
def Reg.canRestAt : Obj := .hidden 0x0C1E

/-- Elapsed time of the last entry into INRUSH [ns] (R359). Instances: 96. -/
def Reg.lsSince : Obj := .hidden 0x0F01

/-- Rank of the last entry into INRUSH, for shedding the most recent (R368). Instances: 96. -/
def Reg.lsEntered : Obj := .hidden 0x0F02

/-- Rank at which the command became non-zero, for held turn-ons (R370). Instances: 96. -/
def Reg.lsWant : Obj := .hidden 0x0F03

/-- Rank at which the channel was shed (R369). Instances: 96. -/
def Reg.lsShedRank : Obj := .hidden 0x0F04

/-- The last rank given. -/
def Reg.lsRank : Obj := .hidden 0x0F05

/-- Elapsed times [ns] of the restarts of the last 60 s, a sequence register (R364). Instances: 96. -/
def Reg.lsRetries : Obj := .hidden 0x0F06

/-- Off-state reading of the previous round: 0 none, 1 load present, 2 open load, 3 short to supply (R366). Instances: 96. -/
def Reg.lsDiagLast : Obj := .hidden 0x0F07

/-- Elapsed time [ns] plus 1 since which the group is over its rating; 0 none (R368). Instances: 8. -/
def Reg.groupOverAt : Obj := .hidden 0x0F08

/-- Elapsed time [ns] plus 1 of the last shedding of the episode; 0 none (R368). Instances: 8. -/
def Reg.groupShedAt : Obj := .hidden 0x0F09

/-- 1 while turn-ons of a coil group are held (R368). Instances: 4. -/
def Reg.groupHold : Obj := .hidden 0x0F0A

/-- Elapsed time [ns] plus 1 since which the group is below 80 % of its rating; 0 none (R369). Instances: 8. -/
def Reg.groupLowAt : Obj := .hidden 0x0F0B

/-- Elapsed time [ns] plus 1 of the last restart by R369. Instances: 8. -/
def Reg.groupRestartAt : Obj := .hidden 0x0F0C

/-- 1 while the load ground is lost (R371). -/
def Reg.groundLost : Obj := .hidden 0x0F0D

/-- Cause of SUPPLY_OFF: bit 0 over-voltage, bit 1 loss of ground, bit 2 reverse voltage, bit 3 safe output disabled (R371). Instances: 96. -/
def Reg.supplyOffCause : Obj := .hidden 0x0F0E

/-- Elapsed time [ns] at which the outlet state was entered (R171). Instances: 24. -/
def Reg.outletSince : Obj := .hidden 0x0701

/-- Frame in which the outlet state was entered (R171). Instances: 24. -/
def Reg.outletSinceFrame : Obj := .hidden 0x0702

/-- Stop in progress: 0 none, 1 normal, 2 emergency, 3 hardware drop (R179, R180, R182). Instances: 24. -/
def Reg.stopKind : Obj := .hidden 0x0703

/-- Frame S in which the stop began (R179). Instances: 24. -/
def Reg.stopFrame : Obj := .hidden 0x0704

/-- Last step of Table 7.8 completed (R179). Instances: 24. -/
def Reg.stopStep : Obj := .hidden 0x0705

/-- Elapsed time [ns] of that step (R179). Instances: 24. -/
def Reg.stopAt : Obj := .hidden 0x0706

/-- Frame in which the recorded end cause was detected (R183). Instances: 24. -/
def Reg.causeFrame : Obj := .hidden 0x0707

/-- Rank of the recorded end cause within its frame (R183). Instances: 24. -/
def Reg.causeRank : Obj := .hidden 0x0708

/-- 1 when the vehicle's PowerDelivery stop was received or communication has ended (R179). Instances: 24. -/
def Reg.vehicleStopped : Obj := .hidden 0x0709

/-- Openings of the outlet contactors under load (R180). Instances: 24. -/
def Reg.outletLoadOpenings : Obj := .hidden 0x070A (c := .per)

/-- Last step of Table 7.7 completed (R174). Instances: 24. -/
def Reg.checkStep : Obj := .hidden 0x070B

/-- Instant Q, elapsed time [ns] (R174). Instances: 24. -/
def Reg.checkAt : Obj := .hidden 0x070C

/-- Elapsed time [ns] of the last step of Table 7.7 (R174). Instances: 24. -/
def Reg.checkStepAt : Obj := .hidden 0x070D

/-- Elapsed time [ns] plus 1 at which DMn first read V_cc within 5 %; 0 not yet (R174). Instances: 24. -/
def Reg.checkReadAt : Obj := .hidden 0x070E

/-- Elapsed time [ns] plus 1 since which the outlet holds its step in the supply-dip window; 0 not held (R184). Instances: 24. -/
def Reg.pausedAt : Obj := .hidden 0x070F

/-- Pre-charge voltage at the start of the ramp [0.01 V] (R174, R176). Instances: 24. -/
def Reg.rampFrom : Obj := .hidden 0x0710

/-- Pre-charge voltage at its end [0.01 V]. Instances: 24. -/
def Reg.rampTo : Obj := .hidden 0x0711

/-- Frame in which the ramp began. Instances: 24. -/
def Reg.rampStart : Obj := .hidden 0x0712

/-- Length of the ramp [frames]; 0 none. Instances: 24. -/
def Reg.rampFrames : Obj := .hidden 0x0713

/-- Consecutive frames with DMn within 2 % of the pre-charge target (R176). Instances: 24. -/
def Reg.preChargeRun : Obj := .hidden 0x0714

/-- Consecutive frames with DMn current above the pre-charge current limit (R176). Instances: 24. -/
def Reg.preCurrentRun : Obj := .hidden 0x0715

/-- Consecutive frames with DMn above 1.02 times the EV maximum voltage (R177). Instances: 24. -/
def Reg.evOverRun : Obj := .hidden 0x0716

/-- Consecutive frames with DMn current below 5 A (R179). Instances: 24. -/
def Reg.lowCurrentRun : Obj := .hidden 0x0717

/-- Target voltage of the last PreChargeReq [0.01 V] (R176). Instances: 24. -/
def Reg.preTarget : Obj := .hidden 0x0718

/-- 1 while a diode fault is read (R157). Instances: 24. -/
def Reg.diodeFault : Obj := .hidden 0x0719

/-- 0 inserted, 1 withdrawn, 2 fault (R158). Instances: 24. -/
def Reg.proximityState : Obj := .hidden 0x071A (fun _ => 1)

/-- 0 closed, 1 open, 2 fault (R159). Instances: 24. -/
def Reg.hvilState : Obj := .hidden 0x071B (fun _ => 1)

/-- Elapsed time [ns] of the last change of the outlet's contactor commands (R160). Instances: 24. -/
def Reg.coilsAt : Obj := .hidden 0x071C

/-- Contactor feedback fault: bit 0 DC+, bit 1 DC- (R160). Instances: 24. -/
def Reg.contactorFault : Obj := .hidden 0x071D (c := .per)

/-- Sequence of the last IMD command (Table 7.5). Instances: 24. -/
def Reg.imdSequence : Obj := .hidden 0x071E

/-- Status byte of the last IMD status frame (Table 7.6). Instances: 24. -/
def Reg.imdStatus : Obj := .hidden 0x071F

/-- Elapsed time [ns] of the last IMD status frame, or since which one is due (R173). Instances: 24. -/
def Reg.imdAt : Obj := .hidden 0x0720

/-- 1 while the IMD is silent (R173). Instances: 24. -/
def Reg.imdSilent : Obj := .hidden 0x0721

/-- Elapsed time [ns] of the last IMD command (R173). Instances: 24. -/
def Reg.imdSentAt : Obj := .hidden 0x0722

/-- 1 when event 0x4013 has been logged in the session (R175). Instances: 24. -/
def Reg.imdWarned : Obj := .hidden 0x0723

/-- Identifier of the SLAC run in progress plus 1; 0 none (R162). Instances: 24. -/
def Reg.slacRun : Obj := .hidden 0x0724

/-- Network membership key of the SLAC run, a byte register (R162). Instances: 24. -/
def Reg.slacKey : Obj := .hidden 0x0725

/-- 1 while a TCP connection is open on the port (R164). Instances: 24. -/
def Reg.tcpOpen : Obj := .hidden 0x0726

/-- 1 once the vehicle has identified itself in the session (R187). Instances: 24. -/
def Reg.vehicleKnown : Obj := .hidden 0x0727

/-- 1 while the vehicle uses Plug & Charge (R166). Instances: 24. -/
def Reg.usesContract : Obj := .hidden 0x0728

/-- Elapsed time [ns] at which authorisation was asked of the host (R169). Instances: 24. -/
def Reg.authorisationAt : Obj := .hidden 0x0729

/-- Elapsed time [ns] plus 1 of the certificate request outstanding; 0 none (R167). Instances: 24. -/
def Reg.certificateAt : Obj := .hidden 0x072A

/-- Elapsed time [ns] of the last CurrentDemand (R178). Instances: 24. -/
def Reg.demandAt : Obj := .hidden 0x072B

/-- Elapsed time [ns] plus 1 since which no capacity is bound; 0 while some is (R182). Instances: 24. -/
def Reg.noCapacityAt : Obj := .hidden 0x072C

/-- 1 when the outlet goes out of service as it next leaves CLOSING (R229). Instances: 24. -/
def Reg.serviceDue : Obj := .hidden 0x072D

/-- Half of the weld test under way: 0 none, 1, 2 (R181). Instances: 24. -/
def Reg.weldHalf : Obj := .hidden 0x072E

/-- Halves failed: bit 0 DC+ welded, bit 1 DC- welded (R181). Instances: 24. -/
def Reg.weldFailed : Obj := .hidden 0x072F

/-- Frames since the block output reached the test voltage (R181). Instances: 24. -/
def Reg.weldRun : Obj := .hidden 0x0730

/-- 1 when DMn reached half the test voltage within them (R181). Instances: 24. -/
def Reg.weldHigh : Obj := .hidden 0x0731

/-- Elapsed time [ns] plus 1 since which a weld test waits for a block; 0 none (R180). Instances: 24. -/
def Reg.weldWaiting : Obj := .hidden 0x0732

/-- 1 when the context has reached AUTHORISED (R186). Instances: 250. -/
def Reg.ctxAuthorised : Obj := .hidden 0x0733 (c := .per)

/-- Rank of creation of the context (R187). Instances: 250. -/
def Reg.ctxCreated : Obj := .hidden 0x0734 (c := .per)

/-- The last rank of creation given. -/
def Reg.ctxRank : Obj := .hidden 0x0735 (c := .per)

/-- Context state shown in 0x6000:01: the one last committed (R185). Instances: 250. -/
def Reg.ctxShown : Obj := .hidden 0x0736 (c := .per)

/-- Last session serial issued by this module or its pair (R186). -/
def Reg.lastSerial : Obj := .hidden 0x0737 (c := .per)

/-- Record flags of the session (Table 10.7). Instances: 250. -/
def Reg.recordFlags : Obj := .hidden 0x0738 (c := .per)

/-- Time quality at the start values (Table 10.7). Instances: 250. -/
def Reg.qualityStart : Obj := .hidden 0x0739 (c := .per)

/-- Time quality at the stop values (Table 10.7). Instances: 250. -/
def Reg.qualityStop : Obj := .hidden 0x073A (c := .per)

/-- EVCCID of the session, a byte register (Table 10.7). Instances: 250. -/
def Reg.ctxEvccid : Obj := .hidden 0x073B (c := .per)

/-- Elements 0 to 7: session slot accumulators T1 to T8 [2^-48 mWh] (R242). Instances: 250. -/
def Reg.sessionSlot : Obj := .hidden 0x073C (c := .bat)

/-- 1 from the start values to the stop values (R227). Instances: 250. -/
def Reg.ctxOpen : Obj := .hidden 0x073D (c := .per)

/-- 1 when the opening counts as under load by step 2 of Table 7.8 (R179). Instances: 24. -/
def Reg.stopForced : Obj := .hidden 0x073E

/-- 1 when the weld test is not run in this session (R179, R182). Instances: 24. -/
def Reg.weldSkip : Obj := .hidden 0x073F

/-- Frame since which the outlet holds its step (R184). Instances: 24. -/
def Reg.pausedFrame : Obj := .hidden 0x0740

/-- Outlet the context was last bound to; 255 none (R187). Instances: 250. -/
def Reg.ctxAt : Obj := .hidden 0x0741 (fun _ => 255) .per

/-- 1 while the outlet is in thermal stop (R198). Instances: 24. -/
def Reg.outletStopped : Obj := .hidden 0x0801

/-- 1 while a die channel refuses sessions (R202). -/
def Reg.dieStop : Obj := .hidden 0x0802

/-- The last three raw readings [1e-6 degC], newest first, a sequence register (R193). Instances: 144. -/
def Reg.tcHist : Obj := .hidden 0x0803

/-- The last 300 filtered values [1e-6 degC], newest first, a sequence register (R194, R197). Instances: 144. -/
def Reg.tcFilt : Obj := .hidden 0x0804

/-- Electrical condition of the last raw reading: 0 none, 1 open, 2 short (R197). Instances: 144. -/
def Reg.tcElectrical : Obj := .hidden 0x0805

/-- Consecutive raw readings free of every condition (R197). Instances: 144. -/
def Reg.tcClean : Obj := .hidden 0x0806

/-- Consecutive rounds with the exit condition of STOP (Table 8.3). Instances: 144. -/
def Reg.tcExit : Obj := .hidden 0x0807

/-- Filtered value at which the channel was found stuck [1e-6 degC] (R197). Instances: 144. -/
def Reg.tcStuckAt : Obj := .hidden 0x0808

/-- Consecutive rounds with every die channel in OK or WARN (R202). -/
def Reg.dieGood : Obj := .hidden 0x0809

/-- Journal, flash: consecutive rounds inside the range by 2.0 K (R203). Instances: 2. -/
def Reg.windowGood : Obj := .hidden 0x080A

/-- Journal, flash: 1 once the window has been judged since reset (R203). Instances: 2. -/
def Reg.windowJudged : Obj := .hidden 0x080B

/-- Battery-domain shadow: items that must survive every reset while the journal window is closed, oldest first, a log register (R204). -/
def Reg.shadow : Obj := .hidden 0x080C (c := .bat)

/-- 1 when event 0x2424 has been logged for a full shadow (R204). -/
def Reg.shadowLogged : Obj := .hidden 0x080D

/-- Conductor temperature of the cable model [degC], a real register (R206). Instances: 24. -/
def Reg.cableC : Obj := .hidden 0x080E

/-- Coolant temperature of the cable model [degC], a real register (R206). Instances: 24. -/
def Reg.cableK : Obj := .hidden 0x080F

/-- Rate of the coolant node [K/s], a real register (R206). Instances: 24. -/
def Reg.cableDk : Obj := .hidden 0x0810

/-- Predicted conductor temperature thcH [degC], a real register (R207). Instances: 24. -/
def Reg.cableH : Obj := .hidden 0x0811

/-- icab of R207 [0.1 A]. Instances: 24. -/
def Reg.cableIcab : Obj := .hidden 0x0812

/-- Frame of the last model step (R206). Instances: 24. -/
def Reg.cableAt : Obj := .hidden 0x0813

/-- 1 when the model is initialised since reset or the last parameter write (R209). Instances: 24. -/
def Reg.cableStarted : Obj := .hidden 0x0814

/-- 1 when event 0x4023 has been logged (R208). Instances: 24. -/
def Reg.cableLogged : Obj := .hidden 0x0815

/-- Flow of the last status frame [0.01 l/min] (Table 8.8). Instances: 24. -/
def Reg.coolantFlow : Obj := .hidden 0x0816

/-- Elapsed time [ns] of the last status frame, or since which one is due (R213). Instances: 24. -/
def Reg.coolantAt : Obj := .hidden 0x0817

/-- Sequence of the last coolant command (Table 8.7). Instances: 24. -/
def Reg.coolantSeq : Obj := .hidden 0x0818

/-- 1 within an episode of a frozen connector limit (R200). Instances: 24. -/
def Reg.freezeLogged : Obj := .hidden 0x0819

/-- The last three temperatures of the phase [degC], newest first, a sequence register (R214). Instances: 256. -/
def Reg.phaseTempHist : Obj := .hidden 0x081A

/-- Elements 0 coolant inlet, 1 coolant outlet, 2 air, 3 terminal die: the last three [degC], a sequence register (R214). Instances: 16. -/
def Reg.cabTempHist : Obj := .hidden 0x081B

/-- 1 while either factor of the cabinet is below 1 (R214). Instances: 16. -/
def Reg.cabDerated : Obj := .hidden 0x081C

/-- Items that wait for a commit, oldest first, a log register (R449). -/
def Reg.journalItems : Obj := .hidden 0x1301

/-- 1 when one of them is urgent (R449). -/
def Reg.journalUrgent : Obj := .hidden 0x1302

/-- Frame in which the oldest of them was submitted (R449). -/
def Reg.journalItemsAt : Obj := .hidden 0x1303

/-- 1 while the journal controller writes a commit (R449). -/
def Reg.commitBusy : Obj := .hidden 0x1304

/-- Flags of the entry being written (Table 19.6). -/
def Reg.commitFlags : Obj := .hidden 0x1305

/-- The entry being written, a byte register (R448). -/
def Reg.entryStaged : Obj := .hidden 0x1306

/-- 1 when that entry carries the metering registers (R225). -/
def Reg.metersStaged : Obj := .hidden 0x1307

/-- Commits of the last second: pairs of elapsed time [ns] and bytes, newest first, a sequence register. -/
def Reg.commitTimes : Obj := .hidden 0x1308

/-- 1 while the journal counts as closed for lack of room (R451). -/
def Reg.journalFull : Obj := .hidden 0x1309

/-- Offset of the head in the commit ring (R450). -/
def Reg.ringAt : Obj := .hidden 0x130A (c := .per)

/-- Sectors out of use, a sequence register (R457). -/
def Reg.badSectors : Obj := .hidden 0x130B (c := .per)

/-- Archive sectors erased so far (R456). -/
def Reg.archiveErases : Obj := .hidden 0x130C (c := .per)

/-- Addresses of the poisoned words of the pool, a sequence register (R444). -/
def Reg.poisoned : Obj := .hidden 0x130D

/-- Corrected errors of the bank in the pass in progress (Table 17.8). Instances: 24. -/
def Reg.siltCorrected : Obj := .hidden 0x130E

/-- Consecutive frames in which the region was abandoned (R445). -/
def Reg.siltAbandonRun : Obj := .hidden 0x130F

/-- Regions that failed in the pass in progress, a sequence register (R446). -/
def Reg.siltFailed : Obj := .hidden 0x1310

/-- Regions that failed in the pass before, a sequence register (R446). -/
def Reg.siltFailedBefore : Obj := .hidden 0x1311

/-- Frame in which the pass began (R446). -/
def Reg.siltPassAt : Obj := .hidden 0x1312

/-- Frame plus 1 of the last uncorrectable error read by LE (Table 19.2). -/
def Reg.leErrorFrame : Obj := .hidden 0x1313

/-- Processor of the lockstep mismatch before the reset in progress, 1 AP0, 2 AP1, 3 MP, 4 KC; 0 none (R436). -/
def Reg.lockstepHeld : Obj := .hidden 0x1314 (c := .ret)

/-- The session record store, 512-byte entries, newest first, a log register (R264). -/
def Reg.recordStore : Obj := .hidden 0x0A01 (c := .per)

/-- Record sequences of the entries marked collected, a sequence register (R263). -/
def Reg.recordCollected : Obj := .hidden 0x0A02 (c := .per)

/-- Active calendar: seasons (R244, R247). Instances: 12. -/
def Reg.actSeason : Obj := .hidden 0x0A03 (c := .per)

/-- Active calendar: week profiles, element the weekday (R244, R247). Instances: 16. -/
def Reg.actWeek : Obj := .hidden 0x0A04 (c := .per)

/-- Active calendar: day profiles, element the switch point (R244, R247). Instances: 32. -/
def Reg.actDay : Obj := .hidden 0x0A05 (c := .per)

/-- Active calendar: special days (R244, R247). Instances: 256. -/
def Reg.actSpecial : Obj := .hidden 0x0A06 (c := .per)

/-- 1 while an activation instant is set and not yet reached (R247). -/
def Reg.activationDue : Obj := .hidden 0x0A07 (c := .per)

/-- Instant at which the pending calendar becomes active [ns] (R247). -/
def Reg.activationAt : Obj := .hidden 0x0A08 (c := .per)

/-- Kinds of the boundary that is pending; 0 none (Table 10.6). -/
def Reg.bdKinds : Obj := .hidden 0x0A09 (c := .bat)

/-- Its nominal instant [ns]. -/
def Reg.bdInstant : Obj := .hidden 0x0A0A (c := .bat)

/-- Nominal end of the interval it closes [ns] (R248). -/
def Reg.bdEnd : Obj := .hidden 0x0A0B (c := .bat)

/-- Cause of the period closure it carries; 0 none (Table 10.5). -/
def Reg.bdCause : Obj := .hidden 0x0A0C (c := .bat)

/-- Local civil time of the calendar closing instant it carries [ns] (R253). -/
def Reg.bdClosing : Obj := .hidden 0x0A0D (c := .bat)

/-- Clock step it carries [ns] (R258). -/
def Reg.bdStep : Obj := .hidden 0x0A0E (c := .bat)

/-- Whole intervals skipped (Table 10.6). -/
def Reg.bdSkipped : Obj := .hidden 0x0A0F (c := .bat)

/-- Calendar closing instants skipped (Table 10.6). -/
def Reg.bdSkippedClosings : Obj := .hidden 0x0A10 (c := .bat)

/-- 1 when its record is committed and takes effect at the next sample (R255). -/
def Reg.bdCommitted : Obj := .hidden 0x0A11 (c := .bat)

/-- Start of the running interval or subinterval [ns] (R248). -/
def Reg.demandFrom : Obj := .hidden 0x0A12 (c := .bat)

/-- Import of the meter [2^-16 mWh] at the starts of the running and the previous subintervals, newest first, a sequence register (R249). Instances: 29. -/
def Reg.demandHist : Obj := .hidden 0x0A13 (c := .bat)

/-- Flags of the running interval or subinterval (R250). -/
def Reg.subFlags : Obj := .hidden 0x0A14 (c := .bat)

/-- Flags of the completed subintervals, newest first, a sequence register (R250). -/
def Reg.subFlagsHist : Obj := .hidden 0x0A15 (c := .bat)

/-- Instant at which the open period opened [ns] (R252). -/
def Reg.periodOpened : Obj := .hidden 0x0A16 (c := .per)

/-- Flags of the open period (Table 10.5). -/
def Reg.periodFlags : Obj := .hidden 0x0A17 (c := .per)

/-- Nominal closing instant of the last calendar closure, local civil time [ns] (R253). -/
def Reg.lastClosing : Obj := .hidden 0x0A18 (c := .per)

/-- The last 24 closed periods, newest first, a log register (R252). -/
def Reg.closedPeriods : Obj := .hidden 0x0A19 (c := .per)

/-- The last 4096 boundary records, newest first, a log register (R255). -/
def Reg.boundaryRing : Obj := .hidden 0x0A1A (c := .per)

/-- The clock audit log of 256 boundary records, a log register (R260). -/
def Reg.clockAudit : Obj := .hidden 0x0A1B (c := .per)

/-- Module time of the last metrology sample [ns] (R256). -/
def Reg.meteredAt : Obj := .hidden 0x0A1C (c := .bat)

/-- 1 while the derivation of R256 waits for the time to be set (R257). -/
def Reg.derivationDue : Obj := .hidden 0x0A1D

/-- Elements 0 import, 1 export, 2 inductive, 3 capacitive: register with residue [2^-48 mWh, mvarh] (R224). Instances: 4. -/
def Reg.afSum : Obj := .hidden 0x0A1E (c := .bat)

/-- Outlet slot registers T1 to T8 with residue [2^-48 mWh] (R241). Instances: 24. -/
def Reg.dmTariff : Obj := .hidden 0x0A1F (c := .bat)

/-- Feeder slot registers, import T1 to T8, export T1 to T8, with residue [2^-48 mWh] (R241). Instances: 4. -/
def Reg.afTariff : Obj := .hidden 0x0A20 (c := .bat)

/-- Site slot registers, DC import T1 to T8, AC import T1 to T8, with residue [2^-48 mWh] (R241). Instances: 1. -/
def Reg.siteTariff : Obj := .hidden 0x0A21 (c := .bat)

/-- Sequence of the last session record (Table 10.7). -/
def Reg.recordSeq : Obj := .hidden 0x0A22 (c := .per)

/-- Tamper log, 16-byte entries, newest first, a log register (R265). -/
def Reg.tamperLog : Obj := .hidden 0x0A23 (c := .bat)

/-- Tamper entries already reported by an event (R265). -/
def Reg.tamperReported : Obj := .hidden 0x0A24 (c := .bat)

/-- Tamper entries ever made (R265). -/
def Reg.tamperCount : Obj := .hidden 0x0A25 (c := .bat)

/-- 1 while a magnetic check of the outlet waits (R266). Instances: 24. -/
def Reg.magWanted : Obj := .hidden 0x0A26

/-- Elapsed time [ns] plus 1 since which the magnitude of the DMn current is below 1 A; 0 (R266). Instances: 24. -/
def Reg.quietSince : Obj := .hidden 0x0A27

/-- Image version in use when each entry of the record store was signed, newest first, a sequence register (R262). -/
def Reg.recordImage : Obj := .hidden 0x0A28 (c := .per)

/-- 1 while the block is released by its outlet and waits to be unbound (R179). Instances: 64. -/
def Reg.blockReleased : Obj := .hidden 0x0601

/-- Share of the block in its outlet, a real register (R144). Instances: 64. -/
def Reg.share : Obj := .hidden 0x0602

/-- Allocator work on the block: 0 none, 1 migration, 2 join, 3 release, 4 start of a block for a cable check or pre-charge (R149, R497, R498). Instances: 64. -/
def Reg.mvKind : Obj := .hidden 0x0603

/-- Last step of Table 6.3 begun: 1 ramp down, 2 start of a joining block, 3 wait after opening, 4 pre-charge, 6 closing, 7 ramp up. Instances: 64. -/
def Reg.mvStep : Obj := .hidden 0x0604

/-- Source outlet; 255 none. Instances: 64. -/
def Reg.mvSource : Obj := .hidden 0x0605 (fun _ => 255)

/-- Target outlet; 255 none. Instances: 64. -/
def Reg.mvTarget : Obj := .hidden 0x0606 (fun _ => 255)

/-- Frame M, or of the start request (R150). Instances: 64. -/
def Reg.mvM : Obj := .hidden 0x0607

/-- Frame O, or G for a join (R150, R497); moved on by frames held in the supply-dip window (R419). Instances: 64. -/
def Reg.mvO : Obj := .hidden 0x0608

/-- Frame C (R150). Instances: 64. -/
def Reg.mvC : Obj := .hidden 0x0609

/-- Frame K (R150). Instances: 64. -/
def Reg.mvK : Obj := .hidden 0x060A

/-- Share s0 at M, a real register (R150). Instances: 64. -/
def Reg.mvS0 : Obj := .hidden 0x060B

/-- Pre-charge voltage at the start of step 4 [0.01 V] (R150). Instances: 64. -/
def Reg.mvFrom : Obj := .hidden 0x060C

/-- Elapsed time [ns] plus 1 at which the block last finished or abandoned; 0 never (R149). Instances: 64. -/
def Reg.mvDoneAt : Obj := .hidden 0x060D

/-- Work that waits for its conditions: 0 none, 1 migration, 3 release (R149). Instances: 64. -/
def Reg.mvQueued : Obj := .hidden 0x060E

/-- Its target outlet. Instances: 64. -/
def Reg.mvQueuedTo : Obj := .hidden 0x060F (fun _ => 255)

/-- Work the allocation pass under way starts: 1 migration, 2 join, 3 release, 4 pre-charge start (R139, R140). Instances: 64. -/
def Reg.mvNext : Obj := .hidden 0x0610

/-- Its target outlet. Instances: 64. -/
def Reg.mvNextTo : Obj := .hidden 0x0611 (fun _ => 255)

/-- Allocated power of the pass under way [0.1 kW] (R129). Instances: 24. -/
def Reg.nextPower : Obj := .hidden 0x0612

/-- Allocated current of the pass under way [0.1 A] (R129). Instances: 24. -/
def Reg.nextCurrent : Obj := .hidden 0x0613

/-- 1 while an allocation pass has not completed (R130). -/
def Reg.allocRunning : Obj := .hidden 0x0614

/-- 1 when a completed pass takes effect at the next fast pass (R129). -/
def Reg.allocReady : Obj := .hidden 0x0615

/-- Consecutive frames with the block output below 5 A (R146). Instances: 64. -/
def Reg.lowOut : Obj := .hidden 0x0616

/-- Consecutive frames with the block output within 2 % of the target (R150). Instances: 64. -/
def Reg.nearRun : Obj := .hidden 0x0617

/-- 1 minus a scale factor: elements 0 site, 1 to 4 feeders, 5 to 20 cabinets, a real register (R134, R135). -/
def Reg.kLoss : Obj := .hidden 0x0618

/-- Current target not rounded [A], a real register (R142). Instances: 24. -/
def Reg.target : Obj := .hidden 0x0619

/-- Sum of P_dc over the frames of the feeder's averaging cycle [W], a real register (R133). Instances: 4. -/
def Reg.pdcSum : Obj := .hidden 0x061A

/-- Frames in that sum (R133). Instances: 4. -/
def Reg.pdcFrames : Obj := .hidden 0x061B

/-- Mean of P_dc within the feeder's last averaging cycle [W], a real register (R133). Instances: 4. -/
def Reg.pdcMean : Obj := .hidden 0x061C

/-- Elapsed time [ns] of the last accepted write of the dynamic limit, or of the end of reset (R132). -/
def Reg.dynamicAt : Obj := .hidden 0x061D

/-- 1 while the fallback stands for the dynamic limit (R132). -/
def Reg.dynamicExpired : Obj := .hidden 0x061E

/-- Elapsed time [ns] plus 1 since which mains is present on a feeder that was without; 0 (R137). Instances: 4. -/
def Reg.mainsAt : Obj := .hidden 0x061F

/-- Consecutive fast-pass overruns (R136). -/
def Reg.fastPassRun : Obj := .hidden 0x0620

/-- 1 while a planning pass has not completed (R130). -/
def Reg.planDue : Obj := .hidden 0x0621

/-- Planned power of the context by the last plan completed [0.1 kW] (R141). Instances: 250. -/
def Reg.planned : Obj := .hidden 0x0622

/-- 1 when the context is at risk (R141). Instances: 250. -/
def Reg.atRisk : Obj := .hidden 0x0623

/-- Current target when the supply-dip window opened [0.1 A] (R419). Instances: 24. -/
def Reg.dipTarget : Obj := .hidden 0x0624

/-- Elapsed time [ns] plus 1 of the start of the last planning pass; 0 never (R129). -/
def Reg.planAt : Obj := .hidden 0x0625

/-- Second of module time plus 1 in which the last planning pass began; 0 never (R129). -/
def Reg.planSecond : Obj := .hidden 0x0626

/-- 1 while the module asserts its ACTIVE line (R391). -/
def Reg.ownActive : Obj := .hidden 0x1101

/-- 1 while the lease is paired: REQUEST answered by GRANT (R398). -/
def Reg.paired : Obj := .hidden 0x1102

/-- The module's own LIVE line, which toggles at every frame start (R391). -/
def Reg.ownLive : Obj := .hidden 0x1103

/-- 1 when a good GRANT of the frame in progress has arrived (R398). -/
def Reg.granted : Obj := .hidden 0x1104

/-- Consecutive frames ended ungranted (R398). -/
def Reg.ungrantedRun : Obj := .hidden 0x1105

/-- 1 when the module fences at the next frame start (R398, R403). -/
def Reg.fenceDue : Obj := .hidden 0x1106

/-- Frame of the last good REQUEST received (R399). -/
def Reg.requestAt : Obj := .hidden 0x1107

/-- 1 when event 0xA815 has been logged for the hold (R399). -/
def Reg.heldLogged : Obj := .hidden 0x1108

/-- Elapsed time [ns] plus 1 at which a lease frame or the partner's ACTIVE line was last seen; 0 never (R392). -/
def Reg.leaseSeenAt : Obj := .hidden 0x1109

/-- Sequence of the last lease frame sent (Table 17.4). -/
def Reg.leaseSeq : Obj := .hidden 0x110A

/-- 1 when an orderly handover is to start at the next frame (R403). -/
def Reg.handoverDue : Obj := .hidden 0x110B

/-- Frame h of the handover in progress plus 1; 0 none (R403). -/
def Reg.handoverFrame : Obj := .hidden 0x110C

/-- Frame h plus 1 of a RELEASE the standby accepted; 0 none (R403). -/
def Reg.acceptFrame : Obj := .hidden 0x110D

/-- Frame of an accepted host command 1 plus 1; 0 none (R392). -/
def Reg.activeTryAt : Obj := .hidden 0x110E

/-- 1 when the standby sends RESIGN in place of GRANT (R410). -/
def Reg.resignDue : Obj := .hidden 0x110F

/-- Step of Table 17.10 reached; 0 no join in progress (R407). -/
def Reg.joinPhase : Obj := .hidden 0x1110

/-- Instant J, elapsed time [ns] (R407). -/
def Reg.joinAt : Obj := .hidden 0x1111

/-- Elapsed time [ns] plus 1 of the last join failure; 0 none (R408). -/
def Reg.joinFailedAt : Obj := .hidden 0x1112

/-- Elapsed time [ns] of fencing (R390). -/
def Reg.fencedAt : Obj := .hidden 0x1113

/-- 1 while the standby's configuration is out of sync (R397). -/
def Reg.outOfSync : Obj := .hidden 0x1114

/-- Elapsed time [ns] plus 1 at which a full resync began; 0 none (R397). -/
def Reg.resyncAt : Obj := .hidden 0x1115

/-- Elapsed time [ns] plus 1 of the oldest sync item unacknowledged; 0 none (R397). -/
def Reg.syncSentAt : Obj := .hidden 0x1116

/-- Last configuration change applied (Table 17.3). -/
def Reg.syncGeneration : Obj := .hidden 0x1117

/-- Flags of the partner's last lease frame (Table 17.4). -/
def Reg.partnerFlags : Obj := .hidden 0x1118

/-- Sequence of the last mirror sent (Table 17.3). -/
def Reg.mirrorSeq : Obj := .hidden 0x1119

/-- Consecutive mirrors received and matched (R407). -/
def Reg.mirrorRun : Obj := .hidden 0x111A

/-- 1 while the mirror is locked (R407). -/
def Reg.mirrorLocked : Obj := .hidden 0x111B

/-- Frame of the last good mirror (R396). -/
def Reg.mirrorFrame : Obj := .hidden 0x111C

/-- Health item of a code, element j: elapsed time [ns] plus 1 of its last occurrence; 0 never (R405). Instances: 17. -/
def Reg.itemLast : Obj := .hidden 0x111D

/-- Occurrences of the health item at element j, elapsed times [ns], a sequence register (Table 17.9). Instances: 17. -/
def Reg.itemCount : Obj := .hidden 0x111E

/-- Elements with a health item of the code, newest first, a sequence register (Table 17.9). Instances: 17. -/
def Reg.itemElement : Obj := .hidden 0x111F

/-- Module time of the last occurrence of the health item at element j [ns] (Table 17.9). Instances: 17. -/
def Reg.itemTime : Obj := .hidden 0x1120

/-- Sequence of the last heartbeat (R406). -/
def Reg.heartbeatSeq : Obj := .hidden 0x1121

/-- Role in the partner's last heartbeat (R406). -/
def Reg.partnerHeartbeat : Obj := .hidden 0x1122 (fun _ => 255)

/-- Objects replaced by the full sync in progress (R409). -/
def Reg.objectsReplaced : Obj := .hidden 0x1123

/-- Fitness at the last report (R405). -/
def Reg.fitBefore : Obj := .hidden 0x1124

/-- Elements 0 dictionary version, 1 life-cycle state, 2 safety configuration CRC, 3 image version, 4 mirror format version of the partner (R408). -/
def Reg.partnerVersions : Obj := .hidden 0x1125

/-- Lease length L in use (Table 17.13). -/
def Reg.leaseInUse : Obj := .hidden 0x1126 (fun _ => 3)

/-- Lease length of the partner's last lease frame (Table 17.13). -/
def Reg.partnerLease : Obj := .hidden 0x1127 (fun _ => 3)

/-- 1 when the grant deadline of the frame in progress has passed (R398). -/
def Reg.grantJudged : Obj := .hidden 0x1128

/-- 1 when the module becomes ISOLATED at the next frame start (R410). -/
def Reg.isolateDue : Obj := .hidden 0x1129

/-- 1 when the mirror of the frame in progress has arrived (R396). -/
def Reg.mirrorSeen : Obj := .hidden 0x112A

/-- 1 while committed context changes wait for the standby before they are visible (R397). -/
def Reg.ctxShowDue : Obj := .hidden 0x112B

/-- Frames between the last two mirrors (Table 17.8). -/
def Reg.mirrorGap : Obj := .hidden 0x112C

/-- The next zero crossing by the estimate Z [ns of elapsed time], a real register (R340). -/
def Reg.mplZ : Obj := .hidden 0x0E01

/-- Half-cycle of the estimate [ns], a real register (R340). -/
def Reg.mplPeriod : Obj := .hidden 0x0E02

/-- 1 while Z holds an estimate (R340). -/
def Reg.mplLocked : Obj := .hidden 0x0E03

/-- Consecutive half-cycles rejected or missing (R340). -/
def Reg.mplRun : Obj := .hidden 0x0E04

/-- 1 while the half-cycle in progress is marked erased (R340). -/
def Reg.mplErased : Obj := .hidden 0x0E05

/-- Half-cycles for which the link still stays silent (R340, R354). -/
def Reg.mplSilent : Obj := .hidden 0x0E06

/-- 1 when the last crossing was a rising one (R340). -/
def Reg.mplRising : Obj := .hidden 0x0E07

/-- Frames that wait to be sent, header of 13 bytes then body, a log register (R350). -/
def Reg.mplQueue : Obj := .hidden 0x0E08

/-- The frame sent and awaiting its response, a log register of at most one entry (R351). -/
def Reg.mplAwait : Obj := .hidden 0x0E09

/-- Times that frame was sent (R351). -/
def Reg.mplAttempts : Obj := .hidden 0x0E0A

/-- 1 when no claim was heard in W0 reserved for the response (R351). -/
def Reg.mplMissed : Obj := .hidden 0x0E0B

/-- Rounds still to wait before a further repeat (R351). -/
def Reg.mplWait : Obj := .hidden 0x0E0C

/-- Sequence of the last new frame sent to the outstation (R351). Instances: 63. -/
def Reg.osTxSeq : Obj := .hidden 0x0E0D

/-- Sequence plus 1 of the last frame accepted from the outstation; 0 none (R351). Instances: 63. -/
def Reg.osRxSeq : Obj := .hidden 0x0E0E

/-- Elapsed time [ns] at which it was accepted (R351). Instances: 63. -/
def Reg.osRxAt : Obj := .hidden 0x0E0F

/-- Elapsed time [ns] plus 1 of the last POLL; 0 never (R352). Instances: 63. -/
def Reg.osPolledAt : Obj := .hidden 0x0E10

/-- Elements 0 to, 1 from the outstation: 1 while an estimation is due (R345). Instances: 63. -/
def Reg.osDue : Obj := .hidden 0x0E11

/-- Elements 0 to, 1 from: 1 while an estimation is under way (R345). Instances: 63. -/
def Reg.osEstimating : Obj := .hidden 0x0E12

/-- Elements 0 to, 1 from: elapsed time [ns] of the last estimation (R345). Instances: 63. -/
def Reg.osEstimatedAt : Obj := .hidden 0x0E13

/-- Elements 2 d + g: map of direction d, generation g (R343). Instances: 63. -/
def Reg.osMaps : Obj := .hidden 0x0E14 (fun _ => 1431655765)

/-- Map offered to the outstation in a MAP frame not yet acknowledged (R344). Instances: 63. -/
def Reg.osMapNew : Obj := .hidden 0x0E15

/-- Elements 0 to, 1 from: consecutive frames with a good header and a failed body (R345). Instances: 63. -/
def Reg.osBodyFailed : Obj := .hidden 0x0E16

/-- Elements 0 and 1: the two shares of a secret in KC's working memory, byte registers: 0 field root, 1 service root, 2 SECC private key, 3 to 7 CAN MAC keys of roles 1 to 5, 8 provision root, 9 manufacture root (R274). Instances: 10. -/
def Reg.keyShare : Obj := .hidden 0x0B01

/-- Elements 0 and 1: the two stored copies of the blob of that secret, byte registers: generation, nonce, ciphertext, tag, CRC-32 (R275). Instances: 10. -/
def Reg.keyBlob : Obj := .hidden 0x0B02 (c := .per)

/-- Generation of the blobs last written (R275). -/
def Reg.blobGeneration : Obj := .hidden 0x0B03 (c := .per)

/-- Module time of the last re-wrap [ns] (R275). -/
def Reg.blobsAt : Obj := .hidden 0x0B04 (c := .per)

/-- Frame of the last re-mask (R274). -/
def Reg.remaskAt : Obj := .hidden 0x0B05

/-- CAN MAC key of the role as stored: nonce, ciphertext, tag under SWV-ROLE-WRAP, a byte register (R283). Instances: 5. -/
def Reg.canWrapped : Obj := .hidden 0x0B06 (c := .per)

/-- Kind of the SECC key: 0 none, 1 P-256, 2 P-521, 3 Ed448 (R276). -/
def Reg.seccKind : Obj := .hidden 0x0B07 (c := .per)

/-- Public part of the SECC key, a byte register (R279). -/
def Reg.seccPublic : Obj := .hidden 0x0B08 (c := .per)

/-- SECC private key as stored: nonce, ciphertext, tag under SWV-SECC-WRAP, a byte register (R276). -/
def Reg.seccWrapped : Obj := .hidden 0x0B09 (c := .per)

/-- Public part of the service log key once derived, a byte register (R279). -/
def Reg.serviceLogPublic : Obj := .hidden 0x0B0A (c := .per)

/-- State plus 1 of the life-cycle transition in progress; 0 none (R269). -/
def Reg.transitionTo : Obj := .hidden 0x0B0B

/-- Elapsed time [ns] plus 1 of the first write for RETIRED; 0 none (R268). -/
def Reg.retireAskedAt : Obj := .hidden 0x0B0C

/-- Elapsed times [ns] of the health test failures of the last 3600 s, a sequence register (R278). -/
def Reg.sourceFails : Obj := .hidden 0x0B0D

/-- Elapsed time [ns] at which the start-up test last began (R278). -/
def Reg.sourceStartAt : Obj := .hidden 0x0B0E

/-- Sequence of the last attestation statement (Table 11.5). -/
def Reg.attestationSequence : Obj := .hidden 0x0B0F (c := .per)

/-- WDT resets of the image on trial (R287). -/
def Reg.trialWdt : Obj := .hidden 0x0B10 (c := .per)

/-- Slot on trial (R287). -/
def Reg.trialSlot : Obj := .hidden 0x0B11 (c := .per)

/-- 1 while start-up is held at stage 2 (R286). -/
def Reg.heldAtStage2 : Obj := .hidden 0x0B12

/-- 1 when the third WDT reset ended a trial whose event is not yet entered (R287). -/
def Reg.trialLost : Obj := .hidden 0x0B13 (c := .bat)

/-- Frames queued by the message object, the pending one first, at most two, a log register (R329, R330). Instances: 512. -/
def Reg.moFrames : Obj := .hidden 0x0D01

/-- Elapsed time [ns] of the last queuing by period, or of the write that set it (R329). Instances: 512. -/
def Reg.moPeriodAt : Obj := .hidden 0x0D02

/-- Elapsed time [ns] of the last frame taken or deadline miss, or since the watch began (R332). Instances: 512. -/
def Reg.moWatchAt : Obj := .hidden 0x0D03

/-- Consecutive deadline misses (R332). Instances: 512. -/
def Reg.moRun : Obj := .hidden 0x0D04

/-- FIFO head: place in the chain of the object last filled; 255 none (R328). Instances: 512. -/
def Reg.moLastFilled : Obj := .hidden 0x0D05 (fun _ => 255)

/-- FIFO head: place in the chain of the object last read; 255 none (R328). Instances: 512. -/
def Reg.moLastRead : Obj := .hidden 0x0D06 (fun _ => 255)

/-- 1 while an abort waits for the attempt in progress to end (R330). Instances: 512. -/
def Reg.moAbortDue : Obj := .hidden 0x0D07

/-- Message object plus 1 whose frame is in arbitration or transmission; 0 none (R329). Instances: 4. -/
def Reg.canOnBus : Obj := .hidden 0x0D08

/-- Transmit error counter, which reaches 256 at bus-off (R337). Instances: 4. -/
def Reg.canTec : Obj := .hidden 0x0D09

/-- 1 after event 0x1410 until both counters are below the threshold (R337). Instances: 4. -/
def Reg.canWarned : Obj := .hidden 0x0D0A

/-- 1 after event 0x1411 until both counters are below 128 (R337). Instances: 4. -/
def Reg.canPassive : Obj := .hidden 0x0D0B

/-- Elapsed time [ns] of bus-off (R338). Instances: 4. -/
def Reg.busOffAt : Obj := .hidden 0x0D0C

/-- Elapsed times [ns] of the recoveries of the last 3600 s, a sequence register (R338). Instances: 4. -/
def Reg.busRecoveries : Obj := .hidden 0x0D0D

/-- 1 while entry into time-triggered operation waits for bus idle (R333). Instances: 4. -/
def Reg.ttEnterDue : Obj := .hidden 0x0D0E

/-- Its cause: 1 host, 2 deadlines (Table 13.4). Instances: 4. -/
def Reg.ttCause : Obj := .hidden 0x0D0F

/-- The object whose misses caused it. Instances: 4. -/
def Reg.ttObject : Obj := .hidden 0x0D10

/-- 1 when time-triggered operation ends with the matrix cycle (R333). Instances: 4. -/
def Reg.ttLeaveDue : Obj := .hidden 0x0D11

/-- Window of the matrix in progress (R334). Instances: 4. -/
def Reg.ttWindow : Obj := .hidden 0x0D12

/-- 1 when the expected frame of the exclusive window was taken (R336). Instances: 4. -/
def Reg.ttTaken : Obj := .hidden 0x0D13

/-- HP cycle count since the last reset of HP (R374). -/
def Reg.hpCycles : Obj := .hidden 0x1001

/-- The last three samples of a safe input, newest first, a sequence register (R377). Instances: 8. -/
def Reg.siSamples : Obj := .hidden 0x1002

/-- Consecutive high readings during the source's pulses (R380). Instances: 8. -/
def Reg.siSuspect : Obj := .hidden 0x1003

/-- Consecutive test pulses passed, or seconds with an OSSD pulse (R380). Instances: 8. -/
def Reg.siPasses : Obj := .hidden 0x1004

/-- HP cycle of the last OSSD test pulse (R379). Instances: 8. -/
def Reg.ossdAt : Obj := .hidden 0x1005

/-- 1 when an OSSD pulse was seen in the second in progress (R380). Instances: 8. -/
def Reg.ossdSeen : Obj := .hidden 0x1006

/-- HP cycle of the last pulse of TPA and TPB (R380). Instances: 2. -/
def Reg.tpAt : Obj := .hidden 0x1007

/-- Consecutive cycles with SRST low (R378). -/
def Reg.srstLow : Obj := .hidden 0x1008

/-- Consecutive cycles with SRST high since an accepted rise; 0 none (R378). -/
def Reg.srstHigh : Obj := .hidden 0x1009

/-- Consecutive cycles in which every input of the function read closed and free of fault (R381). Instances: 8. -/
def Reg.sfClosedRun : Obj := .hidden 0x100A

/-- 1 when a reset edge fell since every input of the function read closed (R381). Instances: 8. -/
def Reg.sfEdge : Obj := .hidden 0x100B

/-- 1 while a reset edge is needed after a reset of HP or an input fault (R375, R380). Instances: 8. -/
def Reg.sfNeedsEdge : Obj := .hidden 0x100C (fun _ => 1)

/-- Guard input: 1 seen open, 2 then seen closed, since the last reset of HP (R382). Instances: 8. -/
def Reg.guardSeen : Obj := .hidden 0x100D

/-- 1 when the start-up test has passed (R382). -/
def Reg.startPassed : Obj := .hidden 0x100E

/-- Configuration of the safe input in use (R388). Instances: 8. -/
def Reg.siInUse : Obj := .hidden 0x100F (c := .per)

/-- Input mask in use (R388). Instances: 8. -/
def Reg.sfInputsInUse : Obj := .hidden 0x1010 (c := .per)

/-- Output mask in use (R388). Instances: 8. -/
def Reg.sfOutputsInUse : Obj := .hidden 0x1011 (c := .per)

/-- Restart mode in use (R388). Instances: 8. -/
def Reg.sfModeInUse : Obj := .hidden 0x1012 (c := .per)

/-- Brake test hold time in use [ms] (R388). Instances: 2. -/
def Reg.holdInUse : Obj := .hidden 0x1013 (fun _ => 2000) .per

/-- Allowed encoder count in use (R388). Instances: 2. -/
def Reg.countInUse : Obj := .hidden 0x1014 (fun _ => 4) .per

/-- Consecutive cycles in which an output that is on read below 18 V (R385). Instances: 8. -/
def Reg.soLowRun : Obj := .hidden 0x1015

/-- Outputs whose read-back was at or above 5 V in the last cycle (R385). -/
def Reg.soAbove5 : Obj := .hidden 0x1016

/-- Brake test in progress: 0 none, 1 waiting for the torque, 2 hold time (R386). Instances: 2. -/
def Reg.brakePhase : Obj := .hidden 0x1017

/-- Elapsed time [ns] at which that phase began (R386). Instances: 2. -/
def Reg.brakeAt : Obj := .hidden 0x1018

/-- Encoder count at the start of the hold time (R386). Instances: 2. -/
def Reg.brakeCount : Obj := .hidden 0x1019

/-- 2 after a failed test, 1 when cleared and a passing test must follow, 0 none (R386). Instances: 2. -/
def Reg.brakeLockout : Obj := .hidden 0x101A (c := .per)

/-- 1 when a test of the manipulator has ever passed (R387). Instances: 2. -/
def Reg.brakePassed : Obj := .hidden 0x101B (c := .per)

/-- Module time of the last passed test [ns] (R387). Instances: 2. -/
def Reg.brakePassedAt : Obj := .hidden 0x101C (c := .per)

/-- 1 when a passed test has granted the release that waited for it (R387). Instances: 2. -/
def Reg.brakeGranted : Obj := .hidden 0x101D

/-- 1 while the warning commit waits to be written (R417). -/
def Reg.warningDue : Obj := .hidden 0x1201

/-- 1 when the warning commit of the open window is valid (R418). -/
def Reg.warningValid : Obj := .hidden 0x1202

/-- Kind of the last reset: 0 POR, 1 BOR, 2 WDT, 3 SWR (R427). -/
def Reg.resetKind : Obj := .hidden 0x1203 (c := .bat)

/-- Its WDT source (R427). -/
def Reg.resetSource : Obj := .hidden 0x1204 (c := .bat)

/-- RTC time of its assertion [ns] (R427). -/
def Reg.resetTime : Obj := .hidden 0x1205 (c := .bat)

/-- Duration of the last BACKUP [s]. -/
def Reg.backupLast : Obj := .hidden 0x1206 (c := .bat)

/-- Elapsed time [ns] plus 1 of the answer to an accepted software reset; 0 none (R426). -/
def Reg.swrAt : Obj := .hidden 0x1207

/-- 1 while a brown-out reset waits for the warning commit (R418). -/
def Reg.brownOut : Obj := .hidden 0x1208

/-- VBAT at that brown-out [mV]; 0 no cell. -/
def Reg.brownCell : Obj := .hidden 0x1209

/-- Elapsed time [ns] at which the window opened (R420). -/
def Reg.dipOpenedAt : Obj := .hidden 0x120A

/-- Elapsed time [ns] plus 1 at which the window last closed; 0 no episode (R420). -/
def Reg.dipClosedAt : Obj := .hidden 0x120B

/-- Time the earlier windows of the episode have been open [ns] (R420). -/
def Reg.dipElapsed : Obj := .hidden 0x120C

/-- Lowest VAUX of the dip [0.01 V]. -/
def Reg.dipLowest : Obj := .hidden 0x120D

/-- Elapsed time [ns] of the last commit of metering registers in the window (R417). -/
def Reg.dipCommitAt : Obj := .hidden 0x120E

/-- Outlets that still have to stop for supply, in order, a sequence register (R421). -/
def Reg.stopQueue : Obj := .hidden 0x120F

/-- Frame in which the next of them stops (R421). -/
def Reg.stopNext : Obj := .hidden 0x1210

/-- Elapsed time [ns] plus 1 since which the idle conditions hold; 0 they do not (R429). -/
def Reg.idleSince : Obj := .hidden 0x1211

/-- Cause for the return to RUN: 1 vehicle, 2 host, 3 reservation, 4 start request; 0 none (R430). -/
def Reg.wakeCause : Obj := .hidden 0x1212

/-- The last three readings of a supply monitor [mV], a sequence register (R415). Instances: 40. -/
def Reg.supplyRaw : Obj := .hidden 0x1213

/-- 1 while a hardware supervisor or the loss of PLL lock holds the module in POR (R415, R37). -/
def Reg.supplyHeld : Obj := .hidden 0x1214

/-- Charge drawn from the cell, sixths of 1 µAh not yet counted (R432). -/
def Reg.chargeSixths : Obj := .hidden 0x1215 (c := .bat)

/-- 1 while VAUX reads above 34.0 V (R414). -/
def Reg.vauxHigh : Obj := .hidden 0x1216

/-- 1 when the cell has been judged since the reset (R432). -/
def Reg.cellJudged : Obj := .hidden 0x1217

/-- Elapsed time [ns] of the last housekeeping round (0x2006). -/
def Reg.roundAt : Obj := .hidden 0x1401

/-- Operating time below a whole hour [ns] (0x2006). -/
def Reg.runTime : Obj := .hidden 0x1402 (c := .per)

/-- Time with a die channel above 100 °C below a whole hour [ns] (0x2006). -/
def Reg.hotTime : Obj := .hidden 0x1403 (c := .per)

/-- Every register outside the dictionary, for the retention classes of a reset. -/
def regTable : List Obj :=
  [Reg.elapsed, Reg.timeFrac, Reg.frameStartAt, Reg.frameLength, Reg.slewLeft,
   Reg.goodSyncs, Reg.clockBad, Reg.clockGood, Reg.clockFault, Reg.rtcTime,
   Reg.rtcValid, Reg.rtcUpdatedAt, Reg.ptpMaster, Reg.ptpMasterPriority, Reg.ptpMasters,
   Reg.ptpSyncAt, Reg.ptpAnnounceAt, Reg.ptpDelay, Reg.holdoverAt, Reg.fastOverrunRun,
   Reg.freqTrim, Reg.ptpDiff, Reg.partnerActive, Reg.cabPassed, Reg.blockPassed,
   Reg.phasePassed, Reg.outletPassed, Reg.feederPassed, Reg.topologyDue, Reg.stageAt,
   Reg.startedAt, Reg.activeSince, Reg.stageLate, Reg.idleFrames, Reg.partnerSeen,
   Reg.rolesAt, Reg.topologyFull, Reg.linkSince, Reg.linkBringUpAt, Reg.linkMisses,
   Reg.linkDispatchMisses, Reg.linkGood, Reg.linkGoodRun, Reg.linkCommanded, Reg.linkSteps,
   Reg.linkRechecked, Reg.ckuPresent, Reg.laneCrcRun, Reg.laneCrcGood, Reg.laneLowScans,
   Reg.laneGoodScans, Reg.laneScans, Reg.laneCopyFailed, Reg.downCrcSeen, Reg.dropsSeen,
   Reg.commandSeq, Reg.telemetrySeq, Reg.rxLine, Reg.dispatchedFrame, Reg.txLine,
   Reg.serviceTxSeq, Reg.serviceTxAcked, Reg.serviceRxSeq, Reg.serviceAckDue, Reg.serviceProgressAt,
   Reg.serviceResendRun, Reg.serviceFailed, Reg.serviceQueue, Reg.serviceWaiting, Reg.firmwareActivating,
   Reg.phaseRating, Reg.busRating, Reg.trainingT1, Reg.contactorWord, Reg.tmBusVoltage,
   Reg.tmBusCurrent, Reg.tmTemps, Reg.tmState, Reg.tmEcho, Reg.tmSubstituted,
   Reg.tmOutVoltage, Reg.tmOutCurrent, Reg.tmContactors, Reg.tmBlockFlags, Reg.tmCurrent,
   Reg.tmSwitchNode, Reg.tmDvdtOn, Reg.tmDvdtOff, Reg.tmPhaseTemp, Reg.tmStatus,
   Reg.tmStatusBefore, Reg.tmDuty, Reg.tmFaultTime, Reg.termMode, Reg.termFrame,
   Reg.termMissed, Reg.termWord, Reg.termDrops, Reg.termCommand, Reg.termLength,
   Reg.termIndex, Reg.termDepth, Reg.termFault, Reg.termFaultFrame, Reg.termSynced,
   Reg.deadlinePassed, Reg.identityData, Reg.configCrc, Reg.termNow, Reg.termEdges,
   Reg.termPhaseCmd, Reg.termCommandError, Reg.freeCount, Reg.blockSince, Reg.startWaiting,
   Reg.startAt, Reg.startHeld, Reg.gateReadyBy, Reg.ramp, Reg.startRefused,
   Reg.contactorCommand, Reg.testOver, Reg.testLargest, Reg.retryAt, Reg.faultFrames,
   Reg.turnedOn, Reg.dutyCommanded, Reg.dutyRaw, Reg.dutyClamped, Reg.lastOff,
   Reg.lastLength, Reg.activeSetAt, Reg.openCount, Reg.stuckCount, Reg.stuckBits,
   Reg.stuckDuties, Reg.rangeCount, Reg.mismatchCount, Reg.deviations, Reg.shedHold,
   Reg.lastReference, Reg.outletLatch, Reg.trimPeakOn, Reg.trimPeakOff, Reg.trimStuck,
   Reg.blockEmpty, Reg.phasesMeasured, Reg.referenceBefore, Reg.idleJudged, Reg.testFrames,
   Reg.slotReal, Reg.slotPresetValue, Reg.slotPresetDue, Reg.slotClearDue, Reg.slotHeld,
   Reg.slotLast, Reg.slotFirst, Reg.coreCycles, Reg.unfinished, Reg.slowUnfinished,
   Reg.secondMismatchRun, Reg.allOffNext, Reg.setNext, Reg.leTarget, Reg.fastTarget,
   Reg.voltageLimit, Reg.preVoltage, Reg.injectionCount, Reg.injectionPhase, Reg.prbsState,
   Reg.injectionSlot, Reg.captureBelongs, Reg.lastMismatch, Reg.leVoltage, Reg.coolReference,
   Reg.coolMeasurement, Reg.coolForward, Reg.captureIn, Reg.secondMismatchAt, Reg.auditLog,
   Reg.dmSum, Reg.sampleCount, Reg.shadowSum, Reg.secAcc, Reg.secCount,
   Reg.secondDone, Reg.overloads, Reg.channelFault, Reg.channelBadAt, Reg.hpInput,
   Reg.hpHist, Reg.afPeak, Reg.afCrossAt, Reg.afHalfGood, Reg.afGood,
   Reg.afCycleAt, Reg.afCount, Reg.afAcc, Reg.afPeriods, Reg.afPhaseReactive,
   Reg.afActive, Reg.afLow, Reg.afReversed, Reg.afMismatch, Reg.afSecAcc,
   Reg.pulseAcc, Reg.pulseLastDue, Reg.pulsePeriod, Reg.pulseBusyUntil, Reg.theftLog,
   Reg.theftOpen, Reg.theftExceeded, Reg.theftFraction, Reg.theftEntrySum, Reg.windowSum,
   Reg.windowBad, Reg.windowAt, Reg.windowServed, Reg.metrologySlot, Reg.metrologyPending,
   Reg.pulsesLost, Reg.eventSeq, Reg.eventRing, Reg.eventWaiting, Reg.eventStamps,
   Reg.suppressed, Reg.commitRunning, Reg.commitAt, Reg.canFloor, Reg.nextSession,
   Reg.failedOpenings, Reg.lockedOut, Reg.ethStaged, Reg.pushQueue, Reg.pushIdleSince,
   Reg.pushWindows, Reg.pushLastWindow, Reg.pushFilled, Reg.pushWindowAt, Reg.pushSegment,
   Reg.pushOffset, Reg.pushNext, Reg.pushAckDue, Reg.pushLost, Reg.pushFirst,
   Reg.pushDropped, Reg.pushEndsOpen, Reg.commitNums, Reg.commitBytes, Reg.canRest,
   Reg.canRestAt, Reg.lsSince, Reg.lsEntered, Reg.lsWant, Reg.lsShedRank,
   Reg.lsRank, Reg.lsRetries, Reg.lsDiagLast, Reg.groupOverAt, Reg.groupShedAt,
   Reg.groupHold, Reg.groupLowAt, Reg.groupRestartAt, Reg.groundLost, Reg.supplyOffCause,
   Reg.outletSince, Reg.outletSinceFrame, Reg.stopKind, Reg.stopFrame, Reg.stopStep,
   Reg.stopAt, Reg.causeFrame, Reg.causeRank, Reg.vehicleStopped, Reg.outletLoadOpenings,
   Reg.checkStep, Reg.checkAt, Reg.checkStepAt, Reg.checkReadAt, Reg.pausedAt,
   Reg.rampFrom, Reg.rampTo, Reg.rampStart, Reg.rampFrames, Reg.preChargeRun,
   Reg.preCurrentRun, Reg.evOverRun, Reg.lowCurrentRun, Reg.preTarget, Reg.diodeFault,
   Reg.proximityState, Reg.hvilState, Reg.coilsAt, Reg.contactorFault, Reg.imdSequence,
   Reg.imdStatus, Reg.imdAt, Reg.imdSilent, Reg.imdSentAt, Reg.imdWarned,
   Reg.slacRun, Reg.slacKey, Reg.tcpOpen, Reg.vehicleKnown, Reg.usesContract,
   Reg.authorisationAt, Reg.certificateAt, Reg.demandAt, Reg.noCapacityAt, Reg.serviceDue,
   Reg.weldHalf, Reg.weldFailed, Reg.weldRun, Reg.weldHigh, Reg.weldWaiting,
   Reg.ctxAuthorised, Reg.ctxCreated, Reg.ctxRank, Reg.ctxShown, Reg.lastSerial,
   Reg.recordFlags, Reg.qualityStart, Reg.qualityStop, Reg.ctxEvccid, Reg.sessionSlot,
   Reg.ctxOpen, Reg.stopForced, Reg.weldSkip, Reg.pausedFrame, Reg.ctxAt,
   Reg.outletStopped, Reg.dieStop, Reg.tcHist, Reg.tcFilt, Reg.tcElectrical,
   Reg.tcClean, Reg.tcExit, Reg.tcStuckAt, Reg.dieGood, Reg.windowGood,
   Reg.windowJudged, Reg.shadow, Reg.shadowLogged, Reg.cableC, Reg.cableK,
   Reg.cableDk, Reg.cableH, Reg.cableIcab, Reg.cableAt, Reg.cableStarted,
   Reg.cableLogged, Reg.coolantFlow, Reg.coolantAt, Reg.coolantSeq, Reg.freezeLogged,
   Reg.phaseTempHist, Reg.cabTempHist, Reg.cabDerated, Reg.journalItems, Reg.journalUrgent,
   Reg.journalItemsAt, Reg.commitBusy, Reg.commitFlags, Reg.entryStaged, Reg.metersStaged,
   Reg.commitTimes, Reg.journalFull, Reg.ringAt, Reg.badSectors, Reg.archiveErases,
   Reg.poisoned, Reg.siltCorrected, Reg.siltAbandonRun, Reg.siltFailed, Reg.siltFailedBefore,
   Reg.siltPassAt, Reg.leErrorFrame, Reg.lockstepHeld, Reg.recordStore, Reg.recordCollected,
   Reg.actSeason, Reg.actWeek, Reg.actDay, Reg.actSpecial, Reg.activationDue,
   Reg.activationAt, Reg.bdKinds, Reg.bdInstant, Reg.bdEnd, Reg.bdCause,
   Reg.bdClosing, Reg.bdStep, Reg.bdSkipped, Reg.bdSkippedClosings, Reg.bdCommitted,
   Reg.demandFrom, Reg.demandHist, Reg.subFlags, Reg.subFlagsHist, Reg.periodOpened,
   Reg.periodFlags, Reg.lastClosing, Reg.closedPeriods, Reg.boundaryRing, Reg.clockAudit,
   Reg.meteredAt, Reg.derivationDue, Reg.afSum, Reg.dmTariff, Reg.afTariff,
   Reg.siteTariff, Reg.recordSeq, Reg.tamperLog, Reg.tamperReported, Reg.tamperCount,
   Reg.magWanted, Reg.quietSince, Reg.recordImage, Reg.blockReleased, Reg.share,
   Reg.mvKind, Reg.mvStep, Reg.mvSource, Reg.mvTarget, Reg.mvM,
   Reg.mvO, Reg.mvC, Reg.mvK, Reg.mvS0, Reg.mvFrom,
   Reg.mvDoneAt, Reg.mvQueued, Reg.mvQueuedTo, Reg.mvNext, Reg.mvNextTo,
   Reg.nextPower, Reg.nextCurrent, Reg.allocRunning, Reg.allocReady, Reg.lowOut,
   Reg.nearRun, Reg.kLoss, Reg.target, Reg.pdcSum, Reg.pdcFrames,
   Reg.pdcMean, Reg.dynamicAt, Reg.dynamicExpired, Reg.mainsAt, Reg.fastPassRun,
   Reg.planDue, Reg.planned, Reg.atRisk, Reg.dipTarget, Reg.planAt,
   Reg.planSecond, Reg.ownActive, Reg.paired, Reg.ownLive, Reg.granted,
   Reg.ungrantedRun, Reg.fenceDue, Reg.requestAt, Reg.heldLogged, Reg.leaseSeenAt,
   Reg.leaseSeq, Reg.handoverDue, Reg.handoverFrame, Reg.acceptFrame, Reg.activeTryAt,
   Reg.resignDue, Reg.joinPhase, Reg.joinAt, Reg.joinFailedAt, Reg.fencedAt,
   Reg.outOfSync, Reg.resyncAt, Reg.syncSentAt, Reg.syncGeneration, Reg.partnerFlags,
   Reg.mirrorSeq, Reg.mirrorRun, Reg.mirrorLocked, Reg.mirrorFrame, Reg.itemLast,
   Reg.itemCount, Reg.itemElement, Reg.itemTime, Reg.heartbeatSeq, Reg.partnerHeartbeat,
   Reg.objectsReplaced, Reg.fitBefore, Reg.partnerVersions, Reg.leaseInUse, Reg.partnerLease,
   Reg.grantJudged, Reg.isolateDue, Reg.mirrorSeen, Reg.ctxShowDue, Reg.mirrorGap,
   Reg.mplZ, Reg.mplPeriod, Reg.mplLocked, Reg.mplRun, Reg.mplErased,
   Reg.mplSilent, Reg.mplRising, Reg.mplQueue, Reg.mplAwait, Reg.mplAttempts,
   Reg.mplMissed, Reg.mplWait, Reg.osTxSeq, Reg.osRxSeq, Reg.osRxAt,
   Reg.osPolledAt, Reg.osDue, Reg.osEstimating, Reg.osEstimatedAt, Reg.osMaps,
   Reg.osMapNew, Reg.osBodyFailed, Reg.keyShare, Reg.keyBlob, Reg.blobGeneration,
   Reg.blobsAt, Reg.remaskAt, Reg.canWrapped, Reg.seccKind, Reg.seccPublic,
   Reg.seccWrapped, Reg.serviceLogPublic, Reg.transitionTo, Reg.retireAskedAt, Reg.sourceFails,
   Reg.sourceStartAt, Reg.attestationSequence, Reg.trialWdt, Reg.trialSlot, Reg.heldAtStage2,
   Reg.trialLost, Reg.moFrames, Reg.moPeriodAt, Reg.moWatchAt, Reg.moRun,
   Reg.moLastFilled, Reg.moLastRead, Reg.moAbortDue, Reg.canOnBus, Reg.canTec,
   Reg.canWarned, Reg.canPassive, Reg.busOffAt, Reg.busRecoveries, Reg.ttEnterDue,
   Reg.ttCause, Reg.ttObject, Reg.ttLeaveDue, Reg.ttWindow, Reg.ttTaken,
   Reg.hpCycles, Reg.siSamples, Reg.siSuspect, Reg.siPasses, Reg.ossdAt,
   Reg.ossdSeen, Reg.tpAt, Reg.srstLow, Reg.srstHigh, Reg.sfClosedRun,
   Reg.sfEdge, Reg.sfNeedsEdge, Reg.guardSeen, Reg.startPassed, Reg.siInUse,
   Reg.sfInputsInUse, Reg.sfOutputsInUse, Reg.sfModeInUse, Reg.holdInUse, Reg.countInUse,
   Reg.soLowRun, Reg.soAbove5, Reg.brakePhase, Reg.brakeAt, Reg.brakeCount,
   Reg.brakeLockout, Reg.brakePassed, Reg.brakePassedAt, Reg.brakeGranted, Reg.warningDue,
   Reg.warningValid, Reg.resetKind, Reg.resetSource, Reg.resetTime, Reg.backupLast,
   Reg.swrAt, Reg.brownOut, Reg.brownCell, Reg.dipOpenedAt, Reg.dipClosedAt,
   Reg.dipElapsed, Reg.dipLowest, Reg.dipCommitAt, Reg.stopQueue, Reg.stopNext,
   Reg.idleSince, Reg.wakeCause, Reg.supplyRaw, Reg.supplyHeld, Reg.chargeSixths,
   Reg.vauxHigh, Reg.cellJudged, Reg.roundAt, Reg.runTime, Reg.hotTime]

end Sys2Proof.Machine
end

