-- ==== Sys2Proof/Machine/State.lean ====
section
/-!
DEFINITION. The state of the module: its registers, its logs, its memories, the requests it has accepted and not yet
answered, what it put on its interfaces in the last step, and the queue of commands that wait. Plain data throughout.
-/

namespace Sys2Proof.Machine

/-- Why a step stops with a fault. -/
inductive Fault where
  /-- Raised by no meaning of this model: every command of the table has an effect in the spec. Safe. -/
  | none
deriving DecidableEq, Repr

/-- Why a step refuses a command. -/
inductive Refusal where
  /-- A command whose meaning is not written. Raised by `exec` alone. Safe: the machine stops. -/
  | notModelled (mnemonic : String)
deriving DecidableEq, Repr

/-- A response of a Farar transaction (R301). -/
structure Answer where
  /-- The tag space: 0 is CAN0, any other number the Ethernet session of that identifier. -/
  space : Nat
  tag : Nat
  epoch : Nat
  /-- The response code of Table 12.4. -/
  code : Nat
  /-- The status of Table 12.3. -/
  status : Nat
  data : List Byte
deriving DecidableEq, Repr

/-- What the module puts on an interface in one step. -/
inductive Emission where
  | answer (a : Answer)
  /-- The next block of 128 segments of a response on CAN0 (R310). -/
  | block (tag : Nat) (data : List Byte)
  /-- A command frame on a data lane of a cabinet link: its bytes, and the line bits that carry it. -/
  | command (link lane : Nat) (frame : List Byte) (line : List Bool)
  /-- A service frame on a cabinet link. -/
  | service (link : Nat) (frame : List Byte)
  /-- A frame on a CAN bus. -/
  | can (bus : Nat) (ext : Bool) (ident : Nat) (data : List Byte)
  /-- A frame on the mains-pulse link. -/
  | mains (bits : List Bool)
  /-- A message to the vehicle at an outlet: a code of the model's own list and its values. -/
  | vehicle (outlet : Nat) (code : Nat) (values : List Int)
  /-- A datagram of a push channel. -/
  | push (channel : Nat) (bytes : List Byte)
  /-- A message to the partner module: kind and values. -/
  | partner (kind : Nat) (values : List Int)
  /-- A metering pulse. -/
  | pulse (output : Nat)
  /-- The mirror of a frame on the partner link (R395). -/
  | mirror (m : Mirror)
  /-- A configuration sync item on the partner link (R397). -/
  | sync (key : Key) (num : Int) (bytes : List Byte)
  /-- A gratuitous ARP for an IPv4 address (R404). -/
  | arp (addr : Nat)
  /-- A PTP message. -/
  | ptp (kind : Nat)
deriving DecidableEq, Repr

/-- An Ethernet session (R281, R282). -/
structure Session where
  ident : Nat
  role : Nat
  /-- 0 ETH0, 1 ETH1. -/
  port : Nat
  addr : Nat
  /-- True from OPEN until CONFIRM is accepted. -/
  opening : Bool
  keyIn : List Byte
  keyOut : List Byte
  saltIn : List Byte
  saltOut : List Byte
  /-- Steps 1 and 2 of Table 11.7, which the role signature covers. -/
  transcript : List Byte
  lastIn : Nat
  lastOut : Nat
  /-- Elapsed time of the opening and of the last traffic, in cycles. -/
  opened : Nat
  traffic : Nat
deriving DecidableEq, Repr

/-- The boundaries of Table 1.4 at which a written value takes effect. -/
inductive Boundary where
  | frameStart | fastPass | slowTick | sample | second | hpCycle | atOnce
  /-- The next idle of a CAN bus (R325). -/
  | busIdle (bus : Nat)
  /-- The completion or abort of a message object's pending frame (R330). -/
  | frameDone (mo : Nat)
  /-- The standby's acknowledgement of the change, for which the active waits with its answer (R397). -/
  | sync
deriving DecidableEq, Repr

/-- A field write that is accepted and waits for its boundary. -/
structure FieldWrite where
  key : Key
  /-- The value of a numeric object. -/
  num : Int
  /-- The value of an OCTET or STR object. -/
  bytes : List Byte
  isBytes : Bool
deriving DecidableEq, Repr

/-- A transaction that is outstanding: accepted or still arriving, and not answered (R297). -/
structure Waiting where
  space : Nat
  tag : Nat
  epoch : Nat
  code : Nat
  boundary : Boundary
  /-- True while segments of the request are still arriving. -/
  partly : Bool
  /-- Elapsed time at which the first segment arrived, in cycles. -/
  since : Nat
  /-- The requester's role. -/
  role : Nat
  /-- A whole record was written. -/
  record : Bool
  writes : List FieldWrite
deriving DecidableEq, Repr

/-- Cells kept together: an image of part of the registers. -/
structure Kept where
  regs : Store Int
  octs : Store (List Byte)
  seqs : Store (List Int)
  logs : Store (List (List Byte))
deriving DecidableEq, Repr

/-- The state of the module. Every register group is a sparse store: a cell that is not listed holds the reset value
of its register (`Obj.dflt`, or the reset value of the named cell). -/
structure State where
  /-- The numeric objects of the dictionary and the numeric registers it does not show. -/
  regs : Store Int
  /-- The OCTET and STR objects, and the byte registers the dictionary does not show. -/
  octs : Store (List Byte)
  /-- Registers that hold a sequence of numbers: histories, queues, records. -/
  seqs : Store (List Int)
  /-- Registers that hold an exact real number. -/
  reals : Store Rat
  /-- Logs and record stores, each entry in the byte layout of its table, newest first. -/
  logs : Store (List (List Byte))
  /-- The committed configuration: the generation of the configuration area in force (R293). -/
  cfgRegs : Store Int
  cfgOcts : Store (List Byte)
  /-- The generation before it, in the other configuration area (R454). -/
  cfgOld : Kept
  /-- The retained state as of the last valid commit of the journal, and as the commit in progress will leave it (R448). -/
  journal : Kept
  staged : Kept
  /-- The valid entries of the commit ring, newest first (R448), and the items moved to the archive, newest first (R450). -/
  ring : List (List Byte)
  archive : List (List Byte)
  /-- PER and SEAL cells written since the last commit, and those that the commit in progress covers. -/
  dirty : List Key
  committing : List Key
  /-- Ethernet sessions. -/
  sessions : List Session
  /-- Transactions outstanding, oldest first. -/
  waiting : List Waiting
  /-- What the last step put on the module's interfaces, in order. -/
  out : List Emission
  /-- The shared pool by byte address; a byte not listed reads 0x00. -/
  pool : List Host.Cell
  /-- Code flash by byte address: image slots A and B and the metrology image; an erased byte reads 0xFF. -/
  flash : List Host.Cell
  /-- Commands that wait, first in, first out. -/
  pending : List Instr
deriving DecidableEq, Repr

/-- The machine right after reset: every register at its reset value, every log, queue and memory empty. -/
def State.reset : State :=
  { regs := [], octs := [], seqs := [], reals := [], logs := [], cfgRegs := [], cfgOcts := [],
    cfgOld := ⟨[], [], [], []⟩, journal := ⟨[], [], [], []⟩, staged := ⟨[], [], [], []⟩, ring := [], archive := [],
    dirty := [], committing := [], sessions := [],
    waiting := [], out := [], pool := [], flash := [], pending := [] }

end Sys2Proof.Machine
end

