-- ==== Sys2Proof/Machine/Store.lean ====
section
/-!
DEFINITION. Reading and writing the sparse stores and the addressed memories of the machine, and their canonical forms. A
memory is a rising list of the cells that differ from what an unlisted address reads as.
-/

namespace Sys2Proof.Machine

/-- The value listed for a cell, if one is listed (the first entry wins). -/
def storeFind {α : Type} : Store α → Key → Option α
  | [], _ => none
  | (k, v) :: t, q => if k = q then some v else storeFind t q

/-- A cell written in canonical order. -/
def storeInsert {α : Type} (k : Key) (v : α) : Store α → Store α
  | [] => [(k, v)]
  | (k', v') :: t =>
    if k = k' then (k, v) :: t
    else if Key.lt k k' then (k, v) :: (k', v') :: t
    else (k', v') :: storeInsert k v t

/-- The canonical form: each cell once, with its newest value, the names rising. -/
def storeCanon {α : Type} : Store α → Store α
  | [] => []
  | (k, v) :: t => storeInsert k v (storeCanon t)

/-- The names of a store rise strictly. -/
def storeRising {α : Type} : Store α → Bool
  | [] => true
  | [_] => true
  | (a, _) :: (b, v) :: t => Key.lt a b && storeRising ((b, v) :: t)

/-- What an unlisted byte reads as: 0x00 in the pool, 0xFF (erased) in flash. -/
def poolBlank : Byte := 0
def flashBlank : Byte := 0xFF

/-- The byte at an address. -/
def memRead (blank : Byte) (a : Nat) : List Host.Cell → Byte
  | [] => blank
  | (k, v) :: t => if k = a then v else memRead blank a t

/-- A cell removed. -/
def memErase (a : Nat) : List Host.Cell → List Host.Cell
  | [] => []
  | (k, v) :: t => if k = a then t else (k, v) :: memErase a t

/-- A cell put in its place. -/
def memPut (a : Nat) (b : Byte) : List Host.Cell → List Host.Cell
  | [] => [(a, b)]
  | (k, v) :: t => if a < k then (a, b) :: (k, v) :: t else if a = k then (a, b) :: t else (k, v) :: memPut a b t

/-- One byte written: a blank byte leaves the address unlisted. -/
def memWrite (blank : Byte) (a : Nat) (b : Byte) (m : List Host.Cell) : List Host.Cell :=
  if b = blank then memErase a m else memPut a b m

/-- Bytes written from an address on. -/
def memWriteAll (blank : Byte) : Nat → List Byte → List Host.Cell → List Host.Cell
  | _, [], m => m
  | a, b :: t, m => memWriteAll blank (a + 1) t (memWrite blank a b m)

/-- `n` bytes read from an address on. -/
def memReadAll (blank : Byte) (a n : Nat) (m : List Host.Cell) : List Byte :=
  (List.range n).map fun k => memRead blank (a + k) m

/-- Addresses strictly rising from a bound, no blank cell. -/
def memWfFrom (blank : Byte) : Nat → List Host.Cell → Bool
  | _, [] => true
  | lo, (k, v) :: t => lo ≤ k && v != blank && memWfFrom blank (k + 1) t

/-- The canonical form of a memory. -/
def Memory.wf (blank : Byte) (m : List Host.Cell) : Bool := memWfFrom blank 0 m

/-- A memory in canonical form: of several entries for an address the first counts. -/
def memCanon (blank : Byte) : List Host.Cell → List Host.Cell
  | [] => []
  | (a, b) :: t => memWrite blank a b (memCanon blank t)

end Sys2Proof.Machine
end

