-- ==== Sys2Proof/Machine/Ops.lean ====
section
/-!
DEFINITION. The named operations over the registers, sequences, logs and interfaces of the module. Every meaning is
written with them.
-/

namespace Sys2Proof.Machine

/-- The outcome of a command. -/
abbrev Out := Host.Outcome State Fault Refusal

/-- The cell of element `j` of instance `i` of a register. -/
def Obj.key (o : Obj) (i j : Nat) : Key := ⟨o.id, i, j⟩

/-- Reading a numeric register. -/
def State.get (s : State) (o : Obj) (i : Nat := 0) (j : Nat := 0) : Int :=
  match storeFind s.regs ⟨o.id, i, j⟩ with
  | some v => v
  | none => o.dflt i j

/-- Reading a numeric register that holds a natural number. -/
def State.getN (s : State) (o : Obj) (i : Nat := 0) (j : Nat := 0) : Nat := (s.get o i j).toNat

/-- Reading a flag register. -/
def State.is (s : State) (o : Obj) (i : Nat := 0) (j : Nat := 0) : Bool := s.get o i j == 1

/-- Writing a numeric register. -/
def State.set (s : State) (o : Obj) (v : Int) (i : Nat := 0) (j : Nat := 0) : State :=
  { s with regs := (⟨o.id, i, j⟩, v) :: s.regs }

/-- Writing a flag register. -/
def State.setB (s : State) (o : Obj) (v : Bool) (i : Nat := 0) (j : Nat := 0) : State :=
  s.set o (if v then 1 else 0) i j

/-- Counting up: a U32 counter wraps to 0 after 4 294 967 295. -/
def State.inc (s : State) (o : Obj) (i : Nat := 0) (j : Nat := 0) : State :=
  s.set o ((s.get o i j + 1) % 4294967296) i j

/-- Reading a byte register. -/
def State.bytes (s : State) (o : Obj) (i : Nat := 0) (j : Nat := 0) : List Byte :=
  match storeFind s.octs ⟨o.id, i, j⟩ with
  | some v => v
  | none => o.obytes

/-- Writing a byte register. -/
def State.setBytes (s : State) (o : Obj) (v : List Byte) (i : Nat := 0) (j : Nat := 0) : State :=
  { s with octs := (⟨o.id, i, j⟩, v) :: s.octs }

/-- Reading a sequence register; empty at reset. -/
def State.seq (s : State) (o : Obj) (i : Nat := 0) (j : Nat := 0) : List Int :=
  match storeFind s.seqs ⟨o.id, i, j⟩ with
  | some v => v
  | none => []

/-- Writing a sequence register. -/
def State.setSeq (s : State) (o : Obj) (v : List Int) (i : Nat := 0) (j : Nat := 0) : State :=
  { s with seqs := (⟨o.id, i, j⟩, v) :: s.seqs }

/-- Reading a real register; 0 at reset. -/
def State.real (s : State) (o : Obj) (i : Nat := 0) (j : Nat := 0) : Rat :=
  match storeFind s.reals ⟨o.id, i, j⟩ with
  | some v => v
  | none => 0

/-- Writing a real register. -/
def State.setReal (s : State) (o : Obj) (v : Rat) (i : Nat := 0) (j : Nat := 0) : State :=
  { s with reals := (⟨o.id, i, j⟩, v) :: s.reals }

/-- Reading a log, newest entry first; empty at reset. -/
def State.log (s : State) (o : Obj) (i : Nat := 0) : List (List Byte) :=
  match storeFind s.logs ⟨o.id, i, 0⟩ with
  | some v => v
  | none => []

/-- Writing a log. -/
def State.setLog (s : State) (o : Obj) (v : List (List Byte)) (i : Nat := 0) : State :=
  { s with logs := (⟨o.id, i, 0⟩, v) :: s.logs }

/-- Putting something on an interface. -/
def State.emit (s : State) (e : Emission) : State := { s with out := s.out ++ [e] }

/-- The same change made for each number below `n`, in rising order. -/
def State.forN (s : State) (n : Nat) (f : Nat → State → State) : State :=
  (List.range n).foldl (fun t k => f k t) s

/-- The same change made for each number of a list, in order. -/
def State.forL (s : State) (l : List Nat) (f : Nat → State → State) : State :=
  l.foldl (fun t k => f k t) s

/-- A change made when a condition holds. -/
def State.when (s : State) (c : Bool) (f : State → State) : State := if c then f s else s

/-- A number with one bit set or cleared. -/
def withBit (v : Int) (b : Nat) (on : Bool) : Int :=
  let n := v.toNat
  if n.testBit b = on then v else if on then ((n + 2 ^ b : Nat) : Int) else ((n - 2 ^ b : Nat) : Int)

/-- One bit of a register. -/
def State.bit (s : State) (o : Obj) (b : Nat) (i : Nat := 0) (j : Nat := 0) : Bool := (s.getN o i j).testBit b

/-- Setting or clearing one bit of a register. -/
def State.setBit (s : State) (o : Obj) (b : Nat) (on : Bool) (i : Nat := 0) (j : Nat := 0) : State :=
  s.set o (withBit (s.get o i j) b on) i j

/-- An image of part of the registers in canonical form. -/
def Kept.canon (k : Kept) : Kept := ⟨storeCanon k.regs, storeCanon k.octs, storeCanon k.seqs, storeCanon k.logs⟩

/-- The stores and memories in canonical form: how every step leaves them. -/
def State.canon (s : State) : State :=
  { s with
    regs := storeCanon s.regs, octs := storeCanon s.octs, seqs := storeCanon s.seqs,
    reals := storeCanon s.reals, logs := storeCanon s.logs, cfgRegs := storeCanon s.cfgRegs, cfgOcts := storeCanon s.cfgOcts,
    cfgOld := s.cfgOld.canon, journal := s.journal.canon, staged := s.staged.canon,
    pool := memCanon poolBlank s.pool, flash := memCanon flashBlank s.flash }

/-- A command that completes: the interfaces start empty, the change is made, the stores are left canonical. No command
touches the queue, from which the step took it. -/
def State.run (s : State) (f : State → State) : Out :=
  .next { (f { s with out := [] }).canon with pending := s.pending }

/-- Big-endian bytes of a number, `n` of them (R41); negative numbers in two's complement. -/
def beBytes (n : Nat) (v : Int) : List Byte :=
  let u := (v % (256 ^ n : Nat)).toNat
  (List.range n).map fun k => BitVec.ofNat 8 (u / 256 ^ (n - 1 - k))

/-- The number that big-endian bytes spell, unsigned. -/
def ofBytes (l : List Byte) : Nat := l.foldl (fun a b => a * 256 + b.toNat) 0

/-- The number that big-endian bytes spell in two's complement. -/
def ofBytesI (l : List Byte) : Int :=
  let u : Int := ofBytes l
  if u < 256 ^ l.length / 2 then u else u - 256 ^ l.length

/-- A number kept between two bounds. -/
def clampI (lo hi v : Int) : Int := max lo (min hi v)

/-- A rational rounded to the nearest integer, ties away from zero. -/
def roundAway (q : Rat) : Int := if 0 ≤ q then (q + 1 / 2).floor else -((-q + 1 / 2).floor)

/-- A rational rounded to the nearest integer, ties to the even one. -/
def roundEven (q : Rat) : Int :=
  let f := q.floor
  let d := q - f
  if d < 1 / 2 then f else if 1 / 2 < d then f + 1 else if f % 2 = 0 then f else f + 1

/-- `l` cut or padded to `n` bytes. -/
def fitBytes (n : Nat) (l : List Byte) : List Byte := (l ++ List.replicate n 0).take n

/-- Elapsed module time since reset in ns: what durations are measured with (R493). -/
def State.now (s : State) : Nat := s.getN Reg.elapsed

/-- One second in ns. -/
def second : Nat := 1000000000

/-- One millisecond in ns. -/
def millisecond : Nat := 1000000

/-- Module time, TIME64 [ns]. -/
def State.time (s : State) : Int := s.get Obj.moduleTime

/-- The number of the frame in progress. -/
def State.frame (s : State) : Nat := s.getN Obj.frameCounter

/-- A value put straight into the retained state, where KC or the battery domain keeps it. -/
def State.retain (s : State) (o : Obj) (v : Int) (i : Nat := 0) (j : Nat := 0) : State :=
  { s with journal := { s.journal with regs := storeInsert (o.key i j) v s.journal.regs } }

/-- A register of KC written where it is and in the retained state. -/
def State.keep (s : State) (o : Obj) (v : Int) (i : Nat := 0) (j : Nat := 0) : State := (s.set o v i j).retain o v i j

/-- A fresh free value of open point `p`, and the state after the draw. -/
def State.draw (s : State) (p : Nat) : Int × State :=
  (Config.free p (s.getN Reg.freeCount), s.set Reg.freeCount (s.get Reg.freeCount + 1))

/-- Fresh random bytes (R277), and the state after the draw. -/
def State.random (s : State) (n : Nat) : List Byte × State :=
  (fitBytes n (Config.random (s.getN Reg.freeCount)), s.set Reg.freeCount (s.get Reg.freeCount + 1))

end Sys2Proof.Machine
end

