-- ==== Sys2Proof/Machine/Codec.lean ====
section
/-!
DEFINITION. The checks and codes the spec gives exactly: CRC-32 (R46), CRC-16 (R347).
-/

namespace Sys2Proof.Machine

/-- Exclusive or of two numbers, below 2^32. -/
def xor32 (a b : Nat) : Nat := (BitVec.ofNat 32 a ^^^ BitVec.ofNat 32 b).toNat

/-- One bit of CRC-32, polynomial 0x04C11DB7. -/
def crc32Bit (c : Nat) : Nat :=
  if c ≥ 2147483648 then xor32 (c * 2 % 4294967296) 0x04C11DB7 else c * 2

/-- One byte of CRC-32. -/
def crc32Byte (c : Nat) (b : Byte) : Nat :=
  crc32Bit (crc32Bit (crc32Bit (crc32Bit (crc32Bit (crc32Bit (crc32Bit (crc32Bit (xor32 c (b.toNat * 16777216)))))))))

/-- CRC-32 of R46. -/
def crc32 (l : List Byte) : Nat := xor32 (l.foldl crc32Byte 0xFFFFFFFF) 0xFFFFFFFF

/-- One bit of CRC-16, polynomial 0x1021. -/
def crc16Bit (c : Nat) : Nat := if c ≥ 32768 then xor32 (c * 2 % 65536) 0x1021 else c * 2

/-- One byte of CRC-16. -/
def crc16Byte (c : Nat) (b : Byte) : Nat :=
  crc16Bit (crc16Bit (crc16Bit (crc16Bit (crc16Bit (crc16Bit (crc16Bit (crc16Bit (xor32 c (b.toNat * 256)))))))))

/-- CRC-16 of R347. -/
def crc16 (l : List Byte) : Nat := l.foldl crc16Byte 0xFFFF

end Sys2Proof.Machine
end

