-- ==== Sys2Proof/Machine/LinkCodec.lean ====
section
/-!
DEFINITION. Line coding of the cabinet links: marker, scrambler, stuffing, and the search for frames (R41 to R47).
-/

namespace Sys2Proof.Machine

/-- The bits of a byte, most significant first (R41). -/
def bitsOfByte (b : Byte) : List Bool := [7, 6, 5, 4, 3, 2, 1, 0].map fun k => b.toNat.testBit k

/-- The bits of bytes in order of transmission. -/
def bitsOf (l : List Byte) : List Bool := l.flatMap bitsOfByte

/-- The number that bits spell, most significant first. -/
def natOfBits (l : List Bool) : Nat := l.foldl (fun a b => 2 * a + (if b then 1 else 0)) 0

/-- `n` bytes read from the front of a bit stream. -/
def bytesOfBits : Nat → List Bool → List Byte
  | 0, _ => []
  | n + 1, l => BitVec.ofNat 8 (natOfBits (l.take 8)) :: bytesOfBits n (l.drop 8)

/-- Types of a marker on a cabinet link (Table 3.3). -/
def typeControl : Nat := 0x0F
def typeService : Nat := 0x33
def typeTraining : Nat := 0x55

/-- The sync words of the marker. -/
def markerSync : List Byte := [0x3E, 0x5A, 0xC3, 0xA5, 0x96, 0xF0]

/-- The marker of a frame. -/
def marker (type salt : Nat) : List Byte := markerSync ++ beBytes 1 type ++ beBytes 1 salt

/-- Seed of the scrambler (R43). -/
def scramblerSeed (salt link lane dir type : Nat) : Nat :=
  2 ^ 22 + salt % 256 * 2 ^ 14 + link * 2 ^ 10 + lane * 2 ^ 9 + dir * 2 ^ 8 + type

/-- Additive scrambling with x^23 + x^18 + 1; its own inverse. -/
def scramble : Nat → List Bool → List Bool
  | _, [] => []
  | s, x :: t =>
    let b := xor (s.testBit 22) (s.testBit 17)
    xor x b :: scramble ((2 * s + (if b then 1 else 0)) % 2 ^ 23) t

/-- Stuffing (R45) from the last line bit `v` and its run `c`: the line bits and the state after them. -/
def stuff : Bool → Nat → List Bool → List Bool × Bool × Nat
  | v, c, [] => ([], v, c)
  | v, c, y :: t =>
    let c' := if y = v then c + 1 else 1
    if c' = 31 then
      let (r, st) := stuff (!y) 0 t
      (y :: (!y) :: r, st)
    else
      let (r, st) := stuff y c' t
      (y :: r, st)

/-- Removal of stuffed bits by the same rule; a run of 31 says that the next line bit is a stuffed one. -/
def destuff : Bool → Nat → List Bool → List Bool × Bool × Nat
  | v, c, [] => ([], v, c)
  | v, c, y :: t =>
    if c = 31 then destuff y 0 t
    else
      let c' := if y = v then c + 1 else 1
      let (r, st) := destuff y c' t
      (y :: r, st)

/-- The line bits of a link frame: marker, then the body with its CRC, scrambled. -/
def lineFrame (type seq link lane dir : Nat) (body : List Byte) : List Bool :=
  bitsOf (marker type (seq % 256)) ++
    scramble (scramblerSeed seq link lane dir type) (bitsOf (body ++ beBytes 4 (crc32 body)))

/-- The first marker in a destuffed stream: type, salt, and the bits after it. -/
def findMarker : List Bool → Option (Nat × Nat × List Bool)
  | [] => none
  | x :: t =>
    let l := x :: t
    let ty := natOfBits ((l.drop 48).take 8)
    if l.take 48 = bitsOf markerSync ∧ 64 ≤ l.length ∧ (ty = typeControl ∨ ty = typeService ∨ ty = typeTraining) then
      some (ty, natOfBits ((l.drop 56).take 8), l.drop 64)
    else findMarker t

/-- Bytes of a frame from its first header byte to the last payload byte, by its type; a service frame by its length
field. -/
def bodyLength (type : Nat) (plain : List Bool) : Nat :=
  if type = typeControl then 248
  else if type = typeTraining then 24
  else 16 + ofBytes (bytesOfBits 2 (plain.drop 48))

/-- What a receiver makes of a stretch of line. -/
inductive Received where
  /-- No marker. -/
  | nothing
  /-- A marker of the type, and no frame that passes its CRC. -/
  | bad (type : Nat)
  /-- A frame that passes its CRC: its type and its bytes without the CRC. -/
  | good (type : Nat) (body : List Byte)
deriving DecidableEq, Repr

/-- The frame in a destuffed stream; after a CRC failure the search resumes at the first bit after the marker (R47).
`n` bounds the markers tried. -/
def findFrame (link lane dir : Nat) : Nat → List Bool → Received
  | 0, _ => .nothing
  | n + 1, l =>
    match findMarker l with
    | none => .nothing
    | some (ty, salt, rest) =>
      let plain := scramble (scramblerSeed salt link lane dir ty) rest
      let k := bodyLength ty plain
      let body := bytesOfBits k plain
      let crc := ofBytes (bytesOfBits 4 (plain.drop (8 * k)))
      if 8 * (k + 4) ≤ plain.length ∧ crc = crc32 body then .good ty body
      else
        match findFrame link lane dir n rest with
        | .nothing => .bad ty
        | r => r

/-- A stretch of line received on an up lane of a link: what it holds, and the destuffing state after it. -/
def receiveLine (link lane reg : Nat) (line : List Bool) : Received × Nat :=
  let (bits, v, c) := destuff (64 ≤ reg) (reg % 64) line
  (findFrame link lane 1 bits.length bits, (if v then 64 else 0) + c)

end Sys2Proof.Machine
end

