-- ==== Sys2Proof/Machine/Operands.lean ====
section
/-!
DEFINITION. The operands of host requests: the value encodings of Table 12.1, the ranges of the object tables, the
addresses of the dictionary, and the judgement of a request in the order of R300 and R4.
-/

namespace Sys2Proof.Machine

/-! ### Values -/

/-- 2 to an integer power. -/
def pow2 (e : Int) : Rat := if 0 ≤ e then ((2 ^ e.toNat : Nat) : Rat) else 1 / ((2 ^ (-e).toNat : Nat) : Rat)

/-- The number that a binary32 pattern stands for; patterns of exponent 255 are refused on write (R289). -/
def f32Val (b : Int) : Rat :=
  let n := b.toNat
  let sgn : Rat := if n / 2 ^ 31 % 2 = 1 then -1 else 1
  let e : Nat := n / 2 ^ 23 % 256
  let f : Nat := n % 2 ^ 23
  if e = 0 then sgn * (f : Rat) * pow2 (-149) else sgn * ((2 ^ 23 + f : Nat) : Rat) * pow2 ((e : Int) - 150)

/-- The exponent of the leading bit of a positive rational: 2^e ≤ q < 2^(e+1). -/
def ratLog2 (q : Rat) : Int :=
  let e : Int := (Nat.log2 q.num.natAbs : Int) - (Nat.log2 q.den : Int)
  if q < pow2 e then e - 1 else e

/-- The binary32 pattern nearest to a number, ties to even; beyond the largest finite value the pattern of infinity. -/
def f32Of (q : Rat) : Int :=
  if q = 0 then 0 else
  let sgn : Int := if q < 0 then 2 ^ 31 else 0
  let a := |q|
  let e := max (ratLog2 a) (-126)
  let m := roundEven (a / pow2 (e - 23))
  let (m, e) := if m = 2 ^ 24 then (2 ^ 23, e + 1) else (m, e)
  if e > 127 then sgn + 255 * 2 ^ 23
  else if m < 2 ^ 23 then sgn + m
  else sgn + (e + 127) * 2 ^ 23 + (m - 2 ^ 23)

/-- A well-formed UTF-8 text (R289): `n` continuation bytes are due, the next one from `lo` to `hi`. -/
def utf8Go : List Byte → Nat → Nat → Nat → Bool
  | [], n, _, _ => n == 0
  | b :: t, n, lo, hi =>
    let v := b.toNat
    match n with
    | 0 =>
      if v < 0x80 then utf8Go t 0 0x80 0xBF
      else if 0xC2 ≤ v ∧ v ≤ 0xDF then utf8Go t 1 0x80 0xBF
      else if v = 0xE0 then utf8Go t 2 0xA0 0xBF
      else if v = 0xED then utf8Go t 2 0x80 0x9F
      else if 0xE1 ≤ v ∧ v ≤ 0xEF then utf8Go t 2 0x80 0xBF
      else if v = 0xF0 then utf8Go t 3 0x90 0xBF
      else if 0xF1 ≤ v ∧ v ≤ 0xF3 then utf8Go t 3 0x80 0xBF
      else if v = 0xF4 then utf8Go t 3 0x80 0x8F
      else false
    | m + 1 => if lo ≤ v ∧ v ≤ hi then utf8Go t m 0x80 0xBF else false

/-- The size in bytes of a value of a type; none for STR and OCTET (Table 12.1). -/
def Ty.size : Ty → Option Nat
  | .bool => some 1
  | .u n => some n
  | .i n => some n
  | .f32 => some 4
  | .bf => some 5
  | .str => none
  | .octet => none

/-- True for the types held as bytes. -/
def Ty.isBytes : Ty → Bool
  | .str => true
  | .octet => true
  | _ => false

/-- The number that the bytes of a numeric value spell. -/
def Ty.decode (t : Ty) (d : List Byte) : Int :=
  match t with
  | .i _ => ofBytesI d
  | _ => (ofBytes d : Int)

/-- The bytes of a numeric value. -/
def Ty.encode (t : Ty) (v : Int) : List Byte :=
  match t.size with
  | some n => beBytes n v
  | none => []

/-- Status 0x04 or 0x05 by the type alone (R289), 0 when the bytes are a value of the type. -/
def typeStatus (t : Ty) (d : List Byte) : Nat :=
  match t with
  | .bool => if d.length ≠ 1 then 4 else if ofBytes d > 1 then 5 else 0
  | .u n => if d.length ≠ n then 4 else 0
  | .i n => if d.length ≠ n then 4 else 0
  | .f32 => if d.length ≠ 4 then 4 else if ofBytes d / 2 ^ 23 % 256 = 255 then 5 else 0
  | .bf => if d.length ≠ 5 then 4
    else if ofBytes d % 256 > 3 ∨ ofBytes d / 256 % 2 ^ 24 = 2 ^ 23 then 5 else 0
  | .str => if utf8Go d 0 0x80 0xBF then 0 else 5
  | .octet => 0

/-- A number lies within the range of its object. -/
def Rng.holds (r : Rng) (v : Int) : Bool :=
  match r with
  | .any => true
  | .rng lo hi => lo ≤ v && v ≤ hi
  | .oneOf l => l.contains v
  | .orOne lo hi x => (lo ≤ v && v ≤ hi) || v == x
  | .mask m => v.toNat &&& m == v.toNat
  | .f32 lo hi => lo ≤ f32Val v && f32Val v ≤ hi
  | .scale => 1 ≤ |f32Val v| && |f32Val v| ≤ 1000000
  | .len _ _ => true

/-- The length of a byte value lies within the range of its object. -/
def Rng.lenHolds (r : Rng) (n : Nat) : Bool :=
  match r with
  | .len lo hi => lo ≤ n && n ≤ hi
  | _ => true

/-- Status by type and range: steps 5 and 6 of R4. -/
def valueStatus (o : Obj) (d : List Byte) : Nat :=
  if typeStatus o.ty d ≠ 0 then typeStatus o.ty d
  else if o.ty.isBytes then (if o.rng.lenHolds d.length then 0 else 5)
  else if o.rng.holds (o.ty.decode d) then 0 else 5

/-! ### Addresses -/

/-- The instance of an object that stands at a dictionary index. -/
def Obj.instAt (o : Obj) (index : Nat) : Option Nat :=
  if o.mo then
    (if 0x1400 ≤ index ∧ index < 0x1800 ∧ index % 0x100 < 0x80 then some ((index / 0x100 - 0x14) * 128 + index % 0x80)
     else none)
  else if o.stride = 0 then (if index = o.base then some 0 else none)
  else if index < o.base then none
  else if (index - o.base) % o.stride ≠ 0 then none
  else
    let i := (index - o.base) / o.stride
    if o.first ≤ i ∧ i < o.count then some i else none

/-- The element of an object that stands at a subindex. -/
def Obj.elemAt (o : Obj) (sub : Nat) : Option Nat :=
  if sub < o.sub then none
  else if (sub - o.sub) % o.subStep ≠ 0 then none
  else if (sub - o.sub) / o.subStep < o.nsub then some ((sub - o.sub) / o.subStep) else none

/-- Some object stands at the index (status 0x01 otherwise, R288). -/
def indexExists (index : Nat) : Bool := objTable.any fun o => (o.instAt index).isSome

/-- The object, instance and element at an address. -/
def cellAt (index sub : Nat) : Option (Obj × Nat × Nat) :=
  objTable.findSome? fun o =>
    match o.instAt index, o.elemAt sub with
    | some i, some j => some (o, i, j)
    | _, _ => none

/-- The fields of the record at an index, in increasing subindex order. -/
def recordCells (index : Nat) : List (Obj × Nat × Nat) :=
  let here := objTable.filterMap fun o => (o.instAt index).map fun i => (o, i)
  (List.range 255).filterMap fun k => here.findSome? fun (o, i) => (o.elemAt (k + 1)).map fun j => (o, i, j)

/-! ### Who asks -/

/-- Life-cycle state numbers (Table 11.1). -/
def lcManufacture : Int := 0
def lcProvision : Int := 1
def lcField : Int := 2
def lcService : Int := 3
def lcRetired : Int := 4

/-- Role codes (Table 11.6). -/
def roleOp : Nat := 1
def roleAdmin : Nat := 2
def roleService : Nat := 3
def roleMetrology : Nat := 4
def roleTime : Nat := 5

/-- The tag space of the unauthenticated session on ETH1 in PROVISION (R280). -/
def plainSpace : Nat := 0x100000000

/-- What admission makes of a request. -/
inductive Admission where
  /-- Dropped unanswered. -/
  | drop (s : State)
  /-- Answered with a status. -/
  | reply (s : State) (space status : Nat)
  /-- Admitted with a role; `plain` marks the unauthenticated session of PROVISION. -/
  | accept (s : State) (space role : Nat) (plain : Bool)

/-- The data of a transfer in segments of 1024 bytes; an empty transfer has one empty segment (R306). -/
def segmentsOf (d : List Byte) : List (List Byte) :=
  (List.range (max 1 ((d.length + 1023) / 1024))).map fun k => (d.drop (1024 * k)).take 1024

/-- The UDP header of a request segment (Table 12.5). -/
def udpHeader (fn tag epoch index sub seg : Nat) (last : Bool) (len : Nat) : List Byte :=
  beBytes 1 (0x10 + epoch) ++ beBytes 1 fn ++ beBytes 1 tag ++ beBytes 1 sub ++ beBytes 2 index ++
  beBytes 2 (seg * 1024 + (if last then 512 else 0)) ++ beBytes 2 len ++ [0, 0]

/-- The GCM tags of a transfer are those of its segments under the session's key, with sequences from `seq` (R281, R305). -/
def macsGood (x : Session) (fn tag epoch index sub seq : Nat) (d : List Byte) (macs : List (List Byte)) : Bool :=
  let segs := segmentsOf d
  macs.length == segs.length &&
  ((List.range segs.length).zip (segs.zip macs)).all fun (k, p, m) =>
    let h := udpHeader fn tag epoch index sub k (k + 1 == segs.length) p.length
    Config.gcmTag x.keyIn (x.saltIn ++ beBytes 8 (seq + k)) (h ++ beBytes 4 x.ident ++ beBytes 8 (seq + k)) p == m

/-- The header of segment 0 on CAN (Table 12.8). -/
def canHeader (index sub epoch : Nat) (trailer : Bool) (len : Nat) : List Byte :=
  beBytes 2 index ++ beBytes 1 sub ++ beBytes 1 (epoch * 16 + (if trailer then 1 else 0)) ++ [0] ++ beBytes 3 len

/-- The identifier of segment 0 of a transfer on CAN (Table 12.7). -/
def canIdent (prio fn node tag : Nat) : Nat := prio * 2 ^ 26 + fn * 2 ^ 21 + node * 2 ^ 15 + tag * 2 ^ 7

/-- The MAC of a CAN request (R283). -/
def canMac (key : List Byte) (prio fn node tag index sub epoch counter : Nat) (d : List Byte) : List Byte :=
  (Config.hmac256 key (beBytes 4 (canIdent prio fn node tag) ++ beBytes 4 counter ++
    canHeader index sub epoch true d.length ++ d)).take 8

/-- Exclusive or of two byte strings. -/
def xorBytes (a b : List Byte) : List Byte := List.zipWith (· ^^^ ·) a b

/-- A secret of KC: the exclusive or of its shares; empty when KC does not hold it (R274). -/
def secretOf (s : State) (k : Nat) : List Byte := xorBytes (s.bytes Reg.keyShare k 0) (s.bytes Reg.keyShare k 1)

/-- The CAN MAC key of a role (R283); it can be used in the states of SWV-ROLE-WRAP alone (R272). -/
def canKeyOf (s : State) (role : Nat) : List Byte :=
  if (s.get Obj.lifeCycleState = lcField ∨ s.get Obj.lifeCycleState = lcService) ∧ 1 ≤ role ∧ role ≤ 5 then secretOf s (2 + role)
  else []

/-- True in the roles that drive outputs (Table 1.7). -/
def isDriving (s : State) : Bool := s.get Obj.role == 0 || s.get Obj.role == 1

/-- The module answers a CAN request at this node address (R308). -/
def nodeIsOurs (s : State) (node : Nat) : Bool :=
  s.getN Obj.ownNodeAddress == node || (isDriving s && s.getN Obj.siteNodeAddress == node)

/-- Counting an authentication failure (0xB110:02). -/
def State.authFailed (s : State) : State := s.inc Obj.authenticationFailures

/-- A confirmed session by its identifier; a session ends when either sequence reaches 2^32 (R282). -/
def findSession (s : State) (x : Nat) : Option Session :=
  s.sessions.find? fun y => y.ident == x && !y.opening && y.lastIn < 2 ^ 32 && y.lastOut < 2 ^ 32

/-- A session after a datagram of it was accepted. -/
def touchSession (s : State) (x lastIn : Nat) : State :=
  { s with sessions := s.sessions.map fun y => if y.ident = x then { y with lastIn := lastIn, traffic := s.now } else y }

/-- The image service on ETH1 while start-up is held at stage 2 (R286). -/
def imageService (s : State) (port : Nat) : Bool := s.is Reg.heldAtStage2 && port == 1

/-- The Ethernet port or CAN0 (2) that a request arrives on. -/
def arrivesOn (s : State) (r : Req) : Nat :=
  match r.auth with
  | .session x _ _ => match s.sessions.find? fun y => y.ident == x with | some y => y.port | none => 2
  | .plain port => port
  | .can .. => 2

/-- A request can be answered now: from stage 4 on, or by the image service, where index 0 is that of CLOSE (R286, R495). -/
def serves (s : State) (r : Req) (index : Nat) : Bool :=
  4 ≤ s.get Obj.startUpStage || (imageService s (arrivesOn s r) && (index == 0xB200 || index == 0xB210 || index == 0))

/-- Step 1 of R300: who asks, by R281 on Ethernet, R280 in PROVISION and R284 on CAN. Before stage 4 no request is
answered (R495). -/
def authenticate (r : Req) (fn index sub : Nat) (d : List Byte) (s : State) : Admission :=
  if ¬ serves s r index then .drop s else
  match r.auth with
  | .session x seq macs =>
    match findSession s x with
    | none => .drop (s.inc Obj.droppedFramesAndDatagrams)
    | some y =>
      if y.lastIn < seq ∧ macsGood y fn r.tag r.epoch index sub seq d macs then
        .accept (touchSession s x (seq + (segmentsOf d).length - 1)) x y.role false
      else .drop s.authFailed
  | .plain port =>
    if port = 1 ∧ s.get Obj.lifeCycleState = lcProvision then .accept s plainSpace roleAdmin true
    else .reply s plainSpace 9
  | .can prio node trailer =>
    if s.get Obj.fararOnCan = 0 ∨ ¬ nodeIsOurs s node then .drop s else
    match trailer with
    | none => if fn = 1 then .accept s 0 0 false else .reply s 0 9
    | some t =>
      let key := canKeyOf s t.role
      if key ≠ [] ∧ t.mac = canMac key prio fn node r.tag index sub r.epoch t.counter d
          ∧ s.get Obj.canCounter 0 (t.role - 1) < t.counter ∧ s.get Reg.canFloor (t.role - 1) < t.counter then
        .accept (s.set Obj.canCounter t.counter 0 (t.role - 1)) 0 t.role false
      else .reply s.authFailed 0 9

/-- A tag of a space is busy (R297), but for the request's own segments still arriving. -/
def tagBusy (s : State) (space tag : Nat) : Bool :=
  (space == 0 && !(s.bytes Reg.canRest tag).isEmpty) || s.waiting.any fun w => w.space == space && w.tag == tag && !w.partly

/-- The tag space of the writes by which a discard reverts values: no session has it, so none is answered (R294). -/
def discardSpace : Nat := 0x200000000

/-- Transactions outstanding: accepted or arriving and not answered, and responses on CAN0 still being sent (R297, R299). -/
def outstanding (s : State) : Nat :=
  (s.waiting.filter fun w => w.space != discardSpace).length +
  (s.octs.filter fun x => x.1.o == Reg.canRest.id && !x.2.isEmpty).length

/-- The tag space a request names, before it is judged. -/
def spaceOf (r : Req) : Nat :=
  match r.auth with
  | .session x _ _ => x
  | .plain _ => plainSpace
  | .can .. => 0

/-- Steps 1 to 3 of R300. A request that completes one whose segments were arriving takes its place. -/
def judgeRequest (r : Req) (fn index sub : Nat) (d : List Byte) (s : State) : Admission :=
  match authenticate r fn index sub d s with
  | .accept t space role plain =>
    if tagBusy t space r.tag then .reply t space 7
    else
      let t := { t with waiting := t.waiting.filter fun w => !(w.space == space && w.tag == r.tag) }
      if 128 ≤ outstanding t then .reply t space 10 else .accept t space role plain
  | a => a

/-! ### What the requester may do -/

/-- A role is in a mask; code 0 stands for no role, which only lists of all roles hold. -/
def inMask (m role : Nat) : Bool := m.testBit role

/-- Objects whose right depends on the instance: the sensor type is read only for TC120 to TC131, the spare role is
written only for TC132 to TC143 (Table 8.9); class, exponent, parent and sources of a standard slot are read only
(Table 5.8). -/
def fixedByPlace (o : Obj) (i : Nat) : Bool :=
  (i < 416 && [Obj.slotClass, Obj.slotDivide, Obj.slotParent, Obj.slotMeasSource, Obj.slotRefSource,
    Obj.slotFfSource].any (fun x => x.id == o.id)) ||
  (o.id == Obj.tcSensorType.id && 120 ≤ i && i < 132) || (o.id == Obj.tcSpareRole.id && i < 132)

/-- Steps 2 to 4 of R4 for a write. -/
def writeRight (s : State) (o : Obj) (i role : Nat) : Nat :=
  if o.right = .ro ∨ fixedByPlace o i ∨ ¬ inMask o.wr role then 3
  else if o.right = .rws ∧ s.get Obj.lifeCycleState ≠ lcService then 6
  else if (o.right = .seal ∨ o.right = .sealWo) ∧ s.get Obj.sealOpen = 0 then 8
  else 0

/-- Steps 2 to 6 of R4 for a write of one field. -/
def writeStatus (s : State) (o : Obj) (i role : Nat) (d : List Byte) : Nat :=
  if writeRight s o i role ≠ 0 then writeRight s o i role else valueStatus o d

/-- Step 2 of R4 for a read. -/
def readStatus (o : Obj) (role : Nat) : Nat :=
  if o.right = .wo ∨ o.right = .sealWo ∨ ¬ inMask o.rd role then 3 else 0

/-- Declaration objects (Table 1.5a). -/
def isDeclaration (o : Obj) : Bool :=
  [Obj.linkDeclared, Obj.declaredPhaseCount, Obj.declaredBlockCount, Obj.declaredContactorCount, Obj.declaredVersion,
   Obj.declaredSupplyMap, Obj.declaredSerial, Obj.feederOfCabinet, Obj.reach, Obj.phaseDeclared, Obj.outletDeclared,
   Obj.outletMode, Obj.proximityWindowLow, Obj.proximityWindowHigh, Obj.imdBus, Obj.imdBaseId, Obj.imdIdFormat,
   Obj.hvilInUse, Obj.coolantBus, Obj.coolantBaseId, Obj.coolantIdFormat, Obj.tcSensorType, Obj.tcSpareRole,
   Obj.tcOutlet, Obj.nominalPhaseVoltage, Obj.nominalFrequency, Obj.osDeclared].any fun x => x.id == o.id

/-- What the unauthenticated session of PROVISION may do (R280): role keys, declaration objects, the transition to
FIELD. -/
def plainMay (o : Obj) (d : List Byte) : Bool :=
  isDeclaration o || o.base == 0xB100 || (o.id == Obj.requestedTransition.id && d == [2])

/-- R302: a STANDBY or FENCED module refuses writes outside four areas. -/
def roleForbids (s : State) (index : Nat) : Bool :=
  (s.get Obj.role == 2 || s.get Obj.role == 3) &&
  !(0x1000 ≤ index && index < 0x1400) && !(0xA800 ≤ index && index < 0xA900) &&
  !(0xB200 ≤ index && index < 0xB300) && !(0xC000 ≤ index && index < 0xD000)

/-- The response code of a function (Table 12.4). -/
def respCode (fn : Nat) : Nat := fn + 0x10

/-- Data bytes of the first block on CAN0, which the header shares, and of the others (R309, R310). -/
def firstBlock : Nat := 8184
def nextBlock : Nat := 8192

/-- A response put on the interface (R301); in a session each of its segments takes the next sequence (R281). On CAN0 what
exceeds a block waits for BLOCK_ACK (R310). -/
def emitAnswer (a : Answer) (s : State) : State :=
  if a.space = 0 then
    let rest := a.data.drop firstBlock
    let t := s.emit (.answer { a with data := a.data.take firstBlock })
    if rest.isEmpty then t else (t.setBytes Reg.canRest rest a.tag).set Reg.canRestAt s.now a.tag
  else
    let n := (segmentsOf a.data).length
    State.emit { s with sessions := s.sessions.map fun y => if y.ident = a.space then { y with lastOut := y.lastOut + n } else y }
      (.answer a)

/-- The response to a request. -/
def State.answer (s : State) (space : Nat) (r : Req) (fn status : Nat) (d : List Byte := []) : State :=
  emitAnswer ⟨space, r.tag, r.epoch, respCode fn, status, d⟩ s

/-- A tag space exists: CAN0, the session of PROVISION, or a session that has not ended (R297). -/
def spaceLives (s : State) (space : Nat) : Bool := space == 0 || space == plainSpace || (findSession s space).isSome

/-- The segments of a request come from where requests are taken (R280, R305, R308). -/
def mayBegin (s : State) (r : Req) : Bool :=
  match r.auth with
  | .session x _ _ => (findSession s x).isSome
  | .plain port => port == 1 && s.get Obj.lifeCycleState == lcProvision
  | .can _ node _ => s.is Obj.fararOnCan && nodeIsOurs s node

/-- Segments of a request have arrived and it is not complete (R306, R310): its tag is held until it completes, is
aborted or times out. On UDP the time runs from the first segment, on CAN0 from the last one. -/
def beginPartly (r : Req) (fn : Nat) (s : State) : State :=
  let mine (w : Waiting) : Bool := w.space == spaceOf r && w.tag == r.tag
  if ¬ serves s r 0xB210 ∨ ¬ mayBegin s r then s
  else if tagBusy s (spaceOf r) r.tag then s.answer (spaceOf r) r fn 7
  else if s.waiting.any mine then
    (if spaceOf r = 0 then { s with waiting := s.waiting.map fun w => if mine w then { w with since := s.now } else w } else s)
  else if 128 ≤ outstanding s then s.answer (spaceOf r) r fn 10
  else { s with waiting := s.waiting ++ [⟨(spaceOf r), r.tag, r.epoch, respCode fn, .atOnce, true, s.now, 0, false, []⟩] }

/-- The objects that the configuration sync leaves out, for they are the module's own (R397). -/
def ownToModule (o : Obj) : Bool :=
  [Obj.moduleSerial, Obj.firmwareVersionInUse, Obj.baseMACAddress, Obj.ownNodeAddress].any (fun x => x.id == o.id) ||
  (0x1180 ≤ o.base && o.base < 0x1200) || (0x2000 ≤ o.base && o.base < 0x2300) ||
  (0xA800 ≤ o.base && o.base < 0xA900 && o.id != Obj.leaseLength.id && o.id != Obj.fitnessThreshold.id) ||
  (0xB000 ≤ o.base && o.base < 0xB400 && o.base != 0xB100) || (0xC000 ≤ o.base && o.base < 0xD000) || o.right == .ro

/-- Changes are forwarded to the standby and wait for its acknowledgement (R397). -/
def syncsTo (s : State) (o : Obj) : Bool := s.is Reg.paired && s.get Obj.role == 1 && !ownToModule o

/-- The same by the key of a cell. -/
def syncedCell (s : State) (k : Key) : Bool :=
  match objTable.find? fun o => o.id == k.o with
  | some o => syncsTo s o
  | none => false

/-- An answer that waits for the standby's acknowledgement. -/
def awaitSync (w : Waiting) (s : State) : State :=
  let t := State.inc { s with waiting := s.waiting ++ [w] } Reg.syncGeneration
  if t.get Reg.syncSentAt = 0 then t.set Reg.syncSentAt (t.now + 1) else t

/-- The answer of an accepted write that has taken effect. -/
def State.accepted (s : State) (space role : Nat) (r : Req) (o : Obj) (i j : Nat) (d : List Byte) : State :=
  if syncsTo s o then
    awaitSync ⟨space, r.tag, r.epoch, respCode 2, .sync, false, s.now, role, false, []⟩
      (s.emit (.sync (o.key i j) (o.ty.decode d) (if o.ty.isBytes then d else [])))
  else s.answer space r 2 0

/-- A PER or SEAL cell that the host may write becomes uncommitted (R293, R295). -/
def markDirty (o : Obj) (k : Key) (s : State) : State :=
  if (o.cls = .per ∨ o.cls = .seal) ∧ ¬ o.own then
    let t := { s with dirty := k :: s.dirty.filter fun x => x ≠ k }
    (t.set Obj.uncommittedChanges 1).set Obj.uncommittedObjects
      (t.dirty.length + (t.committing.filter fun x => !t.dirty.contains x).length)
  else s

/-- A write to an object whose effect is an action of the module: the whole judgement of R300, then the action, which
may refuse by a rule of its chapter (step 6), then the answer. -/
def hostWrite (r : Req) (o : Obj) (i j : Nat) (d : List Byte) (fx : Nat → State → Except Nat State) (s : State) : State :=
  if r.complete = false then beginPartly r 2 s else
  match judgeRequest r 2 (o.index i) (o.sub + o.subStep * j) d s with
  | .drop t => t
  | .reply t space st => t.answer space r 2 st
  | .accept t space role plain =>
    if plain ∧ ¬ plainMay o d then t.answer space r 2 9
    else if writeStatus t o i role d ≠ 0 then t.answer space r 2 (writeStatus t o i role d)
    else if roleForbids t (o.index i) then t.answer space r 2 6
    else
      match fx role t with
      | .error st => t.answer space r 2 st
      | .ok u => (markDirty o (o.key i j) u).accepted space role r o i j d

/-- The same for an action that is answered when it has ended: the transaction stays outstanding until then. -/
def hostDefer (r : Req) (o : Obj) (i j : Nat) (d : List Byte) (fx : Nat → State → Except Nat State) (s : State) : State :=
  if r.complete = false then beginPartly r 2 s else
  match judgeRequest r 2 (o.index i) (o.sub + o.subStep * j) d s with
  | .drop t => t
  | .reply t space st => t.answer space r 2 st
  | .accept t space role plain =>
    if plain ∧ ¬ plainMay o d then t.answer space r 2 9
    else if writeStatus t o i role d ≠ 0 then t.answer space r 2 (writeStatus t o i role d)
    else if roleForbids t (o.index i) then t.answer space r 2 6
    else
      match fx role t with
      | .error st => t.answer space r 2 st
      | .ok u => { markDirty o (o.key i j) u with waiting := u.waiting ++ [⟨space, r.tag, r.epoch, respCode 2, .atOnce, false, u.now, role, false,
          [⟨o.key i j, o.ty.decode d, d, o.ty.isBytes⟩]⟩] }

/-- The outstanding transactions that wait for the end of an action. -/
def waitsFor (o : Obj) (i : Nat) (w : Waiting) : Bool := !w.partly && w.writes.any fun f => f.key.o == o.id && f.key.i == i

/-- They are answered with a status, unless their session has ended (R301). -/
def answerWaiting (o : Obj) (i status : Nat) (s : State) : State :=
  let now := s.waiting.filter (waitsFor o i)
  now.foldl (fun u w => if spaceLives u w.space then emitAnswer ⟨w.space, w.tag, w.epoch, w.code, status, []⟩ u else u)
    { s with waiting := s.waiting.filter fun w => !(waitsFor o i w) }

end Sys2Proof.Machine
end

