-- ==== Sys2Proof/Machine/PushOps.lean ====
section
/-!
DEFINITION. Items queued on the push channels (R311 to R314).
-/

namespace Sys2Proof.Machine

/-- An item is queued on a push channel: its kind, then its bytes; it takes the next item sequence of the channel. -/
def queueItem (ch kind : Nat) (item : List Byte) (s : State) : State :=
  let t := s.setLog Reg.pushQueue (s.log Reg.pushQueue ch ++ [beBytes 1 kind ++ item]) ch
  let t := t.set Obj.itemsQueued (t.log Reg.pushQueue ch).length ch
  if t.get Reg.pushIdleSince ch = 0 ∧ t.get Obj.windowsPosted ch = 0 then t.set Reg.pushIdleSince (t.now + 1) ch else t

/-- A channel is unbound: its posted windows lapse, and what was not acknowledged is sent again after a new binding (R311,
R313). -/
def unbindChannel (ch : Nat) (s : State) : State :=
  let t := ((s.set Obj.boundSession 0 ch).set Obj.windowsPosted 0 ch).setSeq Reg.pushWindows [] ch
  let t := ((t.set Reg.pushLastWindow 0 ch).set Reg.pushFilled 0 ch).set Reg.pushWindowAt 0 ch
  let t := (((t.set Reg.pushSegment 0 ch).set Reg.pushOffset 0 ch).set Reg.pushNext 0 ch).setSeq Reg.pushAckDue [] ch
  let t := t.set Reg.pushEndsOpen 0 ch
  t.set Reg.pushIdleSince (if (t.log Reg.pushQueue ch).isEmpty then 0 else t.now + 1) ch

/-- The source of a queued item is gone (Table 12.10): the item is dropped from whatever channel holds it, the next one
carries flag [2], and event 0x1210 falls due. A dropped item keeps its place with no bytes. -/
def dropItem (kind : Nat) (item : List Byte) (s : State) : State :=
  s.forN 8 fun ch u =>
    if (u.log Reg.pushQueue ch).contains (beBytes 1 kind ++ item) then
      ((u.setLog Reg.pushQueue ((u.log Reg.pushQueue ch).map fun x => if x = beBytes 1 kind ++ item then [] else x) ch).set
        Reg.pushLost 1 ch).set Reg.pushDropped (u.get Reg.pushDropped ch + 1) ch
    else u

end Sys2Proof.Machine
end

