-- ==== Sys2Proof/Machine/Logs.lean ====
section
/-!
DEFINITION. The event log (R316 to R318), the metrology audit log (R238), and the writes that wait for a boundary
(Table 1.4).
-/

namespace Sys2Proof.Machine

/-- Source codes of Table 12.11. -/
def srcAp0 : Nat := 1
def srcAp1 : Nat := 2
def srcMp : Nat := 3
def srcHp : Nat := 4
def srcKc : Nat := 5
def srcLe : Nat := 6
def srcMe : Nat := 7
def srcSupply : Nat := 8
def srcBattery : Nat := 9

/-- An entry of the event log: its sequence, then Table 12.11. -/
def eventBytes (s : State) (seq code src held : Nat) (d : List Byte) : List Byte :=
  let q := (min 3 (s.get Obj.timeQuality)).toNat
  let flags := q + (if d.length > 18 then 4 else 0) + (if isDriving s then 0 else 8)
  beBytes 4 seq ++ beBytes 8 s.time ++ beBytes 2 code ++ beBytes 1 src ++ beBytes 1 flags ++
  beBytes 2 (min held 65535) ++ fitBytes 18 d

/-- An entry put into the ring of 65 536 (R316); the entry it overwrites is dropped from its push channel when that has
not acknowledged it, and counted (Table 12.10). -/
def ringEntry (e : List Byte) (s : State) : State :=
  let l := s.log Reg.eventRing
  let t := s.setLog Reg.eventRing ((e :: l).take 65536)
  match l.getLast? with
  | some old =>
    if 65536 ≤ l.length ∧ s.getN Obj.lastEventAcknowledged < ofBytes (old.take 4) then
      dropItem 4 old (t.inc Obj.entriesOverwrittenBeforePush)
    else t
  | none => t

/-- One event entered in the ring of 65 536 (R316) and queued for its push channel (R314), or in the pool buffer of 4096
while the journal window is closed, where an entry beyond that is dropped and counted (R204). -/
def enterEvent (entry : Nat → List Byte) (s : State) : State :=
  let closed := (s.get Obj.journalWritesPermitted = 0 ∧ 2 < s.get Obj.startUpStage) ∨ s.is Reg.journalFull = true
  if closed ∧ (s.log Reg.eventWaiting).length ≥ 4096 then s.inc Obj.eventEntriesDropped
  else
    let seq := s.getN Obj.lastEventSequence + 1
    let e := entry seq
    let t := s.set Obj.lastEventSequence seq
    let t := if t.get Obj.startUpStage < 3 then t else queueItem (t.getN Obj.eventPushChannel) 4 e t
    if closed then t.setLog Reg.eventWaiting (e :: t.log Reg.eventWaiting) else ringEntry e t

/-- An event with its code, source, occurrences held back and data. -/
def logEntry (code src held : Nat) (d : List Byte) (s : State) : State := enterEvent (fun q => eventBytes s q code src held d) s

/-- An event without a limit. -/
def logEvent (code src : Nat) (d : List Byte) (s : State) : State := logEntry code src 0 d s

/-- An event that a rule limits to one entry per period for each element; the occurrences held back are counted and
entered in the next entry (R318, R493). -/
def logLimited (code src elem period : Nat) (d : List Byte) (s : State) : State :=
  let last := s.getN Reg.eventStamps code elem
  if last = 0 ∨ last + period ≤ s.now + 1 then
    ((logEntry code src (s.getN Reg.suppressed code elem) d s).set Reg.eventStamps (s.now + 1) code elem).set
      Reg.suppressed 0 code elem
  else s.set Reg.suppressed (s.get Reg.suppressed code elem + 1) code elem

/-- An event limited to one entry per episode of an element: entered when the episode opens. -/
def logEpisode (code src elem : Nat) (d : List Byte) (s : State) : State :=
  if s.getN Reg.eventStamps code elem = 0 then
    ((logEntry code src (s.getN Reg.suppressed code elem) d s).set Reg.eventStamps (s.now + 1) code elem).set
      Reg.suppressed 0 code elem
  else s.set Reg.suppressed (s.get Reg.suppressed code elem + 1) code elem

/-- The end of such an episode. -/
def endEpisode (code elem : Nat) (s : State) : State := s.set Reg.eventStamps 0 code elem

/-- Event data of one-byte items. -/
def data8 (l : List Int) : List Byte := l.flatMap fun v => beBytes 1 v

/-- Event data of one U32 item. -/
def data32 (v : Int) : List Byte := beBytes 4 v

/-! ### The metrology audit log -/

/-- An entry of the metrology audit log (Table 9.5). -/
def auditBytes (s : State) (kind role index sub : Nat) (old new : List Byte) : List Byte :=
  let b := beBytes 4 (s.get Obj.lastAuditSequence + 1) ++ beBytes 8 s.time ++ beBytes 1 kind ++ beBytes 1 role ++
    beBytes 2 index ++ beBytes 1 sub ++ [0, 0, 0] ++ fitBytes 12 old ++ fitBytes 12 new
  b ++ beBytes 4 (crc32 b)

/-- The audit log holds 1024 entries and is never overwritten (R238). -/
def auditFull (s : State) : Bool := (s.log Reg.auditLog).length ≥ 1024

/-- One entry added to the metrology audit log. -/
def auditEntry (kind role index sub : Nat) (old new : List Byte) (s : State) : State :=
  if auditFull s then s
  else
    (((s.setLog Reg.auditLog (auditBytes s kind role index sub old new :: s.log Reg.auditLog)).set Obj.lastAuditSequence
      (s.get Obj.lastAuditSequence + 1)).set Obj.auditEntriesUsed (s.get Obj.auditEntriesUsed + 1))

/-! ### Writes that wait for a boundary -/

/-- The object of a cell, by its name. -/
def objById (n : Nat) : Option Obj := objTable.find? fun o => o.id == n

/-- The bytes a cell reads as. -/
def cellBytes (s : State) (o : Obj) (i j : Nat) : List Byte :=
  if o.ty.isBytes then s.bytes o i j else o.ty.encode (s.get o i j)

/-- The Ethernet settings, which take effect at the next reset after their commit (Table 12.13). -/
def isEth (o : Obj) : Bool := o.base == 0x1180 && o.sub ≤ 4

/-- The value of a PER or SEAL object that a commit takes. -/
def State.toCommit (s : State) (o : Obj) (i j : Nat) : Int :=
  if isEth o ∧ s.get Reg.ethStaged i o.sub ≠ 0 then s.get Reg.ethStaged i o.sub - 1 else s.get o i j

/-- One field takes its written value. A SEAL field adds an audit entry, but not when a record write leaves its value
as it was (R238, R290). -/
def applyField (role : Nat) (record : Bool) (w : FieldWrite) (s : State) : State :=
  match objById w.key.o with
  | none => s
  | some o =>
    let old := cellBytes s o w.key.i w.key.j
    let t := if isEth o then s.set Reg.ethStaged (w.num + 1) w.key.i o.sub
      else if w.isBytes then s.setBytes o w.bytes w.key.i w.key.j
      else s.set o w.num w.key.i w.key.j
    let new := cellBytes t o w.key.i w.key.j
    let u := markDirty o w.key t
    if (o.right = .seal ∨ o.right = .sealWo) ∧ ¬ (record ∧ old = new) then
      auditEntry 1 role (o.index w.key.i) (o.sub + o.subStep * w.key.j) old new u
    else u

/-- An accepted write takes effect and is answered with status 0x00, unless its session has ended (R7, R301). In a pair
the answer waits for the standby's acknowledgement (R397). -/
def applyWaiting (w : Waiting) (s : State) : State :=
  let t := w.writes.foldl (fun u f => applyField w.role w.record f u) s
  if w.boundary ≠ .sync ∧ (w.writes.any fun f => syncedCell t f.key) then
    awaitSync { w with writes := [], boundary := .sync } (w.writes.foldl (fun u f => u.emit (.sync f.key f.num f.bytes)) t)
  else if spaceLives t w.space then emitAnswer ⟨w.space, w.tag, w.epoch, w.code, 0, []⟩ t
  else t

/-- Cells are no longer uncommitted. -/
def undirty (l : List Key) (s : State) : State :=
  let t := { s with dirty := s.dirty.filter fun k => !l.contains k }
  (t.setB Obj.uncommittedChanges (!t.dirty.isEmpty || !t.committing.isEmpty)).set Obj.uncommittedObjects
    (t.dirty.length + (t.committing.filter fun x => !t.dirty.contains x).length)

/-- The writes accepted before the commit in progress (R293). -/
def beforeCommit (s : State) : List Waiting :=
  if s.waiting.any (waitsFor Obj.commitCommand 0) then s.waiting.takeWhile fun w => !waitsFor Obj.commitCommand 0 w else []

/-- A discard ends when its last write has taken effect, and is answered (R294). -/
def endDiscard (s : State) : State :=
  if s.get Reg.commitRunning = 2 ∧ ¬ (s.waiting.any fun w => w.space == discardSpace) then
    answerWaiting Obj.commitCommand 0 0 (s.set Reg.commitRunning 0)
  else s

/-- The boundary `b` of Table 1.4 is reached: the writes that wait for it take effect in the order of acceptance (R291).
Those that a commit in progress covers, and those of a discard, leave nothing uncommitted. -/
def atBoundary (b : Boundary) (s : State) : State :=
  let now := s.waiting.filter fun w => w.boundary == b && !w.partly
  let early := beforeCommit s
  let t := { s with waiting := s.waiting.filter fun w => !(w.boundary == b && !w.partly) }
  endDiscard (now.foldl (fun u w =>
    let v := applyWaiting w u
    if w.space = discardSpace ∨ early.contains w then undirty (w.writes.map (·.key)) v else v) t)

/-- A judged write of one or more fields is accepted: it takes effect at its boundary, at once when that is acceptance. -/
def acceptWrite (space role : Nat) (r : Req) (record : Bool) (b : Boundary) (l : List FieldWrite) (s : State) : State :=
  let w : Waiting := ⟨space, r.tag, r.epoch, respCode 2, b, false, s.now, role, record, l⟩
  if b = .atOnce then applyWaiting w s else { s with waiting := s.waiting ++ [w] }

/-- The boundary of an index (Table 1.4). -/
def boundaryOf (index : Nat) : Boundary :=
  if (0x3000 ≤ index ∧ index < 0x3240) ∨ (0x3800 ≤ index ∧ index < 0x3900) ∨ (0x5000 ≤ index ∧ index < 0x5900) then
    .frameStart
  else if 0x3300 ≤ index ∧ index < 0x3400 then .fastPass
  else if (0x4000 ≤ index ∧ index < 0x4600) ∨ (0x6000 ≤ index ∧ index < 0x60FA) ∨ (0x7000 ≤ index ∧ index < 0x7190) then
    .slowTick
  else if 0x8000 ≤ index ∧ index < 0x9000 then .sample
  else if 0x9000 ≤ index ∧ index < 0xA000 then .second
  else if 0xA000 ≤ index ∧ index < 0xA100 then .hpCycle
  else .atOnce

end Sys2Proof.Machine
end

