-- ==== Sys2Proof/Machine/Site.lean ====
section
/-!
DEFINITION. The site as the module knows it: which element lies in which, what is declared and what has passed the
topology check, and the conditions under which anything may be energised (R13).
-/

namespace Sys2Proof.Machine

/-! ### Numbers the spec gives names -/

/-- Power states (0x2000:01). -/
def pwIdle : Int := 2
def pwRun : Int := 3

/-- Roles (0xA800:01). -/
def roSolo : Int := 0
def roActive : Int := 1
def roStandby : Int := 2
def roFenced : Int := 3
def roIsolated : Int := 4

/-- Link states (Table 3.12). -/
def lkDown : Int := 0
def lkClock : Int := 1
def lkAlign : Int := 2
def lkSync : Int := 3
def lkIdent : Int := 4
def lkConfig : Int := 5
def lkRun : Int := 6
def lkOneLane : Int := 7
def lkLost : Int := 8
def lkRefused : Int := 9
def lkHeld : Int := 10

/-- Phase states (Table 4.1). -/
def phUndeclared : Int := 0
def phRefused : Int := 1
def phOff : Int := 2
def phActive : Int := 3
def phShed : Int := 4
def phRetry : Int := 5
def phLatched : Int := 6
def phLocked : Int := 7

/-- Block states (Table 4.2). -/
def bkOff : Int := 0
def bkTest : Int := 1
def bkStartDelay : Int := 2
def bkRampOn : Int := 3
def bkRunning : Int := 4
def bkRampOff : Int := 5
def bkStopDelay : Int := 6
def bkLatched : Int := 7
def bkOut : Int := 8

/-- Context states (Table 7.10). -/
def cxFree : Int := 0
def cxPending : Int := 1
def cxReserved : Int := 2
def cxBound : Int := 3
def cxDelivering : Int := 4
def cxClosing : Int := 5
def cxSealed : Int := 6

/-! ### Where an element lies -/

/-- Block of a phase (Table 0.3). -/
def blockOf (p : Nat) : Nat := p / 4

/-- Cabinet of a phase. -/
def cabOf (p : Nat) : Nat := p / 16

/-- Cabinet of a block. -/
def cabOfBlock (b : Nat) : Nat := b / 4

/-- The phases of a block. -/
def phasesOf (b : Nat) : List Nat := [4 * b, 4 * b + 1, 4 * b + 2, 4 * b + 3]

/-- The blocks of a cabinet. -/
def blocksOf (c : Nat) : List Nat := [4 * c, 4 * c + 1, 4 * c + 2, 4 * c + 3]

/-- The feeder of a block. -/
def feederOf (s : State) (b : Nat) : Nat := s.getN Obj.feederOfCabinet (cabOfBlock b)

/-! ### State at a glance -/

/-- State of a block: bits [15:8] of 0x3200:1C. -/
def blockSt (s : State) (b : Nat) : Int := s.get Obj.blockState b / 256

/-- State of a phase. -/
def phaseSt (s : State) (p : Nat) : Int := s.get Obj.phaseState p

/-- A phase is usable in OFF, ACTIVE, SHED, RETRY and LATCHED (R67). -/
def usable (s : State) (p : Nat) : Bool := 2 ≤ phaseSt s p && phaseSt s p ≤ 6

/-- The active phases of a block. -/
def activePhases (s : State) (b : Nat) : List Nat := (phasesOf b).filter fun p => phaseSt s p == phActive

/-- The usable phases of a block. -/
def usablePhases (s : State) (b : Nat) : List Nat := (phasesOf b).filter fun p => usable s p

/-- A block is switching in RAMP_ON, RUNNING and RAMP_OFF. -/
def switching (s : State) (b : Nat) : Bool := bkRampOn ≤ blockSt s b && blockSt s b ≤ bkRampOff

/-- A block is energised in every state but OFF and OUT. -/
def energised (s : State) (b : Nat) : Bool := blockSt s b != bkOff && blockSt s b != bkOut

/-- Some block of the module is energised. -/
def anyEnergised (s : State) : Bool := (List.range 64).any fun b => energised s b

/-- A link carries commands and telemetry in RUN and ONE_LANE. -/
def linkUp (s : State) (c : Nat) : Bool := s.get Obj.linkState c == lkRun || s.get Obj.linkState c == lkOneLane

/-- The outlet that reach `r` of a block is wired to; 255 none. -/
def reachOutlet (s : State) (b r : Nat) : Nat := s.getN Obj.reach b r

/-- The reach of a block that goes to an outlet. -/
def reachTo (s : State) (b n : Nat) : Option Nat := [0, 1, 2, 3].find? fun r => reachOutlet s b r == n

/-- A block is bound to an outlet while its matrix contactor to it is commanded closed. -/
def boundTo (s : State) (b n : Nat) : Bool :=
  [0, 1, 2, 3].any fun r => reachOutlet s b r == n && s.bit Reg.contactorCommand r b

/-- The blocks bound to an outlet. -/
def boundBlocksOf (s : State) (n : Nat) : List Nat := (List.range 64).filter fun b => boundTo s b n

/-- The contactor state a terminal reports for a reach: 0 open, 1 closed, 2 disagrees, 3 coil fault (Table 3.7). -/
def contactorReported (s : State) (b r : Nat) : Nat := s.getN Reg.tmContactors b / 4 ^ r % 4

/-- Every matrix contactor of a block reports open. -/
def allReportedOpen (s : State) (b : Nat) : Bool := [0, 1, 2, 3].all fun r => contactorReported s b r == 0

/-- A context is in a session. -/
def ctxInSession (s : State) (c : Nat) : Bool :=
  s.get Obj.ctxState c == cxBound || s.get Obj.ctxState c == cxDelivering || s.get Obj.ctxState c == cxClosing

/-- Some context is BOUND, DELIVERING or CLOSING. -/
def anySession (s : State) : Bool := (List.range 250).any fun c => ctxInSession s c

/-- The context bound to an outlet, if any. -/
def contextOf (s : State) (n : Nat) : Option Nat :=
  if s.get Obj.boundContext n = 255 then none else some (s.getN Obj.boundContext n)

/-- The outlet has a context in a session. -/
def outletInSession (s : State) (n : Nat) : Bool :=
  match contextOf s n with
  | some c => ctxInSession s c
  | none => false

/-- An element is declared. -/
def cabDeclared (s : State) (c : Nat) : Bool := s.is Obj.linkDeclared c
def blockDeclared (s : State) (b : Nat) : Bool := s.is Obj.linkDeclared (b / 4) && (b % 4 : Int) < s.get Obj.declaredBlockCount (b / 4)
def phaseDeclared (s : State) (p : Nat) : Bool :=
  s.is Obj.phaseDeclared p && s.is Obj.linkDeclared (p / 16) && (p % 16 : Int) < s.get Obj.declaredPhaseCount (p / 16)
def outletDeclared (s : State) (n : Nat) : Bool := s.is Obj.outletDeclared n

/-- An element is declared and not refused by the topology check (0x2003). -/
def cabAdmitted (s : State) (c : Nat) : Bool := cabDeclared s c && !s.bit Obj.refusedCabinets c
def blockAdmitted (s : State) (b : Nat) : Bool := blockDeclared s b && cabAdmitted s (b / 4) && !s.bit Obj.refusedBlocks b
def phaseAdmitted (s : State) (p : Nat) : Bool :=
  phaseDeclared s p && cabAdmitted s (p / 16) && phaseSt s p != phUndeclared && phaseSt s p != phRefused
def outletAdmitted (s : State) (n : Nat) : Bool := outletDeclared s n && !s.bit Obj.refusedOutlets n

/-- The four conditions of R13 that hold for the whole module, with the life-cycle states of Table 1.8. -/
def mayAct (s : State) : Bool :=
  s.get Obj.powerState == pwRun && isDriving s && (s.get Reg.partnerActive == 0 || s.get Obj.role == roSolo) &&
  (s.get Obj.lifeCycleState == lcField || s.get Obj.lifeCycleState == lcService)

/-- R393: nothing is enabled while the partner's ACTIVE line is asserted; on a simplex backplane there is none. -/
def mayEnable (s : State) : Bool := s.get Reg.partnerActive == 0 || s.get Obj.role == roSolo

/-- R13 for a block: the module may act, and the block, its cabinet and the feeders have passed the check (R9). -/
def mayEnergiseBlock (s : State) (b : Nat) : Bool :=
  mayAct s && s.is Reg.blockPassed b && s.is Reg.cabPassed (b / 4) && s.get Obj.refusedFeeders == 0

/-- The coil group of an outlet: CG0 to CG3 for six outlets each (R155). -/
def coilGroup (n : Nat) : Nat := n / 6

/-- R13 for the contactors of an outlet: the outlet has passed the check and the safe output of its coil group is
enabled. -/
def mayCloseOutlet (s : State) (n : Nat) : Bool :=
  mayAct s && s.is Reg.outletPassed n && s.get Obj.refusedFeeders == 0 && s.bit Obj.safeOutputStates (coilGroup n)

/-- DC voltage of an outlet in units of 0.05 V, from DMn [mV]. -/
def dcVolt20 (s : State) (n : Nat) : Rat := (s.get Obj.dcVoltage n : Rat) / 50

/-- A number put in its place in a rising list. -/
def insertInt (v : Int) : List Int → List Int
  | [] => [v]
  | a :: t => if v ≤ a then v :: a :: t else a :: insertInt v t

/-- A list of numbers in rising order. -/
def sortInts : List Int → List Int
  | [] => []
  | a :: t => insertInt a (sortInts t)

/-- Median of a list of numbers; of an even count the mean of the two middle ones. -/
def median (l : List Int) : Rat :=
  let m := sortInts l
  let n := m.length
  if n = 0 then 0
  else if n % 2 = 1 then (m.getD (n / 2) 0 : Rat)
  else ((m.getD (n / 2 - 1) 0 : Rat) + (m.getD (n / 2) 0 : Rat)) / 2

end Sys2Proof.Machine
end

