-- ==== Sys2Proof/Machine/JournalOps.lean ====
section
/-!
DEFINITION. Items submitted to the journal controller (R449, Table 19.7), and the battery-domain shadow that takes them
while the journal window is closed (R204).
-/

namespace Sys2Proof.Machine

/-- Writers of Table 19.7. -/
def wrAp0 : Nat := 1
def wrAp1 : Nat := 2
def wrMp : Nat := 3
def wrHp : Nat := 4
def wrKc : Nat := 5

/-- Kinds of Table 19.7, numbered in its order. -/
def jkObject : Nat := 0
def jkContext : Nat := 1
def jkRegisterSet : Nat := 2
def jkCounter : Nat := 3
def jkEvent : Nat := 4
def jkBoundary : Nat := 5
def jkRecord : Nat := 6
def jkMark : Nat := 7
def jkShadow : Nat := 8

/-- Zeros up to a multiple of 8. -/
def padTo8 (l : List Byte) : List Byte := l ++ List.replicate ((8 - l.length % 8) % 8) 0

/-- An item in the layout of Table 19.7. -/
def itemBytes (writer kind key sub : Nat) (payload : List Byte) : List Byte :=
  beBytes 1 writer ++ beBytes 1 kind ++ beBytes 2 key ++ beBytes 2 payload.length ++ beBytes 2 sub ++ padTo8 payload

/-- The journal window is closed to writes (R203): before the dictionary is available nothing is judged. -/
def journalClosed (s : State) : Bool := (s.get Obj.journalWritesPermitted == 0 && 2 < s.get Obj.startUpStage) || s.is Reg.journalFull

/-- Entries that must survive every reset: lockout causes, contactor operation counts, billing boundary records (R204). -/
def mustSurvive (kind key sub : Nat) : Bool :=
  kind == jkCounter || kind == jkBoundary ||
  (kind == jkObject && (Obj.lockoutCause.instAt key).isSome && sub == Obj.lockoutCause.sub)

/-- The shadow takes no further entry (R204). -/
def shadowFull (s : State) : Bool := journalClosed s && 256 ≤ s.get Obj.batteryDomainShadowInUse

/-- An item submitted to the journal controller (R449); while the window is closed, what must survive goes to the shadow
(R204). -/
def submit (writer kind key sub : Nat) (payload : List Byte) (urgent : Bool) (s : State) : State :=
  let item := itemBytes writer kind key sub payload
  if journalClosed s ∧ mustSurvive kind key sub then
    (if shadowFull s then s
     else (s.setLog Reg.shadow (s.log Reg.shadow ++ [item])).set Obj.batteryDomainShadowInUse
       (s.get Obj.batteryDomainShadowInUse + 1))
  else
    let t := if (s.log Reg.journalItems).isEmpty then s.set Reg.journalItemsAt s.frame else s
    let t := t.setLog Reg.journalItems (t.log Reg.journalItems ++ [item])
    if urgent then t.set Reg.journalUrgent 1 else t

/-- The present value of an object of the module submitted. -/
def submitObject (writer kind : Nat) (o : Obj) (i j : Nat) (urgent : Bool) (s : State) : State :=
  submit writer kind (o.index i) (o.sub + o.subStep * j) (cellBytes s o i j) urgent s

end Sys2Proof.Machine
end

