-- ==== Sys2Proof/Machine/Memory.lean ====
section
/-!
DEFINITION. The addressed memories of the module: the shared pool and the code flash.
-/

namespace Sys2Proof.Machine

/-- Bytes of the pool written and read (R437). -/
def State.poolWrite (s : State) (a : Nat) (d : List Byte) : State :=
  let t := { s with pool := memWriteAll poolBlank a d s.pool }
  t.setSeq Reg.poisoned ((t.seq Reg.poisoned).filter fun x => !(a / 4 * 4 ≤ x.toNat && x.toNat < a + d.length))
def State.poolRead (s : State) (a n : Nat) : List Byte := memReadAll poolBlank a n s.pool

/-- Bytes of the code flash written and read; an erased stretch reads 0xFF. -/
def State.flashWrite (s : State) (a : Nat) (d : List Byte) : State := { s with flash := memWriteAll flashBlank a d s.flash }
def State.flashRead (s : State) (a n : Nat) : List Byte := memReadAll flashBlank a n s.flash

/-- Owner codes of the pool banks (Table 19.3). -/
def ownLe : Int := 6
def ownXd : Int := 8

/-- A bank handed over (R439, R440): the grant to XD ends. -/
def handBank (b : Nat) (code : Int) (s : State) : State :=
  ((s.set Obj.owner code b).set Obj.xdSecondaryAccess 0 b).inc Obj.handovers b

end Sys2Proof.Machine
end

