-- ==== Sys2Proof/Machine/LoopOps.lean ====
section
/-!
DEFINITION. Operations on loop slots that other functions use: presets, clears and holds (R119, R120), and which
slots serve which element (Table 5.1).
-/

namespace Sys2Proof.Machine

/-- Output current of a block, in mA and in A; the sum of its phases while its sense is substituted (R99). -/
def blockMa (s : State) (b : Nat) : Int :=
  if s.bit Obj.blockState 0 b then 20 * s.get Reg.phasesMeasured b else 100 * s.get Reg.tmOutCurrent b
def blockAmps (s : State) (b : Nat) : Rat := (blockMa s b : Rat) / 1000

/-- The phase duty slot of a phase, the block balance slot of a block, the outlet current and voltage limit slots of an
outlet, and its two cooling slots (Table 5.1). -/
def dutySlot (p : Nat) : Nat := p
def balanceSlot (b : Nat) : Nat := 256 + b
def outletSlot (n : Nat) : Nat := 320 + n
def voltageSlot (n : Nat) : Nat := 344 + n
def pumpSlot (n : Nat) : Nat := 368 + 2 * n
def valveSlot (n : Nat) : Nat := 369 + 2 * n

/-- The block that a phase duty or block balance slot serves. -/
def blockOfSlot (i : Nat) : Option Nat :=
  if i < 256 then some (i / 4) else if i < 320 then some (i - 256) else none

/-- A preset of a slot, taken at its next evaluation (R119). -/
def presetSlot (i : Nat) (v : Rat) (s : State) : State :=
  (s.set Reg.slotPresetDue 1 i).setReal Reg.slotPresetValue v i

/-- A slot is held with its integrator and residue cleared (R120). -/
def holdSlot (i : Nat) (s : State) : State :=
  (((s.set Reg.slotHeld 1 i).setReal Reg.slotReal 0 i 7).setReal Reg.slotReal 0 i 8).set Reg.slotFirst 1 i

/-- A held slot runs again. -/
def releaseSlot (i : Nat) (s : State) : State :=
  (s.set Reg.slotHeld 0 i).set Reg.slotFirst 1 i

/-- The slots of a block and its phases. -/
def slotsOfBlock (b : Nat) : List Nat := balanceSlot b :: (phasesOf b).map dutySlot

/-- The slots of a block held, or released. -/
def holdBlockSlots (b : Nat) (s : State) : State := s.forL (slotsOfBlock b) holdSlot
def releaseBlockSlots (b : Nat) (s : State) : State := s.forL (slotsOfBlock b) releaseSlot

/-- Descriptor of a capture push item (Table 12.10); the bank's bytes follow it when it is sent. -/
def captureDescriptor (s : State) (bank : Nat) : List Byte :=
  beBytes 8 (s.get Obj.captureStartFrame) ++ beBytes 2 (s.get Obj.samplesTaken) ++ beBytes 1 bank ++
  beBytes 1 (s.get Obj.captureState) ++ ((List.range 4).flatMap fun q => beBytes 4 (s.get Obj.captureSignal 0 q)) ++
  beBytes 2 (s.get Obj.triggerSlot) ++ [0, 0]

/-- The capture ends (R127, R128): LE hands the bank to XD, the bank is queued on the push channel, event 0x5445. `shown`
is what 0x5420:09 reads from now on: 2 pushing, 3 ended by the injection's end. -/
def endCapture (shown : Int) (s : State) : State :=
  if s.get Obj.captureState ≠ 1 then s
  else
    let bank := s.getN Reg.captureIn
    let ch := s.getN Obj.capturePushChannel
    let t := handBank bank ownXd ((s.set Obj.captureState shown).set Reg.captureBelongs 0)
    logEvent 0x5445 srcAp1 (data8 [bank] ++ beBytes 2 (t.get Obj.samplesTaken) ++ data8 [ch])
      (queueItem ch 1 (captureDescriptor t bank) t)

/-- The running injection ends with a cause (R126): a capture that belongs to it ends with it (R128). -/
def endInjection (cause : Int) (s : State) : State :=
  if s.get Obj.injectionState = 0 then s
  else
    let t := logEvent 0x5444 srcLe (data8 [cause]) (s.set Obj.injectionState 0)
    if t.is Reg.captureBelongs then endCapture 3 t else t

/-- The injection ends when its target serves the block named (R126). -/
def endInjectionOfBlock (b : Nat) (cause : Int) (s : State) : State :=
  if s.get Obj.injectionState = 1 ∧ blockOfSlot (s.getN Reg.injectionSlot) = some b then endInjection cause s else s

end Sys2Proof.Machine
end

