-- ==== Sys2Proof/Machine/Moves.lean ====
section
/-!
DEFINITION. The end of a migration, join or release, and a block's return to the allocator (R150, R151). The operations
that blocks and links need stand here; the sequence itself is in `Allocator`.
-/

namespace Sys2Proof.Machine

/-- A matrix contactor commanded (R147): every change counts, and an opening above 5 A counts as one under load. With a full
shadow no command that would need an entry is sent (R204). -/
def commandReach (b r : Nat) (on : Bool) (s : State) : State :=
  if s.bit Reg.contactorCommand r b = on ∨ shadowFull s then s
  else
    let t := (s.setBit Reg.contactorCommand r on b).inc Obj.contactorOperations b r
    let t := submitObject wrAp1 jkCounter Obj.contactorOperations b r false t
    let t := if t.get Obj.contactorOperations b r = t.get Obj.contactorRatedLife then logEvent 0x3337 srcAp1 (data8 [b, r]) t else t
    if ¬ on ∧ 5000 < |blockMa s b| then
      submitObject wrAp1 jkCounter Obj.contactorLoadOpenings b r false (t.inc Obj.contactorLoadOpenings b r)
    else t

/-- Every matrix contactor of a block commanded open. -/
def openReaches (b : Nat) (s : State) : State := s.forN 4 fun r u => commandReach b r false u

/-- A block is free again: its share and its outlet go. A withheld block stays withheld. -/
def freeBlock (b : Nat) (s : State) : State :=
  let t := if s.get Obj.allocState b = 7 then s else s.set Obj.allocState 0 b
  ((((t.set Obj.boundOutlet 255 b).set Obj.blockShare 0 b).setReal Reg.share 0 b).set Reg.blockReleased 0 b).set Reg.mvQueued 0 b

/-- The work on a block ends; for 2 s it takes part in no other (R149). -/
def endMove (b : Nat) (s : State) : State :=
  ((s.set Reg.mvKind 0 b).set Reg.mvStep 0 b).set Reg.mvDoneAt (s.now + 1) b

/-- The work on a block is abandoned: event 0x3335 with the cause of Table 6.4 (R151). The start of a block for a
pre-charge is no migration, join or release, and ends silently. -/
def abandonMove (b : Nat) (cause : Int) (s : State) : State :=
  let k := s.get Reg.mvKind b
  if k = 0 then s
  else if k = 4 then endMove b s
  else endMove b ((logEvent 0x3335 srcAp1 (data8 [b, k, cause]) s).inc Obj.migrationsAbandoned)

/-- The work on a block is complete: event 0x3334 with its kind and duration (R151). -/
def completeMove (b : Nat) (s : State) : State :=
  let k := s.get Reg.mvKind b
  endMove b ((logEvent 0x3334 srcAp1 (data8 [b, k] ++ data32 (s.frame - s.get Reg.mvM b)) s).inc Obj.migrationsCompleted)

/-- The allocator loses a block: its share goes, and what it takes part in is abandoned (R65, R70, R91, R151). -/
def withdrawBlock (b : Nat) (cause : Int) (s : State) : State :=
  let t := (abandonMove b cause s).set Reg.mvQueued 0 b
  ((t.set Obj.blockShare 0 b).setReal Reg.share 0 b).set Reg.blockEmpty 1 b

end Sys2Proof.Machine
end

