-- ==== Sys2Proof/Machine/Power.lean ====
section
/-!
DEFINITION. Blocks and phases: their states, starting and stopping, the output over-voltage latch, lockouts and the
withdrawal of a block (Converter phase control).
-/

namespace Sys2Proof.Machine

/-! ### States -/

/-- The effective rating of a block [0.1 A] (R68). -/
def ratingOf (s : State) (b : Nat) : Int := s.get Obj.blockCurrentRating b * ((usablePhases s b).length : Int) / 4

/-- The counts and the rating of a block follow its phases. -/
def refreshBlock (b : Nat) (s : State) : State :=
  ((s.set Obj.usablePhases (usablePhases s b).length b).set Obj.switchingPhases (activePhases s b).length b).set
    Obj.effectiveRating (ratingOf s b) b

/-- A block changes state; every change logs event 0x3220 (R69). Its return to OFF ends the substitution of its output
sense (R99). -/
def setBlock (b : Nat) (st : Int) (s : State) : State :=
  if blockSt s b = st then s
  else
    let low := s.get Obj.blockState b % 256
    let t := (s.set Obj.blockState (st * 256 + if st = bkOff then low - low % 2 else low) b).set Reg.blockSince s.frame b
    logEvent 0x3220 srcAp1 (data8 [b, st]) t

/-- The detection counters of a block restart when its active set changes (R101). -/
def touchActive (b : Nat) (s : State) : State :=
  let t := (s.set Reg.activeSetAt s.frame b).set Reg.mismatchCount 0 b
  t.forL (phasesOf b) fun p u => ((u.set Reg.openCount 0 p).set Reg.stuckCount 0 p).set Reg.rangeCount 0 p

/-- A phase changes state; its block's counts follow. -/
def setPhase (p : Nat) (st : Int) (s : State) : State :=
  let was := phaseSt s p
  if was = st then s
  else
    let t := refreshBlock (blockOf p) (s.set Obj.phaseState st p)
    if was = phActive ∨ st = phActive then touchActive (blockOf p) t else t

/-- Every phase of a block in one of the states listed goes to another state. -/
def movePhases (b : Nat) (src : List Int) (dst : Int) (s : State) : State :=
  s.forL (phasesOf b) fun p u => if src.contains (phaseSt u p) then setPhase p dst u else u

/-! ### Withdrawal and OUT -/

/-- A block goes OUT from any state but LATCHED (R70): its phases are sent OFF and the allocator reassigns its share. -/
def blockOut (b : Nat) (s : State) : State :=
  if blockSt s b = bkLatched ∨ blockSt s b = bkOut then s
  else
    let t := movePhases b [phActive, phShed] phOff (endInjectionOfBlock b 4 s)
    holdBlockSlots b (withdrawBlock b 7 (setBlock b bkOut ((t.setReal Reg.ramp 0 b).set Reg.startWaiting 0 b)))

/-- A block with fewer than 2 usable phases goes OUT. -/
def outIfShort (b : Nat) (s : State) : State := if (usablePhases s b).length < 2 then blockOut b s else s

/-- A block that is OUT becomes OFF when its link is up and rechecked, it has 2 usable phases and it holds no unresolved
phase fault (Table 4.2). -/
def recoverBlock (b : Nat) (s : State) : State :=
  if blockSt s b = bkOut ∧ linkUp s (b / 4) ∧ s.is Reg.linkRechecked (b / 4) ∧ 2 ≤ (usablePhases s b).length ∧
      ¬ s.bit Obj.blockState 1 b ∧ s.is Reg.blockPassed b then
    (setBlock b bkOff s).set Reg.blockEmpty 0 b
  else s

/-! ### Lockout -/

/-- A phase is locked out (R96): the cause is held through every reset, event 0x3822 is logged, the block is derated. -/
def lockPhase (p : Nat) (cause : Int) (s : State) : State :=
  let t := submitObject wrAp1 jkObject Obj.lockoutCause p 0 true (setPhase p phLocked (s.set Obj.lockoutCause cause p))
  outIfShort (blockOf p) (logEvent 0x3822 srcAp1 (data8 [p, cause]) t)

/-! ### Stopping -/

/-- A stop request to a block (R83, R89, R90). -/
def stopBlock (b : Nat) (s : State) : State :=
  let s := (s.set Reg.startHeld 0 b).set Reg.startWaiting 0 b
  let st := blockSt s b
  if st = bkTest ∨ st = bkStartDelay then holdBlockSlots b (setBlock b bkOff s)
  else if st = bkRampOn ∨ st = bkRunning then
    let t := movePhases b [phShed] phActive s
    setBlock b bkRampOff (endInjectionOfBlock b 4 t)
  else s

/-- Every block ramps down (R28, R37, R204). -/
def stopAllBlocks (s : State) : State := s.forN 64 stopBlock

/-- A block is sent OFF records at once, its ramp not waited for (R123, R91). -/
def dropBlock (b : Nat) (s : State) : State :=
  let s := (s.set Reg.startHeld 0 b).set Reg.startWaiting 0 b
  if blockSt s b = bkLatched ∨ blockSt s b = bkOut ∨ blockSt s b = bkOff then s
  else
    let t := movePhases b [phActive, phShed] phOff (endInjectionOfBlock b 4 s)
    holdBlockSlots b ((setBlock b bkOff t).setReal Reg.ramp 0 b)

/-- A block is withheld (R148): it stops, the reach opens, the allocator loses it. Its work ends with cause 3 when the
reach leads to the source, with cause 6 when it leads to the target (R151). -/
def withholdBlock (b r : Nat) (cause : Int) (s : State) : State :=
  let toSource := s.getN Reg.mvSource b = reachOutlet s b r
  let t := abandonMove b (if toSource then 3 else 6) (commandReach b r false (stopBlock b s))
  let t := ((freeBlock b t).set Obj.allocState 7 b).set Obj.withholdCause cause b
  logEvent 0x3336 srcAp1 (data8 [b, r, cause]) t

/-! ### Starting -/

/-- The block output voltage lies below 10 % of the input bus voltage (R83). -/
def outputDischarged (s : State) (b : Nat) : Bool := s.get Reg.tmOutVoltage b * 10 < s.get Reg.tmBusVoltage (b / 4)

/-- The cause that refuses a start, the conditions judged in the order of R83; 0 when only the discharge of the output
may be missing. -/
def startCause (s : State) (b : Nat) : Int :=
  if blockSt s b ≠ bkOff then 8
  else if s.is Reg.startRefused b then 9
  else if ¬ mayEnergiseBlock s b then 6
  else if ¬ linkUp s (b / 4) then 5
  else if (usablePhases s b).length < 2 then 4
  else if ¬ allReportedOpen s b then 7
  else if s.get Reg.tmBusVoltage (b / 4) < 2000 then 2
  else 0

/-- A start is refused: the cause is shown and event 0x3221 logged. -/
def refuseStart (b : Nat) (cause : Int) (s : State) : State :=
  let t := logEvent 0x3221 srcAp1 (data8 [b, cause]) ((s.set Obj.lastStartRefusalCause cause b).set Reg.startWaiting 0 b)
  if t.get Reg.mvKind b = 2 ∨ t.get Reg.mvKind b = 4 then freeBlock b (abandonMove b 8 t) else t

/-- TEST begins with the next frame S (R85). -/
def beginTest (b : Nat) (s : State) : State :=
  let t := (((s.set Reg.startWaiting 0 b).set Reg.startAt (s.frame + 1) b).set Reg.gateReadyBy 0 b).inc Obj.startCount b
  releaseBlockSlots b (setBlock b bkTest (t.forL (phasesOf b) fun p u => (u.set Reg.testOver 0 p).set Reg.testLargest 0 p))

/-- A start request to a block (R83, R90). -/
def startBlock (b : Nat) (s : State) : State :=
  let st := blockSt s b
  if st = bkRampOff then setBlock b bkRampOn s
  else if st = bkStopDelay then s.set Reg.startHeld 1 b
  else if bkTest ≤ st ∧ st ≤ bkRunning then s
  else if startCause s b ≠ 0 then refuseStart b (startCause s b) s
  else if outputDischarged s b then beginTest b s
  else if s.is Reg.startWaiting b then s
  else (s.set Reg.startWaiting 1 b).set Reg.startAt s.frame b

/-! ### The output over-voltage latch -/

/-- The coil channels of an outlet: DC+ and DC- (R155). -/
def coilPlus (n : Nat) : Nat := 2 * n
def coilMinus (n : Nat) : Nat := 2 * n + 1

/-- The outlet over-voltage latch is set (R91). `v` is the value that exceeded the level, in 0.01 V. -/
def setLatch (n : Nat) (v : Int) (s : State) : State :=
  let bound := boundBlocksOf s n
  let t := s.forL bound fun b u =>
    if blockSt u b = bkOut then u
    else
      let w := movePhases b [phOff, phActive, phShed] phLatched (endInjectionOfBlock b 5 u)
      holdBlockSlots b (((setBlock b bkLatched w).set Obj.latchingOutlet n b).setReal Reg.ramp 0 b)
  let t := t.set Reg.outletLatch 1 n
  let t := ((t.set Obj.lsCommand 0 (coilPlus n)).set Obj.lsState 0 (coilPlus n)).set Obj.lsCommand 0 (coilMinus n)
  let t := t.set Obj.lsState 0 (coilMinus n)
  let t := t.forN 64 fun b u =>
    if u.get Reg.mvKind b ≠ 0 ∧ u.get Reg.mvKind b ≠ 3 ∧ u.getN Reg.mvTarget b = n then
      (if bound.contains b then abandonMove b 4 u
       else if 3 ≤ u.get Reg.mvStep b ∨ u.get Reg.mvStep b = 2 then freeBlock b (abandonMove b 4 (dropBlock b u)) else u)
    else u
  logEvent 0x3222 srcAp1 (data8 [n] ++ beBytes 4 v ++ beBytes 8 ((bound.map fun b => 2 ^ b).sum : Nat)) t

/-- Clearing the latch of an outlet (R93): every block of it returns to OFF, or goes OUT by Table 4.2; their contactors
are the allocator's to open. -/
def clearLatch (n : Nat) (s : State) : State :=
  let t := s.forN 64 fun b u =>
    if blockSt u b = bkLatched ∧ u.getN Obj.latchingOutlet b = n then
      let w := ((movePhases b [phLatched] phOff u).set Obj.latchingOutlet 255 b).set Reg.blockReleased 1 b
      if (usablePhases w b).length < 2 ∨ ¬ linkUp w (b / 4) then holdBlockSlots b (withdrawBlock b 7 (setBlock b bkOut w))
      else setBlock b bkOff w
    else u
  logEvent 0x3223 srcAp1 (data8 [n]) (t.set Reg.outletLatch 0 n)

/-! ### Lost links -/

/-- A link changes state; every change logs event 0x3010 (R60). -/
def setLink (c : Nat) (st : Int) (s : State) : State :=
  if s.get Obj.linkState c = st then s
  else logEvent 0x3010 srcAp1 (data8 [c, st]) ((s.set Obj.linkState st c).set Reg.linkSince s.frame c)

/-- The cabinet's blocks are withdrawn and its loop slots held with cleared integrators (R65). -/
def withdrawCabinet (c : Nat) (s : State) : State :=
  let t := (s.set Reg.linkRechecked 0 c).set Reg.cabPassed 0 c
  t.forL (blocksOf c) fun b u => holdBlockSlots b (withdrawBlock b 7 (blockOut b u))

/-- A link is lost (R64, R65). -/
def loseLink (c : Nat) (cause : Int) (s : State) : State :=
  if s.get Obj.linkState c = lkLost then s
  else
    let t := withdrawCabinet c ((setLink c lkLost s).inc Obj.linkLostCount c)
    logEvent 0x3013 srcAp1 (data8 [c, cause]) t

/-- A link is refused with a cause (R59). -/
def refuseLink (c : Nat) (cause : Int) (s : State) : State :=
  let t := setLink c lkRefused ((s.set Obj.lastRefusalCause cause c).set Reg.cabPassed 0 c)
  logEvent 0x3014 srcAp1 (data8 [c, cause]) (t.forL (blocksOf c) fun b u => blockOut b u)

end Sys2Proof.Machine
end

