-- ==== Sys2Proof/Machine/Links.lean ====
section
/-!
DEFINITION. Cabinet links: telemetry, service channel, lanes in service, bring-up and link errors (Cabinet links).
Lanes are numbered U0, U1, D0, D1 as the objects 0x3002:03 to 0x3002:06 list them.
-/

namespace Sys2Proof.Machine

/-! ### Lanes -/

/-- The bit of a lane in 0x3002:02. -/
def laneBit (l : Nat) : Nat := if l < 2 then l + 2 else l - 2

/-- A lane is in service. -/
def laneIn (s : State) (c l : Nat) : Bool := s.bit Obj.lanesInService (laneBit l) c

/-- RUN with both data lanes of each direction in service, ONE_LANE with one direction on a single lane, LOST with a
direction without a lane (Table 3.12). -/
def settleLanes (c : Nat) (s : State) : State :=
  if ¬ linkUp s c then s
  else if ¬ laneIn s c 2 ∧ ¬ laneIn s c 3 then loseLink c 2 s
  else if ¬ laneIn s c 0 ∧ ¬ laneIn s c 1 then loseLink c 3 s
  else setLink c (if s.get Obj.lanesInService c = 15 then lkRun else lkOneLane) s

/-- A lane leaves service (R57, R64). -/
def laneOut (c l : Nat) (s : State) : State :=
  if laneIn s c l then
    let t := logEvent 0x3011 srcAp1 (data8 [c, l, s.get Obj.eyeFigure c l]) (s.setBit Obj.lanesInService (laneBit l) false c)
    settleLanes c ((t.set Reg.laneGoodScans 0 (4 * c + l)).set Reg.laneCrcGood 0 (4 * c + l))
  else s

/-- A lane returns to service (R57). -/
def laneBack (c l : Nat) (s : State) : State :=
  if laneIn s c l then s
  else settleLanes c (logEvent 0x3012 srcAp1 (data8 [c, l]) (s.setBit Obj.lanesInService (laneBit l) true c))

/-- An eye scan of a lane completes (R56, R57). -/
def eyeScan (c l ef : Nat) (s : State) : State :=
  let k := 4 * c + l
  let t := ((s.set Obj.eyeFigure ef c l).set Reg.laneScans (s.get Reg.laneScans k + 1) k).set Reg.laneLowScans
    (if ef < 64 then s.get Reg.laneLowScans k + 1 else 0) k
  let t := t.set Reg.laneGoodScans (if 96 ≤ ef then t.get Reg.laneGoodScans k + 1 else 0) k
  if 2 ≤ t.get Reg.laneLowScans k then laneOut c l t
  else if 10 ≤ t.get Reg.laneGoodScans k ∧ 5000 ≤ t.get Reg.laneCrcGood k then laneBack c l t
  else t

def execEyeScanComplete (link : Fin 16) (lane : Fin 4) (ef : Fin 256) (s : State) : Out :=
  s.run fun s =>
    let st := s.get Obj.linkState link
    if lkAlign ≤ st ∧ st ≤ lkOneLane then eyeScan link lane ef s else s

/-! ### Service channel -/

/-- Header of a service frame (Table 3.8). -/
def serviceHeader (c chan seq op status len off ack : Nat) : List Byte :=
  [0x13] ++ beBytes 1 (16 * c + chan) ++ beBytes 2 seq ++ beBytes 1 op ++ beBytes 1 status ++ beBytes 2 len ++
  beBytes 4 off ++ beBytes 2 ack ++ [0, 0]

/-- The down lane that carries service traffic: the first in service whose channel has not failed (R57, R64). -/
def serviceLane (s : State) (c : Nat) : Option Nat :=
  [0, 1].find? fun l => laneIn s c (l + 2) && s.get Reg.serviceFailed (2 * c + l) == 0

/-- A service frame launched on a lane. -/
def launchService (c l seq : Nat) (body : List Byte) (s : State) : State :=
  let k := 2 * c + l
  let reg := s.getN Reg.txLine k
  let (bits, v, n) := stuff (64 ≤ reg) (reg % 64) (lineFrame typeService seq c l 0 body)
  (s.set Reg.txLine ((if v then 64 else 0) + n) k).emit (.service c (bytesOfBits (bits.length / 8) bits))

/-- An acknowledgement in a frame with an empty payload (R54). -/
def sendAck (c l : Nat) (s : State) : State :=
  let k := 2 * c + l
  launchService c l (s.getN Reg.serviceTxSeq k)
    (serviceHeader c 3 (s.getN Reg.serviceTxSeq k) 4 0 0 0 (s.getN Reg.serviceRxSeq k)) s

/-- A request or data on a service channel. At most 8 frames stay unacknowledged; further ones wait. -/
def sendService (c chan op off : Nat) (payload : List Byte) (s : State) : State :=
  match serviceLane s c with
  | none => s.setLog Reg.serviceWaiting (s.log Reg.serviceWaiting c ++ [beBytes 1 chan ++ beBytes 1 op ++ beBytes 4 off ++ payload]) c
  | some l =>
    let k := 2 * c + l
    if (s.log Reg.serviceQueue k).length ≥ 8 then
      s.setLog Reg.serviceWaiting (s.log Reg.serviceWaiting c ++ [beBytes 1 chan ++ beBytes 1 op ++ beBytes 4 off ++ payload]) c
    else
      let seq := (s.getN Reg.serviceTxSeq k + 1) % 65536
      let body := serviceHeader c chan seq op 0 payload.length off (s.getN Reg.serviceRxSeq k) ++ payload
      let t := (s.set Reg.serviceTxSeq seq k).setLog Reg.serviceQueue (s.log Reg.serviceQueue k ++ [body]) k
      let t := if (s.log Reg.serviceQueue k).isEmpty then (t.set Reg.serviceProgressAt s.frame k).set Reg.serviceResendRun 0 k else t
      launchService c l seq body t

/-- Waiting payloads move up as places fall free; `n` bounds how many. -/
def pumpService (c : Nat) : Nat → State → State
  | 0, s => s
  | n + 1, s =>
    match s.log Reg.serviceWaiting c, serviceLane s c with
    | p :: rest, some l =>
      if (s.log Reg.serviceQueue (2 * c + l)).length < 8 then
        pumpService c n (sendService c (ofBytes (p.take 1)) (ofBytes ((p.drop 1).take 1)) (ofBytes ((p.drop 2).take 4))
          (p.drop 6) (s.setLog Reg.serviceWaiting rest c))
      else s
    | _, _ => s

/-- The sequence of a queued service frame. -/
def frameSeq (b : List Byte) : Nat := ofBytes ((b.drop 2).take 2)

/-- Data in 1024-byte writes at increasing offsets. -/
def sendInPieces (c chan off : Nat) (d : List Byte) (s : State) : State :=
  s.forL (List.range ((d.length + 1023) / 1024)) fun k u => sendService c chan 2 (off + 1024 * k) ((d.drop (1024 * k)).take 1024) u

/-- A service frame of the terminal, received good (R54). -/
def takeService (c l : Nat) (b : List Byte) (s : State) : State :=
  if ofBytes ((b.drop 1).take 1) / 16 ≠ c then s else
  let k := 2 * c + l
  let chan := ofBytes ((b.drop 1).take 1) % 16
  let seq := frameSeq b
  let op := ofBytes ((b.drop 4).take 1)
  let off := ofBytes ((b.drop 8).take 4)
  let ack := ofBytes ((b.drop 12).take 2)
  let payload := b.drop 16
  let q := s.log Reg.serviceQueue k
  let q' := q.filter fun f => ¬ ((ack + 65536 - frameSeq f) % 65536 < 32768)
  let t := if q'.length < q.length then
      ((s.setLog Reg.serviceQueue q' k).set Reg.serviceProgressAt s.frame k).set Reg.serviceResendRun 0 k else s
  let t := pumpService c 8 (t.set Reg.serviceTxAcked ack k)
  if op = 4 ∨ seq ≠ (t.getN Reg.serviceRxSeq k + 1) % 65536 then t
  else
    let t := sendAck c l (t.set Reg.serviceRxSeq seq k)
    if chan = 3 ∧ op = 3 ∧ off = 0 then t.setBytes Reg.identityData payload c
    else if chan = 2 ∧ op = 3 ∧ off = 0xFFFFFFF0 then t.set Reg.configCrc (ofBytes (payload.take 4) + 1) c
    else if chan = 1 ∧ op = 3 then
      queueItem (t.getN Obj.capturePushChannel) 6 (beBytes 1 c ++ [0, 0, 0] ++ beBytes 4 payload.length ++ payload) t
    else if chan = 0 ∧ op = 5 then t.set Reg.firmwareActivating 0 c
    else t

/-- A copy of a frame failed its CRC on an up lane: counted (R64). -/
def crcFailed (c l : Nat) (s : State) : State := (s.inc Obj.laneCrcFailures c l).set Reg.laneCopyFailed 1 (4 * c + l)

/-- The receiver of an up lane takes a stretch of line. -/
def receive (c l : Nat) (line : List Bool) (s : State) : Received × State :=
  let (rx, reg) := receiveLine c l (s.getN Reg.rxLine (4 * c + l)) line
  (rx, s.set Reg.rxLine reg (4 * c + l))

def execServiceFrame (link : Fin 16) (lane : Fin 2) (line : List Bool) (s : State) : Out :=
  s.run fun s =>
    match receive link lane line s with
    | (.good ty b, t) => if ty = typeService then takeService link lane b t else t
    | (_, t) => t

/-- After 8 resends of one frame the service channel of the lane has failed (R54, R64). -/
def failService (c l : Nat) (s : State) : State :=
  let k := 2 * c + l
  let left := s.log Reg.serviceQueue k
  let t := logEvent 0x3017 srcAp1 (data8 [c, l]) ((s.set Reg.serviceFailed 1 k).setLog Reg.serviceQueue [] k)
  let st := t.get Obj.linkState c
  if st = lkIdent ∨ st = lkConfig then refuseLink c 1 t
  else
    left.foldl (fun u b => sendService c (ofBytes ((b.drop 1).take 1) % 16) (ofBytes ((b.drop 4).take 1))
      (ofBytes ((b.drop 8).take 4)) (b.drop 16) u) t

def execServiceResendTimeout (link : Fin 16) (lane : Fin 2) (s : State) : Out :=
  s.run fun s =>
    let k := 2 * link.val + lane.val
    match s.log Reg.serviceQueue k with
    | [] => s
    | b :: rest =>
      if s.frame < s.getN Reg.serviceProgressAt k + 16 then s
      else if 8 ≤ s.get Reg.serviceResendRun k then failService link lane s
      else
        let t := ((s.set Reg.serviceResendRun (s.get Reg.serviceResendRun k + 1) k).set Reg.serviceProgressAt s.frame k).inc
          Obj.serviceResends link
        (b :: rest).foldl (fun u f => launchService link lane (frameSeq f) f u) t

/-! ### Telemetry -/

/-- A field of a frame: `n` bytes at an offset, unsigned and signed. -/
def fieldU (b : List Byte) (off n : Nat) : Int := (ofBytes ((b.drop off).take n) : Nat)
def fieldI (b : List Byte) (off n : Nat) : Int := ofBytesI ((b.drop off).take n)

/-- The telemetry frame answers the rules of R53 and R64: layout, link number, due frame. -/
def telemetryFits (s : State) (c : Nat) (b : List Byte) : Bool :=
  fieldU b 0 1 == 0x12 && fieldU b 1 1 / 16 == c && fieldU b 4 4 == (s.frame % 4294967296 : Nat)

/-- The values of a telemetry frame written into the input registers (Tables 3.6 and 3.7). -/
def storeTelemetry (c : Nat) (b : List Byte) (s : State) : State :=
  let t := (s.set Reg.tmState (fieldU b 1 1 % 16) c).set Reg.telemetrySeq (fieldU b 2 2) c
  let t := (t.set Reg.tmEcho (fieldU b 8 2) c).set Obj.eyeFigure (fieldU b 10 1) c 2
  let t := (t.set Obj.eyeFigure (fieldU b 11 1) c 3).set Reg.tmBusVoltage (fieldU b 16 2) c
  let t := t.set Reg.tmBusCurrent (fieldI b 18 2) c
  let t := t.forN 4 fun k u => u.set Reg.tmTemps (fieldI b (20 + k) 1) c k
  let t := t.forN 4 fun k u =>
    let o := 24 + 8 * k
    let bk := 4 * c + k
    (((u.set Reg.tmOutVoltage (fieldU b o 2) bk).set Reg.tmOutCurrent (fieldI b (o + 2) 2) bk).set Reg.tmContactors
      (fieldU b (o + 4) 1) bk).set Reg.tmBlockFlags (fieldU b (o + 5) 1) bk
  t.forN 16 fun i u =>
    let o := 56 + 12 * i
    let p := 16 * c + i
    let u := ((u.set Reg.tmCurrent (fieldI b o 2) p).set Reg.tmSwitchNode (fieldU b (o + 2) 2) p).set Reg.tmDvdtOn
      (fieldU b (o + 4) 1) p
    let u := ((u.set Reg.tmDvdtOff (fieldU b (o + 5) 1) p).set Reg.tmPhaseTemp (fieldI b (o + 6) 1) p).set Reg.tmStatus
      (fieldU b (o + 7) 1) p
    (u.set Reg.tmDuty (fieldU b (o + 8) 2) p).set Reg.tmFaultTime (fieldU b (o + 10) 2) p

/-- The terminal's dropped-command count: its rise is added to 0x3003:06 and logged at most once per second (R64). -/
def countDrops (c : Nat) (b : List Byte) (s : State) : State :=
  let now := fieldU b 12 2
  let rise := (now + 65536 - s.get Reg.dropsSeen c) % 65536
  let t := s.set Reg.dropsSeen now c
  if rise = 0 then t
  else logLimited 0x3016 srcAp1 c second (data8 [c] ++ data32 rise)
    (t.set Obj.commandsDroppedByTerminal ((t.get Obj.commandsDroppedByTerminal c + rise) % 4294967296) c)

/-- The down lanes' CRC failures. The frame gives their sum alone; how a rise divides between D0 and D1 is open, so
the part counted for D0 is a free value. -/
def countDownCrc (c : Nat) (b : List Byte) (s : State) : State :=
  let now := fieldU b 14 2
  let rise := (now + 65536 - s.get Reg.downCrcSeen c) % 65536
  let t := s.set Reg.downCrcSeen now c
  if rise = 0 then
    (t.set Reg.laneCrcGood (t.get Reg.laneCrcGood (4 * c + 2) + 1) (4 * c + 2)).set Reg.laneCrcGood
      (t.get Reg.laneCrcGood (4 * c + 3) + 1) (4 * c + 3)
  else
    let (f, u) := t.draw 1
    let d0 := f % (rise + 1)
    let u := u.set Obj.laneCrcFailures ((u.get Obj.laneCrcFailures c 2 + d0) % 4294967296) c 2
    let u := u.set Obj.laneCrcFailures ((u.get Obj.laneCrcFailures c 3 + (rise - d0)) % 4294967296) c 3
    (u.set Reg.laneCrcGood 0 (4 * c + 2)).set Reg.laneCrcGood 0 (4 * c + 3)

/-- The link enters RUN after 8 consecutive good telemetry frames that follow the first command frame of step 7 (R59);
its elements are due for the topology check. -/
def linkRun (c : Nat) (s : State) : State :=
  if s.get Obj.linkState c = lkConfig ∧ s.is Reg.linkCommanded c then
    let t := s.set Reg.linkGoodRun (s.get Reg.linkGoodRun c + 1) c
    if 8 ≤ t.get Reg.linkGoodRun c then
      ((setLink c (if t.get Obj.lanesInService c = 15 then lkRun else lkOneLane) t).set Reg.topologyDue 1).set
        Reg.linkMisses 0 c
    else t
  else s

/-- A good copy of the frame's telemetry is taken, unless one has been taken or the deadline has passed (R48, R28). -/
def takeTelemetry (c : Nat) (b : List Byte) (s : State) : State :=
  if s.is Reg.linkGood c ∨ s.is Reg.deadlinePassed ∨ ¬ telemetryFits s c b then s
  else linkRun c (countDownCrc c b (countDrops c b (storeTelemetry c b (s.set Reg.linkGood 1 c))))

def execTelemetryFrame (link : Fin 16) (lane : Fin 2) (line : List Bool) (s : State) : Out :=
  s.run fun s =>
    match receive link lane line s with
    | (.good ty b, t) => if ty = typeControl then takeTelemetry link b t else t
    | (.bad ty, t) => if ty = typeControl then crcFailed link lane t else t
    | (.nothing, t) => t

/-! ### Bring-up -/

/-- Step 1 of Table 3.11: the module drives the forwarded clock. -/
def bringUp (c : Nat) (s : State) : State :=
  let t := ((setLink c lkClock s).set Reg.linkBringUpAt s.now c).set Obj.lanesInService 15 c
  let t := ((t.set Reg.linkCommanded 0 c).set Reg.linkGoodRun 0 c).set Reg.linkSteps 1 c
  let t := ((t.setBytes Reg.identityData [] c).set Reg.configCrc 0 c).setLog Reg.serviceWaiting [] c
  let t := t.forL [2 * c, 2 * c + 1] fun k u =>
    (((((u.set Reg.serviceTxSeq 0 k).set Reg.serviceTxAcked 0 k).set Reg.serviceRxSeq 0 k).set Reg.serviceFailed 0 k).setLog
      Reg.serviceQueue [] k).set Reg.serviceResendRun 0 k
  t.forL [4 * c, 4 * c + 1, 4 * c + 2, 4 * c + 3] fun k u =>
    (((u.set Reg.laneScans 0 k).set Reg.laneLowScans 0 k).set Reg.laneGoodScans 0 k).set Reg.laneCrcRun 0 k

/-- The module may drive cabinet lanes (R40): SOLO or ACTIVE, or on a simplex backplane from stage 4 on. -/
def mayDriveLanes (s : State) : Bool :=
  isDriving s || (s.get Obj.backplane % 2 == 0 && 4 ≤ s.get Obj.startUpStage && s.get Obj.role == roIsolated)

/-- Bring-up begins: on declared links at step 5 of Table 1.9 or when the module becomes ACTIVE, and again at the retry
interval in DOWN and REFUSED; a HELD link goes on when it is declared (R16, R60). -/
def execLinkBringUp (link : Fin 16) (s : State) : Out :=
  s.run fun s =>
    let st := s.get Obj.linkState link
    let waited := s.get Reg.linkBringUpAt link + s.get Obj.bringUpRetryInterval link * second ≤ s.now
    if mayDriveLanes s ∧ ((st = lkDown ∧ (s.get Reg.linkSteps link = 0 ∨ waited)) ∨ (st = lkRefused ∧ waited)
        ∨ (st = lkHeld ∧ cabDeclared s link)) then bringUp link s else s

/-- The cabinet has an energised block. -/
def cabEnergised (s : State) (c : Nat) : Bool := (blocksOf c).any fun b => energised s b

def execRestartBringUp (r : Req) (link : Fin 16) (data : List Byte) (s : State) : Out :=
  s.run fun s => hostWrite r Obj.restartBringUp link 0 data (fun _ t =>
    if cabEnergised t link then .error 6
    else
      let st := t.get Obj.linkState link
      .ok (bringUp link (if st = lkRun ∨ st = lkOneLane ∨ st = lkLost then withdrawCabinet link t else t))) s

def execCkuDetected (link : Fin 16) (s : State) : Out :=
  s.run fun s =>
    let s := s.set Reg.ckuPresent 1 link
    if s.get Obj.linkState link = lkClock then (setLink link lkAlign s).set Reg.linkSteps 2 link else s

/-- Step 3: at least 12 scans, every lane at EF 96 or out of service, one lane in service in each direction. -/
def execAlignComplete (link : Fin 16) (s : State) : Out :=
  s.run fun s =>
    let ready := [0, 1, 2, 3].all fun l =>
      12 ≤ s.get Reg.laneScans (4 * link + l) && (96 ≤ s.get Obj.eyeFigure link l || !laneIn s link l)
    if s.get Obj.linkState link = lkAlign ∧ ready ∧ (laneIn s link 0 ∨ laneIn s link 1) ∧ (laneIn s link 2 ∨ laneIn s link 3)
    then (setLink link lkSync s).set Reg.linkSteps 3 link else s

/-- A training frame of the terminal (Table 3.10). In SYNC its answer of step 2 gives the one-way delay D of R58, above
1.50 us a refusal with cause 2; its step 3 confirms, and the identity is read over channel 3. -/
def takeTraining (c : Nat) (arrival : Nat) (b : List Byte) (s : State) : State :=
  if fieldU b 0 1 ≠ 0x14 ∨ fieldU b 1 1 / 16 ≠ c then s else
  let step := fieldU b 1 1 % 16
  let t := (s.set Obj.eyeFigure (fieldU b 4 1) c 2).set Obj.eyeFigure (fieldU b 5 1) c 3
  if t.get Obj.linkState c ≠ lkSync then t
  else if step = 2 then
    let d := ((arrival : Int) - t.get Reg.trainingT1 c - fieldU b 20 4) / 2
    let t := t.set Obj.oneWayDelayD d c
    if 9600 < d then refuseLink c 2 t else t
  else if step = 3 then
    sendService c 3 1 0 [] ((((setLink c lkIdent t).set Reg.linkSteps 4 c).set Reg.termSynced 1 c).set Reg.termNow t.frame c)
  else t

def execTrainingFrame (link : Fin 16) (lane : Fin 2) (arrival : Nat) (line : List Bool) (s : State) : Out :=
  s.run fun s =>
    match receive link lane line s with
    | (.good ty b, t) => if ty = typeTraining then takeTraining link arrival b t else t
    | (_, t) => t

/-- The identity record as objects 0x3004 (Table 3.9). -/
def storeIdentity (c : Nat) (b : List Byte) (s : State) : State :=
  let t := ((s.set Obj.idVersion (fieldU b 0 2) c).set Obj.idPhases (fieldU b 2 1) c).set Obj.idBlocks (fieldU b 3 1) c
  let t := ((t.set Obj.idContactors (fieldU b 4 1) c).set Obj.idSupplyMap (fieldU b 6 2) c).set Obj.idReadyTime (fieldU b 8 2) c
  let t := ((t.set Reg.phaseRating (fieldU b 10 2) c).set Reg.busRating (fieldU b 12 2) c).setBytes Obj.idMaker
    ((b.drop 16).take 16) c
  (t.setBytes Obj.idSerial ((b.drop 32).take 8) c).set Obj.idFirmware (fieldU b 40 4) c

/-- The identity equals the declaration (Table 1.5; the serial when one is declared). -/
def identityMatches (s : State) (c : Nat) : Bool :=
  s.get Obj.idVersion c == s.get Obj.declaredVersion c && s.get Obj.idPhases c == s.get Obj.declaredPhaseCount c &&
  s.get Obj.idBlocks c == s.get Obj.declaredBlockCount c && s.get Obj.idContactors c == s.get Obj.declaredContactorCount c &&
  (s.bytes Obj.declaredSerial c == List.replicate 8 0 || s.bytes Obj.idSerial c == s.bytes Obj.declaredSerial c)

/-- Step 5 of Table 3.11. An undeclared terminal is held and event 0x2032 logged (R10); a mismatch is refused with cause
3, a ready time above the lead plus 1.00 us with cause 5 (R55); else the configuration image is written (step 6). -/
def execIdentityRead (link : Fin 16) (s : State) : Out :=
  s.run fun s =>
    let b := s.bytes Reg.identityData link
    if s.get Obj.linkState link ≠ lkIdent ∨ b.length < 44 then s
    else
      let t := storeIdentity link b s
      if ¬ cabDeclared t link then
        logEvent 0x2032 srcAp1 (data8 [link.val] ++ b) (setLink link lkHeld t)
      else if ¬ identityMatches t link then refuseLink link 3 t
      else if t.get Obj.samplingLead + 400 < t.get Obj.idReadyTime link then refuseLink link 5 t
      else
        sendInPieces link 2 0 (t.bytes Obj.terminalConfigurationImage link) ((setLink link lkConfig t).set Reg.linkSteps 5 link)

/-- Step 6: the CRC-32 of the image applied is returned; unequal is refused with cause 4. Command frames begin (step 7). -/
def execConfigurationCrcReturned (link : Fin 16) (s : State) : Out :=
  s.run fun s =>
    let got := s.get Reg.configCrc link
    if s.get Obj.linkState link ≠ lkConfig ∨ got = 0 then s
    else
      let t := s.set Obj.appliedImageCRC (got - 1) link
      if got - 1 ≠ crc32 (t.bytes Obj.terminalConfigurationImage link) then refuseLink link 4 t
      else (t.set Reg.linkCommanded 1 link).set Reg.linkSteps 6 link

/-- Step 7 not reached within 4.0 s of step 1: a declared link is refused with cause 1, an undeclared one goes DOWN. -/
def execBringUpTimeout (link : Fin 16) (s : State) : Out :=
  s.run fun s =>
    let st := s.get Obj.linkState link
    if lkClock ≤ st ∧ st ≤ lkConfig ∧ s.getN Reg.linkBringUpAt link + 4 * second ≤ s.now then
      (if cabDeclared s link then refuseLink link 1 s else setLink link lkDown s)
    else s

/-! ### Link errors -/

/-- Consecutive missing telemetry or undispatched commands reach the stale limit (R28): the link is lost. -/
def execStaleLimitReached (link : Fin 16) (s : State) : Out :=
  s.run fun s =>
    if linkUp s link ∧ (s.get Obj.staleLimit ≤ s.get Reg.linkMisses link ∨ s.get Obj.staleLimit ≤ s.get Reg.linkDispatchMisses link)
    then loseLink link 1 (logLimited 0x2240 srcAp1 0 second (data8 [link.val]) s) else s

/-- A command frame was not dispatched by F0 + 12.0 us: it is not sent (R28). -/
def execDispatchDeadline (link : Fin 16) (s : State) : Out :=
  s.run fun s =>
    if linkUp s link ∧ s.getN Reg.dispatchedFrame link ≠ s.frame + 1 then
      logLimited 0x2242 srcLe 0 second (data8 [link.val])
        ((s.inc Obj.dispatchMisses).set Reg.linkDispatchMisses (s.get Reg.linkDispatchMisses link + 1) link)
    else s

/-- From the 50th frame of LOST on, mode SAFE_OFF with every contactor open is sent (R65). -/
def execLinkLostKeepAliveEnd (link : Fin 16) (s : State) : Out :=
  s.run fun s =>
    if s.get Obj.linkState link = lkLost ∧ s.getN Reg.linkSince link + 50 ≤ s.frame then
      (s.set Reg.contactorWord 0 link).forL (blocksOf link) fun b u =>
        if blockSt u b = bkLatched then u else freeBlock b (openReaches b u)
    else s

/-- After 500 frames of LOST bring-up restarts at ALIGN, or at CLOCK when CLn.CKU is absent or the terminal restarts
after a firmware activation (R65, R66). -/
def execLinkLostRetry (link : Fin 16) (s : State) : Out :=
  s.run fun s =>
    if s.get Obj.linkState link = lkLost ∧ s.getN Reg.linkSince link + 500 ≤ s.frame then
      let t := (bringUp link s).set Reg.firmwareActivating 0 link
      if s.is Reg.ckuPresent link ∧ ¬ s.is Reg.firmwareActivating link then setLink link lkAlign t else t
    else s

/-! ### Terminal firmware -/

/-- Firmware data go to the terminal on channel 0 at the offset set (R54). -/
def execFirmwareDataWrite (r : Req) (link : Fin 16) (data : List Byte) (s : State) : Out :=
  s.run fun s => hostWrite r Obj.firmwareData link 0 data (fun _ t =>
    .ok ((sendInPieces link 0 (t.getN Obj.firmwareWriteOffset link) data t).set Obj.firmwareWriteOffset
      ((t.get Obj.firmwareWriteOffset link + data.length) % 4294967296) link)) s

/-- Activation is a write of 1 to offset 0xFFFFFFF0 of channel 0; refused while a block of the cabinet is energised
(R66). -/
def execActivateTerminalFirmware (r : Req) (link : Fin 16) (data : List Byte) (s : State) : Out :=
  s.run fun s => hostWrite r Obj.activateTerminalFirmware link 0 data (fun _ t =>
    if cabEnergised t link then .error 6
    else .ok (sendService link 0 2 0xFFFFFFF0 [0, 0, 0, 1] (t.set Reg.firmwareActivating 1 link))) s

end Sys2Proof.Machine
end

