-- ==== Sys2Proof/Machine/LsOps.lean ====
section
/-!
DEFINITION. Load switch channels: commands, turn-on, turn-off and the retry window (Protected load switch channels).
Supply groups are numbered CG0 to CG3, DG0, DG1, LG0, LG1.
-/

namespace Sys2Proof.Machine

/-- Channel states (Table 15.2). -/
def lsOff : Int := 0
def lsInrushing : Int := 1
def lsOn : Int := 2
def lsThermalWait : Int := 3
def lsLatched : Int := 4
def lsSupplyOff : Int := 5
def lsShed : Int := 6

/-- Class of a channel (Table 15.1). -/
def isCoil (c : Nat) : Bool := c < 48
def isDrive (c : Nat) : Bool := 48 ≤ c && c < 64

/-- Supply group of a channel, and its rating in 0.1 A. -/
def groupOf (c : Nat) : Nat := if c < 48 then c / 12 else if c < 56 then 4 else if c < 64 then 5 else if c < 80 then 6 else 7
def groupRating (g : Nat) : Int := if g < 4 then 300 else if g < 6 then 500 else 200

/-- The channels of a group. -/
def channelsOf (g : Nat) : List Nat := (List.range 96).filter fun c => groupOf c == g

/-- Hard-short threshold and class rating [0.01 A] (Table 15.1). -/
def hardShort (c : Nat) : Int := byClass c 4000 5000 1200
def classRating (c : Nat) : Int := byClass c 600 1000 250

/-- The outlet of a coil channel. -/
def outletOfCoil (c : Nat) : Nat := c / 2

/-- The channel drives its output in INRUSH and ON. -/
def lsDriving (s : State) (c : Nat) : Bool := s.get Obj.lsState c == lsInrushing || s.get Obj.lsState c == lsOn

/-- The module drives channels in the roles SOLO and ACTIVE, while R393 allows; a coil channel only while R13 holds for its
outlet (R357). -/
def lsWanted (s : State) (c : Nat) : Bool :=
  s.get Obj.lsCommand c != 0 && isDriving s && mayEnable s && (!isCoil c || mayCloseOutlet s (outletOfCoil c))

/-- Another channel of the coil group is in INRUSH, or the group's turn-ons are held (R368, R370). -/
def coilBlocked (s : State) (c : Nat) : Bool :=
  isCoil c && (s.is Reg.groupHold (groupOf c) || (channelsOf (groupOf c)).any fun x => x != c && s.get Obj.lsState x == lsInrushing)

/-- The group supply of a channel is in range (R371). -/
def lsSupplied (s : State) (c : Nat) : Bool := s.get Reg.supplyOffCause c == 0

/-- Entry into INRUSH: a new window opens (R359). -/
def enterInrush (c : Nat) (s : State) : State :=
  let k := s.get Reg.lsRank + 1
  (((s.set Obj.lsState lsInrushing c).set Reg.lsSince s.now c).set Reg.lsEntered k c).set Reg.lsRank k

/-- A channel that may turn on does so, or waits its turn in its coil group. -/
def tryTurnOn (c : Nat) (s : State) : State :=
  if lsWanted s c ∧ lsSupplied s c ∧ ¬ coilBlocked s c then enterInrush c s else s.set Obj.lsState lsOff c

/-- The command of a channel changes (R356, R357, Table 15.2). -/
def commandChannel (c : Nat) (v : Int) (s : State) : State :=
  let was := s.get Obj.lsCommand c
  let t := s.set Obj.lsCommand v c
  let t := if was = 0 ∧ v ≠ 0 then
      (t.set Reg.lsRank (t.get Reg.lsRank + 1)).set Reg.lsWant (t.get Reg.lsRank + 1) c else t
  let st := t.get Obj.lsState c
  if v = 0 then
    (if st = lsInrushing ∨ st = lsOn ∨ st = lsThermalWait ∨ st = lsShed then t.set Obj.lsState lsOff c else t)
  else if st = lsOff then tryTurnOn c t
  else t

/-- An entry into LATCHED or SHED, with its cause: the event is logged (R358). -/
def latchChannel (c : Nat) (st cause : Int) (s : State) : State :=
  let t := ((s.set Obj.lsState st c).set Obj.lsCause cause c).inc Obj.lsLatches c
  logEvent 0x7010 srcAp1 (data8 [c, cause] ++ beBytes 2 (s.get Obj.lsCurrent c)) t

/-- The restarts of the last 60 s (R364). -/
def recentRetries (s : State) (c : Nat) : List Int :=
  (s.seq Reg.lsRetries c).filter fun t => (s.now : Int) < t + 60 * second

/-- Off by a supply fault (R371). -/
def supplyOff (c : Nat) (bit : Nat) (s : State) : State :=
  let t := s.set Reg.supplyOffCause (withBit (s.get Reg.supplyOffCause c) bit true) c
  if t.get Obj.lsState c = lsLatched ∨ t.get Obj.lsState c = lsShed then t else t.set Obj.lsState lsSupplyOff c

/-- A supply fault ends: each channel follows its command in force, with a new window (R372). -/
def supplyBack (c : Nat) (bit : Nat) (s : State) : State :=
  let t := s.set Reg.supplyOffCause (withBit (s.get Reg.supplyOffCause c) bit false) c
  if t.get Obj.lsState c = lsSupplyOff ∧ lsSupplied t c then tryTurnOn c t else t

/-- The coils of an outlet commanded together or one alone. -/
def commandCoils (n : Nat) (plus minus : Bool) (s : State) : State :=
  commandChannel (coilMinus n) (if minus then 10000 else 0) (commandChannel (coilPlus n) (if plus then 10000 else 0) s)

end Sys2Proof.Machine
end

