-- ==== Sys2Proof/Machine/SessionOps.lean ====
section
/-!
DEFINITION. Sessions: journal submissions, contexts, the outlet state machine, availability, and the stops
(Outlets, vehicles and sessions). The messages to a vehicle carry a code of the model's own list: 0 failure, 1 processing
ongoing, 2 SLAC, 3 SDP, 4 connection accepted, 5 connection refused, 6 protocol selected, 7 authorisation, 8 certificate,
9 cable check finished, 10 pre-charge, 11 power delivery, 12 charge loop, 13 session stop, 14 other. Their first value is
the notification of R179 and R180: 0 none, 1 stop, 2 emergency shutdown.
-/

namespace Sys2Proof.Machine

/-! ### Measurements at the outlet -/

/-- A metrology channel of the outlet is faulted: 0 voltage, 1 current (R228). -/
def dmFaulted (s : State) (n k : Nat) : Bool := s.bit Obj.dcStatus k n

/-- DMn voltage in mV; the mean of the bound blocks' output voltages while the channel is faulted (R229). -/
def outletMv (s : State) (n : Nat) : Int :=
  if dmFaulted s n 0 then
    let l := boundBlocksOf s n
    if l.isEmpty then 0 else (l.map fun b => s.get Reg.tmOutVoltage b * 50).sum / l.length
  else s.get Obj.dcVoltage n

/-- DMn current in mA; the sum of the bound blocks' output currents while the channel is faulted (R229). -/
def outletMa (s : State) (n : Nat) : Int :=
  if dmFaulted s n 1 then ((boundBlocksOf s n).map fun b => blockMa s b).sum
  else s.get Obj.dcCurrent n

/-- A measured magnitude below a level. -/
def belowMag (v level : Int) : Bool := -level < v && v < level

/-- DMn below 60 V, and DMn current below 5 A. -/
def outletDead (s : State) (n : Nat) : Bool := belowMag (outletMv s n) 60000
def outletQuiet (s : State) (n : Nat) : Bool := belowMag (outletMa s n) 5000

/-! ### Messages to the vehicle -/

/-- The notification that every response carries: a stop by the module, an emergency shutdown (R179, R180). -/
def noticeOf (s : State) (n : Nat) : Int :=
  let k := s.get Reg.stopKind n
  if 2 ≤ k then 2 else if k = 1 ∧ s.get Obj.lastEndCause n ≠ 1 then 1 else 0

/-- A response to the vehicle. -/
def respond (n code : Nat) (vals : List Int) (s : State) : State := s.emit (.vehicle n code (noticeOf s n :: vals))

/-! ### Contexts -/

/-- What the journal holds of a context. -/
def contextBytes (s : State) (c : Nat) : List Byte :=
  beBytes 1 (s.get Obj.ctxState c) ++ beBytes 4 (s.get Obj.ctxSerial c) ++ beBytes 1 (s.get Reg.ctxAuthorised c) ++
  beBytes 1 (s.get Obj.ctxIdentityKind c) ++ s.bytes Obj.ctxIdentity c

/-- The record store has room (R264). -/
def storeHasRoom (s : State) : Bool :=
  let live := ((List.range 250).filter fun c => cxPending ≤ s.get Obj.ctxState c && s.get Obj.ctxState c ≤ cxClosing).length
  (s.log Reg.recordStore).length + live < 4096

/-- Event 0x9018 when the store is found without room, once until it has room again (R264). -/
def noteRoom (s : State) : State :=
  if storeHasRoom s then endEpisode 0x9018 0 s else logEpisode 0x9018 srcKc 0 [] s

/-- A context changes state: event 0x6010, and an urgent item for the journal (R185, R449). -/
def setContext (c : Nat) (st : Int) (s : State) : State :=
  if s.get Obj.ctxState c = st then s
  else
    let t := s.set Obj.ctxState st c
    let t := submit wrAp0 jkContext c 0 (contextBytes t c) true t
    noteRoom (logEvent 0x6010 srcAp0 (data8 [c] ++ data32 (t.get Obj.ctxSerial c) ++ data8 [st]) t)

/-- A context leaves FREE with the next serial (R186). -/
def takeSerial (c : Nat) (s : State) : State :=
  let k := s.get Reg.lastSerial + 1
  let t := (s.set Reg.lastSerial k).set Obj.ctxSerial k c
  let t := (t.set Reg.ctxRank (t.get Reg.ctxRank + 1)).set Reg.ctxCreated (t.get Reg.ctxRank + 1) c
  (t.set Reg.ctxAuthorised 0 c).set Obj.ctxEndCause 0 c

/-- A serial is left (R186). -/
def serialLeft (s : State) : Bool := s.get Reg.lastSerial < 0xFFFFFFFF

/-- A context returns to FREE without a record: event 0x6011 with the reason (R186). -/
def dropContext (c : Nat) (reason : Int) (s : State) : State :=
  let t := logEvent 0x6011 srcAp0 (data32 (s.get Obj.ctxSerial c) ++ data8 [reason]) s
  let t := setContext c cxFree t
  (((t.set Obj.ctxSerial 0 c).set Obj.ctxAuthorisation 0 c).set Reg.ctxAuthorised 0 c).set Obj.regSetOutlet 255 c

/-- The 80-bit register whose 112-bit sum is `v`, as bytes (R224). -/
def reg80 (v : Int) : List Byte := beBytes 10 (v / 2 ^ 32)

/-- What the journal holds of a context's register set. -/
def regSetBytes (s : State) (c : Nat) : List Byte :=
  beBytes 1 (s.get Obj.regSetOutlet c) ++ beBytes 1 (s.get Obj.regSetFlags c) ++ beBytes 1 (s.get Reg.ctxOpen c) ++
  beBytes 1 (s.get Reg.qualityStart c) ++ beBytes 8 (s.get Obj.startTime c) ++ beBytes 8 (s.get Obj.stopTime c) ++
  ((List.range 3).flatMap fun j => fitBytes 10 (s.bytes Obj.startReg c j)) ++
  (List.range 3).flatMap fun j => fitBytes 10 (s.bytes Obj.stopReg c j)

/-- The start values of the context's register set (R227). -/
def takeStart (c n : Nat) (s : State) : State :=
  let t := s.forN 3 fun j u => u.setBytes Obj.startReg (reg80 (u.get Reg.dmSum n j)) c j
  let t := (t.set Obj.startTime t.time c).set Obj.regSetOutlet n c
  let fl : Int := (if t.is Obj.sealOpen || t.bit Obj.regSetFlags 0 c then 1 else 0) + (if dmFaulted t n 0 || dmFaulted t n 1 then 2 else 0)
  let t := (t.set Obj.regSetFlags fl c).set Reg.qualityStart (t.get Obj.timeQuality) c
  let t := t.forN 8 fun j u => u.set Reg.sessionSlot 0 c j
  let t := (t.set Reg.ctxOpen 1 c).set Obj.ctxStartTime t.time c
  submit wrMp jkRegisterSet c 0 (regSetBytes t c) false t

/-- The stop values of the context's register set (R227). Export of more than 1 Wh within the session sets flag [4]. -/
def takeStop (c n : Nat) (s : State) : State :=
  if s.get Reg.ctxOpen c = 0 then s
  else
    let t := s.forN 3 fun j u => u.setBytes Obj.stopReg (reg80 (u.get Reg.dmSum n j)) c j
    let t := ((t.set Obj.stopTime t.time c).set Reg.qualityStop (t.get Obj.timeQuality) c).set Reg.ctxOpen 0 c
    let moved : Int := ofBytes (t.bytes Obj.stopReg c 1) - ofBytes (t.bytes Obj.startReg c 1)
    let t := if 1000 * 65536 < moved then t.setBit Obj.regSetFlags 4 true c else t
    submit wrMp jkRegisterSet c 0 (regSetBytes t c) false t

/-- A session whose contactors never closed takes start values equal to stop values (R227). -/
def takeBoth (c n : Nat) (s : State) : State :=
  if s.bytes Obj.startReg c 0 = s.bytes Obj.stopReg c 0 ∧ s.get Obj.stopTime c ≠ 0 ∧ s.getN Obj.regSetOutlet c = n then s
  else if s.get Reg.ctxOpen c = 1 ∨ (s.getN Obj.regSetOutlet c = n ∧ s.get Obj.stopTime c ≠ 0) then s
  else takeStop c n (takeStart c n s)

/-- The context's session ends: CLOSING with a record when it reached AUTHORISED, FREE without one otherwise (R186). -/
def endContext (n : Nat) (s : State) : State :=
  match contextOf s n with
  | none => s
  | some c =>
    let st := s.get Obj.ctxState c
    if st ≠ cxBound ∧ st ≠ cxDelivering then s
    else if s.is Reg.ctxAuthorised c then setContext c cxClosing s
    else dropContext c 3 (s.set Obj.boundContext 255 n)

/-! ### The outlet -/

/-- The causes of R170 that stop an outlet, as bits. -/
def availabilityCauses (s : State) (n : Nat) : Nat :=
  let bit (k : Nat) (c : Bool) : Nat := if c then 2 ^ k else 0
  bit 0 (!outletDeclared s n) + bit 1 (!(s.is Reg.outletPassed n) || s.bit Obj.refusedOutlets n) +
  bit 2 (s.is Obj.outOfService n || s.bit Obj.outputFaults (coilGroup n)) + bit 3 (s.is Reg.outletLatch n) + bit 4 (2 ≤ s.get Obj.weldResult n) +
  bit 5 (s.is Obj.weldOutstanding n) + bit 6 (s.get Reg.contactorFault n != 0) +
  bit 7 (!((List.range 250).any fun c => s.get Obj.ctxState c == cxFree) || !storeHasRoom s) +
  bit 8 (s.get Obj.timeQuality == 0) + bit 9 (s.get Obj.lifeCycleState != lcField) + bit 10 (s.get Obj.startUpStage < 6)

/-- The pilot output of an outlet (Table 7.4, R156): 5 % PWM while communication is required, else a constant level;
MCS mode drives no PWM. The duty of a constant +12 V is shown as 1000, of a constant -12 V as 0. -/
def drivePilot (n : Nat) (s : State) : State :=
  let st := s.get Obj.outletState n
  let idle := st = 0 ∨ st = 9
  let off := st = 0 ∧ s.get Obj.available n = 0
  let t := s.set Obj.pilotDutyApplied (if off ∨ s.get Obj.outletMode n = 1 then 0 else if idle then 1000 else 50) n
  if off then t.set Obj.pilotState 5 n else if t.get Obj.pilotState n = 5 then t.set Obj.pilotState 0 n else t

/-- Availability of an outlet recomputed; a change logs event 0x4011 (R170). -/
def refreshAvail (n : Nat) (s : State) : State :=
  let c : Int := (availabilityCauses s n : Nat)
  if s.get Obj.unavailCauses n = c then s
  else
    let t := (s.set Obj.unavailCauses c n).setB Obj.available (c = 0) n
    drivePilot n (logEvent 0x4011 srcAp0 (data8 [n] ++ beBytes 2 c) t)

/-- Availability of every outlet. -/
def refreshAll (s : State) : State := s.forN 24 refreshAvail

/-- An outlet changes state: event 0x4010 (R171). -/
def setOutlet (n : Nat) (st : Int) (s : State) : State :=
  if s.get Obj.outletState n = st then s
  else
    let t := ((s.set Obj.outletState st n).set Reg.outletSince s.now n).set Reg.outletSinceFrame s.frame n
    drivePilot n (logEvent 0x4010 srcAp0 (data8 [n, st, s.get Obj.lastEndCause n]) t)

/-- The supply-dip window is open (R184). -/
def dipOpen (s : State) : Bool := s.get Obj.quicksandWindow != 0

/-- Milliseconds and seconds an outlet has been in its state. -/
def outletAge (s : State) (n : Nat) : Nat := s.now - s.getN Reg.outletSince n

/-- The present pre-charge voltage of an outlet's ramp [0.01 V] (R174, R176). -/
def rampVoltage (s : State) (n : Nat) : Int :=
  let total := s.get Reg.rampFrames n
  let gone := (s.frame : Int) - s.get Reg.rampStart n
  if total ≤ gone ∨ total = 0 then s.get Reg.rampTo n
  else s.get Reg.rampFrom n + (s.get Reg.rampTo n - s.get Reg.rampFrom n) * (max 0 gone) / total

/-- The pre-charge voltage of an outlet's bound blocks set for the frame in progress; held in the supply-dip window. -/
def applyRamp (n : Nat) (s : State) : State :=
  if s.get Reg.pausedAt n ≠ 0 then s else s.forL (boundBlocksOf s n) fun b u => u.set Reg.preVoltage (rampVoltage s n) b

/-- A new ramp of the pre-charge voltage from its present value. -/
def startRamp (n : Nat) (dest frames : Int) (s : State) : State :=
  applyRamp n ((((s.set Reg.rampFrom (rampVoltage s n) n).set Reg.rampTo dest n).set Reg.rampStart s.frame n).set Reg.rampFrames frames n)

/-- The pre-charge voltage set at once. -/
def setRamp (n : Nat) (v : Int) (s : State) : State :=
  applyRamp n (((s.set Reg.rampFrom v n).set Reg.rampTo v n).set Reg.rampFrames 0 n)

/-- The coils of an outlet commanded, with the instant kept for the feedback check of R160. -/
def commandContactors (n : Nat) (plus minus : Bool) (s : State) : State :=
  commandCoils n plus minus (s.set Reg.coilsAt s.now n)

/-- A contactor of the outlet is commanded closed. -/
def plusCommanded (s : State) (n : Nat) : Bool := s.get Obj.lsCommand (coilPlus n) != 0
def minusCommanded (s : State) (n : Nat) : Bool := s.get Obj.lsCommand (coilMinus n) != 0

/-- The blocks bound to the outlet are released to the allocator: they stop, and their reaches open by R146 (R179).
A block migrating out goes on (R152). -/
def releaseBlocks (n : Nat) (s : State) : State :=
  s.forN 64 fun b u =>
    if u.get Reg.mvKind b = 1 ∧ u.getN Reg.mvSource b = n ∧ u.get Reg.mvStep b = 1 then u
    else if boundTo u b n ∨ (u.getN Obj.boundOutlet b = n ∧ u.get Obj.allocState b ≠ 0) then
    (stopBlock b u).set Reg.blockReleased 1 b else u

/-- The session's communication is closed: connection, SLAC run and modem (R162, R179). -/
def closeLink (n : Nat) (s : State) : State :=
  (((s.set Reg.tcpOpen 0 n).set Reg.slacRun 0 n).set Reg.vehicleKnown 0 n).set Reg.certificateAt 0 n

/-- The outlet enters CLOSING. -/
def toClosing (n : Nat) (s : State) : State :=
  let t := endContext n s
  let t := match contextOf t n with
    | some c => takeBoth c n t
    | none => t
  let t := ((t.set Reg.weldHalf 0 n).set Reg.weldWaiting 0 n).set Reg.weldSkip 0 n
  closeLink n (setOutlet n 9 ((t.set Reg.stopForced 0 n).set Reg.stopStep 7 n))

/-- The recorded end cause (R183): the first; within its frame an E or H cause before an N cause, then the lowest code;
none after RAMP_DOWN. `kind` is 1 N, 2 E, 3 H. -/
def recordCause (n : Nat) (kind cause : Int) (s : State) : State :=
  let rank := (if kind = 1 then 100 else 0) + cause
  let put (t : State) : State :=
    let u := ((t.set Obj.lastEndCause cause n).set Reg.causeFrame t.frame n).set Reg.causeRank rank n
    match contextOf u n with
    | some c => u.set Obj.ctxEndCause cause c
    | none => u
  if s.get Reg.stopKind n = 0 then (if s.get Obj.outletState n < 8 then put s else s)
  else if s.getN Reg.causeFrame n = s.frame ∧ rank < s.get Reg.causeRank n then put s
  else s

/-- Before CABLE_CHECK, and in it before its contactors close, a fault takes the outlet to CLOSING (R175, R182). -/
def closeEarly (n : Nat) (kind cause : Int) (s : State) : State :=
  let t := (recordCause n kind cause s).set Reg.stopKind kind n
  toClosing n (releaseBlocks n (t.set Reg.stopFrame t.frame n))

/-- Step 3 of Table 7.8: WELD_CHECK, the bound blocks at 0 V in set B. -/
def toWeldCheck (n : Nat) (s : State) : State :=
  let t := endContext n s
  let t := t.forL (boundBlocksOf t n) fun b u => u.set Reg.setNext 1 b
  setOutlet n 8 (setRamp n 0 ((t.set Reg.stopStep 3 n).set Reg.stopAt t.now n))

/-- A normal stop begins (R179). In CABLE_CHECK and PRECHARGE, where nothing is delivered, it goes to WELD_CHECK at once
(Table 7.4). -/
def normalStop (n : Nat) (cause : Int) (s : State) : State :=
  let st := s.get Obj.outletState n
  if st = 0 ∨ 8 ≤ st then s
  else if st < 4 ∨ (st = 4 ∧ s.get Reg.checkStep n < 3) then closeEarly n 1 cause s
  else if s.get Reg.stopKind n ≠ 0 then recordCause n 1 cause s
  else
    let t := ((recordCause n 1 cause s).set Reg.stopKind 1 n).set Reg.stopFrame s.frame n
    let t := (t.setB Reg.vehicleStopped (cause = 1 ∨ cause = 11) n).set Reg.stopStep 1 n
    if st = 6 then endContext n (setOutlet n 7 (t.set Reg.stopAt t.now n))
    else toWeldCheck n (t.set Reg.stopAt t.now n)

/-- The outlet contactors are commanded open, and the stop values taken (R179, R180, R227). An opening above 5 A, or one
that counts as such, is an opening under load. -/
def openContactors (n : Nat) (forced : Bool) (s : State) : State :=
  if ¬ plusCommanded s n ∧ ¬ minusCommanded s n then s
  else
    let t := if forced ∨ ¬ outletQuiet s n then
        logEvent 0x4017 srcAp0 (data8 [n] ++ data32 (outletMa s n))
          (s.set Reg.outletLoadOpenings (s.get Reg.outletLoadOpenings n + 1) n)
      else s
    let t := match contextOf t n with
      | some c => takeStop c n t
      | none => t
    commandContactors n false false ((t.set Reg.stopStep 5 n).set Reg.stopAt t.now n)

/-- An emergency stop (R180). Its contactors open when the current has been low for 3 frames, or after the delay. -/
def emergencyStop (n : Nat) (cause : Int) (s : State) : State :=
  let st := s.get Obj.outletState n
  if st = 0 ∨ st = 9 then s
  else if st < 4 ∨ (st = 4 ∧ s.get Reg.checkStep n < 3) then closeEarly n 2 cause s
  else if 2 ≤ s.get Reg.stopKind n then recordCause n 2 cause s
  else
    let t := ((recordCause n 2 cause s).set Reg.stopKind 2 n).set Reg.stopFrame s.frame n
    let t := endContext n (t.set Reg.stopAt t.now n)
    let t := t.forL (boundBlocksOf t n) stopBlock
    let t := if st = 6 then setOutlet n 7 t else if st < 6 then setOutlet n 8 t else t
    if 3 ≤ t.get Reg.lowCurrentRun n then setOutlet n 8 (openContactors n false t) else t

/-- A hardware drop: the coils have already fallen, the contactors are taken as open (R182). -/
def hardwareStop (n : Nat) (cause : Int) (s : State) : State :=
  let st := s.get Obj.outletState n
  if st = 0 ∨ st = 9 then s
  else if st < 4 ∨ (st = 4 ∧ s.get Reg.checkStep n < 3) then closeEarly n 3 cause s
  else
    let t := ((recordCause n 3 cause s).set Reg.stopKind 3 n).set Reg.stopFrame s.frame n
    let t := endContext n (t.set Reg.stopAt t.now n)
    let t := t.forL (boundBlocksOf t n) stopBlock
    let t := if st = 6 then setOutlet n 7 t else t
    let t := if ¬ outletQuiet t n then
        logEvent 0x4017 srcAp0 (data8 [n] ++ data32 (outletMa t n))
          (t.set Reg.outletLoadOpenings (t.get Reg.outletLoadOpenings n + 1) n)
      else t
    let t := match contextOf t n with
      | some c => takeStop c n t
      | none => t
    setOutlet n 8 (commandContactors n false false ((t.set Reg.stopStep 5 n).set Reg.stopAt t.now n))

/-- The weld check is left outstanding, its test not run in this session (R179, R181). -/
def weldLeft (n : Nat) (s : State) : State :=
  refreshAvail n ((s.set Obj.weldOutstanding 1 n).set Reg.weldSkip 1 n)

/-- Reactions of Table 7.9. -/
inductive Reaction where
  | go | normal | emergency | hardware | openAtOnce | weldOutstanding
deriving DecidableEq, Repr

/-- The row of Table 7.9 for an end cause, at an outlet state from CABLE_CHECK on. `marked` tells an emergency error code
of the vehicle. -/
def reactionOf (cause st : Int) (marked : Bool) : Reaction :=
  if cause = 12 ∨ cause = 16 then .hardware
  else if 7 ≤ st then (if cause = 3 then .openAtOnce else if cause = 14 then .weldOutstanding else .go)
  else if cause = 15 ∨ cause = 21 then .normal
  else if st = 6 ∧ (cause = 11 ∨ (cause = 19 ∧ !marked)) then .normal
  else .emergency

/-- The kind of a fault for R183. -/
def kindOf (r : Reaction) : Int :=
  match r with
  | .normal => 1
  | .hardware => 3
  | _ => 2

/-- A fault at an outlet (R182, R183). One that arises in the frame in which a normal stop began is judged with the state
before it. -/
def outletFault (n : Nat) (cause : Int) (marked : Bool) (s : State) : State :=
  let st0 := s.get Obj.outletState n
  let st := if 7 ≤ st0 ∧ st0 < 9 ∧ s.get Reg.stopKind n = 1 ∧ s.getN Reg.stopFrame n = s.frame then (if st0 = 7 then 6 else 5) else st0
  if st = 0 ∨ st = 9 then s
  else if st < 4 then closeEarly n (kindOf (reactionOf cause 4 marked)) cause s
  else
    match reactionOf cause st marked with
    | .go => recordCause n 2 cause s
    | .normal => normalStop n cause s
    | .emergency => emergencyStop n cause s
    | .hardware => hardwareStop n cause s
    | .openAtOnce => setOutlet n 8 (openContactors n false (weldLeft n (recordCause n 2 cause s)))
    | .weldOutstanding => weldLeft n (recordCause n 2 cause s)

/-- The outlet leaves CLOSING for IDLE when the pilot reads A and the proximity reads withdrawn (Table 7.4); what a
channel fault left due takes it out of service (R229). -/
def tryIdle (n : Nat) (s : State) : State :=
  if s.get Obj.outletState n = 9 ∧ s.get Obj.pilotState n = 0 ∧ s.get Reg.proximityState n = 1 then
    let t := (s.set Obj.boundContext 255 n).set Obj.protocolInUse 0 n
    let t := if t.is Reg.serviceDue n then (t.set Obj.outOfService 1 n).set Reg.serviceDue 0 n else t
    let t := (t.set Reg.stopKind 0 n).set Reg.stopStep 0 n
    setOutlet n 0 (refreshAvail n t)
  else s

/-- The outlet leaves IDLE for CONNECTED when it is available, the pilot reads B or C and the proximity reads inserted. -/
def tryConnect (n : Nat) (s : State) : State :=
  let p := s.get Obj.pilotState n
  if s.get Obj.outletState n = 0 ∧ s.is Obj.available n ∧ 1 ≤ p ∧ p ≤ 3 ∧ s.get Reg.proximityState n = 0 then
    let t := ((s.set Reg.stopKind 0 n).set Obj.lastEndCause 0 n).set Reg.vehicleKnown 0 n
    setOutlet n 1 ((t.set Reg.imdWarned 0 n).set Reg.checkStep 0 n)
  else s

/-- V_cc of the cable check [0.01 V] (R174). -/
def cableVoltage (s : State) (n : Nat) : Int := min (s.get Obj.evMaximumVoltage n) (s.get Obj.outletRatedVoltage n)

/-- `v` lies within a percentage of a target. -/
def within (v target percent : Int) : Bool := 100 * (v - target) ≤ percent * target && 100 * (target - v) ≤ percent * target

/-- A counter of consecutive frames. -/
def runOf (c : Bool) (v : Int) : Int := if c then v + 1 else 0

/-- What is counted for an outlet in every frame: the consecutive frames of R176, R177, R179 and R181, and the ramp of
the pre-charge voltage. The block output counts as at the test voltage within 2 %. -/
def outletFrame (n : Nat) (s : State) : State :=
  let st := s.get Obj.outletState n
  let v := outletMv s n
  let i := outletMa s n
  let t := s.set Reg.lowCurrentRun (runOf (belowMag i 5000) (s.get Reg.lowCurrentRun n)) n
  let t := t.set Reg.preCurrentRun (runOf (st == 5 && !belowMag i (s.get Obj.preChargeCurrentLimit n * 100 + 1))
    (s.get Reg.preCurrentRun n)) n
  let t := t.set Reg.preChargeRun (runOf (st == 5 && s.get Reg.preTarget n != 0 && within v (10 * s.get Reg.preTarget n) 2)
    (s.get Reg.preChargeRun n)) n
  let t := t.set Reg.evOverRun (runOf (st == 6 && 1020 * s.get Obj.evMaximumVoltage n < 100 * v) (s.get Reg.evOverRun n)) n
  let t := if st = 4 ∧ 3 ≤ s.get Reg.checkStep n ∧ s.get Reg.checkReadAt n = 0 ∧ within v (10 * cableVoltage s n) 5 then
      t.set Reg.checkReadAt (t.now + 1) n else t
  let t := if s.get Reg.weldHalf n ≠ 0 then
      let u := s.get Obj.weldTestVoltage n
      if (boundBlocksOf s n).any fun b => within (s.get Reg.tmOutVoltage b) (2 * u) 2 then
        (t.set Reg.weldRun (t.get Reg.weldRun n + 1) n).setB Reg.weldHigh (s.is Reg.weldHigh n || !belowMag v (50 * u)) n
      else t
    else t
  applyRamp n t

end Sys2Proof.Machine
end

