-- ==== Sys2Proof/Machine/Outlets.lean ====
section
/-!
DEFINITION. The outlet ports: signals, vehicle communication, authorisation, cable check, pre-charge, delivery and
stops (Outlets, vehicles and sessions).
-/

namespace Sys2Proof.Machine

/-! ### Signals -/

/-- Class of a positive pilot level [0.01 V] (Table 7.2). -/
def pilotClass (v : Int) : Int :=
  if 1100 ≤ v ∧ v ≤ 1300 then 0 else if 800 ≤ v ∧ v ≤ 1000 then 1 else if 500 ≤ v ∧ v ≤ 700 then 2
  else if 200 ≤ v ∧ v ≤ 400 then 3 else if -100 ≤ v ∧ v ≤ 100 then 4 else 6

/-- The class in the port's mode: MCS mode does not know state D. -/
def pilotClassIn (s : State) (n : Nat) (v : Int) : Int :=
  if s.get Obj.outletMode n = 1 ∧ pilotClass v = 3 then 6 else pilotClass v

/-- The last three readings of a list, newest last, agree under a classification. -/
def threeAgree {α : Type} [DecidableEq α] (l : List α) : Option α :=
  match l.reverse with
  | a :: b :: c :: _ => if a = b ∧ b = c then some a else none
  | _ => none

/-- The PWM runs in CCS mode from CONNECTED to WELD_CHECK. -/
def pwmRuns (s : State) (n : Nat) : Bool :=
  s.get Obj.outletMode n == 0 && 1 ≤ s.get Obj.outletState n && s.get Obj.outletState n ≤ 8

/-- A pilot fault: event 0x4019, end cause 4. -/
def pilotFault (n : Nat) (s : State) : State :=
  outletFault n 4 false (logEvent 0x4019 srcAp0
    (data8 [n] ++ beBytes 2 (s.get Obj.pilotPositive n) ++ beBytes 2 (s.get Obj.pilotNegative n)) s)

/-- The pilot state changes (R157, R171, R179, R182). -/
def pilotTo (n : Nat) (p : Int) (s : State) : State :=
  let was := s.get Obj.pilotState n
  if was = p then s
  else
    let t := s.set Obj.pilotState p n
    let st := t.get Obj.outletState n
    if p = 0 then tryIdle n (outletFault n 3 false t)
    else if p = 4 ∨ p = 6 then pilotFault n t
    else if p = 1 ∧ (was = 2 ∨ was = 3) ∧ 4 ≤ st ∧ st ≤ 6 then normalStop n 1 t
    else tryConnect n t

/-- Readings of the pilot, newest last: positive and negative level [0.01 V]. -/
def takePilot (n : Nat) (l : List (Int × Int)) (s : State) : State :=
  match l.getLast? with
  | none => s
  | some (a, b) =>
    let t := (s.set Obj.pilotPositive a n).set Obj.pilotNegative b n
    let bad := threeAgree (l.map fun x => decide (-1300 ≤ x.2 ∧ x.2 ≤ -1100)) == some false
    let t := if pwmRuns s n ∧ bad ∧ ¬ s.is Reg.diodeFault n then pilotFault n (t.set Reg.diodeFault 1 n)
      else if ¬ bad then t.set Reg.diodeFault 0 n else t
    if t.get Obj.pilotState n = 5 then t
    else
      match threeAgree (l.map fun x => pilotClassIn s n x.1) with
      | some p => pilotTo n p t
      | none => t

def execPilotStateChange (outlet : Fin 24) (readings : List (Int × Int)) (s : State) : Out :=
  s.run fun s => takePilot outlet readings s

/-- Class of a proximity reading (R158). -/
def proximityClass (s : State) (n : Nat) (r : Nat) : Int :=
  if (r : Int) < s.get Obj.proximityWindowLow n then 2 else if s.get Obj.proximityWindowHigh n < r then 1 else 0

/-- Readings of the proximity circuit [ohm], newest last. -/
def takeProximity (n : Nat) (l : List Nat) (s : State) : State :=
  match l.getLast? with
  | none => s
  | some r =>
    let t := s.set Obj.proximityResistance (min 65535 r) n
    match threeAgree (l.map (proximityClass s n)) with
    | none => t
    | some p =>
      if p = s.get Reg.proximityState n then t
      else
        let t := t.set Reg.proximityState p n
        if p = 1 then tryIdle n (outletFault n 3 false t)
        else if p = 2 then outletFault n 5 false t
        else tryConnect n t

def execProximityStateChange (outlet : Fin 24) (readings : List Nat) (s : State) : Out :=
  s.run fun s => takeProximity outlet readings s

/-- Readings of the HVIL loop [ohm], newest last (R159). A loop not in use gives no fault. -/
def takeHvil (n : Nat) (l : List Nat) (s : State) : State :=
  match l.getLast? with
  | none => s
  | some r =>
    let t := s.set Obj.hvilResistance (min 65535 r) n
    match threeAgree (l.map fun x => (if x < 100 then 0 else if 1000 < x then 1 else 2 : Int)) with
    | none => t
    | some p =>
      let u := t.set Reg.hvilState p n
      if p ≠ 0 ∧ s.get Reg.hvilState n = 0 ∧ t.is Obj.hvilInUse n then outletFault n 6 false u else u

def execHvilStateChange (outlet : Fin 24) (readings : List Nat) (s : State) : Out :=
  s.run fun s => takeHvil outlet readings s

/-- The commands of the outlet's contactors as feedback bits. -/
def commandedBits (s : State) (n : Nat) : Nat := (if plusCommanded s n then 1 else 0) + (if minusCommanded s n then 2 else 0)

/-- Bit `k` of two patterns differs. -/
def bitDiffers (a b k : Nat) : Bool := a.testBit k != b.testBit k

/-- Feedbacks that differ from the command for more than 100 ms (R160). Closed against an open command is held in bits 0
and 1 until cleared, open against a closed command in bits 2 and 3 while it lasts. -/
def feedbackFault (n : Nat) (fb : Nat) (s : State) : State :=
  let cmd := commandedBits s n
  let t := s.set Obj.contactorFeedback fb n
  if s.getN Reg.coilsAt n + 100 * millisecond < s.now ∧ cmd ≠ fb then
    let t := t.forL [0, 1] fun k u =>
      if bitDiffers cmd fb k then
        logEvent 0x4016 srcAp0 (data8 [n, k]) (u.setBit Reg.contactorFault (if fb.testBit k then k else k + 2) true n)
      else u.setBit Reg.contactorFault (k + 2) false n
    refreshAvail n (outletFault n 14 false t)
  else t

def execContactorFeedbackFault (outlet : Fin 24) (feedback : Fin 4) (s : State) : Out :=
  s.run fun s => feedbackFault outlet feedback s

/-- The feedbacks agree with the command: a fault that was not held ends. -/
def feedbackAgrees (n : Nat) (s : State) : State :=
  let t := s.set Obj.contactorFeedback (commandedBits s n : Nat) n
  if t.get Reg.contactorFault n / 4 ≠ 0 then refreshAvail n (t.set Reg.contactorFault (t.get Reg.contactorFault n % 4) n) else t

def execClearContactorFault (r : Req) (outlet : Fin 24) (data : List Byte) (s : State) : Out :=
  s.run fun s => hostWrite r Obj.clearContactorFault outlet 0 data (fun _ t =>
    if t.get Obj.contactorFeedback outlet ≠ 0 then .error 6
    else
      let u := t.set Reg.contactorFault 0 outlet
      .ok (refreshAvail outlet (if 2 ≤ u.get Obj.weldResult outlet then
        (u.set Obj.weldResult 0 outlet).set Obj.weldOutstanding 1 outlet else u))) s

/-! ### Communication -/

/-- The random source is healthy (R278). -/
def randomGood (s : State) : Bool := s.get Obj.randomSourceState == 1

/-- CM_SLAC_PARM.REQ: a run with a new key of 16 bytes (R162); none while the random source has failed (R278). -/
def execCmSlacParmReq (outlet : Fin 24) (runId : Nat) (s : State) : Out :=
  s.run fun s =>
    let p := s.get Obj.pilotState outlet
    if s.get Obj.outletMode outlet = 0 ∧ pwmRuns s outlet ∧ (p = 1 ∨ p = 2 ∨ p = 3) ∧ randomGood s then
      let (k, t) := s.random 16
      respond outlet 2 [0, runId] ((t.setBytes Reg.slacKey k outlet).set Reg.slacRun (runId + 1) outlet)
    else s

/-- A run heard on several ports in CONNECTED is answered on the port with the lowest mean attenuation when it is 6 dB
clear of the rest (R163). -/
def arbitrate (runId : Nat) (heard : List (Nat × Nat)) (s : State) : State :=
  let l := heard.filter fun x => x.1 < 24 && s.get Obj.outletState x.1 == 1
  let t := l.foldl (fun u x => u.set Obj.slacMeanAttenuation (min 255 x.2) x.1) s
  let clear (x : Nat × Nat) : Bool := l.all fun y => y.1 == x.1 || x.2 + 6 ≤ y.2
  let text := data8 (l.flatMap fun x => [(x.1 : Int), (min 255 x.2 : Nat)])
  l.foldl (fun u x =>
    if clear x then respond x.1 2 [1, runId] u
    else logEvent 0x4018 srcAp0 text (u.set Reg.slacRun 0 x.1)) t

def execSlacRunArbitration (runId : Nat) (heard : List (Nat × Nat)) (s : State) : Out :=
  s.run fun s => arbitrate runId heard s

/-- SDP: TCP port 49152 + n and the security the protocol mask allows, 0x00 TLS or 0x10 none (R164). -/
def execSdpRequest (outlet : Fin 24) (tls : Bool) (s : State) : Out :=
  s.run fun s =>
    let m := s.getN Obj.protocolMask outlet
    let secure := m.testBit 2 || m.testBit 3 || m.testBit 4
    let plain := m.testBit 0 || m.testBit 1
    respond outlet 3 [49152 + outlet.val, if secure && (tls || !plain) then 0 else 16] s

def execTcpConnection (outlet : Fin 24) (s : State) : Out :=
  s.run fun s =>
    if s.is Reg.tcpOpen outlet then respond outlet 5 [] s else respond outlet 4 [] (s.set Reg.tcpOpen 1 outlet)

/-- A protocol option is offered by mode and mask (R155, R165): 0 DIN SPEC 70121, 1 ISO 15118-2 without TLS, 2 with TLS,
3 ISO 15118-20 DC, 4 ISO 15118-20 MCS. Those with TLS need the random source (R278). -/
def optionAllowed (s : State) (n : Nat) (o : Nat) : Bool :=
  (s.getN Obj.protocolMask n).testBit o && (o == 4) == (s.get Obj.outletMode n == 1) && o < 5 &&
  (o ≤ 1 || randomGood s)

/-- The protocol number of an option (0x4001:05). -/
def protocolOf (o : Nat) : Int := if o = 0 then 1 else if o ≤ 2 then 2 else if o = 3 then 3 else 4

/-- The vehicle's options in falling priority: the first one supported is taken (R165). -/
def execSupportedAppProtocol (outlet : Fin 24) (options : List Nat) (s : State) : Out :=
  s.run fun s =>
    if s.get Obj.outletState outlet ≠ 1 then respond outlet 0 [] s
    else
      match options.find? (optionAllowed s outlet) with
      | some o => setOutlet outlet 2 (respond outlet 6 [o] (s.set Obj.protocolInUse (protocolOf o) outlet))
      | none => closeEarly outlet 2 11 (respond outlet 0 [] s)

def execCommunicationLost (outlet : Fin 24) (s : State) : Out :=
  s.run fun s => outletFault outlet 11 false ((s.set Reg.tcpOpen 0 outlet).set Reg.vehicleStopped 1 outlet)

/-! ### Identification and authorisation -/

/-- A reservation window is open. -/
def windowOpen (s : State) (c : Nat) : Bool := s.get Obj.ctxReservationStart c ≤ s.time && s.time < s.get Obj.ctxExpiry c

/-- A context may bind on the outlet: it names it or any. -/
def namesOutlet (s : State) (c n : Nat) : Bool := s.getN Obj.ctxOutlet c == n || s.get Obj.ctxOutlet c == 255

/-- The context's identity matches the vehicle: EVCCID, eMAID under Plug & Charge, or a host token with external payment. -/
def identityFits (s : State) (c : Nat) (contract : Bool) (evccid emaid : List Byte) : Bool :=
  let k := s.get Obj.ctxIdentityKind c
  (k == 1 && s.bytes Obj.ctxIdentity c == evccid) || (k == 2 && contract && s.bytes Obj.ctxIdentity c == emaid) ||
  (k == 3 && !contract)

/-- The earliest created of a list of contexts. -/
def earliest (s : State) : List Nat → Option Nat
  | [] => none
  | c :: t =>
    match earliest s t with
    | some d => if s.get Reg.ctxCreated d < s.get Reg.ctxCreated c then some d else some c
    | none => some c

/-- The context that R187 binds. -/
def chooseContext (s : State) (n : Nat) (contract : Bool) (evccid emaid : List Byte) : Option Nat :=
  let all := List.range 250
  let pend := all.filter fun c => s.get Obj.ctxState c == cxPending && namesOutlet s c n
  let r1 := all.find? fun c => s.get Obj.ctxState c == cxReserved && namesOutlet s c n && windowOpen s c &&
    identityFits s c contract evccid emaid
  let r2 := if contract then pend.find? fun c => s.get Obj.ctxIdentityKind c == 2 && s.bytes Obj.ctxIdentity c == emaid else none
  let r3 := if contract then none else earliest s (pend.filter fun c => s.get Obj.ctxIdentityKind c == 3)
  let r4 := pend.find? fun c => s.get Obj.ctxIdentityKind c == 1 && s.bytes Obj.ctxIdentity c == evccid
  let r5 := if serialLeft s then all.find? fun c => s.get Obj.ctxState c == cxFree else none
  r1 <|> r2 <|> r3 <|> r4 <|> r5

/-- An open reservation keeps the outlet for another vehicle (R187). -/
def outletReserved (s : State) (n : Nat) : Bool :=
  (List.range 250).any fun c => s.get Obj.ctxState c == cxReserved && s.getN Obj.ctxOutlet c == n && windowOpen s c

/-- The context reaches AUTHORISED with its outlet (R186). -/
def authoriseOutlet (n c : Nat) (s : State) : State :=
  let t := (s.set Obj.ctxAuthorisation 1 c).set Reg.ctxAuthorised 1 c
  setOutlet n 3 (submit wrAp0 jkContext c 0 (contextBytes t c) true t)

/-- A session is refused: event 0x401C, CLOSING with the cause. -/
def refuseSession (n : Nat) (cause : Int) (s : State) : State :=
  closeEarly n 2 cause (respond n 0 [] (logEvent 0x401C srcAp0 (data8 [n, cause]) s))

/-- A context is bound to the outlet (R169, R187). -/
def bindContext (n c : Nat) (contract : Bool) (evccid emaid : List Byte) (s : State) : State :=
  let fresh := s.get Obj.ctxState c = cxFree
  let t := if fresh then
      let u := (takeSerial c s).set Obj.ctxClass (s.get Obj.defaultClass n) c
      let u := (u.set Obj.ctxIdentityKind (if contract then 2 else 1) c).setBytes Obj.ctxIdentity (if contract then emaid else evccid) c
      ((u.set Obj.ctxEnergyNeed 0 c).set Obj.ctxDeparture 0 c).set Obj.ctxTariff 0 c
    else s
  let fixed := 1 ≤ t.get Obj.ctxTariff c ∧ t.get Obj.ctxTariff c ≤ 8
  let t := (t.set Reg.recordFlags (if fixed then 4 else 0) c).setBytes Reg.ctxEvccid evccid c
  let t := setContext c cxBound (((((t.set Reg.ctxAt n c).set Obj.boundContext c n).set Reg.ctxOpen 0 c).set Obj.stopTime 0 c).set Obj.regSetFlags
    (t.get Obj.sealOpen) c)
  if ¬ fresh then authoriseOutlet n c t
  else if t.get Obj.authorisationMode n = 1 then authoriseOutlet n c t
  else logEvent 0x4012 srcAp0 (data8 [n, c]) ((t.set Obj.ctxAuthorisation 0 c).set Reg.authorisationAt t.now n)

/-- The vehicle has identified itself (R166, R187). `good` is the outcome of the chain and challenge check of R166. -/
def identified (n : Nat) (contract good : Bool) (evccid emaid : List Byte) (s : State) : State :=
  if s.get Obj.outletState n ≠ 2 ∨ (contextOf s n).isSome then s
  else
    let t := s.setBytes Obj.evccid (fitBytes 6 evccid) n
    let offered := (t.getN Obj.protocolMask n).testBit 5 && t.get Obj.protocolInUse n != 1 && t.get Obj.timeQuality != 0
    if contract ∧ ¬ (offered ∧ good) then respond n 0 [] t
    else
      let t := (t.set Reg.vehicleKnown 1 n).setB Reg.usesContract contract n
      if t.is Reg.dieStop ∨ t.get Obj.journalWritesPermitted = 0 then refuseSession n 13 t
      else if 900 ≤ t.get Obj.commitRingFill ∨ t.is Reg.clockFault then refuseSession n 22 t
      else
        match chooseContext t n contract evccid emaid with
        | none => refuseSession n (if outletReserved t n then 18 else 22) t
        | some c =>
          if outletReserved t n ∧ ¬ (t.get Obj.ctxState c = cxReserved) then refuseSession n 18 t
          else bindContext n c contract evccid emaid t

def execVehicleIdentified (outlet : Fin 24) (contract good : Bool) (evccid emaid : List Byte) (s : State) : Out :=
  s.run fun s => identified outlet contract good evccid emaid s

/-- A vehicle authorisation request (R169): granted from AUTHORISED on, processing ongoing until a decision. -/
def execAuthorisationRequest (outlet : Fin 24) (s : State) : Out :=
  s.run fun s =>
    let st := s.get Obj.outletState outlet
    if 3 ≤ st ∧ st ≤ 6 then respond outlet 7 [1] s
    else if st = 2 then respond outlet 1 [] s
    else respond outlet 0 [] s

/-- A write to a context has taken effect: the module commits it itself; a tariff fixed within the session marks the record
(Table 7.13). -/
def contextWritten (c : Nat) (s : State) : State :=
  let fixed := ctxInSession s c ∧ 1 ≤ s.get Obj.ctxTariff c ∧ s.get Obj.ctxTariff c ≤ 8
  let t := if fixed then s.setBit Reg.recordFlags 2 true c else s
  submit wrAp0 jkContext c 0 (contextBytes t c) false t

/-- Accepted writes to a context that wait for their slow tick take effect before a command to it (R188). -/
def flushContext (c : Nat) (s : State) : State :=
  let mine (w : Waiting) : Bool := w.boundary == .slowTick && !w.partly && w.writes.any fun f => 0x6000 ≤ f.key.o / 256 &&
    f.key.o / 256 < 0x6100 && f.key.i == c
  let now := s.waiting.filter mine
  if now.isEmpty then s
  else contextWritten c (now.foldl (fun u w => applyWaiting w u) { s with waiting := s.waiting.filter fun w => !(mine w) })

/-- The outlet a context is bound to. -/
def outletOf (s : State) (c : Nat) : Option Nat := (List.range 24).find? fun n => s.getN Obj.boundContext n == c

def execAuthorisationWrite (r : Req) (ctx : Fin 250) (data : List Byte) (s : State) : Out :=
  s.run fun s => hostWrite r Obj.ctxAuthorisation ctx 0 data (fun _ t =>
    let t := flushContext ctx t
    if ofBytes data = 0 then .error 5
    else
      match outletOf t ctx with
      | none => .error 6
      | some n =>
        if t.get Obj.ctxState ctx ≠ cxBound ∨ t.get Obj.outletState n ≠ 2 ∨ t.get Obj.ctxAuthorisation ctx ≠ 0 then .error 6
        else if ofBytes data = 1 then .ok (authoriseOutlet n ctx t)
        else .ok (closeEarly n 2 18 (t.set Obj.ctxAuthorisation 2 ctx))) s

def execAuthorisationTimeout (outlet : Fin 24) (s : State) : Out :=
  s.run fun s =>
    if s.get Obj.outletState outlet = 2 ∧ (contextOf s outlet).isSome ∧
        s.get Reg.authorisationAt outlet + s.get Obj.authorisationTimeout outlet * second ≤ s.now then closeEarly outlet 2 18 s
    else s

/-- A certificate request is relayed to the host (R167). -/
def execCertificateRequest (outlet : Fin 24) (body : List Byte) (s : State) : Out :=
  s.run fun s =>
    if s.get Obj.protocolInUse outlet < 2 then respond outlet 0 [] s
    else
      let t := (s.setBytes Obj.certificateRequestBody (body.take 8192) outlet).set Reg.certificateAt (s.now + 1) outlet
      respond outlet 1 [] (logEvent 0x4012 srcAp0 (data8 [outlet.val, s.get Obj.boundContext outlet]) t)

def execCertificateResponseWrite (r : Req) (outlet : Fin 24) (data : List Byte) (s : State) : Out :=
  s.run fun s => hostWrite r Obj.certificateResponseBody outlet 0 data (fun _ t =>
    let t := t.setBytes Obj.certificateResponseBody data outlet
    .ok (if t.get Reg.certificateAt outlet = 0 then t
      else respond outlet 8 (data.map fun b => (b.toNat : Int)) (t.set Reg.certificateAt 0 outlet))) s

def execCertificateTimeout (outlet : Fin 24) (s : State) : Out :=
  s.run fun s =>
    if s.get Reg.certificateAt outlet ≠ 0 ∧ s.getN Reg.certificateAt outlet + 60 * second ≤ s.now + 1 then
      respond outlet 0 [] (s.set Reg.certificateAt 0 outlet)
    else s

/-! ### Insulation monitor and cable check -/

/-- A command to the IMD (Table 7.5). -/
def imdSend (n : Nat) (cmd volts : Int) (s : State) : State :=
  let q := (s.get Reg.imdSequence n + 1) % 256
  let t := (s.set Reg.imdSequence q n).set Reg.imdSentAt s.now n
  t.emit (.can (t.getN Obj.imdBus n) (t.is Obj.imdIdFormat n) (t.getN Obj.imdBaseId n)
    (beBytes 1 cmd ++ beBytes 1 q ++ beBytes 2 volts ++ [0, 0, 0, 0]))

/-- The loop is closed or not in use. -/
def hvilGood (s : State) (n : Nat) : Bool := s.get Reg.hvilState n == 0 || !s.is Obj.hvilInUse n

/-- The conditions of R172. -/
def mayCableCheck (s : State) (n : Nat) : Bool :=
  (s.get Obj.pilotState n == 2 || (s.get Obj.pilotState n == 3 && s.get Obj.outletMode n == 0)) &&
  s.get Reg.proximityState n == 0 && hvilGood s n && s.get Obj.contactorFeedback n == 0 &&
  s.bit Obj.safeOutputStates (coilGroup n) && !dipOpen s

def execCableCheckReq (outlet : Fin 24) (s : State) : Out :=
  s.run fun s =>
    let st := s.get Obj.outletState outlet
    if st = 3 ∧ mayCableCheck s outlet then
      let t := ((s.set Reg.checkStep 1 outlet).set Reg.checkAt s.now outlet).set Reg.checkReadAt 0 outlet
      respond outlet 1 [] (imdSend outlet 3 0 (setRamp outlet 0 (setOutlet outlet 4 t)))
    else if st = 3 ∨ st = 4 then respond outlet 1 [] s
    else if st = 5 then respond outlet 9 [if s.is Reg.imdWarned outlet then 1 else 0] s
    else respond outlet 0 [] s

/-- Step 3 of Table 7.7: with a bound block below 50 V both contactors are commanded closed. -/
def tryCloseContactors (n : Nat) (s : State) : State :=
  if s.get Obj.outletState n = 4 ∧ s.get Reg.checkStep n = 2 ∧ ¬ dipOpen s ∧ mayCloseOutlet s n ∧ ¬ plusCommanded s n ∧
      ((boundBlocksOf s n).any fun b => blockSt s b == bkRunning && s.get Reg.tmOutVoltage b < 1000) then
    commandContactors n true true s
  else s

/-- The cable check fails (R175): before step 3 to CLOSING, from step 3 on through WELD_CHECK. -/
def cableCheckFails (n : Nat) (cause : Int) (s : State) : State :=
  if s.get Reg.checkStep n < 3 then closeEarly n 2 cause s
  else
    let t := ((recordCause n 2 cause s).set Reg.stopKind 1 n).set Reg.stopFrame s.frame n
    toWeldCheck n (t.setB Reg.vehicleStopped false n)

/-- The insulation figure in ohm per volt; none above range. -/
def insulationFigure (s : State) (n : Nat) : Option Rat :=
  let r := s.get Obj.insulationResistance n
  if r = 0xFFFFFFFF ∨ cableVoltage s n = 0 then none else some ((r : Rat) * 1000 * 100 / (cableVoltage s n : Rat))

/-- A figure is below a threshold; above range it is below none. -/
def figureBelow (f : Option Rat) (v : Int) : Bool :=
  match f with
  | some q => q < (v : Rat)
  | none => false

/-- Event data of the insulation events: the outlet and the figure. -/
def figureData (n : Nat) (f : Option Rat) : List Byte :=
  data8 [n] ++ beBytes 4 (match f with | some q => min 0xFFFFFFFF q.floor | none => 0xFFFFFFFF)

/-- A valid measurement is judged (R174, R175). -/
def judgeInsulation (n : Nat) (s : State) : State :=
  let st := s.get Obj.outletState n
  let f := insulationFigure s n
  let fault := figureBelow f (s.get Obj.insulationFaultThreshold n)
  let warn := figureBelow f (s.get Obj.insulationValidThreshold n)
  let t := if fault then logEvent 0x4014 srcAp0 (figureData n f) s
    else if warn ∧ ¬ s.is Reg.imdWarned n then logEvent 0x4013 srcAp0 (figureData n f) (s.set Reg.imdWarned 1 n) else s
  if st = 4 then
    if fault then cableCheckFails n 7 t
    else
      let u := ((t.set Reg.checkStep 6 n).set Reg.preTarget 0 n).set Reg.preChargeRun 0 n
      setOutlet n 5 (respond n 9 [if warn then 1 else 0] (u.set Reg.preCurrentRun 0 n))
  else if fault then emergencyStop n 7 t else t

/-- The IMD falls silent (R173, R175). -/
def imdSilence (n : Nat) (s : State) : State :=
  if s.is Reg.imdSilent n then s
  else
    let t := logEvent 0x401A srcAp0 (data8 [n]) (s.set Reg.imdSilent 1 n)
    if t.get Obj.outletState n = 4 then cableCheckFails n 8 t else outletFault n 8 false t

/-- An IMD status frame (Table 7.6, steps 2, 3 and 5 of Table 7.7). -/
def takeImd (n : Nat) (f : List Byte) (s : State) : State :=
  if f.length ≠ 8 then s
  else
    let b := ofBytes (f.take 1)
    let age := ofBytes (f.drop 6)
    let t := ((s.set Reg.imdStatus b n).set Reg.imdAt s.now n).set Obj.insulationResistance (ofBytes ((f.drop 2).take 4)) n
    if b.testBit 3 then imdSilence n t
    else
      let t := t.set Reg.imdSilent 0 n
      let st := t.get Obj.outletState n
      if t.get Reg.pausedAt n ≠ 0 then t
      else if st = 4 ∧ t.get Reg.checkStep n = 1 ∧ b.testBit 7 then
        tryCloseContactors n ((t.set Reg.checkStep 2 n).set Reg.checkStepAt t.now n)
      else if ¬ b.testBit 4 then t
      else if st = 4 then
        let at0 := t.getN Reg.checkReadAt n
        if t.get Reg.checkStep n = 4 ∧ at0 ≠ 0 ∧ age * 10 * millisecond < t.now + 1 - at0 then judgeInsulation n t else t
      else if st = 5 ∨ st = 6 then judgeInsulation n t
      else t

def execImdStatusFrame (outlet : Fin 24) (frame : List Byte) (s : State) : Out := s.run fun s => takeImd outlet frame s

def execImdSilent (outlet : Fin 24) (s : State) : Out :=
  s.run fun s => if s.getN Reg.imdAt outlet + 300 * millisecond ≤ s.now then imdSilence outlet s else s

def execImdKeepAlive (outlet : Fin 24) (s : State) : Out :=
  s.run fun s => if s.getN Reg.imdSentAt outlet + second ≤ s.now then imdSend outlet 4 0 s else s

/-- Both feedbacks report closed (step 3 of Table 7.7, R227); the ramp to V_cc of step 4 begins. -/
def execOutletContactorsClosed (outlet : Fin 24) (s : State) : Out :=
  s.run fun s =>
    if ¬ (plusCommanded s outlet ∧ minusCommanded s outlet) then s
    else
      let t := feedbackAgrees outlet s
      let t := match contextOf t outlet with
        | some c => if t.get Reg.ctxOpen c = 0 ∧ t.get Obj.stopTime c = 0 then takeStart c outlet t else t
        | none => t
      if t.get Obj.outletState outlet = 4 ∧ t.get Reg.checkStep outlet = 2 then
        startRamp outlet (cableVoltage t outlet) 2500 ((t.set Reg.checkStep 3 outlet).set Reg.checkStepAt t.now outlet)
      else t

def execCableCheckRampEnd (outlet : Fin 24) (s : State) : Out :=
  s.run fun s =>
    if s.get Obj.outletState outlet = 4 ∧ s.get Reg.checkStep outlet = 3 ∧ s.get Reg.pausedAt outlet = 0 ∧
        s.get Reg.rampStart outlet + 2500 ≤ s.frame then
      imdSend outlet 1 (cableVoltage s outlet / 100) ((s.set Reg.checkStep 4 outlet).set Reg.checkStepAt s.now outlet)
    else s

def execCableCheckTimeout (outlet : Fin 24) (s : State) : Out :=
  s.run fun s =>
    if s.get Obj.outletState outlet = 4 ∧ s.get Reg.pausedAt outlet = 0 ∧
        s.get Reg.checkAt outlet + s.get Obj.cableCheckTimeout outlet * second ≤ s.now then cableCheckFails outlet 9 s
    else s

/-! ### Pre-charge and delivery -/

/-- PreChargeReq (R176): target in 0.01 V. -/
def execPreChargeReq (outlet : Fin 24) (target : Nat) (s : State) : Out :=
  s.run fun s =>
    if s.get Obj.outletState outlet ≠ 5 then respond outlet 0 [] s
    else
      let v : Int := min 150000 target
      let t := if s.get Reg.pausedAt outlet ≠ 0 then s
        else
          let u := if s.get Reg.preTarget outlet = v then s else s.set Reg.preChargeRun 0 outlet
          startRamp outlet v 1000 ((u.set Reg.preTarget v outlet).set Obj.evTargetVoltage target outlet)
      respond outlet 10 [roundAway ((outletMv t outlet : Rat) / 10)] t

def execPreChargeCurrentExceeded (outlet : Fin 24) (s : State) : Out :=
  s.run fun s =>
    if s.get Obj.outletState outlet = 5 ∧ 50 ≤ s.get Reg.preCurrentRun outlet then emergencyStop outlet 10 s else s

/-- PowerDelivery start (R176): DELIVERING when the pre-charge is complete, else the session stops. -/
def execPowerDeliveryStart (outlet : Fin 24) (s : State) : Out :=
  s.run fun s =>
    if s.get Obj.outletState outlet ≠ 5 then respond outlet 0 [] s
    else if s.get Reg.pausedAt outlet ≠ 0 then respond outlet 1 [] s
    else if s.get Reg.preChargeRun outlet < 8 then respond outlet 0 [] (normalStop outlet 10 s)
    else
      let t := setOutlet outlet 6 ((s.set Reg.demandAt s.now outlet).set Reg.evOverRun 0 outlet)
      let t := match contextOf t outlet with
        | some c => setContext c cxDelivering t
        | none => t
      respond outlet 11 [1] (t.forL (boundBlocksOf t outlet) fun b u => u.set Reg.setNext 0 b)

def execPreChargeTimeout (outlet : Fin 24) (s : State) : Out :=
  s.run fun s =>
    if s.get Obj.outletState outlet = 5 ∧ s.get Reg.pausedAt outlet = 0 ∧
        s.get Reg.outletSince outlet + s.get Obj.preChargeTimeout outlet * (100 * millisecond) ≤ s.now then normalStop outlet 10 s
    else s

/-- The outlet voltage limit of the session [0.01 V] (R177, R143). -/
def sessionVoltage (s : State) (n : Nat) : Int :=
  clampI 0 150000 (min (s.get Obj.evTargetVoltage n) (cableVoltage s n))

/-- The charge loop response (R178). -/
def demandResponse (n : Nat) (s : State) : State :=
  respond n 12 [roundAway ((outletMa s n : Rat) / 100), roundAway ((outletMv s n : Rat) / 10), s.get Obj.maxCurrentSent n,
    s.get Obj.outletRatedVoltage n, s.get Obj.allocatedPower n, if s.get Obj.bindingTerm n ≠ 10 then 1 else 0,
    if s.bit Obj.slotFlags 0 (voltageSlot n) then 1 else 0] s

/-- CurrentDemand (R177, R178): target voltage [0.01 V] and current [mA], the vehicle's limits [0.01 V, 0.1 A], state of
charge, error code and its emergency mark. -/
def currentDemand (n : Nat) (tv ti mv mi soc err : Nat) (marked : Bool) (s : State) : State :=
  if s.get Obj.outletState n ≠ 6 then respond n 0 [] s
  else
    let t := ((s.set Obj.evTargetVoltage tv n).set Obj.evTargetCurrent (clampI 0 40000 (roundAway ((ti : Rat) / 100))) n).set
      Obj.evMaximumVoltage mv n
    let t := ((t.set Obj.evMaximumCurrent (min 65535 mi) n).set Obj.stateOfCharge (if soc ≤ 100 then soc else 255) n).set
      Obj.evErrorCode (min 255 err) n
    let t := (t.set Reg.demandAt t.now n).set Reg.voltageLimit (sessionVoltage t n) n
    demandResponse n (if err = 0 then t else outletFault n 19 marked t)

def execCurrentDemandReq (outlet : Fin 24) (tv ti mv mi soc err : Nat) (marked : Bool) (s : State) : Out :=
  s.run fun s => currentDemand outlet tv ti mv mi soc err marked s

def execDemandSilenceTimeout (outlet : Fin 24) (s : State) : Out :=
  s.run fun s =>
    if s.get Obj.outletState outlet = 6 ∧ s.get Reg.demandAt outlet + s.get Obj.demandSilenceLimit outlet * millisecond ≤ s.now
    then normalStop outlet 11 s else s

def execEvOverVoltage (outlet : Fin 24) (s : State) : Out :=
  s.run fun s =>
    if s.get Obj.outletState outlet = 6 ∧ 10 ≤ s.get Reg.evOverRun outlet then emergencyStop outlet 20 s else s

/-! ### Stops -/

/-- The vehicle's PowerDelivery stop: a normal stop begins, or goes on to WELD_CHECK once the current has decayed. -/
def vehicleStop (n : Nat) (s : State) : State :=
  let st := s.get Obj.outletState n
  if st = 7 then
    let t := s.set Reg.vehicleStopped 1 n
    if t.get Reg.stopKind n = 1 ∧ 2 ≤ t.get Reg.stopStep n then toWeldCheck n t else t
  else normalStop n 1 s

def execPowerDeliveryStop (outlet : Fin 24) (s : State) : Out :=
  s.run fun s => respond outlet 11 [0] (vehicleStop outlet s)

/-- Step 2 of Table 7.8 is reached. -/
def currentGone (n : Nat) (s : State) : State :=
  let t := (s.set Reg.stopStep 2 n).set Reg.stopAt s.now n
  if t.is Reg.vehicleStopped n then toWeldCheck n t else t

def execStopCurrentDecayed (outlet : Fin 24) (s : State) : Out :=
  s.run fun s =>
    if s.get Reg.lowCurrentRun outlet < 3 then s
    else if s.get Reg.stopKind outlet = 1 ∧ s.get Obj.outletState outlet = 7 ∧ s.get Reg.stopStep outlet < 2 ∧
        s.get Reg.stopFrame outlet + 3 ≤ s.frame then currentGone outlet s
    else if s.get Reg.stopKind outlet = 2 ∧ 7 ≤ s.get Obj.outletState outlet ∧ s.get Obj.outletState outlet ≤ 8 ∧
        (plusCommanded s outlet ∨ minusCommanded s outlet) ∧ s.get Reg.weldHalf outlet = 0 then
      setOutlet outlet 8 (openContactors outlet false s)
    else s

def execStopCurrentTimeout (outlet : Fin 24) (s : State) : Out :=
  s.run fun s =>
    if s.get Reg.stopKind outlet = 1 ∧ s.get Obj.outletState outlet = 7 ∧ s.get Reg.stopStep outlet < 2 ∧
        s.get Reg.stopFrame outlet + 50000 ≤ s.frame then currentGone outlet (s.set Reg.stopForced 1 outlet)
    else s

/-- Step 2 was reached 2 s ago: the stop goes on without the vehicle's PowerDelivery stop (Table 7.8). -/
def stopOverdue (n : Nat) (s : State) : State :=
  if s.get Reg.stopKind n = 1 ∧ s.get Obj.outletState n = 7 ∧ s.get Reg.stopStep n = 2 ∧ s.getN Reg.stopAt n + 2 * second ≤ s.now
  then toWeldCheck n s else s

/-- Steps 4 and 5 of Table 7.8. -/
def execOutputDischarged (outlet : Fin 24) (s : State) : Out :=
  s.run fun s =>
    if s.get Obj.outletState outlet = 8 ∧ s.get Reg.stopStep outlet = 3 ∧ outletDead s outlet then
      openContactors outlet (s.is Reg.stopForced outlet) (s.set Reg.stopStep 4 outlet)
    else s

/-- The vehicle's contactors are taken as still closed (R179). -/
def execVehicleVoltageRemains (outlet : Fin 24) (s : State) : Out :=
  s.run fun s =>
    if s.get Obj.outletState outlet = 8 ∧ s.get Reg.stopStep outlet = 3 ∧ ¬ outletDead s outlet ∧ outletQuiet s outlet ∧
        s.getN Reg.stopAt outlet + second ≤ s.now then
      openContactors outlet false (weldLeft outlet (logEvent 0x401B srcAp0 (data8 [outlet.val]) s))
    else s

/-- One half of the weld test begins (R181): DC- alone closed, then DC+ alone. -/
def beginWeldHalf (n : Nat) (half : Int) (s : State) : State :=
  let t := ((s.set Reg.weldHalf half n).set Reg.weldRun 0 n).set Reg.weldHigh 0 n
  setRamp n (t.get Obj.weldTestVoltage n * 10) (commandContactors n (half == 2) (half == 1) t)

/-- A running block is bound to the outlet in set B. -/
def weldBlockReady (s : State) (n : Nat) : Bool :=
  (boundBlocksOf s n).any fun b => blockSt s b == bkRunning && s.get Reg.setNext b == 1

/-- The weld test begins when DMn reads below 60 V and a block is bound in set B. -/
def tryWeldTest (n : Nat) (s : State) : State :=
  if s.get Reg.weldWaiting n ≠ 0 ∧ outletDead s n ∧ weldBlockReady s n ∧ ¬ dipOpen s ∧ mayCloseOutlet s n then
    beginWeldHalf n 1 ((s.set Reg.weldWaiting 0 n).set Reg.weldFailed 0 n)
  else s

/-- A weld test that waits: it begins when it can; after 10 s without a block the check stays outstanding (R180, R181). -/
def weldTick (n : Nat) (s : State) : State :=
  let t := tryWeldTest n s
  if t.get Reg.weldWaiting n ≠ 0 ∧ t.getN Reg.weldWaiting n + 10 * second ≤ t.now + 1 then
    let u := releaseBlocks n (t.set Reg.weldWaiting 0 n)
    if u.get Obj.outletState n = 8 then toClosing n (weldLeft n u) else u
  else t

/-- An outstanding check is run again at the allocation passes while the outlet is idle (R181). -/
def weldAgain (n : Nat) (s : State) : State :=
  if s.is Obj.weldOutstanding n ∧ s.get Obj.outletState n = 0 ∧ outletAdmitted s n ∧ s.get Reg.weldWaiting n = 0 ∧ s.get Reg.weldHalf n = 0
  then s.set Reg.weldWaiting (s.now + 1) n else s

/-- Both feedbacks report open: the IMD stops, and the weld test begins (step 6 of Table 7.8). -/
def execOutletContactorsOpen (outlet : Fin 24) (s : State) : Out :=
  s.run fun s =>
    if plusCommanded s outlet ∨ minusCommanded s outlet then s
    else
      let t := feedbackAgrees outlet s
      if t.get Obj.outletState outlet = 8 ∧ t.get Reg.stopStep outlet = 5 then
        let t := imdSend outlet 2 0 (t.set Reg.stopStep 6 outlet)
        if t.is Reg.weldSkip outlet then toClosing outlet (releaseBlocks outlet t)
        else tryWeldTest outlet (t.set Reg.weldWaiting (t.now + 1) outlet)
      else t

/-- The result of a weld test (R181). -/
def weldResultOf (failed : Int) : Int := if failed = 0 then 1 else if failed = 1 then 2 else if failed = 2 then 3 else 4

/-- The second half is judged: contactors open, the block at 0 V, the result shown, the blocks released. -/
def endWeldTest (n : Nat) (s : State) : State :=
  let f := s.get Reg.weldFailed n
  let t := setRamp n 0 (commandContactors n false false (s.set Reg.weldHalf 0 n))
  let t := t.forL [0, 1] fun k u => if f.toNat.testBit k then logEvent 0x4015 srcAp0 (data8 [n, k]) u else u
  let t := refreshAvail n ((t.set Obj.weldResult (weldResultOf f) n).set Obj.weldOutstanding 0 n)
  let t := releaseBlocks n t
  if t.get Obj.outletState n = 8 then toClosing n t else t

def execWeldTestHalfComplete (outlet : Fin 24) (s : State) : Out :=
  s.run fun s =>
    let h := s.get Reg.weldHalf outlet
    if h = 0 ∨ s.get Reg.weldRun outlet < 100 then s
    else
      let t := if s.is Reg.weldHigh outlet then s.setBit Reg.weldFailed (h.toNat - 1) true outlet else s
      if h = 1 then beginWeldHalf outlet 2 t else endWeldTest outlet t

def execEmergencyOpenDelay (outlet : Fin 24) (s : State) : Out :=
  s.run fun s =>
    if s.get Reg.stopKind outlet = 2 ∧ (plusCommanded s outlet ∨ minusCommanded s outlet) ∧ s.get Reg.weldHalf outlet = 0 ∧
        s.get Reg.stopFrame outlet + s.get Obj.emergencyOpenDelay outlet ≤ s.frame then
      setOutlet outlet 8 (openContactors outlet false s)
    else s

def execNoCapacityTimeout (outlet : Fin 24) (s : State) : Out :=
  s.run fun s =>
    if s.get Reg.pausedAt outlet = 0 ∧ s.get Reg.noCapacityAt outlet ≠ 0 ∧ s.get Reg.noCapacityAt outlet + s.get Obj.noCapacityLimit outlet * second ≤ s.now + 1
    then outletFault outlet 15 false s else s

def execStopSessionNormal (r : Req) (outlet : Fin 24) (s : State) : Out :=
  s.run fun s => hostWrite r Obj.stopSession outlet 0 [1] (fun _ t => .ok (normalStop outlet 2 t)) s

def execStopSessionEmergency (r : Req) (outlet : Fin 24) (s : State) : Out :=
  s.run fun s => hostWrite r Obj.stopSession outlet 0 [2] (fun _ t => .ok (emergencyStop outlet 2 t)) s

/-- A vehicle request with no step of its own (R168): 0 charge parameter discovery with the vehicle's limits, 1 welding
detection, 2 SessionStop, other kinds. -/
def vehicleRequest (n kind mv mi tv soc : Nat) (s : State) : State :=
  let st := s.get Obj.outletState n
  if kind = 0 then
    let t := ((s.set Obj.evMaximumVoltage mv n).set Obj.evMaximumCurrent (min 65535 mi) n).set Obj.evTargetVoltage tv n
    respond n 14 [s.get Obj.outletRatedVoltage n, s.get Obj.outletRatedCurrent n]
      (t.set Obj.stateOfCharge (if soc ≤ 100 then soc else 255) n)
  else if kind = 1 then respond n 14 [roundAway ((outletMv s n : Rat) / 10)] s
  else if kind = 2 then
    respond n 13 [] (if st = 9 then s.set Reg.tcpOpen 0 n
      else if st = 7 then vehicleStop n s
      else normalStop n 1 s)
  else respond n 14 [] s

def execVehicleRequest (outlet : Fin 24) (kind mv mi tv soc : Nat) (s : State) : Out :=
  s.run fun s => vehicleRequest outlet kind mv mi tv soc s

end Sys2Proof.Machine
end

