-- ==== Sys2Proof/Machine/PairOps.lean ====
section
/-!
DEFINITION. Roles, fencing, taking the token and orderly handover (Active and standby operation).
-/

namespace Sys2Proof.Machine

/-- Lease operations (Table 17.4). -/
def opRequest : Nat := 1
def opGrant : Nat := 2
def opRelease : Nat := 3
def opAccept : Nat := 4
def opRefuse : Nat := 5
def opResign : Nat := 6
def opResignAck : Nat := 7

/-- The flags of a lease frame: fit to take over, mirror locked, configuration in sync. -/
def leaseFlags (s : State) : Int :=
  s.get Obj.fitToTakeOver + 2 * s.get Reg.mirrorLocked + (if s.get Reg.outOfSync = 0 then 4 else 0)

/-- A lease frame on the partner link (Table 17.4): operation, sequence, frame, L, role, score, flags, sync generation. -/
def sendLease (op : Nat) (frame : Int) (s : State) : State :=
  let t := s.set Reg.leaseSeq ((s.get Reg.leaseSeq + 1) % 65536)
  t.emit (.partner op [t.get Reg.leaseSeq, frame, t.get Obj.leaseLength, t.get Obj.role, t.get Obj.fitScore, leaseFlags t,
    t.get Reg.syncGeneration])

/-- The role changes: event 0xA810 (R390). -/
def setRole (v : Int) (s : State) : State :=
  if s.get Obj.role = v then s
  else logEvent 0xA810 srcAp1 (data8 [s.get Obj.role, v]) ((s.set Obj.role v).set Obj.timeOfLastRoleChange s.time)

/-- Every load channel off (R400). -/
def channelsOff (s : State) : State :=
  s.forN 96 fun c u => if lsDriving u c ∨ u.get Obj.lsState c = 3 then u.set Obj.lsState lsOff c else u

/-- Every load channel follows its command, with new inrush windows (R357, R402). A latched channel is not re-energised. -/
def channelsFollow (s : State) : State :=
  s.forN 96 fun c u => if u.get Obj.lsState c = lsOff ∧ u.get Obj.lsCommand c ≠ 0 then tryTurnOn c u else u

/-- The pair ends: the ACTIVE module goes on unpaired (R398, R410). -/
def unpair (cause : Int) (s : State) : State :=
  let t := (((s.set Reg.paired 0).set Obj.partnerRole 255).set Reg.ungrantedRun 0).set Obj.partnerFit 0
  logEvent 0xA813 srcAp1 (data8 [cause]) t

/-- Fencing at a frame start (R400). -/
def fence (s : State) : State :=
  let t := channelsOff ((s.set Reg.ownActive 0).set Obj.safeOutputStates 0)
  let t := ((t.set Reg.fencedAt t.now).set Reg.fenceDue 0).set Reg.handoverFrame 0
  logEvent 0xA812 srcAp1 (beBytes 8 t.frame) (setRole 3 ((t.set Reg.paired 0).set Reg.ungrantedRun 0))

/-- The module takes the token (R399, R403, R404): it asserts its ACTIVE line, drives from its mirrored state, ends
injection and capture, and answers for the site. The cause: 1 loss of the active, 2 handover, 3 host command 1. -/
def takeToken (cause : Int) (s : State) : State :=
  let t := setRole 1 (s.set Reg.ownActive 1)
  let t := ((t.inc Obj.takeovers).set Obj.lastCause cause).set Reg.activeSince t.now
  let t := ((t.set Obj.injectionState 0).set Obj.captureState 0).set Reg.heldLogged 0
  let t := ((t.set Reg.paired 0).set Reg.acceptFrame 0).set Obj.partnerRole 255
  channelsFollow (logEvent 0xA811 srcAp1 (data8 [cause] ++ beBytes 8 t.frame) t)

/-- The standby's latest report shows it fit (R403). -/
def standbyFit (s : State) : Bool :=
  s.get Obj.role == roActive && s.is Reg.paired && s.get Obj.partnerRole == roStandby && s.is Obj.partnerFit

/-- A rule calls for a handover: it starts at the next frame when the standby is fit; otherwise the rule acts as for a
SOLO module (R403, R412). -/
def handOverOr (alone : State → State) (s : State) : State := if standbyFit s then s.set Reg.handoverDue 1 else alone s

/-- An item of the Kaolin report occurs at an element (R405, Table 17.9). -/
def healthItem (code el : Nat) (s : State) : State :=
  let recent := (s.seq Reg.itemCount code el).filter fun t => (s.now : Int) < t + 60 * second
  let t := (s.set Reg.itemLast (s.now + 1) code el).setSeq Reg.itemCount ((s.now : Int) :: recent) code el
  let l := t.seq Reg.itemElement code
  (t.setSeq Reg.itemElement (if l.contains (el : Int) then l else (el : Int) :: l) code).set Reg.itemTime t.time code el

end Sys2Proof.Machine
end

