-- ==== Sys2Proof/Machine/Loop.lean ====
section
/-!
DEFINITION. The loop engine: number format, gain tables, sources, the control law, test signals and capture, and the
issue of a class of slots (Loop engine). A stage value is held as the exact number its mantissa and exponent stand for.
Elements of `Reg.slotReal`: 0 reference, 1 measurement, 2 error, 3 applied Kp, 4 Ki h, 5 p, 6 q, 7 integrator, 8 residue,
9 feed-forward, 10 unclamped output, 11 u_min, 12 u_max, 13 clamped output, 14 injected signal.
-/

namespace Sys2Proof.Machine

/-! ### Number format -/

/-- The largest magnitude of a list. -/
def maxAbs (l : List Rat) : Rat := l.foldl (fun m v => max m |v|) 0

/-- The largest mantissa. -/
def mantMax : Int := 2 ^ 23 - 1

/-- The mantissas of a stage at an exponent (R115). -/
def mantissas (e : Int) (l : List Rat) : List Int := l.map fun v => roundEven (v / pow2 (e - 150))

/-- The exponent that R116 gives a stage, steps 1, 2, 4 and 5, before step 3. -/
def stageExponent (l : List Rat) : Int :=
  let m := maxAbs l
  if m = 0 then 0
  else
    let e := max 0 (128 + ratLog2 m)
    if (mantissas e l).any fun k => 2 ^ 23 ≤ k.natAbs then e + 1 else e

/-- A stage renormalised (R116): its exponent, its mantissas, and whether the exponent saturated. -/
def renormalise (l : List Rat) : Int × List Int × Bool :=
  let e := stageExponent l
  if 255 < e then (255, (mantissas 255 l).map (clampI (-mantMax) mantMax), true) else (e, mantissas e l, false)

/-- The values of a renormalised stage, and whether it overflowed. -/
def roundStage (l : List Rat) : List Rat × Bool :=
  let (e, m, o) := renormalise l
  (m.map fun (k : Int) => (k : Rat) * pow2 (e - 150), o)

/-- Item `k` of a list of numbers. -/
def nthR (l : List Rat) (k : Nat) : Rat := l.getD k 0

/-- A value kept between two bounds. -/
def clampR (lo hi v : Rat) : Rat := max lo (min hi v)

/-- The integrator stored with its residue (R116): a new integrator, residue and overflow. -/
def storeIntegrator (x : Rat) : Rat × Rat × Bool :=
  let (e, m, o) := renormalise [x]
  let i := (m.headD 0 : Rat) * pow2 (e - 150)
  if o then (i, 0, true)
  else (i, (clampI (-mantMax) mantMax (roundEven ((x - i) / pow2 (e - 174))) : Rat) * pow2 (e - 174), false)

/-! ### Configuration of a slot -/

/-- A point of a gain table. -/
def gainPt (s : State) (t k : Nat) : Rat := f32Val (s.get Obj.gainPoint t k)

/-- g(e) of a gain table (R121). -/
def gainOf (s : State) (t : Nat) (e : Rat) : Rat :=
  let split := s.get Obj.gainMode t = 1
  let base : Nat := if split ∧ e < 0 then 32 else 0
  let top : Nat := if split then 31 else 63
  let x := |e| * top / f32Val (s.get Obj.gainSpan t)
  if (top : Rat) ≤ x then gainPt s t (base + top)
  else
    let k := x.floor.toNat
    gainPt s t (base + k) + (x - k) * (gainPt s t (base + k + 1) - gainPt s t (base + k))

/-- The parameter set in use: law, gain table, k_p, k_i, output and integrator limits. -/
structure SlotParams where
  law : Int
  table : Nat
  kp : Rat
  ki : Rat
  uMin : Rat
  uMax : Rat
  iMin : Rat
  iMax : Rat

/-- The parameters of a slot; a block balance slot in set B uses its second set (R107). -/
def paramsOf (s : State) (i : Nat) : SlotParams :=
  if 256 ≤ i ∧ i < 320 ∧ s.get Obj.slotSetInUse (i - 256) = 1 then
    let b := i - 256
    ⟨s.get Obj.slotBLaw b, s.getN Obj.slotBGainTable b, f32Val (s.get Obj.slotBKp b), f32Val (s.get Obj.slotBKi b),
     f32Val (s.get Obj.slotBOutMin b), f32Val (s.get Obj.slotBOutMax b), f32Val (s.get Obj.slotBIntMin b),
     f32Val (s.get Obj.slotBIntMax b)⟩
  else
    ⟨s.get Obj.slotLaw i, s.getN Obj.slotGainTable i, f32Val (s.get Obj.slotKp i), f32Val (s.get Obj.slotKi i),
     f32Val (s.get Obj.slotOutMin i), f32Val (s.get Obj.slotOutMax i), f32Val (s.get Obj.slotIntMin i),
     f32Val (s.get Obj.slotIntMax i)⟩

/-- A standard slot is enabled only while the element it serves is declared and not refused (R105); a free slot unless
its class is 3. -/
def slotEnabled (s : State) (i : Nat) : Bool :=
  if i < 256 then phaseAdmitted s i
  else if i < 320 then blockAdmitted s (i - 256)
  else if i < 344 then outletAdmitted s (i - 320)
  else if i < 368 then outletAdmitted s (i - 344)
  else if i < 416 then outletAdmitted s ((i - 368) / 2) && (if i % 2 = 0 then s.get Obj.flowSource ((i - 368) / 2) == 0
    else s.get Obj.valveActuator ((i - 368) / 2) != 2)
  else s.get Obj.slotClass i != 3

/-- Class of a slot: 0 fast, 1 divided, 2 slow. -/
def slotClassOf (s : State) (i : Nat) : Int := if i < 368 then 0 else if i < 416 then 2 else s.get Obj.slotClass i

/-- Nominal period of a slot in frames (R117). -/
def slotPeriod (s : State) (i : Nat) : Nat :=
  if slotClassOf s i = 1 then 2 ^ (s.getN Obj.slotDivide i) else if slotClassOf s i = 2 then 500 else 1

/-- A held slot is not evaluated (R120): a slot of a block that is OFF, OUT or LATCHED, or one that is held by name. -/
def slotIsHeld (s : State) (i : Nat) : Bool :=
  s.is Reg.slotHeld i ||
  (match blockOfSlot i with
    | some b => blockSt s b == bkOff || blockSt s b == bkOut || blockSt s b == bkLatched
    | none => false)

/-- The outlet a block is bound to in set A (Table 5.1), 255 none. -/
def outletOfBlock (s : State) (b : Nat) : Nat := if s.get Obj.slotSetInUse b = 0 then s.getN Obj.boundOutlet b else 255

/-- The parent of a slot (R112); 0xFFFF none. -/
def parentOf (s : State) (i : Nat) : Nat :=
  if i < 256 then 256 + i / 4
  else if i < 320 then (if outletOfBlock s (i - 256) < 24 then 320 + outletOfBlock s (i - 256) else 0xFFFF)
  else if i < 344 then 344 + (i - 320)
  else if i < 416 then 0xFFFF
  else s.getN Obj.slotParent i

/-- Level of a standard slot (Table 5.1). -/
def standardLevel (i : Nat) : Nat := if i < 256 then 3 else if i < 320 then 2 else if i < 344 then 1 else 0

/-- Level of a slot: a free slot's is its parent's plus 1 (R112); `n` bounds the depth, none beyond it. -/
def levelWithin (s : State) : Nat → Nat → Option Nat
  | 0, _ => none
  | n + 1, i =>
    if i < 416 then some (standardLevel i)
    else
      let p := s.getN Obj.slotParent i
      if p = 0xFFFF then some 0 else (levelWithin s n p).map (· + 1)

/-- Level of a slot, 0 to 3; a deeper chain or a cycle has none. -/
def levelOf (s : State) (i : Nat) : Option Nat :=
  match levelWithin s 5 i with
  | some l => if l ≤ 3 then some l else none
  | none => none

/-- The children of a slot. -/
def childSaturated (s : State) (i : Nat) (kids : List Nat) : Bool :=
  kids.any fun c => parentOf s c == i && (s.get Obj.slotFlags c % 4 != 0)

/-- The free slots that are not disabled. -/
def freeSlots (s : State) : List Nat := ((List.range 608).map (· + 416)).filter fun i => s.get Obj.slotClass i != 3

/-- Every enabled slot, in rising number. -/
def enabledSlots (s : State) : List Nat := ((List.range 416).filter (slotEnabled s)) ++ freeSlots s

/-- The fast and divided slots that declarations and classes enable, as if no element were refused (R110). -/
def fastCount (s : State) : Nat :=
  ((List.range 256).filter (phaseDeclared s)).length + ((List.range 64).filter (blockDeclared s)).length +
  2 * ((List.range 24).filter (outletDeclared s)).length +
  ((freeSlots s).filter fun i => s.get Obj.slotClass i != 2).length

/-- The slots of the slow class (R111). -/
def slowCount (s : State) : Nat :=
  2 * ((List.range 24).filter (outletDeclared s)).length + ((freeSlots s).filter fun i => s.get Obj.slotClass i == 2).length

/-! ### Inputs -/

/-- Output voltage of a block, and input bus voltage of a cabinet [V]. -/
def blockVolts (s : State) (b : Nat) : Rat := (s.get Reg.tmOutVoltage b : Rat) / 20
def busVolts (s : State) (c : Nat) : Rat := (s.get Reg.tmBusVoltage c : Rat) / 20

/-- Current of a phase [A]. -/
def phaseAmps (s : State) (p : Nat) : Rat := (s.get Reg.tmCurrent p : Rat) / 50

/-- Block output voltage over input bus voltage: the feed-forward of a phase duty slot; 0 without a bus. -/
def voltageRatio (s : State) (b : Nat) : Rat := if busVolts s (b / 4) = 0 then 0 else blockVolts s b / busVolts s (b / 4)

/-- The output of a slot. -/
def slotOut (s : State) (i : Nat) : Rat := s.real Reg.slotReal i 13

/-- The value of a source code (Table 5.2), and whether it is a substituted sample (R114). -/
def sourceOf (s : State) (code : Nat) : Rat × Bool :=
  let i := code % 4096
  let k := code / 4096
  if k = 1 then (f32Val (s.get Obj.slotHostValue i), false)
  else if k = 2 then (slotOut s i, false)
  else if k = 3 then (phaseAmps s i, s.is Reg.tmSubstituted (i / 16))
  else if k = 4 then (blockAmps s i, s.is Reg.tmSubstituted (i / 4))
  else if k = 5 then (blockVolts s i, s.is Reg.tmSubstituted (i / 4))
  else if k = 6 then (busVolts s i, s.is Reg.tmSubstituted i)
  else if k = 7 then ((outletMa s i : Rat) / 1000, false)
  else if k = 8 then ((outletMv s i : Rat) / 1000, false)
  else if k = 9 then (((s.seq Reg.tcFilt i).headD 0 : Rat) / 1000000, false)
  else if k = 10 then ((s.get Reg.leTarget i : Rat) / 10, false)
  else (0, false)

/-- Mean of a list of numbers; 0 of none. -/
def meanR (l : List Rat) : Rat := if l.isEmpty then 0 else l.sum / l.length

/-- Reference, measurement, feed-forward of a slot (Table 5.1, R108), and whether a telemetry input is substituted.
The cooling slots take what the cooling function set. -/
def inputsOf (s : State) (i : Nat) : Rat × Rat × Rat × Bool :=
  if i < 256 then
    let b := i / 4
    (slotOut s (256 + b), phaseAmps s i, voltageRatio s b, s.is Reg.tmSubstituted (b / 4))
  else if i < 320 then
    let b := i - 256
    let sub := s.is Reg.tmSubstituted (b / 4)
    let r := s.real Reg.ramp b
    if s.get Obj.slotSetInUse b = 1 then ((s.get Reg.preVoltage b : Rat) / 100 * r, blockVolts s b, 0, sub)
    else
      let n := s.getN Obj.boundOutlet b
      let ref := if n < 24 then slotOut s (320 + n) * s.real Reg.share b * r else 0
      (ref, blockAmps s b, 0, sub)
  else if i < 344 then
    let n := i - 320
    let l := boundBlocksOf s n
    (min ((s.get Reg.leTarget n : Rat) / 10) (slotOut s (344 + n)), (l.map (blockAmps s)).sum, 0,
      l.any fun b => s.is Reg.tmSubstituted (b / 4))
  else if i < 368 then
    let n := i - 344
    let l := boundBlocksOf s n
    ((s.get Reg.leVoltage n : Rat) / 100, meanR (l.map (blockVolts s)), 0, l.any fun b => s.is Reg.tmSubstituted (b / 4))
  else if i < 416 then (s.real Reg.coolReference (i - 368), s.real Reg.coolMeasurement (i - 368), s.real Reg.coolForward (i - 368), false)
  else
    let (r, s1) := sourceOf s (s.getN Obj.slotRefSource i)
    let (y, s2) := sourceOf s (s.getN Obj.slotMeasSource i)
    let (f, s3) := sourceOf s (s.getN Obj.slotFfSource i)
    (r, y, f, s1 || s2 || s3)

/-! ### Test signals and capture -/

/-- Feedback taps of Table 5.5. -/
def prbsTaps (n : Nat) : List Nat :=
  match n with
  | 7 => [7, 6]
  | 8 => [8, 6, 5, 4]
  | 9 => [9, 5]
  | 10 => [10, 7]
  | 11 => [11, 9]
  | 12 => [12, 6, 4, 1]
  | 13 => [13, 4, 3, 1]
  | 14 => [14, 5, 3, 1]
  | _ => [15, 14]

/-- The register's output: the exclusive or of the taps. -/
def prbsOut (n st : Nat) : Bool := (prbsTaps n).foldl (fun a k => a != st.testBit (k - 1)) false

/-- One shift of the register. -/
def prbsShift (n st : Nat) : Nat := (st * 2 + (if prbsOut n st then 1 else 0)) % 2 ^ n

/-- The signal of the running injection at this evaluation of its target (Table 5.4), and the generator after it. -/
def injectionStep (s : State) : Rat × State :=
  let k := s.getN Reg.injectionCount
  let a := f32Val (s.get Obj.injectionAmplitude)
  let tau : Rat := (slotPeriod s (s.getN Reg.injectionSlot) : Rat) * 20 / 1000000
  let f0 := f32Val (s.get Obj.injectionF0)
  let f1 := f32Val (s.get Obj.injectionF1)
  let len := s.getN Obj.injectionLength
  let order := s.getN Obj.prbsOrder
  let st := s.getN Reg.prbsState
  let hold := max 1 (s.getN Obj.prbsHold)
  let sig := s.get Obj.injectionSignal
  let phase := s.real Reg.injectionPhase
  let v : Rat :=
    if sig = 0 then a * Config.sinTurns (f0 * k * tau)
    else if sig = 1 then a * Config.sinTurns phase
    else if sig = 2 then (if prbsOut order st then a else -a)
    else if k < len then 0 else a
  let t := s.set Reg.injectionCount (k + 1)
  let t := if sig = 1 then t.setReal Reg.injectionPhase (phase + tau * (f0 + (f1 - f0) * k / max 1 len)) else t
  (v, if sig = 2 ∧ (k + 1) % hold = 0 then t.set Reg.prbsState (prbsShift order st) else t)

/-- A captured quantity (Table 5.6) as a binary32 pattern, the flags as they are. -/
def captureValue (s : State) (sel : Nat) : Nat :=
  let i := sel / 64 % 1024
  let q := sel % 16
  if q = 7 then s.getN Obj.slotFlags i
  else
    let el := [0, 1, 2, 3, 7, 10, 14, 0, 13].getD q 0
    (f32Of (s.real Reg.slotReal i el)).toNat

/-- One sample of each captured signal written to the bank (R127). -/
def captureSample (s : State) : State :=
  let k := s.getN Obj.samplesTaken
  if s.get Obj.captureState ≠ 1 ∨ 16384 ≤ k then s
  else
    let base := s.getN Reg.captureIn * 0x40000
    let t := s.forN 4 fun q u =>
      let sel := u.getN Obj.captureSignal 0 q
      if sel = 0xFFFFFFFF then u else u.poolWrite (base + q * 0x10000 + 4 * k) (beBytes 4 (captureValue u sel))
    t.set Obj.samplesTaken (k + 1)

/-! ### The control law -/

/-- Flags [4:0] of an evaluation. -/
def lawFlags (u lo hi : Rat) (hold child ovf : Bool) : Int :=
  (if hi < u then 1 else 0) + (if u < lo then 2 else 0) + (if hold && !child then 4 else 0) + (if child then 8 else 0) +
  (if ovf then 16 else 0)

/-- One evaluation of a slot (R117 to R119). `extra` holds flags [9:5]. -/
def evaluateSlot (i : Nat) (kids : List Nat) (extra : Int) (s : State) : State :=
  let prm := paramsOf s i
  let (r, y, f, sub) := inputsOf s i
  let pol : Rat := if s.is Obj.slotPolarity i then -1 else 1
  let inj := s.get Obj.injectionState = 1 ∧ s.getN Reg.injectionSlot = i
  let (sv, s) := if inj then injectionStep s else (0, s)
  let pt := s.get Obj.injectionPoint
  let ei : Rat := if inj then (if pt = 0 then pol * sv else if pt = 1 then sv else 0) else 0
  let ux : Rat := if inj ∧ pt = 2 then sv else 0
  let (es, o1) := roundStage [r, y, pol * (r - y) + ei]
  let e := nthR es 2
  let clear := s.is Reg.slotClearDue i
  let preset := s.is Reg.slotPresetDue i
  let first := s.is Reg.slotFirst i || clear || preset
  let cyc : Rat := (s.get Reg.coreCycles : Rat) - (s.get Reg.slotLast i : Rat)
  let h : Rat := if first then 1 else cyc / (8000 * slotPeriod s i)
  let kp := if prm.table = 255 then prm.kp else prm.kp * gainOf s prm.table e
  let (gs, o2) := roundStage [kp, prm.ki * h, if prm.law = 2 then 0 else kp * e, prm.ki * h * e]
  let p := nthR gs 2
  let q := nthR gs 3
  let i0 := if clear then 0 else s.real Reg.slotReal i 7
  let rho := if clear then 0 else s.real Reg.slotReal i 8
  let child := childSaturated s i kids
  let (hs, _) := roundStage [f, p + i0 + f, prm.uMin, prm.uMax]
  let u0 := p + i0 + nthR hs 0
  let hold := prm.law == 1 || (nthR hs 3 ≤ u0 && 0 < e) || (u0 ≤ nthR hs 2 && e < 0) || child
  let (i1, rho1, o3) : Rat × Rat × Bool :=
    if prm.law = 1 then (0, 0, false)
    else if preset then
      let (a, _, c) := storeIntegrator (clampR prm.iMin prm.iMax (s.real Reg.slotPresetValue i - p - f))
      (a, 0, c)
    else if hold then (i0, rho, false)
    else storeIntegrator (clampR prm.iMin prm.iMax (i0 + q + rho))
  let (os, o4) := roundStage [f, p + i1 + f + ux, prm.uMin, prm.uMax]
  let u := nthR os 1
  let lo := nthR os 2
  let hi := nthR os 3
  let ovf := o1 || o2 || o3 || o4
  let fl := lawFlags u lo hi hold child ovf + extra + (if inj then 128 else 0) + (if sub then 512 else 0)
  let t := (es ++ gs ++ [i1, rho1] ++ os ++ [clampR lo hi u, sv]).zipIdx.foldl (fun w x => w.setReal Reg.slotReal x.1 i x.2) s
  let t := ((t.set Obj.slotFlags fl i).set Reg.slotLast (t.get Reg.coreCycles) i).set Reg.slotFirst 0 i
  let t := (t.set Reg.slotPresetDue 0 i).set Reg.slotClearDue 0 i
  let stage : Int := if o1 then 0 else if o2 then 1 else if o3 then 2 else 3
  let t := if ovf then logLimited 0x5442 srcLe i second (beBytes 2 i ++ data8 [stage]) t else t
  let t := if i < 256 then t.set Reg.dutyRaw (clampI 0 65535 (roundAway (clampR lo hi u * 65536))) i else t
  if t.getN Obj.triggerSlot = i then captureSample t else t

/-- A due slot is issued (R122): evaluated, evaluated on the retry after a mismatch, or held with its previous output
when the retry differs too or was not written back. -/
def issueSlot (kids mism again late : List Nat) (i : Nat) (s : State) : State :=
  if late.contains i then s
  else if mism.contains i then
    let t := s.set Reg.lastMismatch s.frame
    if again.contains i then t.set Obj.slotFlags (t.get Obj.slotFlags i % 32 + 32) i
    else
      let u := evaluateSlot i kids 96 t
      logLimited 0x5440 srcLe i second (beBytes 2 i) ((u.inc Obj.slotMismatches i).inc Obj.correctedMismatches)
  else evaluateSlot i kids 0 s

/-- The slots of a level among those due, in rising number (R113). -/
def ofLevel (s : State) (l : Nat) (due : List Nat) : List Nat := due.filter fun i => levelOf s i == some l

/-- The due slots of a frame: fast ones, and divided ones whose exponent falls due; a held slot is not due (R30, R109). -/
def dueFast (s : State) : List Nat :=
  (enabledSlots s).filter fun i => !slotIsHeld s i && (slotClassOf s i == 0 || (slotClassOf s i == 1 && s.frame % 2 ^ s.getN Obj.slotDivide i == 0))

/-- The due slots of a slow tick. -/
def dueSlow (s : State) : List Nat := (enabledSlots s).filter fun i => !slotIsHeld s i && slotClassOf s i == 2

/-- The block that a mismatching slot concerns, or the blocks of its outlet (R123). -/
def blocksOfSlot (s : State) (i : Nat) : List Nat :=
  match blockOfSlot i with
  | some b => [b]
  | none => if i < 368 then boundBlocksOf s ((i - 320) % 24) else []

/-- Second mismatches of the frame (R122, R123): action 1 handover, 2 the blocks concerned stop, 3 every block is sent OFF
records in the next frame. -/
def judgeMismatches (due mism again : List Nat) (s : State) : State :=
  let bad := due.filter mism.contains
  let worse := bad.filter again.contains
  if bad.length + worse.length < 2 then s
  else
    let last := s.getN Reg.secondMismatchAt
    let run := if last = s.frame + 1 then s.get Reg.secondMismatchRun
      else if last = s.frame then s.get Reg.secondMismatchRun + 1 else 1
    let s := if last = s.frame + 1 then s else (s.set Reg.secondMismatchAt (s.frame + 1)).inc Obj.framesWithASecondMismatch
    let act : Int := if 8 ≤ run then 3 else if standbyFit s then 1 else 2
    let t := s.set Reg.secondMismatchRun run
    let text := data8 [act] ++ (bad.mergeSort (· ≤ ·)).flatMap fun i => beBytes 2 i
    let t := if run = 8 then endEpisode 0x5441 3 t else t
    let t := logLimited 0x5441 srcLe act.toNat second (text.take 18) t
    if act = 3 then t.set Reg.allOffNext 1
    else if act = 1 then t.set Reg.handoverDue 1
    else t.forL (bad.flatMap (blocksOfSlot t)) fun b u => stopBlock b (u.set Reg.startRefused 1 b)

end Sys2Proof.Machine
end

