-- ==== Sys2Proof/Machine/Phases.lean ====
section
/-!
DEFINITION. The commands of a block's start and stop, of phase faults and of shedding (Converter phase control).
-/

namespace Sys2Proof.Machine

/-- The phase has a bootstrap-supplied high side (R72). -/
def bootstrap (s : State) (p : Nat) : Bool := s.bit Obj.declaredSupplyMap (p % 16) (cabOf p)

/-- Mean duty of the active phases of a block in the previous frame, as a fraction (R119). -/
def meanDuty (s : State) (b : Nat) : Rat :=
  meanR ((activePhases s b).map fun p => (s.get Reg.dutyCommanded p : Rat)) / 65536

/-- A start request from the allocator (R83, R90). -/
def execBlockStartRequest (block : Fin 64) (s : State) : Out := s.run fun s => startBlock block s

/-- A stop request from the allocator (R89, R90). -/
def execBlockStopRequest (block : Fin 64) (s : State) : Out := s.run fun s => stopBlock block s

/-- The output falls below 10 % of the input bus: TEST begins (R83). -/
def execOutputDischargeWaitEnd (block : Fin 64) (s : State) : Out :=
  s.run fun s =>
    if s.is Reg.startWaiting block ∧ blockSt s block = bkOff ∧ outputDischarged s block then beginTest block s else s

/-- 2500 frames without discharge: the start is refused with cause 1 (R83). -/
def execOutputDischargeTimeout (block : Fin 64) (s : State) : Out :=
  s.run fun s =>
    if s.is Reg.startWaiting block ∧ s.getN Reg.startAt block + 2500 ≤ s.frame ∧ ¬ outputDischarged s block then
      refuseStart block 1 s
    else s

/-- The phases found with a shorted high side are locked out (R86). -/
def judgeShorts (b : Nat) (s : State) : State :=
  s.forL (usablePhases s b) fun p u =>
    if 3 ≤ u.get Reg.testOver p then
      lockPhase p 1 (logEvent 0x3820 srcAp1 (data8 [p] ++ beBytes 2 (u.get Reg.testLargest p)) u)
    else u

/-- Step 3 of Table 4.4: the 4 test samples are judged; the start goes on, or is refused with cause 4 (R85, R86). -/
def execShortedHighSideEvaluation (block : Fin 64) (s : State) : Out :=
  s.run fun s =>
    if blockSt s block = bkTest ∧ s.getN Reg.startAt block + 4 ≤ s.frame then
      let t := judgeShorts block s
      if blockSt t block = bkTest then setBlock block bkStartDelay t else refuseStart block 4 t
    else s

/-- The start delay, which began at F(S + 5), has elapsed for the frame that the next command applies to (R85). -/
def execStartDelayEnd (block : Fin 64) (s : State) : Out :=
  s.run fun s =>
    if blockSt s block = bkStartDelay ∧ s.get Reg.gateReadyBy block = 0 ∧
        s.getN Reg.startAt block + 5 + s.getN Obj.startDelay block ≤ s.frame + 1 then
      s.set Reg.gateReadyBy s.frame block
    else s

/-- The cabinet's terminal reports gate-drive ready (Table 3.6). -/
def gateReady (s : State) (c : Nat) : Bool := s.bit Reg.tmState 3 c

/-- Gate-drive ready after the delay: RAMP_ON, the phases ACTIVE, their duty slots preset (R85, R119). -/
def rampOn (b : Nat) (s : State) : State :=
  let t := movePhases b [phOff] phActive ((setBlock b bkRampOn s).setReal Reg.ramp 0 b)
  t.forL (activePhases t b) fun p u => presetSlot (dutySlot p) (clampR 0 1 (voltageRatio u b)) u

def execGateDriveReady (block : Fin 64) (s : State) : Out :=
  s.run fun s =>
    if blockSt s block = bkStartDelay ∧ s.get Reg.gateReadyBy block ≠ 0 ∧ gateReady s (cabOfBlock block) then
      rampOn block s
    else s

/-- Gate-drive ready missing for 200 frames: the start is refused with cause 3 (R87). -/
def execGateDriveTimeout (block : Fin 64) (s : State) : Out :=
  s.run fun s =>
    if blockSt s block = bkStartDelay ∧ s.get Reg.gateReadyBy block ≠ 0 ∧ s.getN Reg.gateReadyBy block + 200 ≤ s.frame then
      holdBlockSlots block (refuseStart block 3 (setBlock block bkOff s))
    else s

/-- The block of a join enters RUNNING: step 4 of Table 6.3 begins at G (R497). -/
def joinRuns (b : Nat) (s : State) : State :=
  if s.get Reg.mvKind b = 2 ∧ s.get Reg.mvStep b = 2 then
    ((s.set Reg.mvStep 4 b).set Reg.mvO s.frame b).set Reg.nearRun 0 b
  else s

/-- The start ramp has elapsed: RUNNING (R85). -/
def execRampOnComplete (block : Fin 64) (s : State) : Out :=
  s.run fun s =>
    if blockSt s block = bkRampOn ∧ 1 ≤ s.real Reg.ramp block then
      joinRuns block (setBlock block bkRunning (s.setReal Reg.ramp 1 block))
    else s

/-- The ramp factor reaches 0: OFF records to every phase, STOP_DELAY (R89). -/
def execRampOffComplete (block : Fin 64) (s : State) : Out :=
  s.run fun s =>
    if blockSt s block = bkRampOff ∧ s.real Reg.ramp block ≤ 0 then
      setBlock block bkStopDelay (movePhases block [phActive, phShed] phOff (s.setReal Reg.ramp 0 block))
    else s

/-- The stop delay has elapsed: OFF, and a held start request is judged (R89, R90). -/
def execStopDelayEnd (block : Fin 64) (s : State) : Out :=
  s.run fun s =>
    if blockSt s block = bkStopDelay ∧ s.getN Reg.blockSince block + s.getN Obj.stopDelay block ≤ s.frame then
      let t := holdBlockSlots block (setBlock block bkOff (s.set Reg.startHeld 0 block))
      if s.is Reg.startHeld block then startBlock block t else t
    else s

/-! ### Latch, retry, lockout -/

/-- A value below 50 V at a latched block: its telemetry, or DMn when its link carries none (R93). -/
def latchedLow (s : State) (n b : Nat) : Bool :=
  if linkUp s (cabOfBlock b) then s.get Reg.tmOutVoltage b < 1000 else s.get Obj.dcVoltage n < 50000

/-- Clearing the over-voltage latch of a block's outlet (R93). -/
def execClearOverVoltageLatch (r : Req) (block : Fin 64) (data : List Byte) (s : State) : Out :=
  s.run fun s => hostWrite r Obj.clearOverVoltageLatch block 0 data (fun _ t =>
    let n := t.getN Obj.latchingOutlet block
    if blockSt t block ≠ bkLatched then .error 6
    else if ¬ (t.get Obj.dcVoltage n < 50000) then .error 6
    else if (List.range 64).any fun b => blockSt t b == bkLatched && t.getN Obj.latchingOutlet b == n && !latchedLow t n b then
      .error 6
    else .ok (clearLatch n t)) s

/-- The retry delay has elapsed: ACTIVE with a preset duty, or OFF (R94). -/
def execRetryDelayEnd (phase : Fin 256) (s : State) : Out :=
  s.run fun s =>
    let b := blockOf phase
    if phaseSt s phase = phRetry ∧ s.getN Reg.retryAt phase + s.getN Obj.retryDelay phase ≤ s.frame then
      if switching s b then setPhase phase phActive (presetSlot (dutySlot phase) (meanDuty s b) s)
      else setPhase phase phOff s
    else s

/-- Clearing a phase lockout (R96). -/
def execClearLockout (r : Req) (phase : Fin 256) (data : List Byte) (s : State) : Out :=
  s.run fun s => hostWrite r Obj.clearLockout phase 0 data (fun role t =>
    let b := blockOf phase
    if phaseSt t phase ≠ phLocked then .error 6
    else if t.get Obj.lockoutCause phase = 1 ∧ role ≠ roleService then .error 3
    else if blockSt t b ≠ bkOff ∧ blockSt t b ≠ bkOut then .error 6
    else
      let u := submitObject wrAp1 jkObject Obj.lockoutCause phase 0 true (t.set Obj.lockoutCause 0 phase)
      .ok (recoverBlock b (logEvent 0x3823 srcAp1 (data8 [phase.val]) (setPhase phase phOff u)))) s

/-! ### Shedding -/

/-- The level named by R102 and R103: a percentage of (switching phases x current rating / 4) [A]. -/
def shedLevel (s : State) (b : Nat) (percent : Rat) : Rat :=
  percent / 100 * ((activePhases s b).length : Rat) * (s.get Obj.blockCurrentRating b : Rat) / 40

/-- Shedding may run: RUNNING, no latch on the outlet, no migration (R104). -/
def shedAllowed (s : State) (b : Nat) : Bool :=
  blockSt s b == bkRunning && s.is Obj.sheddingEnable b && s.get Reg.mvKind b == 0 &&
  !((List.range 24).any fun n => boundTo s b n && s.is Reg.outletLatch n)

/-- The phase to shed: the highest-numbered switching one that is not bootstrap-supplied, never the last one (R78, R102). -/
def shedChoice (s : State) (b : Nat) : Option Nat :=
  if (activePhases s b).length < 2 then none else ((activePhases s b).filter fun p => !bootstrap s p).getLast?

def execPhaseShed (block : Fin 64) (s : State) : Out :=
  s.run fun s =>
    if shedAllowed s block ∧ 500 ≤ s.get Reg.shedHold block then
      match shedChoice s block with
      | some p => setPhase p phShed (s.set Reg.shedHold 0 block)
      | none => s
    else s

/-- Every SHED phase of a block returns to ACTIVE with its duty preset (R103). -/
def endShedding (b : Nat) (cause : Int) (s : State) : State :=
  let l := (phasesOf b).filter fun p => phaseSt s p == phShed
  if l.isEmpty then s
  else
    let mean := meanR ((activePhases s b).map fun p => (s.get Reg.dutyRaw p : Rat)) / 65536
    let t := s.forL l fun p u => setPhase p phActive (presetSlot (dutySlot p) mean u)
    logEvent 0x3225 srcAp1 (data8 [b, cause]) (t.set Reg.shedHold 0 b)

/-- The cause that ends shedding in this frame, 0 none (R103): the block reference has risen by more than the step
threshold; the current error exceeds 20 % of a reference of at least 5 % of the rating; the current exceeds 80 %. -/
def shedEndCause (s : State) (b : Nat) : Int :=
  let ref := s.real Reg.slotReal (balanceSlot b) 0
  if (s.get Obj.stepThreshold b : Rat) / 10 < ref - s.real Reg.referenceBefore b then 1
  else if (s.get Obj.effectiveRating b : Rat) / 200 ≤ ref ∧ ref / 5 < |ref - blockAmps s b| then 2
  else if shedLevel s b 80 < blockAmps s b then 3
  else 0

/-- Shedding judged after the block level of the fast class (R103), for blocks in set A. -/
def judgeShedding (b : Nat) (s : State) : State :=
  let t := if blockSt s b = bkRunning ∧ s.get Obj.slotSetInUse b = 0 ∧ shedEndCause s b ≠ 0 then
      endShedding b (shedEndCause s b) s else s
  t.setReal Reg.referenceBefore (t.real Reg.slotReal (balanceSlot b) 0) b

end Sys2Proof.Machine
end

