-- ==== Sys2Proof/Machine/Telemetry.lean ====
section
/-!
DEFINITION. What the module concludes from the telemetry of a frame at F0 + 3.0 us: substitution, the over-voltage latch,
reported faults, open phases and failed senses, contactor reports (R28, R57, R91 to R101, R148, R496).
-/

namespace Sys2Proof.Machine

/-! ### Missing telemetry and lanes -/

/-- A link without good telemetry keeps its previous sample and counts a miss (R28). -/
def settleTelemetry (c : Nat) (s : State) : State :=
  if ¬ linkUp s c then s
  else if s.is Reg.linkGood c then (s.set Reg.linkMisses 0 c).set Reg.tmSubstituted 0 c
  else
    let t := (s.inc Obj.lateTelemetry).inc Obj.lateOrMissingTelemetry c
    (t.set Reg.linkMisses (t.get Reg.linkMisses c + 1) c).set Reg.tmSubstituted 1 c

/-- An up lane's copies: 16 consecutive CRC failures put it out of service, 5000 frames without one count for its return
(R57). -/
def settleLane (c l : Nat) (s : State) : State :=
  let k := 4 * c + l
  if ¬ (lkAlign ≤ s.get Obj.linkState c ∧ s.get Obj.linkState c ≤ lkOneLane) then s
  else if s.is Reg.laneCopyFailed k then
    let t := ((s.set Reg.laneCrcRun (s.get Reg.laneCrcRun k + 1) k).set Reg.laneCrcGood 0 k).set Reg.laneCopyFailed 0 k
    if 16 ≤ t.get Reg.laneCrcRun k then laneOut c l t else t
  else
    let t := (s.set Reg.laneCrcRun 0 k).set Reg.laneCrcGood (s.get Reg.laneCrcGood k + 1) k
    if 10 ≤ t.get Reg.laneGoodScans k ∧ 5000 ≤ t.get Reg.laneCrcGood k then laneBack c l t else t

/-! ### The over-voltage latch -/

/-- The value of an outlet above its over-voltage level, if any [0.01 V] (R91). -/
def overVoltage (s : State) (n : Nat) : Option Int :=
  let l := ((boundBlocksOf s n).filter fun b => linkUp s (cabOfBlock b)).map fun b => s.get Reg.tmOutVoltage b * 50
  let l := if dmFaulted s n 0 then l else l ++ [s.get Obj.dcVoltage n]
  (l.find? fun v => s.get Obj.overVoltageLevel n * 10 < v).map fun v => v / 10

/-- The latch is set when a value exceeds the level, and the outlet takes end cause 12 (R91, R182). -/
def judgeLatch (n : Nat) (s : State) : State :=
  if ¬ outletDeclared s n ∨ s.is Reg.outletLatch n then s
  else
    match overVoltage s n with
    | some v => refreshAvail n (outletFault n 12 false (setLatch n v s))
    | none => s

/-! ### Reported faults -/

/-- One fault counted (R95): three within 1000 frames lock the phase out. -/
def countFault (p : Nat) (s : State) : State :=
  let st := s.getN Reg.tmStatus p
  let recent := ((s.seq Reg.faultFrames p).filter fun f => (s.frame : Int) < f + 1000) ++ [(s.frame : Int)]
  let t := ((s.setSeq Reg.faultFrames recent p).set Reg.turnedOn 0 p).inc Obj.faultCount p
  let t := logLimited 0x3821 srcAp1 p second (data8 [p, st / 32]) (t.set Obj.lastFaultStatus (st / 16 : Nat) p)
  if 3 ≤ recent.length ∧ usable t p then lockPhase p 2 t else t

/-- A phase's fault report (R92, R94, R95): counted on its rise or after a turn-on edge; an active phase goes to RETRY, and
a latched one stays off until the latch is cleared. -/
def judgeFault (p : Nat) (s : State) : State :=
  let st := s.getN Reg.tmStatus p
  let before := s.getN Reg.tmStatusBefore p
  let t := s.set Reg.tmStatusBefore st p
  if phaseSt t p = phUndeclared then t
  else
    let t := if st.testBit 4 ∧ 32 ≤ st then
        (if phaseSt t p = phActive then setPhase p phRetry (t.set Reg.retryAt t.frame p)
         else if phaseSt t p = phLatched then setPhase p phOff t else t)
      else t
    if st.testBit 4 ∧ (¬ before.testBit 4 ∨ t.is Reg.turnedOn p) then countFault p t else t

/-! ### Open phases and failed senses -/

/-- Phase currents are held in units of 0.02 A; deviations from the median in units of 0.01 A, so that a mean of two is
whole. -/
def deviation (s : State) (b p : Nat) : Int :=
  roundAway (2 * ((s.get Reg.tmCurrent p : Rat) - median ((activePhases s b).map fun q => s.get Reg.tmCurrent q)))

/-- Rating of a phase in units of 0.01 A. -/
def phaseRatingU (s : State) (p : Nat) : Int := 10 * s.get Reg.phaseRating (cabOf p)

/-- The duty of the phase is normal (R97). -/
def dutyNormal (s : State) (p : Nat) : Bool :=
  let b := blockOf p
  blockSt s b == bkRunning && s.getN Reg.activeSetAt b + 16 ≤ s.frame && s.get Reg.tmDuty p == s.get Reg.dutyCommanded p &&
  !s.is Reg.dutyClamped p

/-- A detection counter of the block is running. -/
def detecting (s : State) (b : Nat) : Bool :=
  s.get Reg.mismatchCount b != 0 || (phasesOf b).any fun p => s.get Reg.openCount p != 0 || s.get Reg.rangeCount p != 0

/-- The deviation exceeds max(10 % of the rating, 3 sigma), sigma by R98. -/
def isOpenDeviation (s : State) (b p : Nat) : Bool :=
  let d := deviation s b p
  let h := s.seq Reg.deviations p
  phaseRatingU s p < 10 * |d| && (h.isEmpty || 9 * h.sum < d * d * h.length)

/-- Two duties of a list lie at least 256/65536 apart (R99). -/
def spans256 (l : List Int) : Bool := l.any fun x => l.any fun y => 256 ≤ x - y

/-- What a phase's own counters show: 0 nothing, 1 open, 2 stuck bits, 3 out of range. -/
def phaseFinding (s : State) (p : Nat) : Nat :=
  if 8 ≤ s.get Reg.openCount p then 1
  else if 64 ≤ s.get Reg.stuckCount p ∧ spans256 (s.seq Reg.stuckDuties p) then 2
  else if 2 ≤ s.get Reg.rangeCount p then 3
  else 0

/-- The counters of an active phase brought forward by one frame (R98, R99, R101). -/
def countPhase (b p : Nat) (s : State) : State :=
  let v := s.get Reg.tmCurrent p
  let normal := dutyNormal s p
  let t := s.set Reg.openCount (if normal ∧ isOpenDeviation s b p then s.get Reg.openCount p + 1 else 0) p
  let duty := s.get Reg.dutyCommanded p
  let same := s.get Reg.stuckCount p ≠ 0 ∧ s.get Reg.stuckBits p = v % 16
  let t := (t.set Reg.stuckBits (v % 16) p).set Reg.stuckCount (if same then s.get Reg.stuckCount p + 1 else 1) p
  let t := t.setSeq Reg.stuckDuties (if same then (duty :: s.seq Reg.stuckDuties p).take 64 else [duty]) p
  let out := 3 * phaseRatingU s p < 4 * |v| ∨ v = 0x7FFF ∨ v = -0x8000
  let t := t.set Reg.rangeCount (if out then s.get Reg.rangeCount p + 1 else 0) p
  if normal ∧ ¬ detecting t b then
    t.setSeq Reg.deviations ((deviation s b p * deviation s b p :: s.seq Reg.deviations p).take 1024) p
  else t

/-- The sum of the active phase currents, in 20 mA. -/
def phaseSum (s : State) (b : Nat) : Int := ((activePhases s b).map fun p => s.get Reg.tmCurrent p).sum

/-- The block's mismatch counter brought forward (R99). -/
def countMismatch (b : Nat) (s : State) : State :=
  let bad := s.bit Reg.tmBlockFlags 0 b ∧ ¬ s.bit Obj.blockState 0 b ∧
    max (s.get Obj.effectiveRating b) 2000 < 2 * |phaseSum s b - 5 * s.get Reg.tmOutCurrent b|
  s.set Reg.mismatchCount (if bad then s.get Reg.mismatchCount b + 1 else 0) b

/-- The active phase that deviates most. -/
def worstPhase (s : State) (b : Nat) : Option Nat :=
  (activePhases s b).foldl (fun a p => match a with
    | none => some p
    | some q => if |deviation s b q| < |deviation s b p| then some p else some q) none

/-- A phase found open (cause 3) or with a failed sense (cause 4) leaves the block (R100): locked out, or, with two active
phases, both sent OFF and the block OUT with an unresolved fault. -/
def rejectPhase (b p : Nat) (cause : Int) (s : State) : State :=
  if (activePhases s b).length = 2 then
    blockOut b (s.setBit Obj.blockState 1 true b)
  else lockPhase p cause s

/-- A finding about a phase: its event, then the reaction (R98 to R100). -/
def reactPhase (b p : Nat) (s : State) : State :=
  let f := phaseFinding s p
  if f = 0 ∨ phaseSt s p ≠ phActive then s
  else if f = 1 then rejectPhase b p 3 (logEvent 0x3824 srcAp1 (data8 [p] ++ beBytes 4 (deviation s b p)) s)
  else rejectPhase b p 4 (logEvent 0x3825 srcAp1 (data8 [p, (f : Int) - 1]) s)

/-- A mismatch that has lasted 8 frames: attributed to a phase, or the output sense is substituted (R99). -/
def reactMismatch (b : Nat) (s : State) : State :=
  if s.get Reg.mismatchCount b < 8 then s
  else
    let t := s.set Reg.mismatchCount 0 b
    match worstPhase s b with
    | some p =>
      if phaseRatingU s p < 20 * |deviation s b p| then rejectPhase b p 4 (logEvent 0x3825 srcAp1 (data8 [p, 3]) t)
      else logEvent 0x3227 srcAp1 (data8 [b]) (t.setBit Obj.blockState 0 true b)
    | none => t

/-- Detection for a block, stopped for 16 frames after its active set changed (R97 to R101). -/
def detect (b : Nat) (s : State) : State :=
  let s := s.set Reg.phasesMeasured (phaseSum s b) b
  if ¬ switching s b ∨ s.frame < s.getN Reg.activeSetAt b + 16 then s
  else
    let t := countMismatch b (s.forL (activePhases s b) fun p u => countPhase b p u)
    reactMismatch b (t.forL (activePhases t b) fun p u => reactPhase b p u)

/-! ### Other samples -/

/-- A test sample of a starting block (R85, R86). -/
def takeTest (b : Nat) (s : State) : State :=
  if blockSt s b ≠ bkTest ∨ s.frame < s.getN Reg.startAt b + 1 ∨ s.getN Reg.startAt b + 4 < s.frame then s
  else
    s.forL (phasesOf b) fun p u =>
      let v := u.get Reg.tmSwitchNode p
      let u := u.set Reg.testLargest (max v (u.get Reg.testLargest p)) p
      if u.get Reg.tmBusVoltage (cabOf p) < 10 * v then u.set Reg.testOver (u.get Reg.testOver p + 1) p else u

/-- The phase meets the idle window and supply state of R496 in this frame. -/
def idleWindow (s : State) (p : Nat) : Bool :=
  let v := s.get Reg.tmCurrent p
  let c := cabOf p
  10 * |v| ≤ phaseRatingU s p && v != 0x7FFF && v != -0x8000 &&
  s.get Reg.tmSwitchNode p ≤ max (s.get Reg.tmBusVoltage c / 10) 400 &&
  (s.bit Obj.declaredSupplyMap (p % 16) c || (s.bit Reg.tmStatus 2 p && !s.bit Reg.tmStatus 5 p))

/-- The idle judgement of a phase brought forward by one frame (R496). -/
def countIdle (p : Nat) (s : State) : State :=
  let off := phaseSt s p ≠ phActive ∧ phaseSt s p ≠ phLatched
  if off ∧ s.bit Reg.tmStatus 1 p then
    (s.set Reg.idleJudged (min 4 (s.get Reg.idleJudged p + 1)) p).set Reg.idleFrames
      (if idleWindow s p then min 4 (s.get Reg.idleFrames p + 1) else 0) p
  else (s.set Reg.idleJudged 0 p).set Reg.idleFrames 0 p

/-- The largest dv/dt since the last slow tick (R81). -/
def peakDvdt (p : Nat) (s : State) : State :=
  (s.set Reg.trimPeakOn (max (s.get Reg.trimPeakOn p) (s.get Reg.tmDvdtOn p)) p).set Reg.trimPeakOff
    (max (s.get Reg.trimPeakOff p) (s.get Reg.tmDvdtOff p)) p

/-- A contactor that disagrees or whose coil has failed withholds its block (R148). -/
def judgeContactors (b : Nat) (s : State) : State :=
  if ¬ blockAdmitted s b ∨ s.get Obj.allocState b = 7 then s
  else
    match [0, 1, 2, 3].find? fun r => 2 ≤ contactorReported s b r with
    | some r => withholdBlock b r (if contactorReported s b r = 2 then 1 else 2) s
    | none => s

/-- What is counted for a block in every frame (R102, R146, R150). -/
def countBlock (b : Nat) (s : State) : State :=
  let t := s.set Reg.lowOut (runOf (belowMag (blockMa s b) 5000) (s.get Reg.lowOut b)) b
  let n := s.getN Reg.mvTarget b
  let near := s.get Reg.mvStep b = 4 ∧ n < 24 ∧ within (s.get Reg.tmOutVoltage b * 50) (outletMv s n) 2
  let t := t.set Reg.nearRun (runOf near (s.get Reg.nearRun b)) b
  t.set Reg.shedHold (if shedAllowed s b ∧ blockAmps s b < shedLevel s b 30 then s.get Reg.shedHold b + 1 else 0) b

/-- Everything the module concludes from the samples of one cabinet. -/
def judgeCabinet (c : Nat) (s : State) : State :=
  if ¬ linkUp s c then s
  else
    let t := s.forN 16 fun i u => countIdle (16 * c + i) (peakDvdt (16 * c + i) (judgeFault (16 * c + i) u))
    t.forL (blocksOf c) fun b u => countBlock b (judgeContactors b (detect b (takeTest b u)))

/-- F0 + 3.0 us. -/
def telemetryDeadline (s : State) : State :=
  let t := s.set Reg.deadlinePassed 1
  let t := t.forN 16 fun c u => settleLane c 1 (settleLane c 0 (settleTelemetry c u))
  let t := t.forN 16 judgeCabinet
  let t := t.forN 24 judgeLatch
  t.forN 24 outletFrame

def execTelemetryDeadline (s : State) : Out := s.run telemetryDeadline

end Sys2Proof.Machine
end

