-- ==== Sys2Proof/Machine/Allocator.lean ====
section
/-!
DEFINITION. The Loam allocator: limits and scaling, the allocation pass, current targets, shares, matrix contactors and
hitless migration (Site power sharing). Powers are exact numbers of watts, currents of amperes; the objects show them
rounded.
-/

namespace Sys2Proof.Machine

/-! ### Powers -/

/-- Conversion efficiency. -/
def eta (s : State) : Rat := (s.get Obj.efficiency : Rat) / 1000

/-- Output power of a block [W]. -/
def blockWatts (s : State) (b : Nat) : Rat := if linkUp s (cabOfBlock b) then blockVolts s b * blockAmps s b else 0

/-- P_dc: the sum over all blocks, and over the blocks of a feeder (R133). -/
def dcWatts (s : State) : Rat := ((List.range 64).map (blockWatts s)).sum
def dcWattsOf (s : State) (f : Nat) : Rat := (((List.range 64).filter fun b => feederOf s b == f).map (blockWatts s)).sum

/-- F_f: the fraction of P_dc drawn by blocks of cabinets declared on a feeder. -/
def feederFraction (s : State) (f : Nat) : Rat := if dcWatts s = 0 then 0 else dcWattsOf s f / dcWatts s

/-- P_f: active import power of a feeder over its last cycle [W]. -/
def feederWatts (s : State) (f : Nat) : Rat := (s.get Obj.afActivePower f : Rat)

/-- The import of a feeder estimated for this frame (R133). -/
def feederEstimate (s : State) (f : Nat) : Rat :=
  feederWatts s f + (dcWatts s - s.real Reg.pdcMean f) * feederFraction s f / eta s

/-- P_est (R133). -/
def importEstimate (s : State) : Rat := ((List.range 4).map (feederEstimate s)).sum

/-- A feeder's share of the measured auxiliary load, over its last cycle (R138). -/
def feederAux (s : State) (f : Nat) : Rat := feederWatts s f - s.real Reg.pdcMean f * feederFraction s f / eta s

/-- P_aux: measured auxiliary load of the last cycle (R138). DEDUCED: its P_dc is the mean of R133, feeder by feeder. -/
def auxLoad (s : State) : Rat := ((List.range 4).map (feederAux s)).sum

/-- The dynamic limit in force [0.1 kW]: the fallback once expired (R132). -/
def dynamicLimit (s : State) : Int :=
  if s.is Reg.dynamicExpired then s.get Obj.dynamicLimitFallback else s.get Obj.dynamicSiteImportLimit

/-- The effective site limit [0.1 kW] (R132). -/
def siteLimit (s : State) : Int := min (s.get Obj.staticSiteImportLimit) (dynamicLimit s)

/-- A number of watts in units of 0.1 kW, rounded. -/
def kw10 (w : Rat) : Int := roundAway (w / 100)

/-- C: available DC power [W] (R138). -/
def availableDc (s : State) : Rat :=
  max 0 (((siteLimit s - s.get Obj.auxReserve : Int) : Rat) * 100 - max 0 (auxLoad s)) * eta s

/-! ### Scale factors -/

/-- Scale factor `k`: 0 site, 1 to 4 feeders, 5 to 20 cabinets. -/
def scaleOf (s : State) (k : Nat) : Rat := 1 - s.real Reg.kLoss 0 k

/-- A scale factor lowered so that the charging share fits under the limit (R134, R135); without a charging share there
is nothing to scale. -/
def lowerScale (k : Nat) (limit other charging : Rat) (s : State) : State :=
  if charging ≤ 0 then s
  else s.setReal Reg.kLoss (1 - clampR 0 1 (min (scaleOf s k) ((limit - other) / charging))) 0 k

/-- The factor as event data [0.0001]. -/
def scaleBytes (s : State) (k : Nat) : List Byte := beBytes 2 (roundAway (scaleOf s k * 10000))

/-- The site import scaled (R134). -/
def scaleSite (s : State) : State :=
  let est := importEstimate s
  let limit := (siteLimit s : Rat) * 100
  let ch := dcWatts s / eta s
  let t := s.set Obj.importEstimate (kw10 est)
  if 102 * limit < 100 * est then
    let u := (lowerScale 0 limit (est - ch) ch t).inc Obj.scalingCount
    logLimited 0x3330 srcAp1 0 second (data32 (kw10 est) ++ scaleBytes u 0) u
  else t

/-- RMS current of a feeder phase [A], and its charging share (R135). -/
def phaseRms (s : State) (f j : Nat) : Rat := (s.get Obj.afCurrent f j : Rat) / 1000
def phaseCharging (s : State) (f j : Nat) : Rat :=
  let ch := s.real Reg.pdcMean f * feederFraction s f / eta s
  if feederWatts s f ≤ ch then phaseRms s f j else phaseRms s f j * ch / feederWatts s f

/-- A feeder scaled on its power and on its phase currents (R135). -/
def scaleFeeder (f : Nat) (s : State) : State :=
  let est := feederEstimate s f
  let t := s.set Obj.feederImport (kw10 est) f
  let pl := t.get Obj.feederPowerLimit f
  let over1 := pl ≠ 0xFFFFFFFF ∧ 102 * ((pl : Rat) * 100) < 100 * est
  let ch := dcWatts t * feederFraction t f / eta t
  let u := if over1 then lowerScale (1 + f) ((pl : Rat) * 100) (est - ch) ch t else t
  let il := t.get Obj.feederPhaseCurrentLimit f
  let lim := (il : Rat) / 10
  let over2 := il ≠ 0xFFFFFFFF ∧ [0, 1, 2].any fun j => decide (102 * lim < 100 * phaseRms t f j)
  let u := if over2 then u.forN 3 fun j w =>
      if lim < phaseRms t f j then lowerScale (1 + f) lim (phaseRms t f j - phaseCharging t f j) (phaseCharging t f j) w else w
    else u
  if over1 ∨ over2 then logLimited 0x3331 srcAp1 f second (data8 [f] ++ scaleBytes u (1 + f)) u else u

/-- A cabinet scaled on its input power (R135). -/
def scaleCabinet (c : Nat) (s : State) : State :=
  if ¬ linkUp s c then s
  else
    let p := busVolts s c * (s.get Reg.tmBusCurrent c : Rat) / 10
    let t := s.set Obj.cabinetInputPower (kw10 p) c
    let l := t.get Obj.cabinetPowerLimit c
    if l ≠ 0xFFFFFFFF ∧ 102 * ((l : Rat) * 100) < 100 * p then
      let ch := ((blocksOf c).map (blockWatts t)).sum / eta t
      let u := lowerScale (5 + c) ((l : Rat) * 100) (p - ch) ch t
      logLimited 0x3332 srcAp1 c second (data8 [c] ++ scaleBytes u (5 + c)) u
    else t

/-- The factors that apply to an outlet: the site's, and those of the feeders and cabinets of its bound blocks (R135). -/
def scalesOf (s : State) (n : Nat) : List Nat :=
  0 :: (boundBlocksOf s n).flatMap fun b => [1 + feederOf s b, 5 + cabOfBlock b]

/-- The least of them, and its number. -/
def leastScale (s : State) (n : Nat) : Rat × Nat :=
  (scalesOf s n).foldl (fun a k => if scaleOf s k < a.1 then (scaleOf s k, k) else a) (scaleOf s 0, 0)

/-! ### Blocks of an outlet -/

/-- Effective rating of a block [A]. -/
def effAmps (s : State) (b : Nat) : Rat := (s.get Obj.effectiveRating b : Rat) / 10

/-- A settled block: bound in set A and taking part in no migration, join or release (R142). -/
def settledAt (s : State) (n b : Nat) : Bool :=
  boundTo s b n && s.get Reg.setNext b == 0 && s.get Reg.mvKind b == 0 && s.get Obj.allocState b == 1 && s.get Reg.blockEmpty b == 0

/-- The settled blocks of an outlet. -/
def settledOf (s : State) (n : Nat) : List Nat := (List.range 64).filter (settledAt s n)

/-- The sum of effective ratings. -/
def effSum (s : State) (l : List Nat) : Rat := (l.map (effAmps s)).sum

/-- The blocks term: each settled block's lesser of rating and cabinet thermal limit [A] (R142). -/
def blocksTerm (s : State) (n : Nat) : Rat :=
  ((settledOf s n).map fun b => min (effAmps s b) ((s.get Obj.cabinetThermalLimit b : Rat) / 10)).sum

/-- The cabinet thermal limit binds in the blocks term. -/
def thermalBinds (s : State) (n : Nat) : Bool :=
  (settledOf s n).any fun b => s.get Obj.cabinetThermalLimit b < s.get Obj.effectiveRating b

/-! ### Current targets -/

/-- A rank-1 limit stands: not DELIVERING, latched, stopping, or R13 fails for its contactors (Table 6.2). -/
def rankOne (s : State) (n : Nat) : Bool :=
  s.get Obj.outletState n != 6 || s.is Reg.outletLatch n || s.get Reg.stopKind n != 0 || !mayCloseOutlet s n

/-- The terms of R142 with their codes in 0x3340:06, in the order of rank and code. -/
def targetTerms (s : State) (n : Nat) : List (Rat × Int) :=
  [((s.get Obj.cableLimit n : Rat) / 10, 1), ((s.get Obj.connectorLimit n : Rat) / 10, 2),
   (blocksTerm s n, if thermalBinds s n then 3 else 7), ((s.get Obj.outletRatedCurrent n : Rat) / 10, 9),
   ((s.get Obj.allocatedCurrent n : Rat) / 10, 8), ((s.get Obj.evTargetCurrent n : Rat) / 10, 10)]

/-- The least term, the earliest among equals. -/
def leastTerm (l : List (Rat × Int)) : Rat × Int :=
  match l with
  | [] => (0, 0)
  | x :: t => t.foldl (fun a y => if y.1 < a.1 then y else a) x

/-- The code of a scale factor that binds. -/
def scaleCode (k : Nat) : Int := if k = 0 then 4 else if k < 5 then 5 else 6

/-- T_f in ms. -/
def frameMs (s : State) : Rat := (s.get Reg.frameLength : Rat) / 400000

/-- The current target of an outlet for the next frame (R142, R143; R419 in the supply-dip window). -/
def setTarget (n : Nat) (s : State) : State :=
  let (k, ki) := leastScale s n
  let sent := (leastTerm ((targetTerms s n).filter fun x => x.2 ≠ 10)).1 * k
  let s := s.set Obj.maxCurrentSent (if s.get Obj.outletState n = 6 then clampI 0 40000 (roundAway (sent * 10)) else 0) n
  let put (tgt : Rat) (code : Int) (t : State) : State :=
    let v := clampI 0 40000 (roundAway (tgt * 10))
    (((t.setReal Reg.target tgt n).set Obj.currentTarget v n).set Reg.fastTarget v n).set Obj.bindingTerm code n
  if rankOne s n then put 0 0 s
  else
    let (m, code) := leastTerm (targetTerms s n)
    let c := m * k
    let code := if k < 1 ∧ 0 < m then scaleCode ki else code
    let t0 := s.real Reg.target n
    let tgt := if t0 ≤ c then min c (t0 + (s.get Obj.riseRate n : Rat) / 10 * frameMs s)
      else if code = 8 then max c (t0 - (s.get Obj.allocationFallRate n : Rat) / 10 * frameMs s)
      else c
    let tgt := if dipOpen s then min tgt ((s.get Reg.dipTarget n : Rat) / 10) else tgt
    put (clampR 0 4000 tgt) code s

/-! ### Shares -/

/-- The share of a block that moves out of or into an outlet, in this frame: falling from s0 over 1000 frames from M, or
rising to its settled value over 1000 frames from K (Table 6.3); none otherwise. -/
def movingShare (s : State) (n b : Nat) : Option Rat :=
  if ¬ boundTo s b n ∨ s.get Reg.setNext b ≠ 0 ∨ s.get Reg.mvKind b = 0 ∨ s.get Reg.blockEmpty b ≠ 0 then none
  else if s.get Reg.mvStep b = 1 then
    some (s.real Reg.mvS0 b * (1 - min 1 (((s.frame : Rat) - (s.get Reg.mvM b : Rat)) / 1000)))
  else if s.get Reg.mvStep b = 6 then some 0
  else if s.get Reg.mvStep b = 7 then
    let whole := effAmps s b + effSum s (settledOf s n)
    some ((if whole = 0 then 0 else effAmps s b / whole) * min 1 (((s.frame : Rat) - (s.get Reg.mvK b : Rat)) / 1000))
  else none

/-- A share put in place. -/
def putShare (b : Nat) (v : Rat) (s : State) : State :=
  (s.setReal Reg.share v b).set Obj.blockShare (clampI 0 65535 (roundAway (v * 65536))) b

/-- The shares of an outlet's blocks in set A; they sum to 1 (R144). The settled blocks split by rating what the moving
blocks leave; without a settled block the moving ones split the whole. -/
def setShares (n : Nat) (s : State) : State :=
  let moving := (List.range 64).filterMap fun b => (movingShare s n b).map fun v => (b, v)
  let set := settledOf s n
  let sum := effSum s set
  let left := 1 - (moving.map fun x => x.2).sum
  if set.isEmpty then
    let all := effSum s (moving.map fun x => x.1)
    moving.foldl (fun u x => putShare x.1 (if all = 0 then 0 else effAmps s x.1 / all) u) s
  else
    let t := set.foldl (fun u b => putShare b (if sum = 0 then 0 else left * effAmps s b / sum) u) s
    moving.foldl (fun u x => putShare x.1 x.2 u) t

/-! ### Matrix contactors -/

/-- A reach of a block may be commanded closed (R13, R146, R419). -/
def mayCloseReach (s : State) (b n : Nat) : Bool :=
  let vb := s.get Reg.tmOutVoltage b * 50
  let vo := outletMv s n
  mayEnergiseBlock s b && s.is Reg.outletPassed n && !dipOpen s && s.get Reg.contactorCommand b == 0 &&
  (within vb vo 2 || (vb < 50000 && belowMag vo 50000 && !plusCommanded s n && !minusCommanded s n &&
    s.get Obj.contactorFeedback n == 0))

/-- A contactor may be commanded open: the current has been below 5 A for 3 frames (R146). -/
def mayOpenReach (s : State) (b : Nat) : Bool := 3 ≤ s.get Reg.lowOut b

/-- A block belongs to an outlet whose latch is set; its contactors stay as commanded (R91). -/
def heldByLatch (s : State) (b : Nat) : Bool := (List.range 24).any fun n => s.is Reg.outletLatch n && boundTo s b n

/-- A block the allocator has let go opens its reaches as soon as it may, and is free when it is at rest (R70, R146,
R153, R179). -/
def unbind (b : Nat) (s : State) : State :=
  if (s.get Reg.blockReleased b = 0 ∧ blockSt s b ≠ bkOut) ∨ blockSt s b = bkLatched ∨ heldByLatch s b then s
  else if s.get Reg.contactorCommand b ≠ 0 then
    let t := if s.get Obj.allocState b = 7 then s else s.set Obj.allocState 6 b
    if mayOpenReach t b then openReaches b t else t
  else if (blockSt s b = bkOff ∨ blockSt s b = bkOut) ∧ s.get Obj.allocState b ≠ 0 ∧ s.get Reg.mvKind b = 0 then freeBlock b s
  else s.set Reg.blockReleased 0 b

/-! ### Blocks that start for an outlet -/

/-- The pre-charge voltage of a block that follows an outlet's present voltage [0.01 V]. -/
def presentVoltage (s : State) (n : Nat) : Int := clampI 0 150000 (outletMv s n / 10)

/-- A block started for an outlet (R497, R498): kind 2 joins a DELIVERING outlet, kind 4 serves its cable check or
pre-charge. -/
def startFor (b n : Nat) (kind : Int) (s : State) : State :=
  let t := ((s.set Reg.mvKind kind b).set Reg.mvStep 2 b).set Reg.mvTarget n b
  let t := ((t.set Reg.mvSource 255 b).set Reg.mvM t.frame b).set Reg.setNext 1 b
  let t := (t.set Reg.preVoltage (presentVoltage t n) b).set Obj.allocState (if kind = 2 then 5 else 2) b
  let t := if kind = 2 then logEvent 0x3333 srcAp1 (data8 [b, 255, n]) t else t
  startBlock b t

/-- An outlet asks for a block for its weld test: in WELD_CHECK, or idle with the check outstanding (R180, R181). -/
def weldWants (s : State) (n : Nat) : Bool :=
  s.get Reg.weldWaiting n != 0 && (s.get Obj.outletState n == 8 || (s.get Obj.outletState n == 0 && s.is Obj.weldOutstanding n))

/-- A block started for a cable check, pre-charge or weld test: bound in set B as soon as its reach may close (R498). -/
def bindStarted (b : Nat) (s : State) : State :=
  let n := s.getN Reg.mvTarget b
  if s.get Reg.mvKind b ≠ 4 then s
  else if s.get Obj.outletState n ≠ 4 ∧ s.get Obj.outletState n ≠ 5 ∧ ¬ weldWants s n then freeBlock b (abandonMove b 4 (stopBlock b s))
  else
    let s := s.set Reg.preVoltage (presentVoltage s n) b
    match reachTo s b n with
    | some r =>
      if blockSt s b = bkRunning ∧ mayCloseReach s b n then
        ((endMove b (commandReach b r true s)).set Obj.boundOutlet n b).set Obj.allocState 2 b
      else s
    | none => s

/-- A block pre-charged at an outlet that is DELIVERING is settled there (R498). -/
def settleDelivering (b : Nat) (s : State) : State :=
  let n := s.getN Obj.boundOutlet b
  if s.get Obj.allocState b = 2 ∧ s.get Reg.mvKind b = 0 ∧ n < 24 ∧ s.get Obj.outletState n = 6 then
    (s.set Obj.allocState 1 b).set Reg.setNext 0 b
  else s

/-! ### Migration -/

/-- The source's command exceeds 0.98 times the ratings of its other settled blocks (R149). -/
def sourceOverloaded (s : State) (n b : Nat) : Bool :=
  decide (98 / 100 * effSum s ((settledOf s n).filter fun x => x != b) < (s.get Obj.currentTarget n : Rat) / 10)

/-- The conditions of R149 for a migration (1) or release (3) of a block to `n`. -/
def mayMove (s : State) (b : Nat) (kind : Int) (n : Nat) : Bool :=
  let src := s.getN Obj.boundOutlet b
  src < 24 && settledAt s src b && !dipOpen s &&
  (s.get Reg.mvDoneAt b == 0 || s.getN Reg.mvDoneAt b + 2 * second ≤ s.now + 1) &&
  !sourceOverloaded s src b && !((phasesOf b).any fun p => phaseSt s p == phShed) && !s.is Reg.outletLatch src &&
  (kind == 3 || (s.is Obj.migrationEnable && s.get Obj.outletState n == 6 && (reachTo s b n).isSome && !s.is Reg.outletLatch n))

/-- Frame M: the share begins to fall (Table 6.3). -/
def startMove (b : Nat) (s : State) : State :=
  let kind := s.get Reg.mvQueued b
  let n := s.get Reg.mvQueuedTo b
  let t := ((s.set Reg.mvKind kind b).set Reg.mvStep 1 b).set Reg.mvSource (s.get Obj.boundOutlet b) b
  let t := ((t.set Reg.mvTarget (if kind = 3 then 255 else n) b).set Reg.mvM t.frame b).setReal Reg.mvS0 (t.real Reg.share b) b
  let t := (t.set Obj.allocState (if kind = 3 then 6 else 3) b).set Reg.mvQueued 0 b
  logEvent 0x3333 srcAp1 (data8 [b, t.get Reg.mvSource b, t.get Reg.mvTarget b]) t

def execMigrationStart (block : Fin 64) (s : State) : Out :=
  s.run fun s =>
    if s.get Reg.mvQueued block ≠ 0 ∧ s.get Reg.mvKind block = 0 ∧
        mayMove s block (s.get Reg.mvQueued block) (s.getN Reg.mvQueuedTo block) then startMove block s
    else s

/-- A move abandoned in steps 1 and 2: the block stays settled at its source (causes 1 and 2). -/
def resettle (b : Nat) (cause : Int) (s : State) : State := (abandonMove b cause s).set Obj.allocState 1 b

/-- A move abandoned before C: stop request, and the block is free (causes 4, 5 and 8). -/
def dropMove (b : Nat) (cause : Int) (s : State) : State := freeBlock b (abandonMove b cause (stopBlock b s))

/-- O: the reach to the source is commanded open; set B with the measured output voltage (R150, R152). -/
def execMigrationReachOpen (block : Fin 64) (s : State) : Out :=
  s.run fun s =>
    let b : Nat := block
    let src := s.getN Reg.mvSource b
    if s.get Reg.mvStep b = 1 ∧ mayOpenReach s b ∧ (s.getN Reg.mvM b + 1003 ≤ s.frame ∨ s.get Obj.outletState src ≠ 6) then
      let t := openReaches b s
      let t := ((t.set Reg.mvO t.frame b).set Reg.mvStep 3 b).set Reg.setNext 1 b
      putShare b 0 (t.set Reg.preVoltage (t.get Reg.tmOutVoltage b * 5) b)
    else s

/-- The end of the wait: the reach must report open; pre-charge begins, or a release stops its block (R150). -/
def execMigrationWaitEnd (block : Fin 64) (s : State) : Out :=
  s.run fun s =>
    let b : Nat := block
    if s.get Reg.mvStep b = 3 ∧ s.getN Reg.mvO b + 1500 ≤ s.frame then
      match [0, 1, 2, 3].find? fun r => contactorReported s b r != 0 with
      | some r => withholdBlock b r (if contactorReported s b r = 3 then 2 else 1) (s.set Reg.mvSource (reachOutlet s b r) b)
      | none =>
        let t := (s.set Reg.mvStep 4 b).set Reg.mvFrom (s.get Reg.preVoltage b) b
        let t := (t.set Reg.nearRun 0 b).set Obj.boundOutlet 255 b
        if t.get Reg.mvKind b = 3 then stopBlock b t else t
    else s

/-- The frame from which step 4 counts: O + 1500, or G of a join. -/
def preChargeFrom (s : State) (b : Nat) : Nat := s.getN Reg.mvO b + (if s.get Reg.mvKind b = 2 then 0 else 1500)

/-- The pre-charge voltage of a migrating or joining block in this frame: linear to the target outlet's voltage over 1000
frames, then following it (R150, R497). In the supply-dip window it holds, with its timeouts (R419). -/
def stepPreCharge (b : Nat) (s : State) : State :=
  let n := s.getN Reg.mvTarget b
  let k := s.get Reg.mvKind b
  if k = 2 ∧ s.get Reg.mvStep b = 2 then s.set Reg.preVoltage (presentVoltage s n) b
  else if s.get Reg.mvStep b ≠ 4 ∨ k = 3 then s
  else if dipOpen s then s.set Reg.mvO (s.get Reg.mvO b + 1) b
  else
    let j : Int := min 1000 ((s.frame : Int) - preChargeFrom s b)
    let v := presentVoltage s n
    s.set Reg.preVoltage (if k = 2 then v else s.get Reg.mvFrom b + (v - s.get Reg.mvFrom b) * j / 1000) b

/-- C: the reach to the target is commanded closed; set A with share 0 (R150). -/
def execMigrationPreChargeDone (block : Fin 64) (s : State) : Out :=
  s.run fun s =>
    let b : Nat := block
    let n := s.getN Reg.mvTarget b
    let least := preChargeFrom s b + (if s.get Reg.mvKind b = 2 then 8 else 1008)
    match reachTo s b n with
    | some r =>
      if s.get Reg.mvStep b = 4 ∧ s.get Reg.mvKind b ≠ 3 ∧ 8 ≤ s.get Reg.nearRun b ∧ least ≤ s.frame ∧ mayCloseReach s b n then
        let t := ((commandReach b r true s).set Reg.mvC s.frame b).set Reg.mvStep 6 b
        putShare b 0 (((t.set Reg.setNext 0 b).set Obj.boundOutlet n b).set Obj.allocState (if t.get Reg.mvKind b = 2 then 5 else 4) b)
      else s
    | none => s

/-- K: the reach reports closed and the share begins to rise (R150). -/
def execMigrationClosedReported (block : Fin 64) (s : State) : Out :=
  s.run fun s =>
    let b : Nat := block
    match reachTo s b (s.getN Reg.mvTarget b) with
    | some r =>
      if s.get Reg.mvStep b = 6 ∧ contactorReported s b r = 1 then (s.set Reg.mvK s.frame b).set Reg.mvStep 7 b else s
    | none => s

/-- K + 1000: the block is settled at the target (R150). -/
def execMigrationSettled (block : Fin 64) (s : State) : Out :=
  s.run fun s =>
    let b : Nat := block
    if s.get Reg.mvStep b = 7 ∧ s.getN Reg.mvK b + 1000 ≤ s.frame then (completeMove b s).set Obj.allocState 1 b else s

/-- No opening below 5 A by M + 1250: cause 2 (R151). -/
def execMigrationOpenTimeout (block : Fin 64) (s : State) : Out :=
  s.run fun s =>
    let b : Nat := block
    if s.get Reg.mvStep b = 1 ∧ s.getN Reg.mvM b + 1250 ≤ s.frame ∧ ¬ mayOpenReach s b then resettle b 2 s else s

/-- Pre-charge not within 2 % by O + 6500, or G + 5000: cause 5 (R151, R497). -/
def execMigrationPreChargeTimeout (block : Fin 64) (s : State) : Out :=
  s.run fun s =>
    let b : Nat := block
    if s.get Reg.mvStep b = 4 ∧ s.get Reg.mvKind b ≠ 3 ∧ preChargeFrom s b + 5000 ≤ s.frame then dropMove b 5 s else s

/-- Closure not reported by C + 2000: the block is withheld, cause 6 (R151). -/
def execMigrationCloseTimeout (block : Fin 64) (s : State) : Out :=
  s.run fun s =>
    let b : Nat := block
    match reachTo s b (s.getN Reg.mvTarget b) with
    | some r =>
      if s.get Reg.mvStep b = 6 ∧ s.getN Reg.mvC b + 2000 ≤ s.frame then
        withholdBlock b r (if contactorReported s b r = 3 then 2 else 1) (s.set Reg.mvSource 255 b)
      else s
    | none => s

/-- What ends the work on a block without a timeout (causes 1, 4 and 8, and the end of a release). -/
def judgeMove (b : Nat) (s : State) : State :=
  let k := s.get Reg.mvKind b
  let step := s.get Reg.mvStep b
  let st := blockSt s b
  let n := s.getN Reg.mvTarget b
  if k = 0 ∨ k = 4 then s
  else if k = 3 ∧ step = 4 then (if st = bkOff ∨ st = bkOut then freeBlock b (completeMove b s) else s)
  else if step = 1 then
    (if s.get Obj.outletState (s.getN Reg.mvSource b) = 6 ∧ sourceOverloaded s (s.getN Reg.mvSource b) b then resettle b 1 s else s)
  else if k = 3 then s
  else if s.get Obj.outletState n ≠ 6 ∨ s.is Reg.outletLatch n then
    (if step = 6 ∨ step = 7 then (abandonMove b 4 s).set Reg.blockReleased 1 b else dropMove b 4 s)
  else if k = 2 ∧ step = 4 ∧ st ≠ bkRunning then dropMove b 8 s
  else if k = 2 ∧ step = 2 ∧ (st = bkRampOff ∨ st = bkStopDelay ∨ (st = bkOff ∧ s.get Reg.startWaiting b = 0)) then dropMove b 8 s
  else s

/-! ### The allocation pass -/

/-- Priority class of an outlet: its context's, else its default (R138). -/
def classOf (s : State) (n : Nat) : Nat :=
  match contextOf s n with
  | some c => s.getN Obj.ctxClass c
  | none => s.getN Obj.defaultClass n

/-- Measured output voltage of an outlet [V]. -/
def outletVolts (s : State) (n : Nat) : Rat := max 0 ((outletMv s n : Rat) / 1000)

/-- The outlets that share the power. -/
def delivering (s : State) : List Nat := (List.range 24).filter fun n => s.get Obj.outletState n == 6

/-- d_n [W]: the lesser of the vehicle request, the rating and the cable and connector limits. -/
def demandOf (s : State) (n : Nat) : Rat :=
  let a := min (min (s.get Obj.evTargetCurrent n) (s.get Obj.outletRatedCurrent n)) (min (s.get Obj.cableLimit n) (s.get Obj.connectorLimit n))
  (a : Rat) / 10 * outletVolts s n

/-- Planned power of an outlet [W]; the demand when planning is off. -/
def plannedOf (s : State) (n : Nat) : Rat :=
  if s.is Obj.planningEnable then
    (match contextOf s n with
      | some c => (s.get Reg.planned c : Rat) * 100
      | none => 0)
  else demandOf s n

/-- Item `n` of a table of powers. -/
def powerAt (got : List Rat) (n : Nat) : Rat := got.getD n 0

/-- Item `n` changed. -/
def addPower (got : List Rat) (n : Nat) (x : Rat) : List Rat := got.set n (powerAt got n + x)

/-- Max-min fair filling of a set of outlets towards what each wants (R138); `k` bounds the rounds. -/
def fill (want : Nat → Rat) : Nat → List Nat → Rat × List Rat → Rat × List Rat
  | 0, _, r => r
  | k + 1, set, (budget, got) =>
    let set := set.filter fun n => powerAt got n < want n
    if budget ≤ 0 ∨ set.isEmpty then (budget, got)
    else
      let share := budget / (set.length : Rat)
      fill want k set (set.foldl (fun r n =>
        let x := min share (want n - powerAt r.2 n)
        (r.1 - x, addPower r.2 n x)) (budget, got))

/-- The classes in order, each filled in turn. -/
def fillClasses (s : State) (want : Nat → Rat) (set : List Nat) (r : Rat × List Rat) : Rat × List Rat :=
  (List.range 8).foldl (fun a c => fill want 32 (set.filter fun n => classOf s n == c) a) r

/-- The cabinets an outlet loads, with its share on each: by its bound blocks, else by the free blocks that reach it
(R138). -/
def loadBlocks (s : State) (n : Nat) : List Nat :=
  let l := boundBlocksOf s n
  if l.isEmpty then (List.range 64).filter fun b => s.get Obj.allocState b == 0 && (reachTo s b n).isSome else l
def loadOn (s : State) (n c : Nat) : Rat :=
  let l := loadBlocks s n
  let all := effSum s l
  if all = 0 then 0 else effSum s (l.filter fun b => cabOfBlock b == c) / all

/-- An outlet's load on a cabinet and on a feeder [W]. -/
def cabinetLoad (s : State) (got : List Rat) (n c : Nat) : Rat := powerAt got n / eta s * loadOn s n c
def feederLoad (s : State) (got : List Rat) (n f : Nat) : Rat :=
  (((List.range 16).filter fun c => s.getN Obj.feederOfCabinet c == f).map fun c => cabinetLoad s got n c).sum

/-- The budget of a feeder [W], none without a limit (R138). -/
def feederBudget (s : State) (f : Nat) : Option Rat :=
  let v := min (min (s.get Obj.afVoltage f 0) (s.get Obj.afVoltage f 1)) (s.get Obj.afVoltage f 2)
  let a : List Rat := if s.get Obj.feederPowerLimit f = 0xFFFFFFFF then [] else [(s.get Obj.feederPowerLimit f : Rat) * 100]
  let b : List Rat := if s.get Obj.feederPhaseCurrentLimit f = 0xFFFFFFFF then [] else
    [3 * ((v : Rat) / 100) * ((s.get Obj.feederPhaseCurrentLimit f : Rat) / 10)]
  match a ++ b with
  | [] => none
  | x :: t => some (t.foldl min x - feederAux s f)

/-- Outlets reduced by one common factor until a limit holds: the table and the outlets touched. -/
def reduceBy (set : List Nat) (load : List Rat → Nat → Rat) (limit : Rat) (r : List Rat × List Nat) : List Rat × List Nat :=
  let total := (set.map fun n => load r.1 n).sum
  if total ≤ limit ∨ total ≤ 0 then r
  else
    let k := clampR 0 1 (limit / total)
    let hit := set.filter fun n => 0 < load r.1 n
    (hit.foldl (fun g n => g.set n (powerAt g n * k)) r.1, r.2 ++ hit)

/-- Step 4 of R138. -/
def applyBudgets (s : State) (set : List Nat) (got : List Rat) : List Rat × List Nat :=
  let r := (List.range 16).foldl (fun a c =>
    if s.get Obj.cabinetPowerLimit c = 0xFFFFFFFF then a
    else reduceBy set (fun g n => cabinetLoad s g n c) ((s.get Obj.cabinetPowerLimit c : Rat) * 100) a) (got, [])
  (List.range 4).foldl (fun a f =>
    match feederBudget s f with
    | none => a
    | some l => reduceBy set (fun g n => feederLoad s g n f) l a) r

/-- Steps 1 to 4 of R138: the power left and each outlet's. -/
def sharePower (s : State) : Rat × List Rat :=
  let set := delivering s
  let d := fun n => demandOf s n
  let zero : List Rat := List.replicate 24 0
  let r := fillClasses s (fun n => min (d n) ((s.get Obj.classMinimumPower (classOf s n) : Rat) * 100)) set (availableDc s, zero)
  let r := fillClasses s (fun n => max (powerAt r.2 n) (min (d n) (plannedOf s n))) set r
  let (budget, got) := fillClasses s d set r
  let (cut, hit) := applyBudgets s set got
  if hit.isEmpty then (budget, got)
  else fillClasses s d (set.filter fun n => !hit.contains n) (budget + (got.sum - cut.sum), cut)

/-- Allocated current of a power at an outlet [A]. -/
def currentFor (s : State) (n : Nat) (w : Rat) : Rat := if outletVolts s n = 0 then 0 else w / outletVolts s n

/-- Headroom as a fraction. -/
def headroom (s : State) : Rat := (s.get Obj.blockHeadroom : Rat) / 100

/-- The blocks that count for an outlet in this pass: settled or pre-charged there, joining or migrating in, less those
that leave (R139). -/
def countsFor (s : State) (n : Nat) : List Nat :=
  (List.range 64).filter fun b =>
    (s.getN Obj.boundOutlet b == n && s.get Reg.mvKind b == 0 && (s.get Obj.allocState b == 1 || s.get Obj.allocState b == 2) &&
      s.get Reg.blockEmpty b == 0 && s.get Reg.mvNext b != 1 && s.get Reg.mvNext b != 3) ||
    (s.get Reg.mvKind b != 0 && s.get Reg.mvKind b != 3 && s.getN Reg.mvTarget b == n) ||
    (s.get Reg.mvNext b != 0 && s.get Reg.mvNext b != 3 && s.getN Reg.mvNextTo b == n)

/-- Capacity bound to an outlet under the headroom [A]. -/
def capacityFor (s : State) (n : Nat) : Rat :=
  effSum s ((countsFor s n).filter fun b => s.get Obj.cabinetThermalLimit b != 0) * headroom s

/-- The work of the pass and the work in progress, against 0x3370:01 (R140). -/
def workCount (s : State) : Nat :=
  ((List.range 64).filter fun b => (1 ≤ s.get Reg.mvKind b && s.get Reg.mvKind b ≤ 3) ||
    s.get Reg.mvNext b == 1 || s.get Reg.mvNext b == 2).length
def roomLeft (s : State) : Nat := if s.get Obj.commitRingFill < 900 then s.getN Obj.concurrentMigrations - workCount s else 0
def workRoom (s : State) : Bool := 0 < roomLeft s

/-- Blocks of a feeder without mains are withheld (R137). -/
def mainsHeld (s : State) (f : Nat) : Bool := s.is Obj.noMains f || s.get Reg.mainsAt f != 0

/-- A block is free for an outlet. Its start is not requested until its cabinet limit exceeds 10 % of its rating (R214). -/
def freeFor (s : State) (n b : Nat) : Bool :=
  blockAdmitted s b && s.get Obj.allocState b == 0 && s.get Reg.mvKind b == 0 && s.get Reg.mvNext b == 0 && blockSt s b == bkOff &&
  s.get Reg.blockEmpty b == 0 && !s.is Reg.startRefused b && 2 ≤ (usablePhases s b).length && s.get Reg.contactorCommand b == 0 &&
  linkUp s (cabOfBlock b) && mayEnergiseBlock s b && !mainsHeld s (feederOf s b) && (reachTo s b n).isSome &&
  s.get Obj.effectiveRating b < 10 * s.get Obj.cabinetThermalLimit b

/-- Declared reaches of a block, and the operations of its reach to an outlet: the order of choice of R139. -/
def reachCount (s : State) (b : Nat) : Nat := ([0, 1, 2, 3].filter fun r => reachOutlet s b r != 255).length
def reachOps (s : State) (b n : Nat) : Int :=
  match reachTo s b n with
  | some r => s.get Obj.contactorOperations b r
  | none => 0

/-- The free block an outlet takes first: fewest reaches, then fewest operations, then the lowest number. -/
def bestFree (s : State) (n : Nat) : Option Nat :=
  ((List.range 64).filter (freeFor s n)).foldl (fun a b => match a with
    | none => some b
    | some x =>
      if reachCount s b < reachCount s x ∨ (reachCount s b = reachCount s x ∧ reachOps s b n < reachOps s x n) then some b
      else some x) none

/-- The block an outlet releases: the highest-numbered among those of the lowest rating without which its need is met, those
without capacity first (R214); the last block of an outlet in session stays. -/
def releaseChoice (s : State) (n : Nat) (need : Rat) : Option Nat :=
  let l := settledOf s n
  let hot := l.filter fun b => s.get Obj.cabinetThermalLimit b == 0
  let l := if hot.isEmpty then l else hot
  let low := l.foldl (fun a b => min a (effAmps s b)) (match l with | [] => 0 | b :: _ => effAmps s b)
  match (l.filter fun b => effAmps s b == low).getLast? with
  | some b =>
    if 2 ≤ (countsFor s n).length ∧ need ≤ effSum s ((countsFor s n).filter fun x => x != b) * headroom s then some b else none
  | none => none

/-- A block that another outlet lets go, or that a lower class must give up, for an outlet (R139). -/
def takeChoice (s : State) (n : Nat) : Option Nat :=
  let l := (List.range 64).filter fun b => (reachTo s b n).isSome && s.get Reg.mvKind b == 0
  match l.find? fun b => s.get Reg.mvNext b == 3 with
  | some b => some b
  | none =>
    if s.is Obj.classMayTake (classOf s n) then
      (l.filter fun b =>
        let src := s.getN Obj.boundOutlet b
        s.get Reg.mvNext b == 0 && src < 24 && settledAt s src b && classOf s n < classOf s src).getLast?
    else none

/-- An outlet short of blocks takes one more. -/
def takeBlock (n : Nat) (need : Rat) (least : Nat) (s : State) : State :=
  let take (v : Int) (b : Nat) : State := (s.set Reg.mvNext v b).set Reg.mvNextTo n b
  if least ≤ (countsFor s n).length ∧ need ≤ capacityFor s n then s
  else if s.get Obj.outletState n ≠ 6 then
    match bestFree s n with
    | some b => take 4 b
    | none => s
  else if ¬ workRoom s then s
  else
    match bestFree s n, takeChoice s n with
    | some b, _ => take 2 b
    | none, some b => if s.is Obj.migrationEnable then take 1 b else s
    | none, none => s

/-- It takes blocks until it has enough or none is left, `k` at most. -/
def takeBlocks (n : Nat) (need : Rat) (least k : Nat) (s : State) : State := s.forN k fun _ u => takeBlock n need least u

/-- The outlets that need blocks, in class order. -/
def inPriority (s : State) (l : List Nat) : List Nat := (List.range 8).flatMap fun c => l.filter fun n => classOf s n == c

/-- Binding (R139, R140): releases, then blocks for the outlets that are short, in class order. An outlet in CABLE_CHECK
or PRECHARGE, or with a weld test to run, takes one block. -/
def bindBlocks (got : List Rat) (s : State) : State :=
  let s := s.forN 64 fun b u => (u.set Reg.mvNext 0 b).set Reg.mvNextTo 255 b
  let live := (List.range 24).filter fun n => s.get Obj.outletState n == 4 || s.get Obj.outletState n == 5 || s.get Obj.outletState n == 6 || weldWants s n
  let need := fun n => currentFor s n (powerAt got n)
  let t := s.forL (delivering s) fun n u =>
    match releaseChoice u n (need n) with
    | some b => u.set Reg.mvNext 3 b
    | none => u
  let t := t.forL (inPriority s live) fun n u => takeBlocks n (need n) 1 64 u
  let rel := (List.range 64).filter fun b => t.get Reg.mvNext b == 3
  t.forL (rel.drop (roomLeft t)) fun b u => u.set Reg.mvNext 0 b

/-- Allocations cut to the capacity bound, and the freed power shared once more (R139). -/
def cutToCapacity (s : State) (budget : Rat) (got : List Rat) : List Rat :=
  let set := delivering s
  let cap := fun n => capacityFor s n * outletVolts s n
  let short := set.filter fun n => cap n < powerAt got n
  let cut := short.foldl (fun g n => g.set n (cap n)) got
  if short.isEmpty then got
  else (fillClasses s (fun n => min (demandOf s n) (cap n)) (set.filter fun n => !short.contains n) (budget + (got.sum - cut.sum), cut)).2

/-- The allocation pass (R138 to R140). Its results wait for its completion. -/
def allocationPass (s : State) : State :=
  let s := (s.set Obj.availableDCPowerC (availableDc s / 100).floor).set Obj.measuredAuxiliaryLoad (kw10 (auxLoad s))
  let (budget, got) := sharePower s
  let t := bindBlocks got s
  let got := cutToCapacity t budget got
  (t.forN 24 fun n u => (u.set Reg.nextPower (powerAt got n / 100).floor n).set Reg.nextCurrent
    (clampI 0 40000 (currentFor u n (powerAt got n) * 10).floor) n).set Reg.allocRunning 1

/-- The pass of a housekeeping round; one that has not completed is not restarted (R130). -/
def beginAllocation (s : State) : State :=
  if s.is Reg.allocRunning then logLimited 0x3339 srcAp1 0 second [] (s.inc Obj.allocationPassOverruns)
  else allocationPass s

/-- The pass completes: its results take effect at the next fast pass (R129). -/
def execAllocationPassComplete (s : State) : Out :=
  s.run fun s => if s.is Reg.allocRunning then (s.set Reg.allocRunning 0).set Reg.allocReady 1 else s

/-- The results of a completed pass take effect: allocations, scale factors at 1, and the work it starts (R129, R136). In
the supply-dip window no work starts (R419). -/
def takeAllocation (s : State) : State :=
  if ¬ s.is Reg.allocReady then s
  else
    let t := s.forN 24 fun n u => (u.set Obj.allocatedPower (u.get Reg.nextPower n) n).set Obj.allocatedCurrent (u.get Reg.nextCurrent n) n
    let t := (t.forN 21 fun k u => u.setReal Reg.kLoss 0 0 k).set Reg.allocReady 0
    t.forN 64 fun b u =>
      let k := u.get Reg.mvNext b
      let n := u.getN Reg.mvNextTo b
      let v := (u.set Reg.mvNext 0 b).set Reg.mvQueued 0 b
      if k = 0 ∨ dipOpen u then v
      else if k = 2 ∨ k = 4 then (if freeFor v n b then startFor b n k v else v)
      else (v.set Reg.mvQueued k b).set Reg.mvQueuedTo n b

/-! ### The fast pass -/

/-- P_dc is summed over the frames of each feeder's averaging cycle (R133). -/
def sumDc (s : State) : State :=
  s.forN 4 fun f u => (u.setReal Reg.pdcSum (u.real Reg.pdcSum f + dcWatts s) f).set Reg.pdcFrames (u.get Reg.pdcFrames f + 1) f

/-- A full battery-domain shadow: every block ramps down, event 0x2424 (R204). -/
def judgeShadow (s : State) : State :=
  if shadowFull s ∧ ¬ s.is Reg.shadowLogged then logEvent 0x2424 srcKc [] (stopAllBlocks (s.set Reg.shadowLogged 1)) else s

/-- The outlet holds bound blocks: DELIVERING, PRECHARGE, and CABLE_CHECK from step 3 on (Tables 7.7 and 7.9). DEDUCED:
before step 3 the outlet has not been left by a block, and the timeout of the cable check applies. -/
def needsCapacity (s : State) (n : Nat) : Bool :=
  s.get Obj.outletState n == 6 || s.get Obj.outletState n == 5 || (s.get Obj.outletState n == 4 && 3 ≤ s.get Reg.checkStep n)

/-- An outlet in session without bound capacity (R153, Table 7.9). -/
def judgeCapacity (n : Nat) (s : State) : State :=
  let none := needsCapacity s n ∧ (boundBlocksOf s n).all fun b => s.get Reg.blockEmpty b != 0 || blockSt s b == bkOut
  if none then
    (if s.get Reg.noCapacityAt n = 0 then logEvent 0x333B srcAp1 (data8 [n]) (s.set Reg.noCapacityAt (s.now + 1) n) else s)
  else s.set Reg.noCapacityAt 0 n

/-- Bound blocks as a bit field. -/
def boundMask (s : State) (n : Nat) : Int := ((boundBlocksOf s n).map fun b => (2 : Int) ^ b).sum

/-- The allocator fast pass (R6, R133 to R136, R142 to R147, R153). -/
def fastPass (s : State) : State :=
  let t := takeAllocation (sumDc (s.set Obj.effectiveSiteLimit (siteLimit s)))
  let t := (t.forN 64 judgeMove).forN 64 fun b u => settleDelivering b (bindStarted b (stepPreCharge b (unbind b u)))
  let t := ((scaleSite t).forN 4 scaleFeeder).forN 16 scaleCabinet
  let t := t.set Obj.siteScaleFactor (roundAway (scaleOf t 0 * 10000))
  let t := t.forN 24 fun n u => setTarget n (setShares n u)
  let t := t.forN 24 fun n u => tryCloseContactors n (judgeCapacity n (u.set Obj.boundBlocks (boundMask u n) n))
  judgeShadow (t.set Reg.fastPassRun 0)

def execAllocatorFastPass (s : State) : Out := s.run fun s => fastPass (atBoundary .fastPass s)

/-- A pass not complete by F1: the previous limits stand (R6, R28). -/
def execAllocatorFastPassOverrun (s : State) : Out :=
  s.run fun s =>
    logLimited 0x2033 srcAp1 0 second (data32 (s.get Obj.fastPassOverruns + 1))
      ((s.inc Obj.fastPassOverruns).set Reg.fastPassRun (s.get Reg.fastPassRun + 1))

/-- 4 consecutive overruns ramp every block down, as a fast-class overrun does under R28 (R136). -/
def execFastPassOverrunLimit (s : State) : Out :=
  s.run fun s => if 4 ≤ s.get Reg.fastPassRun then stopAllBlocks s else s

/-! ### Limits and withholding -/

/-- A write of the dynamic limit restarts its hold time (R132). -/
def execDynamicLimitWrite (r : Req) (data : List Byte) (s : State) : Out :=
  s.run fun s => hostWrite r Obj.dynamicSiteImportLimit 0 0 data (fun _ t =>
    .ok (((t.set Obj.dynamicSiteImportLimit (ofBytes data)).set Reg.dynamicAt t.now).set Reg.dynamicExpired 0)) s

/-- The hold time has passed: the fallback, and event 0x3338 (R132). -/
def execDynamicLimitExpiry (s : State) : Out :=
  s.run fun s =>
    let h := s.getN Obj.dynamicLimitHoldTime
    if h ≠ 0 ∧ ¬ s.is Reg.dynamicExpired ∧ s.getN Reg.dynamicAt + h * second ≤ s.now then
      logEvent 0x3338 srcAp1 [] (s.set Reg.dynamicExpired 1)
    else s

/-- The blocks of every cabinet declared on a feeder stop and are withheld with cause 3 (R137). -/
def withholdFeeder (f : Nat) (s : State) : State :=
  (s.set Reg.mainsAt 0 f).forN 64 fun b u =>
    if feederOf u b ≠ f ∨ ¬ blockDeclared u b ∨ u.get Obj.allocState b = 7 then u
    else
      let v := abandonMove b (if u.get Reg.mvStep b = 2 then 8 else if u.get Reg.mvStep b = 4 then 5 else 4) (stopBlock b u)
      ((v.set Obj.allocState 7 b).set Obj.withholdCause 3 b).set Reg.blockReleased 1 b

/-- Mains has been present for 10 s: the withholding ends (R137). -/
def execMainsPresentHoldEnd (feeder : Fin 4) (s : State) : Out :=
  s.run fun s =>
    let f : Nat := feeder
    if s.get Reg.mainsAt f ≠ 0 ∧ s.getN Reg.mainsAt f + 10 * second ≤ s.now + 1 then
      (s.set Reg.mainsAt 0 f).forN 64 fun b u =>
        if feederOf u b = f ∧ u.get Obj.allocState b = 7 ∧ u.get Obj.withholdCause b = 3 then
          freeBlock b ((u.set Obj.allocState 0 b).set Obj.withholdCause 0 b)
        else u
    else s

/-- A withhold is cleared when every reach reports open; cause 3 clears itself and is left (R148, Table 6.9). -/
def execClearWithhold (r : Req) (block : Fin 64) (data : List Byte) (s : State) : Out :=
  s.run fun s => hostWrite r Obj.clearWithhold block 0 data (fun _ t =>
    let b : Nat := block
    if ¬ allReportedOpen t b then .error 6
    else if t.get Obj.allocState b = 7 ∧ t.get Obj.withholdCause b ≠ 3 then
      .ok (freeBlock b ((t.set Obj.allocState 0 b).set Obj.withholdCause 0 b))
    else .ok t) s

end Sys2Proof.Machine
end

