-- ==== Sys2Proof/Machine/MainsLink.lean ====
section
/-!
DEFINITION. The mains-pulse link: the zero-crossing estimate, frames and their coding, medium access, polling and maps
(Mains-pulse link). A frame is held as bits [119:16] of its header block, 13 bytes, followed by its body bytes.
-/

namespace Sys2Proof.Machine

/-! ### The zero-crossing estimate -/

/-- The link changes state: event 0xB810. -/
def setMpl (v : Int) (s : State) : State :=
  if s.get Obj.mplState = v then s else logEvent 0xB810 srcAp0 (data8 [v]) (s.set Obj.mplState v)

/-- Reference feeder and phase (0xB800:02). -/
def refFeeder (s : State) : Nat := s.getN Obj.referenceChannel / 4
def refPhase (s : State) : Nat := s.getN Obj.referenceChannel % 4

/-- Nominal half-cycle [ns]. -/
def halfCycle (s : State) : Rat := 1000000000 / (2 * (s.get Obj.nominalFrequency (refFeeder s) : Rat))

/-- Every frame in progress is abandoned (R340): a command awaiting its response ends abandoned. -/
def abandonFrames (s : State) : State :=
  let t := match (s.log Reg.mplAwait).head? with
    | some f =>
      let h := ofBytes (f.take 2)
      if h % 16 = 2 then s.set Obj.osOutcome 3 (h / 1024) else s
    | none => s
  ((t.setLog Reg.mplAwait []).set Reg.mplMissed 0).set Reg.mplWait 0

/-- The half-cycle just begun is marked erased. -/
def eraseHalf (s : State) : State := (s.set Reg.mplErased 1).inc Obj.erasedHalfCycles

/-- One half-cycle of silence has passed; the silence over, the link runs, or receives only outside the driving roles. -/
def countSilence (s : State) : State :=
  let k := s.get Reg.mplSilent
  let t := if 0 < k then s.set Reg.mplSilent (k - 1) else s
  if t.get Reg.mplSilent = 0 ∧ t.is Reg.mplLocked then setMpl (if isDriving t then 2 else 4) t else t

/-- A rejected or missing half-cycle (R340): after 8 the link relocks to the next crossing. -/
def lostHalf (s : State) : State :=
  let k := s.get Reg.mplRun + 1
  let t := (eraseHalf s).set Reg.mplRun k
  let t := t.setReal Reg.mplZ (t.real Reg.mplZ + t.real Reg.mplPeriod)
  if k < 8 then countSilence t
  else logEvent 0xB817 srcAp0 [] (setMpl 1 (abandonFrames ((t.set Reg.mplLocked 0).set Reg.mplRun 0)))

/-- A crossing of the reference channel at an instant [ns] (R340). -/
def takeCrossing (at_ : Rat) (rising : Bool) (s : State) : State :=
  if s.get Obj.linkEnable = 0 ∨ s.get Obj.mplState = 3 then s
  else
    let s := s.setB Reg.mplRising rising
    if ¬ s.is Reg.mplLocked then
      let t := setMpl 1 ((s.set Reg.mplLocked 1).set Reg.mplSilent 16)
      let p := if t.real Reg.mplPeriod = 0 then halfCycle t else t.real Reg.mplPeriod
      ((t.setReal Reg.mplPeriod p).setReal Reg.mplZ (at_ + p)).set Reg.mplErased 0
    else
      let d := at_ - s.real Reg.mplZ
      let t := s.set Obj.lastCrossingDeviation (clampI (-32768) 32767 (roundAway (d / 1000)))
      if |d| ≤ 200000 then
        let p := t.real Reg.mplPeriod + d / 64
        let t := (t.setReal Reg.mplZ (t.real Reg.mplZ + d / 8 + p)).setReal Reg.mplPeriod p
        countSilence ((t.set Reg.mplRun 0).set Reg.mplErased 0)
      else lostHalf (logLimited 0xB814 srcAp0 0 second (beBytes 2 (roundAway (d / 1000))) t)

/-- No mains on a feeder, or a faulted reference channel, suspends the link (R340); no outstation is marked absent. -/
def suspendLink (f : Nat) (s : State) : State :=
  if s.is Obj.linkEnable ∧ refFeeder s = f then setMpl 3 (abandonFrames ((s.set Reg.mplLocked 0).set Reg.mplRun 0)) else s

/-- Mains is back: the link restarts by relocking. -/
def resumeLink (f : Nat) (s : State) : State :=
  if s.get Obj.mplState = 3 ∧ refFeeder s = f then setMpl 1 s else s

/-- No crossing in the half-cycle: the estimate goes on in holdover, each half-cycle the opposite of the one before. -/
def execCrossingMissing (s : State) : Out :=
  s.run fun s =>
    if s.is Obj.linkEnable ∧ s.is Reg.mplLocked ∧ s.get Obj.mplState ≠ 3 then lostHalf (s.setB Reg.mplRising (!s.is Reg.mplRising))
    else s

/-! ### Frames and their coding -/

/-- A frame: destination, type, sequence, priority, inline payload, body; source 0 (Table 14.3). Its map is set when it is
first sent. -/
def mplFrame (dest typ seq prio : Nat) (payload body : List Byte) : List Byte :=
  beBytes 2 (dest * 1024 + typ : Nat) ++ beBytes 1 (seq * 16 + prio * 4 : Nat) ++ beBytes 1 body.length ++ [0] ++
  fitBytes 8 payload ++ body

/-- Fields of a frame. -/
def frDest (f : List Byte) : Nat := ofBytes (f.take 2) / 1024
def frSource (f : List Byte) : Nat := ofBytes (f.take 2) / 16 % 64
def frType (f : List Byte) : Nat := ofBytes (f.take 2) % 16
def frSeq (f : List Byte) : Nat := ofBytes ((f.drop 2).take 1) / 16
def frPrio (f : List Byte) : Nat := ofBytes ((f.drop 2).take 1) / 4 % 4
def frMap (f : List Byte) : Nat := ofBytes ((f.drop 2).take 1) % 4
def frLen (f : List Byte) : Nat := ofBytes ((f.drop 3).take 1)
def frPayload (f : List Byte) : List Byte := (f.drop 5).take 8
def frBody (f : List Byte) : List Byte := f.drop 13

/-- A frame with its map field. -/
def withMap (f : List Byte) (m : Nat) : List Byte :=
  f.take 2 ++ beBytes 1 ((ofBytes ((f.drop 2).take 1) / 4 * 4 + m : Nat) : Int) ++ f.drop 3

/-- Bits of bytes, the most significant first. -/
def pulseBits (l : List Byte) : List Bool := l.flatMap fun b => (List.range 8).map fun k => b.toNat.testBit (7 - k)

/-- Parity of the bits of a number below 2^7. -/
def parity7 (n : Nat) : Bool := (List.range 7).foldl (fun a k => a != n.testBit k) false

/-- The convolutional code of R347 from a register state: the output of 171 first, then 133, in octal. The newest bit has
the highest weight. -/
def convolve : List Bool → Nat → List Bool
  | [], _ => []
  | b :: t, st =>
    let r := st / 2 + (if b then 64 else 0)
    parity7 (r &&& 0x79) :: parity7 (r &&& 0x5B) :: convolve t r

/-- Loading of slot `k` of a map in a rising or falling window (Table 14.2). -/
def loading (map k : Nat) (rising : Bool) : Nat := map / 4 ^ (k + (if rising then 8 else 0)) % 4

/-- The robust map. -/
def robust : Nat := 0x55555555

/-- A + B: the sum of the sixteen loadings. -/
def loadSum (map : Nat) : Nat :=
  ((List.range 8).map fun k => loading map k true + loading map k false).sum

/-- The position that index j names in a block (R348): half-cycle and slot. -/
def posOf (j : Nat) : Nat × Nat := ((4 * (j % 32) + 4 * (j / 32) + j % 32 / 8) % 32, j / 32)

/-- Loading of a position of a block whose first half-cycle is rising or falling. -/
def posLoading (map : Nat) (rising : Bool) (p : Nat × Nat) : Nat := loading map p.2 (if p.1 % 2 = 0 then rising else !rising)

/-- The pulses of a block in the order sent, each pulse its one or two bits (R348). -/
def blockPulses (map : Nat) (rising : Bool) (coded : List Bool) : List Bool :=
  let all := (List.range 256).map posOf
  let ones := all.filter fun p => 1 ≤ posLoading map rising p
  let twos := all.filter fun p => posLoading map rising p == 2
  let first := ones.zip coded
  let next := twos.zip (coded.drop ones.length)
  (List.range 256).flatMap fun x =>
    let p := (x / 8, x % 8)
    ((first.filter fun q => q.1 == p).map (·.2)) ++ ((next.filter fun q => q.1 == p).map (·.2))

/-- Blocks that a body of `n` bytes takes under a map (R347). -/
def bodyBlocks (map n : Nat) : Nat := if n = 0 then 0 else (2 * (8 * (n + 2) + 6) + 16 * loadSum map - 1) / (16 * loadSum map)

/-- The pulse bits of a frame: start mark, header block, body blocks (R346 to R348); the body of a SOUND is raw. -/
def pulsesOf (map : Nat) (rising : Bool) (f : List Byte) : List Bool :=
  let head := f.take 13
  let mark := pulseBits (beBytes 2 0x6B8D)
  let hdr := blockPulses robust rising (convolve (pulseBits (head ++ beBytes 2 (crc16 head)) ++ List.replicate 8 false) 0)
  let n := (frBody f).length
  if frType f = 6 then
    let raw := (List.range 512).foldl (fun (a : List Bool × Nat) _ => (a.1 ++ [prbsBit a.2], next9 a.2)) ([], 0x1FF)
    mark ++ hdr ++ blockPulses robust rising (raw.1.take 256) ++ blockPulses robust rising (raw.1.drop 256)
  else if n = 0 then mark ++ hdr
  else
    let cap := 8 * loadSum map
    let bits := pulseBits (frBody f ++ beBytes 2 (crc16 (f.take 5 ++ frBody f)))
    let full := bits ++ List.replicate (cap * bodyBlocks map n - bits.length) false
    let coded := convolve full 0
    mark ++ hdr ++ (List.range (bodyBlocks map n)).flatMap fun k => blockPulses map rising ((coded.drop (2 * cap * k)).take (2 * cap))
where
  /-- The sounding sequence of x^9 + x^5 + 1 (R344). -/
  prbsBit (n : Nat) : Bool := n.testBit 8 != n.testBit 4
  next9 (n : Nat) : Nat := n * 2 % 512 + (if n.testBit 8 != n.testBit 4 then 1 else 0)

/-! ### Sending -/

/-- The next sequence number towards an outstation (R351). -/
def nextSeq (n : Nat) (s : State) : Nat × State :=
  let k := (s.getN Reg.osTxSeq n + 1) % 16
  (k, s.set Reg.osTxSeq k n)

/-- A new frame queued. -/
def queueFrame (n typ prio : Nat) (payload : List Byte) (s : State) : State :=
  let (k, t) := nextSeq n s
  t.setLog Reg.mplQueue (t.log Reg.mplQueue ++ [mplFrame n typ k prio payload []])

/-- The map a frame to an outstation is sent under (R343 to R345): none but the robust one while an estimation is due, or
when the body would need more blocks. -/
def mapFor (s : State) (f : List Byte) : Nat × Nat :=
  let n := frDest f
  let g := s.getN Obj.osMapGeneration n % 2
  let m := s.getN Reg.osMaps n g
  if s.is Reg.osDue n 0 ∨ s.is Reg.osEstimating n 0 ∨ m = robust ∨ loadSum m = 0 ∨ bodyBlocks robust (frBody f).length < bodyBlocks m (frBody f).length then
    (0, robust)
  else (2 + g, m)

/-- The frame calls for a response (Table 14.4): POLL, COMMAND, SOUND_REQ, SOUND and MAP. -/
def callsFor (typ : Nat) : Bool := typ == 0 || typ == 2 || typ == 5 || typ == 6 || typ == 7

/-- A frame put on the line, its claim in window `w` of the round: the header block begins three half-cycles later. -/
def transmit (f : List Byte) (map : Nat) (w : Nat) (s : State) : State :=
  let rising := if w % 2 = 0 then ¬ s.is Reg.mplRising else s.is Reg.mplRising
  s.emit (.mains (pulsesOf map rising f))

/-- The map that a frame's map field names. -/
def namedMap (s : State) (f : List Byte) : Nat := if frMap f < 2 then robust else s.getN Reg.osMaps (frDest f) (frMap f - 2)

/-- The first frame of the lowest priority number that may claim, with what stays queued. -/
def pickFrame (l : List (List Byte)) (lowest : Nat) : Option (List Byte × List (List Byte)) :=
  match [0, 1, 2, 3].find? fun p => l.any fun f => frPrio f == p with
  | none => none
  | some p =>
    if lowest ≤ p then none
    else match l.find? fun f => frPrio f == p with
      | some f => some (f, l.erase f)
      | none => none

/-- The module may use the line. -/
def mayClaim (s : State) : Bool := s.get Obj.mplState == 2 && s.get Reg.mplSilent == 0 && isDriving s

/-- A round of priority windows; `heard` are the windows in which another node's claim was detected (R350). W0 of a round
is reserved for a response that is due: its absence is found here. -/
def execClaimRound (heard : List (Fin 4)) (s : State) : Out :=
  s.run fun s =>
    if ¬ mayClaim s then s
    else
      let first := ([0, 1, 2, 3].find? fun w => heard.any fun x => x.val == w).getD 4
      match (s.log Reg.mplAwait).head? with
      | some _ =>
        if first = 0 then s
        else if 0 < s.get Reg.mplWait then s.set Reg.mplWait (s.get Reg.mplWait - 1)
        else s.set Reg.mplMissed 1
      | none =>
        match pickFrame (s.log Reg.mplQueue) first with
        | none => s
        | some (f, rest) =>
          let (m, map) := mapFor s f
          let g := withMap f m
          let t := transmit g map (frPrio f) (s.setLog Reg.mplQueue rest)
          if callsFor (frType f) then ((t.setLog Reg.mplAwait [g]).set Reg.mplAttempts 1).set Reg.mplMissed 0 else t

/-- Times a frame is sent at most (R351). -/
def attemptLimit (s : State) (typ : Nat) : Int := if typ = 0 then 3 else 1 + s.get Obj.repeatLimit

/-- An outstation whose POLL went unanswered is absent (R352). -/
def osAbsent (n : Nat) (s : State) : State :=
  if s.get Obj.osState n = 1 ∧ s.bit Obj.absentOutstations n then s
  else logEvent 0xB811 srcAp0 (data8 [n]) ((s.set Obj.osState 1 n).setBit Obj.absentOutstations n true)

/-- The last attempt has failed (R351): the frame is abandoned. -/
def giveUp (f : List Byte) (s : State) : State :=
  let n := frDest f
  let t := ((s.setLog Reg.mplAwait []).set Reg.mplMissed 0).inc Obj.osAbandoned n
  let t := logEvent 0xB813 srcAp0 (data8 [n, frType f, s.get Reg.mplAttempts]) t
  let t := if frType f = 0 then osAbsent n t else t
  let t := if frType f = 2 then t.set Obj.osOutcome 3 n else t
  let t := if frType f = 6 then (t.set Reg.osEstimating 0 n 0).set Reg.osEstimatedAt t.now n 0 else t
  if frType f = 5 ∨ frType f = 7 then (t.set Reg.osEstimating 0 n 1).set Reg.osEstimatedAt t.now n 1 else t

/-- A missing response: the frame is repeated unchanged in W1, or abandoned after the limit (R351). -/
def execResponseTimeoutRepeat (s : State) : Out :=
  s.run fun s =>
    match (s.log Reg.mplAwait).head? with
    | none => s
    | some f =>
      if ¬ s.is Reg.mplMissed ∨ ¬ mayClaim s then s
      else if attemptLimit s (frType f) ≤ s.get Reg.mplAttempts then giveUp f s
      else
        let k := s.get Reg.mplAttempts + 1
        let t := (transmit f (namedMap s f) 1 s).set Reg.mplAttempts k
        let (w, t) := if 3 ≤ k then (let (d, u) := t.draw 141; (d % 8, u)) else (0, t)
        (t.set Reg.mplMissed 0).set Reg.mplWait w

/-- A POLL falls due (R352): every 0xB800:06 seconds while the outstation is present, every 60 s while it is absent. -/
def execPoll (outstation : Fin 63) (s : State) : Out :=
  s.run fun s =>
    let n := outstation.val
    let every := if 2 ≤ s.get Obj.osState n then s.getN Obj.pollInterval else 60
    let waits := (s.log Reg.mplQueue ++ s.log Reg.mplAwait).any fun f => frDest f == n && frType f == 0
    let last := s.getN Reg.osPolledAt n
    if n ≠ 0 ∧ s.is Obj.osDeclared n ∧ mayClaim s ∧ ¬ waits ∧ (last = 0 ∨ last + every * second ≤ s.now + 1) then
      queueFrame n 0 3 [] ((s.set Reg.osPolledAt (s.now + 1) n).set Obj.osState (max 1 (s.get Obj.osState n)) n)
    else s

/-- A command to an outstation (R352): one not yet sent is replaced. Outstation 0 has no object. -/
def commandOs (n : Nat) (data : List Byte) (t : State) : Except Nat State :=
  if n = 0 then .error 1 else
  let t := t.setLog Reg.mplQueue ((t.log Reg.mplQueue).filter fun f => !(frDest f == n && frType f == 2))
  .ok (queueFrame n 2 3 data ((t.setBytes Obj.osCommand data n).set Obj.osOutcome 1 n))

def execOutstationCommand (r : Req) (outstation : Fin 63) (data : List Byte) (s : State) : Out :=
  s.run fun s => hostWrite r Obj.osCommand outstation.val 0 data (fun _ t => commandOs outstation.val data t) s

/-! ### Receiving -/

/-- A received frame that is good: its header CRC and its body CRC pass (R347, R349), it comes from a declared outstation
and is of the type `typ`. The header is its 15 bytes, the body its bytes and their CRC. -/
def goodFrame (s : State) (typ : Nat) (header body : List Byte) : Bool :=
  let h := header.take 13
  header.length == 15 && ofBytes (header.drop 13) == crc16 h && frType h == typ &&
  (s.get Obj.mplState == 2 || s.get Obj.mplState == 4) && s.is Obj.osDeclared (frSource h) && frSource h != 0 &&
  (frLen h == 0 || typ == 6 ||
    (body.length == frLen h + 2 && ofBytes (body.drop (frLen h)) == crc16 (h.take 5 ++ body.take (frLen h))))

/-- A frame whose header passed and whose body failed: after two in a row an estimation is due (R345). -/
def bodyFails (n : Nat) (s : State) : State :=
  let k := s.get Reg.osBodyFailed n 1 + 1
  if 2 ≤ k then (s.set Reg.osBodyFailed 0 n 1).set Reg.osDue 1 n 1 else s.set Reg.osBodyFailed k n 1

/-- The outstation answers (R345, R352): it is present again, and both directions fall due when it was absent or new. -/
def osAnswers (n : Nat) (s : State) : State :=
  let t := (s.set Obj.osLastAnswer s.time n).set Reg.osBodyFailed 0 n 1
  if 2 ≤ t.get Obj.osState n then t
  else
    let u := if t.bit Obj.absentOutstations n then logEvent 0xB812 srcAp0 (data8 [n]) (t.setBit Obj.absentOutstations n false) else t
    ((u.set Obj.osState 2 n).set Reg.osDue 1 n 0).set Reg.osDue 1 n 1

/-- The frame that awaits a response of one of these types from the outstation is answered. -/
def settles (n : Nat) (types : List Nat) (s : State) : Bool :=
  (s.log Reg.mplAwait).any fun f => frDest f == n && types.contains (frType f)
def settleAwait (s : State) : State := ((s.setLog Reg.mplAwait []).set Reg.mplMissed 0).set Reg.mplWait 0

/-- An acknowledgement queued as a response (Table 14.4); a standby sends none. -/
def queueAck (n seq : Nat) (s : State) : State := if isDriving s then queueFrame n 3 0 (beBytes 1 (seq : Nat)) s else s

/-- A frame of the active module that a standby hears (R354): its sequence is kept, and the frame while it awaits its
response. -/
def hearActive (typ : Nat) (header : List Byte) (s : State) : State :=
  let h := header.take 13
  let n := frDest h
  if s.get Obj.mplState = 4 ∧ header.length = 15 ∧ ofBytes (header.drop 13) = crc16 h ∧ frType h = typ ∧ s.is Obj.osDeclared n then
    let t := s.set Reg.osTxSeq (frSeq h) n
    let t := if typ = 7 then t.set Reg.osMapNew (ofBytes ((frPayload h).take 4)) n else t
    if callsFor typ then t.setLog Reg.mplAwait [h] else t
  else s

/-- A received frame handled: one with the sequence last accepted from its source within 60 s is answered again and not
acted on (R351). A standby follows every frame on the line (R354). -/
def takeFrame (typ : Nat) (header body : List Byte) (again act : Nat → List Byte → State → State) (s : State) : State :=
  let h := header.take 13
  let n := frSource h
  if n = 0 then hearActive typ header s
  else if ¬ goodFrame s typ header body then
    (if header.length = 15 ∧ ofBytes (header.drop 13) = crc16 h ∧ frType h = typ ∧ frLen h ≠ 0 ∧ s.is Obj.osDeclared n ∧
        2 ≤ s.get Obj.mplState then bodyFails n s else s)
  else if s.getN Reg.osRxSeq n = frSeq h + 1 ∧ s.now ≤ s.getN Reg.osRxAt n + 60 * second then again n h s
  else
    let t := (s.set Reg.osRxSeq (frSeq h + 1) n).set Reg.osRxAt s.now n
    act n h (osAnswers n t)

/-- STATUS (R352): inputs and outputs; a COMMAND it answers is confirmed. -/
def execStatus (header body : List Byte) (s : State) : Out :=
  s.run fun s => takeFrame 1 header body (fun _ _ t => t) (fun n h t =>
    let p := frPayload h
    let t := (t.set Obj.osInputs (ofBytes (p.take 2)) n).set Obj.osOutputs (ofBytes ((p.drop 2).take 2)) n
    let t := if settles n [2] t then t.set Obj.osOutcome 2 n else t
    if settles n [0, 2] t then settleAwait t else t) s

/-- ALARM (R352): acknowledged, counted and logged. -/
def execAlarm (header body : List Byte) (s : State) : Out :=
  s.run fun s => takeFrame 4 header body (fun n h t => queueAck n (frSeq h) t) (fun n h t =>
    let inputs := ofBytes (((frPayload h).drop 2).take 2)
    let t := (t.set Obj.osInputs inputs n).inc Obj.osAlarms n
    queueAck n (frSeq h) (logEvent 0xB816 srcAp0 (data8 [n] ++ beBytes 2 inputs) t)) s

/-- A map takes effect in a direction (R344, R345). -/
def installMap (n dir gen map : Nat) (s : State) : State :=
  let was := s.getN Obj.osMap n dir
  let t := (s.set Reg.osMaps map n (2 * dir + gen)).set Obj.osMap map n dir
  let t := t.setBit Obj.osMapGeneration dir (gen = 1) n
  let t := ((t.set Reg.osEstimating 0 n dir).set Reg.osDue 0 n dir).set Reg.osEstimatedAt t.now n dir
  let t := if t.get Reg.osEstimating n (1 - dir) = 0 ∧ t.get Obj.osState n = 3 then t.set Obj.osState 2 n else t
  if was = map then t else logEvent 0xB815 srcAp0 (data8 [n, dir] ++ beBytes 4 map) t

/-- ACK (R351): it ends the repetition of the frame; a map the outstation acknowledges comes into use. -/
def execAck (header body : List Byte) (s : State) : Out :=
  s.run fun s => takeFrame 3 header body (fun _ _ t => t) (fun n h t =>
    let k := ofBytes ((frPayload h).take 1)
    if (t.log Reg.mplAwait).any fun f => frDest f == n && frType f == 7 && frSeq f == k then
      installMap n 1 (1 - t.getN Obj.osMapGeneration n / 2 % 2) (t.getN Reg.osMapNew n) (settleAwait t)
    else t) s

/-- Loading of a position by its signal-to-noise ratio [dB] (R344). -/
def loadingBy (s : State) (snr : Int) : Nat :=
  if s.get Obj.loading2Threshold ≤ snr then 2 else if s.get Obj.loading1Threshold ≤ snr then 1 else 0

/-- The map from the ratios of 16 positions, falling slots 0 to 7 first; the robust one when a polarity would have no
loading (R344). -/
def mapFrom (s : State) (snr : List Int) : Nat :=
  let l := (List.range 16).map fun k => loadingBy s (snr.getD k (-1000))
  let m := (l.zipIdx.map fun x => x.1 * 4 ^ x.2).sum
  if (l.take 8).sum = 0 ∨ (l.drop 8).sum = 0 then robust else m

/-- SOUND (R344): the ratios measured give the map, which goes back in a MAP frame with the generation not in use. -/
def execSound (header : List Byte) (snr : List Int) (s : State) : Out :=
  s.run fun s => takeFrame 6 header [] (fun _ _ t => t) (fun n _ t =>
    let m := mapFrom t snr
    let t := if settles n [5] t then settleAwait t else t
    if isDriving t then
      queueFrame n 7 3 (beBytes 4 m ++ beBytes 1 ((1 - t.getN Obj.osMapGeneration n / 2 % 2 : Nat) : Int)) (t.set Reg.osMapNew m n)
    else t) s

/-- No loading of a map is 3, and each polarity has a loading. -/
def mapFits (m : Nat) : Bool :=
  (List.range 16).all (fun k => m / 4 ^ k % 4 != 3) && m % 65536 != 0 && m / 65536 != 0

/-- MAP (R344): the outstation's map for the direction towards it, acknowledged. -/
def execMap (header body : List Byte) (s : State) : Out :=
  s.run fun s => takeFrame 7 header body (fun n h t => queueAck n (frSeq h) t) (fun n h t =>
    let m := ofBytes ((frPayload h).take 4)
    let g := ofBytes (((frPayload h).drop 4).take 1)
    let t := if settles n [6] t then settleAwait t else t
    let t := if mapFits m ∧ g < 2 then installMap n 0 g m t else t
    queueAck n (frSeq h) t) s

/-- Estimation of one direction of a present outstation (R345): due by itself, or after 0xB800:08 seconds. Direction
true is from the outstation. -/
def execEstimationDue (outstation : Fin 63) (fromOs : Bool) (s : State) : Out :=
  s.run fun s =>
    let n := outstation.val
    let d : Nat := if fromOs then 1 else 0
    let aged := s.getN Reg.osEstimatedAt n d + s.getN Obj.reEstimationInterval * second ≤ s.now
    if s.is Obj.osDeclared n ∧ 2 ≤ s.get Obj.osState n ∧ mayClaim s ∧ (s.is Reg.osDue n d ∨ aged) ∧ ¬ s.is Reg.osEstimating n d then
      let t := ((s.set Reg.osDue 1 n d).set Reg.osEstimating 1 n d).set Obj.osState 3 n
      queueFrame n (if fromOs then 5 else 6) 3 [] t
    else s

end Sys2Proof.Machine
end

