-- ==== Sys2Proof/Machine/Calendar.lean ====
section
/-!
DEFINITION. Local time, the tariff calendar and the closing instants (R243 to R247, R252, R253). Times are in ns since
2000-01-01T00:00:00; local times are counted the same way.
-/

namespace Sys2Proof.Machine

/-- One minute and one day in ns. -/
def minuteNs : Int := 60000000000
def dayNs : Int := 86400000000000

/-- Year, month and day of a day number since 2000-01-01. -/
def civilOf (days : Int) : Nat × Nat × Nat :=
  let z := (days + 730425).toNat
  let era := z / 146097
  let doe := z % 146097
  let yoe := (doe - doe / 1460 + doe / 36524 - doe / 146096) / 365
  let doy := doe - (365 * yoe + yoe / 4 - yoe / 100)
  let mp := (5 * doy + 2) / 153
  let d := doy - (153 * mp + 2) / 5 + 1
  let m := if mp < 10 then mp + 3 else mp - 9
  (yoe + era * 400 + (if m ≤ 2 then 1 else 0), m, d)

/-- Day number since 2000-01-01 of a date. -/
def daysOf (y m d : Nat) : Int :=
  let y' := if m ≤ 2 then y - 1 else y
  let era := y' / 400
  let yoe := y' % 400
  let doy := (153 * (if 2 < m then m - 3 else m + 9) + 2) / 5 + d - 1
  let doe := yoe * 365 + yoe / 4 - yoe / 100 + doy
  ((era * 146097 + doe : Nat) : Int) - 730425

/-- Weekday of a day number, 0 Monday to 6 Sunday. -/
def weekdayOf (days : Int) : Nat := ((days + 5) % 7).toNat

/-- Day number, and minute of the day, of a time. -/
def dayOf (t : Int) : Int := t / dayNs
def minuteOf (t : Int) : Nat := (t % dayNs / minuteNs).toNat

/-- Local standard time (Local time and the calendar). -/
def localStd (s : State) (t : Int) : Int := t + s.get Obj.standardOffset * minuteNs

/-! ### Daylight saving -/

/-- The day of an instant encoding in a year (Table 10.1); none for an unset one. -/
def dstDay (code y : Nat) : Option Int :=
  let m : Nat := code / 2 ^ 28
  let week : Nat := code / 2 ^ 25 % 8
  let wd : Nat := code / 2 ^ 22 % 8
  if m = 0 ∨ 12 < m ∨ week = 0 ∨ 5 < week ∨ 6 < wd then none
  else
    let first := daysOf y m 1
    let off := (wd + 7 - weekdayOf first) % 7
    let last := (if m = 12 then daysOf (y + 1) 1 1 else daysOf y (m + 1) 1) - 1
    if week ≤ 4 then some (first + (off : Int) + 7 * ((week : Nat) - 1 : Int))
    else some (last - (((weekdayOf last + 7 - wd) % 7 : Nat) : Int))

/-- The module time of an instant encoding in a year. -/
def dstInstant (s : State) (code y : Nat) : Option Int :=
  match dstDay code y with
  | none => none
  | some d =>
    let t := d * dayNs + (code % 2048 : Nat) * minuteNs
    some (if code.testBit 21 then t else t - s.get Obj.standardOffset * minuteNs)

/-- The rule set that applies in a year (R243). -/
def dstSet (s : State) (y : Nat) : Option Nat :=
  [0, 1].find? fun k => s.getN Obj.dstYears k 0 ≤ y && y ≤ s.getN Obj.dstYears k 1

/-- Start, end and shift [ns] of the rule in force in the year of a time. -/
def dstRuleAt (s : State) (t : Int) : Option (Int × Int × Int) :=
  let y := (civilOf (dayOf (localStd s t))).1
  match dstSet s y with
  | none => none
  | some k =>
    match dstInstant s (s.getN Obj.dstRule k 0) y, dstInstant s (s.getN Obj.dstRule k 1) y with
    | some a, some b => some (a, b, s.get Obj.dstShift k * minuteNs)
    | _, _ => none

/-- The DST shift in force at a time [ns], 0 when no rule is in force (R243). -/
def dstShiftAt (s : State) (t : Int) : Int :=
  match dstRuleAt s t with
  | none => 0
  | some (a, b, sh) => if a ≤ b then (if a ≤ t ∧ t < b then sh else 0) else (if a ≤ t ∨ t < b then sh else 0)

/-- Local civil time, by which the calendar acts. In the repeated minutes after DST ends it stands at the last minute of
the first pass (R246). -/
def civilTime (s : State) (t : Int) : Int :=
  match dstRuleAt s t with
  | some (_, b, sh) => if b ≤ t ∧ t < b + sh then localStd s (b - 1) + sh else localStd s t + dstShiftAt s t
  | none => localStd s t

/-! ### The slot in force -/

/-- The day profile of a date: one-time special days, yearly ones, then the season's week (R245). -/
def dayProfileOf (s : State) (days : Int) : Option Nat :=
  let (y, m, d) := civilOf days
  let fits (e : Nat) : Bool := e.testBit 31 && e / 2 ^ 18 % 16 == m && e / 2 ^ 13 % 32 == d
  let entry := fun k => s.getN Reg.actSpecial k
  match (List.range 256).find? fun k => fits (entry k) && (entry k).testBit 30 && 2000 + entry k / 2 ^ 22 % 256 == y with
  | some k => some (entry k % 32)
  | none =>
    match (List.range 256).find? fun k => fits (entry k) && !(entry k).testBit 30 with
    | some k => some (entry k % 32)
    | none =>
      let used := (List.range 12).filter fun k => s.getN Reg.actSeason k / 4096 != 0
      let key := fun k =>
        let v := s.getN Reg.actSeason k
        let md := v / 4096 * 32 + v / 128 % 32
        if md ≤ m * 32 + d then md + 512 else md
      match used with
      | [] => none
      | a :: t =>
        let best := t.foldl (fun x k => if key x ≤ key k then k else x) a
        some (s.getN Reg.actWeek (s.getN Reg.actSeason best % 16) (weekdayOf days))

/-- The valid point of a day profile with the latest minute up to a bound; of one minute the higher-numbered. -/
def latestPoint (s : State) (dp bound : Nat) : Option Nat :=
  ((List.range 16).filter fun k => (s.getN Reg.actDay dp k).testBit 15 && s.getN Reg.actDay dp k % 2048 ≤ bound).foldl
    (fun a k => match a with
      | none => some k
      | some x => if s.getN Reg.actDay dp x % 2048 ≤ s.getN Reg.actDay dp k % 2048 then some k else some x) none

/-- The slot that the active calendar gives at a module time, 1 to 8 (R241, R245). -/
def slotAt (s : State) (t : Int) : Int :=
  let c := civilTime s t
  match dayProfileOf s (dayOf c) with
  | none => 1
  | some dp =>
    match latestPoint s dp (minuteOf c) with
    | some k => (s.getN Reg.actDay dp k / 2048 % 16 : Nat)
    | none =>
      match latestPoint s dp 2047 with
      | some k => (s.getN Reg.actDay dp k / 2048 % 16 : Nat)
      | none => 1

/-! ### Closing instants -/

/-- The closing instants that fall in a month, local civil time (R252). -/
def closingsIn (s : State) (y m : Nat) : List Int :=
  let v := s.getN Obj.closingDayMinute
  let at_ (d : Nat) : Int := daysOf y m d * dayNs + (v % 2048 : Nat) * minuteNs
  if s.get Obj.closingSchedule = 1 then [at_ (v / 2048)]
  else if s.get Obj.closingSchedule = 2 then
    ((List.range 12).filter fun k => s.getN Reg.actSeason k / 4096 == m).map fun k => at_ (s.getN Reg.actSeason k / 128 % 32)
  else []

/-- The first closing instant after a local civil time, sought over `n` months. -/
def closingFrom (s : State) (after : Int) : Nat → Nat → Nat → Option Int
  | 0, _, _ => none
  | n + 1, y, m =>
    match (closingsIn s y m).filter (after < ·) with
    | [] => closingFrom s after n (if m = 12 then y + 1 else y) (if m = 12 then 1 else m + 1)
    | v :: t => some (t.foldl min v)

def nextClosing (s : State) (after : Int) : Option Int :=
  let (y, m, _) := civilOf (dayOf after)
  closingFrom s after 14 y m

/-- The closing instants after one local civil time and up to another, at most `n`: the first, the last, their count. -/
def closingsUpTo (s : State) (until_ : Int) : Nat → Int → Option (Int × Int × Nat)
  | 0, _ => none
  | n + 1, after =>
    match nextClosing s after with
    | none => none
    | some c =>
      if until_ < c then none
      else match closingsUpTo s until_ n c with
        | some (_, l, k) => some (c, l, k + 1)
        | none => some (c, c, 1)

/-! ### Demand intervals -/

/-- Length of a demand interval [s] (R248). -/
def intervalSeconds (code : Nat) : Nat := 60 * [1, 2, 3, 5, 10, 15, 30, 60].getD (code % 8) 60

/-- The configuration in use: interval [s], subintervals of a judgement, length of one [s]. -/
def demandLength (s : State) : Nat := intervalSeconds (s.getN Obj.configurationInUse / 256)
def demandWindows (s : State) : Nat :=
  let v := s.getN Obj.configurationInUse
  if v / 128 % 2 = 1 then max 1 (v % 128) else 1
def subLength (s : State) : Nat := demandLength s / demandWindows s

/-- The aligned end after a module time: a multiple of the subinterval from 00:00 local standard time (R248). -/
def nextEnd (s : State) (t : Int) : Int :=
  let len : Int := (subLength s : Int) * 1000000000
  let l := localStd s t
  let day := l / dayNs * dayNs
  t + (day + ((l - day) / len + 1) * len - l)

end Sys2Proof.Machine
end

