-- ==== Sys2Proof/Machine/Billing.lean ====
section
/-!
DEFINITION. Tariff slots, maximum demand, billing periods, boundaries and clock steps (Billing registers, tariffs and
tamper records). A boundary collects the closures of one instant; it takes effect at the first metrology sample after its
record is committed (R255).
-/

namespace Sys2Proof.Machine

/-! ### Registers the closures read -/

/-- Import of meter `m` in 2^-16 mWh: outlets 0 to 23, feeders 24 to 27, the site 28 (R249). -/
def importOf (s : State) (m : Nat) : Int :=
  if m < 24 then s.get Reg.dmSum m 0 / 2 ^ 32
  else if m < 28 then s.get Reg.afSum (m - 24) 0 / 2 ^ 32
  else ((List.range 4).map fun f => s.get Reg.afSum f 0 / 2 ^ 32).sum

/-- Demand in W of an import increment over the nominal interval (R249). -/
def demandW (s : State) (inc : Int) : Int :=
  roundAway ((inc : Rat) / 65536000 * 3600 / (demandLength s : Rat))

/-- The running demand of every meter (R250). -/
def showRunning (s : State) : State :=
  s.forN 29 fun m u =>
    u.set Obj.runningDemand (max 0 (demandW u (importOf u m - (u.seq Reg.demandHist m).headD (importOf u m)))) m

/-- A value ranked among three in descending order; an equal one ranks below (R250). -/
def rankIn (l : List (Int × Int)) (v : Int × Int) : List (Int × Int) :=
  ((l.takeWhile fun x => v.1 ≤ x.1) ++ [v] ++ (l.dropWhile fun x => v.1 ≤ x.1)).take 3

/-- A judged demand kept among the three highest of its meter and slot. -/
def rankDemand (m : Nat) (slot : Int) (v e : Int) (s : State) : State :=
  let k := 3 * (slot - 1).toNat
  let l := (List.range 3).map fun r => (s.get Obj.topDemand m (k + r), s.get Obj.topDemandEnd m (k + r))
  (rankIn (l.filter fun x => x.2 != 0) (v, e)).zipIdx.foldl
    (fun u x => (u.set Obj.topDemand x.1.1 m (k + x.2)).set Obj.topDemandEnd x.1.2 m (k + x.2)) s

/-- Flags of the interval or window that ends now (R250). -/
def windowFlags (s : State) : Int :=
  let l := (s.getN Reg.subFlags : Int) :: (s.seq Reg.subFlagsHist).take (demandWindows s - 1)
  (l.foldl (fun a v => a ||| v.toNat) 0 : Nat)

/-- The interval or subinterval ends at `e` and is judged over the last windows, attributed to a slot (R248 to R250). -/
def judgeDemand (e : Int) (slot : Int) (s : State) : State :=
  let k := demandWindows s
  let fl := windowFlags s
  let t := s.forN 29 fun m u =>
    let h := u.seq Reg.demandHist m
    let v := max 0 (demandW u (importOf u m - ((h.take k).getLast?).getD (importOf u m)))
    let u := ((u.set Obj.lastDemand v m).set Obj.lastDemandEnd e m).set Obj.lastIntervalFlags fl m
    rankDemand m slot v e (u.setSeq Reg.demandHist ((importOf u m :: h).take (k + 1)) m)
  let t := (t.setSeq Reg.subFlagsHist ((t.getN Reg.subFlags : Int) :: t.seq Reg.subFlagsHist |>.take k)).set Reg.subFlags 0
  if fl = 0 then t else logEvent 0x9011 srcMp (data8 [fl] ++ data32 (t.get Obj.lastBoundarySequence + 1)) t

/-- The demand history starts anew, the running interval beginning at `t0`. -/
def restartDemand (t0 : Int) (s : State) : State :=
  let t := s.forN 29 fun m u => u.setSeq Reg.demandHist [importOf u m] m
  ((t.setSeq Reg.subFlagsHist []).set Reg.subFlags 0).set Reg.demandFrom t0

/-! ### Closing a period -/

/-- Bytes of a value and its time. -/
def withTime (n : Nat) (v t : Int) : List Byte := beBytes n v ++ beBytes 8 t

/-- The closed period record (Table 10.5). -/
def periodBytes (s : State) (cause : Int) (at_ : Int) (skipped : Bool) : List Byte :=
  let slots (o : Obj) (i n : Nat) : List Byte := (List.range n).flatMap fun j => beBytes 10 (s.get o i j / 2 ^ 32)
  let fl := s.get Reg.periodFlags + (if skipped then 8 else 0)
  let b := beBytes 4 (s.get Obj.openPeriod) ++ beBytes 1 cause ++ beBytes 1 fl ++ beBytes 2 (s.get Obj.configurationInUse) ++
    beBytes 8 (s.get Reg.periodOpened) ++ beBytes 8 at_ ++ List.replicate 8 0 ++
    ((List.range 24).flatMap fun n => slots Reg.dmTariff n 8) ++ ((List.range 4).flatMap fun f => slots Reg.afTariff f 16) ++
    slots Reg.siteTariff 0 16 ++
    ((List.range 29).flatMap fun m => (List.range 24).flatMap fun j => withTime 4 (s.get Obj.topDemand m j) (s.get Obj.topDemandEnd m j)) ++
    ((List.range 24).flatMap fun n => (List.range 3).flatMap fun j => withTime 4 (s.get Obj.dcHighest n j) (s.get Obj.dcHighestTime n j)) ++
    ((List.range 4).flatMap fun f => (List.range 4).flatMap fun j => withTime 4 (s.get Obj.afExtreme f j) (s.get Obj.afExtremeTime f j))
  b ++ beBytes 4 (crc32 b)

/-- The pending demand configuration as Table 10.5 encodes it (R251). -/
def demandConfig (s : State) : Int :=
  s.get Obj.demandInterval * 256 + s.get Obj.demandMode * 128 + s.get Obj.subintervals

/-- A billing period closes at an instant (R252): its record, the restart of top demands and extremes, the next period, and
the demand configuration that waited for it (R251). -/
def closePeriod (cause at_ : Int) (skipped : Bool) (s : State) : State :=
  let rec_ := periodBytes s cause at_ skipped
  let old := s.log Reg.closedPeriods
  let t := s.setLog Reg.closedPeriods ((rec_ :: old).take 24)
  let t := match old.getLast? with
    | some x => if 24 ≤ old.length then dropItem 3 x t else t
    | none => t
  let t := queueItem (t.getN Obj.periodPushChannel) 3 rec_ t
  let t := logEvent 0x9012 srcMp (data32 (t.get Obj.openPeriod) ++ data8 [cause]) t
  let t := t.forN 29 fun m u => u.forN 24 fun j w => (w.set Obj.topDemand 0 m j).set Obj.topDemandEnd 0 m j
  let t := t.forN 24 fun n u => u.forN 3 fun j w => (w.set Obj.dcHighest 0 n j).set Obj.dcHighestTime 0 n j
  let t := t.forN 4 fun f u => u.forN 4 fun j w => (w.set Obj.afExtreme 0 f j).set Obj.afExtremeTime 0 f j
  let t := ((t.set Obj.openPeriod ((t.get Obj.openPeriod + 1) % 4294967296)).set Reg.periodOpened at_).set Reg.periodFlags 0
  let cfg := demandConfig t
  if t.get Obj.configurationInUse = cfg then t else restartDemand at_ (t.set Obj.configurationInUse cfg)

/-! ### Calendar, slot -/

/-- The pending calendar becomes the active one (R247). -/
def activateCalendar (s : State) : State :=
  let t := s.forN 12 fun k u => u.set Reg.actSeason (u.get Obj.season k) k
  let t := t.forN 16 fun k u => u.forN 7 fun j w => w.set Reg.actWeek (w.get Obj.weekProfile k j) k j
  let t := t.forN 32 fun k u => u.forN 16 fun j w => w.set Reg.actDay (w.get Obj.dayProfile k j) k j
  let t := t.forN 256 fun k u => u.set Reg.actSpecial (u.get Obj.specialDays (k / 128) (k % 128)) k
  logEvent 0x9016 srcMp [] ((t.inc Obj.calendarActivations).set Reg.activationDue 0)

/-- The slot switches (R241): event 0x9010. -/
def switchSlot (v : Int) (s : State) : State :=
  if s.get Obj.slotInForce = v then s else logEvent 0x9010 srcMp (data8 [s.get Obj.slotInForce, v]) (s.set Obj.slotInForce v)

/-! ### Boundaries -/

/-- One kind of the pending boundary. -/
def hasKind (s : State) (k : Nat) : Bool := s.bit Reg.bdKinds k

/-- A boundary record (Table 10.6). -/
def boundaryBytes (s : State) (seq effective oldSlot newSlot flags period : Int) (demands : List Int) : List Byte :=
  let b := beBytes 4 seq ++ beBytes 8 (s.get Reg.bdInstant) ++ beBytes 8 effective ++ beBytes 1 (s.get Reg.bdKinds) ++
    beBytes 1 oldSlot ++ beBytes 1 newSlot ++ beBytes 1 flags ++ beBytes 8 (s.get Reg.bdStep) ++
    beBytes 2 (s.get Reg.bdSkipped) ++ beBytes 2 (s.get Reg.bdSkippedClosings) ++ beBytes 4 period ++
    fitBytes 116 (demands.flatMap fun v => beBytes 4 v)
  b ++ beBytes 4 (crc32 b)

/-- The record entered in its ring, and in the clock audit log after a step of more than 60 s (R255, R260). -/
def storeBoundary (oldSlot flags period : Int) (demands : List Int) (s : State) : State :=
  let seq := (s.get Obj.lastBoundarySequence + 1) % 4294967296
  let b := boundaryBytes s seq s.time oldSlot (s.get Obj.slotInForce) flags period demands
  let t := (s.set Obj.lastBoundarySequence seq).setLog Reg.boundaryRing ((b :: s.log Reg.boundaryRing).take 4096)
  let t := submit wrMp jkBoundary 0 0 b true t
  let t := if 60000000000 < |s.get Reg.bdStep| then
      (t.setLog Reg.clockAudit (b :: t.log Reg.clockAudit)).set Obj.clockAuditEntriesUsed (t.get Obj.clockAuditEntriesUsed + 1)
    else t
  let t := (((t.set Reg.bdKinds 0).set Reg.bdCause 0).set Reg.bdStep 0).set Reg.bdSkipped 0
  ((t.set Reg.bdSkippedClosings 0).set Reg.bdCommitted 0).set Reg.bdClosing 0

/-- The pending boundary takes effect, in the order of R254: interval, period, slot. -/
def applyBoundary (s : State) : State :=
  if s.get Reg.bdKinds = 0 then s
  else
    let old := s.get Obj.slotInForce
    let inst := s.get Reg.bdInstant
    let step := hasKind s 3
    let judged := hasKind s 0 || step
    let t := if step then s.set Reg.subFlags ((s.getN Reg.subFlags ||| 2 : Nat) : Int) else s
    let fl := if judged then windowFlags t else 0
    let t := if judged then judgeDemand (s.get Reg.bdEnd) old t else t
    let demands := if judged then (List.range 29).map fun m => t.get Obj.lastDemand m else []
    let fresh := t.time
    let t := if step then
        let short := nextEnd t fresh - fresh < (subLength t : Int) * 1000000000
        (t.set Reg.demandFrom fresh).set Reg.subFlags (if short then 2 else 0)
      else if hasKind s 0 then t.set Reg.demandFrom (s.get Reg.bdEnd)
      else t
    let cause := s.get Reg.bdCause
    let period := if cause = 0 then 0 else t.get Obj.openPeriod
    let t := if cause = 0 then t
      else
        let u := closePeriod cause inst (s.get Reg.bdSkippedClosings != 0) t
        if s.get Reg.bdClosing = 0 then u else u.set Reg.lastClosing (s.get Reg.bdClosing)
    let t := if step then t.setBit Reg.periodFlags 0 true else t
    let t := if hasKind s 4 then
        (activateCalendar (t.set Reg.subFlags ((t.getN Reg.subFlags ||| 4 : Nat) : Int))).setBit Reg.periodFlags 2 true
      else t
    let t := t.setB Obj.dstInForce (dstShiftAt t t.time != 0)
    let t := switchSlot (slotAt t (max inst t.time)) t
    let t := storeBoundary old fl period demands t
    if step then logEvent 0x9014 srcMp (beBytes 8 (s.get Reg.bdStep / 1000000)) t else t

/-- A closure joins the boundary of its instant; a pending boundary of another instant takes effect first. -/
def joinBoundary (kind : Nat) (inst : Int) (s : State) : State :=
  let t := if s.get Reg.bdKinds ≠ 0 ∧ s.get Reg.bdInstant ≠ inst then applyBoundary s else s
  (t.setBit Reg.bdKinds kind true).set Reg.bdInstant inst

/-- Boundaries are handled once the time is set (R257). -/
def billingRuns (s : State) : Bool := s.get Obj.timeQuality != 0 && !s.is Reg.derivationDue

/-- An interval or subinterval ends (R248). -/
def intervalDue (s : State) : Bool := billingRuns s && !hasKind s 0 && nextEnd s (s.get Reg.demandFrom) ≤ s.time

def execDemandIntervalEnd (s : State) : Out :=
  s.run fun s =>
    if intervalDue s then
      let e := nextEnd s (s.get Reg.demandFrom)
      (joinBoundary 0 e s).set Reg.bdEnd e
    else s

/-- A calendar closing instant has come (R252, R253). -/
def execBillingPeriodClose (s : State) : Out :=
  s.run fun s =>
    let now := civilTime s s.time
    if ¬ billingRuns s ∨ hasKind s 1 then s
    else match nextClosing s (max (s.get Reg.lastClosing) (civilTime s (s.get Reg.periodOpened))) with
      | none => s
      | some c =>
        if now < c then s
        else ((joinBoundary 1 (s.time - (now - c)) s).set Reg.bdCause 1).set Reg.bdClosing c

/-- The host closes the period (R252). -/
def execClosePeriod (r : Req) (s : State) : Out :=
  s.run fun s => hostWrite r Obj.closePeriod 0 0 [1] (fun _ t =>
    .ok (if hasKind t 1 then t else (joinBoundary 1 t.time t).set Reg.bdCause 2)) s

/-- A switch point changes the slot in force (R245). -/
def execTariffSlotSwitch (s : State) : Out :=
  s.run fun s =>
    if billingRuns s ∧ ¬ hasKind s 2 ∧ slotAt s s.time ≠ s.get Obj.slotInForce then
      joinBoundary 2 (s.time / minuteNs * minuteNs) s
    else s

/-- An activation instant set (R247): one already past stands for the next whole second. -/
def setActivation (v : Int) (t : State) : State :=
  let at_ := if v ≤ t.time then (t.time / 1000000000 + 1) * 1000000000 else v
  ((t.set Obj.activationInstant v).set Reg.activationDue 1).set Reg.activationAt at_

def execCalendarActivationWrite (r : Req) (data : List Byte) (s : State) : Out :=
  s.run fun s => hostWrite r Obj.activationInstant 0 0 data (fun _ t => .ok (setActivation (ofBytesI data) t)) s

def execCalendarActivation (s : State) : Out :=
  s.run fun s =>
    if billingRuns s ∧ s.is Reg.activationDue ∧ ¬ hasKind s 4 ∧ s.get Reg.activationAt ≤ s.time then
      joinBoundary 4 (s.get Reg.activationAt) s
    else s

/-- DST starts or ends (R243, R246). -/
def execDstChange (s : State) : Out :=
  s.run fun s =>
    let on : Bool := dstShiftAt s s.time != 0
    if billingRuns s ∧ ¬ hasKind s 6 ∧ on ≠ s.is Obj.dstInForce then joinBoundary 6 (s.time / minuteNs * minuteNs) s else s

/-- The boundary record is committed; it takes effect at the next sample (R255). -/
def execBoundaryRecordCommitted (s : State) : Out :=
  s.run fun s => if s.get Reg.bdKinds ≠ 0 then s.set Reg.bdCommitted 1 else s

/-! ### Clock steps and derivation -/

/-- The aligned ends after `a` and up to `b`, counted. -/
def endsBetween (s : State) (a b : Int) : Nat :=
  let e := nextEnd s a
  if b < e then 0 else ((b - e) / ((subLength s : Int) * 1000000000) + 1).toNat

/-- A step of more than 1 s, module time already moved: a boundary of kind [3] (R258, R259). -/
def clockStep (before : Int) (s : State) : State :=
  if ¬ billingRuns s then s
  else
    let now := s.time
    let t := s.forN 250 fun c u => if ctxInSession u c then u.setBit Reg.recordFlags 1 true c else u
    let t := ((joinBoundary 3 before t).set Reg.bdEnd before).set Reg.bdStep (now - before)
    let whole := if before < now then endsBetween t before now - 1 else 0
    let t := t.set Reg.bdSkipped (min 65535 whole)
    match closingsUpTo t (civilTime t now) 4096 (max (t.get Reg.lastClosing) (civilTime t before)) with
    | none => t
    | some (_, l, k) =>
      if before < now then
        (((t.setBit Reg.bdKinds 1 true).set Reg.bdCause 3).set Reg.bdClosing l).set Reg.bdSkippedClosings (min 65535 k)
      else t

/-- Judgements of R256 for one aligned end `e`: over the energy counted, unflagged up to the cut, flagged after it. -/
def derivedEnd (cut e : Int) (s : State) : State :=
  let t := if e ≤ cut then s else s.set Reg.subFlags ((s.getN Reg.subFlags ||| 1 : Nat) : Int)
  judgeDemand e (slotAt t (e - 1000000000)) t

/-- The ends whose window holds energy counted before `held`, at most `n`: each judged, the period closed at its instant
when that comes first. The state, the end reached, and the demands of the first judgement. -/
def derivedEnds (cut held now : Int) (closing : Option Int) : Nat → Int → State → State × Int × List Int
  | 0, e, s => (s, e, [])
  | n + 1, from_, s =>
    let e := nextEnd s from_
    if now < e ∨ held ≤ e - (demandLength s : Int) * 1000000000 then
      (s, from_, [])
    else
      let due := match closing with
        | some c => decide (c < civilTime s e) && s.get Reg.bdCause == 4
        | none => false
      let t := if due then (closePeriod 4 (s.get Reg.bdInstant) (1 < s.get Reg.bdSkippedClosings) s).set Reg.bdCause 0 else s
      let t := derivedEnd cut e t
      let d := (List.range 29).map fun m => t.get Obj.lastDemand m
      let (u, last, _) := derivedEnds cut held now closing n e t
      (u, last, d)

/-- The slot and the clock shift in force at an instant. -/
def putSlot (now : Int) (s : State) : State := switchSlot (slotAt s now) (s.setB Obj.dstInForce (dstShiftAt s now != 0))

/-- A module that has never metered under a set time starts its first interval and period. -/
def firstInterval (now : Int) (s : State) : State :=
  let t := if s.get Reg.demandFrom = 0 then restartDemand now s else s
  putSlot now (if t.get Reg.periodOpened = 0 then t.set Reg.periodOpened now else t)

/-- The derivation begins: what it derives, and the closing instant if one has passed. -/
def beginDerivation (closing : Option (Int × Int × Nat)) (now : Int) (s : State) : State :=
  match closing with
  | some (f, _, k) => (((s.set Reg.bdKinds 32).set Reg.bdCause 4).set Reg.bdInstant (now - (civilTime s now - f))).set
      Reg.bdSkippedClosings (min 65535 k)
  | none => ((s.set Reg.bdKinds 32).set Reg.bdCause 0).set Reg.bdInstant now

/-- The period that a closing instant ends, when no derived interval has ended it before. -/
def deriveClosing (closing : Option (Int × Int × Nat)) (s : State) : State :=
  let t := if s.get Reg.bdCause = 4 then closePeriod 4 (s.get Reg.bdInstant) (1 < s.get Reg.bdSkippedClosings) s else s
  match closing with
  | some (_, l, _) => t.set Reg.lastClosing l
  | none => t

/-- The interval ends without a derived interval, after `last`, and the interval in progress. -/
def skipEnds (last now : Int) (s : State) : State :=
  let skipped := endsBetween s last now
  let t := if 0 < skipped then
      (s.forN 29 fun m u => u.setSeq Reg.demandHist (List.replicate (demandWindows u) (importOf u m)) m).setSeq Reg.subFlagsHist
        (List.replicate (demandWindows s) 1)
    else s
  (((t.set Reg.bdSkipped (min 65535 skipped)).set Reg.subFlags 1).set Reg.demandFrom
    (nextEnd t now - (subLength t : Int) * 1000000000)).setBit Reg.periodFlags 1 true

/-- The kinds of boundary that the record carries, and the slot in force. -/
def deriveKinds (demands : List Int) (period old now : Int) (s : State) : State :=
  let t := if demands.isEmpty then s else s.setBit Reg.bdKinds 0 true
  let t := putSlot now (if period = 0 then t else t.setBit Reg.bdKinds 1 true)
  if t.get Obj.slotInForce = old then t else t.setBit Reg.bdKinds 2 true

/-- The derivation of R256 at a restart, or when the time is first set (R257): one record for every boundary due since the
cut. -/
def deriveBoundaries (s : State) : State :=
  let now := s.time
  let cut := s.get Reg.meteredAt
  let s := s.set Reg.derivationDue 0
  if s.get Reg.demandFrom = 0 ∨ cut = 0 ∨ now ≤ cut then firstInterval now s
  else
    let old := s.get Obj.slotInForce
    let closing := closingsUpTo s (civilTime s now) 4096 (max (s.get Reg.lastClosing) (civilTime s (s.get Reg.periodOpened)))
    let period := match closing with | some _ => s.get Obj.openPeriod | none => 0
    let t := beginDerivation closing now s
    let held := min cut (nextEnd t (t.get Reg.demandFrom))
    let (t, last, demands) := derivedEnds cut held now (closing.map (·.1)) (demandWindows t + 1) (t.get Reg.demandFrom) t
    let t := deriveKinds demands period old now (skipEnds last now (deriveClosing closing t))
    logEvent 0x9013 srcMp (beBytes 2 (t.get Reg.bdSkipped) ++ beBytes 2 (t.get Reg.bdSkippedClosings))
      (storeBoundary old (if demands.isEmpty then 0 else t.get Obj.lastIntervalFlags 28) period demands t)

end Sys2Proof.Machine
end

