-- ==== Sys2Proof/Machine/Planning.lean ====
section
/-!
DEFINITION. The planning pass: the next 4 h filled by price (R130, R141).
-/

namespace Sys2Proof.Machine

/-- Energy of a context's session so far [mWh] (0x6000:0E). -/
def energySoFar (s : State) (c : Nat) : Int :=
  let start : Int := ofBytes (s.bytes Obj.startReg c 0)
  let n := s.getN Obj.regSetOutlet c
  if s.is Reg.ctxOpen c ∧ n < 24 then max 0 ((s.get Reg.dmSum n 0 / 2 ^ 32 - start) / 65536)
  else max 0 ((ofBytes (s.bytes Obj.stopReg c 0) - start) / 65536)

/-- Rated power of an outlet [W]. -/
def outletWatts (s : State) (n : Nat) : Rat :=
  (s.get Obj.outletRatedCurrent n : Rat) / 10 * ((s.get Obj.outletRatedVoltage n : Rat) / 100)

/-- The most a context draws [W]: the demand at its outlet, at most the outlet's rating; before it charges, the rating of
its outlet, or of the largest outlet declared. -/
def contextWatts (s : State) (c : Nat) : Rat :=
  match (List.range 24).find? fun n => contextOf s n == some c with
  | some n => if s.get Obj.ctxState c = cxDelivering then min (demandOf s n) (outletWatts s n) else outletWatts s n
  | none =>
    if s.get Obj.ctxOutlet c < 24 then outletWatts s (s.getN Obj.ctxOutlet c)
    else (((List.range 24).filter (outletDeclared s)).map (outletWatts s)).foldl max 0

/-- Ordering of contexts: class, then departure, none last. -/
def planBefore (s : State) (a b : Nat) : Bool :=
  let dep := fun c => if s.get Obj.ctxDeparture c = 0 then (2 : Int) ^ 63 else s.get Obj.ctxDeparture c
  s.get Obj.ctxClass a < s.get Obj.ctxClass b || (s.get Obj.ctxClass a == s.get Obj.ctxClass b && dep a ≤ dep b)

/-- The contexts planned: RESERVED, BOUND and DELIVERING, in the order of R141. -/
def planned (s : State) : List Nat :=
  ((List.range 250).filter fun c => s.get Obj.ctxState c == cxReserved || s.get Obj.ctxState c == cxBound ||
    s.get Obj.ctxState c == cxDelivering).mergeSort (planBefore s)

/-- The steps of a context in the order they are filled: cheapest first, earliest on equal price; without a departure or a
need, earliest first. -/
def stepsFor (s : State) (prices : List Int) (c : Nat) : List Nat :=
  let dep := s.get Obj.ctxDeparture c
  let from_ := if s.get Obj.ctxState c = cxReserved then max 0 ((s.get Obj.ctxReservationStart c - s.time) / minuteNs) else 0
  let cheap := dep ≠ 0 ∧ s.get Obj.ctxEnergyNeed c ≠ 0
  let until_ := if cheap then (dep - s.time) / minuteNs else 240
  let l := (List.range 240).filter fun (t : Nat) => from_ ≤ (t : Int) && (t : Int) < until_
  if cheap then l.mergeSort (fun a b => prices.getD a 0 ≤ prices.getD b 0) else l

/-- The steps of a context filled: the remaining capacity of each step [W], the power in the first step, the need left [Ws],
none when the need is unknown. -/
def fillSteps (pmax : Rat) : List Nat → List Rat × Rat × Option Rat → List Rat × Rat × Option Rat
  | [], r => r
  | t :: l, (cap, first, need) =>
    let lim := min (cap.getD t 0) pmax
    let x := max 0 (match need with | some e => min lim (e / 60) | none => lim)
    fillSteps pmax l (cap.set t (cap.getD t 0 - x), if t = 0 then first + x else first, need.map fun e => e - x * 60)

/-- One context filled: its planned power in the first step [W], and whether it is at risk. -/
def planContext (s : State) (prices : List Int) (cap : List Rat) (c : Nat) : List Rat × Rat × Bool :=
  let need : Option Rat := if s.get Obj.ctxEnergyNeed c = 0 then none
    else some (max 0 ((s.get Obj.ctxEnergyNeed c : Rat) - (energySoFar s c : Rat) / 1000) * 3600)
  let (cap, first, left) := fillSteps (contextWatts s c) (stepsFor s prices c) (cap, 0, need)
  (cap, first, match left with | some e => decide (0 < e) | none => false)

/-- The plan published (R141): planned powers in 0.1 kW, contexts at risk, event 0x333A for each newly at risk. -/
def publishPlan (s : State) : State :=
  let prices := (List.range 240).map fun k => s.get Obj.price 0 (slotAt s (s.time + (k : Int) * minuteNs) - 1).toNat
  let cap := List.replicate 240 ((s.get Obj.availableDCPowerC : Rat) * 100)
  let l := planned s
  let res := (l.foldl (fun (a : List Rat × List (Nat × Rat × Bool)) c =>
    let (cap, first, risk) := planContext s prices a.1 c
    (cap, a.2 ++ [(c, first, risk)])) (cap, [])).2
  let t := s.forN 250 fun c u => if l.contains c then u else (u.set Reg.planned 0 c).set Reg.atRisk 0 c
  let t := res.foldl (fun u x =>
    let w := u.set Reg.planned (x.2.1 / 100).floor x.1
    let w := if x.2.2 ∧ ¬ u.is Reg.atRisk x.1 then logEvent 0x333A srcAp1 (data8 [x.1]) w else w
    w.setB Reg.atRisk x.2.2 x.1) t
  let t := t.forN 24 fun n u => match contextOf u n with
    | some c => u.set Obj.plannedPower (u.get Reg.planned c) n
    | none => u.set Obj.plannedPower 0 n
  (t.set Obj.contextsAtRisk (res.filter fun x => x.2.2).length).set Obj.lastPlanTime t.time

/-- The second of module time in progress. -/
def timeSecond (s : State) : Int := s.time / (second : Int)

/-- A planning pass in each second of module time that is a multiple of 10, while planning is enabled; `completes` tells
whether it is done within 10 s (R129, R130, R141). -/
def execPlanningPass (completes : Bool) (s : State) : Out :=
  s.run fun s =>
    if ¬ s.is Obj.planningEnable ∨ s.is Reg.planDue ∨ timeSecond s % 10 ≠ 0 ∨ s.get Reg.planSecond = timeSecond s + 1 then s
    else
      let t := (s.set Reg.planAt (s.now + 1)).set Reg.planSecond (timeSecond s + 1)
      if completes then publishPlan t else t.set Reg.planDue 1

/-- A pass not complete within 10 s is discarded; the last planned powers stay (R130). -/
def execPlanningPassTimeout (s : State) : Out :=
  s.run fun s => if s.is Reg.planDue ∧ s.getN Reg.planAt + 10 * second ≤ s.now + 1 then s.set Reg.planDue 0 else s

end Sys2Proof.Machine
end

