-- ==== Sys2Proof/Machine/Thermal.lean ====
section
/-!
DEFINITION. Temperature channels, thermal stop and connector limits, write windows, the cable model, the cooling loops
and the cabinet limits (Temperature, cable cooling and thermal limits). A temperature is kept in units of 1e-6 degC.
-/

namespace Sys2Proof.Machine

/-! ### Channels -/

/-- Sensor type of a channel (Table 8.2). -/
def tcType (s : State) (c : Nat) : Int := s.get Obj.tcSensorType c

/-- A channel is measured: it has a type, and a spare has a role (R191, Table 8.3). -/
def tcUsed (s : State) (c : Nat) : Bool := tcType s c != 0 && (c < 132 || s.get Obj.tcSpareRole c != 0)

/-- The spares assigned to an outlet with a role: 2 extra pin, 3 extra cable body. -/
def sparesOf (s : State) (n : Nat) (role : Int) : List Nat :=
  ((List.range 12).map (· + 132)).filter fun c => tcUsed s c && s.get Obj.tcSpareRole c == role && s.getN Obj.tcOutlet c == n

/-- Pins and cable bodies of an outlet. -/
def pinsOf (s : State) (n : Nat) : List Nat := [5 * n, 5 * n + 1].filter (tcUsed s) ++ sparesOf s n 2
def bodiesOf (s : State) (n : Nat) : List Nat := [5 * n + 2].filter (tcUsed s) ++ sparesOf s n 3

/-- A level of a channel; where it was never written, the default by its place, a spare's by its role (R196). -/
def tcLevelOf (s : State) (o : Obj) (pin body : Int) (c : Nat) : Int :=
  let role := s.get Obj.tcSpareRole c
  match storeFind s.regs (o.key c 0) with
  | some v => v
  | none => if 132 ≤ c ∧ role = 2 then pin else if 132 ≤ c ∧ role = 3 then body else o.dflt c 0
def tcWarnOf (s : State) (c : Nat) : Int := tcLevelOf s Obj.tcWarning 800 700 c
def tcStopOf (s : State) (c : Nat) : Int := tcLevelOf s Obj.tcStop 900 850 c
def tcLowerOf (s : State) (c : Nat) : Int := tcLevelOf s Obj.tcLower (-400) (-400) c
def tcRateWarnOf (s : State) (c : Nat) : Int := tcLevelOf s Obj.tcRateWarn 100 200 c
def tcRateStopOf (s : State) (c : Nat) : Int := tcLevelOf s Obj.tcRateStop 300 500 c

/-- Degrees Celsius as units of 1e-6. -/
def micro (t : Rat) : Int := roundAway (t * 1000000)

/-- Resistance of a PT1000 [ohm] at a temperature [degC] by the coefficients of IEC 60751. -/
def ptOhms (t : Rat) : Rat :=
  1000 * (1 + 39083 / 10000000 * t - 5775 / 10000000000 * t * t +
    (if t < 0 then -(4183 / 1000000000000000) * (t - 100) * t * t * t else 0))

/-- The highest temperature [1e-6 degC] at which a PT1000 has at most a resistance, sought by halving. -/
def ptSearch (ohms : Rat) : Nat → Int → Int → Int
  | 0, lo, _ => lo
  | k + 1, lo, hi =>
    let mid := (lo + hi) / 2
    if ptOhms ((mid : Rat) / 1000000) ≤ ohms then ptSearch ohms k mid hi else ptSearch ohms k lo mid

/-- A reading converted (R192). For a diode `a` and `b` are the forward voltages at 10 and 100 uA [uV]; for an NTC or a
PT1000 `a` is the resistance [0.001 ohm]; for a ring oscillator `a` is the value by its calibration [1e-6 degC] and `b`
tells a count of zero (1) or a saturated one (2). -/
def convert (s : State) (c : Nat) (a b : Int) : Int :=
  let t : Rat :=
    if tcType s c = 1 then
      1602176634 / 138064900000 * ((b - a : Int) : Rat) / ((s.get Obj.tcIdeality c : Rat) / 10000 * Config.ln 10) - 27315 / 100
    else if tcType s c = 2 then
      1 / (1 / (29815 / 100) + Config.ln ((a : Rat) / 10000000) / (s.get Obj.tcNtcB c : Rat)) - 27315 / 100
    else if tcType s c = 3 then (ptSearch ((a : Rat) / 1000) 40 (-100000000) 450000000 : Rat) / 1000000
    else (a : Rat) / 1000000
  micro (t + (if tcType s c = 4 then 0 else (s.get Obj.tcTrim c : Rat) / 100))

/-- The electrical condition of a reading (Table 8.5): 0 none, 1 open, 2 short. -/
def electrical (s : State) (c : Nat) (a b : Int) : Int :=
  if tcType s c = 1 then (if 950000 < b then 1 else if b < 150000 then 2 else 0)
  else if tcType s c = 2 then (if 500000000 < a then 1 else if a < 50000 then 2 else 0)
  else if tcType s c = 3 then (if 2500000 < a then 1 else if a < 700000 then 2 else 0)
  else clampI 0 2 b

/-- The range of a type (Table 8.2) [degC]. -/
def outOfRange (s : State) (c : Nat) (v : Int) : Bool :=
  let (lo, hi) : Int × Int :=
    if tcType s c = 2 then (-40, 150) else if tcType s c = 3 then (-50, 250) else (-55, 150)
  v < lo * 1000000 || hi * 1000000 < v

/-- Filtered value: the median of the last three readings, until three exist the highest (R193). -/
def filterOf (l : List Int) : Int := if l.length < 3 then l.foldl max (l.headD 0) else (sortInts (l.take 3)).getD 1 0

/-- The filtered value of a channel [1e-6 degC], if it has one. -/
def tcValue (s : State) (c : Nat) : Option Int := if tcUsed s c then (s.seq Reg.tcFilt c).head? else none

/-- Rate of rise [0.01 K/s] (R194); none until ten filtered values exist. -/
def rateOf (l : List Int) : Option Rat :=
  if l.length < 10 then none
  else
    some (((l.take 10).zipIdx.foldl (fun a x => a + (9 - 2 * (x.2 : Int)) * x.1) 0 : Rat) / (33 / 20) / 100000)

/-- A temperature in units of 0.1 degC, as shown. -/
def tenths (v : Int) : Int := clampI (-32768) 32767 (roundAway ((v : Rat) / 100000))

/-- A channel starts anew, its type or role written. -/
def restartChannel (c : Nat) (s : State) : State :=
  let t := ((s.setSeq Reg.tcHist [] c).setSeq Reg.tcFilt [] c).set Reg.tcElectrical 0 c
  let t := ((t.set Reg.tcClean 0 c).set Reg.tcExit 0 c).set Obj.tcBrokenCause 0 c
  ((t.set Obj.tcState 0 c).set Obj.tcFiltered 0 c).set Obj.tcRate 0 c

/-- One raw reading of a channel in use (R193, R194). -/
def takeReading (readings : List (Int × Int)) (c : Nat) (s : State) : State :=
  if ¬ tcUsed s c then (if s.get Obj.tcState c = 0 then s else restartChannel c s)
  else
    let (a, b) := readings.getD c (0, 0)
    let raw := convert s c a b
    let h := (raw :: s.seq Reg.tcHist c).take 3
    let f := (filterOf h :: s.seq Reg.tcFilt c).take 300
    let t := ((s.setSeq Reg.tcHist h c).setSeq Reg.tcFilt f c).set Obj.tcRaw (tenths raw) c
    let rate : Int := match rateOf f with
      | some r => clampI (-32768) 32767 (roundAway r)
      | none => 0
    (t.set Obj.tcFiltered (tenths (f.headD 0)) c).set Obj.tcRate rate c

/-- What the filtered value of a channel has changed by over the last 300 rounds; 0 until then. -/
def spanOf (s : State) (c : Nat) : Int :=
  let l := s.seq Reg.tcFilt c
  if l.length < 300 then 0 else l.foldl max (l.headD 0) - l.foldl min (l.headD 0)

/-- The neighbour group of a channel (R197). -/
def neighbours (s : State) (c : Nat) : List Nat :=
  let role := s.get Obj.tcSpareRole c
  let of (n : Nat) : List Nat := ((List.range 5).map (· + 5 * n)).filter (tcUsed s) ++ sparesOf s n 2 ++ sparesOf s n 3
  if c < 120 then (of (c / 5)).filter (· != c)
  else if 132 ≤ c ∧ (role = 2 ∨ role = 3) ∧ s.get Obj.tcOutlet c < 24 then (of (s.getN Obj.tcOutlet c)).filter (· != c)
  else []

/-- A channel is stuck (R197). -/
def isStuck (s : State) (c : Nat) : Bool :=
  tcType s c != 4 && (s.seq Reg.tcFilt c).length == 300 && spanOf s c < 200000 &&
  2 ≤ ((neighbours s c).filter fun x => 5000000 < spanOf s x).length

/-- The condition of a channel in this round (Table 8.5): the electrical one on two consecutive readings. -/
def brokenBy (s : State) (c : Nat) (now : Int) : Int :=
  if now ≠ 0 ∧ s.get Reg.tcElectrical c = now then now
  else if outOfRange s c ((s.seq Reg.tcFilt c).headD 0) then 3
  else if isStuck s c then 4
  else 0

/-- A rate limit is reached; 0 disables it (R195). -/
def rateAt (r : Option Rat) (limit : Int) : Bool := match r with
  | some q => limit != 0 && (limit : Rat) ≤ q
  | none => false

/-- The state of a channel that is not broken (Table 8.3), and the rounds of its exit condition. -/
def levelState (s : State) (c : Nat) (was : Int) : Int × Int :=
  let v := (s.seq Reg.tcFilt c).headD 0
  let r := rateOf (s.seq Reg.tcFilt c)
  let warn := tcWarnOf s c * 100000
  let stop := tcStopOf s c * 100000
  let low := tcLowerOf s c * 100000
  let hys := s.get Obj.tcHyst c * 100000
  let rs := tcRateStopOf s c
  let below : Int := if warn ≤ v ∨ rateAt r (tcRateWarnOf s c) then 2 else 1
  let rateFree : Bool := rs == 0 || (match r with | some q => decide (2 * q < (rs : Rat)) | none => true)
  if stop ≤ v ∨ v < low ∨ rateAt r rs then (3, 0)
  else if was = 3 then
    let k := if v < stop - hys ∧ low + hys < v ∧ rateFree then s.get Reg.tcExit c + 1 else 0
    if 10 ≤ k then (below, 0) else (3, k)
  else if below = 2 then (2, 0)
  else if was = 2 ∧ warn - hys ≤ v then (2, 0)
  else (1, 0)

/-- The state of a channel judged in a round (R195, R197). -/
def judgeChannel (readings : List (Int × Int)) (c : Nat) (s : State) : State :=
  if ¬ tcUsed s c then s
  else
    let (a, b) := readings.getD c (0, 0)
    let now := electrical s c a b
    let v := (s.seq Reg.tcFilt c).headD 0
    let was := s.get Obj.tcState c
    let found := brokenBy s c now
    let clean := if now ≠ 0 ∨ outOfRange s c v then 0 else s.get Reg.tcClean c + 1
    let cause := s.get Obj.tcBrokenCause c
    let leaves := was = 4 ∧ (if cause = 4 then 500000 ≤ |v - s.get Reg.tcStuckAt c| else 10 ≤ clean)
    let t := (s.set Reg.tcClean clean c).set Reg.tcElectrical now c
    let t := if was = 4 then
        (if leaves then logEvent 0x7112 srcAp1 (data8 [c]) (t.set Obj.tcBrokenCause 0 c) else t)
      else if found ≠ 0 then
        logEvent 0x7111 srcAp1 (data8 [c, found]) ((t.set Obj.tcBrokenCause found c).set Reg.tcStuckAt v c)
      else t
    let (st, k) := if (was = 4 ∧ ¬ leaves) ∨ (was ≠ 4 ∧ found ≠ 0) then (4, 0) else levelState t c was
    let t := (t.set Reg.tcExit k c).set Obj.tcState st c
    if st = was then t else logEvent 0x7110 srcAp1 (data8 [c, st] ++ beBytes 2 (tenths v)) t

/-- A channel in STOP or BROKEN. -/
def tcHot (s : State) (c : Nat) : Bool := 3 ≤ s.get Obj.tcState c

/-! ### Thermal stop and the connector limit -/

/-- The causes of a thermal stop (R198), as 0x4011:07. -/
def stopCauses (s : State) (n : Nat) : Int :=
  let bit (k : Nat) (c : Bool) : Int := if c then 2 ^ k else 0
  let own := (List.range 5).map (· + 5 * n)
  let spares := sparesOf s n 2 ++ sparesOf s n 3
  let broken := (own ++ spares).any fun c => s.get Obj.tcState c == 4
  let unit := s.get Obj.coolantBus n != 0xFF && (s.bit Obj.coolantStatus 5 n || s.bit Obj.coolantStatus 4 n)
  ((List.range 5).map fun k => bit k (tcHot s (5 * n + k))).sum + bit 5 (spares.any (tcHot s)) + bit 6 unit + bit 7 broken

/-- The thermal stop of an outlet judged (R198): its entry logs event 0x4020 and is the fault of end cause 13. -/
def judgeStop (n : Nat) (s : State) : State :=
  let c := stopCauses s n
  let t := s.set Obj.thermalStopCauses c n
  let t := if c % 128 = 0 then t else (t.set Obj.cableLimit 0 n).set Obj.connectorLimit 0 n
  if c % 128 = 0 then t.set Reg.outletStopped 0 n
  else if s.is Reg.outletStopped n then t
  else outletFault n 13 false (logEvent 0x4020 srcAp1 (data8 [n] ++ beBytes 2 c) (t.set Reg.outletStopped 1 n))

/-- The pin of an outlet with the highest filtered value. -/
def hottestPin (s : State) (n : Nat) : Option (Nat × Int) :=
  (pinsOf s n).foldl (fun a c => match tcValue s c, a with
    | some v, some (_, w) => if w < v then some (c, v) else a
    | some v, none => some (c, v)
    | none, _ => a) none

/-- The connector limit at a slow tick (R199, R200). Where no pin is measured the spec gives no value: a free one. -/
def connectorStep (n : Nat) (s : State) : State :=
  let rated := s.get Obj.outletRatedCurrent n
  let (raw, t) : Int × State := match hottestPin s n with
    | some (c, v) =>
      let f := clampR 0 1 (((tcStopOf s c * 100000 - v : Int) : Rat) / ((tcStopOf s c - tcWarnOf s c : Int) * 100000))
      ((f * rated).floor, s)
    | none => let (d, t) := s.draw 81; (clampI 0 40000 d, t)
  let rising := (pinsOf t n).any fun c =>
    t.get Obj.tcState c == 2 && rateAt (rateOf (t.seq Reg.tcFilt c)) (tcRateWarnOf t c)
  let v := if rising then min raw (t.get Obj.connectorLimit n) else raw
  let v := if t.is Reg.outletStopped n then 0 else v
  let t := (t.set Obj.connectorLimit v n).setB Obj.connectorLimitFrozen rising n
  let rate := (pinsOf t n).foldl (fun m c => max m (t.get Obj.tcRate c)) 0
  if ¬ rising then t.set Reg.freezeLogged 0 n
  else if t.is Reg.freezeLogged n then t
  else logEvent 0x4021 srcAp1 (data8 [n] ++ beBytes 2 rate) (t.set Reg.freezeLogged 1 n)

/-! ### Die temperatures and write windows -/

/-- The outlets whose context is BOUND or DELIVERING make a normal stop with end cause 13 (R202, R204). -/
def stopSessions (cause : Int) (s : State) : State :=
  s.forN 24 fun n u => match contextOf u n with
    | some c => if u.get Obj.ctxState c = cxBound ∨ u.get Obj.ctxState c = cxDelivering then normalStop n cause u else u
    | none => u

/-- Die temperatures (R202). `was` are the channel states before this round. -/
def judgeDies (was : Nat → Int) (s : State) : State :=
  let dies := (List.range 12).map (· + 120)
  let hot := dies.filter fun c => tcHot s c && was c < 3
  let t := s.forL hot fun c u => logEvent 0x2035 srcAp1 (data8 [c] ++ beBytes 2 (u.get Obj.tcFiltered c)) u
  let t := if hot.isEmpty then t else handOverOr (fun u => stopSessions 13 (u.set Reg.dieStop 1)) t
  let good := dies.all fun c => t.get Obj.tcState c == 1 || t.get Obj.tcState c == 2
  let t := t.set Reg.dieGood (if good then min 10 (t.get Reg.dieGood + 1) else 0)
  if 10 ≤ t.get Reg.dieGood then t.set Reg.dieStop 0 else t

/-- The shadow is written to the journal in order, and the waiting event entries enter the ring, when the window opens
(R204). -/
def journalOpens (s : State) : State :=
  let t := if (s.log Reg.journalItems).isEmpty then s.set Reg.journalItemsAt s.frame else s
  let t := t.setLog Reg.journalItems (t.log Reg.journalItems ++ t.log Reg.shadow)
  let t := ((t.setLog Reg.shadow []).set Obj.batteryDomainShadowInUse 0).set Reg.shadowLogged 0
  (t.log Reg.eventWaiting).reverse.foldl (fun u e => ringEntry e u) (t.setLog Reg.eventWaiting [])

/-- A write window (R203): 0 journal by TC128 from -40 to 105 degC, 1 flash by TC129 from -20 to 85 degC. The first
judgement after reset opens it at once. -/
def judgeWindow (k : Nat) (o : Obj) (lo hi : Int) (s : State) : State :=
  let c := 128 + k
  let v := (s.seq Reg.tcFilt c).headD 0
  let broken := s.get Obj.tcState c = 4
  let inside := ¬ broken ∧ lo * 1000000 ≤ v ∧ v ≤ hi * 1000000
  let well := ¬ broken ∧ (lo + 2) * 1000000 ≤ v ∧ v ≤ (hi - 2) * 1000000
  let data := beBytes 2 (s.get Obj.tcFiltered c)
  let t := (s.set Reg.windowGood (if well then min 10 (s.get Reg.windowGood k + 1) else 0) k).set Reg.windowJudged 1 k
  if s.is o then
    (if inside then t
     else
      let u := logEvent (0x2420 + 2 * k) srcKc data (t.set o 0)
      if k = 0 then stopSessions 13 u else u)
  else if (¬ s.is Reg.windowJudged k ∧ inside) ∨ 10 ≤ t.get Reg.windowGood k then
    let u := t.set o 1
    logEvent (0x2421 + 2 * k) srcKc data (if k = 0 then journalOpens u else u)
  else t

def judgeWindows (s : State) : State :=
  judgeWindow 1 Obj.flashWritesPermitted (-20) 85 (judgeWindow 0 Obj.journalWritesPermitted (-40) 105 s)

/-! ### The cable model -/

/-- A measured temperature [degC]; a channel that is not measured has none the spec names: a free value. -/
def tempOf (c : Nat) (s : State) : Rat × State :=
  match tcValue s c with
  | some v => ((v : Rat) / 1000000, s)
  | none => let (d, t) := s.draw 82; ((d : Rat) / 1000000, t)

/-- The model is valid (R208). -/
def modelIsValid (s : State) (n : Nat) : Bool :=
  0 < s.get Obj.loopResistance n && 0 < s.get Obj.heatCapacityC n && 0 < s.get Obj.conductance n && 0 < s.get Obj.heatCapacityK n

/-- Both time constants of R208 stay at or above 0.1 s; one that a parameter of 0 leaves without a value is not judged. -/
def constantsFit (s : State) (n : Nat) : Bool :=
  let gcc : Rat := (s.get Obj.conductance n : Rat) / 10
  let gf : Rat := 2 * ((s.get Obj.flowQmax n : Rat) / 6000000) * ((s.get Obj.volumetricHeat n : Rat) * 1000)
  let cc : Rat := (s.get Obj.heatCapacityC n : Rat)
  let ck : Rat := (s.get Obj.heatCapacityK n : Rat)
  (cc = 0 || gcc = 0 || gcc / 10 ≤ cc) && (ck = 0 || gf = 0 || gf / 10 ≤ ck)

/-- The model starts from the measured temperatures (R209); without any it waits for them. -/
def startModel (n : Nat) (s : State) : State :=
  let l := (bodiesOf s n ++ [5 * n + 3, 5 * n + 4]).filterMap (tcValue s)
  match l with
  | [] => s.set Reg.cableStarted 0 n
  | v :: t =>
    let m : Rat := ((t.foldl max v : Int) : Rat) / 1000000
    ((((s.setReal Reg.cableC m n).setReal Reg.cableK m n).setReal Reg.cableDk 0 n).set Reg.cableStarted 1 n).set
      Reg.cableAt s.frame n

/-- The correction of a housekeeping round (R206), and the first initialisation after a reset. -/
def correctModel (n : Nat) (s : State) : State :=
  if ¬ outletDeclared s n then s
  else if ¬ s.is Reg.cableStarted n then startModel n s
  else
    let (ths, t) := tempOf (5 * n + 3) s
    let (thr, t) := tempOf (5 * n + 4) t
    let k := t.real Reg.cableK n
    let t := t.setReal Reg.cableK (k + 1 / 5 * ((ths + thr) / 2 - k)) n
    (bodiesOf t n).foldl (fun u c => match tcValue u c with
      | some v => u.setReal Reg.cableC (max (u.real Reg.cableC n) ((v : Rat) / 1000000)) n
      | none => u) t

/-- The model as 0x4011:01 to :05 show it. -/
def showModel (n : Nat) (s : State) : State :=
  let sh (v : Rat) : Int := clampI (-32768) 32767 (roundAway v)
  let t := (s.set Obj.thetaC (sh (s.real Reg.cableC n * 10)) n).set Obj.thetaK (sh (s.real Reg.cableK n * 10)) n
  let t := (t.set Obj.coolantRate (sh (t.real Reg.cableDk n * 1000)) n).set Obj.predictedTheta (sh (t.real Reg.cableH n * 10)) n
  let on := t.is Obj.modelValid n ∧ t.is Reg.cableStarted n ∧ ¬ t.is Reg.outletStopped n
  t.set Obj.cableLimit (if on then t.get Reg.cableIcab n else 0) n

/-- A step of the model and the cable limit at a slow tick (R206 to R208). -/
def modelStep (n : Nat) (s : State) : State :=
  if ¬ outletDeclared s n then s
  else if ¬ modelIsValid s n then
    let t := showModel n (s.set Obj.modelValid 0 n)
    if t.is Reg.cableLogged n then t else logEvent 0x4023 srcAp1 (data8 [n]) (t.set Reg.cableLogged 1 n)
  else
    let s := (s.set Obj.modelValid 1 n).set Reg.cableLogged 0 n
    if ¬ s.is Reg.cableStarted n then showModel n s
    else
      let rc0 : Rat := (s.get Obj.loopResistance n : Rat) / 10000000
      let al : Rat := (s.get Obj.tempCoefficient n : Rat) / 1000000
      let cc : Rat := (s.get Obj.heatCapacityC n : Rat)
      let gcc : Rat := (s.get Obj.conductance n : Rat) / 10
      let ck : Rat := (s.get Obj.heatCapacityK n : Rat)
      let lim : Rat := (s.get Obj.conductorLimit n : Rat) / 10
      let hz : Rat := (s.get Obj.predictionHorizon n : Rat)
      let (ths, t) := tempOf (5 * n + 3) s
      let h : Rat := ((s.frame - s.getN Reg.cableAt n : Nat) : Rat) / 50000
      let thc := s.real Reg.cableC n
      let thk := s.real Reg.cableK n
      let i : Rat := (outletMa s n : Rat) / 1000
      let rc := rc0 * (1 + al * (thc - 20))
      let gf := 2 * ((s.get Obj.flowUsed n : Rat) / 6000000) * ((s.get Obj.volumetricHeat n : Rat) * 1000)
      let dk := (gcc * (thc - thk) - gf * (thk - ths)) / ck
      let dc := (i * i * rc - gcc * (thc - thk)) / cc
      let thc := thc + h * dc
      let thk := thk + h * dk
      let a := Config.exp (-hz * gcc / cc)
      let thkH := thk + hz * max 0 dk
      let rl := rc0 * (1 + al * (lim - 20))
      let nn := lim - thkH - (thc - thkH) * a
      let icab : Int := if nn ≤ 0 then 0 else min (Config.sqrt (gcc * nn / (rl * (1 - a))) * 10).floor 40000
      let thcH := thkH + i * i * rc * (1 - a) / gcc + (thc - thkH) * a
      let t := ((t.setReal Reg.cableC thc n).setReal Reg.cableK thk n).setReal Reg.cableDk dk n
      showModel n (((t.setReal Reg.cableH thcH n).set Reg.cableIcab (max 0 icab) n).set Reg.cableAt t.frame n)

/-! ### Cooling loops -/

/-- The flow target (R210) [0.01 l/min]. -/
def flowTargetOf (s : State) (n : Nat) : Rat :=
  let st := s.get Obj.outletState n
  let h := s.real Reg.cableH n
  let q0 : Rat := (s.get Obj.flowTheta0 n : Rat) / 10
  let q1 : Rat := (s.get Obj.flowTheta1 n : Rat) / 10
  let lo : Rat := (s.get Obj.flowQmin n : Rat)
  let hi : Rat := (s.get Obj.flowQmax n : Rat)
  if (4 ≤ st ∧ st ≤ 9) ∨ q0 < h then lo + (hi - lo) * clampR 0 1 ((h - q0) / (q1 - q0)) else s.get Obj.flowQidle n

/-- The references and measurements of the cooling slots, before they are evaluated (R210, R211). -/
def coolInputs (n : Nat) (s : State) : State :=
  if ¬ outletDeclared s n then s
  else
    let q := flowTargetOf s n
    let (ths, t) := tempOf (5 * n + 3) (s.set Obj.flowTarget (clampI 0 65535 (roundAway q)) n)
    let t := (t.setReal Reg.coolReference (q / 100) (2 * n)).setReal Reg.coolMeasurement ((t.get Reg.coolantFlow n : Rat) / 100) (2 * n)
    (t.setReal Reg.coolReference ((t.get Obj.coolantSupplyTarget n : Rat) / 10) (2 * n + 1)).setReal Reg.coolMeasurement ths (2 * n + 1)

/-- A fraction of full command as 0.01 %. -/
def commandOf (u : Rat) : Int := clampI 0 10000 (roundAway (u * 10000))

/-- The flow the model uses (R211, R213): 0 while the unit is silent, the assumed flow, or the one reported. -/
def flowOf (s : State) (n : Nat) : Int :=
  if s.is Obj.coolantSilent n then 0
  else if s.get Obj.flowSource n = 1 then roundAway ((s.get Obj.pumpCommandApplied n : Rat) / 10000 * s.get Obj.flowQ100 n)
  else s.get Reg.coolantFlow n

/-- The commands of the cooling function (R211). With an assumed flow the pump command is Q_ref / Q100; at a Q100 of 0
that has no value: a free one. -/
def coolOutputs (n : Nat) (s : State) : State :=
  if ¬ outletDeclared s n then s
  else
    let full := s.get Obj.flowQ100 n
    let (pump, t) : Int × State :=
      if s.get Obj.flowSource n = 0 then (commandOf (slotOut s (pumpSlot n)), s)
      else if full = 0 then (let (d, t) := s.draw 83; (clampI 0 10000 d, t))
      else (commandOf (flowTargetOf s n / full), s)
    let valve : Int := if s.get Obj.valveActuator n = 2 then 0 else commandOf (slotOut s (valveSlot n))
    let t := (t.set Obj.pumpCommandApplied pump n).set Obj.valveCommandApplied valve n
    t.set Obj.flowUsed (flowOf t n) n

/-- The largest command of the outlets that name a drive channel; none when none names it (R212). -/
def driveCommand (s : State) (c : Nat) : Option Int :=
  let l := (List.range 24).flatMap fun n =>
    (if outletDeclared s n && s.get Obj.pumpActuator n == 1 && s.getN Obj.pumpDriveChannel n == c
      then [s.get Obj.pumpCommandApplied n] else []) ++
    (if outletDeclared s n && s.get Obj.valveActuator n == 1 && s.getN Obj.valveDriveChannel n == c
      then [s.get Obj.valveCommandApplied n] else [])
  match l with
  | [] => none
  | v :: t => some (t.foldl max v)

/-- The drive channels that pumps and valves hang on follow their commands (R212). -/
def driveCooling (s : State) : State :=
  s.forN 16 fun k u => match driveCommand u (48 + k) with
    | some v => if u.get Obj.lsCommand (48 + k) = v then u else commandChannel (48 + k) v u
    | none => u

/-- The command frame to a coolant unit (Table 8.7). -/
def coolantCommand (n : Nat) (s : State) : State :=
  if ¬ outletDeclared s n ∨ s.get Obj.coolantBus n = 0xFF then s
  else
    let pump := if s.get Obj.pumpActuator n = 0 then s.get Obj.pumpCommandApplied n else 0
    let valve := if s.get Obj.valveActuator n = 0 then s.get Obj.valveCommandApplied n else 0
    let t := s.set Reg.coolantSeq ((s.get Reg.coolantSeq n + 1) % 256) n
    let frame := data8 [if 0 < pump ∨ 0 < valve then 1 else 0, t.get Reg.coolantSeq n] ++ beBytes 2 pump ++ beBytes 2 valve ++ [0, 0]
    t.emit (.can (t.getN Obj.coolantBus n) (t.is Obj.coolantIdFormat n) (t.getN Obj.coolantBaseId n) frame)

/-- The coolant unit falls silent or faults (R213): the flow is 0, the pump slot held, event 0x4022. -/
def unitSilent (n : Nat) (s : State) : State :=
  if s.is Obj.coolantSilent n then s
  else
    let t := (holdSlot (pumpSlot n) (s.set Obj.coolantSilent 1 n)).set Obj.flowUsed 0 n
    logEvent 0x4022 srcAp1 (data8 [n, t.get Obj.coolantStatus n]) t

/-- A status frame of a coolant unit (Table 8.8). -/
def execCoolantStatusFrame (outlet : Fin 24) (frame : List Byte) (s : State) : Out :=
  s.run fun s =>
    let n := outlet.val
    if s.get Obj.coolantBus n = 0xFF ∨ frame.length ≠ 8 then s
    else
      let st := (frame.headD 0).toNat
      let t := ((s.set Obj.coolantStatus st n).set Reg.coolantFlow (ofBytes ((frame.drop 2).take 2)) n).set Reg.coolantAt s.now n
      let t := if st.testBit 6 ∨ st.testBit 3 then unitSilent n t
        else if t.is Obj.coolantSilent n then releaseSlot (pumpSlot n) (t.set Obj.coolantSilent 0 n) else t
      judgeStop n (t.set Obj.flowUsed (flowOf t n) n)

/-- No status frame for 500 ms (R213). -/
def execCoolantUnitSilent (outlet : Fin 24) (s : State) : Out :=
  s.run fun s =>
    let n := outlet.val
    if s.get Obj.coolantBus n ≠ 0xFF ∧ s.getN Reg.coolantAt n + 500 * millisecond ≤ s.now then unitSilent n s else s

/-! ### Cabinets -/

/-- A cabinet reading: a value of -128 or +127 is broken and counts as hot (R214). -/
def cabReading (v : Int) : Int := if v = -128 then 127 else v

/-- The cabinet temperatures of a round, from the latest telemetry (R214). -/
def takeCabinet (c : Nat) (s : State) : State :=
  if ¬ linkUp s c then s
  else
    let t := s.forN 16 fun k u =>
      let p := 16 * c + k
      u.setSeq Reg.phaseTempHist ((cabReading (u.get Reg.tmPhaseTemp p) :: u.seq Reg.phaseTempHist p).take 3) p
    let t := t.forN 4 fun j u => u.setSeq Reg.cabTempHist ((cabReading (u.get Reg.tmTemps c j) :: u.seq Reg.cabTempHist c j).take 3) c j
    let air := filterOf (t.seq Reg.cabTempHist c 2)
    let die := filterOf (t.seq Reg.cabTempHist c 3)
    let judge (k : Nat) (v lim : Int) (u : State) : State :=
      if v = 127 ∨ lim < 10 * v then logEpisode 0x3019 srcAp1 (2 * c + k) (data8 [c] ++ beBytes 2 (10 * v)) u
      else endEpisode 0x3019 (2 * c + k) u
    judge 1 die (t.get Obj.terminalDieWarning c) (judge 0 air (t.get Obj.airWarning c) t)

/-- A derating factor of R214: 0 for a broken reading. -/
def derate (v : Option Int) (start stop : Int) : Rat :=
  match v with
  | none => 0
  | some x => if x = 127 then 0 else clampR 0 1 (((stop - 10 * x : Int) : Rat) / ((stop - start : Int) : Rat))

/-- Highest filtered temperature [degC] of a list of phases. -/
def hottest (s : State) (l : List Nat) : Option Int :=
  match (l.filter fun p => !(s.seq Reg.phaseTempHist p).isEmpty).map fun p => filterOf (s.seq Reg.phaseTempHist p) with
  | [] => none
  | v :: t => some (t.foldl max v)

/-- The factors of a block. -/
def factorsOf (s : State) (b : Nat) : Rat × Rat :=
  let c := b / 4
  let inlet := if (s.seq Reg.cabTempHist c 0).isEmpty then none else some (filterOf (s.seq Reg.cabTempHist c 0))
  (derate (hottest s (usablePhases s b)) (s.get Obj.phaseDeratingStart c) (s.get Obj.phaseStop c),
   derate inlet (s.get Obj.coolantInletDeratingStart c) (s.get Obj.coolantInletStop c))

/-- The cabinet thermal limits of a cabinet's blocks at a slow tick (R214). -/
def cabinetStep (c : Nat) (s : State) : State :=
  let set := (blocksOf c).filter fun b => blockAdmitted s b && 0 < (usablePhases s b).length
  let t := s.forL (blocksOf c) fun b u =>
    let (fp, fi) := factorsOf u b
    u.set Obj.cabinetThermalLimit ((effAmps u b * 10) * min fp fi).floor b
  let hot := match hottest t ((List.range 16).map (· + 16 * c) |>.filter (usable t)) with
    | some v => 10 * v
    | none => 0
  let t := (t.set Obj.highestPhaseTemp hot c).set Obj.coolantInletTemp
    (if (t.seq Reg.cabTempHist c 0).isEmpty then 0 else 10 * filterOf (t.seq Reg.cabTempHist c 0)) c
  if set.isEmpty ∨ (t.seq Reg.cabTempHist c 0).isEmpty then t
  else
    let fp := (set.map fun b => (factorsOf t b).1).foldl min 1
    let fi := (set.map fun b => (factorsOf t b).2).foldl min 1
    let low : Bool := fp < 1 || fi < 1
    if low = t.is Reg.cabDerated c then t
    else logEvent 0x3018 srcAp1 (data8 [c] ++ beBytes 2 (roundAway (fp * 10000)) ++ beBytes 2 (roundAway (fi * 10000)))
      (t.setB Reg.cabDerated low c)

/-! ### What a round and a slow tick do -/

/-- The temperatures of a housekeeping round (R193 to R198, R202, R203, R206, R214), and the commands to the coolant
units (R212). -/
def thermalRound (readings : List (Int × Int)) (s : State) : State :=
  let was := fun c => s.get Obj.tcState c
  let t := (s.forN 144 (takeReading readings)).forN 144 (judgeChannel readings)
  let t := judgeWindows (judgeDies was (t.forN 24 judgeStop))
  let t := (t.forN 24 correctModel).forN 16 takeCabinet
  t.forN 24 coolantCommand

/-- Before the slow-class slots: cable model, limits, and the inputs of the cooling slots (R199, R200, R206 to R210). -/
def thermalTick (s : State) : State :=
  (s.forN 24 fun n u => coolInputs n (connectorStep n (modelStep n u))).forN 16 cabinetStep

/-- After them: the commands of the cooling function (R211, R212). -/
def coolingTick (s : State) : State := driveCooling (s.forN 24 coolOutputs)

end Sys2Proof.Machine
end

