-- ==== Sys2Proof/Machine/Metering.lean ====
section
/-!
DEFINITION. Metrology: samples, meters, feeders, registers, channel faults, pulses, theft watch, the cross-check, the seal
and the metrology image (Metrology).
-/

namespace Sys2Proof.Machine

/-! ### Inputs and registers -/

/-- The input of a channel in volts: codes of 2^-23 V, clipped at 0.995 V (R216, R217). -/
def codeVolts (u : Int) : Rat := clampR (-995 / 1000) (995 / 1000) ((u : Rat) / 8388608)

/-- An input of 0.995 V or beyond is overloaded. -/
def codeOver (u : Int) : Bool := 995 * 8388608 ≤ 1000 * u.natAbs

/-- The module's own registers are the published ones but in STANDBY, where increments are kept apart (R234). -/
def addSum (o : Obj) (i j : Nat) (inc : Int) (s : State) : State :=
  if s.get Obj.role = roStandby then s.set Reg.shadowSum (s.get Reg.shadowSum o.id (16 * i + j) + inc) o.id (16 * i + j)
  else s.set o ((s.get o i j + inc) % 2 ^ 112) i j

/-- The increment of one sample in 2^-48 mWh or mAh: W or A times 62.5 us (R218, R224). -/
def sampleInc (x : Rat) : Int := (x * 2 ^ 48 / 57600).floor

/-- The session slot of a context (R242). -/
def sessionSlotOf (s : State) (c : Nat) : Nat :=
  let a := s.get Obj.ctxTariff c
  ((if 1 ≤ a ∧ a ≤ 8 then a else s.get Obj.slotInForce) - 1).toNat

/-- An import increment of DMn: its register, its slot register, the site's, and its session's accumulator (R218, R241,
R242). -/
def addImport (n : Nat) (inc : Int) (s : State) : State :=
  let k := (s.get Obj.slotInForce - 1).toNat
  let t := addSum Reg.siteTariff 0 k inc (addSum Reg.dmTariff n k inc (addSum Reg.dmSum n 0 inc s))
  let t := t.set Reg.windowSum (t.get Reg.windowSum n + inc) n
  match contextOf t n with
  | some c => if t.is Reg.ctxOpen c then t.set Reg.sessionSlot (t.get Reg.sessionSlot c (sessionSlotOf t c) + inc) c (sessionSlotOf t c) else t
  | none => t

/-! ### DC meters -/

/-- One sample of DMn (R217, R218). -/
def takeDc (n : Nat) (uv ui : Int) (s : State) : State :=
  let scale (o off : Obj) (u : Int) : Rat := f32Val (s.get o n) * (codeVolts u - (s.get off n : Rat) / 1000000)
  let v := scale Obj.voltageScale Obj.voltageOffset uv
  let i := scale Obj.currentScale Obj.currentOffset ui
  let full := |f32Val (s.get Obj.currentScale n)| * 8 / 10
  let e := if |i| < full * (s.get Obj.startingCurrent n : Rat) / 10000 then 0 else i
  let p := v * e
  let i32 (x : Rat) : Int := clampI (-2147483648) 2147483647 (roundAway x)
  let t := (s.set Obj.dcVoltage (i32 (v * 1000)) n).set Obj.dcCurrent (i32 (i * 1000)) n
  let t := (t.setReal Reg.secAcc (t.real Reg.secAcc n 0 + v) n 0).setReal Reg.secAcc (t.real Reg.secAcc n 1 + i) n 1
  let t := t.setReal Reg.secAcc (t.real Reg.secAcc n 2 + v * i) n 2
  let t := if 0 < p then addImport n (sampleInc p) t else if p < 0 then addSum Reg.dmSum n 1 (sampleInc (-p)) t else t
  let t := if 0 < e then addSum Reg.dmSum n 2 (sampleInc e) t else t
  let t := if codeOver uv ∨ codeOver ui then t.setBit Obj.dcStatus 2 true n else t
  let t := if ¬ belowMag (t.get Obj.dcCurrent n) 1000 then t.set Reg.quietSince 0 n
    else if t.get Reg.quietSince n = 0 then t.set Reg.quietSince (t.now + 1) n else t
  judgeLatch n t

/-! ### Feeders -/

/-- Metrology channel of quantity `j` of a feeder: 0 to 2 voltages, 3 to 5 currents, 6 neutral (Table 9.1). -/
def afChannel (f j : Nat) : Nat := 48 + 7 * f + j

/-- The high-passed input of a channel at a lag of samples, interpolated linearly; ahead of the newest by extrapolation
[V]. -/
def inputAt (h : List Int) (lag : Rat) : Rat :=
  let x := fun (k : Nat) => (h.getD k 0 : Rat) / 2 ^ 64
  if lag < 0 then x 0 + (-lag) * (x 0 - x 1)
  else
    let k := lag.floor.toNat
    x k + (lag - k) * (x (k + 1) - x k)

/-- Scales of a feeder. -/
def afVScale (s : State) (f j : Nat) : Rat := f32Val (s.get Obj.afVoltageScale f j)
def afIScale (s : State) (f j : Nat) : Rat := f32Val (s.get Obj.afCurrentScale f j)

/-- Voltage, current and quarter-period-delayed voltage of a phase now [V, A] (R217, R221). -/
def phaseNow (s : State) (f j : Nat) (period : Rat) : Rat × Rat × Rat :=
  let v := s.seq Reg.hpHist (afChannel f j)
  let i := s.seq Reg.hpHist (afChannel f (3 + j))
  (afVScale s f j * inputAt v 0, afIScale s f j * inputAt i ((s.get Obj.afPhaseTrim f j : Rat) / 6250),
   afVScale s f j * inputAt v (period / 4 / 25000))

/-- Nominal period [core cycles], and the period measured last. -/
def nominalPeriod (s : State) (f : Nat) : Rat := 400000000 / (s.get Obj.nominalFrequency f : Rat)
def lastPeriod (s : State) (f : Nat) : Rat :=
  if s.is Obj.noMains f then nominalPeriod s f
  else match (s.seq Reg.afPeriods f).head? with
    | some p => (p : Rat)
    | none => nominalPeriod s f

/-- A new input of an AC channel through the high-pass (R216). -/
def takeHp (c : Nat) (u : Int) (s : State) : State :=
  let h := s.seq Reg.hpHist c
  let x := clampI (-8346664) 8346664 u
  let y : Int := (Config.highPass * ((h.headD 0 + (x - s.get Reg.hpInput c) * 2 ^ 41 : Int) : Rat)).floor
  (s.set Reg.hpInput x c).setSeq Reg.hpHist ((y :: h).take 128) c

/-- The phase of the meter takes part in energy: its power of the last cycle reaches the starting power (R223). -/
def startsOn (s : State) (f j : Nat) (x : Rat) : Bool :=
  |afVScale s f j| * |afIScale s f j| / 4 * (s.get Obj.afStartingPower f : Rat) / 10000 ≤ |x|

/-- The energies of one sample of a feeder (R223), and its slot registers (R241). -/
def feederEnergy (f : Nat) (s : State) : State :=
  let per := lastPeriod s f
  let sum (g : Nat → Rat) : Rat := g 0 + g 1 + g 2
  let p := sum fun j => let (v, i, _) := phaseNow s f j per; if startsOn s f j (s.real Reg.afActive f j) then v * i else 0
  let q := sum fun j => let (_, i, w) := phaseNow s f j per; if startsOn s f j (s.real Reg.afPhaseReactive f j) then w * i else 0
  let k := (s.get Obj.slotInForce - 1).toNat
  let t := if 0 < p then
      let d := sampleInc p
      let u := addSum Reg.siteTariff 0 (8 + k) d (addSum Reg.afTariff f k d (addSum Reg.afSum f 0 d s))
      u.set Reg.windowSum (u.get Reg.windowSum (24 + 2 * f) + d) (24 + 2 * f)
    else if p < 0 then
      let d := sampleInc (-p)
      let u := addSum Reg.afTariff f (8 + k) d (addSum Reg.afSum f 1 d s)
      u.set Reg.windowSum (u.get Reg.windowSum (25 + 2 * f) + d) (25 + 2 * f)
    else s
  if 0 < q then addSum Reg.afSum f 2 (sampleInc q) t else if q < 0 then addSum Reg.afSum f 3 (sampleInc (-q)) t else t

/-- The sums of the cycle in progress take the sample (R221). -/
def feederSums (f : Nat) (s : State) : State :=
  let per := lastPeriod s f
  let add (k : Nat) (x : Rat) (u : State) : State := u.setReal Reg.afAcc (u.real Reg.afAcc f k + x) f k
  let nI := afIScale s f 3 * inputAt (s.seq Reg.hpHist (afChannel f 6)) 0
  let t := s.forN 3 fun j u =>
    let (v, i, w) := phaseNow s f j per
    add (10 + j) (w * i) (add (7 + j) (v * i) (add (3 + j) (i * i) (add j (v * v) u)))
  let res := (phaseNow s f 0 per).2.1 + (phaseNow s f 1 per).2.1 + (phaseNow s f 2 per).2.1 + nI
  (add 13 (res * res) (add 6 (nI * nI) t)).set Reg.afCount (t.get Reg.afCount f + 1) f

/-- Sequence of phases in the cycle that ends: L3 crossed before L2 (R223). -/
def judgeSequence (f : Nat) (s : State) : State :=
  let from_ := s.get Reg.afCycleAt f
  let l2 := s.get Reg.afCrossAt f 4
  let l3 := s.get Reg.afCrossAt f 5
  if from_ < l3 ∧ l3 < l2 then
    let k := s.get Reg.afReversed f + 1
    let t := s.set Reg.afReversed k f
    if k = 10 then logEpisode 0x8013 srcMe f (data8 [f]) t else t
  else endEpisode 0x8013 f (s.set Reg.afReversed 0 f)

/-- The residual against the mismatch level for 10 cycles (R223). -/
def judgeResidual (f : Nat) (rms : Rat) (s : State) : State :=
  let full := |afIScale s f 3| / 2
  if full * (s.get Obj.neutralMismatchLevel f : Rat) / 10000 < rms then
    let k := s.get Reg.afMismatch f + 1
    let t := s.set Reg.afMismatch k f
    if k = 10 then logEpisode 0x8014 srcMe f (data8 [f] ++ data32 (roundAway (rms * 1000))) t else t
  else endEpisode 0x8014 f (s.set Reg.afMismatch 0 f)

/-- The end of a feeder's cycle (R221): what it publishes, and the mean of P_dc over it (R133). -/
def endCycle (f : Nat) (at_ : Int) (s : State) : State :=
  let n : Rat := (s.get Reg.afCount f : Rat)
  if n = 0 then s.set Reg.afCycleAt at_ f
  else
    let mean := fun k => s.real Reg.afAcc f k / n
    let rms := fun k => Config.sqrt (mean k)
    let t := s.forN 3 fun j u => u.set Obj.afVoltage (roundAway (rms j * 100)) f j
    let t := t.forN 4 fun j u => u.set Obj.afCurrent (roundAway (rms (3 + j) * 1000)) f j
    let t := t.forN 3 fun j u => ((u.set Obj.afPhasePower (roundAway (mean (7 + j))) f j).setReal Reg.afActive (mean (7 + j)) f j).setReal
      Reg.afPhaseReactive (mean (10 + j)) f j
    let t := (t.set Obj.afActivePower (roundAway (mean 7 + mean 8 + mean 9)) f).set Obj.afReactivePower
      (roundAway (mean 10 + mean 11 + mean 12)) f
    let t := if t.is Obj.noMains f then t
      else
        let l := ((at_ - t.get Reg.afCycleAt f) :: t.seq Reg.afPeriods f).take 10
        let m := (l.sum : Rat) / l.length
        (t.setSeq Reg.afPeriods l f).set Obj.afFrequency (if m ≤ 0 then t.get Obj.afFrequency f
          else clampI 40000 70000 (roundAway (400000000000 / m))) f
    let low : Bool := [0, 1, 2].any fun j => 100 * t.get Obj.afVoltage f j < 20 * 10 * t.get Obj.nominalPhaseVoltage f
    let t := judgeResidual f (rms 13) (judgeSequence f (t.setB Reg.afLow low f))
    let t := t.forN 7 fun k u =>
      let x : Rat := if k < 3 then u.get Obj.afVoltage f k else if k < 6 then u.get Obj.afCurrent f (k - 3) else u.get Obj.afActivePower f
      u.setReal Reg.afSecAcc (u.real Reg.afSecAcc f k + x) f k
    let t := t.setReal Reg.afSecAcc (t.real Reg.afSecAcc f 7 + 1) f 7
    let t := if 0 < t.get Reg.pdcFrames f then
        ((t.setReal Reg.pdcMean (t.real Reg.pdcSum f / t.get Reg.pdcFrames f) f).setReal Reg.pdcSum 0 f).set Reg.pdcFrames 0 f
      else t
    ((t.forN 14 fun k u => u.setReal Reg.afAcc 0 f k).set Reg.afCount 0 f).set Reg.afCycleAt at_ f

/-- Half-cycles towards the return of mains (R222), counted at the crossings of L1. -/
def countGood (f : Nat) (s : State) : State :=
  let near := [0, 1, 2].all fun j => s.is Reg.afHalfGood f j &&
    (s.get Reg.afCrossAt f 0 - s.get Reg.afCrossAt f j : Rat) ≤ nominalPeriod s f / 2 * 11 / 10
  let high := [0, 1, 2].all fun j => 80 * 10 * s.get Obj.nominalPhaseVoltage f < 100 * s.get Obj.afVoltage f j
  s.set Reg.afGood (if near && high then min 10 (s.get Reg.afGood f + 1) else 0) f

/-- The crossing of a voltage channel found between the last two samples (R220): direction and instant [core cycles]. -/
def findCrossing (s : State) (f j : Nat) : Option (Bool × Int) :=
  let h := s.seq Reg.hpHist (afChannel f j)
  let y0 := h.headD 0
  let y1 := h.getD 1 0
  if h.length < 2 ∨ ¬ s.is Reg.afPeak f j ∨ (y0 < 0) = (y1 < 0) then none
  else
    let d : Rat := (y1 : Rat) / ((y1 - y0 : Int) : Rat)
    some (decide (y1 < 0), roundAway ((s.get Reg.sampleCount - 1 + d) * 25000))

/-- A voltage channel of a feeder in one sample (R220): its crossing is stamped and handed to the mains-pulse link. -/
def takePhase (f j : Nat) (s : State) : State :=
  let v := afVScale s f j * inputAt (s.seq Reg.hpHist (afChannel f j)) 0
  let vn : Rat := (s.get Obj.nominalPhaseVoltage f : Rat) / 10
  let t := match findCrossing s f j with
    | none => s
    | some (rising, at_) =>
      let half := at_ - s.get Reg.afCrossAt f j
      let good : Bool := |(half : Rat) - nominalPeriod s f / 2| ≤ nominalPeriod s f / 20
      let u := ((s.set Reg.afCrossAt at_ f j).setB Reg.afHalfGood good f j).set Reg.afPeak 0 f j
      let u := if rising then u.set Reg.afCrossAt at_ f (3 + j) else u
      let u := if refFeeder u = f ∧ refPhase u = j then takeCrossing ((at_ : Rat) * 5 / 2) rising u else u
      let u := if j = 0 then countGood f u else u
      if j = 0 ∧ rising ∧ ¬ u.is Obj.noMains f then endCycle f at_ u else u
  if 2 * vn * vn / 100 < v * v then t.set Reg.afPeak 1 f j else t

/-- One sample of a feeder. -/
def takeFeeder (inputs : List Int) (f : Nat) (s : State) : State :=
  let t := s.forN 7 fun j u => takeHp (afChannel f j) (inputs.getD (afChannel f j) 0) u
  let t := feederSums f (feederEnergy f t)
  let t := t.forN 3 fun j u => takePhase f j u
  let now := t.get Reg.sampleCount * 25000
  if t.is Obj.noMains f ∧ nominalPeriod t f ≤ ((now - t.get Reg.afCycleAt f : Int) : Rat) then endCycle f now t else t

/-! ### Pulse outputs -/

/-- The register a pulse output counts, with its residue (Table 9.3); 0 when off. -/
def pulseRegister (s : State) (k : Nat) : Int :=
  let v := s.getN Obj.pulseSource k
  let i := v % 256
  let r := v / 256
  if 1 ≤ r ∧ r ≤ 3 then s.get Reg.dmSum i (r - 1)
  else if 4 ≤ r ∧ r ≤ 7 then s.get Reg.afSum i (r - 4)
  else if r = 8 then ((List.range 24).map fun n => s.get Reg.dmSum n 0).sum
  else if r = 9 then ((List.range 4).map fun f => s.get Reg.afSum f 0).sum
  else 0

/-- The source stands for a declared meter. -/
def pulseDeclared (s : State) (k : Nat) : Bool :=
  let v := s.getN Obj.pulseSource k
  !(1 ≤ v / 256 && v / 256 ≤ 3) || outletDeclared s (v % 256)

/-- Due pulses are owed until they are emitted (R230 to R232). -/
def countPulses (before : State) (k : Nat) (s : State) : State :=
  let r := s.getN Obj.pulseSource k / 256
  if r = 0 then s
  else
    let unit : Int := (if r = 3 then 1000 else 1000000) * 2 ^ 48
    let acc := s.get Reg.pulseAcc k + (pulseRegister s k - pulseRegister before k) * s.get Obj.pulseConstant k
    let due := acc / unit
    let t := (s.set Reg.pulseAcc (acc % unit) k).setBit Obj.pulseFlags 1 (!pulseDeclared s k) k
    if due ≤ 0 then t
    else
      let last := t.get Reg.pulseLastDue k
      let t := if last = 0 then t else t.set Reg.pulsePeriod ((t.now + 1 - last) / due) k
      let t := (t.set Reg.pulseLastDue (t.now + 1) k).set Obj.pulsesOwed (t.get Obj.pulsesOwed k + due) k
      if 1 < t.get Obj.pulsesOwed k ∧ ¬ t.bit Obj.pulseFlags 0 k then
        logEvent 0x8016 srcMp (data8 [k] ++ data32 (t.get Obj.pulsesOwed k)) (t.setBit Obj.pulseFlags 0 true k)
      else t

/-- The width of a pulse [ns] (R231). -/
def pulseWidth (s : State) (k : Nat) : Nat :=
  let w := s.getN Obj.pulseWidth k * millisecond
  let p := s.getN Reg.pulsePeriod k
  if p = 0 ∨ 2 * w ≤ p then w else max millisecond (p / 2)

/-- A pulse is emitted when one is owed and the output is free: the pulse, then a gap of its width (R231). -/
def execPulseEmit (output : Fin 4) (s : State) : Out :=
  s.run fun s =>
    let k := output.val
    if s.get Obj.pulsesOwed k ≤ 0 ∨ s.now < s.getN Reg.pulseBusyUntil k then s
    else
      let t := (s.set Obj.pulsesOwed (s.get Obj.pulsesOwed k - 1) k).inc Obj.pulsesEmitted k
      let t := t.set Reg.pulseBusyUntil (t.now + 2 * pulseWidth t k) k
      (if t.get Obj.pulsesOwed k = 0 then t.setBit Obj.pulseFlags 0 false k else t).emit (.pulse k)

/-! ### The sample -/

/-- The sample boundary (R236, R255): what waits for it takes effect, then every meter takes its sample. The inputs are the
codes of the 76 channels, 2^23 for 1 V. -/
def metrologySample (inputs : List Int) (s : State) : State :=
  let t := s.set Reg.sampleCount (s.get Reg.sampleCount + 1)
  let t := if t.is Reg.bdCommitted then applyBoundary t else t
  let t := atBoundary .sample t
  let before := t
  let t := t.forN 24 fun n u => takeDc n (inputs.getD (2 * n) 0) (inputs.getD (2 * n + 1) 0) u
  let t := t.forN 4 fun f u => takeFeeder inputs f u
  let t := t.forN 76 fun c u => if codeOver (inputs.getD c 0) then u.set Reg.overloads (u.get Reg.overloads c + 1) c else u
  let t := t.forN 4 fun k u => countPulses before k u
  let t := t.forN 24 fun n u => match contextOf u n with
    | some c => if u.get Obj.ctxState c = cxDelivering ∧ ¬ (u.seq Reg.windowServed n).contains (c : Int) then
        u.setSeq Reg.windowServed ((c : Int) :: u.seq Reg.windowServed n) n else u
    | none => u
  (t.set Reg.secCount (t.get Reg.secCount + 1)).set Reg.meteredAt t.time

/-- In BACKUP and OFF no channel is sampled but by the theft watch. -/
def execMetrologySample (inputs : List Int) (s : State) : Out :=
  s.run fun s => if 2 ≤ s.get Obj.powerState then metrologySample inputs s else s

/-! ### Mains -/

/-- The blocks of the feeder, the link, the flag and the event (R222). -/
def loseMains (f : Nat) (cause : Int) (s : State) : State :=
  if s.is Obj.noMains f then s
  else
    let t := logEvent 0x8010 srcMe (data8 [f, cause]) ((s.set Obj.noMains 1 f).set Reg.afGood 0 f)
    suspendLink f (withholdFeeder f (t.set Reg.afCycleAt (t.get Reg.sampleCount * 25000) f))

/-- The cause for which a feeder has no mains (R222); 0 none. -/
def mainsCause (s : State) (f : Nat) : Int :=
  let now := s.get Reg.sampleCount * 25000
  if [0, 1, 2].any fun j => nominalPeriod s f * 5 / 2 ≤ ((now - s.get Reg.afCrossAt f j : Int) : Rat) then 1
  else if s.is Reg.afLow f then 2
  else if (List.range 6).any fun j => s.is Reg.channelFault (afChannel f j) then 3
  else 0

def execNoMains (feeder : Fin 4) (s : State) : Out :=
  s.run fun s => if mainsCause s feeder ≠ 0 then loseMains feeder (mainsCause s feeder) s else s

/-- 10 good half-cycles, and no faulted channel (R222, R229). -/
def execMainsReturned (feeder : Fin 4) (s : State) : Out :=
  s.run fun s =>
    let f := feeder.val
    let faulted := (List.range 6).any fun j => s.is Reg.channelFault (afChannel f j)
    if s.is Obj.noMains f ∧ 10 ≤ s.get Reg.afGood f ∧ ¬ faulted then
      resumeLink f (logEvent 0x8011 srcMe (data8 [f]) ((s.set Obj.noMains 0 f).set Reg.mainsAt (s.now + 1) f))
    else s

/-! ### The second -/

/-- An extreme kept with the module time of its second (R219). -/
def keepHighest (o ot : Obj) (i j : Nat) (v at_ : Int) (s : State) : State :=
  if s.get ot i j = 0 ∨ s.get o i j < v then (s.set o v i j).set ot at_ i j else s

/-- The means of DMn over the second, and its extremes (R219, R228). -/
def secondOfDc (at_ : Int) (n : Nat) (s : State) : State :=
  let k : Rat := (s.get Reg.secCount : Rat)
  let i32 (x : Rat) : Int := clampI (-2147483648) 2147483647 (roundAway x)
  let mean := fun j => if k = 0 then 0 else s.real Reg.secAcc n j / k
  let v := i32 (mean 0 * 1000)
  let i := i32 (mean 1 * 1000)
  let p := i32 (mean 2)
  let t := ((s.set Obj.dcMeanVoltage v n).set Obj.dcMeanCurrent i n).set Obj.dcMeanPower p n
  let t := t.forN 3 fun j u => u.setReal Reg.secAcc 0 n j
  let t := if k = 0 then t else
    keepHighest Obj.dcHighest Obj.dcHighestTime n 2 p at_ (keepHighest Obj.dcHighest Obj.dcHighestTime n 1 i at_
      (keepHighest Obj.dcHighest Obj.dcHighestTime n 0 v at_ t))
  if t.bit Obj.dcStatus 2 n then (t.inc Obj.overloadTime n).setBit Obj.dcStatus 2 false n else t

/-- The extremes of a feeder by the means of the second: highest and lowest phase voltage, highest phase current, highest
power (Table 9.10). -/
def secondOfFeeder (at_ : Int) (f : Nat) (s : State) : State :=
  let k := s.real Reg.afSecAcc f 7
  if k = 0 then s
  else
    let mean := fun j => roundAway (s.real Reg.afSecAcc f j / k)
    let vs := [mean 0, mean 1, mean 2]
    let t := keepHighest Obj.afExtreme Obj.afExtremeTime f 0 (vs.foldl max (mean 0)) at_ s
    let low := vs.foldl min (mean 0)
    let t := if t.get Obj.afExtremeTime f 1 = 0 ∨ low < t.get Obj.afExtreme f 1 then
        (t.set Obj.afExtreme low f 1).set Obj.afExtremeTime at_ f 1 else t
    let t := keepHighest Obj.afExtreme Obj.afExtremeTime f 2 ([mean 3, mean 4, mean 5].foldl max (mean 3)) at_ t
    (keepHighest Obj.afExtreme Obj.afExtremeTime f 3 (mean 6) at_ t).forN 8 fun j u => u.setReal Reg.afSecAcc 0 f j

/-- The registers are committed to the journal (R225). -/
def commitMeters (s : State) : State := submit wrMp jkRegisterSet 0xFFFF 0 [] true s

/-- Each whole second of module time: means, extremes, the commit, and what waits for the second (R219, R225, R493). The
ACTIVE module sends its registers to the standby (R234). -/
def execMeteringSecond (s : State) : Out :=
  s.run fun s =>
    let now := s.time / 1000000000
    if s.get Reg.secondDone = now + 1 then s
    else
      let t := atBoundary .second (s.set Reg.secondDone (now + 1))
      let at_ := now * 1000000000
      let t := t.forN 76 fun c u =>
        (if 160 < u.get Reg.overloads c ∧ u.is Reg.channelFault c then u.set Reg.channelBadAt u.now c else u)
      let t := showRunning ((t.forN 24 (secondOfDc at_)).forN 4 (secondOfFeeder at_))
      let t := (t.forN 76 fun c u => u.set Reg.overloads 0 c).set Reg.secCount 0
      let t := t.forN 8 fun ch u => if u.get Reg.pushDropped ch = 0 then u
        else logEvent 0x1210 srcAp0 (data8 [ch] ++ data32 (u.get Reg.pushDropped ch)) (u.set Reg.pushDropped 0 ch)
      let t := commitMeters t
      if t.get Obj.role = roActive ∧ t.is Reg.paired then
        t.emit (.partner 16 (((List.range 24).flatMap fun n => (List.range 3).map fun j => t.get Reg.dmSum n j / 2 ^ 32) ++
          ((List.range 4).flatMap fun f => (List.range 4).map fun j => t.get Reg.afSum f j / 2 ^ 32) ++
          ((List.range 24).flatMap fun n => (List.range 8).map fun j => t.get Reg.dmTariff n j / 2 ^ 32) ++
          ((List.range 4).flatMap fun f => (List.range 16).map fun j => t.get Reg.afTariff f j / 2 ^ 32) ++
          ((List.range 16).map fun j => t.get Reg.siteTariff 0 j / 2 ^ 32)))
      else t

/-! ### Channel faults -/

/-- A channel is faulted (R228, R229): event 0x8015 with its cause, once until the fault clears. -/
def faultChannel (c : Nat) (cause : Int) (s : State) : State :=
  let t := s.set Reg.channelBadAt s.now c
  if t.is Reg.channelFault c then t
  else
    let t := logEvent 0x8015 srcMe (data8 [c, cause]) (t.set Reg.channelFault 1 c)
    if c < 48 then
      let n := c / 2
      let t := (t.setBit Obj.dcStatus (c % 2) true n).set Reg.serviceDue (if t.get Obj.outletState n = 0 then t.get Reg.serviceDue n else 1) n
      let t := if t.get Obj.outletState n = 0 then refreshAvail n (t.set Obj.outOfService 1 n) else t
      match contextOf t n with
      | some x => t.setBit Obj.regSetFlags 1 true x
      | none => t
    else if (c - 48) % 7 < 6 then loseMains ((c - 48) / 7) 3 t
    else t

/-- A channel stuck for 1 ms, or overloaded in more than 1 % of the samples of a second (R228). -/
def execChannelFault (channel : Fin 76) (stuck : Bool) (s : State) : Out :=
  s.run fun s =>
    if ¬ stuck ∧ s.get Reg.overloads channel ≤ 160 then s else faultChannel channel (if stuck then 1 else 2) s

/-- One second free of both conditions (R228). -/
def execChannelFaultCleared (channel : Fin 76) (s : State) : Out :=
  s.run fun s =>
    let c := channel.val
    if s.is Reg.channelFault c ∧ s.getN Reg.channelBadAt c + second ≤ s.now then
      let t := logEvent 0x8017 srcMe (data8 [c]) (s.set Reg.channelFault 0 c)
      if c < 48 then t.setBit Obj.dcStatus (c % 2) false (c / 2) else t
    else s

/-! ### Theft watch -/

/-- A theft entry (Table 9.4). -/
def theftBytes (start : Int) (n : Nat) (dur peak charge : Int) : List Byte :=
  beBytes 8 start ++ beBytes 1 n ++ [0, 0, 0] ++ beBytes 4 dur ++ beBytes 4 peak ++ beBytes 4 charge ++ List.replicate 8 0

/-- The mean of one DM in a burst [mA] (R233): charge, kept exactly, and a new or extended entry. -/
def theftMean (n : Nat) (mean : Int) (s : State) : State :=
  if mean ≤ s.get Obj.theftThreshold * 100 then (s.set Reg.theftExceeded 0 n).set Reg.theftOpen 0 n
  else
    let whole := s.get Reg.theftFraction n + mean
    let t := (s.set Obj.theftCharge ((s.get Obj.theftCharge n + whole / 3600) % 4294967296) n).set Reg.theftFraction (whole % 3600) n
    let sum := (if s.is Reg.theftExceeded n then s.get Reg.theftEntrySum n else 0) + mean
    let t := t.set Reg.theftEntrySum sum n
    let l := t.log Reg.theftLog
    let k := t.getN Reg.theftOpen n
    let t := if t.is Reg.theftExceeded n ∧ k ≠ 0 then
        let e := l.getD (k - 1) []
        let f (a b : Nat) : Int := ofBytes ((e.drop a).take b)
        t.setLog Reg.theftLog (l.set (k - 1) (theftBytes (f 0 8) n (f 12 4 + 1) (max (f 16 4) (mean / 100)) (sum / 3600)))
      else if t.is Reg.theftExceeded n then t
      else if 64 ≤ l.length then t.inc Obj.theftLogOverflowCount
      else
        let u := t.setLog Reg.theftLog (l ++ [theftBytes (t.get Reg.rtcTime) n 1 (mean / 100) (sum / 3600)])
        (u.set Reg.theftOpen (l.length + 1) n).set Obj.theftEntriesInUse (l.length + 1)
    t.set Reg.theftExceeded 1 n

/-- A burst in BACKUP (R233): the mean currents of the 24 DMs [mA]. -/
def execTheftWatchBurst (means : List Int) (s : State) : Out :=
  s.run fun s => if s.get Obj.powerState = 1 then s.forN 24 fun n u => theftMean n (means.getD n 0) u else s

/-- The theft log is cleared (0x8020:06). -/
def execClearTheftLog (r : Req) (s : State) : Out :=
  s.run fun s => hostWrite r Obj.clearTheftLog 0 0 [1] (fun _ t =>
    let t := (t.setLog Reg.theftLog []).set Obj.theftEntriesInUse 0
    .ok (t.forN 24 fun n u => u.set Reg.theftOpen 0 n)) s

/-! ### The pair -/

/-- Places of the values sent each second, in their order: register, instance, element. -/
def meterCells : List (Obj × Nat × Nat) :=
  ((List.range 24).flatMap fun n => (List.range 3).map fun j => (Reg.dmSum, n, j)) ++
  ((List.range 4).flatMap fun f => (List.range 4).map fun j => (Reg.afSum, f, j)) ++
  ((List.range 24).flatMap fun n => (List.range 8).map fun j => (Reg.dmTariff, n, j)) ++
  ((List.range 4).flatMap fun f => (List.range 16).map fun j => (Reg.afTariff, f, j)) ++
  ((List.range 16).map fun j => (Reg.siteTariff, 0, j))

/-- The standby's published registers are set to the active's; its own increments start anew (R234). -/
def execMeteringValuesSync (values : List Nat) (s : State) : Out :=
  s.run fun s =>
    if s.get Obj.role ≠ roStandby then s
    else (meterCells.zip values).foldl (fun u x =>
      let (o, i, j) := x.1
      (u.set o ((x.2 : Int) * 2 ^ 32) i j).set Reg.shadowSum 0 o.id (16 * i + j)) s

/-- At takeover the registers go on from the last values received plus the module's own increments (R234). -/
def adoptMeters (s : State) : State :=
  meterCells.foldl (fun u x =>
    let (o, i, j) := x
    (u.set o ((u.get o i j + u.get Reg.shadowSum o.id (16 * i + j)) % 2 ^ 112) i j).set Reg.shadowSum 0 o.id (16 * i + j)) s

/-- The difference of two increments exceeds a limit in ppm of the larger, which is at least 1 kWh (R235). -/
def differs (a b lim : Int) : Bool := 1000000 * 2 ^ 48 ≤ max a b && lim * max a b < |a - b| * 1000000

/-- Difference of two increments in ppm of the larger; none below 1 kWh (R235). -/
def differencePpm (a b : Int) : Option Int :=
  let m := max a b
  if m < 1000000 * 2 ^ 48 then none else some (|a - b| * 1000000 / m)

/-- The end of a cross-check window (R235); `partner` are the other module's increments in its order. -/
def crossCheck (partner : List Int) (s : State) : State :=
  let l := (List.range 32).map fun k => (k, differencePpm (s.get Reg.windowSum k) (partner.getD k 0))
  let lim := s.get Obj.crossCheckLimit
  let bad := l.filter fun x => differs (s.get Reg.windowSum x.1) (partner.getD x.1 0) lim
  let worst := l.foldl (fun m x => match x.2 with | some d => max m d | none => m) 0
  let t := (s.set Obj.lastJudgedWindowEnd s.time).set Obj.largestDifferenceLastWindow worst
  let t := if bad.isEmpty then t else t.inc Obj.windowsOverLimit
  bad.foldl (fun u x =>
    let u := logEvent 0x8018 srcMp (data8 [x.1] ++ data32 (x.2.getD 0)) u
    let u := healthItem 7 x.1 u
    if x.1 < 24 then (u.seq Reg.windowServed x.1).foldl (fun w c => w.setBit Obj.regSetFlags 3 true c.toNat) u else u) t

def execCrossCheckWindowEnd (partner : List Int) (s : State) : Out :=
  s.run fun s =>
    let w : Int := 900 * 1000000000
    if s.time / w = s.get Reg.windowAt / w then s
    else
      let t := if s.is Reg.paired ∧ ¬ s.is Reg.windowBad ∧ s.get Obj.timeQuality ≠ 0 then crossCheck partner s else s
      let t := (t.forN 32 fun k u => u.set Reg.windowSum 0 k).forN 24 fun n u => u.setSeq Reg.windowServed [] n
      (t.set Reg.windowBad 0).set Reg.windowAt (t.time / w * w)

/-! ### Seal and image -/

/-- The seal switch changes (R237, R238). -/
def setSeal (open_ : Bool) (s : State) : State :=
  if s.is Obj.sealOpen = open_ then s
  else
    let t := auditEntry (if open_ then 2 else 3) 0 0 0 [] [] (s.setB Obj.sealOpen open_)
    let t := logEvent (if open_ then 0x8019 else 0x801A) srcMp [] t
    if open_ then t.forN 250 fun c u => if ctxInSession u c then u.setBit Obj.regSetFlags 0 true c else u else t

def execSealOpened (s : State) : Out := s.run (setSeal true)
def execSealClosed (s : State) : Out := s.run (setSeal false)

/-- A SEAL write needs room in the audit log (R238). -/
def auditRoom (s : State) (f : State → Except Nat State) : Except Nat State := if auditFull s then .error 6 else f s

/-- The refusal of a SEAL write for want of room, which ends in `t`, logs event 0x801C (R238). -/
def noteFull (index : Nat) (s t : State) : State :=
  match t.out.getLast? with
  | some (.answer a) => if a.status = 6 ∧ auditFull s ∧ ¬ roleForbids s index then logEvent 0x801C srcMp [] t else t
  | _ => t

/-- The first address of the metrology slot that is not in use (Table 19.8, R455). -/
def metrologyBase (s : State) : Nat := if s.get Reg.metrologySlot = 0 then 0x2400000 else 0x2000000

/-- Metrology image data, written to the slot not in use at the offset set (R239, R455). -/
def execMetrologyImageData (r : Req) (data : List Byte) (s : State) : Out :=
  s.run fun s => noteFull 0x8001 s <| hostWrite r Obj.metrologyImageData 0 0 data (fun role t => auditRoom t fun t =>
    let off := t.getN Obj.metrologyImageWriteOffset
    if t.get Obj.flashWritesPermitted = 0 then .error 6
    else if 0x400000 < off + data.length then .error 5
    else .ok (auditEntry 1 role 0x8001 2 [] data (t.flashWrite (metrologyBase t + off) data))) s

/-- Activation at the next reset, after verification (R239). The audit entry carries the CRC-32 and version of both
images. -/
def execActivateMetrologyImage (r : Req) (s : State) : Out :=
  s.run fun s => noteFull 0x8001 s <| hostWrite r Obj.activateMetrologyImage 0 0 [1] (fun role t => auditRoom t fun t =>
    if t.get Obj.flashWritesPermitted = 0 then .error 6
    else
      let img := t.flashRead (metrologyBase t) 0x400000
      let old := beBytes 4 (t.get Obj.metrologyImageCRC32) ++ beBytes 4 (t.get Obj.metrologyFirmwareVersion)
      let new := beBytes 4 (crc32 (Config.imagePart 3 img)) ++ beBytes 4 (Config.imageNumber 0 img)
      .ok (auditEntry 5 role 0x8001 3 old new (t.set Reg.metrologyPending 1))) s

end Sys2Proof.Machine
end

