-- ==== Sys2Proof/Machine/Topology.lean ====
section
/-!
DEFINITION. The topology check (R9 to R11, R494, R496). Element kinds of event 0x2031: 1 cabinet, 2 block, 3 phase,
4 outlet, 5 feeder.
-/

namespace Sys2Proof.Machine

/-! ### What is found -/

/-- Declared reaches of the declared blocks of a cabinet (R145). -/
def reachesOf (s : State) (c : Nat) : Int :=
  (((blocksOf c).filter fun b => blockDeclared s b).flatMap fun b => [0, 1, 2, 3].filter fun r => reachOutlet s b r < 24).length

/-- A feeder counts as declared when a declared cabinet names it. -/
def feederDeclared (s : State) (f : Nat) : Bool := (List.range 16).any fun c => cabDeclared s c && s.getN Obj.feederOfCabinet c == f

/-- No block of a cabinet is energised. -/
def cabUnenergised (s : State) (c : Nat) : Bool := (blocksOf c).all fun b => !energised s b

/-- A cabinet matches its declaration: its link has trained, which takes the identity declared, and its reaches are the
contactors declared (Table 1.5, R145). -/
def cabFits (s : State) (c : Nat) : Bool := linkUp s c && reachesOf s c == s.get Obj.declaredContactorCount c

/-- A phase matches: four frames within the idle window (R496). -/
def phaseFits (s : State) (p : Nat) : Bool :=
  4 ≤ s.get Reg.idleFrames p && s.bit Obj.idSupplyMap (p % 16) (cabOf p) == s.bit Obj.declaredSupplyMap (p % 16) (cabOf p)

/-- The phase is still to be judged. -/
def phaseAwaits (s : State) (p : Nat) : Bool :=
  phaseDeclared s p && s.get Obj.lockoutCause p == 0 && linkUp s (cabOf p) && s.get Reg.idleJudged p < 4

/-- An outlet matches (Table 1.5). -/
def outletFits (s : State) (n : Nat) : Bool :=
  s.get Obj.pilotState n == 0 && s.get Reg.proximityState n != 2 &&
  (s.get Obj.hvilInUse n == 0 || s.get Reg.hvilState n == 0) &&
  ([0, 1, 2, 3, 4].all fun k => s.get Obj.tcState (5 * n + k) != 4) && s.get Obj.contactorFeedback n == 0 &&
  s.get Obj.lsOffResult (coilPlus n) == 1 && s.get Obj.lsOffResult (coilMinus n) == 1 &&
  s.get Obj.magLastResult n != 2 && s.get Reg.imdSilent n == 0 && s.get Reg.imdAt n != 0 &&
  (s.get Obj.coolantBus n == 0xFF || (s.get Obj.coolantSilent n == 0 && s.get Reg.coolantAt n != 0)) &&
  !((List.range 64).any fun b => blockDeclared s b && [0, 1, 2, 3].any fun r => reachOutlet s b r == n && contactorReported s b r == 1)

/-- A feeder matches: mains within 15 % of nominal, in sequence (Table 1.5). -/
def feederFits (s : State) (f : Nat) : Bool :=
  s.get Obj.noMains f == 0 && s.get Reg.afReversed f == 0 &&
  [0, 1, 2].all fun j => within (s.get Obj.afVoltage f j) (10 * s.get Obj.nominalPhaseVoltage f) 15

/-! ### Judgements -/

/-- An element found refused that was not: event 0x2031. -/
def refusedNow (kind i : Nat) (was now : Bool) (s : State) : State :=
  if now && !was then logEvent 0x2031 srcAp1 (data8 [kind, i]) s else s

/-- The check covers a cabinet: all of them, or those whose link has returned (R11). -/
def coversCab (s : State) (c : Nat) : Bool :=
  cabUnenergised s c && (s.is Reg.topologyFull || (linkUp s c && s.get Reg.linkRechecked c == 0))

/-- A phase is judged. A phase locked out stays so (R96). -/
def checkPhase (p : Nat) (s : State) : State :=
  if ¬ phaseDeclared s p then setPhase p phUndeclared (s.set Reg.phasePassed 0 p)
  else if s.get Obj.lockoutCause p ≠ 0 then setPhase p phLocked s
  else if phaseAwaits s p then s
  else
    let ok := phaseFits s p && linkUp s (cabOf p)
    let was := phaseSt s p == phRefused
    let t := s.setB Reg.phasePassed ok p
    let t := if ok then (if phaseSt t p ≤ phRefused then setPhase p phOff t else t) else setPhase p phRefused t
    refusedNow 3 p was (!ok) t

/-- A block is judged by its contactors and its usable phases; a passing check releases an unresolved phase fault (R100). -/
def checkBlock (b : Nat) (s : State) : State :=
  if ¬ blockDeclared s b then (s.set Reg.blockPassed 0 b).setBit Obj.refusedBlocks b false
  else
    let was := s.bit Obj.refusedBlocks b
    let awaits := (phasesOf b).any (phaseAwaits s)
    let ok := s.is Reg.cabPassed (b / 4) && allReportedOpen s b && 2 ≤ (usablePhases s b).length
    let t := (s.setB Reg.blockPassed (ok && !awaits) b).setBit Obj.refusedBlocks b (!ok && !awaits)
    let t := if t.is Reg.topologyFull ∧ ok ∧ ¬ awaits ∧ t.bit Obj.blockState 1 b then t.setBit Obj.blockState 1 false b else t
    refusedNow 2 b was (!ok && !awaits) (refreshBlock b t)

/-- A cabinet, its phases and its blocks. -/
def checkCab (c : Nat) (s : State) : State :=
  if ¬ coversCab s c then s
  else
    let was := s.bit Obj.refusedCabinets c
    let ok := cabDeclared s c && cabFits s c
    let t := (s.setB Reg.cabPassed ok c).setBit Obj.refusedCabinets c (cabDeclared s c && !ok)
    let t := refusedNow 1 c was (cabDeclared s c && !ok) t
    (t.forN 16 fun i u => checkPhase (16 * c + i) u).forL (blocksOf c) checkBlock

/-- An outlet is judged while it is IDLE and no magnetic check of it is due. -/
def checkOutlet (n : Nat) (s : State) : State :=
  if ¬ outletDeclared s n then (s.set Reg.outletPassed 0 n).setBit Obj.refusedOutlets n false
  else if s.get Obj.outletState n ≠ 0 ∨ s.is Reg.magWanted n then s
  else
    let was := s.bit Obj.refusedOutlets n
    let ok := outletFits s n
    refreshAvail n (refusedNow 4 n was (!ok) ((s.setB Reg.outletPassed ok n).setBit Obj.refusedOutlets n (!ok)))

/-- A feeder is judged. -/
def checkFeeder (f : Nat) (s : State) : State :=
  let was := s.bit Obj.refusedFeeders f
  let bad := feederDeclared s f && !feederFits s f
  refusedNow 5 f was bad ((s.setBit Obj.refusedFeeders f bad).setB Reg.feederPassed (!bad) f)

/-- Every element the check covers is judged by what is found now. -/
def judgeTopology (s : State) : State :=
  let t := s.forN 16 checkCab
  let t := if t.is Reg.topologyFull then (t.forN 24 checkOutlet).forN 4 checkFeeder else t
  t.set Obj.refusedPhases ((List.range 256).filter fun p => phaseSt t p == phRefused).length

/-- Something the check covers is still to be judged. -/
def topologyAwaits (s : State) : Bool :=
  ((List.range 16).any fun c => coversCab s c && (List.range 16).any fun i => phaseAwaits s (16 * c + i)) ||
  (s.is Reg.topologyFull && (List.range 24).any fun n => outletDeclared s n && s.get Obj.outletState n == 0 && s.is Reg.magWanted n)

/-- The result (0x2003:01). -/
def topologyVerdict (s : State) : Int :=
  let ops := (List.range 24).any fun n => outletDeclared s n && !s.bit Obj.refusedOutlets n
  if s.get Obj.refusedFeeders ≠ 0 ∨ ¬ ops then 4
  else if s.get Obj.refusedCabinets ≠ 0 ∨ s.get Obj.refusedBlocks ≠ 0 ∨ s.get Obj.refusedOutlets ≠ 0 ∨ s.get Obj.refusedPhases ≠ 0 then 3
  else 2

/-! ### Commands -/

/-- The module runs the check: from stage 5 on, in a role that drives. -/
def mayCheck (s : State) : Bool := 5 ≤ s.get Obj.startUpStage && isDriving s && 2 ≤ s.get Obj.powerState

/-- A check that is due begins; a full one asks for the magnetic checks of the idle outlets (R266). -/
def beginTopology (s : State) : State :=
  if s.get Obj.topologyResult = 1 then s
  else
    let t := s.set Obj.topologyResult 1
    if t.is Reg.topologyFull then
      t.forN 24 fun n u => if outletDeclared u n then u.set Reg.magWanted 1 n else u
    else t

/-- A standby judges the inputs it shares with the active module, feeders and outlets, against the results that the active
sent; a difference is item 9 of its report: the outlet, or 32 and the feeder (R17). -/
def checkShared (s : State) : State :=
  let t := s.forN 24 fun n u =>
    if outletDeclared u n ∧ u.get Obj.outletState n = 0 ∧ ¬ u.is Reg.magWanted n ∧ outletFits u n = u.bit Obj.refusedOutlets n then
      healthItem 9 n u
    else u
  t.forN 4 fun f u =>
    if feederDeclared u f ∧ feederFits u f = u.bit Obj.refusedFeeders f then healthItem 9 (32 + f) u else u

/-- What the active sends the standby of its results (R17). -/
def sendTopology (s : State) : State :=
  if s.get Obj.role = roActive ∧ s.is Reg.paired then
    s.emit (.partner 17 ([Obj.topologyResult, Obj.refusedCabinets, Obj.refusedBlocks, Obj.refusedOutlets, Obj.refusedFeeders,
      Obj.refusedPhases, Obj.absentOutstations].map fun o => s.get o))
  else s

def execTopologyCheck (s : State) : Out :=
  s.run fun s =>
    if s.get Obj.role = roStandby ∧ 5 ≤ s.get Obj.startUpStage then checkShared s
    else if mayCheck s ∧ (s.get Obj.topologyResult ≤ 1 ∨ s.is Reg.topologyDue) then judgeTopology (beginTopology s) else s

/-- The check ends when nothing it covers awaits judgement: the result, event 0x2030, and stage 6 (Table 1.9). -/
def execTopologyCheckComplete (s : State) : Out :=
  s.run fun s =>
    if ¬ mayCheck s ∨ s.get Obj.topologyResult ≠ 1 ∨ topologyAwaits s then s
    else
      let t := judgeTopology s
      let t := t.forN 16 fun c u => if u.is Reg.cabPassed c ∧ linkUp u c then u.set Reg.linkRechecked 1 c else u
      let t := (t.set Reg.topologyDue 0).set Reg.topologyFull 0
      let v := topologyVerdict t
      let t := logEvent 0x2030 srcAp1 (data8 [v]) ((t.set Obj.topologyResult v).set Obj.lastCheckTime t.time)
      let t := t.forN 64 recoverBlock
      let t := if t.get Obj.startUpStage = 5 then
          ((t.set Obj.startUpStage 6).set Reg.stageAt t.now).set Reg.stageLate 0
        else t
      sendTopology (refreshAll t)

/-- A write of 1 to 0x2004: the check of every unenergised element (R11). -/
def execRunTopologyCheck (r : Req) (s : State) : Out :=
  s.run fun s => hostWrite r Obj.runTopologyCheck 0 0 [1] (fun _ t =>
    .ok (beginTopology (((t.set Reg.topologyDue 1).set Reg.topologyFull 1).set Obj.topologyResult 0))) s

end Sys2Proof.Machine
end

