-- ==== Sys2Proof/Machine/Keys.lean ====
section
/-!
DEFINITION. The key core: shares, blobs, derived keys and the random source (R271 to R278).
-/

namespace Sys2Proof.Machine

/-- The bytes of an ASCII text. -/
def ascii (t : String) : List Byte := t.toList.map fun c => BitVec.ofNat 8 c.toNat

/-! ### Secrets -/

/-- Numbers of the secrets that KC holds. -/
def kField : Nat := 0
def kService : Nat := 1
def kSecc : Nat := 2
def kCan (role : Nat) : Nat := 2 + role
def kProvision : Nat := 8
def kManufacture : Nat := 9

/-- A secret in two fresh shares. -/
def holdSecret (k : Nat) (v : List Byte) (s : State) : State :=
  let (m, t) := s.random v.length
  (t.setBytes Reg.keyShare (xorBytes v m) k 0).setBytes Reg.keyShare m k 1

/-- The shares of a secret with a fresh mask (R274). -/
def remask (k : Nat) (s : State) : State :=
  let a := s.bytes Reg.keyShare k 0
  let (m, t) := s.random a.length
  (t.setBytes Reg.keyShare (xorBytes a m) k 0).setBytes Reg.keyShare (xorBytes (t.bytes Reg.keyShare k 1) m) k 1

/-! ### Derivation -/

/-- The KDF in counter mode (R271): key, label, context, bits. -/
def kdf (key label context : List Byte) (bits : Nat) : List Byte :=
  (((List.range ((bits + 255) / 256)).flatMap fun k =>
    Config.hmac256 key (beBytes 4 (k + 1) ++ label ++ [0] ++ context ++ beBytes 4 bits))).take (bits / 8)

/-- The context of a derived key: module serial and version. -/
def keyContext (s : State) (version : Int) : List Byte := s.bytes Obj.moduleSerial ++ beBytes 1 version

/-- The root in force (Table 11.1). -/
def rootInForce (s : State) : List Byte :=
  if s.get Obj.lifeCycleState = lcField then secretOf s kField
  else if s.get Obj.lifeCycleState = lcService then secretOf s kService
  else []

/-- A derived private key: d = (c mod (n - 1)) + 1 (R271). -/
def derivedPrivate (root label context : List Byte) (curve : Nat) : List Byte :=
  beBytes (curve / 8) (ofBytes (kdf root label context (curve + 64)) % (Config.curveOrder curve - 1) + 1 : Nat)

/-- The field metering key of a curve, at the version in force. -/
def fieldKey (s : State) (curve : Nat) : List Byte :=
  derivedPrivate (secretOf s kField) (ascii (if curve = 384 then "SWV-FMK-P384" else "SWV-FMK-P256"))
    (keyContext s (s.get Obj.fmkVersion)) curve

/-- The service log key. -/
def serviceLogKey (s : State) : List Byte :=
  derivedPrivate (secretOf s kService) (ascii "SWV-SVC-LOG") (keyContext s 0) 256

/-- AES keys of Table 11.3. -/
def roleWrapKey (s : State) : List Byte := kdf (rootInForce s) (ascii "SWV-ROLE-WRAP") (keyContext s 0) 256
def seccWrapKey (s : State) : List Byte := kdf (secretOf s kField) (ascii "SWV-SECC-WRAP") (keyContext s 0) 256
def blobKey (s : State) : List Byte := kdf Config.fusedDeviceKey (ascii "SWV-BLOB") (keyContext s 0) 256

/-- The digest that goes with a curve (Table 11.4). -/
def digestOf (curve : Nat) (m : List Byte) : List Byte := if curve = 384 then Config.sha384 m else Config.sha256 m

/-- The source works and KC takes new operations (R269, R278). -/
def kcReady (s : State) : Bool := s.get Obj.randomSourceState == 1 && s.get Reg.transitionTo == 0

/-- Keys derived under FIELD can be used (R272): the state, and a field root that was read. -/
def fieldKeysUsable (s : State) : Bool :=
  s.get Obj.lifeCycleState == lcField && secretOf s kField != [] && kcReady s

/-- A signature r ‖ s, its nonce drawn from the source (R276). -/
def signWith (curve : Nat) (d m : List Byte) (s : State) : List Byte × State :=
  let (n, t) := s.random (curve / 8)
  (fitBytes (curve / 4) (Config.ecdsaSign curve d n (digestOf curve m)), t)

/-! ### Wrapping -/

/-- Plain bytes wrapped: nonce, ciphertext, tag. -/
def wrapWith (key plain : List Byte) (s : State) : List Byte × State :=
  let (n, t) := s.random 12
  (n ++ Config.gcmCipher key n [] plain ++ Config.gcmTag key n [] plain, t)

/-- Wrapped bytes opened; none when the tag fails. GCM deciphers with the keystream it enciphers with. -/
def unwrapWith (key w : List Byte) : Option (List Byte) :=
  let n := w.take 12
  let c := (w.drop 12).take (w.length - 28)
  let p := Config.gcmCipher key n [] c
  if 28 ≤ w.length ∧ Config.gcmTag key n [] p = w.drop (w.length - 16) then some p else none

/-- The blob of a secret in a generation. -/
def blobBytes (gen : Int) (w : List Byte) : List Byte :=
  let b := beBytes 4 gen ++ w
  b ++ beBytes 4 (crc32 b)

/-- The blob of a secret written anew over both copies, the older first (R275); of a secret not held, both are overwritten. -/
def writeBlob (k : Nat) (s : State) : State :=
  if secretOf s k = [] then (s.setBytes Reg.keyBlob [] k 0).setBytes Reg.keyBlob [] k 1
  else
    let t := remask k s
    let (w, t) := wrapWith (blobKey t) (t.bytes Reg.keyShare k 0 ++ t.bytes Reg.keyShare k 1) t
    let b := blobBytes (t.get Reg.blobGeneration) w
    (t.setBytes Reg.keyBlob b k 0).setBytes Reg.keyBlob b k 1

/-- Every blob re-wrapped in a new generation (R275). -/
def rewrapBlobs (s : State) : State :=
  let t := (s.set Reg.blobGeneration (s.get Reg.blobGeneration + 1)).set Reg.blobsAt s.time
  t.forN 10 writeBlob

/-- A copy is good: its CRC and its tag. -/
def openBlob (s : State) (b : List Byte) : Option (Nat × List Byte) :=
  let n := b.length
  if n < 36 ∨ ofBytes (b.drop (n - 4)) ≠ crc32 (b.take (n - 4)) then none
  else (unwrapWith (blobKey s) ((b.take (n - 4)).drop 4)).map fun p => (ofBytes (b.take 4), p)

/-- The secret read at start-up from the copy of highest generation that is good; event 0xB012 when neither is (R275). -/
def readBlob (k : Nat) (s : State) : State :=
  let a := s.bytes Reg.keyBlob k 0
  let b := s.bytes Reg.keyBlob k 1
  if a = [] ∧ b = [] then s
  else
    let best := match openBlob s a, openBlob s b with
      | some x, some y => some (if x.1 < y.1 then y.2 else x.2)
      | some x, none => some x.2
      | none, some y => some y.2
      | none, none => none
    match best with
    | some p => (s.setBytes Reg.keyShare (p.take (p.length / 2)) k 0).setBytes Reg.keyShare (p.drop (p.length / 2)) k 1
    | none => logEvent 0xB012 srcKc (data8 [k]) s

/-- A secret is destroyed: both shares and both copies are overwritten (R269). -/
def destroySecret (k : Nat) (s : State) : State :=
  let t := (s.setBytes Reg.keyShare [] k 0).setBytes Reg.keyShare [] k 1
  (t.setBytes Reg.keyBlob [] k 0).setBytes Reg.keyBlob [] k 1

/-! ### Public parts -/

/-- Identifier of a public key: the first 4 bytes of its SHA-256 (Table 10.7). -/
def keyIdOf (q : List Byte) : Int := ofBytes ((Config.sha256 q).take 4)

/-- The public parts of the field metering key and their identifiers are published (R273). -/
def publishFieldKey (s : State) : State :=
  let q256 := Config.publicKey 256 (fieldKey s 256)
  let q384 := Config.publicKey 384 (fieldKey s 384)
  let t := (s.setBytes Obj.fmkPublicP256 q256).setBytes Obj.fmkPublicP384 q384
  (t.set Obj.fmkKeyId (keyIdOf q256) 0 0).set Obj.fmkKeyId (keyIdOf q384) 0 1

end Sys2Proof.Machine
end

