-- ==== Sys2Proof/Machine/Records.lean ====
section
/-!
DEFINITION. Session records, tamper inputs and magnetic checks (R261 to R267).
-/

namespace Sys2Proof.Machine

/-! ### The record -/

/-- The curve of new records (0x9600:01). -/
def recordCurve (s : State) : Nat := if s.get Obj.signatureCurve = 2 then 384 else 256

/-- Bytes 0 to 239 of the record of a context (Table 10.7). -/
def recordBody (s : State) (c : Nat) : List Byte :=
  let ident := s.bytes Obj.ctxIdentity c
  let reg3 (o : Obj) : List Byte := (List.range 3).flatMap fun j => fitBytes 10 (s.bytes o c j)
  beBytes 2 0x0100 ++ beBytes 1 (s.get Obj.signatureCurve) ++ beBytes 1 (s.get Reg.recordFlags c) ++
  beBytes 4 (s.get Obj.ctxSerial c) ++ beBytes 4 (s.get Reg.recordSeq + 1) ++ fitBytes 8 (s.bytes Obj.moduleSerial) ++
  data8 [c, s.get Obj.regSetOutlet c, s.get Obj.ctxEndCause c, s.get Obj.regSetFlags c, s.get Obj.ctxIdentityKind c, ident.length] ++
  fitBytes 32 ident ++ fitBytes 6 (s.bytes Reg.ctxEvccid c) ++
  data8 [s.get Obj.ctxTariff c, s.get Obj.ctxClass c, s.get Reg.qualityStart c, s.get Reg.qualityStop c] ++
  beBytes 8 (s.get Obj.startTime c) ++ beBytes 8 (s.get Obj.stopTime c) ++ reg3 Obj.startReg ++ reg3 Obj.stopReg ++
  ((List.range 8).flatMap fun j => reg80 (s.get Reg.sessionSlot c j)) ++
  beBytes 4 (s.get Obj.metrologyFirmwareVersion) ++ beBytes 4 (s.get Obj.metrologyImageCRC32) ++
  beBytes 4 (s.get Obj.fmkKeyId 0 (if recordCurve s = 384 then 1 else 0)) ++ [0, 0, 0, 0]

/-! ### The OCMF view -/

/-- A quoted text, and a member of a JSON object. -/
def quoted (t : List Byte) : List Byte := [0x22] ++ t ++ [0x22]
def member (name : String) (v : List Byte) : List Byte := quoted (ascii name) ++ ascii ":" ++ v

/-- Members joined by commas; in braces. -/
def joined : List (List Byte) → List Byte
  | [] => []
  | [a] => a
  | a :: t => a ++ ascii "," ++ joined t
def braced (l : List (List Byte)) : List Byte := [0x7B] ++ joined l ++ [0x7D]

/-- A number in decimal, and in at least `n` digits. -/
def decimal (v : Nat) : List Byte := ascii (toString v)
def digits (n v : Nat) : List Byte := (List.range n).map fun k => BitVec.ofNat 8 (48 + v / 10 ^ (n - 1 - k) % 10)

/-- Bytes in upper-case hexadecimal. -/
def hexText (l : List Byte) : List Byte :=
  l.flatMap fun b => [b.toNat / 16, b.toNat % 16].map fun d => BitVec.ofNat 8 (if d < 10 then 48 + d else 55 + d)

/-- An identity as text: as it is when every byte is printable, in hexadecimal otherwise. -/
def identityText (l : List Byte) : List Byte :=
  if l.all fun b => 0x20 ≤ b.toNat && b.toNat < 0x7F && b.toNat != 0x22 && b.toNat != 0x5C then l else hexText l

/-- A time of the view (R262). -/
def ocmfTime (t : Int) (quality : Nat) : List Byte :=
  let (y, m, d) := civilOf (dayOf t)
  let ms := (t % dayNs / 1000000).toNat
  digits 4 y ++ ascii "-" ++ digits 2 m ++ ascii "-" ++ digits 2 d ++ ascii "T" ++ digits 2 (ms / 3600000) ++ ascii ":" ++
  digits 2 (ms / 60000 % 60) ++ ascii ":" ++ digits 2 (ms / 1000 % 60) ++ ascii "," ++ digits 3 (ms % 1000) ++ ascii "+0000 " ++
  ascii (if quality = 3 then "S" else if quality = 0 then "U" else "I")

/-- A register in kWh, to three decimals, truncated. -/
def ocmfEnergy (reg : List Byte) : List Byte :=
  let wh := ofBytes reg / 65536000
  decimal (wh / 1000) ++ ascii "." ++ digits 3 (wh % 1000)

/-- One reading. -/
def ocmfReading (tx : String) (t : Int) (quality : Nat) (reg : List Byte) : List Byte :=
  braced [member "TM" (quoted (ocmfTime t quality)), member "TX" (quoted (ascii tx)),
    member "RV" (ocmfEnergy reg), member "RI" (quoted (ascii "01-00:01.08.00*FF")), member "RU" (quoted (ascii "kWh")),
    member "ST" (quoted (ascii "G"))]

/-- The payload of the OCMF view of a record body; `image` is the firmware version in use at its signing. -/
def ocmfPayload (body : List Byte) (image : Int) : List Byte :=
  let f (a n : Nat) : List Byte := (body.drop a).take n
  let serial := hexText (f 12 8)
  let kind := ofBytes (f 24 1)
  braced [member "FV" (quoted (ascii "1.0")), member "GS" (quoted serial), member "GV" (quoted (decimal image.toNat)),
    member "PG" (quoted (ascii "T" ++ decimal (ofBytes (f 4 4)))), member "MM" (quoted (ascii "SWV9624")),
    member "MS" (quoted (serial ++ ascii "-" ++ decimal (ofBytes (f 21 1)))), member "MF" (quoted (decimal (ofBytes (f 224 4)))),
    member "IT" (quoted (ascii (if kind = 1 then "EVCCID" else if kind = 2 then "EMAID" else if kind = 3 then "LOCAL" else "NONE"))),
    member "ID" (quoted (identityText (f 26 (ofBytes (f 25 1))))),
    member "RD" (ascii "[" ++ ocmfReading "B" (ofBytesI (f 68 8)) (ofBytes (f 66 1)) (f 84 10) ++ ascii "," ++
      ocmfReading "E" (ofBytesI (f 76 8)) (ofBytes (f 67 1)) (f 114 10) ++ ascii "]")]

/-- An integer in DER, and a signature r ‖ s in DER. -/
def derInt (l : List Byte) : List Byte :=
  let m := l.dropWhile fun b => b == 0
  let m := match m with
    | [] => [0]
    | b :: _ => if 128 ≤ b.toNat then 0 :: m else m
  [0x02] ++ beBytes 1 m.length ++ m
def derSignature (sig : List Byte) : List Byte :=
  let b := derInt (sig.take (sig.length / 2)) ++ derInt (sig.drop (sig.length / 2))
  [0x30] ++ beBytes 1 b.length ++ b

/-- The OCMF view of a store entry (R262). -/
def ocmfText (entry : List Byte) (image : Int) : List Byte :=
  let sig := (entry.drop 337).take (ofBytes ((entry.drop 336).take 1))
  let alg := if ofBytes ((entry.drop 2).take 1) = 2 then "ECDSA-secp384r1-SHA384" else "ECDSA-secp256r1-SHA256"
  ascii "OCMF|" ++ ocmfPayload entry image ++ ascii "|" ++
  braced [member "SA" (quoted (ascii alg)), member "SD" (quoted (hexText sig))]

/-! ### The store -/

/-- Session serial and record sequence of an entry. -/
def entrySerial (e : List Byte) : Nat := ofBytes ((e.drop 4).take 4)
def entrySeq (e : List Byte) : Nat := ofBytes ((e.drop 8).take 4)

/-- The entry of a serial. -/
def recordOfSerial (s : State) (serial : Nat) : Option (List Byte) := (s.log Reg.recordStore).find? fun e => entrySerial e == serial

/-- An entry is marked collected. -/
def isCollected (s : State) (e : List Byte) : Bool := (s.seq Reg.recordCollected).contains (entrySeq e : Int)

/-- Entries in use and uncollected (0x9600:08). -/
def showRecords (s : State) : State :=
  let n := (s.log Reg.recordStore).length
  let k := ((s.log Reg.recordStore).filter fun e => !isCollected s e).length
  noteRoom (s.set Obj.recordCounts ((n * 65536 + k : Nat) : Int))

/-- The firmware version in use that an entry's view carries. -/
def imageOfEntry (s : State) (e : List Byte) : Int :=
  match ((s.log Reg.recordStore).zip (s.seq Reg.recordImage)).find? fun x => x.1 == e with
  | some x => x.2
  | none => 0

/-- The outlet of a context has left WELD_CHECK (R261). -/
def weldCheckLeft (s : State) (c : Nat) : Bool :=
  (List.range 24).all fun n => s.getN Obj.boundContext n != c || s.get Obj.outletState n == 0 || s.get Obj.outletState n == 9

/-- A context can be sealed (R190, R261). -/
def maySeal (s : State) (c : Nat) : Bool :=
  isDriving s && s.get Obj.ctxState c == cxClosing && s.get Reg.ctxOpen c == 0 && weldCheckLeft s c && fieldKeysUsable s &&
  (s.log Reg.recordStore).length < 4096 && !shadowFull s

/-- The store entry: body, signature, OCMF signature, CRC (Table 10.7). -/
def recordEntryOf (s : State) (c : Nat) : List Byte × State :=
  let curve := recordCurve s
  let body := recordBody s c
  let d := fieldKey s curve
  let (sig, t) := signWith curve d body s
  let (text, t) := signWith curve d (ocmfPayload body (t.get Obj.firmwareVersionInUse)) t
  let der := derSignature text
  let e := body ++ fitBytes 96 sig ++ beBytes 1 der.length ++ fitBytes 111 der ++ List.replicate 60 0
  (e ++ beBytes 4 (crc32 e), t)

/-- A context is sealed with its record (R261, R264). -/
def sealContext (c : Nat) (s : State) : State :=
  if ¬ maySeal s c then s
  else
    let (e, t) := recordEntryOf s c
    let t := t.set Reg.recordSeq (t.get Reg.recordSeq + 1)
    let t := (t.setLog Reg.recordStore (e :: t.log Reg.recordStore)).setSeq Reg.recordImage
      (t.get Obj.firmwareVersionInUse :: t.seq Reg.recordImage)
    let t := submit wrKc jkRecord c 0 e true t
    let t := queueItem (t.getN Obj.recordPushChannel) 2 e (setContext c cxSealed t)
    let t := logEvent 0x9017 srcKc (data32 (t.get Obj.ctxSerial c) ++ data32 (t.get Reg.recordSeq)) t
    let t := if (t.log Reg.recordStore).length = 3968 then logEvent 0x9018 srcKc [] t else t
    let t := if t.is Reg.paired then t.emit (.sync (Reg.recordStore.key 0 0) 0 e) else t
    refreshAll (showRecords t)

def execRecordSealed (ctx : Fin 250) (s : State) : Out := s.run (sealContext ctx)

/-! ### Reading, collecting, releasing -/

/-- A serial that is not in the store is refused (R263). -/
def execRecordSelect (r : Req) (data : List Byte) (s : State) : Out :=
  s.run fun s => hostWrite r Obj.recordSelector 0 0 data (fun _ t =>
    if (recordOfSerial t (ofBytes data)).isNone then .error 5 else .ok (t.set Obj.recordSelector (ofBytes data))) s

/-- A record is collected: its entry is marked and its context is FREE (R189, R263). -/
def collectRecord (data : List Byte) (t : State) : Except Nat State :=
    if t.get Obj.lifeCycleState = lcRetired then .error 6
    else match recordOfSerial t (ofBytes data) with
      | none => .error 5
      | some e =>
        let t := if isCollected t e then t else t.setSeq Reg.recordCollected ((entrySeq e : Int) :: t.seq Reg.recordCollected)
        let t := match (List.range 250).find? fun c => t.get Obj.ctxState c == cxSealed && t.getN Obj.ctxSerial c == ofBytes data with
          | some c =>
            let u := setContext c cxFree t
            (((u.set Obj.ctxSerial 0 c).set Obj.ctxAuthorisation 0 c).set Reg.ctxAuthorised 0 c).set Obj.regSetOutlet 255 c
          | none => t
        .ok (refreshAll (showRecords t))

def execCollectRecord (r : Req) (data : List Byte) (s : State) : Out :=
  s.run (hostWrite r Obj.collectRecord 0 0 data fun _ t => collectRecord data t)

/-- Every collected entry up to a serial is released; a serial whose own entry is uncollected is refused (R263). -/
def releaseUpTo (data : List Byte) (t : State) : Except Nat State :=
    if t.get Obj.lifeCycleState = lcRetired then .error 6
    else match recordOfSerial t (ofBytes data) with
      | none => .error 5
      | some e =>
        if ¬ isCollected t e then .error 6
        else
          let keep := ((t.log Reg.recordStore).zip (t.seq Reg.recordImage)).filter fun x =>
            !(isCollected t x.1 && decide (entrySerial x.1 ≤ ofBytes data))
          let gone := ((t.log Reg.recordStore).filter fun x => isCollected t x && decide (entrySerial x ≤ ofBytes data)).map
            fun x => (entrySeq x : Int)
          let u := (t.setLog Reg.recordStore (keep.map (·.1))).setSeq Reg.recordImage (keep.map (·.2))
          .ok (refreshAll (showRecords (u.setSeq Reg.recordCollected ((u.seq Reg.recordCollected).filter fun x => !gone.contains x))))

def execReleaseUpTo (r : Req) (data : List Byte) (s : State) : Out :=
  s.run (hostWrite r Obj.releaseUpTo 0 0 data fun _ t => releaseUpTo data t)

/-! ### Tamper log -/

/-- An entry of the tamper log (Table 10.8), in a ring of 128 (R265). -/
def tamperEntryOf (kind source value : Int) (s : State) : State :=
  let e := beBytes 8 (s.get Reg.rtcTime) ++ data8 [kind, source, s.get Obj.powerState, 0] ++ beBytes 4 value
  let l := s.log Reg.tamperLog
  let t := (s.setLog Reg.tamperLog ((e :: l).take 128)).set Reg.tamperCount (s.get Reg.tamperCount + 1)
  if 128 ≤ l.length then t.inc Obj.tamperLogOverwrites else t

/-- At each start the entries not yet reported are logged, the oldest first (R265). -/
def reportTamper (s : State) : State :=
  let n := (s.get Reg.tamperCount - s.get Reg.tamperReported).toNat
  let t := ((s.log Reg.tamperLog).take n).reverse.foldl (fun u e => logEvent 0x9019 srcMp e u) s
  t.set Reg.tamperReported (t.get Reg.tamperCount)

/-- A contact is accepted in a new state (R265). Sampled in every power state while the cell is present. -/
def execTamperInputChange (input : Fin 8) (closed : Bool) (s : State) : Out :=
  s.run fun s =>
    let i := input.val
    if s.bit Obj.tamperInputStates i = closed ∨ s.get Obj.powerState = 0 then s
    else
      let t := s.setBit Obj.tamperInputStates i closed
      if ¬ t.bit Obj.tamperEnable i then t
      else
        let opened : Bool := closed == t.bit Obj.tamperPolarity i
        let t := tamperEntryOf (if opened then 1 else 2) i 0 t
        if opened then t.forN 250 fun c u => if ctxInSession u c then u.setBit Reg.recordFlags 3 true c else u else t

/-! ### Magnetic checks -/

/-- The field of a mean reading [0.01 mT] (R266). -/
def fieldOf (s : State) (n : Nat) (mean : Rat) : Int :=
  roundAway ((mean - (s.get Obj.magZero n : Rat)) * 10000 / (s.get Obj.magSensitivity n : Rat))

/-- The outlet is IDLE and its current has stayed below 1 A for 1 s (R266). -/
def magQuiet (s : State) (n : Nat) : Bool :=
  s.get Obj.outletState n == 0 && s.get Reg.quietSince n != 0 && s.getN Reg.quietSince n + second ≤ s.now + 1

/-- The check of an outlet: 100 readings of MAGn [mV] (R266, R267). A passing check after a detection rechecks the outlet. -/
def execMagneticCheck (outlet : Fin 24) (readings : List Int) (s : State) : Out :=
  s.run fun s =>
    let n := outlet.val
    if ¬ s.is Reg.magWanted n ∨ ¬ magQuiet s n ∨ readings.length ≠ 100 then s
    else
      let v := fieldOf s n ((readings.sum : Int) / 100 : Rat)
      let found : Bool := s.get Obj.magThreshold n < |v|
      let was := s.get Obj.magLastResult n
      let t := ((s.set Reg.magWanted 0 n).set Obj.magLastField v n).set Obj.magLastTime s.time n
      let t := t.set Obj.magLastResult (if found then 2 else 1) n
      if found then
        let t := logEvent 0x901A srcMp (data8 [n] ++ beBytes 4 v) (tamperEntryOf 3 n v t)
        refreshAvail n (refusedNow 4 n (t.bit Obj.refusedOutlets n) true ((t.setBit Obj.refusedOutlets n true).set Reg.outletPassed 0 n))
      else if was = 2 then checkOutlet n (tamperEntryOf 4 n v t)
      else t

/-- A write to 0x9798:01 asks for the check of outlets (R266). -/
def execRunMagneticTest (r : Req) (data : List Byte) (s : State) : Out :=
  s.run fun s => hostWrite r Obj.runMagneticTest 0 0 data (fun _ t =>
    .ok (t.forN 24 fun n u => if (ofBytes data).testBit n then u.set Reg.magWanted 1 n else u)) s

end Sys2Proof.Machine
end

