-- ==== Sys2Proof/Machine/HostSessions.lean ====
section
/-!
DEFINITION. Ethernet sessions of hosts: opening, confirmation, end and lockout of addresses (R280 to R282, R307).
-/

namespace Sys2Proof.Machine

/-- The number of open sessions shown. -/
def showSessions (s : State) : State := s.set Obj.openEthernetSessions (s.sessions.filter fun y => !y.opening).length

/-- A session ends (R282, R297, R301, R311): event 0x1111, its tags and channels are freed, incomplete requests go. -/
def endSession (x : Session) (cause : Int) (s : State) : State :=
  let t := { s with sessions := s.sessions.filter fun y => y.ident != x.ident }
  let t := { t with waiting := t.waiting.filter fun w => !(w.space == x.ident && w.partly) }
  let t := t.forN 8 fun ch u => if u.getN Obj.boundSession ch = x.ident then unbindChannel ch u else u
  showSessions (if x.opening then t else logEvent 0x1111 srcAp0 (data32 x.ident ++ data8 [cause]) t)

/-- Every session that meets a condition ends. -/
def endSessions (p : Session → Bool) (cause : Int) (s : State) : State :=
  (s.sessions.filter p).foldl (fun u x => endSession x cause u) s

/-- The public key of a role (0xB100). -/
def roleKeyOf (s : State) (role : Nat) : List Byte :=
  if role = 4 then s.bytes Obj.metrologyPublicKey else if role = 5 then s.bytes Obj.timePublicKey
  else if 1 ≤ role ∧ role ≤ 3 then s.bytes Obj.rolePublicKey 0 (role - 1) else []

/-! ### Failed openings -/

/-- Pairs of a sequence register. -/
def pairsOf : List Int → List (Int × Int)
  | a :: b :: t => (a, b) :: pairsOf t
  | _ => []
def flatPairs (l : List (Int × Int)) : List Int := l.flatMap fun x => [x.1, x.2]

/-- Openings from an address are refused (R282). -/
def lockedOut (s : State) (addr : Nat) : Bool :=
  (pairsOf (s.seq Reg.lockedOut)).any fun x => x.1 == (addr : Int) && (s.now : Int) < x.2

/-- An opening from an address fails: the fifth within 60 s locks the address out for 60 s (R282). -/
def failOpening (addr : Nat) (s : State) : State :=
  let recent := (pairsOf (s.seq Reg.failedOpenings)).filter fun x => (s.now : Int) < x.2 + 60 * second
  let l := ((addr : Int), (s.now : Int)) :: recent
  if 5 ≤ (l.filter fun x => x.1 == (addr : Int)).length then
    let t := s.setSeq Reg.failedOpenings (flatPairs (l.filter fun x => x.1 != (addr : Int)))
    let t := t.setSeq Reg.lockedOut (flatPairs (((addr : Int), ((t.now + 60 * second : Nat) : Int)) :: pairsOf (t.seq Reg.lockedOut)))
    logEvent 0xB015 srcKc (data32 addr) t
  else s.setSeq Reg.failedOpenings (flatPairs l)

/-! ### Commands -/

/-- The answer to a datagram of the opening exchange. -/
def answerOpen (space tag epoch fn status : Nat) (d : List Byte) (s : State) : State :=
  emitAnswer ⟨space, tag, epoch, respCode fn, status, d⟩ s

/-- OPEN (R281, R307): step 1 in plain, step 2 and the session identifier in the response. -/
def execOpen (port : Fin 2) (addr tag epoch : Nat) (payload : List Byte) (s : State) : Out :=
  s.run fun s =>
    if s.get Obj.startUpStage < 4 ∧ ¬ imageService s port then s
    else if lockedOut s addr then answerOpen plainSpace tag epoch 5 9 [] s
    else if s.get Obj.randomSourceState ≠ 1 then answerOpen plainSpace tag epoch 5 6 [] s
    else if 16 ≤ s.sessions.length then answerOpen plainSpace tag epoch 5 10 [] s
    else if payload.length ≠ 98 then answerOpen plainSpace tag epoch 5 4 [] s
    else
      let (d, t) := s.random 32
      let (nonce, t) := t.random 32
      let step2 := Config.publicKey 256 d ++ nonce
      let script := payload ++ step2
      let (sig, t) := signWith 384 Config.deviceIdentityKey script t
      let k := kdf (Config.ecdh 256 d ((payload.drop 1).take 65)) (ascii "SWV-FARAR") (Config.sha256 script) 576
      let id := t.getN Reg.nextSession
      let x : Session := ⟨id, (payload.headD 0).toNat, port, addr, true, k.take 32, (k.drop 32).take 32, (k.drop 64).take 4,
        (k.drop 68).take 4, script, 0, 0, t.now, t.now⟩
      let t := { t.set Reg.nextSession ((id + 1 : Nat) % 4294967296) with sessions := t.sessions ++ [x] }
      answerOpen plainSpace tag epoch 5 0 (step2 ++ sig ++ beBytes 4 id) t

/-- CONFIRM (R281, R307): the role signature, encrypted under the derived key; `mac` is the GCM tag of its datagram. -/
def execConfirm (ident seq tag epoch : Nat) (sig mac : List Byte) (s : State) : Out :=
  s.run fun s =>
    match s.sessions.find? fun y => y.ident == ident && y.opening with
      | none => if s.get Obj.startUpStage < 4 then s else s.inc Obj.droppedFramesAndDatagrams
      | some x =>
        if s.get Obj.startUpStage < 4 ∧ ¬ imageService s x.port then s
        else if seq ≤ x.lastIn ∨ ¬ macsGood x 6 tag epoch 0 0 seq sig [mac] then s.authFailed
        else
          let key := roleKeyOf s x.role
          if key ≠ [] ∧ sig.length = 64 ∧ Config.ecdsaVerify 256 key (Config.sha256 x.transcript) sig then
            let y := { x with opening := false, lastIn := seq, traffic := s.now, opened := s.now }
            let t := { s with sessions := s.sessions.map fun z => if z.ident = ident then y else z }
            let t := logEvent 0x1110 srcAp0 (data32 ident ++ data8 [x.role] ++ data32 x.addr) (showSessions t)
            answerOpen ident tag epoch 6 0 [] t
          else
            let t := answerOpen ident tag epoch 6 9 [] s
            failOpening x.addr (endSession x 1 t).authFailed

/-- CLOSE (R307): the session ends after its response. It exists on UDP alone (R304). -/
def execClose (r : Req) (s : State) : Out :=
  s.run fun s =>
    match r.auth with
    | .session id _ _ =>
      match authenticate r 7 0 0 [] s with
      | .accept t space _ _ =>
        let t := t.answer space r 7 0
        match t.sessions.find? fun y => y.ident == id with
        | some x => endSession x 1 t
        | none => t
      | .reply t space st => t.answer space r 7 st
      | .drop t => t
    | .plain _ => if s.get Obj.startUpStage < 4 then s else s.answer plainSpace r 7 9
    | .can .. => if s.get Obj.startUpStage < 4 then s else s.inc Obj.droppedFramesAndDatagrams

/-- 300 s without traffic (R282). -/
def execSessionIdleTimeout (s : State) : Out :=
  s.run (endSessions (fun y => y.traffic + 300 * second ≤ s.now) 2)

/-- 86 400 s, or a sequence at 2^32 (R282). -/
def execSessionLifetimeEnd (s : State) : Out :=
  s.run fun s =>
    let t := endSessions (fun y => 2 ^ 32 ≤ y.lastIn || 2 ^ 32 ≤ y.lastOut) 4 s
    endSessions (fun y => y.opened + 86400 * second ≤ t.now) 3 t

/-- The refusal of openings from an address ends after 60 s (R282). -/
def execOpeningLockoutEnd (s : State) : Out :=
  s.run fun s => s.setSeq Reg.lockedOut (flatPairs ((pairsOf (s.seq Reg.lockedOut)).filter fun x => (s.now : Int) < x.2))

end Sys2Proof.Machine
end

