-- ==== Sys2Proof/Machine/Security.lean ====
section
/-!
DEFINITION. Life-cycle transitions, keys, attestation, the random source and firmware images (Keys, life cycle and signed
records).
-/

namespace Sys2Proof.Machine

/-! ### Life cycle -/

/-- The judgement of a transition (Table 11.2); 0 accepted. A role that the table does not name is refused with 0x03, a
transition that is not in it with 0x06. -/
def transitionStatus (s : State) (dst role : Nat) : Nat :=
  let st := s.get Obj.lifeCycleState
  if s.get Reg.transitionTo ≠ 0 then 10
  else if dst = 2 ∧ st = lcProvision then
    (if role ≠ roleAdmin then 3 else if s.bytes Obj.rolePublicKey 0 1 = [] ∨ s.get Obj.timeQuality = 0 then 6 else 0)
  else if dst = 2 ∧ st = lcService then (if role ≠ roleService ∧ role ≠ roleAdmin then 3 else if anyEnergised s then 6 else 0)
  else if dst = 3 ∧ st = lcField then (if role ≠ roleService then 3 else if anySession s then 6 else 0)
  else if dst = 4 ∧ (st = lcField ∨ st = lcService) then
    (if role ≠ roleAdmin ∧ role ≠ roleService then 3
     else if (List.range 250).any fun c => s.get Obj.ctxState c != cxFree then 6
     else if role = roleService ∧ (s.get Reg.retireAskedAt = 0 ∨ s.getN Reg.retireAskedAt + 60 * second < s.now + 1) then 6
     else 0)
  else 6

/-- A transition starts; the active forwards it to the standby first (R270). -/
def startTransition (dst role : Nat) (s : State) : State :=
  if dst = 4 ∧ role = roleAdmin then s.set Reg.retireAskedAt (s.now + 1)
  else
    let t := (s.set Reg.transitionTo (dst + 1 : Nat)).set Reg.retireAskedAt 0
    if t.is Reg.paired ∧ t.get Obj.role = roActive then
      let u := (t.inc Reg.syncGeneration).emit (.sync (Obj.requestedTransition.key 0 0) dst [])
      if u.get Reg.syncSentAt = 0 then u.set Reg.syncSentAt (u.now + 1) else u
    else t

/-- A write to 0xB000:01: answered when the transition is committed (R269); a first write for RETIRED is answered at once. -/
def requestTransition (r : Req) (dst : Nat) (s : State) : State :=
  let t := hostDefer r Obj.requestedTransition 0 0 [BitVec.ofNat 8 dst] (fun role t =>
    if transitionStatus t dst role ≠ 0 then .error (transitionStatus t dst role) else .ok (startTransition dst role t)) s
  if t.get Reg.transitionTo = 0 then answerWaiting Obj.requestedTransition 0 0 t else t

def execRequestField (r : Req) (s : State) : Out := s.run (requestTransition r 2)
def execRequestService (r : Req) (s : State) : Out := s.run (requestTransition r 3)
def execRequestRetired (r : Req) (s : State) : Out := s.run (requestTransition r 4)

/-- A first write not confirmed within 60 s lapses (R268). -/
def execRetiredConfirmLapse (s : State) : Out :=
  s.run fun s =>
    if s.get Reg.retireAskedAt ≠ 0 ∧ s.getN Reg.retireAskedAt + 60 * second < s.now + 1 then s.set Reg.retireAskedAt 0 else s

/-- The CAN MAC keys wrapped under the role-wrap key in force (R272). -/
def wrapCanKeys (s : State) : State :=
  s.forN 5 fun k u =>
    let v := secretOf u (kCan (k + 1))
    if v = [] then u
    else
      let (w, t) := wrapWith (roleWrapKey u) v u
      t.setBytes Reg.canWrapped w k

/-- The roots that a transition creates or destroys (Table 11.2). -/
def changeRoots (old new : Int) (s : State) : State :=
  if old = lcProvision ∧ new = lcField then
    let (f, t) := s.random 32
    let t := holdSecret kField f t
    let (v, t) := t.random 32
    destroySecret kProvision (holdSecret kService v t)
  else if new = lcRetired then destroySecret kService (destroySecret kField s)
  else s

/-- Steps 2 to 5 of R269. -/
def carryOut (s : State) : State :=
  let old := s.get Obj.lifeCycleState
  let new := s.get Reg.transitionTo - 1
  let t := (changeRoots old new s).set Obj.lifeCycleState new
  let t := rewrapBlobs (if new = lcField ∨ new = lcService then wrapCanKeys t else t)
  let t := (t.set Obj.timeOfLastTransition t.time).set Reg.transitionTo 0
  let t := if new = lcField then publishFieldKey t
    else if new = lcService then t.setBytes Reg.serviceLogPublic (Config.publicKey 256 (serviceLogKey t))
    else t
  let t := submit wrKc jkObject 0x2001 0 (beBytes 1 new ++ beBytes 4 (t.get Reg.blobGeneration)) true t
  refreshAll (logEvent 0xB010 srcKc (data8 [old, new]) t)

/-! ### Waiting work -/

/-- The statement of R279 (Table 11.5), unsigned. -/
def statementBody (s : State) (nonce : List Byte) : List Byte :=
  let k := s.getN Obj.attestationKeySelector
  let kind := s.getN Reg.seccKind
  let alg : Int := if k = 0 ∨ k = 2 then 2 else if k = 3 then (if kind = 2 then 3 else if kind = 3 then 4 else 1) else 1
  let field : Bool := s.get Obj.lifeCycleState == lcField && secretOf s kField != []
  let usable : Bool := k == 0 || (k ≤ 3 && field) || (k == 4 && s.get Obj.lifeCycleState == lcService)
  let flags : Int := 1 + (if k = 3 ∧ kind ≠ 1 then 0 else 2) + (if k = 1 ∨ k = 2 ∨ k = 4 then 4 else 0) + (if usable then 8 else 0)
  let q := if k = 0 then Config.publicKey 384 Config.deviceIdentityKey
    else if k = 1 then s.bytes Obj.fmkPublicP256 else if k = 2 then s.bytes Obj.fmkPublicP384
    else if k = 3 then s.bytes Reg.seccPublic else s.bytes Reg.serviceLogPublic
  let hash (base : Nat) : List Byte := fitBytes 48 (Config.sha384 (Config.imagePart 0 (s.flashRead base 0x1000000)))
  beBytes 2 0x0100 ++ data8 [k, alg, flags, s.get Obj.lifeCycleState, if k = 1 ∨ k = 2 then s.get Obj.fmkVersion else 0, 0] ++
  fitBytes 8 (s.bytes Obj.moduleSerial) ++ fitBytes 32 nonce ++ beBytes 8 s.time ++
  beBytes 4 (s.get Reg.attestationSequence + 1) ++ beBytes 4 0 ++ hash 0 ++ hash 0x1000000 ++
  fitBytes 32 (s.bytes Obj.metrologyImageSHA256) ++ data8 [s.get Obj.imageInUse, 0, 0, 0] ++ fitBytes 133 q ++ [0, 0, 0]

/-- A statement signed with the device identity key. -/
def attest (nonce : List Byte) (s : State) : State :=
  let b := statementBody s nonce
  let (sig, t) := signWith 384 Config.deviceIdentityKey b s
  (t.set Reg.attestationSequence (t.get Reg.attestationSequence + 1)).setBytes Obj.attestationStatement (b ++ sig)

/-- A new SECC key: 1 P-256, 2 P-521, 3 Ed448 (R276). -/
def makeSecc (kind : Nat) (s : State) : State :=
  let (d, t) := s.random (if kind = 1 then 32 else if kind = 2 then 66 else 57)
  let (w, t) := wrapWith (seccWrapKey t) d t
  let (n, t) := t.random 32
  let q := Config.publicKey (if kind = 1 then 256 else if kind = 2 then 521 else 448) d
  let t := ((t.set Reg.seccKind kind).setBytes Reg.seccPublic q).setBytes Reg.seccWrapped w
  writeBlob kSecc (holdSecret kSecc d (t.setBytes Obj.seccCertificateRequest (Config.pkcs10 kind d n)))

/-- The log of an export code: 1 event log, 2 metrology audit, 3 clock audit, 4 theft log, 5 tamper log; oldest first
(R319). -/
def exportEntries (s : State) (code : Nat) : List (List Byte) :=
  if code = 1 then (s.log Reg.eventRing).reverse.map (·.drop 4)
  else if code = 2 then (s.log Reg.auditLog).reverse
  else if code = 3 then (s.log Reg.clockAudit).reverse
  else if code = 4 then s.log Reg.theftLog
  else (s.log Reg.tamperLog).reverse

/-- A log is queued as an item of kind 5, signed in SERVICE (R319). -/
def exportLog (code : Nat) (s : State) : State :=
  let l := exportEntries s code
  let b := beBytes 1 code ++ [0, 0, 0] ++ beBytes 4 l.length ++ l.flatten
  let ch := s.getN Obj.exportPushChannel
  if s.get Obj.lifeCycleState = lcService then
    let (sig, t) := signWith 256 (serviceLogKey s) b s
    queueItem ch 5 (b ++ sig) t
  else queueItem ch 5 b s

/-- The work of KC that waits is done in order, once KC is ready (R269, R278): statements, SECC keys, signed exports,
records. -/
def resumeKc (s : State) : State :=
  if ¬ kcReady s then s
  else
    let t := (s.waiting.filter (waitsFor Obj.attestationNonce 0)).foldl (fun u w => attest ((w.writes.headD ⟨Obj.attestationNonce.key 0 0, 0, [], true⟩).bytes) u) s
    let t := answerWaiting Obj.attestationNonce 0 0 t
    let t := (t.waiting.filter (waitsFor Obj.generateSeccKey 0)).foldl (fun u w =>
      if fieldKeysUsable u then makeSecc (w.writes.headD ⟨Obj.generateSeccKey.key 0 0, 1, [], false⟩).num.toNat u else u) t
    let t := answerWaiting Obj.generateSeccKey 0 (if fieldKeysUsable t then 0 else 6) t
    let t := (t.waiting.filter (waitsFor Obj.exportLog 0)).foldl (fun u w =>
      exportLog (w.writes.headD ⟨Obj.exportLog.key 0 0, 1, [], false⟩).num.toNat u) t
    let t := answerWaiting Obj.exportLog 0 0 t
    t.forN 250 fun c u => sealContext c u

/-- KC completes a transition (R269); `refused` is the status with which the standby refuses it, 0 if it does not (R270).
The roots are generated once the source is healthy. -/
def execTransitionComplete (refused : Nat) (s : State) : Out :=
  s.run fun s =>
    let pairing := s.is Reg.paired && s.get Obj.role == roActive
    if s.get Reg.transitionTo = 0 then s
    else if pairing ∧ refused ≠ 0 then answerWaiting Obj.requestedTransition 0 refused (s.set Reg.transitionTo 0)
    else if s.get Obj.randomSourceState ≠ 1 ∨ (pairing ∧ s.get Reg.syncSentAt ≠ 0) then s
    else resumeKc (answerWaiting Obj.requestedTransition 0 0 (carryOut s))

/-! ### Keys -/

/-- The version of the field metering key changes (R273): event 0xB011. Outside FIELD the key itself is derived at the
return to FIELD. -/
def setFieldKeyVersion (v : Int) (t : State) : Except Nat State :=
  if anySession t then .error 6
  else
    let t := t.set Obj.fmkVersion v
    let t := if fieldKeysUsable t then publishFieldKey t else t
    .ok (logEvent 0xB011 srcKc (data8 [t.get Obj.fmkVersion] ++ data32 (t.get Obj.fmkKeyId 0 0) ++ data32 (t.get Obj.fmkKeyId 0 1)) t)

def execFieldMeteringKeyVersion (r : Req) (data : List Byte) (s : State) : Out :=
  s.run fun s => hostWrite r Obj.fmkVersion 0 0 data (fun _ t => setFieldKeyVersion (ofBytes data) t) s

/-- Every 12 500 frames, not while the source has failed (R274, R278). -/
def execReMask (s : State) : Out :=
  s.run fun s =>
    if s.getN Reg.remaskAt + 12500 ≤ s.frame ∧ kcReady s then (s.forN 10 remask).set Reg.remaskAt s.frame else s

/-- Every 86 400 s (R275). -/
def execBlobRewrap (s : State) : Out :=
  s.run fun s => if s.get Reg.blobsAt + 86400 * second ≤ s.time ∧ kcReady s then rewrapBlobs s else s

/-- The key of a role is installed and its sessions end (R280, R282). HOST_ADMIN writes the METROLOGY key only while none is
installed. -/
def setRoleKey (role by_ : Nat) (key : List Byte) (s : State) : Except Nat State :=
  let put (o : Obj) (j : Nat) (u : State) : State := u.setBytes o key 0 j
  if role = 4 then
    if by_ ≠ roleMetrology ∧ s.bytes Obj.metrologyPublicKey ≠ [] then .error 3
    else auditRoom s fun t =>
      let old := t.bytes Obj.metrologyPublicKey
      .ok (endSessions (fun y => y.role == 4) 5 (auditEntry 1 by_ 0xB100 4 old key (put Obj.metrologyPublicKey 0 t)))
  else .ok (endSessions (fun y => y.role == role) 5 (if role = 5 then put Obj.timePublicKey 0 s else put Obj.rolePublicKey (role - 1) s))

/-- The object and element of a role's entry in 0xB100 and 0xB101. -/
def roleKeyObj (role : Nat) : Obj × Nat :=
  if role = 4 then (Obj.metrologyPublicKey, 0) else if role = 5 then (Obj.timePublicKey, 0) else (Obj.rolePublicKey, role - 1)
def canKeyObj (role : Nat) : Obj × Nat :=
  if role = 4 then (Obj.canMetrologyKey, 0) else if role = 5 then (Obj.canTimeKey, 0) else (Obj.canRoleKey, role - 1)

def execRoleKeyWrite (r : Req) (index : Fin 5) (data : List Byte) (s : State) : Out :=
  s.run fun s =>
    let role := index.val + 1
    let t := hostWrite r (roleKeyObj role).1 0 (roleKeyObj role).2 data (fun by_ t => setRoleKey role by_ data t) s
    if role = 4 then noteFull 0xB100 s t else t

/-- A CAN MAC key is stored wrapped, its counter starts anew (R283, R284). It needs the role-wrap key (R272) and an Ethernet
session. -/
def setCanKey (r : Req) (role by_ : Nat) (key : List Byte) (s : State) : Except Nat State :=
  let store (t : State) : State :=
    let t := holdSecret (kCan role) key t
    let (w, t) := wrapWith (roleWrapKey t) key t
    let t := writeBlob (kCan role) (t.setBytes Reg.canWrapped w (role - 1))
    (t.set Obj.canCounter 0 0 (role - 1)).set Reg.canFloor 0 (role - 1)
  match r.auth with
  | .can .. => .error 3
  | _ =>
    if rootInForce s = [] ∨ ¬ kcReady s then .error 6
    else if role = 4 then auditRoom s fun t => .ok (auditEntry 1 by_ 0xB101 4 [] [] (store t))
    else .ok (store s)

def execCanRoleKeyWrite (r : Req) (index : Fin 5) (data : List Byte) (s : State) : Out :=
  s.run fun s =>
    let role := index.val + 1
    let t := hostWrite r (canKeyObj role).1 0 (canKeyObj role).2 data (fun by_ t => setCanKey r role by_ data t) s
    if role = 4 then noteFull 0xB101 s t else t

/-- A new SECC key (R276): it needs the SECC wrap key of FIELD, and waits for the random source. -/
def generateSecc (r : Req) (kind : Nat) (s : State) : State :=
  resumeKc (hostDefer r Obj.generateSeccKey 0 0 [BitVec.ofNat 8 kind] (fun _ t =>
    if t.get Obj.lifeCycleState ≠ lcField ∨ secretOf t kField = [] then .error 6 else .ok t) s)

def execGenerateSeccKeyP256 (r : Req) (s : State) : Out := s.run (generateSecc r 1)
def execGenerateSeccKeyP521 (r : Req) (s : State) : Out := s.run (generateSecc r 2)
def execGenerateSeccKeyEd448 (r : Req) (s : State) : Out := s.run (generateSecc r 3)

/-- The selected key has existed (R279). -/
def attestable (s : State) : Bool :=
  let k := s.getN Obj.attestationKeySelector
  k == 0 || (k == 1 && s.bytes Obj.fmkPublicP256 != []) || (k == 2 && s.bytes Obj.fmkPublicP384 != []) ||
  (k == 3 && s.get Reg.seccKind != 0) || (k == 4 && s.bytes Reg.serviceLogPublic != [])

def execAttestationNonce (r : Req) (nonce : List Byte) (s : State) : Out :=
  s.run fun s => resumeKc (hostDefer r Obj.attestationNonce 0 0 nonce (fun _ t =>
    if attestable t then .ok t else .error 5) s)

/-! ### The random source -/

/-- A health test fails: 1 repetition count, 2 adaptive proportion (R278). -/
def execHealthTestFailed (test : Fin 3) (s : State) : Out :=
  s.run fun s =>
    if test.val = 0 then s
    else
      let t := logEvent 0xB013 srcKc (data8 [test.val]) (s.inc Obj.healthTestFailures)
      let l := (s.now : Int) :: (t.seq Reg.sourceFails).filter fun x => (t.now : Int) < x + 3600 * second
      let t := (t.setSeq Reg.sourceFails l).set Reg.sourceStartAt t.now
      if t.get Obj.randomSourceState = 2 then t
      else if 3 ≤ l.length then logEvent 0xB014 srcKc [] (t.set Obj.randomSourceState 2)
      else t.set Obj.randomSourceState 0

/-- A start-up test ends: of a source that starts, and every 10 s of one that has failed (R277, R278). What waited goes on
when it passes. -/
def execRandomSourceRestart (passes : Bool) (s : State) : Out :=
  s.run fun s =>
    let st := s.get Obj.randomSourceState
    if st = 1 ∨ (st = 2 ∧ s.now < s.getN Reg.sourceStartAt + 10 * second) then s
    else if passes then resumeKc (s.set Obj.randomSourceState 1)
    else s.set Reg.sourceStartAt s.now

/-! ### Images -/

/-- First address of an image slot, and the slot that is not in use (Table 19.8). -/
def imageBase (slot : Int) : Nat := if slot = 1 then 0x1000000 else 0
def otherSlot (s : State) : Int := 1 - s.get Obj.imageInUse

/-- An image passes: signature under firmware key 0 or metrology key 1, hash, and security version (R285, R286). -/
def imageGood (s : State) (key : Nat) (img : List Byte) : Bool :=
  Config.ecdsaVerify 384 (Config.trarynKey key) (Config.sha384 (Config.imagePart 0 img)) (Config.imagePart 2 img) &&
  Config.imagePart 1 img == Config.sha384 (Config.imagePart 3 img) &&
  s.get Obj.minimumSecurityVersion ≤ (Config.imageNumber 1 img : Int)

/-- A slot selected by KC itself, which commits the choice (R287). -/
def selectSlot (v : Int) (s : State) : State :=
  { s.set Obj.bootSelection v with cfgRegs := storeInsert (Obj.bootSelection.key 0 0) v s.cfgRegs }

/-- Image data written to the slot not in use (R287), not while the flash window is closed (R205). -/
def execImageDataWrite (r : Req) (data : List Byte) (s : State) : Out :=
  s.run fun s => hostWrite r Obj.imageData 0 0 data (fun _ t =>
    let off := t.getN Obj.imageWriteOffset
    if t.get Obj.flashWritesPermitted = 0 then .error 6
    else if 0x1000000 < off + data.length then .error 5
    else .ok (t.flashWrite (imageBase (otherSlot t) + off) data)) s

/-- The image is verified and selected on trial for the next reset (R287); one that does not pass is refused. -/
def execActivateImage (r : Req) (s : State) : Out :=
  s.run fun s => hostWrite r Obj.activateImage 0 0 [1] (fun _ t =>
    if imageGood t 0 (t.flashRead (imageBase (otherSlot t)) 0x1000000) then
      .ok ((((selectSlot (otherSlot t) t).keep Reg.trialSlot (otherSlot t)).keep Obj.trialState 1).keep Reg.trialWdt 0)
    else .error 6) s

/-- The trial ends well after 600 s of running (R287). -/
def execConfirmTrialImage (r : Req) (s : State) : Out :=
  s.run fun s => hostWrite r Obj.confirmTrialImage 0 0 [1] (fun _ t =>
    if t.get Obj.trialState ≠ 1 ∨ t.get Obj.imageInUse ≠ t.get Reg.trialSlot ∨ t.now < 600 * second then .error 6
    else
      let v : Int := Config.imageNumber 1 (t.flashRead (imageBase (t.get Obj.imageInUse)) 0x1000000)
      .ok ((t.keep Obj.trialState 0).keep Obj.minimumSecurityVersion (max (t.get Obj.minimumSecurityVersion) v))) s

/-- A trial fails: the other slot is selected again (R287). -/
def endTrial (s : State) : State := selectSlot (1 - s.get Reg.trialSlot) (s.keep Obj.trialState 2)

/-- Event 0xB017 with the slot and the cause: 1 stage 4 not reached, 2 WDT resets. -/
def rejectTrial (cause : Int) (s : State) : State :=
  if s.get Obj.trialState ≠ 1 then s else logEvent 0xB017 srcKc (data8 [s.get Reg.trialSlot, cause]) (endTrial s)

end Sys2Proof.Machine
end

