-- ==== Sys2Proof/Machine/Commit.lean ====
section
/-!
DEFINITION. Committing and discarding configuration (R293 to R295).
-/

namespace Sys2Proof.Machine

/-- The cells that a commit accepted now covers: the uncommitted ones, and those that writes accepted earlier have still to
change. -/
def commitCells (s : State) : List Key :=
  let later := (s.waiting.filter fun w => !w.partly).flatMap fun w => (w.writes.filter fun f =>
    match objById f.key.o with
    | some o => (o.cls == .per || o.cls == .seal) && !o.own && o.right != .wo && o.right != .sealWo
    | none => false).map (·.key)
  s.dirty ++ (later.filter fun k => !s.dirty.contains k).eraseDups

/-- The write that determines a cell among those accepted earlier. -/
def lastWrite (s : State) (k : Key) : Option FieldWrite :=
  ((s.waiting.filter fun w => !w.partly).flatMap fun w => w.writes.filter fun f => f.key == k).getLast?

/-- The values a commit writes are fixed when it is accepted: those in effect once every earlier write is. -/
def stageCommit (s : State) : State :=
  let cells := commitCells s
  let t := cells.foldl (fun u k =>
    match objById k.o with
    | none => u
    | some o =>
      if o.ty.isBytes then
        let v := match lastWrite s k with | some f => f.bytes | none => s.bytes o k.i k.j
        u.setLog Reg.commitBytes ((beBytes 4 k.o ++ beBytes 4 k.i ++ beBytes 4 k.j ++ v) :: u.log Reg.commitBytes)
      else
        let v := match lastWrite s k with | some f => f.num | none => s.toCommit o k.i k.j
        u.setSeq Reg.commitNums ((k.o : Int) :: (k.i : Int) :: (k.j : Int) :: v :: u.seq Reg.commitNums))
    ((s.setSeq Reg.commitNums []).setLog Reg.commitBytes [])
  { t with committing := cells, dirty := [] }

/-- The status with which a write to 0x1010:01 is refused (R295); 0 accepted. -/
def commitStatus (s : State) : Nat :=
  if s.get Reg.commitRunning ≠ 0 then 10
  else if s.get Obj.flashWritesPermitted = 0 ∨ dipOpen s then 6 else 0

def execCommitConfiguration (r : Req) (s : State) : Out :=
  s.run fun s => hostDefer r Obj.commitCommand 0 0 [1] (fun _ t =>
    if commitStatus t ≠ 0 then .error (commitStatus t)
    else .ok ((stageCommit t).set Reg.commitRunning 1 |>.set Reg.commitAt t.now)) s

/-- Quadruples of a sequence register. -/
def quadsOf : List Int → List (Key × Int)
  | a :: b :: c :: d :: t => (⟨a.toNat, b.toNat, c.toNat⟩, d) :: quadsOf t
  | _ => []

/-- The cell and value of a staged byte value. -/
def stagedBytes (e : List Byte) : Key × List Byte :=
  (⟨ofBytes (e.take 4), ofBytes ((e.drop 4).take 4), ofBytes ((e.drop 8).take 4)⟩, e.drop 12)

/-- The committed value of a numeric cell. -/
def committedNum (s : State) (k : Key) : Int :=
  match storeFind s.cfgRegs k, objById k.o with
  | some v, _ => v
  | none, some o => o.dflt k.i k.j
  | none, none => 0

/-- The committed value of a byte cell. -/
def committedBytes (s : State) (k : Key) : List Byte :=
  match storeFind s.cfgOcts k, objById k.o with
  | some v, _ => v
  | none, some o => o.obytes
  | none, none => []

/-- The new generation is verified and marked valid (R293): event 0x1010 with the count and the objects changed. -/
def execCommitComplete (s : State) : Out :=
  s.run fun s =>
    if s.get Reg.commitRunning ≠ 1 ∨ ¬ (beforeCommit s).isEmpty then s
    else
      let nums := quadsOf (s.seq Reg.commitNums)
      let octs := (s.log Reg.commitBytes).map stagedBytes
      let changed := (nums.filter fun x => committedNum s x.1 != x.2).length + (octs.filter fun x => committedBytes s x.1 != x.2).length
      let t := { s with cfgOld := ⟨s.cfgRegs, s.cfgOcts, [], []⟩ }
      let t := { t with cfgRegs := nums.foldl (fun (m : Store Int) (x : Key × Int) => storeInsert x.1 x.2 m) s.cfgRegs }
      let t := { t with cfgOcts := octs.foldl (fun (m : Store (List Byte)) (x : Key × List Byte) => storeInsert x.1 x.2 m) t.cfgOcts }
      let t := undirty [] { t with committing := [] }
      let t := ((t.setSeq Reg.commitNums []).setLog Reg.commitBytes []).set Reg.commitRunning 0
      let t := (t.inc Obj.commitCount).set Obj.timeOfLastCommit t.time
      let t := logEvent 0x1010 srcAp1 (data32 (t.get Obj.commitCount) ++ data32 changed) t
      let t := if t.is Reg.paired then t.emit (.sync (Obj.commitCommand.key 0 0) 1 []) else t
      answerWaiting Obj.commitCommand 0 0 t

end Sys2Proof.Machine
end

