-- ==== Sys2Proof/Machine/Push.lean ====
section
/-!
DEFINITION. Push channels: windows, datagrams, acknowledgement and resends (R311 to R315), and log export (R319).
-/

namespace Sys2Proof.Machine

/-! ### Windows -/

/-- Size and number of the oldest posted window; 0 when there is none. -/
def windowNumber (s : State) (ch : Nat) : Int := (s.seq Reg.pushWindows ch).headD 0
def windowSize (s : State) (ch : Nat) : Nat := ((s.seq Reg.pushWindows ch).getD 1 0).toNat

/-- Kind and bank of a capture item. -/
def isCapture (item : List Byte) : Bool := item.take 1 == beBytes 1 1
def bankOfItem (item : List Byte) : Nat := ofBytes ((item.drop 11).take 1)

/-- An item with all its bytes: a capture item carries its bank after the descriptor (Table 12.10). -/
def wholeItem (s : State) (item : List Byte) : List Byte :=
  if isCapture item then item ++ s.poolRead (bankOfItem item * 0x40000) 0x40000 else item

/-- What an acknowledged item held is freed (Table 12.10): the number of the last event acknowledged is kept, a capture is
no longer pushing. -/
def acknowledged (item : List Byte) (s : State) : State :=
  if item.take 1 = beBytes 1 4 then s.set Obj.lastEventAcknowledged (ofBytes ((item.drop 1).take 4))
  else if isCapture item ∧ s.getN Reg.captureIn = bankOfItem item ∧ s.get Obj.captureState = 2 then s.set Obj.captureState 0
  else s

/-- Items up to a sequence are acknowledged. -/
def acknowledge (ch : Nat) (seq : Int) (s : State) : State :=
  let n := (seq + 1 - s.get Reg.pushFirst ch).toNat
  if n = 0 then s
  else
    let t := ((s.log Reg.pushQueue ch).take n).foldl (fun u e => acknowledged e u) s
    let t := t.setLog Reg.pushQueue ((s.log Reg.pushQueue ch).drop n) ch
    let t := (t.set Reg.pushFirst (s.get Reg.pushFirst ch + n) ch).set Reg.pushNext (s.getN Reg.pushNext ch - n : Nat) ch
    let t := (t.setSeq Reg.pushAckDue ((s.seq Reg.pushAckDue ch).drop n) ch).set Obj.lastItemAcknowledged seq ch
    t.set Obj.itemsQueued (t.log Reg.pushQueue ch).length ch

/-- The judgement of a window post (R311). -/
def postStatus (s : State) (ch role space : Nat) (d : List Byte) : Nat :=
  let num : Int := ofBytes (d.take 4)
  let size := ofBytes ((d.drop 4).take 4)
  let ack : Int := ofBytes (d.drop 8)
  if ¬ inMask (s.getN Obj.rolesAllowed ch) role then 3
  else if s.getN Obj.boundSession ch ≠ 0 ∧ s.getN Obj.boundSession ch ≠ space then 6
  else if d.length ≠ 12 then 4
  else if num ≠ s.get Reg.pushLastWindow ch + 1 ∨ size < 1024 ∨ 65536 < size ∨ size % 1024 ≠ 0 ∨
      s.get Obj.lastItemSequenceSent ch < ack ∨ 4 ≤ s.get Obj.windowsPosted ch then 5
  else 0

/-- A window is posted, and the channel bound by the first (R311): what was pushed before and not acknowledged counts as pushed
again (R313). -/
def postWindow (ch space : Nat) (d : List Byte) (s : State) : State :=
  let t := acknowledge ch (ofBytes (d.drop 8)) (s.set Obj.boundSession space ch)
  let again := s.get Obj.boundSession ch = 0 ∧ t.get Reg.pushFirst ch ≤ t.get Obj.lastItemSequenceSent ch
  let t := if again then t.inc Obj.resends ch else t
  let t := t.setSeq Reg.pushWindows (t.seq Reg.pushWindows ch ++ [(ofBytes (d.take 4) : Int), (ofBytes ((d.drop 4).take 4) : Int)]) ch
  let t := (t.set Obj.windowsPosted (t.get Obj.windowsPosted ch + 1) ch).set Reg.pushLastWindow (ofBytes (d.take 4)) ch
  t.set Reg.pushIdleSince 0 ch

/-- WINDOW_POST: index 0x1200 + c, in a session (R305, R311). -/
def execWindowPost (r : Req) (channel : Fin 8) (data : List Byte) (s : State) : Out :=
  s.run fun s =>
    match r.auth with
    | .session .. =>
      match judgeRequest r 8 (0x1200 + channel.val) 0 data s with
      | .drop t => t
      | .reply t space st => t.answer space r 8 st
      | .accept t space role _ =>
        let st := postStatus t channel role space data
        if st ≠ 0 then t.answer space r 8 st else (postWindow channel space data t).answer space r 8 0
    | .plain _ => if s.get Obj.startUpStage < 4 then s else s.answer plainSpace r 8 9
    | .can .. => if s.get Obj.startUpStage < 4 then s else s.inc Obj.droppedFramesAndDatagrams

/-! ### Datagrams -/

/-- The next item to be sent; dropped items, which have no bytes, are passed over and noted as lost. -/
def skipDropped : Nat → Nat → State → State
  | 0, _, s => s
  | n + 1, ch, s =>
    if (s.log Reg.pushQueue ch)[s.getN Reg.pushNext ch]? = some [] then
      skipDropped n ch (((s.set Reg.pushNext (s.get Reg.pushNext ch + 1) ch).set Reg.pushLost 1 ch).set Reg.pushEndsOpen
        (s.get Reg.pushEndsOpen ch + 1) ch)
    else s

/-- A datagram: UDP header, push header, data (Table 12.5, Table 12.9). -/
def pushDatagram (s : State) (ch : Nat) (last : Bool) (flags kind offset : Int) (d : List Byte) : List Byte :=
  udpHeader 9 ch 0 (0x1200 + ch) 0 (s.getN Reg.pushSegment ch) last (16 + d.length) ++
  beBytes 4 (windowNumber s ch) ++ beBytes 4 (s.get Reg.pushFirst ch + s.get Reg.pushNext ch) ++ beBytes 4 offset ++
  beBytes 1 flags ++ beBytes 1 kind ++ beBytes 2 d.length ++ d

/-- A window ends: the items that ended in it wait for their acknowledgement from now (R312, R313). -/
def endWindow (ch : Nat) (s : State) : State :=
  let due := s.seq Reg.pushAckDue ch ++ List.replicate (s.getN Reg.pushEndsOpen ch) ((s.now : Int) + 1)
  let t := ((s.setSeq Reg.pushAckDue due ch).set Reg.pushEndsOpen 0 ch).setSeq Reg.pushWindows ((s.seq Reg.pushWindows ch).drop 2) ch
  let t := ((t.set Obj.windowsPosted (t.get Obj.windowsPosted ch - 1) ch).set Reg.pushFilled 0 ch).set Reg.pushWindowAt 0 ch
  let t := t.set Reg.pushSegment 0 ch
  if t.get Obj.windowsPosted ch = 0 ∧ ¬ (t.log Reg.pushQueue ch).isEmpty then t.set Reg.pushIdleSince (t.now + 1) ch else t

/-- The window has room for no further data. -/
def windowFull (s : State) (ch : Nat) : Bool := windowSize s ch ≤ s.getN Reg.pushFilled ch + 16 || 64 ≤ s.getN Reg.pushSegment ch

/-- One datagram of the item in progress (R312). -/
def sendPush (ch : Nat) (s : State) : State :=
  let s := skipDropped (s.log Reg.pushQueue ch).length ch s
  match (s.log Reg.pushQueue ch)[s.getN Reg.pushNext ch]? with
  | none => s
  | some queued =>
    let item := wholeItem s queued
    let off := s.getN Reg.pushOffset ch
    let n := min 1008 (windowSize s ch - s.getN Reg.pushFilled ch - 16)
    let d := ((item.drop 1).drop off).take n
    let ends := item.length ≤ 1 + off + d.length
    let flags : Int := (if off = 0 then 1 else 0) + (if ends then 2 else 0) + (if off = 0 ∧ s.is Reg.pushLost ch then 4 else 0)
    let full := s.getN Reg.pushFilled ch + 16 + d.length
    let t := if s.get Reg.pushWindowAt ch = 0 then s.set Reg.pushWindowAt (s.now + 1) ch else s
    let last := windowSize t ch ≤ full + 16 || 63 ≤ t.getN Reg.pushSegment ch
    let t := t.emit (.push ch (pushDatagram t ch last flags (ofBytes (item.take 1)) off d))
    let t := if off = 0 then t.set Reg.pushLost 0 ch else t
    let seq := t.get Reg.pushFirst ch + t.get Reg.pushNext ch
    let t := t.set Obj.lastItemSequenceSent (max seq (t.get Obj.lastItemSequenceSent ch)) ch
    let t := (t.set Reg.pushFilled full ch).set Reg.pushSegment (t.get Reg.pushSegment ch + 1) ch
    let t := if ends then ((t.set Reg.pushOffset 0 ch).set Reg.pushNext (t.get Reg.pushNext ch + 1) ch).set Reg.pushEndsOpen
        (t.get Reg.pushEndsOpen ch + 1) ch
      else t.set Reg.pushOffset (off + d.length) ch
    if windowFull t ch then endWindow ch t else t

/-- The module fills the oldest posted window. -/
def execPushData (channel : Fin 8) (s : State) : Out :=
  s.run fun s => if 0 < s.get Obj.windowsPosted channel then sendPush channel s else s

/-- Nothing further is ready. -/
def nothingReady (s : State) (ch : Nat) : Bool := (s.log Reg.pushQueue ch).length ≤ s.getN Reg.pushNext ch

/-- An open window ends with an empty datagram that carries Last. -/
def closeWindow (ch : Nat) (s : State) : State := endWindow ch (s.emit (.push ch (pushDatagram s ch true 0 0 0 [])))

/-- The flush time has passed since the first byte of the window and nothing further is ready (R312). -/
def execWindowFlush (channel : Fin 8) (s : State) : Out :=
  s.run fun s =>
    let ch := channel.val
    if s.get Reg.pushWindowAt ch ≠ 0 ∧ nothingReady s ch ∧
        s.getN Reg.pushWindowAt ch + s.getN Obj.flushTime ch * millisecond ≤ s.now + 1 then closeWindow ch s
    else s

/-- The channel sends again from the first unacknowledged item, in the next window (R313). -/
def resendFrom (ch : Nat) (s : State) : State :=
  let t := if s.get Reg.pushWindowAt ch ≠ 0 then closeWindow ch s else s
  ((((t.set Reg.pushNext 0 ch).set Reg.pushOffset 0 ch).setSeq Reg.pushAckDue [] ch).set Reg.pushEndsOpen 0 ch).inc Obj.resends ch

/-- 10 s without acknowledgement (R313). -/
def execPushResend (channel : Fin 8) (s : State) : Out :=
  s.run fun s =>
    match (s.seq Reg.pushAckDue channel).head? with
    | some at_ => if at_ + 10 * second ≤ s.now + 1 then resendFrom channel s else s
    | none => s

/-- 60 s with items and no window: event 0x1211 once per episode (R313). -/
def execPushNoWindow (channel : Fin 8) (s : State) : Out :=
  s.run fun s =>
    let ch := channel.val
    if 0 < s.get Reg.pushIdleSince ch ∧ s.getN Reg.pushIdleSince ch + 60 * second ≤ s.now + 1 then
      logEvent 0x1211 srcAp1 (data8 [ch] ++ data32 (s.get Obj.itemsQueued ch)) (s.set Reg.pushIdleSince (-1) ch)
    else s

/-! ### Export -/

/-- A log is exported (R319): 0x0A while an export on the same channel is in progress; signed in SERVICE, when KC is ready. -/
def execExportLog (r : Req) (data : List Byte) (s : State) : Out :=
  s.run fun s =>
    let t := hostDefer r Obj.exportLog 0 0 data (fun _ t =>
      if ((t.log Reg.pushQueue (t.getN Obj.exportPushChannel)).any fun e => e.take 1 == beBytes 1 5) ∨
          (t.waiting.any (waitsFor Obj.exportLog 0)) then .error 10
      else .ok t) s
    if kcReady t then resumeKc t
    else if t.get Obj.lifeCycleState = lcService then t
    else
      let u := (t.waiting.filter (waitsFor Obj.exportLog 0)).foldl (fun u w =>
        exportLog (w.writes.headD ⟨Obj.exportLog.key 0 0, 1, [], false⟩).num.toNat u) t
      answerWaiting Obj.exportLog 0 0 u

end Sys2Proof.Machine
end

