-- ==== Sys2Proof/Machine/Can.lean ====
section
/-!
DEFINITION. The CAN FD controllers: message objects, deadlines, time-triggered operation, fault confinement (CAN FD
controllers). Message object `m` of controller `k` is instance 128 k + m.
-/

namespace Sys2Proof.Machine

/-! ### Controllers and objects -/

/-- Controller of a message object, and its objects. -/
def busOf (m : Nat) : Nat := m / 128
def objectsOf (k : Nat) : List Nat := (List.range 128).map (· + 128 * k)

/-- States of a controller (0x1480:07). -/
def csOff : Int := 0
def csActive : Int := 1
def csHoldoff : Int := 4
def csRecovering : Int := 5
def csFault : Int := 6
def csMonitor : Int := 7

/-- The controller takes part on its bus, and may send. -/
def canListens (s : State) (k : Nat) : Bool := (1 ≤ s.get Obj.controllerState k && s.get Obj.controllerState k ≤ 3) || s.get Obj.controllerState k == csMonitor
def canSends (s : State) (k : Nat) : Bool := 1 ≤ s.get Obj.controllerState k && s.get Obj.controllerState k ≤ 3

/-- Objects that the firmware configures on CAN2 and CAN3: two for each declared IMD or coolant unit (Table 13.1). -/
def auxObjects (s : State) (k : Nat) : Nat :=
  ((List.range 24).map fun n => if outletDeclared s n then
    (if s.getN Obj.imdBus n = k then 2 else 0) + (if s.getN Obj.coolantBus n = k then 2 else 0) else 0).sum

/-- A message object is module-owned (Table 13.1). -/
def moOwned (s : State) (m : Nat) : Bool :=
  let k := busOf m
  (k == 0 && m % 128 < 8) || k == 1 || (2 ≤ k && 128 ≤ m % 128 + auxObjects s k)

/-- Flags of an object. -/
def moFlag (s : State) (m b : Nat) : Bool := s.bit Obj.moFlags b m

/-- The object has a frame pending. -/
def moPending (s : State) (m : Nat) : Bool := !(s.log Reg.moFrames m).isEmpty

/-! ### Sending -/

/-- The order in which the bus arbitrates two identifiers: by the 11 base bits, base before extended, then the rest. -/
def arbKey (s : State) (m : Nat) : Nat :=
  let id := s.getN Obj.moId m
  if moFlag s m 0 then (id / 2 ^ 18 % 2048) * 2 ^ 20 + 2 ^ 19 + id % 2 ^ 18 else (id % 2048) * 2 ^ 20

/-- The object whose frame goes next: lowest arbitration key, then lowest number (R329). -/
def nextToSend (s : State) (l : List Nat) : Option Nat :=
  l.foldl (fun b m => if ¬ moPending s m then b else match b with
    | none => some m
    | some x => if arbKey s m < arbKey s x then some m else b) none

/-- The type of the matrix cell of the window in progress, and its object (Table 13.3). -/
def cellOf (s : State) (k c w : Nat) : Nat × Nat :=
  let v := ofBytes (((s.bytes Obj.scheduleMatrix k).drop (2 * (32 * c + w))).take 2)
  (v / 2 ^ 14, v % 128)
def cellNow (s : State) (k : Nat) : Nat × Nat := cellOf s k (s.getN Obj.cycleCount k) (s.getN Reg.ttWindow k)

/-- The objects that may send now: all in event-driven operation, those with flag [5] in an arbitrating window (R334). -/
def maySendNow (s : State) (k : Nat) : List Nat :=
  if s.get Obj.operation k = 0 then objectsOf k
  else if s.get Reg.ttWindow k ≠ 0 ∧ (cellNow s k).1 = 2 then (objectsOf k).filter fun m => moFlag s m 5
  else []

/-- An idle bus takes the next frame. -/
def startCan (k : Nat) (s : State) : State :=
  if canSends s k ∧ s.get Reg.canOnBus k = 0 then
    match nextToSend s (maySendNow s k) with
    | some m => s.set Reg.canOnBus (m + 1) k
    | none => s
  else s

/-- A frame is queued with data; while one is pending it takes the place of the next one (R329). -/
def queueFrameOf (m : Nat) (d : List Byte) (s : State) : State :=
  let t := s.setLog Reg.moFrames ((s.log Reg.moFrames m).take 1 ++ [d]) m
  startCan (busOf m) (t.setBit Obj.moStatus 0 true m)

/-- The pending frame of an object has completed or is aborted: a deferred change takes effect, then its next frame is
pending (R330). -/
def frameDone (m : Nat) (s : State) : State :=
  let t := s.setLog Reg.moFrames ((s.log Reg.moFrames m).drop 1) m
  let t := atBoundary (.frameDone m) (t.setBit Obj.moStatus 1 false m)
  let t := if t.get Obj.moUse m = 2 then t else t.setLog Reg.moFrames [] m
  let t := (t.setBit Obj.moStatus 0 (moPending t m) m).set Obj.moPendingId (t.get Obj.moId m) m
  if t.is Reg.moAbortDue m then answerWaiting Obj.moAbort m 0 (t.set Reg.moAbortDue 0 m) else t

/-- The bus is idle: entry into time-triggered operation that waited for it (R333, R334). -/
def canIdle (k : Nat) (s : State) : State :=
  if s.is Reg.ttEnterDue k ∧ canSends s k then
    let t := (((s.set Reg.ttEnterDue 0 k).set Obj.operation 1 k).set Obj.cycleCount 0 k).set Reg.ttWindow 0 k
    let t := (t.emit (.can k (t.is Obj.refFormat k) (t.getN Obj.refId k) [0])).inc Obj.framesSent k
    let t := logEvent 0x1415 srcAp1 (data8 [k, t.get Reg.ttCause k, t.get Reg.ttObject k]) t
    answerWaiting Obj.timeTriggeredCommand k 0 t
  else startCan k s

/-- The bytes of the frame an object sends: its data in the object's length. -/
def frameBytes (s : State) (m : Nat) : List Byte := fitBytes (s.getN Obj.moLength m) ((s.log Reg.moFrames m).headD [])

/-- A frame completes (R329, R330); the transmit error counter falls by 1 (ISO 11898-1). -/
def execCanFrameSent (bus : Fin 4) (s : State) : Out :=
  s.run fun s =>
    let k := bus.val
    match s.getN Reg.canOnBus k with
    | 0 => s
    | m + 1 =>
      let t := (s.emit (.can k (moFlag s m 0) (s.getN Obj.moId m) (frameBytes s m))).inc Obj.framesSent k
      let tec := max 0 (t.get Reg.canTec k - 1)
      let t := (t.set Reg.canTec tec k).set Obj.transmitErrors tec k
      canIdle k (frameDone m ((t.set Obj.moTime t.time m).set Reg.canOnBus 0 k))

/-- A write of data to an object (R329). A module-owned object refuses it (R320). -/
def writeMoData (m : Nat) (d : List Byte) (s : State) : Except Nat State :=
  if moOwned s m then .error 3
  else
    let t := s.setBytes Obj.moData d m
    .ok (if t.get Obj.moUse m = 2 then queueFrameOf m d t else t)

def execCanDataWrite (r : Req) (mo : Fin 512) (data : List Byte) (s : State) : Out :=
  s.run fun s => hostWrite r Obj.moData mo 0 data (fun _ t => writeMoData mo data t) s

/-- A send period elapses (R329). -/
def execCanSendPeriod (mo : Fin 512) (s : State) : Out :=
  s.run fun s =>
    let m := mo.val
    let p := s.getN Obj.moPeriod m * millisecond
    if s.get Obj.moUse m = 2 ∧ p ≠ 0 ∧ s.getN Reg.moPeriodAt m + p ≤ s.now then
      queueFrameOf m (s.bytes Obj.moData m) (s.set Reg.moPeriodAt (s.getN Reg.moPeriodAt m + p : Nat) m)
    else s

/-- An abort (R330): one of a frame in arbitration or transmission waits for that attempt to end. -/
def abortMo (m : Nat) (s : State) : Except Nat State :=
  if moOwned s m then .error 3
  else if s.getN Reg.canOnBus (busOf m) = m + 1 then .ok (s.set Reg.moAbortDue 1 m)
  else .ok (if moPending s m then frameDone m s else s)

def execCanAbort (r : Req) (mo : Fin 512) (s : State) : Out :=
  s.run fun s =>
    let t := hostDefer r Obj.moAbort mo 0 [1] (fun _ t => abortMo mo t) s
    if t.is Reg.moAbortDue mo then t else answerWaiting Obj.moAbort mo 0 t

/-! ### Changes to objects -/

/-- The fields of an object that a change would leave: use, identifier, flags, mask, length, next. -/
structure MoFields where
  use : Int
  ident : Int
  flags : Int
  mask : Int
  length : Int
  next : Int
deriving DecidableEq, Repr

/-- The chain that begins at an object, at most `n` long. -/
def chainFrom (s : State) : Nat → Nat → List Nat
  | 0, _ => []
  | n + 1, m =>
    let x := s.getN Obj.moFifoNext m
    if x = 255 then [m] else m :: chainFrom s n (128 * busOf m + x)

/-- The rules that relate the fields of an object (R322, R328, Table 13.5); 0 when they hold. -/
def moStatusOf (s : State) (m : Nat) (f : MoFields) : Nat :=
  let fl := f.flags.toNat
  let nextMo := 128 * busOf m + f.next.toNat
  if moOwned s m then 3
  else if (if fl.testBit 0 then 0x1FFFFFFF else 0x7FF) < f.ident then 5
  else if 0x1FFFFFFF < f.mask then 5
  else if 8 < f.length ∧ ¬ fl.testBit 1 then 5
  else if fl.testBit 1 ∧ s.get Obj.dataRateCode (busOf m) = 0 then 5
  else if f.next ≠ 255 ∧ (s.get Obj.moUse nextMo = 2 ∨ nextMo = m ∨ (chainFrom s 128 nextMo).contains m) then 5
  else 0

/-- The fields as they stand. -/
def moFieldsOf (s : State) (m : Nat) : MoFields :=
  ⟨s.get Obj.moUse m, s.get Obj.moId m, s.get Obj.moFlags m, s.get Obj.moMask m, s.get Obj.moLength m, s.get Obj.moFifoNext m⟩

/-- The fields with a list of writes applied. -/
def moFieldsWith (s : State) (m : Nat) (l : List FieldWrite) : MoFields :=
  l.foldl (fun f w =>
    if w.key.o = Obj.moUse.id then { f with use := w.num } else if w.key.o = Obj.moId.id then { f with ident := w.num }
    else if w.key.o = Obj.moFlags.id then { f with flags := w.num } else if w.key.o = Obj.moMask.id then { f with mask := w.num }
    else if w.key.o = Obj.moLength.id then { f with length := w.num }
    else if w.key.o = Obj.moFifoNext.id then { f with next := w.num } else f) (moFieldsOf s m)

/-- The boundary of a change to an object: that of its pending frame for a send object (R330). -/
def moBoundary (s : State) (m : Nat) : Boundary :=
  if s.get Obj.moUse m = 2 ∧ moPending s m then .frameDone m else .atOnce

/-- A deferred change shows in the status and in the pending identifier (R330). -/
def markDeferred (m : Nat) (l : List FieldWrite) (s : State) : State :=
  if moBoundary s m = .atOnce then s
  else (s.setBit Obj.moStatus 1 true m).set Obj.moPendingId (moFieldsWith s m l).ident m

/-- The field of a change: 0 identifier, 1 flags, 2 mask, 3 data length. -/
def moFieldObj (k : Nat) : Obj := [Obj.moId, Obj.moFlags, Obj.moMask, Obj.moLength].getD k Obj.moId

/-- A write of a field of an object, deferred while its frame is pending (R330, R331). -/
def execCanObjectChange (r : Req) (mo : Fin 512) (field : Fin 4) (data : List Byte) (s : State) : Out :=
  s.run fun s =>
    let m := mo.val
    let o := moFieldObj field
    if r.complete = false then beginPartly r 2 s else
    match judgeRequest r 2 (o.index m) o.sub data s with
    | .drop t => t
    | .reply t space st => t.answer space r 2 st
    | .accept t space role plain =>
      let l : List FieldWrite := [⟨o.key m 0, o.ty.decode data, [], false⟩]
      if plain then t.answer space r 2 9
      else if writeStatus t o m role data ≠ 0 then t.answer space r 2 (writeStatus t o m role data)
      else if roleForbids t (o.index m) then t.answer space r 2 6
      else if moStatusOf t m (moFieldsWith t m l) ≠ 0 then t.answer space r 2 (moStatusOf t m (moFieldsWith t m l))
      else
        let b := moBoundary t m
        let u := acceptWrite space role r false b l (markDeferred m l t)
        if b = .atOnce then u.set Obj.moPendingId (u.get Obj.moId m) m else u

/-! ### Receiving -/

/-- An object is named as the next of another: it is no head. -/
def isMember (s : State) (m : Nat) : Bool := (objectsOf (busOf m)).any fun x => s.getN Obj.moFifoNext x == m % 128

/-- The filter of a receive object (R326). -/
def filterTakes (s : State) (m : Nat) (ext fd : Bool) (ident : Nat) : Bool :=
  let mask := s.getN Obj.moMask m &&& (if ext then 0x1FFFFFFF else 0x7FF)
  s.get Obj.moUse m == 1 && !isMember s m && moFlag s m 0 == ext && (moFlag s m 1 || !fd) &&
  (ident &&& mask) == (s.getN Obj.moId m &&& mask)

/-- The object that takes a frame (R327). -/
def takerOf (s : State) (k : Nat) (ext fd : Bool) (ident : Nat) : Option Nat :=
  let l := (objectsOf k).filter fun m => filterTakes s m ext fd ident
  match l.find? fun m => !moFlag s m 4 with
  | some m => some m
  | none => l.head?

/-- A frame stored in an object. -/
def storeFrame (m : Nat) (d : List Byte) (s : State) : State :=
  ((s.setBytes Obj.moData d m).setBit Obj.moStatus 2 true m).set Obj.moTime s.time m

/-- A taken frame ends the run of misses of its object (R332). -/
def frameTaken (m : Nat) (s : State) : State :=
  let t := ((s.setBit Obj.moStatus 4 false m).set Reg.moRun 0 m).set Reg.moWatchAt s.now m
  let k := busOf m
  if t.get Obj.operation k = 1 ∧ cellNow t k = (1, m % 128) then t.set Reg.ttTaken 1 k else t

/-- A frame is taken by the object or chain (R327, R328). -/
def takeCanFrame (m : Nat) (d : List Byte) (s : State) : State :=
  if s.get Obj.moFifoNext m = 255 then
    let t := if s.bit Obj.moStatus 2 m then (s.setBit Obj.moStatus 3 true m).inc Obj.moOverruns m else s
    frameTaken m (storeFrame m d t)
  else
    let l := chainFrom s 128 m
    let p := if s.get Reg.moLastFilled m = 255 then 0 else (s.getN Reg.moLastFilled m + 1) % l.length
    let x := l.getD p m
    if s.bit Obj.moStatus 2 x then (s.setBit Obj.moStatus 3 true m).inc Obj.moOverruns m
    else frameTaken m ((storeFrame x d s).set Reg.moLastFilled p m)

/-- The partner's heartbeat on CAN1 (R406). -/
def isHeartbeat (s : State) (k : Nat) (ext fd : Bool) (ident : Nat) (data : List Byte) : Bool :=
  k == 1 && !ext && !fd && data.length == 8 && 0x701 ≤ ident && ident ≤ 0x73F && (ident : Int) != 0x700 + s.get Obj.ownNodeAddress

/-- A received frame, judged at the end of its EOF (R321, R327). The receive error counter falls by 1; one above 127
returns to a value from 119 to 127. -/
def execCanFrameReceived (bus : Fin 4) (ext fd remote : Bool) (ident : Nat) (data : List Byte) (s : State) : Out :=
  s.run fun s =>
    let k := bus.val
    if ¬ canListens s k then s
    else if remote then s.inc Obj.remoteFramesIgnored k
    else
      let t := s.inc Obj.framesReceived k
      let rx := t.get Obj.receiveErrors k
      let t := if t.get Obj.controllerState k = csMonitor then t
        else if rx ≤ 127 then t.set Obj.receiveErrors (max 0 (rx - 1)) k
        else
          let (f, u) := t.draw 131
          u.set Obj.receiveErrors (119 + f % 9) k
      if isHeartbeat t k ext fd ident data then t.set Reg.partnerHeartbeat (data.headD 0).toNat
      else match takerOf t k ext fd ident with
        | some m => takeCanFrame m data t
        | none => t.inc Obj.unmatchedFramesDropped k

/-- The place in a chain of its oldest unread frame, in the order of filling. -/
def oldestUnread (s : State) (m : Nat) : Option (Nat × Nat) :=
  let l := chainFrom s 128 m
  let p := if s.get Reg.moLastRead m = 255 then 0 else (s.getN Reg.moLastRead m + 1) % l.length
  (List.range l.length).findSome? fun k =>
    let q := (p + k) % l.length
    if s.bit Obj.moStatus 2 (l.getD q m) then some (q, l.getD q m) else none

/-- A read of an object's data (R328): the oldest unread frame of a chain, which it marks read. -/
def readMoData (m : Nat) (s : State) : List Byte × State :=
  if s.get Obj.moUse m ≠ 1 ∨ s.get Obj.moFifoNext m = 255 then (s.bytes Obj.moData m, s.setBit Obj.moStatus 2 false m)
  else
    match oldestUnread s m with
    | some (q, x) => (s.bytes Obj.moData x, (s.setBit Obj.moStatus 2 false x).set Reg.moLastRead q m)
    | none => (s.bytes Obj.moData m, s)

/-! ### Deadlines and time-triggered operation -/

/-- A miss of an object (R332, R333). -/
def missOf (m : Nat) (s : State) : State :=
  let k := busOf m
  let t := ((s.inc Obj.moMisses m).setBit Obj.moStatus 4 true m).set Reg.moRun (s.get Reg.moRun m + 1) m
  let t := logLimited 0x1417 srcAp1 m second (data8 [k, m % 128] ++ data32 (t.get Reg.moRun m)) t
  if 2 ≤ k ∧ t.is Obj.automaticEntry k ∧ t.get Obj.missThreshold k ≤ t.get Reg.moRun m ∧ t.get Obj.operation k = 0 ∧
      canSends t k ∧ ¬ t.is Reg.ttEnterDue k then
    let u := ((t.set Reg.ttEnterDue 1 k).set Reg.ttCause 2 k).set Reg.ttObject (m % 128) k
    if u.get Reg.canOnBus k = 0 then canIdle k u else u
  else t

/-- No frame within the deadline, which counts whole milliseconds (R332). -/
def execDeadlineMiss (mo : Fin 512) (s : State) : Out :=
  s.run fun s =>
    let m := mo.val
    let d := s.getN Obj.moDeadline m * millisecond
    if s.get Obj.moUse m = 1 ∧ d ≠ 0 ∧ s.getN Reg.moWatchAt m + d ≤ s.now then
      missOf m (s.set Reg.moWatchAt (s.getN Reg.moWatchAt m + d : Nat) m)
    else s

/-- A command to enter time-triggered operation on CAN2 or CAN3, answered when it is entered (R333). -/
def execTtEnter (r : Req) (bus : Fin 2) (s : State) : Out :=
  s.run fun s =>
    let k := 2 + bus.val
    let t := hostDefer r Obj.timeTriggeredCommand k 0 [1] (fun _ t =>
      if t.get Obj.controllerState k = csMonitor then .error 6
      else if t.get Obj.operation k = 1 then .ok t
      else .ok (((t.set Reg.ttEnterDue 1 k).set Reg.ttCause 1 k).set Reg.ttObject 255 k)) s
    if t.is Reg.ttEnterDue k then (if t.get Reg.canOnBus k = 0 then canIdle k t else t)
    else answerWaiting Obj.timeTriggeredCommand k 0 t

/-- A command to leave it, answered at the end of the matrix cycle (R333). -/
def execTtLeave (r : Req) (bus : Fin 2) (s : State) : Out :=
  s.run fun s =>
    let k := 2 + bus.val
    let t := hostDefer r Obj.timeTriggeredCommand k 0 [2] (fun _ t =>
      if t.get Obj.controllerState k = csMonitor then .error 6
      else .ok (if t.get Obj.operation k = 1 then t.set Reg.ttLeaveDue 1 k else t.set Reg.ttEnterDue 0 k)) s
    if t.is Reg.ttLeaveDue k then t else answerWaiting Obj.timeTriggeredCommand k 0 t

/-- The next used window after one; none at the end of the basic cycle. -/
def nextWindow (s : State) (k w : Nat) : Option Nat := (List.range 32).find? fun x => w < x && s.get Obj.timeMark k (x - 1) != 0

/-- The end of a window: an expected frame that was not taken is a miss (R336). -/
def endTtWindow (k : Nat) (s : State) : State :=
  let (ty, obj) := cellNow s k
  let m := 128 * k + obj
  if s.get Reg.ttWindow k ≠ 0 ∧ ty = 1 ∧ s.get Obj.moUse m = 1 ∧ s.get Reg.ttTaken k = 0 then missOf m s else s

/-- A basic cycle begins with its reference message (R334), or the operation ends with the matrix cycle (R333). -/
def nextBasicCycle (k : Nat) (s : State) : State :=
  let c := (s.get Obj.cycleCount k + 1) % s.get Obj.basicCycles k
  if c = 0 ∧ s.is Reg.ttLeaveDue k then
    let t := ((s.set Obj.operation 0 k).set Reg.ttLeaveDue 0 k).set Obj.cycleCount 0 k
    let t := answerWaiting Obj.timeTriggeredCommand k 0 (logEvent 0x1416 srcAp1 (data8 [k]) t)
    if t.get Reg.canOnBus k = 0 then canIdle k t else t
  else
    let t := (s.set Obj.cycleCount c k).set Reg.ttWindow 0 k
    if t.get Reg.canOnBus k ≠ 0 then t
    else (t.emit (.can k (t.is Obj.refFormat k) (t.getN Obj.refId k) (beBytes 1 c))).inc Obj.framesSent k

/-- A window's time mark, or the end of the basic cycle after the last (R334, R336). A frame still on the bus makes the
mark be missed. -/
def execTtWindowMark (bus : Fin 2) (s : State) : Out :=
  s.run fun s =>
    let k := 2 + bus.val
    if s.get Obj.operation k ≠ 1 ∨ ¬ canSends s k then s
    else
      let t := endTtWindow k s
      match nextWindow t k (t.getN Reg.ttWindow k) with
      | none => nextBasicCycle k t
      | some w =>
        let t := (t.set Reg.ttWindow w k).set Reg.ttTaken 0 k
        if t.get Reg.canOnBus k ≠ 0 then t
        else
          let (ty, obj) := cellNow t k
          let m := 128 * k + obj
          if ty = 1 ∧ t.get Obj.moUse m = 2 then
            ((t.setLog Reg.moFrames [t.bytes Obj.moData m] m).setBit Obj.moStatus 0 true m).set Reg.canOnBus (m + 1) k
          else if ty = 2 then startCan k t
          else t

/-! ### Fault confinement -/

/-- State and events that follow the error counters (R337). -/
def judgeErrors (k : Nat) (s : State) : State :=
  let tec := s.get Reg.canTec k
  let rx := s.get Obj.receiveErrors k
  let w := s.get Obj.errorWarningThreshold k
  let d := data8 [k, min 255 tec, rx]
  let t := s.set Obj.transmitErrors (min 255 tec) k
  let t := if w ≤ max tec rx then (if t.is Reg.canWarned k then t else logEvent 0x1410 srcAp1 d (t.set Reg.canWarned 1 k))
    else t.set Reg.canWarned 0 k
  let t := if 128 ≤ max tec rx then (if t.is Reg.canPassive k then t else logEvent 0x1411 srcAp1 d (t.set Reg.canPassive 1 k))
    else t.set Reg.canPassive 0 k
  if canSends t k then t.set Obj.controllerState (if 128 ≤ max tec rx then 3 else if w ≤ max tec rx then 2 else 1) k else t

/-- The attempt in progress has ended without success: it is retried, but for a single-shot frame, a frame of an exclusive
window and one whose abort waits (R329, R330, R336). -/
def attemptFailed (k : Nat) (s : State) : State :=
  match s.getN Reg.canOnBus k with
  | 0 => s
  | m + 1 =>
    let t := s.set Reg.canOnBus 0 k
    let t := if moFlag t m 3 ∨ t.is Reg.moAbortDue m ∨ (t.get Obj.operation k = 1 ∧ (cellNow t k).1 = 1) then frameDone m t else t
    canIdle k t

/-- A bus error (R337): the counters move by ISO 11898-1, a transmitter by 8, a receiver by 1, or by 8 when it sees a
dominant bit after its error flag. In bus monitoring they do not change (R320). -/
def execCanBusError (bus : Fin 4) (transmitting primary : Bool) (s : State) : Out :=
  s.run fun s =>
    let k := bus.val
    if ¬ canSends s k then s
    else
      let t := if transmitting then s.set Reg.canTec (min 256 (s.get Reg.canTec k + 8)) k
        else s.set Obj.receiveErrors (min 255 (s.get Obj.receiveErrors k + (if primary then 8 else 1))) k
      let t := judgeErrors k t
      if transmitting then attemptFailed k t else t

/-- Every pending frame of a controller is aborted (R338). -/
def abortAll (k : Nat) (s : State) : State :=
  (objectsOf k).foldl (fun u m => if moPending u m then frameDone m (u.setLog Reg.moFrames ((u.log Reg.moFrames m).take 1) m) else u)
    (s.set Reg.canOnBus 0 k)

/-- Recoveries of the last 3600 s. -/
def recentRecoveries (s : State) (k : Nat) : List Int := (s.seq Reg.busRecoveries k).filter fun x => (s.now : Int) < x + 3600 * second

/-- Bus-off (R338): a ninth recovery within 3600 s is not made. -/
def execBusOff (bus : Fin 4) (s : State) : Out :=
  s.run fun s =>
    let k := bus.val
    if ¬ canSends s k ∨ s.get Reg.canTec k < 256 then s
    else
      let t := logEvent 0x1412 srcAp1 (data8 [k]) ((abortAll k s).set Reg.busOffAt s.now k)
      let l := recentRecoveries t k
      let t := (t.setSeq Reg.busRecoveries l k).set Obj.recoveriesInTheLast3600S l.length k
      if 8 ≤ l.length then healthItem 12 k (logEvent 0x1414 srcAp1 (data8 [k]) (t.set Obj.controllerState csFault k))
      else t.set Obj.controllerState csHoldoff k

/-- A recovery begins. -/
def beginRecovery (k : Nat) (s : State) : State :=
  let l := ((s.now : Int) :: recentRecoveries s k)
  ((s.set Obj.controllerState csRecovering k).setSeq Reg.busRecoveries l k).set Obj.recoveriesInTheLast3600S l.length k

/-- 1 s after bus-off (R338). -/
def execBusOffRecoveryRequest (bus : Fin 4) (s : State) : Out :=
  s.run fun s =>
    let k := bus.val
    if s.get Obj.controllerState k = csHoldoff ∧ s.getN Reg.busOffAt k + second ≤ s.now then beginRecovery k s else s

/-- The controller is error active again and resumes its operation; time-triggered operation begins with cycle 0 (R338). -/
def execBusOffRecovered (bus : Fin 4) (s : State) : Out :=
  s.run fun s =>
    let k := bus.val
    if s.get Obj.controllerState k ≠ csRecovering then s
    else
      let t := ((s.set Reg.canTec 0 k).set Obj.transmitErrors 0 k).set Obj.receiveErrors 0 k
      let t := (t.set Reg.canWarned 0 k).set Reg.canPassive 0 k
      let t := logEvent 0x1413 srcAp1 (data8 [k, (recentRecoveries t k).length]) (t.set Obj.controllerState csActive k)
      if t.get Obj.operation k = 1 then
        let u := (t.set Obj.cycleCount 0 k).set Reg.ttWindow 0 k
        (u.emit (.can k (u.is Obj.refFormat k) (u.getN Obj.refId k) [0])).inc Obj.framesSent k
      else canIdle k t

/-- A controller off by fault is restarted with a clean history (R338). -/
def execRestartController (r : Req) (bus : Fin 4) (s : State) : Out :=
  s.run fun s => hostWrite r Obj.restartController bus 0 [1] (fun _ t =>
    .ok (if t.get Obj.controllerState bus = csFault then beginRecovery bus (t.setSeq Reg.busRecoveries [] bus) else t)) s

/-! ### Timing and monitoring -/

/-- New bit timing takes effect at the next bus idle (R325); the error counters are kept. -/
def execBitTimingApply (bus : Fin 4) (s : State) : Out :=
  s.run fun s => if s.get Reg.canOnBus bus = 0 then atBoundary (.busIdle bus) s else s

/-- A module that drives leaves bus monitoring at the next bus idle (R320). -/
def execBusMonitoringExit (bus : Fin 2) (s : State) : Out :=
  s.run fun s =>
    let k := 2 + bus.val
    if isDriving s ∧ s.get Obj.controllerState k = csMonitor then canIdle k (judgeErrors k (s.set Obj.controllerState csActive k)) else s

/-- A controller is switched on or off (0x1480:01): pending frames are aborted when it goes off (R330). -/
def enableController (k : Nat) (on : Bool) (s : State) : State :=
  if ¬ on then (abortAll k s).set Obj.controllerState csOff k
  else if s.get Obj.controllerState k ≠ csOff then s
  else if 2 ≤ k ∧ ¬ isDriving s then s.set Obj.controllerState csMonitor k
  else canIdle k (judgeErrors k (s.set Obj.controllerState csActive k))

/-! ### The matrix -/

/-- Bits of the longest frame of an object, with worst-case stuffing and intermission [network time units] (R335, ISO
11898-1). The data phase of an FD frame with bit rate switch is shorter by the ratio of the rates. -/
def frameUnits (s : State) (k : Nat) (ext fd brs : Bool) (n : Nat) : Nat :=
  if ¬ fd then
    let b := (if ext then 54 else 34) + 8 * n
    b + (b - 1) / 4 + 13
  else
    let head := if ext then 36 else 17
    let crc := if n ≤ 16 then 27 else 32
    let body := 5 + 8 * n
    let fast := body + body / 4 + crc
    let nominal := [125, 250, 500, 1000].getD (s.getN Obj.nominalRateCode k) 125
    let rate := if brs then [1000, 2000, 4000, 5000, 8000].getD (s.getN Obj.dataRateCode k) 1000 else nominal
    head + (head - 1) / 4 + (fast * nominal + rate - 1) / rate + 13

/-- Of an object. -/
def objectUnits (s : State) (m : Nat) : Nat :=
  frameUnits s (busOf m) (moFlag s m 0) (moFlag s m 1) (moFlag s m 2) (s.getN Obj.moLength m)

/-- A schedule passes R335: marks, cycle length, cycles, matrix bytes. -/
def scheduleFits (s : State) (k : Nat) (marks : List Int) (len : Int) (cycles : Nat) (matrix : List Byte) : Bool :=
  let used := marks.takeWhile (· != 0)
  let rising := (used.zip (used.drop 1)).all fun x => x.1 < x.2
  let gaps := (marks.drop used.length).all (· == 0)
  let ends := used.drop 1 ++ [len]
  let cell (c w : Nat) : Nat := ofBytes ((matrix.drop (2 * (32 * c + w))).take 2)
  let arb := ((objectsOf k).filter fun m => s.get Obj.moUse m == 2 && moFlag s m 5).foldl (fun b m => max b (objectUnits s m)) 0
  let first := (used ++ [len]).headD len
  rising && gaps && ((frameUnits s k (s.is Obj.refFormat k) false false 1 : Nat) : Int) ≤ first &&
  (List.range cycles).all fun c => (List.range 32).all fun w =>
    let v := cell c w
    let ty := v / 2 ^ 14
    let m := 128 * k + v % 128
    ty != 3 && v / 2 ^ 7 % 2 ^ 7 == 0 && (ty != 1 || s.get Obj.moUse m != 0) &&
    (w == 0 || used.length < w ||
      (let room := ends.getD (w - 1) 0 - used.getD (w - 1) 0
       (ty != 1 || (objectUnits s m : Int) ≤ room) && (ty != 2 || (arb : Int) ≤ room)))

end Sys2Proof.Machine
end

