-- ==== Sys2Proof/Machine/Frames.lean ====
section
/-!
DEFINITION. The frame length and dither of Dune (R18 to R20), and the phase record of a command frame (Table 3.5).
-/

namespace Sys2Proof.Machine

/-- d(k) of R19. -/
def ditherOffset (k : Nat) : Int := if k ≤ 32 then k else if k ≤ 96 then 64 - k else (k : Int) - 128

/-- The Dune step s of a depth (Table 2.1). -/
def duneStep (depth : Int) : Int := if depth = 1 then 5 else if depth = 2 then 10 else if depth = 3 then 20 else 0

/-- L(k) of R19 at a depth, in core cycles. -/
def frameCycles (depth : Int) (k : Nat) : Int := 8000 + duneStep depth * ditherOffset k

/-- The dither index of a frame. -/
def ditherIndex (frame : Nat) : Nat := frame % 128

/-- A phase record: command, edge pairs, dead time, strong and weak fields of turn-on and turn-off, duty echo. -/
structure PhaseRecord where
  cmd : Nat
  pairs : List (Int × Int)
  dead : Int
  onStrong : Int
  onWeak : Int
  offStrong : Int
  offWeak : Int
  duty : Int
deriving DecidableEq, Repr

/-- 24 bits of an edge time. -/
def edge24 (v : Int) : Nat := (v % 16777216).toNat

/-- Edge `k` of a record field: unused pairs are sent as 0xFFFFFF. -/
def pairBits (l : List (Int × Int)) (k : Nat) : Nat :=
  match l[k]? with
  | some (a, b) => edge24 a * 2 ^ 24 + edge24 b
  | none => 0xFFFFFF * 2 ^ 24 + 0xFFFFFF

/-- The 32 bytes of a phase record, bit 255 first (Table 3.5). -/
def recordBytes (r : PhaseRecord) : List Byte :=
  let n : Nat := r.cmd * 2 ^ 253 + r.pairs.length * 2 ^ 250 + r.dead.toNat % 1024 * 2 ^ 240 + r.onStrong.toNat % 256 * 2 ^ 232 +
    r.onWeak.toNat % 256 * 2 ^ 224 + r.offStrong.toNat % 256 * 2 ^ 216 + r.offWeak.toNat % 256 * 2 ^ 208 +
    pairBits r.pairs 0 * 2 ^ 160 + pairBits r.pairs 1 * 2 ^ 112 + pairBits r.pairs 2 * 2 ^ 64 + pairBits r.pairs 3 * 2 ^ 16 +
    r.duty.toNat % 65536
  beBytes 32 n

/-- The record of 32 bytes. -/
def recordOf (b : List Byte) : PhaseRecord :=
  let n := ofBytes b
  let cnt := n / 2 ^ 250 % 8
  { cmd := n / 2 ^ 253
    pairs := (List.range (min 4 cnt)).map fun k =>
      ((n / 2 ^ (184 - 48 * k) % 2 ^ 24 : Nat), (n / 2 ^ (160 - 48 * k) % 2 ^ 24 : Nat))
    dead := (n / 2 ^ 240 % 1024 : Nat)
    onStrong := (n / 2 ^ 232 % 256 : Nat), onWeak := (n / 2 ^ 224 % 256 : Nat)
    offStrong := (n / 2 ^ 216 % 256 : Nat), offWeak := (n / 2 ^ 208 % 256 : Nat)
    duty := (n % 65536 : Nat) }

end Sys2Proof.Machine
end

