-- ==== Sys2Proof/Machine/Modulation.lean ====
section
/-!
DEFINITION. From duties to edges, the command frame of each link and its dispatch, and the mirror of the frame
(R23, R43 to R46, R50, R71 to R77, R84, R395).
-/

namespace Sys2Proof.Machine

/-! ### Modulation -/

/-- What R72 makes of a duty. -/
inductive OnTime where
  | none
  | full
  | pulse (ton : Int)
deriving DecidableEq, Repr

/-- The limits of a phase in edge units: minimum on-time and off-time (R72). -/
def tonMin (s : State) (p : Nat) : Int := 16 * s.get Obj.minimumOnTime (blockOf p)
def toffMin (s : State) (p : Nat) : Int :=
  let toff := 16 * s.get Obj.minimumOffTime (blockOf p)
  if bootstrap s p then max toff (16 * s.get Obj.bootstrapMin p + 2 * (16 * s.get Obj.deadTime p)) else toff

/-- The duty after the ceiling. -/
def dutyOf (s : State) (p : Nat) : Int := min (s.get Reg.dutyRaw p) (s.get Obj.dutyCeiling (blockOf p))

/-- The on-time before the clamp of R72. -/
def tonRaw (d period : Int) : Int := (d * period + 32768) / 65536

/-- The on-time of a phase for a carrier period (R72). -/
def onTime (tmin toff d period : Int) : OnTime :=
  let ton := tonRaw d period
  if ton = 0 then .none
  else if toff = 0 ∧ period - ton < 16 then .full
  else .pulse (min (max ton tmin) (period - toff))

/-- The pulse of carrier period `j` (R75): `o` is the interleave offset, `len` the frame in edge units. -/
def pulseOf (align period o ton len j : Int) : Int × Int :=
  let on := if align = 0 then j * period + o
    else if align = 1 then (j + 1) * period + o - ton
    else j * period + period / 2 + o - ton / 2
  let off := on + ton
  if len ≤ on then (on - len, off - len) else (on, off)

/-- A pulse put in its place by its on edge. -/
def insertPulse (x : Int × Int) : List (Int × Int) → List (Int × Int)
  | [] => [x]
  | y :: t => if x.1 ≤ y.1 then x :: y :: t else y :: insertPulse x t

/-- Pulses in rising on edge. -/
def sortPulses : List (Int × Int) → List (Int × Int)
  | [] => []
  | x :: t => insertPulse x (sortPulses t)

/-- The first pulse kept clear of the one carried over from the frame before (R77): `c` is that off edge relative to this
frame's start. -/
def clearCarry (c toff tmin : Int) : List (Int × Int) → List (Int × Int)
  | [] => []
  | (on, off) :: t =>
    if c + toff ≤ on then (on, off) :: t
    else if off - (c + toff) < tmin ∨ off ≤ c + toff then t
    else (c + toff, off) :: t

/-- Interleave position of an active phase: its rank in the active set (R74). -/
def positionOf (s : State) (p : Nat) : Nat := ((activePhases s (blockOf p)).filter fun q => q < p).length

/-- The edge pairs of an active phase for a frame of `cycles` core cycles. -/
def edgesOf (s : State) (p : Nat) (cycles : Int) : List (Int × Int) :=
  let b := blockOf p
  let m := s.get Obj.carrierMultiple b
  let len := 16 * cycles
  let period := len / m
  let n : Int := (activePhases s b).length
  let o := (positionOf s p : Int) * period / n
  let tmin := tonMin s p
  let toff := toffMin s p
  let carry (l : List (Int × Int)) : List (Int × Int) :=
    if s.get Reg.lastOff p ≤ 0 then l else clearCarry (s.get Reg.lastOff p - 16 * s.get Reg.lastLength p) toff tmin l
  match onTime tmin toff (dutyOf s p) period with
  | .none => []
  | .full => carry [(0, len)]
  | .pulse ton =>
    carry (sortPulses ((List.range m.toNat).map fun j => pulseOf (s.get Obj.alignment b) period o ton len j))

/-! ### Records -/

/-- The record of a phase before its command: dead time and profile fields (R75, R80). -/
def plainRecord (s : State) (p : Nat) : PhaseRecord :=
  { cmd := 0, pairs := [], dead := s.get Obj.deadTime p, onStrong := s.get Obj.strongOn p, onWeak := s.get Obj.weakOnApplied p,
    offStrong := s.get Obj.strongOff p, offWeak := s.get Obj.weakOffApplied p, duty := 0 }

/-- The module may command the phase other than OFF: R13, and a terminal that reports gate-drive ready (R52). -/
def mayDrivePhase (s : State) (p : Nat) : Bool :=
  linkUp s (cabOf p) && gateReady s (cabOf p) && mayEnergiseBlock s (blockOf p) && s.is Reg.phasePassed p

/-- The record of a phase (R67, R75, R76). -/
def phaseRecord (s : State) (p : Nat) (cycles : Int) : PhaseRecord :=
  let r := plainRecord s p
  if ¬ phaseDeclared s p then { r with dead := 4, onStrong := 0, onWeak := 0, offStrong := 0, offWeak := 0 }
  else if ¬ mayDrivePhase s p then r
  else if phaseSt s p = phLatched then { r with cmd := 2 }
  else if phaseSt s p = phActive then
    match edgesOf s p cycles with
    | [] => { r with duty := dutyOf s p }
    | l => { r with cmd := 1, pairs := l, duty := dutyOf s p }
  else r

/-- What the module keeps of a phase's record for later frames (R77, R95, R97). -/
def keepRecord (p : Nat) (cycles : Int) (r : PhaseRecord) (s : State) : State :=
  let t := (s.set Reg.dutyCommanded r.duty p).set Reg.lastLength cycles p
  let m := s.get Obj.carrierMultiple (blockOf p)
  let period := 16 * cycles / m
  let cl : Bool := match onTime (tonMin s p) (toffMin s p) (dutyOf s p) period with
    | .pulse ton => ton != tonRaw (dutyOf s p) period
    | _ => false
  let t := t.setB Reg.dutyClamped (phaseSt s p = phActive ∧ cl) p
  match r.pairs.getLast? with
  | some (_, off) => (t.set Reg.lastOff off p).set Reg.turnedOn 1 p
  | none => t.set Reg.lastOff 0 p

/-! ### The command frame -/

/-- Dune depth of the next frame: a requested depth applies at k = 0, from stage 4 on (R21). -/
def nextDepth (s : State) : Int :=
  if ditherIndex (s.frame + 1) = 0 ∧ 4 ≤ s.get Obj.startUpStage then s.get Obj.requestedDuneDepth else s.get Obj.appliedDuneDepth

/-- Length of the next frame in core cycles (R19). -/
def nextLength (s : State) : Int := frameCycles (nextDepth s) (ditherIndex (s.frame + 1))

/-- A command frame is sent to the link: step 7 of Table 3.11, RUN, ONE_LANE, and LOST while a down lane is in service. -/
def commanded (s : State) (c : Nat) : Bool :=
  linkUp s c || (s.get Obj.linkState c == lkConfig && s.is Reg.linkCommanded c) ||
  (s.get Obj.linkState c == lkLost && (laneIn s c 2 || laneIn s c 3))

/-- Terminal mode of a link (R65, R84, Table 3.11). -/
def terminalMode (s : State) (c : Nat) : Int :=
  if s.get Obj.linkState c = lkLost then (if s.getN Reg.linkSince c + 50 ≤ s.frame then 2 else 1)
  else if linkUp s c ∧ s.get Obj.powerState = pwRun then 0
  else 1

/-- Contactor word: the commanded reaches of the cabinet's declared blocks (R50); kept, then all open, on a lost link. -/
def wordOf (s : State) (c : Nat) : Int :=
  if s.get Obj.linkState c = lkLost then (if terminalMode s c = 2 then 0 else s.get Reg.contactorWord c)
  else if ¬ linkUp s c then 0
  else
    (((List.range 16).filter fun j =>
      blockDeclared s (4 * c + j / 4) && reachOutlet s (4 * c + j / 4) (j % 4) != 255 &&
        s.bit Reg.contactorCommand (j % 4) (4 * c + j / 4)).map fun j => 2 ^ j).sum

/-- The bytes of a command frame before its CRC (Table 3.4). -/
def commandBody (s : State) (c : Nat) (rs : List PhaseRecord) : List Byte :=
  [0x11] ++ beBytes 1 (16 * c) ++ beBytes 2 (s.get Reg.commandSeq c) ++ beBytes 4 (s.frame + 1 : Nat) ++
  beBytes 2 (nextDepth s * 2 ^ 14 + nextLength s) ++ beBytes 1 (ditherIndex (s.frame + 1)) ++
  beBytes 1 (terminalMode s c) ++ beBytes 2 (s.get Obj.samplingLead) ++ beBytes 2 (wordOf s c) ++ [0, 0, 0, 0] ++
  rs.flatMap recordBytes

/-- A frame launched on a down lane: scrambled with the lane's seed and stuffed (R43 to R46). -/
def launchCommand (c l : Nat) (body : List Byte) (s : State) : State :=
  let k := 2 * c + l
  let reg := s.getN Reg.txLine k
  let (bits, v, n) := stuff (64 ≤ reg) (reg % 64) (lineFrame typeControl (s.getN Reg.commandSeq c) c l 0 body)
  (s.set Reg.txLine ((if v then 64 else 0) + n) k).emit (.command c l (body ++ beBytes 4 (crc32 body)) bits)

/-- The command frame of a link assembled and dispatched on both data lanes (R48, R50). A lost link's phases are OFF. -/
def dispatch (c : Nat) (s : State) : State :=
  if ¬ commanded s c then s
  else
    let cycles := nextLength s
    let ps := (List.range 16).map fun i => 16 * c + i
    let rs := ps.map fun p => phaseRecord s p cycles
    let t := s.set Reg.commandSeq ((s.get Reg.commandSeq c + 1) % 65536) c
    let t := (t.set Reg.contactorWord (wordOf s c) c).set Reg.dispatchedFrame (s.frame + 1 : Nat) c
    let t := (ps.zip rs).foldl (fun u x => keepRecord x.1 cycles x.2 u) (t.set Reg.linkDispatchMisses 0 c)
    let body := commandBody t c rs
    launchCommand c 1 body (launchCommand c 0 body t)

/-! ### The mirror -/

/-- A mantissa at a stage exponent, as 3 bytes. -/
def mantBytes (v : Rat) (e : Int) : List Byte := beBytes 3 (clampI (-mantMax) mantMax (roundEven (v / pow2 (e - 150))))

/-- The 12-byte state of a slot (Table 17.3). -/
def slotState (s : State) (i : Nat) : List Byte :=
  let out := (renormalise [s.real Reg.slotReal i 9, s.real Reg.slotReal i 10, s.real Reg.slotReal i 11, s.real Reg.slotReal i 12]).1
  let int := (renormalise [s.real Reg.slotReal i 7]).1
  beBytes 1 out ++ mantBytes (s.real Reg.slotReal i 13) out ++ beBytes 1 int ++ mantBytes (s.real Reg.slotReal i 7) int ++
  mantBytes (s.real Reg.slotReal i 8) (int - 24) ++ beBytes 1 (s.get Obj.slotFlags i)

/-- The substitution word of a link. -/
def substitutionWord (s : State) (c : Nat) : Nat :=
  (if s.is Reg.tmSubstituted c then 1 else 0) + (if s.getN Reg.dispatchedFrame c = s.frame + 1 then 0 else 2) +
  4 * s.getN Obj.linkState c

/-- The mirror of the frame in progress. -/
def mirrorOf (s : State) : Mirror :=
  { frame := s.frame
    seq := s.getN Reg.mirrorSeq
    flags := s.getN Obj.uncommittedChanges % 2 + (if s.get Reg.handoverFrame = 0 then 0 else 2)
    generation := s.getN Reg.syncGeneration
    substitution := (List.range 16).map (substitutionWord s)
    slots := (List.range 1024).map (slotState s)
    targets := ((List.range 24).map fun n => s.get Reg.leTarget n) ++ ((List.range 24).map fun n => s.get Reg.leVoltage n)
    shares := ((List.range 64).map fun b => s.get Obj.blockShare b) ++ ((List.range 64).map fun b => s.get Reg.preVoltage b)
    ramps := (List.range 64).map fun b => s.real Reg.ramp b
    blocks := (List.range 64).map fun b =>
      [s.get Obj.blockState b, s.get Obj.allocState b, s.get Obj.slotSetInUse b, s.get Reg.mvKind b * 8 + s.get Reg.mvStep b,
       (s.frame : Int) - s.get Reg.mvM b, s.get Reg.contactorCommand b, s.get Obj.boundOutlet b]
    phases := (List.range 256).map fun p => s.get Obj.phaseState p
    outlets := (List.range 24).map fun n =>
      [s.get Obj.outletState n, s.get Reg.outletLatch n, s.get Obj.lastEndCause n, s.get Obj.boundContext n,
       s.get Reg.checkStep n * 8 + s.get Reg.stopStep n, (s.frame : Int) - s.get Reg.outletSinceFrame n]
    outputs := ((List.range 96).map fun c => s.get Obj.lsCommand c) ++ ((List.range 96).map fun c => s.get Obj.lsState c) ++
      [s.get Obj.safeOutputStates] ++ ((List.range 8).map fun f => s.get Obj.functionState f) ++ [s.get Reg.startPassed]
    time := s.time }

/-- The ACTIVE module of a pair sends the mirror of the frame (R395). -/
def sendMirror (s : State) : State :=
  if s.get Obj.role = roActive ∧ s.is Reg.paired then
    let t := s.set Reg.mirrorSeq ((s.get Reg.mirrorSeq + 1) % 65536)
    t.emit (.mirror (mirrorOf t))
  else s

/-- Command frames to every link but those of `missed`, which the assembler does not dispatch in time. Only a module that
drives lanes sends any (R40, R393). -/
def execCommandDispatch (missed : List (Fin 16)) (s : State) : Out :=
  s.run fun s =>
    let may := mayDriveLanes s ∧ s.get Reg.partnerActive = 0
    let t := if may then s.forN 16 fun c u => if missed.any fun m => m.val == c then u else dispatch c u else s
    sendMirror t

end Sys2Proof.Machine
end

