-- ==== Sys2Proof/Machine/LoopEngine.lean ====
section
/-!
DEFINITION. The commands of the loop engine: the fast class of a frame and its deadlines, presets and clears, cascades,
injection and capture (Loop engine).
-/

namespace Sys2Proof.Machine

/-! ### The fast class -/

/-- The ramp factor of a block in this frame (R88). -/
def rampStep (b : Nat) (s : State) : State :=
  let st := blockSt s b
  let r := s.real Reg.ramp b
  let on := s.get Obj.startRamp b
  let off := s.get Obj.stopRamp b
  if st = bkRampOn then s.setReal Reg.ramp (if on = 0 then 1 else min 1 (r + 1 / (on : Rat))) b
  else if st = bkRunning then s.setReal Reg.ramp 1 b
  else if st = bkRampOff then s.setReal Reg.ramp (if off = 0 then 0 else max 0 (r - 1 / (off : Rat))) b
  else s

/-- The due fast and divided slots issued by level and number (R113): those of `mism` disagree on the first issue, those
of `again` on the retry too, those of `late` are not written back by the deadline. Shedding ends on the reference of
the same frame, before the phase duty slots are evaluated (R103). -/
def fastClass (mism again late : List Nat) (s : State) : State :=
  let t := s.forN 64 rampStep
  let due := dueFast t
  let kids := enabledSlots t
  let level (l : Nat) (u : State) : State := u.forL (ofLevel u l due) fun i w => issueSlot kids mism again late i w
  let t := (level 2 (level 1 (level 0 t))).forN 64 judgeShedding
  let t := judgeMismatches due mism again (level 3 t)
  t.setSeq Reg.unfinished ((due.filter late.contains).map fun i => (i : Int))

/-- From F0 + 3.0 us. `done` is when the last evaluation was written back, `peak` the most in flight. -/
def execFastClassEvaluation (mism again late : List Nat) (done peak : Nat) (s : State) : Out :=
  s.run fun s =>
    let t := fastClass mism again late s
    let t := (t.set Obj.fastWindowLast (min 65535 done)).set Obj.fastWindowWorst (max (t.get Obj.fastWindowWorst) (min 65535 done))
    t.set Obj.peakInFlight (max (t.get Obj.peakInFlight) (min 128 peak))

/-- 50 000 frames without a mismatch: starts are allowed again (R123). -/
def execMismatchFreePeriodEnd (s : State) : Out :=
  s.run fun s =>
    if s.getN Reg.lastMismatch + 50000 ≤ s.frame then s.forN 64 fun b u => u.set Reg.startRefused 0 b else s

/-- F0 + 10.0 us: a slot not written back holds its previous output and is counted (R28). -/
def execFastClassDeadline (s : State) : Out :=
  s.run fun s =>
    let l := (s.seq Reg.unfinished).map Int.toNat
    if l.isEmpty then s.set Reg.fastOverrunRun 0
    else
      let t := (s.forL l fun i u => u.setBit Obj.slotFlags 8 true i).inc Obj.fastOverruns
      logLimited 0x2241 srcLe 0 second (beBytes 2 l.length) ((t.set Reg.fastOverrunRun (t.get Reg.fastOverrunRun + 1)).setSeq
        Reg.unfinished [])

/-- Overruns in 8 consecutive frames: handover, or every block ramps down (R28, R412). -/
def execFastClassOverrunLimit (s : State) : Out :=
  s.run fun s => if 8 ≤ s.get Reg.fastOverrunRun then handOverOr stopAllBlocks s else s

/-! ### Presets, clears, cascades -/

/-- A preset written by the host (R119). -/
def execPresetOutput (r : Req) (slot : Fin 1024) (data : List Byte) (s : State) : Out :=
  s.run fun s => hostWrite r Obj.slotPreset slot 0 data (fun _ t => .ok (presetSlot slot (f32Val (ofBytes data)) t)) s

/-- A clear of the integrator of a running slot (R120); a held slot has none. -/
def execClearIntegrator (r : Req) (slot : Fin 1024) (data : List Byte) (s : State) : Out :=
  s.run fun s => hostWrite r Obj.slotClear slot 0 data (fun _ t => .ok (t.set Reg.slotClearDue 1 slot)) s

/-- A source code names a value of its kind's range and a declared element; kind 11 is never written (R108). -/
def sourceFits (s : State) (code : Nat) : Bool :=
  let i := code % 4096
  match code / 4096 with
  | 0 => true
  | 1 => i < 1024
  | 2 => i < 1024
  | 3 => i < 256 && phaseDeclared s i
  | 4 => i < 64 && blockDeclared s i
  | 5 => i < 64 && blockDeclared s i
  | 6 => i < 16 && cabDeclared s i
  | 7 => i < 24 && outletDeclared s i
  | 8 => i < 24 && outletDeclared s i
  | 9 => i < 144
  | 10 => i < 24 && outletDeclared s i
  | _ => false

/-- The parent that a reference source names. -/
def parentOfSource (code : Nat) : Int := if code / 4096 = 2 then (code % 4096 : Nat) else 0xFFFF

/-- The reference source that a parent makes. -/
def sourceOfParent (p : Nat) : Int := if p = 0xFFFF then 0 else (0x2000 + p : Nat)

/-- Every free slot has a level of 0 to 3: no cycle, no deeper chain (R112). -/
def levelsFit (s : State) : Bool := ((List.range 608).map (· + 416)).all fun i => (levelOf s i).isSome

/-- The parent and the reference source of a free slot, kept in agreement (R112): status 0x05 when the levels do not fit. -/
def setParent (i : Nat) (parent source : Int) (s : State) : Except Nat State :=
  let t := applyField 0 false ⟨Obj.slotParent.key i 0, parent, [], false⟩
    (applyField 0 false ⟨Obj.slotRefSource.key i 0, source, [], false⟩ s)
  if levelsFit t then .ok (t.forN 1024 fun k u =>
      if u.get Obj.slotLevel k = ((levelOf u k).getD 0 : Nat) then u else u.set Obj.slotLevel ((levelOf u k).getD 0 : Nat) k)
  else .error 5

/-- A write of the parent, or of the reference source when `source` (R112). -/
def execParentSlotWrite (r : Req) (slot : Fin 1024) (source : Bool) (data : List Byte) (s : State) : Out :=
  s.run fun s =>
    let v := ofBytes data
    if source then
      hostWrite r Obj.slotRefSource slot 0 data (fun _ t =>
        if sourceFits t v then setParent slot (parentOfSource v) v t else .error 5) s
    else hostWrite r Obj.slotParent slot 0 data (fun _ t => setParent slot v (sourceOfParent v) t) s

/-! ### Injection and capture -/

/-- A start of the injection (R126). -/
def startInjection (role : Nat) (s : State) : Except Nat State :=
  let i := s.getN Obj.injectionTarget
  if (i < 416 ∧ (s.get Obj.lifeCycleState ≠ lcService ∨ role ≠ roleService)) ∨ slotIsHeld s i ∨ ¬ slotEnabled s i ∨
      s.get Obj.injectionState = 1 then .error 6
  else
    let n := s.getN Obj.prbsOrder
    let t := (((s.set Obj.injectionState 1).set Reg.injectionSlot i).set Reg.injectionCount 0).setReal Reg.injectionPhase 0
    let t := t.set Reg.prbsState (2 ^ n - 1 : Nat)
    let mine := t.get Obj.captureState = 1 ∧ t.getN Obj.triggerSlot = i ∧ t.get Obj.samplesTaken = 0
    .ok (logEvent 0x5443 srcLe (beBytes 2 i ++ data8 [t.get Obj.injectionSignal]) (t.setB Reg.captureBelongs mine))

def execStartInjection (r : Req) (s : State) : Out :=
  s.run fun s => hostWrite r Obj.startInjection 0 0 [1] startInjection s

def execStopInjection (r : Req) (s : State) : Out :=
  s.run fun s => hostWrite r Obj.stopInjection 0 0 [1] (fun _ t => .ok (endInjection 1 t)) s

/-- A chirp or step reaches N + 16384 evaluations (R126). -/
def execInjectionLengthReached (s : State) : Out :=
  s.run fun s =>
    let sig := s.get Obj.injectionSignal
    if s.get Obj.injectionState = 1 ∧ (sig = 1 ∨ sig = 3) ∧ s.getN Obj.injectionLength + 16384 ≤ s.getN Reg.injectionCount then
      endInjection 2 s
    else s

/-- A bank holds a capture item not yet acknowledged. -/
def bankQueued (s : State) (bank : Nat) : Bool :=
  (List.range 8).any fun ch => (s.log Reg.pushQueue ch).any fun e => e.take 1 == beBytes 1 1 && (e.drop 11).take 1 == beBytes 1 bank

/-- A bank is free for capture (R442). -/
def bankFree (s : State) (bank : Nat) : Bool :=
  (bank == 22 || bank == 23) && s.get Obj.owner bank == ownXd && !bankQueued s bank

/-- A start of the capture (R127, R128). -/
def startCapture (s : State) : Except Nat State :=
  let bank := s.getN Obj.captureBank
  if ¬ bankFree s bank ∨ s.get Obj.captureState = 1 then .error 6
  else
    let mine := s.get Obj.injectionState = 1 ∧ s.getN Reg.injectionSlot = s.getN Obj.triggerSlot
    let t := handBank bank ownLe (((s.set Obj.captureState 1).set Obj.samplesTaken 0).set Reg.captureIn bank)
    .ok ((t.set Obj.captureStartFrame t.frame).setB Reg.captureBelongs mine)

def execStartCapture (r : Req) (s : State) : Out :=
  s.run fun s => hostWrite r Obj.captureCommand 0 0 [1] (fun _ t => startCapture t) s

def execStopCapture (r : Req) (s : State) : Out :=
  s.run fun s => hostWrite r Obj.captureCommand 0 0 [2] (fun _ t => .ok (endCapture 2 t)) s

/-- 16384 evaluations have been sampled (R127). -/
def execCaptureComplete (s : State) : Out :=
  s.run fun s => if 16384 ≤ s.get Obj.samplesTaken then endCapture 2 s else s

end Sys2Proof.Machine
end

