-- ==== Sys2Proof/Machine/LoadSwitches.lean ====
section
/-!
DEFINITION. The commands of the protected load switch channels: host commands, over-current, thermal shutdown and retries,
group limits, supply faults (Protected load switch channels).
-/

namespace Sys2Proof.Machine

/-- The command source of a channel (R356): 0 host, 1 outlet sequence, 2 cooling function. -/
def commandSource (s : State) (c : Nat) : Int :=
  if isCoil c then 1 else if isDrive c ∧ (driveCommand s c).isSome then 2 else 0

/-- The outlets of coil channels that left INRUSH or ON for another state than OFF handle it as an H fault (R372): end
cause 21 for a supply fault, 16 for a disabled safe output, 14 otherwise. -/
def coilFault (cause : Int) (before : State) (l : List Nat) (s : State) : State :=
  s.forN 24 fun n u =>
    let fell := [coilPlus n, coilMinus n].any fun c => l.contains c && lsDriving before c && !lsDriving u c &&
      u.get Obj.lsState c != lsOff
    if fell ∧ 4 ≤ u.get Obj.outletState n ∧ u.get Obj.outletState n ≤ 8 then hardwareStop n cause u else u

/-- A channel latches (R360, R363, R364), and the outlet of a coil hears of it. -/
def latchOff (c : Nat) (cause : Int) (s : State) : State := coilFault 14 s [c] (latchChannel c lsLatched cause s)

/-- A host write to 0x7000:02 of a channel with another command source is refused with 0x03; a duty other than 0 and
10 000 is for drive channels alone. -/
def hostCommand (c : Nat) (v : Int) (s : State) : Except Nat State :=
  if commandSource s c ≠ 0 then .error 3
  else if ¬ isDrive c ∧ v ≠ 0 ∧ v ≠ 10000 then .error 5
  else .ok (commandChannel c v s)

/-- A host write to 0x7000:02 (R356). -/
def execLoadSwitchCommand (r : Req) (channel : Fin 96) (data : List Byte) (s : State) : Out :=
  s.run (hostWrite r Obj.lsCommand channel 0 data fun _ t => hostCommand channel (ofBytes data) t)

/-- A current [0.01 A] above the hard-short threshold latches a driving channel with cause 1 (R360). -/
def execHardShort (channel : Fin 96) (current : Nat) (s : State) : Out :=
  s.run fun s =>
    let t := s.set Obj.lsCurrent current channel
    if lsDriving t channel ∧ hardShort channel < current then latchOff channel 1 t else t

/-- A current above the inrush threshold for 100 µs in INRUSH latches the channel with cause 2 (R360). -/
def execInrushOverCurrent (channel : Fin 96) (current : Nat) (s : State) : Out :=
  s.run fun s =>
    let t := s.set Obj.lsCurrent current channel
    if t.get Obj.lsState channel = lsInrushing ∧ t.get Obj.lsInrush channel < current then latchOff channel 2 t else t

/-- A current above the steady threshold for 100 µs of on-phase in ON latches the channel with cause 3 (R360). -/
def execSteadyOverCurrent (channel : Fin 96) (current : Nat) (s : State) : Out :=
  s.run fun s =>
    let t := s.set Obj.lsCurrent current channel
    if t.get Obj.lsState channel = lsOn ∧ t.get Obj.lsSteady channel < current then latchOff channel 3 t else t

/-- The inrush window of a channel ends: ON (R359). -/
def execInrushWindowEnd (channel : Fin 96) (s : State) : Out :=
  s.run fun s =>
    if s.get Obj.lsState channel = lsInrushing ∧ s.get Reg.lsSince channel + s.get Obj.lsWindow channel * millisecond ≤ s.now then
      s.set Obj.lsState lsOn channel
    else s

/-- The junction [0.1 °C] reaches 175 °C: latch mode latches with cause 4; restart mode waits, or latches with cause 5 when
the restarts of the last 60 s have reached the retry limit (R363, R364). -/
def execThermalShutdown (channel : Fin 96) (junction : Nat) (s : State) : Out :=
  s.run fun s =>
    let t := s.set Obj.lsJunction junction channel
    if lsDriving t channel ∧ 1750 ≤ junction then
      if t.is Obj.lsThermalMode channel then latchOff channel 4 t
      else if t.get Obj.lsRetryLimit channel ≤ (recentRetries t channel).length then latchOff channel 5 t
      else coilFault 14 t [channel.val] (t.set Obj.lsState lsThermalWait channel)
    else t

/-- The restarts of the last 60 s, as 0x7000:10 shows them (R364). -/
def keepRetries (c : Nat) (l : List Int) (s : State) : State := (s.setSeq Reg.lsRetries l c).set Obj.lsRestarts l.length c

/-- A waiting channel whose junction has fallen to 150 °C restarts with a new inrush window, and the restart counts (R363,
R364). A coil channel waits its turn by R370. -/
def restartCooled (c : Nat) (s : State) : State :=
  if s.get Obj.lsState c = lsThermalWait ∧ s.get Obj.lsJunction c ≤ 1500 then
    if s.get Obj.lsCommand c = 0 ∨ ¬ isDriving s then s.set Obj.lsState lsOff c
    else if ¬ lsWanted s c ∨ ¬ lsSupplied s c ∨ coilBlocked s c then s
    else enterInrush c (keepRetries c ((s.now : Int) :: recentRetries s c) s)
  else s

/-- The junction of a channel falls to 150 °C (R363). -/
def execJunctionCooled (channel : Fin 96) (junction : Int) (s : State) : Out :=
  s.run fun s => restartCooled channel (s.set Obj.lsJunction junction channel)

/-- A shed channel restarts (R365, R369). -/
def restartShed (c : Nat) (s : State) : State :=
  if lsWanted s c ∧ lsSupplied s c ∧ ¬ coilBlocked s c then enterInrush c (s.set Obj.lsCause 0 c) else s

/-- A clear: a latched channel enters OFF and follows its command, with event 0x7011; refused while its junction is above
150 °C. A shed channel restarts. In any other state nothing happens (R365). While its supply is out of range the cleared
channel is in SUPPLY_OFF. -/
def clearChannel (c : Nat) (s : State) : Except Nat State :=
  let st := s.get Obj.lsState c
  if st = lsLatched then
    if 1500 < s.get Obj.lsJunction c then .error 6
    else
      let t := keepRetries c [] ((s.set Obj.lsCause 0 c).set Obj.lsState lsOff c)
      let t := logEvent 0x7011 srcAp1 (data8 [c]) t
      .ok (if ¬ lsSupplied t c then t.set Obj.lsState lsSupplyOff c
        else if t.get Obj.lsCommand c ≠ 0 then tryTurnOn c t else t)
  else if st = lsShed then .ok (restartShed c s)
  else .ok s

/-- A write of 1 to 0x7000:0C (R365). -/
def execClearLatch (r : Req) (channel : Fin 96) (s : State) : Out :=
  s.run (hostWrite r Obj.lsClear channel 0 [1] fun _ t => clearChannel channel t)

/-! ### Groups -/

/-- The channel of a group that entered INRUSH most recently, among those whose output is on (R368). -/
def latestOn (s : State) (g : Nat) : Option Nat :=
  ((channelsOf g).filter (lsDriving s)).foldl (fun (best : Option Nat) c =>
    match best with
    | none => some c
    | some b => if s.get Reg.lsEntered b < s.get Reg.lsEntered c then some c else some b) none

/-- The measured current of a group [0.1 A]: an excess ends when it is back at the rating, the hold of coil turn-ons when
it is below 80 % of it (R368). -/
def groupMeasured (g : Nat) (current : Int) (s : State) : State :=
  let t := s.set Obj.groupCurrent current g
  let t := if current ≤ groupRating g ∧ 4 ≤ g then (t.setBit Obj.groupFlags 2 false g).set Reg.groupShedAt 0 g else t
  if 10 * current < 8 * groupRating g ∧ g < 4 then (t.setBit Obj.groupFlags 2 false g).set Reg.groupHold 0 g else t

/-- Event 0x2151 of a group, with the channels shed. -/
def groupEvent (g : Nat) (current : Int) (shed : List Int) (s : State) : State :=
  logEvent 0x2151 srcSupply (data8 [g] ++ beBytes 2 current ++ data8 shed) s

/-- A group over its rating for 100 ms: a coil group holds its turn-ons; another sheds the channel that entered INRUSH most
recently, and one more every further 100 ms (R368). -/
def groupOver (g : Nat) (s : State) : State :=
  let current := s.get Obj.groupCurrent g
  let fresh := !s.bit Obj.groupFlags 2 g
  let t := (s.setBit Obj.groupFlags 2 true g).when fresh fun u => u.inc Obj.overCurrentEpisodes g
  if g < 4 then (if fresh then groupEvent g current [] (t.set Reg.groupHold 1 g) else t)
  else if t.get Reg.groupShedAt g ≠ 0 ∧ (t.now : Int) + 1 < t.get Reg.groupShedAt g + 100 * millisecond then t
  else
    match latestOn t g with
    | none => if fresh then groupEvent g current [] t else t
    | some c =>
      let u := (t.set Reg.lsRank (t.get Reg.lsRank + 1)).set Reg.lsShedRank (t.get Reg.lsRank + 1) c
      let u := (latchChannel c lsShed 6 u).set Reg.groupShedAt (u.now + 1) g
      groupEvent g current [c] u

/-- The current of a group has stood above its rating for 100 ms (R368). -/
def execGroupOverCurrent (group : Fin 8) (current : Nat) (s : State) : Out :=
  s.run fun s =>
    let t := groupMeasured group current s
    if groupRating group < current then groupOver group t else t

/-- The voltage of a group [0.01 V] is measured: below its level it raises flag [0] and event 0x2150 once per episode, and
switches nothing (R368). -/
def execGroupUndervoltage (group : Fin 8) (voltage : Nat) (s : State) : Out :=
  s.run fun s =>
    let t := s.set Obj.groupVoltage voltage group
    if voltage < t.get Obj.undervoltageLevel group then
      logEpisode 0x2150 srcSupply group (data8 [group.val] ++ beBytes 2 voltage) (t.setBit Obj.groupFlags 0 true group)
    else endEpisode 0x2150 group (t.setBit Obj.groupFlags 0 false group)

/-- The channel of a group that was shed first, among the drive channels of cooling functions (R369). -/
def firstShed (s : State) (g : Nat) : Option Nat :=
  ((channelsOf g).filter fun c => s.get Obj.lsState c == lsShed && commandSource s c == 2).foldl
    (fun (best : Option Nat) c =>
      match best with
      | none => some c
      | some b => if s.get Reg.lsShedRank c < s.get Reg.lsShedRank b then some c else some b) none

/-- A group whose current has stayed below 80 % of its rating for 1 s restarts the first shed channel of a cooling
function, and one further such channel every 1 s: event 0x7014 (R369). -/
def execShedRestart (group : Fin 8) (current : Nat) (s : State) : Out :=
  s.run fun s =>
    let t := groupMeasured group current s
    if 10 * (current : Int) < 8 * groupRating group ∧
        (t.get Reg.groupRestartAt group = 0 ∨ t.get Reg.groupRestartAt group + second ≤ t.now + 1) then
      match firstShed t group with
      | some c =>
        if lsWanted t c ∧ lsSupplied t c then
          logEvent 0x7014 srcAp1 (data8 [c] ++ beBytes 2 current) (restartShed c (t.set Reg.groupRestartAt (t.now + 1) group))
        else t
      | none => t
    else t

/-- The held turn-on of a coil group whose command became non-zero first. -/
def firstHeld (s : State) (g : Nat) : Option Nat :=
  ((channelsOf g).filter fun c => lsWanted s c && lsSupplied s c && (s.get Obj.lsState c == lsOff ||
      (s.get Obj.lsState c == lsThermalWait && s.get Obj.lsJunction c ≤ 1500))).foldl
    (fun (best : Option Nat) c =>
      match best with
      | none => some c
      | some b => if s.get Reg.lsWant c < s.get Reg.lsWant b then some c else some b) none

/-- With no other channel of the coil group in INRUSH, and the group's turn-ons not held, the next held turn-on enters
INRUSH (R368, R370). The group current is measured with it [0.1 A]. -/
def execCoilTurnOnRelease (group : Fin 4) (current : Nat) (s : State) : Out :=
  s.run fun s =>
    let t := groupMeasured group current s
    match firstHeld t group with
    | some c => if coilBlocked t c then t else if t.get Obj.lsState c = lsThermalWait then restartCooled c t else enterInrush c t
    | none => t

/-! ### Supply faults -/

/-- A supply fault, bit `b` of its causes, takes channels into SUPPLY_OFF (R371, R372). -/
def supplyFault (b : Nat) (l : List Nat) (s : State) : State :=
  coilFault (if b = 3 then 16 else 21) s l (s.forL l fun c u => supplyOff c b u)

/-- A supply fault of channels ends (R372). -/
def supplyReturn (b : Nat) (l : List Nat) (s : State) : State := s.forL l fun c u => supplyBack c b u

/-- All channels. -/
def allChannels : List Nat := List.range 96

/-- A group supply [0.01 V] above 36.0 V: SUPPLY_OFF, flag [1], event 0x2152 (R371). -/
def execGroupOverVoltage (group : Fin 8) (voltage : Nat) (s : State) : Out :=
  s.run fun s =>
    let t := s.set Obj.groupVoltage voltage group
    if 3600 < voltage ∧ ¬ t.bit Obj.groupFlags 1 group then
      supplyFault 0 (channelsOf group)
        (logEvent 0x2152 srcSupply (data8 [group.val] ++ beBytes 2 voltage) (t.setBit Obj.groupFlags 1 true group))
    else t

/-- The load ground lies more than 1.5 V [0.01 V] above logic ground: every channel off, event 0x7013 (R371). -/
def execLossOfGround (offset : Nat) (s : State) : Out :=
  s.run fun s =>
    if 150 < offset ∧ ¬ s.is Reg.groundLost then
      supplyFault 1 allChannels (logEvent 0x7013 srcSupply (beBytes 2 offset) (s.set Reg.groundLost 1))
    else s

/-- A group supply below 34.0 V for 10 ms returns from the fault of R371. -/
def groupBack (g : Nat) (voltage : Nat) (s : State) : State :=
  let t := s.set Obj.groupVoltage voltage g
  if voltage < 3400 ∧ t.bit Obj.groupFlags 1 g then supplyReturn 0 (channelsOf g) (t.setBit Obj.groupFlags 1 false g) else t

/-- A supply fault has ended for 10 ms: the supply of `group` is below 34.0 V, or, with `ground`, the load ground is below
0.5 V [0.01 V]. Each channel follows its command in force, with a new inrush window (R371, R372). -/
def execSupplyFaultReturn (ground : Bool) (group : Fin 8) (voltage : Nat) (s : State) : Out :=
  s.run fun s =>
    if ground then
      (if voltage < 50 ∧ s.is Reg.groundLost then supplyReturn 1 allChannels (s.set Reg.groundLost 0) else s)
    else groupBack group voltage s

/-! ### Off-state test -/

/-- The result of an off-state reading [0.1 V] (R366). -/
def offStateOf (u : Nat) : Int := if u < 10 then 1 else if u < 80 then 2 else 3

/-- The off-state test of one channel: a result is taken when two consecutive rounds agree; each change to open load or
short to supply logs event 0x7012. A module that does not drive tests its own switch alone, and shows 0 (R366, R367). -/
def offStateTest (c u : Nat) (s : State) : State :=
  if ¬ isDriving s then s.set Obj.lsOffResult 0 c
  else
    let st := s.get Obj.lsState c
    if s.is Obj.lsDiag c ∧ (st = lsOff ∨ st = lsLatched ∨ st = lsShed) then
      let v := offStateOf u
      let agreed := s.get Reg.lsDiagLast c = v
      let t := s.set Reg.lsDiagLast v c
      if agreed ∧ s.get Obj.lsOffResult c ≠ v then
        let t := t.set Obj.lsOffResult v c
        if v = 1 then t else logEvent 0x7012 srcAp1 (data8 [c, v]) t
      else t
    else s

end Sys2Proof.Machine
end

