-- ==== Sys2Proof/Machine/Hardpan.lean ====
section
/-!
DEFINITION. The safety controller: safe inputs, safety functions, safe outputs, brake tests and their configuration (Hardpan
safety functions).
-/

namespace Sys2Proof.Machine

/-! ### Configuration (R376, R388) -/

/-- Kind and source of a safe input, from its configuration byte (Table 16.2). -/
def siKind (v : Int) : Nat := v.toNat % 8
def siSource (v : Int) : Nat := v.toNat / 8 % 4

/-- A configuration byte that the module accepts (Table 16.2). -/
def siConfigFits (v : Int) : Bool := v < 32 && siKind v ≤ 4 && siSource v ≤ 2

/-- The bytes of the pending configuration, in the order of their indexes and subindexes, over which its CRC runs. -/
def pendingConfig (s : State) : List Byte :=
  ((List.range 8).flatMap fun n => beBytes 1 (s.get Obj.siConfig 0 n)) ++
  ((List.range 8).flatMap fun k => data8 [s.get Obj.inputMask k, s.get Obj.outputMask k, s.get Obj.restartMode k]) ++
  ((List.range 2).flatMap fun m => beBytes 2 (s.get Obj.brakeTestHoldTime m) ++ beBytes 2 (s.get Obj.allowedEncoderCount m))

/-- 0xA040:01. -/
def pendingCrc (s : State) : Nat := crc32 (pendingConfig s)

/-- The cells of the pending configuration. -/
def safetyCells : List Key :=
  ((List.range 8).map fun n => Obj.siConfig.key 0 n) ++
  ((List.range 8).flatMap fun k => [Obj.inputMask.key k 0, Obj.outputMask.key k 0, Obj.restartMode.key k 0]) ++
  ((List.range 2).flatMap fun m => [Obj.brakeTestHoldTime.key m 0, Obj.allowedEncoderCount.key m 0])

/-- Input `n` in use: its kind and source. -/
def kindInUse (s : State) (n : Nat) : Nat := siKind (s.get Reg.siInUse n)
def sourceInUse (s : State) (n : Nat) : Nat := siSource (s.get Reg.siInUse n)
def isOssd (s : State) (n : Nat) : Bool := kindInUse s n != 0 && sourceInUse s n == 2
def isGuard (s : State) (n : Nat) : Bool := kindInUse s n == 2

/-- The pending configuration watches a guard (R382). -/
def guardPending (s : State) : Bool := (List.range 8).any fun n => siKind (s.get Obj.siConfig 0 n) == 2

/-- 0xA041:01: the guard inputs not yet seen open and then closed (R382). -/
def outstandingGuards (s : State) : Int :=
  ((List.range 8).map fun n => if isGuard s n && s.get Reg.guardSeen n != 2 then (2 : Int) ^ n else 0).sum

/-! ### Inputs (R377) -/

/-- Input `n` reads closed and is free of fault. -/
def inputGood (s : State) (n : Nat) : Bool := s.bit Obj.safeInputStates n && !s.bit Obj.inputFaults n

/-- The function watches the input. -/
def watches (s : State) (k n : Nat) : Bool := s.bit Reg.sfInputsInUse n k

/-- The function governs the output. -/
def governs (s : State) (k o : Nat) : Bool := s.bit Reg.sfOutputsInUse o k

/-- A sample of one input: its state changes when three consecutive samples agree; an unused input reads open. A guard
input is seen open, then closed, for the start-up test. -/
def sampleInput (n : Nat) (high : Bool) (s : State) : State :=
  let l := ((if high then 1 else 0) :: s.seq Reg.siSamples n).take 3
  let t := s.setSeq Reg.siSamples l n
  if kindInUse s n = 0 then t.setBit Obj.safeInputStates n false
  else
    let t := if l = [1, 1, 1] then t.setBit Obj.safeInputStates n true
      else if l = [0, 0, 0] then t.setBit Obj.safeInputStates n false else t
    if isGuard t n then
      if l = [0, 0, 0] ∧ t.get Reg.guardSeen n = 0 then t.set Reg.guardSeen 1 n
      else if l = [1, 1, 1] ∧ t.get Reg.guardSeen n = 1 then t.set Reg.guardSeen 2 n else t
    else t

/-- An input fault is confirmed: bit n of 0xA021:02, event 0xA012 with the cause, and a reset edge is needed (R380). -/
def confirmFault (n : Nat) (cause : Int) (s : State) : State :=
  if s.bit Obj.inputFaults n then s
  else
    let t := (s.setBit Obj.inputFaults n true).set Reg.siPasses 0 n
    let t := t.forN 8 fun k u => if watches u k n then u.set Reg.sfNeedsEdge 1 k else u
    logEvent 0xA012 srcHp (data8 [n, cause]) t

/-- An input fault clears after its passes (R380). -/
def countPass (n : Nat) (passed : Bool) (need : Int) (s : State) : State :=
  let v := if passed then s.get Reg.siPasses n + 1 else 0
  let t := s.set Reg.siPasses (min v need) n
  if t.bit Obj.inputFaults n ∧ need ≤ v then t.setBit Obj.inputFaults n false else t

/-- The test pulses of an OSSD input: a fault when none was seen for 1.0 s; the fault clears when 3 consecutive seconds show
one (R379, R380). -/
def judgeOssd (n : Nat) (pulse : Bool) (s : State) : State :=
  if ¬ isOssd s n then s
  else
    let now := s.get Reg.hpCycles
    let t := if pulse then (s.set Reg.ossdAt now n).set Reg.ossdSeen 1 n else s
    let t := if t.get Reg.ossdAt n + 1000 ≤ now then confirmFault n 2 t else t
    if now % 1000 = 0 then (countPass n (t.is Reg.ossdSeen n) 3 t).set Reg.ossdSeen 0 n else t

/-- SRST sampled: a reset edge is the fall after a press of 0.1 s to 2.0 s that followed at least 3 low cycles (R378). -/
def sampleReset (high : Bool) (s : State) : Bool × State :=
  let run := s.get Reg.srstHigh
  if high then
    let up := if run ≠ 0 then run + 1 else if 3 ≤ s.get Reg.srstLow then 1 else 0
    let t := s.set Reg.srstLow 0
    if 2000 < up then (false, logEvent 0xA018 srcHp [] (t.set Reg.srstHigh 0)) else (false, t.set Reg.srstHigh up)
  else
    (decide (100 ≤ run), (s.set Reg.srstHigh 0).set Reg.srstLow (min 3 (s.get Reg.srstLow + 1)))

/-! ### Brake tests (R386, R387) -/

/-- No test of the manipulator has passed within 8 h of module time; at time quality 0 every test counts as due. -/
def testDue (s : State) (m : Nat) : Bool :=
  s.get Obj.timeQuality == 0 || s.get Reg.brakePassed m == 0 || s.get Reg.brakePassedAt m + 28800 * (second : Int) < s.time

/-- The host demands an output: SO0 to SO3 need no demand; a brake test enables the torque of its manipulator. -/
def demanded (s : State) (o : Nat) : Bool :=
  o < 4 || s.bit Obj.outputDemand o || (6 ≤ o && s.get Reg.brakePhase (o - 6) != 0)

/-- A fault is latched for the output. -/
def outputFaulted (s : State) (o : Nat) : Bool := s.bit Obj.outputFaults o || s.bit Obj.outputFaults (o + 8)

/-- The output drives. -/
def soOn (s : State) (o : Nat) : Bool := s.bit Obj.safeOutputStates o

/-- Brake release of manipulator `m` is permitted (R385 to R387): no lockout, no output of it stuck on, no test in progress,
and no test due unless the brake is already released or a passed test granted the release. -/
def mayRelease (s : State) (m : Nat) : Bool :=
  s.get Reg.brakeLockout m == 0 && s.get Reg.brakePhase m == 0 && !s.bit Obj.outputFaults (4 + m) &&
  !s.bit Obj.outputFaults (6 + m) && (soOn s (4 + m) || !testDue s m || s.is Reg.brakeGranted m)

/-- The functions of an output allow it: some function governs it, and every one that does is in RUN (R381, R383). -/
def functionsAllow (s : State) (o : Nat) : Bool :=
  ((List.range 8).any fun k => governs s k o) && (List.range 8).all fun k => !governs s k o || s.get Obj.functionState k == 0

/-- No function that governs an output is TRIPPED. -/
def noneTripped (s : State) (o : Nat) : Bool := (List.range 8).all fun k => !governs s k o || s.get Obj.functionState k == 0

/-- R383 and R393. A trip of a function that governs the torque of a manipulator takes its brake output off too. -/
def outputWanted (s : State) (o : Nat) : Bool :=
  functionsAllow s o && !outputFaulted s o && s.get Obj.hpState == 1 && demanded s o && isDriving s && mayEnable s &&
  (o < 4 || 6 ≤ o || (mayRelease s (o - 4) && noneTripped s (o + 2)))

/-- A brake test starts: the torque output is enabled (R386). -/
def startTest (m : Nat) (s : State) : State := (s.set Reg.brakePhase 1 m).set Reg.brakeAt s.now m

/-- A brake test ends without a result (R386). -/
def abortTest (m : Nat) (s : State) : State := s.set Reg.brakePhase 0 m

/-- Coil group `g` loses its supply: its channels enter SUPPLY_OFF with flag [3], and every outlet of it in session handles
an H fault with end cause 16 (R371, Table 7.9). -/
def groupDisabled (g : Nat) (s : State) : State :=
  let t := (s.forL (channelsOf g) fun c u => supplyOff c 3 u).setBit Obj.groupFlags 3 true g
  t.forN 6 fun k u => outletFault (6 * g + k) 16 false u

/-- Its supply returns (R372). -/
def groupEnabled (g : Nat) (s : State) : State := supplyReturn 3 (channelsOf g) (s.setBit Obj.groupFlags 3 false g)

/-- One safe output set as R383 says. A module that does not drive keeps every output off, and its load channels are off
by their role. -/
def setOutput (o : Nat) (s : State) : State :=
  let want := outputWanted s o
  let t := (s.setBit Obj.safeOutputStates o want).when (!want) fun u => u.set Reg.soLowRun 0 o
  let t := if 4 ≤ o ∧ o < 6 ∧ (want ∨ ¬ s.bit Obj.outputDemand o) then t.set Reg.brakeGranted 0 (o - 4) else t
  if 4 ≤ o ∨ ¬ isDriving s then t
  else if want then (if t.bit Obj.groupFlags 3 o then groupEnabled o t else t)
  else if t.bit Obj.groupFlags 3 o then t else groupDisabled o t

/-- Every safe output set. -/
def setOutputs (s : State) : State := s.forN 8 setOutput

/-- A demanded release that waits for a due test starts the test (R387). -/
def startDueTests (s : State) : State :=
  s.forN 2 fun m u =>
    if isDriving u ∧ u.get Obj.hpState = 1 ∧ u.bit Obj.outputDemand (4 + m) ∧ ¬ soOn u (4 + m) ∧ u.get Reg.brakePhase m = 0 ∧
        u.get Reg.brakeLockout m ≠ 2 ∧ (testDue u m ∨ u.get Reg.brakeLockout m = 1) ∧ ¬ u.is Reg.brakeGranted m ∧
        functionsAllow u (4 + m) ∧ functionsAllow u (6 + m) then startTest m u
    else u

/-! ### Functions (R381, R382) -/

/-- Function `k` trips: event 0xA010 with the input; a brake test of its manipulator is aborted (R386). -/
def tripFunction (k n : Nat) (s : State) : State :=
  let t := ((s.set Obj.functionState 1 k).set Reg.sfEdge 0 k).set Reg.sfClosedRun 0 k
  let t := logEvent 0xA010 srcHp (data8 [k, n]) t
  t.forN 2 fun m u => if governs u k (4 + m) ∨ governs u k (6 + m) then abortTest m u else u

/-- Function `k` evaluated, with whether a reset edge falls in this cycle. A function without inputs is not configured, and
stays TRIPPED. -/
def judgeFunction (edge : Bool) (k : Nat) (s : State) : State :=
  let bad := (List.range 8).find? fun n => watches s k n && !inputGood s n
  if s.get Reg.sfInputsInUse k = 0 then s.set Obj.functionState 1 k
  else
    match bad with
    | some n =>
      if s.get Obj.functionState k = 0 then tripFunction k n s else (s.set Reg.sfEdge 0 k).set Reg.sfClosedRun 0 k
    | none =>
      if s.get Obj.functionState k = 0 then s
      else
        let takes := edge && 1 ≤ s.get Reg.sfClosedRun k
        let t := s.set Reg.sfClosedRun (min 100 (s.get Reg.sfClosedRun k + 1)) k
        let t := if takes then (t.set Reg.sfEdge 1 k).set Reg.sfNeedsEdge 0 k else t
        let free := if t.get Reg.sfModeInUse k = 1 then 100 ≤ t.get Reg.sfClosedRun k ∧ ¬ t.is Reg.sfNeedsEdge k
          else t.is Reg.sfEdge k = true
        if t.is Reg.startPassed ∧ free then
          logEvent 0xA011 srcHp (data8 [k]) ((t.set Obj.functionState 0 k).set Reg.sfEdge 0 k)
        else t

/-- The start-up test passes when every guard input has been seen open and then closed: event 0xA016 (R382). -/
def judgeStartUp (s : State) : State :=
  let t := s.set Obj.guardInputsOutstanding (outstandingGuards s)
  if ¬ t.is Reg.startPassed ∧ t.get Obj.guardInputsOutstanding = 0 ∧ ((List.range 8).any fun n => isGuard t n) then
    logEvent 0xA016 srcHp [] (t.set Reg.startPassed 1)
  else t

/-- Every safety function evaluated. -/
def judgeFunctions (edge : Bool) (s : State) : State := s.forN 8 (judgeFunction edge)

/-! ### Output faults (R385) -/

/-- An output fault latches: the output goes off, event 0xA013; stuck on, cause 1, of SO0 to SO3 takes the coils of the
group and its sessions off as well. -/
def outputFault (o : Nat) (cause : Int) (s : State) : State :=
  let b := if cause = 1 then o else o + 8
  if s.bit Obj.outputFaults b then s
  else
    let t := s.setBit Obj.outputFaults b true
    let t := submitObject wrHp jkObject Obj.outputFaults 0 0 true (logEvent 0xA013 srcHp (data8 [o, cause]) t)
    let t := setOutput o t
    if cause = 1 ∧ o < 4 then
      t.forN 6 fun k u =>
        let n := 6 * o + k
        let u := if outletInSession u n ∨ (u.get Obj.outletState n ≠ 0 ∧ u.get Obj.outletState n ≠ 9) then emergencyStop n 16 u else u
        refreshAvail n (commandCoils n false false u)
    else t

/-- The read-back of every output in one cycle: `above5` and `above18` are masks of the outputs; an output that is off must
stay below 5 V, one that is on must not lie below 18 V in two consecutive cycles. In a pair the other module's outputs show
on the read-back of a module that does not drive, which judges nothing here. -/
def judgeReadBack (above5 above18 : Nat) (before : State) (s : State) : State :=
  let t := (s.set Obj.readBackAbove18V above18).set Reg.soAbove5 above5
  if ¬ isDriving t then t
  else t.forN 8 fun o u =>
    if ¬ soOn before o ∧ ¬ soOn u o then (if above5.testBit o then outputFault o 1 u else u)
    else if soOn before o ∧ soOn u o then
      if above18.testBit o then u.set Reg.soLowRun 0 o
      else if 1 ≤ u.get Reg.soLowRun o then outputFault o 2 (u.set Reg.soLowRun 0 o)
      else u.set Reg.soLowRun 1 o
    else u

/-! ### The commands -/

/-- HP leaves its start (Table 16.7): the first cycle after a reset. -/
def hpStart (s : State) : State := if s.get Obj.hpState = 0 then s.set Obj.hpState 1 else s

/-- The cycle: inputs and SRST sampled, functions evaluated, outputs set, read-back judged (R374). `levels` are the safe
input levels, `pulses` the OSSD inputs that showed a test pulse of 0.2 ms to 1.0 ms since the last cycle. -/
def hpCycle (levels : Nat) (srst : Bool) (pulses above5 above18 : Nat) (s : State) : State :=
  let t := hpStart (atBoundary .hpCycle s)
  if t.get Obj.hpState = 2 then t
  else
    let t := t.set Reg.hpCycles (t.get Reg.hpCycles + 1)
    let t := t.forN 8 fun n u => judgeOssd n (pulses.testBit n) (sampleInput n (levels.testBit n) u)
    let (edge, t) := sampleReset srst t
    let t := judgeFunctions edge (judgeStartUp t)
    let u := setOutputs (startDueTests t)
    judgeReadBack above5 above18 t u

/-- One HP cycle (R374). -/
def execHpCycle (levels : Fin 256) (srst : Bool) (pulses above5 above18 : Fin 256) (s : State) : Out :=
  s.run (hpCycle levels srst pulses above5 above18)

/-- A test pulse of source `k`: each contact input it feeds must read low; one that reads high is suspect, and after two
repeats that read high too its fault is confirmed (R379, R380). -/
def testPulse (k high : Nat) (s : State) : State :=
  let t := s.set Reg.tpAt (s.get Reg.hpCycles) k
  let t := t.forN 8 fun n u =>
    if kindInUse u n = 0 ∨ sourceInUse u n ≠ k then u
    else if high.testBit n then
      let u := (countPass n false 10 u).set Reg.siSuspect (min 3 (u.get Reg.siSuspect n + 1)) n
      if u.get Reg.siSuspect n = 3 then confirmFault n 1 u else u
    else countPass n true 10 (u.set Reg.siSuspect 0 n)
  setOutputs (judgeFunctions false t)

/-- The pulse of source `k` is due: at each multiple of 100 cycles, TPB 50 later, and 4 cycles after a pulse that left an
input suspect (R379, R380). -/
def pulseDue (s : State) (k : Nat) : Bool :=
  s.get Reg.hpCycles % 100 == 50 * (k : Int) ||
  (s.get Reg.hpCycles == s.get Reg.tpAt k + 4 &&
    (List.range 8).any fun n => sourceInUse s n == k && (s.get Reg.siSuspect n == 1 || s.get Reg.siSuspect n == 2))

/-- A test source pulses off; `high` tells the inputs that read high (R379). -/
def execTestPulse (source : Fin 2) (high : Fin 256) (s : State) : Out :=
  s.run fun s => if s.get Obj.hpState ≠ 2 ∧ pulseDue s source then testPulse source high s else s

/-- The off-pulse of an output at its instant: the read-back must be below 5 V while the driver is off, and above 18 V after
(R384, R385). In a module that does not drive, a read-back shows its own switch path instead, and a failure enters the
health report (R389). -/
def execOffPulse (output : Fin 8) (below5 above18 : Bool) (s : State) : Out :=
  s.run fun s =>
    if s.get Obj.hpState ≠ 1 ∨ s.get Reg.hpCycles % 1000 ≠ 125 * (output.val : Int) then s
    else if ¬ isDriving s then (if below5 then s else healthItem 8 (0x100 + output.val) s)
    else if ¬ soOn s output then s
    else if ¬ below5 then outputFault output 1 s
    else if ¬ above18 then outputFault output 2 s
    else s

/-- HP safe state: every safe output off, HP halts, event 0xA014 with the row of Table 16.1 (R375). -/
def enterSafeState (diagnostic : Int) (s : State) : State :=
  if s.get Obj.hpState = 2 then s
  else setOutputs (logEvent 0xA014 srcHp (data8 [diagnostic]) ((s.set Obj.hpState 2).forN 2 fun m u => abortTest m u))

/-- The rows of Table 16.1 whose failure leads to HP safe state: lockstep, clock, March test, CRC, supply rails. -/
def diagnosticRow (d : Nat) : Int := [1, 2, 4, 5, 6].getD d 1

/-- A diagnostic of Table 16.1 fails (R375). -/
def execHpSafeState (diagnostic : Fin 5) (s : State) : Out := s.run (enterSafeState (diagnosticRow diagnostic))

/-- A reset of HP alone: the VOL registers of HP return to their defaults, and the start-up test and a reset edge are needed
again (R375, R425). -/
def resetHp (s : State) : State :=
  let t := ((s.set Obj.hpState 0).set Obj.safeInputStates 0).set Obj.inputFaults 0
  let t := ((t.set Reg.startPassed 0).set Reg.hpCycles 0).set Obj.readBackAbove18V 0
  let t := ((t.set Reg.srstLow 0).set Reg.srstHigh 0).set Reg.soAbove5 0
  let t := t.forN 8 fun k u =>
    let u := ((u.set Obj.functionState 1 k).set Reg.sfEdge 0 k).set Reg.sfClosedRun 0 k
    let u := ((u.set Reg.sfNeedsEdge 1 k).set Reg.guardSeen 0 k).setSeq Reg.siSamples [] k
    let u := ((u.set Reg.siSuspect 0 k).set Reg.siPasses 0 k).set Reg.soLowRun 0 k
    (u.set Reg.ossdAt 0 k).set Reg.ossdSeen 0 k
  let t := t.forN 2 fun m u => ((abortTest m u).set Reg.brakeGranted 0 m).set Reg.tpAt 0 m
  let t := (t.set Obj.outputDemand 0x0F).set Obj.guardInputsOutstanding (outstandingGuards t)
  setOutputs t

/-- The HP watchdog expires: HP alone is reset, and 0x2002:08 counts it (R425, R427). -/
def execHpWatchdog (s : State) : Out :=
  s.run fun s => resetHp (submitObject wrMp jkObject Obj.hpWatchdogResets 0 0 false (s.inc Obj.hpWatchdogResets))

/-- The host starts a brake test: the brake is engaged, and no test runs (R386). -/
def execStartBrakeTest (r : Req) (manipulator : Fin 2) (s : State) : Out :=
  s.run (hostWrite r Obj.startBrakeTest manipulator 0 [1] fun _ t =>
    if soOn t (4 + manipulator) ∨ t.get Reg.brakePhase manipulator ≠ 0 ∨ t.get Obj.hpState ≠ 1 then .error 6
    else .ok (setOutputs (startTest manipulator t)))

/-- The host has applied the test torque: the hold time begins at encoder count `count` (R386). -/
def execTestTorqueApplied (r : Req) (manipulator : Fin 2) (count : Int) (s : State) : Out :=
  s.run (hostWrite r Obj.testTorqueApplied manipulator 0 [1] fun _ t =>
    if t.get Reg.brakePhase manipulator ≠ 1 then .error 6
    else .ok (((t.set Reg.brakePhase 2 manipulator).set Reg.brakeAt t.now manipulator).set Reg.brakeCount count manipulator))

/-- A brake test ends with its result, which the module commits itself: event 0xA015. A failure locks the manipulator out; a
pass lifts a lockout that was cleared, and grants a release that waited (R386, R387). -/
def endTest (m : Nat) (passed : Bool) (s : State) : State :=
  let t := ((s.set Reg.brakePhase 0 m).set Obj.brakeTestResult (if passed then 1 else 2) m).set Obj.brakeTestTime s.time m
  let t := if passed then
      let u := (t.set Reg.brakePassed 1 m).set Reg.brakePassedAt t.time m
      let u := if u.get Reg.brakeLockout m = 1 then u.set Reg.brakeLockout 0 m else u
      u.setB Reg.brakeGranted (u.bit Obj.outputDemand (4 + m)) m
    else t.set Reg.brakeLockout 2 m
  let t := submitObject wrHp jkObject Obj.brakeTestResult m 0 false (submitObject wrHp jkObject Obj.brakeTestTime m 0 false t)
  setOutputs (logEvent 0xA015 srcHp (data8 [m, if passed then 1 else 2]) t)

/-- The hold time ends at encoder count `count`: the test passes when the count changed by no more than allowed (R386). -/
def execBrakeTestHoldEnd (manipulator : Fin 2) (count : Int) (s : State) : Out :=
  s.run fun s =>
    if s.get Reg.brakePhase manipulator = 2 ∧ s.get Reg.brakeAt manipulator + s.get Reg.holdInUse manipulator * millisecond ≤ s.now then
      endTest manipulator (|count - s.get Reg.brakeCount manipulator| ≤ s.get Reg.countInUse manipulator) s
    else s

/-- No torque confirmation within 10 s: the test is aborted with no result (R386). -/
def execTorqueConfirmTimeout (manipulator : Fin 2) (s : State) : Out :=
  s.run fun s =>
    if s.get Reg.brakePhase manipulator = 1 ∧ s.get Reg.brakeAt manipulator + 10 * second ≤ s.now then
      setOutputs (abortTest manipulator s)
    else s

/-- A brake test falls due: a release that is demanded and not in effect waits for the test, which HP starts (R387). -/
def execBrakeTestDue (manipulator : Fin 2) (s : State) : Out :=
  s.run fun s => if testDue s manipulator then setOutputs (startDueTests s) else s

/-- A write of 1 to 0xA030:07: a passing test must follow (R386). -/
def execClearBrakeLockout (r : Req) (manipulator : Fin 2) (s : State) : Out :=
  s.run (hostWrite r Obj.clearBrakeLockout manipulator 0 [1] fun _ t =>
    .ok (if t.get Reg.brakeLockout manipulator = 2 then t.set Reg.brakeLockout 1 manipulator else t))

/-- A write of `k` to 0xA022:02: refused while the read-back of SOk is at or above 5 V (R385). -/
def clearOutputFault (o : Nat) (s : State) : Except Nat State :=
  if s.bit Reg.soAbove5 o then .error 6
  else
    let t := (s.setBit Obj.outputFaults o false).setBit Obj.outputFaults (o + 8) false
    let t := submitObject wrHp jkObject Obj.outputFaults 0 0 false t
    let t := if o < 4 then t.forN 6 fun k u => refreshAvail (6 * o + k) u else t
    .ok (setOutputs t)

def execClearOutputFault (r : Req) (data : List Byte) (s : State) : Out :=
  s.run (hostWrite r Obj.clearOutputFault 0 0 data fun _ t => clearOutputFault (ofBytes data) t)

/-- The pending configuration enters use: every function is TRIPPED and the start-up test must pass again; event 0xA017. It is
committed with the confirmation (R388). -/
def confirmSafety (crc : Nat) (s : State) : Except Nat State :=
  if crc ≠ pendingCrc s ∨ ¬ guardPending s then .error 5
  else
    let t := s.forN 8 fun k u =>
      let u := (u.set Reg.siInUse (u.get Obj.siConfig 0 k) k).set Reg.sfInputsInUse (u.get Obj.inputMask k) k
      let u := (u.set Reg.sfOutputsInUse (u.get Obj.outputMask k) k).set Reg.sfModeInUse (u.get Obj.restartMode k) k
      let u := ((u.set Obj.functionState 1 k).set Reg.sfEdge 0 k).set Reg.sfClosedRun 0 k
      let u := (u.set Reg.guardSeen 0 k).set Reg.ossdAt (u.get Reg.hpCycles) k
      (u.set Reg.siSuspect 0 k).set Reg.siPasses 0 k
    let t := t.forN 2 fun m u =>
      ((abortTest m u).set Reg.holdInUse (u.get Obj.brakeTestHoldTime m) m).set Reg.countInUse (u.get Obj.allowedEncoderCount m) m
    let t := (t.set Reg.startPassed 0).set Obj.inputFaults 0
    let t := (t.set Obj.configurationCRCInUse crc).set Obj.pendingConfigurationCRC crc
    let t := t.set Obj.guardInputsOutstanding (outstandingGuards t)
    let t := { t with cfgRegs := safetyCells.foldl (fun l k => storeInsert k
      (match objById k.o with | some o => t.get o k.i k.j | none => 0) l) t.cfgRegs }
    let t := submitObject wrHp jkObject Obj.configurationCRCInUse 0 0 true (undirty safetyCells t)
    .ok (setOutputs (logEvent 0xA017 srcHp (data32 crc) t))

def execConfirmConfiguration (r : Req) (data : List Byte) (s : State) : Out :=
  s.run (hostWrite r Obj.confirmConfiguration 0 0 data fun _ t => confirmSafety (ofBytes data) t)

/-- The host demand for SO4 to SO7; 0 in bits [3:0] is refused (R383, Table 16.7). -/
def demandOutputs (v : Nat) (t : State) : Except Nat State :=
  if v % 16 ≠ 15 then .error 5 else .ok (setOutputs (startDueTests (t.set Obj.outputDemand v)))

def execOutputDemand (r : Req) (data : List Byte) (s : State) : Out :=
  s.run (hostWrite r Obj.outputDemand 0 0 data fun _ t => demandOutputs (ofBytes data) t)

end Sys2Proof.Machine
end

