-- ==== Sys2Proof/Machine/Journal.lean ====
section
/-!
DEFINITION. The journal: commits, the commit ring, its cleaner and archive, and the mount at start-up (Processors, memory
banks and journal; retained state).
-/

namespace Sys2Proof.Machine

/-! ### What is kept -/

/-- The register of a cell. -/
def regOf (k : Key) : Option Obj :=
  match objTable.find? fun o => o.id == k.o with
  | some o => some o
  | none => regTable.find? fun o => o.id == k.o

/-- A cell of a register with a property. -/
def cellIs (p : Obj → Bool) (k : Key) : Bool :=
  match regOf k with
  | some o => p o
  | none => false

/-- The listed cells of the registers with a property. -/
def keptOf (p : Obj → Bool) (s : State) : Kept :=
  { regs := storeCanon (s.regs.filter fun e => cellIs p e.1)
    octs := storeCanon (s.octs.filter fun e => cellIs p e.1)
    seqs := storeCanon (s.seqs.filter fun e => cellIs p e.1)
    logs := storeCanon (s.logs.filter fun e => cellIs p e.1) }

/-- The part of an image with a property. -/
def Kept.only (p : Obj → Bool) (m : Kept) : Kept :=
  { regs := m.regs.filter fun e => cellIs p e.1
    octs := m.octs.filter fun e => cellIs p e.1
    seqs := m.seqs.filter fun e => cellIs p e.1
    logs := m.logs.filter fun e => cellIs p e.1 }

/-- Two images of different cells together. -/
def Kept.join (a b : Kept) : Kept :=
  { regs := storeCanon (a.regs ++ b.regs)
    octs := storeCanon (a.octs ++ b.octs)
    seqs := storeCanon (a.seqs ++ b.seqs)
    logs := storeCanon (a.logs ++ b.logs) }

/-- The number of cells of an image. -/
def Kept.count (m : Kept) : Nat := m.regs.length + m.octs.length + m.seqs.length + m.logs.length

/-- The cells of a state in place of those it holds. -/
def State.takeKept (s : State) (m : Kept) : State :=
  { s with
    regs := m.regs ++ s.regs, octs := m.octs ++ s.octs
    seqs := m.seqs ++ s.seqs, logs := m.logs ++ s.logs }

/-- The state without the cells with a property. -/
def State.dropCells (s : State) (p : Obj → Bool) : State :=
  { s with
    regs := s.regs.filter (fun e => !cellIs p e.1), octs := s.octs.filter (fun e => !cellIs p e.1)
    seqs := s.seqs.filter (fun e => !cellIs p e.1), logs := s.logs.filter (fun e => !cellIs p e.1)
    reals := s.reals.filter (fun e => !cellIs p e.1) }

/-- The place in the ring and the archive, which lie in the stores themselves. -/
def isPlace (o : Obj) : Bool := [Reg.ringAt, Obj.ringWraps, Reg.archiveErases].any fun x => x.id == o.id

/-- What the module commits itself. -/
def committedBySelf (o : Obj) : Bool := o.cls == .per && o.own && !isPlace o

/-- The metering, slot and extreme registers, which the journal holds a copy of (R225, R434). -/
def isMeter (o : Obj) : Bool :=
  [Reg.dmSum, Reg.afSum, Reg.dmTariff, Reg.afTariff, Reg.siteTariff, Obj.dcHighest, Obj.dcHighestTime, Obj.overloadTime,
   Obj.theftCharge, Obj.afExtreme, Obj.afExtremeTime].any fun x => x.id == o.id

/-- Battery-domain registers. -/
def isBat (o : Obj) : Bool := o.cls == .bat

/-- The retained state that a commit started now leaves. -/
def imageNow (meters : Bool) (s : State) : Kept :=
  (keptOf committedBySelf s).join (if meters then keptOf isMeter s else s.journal.only isMeter)

/-! ### Entries -/

/-- Writer, kind, key, and subindex of an item: what supersession goes by (R449). -/
def itemName (it : List Byte) : List Byte := it.take 4 ++ (it.drop 6).take 2

/-- The kind of an item. -/
def itemKind (it : List Byte) : Nat := ofBytes ((it.drop 1).take 1)

/-- The later item of a name supersedes the earlier ones (R449). -/
def superseded : List (List Byte) → List (List Byte)
  | [] => []
  | a :: t => if t.any (fun b => itemName b == itemName a) then superseded t else a :: superseded t

/-- The items of an entry's bytes; the fuel bounds their number. -/
def itemsIn : Nat → List Byte → List (List Byte)
  | 0, _ => []
  | n + 1, b =>
    if b.length < 8 then []
    else
      let len := ofBytes ((b.drop 4).take 2)
      let whole := 8 + (len + 7) / 8 * 8
      b.take whole :: itemsIn n (b.drop whole)

/-- The items of a commit entry (Table 19.6). -/
def entryItems (e : List Byte) : List (List Byte) := itemsIn 4096 ((e.drop 32).take (e.length - 36))

/-- A commit entry (Table 19.6); its length is a multiple of 8, so 4 bytes of zeros stand before the CRC. -/
def commitEntry (seq time : Int) (flags : Nat) (items : List (List Byte)) : List Byte :=
  let body := items.flatten
  let len := 40 + body.length
  let head := beBytes 4 0x4A524E4C ++ beBytes 8 seq ++ beBytes 8 time ++ beBytes 2 items.length ++ beBytes 2 flags ++
    beBytes 4 len ++ [0, 0, 0, 0]
  let b := head ++ body ++ [0, 0, 0, 0]
  b ++ beBytes 4 (crc32 b)

/-- The commit sequence of an entry. -/
def entryCommit (e : List Byte) : Int := ofBytes ((e.drop 4).take 8)

/-- Size of the commit ring, and its bytes in use [bytes] (R451). -/
def ringSize : Nat := 1572864
def ringUsed (s : State) : Nat := (s.ring.map List.length).sum

/-- The size of the archive: its good sectors less their headers (R456). -/
def archiveSize (s : State) : Nat :=
  (256 - ((s.seq Reg.badSectors).filter fun x => 768 ≤ x).length) * (65536 - 12)
def archiveUsed (s : State) : Nat := (s.archive.map List.length).sum

/-- Immutable items (R450). -/
def isImmutable (it : List Byte) : Bool := itemKind it == jkEvent || itemKind it == jkBoundary || itemKind it == jkRecord

/-- An archived item that is still held (R456). -/
def isHeld (s : State) (it : List Byte) : Bool :=
  let p := (it.drop 8).take (ofBytes ((it.drop 4).take 2))
  if itemKind it = jkRecord then (s.log Reg.recordStore).contains p && !isCollected s p
  else if itemKind it = jkEvent then (s.log Reg.eventRing).contains p
  else (s.log Reg.boundaryRing).contains p

/-- The oldest items of the archive, filling one sector. -/
def oldestSector : Nat → List (List Byte) → List (List Byte)
  | _, [] => []
  | room, a :: t => if room < a.length then [] else a :: oldestSector (room - a.length) t

/-- The archive kept within its sectors: the oldest sector is erased, what is still held in it is copied forward (R456). -/
def trimArchive : Nat → State → State
  | 0, s => s
  | n + 1, s =>
    if archiveUsed s ≤ archiveSize s then s
    else
      let old := oldestSector (65536 - 12) s.archive.reverse
      let rest := s.archive.reverse.drop old.length
      let t := { s with archive := (rest ++ old.filter (isHeld s)).reverse }
      let t := t.set Reg.archiveErases (t.get Reg.archiveErases + 1)
      trimArchive n (t.set Obj.highestSectorEraseCount ((t.get Reg.archiveErases + 255) / 256))

/-- The cleaner clears the oldest entry (R450): superseded items go, immutable items move to the archive, the others are
copied forward in a cleaner commit. It needs the flash window for what it moves (R451). -/
def cleanOldest (s : State) : Option State :=
  match s.ring.getLast? with
  | none => none
  | some e =>
    let rest := s.ring.dropLast
    let later := rest.flatMap entryItems
    let current := (entryItems e).filter fun it => isImmutable it || !later.any fun x => itemName x == itemName it
    let moved := current.filter isImmutable
    let copied := current.filter fun it => !isImmutable it
    if moved ≠ [] ∧ s.get Obj.flashWritesPermitted = 0 then none
    else
      let t := { s with ring := rest, archive := moved.reverse ++ s.archive }
      let t := trimArchive 256 t
      some (if copied = [] then t
        else
          let seq := t.get Obj.headCommitSequence + 1
          State.set { t with ring := commitEntry seq t.time 4 copied :: t.ring } Obj.headCommitSequence seq)

/-- Room is made for an entry of `len` bytes: true when it can be placed. -/
def makeRoom (len : Nat) : Nat → State → Bool × State
  | 0, s => (ringUsed s + len ≤ ringSize, s)
  | n + 1, s =>
    if ringUsed s + len ≤ ringSize then (true, s)
    else match cleanOldest s with
      | some t => makeRoom len n t
      | none => (false, s)

/-- The fill of the ring and of the archive, with its events (R451): the journal opens again below 85 %. -/
def showFill (s : State) : State :=
  let f : Int := (ringUsed s * 1000 / ringSize : Nat)
  let a : Int := (archiveUsed s * 1000 / 16777216 : Nat)
  let t := (s.set Obj.commitRingFill f).set Obj.archiveFill a
  let t := if 750 ≤ f then logEpisode 0x2436 srcKc 0 [] t else endEpisode 0x2436 0 t
  if t.is Reg.journalFull ∧ f < 850 then journalOpens (t.set Reg.journalFull 0) else t

/-- The journal counts as closed: R204 applies as for a closed window (R451). -/
def journalFills (s : State) : State :=
  if s.is Reg.journalFull then s else stopSessions 13 ((logEvent 0x2437 srcKc [] s).set Reg.journalFull 1)

/-- The last event entry that the journal holds. -/
def journalledEvent (s : State) : Nat :=
  match storeFind s.journal.logs (Reg.eventRing.key 0 0) with
  | some (e :: _) => ofBytes (e.take 4)
  | _ => 0

/-- The items of the event entries made since. -/
def eventItems (s : State) : List (List Byte) :=
  (((s.log Reg.eventRing).takeWhile fun e => journalledEvent s < ofBytes (e.take 4)).reverse).map fun e =>
    itemBytes wrAp1 jkEvent (ofBytes (e.take 2)) (ofBytes ((e.drop 2).take 2)) e

/-- Items are pending (R449). -/
def itemsPending (s : State) : Bool :=
  !(s.log Reg.journalItems).isEmpty || s.is Reg.warningDue || imageNow false s != s.journal

/-- The metering registers are among the items. -/
def metersPending (s : State) : Bool :=
  s.is Reg.warningDue || (s.log Reg.journalItems).any fun it => itemName it == itemName (itemBytes wrMp jkRegisterSet 0xFFFF 0 [])

/-- A commit starts: every pending item joins it, and items submitted from now on go into the next one (R448, R449). -/
def beginCommit (s : State) : State :=
  let meters := metersPending s
  let items := superseded (s.log Reg.journalItems ++ eventItems s)
  let flags := (if s.is Reg.warningDue then 1 else 0) + (if items.any fun it => itemKind it == jkBoundary then 2 else 0)
  let len := 40 + items.flatten.length
  let (fits, t) := makeRoom len s.ring.length s
  if ¬ fits then journalFills t
  else
    let e := commitEntry (t.get Obj.headCommitSequence + 1) t.time flags items
    let t := { t with staged := imageNow meters t }
    let t := (((t.setBytes Reg.entryStaged e).set Reg.commitBusy 1).set Reg.commitFlags flags).setB Reg.metersStaged meters
    ((t.setLog Reg.journalItems []).set Reg.journalUrgent 0).set Reg.warningDue 0

/-- The controller can start a commit (R449). -/
def mayCommit (s : State) : Bool :=
  !s.is Reg.commitBusy && itemsPending s && !(s.get Obj.journalWritesPermitted == 0 && 2 < s.get Obj.startUpStage) &&
  3 ≤ s.get Obj.startUpStage

/-- The journal controller starts a commit (R449). -/
def execJournalCommit (s : State) : Out := s.run fun s => if mayCommit s then beginCommit s else s

/-- Items without urgency have been held for 2000 frames (R449). -/
def execBatchHoldEnd (s : State) : Out :=
  s.run fun s => if mayCommit s ∧ s.getN Reg.journalItemsAt + 2000 ≤ s.frame then beginCommit s else s

/-- The committed context states become visible (R185). -/
def showContexts (s : State) : State :=
  State.set (s.forN 250 fun c u =>
    let v := match storeFind u.journal.regs (Obj.ctxState.key c 0) with | some x => x | none => Obj.ctxState.dflt c 0
    if u.get Reg.ctxShown c = v then u else u.set Reg.ctxShown v c) Reg.ctxShowDue 0

/-- The entry is valid: its values are the retained state, and what waited for the commit becomes visible (R448, R449). The
ACTIVE module of a pair forwards the items, and shows a context change when the standby has it too (R397). -/
def commitValid (s : State) : State :=
  let e := s.bytes Reg.entryStaged
  let t := { s with ring := e :: s.ring, journal := s.staged, staged := ⟨[], [], [], []⟩ }
  let t := ((t.set Reg.commitBusy 0).setBytes Reg.entryStaged []).set Obj.headCommitSequence (entryCommit e)
  let at_ := t.getN Reg.ringAt + e.length
  let t := if ringSize ≤ at_ then (t.set Reg.ringAt (at_ % ringSize : Nat)).inc Obj.ringWraps else t.set Reg.ringAt at_
  let t := t.setSeq Reg.commitTimes ((t.now : Int) :: (e.length : Int) :: t.seq Reg.commitTimes)
  let t := if t.get Reg.commitFlags % 2 = 1 then t.set Reg.warningValid 1 else t
  let items := entryItems e
  let t := if items.any (fun it => itemKind it == jkBoundary) ∧ t.get Reg.bdKinds ≠ 0 then t.set Reg.bdCommitted 1 else t
  let paired := t.is Reg.paired && t.get Obj.role == roActive
  let sent := items.filter fun it => itemKind it != jkEvent && itemName it != itemName (itemBytes wrMp jkRegisterSet 0xFFFF 0 [])
  let t := if paired then sent.foldl (fun u it => u.emit (.sync (Reg.journalItems.key 0 0) 0 it)) t else t
  let t := if paired ∧ items.any (fun it => itemKind it == jkContext) then
      let u : State := (t.inc Reg.syncGeneration).set Reg.ctxShowDue 1
      if u.get Reg.syncSentAt = 0 then u.set Reg.syncSentAt (u.now + 1) else u
    else showContexts t
  showFill t

/-- A page program fails its verify: the sector goes out of use, event 0x2439, with flag [0] and health item 3 when more than
32 archive sectors are out of use (R457). -/
def execProgramVerifyFailed (sector : Fin 1024) (s : State) : Out :=
  s.run fun s =>
    if (s.seq Reg.badSectors).contains (sector.val : Int) then s
    else
      let t := s.setSeq Reg.badSectors ((sector.val : Int) :: s.seq Reg.badSectors)
      let t := submitObject wrAp1 jkObject Obj.sectorsOutOfUse 0 0 false (t.set Obj.sectorsOutOfUse (t.seq Reg.badSectors).length)
      let many := 32 < ((t.seq Reg.badSectors).filter fun x => 768 ≤ x).length
      let t := logEvent 0x2439 srcAp1 (beBytes 2 sector.val ++ data8 [if many then 1 else 0]) t
      if many then healthItem 3 sector t else t

/-! ### Mount (R452) -/

/-- What the partitions outside the commit ring hold (Table 19.5): KC's blobs and life-cycle state, the audit logs, the
closed periods. -/
def outsideRing (o : Obj) : Bool :=
  [Obj.lifeCycleState, Obj.timeOfLastTransition, Reg.keyBlob, Reg.blobGeneration, Reg.auditLog, Obj.lastAuditSequence,
   Obj.auditEntriesUsed, Reg.clockAudit, Obj.clockAuditEntriesUsed, Reg.closedPeriods].any fun x => x.id == o.id

/-- The greatest number found in the archive items of a kind. -/
def greatest (s : State) (kind off n : Nat) : Int :=
  s.archive.foldl (fun m it => if itemKind it = kind then max m (ofBytes ((it.drop (8 + off)).take n) : Int) else m) 0

/-- The numbers that must never repeat continue 65 536 above the greatest value found, when one is found (R452). -/
def continueNumbers (s : State) : State :=
  let go (o : Obj) (v : Int) (u : State) : State := if v = 0 then u else u.set o (v + 65536)
  let t := go Reg.recordSeq (greatest s jkRecord 8 4) (go Reg.lastSerial (greatest s jkRecord 4 4) s)
  let t := go Obj.lastBoundarySequence (greatest s jkBoundary 0 4) t
  let t := go Obj.lastEventSequence (greatest s jkEvent 0 4) t
  let p := (s.log Reg.closedPeriods).foldl (fun m e => max m (ofBytes (e.take 4) : Int)) 0
  if p = 0 then t else t.set Obj.openPeriod (p + 65536)

/-- A context found after a reset (R190): DELIVERING, CLOSING, or BOUND and AUTHORISED is closed, with end cause 17 when it
holds none, and register values as restored; BOUND without AUTHORISED returns to FREE. -/
def recoverContext (c : Nat) (s : State) : State :=
  let st := s.get Obj.ctxState c
  let n := s.getN Reg.ctxAt c
  if st = cxDelivering ∨ st = cxClosing ∨ (st = cxBound ∧ s.is Reg.ctxAuthorised c) then
    let t := if s.get Obj.ctxEndCause c = 0 then s.set Obj.ctxEndCause 17 c else s
    let u := takeBoth c n (takeStop c n t)
    let u := if u.get Obj.stopTime c ≠ s.get Obj.stopTime c then u.setBit Obj.regSetFlags 2 true c else u
    setContext c cxClosing u
  else if st = cxBound then dropContext c 3 s
  else s

/-- A metering register of the battery domain lies below its journal copy. -/
def meterBelow (s : State) : Bool :=
  s.journal.regs.any fun e => cellIs isMeter e.1 &&
    match storeFind s.regs e.1 with
    | some v => v < e.2
    | none => 0 < e.2

/-- The battery domain after a reset (R225, R434). -/
def restoreBattery (good : Bool) (s : State) : State :=
  if good then
    if meterBelow s then
      auditEntry 4 0 0 0 [] [] (logEvent 0x801E srcMp [] ((s.dropCells isMeter).takeKept (s.journal.only isMeter)))
    else s
  else
    let n := (keptOf isBat s).count
    let t := (s.dropCells isBat).takeKept (s.journal.only isMeter)
    let t := auditEntry 4 0 0 0 [] [] (logEvent 0x801E srcMp [] t)
    logEvent 0x2118 srcBattery (data32 n) ((t.set Reg.rtcValid 0).set Obj.timeQuality 0)

/-- What was not acknowledged is pushed again (R315): the uncollected records, then the events after the last one
acknowledged. -/
def pushAgain (s : State) : State :=
  let t := ((s.log Reg.recordStore).reverse.filter fun e => !isCollected s e).foldl
    (fun u e => queueItem (u.getN Obj.recordPushChannel) 3 e u) s
  ((t.log Reg.eventRing).reverse.filter fun e => t.getN Obj.lastEventAcknowledged < ofBytes (e.take 4)).foldl
    (fun u e => queueItem (u.getN Obj.eventPushChannel) 4 e u) t

/-- The configuration area in use (R454): the older one when the newer is not valid, event 0x243A. -/
def chooseArea (newerBad : Bool) (s : State) : State :=
  if newerBad then logEvent 0x243A srcKc [] (s.set Obj.configurationGenerationInUse (s.get Obj.commitCount - 1))
  else s.set Obj.configurationGenerationInUse (s.get Obj.commitCount)

/-- The committed PER and SEAL cells. -/
def restoreConfig (s : State) : State := { s with regs := s.cfgRegs ++ s.regs, octs := s.cfgOcts ++ s.octs }

/-- The reset is recorded and logged (R427). -/
def recordReset (s : State) : State :=
  let k := s.get Reg.resetKind
  let src := s.get Reg.resetSource
  let t := ((s.set Obj.lastResetCause k).set Obj.wdtSource src).set Obj.timeOfLastReset (s.get Reg.resetTime)
  let t := t.inc Obj.resetCount 0 k.toNat
  let t := t.set Obj.durationOfLastBackup (t.get Reg.backupLast)
  let t := [Obj.lastResetCause, Obj.wdtSource, Obj.timeOfLastReset, Obj.durationOfLastBackup].foldl
    (fun u o => submitObject wrMp jkObject o 0 0 false u) (submitObject wrMp jkObject Obj.resetCount 0 k.toNat false t)
  logEvent 0x2113 srcSupply (data8 [k, src] ++ beBytes 8 (t.get Reg.resetTime)) t

/-- The lockstep fault before the reset (R436). -/
def reportLockstep (s : State) : State :=
  let p := s.get Reg.lockstepHeld
  if p = 0 then s
  else
    let j := if p = 4 then 4 else (p - 1).toNat
    let t := (s.inc Obj.lockstepFaults 0 j).set Reg.lockstepHeld 0
    logEvent 0x2434 srcSupply (data8 [p]) (submitObject wrAp1 jkObject Obj.lockstepFaults 0 j false t)

/-- The shadow of the battery domain goes into the journal. -/
def drainShadow (s : State) : State := if (s.log Reg.shadow).isEmpty then s else journalOpens s

/-- Uncommitted changes have reverted (R435). -/
def reportReverted (s : State) : State :=
  if s.dirty.isEmpty ∧ s.committing.isEmpty then s
  else logEvent 0x1011 srcAp1 (data8 [2] ++ data32 (s.dirty ++ s.committing).eraseDups.length) { s with dirty := [], committing := [] }

/-- A RET area fails its CRC: its objects return to their defaults (R438). -/
def retArea (owner : Nat) (s : State) : State :=
  let t := if owner = 2 then s.forN 96 fun c u => if u.get Obj.lsCause c = 0 then u else (u.set Obj.lsCause 0 c).set Obj.lsState lsOff c else s
  let bank := ((List.range 24).find? fun b => Obj.owner.dflt b 0 == (owner : Int)).getD 0
  logEvent 0x2431 srcKc (data8 [bank] ++ data32 (bank * 0x40000 + 0x3F000) ++ data8 [owner]) t

/-- The journal is mounted and replayed, and the PER, SEAL and BAT registers are restored: stage 3 (R36, R452, Table 18.7).
`batteryGood` tells the CRC of the battery domain, `torn` the invalid entries after the head, `newerBad` a failure of the
newer configuration area, `lost` that the ring holds no valid entry, `retBad` the RET areas that fail their CRC. -/
def mountJournal (batteryGood : Bool) (torn : Nat) (newerBad lost : Bool) (retBad : List Nat) (s : State) : State :=
  let empty := lost || s.ring.isEmpty
  let s := if lost then { s with ring := [], journal := s.journal.only outsideRing } else s
  let s := if newerBad then { s with cfgRegs := s.cfgOld.regs, cfgOcts := s.cfgOld.octs } else s
  let t := restoreConfig (s.takeKept (s.journal.only committedBySelf))
  let t := if empty then continueNumbers t else t
  let head := match t.ring.head? with | some e => entryCommit e | none => 0
  let t := (t.set Obj.headCommitSequence head).set Obj.tornCommitsAtLastMount torn
  let t := pushAgain (t.set Obj.startUpStage 3)
  let t := chooseArea newerBad t
  let t := restoreBattery batteryGood t
  let t := if t.is Reg.rtcValid then (t.set Obj.moduleTime (t.get Reg.rtcTime)).set Obj.timeQuality 1 else t
  let t := logEvent 0x2438 srcKc (beBytes 8 head ++ beBytes 2 torn ++ data8 [if empty then 1 else 0]) t
  let t := retBad.foldl (fun u o => retArea o u) t
  let t := reportReverted (reportLockstep (recordReset t))
  let t := t.forN 10 fun k u => readBlob k u
  let t := t.forN 5 fun r u => u.set Reg.canFloor (u.get Obj.canCounter 0 r + 256) r
  let t := drainShadow t
  let t := t.forN 250 fun c u => recoverContext c u
  let t := reportTamper t
  let t := showContexts (showRecords t)
  let t := if t.get Obj.timeQuality = 0 then t.set Reg.derivationDue 1 else deriveBoundaries t
  showFill t

end Sys2Proof.Machine
end

