-- ==== Sys2Proof/Machine/Supply.lean ====
section
/-!
DEFINITION. Supplies, the Quicksand window, resets and power states (Supplies, resets and retained state).
-/

namespace Sys2Proof.Machine

/-! ### Resets (R424, R433) -/

/-- Registers of the cabinet terminals and of the vehicle side of the lanes, which a reset of the module does not touch. -/
def outsideModule (o : Obj) : Bool :=
  [Reg.termMode, Reg.termFrame, Reg.termMissed, Reg.termWord, Reg.termDrops, Reg.termCommand, Reg.termLength, Reg.termIndex,
   Reg.termDepth, Reg.termFault, Reg.termFaultFrame, Reg.termSynced, Reg.termNow, Reg.termEdges, Reg.termPhaseCmd,
   Reg.termCommandError].any fun x => x.id == o.id

/-- What a reset keeps in place (Table 18.7): the battery domain, RET registers through WDT and SWR, the straps read at POR or
BOR, and what lies outside the module. Committed registers come back with the journal. -/
def survives (kind : Int) (o : Obj) : Bool :=
  o.cls == .bat || (o.cls == .ret && 2 ≤ kind) || isPlace o || outsideModule o || o.id == Reg.freeCount.id ||
  (2 ≤ kind && (o.id == Obj.strapsRead.id || o.id == Obj.backplane.id))

/-- A pool byte lies in a RET area: the top 4 KiB of an owner's first bank (R438). -/
def inRetArea (a : Nat) : Bool :=
  [0, 8, 10, 12, 16, 20, 21, 22].any fun b => b * 0x40000 + 0x3F000 ≤ a && a < b * 0x40000 + 0x40000

/-- The weld check is outstanding at an outlet whose contactors the reset opens before its weld test has run (R422). -/
def weldLost (s : State) (n : Nat) : Bool := plusCommanded s n || minusCommanded s n || s.get Obj.outletState n == 8

/-- A reset of the whole module apart from the battery domain is asserted: POR 0, BOR 1, WDT 2, SWR 3 (Table 18.4). The
battery domain stamps it with the RTC time (R427); a latched channel starts in LATCHED after WDT and SWR (R362); the pulses still owed are lost (R232); every
transaction and session is gone (R301). -/
def assertReset (kind source : Int) (s : State) : State :=
  let welds := (List.range 24).filter (weldLost s)
  let latched := if 2 ≤ kind then (List.range 96).filter fun c => 1 ≤ s.get Obj.lsCause c && s.get Obj.lsCause c ≤ 5 else []
  let t := s.forL welds fun n u => u.retain Obj.weldOutstanding 1 n
  let t := t.dropCells fun o => !survives kind o
  let t := { t with
    sessions := [], waiting := [], staged := ⟨[], [], [], []⟩
    pool := if 2 ≤ kind then t.pool.filter (fun c => inRetArea c.1) else [] }
  let t := ((t.set Reg.resetKind kind).set Reg.resetSource source).set Reg.resetTime (s.get Reg.rtcTime)
  let t := t.forN 4 fun k u => u.set Reg.pulsesLost (s.get Obj.pulsesOwed k) k
  t.forL latched fun c u => u.set Obj.lsState lsLatched c

/-- A watchdog reset: the image on trial is rejected at the third one before its confirmation (R287, R425); its event is
entered at the next start-up. -/
def watchdogReset (source : Int) (s : State) : State :=
  let k := s.get Reg.trialWdt + 1
  let t := if s.get Obj.trialState ≠ 1 then s
    else if k < 3 then s.keep Reg.trialWdt k
    else (endTrial s).set Reg.trialLost 1
  assertReset 2 source t

/-- The watchdog of AP0, AP1, MP or KC expires (R425). -/
def execWatchdogReset (processor : Fin 4) (s : State) : Out := s.run (watchdogReset (processor.val + 1 : Nat))

/-- Every block is OFF or OUT. -/
def blocksRest (s : State) : Bool := !anyEnergised s

/-- No context is BOUND, DELIVERING or CLOSING. -/
def contextsRest (s : State) : Bool :=
  (List.range 250).all fun c => s.get Obj.ctxState c != cxBound && s.get Obj.ctxState c != cxDelivering && s.get Obj.ctxState c != cxClosing

/-- A software reset is accepted: the commit of step 3 of Table 18.3 falls due, and SWR 100 ms after the answer (R426). -/
def acceptSwr (s : State) : State :=
  ((commitMeters s).set Reg.warningDue 1).set Reg.swrAt (s.now + 1)

def execSoftwareResetQuiet (r : Req) (s : State) : Out :=
  s.run (hostWrite r Obj.softwareReset 0 0 [1] fun _ t =>
    if ¬ contextsRest t ∨ ¬ blocksRest t then .error 6 else .ok (acceptSwr t))

def execSoftwareResetAtOnce (r : Req) (s : State) : Out :=
  s.run (hostWrite r Obj.softwareReset 0 0 [2] fun _ t => .ok (acceptSwr t))

/-- The commit of an accepted software reset completed, if it has not been already. -/
def finishCommit (s : State) : State :=
  let t := if s.is Reg.commitBusy then commitValid s else s
  if t.is Reg.warningDue ∧ mayCommit t then
    let u := beginCommit t
    if u.is Reg.commitBusy then commitValid u else u
  else t

/-- 100 ms after the answer SWR is asserted (R426). -/
def execSoftwareResetAssert (s : State) : Out :=
  s.run fun s =>
    if s.get Reg.swrAt ≠ 0 ∧ s.get Reg.swrAt + 100 * millisecond ≤ s.now + 1 then assertReset 3 0 (finishCommit s) else s

/-- An internal rail outside ±10 %: its supervisor holds the module in POR (R415). -/
def execInternalRailFault (rail : Fin 27) (s : State) : Out :=
  s.run fun s => (assertReset 0 0 (s.setSeq Reg.supplyRaw [] (13 + rail))).set Reg.supplyHeld 1

/-- Loss of PLL lock holds the module in POR until lock returns (R37). -/
def execPllLockLost (s : State) : Out := s.run fun s => (assertReset 0 0 s).set Reg.supplyHeld 1

/-! ### The Quicksand window (R416 to R421) -/

/-- The window opens: event 0x2110, the restrictions of R419, and the warning commit falls due (Table 18.3). -/
def openWindow (vaux : Nat) (s : State) : State :=
  let again := s.get Reg.dipClosedAt ≠ 0
  let t := if again then s else ((s.set Reg.dipElapsed 0).set Obj.episodeElapsedTime 0).set Reg.dipLowest vaux
  let t := ((t.set Obj.quicksandWindow 1).set Reg.dipOpenedAt t.now).set Reg.dipCommitAt t.now
  let t := t.set Reg.dipLowest (min (t.get Reg.dipLowest) vaux)
  let t := submitObject wrMp jkObject Obj.timeOfLastWarning 0 0 true (t.set Obj.timeOfLastWarning t.time)
  let t := logEvent 0x2110 srcSupply (beBytes 2 vaux ++ beBytes 2 (t.get Obj.episodeElapsedTime)) t
  let t := t.forN 24 fun n u =>
    let u := u.set Reg.dipTarget (u.get Obj.currentTarget n) n
    if u.get Obj.outletState n = 4 ∨ u.get Obj.outletState n = 5 then u.set Reg.pausedAt (u.now + 1) n else u
  ((commitMeters t).set Reg.warningDue 1).set Reg.warningValid 0

/-- VAUX [0.01 V] below 16.0 V (R416). -/
def execSupplyWarning (vaux : Nat) (s : State) : Out :=
  s.run fun s =>
    let t := s.set Obj.supplyVoltage vaux 0 0
    if vaux < 1600 ∧ t.get Obj.quicksandWindow = 0 then openWindow vaux t
    else if vaux < 1600 then t.set Reg.dipLowest (min (t.get Reg.dipLowest) vaux)
    else t

/-- The time an episode's windows have been open [ns]. -/
def episodeTime (s : State) : Nat :=
  s.getN Reg.dipElapsed + (if dipOpen s then s.now - s.getN Reg.dipOpenedAt else 0)

/-- Shown in 0x2101:03 [ms]. -/
def showEpisode (s : State) : State := s.set Obj.episodeElapsedTime (min 65535 (episodeTime s / millisecond))

/-- Every 100 ms in the window the metering registers are committed again (R417). -/
def execDipCommitPeriod (s : State) : Out :=
  s.run fun s =>
    if dipOpen s ∧ s.getN Reg.dipCommitAt + 100 * millisecond ≤ s.now then
      showEpisode ((commitMeters s).set Reg.dipCommitAt s.now)
    else s

/-- A held outlet resumes at the step it held, its times moved by the pause (R184, R420). -/
def resumeOutlet (n : Nat) (s : State) : State :=
  if s.get Reg.pausedAt n = 0 then s
  else
    let d := (s.now : Int) + 1 - s.get Reg.pausedAt n
    let f := d / 20000
    let shift (o : Obj) (u : State) : State := if u.get o n = 0 then u else u.set o (u.get o n + d) n
    let t := shift Reg.noCapacityAt (shift Reg.checkStepAt (shift Reg.checkAt (shift Reg.outletSince s)))
    (t.set Reg.rampStart (t.get Reg.rampStart n + f) n).set Reg.pausedAt 0 n

/-- The window closes without a reset (R416, R420). -/
def closeDip (s : State) : State :=
  let whole := episodeTime s
  let t := showEpisode s
  let t := ((t.set Obj.quicksandWindow 0).set Reg.dipElapsed whole).set Reg.dipClosedAt (t.now + 1)
  let t := (t.set Reg.warningValid 0).set Obj.lowestVauxInLastDip (t.get Reg.dipLowest)
  let t := submitObject wrMp jkObject Obj.lowestVauxInLastDip 0 0 false t
  let t := if whole ≤ 500 * millisecond then
      let u := t.inc Obj.dipsWithoutReset
      let u := submitObject wrMp jkObject Obj.dipsWithoutReset 0 0 false u
      logEvent 0x2111 srcSupply (beBytes 2 (whole / millisecond : Nat) ++ beBytes 2 (u.get Reg.dipLowest)) u
    else t
  t.forN 24 resumeOutlet

/-- VAUX above 17.0 V for 10 ms (R416). A brown-out reset already due stays due. -/
def execWindowRecovery (vaux : Nat) (s : State) : Out :=
  s.run fun s =>
    let t := s.set Obj.supplyVoltage vaux 0 0
    if 1700 < vaux ∧ dipOpen t ∧ ¬ t.is Reg.brownOut then closeDip t else t

/-- The order in which outlets stop for supply (R421): the higher class first, then the higher current, then the lower
number. -/
def stopsBefore (s : State) (a b : Nat) : Bool :=
  let ka := classOf s a
  let kb := classOf s b
  if ka ≠ kb then kb < ka else if outletMa s a ≠ outletMa s b then outletMa s b < outletMa s a else a < b

/-- The next outlet in order makes a normal stop with end cause 21 (R421). -/
def stopNextOutlet (s : State) : State :=
  match s.seq Reg.stopQueue with
  | [] => s
  | n :: rest =>
    let t := (s.setSeq Reg.stopQueue rest).set Reg.stopNext (s.frame + 250)
    outletFault n.toNat 21 false (t.set Reg.pausedAt 0 n.toNat)

/-- The episode passes 500 ms: the window enters state 2, the outlets before CABLE_CHECK go to CLOSING, the others stop one
by one: event 0x2112 (R420, R421). -/
def episodePasses (s : State) : State :=
  let early := (List.range 24).filter fun n => 1 ≤ s.get Obj.outletState n && s.get Obj.outletState n ≤ 3
  let late := ((List.range 24).filter fun n => 4 ≤ s.get Obj.outletState n && s.get Obj.outletState n ≤ 6).mergeSort (stopsBefore s)
  let t := showEpisode (s.set Obj.quicksandWindow 2)
  let t := logEvent 0x2112 srcSupply (data8 [early.length + late.length]) t
  let t := t.forL early fun n u => outletFault n 21 false u
  stopNextOutlet (t.setSeq Reg.stopQueue (late.map fun (n : Nat) => (n : Int)))

/-- An episode passes 500 ms (R420). -/
def execDipEpisodeLimit (s : State) : Out :=
  s.run fun s => if s.get Obj.quicksandWindow = 1 ∧ 500 * millisecond < episodeTime s then episodePasses s else s

/-- Every 250 frames the next outlet stops (R421). -/
def execStagedSessionStop (s : State) : Out :=
  s.run fun s => if s.getN Reg.stopNext ≤ s.frame then stopNextOutlet s else s

/-- VAUX [0.01 V] has stayed above 17.0 V for 1 s, of which the first 10 ms closed the window: the episode ends (R420). -/
def execDipEpisodeEnd (vaux : Nat) (s : State) : Out :=
  s.run fun s =>
    let t := s.set Obj.supplyVoltage vaux 0 0
    if 1700 < vaux ∧ ¬ dipOpen t ∧ t.get Reg.dipClosedAt ≠ 0 ∧ t.getN Reg.dipClosedAt + 990 * millisecond ≤ t.now + 1 then
      ((t.set Reg.dipElapsed 0).set Obj.episodeElapsedTime 0).set Reg.dipClosedAt 0
    else t

/-- The battery domain loses its power: its contents are gone (R434). -/
def goOff (s : State) : State := (s.dropCells isBat).set Obj.powerState 0

/-- The brown-out reset: BACKUP with the cell at 2.8 V or more, OFF with the cell absent or below 2.5 V. Between the two the
spec names neither, and the outcome is a free value (Table 18.5). -/
def brownOutReset (s : State) : State :=
  let cell := s.getN Reg.brownCell
  let t := assertReset 1 0 s
  if 2800 ≤ cell then t.set Obj.powerState 1
  else if cell < 2500 then goOff t
  else
    let (d, t) := t.draw 18
    if d % 2 = 0 then t.set Obj.powerState 1 else goOff t

/-- VAUX [0.01 V] at or below 12.0 V causes BOR, once the warning commit is valid (R416, R418). `cell` is VBAT [mV], 0 when
no cell is fitted. -/
def execBrownOut (vaux cell : Nat) (s : State) : Out :=
  s.run fun s =>
    if 1200 < vaux then s
    else
      let t := (if dipOpen s then s else openWindow vaux s).set Reg.brownCell cell
      let t := t.set Reg.dipLowest (min (t.get Reg.dipLowest) vaux)
      if t.is Reg.warningValid then brownOutReset t else t.set Reg.brownOut 1

/-- The entry of the commit in progress is valid (R448); a deferred brown-out reset follows the warning commit (R418). -/
def execCommitValid (s : State) : Out :=
  s.run fun s =>
    if s.is Reg.commitBusy then
      let t := commitValid s
      if t.is Reg.brownOut ∧ t.is Reg.warningValid then brownOutReset t else t
    else s

/-! ### Inputs (R414) -/

/-- The channels an input feeds: VSAFE the coil groups, VLOAD the others. -/
def fedBy (input : Nat) : List Nat :=
  if input = 1 then allChannels.filter isCoil else if input = 2 then allChannels.filter (fun c => !isCoil c) else []

/-- An input (0 VAUX, 1 VSAFE, 2 VLOAD) below -0.5 V [mV]: its gate off within 2 µs, event 0x2116, and its channels in
SUPPLY_OFF (R371, R414). -/
def execReverseInput (input : Fin 3) (volts : Int) (s : State) : Out :=
  s.run fun s =>
    if -500 ≤ volts then s
    else
      let t := s.setBit Obj.inputFlags (6 + input) false
      let fresh := input = 0 ∨ ¬ t.bit Obj.inputFlags (3 + input)
      let t := if input.val = 0 then t else t.setBit Obj.inputFlags (3 + input) true
      let t := t.setBit Obj.inputFlags input true
      let t := if fresh then logEvent 0x2116 srcSupply (data8 [input.val]) t else t
      supplyFault 2 (fedBy input) t

/-- An input [0.01 V] has read forward within its range for 1 s: its gate is driven on. RBG_AUX needs 6.0 V; RBG_SAFE and
RBG_LOAD wait for start-up stage 3 (R414). -/
def execGateOn (input : Fin 3) (volts : Nat) (s : State) : Out :=
  s.run fun s =>
    let t := s.set Obj.supplyVoltage volts 0 input
    let good := 1800 ≤ volts ∧ volts ≤ 3200
    let may := if input.val = 0 then 600 ≤ volts else good ∧ 3 ≤ t.get Obj.startUpStage
    if ¬ may then t
    else
      let t := t.setBit Obj.inputFlags (6 + input) true
      let t := if good then t.setBit Obj.inputFlags input false else t
      let t := if input.val = 0 then t else t.setBit Obj.inputFlags (3 + input) false
      supplyReturn 2 (fedBy input) t

/-- VAUX [0.01 V] above 34.0 V: flag [3] and event 0x2115 once per episode; nothing is switched (R414). -/
def execVauxOverVoltage (volts : Nat) (s : State) : Out :=
  s.run fun s =>
    let t := (s.set Obj.supplyVoltage volts 0 0).setB Reg.vauxHigh (3400 < volts)
    if 3400 < volts then logEpisode 0x2115 srcSupply 0 (beBytes 2 volts) (t.setBit Obj.inputFlags 3 true)
    else endEpisode 0x2115 0 (t.setBit Obj.inputFlags 3 false)

/-! ### Supply monitors and the cell (R415, R432) -/

/-- The window of a supply monitor [mV] (Table 18.2). -/
def monitorWindow (s : State) (k : Nat) : Int × Int :=
  if k < 3 then (18000, 32000)
  else if k = 3 then (2800, 3900)
  else if k < 12 then (10 * s.get Obj.undervoltageLevel (k - 4), 36000)
  else if k = 12 then (44000, 52000)
  else (Config.railNominal k - Config.railNominal k / 20, Config.railNominal k + Config.railNominal k / 20)

/-- The cell is judged (R432): low below 3.0 V, absent below 2.5 V or when none is fitted. -/
def judgeCell (volts : Int) (fitted : Bool) (s : State) : State :=
  let t := s.set Obj.vbatVoltage (clampI 0 65535 volts)
  if ¬ fitted ∨ volts < 2500 then
    endEpisode 0x2117 0 (if t.get Obj.cellState = 0 ∧ t.is Reg.cellJudged then t
      else logEvent 0x2118 srcBattery (data32 0) ((t.set Obj.cellState 0).set Reg.cellJudged 1))
  else if volts < 3000 then
    logEpisode 0x2117 srcBattery 0 (beBytes 2 volts) ((t.set Obj.cellState 1).set Reg.cellJudged 1)
  else endEpisode 0x2117 0 ((t.set Obj.cellState 2).set Reg.cellJudged 1)

/-- One round of the supply monitors: each is filtered over three readings and judged against its window, with event 0x2114
once per episode; the inputs and the cell are shown (R415, R432). -/
def supplyRound (readings : List Nat) (fitted : Bool) (s : State) : State :=
  let t := s.forN 40 fun k u =>
    let l := (((readings.getD k 0 : Nat) : Int) :: u.seq Reg.supplyRaw k).take 3
    let v := filterOf l
    let u := (u.setSeq Reg.supplyRaw l k).set Obj.supplyMonitor v 0 k
    let (lo, hi) := monitorWindow u k
    if v < lo ∨ hi < v then logEpisode 0x2114 srcSupply k (data8 [k + 1] ++ beBytes 2 v) u else endEpisode 0x2114 k u
  let t := t.forN 3 fun k u =>
    let v := u.get Obj.supplyMonitor 0 k
    (u.set Obj.supplyVoltage (v / 10) 0 k).setBit Obj.inputFlags k (v < 18000 || 32000 < v)
  judgeCell (t.get Obj.supplyMonitor 0 3) fitted t

/-- A cell of 2.8 V [mV] or more is inserted while VAUX is absent: OFF to BACKUP (R428). -/
def execCellInserted (volts : Nat) (s : State) : Out :=
  s.run fun s =>
    if s.get Obj.powerState = 0 ∧ 2800 ≤ volts then
      ((s.set Obj.powerState 1).set Obj.vbatVoltage volts).set Obj.cellState (if volts < 3000 then 1 else 2)
    else s

/-- The RTC minute in BACKUP: the cell is judged, and 70 µA of Table 18.6 are counted for the minute; below 2.5 V or removed
the module goes from BACKUP to OFF (R431, R432). -/
def execRtcMinuteCellCheck (volts : Nat) (fitted : Bool) (s : State) : Out :=
  s.run fun s =>
    if s.get Obj.powerState ≠ 1 then s
    else
      let t := s.set Reg.rtcTime (s.get Reg.rtcTime + 60 * second)
      let t := t.set Obj.timeInBackupTotal ((t.get Obj.timeInBackupTotal + 60) % 4294967296)
      let sixths := t.get Reg.chargeSixths + 7
      let t := (t.set Obj.chargeDrawnFromCell ((t.get Obj.chargeDrawnFromCell + sixths / 6) % 4294967296)).set Reg.chargeSixths (sixths % 6)
      let t := judgeCell volts fitted t
      if ¬ fitted ∨ volts < 2500 then goOff t else t

/-- A write of 1 to 0x2102:05 (R432). -/
def execCellReplaced (r : Req) (s : State) : Out :=
  s.run (hostWrite r Obj.cellReplaced 0 0 [1] fun _ t => .ok ((t.set Obj.chargeDrawnFromCell 0).set Reg.chargeSixths 0))

/-! ### IDLE (R429, R430) -/

/-- The conditions of R429. -/
def mayIdle (s : State) : Bool :=
  s.is Obj.idleEnable && ((List.range 24).all fun n => s.get Obj.outletState n == 0) && contextsRest s && blocksRest s &&
  s.get Obj.injectionState != 1 && s.get Obj.captureState != 1 && s.get Reg.brakePhase 0 == 0 && s.get Reg.brakePhase 1 == 0 &&
  !dipOpen s && s.get Obj.powerState == pwRun

/-- How long they have held is counted. -/
def countIdleTime (s : State) : State :=
  if ¬ mayIdle s then s.set Reg.idleSince 0
  else if s.get Reg.idleSince = 0 then s.set Reg.idleSince (s.now + 1) else s

/-- The conditions have held for the idle delay: RUN to IDLE, event 0x2119 with cause 0 (R429). -/
def execEnterIdle (s : State) : Out :=
  s.run fun s =>
    let t := countIdleTime s
    if mayIdle t ∧ t.getN Reg.idleSince + (t.getN Obj.idleDelay) * second ≤ t.now + 1 then
      logEvent 0x2119 srcSupply (data8 [2, 0]) ((t.set Obj.powerState pwIdle).set Reg.wakeCause 0)
    else t

/-- What ends IDLE (R430): 1 a vehicle, 2 the host, 3 a reservation, 4 a start request. -/
def wakeCauseOf (s : State) : Int :=
  if (List.range 24).any fun n => s.is Obj.available n &&
      ((1 ≤ s.get Obj.pilotState n && s.get Obj.pilotState n ≤ 3) || s.get Reg.proximityState n == 0) then 1
  else if s.get Reg.wakeCause ≠ 0 then s.get Reg.wakeCause
  else if (List.range 250).any fun c => s.get Obj.ctxState c == cxReserved &&
      s.get Obj.ctxReservationStart c ≤ s.time + 60 * (second : Int) then 3
  else 0

/-- The first slow tick after a cause returns the module to RUN: event 0x2119 (R430). -/
def returnToRun (s : State) : State :=
  if s.get Obj.powerState ≠ pwIdle ∨ wakeCauseOf s = 0 then s
  else logEvent 0x2119 srcSupply (data8 [3, wakeCauseOf s]) (((s.set Obj.powerState pwRun).set Reg.wakeCause 0).set Reg.idleSince 0)

/-- A write of 1 to 0x2103:03 wakes the module at the next slow tick (R430). -/
def execWake (r : Req) (s : State) : Out :=
  s.run (hostWrite r Obj.wake 0 0 [1] fun _ t => .ok (if t.get Obj.powerState = pwIdle then t.set Reg.wakeCause 2 else t))

end Sys2Proof.Machine
end

