-- ==== Sys2Proof/Machine/Pool.lean ====
section
/-!
DEFINITION. Faults of the processors' memories and of the shared pool, ownership of its banks, and the background test
(Processors, memory banks and journal).
-/

namespace Sys2Proof.Machine

/-! ### Processors (R436) -/

/-- AP0, AP1, MP or KC (1 to 4) halts: WDT at once with that processor as its source; the count and event 0x2434 follow at
the next start (R436). -/
def haltProcessor (source : Nat) (s : State) : State := (watchdogReset source s).set Reg.lockstepHeld source

/-- A lockstep mismatch, or an uncorrectable error read from a private memory, of AP0, AP1, MP, HP or KC in the order of
0x2401 (R436). HP enters its safe state and its count rises. -/
def execLockstepMismatch (processor : Fin 5) (s : State) : Out :=
  s.run fun s =>
    if processor.val = 3 then
      submitObject wrKc jkCounter Obj.lockstepFaults 0 3 false (enterSafeState 1 (s.inc Obj.lockstepFaults 0 3))
    else haltProcessor (if processor.val = 4 then 4 else processor.val + 1) s

/-! ### Pool errors (R437) -/

/-- The bank of a pool address. -/
def bankOf (a : Nat) : Nat := a / 0x40000

/-- The word address that holds a byte. -/
def poolWord (a : Nat) : Nat := a / 4 * 4

/-- A read finds a single-bit error: corrected, written back, counted and shown; event 0x2430 at most once per second per
bank; above 10 per pass it enters the health report as item 4 (R437, Table 17.8). -/
def singleError (a : Nat) (s : State) : State :=
  let b := bankOf a
  let t := ((s.inc Obj.correctedErrors b).set Obj.lastErrorAddress (poolWord a) b).set Reg.siltCorrected (s.get Reg.siltCorrected b + 1) b
  let t := logLimited 0x2430 srcSupply b second (data8 [b] ++ data32 (poolWord a)) t
  if 10 < t.get Reg.siltCorrected b then healthItem 4 b t else t

/-- A single-bit error is found at a pool address. The corrected word is written back: the bytes stay as they are. -/
def execPoolSingleBitError (address : Fin 6291456) (s : State) : Out := s.run (singleError address)

/-- LE: the evaluation of a slot counts as a mismatch; a second error in the same frame as a second mismatch (Table 19.2,
R122, R123). -/
def leError (slot : Nat) (s : State) : State :=
  if s.get Reg.leErrorFrame = s.frame + 1 then judgeMismatches [slot] [slot] [slot] (s.set Reg.lastMismatch s.frame)
  else
    let t := ((s.set Reg.leErrorFrame (s.frame + 1)).set Reg.lastMismatch s.frame).inc Obj.slotMismatches slot
    logLimited 0x5440 srcLe slot second (beBytes 2 slot) (t.inc Obj.correctedMismatches)

/-- The reaction of the owner of the bank (Table 19.2). For a channel of ME the cause that event 0x8015 names is left open. -/
def ownerReacts (owner : Int) (slot : Nat) (channels : List Nat) (push : Option Nat) (s : State) : State :=
  if owner = 6 then leError slot s
  else if owner = 7 then
    let (d, t) := s.draw 437
    t.forL channels fun c u => faultChannel c (1 + d % 2) u
  else if owner = 4 then enterSafeState 1 s
  else if 1 ≤ owner ∧ owner ≤ 3 then haltProcessor owner.toNat s
  else if owner = 5 then haltProcessor 4 s
  else if owner = 8 then (match push with | some ch => resendFrom ch s | none => s)
  else s

/-- A read finds an uncorrectable error: counted, event 0x2431, item 3, and the owner's reaction. `slot` is the slot under
evaluation where LE owns the bank, `channels` those whose samples the word held where ME does, `push` the channel whose
item the transfer carried where XD does (R437). A bank without an owner is not read. -/
def execPoolDoubleBitError (address : Fin 6291456) (slot : Fin 1024) (channels : List (Fin 76)) (push : Option (Fin 8))
    (s : State) : Out :=
  s.run fun s =>
    let b := bankOf address
    let w := s.get Obj.owner b
    if w = 0 then s
    else
      let t := (s.inc Obj.uncorrectableErrors b).set Obj.lastErrorAddress (poolWord address) b
      let t := logEvent 0x2431 srcSupply (data8 [b] ++ data32 (poolWord address) ++ data8 [w]) (healthItem 3 b t)
      ownerReacts w slot (channels.map (·.val)) (push.map (·.val)) t

/-! ### Owners (R439, R440) -/

/-- A requester writes the owner register of a bank: the owner's write hands the bank over, but never BANK20 or BANK21; any
other is ignored, counted and logged (R439). -/
def execOwnerRegisterWrite (bank : Fin 24) (requester newOwner : Fin 9) (s : State) : Out :=
  s.run fun s =>
    let w := s.get Obj.owner bank
    if w = 0 ∨ w ≠ requester.val then
      logEvent 0x2435 srcSupply (data8 [bank.val, requester.val]) (s.inc Obj.refusedOwnerWrites bank)
    else if bank.val = 20 ∨ bank.val = 21 ∨ w = newOwner.val then s
    else handBank bank newOwner.val s

/-- The owner of a bank grants XD secondary access, or withdraws it: 0 none, 1 read, 2 read and write. BANK20 and BANK21 are
never shared, and XD is never owner and secondary user of one bank (R439, R440). -/
def execXdGrant (bank : Fin 24) (requester : Fin 9) (grant : Fin 3) (s : State) : Out :=
  s.run fun s =>
    let w := s.get Obj.owner bank
    if w = 0 ∨ w ≠ requester.val ∨ w = ownXd ∨ bank.val = 20 ∨ bank.val = 21 then s
    else s.set Obj.xdSecondaryAccess grant.val bank

/-! ### Silt (R443 to R446) -/

/-- The number of regions. -/
def siltRegions : Nat := 24576

/-- The pool address of word `k` of region `r`. -/
def regionWord (r k : Nat) : Nat := r * 256 + k * 4

/-- The next region becomes current; after the last one the pass ends: its length, the background of the next one, and the
failures it is compared with (R443, R446). -/
def nextRegion (s : State) : State :=
  let r := s.getN Obj.currentRegion + 1
  let t := s.set Reg.siltAbandonRun 0
  if r < siltRegions then t.set Obj.currentRegion r
  else
    let t := ((t.set Obj.currentRegion 0).inc Obj.siltPasses).set Obj.lastPassLength (((t.frame : Int) + 1 - t.get Reg.siltPassAt) % 4294967296)
    let t := (t.set Reg.siltPassAt (t.frame + 1)).set Obj.backgroundInUse (t.get Obj.siltPasses % 2)
    let t := (t.setSeq Reg.siltFailedBefore (t.seq Reg.siltFailed)).setSeq Reg.siltFailed []
    t.forN 24 fun b u => u.set Reg.siltCorrected 0 b

/-- Step 1 of Table 19.4: words with a single-bit error are corrected, those with a double-bit error poisoned (R444). -/
def saveRegion (singles doubles : List (Fin 64)) (s : State) : State :=
  let r := s.getN Obj.currentRegion
  let bad := (doubles.map fun k => (regionWord r k : Int)).filter fun a => !(s.seq Reg.poisoned).contains a
  let t := s.setSeq Reg.poisoned (bad ++ s.seq Reg.poisoned)
  t.forL ((singles.map fun k => regionWord r k).filter fun a => !(t.seq Reg.poisoned).contains (a : Int)) singleError

/-- A March failure of the current region; in two consecutive passes the module hands over, or logs it again and runs on
(R446). -/
def marchFailure (s : State) : State :=
  let r := s.getN Obj.currentRegion
  let b := r / 1024
  let text := beBytes 2 r ++ data32 (s.get Obj.siltPasses)
  let t := logEvent 0x2432 srcSupply text (healthItem 3 b (s.inc Obj.marchFailures b))
  let t := t.setSeq Reg.siltFailed ((r : Int) :: t.seq Reg.siltFailed)
  if (t.seq Reg.siltFailedBefore).contains (r : Int) then handOverOr (fun u => logEvent 0x2432 srcSupply text u) t else t

/-- The test of the current region completes: saved, marched, restored with any write of the owner. `failed`: a March read
returned the wrong value (R443, R446). -/
def execSiltRegionTest (singles doubles : List (Fin 64)) (failed : Bool) (s : State) : Out :=
  s.run fun s =>
    let t := saveRegion singles doubles s
    nextRegion (if failed then marchFailure t else t)

/-- The test of the current region has not reached step 5 by S + 10.0 µs: abandoned, and restored. After 8 consecutive
frames the region is skipped (R445). -/
def execSiltTestAbandon (singles doubles : List (Fin 64)) (s : State) : Out :=
  s.run fun s =>
    let t := (saveRegion singles doubles s).inc Obj.abandonedRegionTests
    let run := t.get Reg.siltAbandonRun + 1
    if run < 8 then t.set Reg.siltAbandonRun run
    else nextRegion (logEvent 0x2433 srcSupply (beBytes 2 (t.get Obj.currentRegion)) (t.inc Obj.skippedRegions))

end Sys2Proof.Machine
end

