-- ==== Sys2Proof/Machine/Settings.lean ====
section
/-!
DEFINITION. The settings of the dictionary: what each chapter refuses of a write (step 6 of R300), what follows from a
setting that has taken effect, and the discard of uncommitted changes (R294).
-/

namespace Sys2Proof.Machine

/-- The object is one of a list. -/
def Obj.among (o : Obj) (l : List Obj) : Bool := l.any fun x => x.id == o.id

/-! ### The combination a write would produce (R290) -/

/-- A field as written. -/
def rawWrite (s : State) (w : FieldWrite) : State :=
  match objById w.key.o with
  | none => s
  | some o => if w.isBytes then s.setBytes o w.bytes w.key.i w.key.j else s.set o w.num w.key.i w.key.j

/-- The settings once every write accepted earlier, and then this one, has taken effect. -/
def asWritten (s : State) (l : List FieldWrite) : State :=
  (((s.waiting.filter fun w => !w.partly).flatMap (·.writes)) ++ l).foldl rawWrite s

/-! ### Declarations (R12, R110) -/

/-- An outlet is energised, or bound to a context BOUND, DELIVERING or CLOSING. -/
def outletBusy (s : State) (n : Nat) : Bool :=
  plusCommanded s n || minusCommanded s n ||
  (match contextOf s n with
   | some c => ctxInSession s c
   | none => false)

/-- The same of a block. -/
def blockBusy (s : State) (b : Nat) : Bool := energised s b || (s.getN Obj.boundOutlet b < 24 && outletBusy s (s.getN Obj.boundOutlet b))

/-- The outlet of a temperature channel, if it has one. -/
def outletOfChannel (s : State) (c : Nat) : Option Nat :=
  if c < 120 then some (c / 5) else if 132 ≤ c ∧ s.getN Obj.tcOutlet c < 24 then some (s.getN Obj.tcOutlet c) else none

/-- The element that a declaration object declares is energised or in a session (R12). -/
def declarationBusy (s : State) (o : Obj) (i : Nat) : Bool :=
  if o.base == 0x3000 || o.base == 0x3320 then (blocksOf i).any (blockBusy s)
  else if o.base == 0x3200 then blockBusy s i
  else if o.base == 0x3800 then blockBusy s (blockOf i)
  else if o.base == 0x4000 || o.base == 0x4013 then outletBusy s i
  else if o.base == 0x7100 then (match outletOfChannel s i with | some n => outletBusy s n | none => false)
  else if o.base == 0x8300 then (List.range 64).any fun b => feederOf s b == i && blockBusy s b
  else false

/-- Status of a write to a declaration object; `t` is the combination. -/
def declarationStatus (s t : State) (o : Obj) (i : Nat) : Nat :=
  if ¬ isDeclaration o then 0
  else if declarationBusy s o i then 6
  else if 768 < fastCount t ∨ 256 < slowCount t then 5 else 0

/-! ### Cabinets, blocks and phases (R73, R145) -/

/-- ton_min + toff of a phase stays within half the carrier period of an 18.40 µs frame (R73). -/
def edgesFit (t : State) (p : Nat) : Bool :=
  !t.is Obj.phaseDeclared p || tonMin t p + toffMin t p ≤ 58880 / max 1 (t.get Obj.carrierMultiple (blockOf p))

/-- A block names an outlet twice (R145). -/
def reachTwice (t : State) (b : Nat) : Bool :=
  (List.range 4).any fun x => (List.range 4).any fun y => x < y && t.get Obj.reach b x == t.get Obj.reach b y && t.get Obj.reach b x != 255

def powerStatus (t : State) (o : Obj) (i : Nat) : Nat :=
  if o.among [Obj.carrierMultiple, Obj.minimumOnTime, Obj.minimumOffTime] ∧ ¬ (phasesOf i).all (edgesFit t) then 5
  else if o.among [Obj.deadTime, Obj.bootstrapMin, Obj.phaseDeclared] ∧ ¬ edgesFit t i then 5
  else if o.among [Obj.declaredSupplyMap] ∧ ¬ (List.range 16).all (fun k => edgesFit t (16 * i + k)) then 5
  else if o.among [Obj.reach] ∧ reachTwice t i then 5
  else 0

/-! ### Loop engine (R108, R110 to R112, Tables 5.4 and 5.6) -/

/-- A capture signal selector (Table 5.6). -/
def captureFits (v : Nat) : Bool := v == 0xFFFFFFFF || (v < 65536 && v / 16 % 4 == 0 && v % 16 ≤ 8)

def loopStatus (t : State) (o : Obj) (i : Nat) (v : Int) : Nat :=
  if o.among [Obj.slotClass] ∧ (768 < fastCount t ∨ 256 < slowCount t) then 5
  else if o.among [Obj.slotMeasSource, Obj.slotRefSource, Obj.slotFfSource] ∧ ¬ sourceFits t v.toNat then 5
  else if o.among [Obj.slotParent, Obj.slotRefSource] ∧
      (t.get Obj.slotParent i ≠ parentOfSource (t.getN Obj.slotRefSource i) ∨ ¬ levelsFit t) then 5
  else if o.among [Obj.injectionSignal] ∧ 3 < v then 5
  else if o.among [Obj.captureSignal] ∧ ¬ captureFits v.toNat then 5
  else 0

/-! ### Outlets and contexts (R188, Tables 7.11 to 7.13) -/

/-- Fields of a context that may be written by its state (R188). -/
def contextStatus (s : State) (o : Obj) (c : Nat) (v : Int) : Nat :=
  let st := s.get Obj.ctxState c
  if o.base ≠ 0x6000 then 0
  else if o.among [Obj.ctxAuthorisation] then (if v = 0 then 5 else 6)
  else if st ≤ cxReserved then 0
  else if (st = cxBound ∨ st = cxDelivering) ∧ o.among [Obj.ctxClass, Obj.ctxEnergyNeed, Obj.ctxDeparture, Obj.ctxTariff] then 0
  else 6

def outletStatus (t : State) (o : Obj) (n : Nat) : Nat :=
  if o.among [Obj.overVoltageLevel, Obj.outletRatedVoltage] ∧ 100 * t.get Obj.overVoltageLevel n < 102 * t.get Obj.outletRatedVoltage n then 5
  else if o.among [Obj.insulationValidThreshold, Obj.insulationFaultThreshold] ∧
      t.get Obj.insulationValidThreshold n < t.get Obj.insulationFaultThreshold n then 5
  else 0

/-! ### Temperatures and cooling (R192, R196, R208) -/

/-- The levels of a channel: lower window < warning < stop, and the caps of Table 8.4. -/
def levelsOfChannelFit (t : State) (c : Nat) : Bool :=
  let role := t.get Obj.tcSpareRole c
  let pin := (c < 120 && c % 5 ≤ 1) || (132 ≤ c && role == 2)
  let body := (c < 120 && c % 5 == 2) || (132 ≤ c && role == 3)
  let cap : Int := if pin then 900 else if body then 1500 else if c < 120 then (if c % 5 = 3 then 650 else 1000)
    else if c < 132 then 1250 else 2500
  tcLowerOf t c < tcWarnOf t c && tcWarnOf t c < tcStopOf t c && tcStopOf t c ≤ cap && (!pin || -400 ≤ tcLowerOf t c)

/-- A parameter of the cable model (R208, R209). -/
def isCableParameter (o : Obj) : Bool := o.base == 0x4010 || o.id == Obj.flowQmax.id

def thermalStatus (t : State) (o : Obj) (i : Nat) (v : Int) : Nat :=
  if o.among [Obj.tcSensorType] ∧ 3 < v then 5
  else if o.among [Obj.tcWarning, Obj.tcStop, Obj.tcLower, Obj.tcSpareRole] ∧ ¬ levelsOfChannelFit t i then 5
  else if isCableParameter o ∧ ¬ constantsFit t i then 5
  else if o.among [Obj.flowQmin, Obj.flowQmax] ∧ t.get Obj.flowQmax i < t.get Obj.flowQmin i then 5
  else if o.among [Obj.flowTheta0, Obj.flowTheta1] ∧ t.get Obj.flowTheta1 i < t.get Obj.flowTheta0 i + 10 then 5
  else if o.among [Obj.phaseDeratingStart, Obj.phaseStop] ∧ t.get Obj.phaseStop i < t.get Obj.phaseDeratingStart i + 10 then 5
  else if o.among [Obj.coolantInletDeratingStart, Obj.coolantInletStop] ∧
      t.get Obj.coolantInletStop i < t.get Obj.coolantInletDeratingStart i + 10 then 5
  else 0

/-! ### Metering and billing (R237, Tables 9.3 and 10.1 to 10.4) -/

/-- A pulse source selector (Table 9.3). -/
def pulseSourceFits (v : Nat) : Bool :=
  let r := v / 256
  let i := v % 256
  if r ≤ 3 then r = 0 || i < 24 else if r ≤ 7 then i < 4 else r ≤ 9 && i = 0

/-- A season (Table 10.2), a switch point (Table 10.3), a special day (Table 10.4), a DST instant (Table 10.1), a closing day
and minute. -/
def seasonFits (v : Nat) : Bool := v / 16 % 8 == 0 && v / 4096 ≤ 12 && (v / 4096 == 0 || (1 ≤ v / 128 % 32))
def pointFits (v : Nat) : Bool := v % 2048 < 1440 && (v / 32768 == 0 || (1 ≤ v / 2048 % 16 && v / 2048 % 16 ≤ 8))
def specialFits (v : Nat) : Bool :=
  v / 32 % 256 == 0 && (v / 2 ^ 31 == 0 || (1 ≤ v / 2 ^ 18 % 16 && v / 2 ^ 18 % 16 ≤ 12 && 1 ≤ v / 2 ^ 13 % 32))
def dstFits (v : Nat) : Bool :=
  v / 2048 % 1024 == 0 && v % 2048 < 1440 && v / 2 ^ 28 ≤ 12 && v / 2 ^ 25 % 8 ≤ 5 && v / 2 ^ 22 % 8 ≤ 6
def closingFits (v : Nat) : Bool := 1 ≤ v / 2048 && v / 2048 ≤ 28 && v % 2048 < 1440

/-- A meter serves a context in a session. -/
def meterBusy (s : State) (n : Nat) : Bool :=
  match contextOf s n with
  | some c => ctxInSession s c
  | none => false

def meterStatus (s : State) (o : Obj) (i : Nat) (v : Int) : Nat :=
  let n := v.toNat
  let bad (x : Obj) (fits : Nat → Bool) : Bool := o.id == x.id && !fits n
  if o.base = 0x8100 ∧ meterBusy s i then 6
  else if bad Obj.pulseSource pulseSourceFits ∨ bad Obj.season seasonFits ∨ bad Obj.dayProfile pointFits ∨
      bad Obj.specialDays specialFits ∨ bad Obj.dstRule dstFits ∨ bad Obj.closingDayMinute closingFits ∨
      bad Obj.dstYears (fun y => 2000 ≤ y && y ≤ 2255) then 5
  else if o.id = Obj.recordSelector.id ∧ (recordOfSerial s n).isNone then 5
  else if o.id = Obj.fmkVersion.id ∧ anySession s then 6
  else 0

/-! ### Buses and links (R322, R324, R328, R335, R342) -/

/-- The marks of the schedule of a controller. -/
def marksOf (t : State) (k : Nat) : List Int := (List.range 31).map fun j => t.get Obj.timeMark k j

/-- A message object named as the next of another is no send object (R328). -/
def chainsFit (t : State) (m : Nat) : Bool := t.get Obj.moUse m != 2 || !isMember t m

def canStatus (s t : State) (o : Obj) (i : Nat) (v : Int) (l : List FieldWrite) : Nat :=
  if o.mo then
    (if moOwned s i then 3
     else if moStatusOf s i (moFieldsWith s i (l.filter fun w => w.key.i == i)) ≠ 0 then
       moStatusOf s i (moFieldsWith s i (l.filter fun w => w.key.i == i))
     else if chainsFit t i then 0 else 5)
  else if o.among [Obj.nominalRateCode, Obj.dataRateCode, Obj.tripleSampling] then
    (let rates := [125, 250, 500, 1000]
     let data := [0, 2000, 4000, 5000, 8000]
     let nominal := t.getN Obj.nominalRateCode i
     let code := t.getN Obj.dataRateCode i
     if code ≠ 0 ∧ data.getD code 0 < rates.getD nominal 0 then 5
     else if t.is Obj.tripleSampling i ∧ 2 ≤ nominal then 5 else 0)
  else if o.among [Obj.timeMark, Obj.basicCycleLength, Obj.basicCycles, Obj.scheduleMatrix] then
    (if s.get Obj.operation i = 1 then 6
     else if scheduleFits t i (marksOf t i) (t.get Obj.basicCycleLength i) (t.getN Obj.basicCycles i) (t.bytes Obj.scheduleMatrix i) then 0
     else 5)
  else if o.among [Obj.refId, Obj.refFormat] ∧ (if t.is Obj.refFormat i then 0x1FFFFFFF else 0x7FF) < t.get Obj.refId i then 5
  else if o.among [Obj.siteNodeAddress, Obj.ownNodeAddress] ∧ t.get Obj.siteNodeAddress = t.get Obj.ownNodeAddress then 5
  else if o.among [Obj.referenceChannel] ∧ v % 4 = 3 then 5
  else if o.among [Obj.carrier, Obj.pulseCycles] ∧ 24 * t.get Obj.carrier < 1000 * t.get Obj.pulseCycles then 5
  else if o.among [Obj.loading1Threshold, Obj.loading2Threshold] ∧ t.get Obj.loading2Threshold < t.get Obj.loading1Threshold then 5
  else 0

/-! ### Load switches and safety (R356, R361, R381, R388) -/

/-- The thresholds and window of a channel (Table 15.1, R361). -/
def thresholdsFit (t : State) (c : Nat) : Bool :=
  let steady := t.get Obj.lsSteady c
  let inrush := t.get Obj.lsInrush c
  10 ≤ steady && steady ≤ classRating c && steady ≤ inrush && byClass c 100 100 10 ≤ inrush && inrush ≤ byClass c 2000 2500 800 &&
  t.get Obj.lsWindow c ≤ byClass c 200 1000 100

def switchStatus (s t : State) (o : Obj) (i : Nat) (v : Int) : Nat :=
  if o.among [Obj.lsSteady, Obj.lsInrush, Obj.lsWindow] then (if thresholdsFit t i then 0 else 5)
  else if o.id = Obj.lsCommand.id then (match hostCommand i v s with | .error e => e | .ok _ => 0)
  else if o.id = Obj.outputDemand.id then (if v % 16 = 15 then 0 else 5)
  else if o.right = .rws then
    (if s.get Obj.safeOutputStates ≠ 0 then 6
     else if o.id = Obj.siConfig.id then (if siConfigFits v then 0 else 5)
     else if o.among [Obj.restartMode, Obj.outputMask] ∧ t.get Obj.restartMode i = 1 ∧ 16 ≤ t.get Obj.outputMask i then 5
     else 0)
  else 0

/-! ### Step 6 of R300 -/

/-- A selector of an event entry that the ring no longer holds (Table 12.14). -/
def selectorStatus (s : State) (o : Obj) (v : Int) : Nat :=
  if o.id = Obj.eventEntrySelector.id ∧ ¬ ((s.log Reg.eventRing).any fun e => (ofBytes (e.take 4) : Int) == v) then 5 else 0

/-- The refusal that the chapters lay down for one field of a write, 0 none: `s` is the state, `t` the combination. -/
def ruleStatus (s t : State) (l : List FieldWrite) (w : FieldWrite) : Nat :=
  match objById w.key.o with
  | none => 0
  | some o =>
    let i := w.key.i
    (([declarationStatus s t o i, powerStatus t o i, loopStatus t o i w.num, contextStatus s o i w.num, outletStatus t o i,
       thermalStatus t o i w.num, meterStatus s o i w.num, canStatus s t o i w.num l, switchStatus s t o i w.num,
       selectorStatus s o w.num].find? (· != 0)).getD 0)

/-- The refusal of a whole write: that of the failing field with the lowest subindex (R290). -/
def ruleOf (s : State) (l : List FieldWrite) : Nat := ((l.map (ruleStatus s (asWritten s l) l)).find? (· != 0)).getD 0

/-! ### What follows from a setting in effect -/

/-- Phases no longer declared, or declared again (Table 4.1). -/
def settlePhase (p : Nat) (s : State) : State :=
  if ¬ phaseDeclared s p then setPhase p phUndeclared (s.set Reg.phasePassed 0 p) else s

/-- The levels of the free slots (R112). -/
def settleLevels (s : State) : State :=
  s.forN 1024 fun k u =>
    let v : Int := ((levelOf u k).getD 0 : Nat)
    if u.get Obj.slotLevel k = v then u else u.set Obj.slotLevel v k

/-- A field has taken effect; `was` is the state before it did. -/
def settle (was : State) (w : FieldWrite) (s : State) : State :=
  match objById w.key.o with
  | none => s
  | some o =>
    let i := w.key.i
    if o.id = Obj.phaseDeclared.id then settlePhase i s
    else if o.among [Obj.linkDeclared, Obj.declaredPhaseCount] then s.forN 16 fun k u => settlePhase (16 * i + k) u
    else if o.id = Obj.weakOnConfigured.id then s.set Obj.weakOnApplied (s.get o i) i
    else if o.id = Obj.weakOffConfigured.id then s.set Obj.weakOffApplied (s.get o i) i
    else if o.among [Obj.tcSensorType, Obj.tcSpareRole] then (if was.get o i = s.get o i then s else restartChannel i s)
    else if isCableParameter o then s.set Reg.cableStarted 0 i
    else if o.id = Obj.slotClass.id then
      (if was.get o i = 3 ∧ s.get o i ≠ 3 then s.set Reg.slotFirst 1 i else s)
    else if o.among [Obj.slotParent, Obj.slotRefSource] then settleLevels s
    else if o.base = 0x6000 then contextWritten i s
    else if o.id = Obj.lsCommand.id then commandChannel i w.num (s.set o (was.get o i) i)
    else if o.among [Obj.outOfService, Obj.outletDeclared, Obj.outletMode] then refreshAvail i s
    else if o.id = Obj.controllerEnable.id then (if was.get o i = s.get o i then s else enableController i (s.is o i) s)
    else if o.id = Obj.moPeriod.id then s.set Reg.moPeriodAt s.now i
    else if o.id = Obj.moDeadline.id then s.set Reg.moWatchAt s.now i
    else if o.mo then (if o.among [Obj.moData] then s else s.set Obj.moPendingId (s.get Obj.moId i) i)
    else if o.id = Obj.linkEnable.id then
      (if was.get o = s.get o then s else if s.is o then setMpl 1 s else setMpl 0 ((abandonFrames s).set Reg.mplLocked 0))
    else if o.id = Obj.osDeclared.id then
      (if was.get o i = s.get o i then s else s.set Obj.osState (if s.is o i then 1 else 0) i)
    else s

/-- The field writes that a boundary brings into effect. -/
def dueWrites (b : Boundary) (s : State) : List FieldWrite := (s.waiting.filter fun w => w.boundary == b && !w.partly).flatMap (·.writes)

/-- A boundary of Table 1.4 is reached, with what follows from the settings that take effect. -/
def applyDue (b : Boundary) (s : State) : State := (dueWrites b s).foldl (fun u w => settle s w u) (atBoundary b s)

/-! ### Discarding changes (R294) -/

/-- Every changed object returns to its committed value, as a write at its boundary (R294). -/
def revertCells (role : Nat) (s : State) : State :=
  let revert (b : Boundary) : List FieldWrite := s.dirty.filterMap fun k =>
    match objById k.o with
    | some o => if boundaryOf (o.index k.i) = b then some ⟨k, committedNum s k, committedBytes s k, o.ty.isBytes⟩ else none
    | none => none
  let t := [Boundary.frameStart, .fastPass, .slowTick, .sample, .second, .hpCycle].foldl (fun u b =>
    if (revert b).isEmpty then u
    else { u with waiting := u.waiting ++ [⟨discardSpace, 0, 0, respCode 2, b, false, u.now, role, false, revert b⟩] }) s
  undirty ((revert .atOnce).map (·.key)) ((revert .atOnce).foldl (fun u f => settle u f (applyField role false f u)) t)

/-- Some uncommitted cell is a SEAL object. -/
def sealDirty (s : State) : Bool := s.dirty.any fun k =>
  match objById k.o with
  | some o => o.right == .seal || o.right == .sealWo
  | none => false

def execDiscardChanges (r : Req) (s : State) : Out :=
  s.run fun s => endDiscard (hostDefer r Obj.commitCommand 0 0 [2] (fun role t =>
    if commitStatus t ≠ 0 then .error (commitStatus t)
    else if sealDirty t ∧ t.get Obj.sealOpen = 0 then .error 8
    else .ok (revertCells role ((logEvent 0x1011 srcAp1 (data8 [1] ++ data32 t.dirty.length) t).set Reg.commitRunning 2))) s)

end Sys2Proof.Machine
end

