-- ==== Sys2Proof/Machine/Pair.lean ====
section
/-!
DEFINITION. The pair: lease, fencing, takeover, orderly handover, the mirror, the configuration sync, joining and the
health report (Active and standby operation).
-/

namespace Sys2Proof.Machine

/-! ### Roles -/

/-- The backplane is a pairing one (0xA800:03). -/
def pairing (s : State) : Bool := s.bit Obj.backplane 0

/-- What follows a change of role: a brake test is aborted (R386), the safe outputs are set (R389), CAN2 and CAN3 enter or
leave bus monitoring (R320), the cross-check window is void (R235), and the mains-pulse link listens, or after 4 silent
half-cycles sends again what the former active left unanswered (R354). -/
def afterRole (s : State) : State :=
  let t := setOutputs (s.forN 2 fun m u => abortTest m u)
  let t := t.forL [2, 3] fun k u =>
    if isDriving u ∧ u.get Obj.controllerState k = csMonitor then u.set Obj.controllerState csActive k
    else if ¬ isDriving u ∧ canSends u k then u.set Obj.controllerState csMonitor k else u
  let t := t.set Reg.windowBad 1
  if isDriving t ∧ t.get Obj.mplState = 4 then ((setMpl 2 (t.set Reg.mplSilent 4)).set Reg.mplAttempts 0).set Reg.mplMissed 0
  else if ¬ isDriving t ∧ t.get Obj.mplState = 2 then setMpl 4 t else t

/-- The module becomes ISOLATED. -/
def becomeIsolated (s : State) : State :=
  let t := channelsOff ((s.set Reg.ownActive 0).set Reg.paired 0)
  let t := ((t.set Reg.resignDue 0).set Reg.isolateDue 0).set Reg.joinPhase 0
  let t := ((t.set Reg.mirrorLocked 0).set Reg.mirrorRun 0).set Reg.acceptFrame 0
  afterRole (setRole roIsolated ((t.set Reg.outOfSync 0).set Reg.resyncAt 0))

/-- The module becomes STANDBY: grants begin at the next frame (Table 17.10). -/
def becomeStandby (s : State) : State :=
  let t := ((s.set Reg.joinPhase 0).set Reg.joinFailedAt 0).set Reg.requestAt s.frame
  let t := ((t.set Reg.resignDue 0).set Reg.heldLogged 0).set Reg.acceptFrame 0
  afterRole (setRole roStandby ((t.set Reg.mirrorLocked 1).set Reg.paired 0))

/-- The module fences at this frame start (R400). -/
def fenceNow (s : State) : State := afterRole (fence s)

/-- The module takes the token, with the cause of event 0xA811: R404 and Table 17.7. It answers at the site IPv4 address and
says so. -/
def takeOver (cause : Int) (s : State) : State :=
  let t := afterRole (adoptMeters (takeToken cause s))
  refreshAll (t.emit (.arp (t.getN Obj.siteIpAddress)))

/-! ### Lease frames (Table 17.4) -/

/-- The fields of a lease frame. -/
structure Lease where
  seq : Nat
  frame : Nat
  length : Nat
  role : Nat
  score : Nat
  flags : Nat
  generation : Nat
deriving DecidableEq, Repr

/-- A good lease frame of an operation: its length, version and kind, operation, reserved bytes and CRC. -/
def leaseOf (op : Nat) (d : List Byte) : Option Lease :=
  let field (a n : Nat) : Nat := ofBytes ((d.drop a).take n)
  if d.length = 32 ∧ field 0 1 = 0x15 ∧ field 1 1 = op ∧ field 20 8 = 0 ∧ field 28 4 = crc32 (d.take 28) then
    some ⟨field 2 2, field 4 8, field 12 1, field 13 1, field 14 1, field 15 1, field 16 4⟩
  else none

/-- What every good lease frame tells: the partner is there, its role, score, flags and lease length. -/
def hearLease (x : Lease) (s : State) : State :=
  let t := ((s.set Reg.leaseSeenAt (s.now + 1)).set Reg.partnerSeen 1).set Obj.partnerRole x.role
  let t := ((t.set Obj.partnerScore x.score).set Obj.partnerFit (x.flags % 2 : Nat)).set Reg.partnerFlags x.flags
  (t.set Reg.partnerLease x.length).set Obj.partnerLinkState lkRun

/-- A command on a good lease frame: a module on a simplex backplane has no lease (R412). -/
def onLease (op : Nat) (d : List Byte) (f : Lease → State → State) (s : State) : State :=
  match leaseOf op d with
  | some x => if pairing s ∧ s.get Obj.role ≠ roSolo then f x (hearLease x s) else s
  | none => s

/-- The standby learns that its configuration is out of sync: a full resync begins (R397). -/
def noteSync (was : Nat) (x : Lease) (s : State) : State :=
  if was.testBit 2 ∧ ¬ x.flags.testBit 2 ∧ s.get Reg.outOfSync = 0 then
    healthItem 11 0xFFFF ((s.set Reg.outOfSync 1).set Reg.resyncAt (s.now + 1))
  else s

/-- REQUEST: the STANDBY module answers with GRANT, or with RESIGN after host command 2 (R398, R410). At a joining module it
shows that the link is synchronised (Table 17.10). -/
def execRequest (frame : List Byte) (s : State) : Out :=
  s.run fun s => onLease opRequest frame (fun x t =>
    let t := (t.set Reg.requestAt t.frame).set Reg.heldLogged 0
    if t.get Obj.role = roStandby then
      sendLease (if t.is Reg.resignDue then opResign else opGrant) x.frame (noteSync (s.getN Reg.partnerFlags) x t)
    else if t.get Obj.role = roIsolated ∧ t.get Reg.joinPhase = 1 then t.set Reg.joinPhase 2
    else t) s

/-- GRANT: the frame counts as granted when it names it and arrives in time (R398); a grant pairs the modules. -/
def execGrant (frame : List Byte) (s : State) : Out :=
  s.run fun s => onLease opGrant frame (fun x t =>
    if t.get Obj.role = roActive ∧ x.frame = t.frame ∧ t.get Reg.grantJudged = 0 then (t.set Reg.granted 1).set Reg.paired 1
    else t) s

/-- F0 + 5.0 µs: a frame without a good GRANT counts as ungranted (R398); a RELEASE without an answer is cancelled (R403). -/
def execGrantDeadline (s : State) : Out :=
  s.run fun s =>
    if s.get Obj.role ≠ roActive ∨ ¬ s.is Reg.paired ∨ s.is Reg.grantJudged then s
    else
      let t := s.set Reg.grantJudged 1
      let t := if t.get Reg.handoverFrame ≠ 0 ∧ t.get Reg.fenceDue = 0 then t.set Reg.handoverFrame 0 else t
      if t.is Reg.granted then t.set Reg.ungrantedRun 0
      else (t.set Reg.ungrantedRun (t.get Reg.ungrantedRun + 1)).inc Obj.framesUngranted

/-- The frame start after L ungranted frames: the module goes on unpaired when the partner's LIVE line has not toggled for 2
frames, and fences otherwise (R398). -/
def execLeaseExpiry (live : Bool) (s : State) : Out :=
  s.run fun s =>
    if s.get Obj.role = roActive ∧ s.is Reg.paired ∧ s.get Reg.leaseInUse ≤ s.get Reg.ungrantedRun then
      let t := s.set Obj.partnerLinkState lkLost
      if live then fenceNow t else unpair 1 t
    else s

/-- A frame start of the STANDBY module: it takes the token as the partner's ACTIVE line falls after its ACCEPT (R403), or
after L + 1 frames without a good REQUEST with that line deasserted (R399). While the line stays asserted it logs event
0xA815 once. -/
def execTakeover (partnerLine : Bool) (s : State) : Out :=
  s.run fun s =>
    let t := s.setB Reg.partnerActive partnerLine
    if t.get Obj.role ≠ roStandby then s
    else if t.get Reg.acceptFrame ≠ 0 ∧ t.get Reg.acceptFrame ≤ t.frame then (if partnerLine then t else takeOver 2 t)
    else if t.get Reg.requestAt + t.get Reg.leaseInUse + 2 ≤ t.frame then
      (if ¬ partnerLine then takeOver 1 t
       else if t.is Reg.heldLogged then t
       else logEvent 0xA815 srcAp1 [] (t.set Reg.heldLogged 1))
    else t

/-- RELEASE: the standby answers ACCEPT when it is fit and mirror-locked, otherwise REFUSE (R403). -/
def execRelease (frame : List Byte) (s : State) : Out :=
  s.run fun s => onLease opRelease frame (fun x t =>
    if t.get Obj.role ≠ roStandby then t
    else if t.is Obj.fitToTakeOver ∧ t.is Reg.mirrorLocked then sendLease opAccept x.frame (t.set Reg.acceptFrame (x.frame + 1))
    else sendLease opRefuse x.frame t) s

/-- ACCEPT: the active fences at the next frame start (R403). -/
def execAccept (frame : List Byte) (s : State) : Out :=
  s.run fun s => onLease opAccept frame (fun x t =>
    if t.get Obj.role = roActive ∧ t.get Reg.handoverFrame = x.frame + 1 ∧ x.frame = t.frame ∧ t.get Reg.grantJudged = 0 then
      t.set Reg.fenceDue 1
    else t) s

/-- REFUSE: the handover is cancelled, and the active keeps the token (R403). -/
def execRefuse (frame : List Byte) (s : State) : Out :=
  s.run fun s => onLease opRefuse frame (fun x t =>
    if t.get Obj.role = roActive ∧ t.get Reg.handoverFrame = x.frame + 1 then t.set Reg.handoverFrame 0 else t) s

/-- RESIGN: answered with RESIGN_ACK, which a fenced module sends too; the active goes on unpaired (R400, R410). -/
def execResign (frame : List Byte) (s : State) : Out :=
  s.run fun s => onLease opResign frame (fun x t =>
    if t.get Obj.role = roActive then unpair 2 (sendLease opResignAck x.frame t)
    else if t.get Obj.role = roFenced then sendLease opResignAck x.frame t
    else t) s

/-- RESIGN_ACK: the standby becomes ISOLATED at the next frame start (R410). -/
def execResignAck (frame : List Byte) (s : State) : Out :=
  s.run fun s => onLease opResignAck frame (fun _ t =>
    if t.get Obj.role = roStandby ∧ t.is Reg.resignDue then t.set Reg.isolateDue 1 else t) s

/-! ### Host commands (0xA800:02) -/

/-- Neither a lease frame nor the partner's ACTIVE line has been seen for 5 s (R392). -/
def partnerQuiet (s : State) : Bool :=
  s.get Reg.partnerActive == 0 && (s.get Reg.leaseSeenAt == 0 || s.getN Reg.leaseSeenAt + 5 * second ≤ s.now + 1)

/-- Host command 1: the module asserts its ACTIVE line; the answer follows the sample (R392). -/
def becomeActive (s : State) : Except Nat State :=
  if ¬ pairing s ∨ s.get Obj.role ≠ roIsolated ∨ s.get Reg.activeTryAt ≠ 0 ∨ ¬ partnerQuiet s then .error 6
  else .ok ((s.set Reg.ownActive 1).set Reg.activeTryAt (s.frame + 1))

def execBecomeActive (r : Req) (s : State) : Out := s.run (hostDefer r Obj.roleCommand 0 0 [1] fun _ t => becomeActive t)

/-- 2 frames later: with both lines asserted the module in slot 1 gives way; otherwise the module becomes ACTIVE and begins
bring-up on all its declared links (R16, R392). -/
def execActiveLineSample (partnerLine : Bool) (s : State) : Out :=
  s.run fun s =>
    if s.get Reg.activeTryAt = 0 ∨ (s.frame : Int) + 1 < s.get Reg.activeTryAt + 2 then s
    else
      let t := (s.setB Reg.partnerActive partnerLine).set Reg.activeTryAt 0
      if partnerLine ∧ t.bit Obj.backplane 1 then answerWaiting Obj.roleCommand 0 6 (t.set Reg.ownActive 0)
      else
        let t := (takeOver 3 t).set Reg.joinPhase 0
        let t := t.forN 16 fun c u => if cabDeclared u c then bringUp c (withdrawCabinet c u) else u
        answerWaiting Obj.roleCommand 0 0 t

/-- Host command 2 (R390, R410). -/
def isolateByHost (s : State) : Except Nat State :=
  if s.get Obj.role = roStandby then .ok (s.set Reg.resignDue 1) else if s.get Obj.role = roIsolated then .ok s else .error 6

def execIsolate (r : Req) (s : State) : Out := s.run (hostWrite r Obj.roleCommand 0 0 [2] fun _ t => isolateByHost t)

/-- Host command 3 to either module of a pair (R403). The standby passes it on. -/
def handOver (s : State) : Except Nat State :=
  if s.get Obj.role = roActive then (if standbyFit s then .ok (s.set Reg.handoverDue 1) else .error 6)
  else if s.get Obj.role = roStandby ∧ s.is Obj.fitToTakeOver then .ok (s.emit (.sync (Obj.roleCommand.key 0 0) 3 []))
  else .error 6

def execHandOver (r : Req) (s : State) : Out := s.run (hostWrite r Obj.roleCommand 0 0 [3] fun _ t => handOver t)

/-! ### Joining (R407, R408) -/

/-- The join sequence starts; J is this instant, or that of stage 4 when the frames were seen since then (R16). -/
def startJoin (j : Nat) (s : State) : State :=
  let t := ((s.set Reg.joinPhase 1).set Reg.joinAt j).set Reg.joinFailedAt 0
  let t := ((t.set Reg.mirrorRun 0).set Reg.mirrorLocked 0).set Reg.objectsReplaced 0
  t.set Obj.partnerLinkState lkClock

/-- Host command 4 to a FENCED or ISOLATED module (Table 17.1). -/
def joinByHost (s : State) : Except Nat State :=
  if ¬ pairing s ∨ (s.get Obj.role ≠ roFenced ∧ s.get Obj.role ≠ roIsolated) then .error 6
  else .ok (startJoin s.now (if s.get Obj.role = roFenced then becomeIsolated s else s))

/-- Host command 4, or the partner's lease frames seen by an ISOLATED module (R407). -/
def execJoin (r : Option Req) (s : State) : Out :=
  match r with
  | some q => s.run (hostWrite q Obj.roleCommand 0 0 [4] fun _ t => joinByHost t)
  | none => s.run fun s =>
    if pairing s ∧ s.get Obj.role = roIsolated ∧ 4 ≤ s.get Obj.startUpStage ∧ s.is Reg.partnerSeen ∧ s.get Reg.joinPhase = 0 ∧
        s.get Reg.joinFailedAt = 0 then
      startJoin (if s.getN Reg.rolesAt + 30 * second ≤ s.now then s.now else s.getN Reg.rolesAt) s
    else s

/-- Own versions in the order of the partner's. -/
def ownVersions (s : State) : List Int :=
  [s.get Obj.dictionaryVersion, s.get Obj.lifeCycleState, s.get Obj.configurationCRCInUse, s.get Obj.firmwareVersionInUse, 1]

/-- A version of the partner that was received and differs. -/
def versionDiffers (s : State) (k : Nat) : Bool :=
  match (s.seq Reg.partnerVersions)[k]? with
  | some v => v != (ownVersions s).getD k 0
  | none => false

/-- The condition of cause `k` of R408. -/
def joinFails (s : State) (k : Nat) : Bool :=
  let p := s.get Reg.joinPhase
  let late (ms : Nat) : Bool := s.getN Reg.joinAt + ms * millisecond ≤ s.now
  if k = 1 then p == 1 && late 4000
  else if k = 2 then versionDiffers s 0 || versionDiffers s 4
  else if k = 3 then versionDiffers s 1 || versionDiffers s 2
  else if k = 4 then p ≤ 2 && late 25000
  else late 29500

/-- A join step misses its deadline, or the versions differ: the module stays ISOLATED, event 0xA814 (R408). -/
def execJoinFailed (cause : Fin 5) (s : State) : Out :=
  s.run fun s =>
    let k := cause.val + 1
    if s.get Obj.role = roIsolated ∧ s.get Reg.joinPhase ≠ 0 ∧ joinFails s k then
      let t := ((s.set Reg.joinPhase 0).set Reg.joinFailedAt (s.now + 1)).set Obj.lastCause (16 + k : Nat)
      logEvent 0xA814 srcAp1 (data8 [k]) (t.set Reg.mirrorRun 0)
    else s

/-- 60 s after a failed join (R408). -/
def execJoinRetry (s : State) : Out :=
  s.run fun s =>
    if s.get Obj.role = roIsolated ∧ s.get Reg.joinFailedAt ≠ 0 ∧ s.getN Reg.joinFailedAt + 60 * second ≤ s.now + 1 then
      startJoin s.now s
    else s

/-- A fenced module that has not become STANDBY within 2 s becomes ISOLATED; with the partner link down it stays FENCED while
the partner's heartbeat shows ACTIVE (R390, R406). -/
def execFencedTimeout (s : State) : Out :=
  s.run fun s =>
    if s.get Obj.role = roFenced ∧ s.getN Reg.fencedAt + 2 * second ≤ s.now ∧
        ¬ (s.get Obj.partnerLinkState ≠ lkRun ∧ s.get Reg.partnerHeartbeat = roActive) then becomeIsolated s
    else s

/-- A full resync that is not complete within 25 s (Table 17.1). -/
def execResyncTimeout (s : State) : Out :=
  s.run fun s =>
    if s.get Obj.role = roStandby ∧ s.get Reg.resyncAt ≠ 0 ∧ s.getN Reg.resyncAt + 25 * second ≤ s.now + 1 then becomeIsolated s
    else s

/-! ### The ACTIVE line of the partner (R393) -/

/-- While it is asserted no lane, load channel or safe output is enabled; when it falls they follow again (R393). -/
def execPartnerActiveLineChange (asserted : Bool) (s : State) : Out :=
  s.run fun s =>
    let t := ((s.setB Reg.partnerActive asserted).set Reg.leaseSeenAt (s.now + 1)).set Reg.partnerSeen 1
    if t.get Obj.role = roSolo then s
    else if asserted then setOutputs (channelsOff t)
    else if isDriving t then setOutputs (channelsFollow t) else t

/-! ### The mirror (R396) -/

/-- The slot states of a mirror adopted (Table 17.3). -/
def adoptSlot (i : Nat) (d : List Byte) (s : State) : State :=
  let part (a n : Nat) : List Byte := (d.drop a).take n
  let val (e : Int) (m : Int) : Rat := (m : Rat) * pow2 (e - 150)
  let e1 : Int := ofBytes (part 0 1)
  let e2 : Int := ofBytes (part 4 1)
  let t := s.setReal Reg.slotReal (val e1 (ofBytesI (part 1 3))) i 13
  let t := (t.setReal Reg.slotReal (val e2 (ofBytesI (part 5 3))) i 7).setReal Reg.slotReal (val (e2 - 24) (ofBytesI (part 8 3))) i 8
  let t := t.set Obj.slotFlags (t.get Obj.slotFlags i / 256 * 256 + ofBytes (part 11 1)) i
  if i < 256 then t.set Reg.dutyRaw (clampI 0 65535 (roundAway (t.real Reg.slotReal i 13 * 65536))) i else t

/-- The slots whose shadow state differs from the mirror, bit for bit. -/
def shadowDiffers (s : State) (m : Mirror) : List Nat :=
  (enabledSlots s).filter fun i => m.slots.getD i [] != slotState s i

/-- What the mirror says of a block. -/
def adoptBlock (m : Mirror) (b : Nat) (s : State) : State :=
  let l := m.blocks.getD b []
  let v (k : Nat) : Int := l.getD k 0
  let t := ((s.set Obj.blockState (v 0) b).set Obj.allocState (v 1) b).set Obj.slotSetInUse (v 2) b
  let t := ((t.set Reg.mvKind (v 3 / 8) b).set Reg.mvStep (v 3 % 8) b).set Reg.mvM ((m.frame : Int) - v 4) b
  let t := (t.set Reg.contactorCommand (v 5) b).set Obj.boundOutlet (v 6) b
  let t := (t.set Obj.blockShare (m.shares.getD b 0) b).set Reg.preVoltage (m.shares.getD (64 + b) 0) b
  t.setReal Reg.ramp (m.ramps.getD b 0) b

/-- What it says of an outlet. -/
def adoptOutlet (m : Mirror) (n : Nat) (s : State) : State :=
  let l := m.outlets.getD n []
  let v (k : Nat) : Int := l.getD k 0
  let t := ((s.set Obj.outletState (v 0) n).set Reg.outletLatch (v 1) n).set Obj.lastEndCause (v 2) n
  let t := (t.set Obj.boundContext (v 3) n).set Reg.checkStep (v 4 / 8) n
  let t := (t.set Reg.stopStep (v 4 % 8) n).set Reg.outletSinceFrame ((m.frame : Int) - v 5) n
  (t.set Reg.leTarget (m.targets.getD n 0) n).set Reg.leVoltage (m.targets.getD (24 + n) 0) n

/-- What it says of a load channel: its command, and whether it is latched, waits for a retry or is shed. Its own switch stays
off. -/
def adoptChannel (m : Mirror) (c : Nat) (s : State) : State :=
  let st := m.outputs.getD (96 + c) 0
  let t := s.set Obj.lsCommand (m.outputs.getD c 0) c
  if t.get Obj.lsState c = lsSupplyOff then t
  else t.set Obj.lsState (if st = lsInrushing ∨ st = lsOn ∨ st = lsSupplyOff then lsOff else st) c

/-- What it says of a safety function: RUN when the own inputs allow it too; one tripped in the shadow stays tripped (R389). -/
def adoptFunction (m : Mirror) (k : Nat) (s : State) : State :=
  let bad := (List.range 8).any fun n => watches s k n && !inputGood s n
  if m.outputs.getD (193 + k) 1 = 0 ∧ ¬ bad then s.set Obj.functionState 0 k else s.set Obj.functionState 1 k

/-- The mirrored state adopted (R396, Table 17.3), the frame counter and the lane sequences with it (R31, R394). -/
def adoptMirror (m : Mirror) (s : State) : State :=
  let t := s.forN 1024 fun i u => adoptSlot i (m.slots.getD i []) u
  let t := (t.forN 64 (adoptBlock m)).forN 24 (adoptOutlet m)
  let t := t.forN 256 fun p u => u.set Obj.phaseState (m.phases.getD p 0) p
  let t := (t.forN 96 (adoptChannel m)).forN 8 (adoptFunction m)
  let t := t.set Reg.startPassed (m.outputs.getD 201 0)
  let t := t.forN 16 fun c u =>
    let w := m.substitution.getD c 0
    let u := u.set Obj.linkState (w / 4 : Nat) c
    if w.testBit 1 then u else u.set Reg.commandSeq ((u.get Reg.commandSeq c + 1) % 65536) c
  (t.set Obj.frameCounter m.frame).set Obj.moduleTime m.time

/-- The module follows a mirror: STANDBY, FENCED, or joining with its configuration complete. -/
def followsMirror (s : State) : Bool :=
  s.get Obj.role == roStandby || s.get Obj.role == roFenced || (s.get Obj.role == roIsolated && 2 ≤ s.get Reg.joinPhase)

/-- The mirror of a frame arrives, good or failing its CRC. The standby compares its shadow evaluation and adopts the
mirrored state (R396); 5000 consecutive matched mirrors lock it, and make a fenced or joining module STANDBY (R390,
Table 17.10). -/
def execMirrorFrame (m : Mirror) (good : Bool) (s : State) : Out :=
  s.run fun s =>
    if ¬ followsMirror s then s
    else if ¬ good then ((s.inc Obj.mirrorsMissingOrFailed).set Reg.mirrorRun 0).set Reg.mirrorSeen 1
    else
      let bad := shadowDiffers s m
      let t := s.set Obj.shadowMismatches ((s.get Obj.shadowMismatches + bad.length) % 4294967296)
      let t := match bad with
        | i :: _ => (logLimited 0xA818 srcAp1 0 second (beBytes 2 i) t)
        | [] => t
      let t := t.forL bad (healthItem 2)
      let gap := if t.get Obj.mirrorsReceived = 0 then 1 else (m.frame : Int) - t.get Reg.mirrorFrame
      let t := ((t.inc Obj.mirrorsReceived).set Reg.mirrorSeen 1).set Reg.mirrorGap gap
      let run : Int := if bad.isEmpty then t.get Reg.mirrorRun + 1 else 0
      let t := adoptMirror m ((t.set Reg.mirrorFrame m.frame).set Reg.mirrorRun (min run 5000))
      if run < 5000 then t
      else if t.get Obj.role = roFenced ∧ t.get Obj.partnerRole = roActive ∧ t.get Obj.partnerLinkState = lkRun then becomeStandby t
      else if t.get Obj.role = roIsolated ∧ t.get Reg.joinPhase = 3 then becomeStandby t
      else t.set Reg.mirrorLocked 1

/-! ### The configuration sync (R397) -/

/-- A synced value applied, at a standby without the boundary it had at the active. -/
def applyCell (index sub : Nat) (v : List Byte) (s : State) : State :=
  match cellAt index sub with
  | none => s
  | some (o, i, j) =>
    if ownToModule o then s
    else if o.id = Obj.collectRecord.id then (match collectRecord v s with | .ok t => t | .error _ => s)
    else if o.id = Obj.releaseUpTo.id then (match releaseUpTo v s with | .ok t => t | .error _ => s)
    else if o.right = .wo ∨ o.right = .sealWo then s
    else settle s ⟨o.key i j, o.ty.decode v, v, o.ty.isBytes⟩ (applyField 0 true ⟨o.key i j, o.ty.decode v, v, o.ty.isBytes⟩ s)

/-- An entry of the record store taken over, once. -/
def takeRecord (e : List Byte) (s : State) : State :=
  if (s.log Reg.recordStore).contains e then s
  else
    let t := (s.setLog Reg.recordStore (e :: s.log Reg.recordStore)).setSeq Reg.recordImage
      (s.get Obj.firmwareVersionInUse :: s.seq Reg.recordImage)
    showRecords (t.set Reg.recordSeq (max (t.get Reg.recordSeq) (entrySeq e : Nat)))

/-- A context as the active's journal holds it. -/
def takeContext (c : Nat) (d : List Byte) (s : State) : State :=
  let field (a n : Nat) : Int := ofBytes ((d.drop a).take n)
  let t := ((s.set Obj.ctxState (field 0 1) c).set Obj.ctxSerial (field 1 4) c).set Reg.ctxAuthorised (field 5 1) c
  let t := (t.set Obj.ctxIdentityKind (field 6 1) c).setBytes Obj.ctxIdentity (d.drop 7) c
  t.set Reg.lastSerial (max (t.get Reg.lastSerial) (field 1 4))

/-- A register set as the active's journal holds it. -/
def takeRegSet (c : Nat) (d : List Byte) (s : State) : State :=
  let field (a n : Nat) : List Byte := (d.drop a).take n
  let num (a n : Nat) : Int := ofBytes (field a n)
  let t := ((s.set Obj.regSetOutlet (num 0 1) c).set Obj.regSetFlags (num 1 1) c).set Reg.ctxOpen (num 2 1) c
  let t := ((t.set Reg.qualityStart (num 3 1) c).set Obj.startTime (ofBytesI (field 4 8)) c).set Obj.stopTime (ofBytesI (field 12 8)) c
  t.forN 3 fun j u => (u.setBytes Obj.startReg (field (20 + 10 * j) 10) c j).setBytes Obj.stopReg (field (50 + 10 * j) 10) c j

/-- A boundary record as the active's journal holds it: its ring, its sequence, the slot in force. -/
def takeBoundary (d : List Byte) (s : State) : State :=
  if (s.log Reg.boundaryRing).contains d then s
  else
    let t := s.setLog Reg.boundaryRing ((d :: s.log Reg.boundaryRing).take 4096)
    (t.set Obj.lastBoundarySequence (ofBytes (d.take 4))).set Obj.slotInForce (ofBytes ((d.drop 22).take 1))

/-- A journal item applied, and submitted to the own journal (R397, Table 19.7). Of the objects, lockout causes, contactor
counts and what lies in the areas of links to billing; the module's own counters stay. -/
def applyItem (it : List Byte) (s : State) : State :=
  let key := ofBytes ((it.drop 2).take 2)
  let sub := ofBytes ((it.drop 6).take 2)
  let d := (it.drop 8).take (ofBytes ((it.drop 4).take 2))
  let k := itemKind it
  let t := if k = jkContext ∧ key < 250 then takeContext key d s
    else if k = jkRegisterSet ∧ key < 250 then takeRegSet key d s
    else if k = jkRecord then takeRecord d s
    else if k = jkBoundary then takeBoundary d s
    else if (k = jkObject ∨ k = jkCounter) ∧ 0x3000 ≤ key ∧ key < 0xA000 then
      match cellAt key sub with
      | some (o, i, j) => if o.ty.isBytes then s.setBytes o d i j else s.set o (o.ty.decode d) i j
      | none => s
    else s
  submit (ofBytes (it.take 1)) k key sub d (k = jkContext) t

/-- The topology results of the active taken over (R17). -/
def takeTopology (l : List Nat) (s : State) : State :=
  let v (k : Nat) : Nat := l.getD k 0
  let t := ((s.set Obj.topologyResult (v 0)).set Obj.refusedCabinets (v 1)).set Obj.refusedBlocks (v 2)
  let t := ((t.set Obj.refusedOutlets (v 3)).set Obj.refusedFeeders (v 4)).set Obj.refusedPhases (v 5)
  let t := t.set Obj.absentOutstations (v 6)
  let t := t.forN 16 fun c u => u.setB Reg.cabPassed (cabAdmitted u c) c
  let t := t.forN 64 fun b u => u.setB Reg.blockPassed (blockAdmitted u b) b
  let t := t.forN 256 fun p u => u.setB Reg.phasePassed (phaseAdmitted u p) p
  let t := t.forN 24 fun n u => u.setB Reg.outletPassed (outletAdmitted u n) n
  t.forN 4 fun f u => u.setB Reg.feederPassed (!u.bit Obj.refusedFeeders f) f

/-- What the module does with an item of the sync. -/
def takeItem (x : SyncItem) (s : State) : State :=
  match x with
  | .ack => s
  | .cell index sub v => applyCell index sub v s
  | .commit => (stageCommit s).set Reg.commitRunning 1 |>.set Reg.commitAt s.now
  | .transition st => if s.get Reg.transitionTo = 0 then s.set Reg.transitionTo (st + 1 : Nat) else s
  | .record e => takeRecord e s
  | .journal it => applyItem it s
  | .handOver => s
  | .versions m d l c f => s.setSeq Reg.partnerVersions [d, l, c, f, m]
  | .report sc fit => (s.set Obj.partnerScore sc).setB Obj.partnerFit fit
  | .topology l => takeTopology l s

/-- An item of the configuration sync arrives. At the active: the acknowledgement, with which waiting answers go out and
committed contexts show; host command 3 from the standby; the partner's versions and report. At the standby, and at a
joining module: the item is applied and acknowledged (R397). -/
def execConfigurationSync (item : SyncItem) (s : State) : Out :=
  s.run fun s =>
    if ¬ pairing s then s
    else if s.get Obj.role = roActive then
      match item with
      | .ack =>
        let t := (atBoundary .sync s).set Reg.syncSentAt 0
        if t.is Reg.ctxShowDue then showContexts t else t
      | .handOver => (match handOver s with | .ok t => t | .error _ => s)
      | .versions .. => takeItem item s
      | .report .. => takeItem item s
      | _ => s
    else if s.get Obj.role = roStandby ∨ s.get Reg.joinPhase ≠ 0 then
      match item with
      | .ack => s
      | .handOver => s
      | .report .. => takeItem item s
      | .versions .. => (takeItem item s).emit (.partner 0x3C (ownVersions s))
      | _ => ((takeItem item s).inc Reg.syncGeneration).emit (.partner 0x3C [s.get Reg.syncGeneration + 1])
    else s

/-- No acknowledgement within 50 ms: the active answers anyway, marks the standby out of sync, event 0xA817, and a full
resync follows (R397). -/
def execSyncAckTimeout (s : State) : Out :=
  s.run fun s =>
    if s.get Obj.role = roActive ∧ s.get Reg.syncSentAt ≠ 0 ∧ s.getN Reg.syncSentAt + 50 * millisecond ≤ s.now + 1 then
      let t := (atBoundary .sync s).set Reg.syncSentAt 0
      let t := if t.is Reg.ctxShowDue then showContexts t else t
      if t.is Reg.outOfSync then t
      else logEvent 0xA817 srcAp1 [] (healthItem 11 0xFFFF ((t.set Reg.outOfSync 1).set Reg.resyncAt (t.now + 1)))
    else s

/-- The value of a cell differs. -/
def cellDiffers (s : State) (x : Nat × Nat × List Byte) : Bool :=
  match cellAt x.1 x.2.1 with
  | some (o, i, j) => !ownToModule o && cellBytes s o i j != x.2.2
  | none => false

/-- A full sync completes: every synced object of the module takes the active's value, given by index, subindex and bytes,
and the journal items are applied. At a join the number replaced is logged (R407, R409). -/
def execFullSyncComplete (values : List (Nat × Nat × List Byte)) (items : List (List Byte)) (generation : Nat) (s : State) : Out :=
  s.run fun s =>
    let joins := s.get Obj.role = roIsolated ∧ s.get Reg.joinPhase = 2
    if s.get Obj.role = roActive then (s.set Reg.outOfSync 0).set Reg.resyncAt 0
    else if ¬ joins ∧ ¬ (s.get Obj.role = roStandby ∧ s.is Reg.outOfSync) then s
    else
      let n := (values.filter (cellDiffers s)).length
      let t := values.foldl (fun (u : State) (x : Nat × Nat × List Byte) =>
        if cellDiffers u x then applyCell x.1 x.2.1 x.2.2 u else u) s
      let t := items.foldl (fun (u : State) (it : List Byte) => applyItem it u) t
      let t := ((t.set Reg.outOfSync 0).set Reg.resyncAt 0).set Reg.syncGeneration (generation % 4294967296 : Nat)
      if joins then
        logEvent 0xA819 srcAp1 (data32 n) ((t.set Reg.joinPhase 3).set Reg.objectsReplaced n)
      else t

/-! ### The health report (R405) -/

/-- Weight of an item (Table 17.8). -/
def itemWeight (code : Nat) : Nat := [0, 100, 40, 40, 5, 10, 25, 20, 30, 20, 100, 100, 15, 10, 100, 100, 0].getD code 0

/-- A blocking item (Table 17.8). -/
def itemBlocks (code : Nat) : Bool := [1, 10, 11, 14, 15].contains code

/-- The conditions of Table 17.8 that hold now, as code and element. -/
def itemsNow (s : State) : List (Nat × Nat) :=
  let none_ := 0xFFFF
  let pair := pairing s && s.get Obj.role != roSolo
  let off := s.get Obj.role != roActive && pair
  let lanes := (List.range 16).flatMap fun c => if linkUp s c then [4 * c, 4 * c + 1] else []
  let dies := (List.range 12).map (· + 120)
  (if off && (s.get Reg.mirrorLocked == 0 || s.get Reg.mirrorGap == 2) then [(1, none_)] else []) ++
  ((lanes.filter fun l => s.get Obj.eyeFigure (l / 4) (l % 4) < 96).map fun l => (5, l)) ++
  ((lanes.filter fun l => !s.bit Obj.lanesInService (l % 4) (l / 4)).map fun l => (6, l)) ++
  (if pair && versionDiffers s 1 then [(10, none_)] else []) ++
  (if pair && s.is Reg.outOfSync then [(11, none_)] else []) ++
  (((List.range 4).filter fun k => s.get Obj.controllerState k == csFault).map fun k => (12, k)) ++
  ((dies.filter fun c => s.get Obj.tcState c == 2).map fun c => (13, c)) ++
  ((dies.filter fun c => 3 ≤ s.get Obj.tcState c).map fun c => (14, c)) ++
  (if s.is Reg.clockFault || s.get Obj.randomSourceState == 2 then [(15, none_)] else []) ++
  (if pair && versionDiffers s 3 then [(16, none_)] else [])

/-- The items listed: those that hold or have held within the last 60 s (R405). -/
def itemsListed (s : State) : List (Nat × Nat) :=
  (List.range 17).flatMap fun code => ((s.seq Reg.itemElement code).filter fun el =>
    s.get Reg.itemLast code el.toNat ≠ 0 ∧ (s.now : Int) + 1 ≤ s.get Reg.itemLast code el.toNat + 60 * second).map
      fun el => (code, el.toNat)

/-- An entry of the list (Table 17.9). -/
def itemEntry (s : State) (x : Nat × Nat) : List Byte :=
  let n := ((s.seq Reg.itemCount x.1 x.2).filter fun t => (s.now : Int) < t + 60 * second).length
  beBytes 1 x.1 ++ beBytes 1 (itemWeight x.1) ++ beBytes 2 x.2 ++ beBytes 4 n ++ beBytes 8 (s.get Reg.itemTime x.1 x.2)

/-- The Kaolin report is built, scored and sent to the partner; a change of fitness is event 0xA816 (R405). -/
def execHealthReport (s : State) : Out :=
  s.run fun s =>
    let t := (itemsNow s).foldl (fun (u : State) (x : Nat × Nat) => healthItem x.1 x.2 u) s
    let l := itemsListed t
    let codes := (l.map (·.1)).eraseDups
    let score := 100 - min 100 (codes.map itemWeight).sum
    let blocking := codes.filter itemBlocks
    let fit : Bool := t.get Obj.role == roStandby && t.get Obj.fitnessThreshold ≤ (score : Int) && blocking.isEmpty
    let shown := l.take 64
    let t := (t.set Obj.fitScore score).set Obj.itemsListed shown.length
    let t := (t.setBytes Obj.itemList (shown.flatMap (itemEntry t))).set Obj.reportTime t.time
    let t := if t.is Obj.fitToTakeOver = fit then t
      else logEvent 0xA816 srcAp1 (data8 ((score : Int) :: blocking.map fun (c : Nat) => (c : Int))) (t.setB Obj.fitToTakeOver fit)
    if pairing t ∧ t.get Obj.role ≠ roSolo then t.emit (.partner 18 ([(score : Int), if fit then 1 else 0] ++ ownVersions t)) else t

/-- Every 10 ms a heartbeat goes out on CAN1 (R406). -/
def execHeartbeat (s : State) : Out :=
  s.run fun s =>
    if ¬ pairing s ∨ ¬ canSends s 1 then s
    else
      let t := s.set Reg.heartbeatSeq ((s.get Reg.heartbeatSeq + 1) % 256)
      t.emit (.can 1 false (0x700 + t.getN Obj.ownNodeAddress) (data8 [t.get Obj.role, t.get Obj.fitScore, leaseFlags t,
        t.get Reg.heartbeatSeq] ++ beBytes 4 t.frame))

end Sys2Proof.Machine
end

