-- ==== Sys2Proof/Machine/Clock.lean ====
section
/-!
DEFINITION. Frames, Dune, slow ticks and housekeeping rounds, module time, PTP and the clock check (The control frame and
the time base).
-/

namespace Sys2Proof.Machine

/-! ### Time -/

/-- The largest part of the rate trim that slews offset [ppb] (R32). -/
def slewPpb : Int := 1000000

/-- What is left of an offset to be slewed moves module time over `cycles`, at most 1 ms/s (R32, R34). -/
def slewStep (cycles : Int) (s : State) : Rat :=
  let most : Rat := (cycles : Rat) * 5 / 2 / 1000
  let left : Rat := s.real Reg.slewLeft
  if left < -most then -most else if most < left then most else left

/-- The advance of module time over the core cycles of a frame (R32); the RTC runs on by itself. -/
def advanceTime (cycles : Int) (s : State) : State :=
  let slew := slewStep cycles s
  let whole : Rat := (cycles : Rat) * 5 / 2 * (1 + (s.get Reg.freqTrim : Rat) / 1000000000) + slew + s.real Reg.timeFrac
  let n := whole.floor
  let left := s.real Reg.slewLeft - slew
  let shown := s.get Reg.freqTrim + (if left = 0 then 0 else if 0 < left then slewPpb else -slewPpb)
  let t := (s.set Obj.moduleTime (s.get Obj.moduleTime + n)).set Reg.elapsed (s.get Reg.elapsed + n)
  let t := ((t.setReal Reg.timeFrac (whole - n)).setReal Reg.slewLeft left).set Obj.rateTrim shown
  let c := t.get Reg.coreCycles
  let t := t.set Reg.coreCycles (c + cycles)
  if t.is Reg.rtcValid then t.set Reg.rtcTime (t.get Reg.rtcTime + ((c + cycles) * 5 / 2 - c * 5 / 2)) else t

/-! ### The frame start -/

/-- The parameter set chosen for a block takes effect; the new set is preset to the last output of the old one (R107,
R119). -/
def switchSet (b : Nat) (s : State) : State :=
  if s.get Obj.slotSetInUse b = s.get Reg.setNext b then s
  else presetSlot (256 + b) (slotOut s (256 + b)) (s.set Obj.slotSetInUse (s.get Reg.setNext b) b)

/-- LE takes the limits of the last completed fast pass as references (R25). -/
def loadLimits (s : State) : State :=
  s.forN 24 fun n u => (u.set Reg.leTarget (u.get Reg.fastTarget n) n).set Reg.leVoltage (u.get Reg.voltageLimit n) n

/-- The frame's account of what arrived starts anew. -/
def clearFrame (s : State) : State :=
  let t := (s.forN 16 fun c u => u.set Reg.linkGood 0 c).set Reg.deadlinePassed 0
  (t.set Reg.granted 0).set Reg.grantJudged 0

/-- A mirror that has not come counts as missing, and ends the run towards a lock; the lock itself after more than 3 frames
without one (R396, Table 17.8). -/
def missMirror (s : State) : State :=
  if s.get Obj.role ≠ roStandby then s
  else
    let t := if s.is Reg.mirrorSeen then s else (s.inc Obj.mirrorsMissingOrFailed).set Reg.mirrorRun 0
    let t := t.set Reg.mirrorSeen 0
    if (t.get Reg.mirrorFrame) + 3 < t.frame then t.set Reg.mirrorLocked 0 else t

/-- The partner link is lost after the stale limit in frames without a lease frame. -/
def watchLink (s : State) : State :=
  if (s.get Obj.role = roStandby ∨ s.get Obj.role = roFenced) ∧ s.get Obj.partnerLinkState = lkRun ∧
      s.get Reg.requestAt + s.get Obj.staleLimit < s.frame then s.set Obj.partnerLinkState lkLost
  else s

/-- The lease length both modules hold takes effect (Table 17.13); an unpaired module uses its own. -/
def takeLease (s : State) : State :=
  let both := s.get Obj.leaseLength = s.get Reg.partnerLease
  if both ∨ (¬ s.is Reg.paired ∧ s.get Obj.role ≠ roStandby) then s.set Reg.leaseInUse (s.get Obj.leaseLength) else s

/-- What falls due at a frame start in a pair: fencing, RESIGN, and the REQUEST or RELEASE of the frame (R398, R400, R403,
R410). -/
def pairStart (s : State) : State :=
  let s := takeLease (watchLink (missMirror s))
  if s.is Reg.fenceDue then fenceNow s
  else if s.is Reg.isolateDue then becomeIsolated s
  else if s.get Obj.role ≠ roActive ∨ ¬ pairing s then s.set Reg.handoverDue 0
  else if s.is Reg.handoverDue ∧ s.is Reg.paired then
    sendLease opRelease s.frame ((s.set Reg.handoverDue 0).set Reg.handoverFrame (s.frame + 1))
  else sendLease opRequest s.frame (s.set Reg.handoverDue 0)

/-- The frame counter counts the frame start, and the frame's length follows from the depth in use (R19, R31). -/
def nextFrame (s : State) : State :=
  let t := s.set Obj.frameCounter ((s.get Obj.frameCounter + 1) % 2 ^ 64)
  let t := t.set Reg.frameLength (frameCycles (t.get Obj.appliedDuneDepth) (ditherIndex t.frame))
  (t.set Reg.frameStartAt t.now).set Reg.ownLive (1 - t.get Reg.ownLive)

/-- The frame tick: frames run from the release of the reset on (R15, R25). -/
def execFrameStart (s : State) : Out :=
  s.run fun s =>
    if s.get Obj.startUpStage = 0 ∨ s.is Reg.supplyHeld then s
    else
      let t := clearFrame (nextFrame (advanceTime (s.get Reg.frameLength) s))
      let t := pairStart t
      let t := loadLimits (t.forN 64 switchSet)
      let t := if t.is Reg.allOffNext then (t.forN 64 dropBlock).set Reg.allOffNext 0 else t
      applyDue .frameStart t

/-! ### Dune and the sampling lead -/

/-- The requested depth is in effect on acceptance as such (R21). -/
def execDuneDepthWrite (r : Req) (data : List Byte) (s : State) : Out :=
  s.run (hostWrite r Obj.requestedDuneDepth 0 0 data fun _ t => .ok (t.set Obj.requestedDuneDepth (ofBytes data)))

/-- At the first frame with k = 0, from stage 4 on, the requested depth is applied: event 0x2249 (R21). -/
def execDuneDepthApplied (s : State) : Out :=
  s.run fun s =>
    let d := s.get Obj.requestedDuneDepth
    if ditherIndex s.frame = 0 ∧ 4 ≤ s.get Obj.startUpStage ∧ s.get Obj.appliedDuneDepth ≠ d then
      logEvent 0x2249 srcAp1 (data8 [d]) (s.set Obj.appliedDuneDepth d)
    else s

/-- A lead below the ready time - 1.00 µs of a trained terminal is refused (R55). -/
def leadFits (s : State) (v : Int) : Bool := (List.range 16).all fun c => !linkUp s c || s.get Obj.idReadyTime c ≤ v + 400

def execSamplingLeadWrite (r : Req) (data : List Byte) (s : State) : Out :=
  s.run (hostWrite r Obj.samplingLead 0 0 data fun _ t =>
    if leadFits t (ofBytes data) then .ok (t.set Obj.samplingLead (ofBytes data)) else .error 5)

/-! ### The slow tick -/

/-- The dv/dt trim of one edge of a phase (R81): `x` is 0 for turn-on, 1 for turn-off. -/
def trimEdge (p x : Nat) (peakOf max_ applied configured target : Obj) (s : State) : State :=
  let peak := s.get peakOf p
  let goal := s.get target p
  let band := s.get Obj.dvdtBand p
  let w := s.get applied p
  let s := (s.set max_ peak p).set peakOf 0 p
  if goal = 0 then (s.set applied (s.get configured p) p).set Reg.trimStuck 0 p x
  else
    let top := s.get Obj.weakUpperLimit p
    let high : Bool := peak != 0 && goal + band < peak
    let v := if peak = 0 then w else if high then min (w + 1) top else if peak < goal - band then max (w - 1) (s.get Obj.weakLowerLimit p) else w
    let run := if high ∧ w = top then min 101 (s.get Reg.trimStuck p x + 1) else if peak = 0 then s.get Reg.trimStuck p x else 0
    let t := (s.set applied v p).set Reg.trimStuck run p x
    if run = 100 then logEvent 0x3826 srcLe (data8 [p, x]) t else t

/-- The dv/dt trim of a usable phase (R81, R82). -/
def trimPhase (p : Nat) (s : State) : State :=
  if ¬ usable s p then s
  else
    trimEdge p 1 Reg.trimPeakOff Obj.dvdtMaxOff Obj.weakOffApplied Obj.weakOffConfigured Obj.dvdtTargetOff
      (trimEdge p 0 Reg.trimPeakOn Obj.dvdtMaxOn Obj.weakOnApplied Obj.weakOnConfigured Obj.dvdtTargetOn s)

/-- The slow class issued in slot order (R109, R111): those of `mism` disagree on the first issue, those of `again` on the
retry, those of `late` are not complete by the next tick. -/
def slowClass (mism again late : List Nat) (s : State) : State :=
  let kids := enabledSlots s
  let due := dueSlow s
  let t := s.forL due fun i u => issueSlot kids mism again late i u
  (judgeMismatches due mism again t).setSeq Reg.slowUnfinished ((due.filter late.contains).map fun i => (i : Int))

/-- Slow-class evaluations that the last tick left unfinished (R28). -/
def slowOverrun (s : State) : State :=
  if (s.seq Reg.slowUnfinished).isEmpty then s
  else logLimited 0x2243 srcLe 0 second [] ((s.inc Obj.slowOverruns).setSeq Reg.slowUnfinished [])

/-- Stage 7 of start-up: some of SO0 to SO3 is enabled (Table 1.9). -/
def lastStage (s : State) : State :=
  if s.get Obj.startUpStage = 6 ∧ s.get Obj.safeOutputStates % 16 ≠ 0 then (s.set Obj.startUpStage 7).set Reg.stageAt s.now else s

/-- The slow tick: a frame whose counter is a multiple of 500 (R30). -/
def execSlowTick (mism again late : List Nat) (s : State) : Out :=
  s.run fun s =>
    if s.frame % 500 ≠ 0 ∨ s.get Obj.startUpStage = 0 then s
    else
      let t := thermalTick (slowOverrun (applyDue .slowTick s))
      let t := coolingTick (slowClass mism again late t)
      let t := t.forN 256 trimPhase
      let t := t.forN 24 fun n u => weldTick n (stopOverdue n u)
      lastStage (returnToRun (countIdleTime t))

/-! ### The housekeeping round -/

/-- Hours that the module counts (0x2006). -/
def countHours (s : State) : State :=
  let hot : Bool := (List.range 12).any fun k => 10000 < s.get Obj.tcFiltered (120 + k)
  let step (o : Obj) (ns : Obj) (on : Bool) (u : State) : State :=
    let v := u.get ns + (if on then (u.now : Int) - u.get Reg.roundAt else 0)
    let hour : Int := 3600 * second
    (u.set ns (v % hour)).set o ((u.get o + v / hour) % 4294967296)
  let t := step Obj.timeWithAnyDieChannelAbove100C Reg.hotTime hot (step Obj.operatingTime Reg.runTime true s)
  t.set Reg.roundAt t.now

/-- The housekeeping round: a frame whose counter is a multiple of 5000 (R30, R193). The operands are the readings of the
temperature channels, of the 40 supply monitors [mV] and of the off channels, and whether a cell is fitted. -/
def execHousekeepingRound (temps : List (Int × Int)) (supplies : List Nat) (fitted : Bool) (offs : List Nat) (s : State) : Out :=
  s.run fun s =>
    if s.frame % 5000 ≠ 0 ∨ s.get Obj.startUpStage < 4 then s
    else
      let t := supplyRound supplies fitted (thermalRound temps s)
      let t := t.forN 96 fun c u => offStateTest c (offs.getD c 0) u
      let t := countHours (t.forN 24 weldAgain)
      if isDriving t then beginAllocation t else t

/-! ### PTP (R33 to R35) -/

/-- The time is set for the first time after quality 0: the derivation of R256 (R257). -/
def timeFirstSet (was : Int) (s : State) : State :=
  refreshAll (if was = 0 ∧ s.is Reg.derivationDue then deriveBoundaries s else s)

/-- The key of an announce data set, in the order in which the best master clock algorithm compares it. -/
def announceKey (a : Announce) : List Int :=
  [a.priority1, a.clockClass, a.accuracy, a.variance, a.priority2, ofBytes a.identity, a.steps]

/-- The lesser of two data sets of seven numbers each. -/
def keyBefore : List Int → List Int → Bool
  | a :: l, b :: m => if a < b then true else if b < a then false else keyBefore l m
  | _, _ => false

/-- The masters heard: blocks of eight numbers, a key and when it was heard. -/
def mastersOf : Nat → List Int → List (List Int)
  | 0, _ => []
  | n + 1, l => if l.length < 8 then [] else l.take 8 :: mastersOf n (l.drop 8)

/-- The announce receipt timeout of the default profile, three intervals of 2 s. -/
def announceTimeout : Nat := 6 * second

/-- The best of the masters heard is selected (R33); a change of master starts the lock anew. -/
def selectMaster (l : List (List Int)) (s : State) : State :=
  let t := s.setSeq Reg.ptpMasters l.flatten
  match l with
  | [] => (t.set Reg.ptpMaster 0).setBytes Obj.masterIdentity []
  | a :: rest =>
    let best := rest.foldl (fun b x => if keyBefore x b then x else b) a
    let id := beBytes 8 (best.getD 5 0)
    if t.is Reg.ptpMaster ∧ t.bytes Obj.masterIdentity = id then t
    else (((t.set Reg.ptpMaster 1).setBytes Obj.masterIdentity id).set Reg.goodSyncs 0).set Reg.ptpDelay 0

/-- The module listens to PTP of a domain: enabled, ETH0 up (R33). -/
def ptpHears (s : State) (domain : Nat) : Bool :=
  s.is Obj.ptpEnable && s.get Obj.ethLinkState 0 == 1 && s.getN Obj.ptpDomain == domain && 4 ≤ s.get Obj.startUpStage

/-- An Announce (R33). -/
def execPtpAnnounce (a : Announce) (s : State) : Out :=
  s.run fun s =>
    if ¬ ptpHears s a.domain ∨ a.identity.length ≠ 8 then s
    else
      let old := (mastersOf 64 (s.seq Reg.ptpMasters)).filter fun x =>
        x.getD 5 0 != (ofBytes a.identity : Int) && (s.now : Int) < x.getD 7 0 + announceTimeout
      let t := selectMaster (((announceKey a ++ [(s.now : Int)]) :: old).take 64) s
      if t.bytes Obj.masterIdentity = a.identity then t.set Reg.ptpAnnounceAt t.now else t

/-- Quality 3: event 0x2244 with the master's identity (R35). -/
def lockTime (s : State) : State :=
  if s.get Obj.timeQuality = 3 then s
  else
    let t := logEvent 0x2244 srcAp1 (s.bytes Obj.masterIdentity) ((s.set Obj.timeQuality 3).set Obj.timeInHoldover 0)
    timeFirstSet (s.get Obj.timeQuality) t

/-- A Sync of the master: `diff` is its receipt by module time less its departure by the master's [ns]. The offset x is this
less the path delay; one of at most 1 s is slewed away, a larger one is not applied (R34). The frequency correction that
the servo makes is free within ±200 ppm (R32). -/
def execPtpSync (identity : List Byte) (domain : Nat) (diff : Int) (s : State) : Out :=
  s.run fun s =>
    if ¬ ptpHears s domain ∨ ¬ s.is Reg.ptpMaster ∨ s.bytes Obj.masterIdentity ≠ identity then s
    else
      let x := diff - s.get Reg.ptpDelay
      let t := ((s.set Reg.ptpDiff diff).set Reg.ptpSyncAt s.now).set Obj.lastPTPOffset x
      if 1000000000 < |x| then logLimited 0x2246 srcAp1 0 (60 * second) (beBytes 8 x) (t.set Reg.goodSyncs 0)
      else
        let (f, t) := t.draw 34
        let t := (t.set Reg.freqTrim (clampI (-200000) 200000 f)).setReal Reg.slewLeft (-(x : Rat))
        let good := if |x| < 1000 then min 16 (t.get Reg.goodSyncs + 1) else 0
        let t := t.set Reg.goodSyncs good
        if good = 16 then lockTime t else t

/-- A delay response: `diff` is the master's receipt less the module's departure [ns]; the mean path delay (R33). -/
def execPtpDelayResp (identity : List Byte) (diff : Int) (s : State) : Out :=
  s.run fun s =>
    if s.is Reg.ptpMaster ∧ s.is Obj.ptpEnable ∧ s.bytes Obj.masterIdentity = identity then
      s.set Reg.ptpDelay ((s.get Reg.ptpDiff + diff) / 2)
    else s

/-- PTP is lost: announce receipt timeout, or 4 s without Sync. Locked time goes into holdover, event 0x2245; the last trim
is kept (R35). -/
def execPtpLockLost (s : State) : Out :=
  s.run fun s =>
    let gone := s.getN Reg.ptpAnnounceAt + announceTimeout ≤ s.now
    if ¬ s.is Reg.ptpMaster ∨ ¬ (gone ∨ s.getN Reg.ptpSyncAt + 4 * second ≤ s.now) then s
    else
      let t := s.set Reg.goodSyncs 0
      let t := if gone then selectMaster ((mastersOf 64 (t.seq Reg.ptpMasters)).filter fun x => (t.now : Int) < x.getD 7 0 + announceTimeout) t
        else t
      if t.get Obj.timeQuality = 3 then logEvent 0x2245 srcAp1 [] ((t.set Obj.timeQuality 2).set Reg.holdoverAt t.now) else t

/-- 24 h in holdover (R35). -/
def execHoldoverTimeout (s : State) : Out :=
  s.run fun s =>
    if s.get Obj.timeQuality = 2 ∧ s.getN Reg.holdoverAt + 86400 * second ≤ s.now then s.set Obj.timeQuality 1 else s

/-! ### Module time written, the RTC, the clock check -/

/-- The instants from which long durations run move with a step `d`, so that it leaves the durations as they were (R493). One
that lies after the time left is of an earlier setting and stays. -/
def stepMarks (before d : Int) (s : State) : State :=
  let move (o : Obj) (k : Nat) (u : State) : State := if u.get o k ≤ before then u.set o (u.get o k + d) k else u
  (move Reg.blobsAt 0 s).forN 2 fun m u => move Reg.brakePassedAt m u

/-- A write of module time takes effect: a difference of at most 1 s is slewed, a larger one stepped, event 0x2247 with the
step in ms, and handled as a boundary (R34, R258). Contexts in session carry flag [0] of their record. -/
def setTime (v : Int) (s : State) : State :=
  let before := s.time
  let d := v - before
  let was := s.get Obj.timeQuality
  let t := s.forN 250 fun c u => if ctxInSession u c then u.setBit Reg.recordFlags 0 true c else u
  let t := if |d| ≤ 1000000000 then t.setReal Reg.slewLeft d
    else
      let u := logEvent 0x2247 srcAp1 (beBytes 8 (d / 1000000)) ((t.setReal Reg.slewLeft 0).set Obj.moduleTime v)
      clockStep before (stepMarks before d u)
  timeFirstSet was (if was = 0 then t.set Obj.timeQuality 1 else t)

/-- The clock audit log has no room for a step of more than 60 s (R260). -/
def auditBlocks (v : Int) (s : State) : Bool := 256 ≤ (s.log Reg.clockAudit).length && 60000000000 < |v - s.time|

/-- A step of more than 60 s is refused when the clock audit log is full, with event 0x9015 (R260). -/
def execModuleTimeWrite (r : Req) (data : List Byte) (s : State) : Out :=
  s.run fun s =>
    let v := ofBytesI data
    let t := hostWrite r Obj.moduleTime 0 0 data (fun _ t => if auditBlocks v t then .error 6 else .ok (setTime v t)) s
    match t.out.getLast? with
    | some (.answer a) => if a.status = 6 ∧ auditBlocks v s ∧ ¬ roleForbids s 0x2210 then logEvent 0x9015 srcMp [] t else t
    | _ => t

/-- Every 60 s at quality 2 or 3 module time goes into the RTC (R36). -/
def execRtcUpdate (s : State) : Out :=
  s.run fun s =>
    if 2 ≤ s.get Obj.timeQuality ∧ s.getN Reg.rtcUpdatedAt + 60 * second ≤ s.now then
      ((s.set Reg.rtcTime s.time).set Reg.rtcValid 1).set Reg.rtcUpdatedAt s.now
    else s

/-- Each second: the crystal's deviation from the RTC [ppb]. Above 100 ppm in 4 consecutive seconds, a clock fault and event
0x2248: handover, or every block ramps down; it clears in 4 consecutive seconds (R37). -/
def execClockCheck (ppb : Int) (s : State) : Out :=
  s.run fun s =>
    let t := s.set Obj.crystalDeviationAgainstRTC (clampI (-2147483648) 2147483647 ppb)
    if 100000 < |ppb| then
      let run := min 4 (t.get Reg.clockBad + 1)
      let t := (t.set Reg.clockBad run).set Reg.clockGood 0
      if run = 4 ∧ ¬ t.is Reg.clockFault then
        let u := logEvent 0x2248 srcAp1 (beBytes 4 (t.get Obj.crystalDeviationAgainstRTC)) (t.set Reg.clockFault 1)
        if isDriving u then handOverOr stopAllBlocks u else u
      else t
    else
      let run := min 4 (t.get Reg.clockGood + 1)
      let t := (t.set Reg.clockGood run).set Reg.clockBad 0
      if run = 4 then t.set Reg.clockFault 0 else t

end Sys2Proof.Machine
end

