-- ==== Sys2Proof/Machine/Contexts.lean ====
section
/-!
DEFINITION. The commands a host writes to a session context, and expiry (R185 to R188).
-/

namespace Sys2Proof.Machine

/-- The identity equals that of a context in states 1 to 4. A context of identity kind 0 has no identity. -/
def identityTaken (s : State) (c : Nat) : Bool :=
  s.get Obj.ctxIdentityKind c != 0 && (List.range 250).any fun d => d != c && 1 ≤ s.get Obj.ctxState d && s.get Obj.ctxState d ≤ 4 &&
    s.get Obj.ctxIdentityKind d == s.get Obj.ctxIdentityKind c && s.bytes Obj.ctxIdentity d == s.bytes Obj.ctxIdentity c

/-- The reservation window overlaps another reservation on the same outlet; one that names 0xFF overlaps none (R187). -/
def windowOverlaps (s : State) (c : Nat) : Bool :=
  s.get Obj.ctxOutlet c != 255 && (List.range 250).any fun d => d != c && s.get Obj.ctxState d == cxReserved &&
    s.get Obj.ctxOutlet d == s.get Obj.ctxOutlet c &&
    s.get Obj.ctxReservationStart c < s.get Obj.ctxExpiry d && s.get Obj.ctxReservationStart d < s.get Obj.ctxExpiry c

/-- The judgement of a create (R188, R186); 0 accepted. While the journal window is closed no context changes state but
by ending (R204). -/
def createStatus (s : State) (c : Nat) (reserved : Bool) : Nat :=
  let e := s.get Obj.ctxExpiry c
  if s.get Obj.ctxState c ≠ cxFree then 5
  else if identityTaken s c then 5
  else if reserved ∧ (windowOverlaps s c ∨ e = 0 ∨ e ≤ s.get Obj.ctxReservationStart c) then 5
  else if e ≠ 0 ∧ e < s.time then 5
  else if ¬ serialLeft s then 6
  else if s.get Obj.journalWritesPermitted = 0 then 6
  else 0

/-- A create takes effect. -/
def createContext (c : Nat) (st : Int) (s : State) : State := setContext c st ((takeSerial c s).set Obj.ctxAuthorisation 0 c)

/-- A command written to 0x6000:0D, judged on every write to the context accepted before it (R188). -/
def contextCommand (r : Req) (c v : Nat) (fx : State → Except Nat State) (s : State) : State :=
  hostWrite r Obj.ctxCommand c 0 [BitVec.ofNat 8 v] (fun _ t => fx (flushContext c t)) s

def execCreatePending (r : Req) (ctx : Fin 250) (s : State) : Out :=
  s.run fun s => contextCommand r ctx 1 (fun t =>
    if createStatus t ctx false ≠ 0 then .error (createStatus t ctx false) else .ok (createContext ctx cxPending t)) s

def execCreateReserved (r : Req) (ctx : Fin 250) (s : State) : Out :=
  s.run fun s => contextCommand r ctx 2 (fun t =>
    if createStatus t ctx true ≠ 0 then .error (createStatus t ctx true) else .ok (createContext ctx cxReserved t)) s

def execCancel (r : Req) (ctx : Fin 250) (s : State) : Out :=
  s.run fun s => contextCommand r ctx 3 (fun t =>
    if t.get Obj.ctxState ctx = cxPending ∨ t.get Obj.ctxState ctx = cxReserved then .ok (dropContext ctx 1 t) else .error 6) s

/-- A stop of the context's session, refused unless it is BOUND or DELIVERING. -/
def contextStop (c : Nat) (stop : Nat → State → State) (s : State) : Except Nat State :=
  if s.get Obj.ctxState c = cxBound ∨ s.get Obj.ctxState c = cxDelivering then
    match outletOf s c with
    | some n => .ok (stop n s)
    | none => .ok s
  else .error 6

def execContextNormalStop (r : Req) (ctx : Fin 250) (s : State) : Out :=
  s.run fun s => contextCommand r ctx 4 (contextStop ctx fun n t => normalStop n 2 t) s

def execContextEmergencyStop (r : Req) (ctx : Fin 250) (s : State) : Out :=
  s.run fun s => contextCommand r ctx 5 (contextStop ctx fun n t => emergencyStop n 2 t) s

/-- A PENDING expiry or the end of a RESERVED window frees the context (R185). -/
def execContextExpiry (ctx : Fin 250) (s : State) : Out :=
  s.run fun s =>
    let st := s.get Obj.ctxState ctx
    let e := s.get Obj.ctxExpiry ctx
    if (st = cxPending ∨ st = cxReserved) ∧ e ≠ 0 ∧ e ≤ s.time then dropContext ctx 2 s else s

end Sys2Proof.Machine
end

