-- ==== Sys2Proof/Machine/Startup.lean ====
section
/-!
DEFINITION. Start-up: the release of a reset, the images, the mount of the journal, the dictionary and the role
(Table 1.9).
-/

namespace Sys2Proof.Machine

/-- A later stage is reached. -/
def reachStage (k : Int) (s : State) : State := ((s.set Obj.startUpStage k).set Reg.stageAt s.now).set Reg.stageLate 0

/-- What KC itself needs before the journal is mounted: the life-cycle state, keys and images (R286, Table 1.9). -/
def isKc (o : Obj) : Bool :=
  committedOfKc o || [Obj.lifeCycleState, Reg.trialWdt, Reg.trialSlot, Reg.metrologySlot, Reg.metrologyPending].any fun x => x.id == o.id
where committedOfKc (o : Obj) : Bool := (o.cls == .per || o.cls == .seal) && 0xB000 ≤ o.base && o.base < 0xB300

/-- Its registers, from the retained state and the committed configuration. -/
def restoreKc (s : State) : State :=
  let t := s.takeKept (s.journal.only isKc)
  { t with
    regs := s.cfgRegs.filter (fun e => cellIs isKc e.1) ++ t.regs
    octs := s.cfgOcts.filter (fun e => cellIs isKc e.1) ++ t.octs }

/-- The straps as they are at the release of POR or BOR, and what they mean (R470): bit 0 a pairing backplane, bit 1 slot 1. -/
def readStraps (simplexOpen slotOpen : Bool) (s : State) : State :=
  (s.set Obj.strapsRead ((if simplexOpen then 1 else 0) + (if slotOpen then 2 else 0))).set Obj.backplane
    ((if simplexOpen then 1 else 0) + (if slotOpen then 0 else 2))

/-- A reset is released: the straps are read after POR and BOR, the battery domain tells the length of the backup, frames
start and KC reads its life-cycle state: stage 1 (R424, R427, Table 1.9). `rtc` is the real-time clock, `since` the time [ns]
since VAUX rose through 18.0 V, from which the times of Table 1.9 run after POR and BOR. -/
def execPorRelease (simplexOpen slotOpen : Bool) (rtc : Int) (since : Nat) (s : State) : Out :=
  s.run fun s =>
    if s.get Obj.startUpStage ≠ 0 then s
    else
      let cold := s.get Reg.resetKind < 2
      let t := (s.set Reg.supplyHeld 0).set Obj.frameCounter 0
      let t := if cold then readStraps simplexOpen slotOpen t else t
      let t := if t.get Obj.powerState = 1 then t.set Reg.backupLast (max 0 ((rtc - t.get Reg.resetTime) / 1000000000)) else t
      let t := if t.is Reg.rtcValid then t.set Reg.rtcTime rtc else t
      let t := reachStage 1 (restoreKc t)
      let t := t.set Reg.startedAt (if cold then (t.now : Int) - since else t.now)
      let t := (t.set Reg.dynamicAt t.now).set Reg.sourceStartAt t.now
      if cold ∧ 40 * millisecond < since then logEvent 0x2034 srcAp1 (data8 [1]) t else t

/-! ### Images -/

/-- The slot that holds the metrology image to run: the new one at the first start after its activation (R239, R455). -/
def chooseMetrology (s : State) : State :=
  if s.is Reg.metrologyPending ∧ imageGood s 1 (s.flashRead (metrologyBase s) 0x400000) then
    (s.keep Reg.metrologySlot (1 - s.get Reg.metrologySlot)).keep Reg.metrologyPending 0
  else s

/-- The metrology image in use. -/
def metrologyImage (s : State) : List Byte := s.flashRead (if s.get Reg.metrologySlot = 0 then 0x2000000 else 0x2400000) 0x400000

/-- What 0x8000:01 to 0x8000:03 and 0x1000:05 show of the images that start. -/
def showImages (s : State) : State :=
  let m := metrologyImage s
  let t := (s.set Obj.metrologyFirmwareVersion (Config.imageNumber 0 m)).set Obj.metrologyImageCRC32 (crc32 (Config.imagePart 3 m))
  let t := t.setBytes Obj.metrologyImageSHA256 (Config.sha256 (Config.imagePart 3 m))
  t.set Obj.firmwareVersionInUse (Config.imageNumber 0 (t.flashRead (imageBase (t.get Obj.imageInUse)) 0x1000000))

/-- KC has verified the images: the selected one starts, or the other with event 0xB016. With no good image, or a bad
metrology image, start-up is held at stage 2 (R286). A trial image that does not pass has failed its trial (R287). -/
def execImageVerified (s : State) : Out :=
  s.run fun s =>
    if s.get Obj.startUpStage ≠ 1 then s
    else
      let sel := s.get Obj.bootSelection
      let good (slot : Int) : Bool := imageGood s 0 (s.flashRead (imageBase slot) 0x1000000)
      let t := chooseMetrology (reachStage 2 s)
      let t := if good sel then t.set Obj.imageInUse sel
        else if good (1 - sel) then logEvent 0xB016 srcKc [] (t.set Obj.imageInUse (1 - sel))
        else t
      let t := if ¬ good sel ∧ s.get Obj.trialState = 1 ∧ sel = s.get Reg.trialSlot then rejectTrial 1 t else t
      if (good sel ∨ good (1 - sel)) ∧ imageGood t 1 (metrologyImage t) then showImages t else t.set Reg.heldAtStage2 1

/-! ### Journal and dictionary -/

/-- An event of before the mount takes its place in the log, with a number of its own. -/
def reenter (e : List Byte) (s : State) : State := enterEvent (fun q => beBytes 4 q ++ e.drop 4) s

/-- The pulses lost in the reset are told (R232). -/
def tellLost (k : Nat) (s : State) : State :=
  let n := s.get Reg.pulsesLost k
  if n = 0 then s else logEvent 0x8016 srcMp (data8 [k] ++ data32 n) (s.set Reg.pulsesLost 0 k)

/-- Every phase starts from its configured weak values (R81). -/
def startTrim (p : Nat) (s : State) : State :=
  (s.set Obj.weakOnApplied (s.get Obj.weakOnConfigured p) p).set Obj.weakOffApplied (s.get Obj.weakOffConfigured p) p

/-- The journal is mounted and replayed: stage 3 (R452, Table 1.9). Events of before the mount are entered after it. -/
def execJournalMount (batteryGood : Bool) (torn : Nat) (newerBad lost : Bool) (retBad : List Nat) (s : State) : Out :=
  s.run fun s =>
    if s.get Obj.startUpStage ≠ 2 ∨ s.is Reg.heldAtStage2 then s
    else
      let early := (s.log Reg.eventRing).reverse
      let t := mountJournal batteryGood torn newerBad lost retBad ((s.setLog Reg.eventRing []).set Obj.lastEventSequence 0)
      let t := early.foldl (fun u e => reenter e u) t
      let t := if t.is Reg.trialLost then
          logEvent 0xB017 srcKc (data8 [t.get Reg.trialSlot, 2]) (t.set Reg.trialLost 0)
        else t
      let t := (t.forN 4 tellLost).forN 256 startTrim
      reachStage 3 (t.inc Obj.starts)

/-- The hold-up store [mV] is in its window (Table 18.2). -/
def holdUpGood (v : Nat) : Bool := 44000 ≤ v && v ≤ 52000

/-- The dictionary is available: stage 4, once the hold-up store is in its window (R15, R415, R495). ETH0 is up, the power
state is RUN (Table 18.5), the enabled controllers and the mains link begin, and on a simplex backplane bring-up begins on
all declared links at once (R16). -/
def execDictionaryAvailable (holdUp : Nat) (s : State) : Out :=
  s.run fun s =>
    if s.get Obj.startUpStage ≠ 3 ∨ ¬ holdUpGood holdUp then s
    else
      let t := (reachStage 4 (s.set Obj.supplyMonitor holdUp 0 12)).set Reg.rolesAt s.now
      let t := (t.set Obj.powerState pwRun).set Obj.ethLinkState 1 0
      let t := t.forN 4 fun k u => if u.is Obj.controllerEnable k then enableController k true u else u
      let t := if t.is Obj.linkEnable then setMpl 1 t else t
      let t := t.forN 64 fun n u => if u.is Obj.osDeclared n ∧ u.get Obj.osState n = 0 then u.set Obj.osState 1 n else u
      if pairing t then t
      else t.forN 16 fun c u => if cabDeclared u c ∧ u.get Reg.linkSteps c = 0 then bringUp c u else u

/-- The role is established: SOLO on a simplex backplane once every declared link is trained or refused, ISOLATED on a
pairing one: stage 5 (R15, R16). -/
def execRoleEstablished (s : State) : Out :=
  s.run fun s =>
    if s.get Obj.startUpStage ≠ 4 then s
    else if pairing s then reachStage 5 s
    else if (List.range 16).all fun c => !cabDeclared s c || linkUp s c || s.get Obj.linkState c == lkRefused then
      afterRole (setRole roSolo (reachStage 5 s))
    else s

/-- The Max time [ns] of a stage (Table 1.9). -/
def stageMax (k : Int) : Nat :=
  (if k = 2 then 1400 else if k = 3 then 3000 else if k = 4 then 6000 else if k = 5 then 10000 else 16000) * millisecond

/-- The instant from which the times of a stage run: on a pairing backplane stage 6 counts from the instant at which the
module became ACTIVE (R16). -/
def stageOrigin (k : Int) (s : State) : Int := if k = 6 ∧ pairing s then s.get Reg.activeSince else s.get Reg.startedAt

/-- A stage is late: event 0x2034 once (R15); an image on trial that has not reached stage 4 is rejected (R287). -/
def execStartupStageTimeout (s : State) : Out :=
  s.run fun s =>
    let k := s.get Obj.startUpStage + 1
    if k < 2 ∨ 6 < k ∨ (s.now : Int) ≤ stageOrigin k s + stageMax k ∨ (k = 6 ∧ pairing s ∧ ¬ isDriving s) then s
    else
      let t := if s.is Reg.stageLate then s else logEvent 0x2034 srcAp1 (data8 [k]) (s.set Reg.stageLate 1)
      if k ≤ 4 ∧ stageOrigin k s + stageMax 4 < (s.now : Int) then rejectTrial 1 t else t

/-- An Ethernet link comes up or goes down; a partner without 1000BASE-T leaves it down (R482). -/
def execEthernetLinkUp (port : Fin 2) (up gigabit : Bool) (s : State) : Out :=
  s.run fun s => s.setB Obj.ethLinkState (up && gigabit) port

end Sys2Proof.Machine
end

