-- ==== Sys2Proof/Machine/Views.lean ====
section
/-!
DEFINITION. What the dictionary shows: the values that the module forms when they are read (R291).
-/

namespace Sys2Proof.Machine

/-! ### Numbers formed at a read -/

/-- The input of a standard slot as a source code (Table 5.2, R108): kind 11 where none of kinds 1 to 10 describes it. -/
def standardSource (s : State) (i : Nat) (o : Obj) : Nat :=
  let b := i - 256
  if i < 256 then
    (if o.id = Obj.slotRefSource.id then 0x2000 + (256 + i / 4) else if o.id = Obj.slotMeasSource.id then 0x3000 + i else 0xB000)
  else if i < 320 then
    (if o.id = Obj.slotRefSource.id then 0xB000
     else if o.id = Obj.slotMeasSource.id then (if s.get Obj.slotSetInUse b = 1 then 0x5000 + b else 0x4000 + b) else 0)
  else if i < 368 then (if o.id = Obj.slotFfSource.id then 0 else 0xB000)
  else 0xB000

/-- The run state of a slot: 0 disabled, 1 running, 2 held, 3 preset pending. -/
def slotRun (s : State) (i : Nat) : Int :=
  if ¬ slotEnabled s i then 0 else if slotIsHeld s i then 2 else if s.is Reg.slotPresetDue i then 3 else 1

/-- The slots that use a gain table, in either parameter set (0x5800:43). -/
def gainUserCount (s : State) (t : Nat) : Nat :=
  ((List.range 1024).filter fun i => s.getN Obj.slotGainTable i == t ||
    (256 ≤ i && i < 320 && s.getN Obj.slotBGainTable (i - 256) == t)).length

/-- Commits, or bytes committed, in the last second (0x2402:03, 0x2402:04). -/
def lastSecond (s : State) : List Int → Nat × Nat
  | at_ :: n :: l => if (s.now : Int) ≤ at_ + second then ((lastSecond s l).1 + 1, (lastSecond s l).2 + n.toNat) else lastSecond s l
  | _ => (0, 0)

/-- A reading of the module's own supply, or of its private memories, which no command of the block tells: a free value. -/
def freeReading (o : Obj) : Bool :=
  [Obj.vauxCurrent, Obj.supplyCurrent, Obj.modulePower, Obj.privateMemoryCorrectedErrors].any fun x => x.id == o.id

/-- The number that a numeric object shows. -/
def shownNum (s : State) (o : Obj) (i j : Nat) : Int :=
  let n := o.id
  if freeReading o then Config.free n (s.getN Reg.freeCount + j) % 256 ^ (o.ty.size.getD 0)
  else if o.base = 0x5000 then
    (if n = Obj.slotParent.id then parentOf s i
     else if n = Obj.slotLevel.id then ((levelOf s i).getD 0 : Nat)
     else if i < 416 ∧ o.among [Obj.slotRefSource, Obj.slotMeasSource, Obj.slotFfSource] then standardSource s i o
     else if n = Obj.slotRunState.id then slotRun s i
     else if n = Obj.slotReference.id then f32Of (s.real Reg.slotReal i 0)
     else if n = Obj.slotMeasurement.id then f32Of (s.real Reg.slotReal i 1)
     else if n = Obj.slotError.id then f32Of (s.real Reg.slotReal i 2)
     else if n = Obj.slotIntegrator.id then f32Of (s.real Reg.slotReal i 7)
     else if n = Obj.slotOutput.id then f32Of (s.real Reg.slotReal i 13)
     else s.get o i j)
  else if n = Obj.fastAndDividedSlotsEnabled.id then ((enabledSlots s).filter fun k => slotClassOf s k < 2).length
  else if n = Obj.gainUsers.id then gainUserCount s i
  else if n = Obj.ctxState.id then s.get Reg.ctxShown i
  else if n = Obj.ctxEnergy.id then energySoFar s i
  else if n = Obj.tcWarning.id then tcWarnOf s i
  else if n = Obj.tcStop.id then tcStopOf s i
  else if n = Obj.tcLower.id then tcLowerOf s i
  else if n = Obj.tcRateWarn.id then tcRateWarnOf s i
  else if n = Obj.tcRateStop.id then tcRateStopOf s i
  else if n = Obj.lsSource.id then commandSource s i
  else if n = Obj.moStatus.id then withBit (s.get o i) 5 (moOwned s i)
  else if n = Obj.timeInHoldover.id then (if s.get Obj.timeQuality = 2 then ((s.now - s.getN Reg.holdoverAt) / second : Nat) else 0)
  else if n = Obj.outstandingTransactions.id then outstanding s
  else if n = Obj.oldestSequenceHeld.id then (match (s.log Reg.eventRing).getLast? with | some e => ofBytes (e.take 4) | none => 0)
  else if n = Obj.commitsInTheLastSecond.id then (lastSecond s (s.seq Reg.commitTimes)).1
  else if n = Obj.bytesCommittedInTheLastSecond.id then (lastSecond s (s.seq Reg.commitTimes)).2
  else if n = Obj.pendingConfigurationCRC.id then pendingCrc s
  else if n = Obj.guardInputsOutstanding.id then outstandingGuards s
  else if n = Obj.imageVersion.id then (Config.imageNumber 0 (s.flashRead (imageBase j) 0x1000000) : Nat)
  else s.get o i j

/-! ### Bytes formed at a read -/

/-- The log entry whose first 4 bytes spell a sequence. -/
def entryOfSeq (l : List (List Byte)) (seq : Nat) : Option (List Byte) := l.find? fun e => ofBytes (e.take 4) == seq

/-- The entry that a selector names, of the logs and stores that are read so; none when it is not held. -/
def selectedEntry (s : State) (o : Obj) : Option (Option (List Byte)) :=
  let n := o.id
  let rec_ := recordOfSerial s (s.getN Obj.recordSelector)
  if n = Obj.auditEntry.id then some ((s.log Reg.auditLog).reverse[s.getN Obj.auditEntrySelector]?)
  else if n = Obj.theftEntry.id then some ((s.log Reg.theftLog)[s.getN Obj.theftEntrySelector]?)
  else if n = Obj.boundaryRecord.id then some (entryOfSeq (s.log Reg.boundaryRing) (s.getN Obj.boundaryRecordSelector))
  else if n = Obj.closedPeriod.id then some ((s.log Reg.closedPeriods)[s.getN Obj.closedPeriodSelector]?)
  else if n = Obj.recordEntry.id then some rec_
  else if n = Obj.ocmfView.id then some (rec_.map fun e => ocmfText e (imageOfEntry s e))
  else if n = Obj.tamperEntry.id then some ((s.log Reg.tamperLog)[s.getN Obj.tamperEntrySelector]?)
  else if n = Obj.eventEntry.id then some (entryOfSeq (s.log Reg.eventRing) (s.getN Obj.eventEntrySelector))
  else none

/-- The bytes that an OCTET or STR object shows, for objects that no selector governs. -/
def shownBytes (s : State) (o : Obj) (i j : Nat) : List Byte :=
  let n := o.id
  let sum (r : Obj) (k : Nat) : Int := ((List.range k).map fun f => s.get r f 0 / 2 ^ 32).sum
  if n = Obj.dcImport.id then reg80 (s.get Reg.dmSum i 0)
  else if n = Obj.dcExport.id then reg80 (s.get Reg.dmSum i 1)
  else if n = Obj.dcCharge.id then reg80 (s.get Reg.dmSum i 2)
  else if n = Obj.afEnergy.id then reg80 (s.get Reg.afSum i j)
  else if n = Obj.siteDcImport.id then beBytes 10 (sum Reg.dmSum 24)
  else if n = Obj.siteAcImport.id then beBytes 10 (sum Reg.afSum 4)
  else if n = Obj.outletTariff.id then reg80 (s.get Reg.dmTariff i j)
  else if n = Obj.feederTariff.id then reg80 (s.get Reg.afTariff i j)
  else if n = Obj.siteTariff.id then reg80 (s.get Reg.siteTariff 0 j)
  else s.bytes o i j

/-- What a cell shows: its bytes, or none when its selector names an entry that is not held. -/
def shown (s : State) (o : Obj) (i j : Nat) : Option (List Byte) :=
  if o.ty.isBytes then
    match selectedEntry s o with
    | some e => e
    | none => some (shownBytes s o i j)
  else some (o.ty.encode (shownNum s o i j))

/-! ### Reads -/

/-- A read leaves its mark: the data of a message object is read (R328), a free reading has been drawn. -/
def afterRead (o : Obj) (i : Nat) (s : State) : State :=
  if o.id = Obj.moData.id then (readMoData i s).2
  else if freeReading o then s.set Reg.freeCount (s.get Reg.freeCount + 1) else s

/-- The value of a cell at a read. -/
def readCell (s : State) (o : Obj) (i j : Nat) : Option (List Byte) :=
  if o.id = Obj.moData.id then some (readMoData i s).1 else shown s o i j

/-- A field of a record: STR and OCTET carry their length (Table 12.1). An entry that is not held is empty. -/
def fieldBytes (s : State) (c : Obj × Nat × Nat) : List Byte :=
  let d := (readCell s c.1 c.2.1 c.2.2).getD []
  if c.1.ty.isBytes then beBytes 2 d.length ++ d else d

/-- The fields of a record that a role may read (R290). -/
def readable (index role : Nat) : List (Obj × Nat × Nat) := (recordCells index).filter fun c => readStatus c.1 role == 0

/-- A read of an address (steps 4 and 5 of R300): the value, or the status of its refusal. -/
def readAddress (index sub role : Nat) (s : State) : Except Nat (List Byte × State) :=
  if ¬ indexExists index then .error 1
  else match cellAt index sub with
    | some (o, i, j) =>
      if readStatus o role ≠ 0 then .error (readStatus o role)
      else match readCell s o i j with
        | some d => .ok (d, afterRead o i s)
        | none => .error 5
    | none =>
      if sub ≠ 0 then .error 2
      else if (readable index role).isEmpty then .error 3
      else .ok ((readable index role).flatMap (fieldBytes s), (readable index role).foldl (fun u c => afterRead c.1 c.2.1 u) s)

/-- READ (R290, R291): judged by R300 and answered at once. The unauthenticated session of PROVISION reads nothing (R280). -/
def execRead (r : Req) (index sub : Nat) (s : State) : Out :=
  s.run fun s =>
    if r.complete = false then beginPartly r 1 s else
    match judgeRequest r 1 index sub [] s with
    | .drop t => t
    | .reply t space st => t.answer space r 1 st
    | .accept t space role plain =>
      if plain then t.answer space r 1 9
      else match readAddress index sub role t with
        | .error st => t.answer space r 1 st
        | .ok (d, u) => u.answer space r 1 0 d

end Sys2Proof.Machine
end

