-- ==== Sys2Proof/Machine/Farar.lean ====
section
/-!
DEFINITION. The general requests of Farar: a write of any object or record, and the end of transfers (The object
dictionary and the Farar protocol).
-/

namespace Sys2Proof.Machine

/-! ### Writes that are actions -/

/-- A one-byte value. -/
def one (k : Nat) : List Byte := [BitVec.ofNat 8 k]

/-- A write of an object whose effect is an action of the module, which has a command of its own: that command; none for
every other write. -/
def actionRow (r : Req) (index sub : Nat) (d : List Byte) : Option (State → Out) :=
  match cellAt index sub with
  | none => none
  | some (o, i, j) =>
    let n := o.id
    let none_ : State → Out := fun s => s.run (hostWrite r o i j d fun _ _ => .error 5)
    let once (f : State → Out) : Option (State → Out) := some (if d = one 1 then f else none_)
    let oneOf (l : List (State → Out)) : Option (State → Out) :=
      some (((l.zipIdx 1).find? fun x => d == one x.2).elim none_ (·.1))
    -- links, blocks, phases, slots
    if n = Obj.restartBringUp.id then some (execRestartBringUp r (Fin.ofNat 16 i) d)
    else if n = Obj.firmwareData.id then some (execFirmwareDataWrite r (Fin.ofNat 16 i) d)
    else if n = Obj.activateTerminalFirmware.id then some (execActivateTerminalFirmware r (Fin.ofNat 16 i) d)
    else if n = Obj.clearOverVoltageLatch.id then some (execClearOverVoltageLatch r (Fin.ofNat 64 i) d)
    else if n = Obj.clearLockout.id then some (execClearLockout r (Fin.ofNat 256 i) d)
    else if n = Obj.clearWithhold.id then some (execClearWithhold r (Fin.ofNat 64 i) d)
    else if n = Obj.slotPreset.id then some (execPresetOutput r (Fin.ofNat 1024 i) d)
    else if n = Obj.slotClear.id then some (execClearIntegrator r (Fin.ofNat 1024 i) d)
    else if n = Obj.slotParent.id then some (execParentSlotWrite r (Fin.ofNat 1024 i) false d)
    else if n = Obj.slotRefSource.id then some (execParentSlotWrite r (Fin.ofNat 1024 i) true d)
    else if n = Obj.startInjection.id then once (execStartInjection r)
    else if n = Obj.stopInjection.id then once (execStopInjection r)
    else if n = Obj.captureCommand.id then oneOf [execStartCapture r, execStopCapture r]
    else if n = Obj.dynamicSiteImportLimit.id then some (execDynamicLimitWrite r d)
    -- outlets and contexts
    else if n = Obj.clearContactorFault.id then some (execClearContactorFault r (Fin.ofNat 24 i) d)
    else if n = Obj.certificateResponseBody.id then some (execCertificateResponseWrite r (Fin.ofNat 24 i) d)
    else if n = Obj.stopSession.id then
      oneOf [execStopSessionNormal r (Fin.ofNat 24 i), execStopSessionEmergency r (Fin.ofNat 24 i)]
    else if n = Obj.ctxAuthorisation.id then some (execAuthorisationWrite r (Fin.ofNat 250 i) d)
    else if n = Obj.ctxCommand.id then
      oneOf [execCreatePending r (Fin.ofNat 250 i), execCreateReserved r (Fin.ofNat 250 i), execCancel r (Fin.ofNat 250 i),
        execContextNormalStop r (Fin.ofNat 250 i), execContextEmergencyStop r (Fin.ofNat 250 i)]
    -- metrology and billing
    else if n = Obj.clearTheftLog.id then once (execClearTheftLog r)
    else if n = Obj.metrologyImageData.id then some (execMetrologyImageData r d)
    else if n = Obj.activateMetrologyImage.id then once (execActivateMetrologyImage r)
    else if n = Obj.closePeriod.id then once (execClosePeriod r)
    else if n = Obj.activationInstant.id then some (execCalendarActivationWrite r d)
    else if n = Obj.recordSelector.id then some (execRecordSelect r d)
    else if n = Obj.collectRecord.id then some (execCollectRecord r d)
    else if n = Obj.releaseUpTo.id then some (execReleaseUpTo r d)
    else if n = Obj.runMagneticTest.id then some (execRunMagneticTest r d)
    -- security
    else if n = Obj.requestedTransition.id then
      some (if d = one 2 then execRequestField r else if d = one 3 then execRequestService r
        else if d = one 4 then execRequestRetired r else none_)
    else if n = Obj.fmkVersion.id then some (execFieldMeteringKeyVersion r d)
    else if n = Obj.attestationNonce.id then some (execAttestationNonce r d)
    else if o.base = 0xB100 then some (execRoleKeyWrite r (Fin.ofNat 5 (sub - 1)) d)
    else if o.base = 0xB101 ∧ sub ≤ 5 then some (execCanRoleKeyWrite r (Fin.ofNat 5 (sub - 1)) d)
    else if n = Obj.generateSeccKey.id then oneOf [execGenerateSeccKeyP256 r, execGenerateSeccKeyP521 r, execGenerateSeccKeyEd448 r]
    else if n = Obj.imageData.id then some (execImageDataWrite r d)
    else if n = Obj.activateImage.id then once (execActivateImage r)
    else if n = Obj.confirmTrialImage.id then once (execConfirmTrialImage r)
    -- dictionary, buses, links
    else if n = Obj.commitCommand.id then oneOf [execCommitConfiguration r, execDiscardChanges r]
    else if n = Obj.exportLog.id then some (execExportLog r d)
    else if n = Obj.moData.id then some (execCanDataWrite r (Fin.ofNat 512 i) d)
    else if n = Obj.moAbort.id then once (execCanAbort r (Fin.ofNat 512 i))
    else if n = Obj.moId.id then some (execCanObjectChange r (Fin.ofNat 512 i) 0 d)
    else if n = Obj.moFlags.id then some (execCanObjectChange r (Fin.ofNat 512 i) 1 d)
    else if n = Obj.moMask.id then some (execCanObjectChange r (Fin.ofNat 512 i) 2 d)
    else if n = Obj.moLength.id then some (execCanObjectChange r (Fin.ofNat 512 i) 3 d)
    else if n = Obj.timeTriggeredCommand.id then oneOf [execTtEnter r (Fin.ofNat 2 i), execTtLeave r (Fin.ofNat 2 i)]
    else if n = Obj.restartController.id then once (execRestartController r (Fin.ofNat 4 i))
    else if n = Obj.osCommand.id then some (execOutstationCommand r (Fin.ofNat 63 i) d)
    -- load switches and safety
    else if n = Obj.lsCommand.id then some (execLoadSwitchCommand r (Fin.ofNat 96 i) d)
    else if n = Obj.lsClear.id then once (execClearLatch r (Fin.ofNat 96 i))
    else if n = Obj.startBrakeTest.id then once (execStartBrakeTest r (Fin.ofNat 2 i))
    else if n = Obj.testTorqueApplied.id then once fun s => execTestTorqueApplied r (Fin.ofNat 2 i) (s.draw 386).1 (s.draw 386).2
    else if n = Obj.clearBrakeLockout.id then once (execClearBrakeLockout r (Fin.ofNat 2 i))
    else if n = Obj.clearOutputFault.id then some (execClearOutputFault r d)
    else if n = Obj.confirmConfiguration.id then some (execConfirmConfiguration r d)
    else if n = Obj.outputDemand.id then some (execOutputDemand r d)
    -- module
    else if n = Obj.runTopologyCheck.id then once (execRunTopologyCheck r)
    else if n = Obj.softwareReset.id then oneOf [execSoftwareResetQuiet r, execSoftwareResetAtOnce r]
    else if n = Obj.cellReplaced.id then once (execCellReplaced r)
    else if n = Obj.wake.id then once (execWake r)
    else if n = Obj.roleCommand.id then oneOf [execBecomeActive r, execIsolate r, execHandOver r, execJoin (some r)]
    else if n = Obj.requestedDuneDepth.id then some (execDuneDepthWrite r d)
    else if n = Obj.samplingLead.id then some (execSamplingLeadWrite r d)
    else if n = Obj.moduleTime.id then some (execModuleTimeWrite r d)
    else none

/-! ### The fields of a write -/

/-- A field that a write to a record carries: its access is RW, RWS or SEAL (R290). -/
def carried (c : Obj × Nat × Nat) : Bool :=
  (c.1.right == .rw || c.1.right == .rws || c.1.right == .seal) && !fixedByPlace c.1 c.2.1

/-- The bytes of one field taken from the front of a record's data; none when they are too few. -/
def takeField (o : Obj) (d : List Byte) : Option (List Byte × List Byte) :=
  match o.ty.size with
  | some n => if d.length < n then none else some (d.take n, d.drop n)
  | none =>
    let n := ofBytes (d.take 2)
    if d.length < 2 + n then none else some ((d.drop 2).take n, d.drop (2 + n))

/-- The write of a field by a judged value. -/
def fieldOfBytes (o : Obj) (i j : Nat) (d : List Byte) : FieldWrite :=
  if o.ty.isBytes then ⟨o.key i j, 0, d, true⟩ else ⟨o.key i j, o.ty.decode d, [], false⟩

/-- The fields of a record write, each judged by R4 in increasing subindex order (R290). -/
def judgeFields (s : State) (role : Nat) : List (Obj × Nat × Nat) → List Byte → Except Nat (List FieldWrite)
  | [], d => if d.isEmpty then .ok [] else .error 4
  | (o, i, j) :: l, d =>
    if writeRight s o i role ≠ 0 then .error (writeRight s o i role)
    else match takeField o d with
      | none => .error 4
      | some (v, rest) =>
        if valueStatus o v ≠ 0 then .error (valueStatus o v)
        else match judgeFields s role l rest with
          | .error e => .error e
          | .ok w => .ok (fieldOfBytes o i j v :: w)

/-- The fields that a write to an address changes, judged by steps 4 and 5 of R300. -/
def writtenFields (s : State) (index sub role : Nat) (d : List Byte) : Except Nat (List FieldWrite) :=
  if ¬ indexExists index then .error 1
  else match cellAt index sub with
    | some (o, i, j) => if writeStatus s o i role d ≠ 0 then .error (writeStatus s o i role d) else .ok [fieldOfBytes o i j d]
    | none =>
      if sub ≠ 0 then .error 2
      else if ((recordCells index).filter carried).isEmpty then .error 3
      else judgeFields s role ((recordCells index).filter carried) d

/-- The unauthenticated session of PROVISION may write every field named (R280). -/
def plainMayAll (index sub : Nat) (d : List Byte) : Bool :=
  match cellAt index sub with
  | some (o, _, _) => plainMay o d
  | none => sub == 0 && !((recordCells index).filter carried).isEmpty && ((recordCells index).filter carried).all fun c => plainMay c.1 []

/-! ### The effect of a record that holds a field with an action -/

/-- What a field of a record does at acceptance, as its own command does. -/
def fieldAction (role : Nat) (w : FieldWrite) (s : State) : Except Nat State :=
  let n := w.key.o
  if n = Obj.dynamicSiteImportLimit.id then
    .ok (((s.set Obj.dynamicSiteImportLimit w.num).set Reg.dynamicAt s.now).set Reg.dynamicExpired 0)
  else if n = Obj.activationInstant.id then .ok (setActivation w.num s)
  else if n = Obj.outputDemand.id then demandOutputs w.num.toNat s
  else if n = Obj.fmkVersion.id then setFieldKeyVersion w.num s
  else if n = Obj.osCommand.id then commandOs w.key.i w.bytes s
  else if n = Obj.moData.id then writeMoData w.key.i w.bytes s
  else if n / 256 = 0xB100 then setRoleKey (n % 256 + w.key.j) role w.bytes s
  else .ok s

/-- The actions of a record's fields, in order; the first refusal refuses the write. -/
def fieldActions (role : Nat) : List FieldWrite → State → Except Nat State
  | [], s => .ok s
  | w :: l, s =>
    match fieldAction role w s with
    | .error e => .error e
    | .ok t => fieldActions role l t

/-- The boundary at which a write takes effect (Table 1.4): the idle of the bus for bit timing (R325), the end of the pending
frame for a change to a send object (R330). -/
def boundaryOfWrite (s : State) (index sub : Nat) (l : List FieldWrite) : Boundary :=
  let of (o : Obj) : Bool := l.any fun w => w.key.o == o.id
  if of Obj.moId ∨ of Obj.moFlags ∨ of Obj.moMask ∨ of Obj.moLength then moBoundary s ((l.head?.map (·.key.i)).getD 0)
  else if of Obj.nominalRateCode ∨ of Obj.dataRateCode ∨ of Obj.tripleSampling ∨ (index / 4 = 0x1480 / 4 ∧ sub = 5) then
    .busIdle (index % 4)
  else boundaryOf index

/-- A write touches an object under the seal. -/
def sealWrite (l : List FieldWrite) : Bool := l.any fun w =>
  match objById w.key.o with
  | some o => o.right == .seal
  | none => false

/-- A judged write is accepted: its actions, then its fields at their boundary, then what follows from them. -/
def acceptFields (space role : Nat) (r : Req) (index sub : Nat) (l : List FieldWrite) (s : State) : Except Nat State :=
  let b := boundaryOfWrite s index sub l
  match fieldActions role l s with
  | .error e => .error e
  | .ok t =>
    let m := (l.head?.map (·.key.i)).getD 0
    let t := match b with
      | .frameDone _ => markDeferred m l t
      | _ => t
    let u := acceptWrite space role r (l.length != 1 || sub == 0) b l t
    .ok (if b = .atOnce then l.foldl (fun v w => settle s w v) u else u)

/-- A write of an object or record without an action of its own (R7, R8, R290, R300). -/
def writeAddress (r : Req) (index sub : Nat) (d : List Byte) (s : State) : State :=
  if r.complete = false then beginPartly r 2 s else
  match judgeRequest r 2 index sub d s with
  | .drop t => t
  | .reply t space st => t.answer space r 2 st
  | .accept t space role plain =>
    if plain ∧ ¬ plainMayAll index sub d then t.answer space r 2 9
    else match writtenFields t index sub role d with
      | .error st => t.answer space r 2 st
      | .ok l =>
        if roleForbids t index then t.answer space r 2 6
        else if ruleOf t l ≠ 0 then t.answer space r 2 (ruleOf t l)
        else if sealWrite l ∧ auditFull t then logEvent 0x801C srcMp [] (t.answer space r 2 6)
        else match acceptFields space role r index sub l t with
          | .error st => t.answer space r 2 st
          | .ok u => u

/-- WRITE: an object whose effect is an action as its own command, every other one at its boundary. -/
def execWrite (r : Req) (index sub : Nat) (data : List Byte) (s : State) : Out :=
  match (if r.complete then actionRow r index sub data else none) with
  | some f => f s
  | none => s.run (writeAddress r index sub data)

/-! ### Transfers that do not complete -/

/-- An incomplete request is dropped and answered with status 0x0A. -/
def endPartly (w : Waiting) (s : State) : State :=
  let t := { s with waiting := s.waiting.filter fun x => x != w }
  if spaceLives t w.space then emitAnswer ⟨w.space, w.tag, w.epoch, w.code, 10, []⟩ t else t

/-- The request of a tag whose segments are still arriving. -/
def partlyOf (s : State) (space tag : Nat) : Option Waiting := s.waiting.find? fun w => w.partly && w.space == space && w.tag == tag

/-- A response on CAN0 is sent no further, and its tag is free. -/
def endResponse (tag : Nat) (s : State) : State := (s.setBytes Reg.canRest [] tag).set Reg.canRestAt 0 tag

/-- ABORT for a tag (R303): an incomplete request is answered with status 0x0A, a response is sent no further. -/
def execAbort (r : Req) (s : State) : Out :=
  s.run fun s =>
    if ¬ serves s r 0xB210 ∨ ¬ mayBegin s r then s
    else match partlyOf s (spaceOf r) r.tag with
      | some w => endPartly w s
      | none => if spaceOf r = 0 then endResponse r.tag s else s

/-- BLOCK_ACK for a response on CAN0 (R310): the next block follows; behind the last one the tag is free. -/
def execBlockAck (tag : Fin 256) (s : State) : Out :=
  s.run fun s =>
    let d := s.bytes Reg.canRest tag
    if d.isEmpty then s
    else
      let t := s.emit (.block tag (d.take nextBlock))
      (t.setBytes Reg.canRest (d.drop nextBlock) tag).set Reg.canRestAt (if (d.drop nextBlock).isEmpty then 0 else s.now) tag

/-- A UDP request that is not complete 1.0 s after its first segment (R306): status 0x0A and event 0x1112. -/
def execRequestIncomplete (space tag : Nat) (s : State) : Out :=
  s.run fun s =>
    match partlyOf s space tag with
    | some w =>
      if space ≠ 0 ∧ w.since + second ≤ s.now then logEvent 0x1112 srcAp1 (data8 [0, tag]) (endPartly w s) else s
    | none => s

/-- 100 ms without a segment of a request, or without BLOCK_ACK for a response, on CAN0 (R310). -/
def execCanTransferTimeout (tag : Fin 256) (s : State) : Out :=
  s.run fun s =>
    match partlyOf s 0 tag with
    | some w => if w.since + 100 * millisecond ≤ s.now then logEvent 0x1112 srcAp1 (data8 [1, tag]) (endPartly w s) else s
    | none =>
      if ¬ (s.bytes Reg.canRest tag).isEmpty ∧ s.getN Reg.canRestAt tag + 100 * millisecond ≤ s.now then endResponse tag s else s

end Sys2Proof.Machine
end

