-- ==== Sys2Proof/Machine/Terminal.lean ====
section
/-!
DEFINITION. What the cabinet terminal does with the commands it receives, and without them (R51, R52, R61 to R63).
-/

namespace Sys2Proof.Machine

/-- The pairs of a SWITCH record that keep the ordering rules of R51: from the first that breaks one, none is executed.
`last` is the on edge before; `len` is 16 L. -/
def goodPairs (len : Int) : Int → List (Int × Int) → List (Int × Int)
  | _, [] => []
  | last, (a, b) :: t => if last < a ∧ a < len ∧ a < b then (a, b) :: goodPairs len a t else []

/-- Edges as a sequence. -/
def flatEdges (l : List (Int × Int)) : List Int := l.flatMap fun (a, b) => [a, b]

/-- Edges of a sequence. -/
def pairEdges : List Int → List (Int × Int)
  | a :: b :: t => (a, b) :: pairEdges t
  | _ => []

/-- A phase record executed at the terminal in a mode (R51, R52, fault clear of Table 3.13). -/
def termRecord (mode len : Int) (frame p : Nat) (r : PhaseRecord) (s : State) : State :=
  if mode ≠ 0 ∨ (r.cmd ≠ 1 ∧ r.cmd ≠ 2) then ((s.set Reg.termPhaseCmd 0 p).setSeq Reg.termEdges [] p).set Reg.termCommandError 0 p
  else if r.cmd = 2 then ((s.set Reg.termPhaseCmd (if s.get Reg.termFault p = 0 then 2 else 0) p).setSeq Reg.termEdges [] p).set Reg.termCommandError 0 p
  else
    let good := goodPairs len (-1) r.pairs
    let t := s.setB Reg.termCommandError (good.length ≠ r.pairs.length) p
    let blocked := t.get Reg.termFault p ≠ 0 ∧ (frame ≤ t.getN Reg.termFaultFrame p ∨ ¬ t.bit Reg.tmStatus 2 p ∨ good = [])
    if blocked then (t.set Reg.termPhaseCmd 0 p).setSeq Reg.termEdges [] p
    else ((t.set Reg.termPhaseCmd 1 p).setSeq Reg.termEdges (flatEdges good) p).set Reg.termFault 0 p

/-- A command frame reaches the terminal. It is applied when every acceptance rule of Table 3.13 holds, and dropped and
counted otherwise. -/
def termAccept (c : Nat) (late : Bool) (f : List Byte) (s : State) : State :=
  let apply := fieldU f 4 4
  let body := f.take 532
  let fits := f.length = 536 ∧ ofBytes (f.drop 532) = crc32 body ∧ fieldU f 0 1 = 0x11 ∧ fieldU f 1 1 / 16 = c ∧
    apply = ((s.get Reg.termNow c + 1) % 4294967296) ∧ ¬ late ∧ s.is Reg.termSynced c
  if ¬ fits then s.set Reg.termDrops ((s.get Reg.termDrops c + 1) % 65536) c
  else
    let tb := fieldU f 8 2
    let m := fieldU f 11 1
    let mode := if m ≤ 1 then m else 2
    let len := tb % 16384
    let t := (s.set Reg.termNow (s.get Reg.termNow c + 1) c).set Reg.termFrame apply c
    let t := ((t.set Reg.termMissed 0 c).set Reg.termLength len c).set Reg.termDepth (tb / 16384) c
    let t := ((t.set Reg.termIndex (fieldU f 10 1 % 128) c).set Reg.termMode mode c).setBytes Reg.termCommand body c
    let t := t.set Reg.termWord (if mode = 2 then 0 else fieldU f 14 2) c
    t.forN 16 fun i u => termRecord mode (16 * len) (u.getN Reg.termNow c) (16 * c + i) (recordOf ((f.drop (20 + 32 * i)).take 32)) u

def execTerminalCommandAccept (link : Fin 16) (late : Bool) (frame : List Byte) (s : State) : Out :=
  s.run fun s => termAccept link late frame s

/-- A number scaled by a / b and rounded to the nearest integer. -/
def scaleRound (v a b : Int) : Int := if b = 0 then v else roundAway ((v : Rat) * a / b)

/-- The pulses of the held command in the `m`-th frame without one: scaled to the frame's length for 8 frames, then in
frame 8 + j shortened to (32 - j)/32 of their duration (Table 3.14). -/
def heldEdges (len0 len m : Int) (l : List (Int × Int)) : List (Int × Int) :=
  l.map fun (a, b) =>
    let a' := scaleRound a len len0
    let b' := scaleRound b len len0
    if m ≤ 8 then (a', b') else (a', a' + scaleRound (b' - a') (32 - (m - 8)) 32)

/-- A frame starts for which no command has been accepted: hold and ramp-off (R62). The frame sequence goes on by R19
with the last depth received (R23). -/
def termHold (c : Nat) (s : State) : State :=
  let m := s.get Reg.termMissed c + 1
  if 40 < m ∨ ¬ s.is Reg.termSynced c then s
  else
    let k := (s.getN Reg.termIndex c + 1) % 128
    let len := frameCycles (s.get Reg.termDepth c) k
    let cmd := s.bytes Reg.termCommand c
    let len0 := fieldU cmd 8 2 % 16384
    let t := ((s.set Reg.termMissed m c).set Reg.termIndex k c).set Reg.termLength len c
    let t := t.set Reg.termNow (t.get Reg.termNow c + 1) c
    t.forN 16 fun i u =>
      let p := 16 * c + i
      if u.get Reg.termPhaseCmd p = 1 then
        u.setSeq Reg.termEdges (flatEdges (heldEdges len0 len m
          (goodPairs (16 * len0) (-1) (recordOf ((cmd.drop (20 + 32 * i)).take 32)).pairs))) p
      else u

def execTerminalHold (link : Fin 16) (s : State) : Out := s.run fun s => termHold link s

/-- A block has a phase held in LOW_LATCH at the terminal. -/
def termLatched (s : State) (b : Nat) : Bool := (phasesOf b).any fun p => s.get Reg.termPhaseCmd p == 2

/-- F(n+41): every phase OFF and every contactor open but those of a block held in LOW_LATCH; SAFE_OFF until a new
synchronisation (R62, R63). -/
def termSafeOff (c : Nat) (s : State) : State :=
  if s.get Reg.termMissed c ≠ 40 then s
  else
    let t := (((s.set Reg.termMissed 41 c).set Reg.termMode 2 c).set Reg.termSynced 0 c).set Reg.termNow (s.get Reg.termNow c + 1) c
    let word := ((List.range 16).filter fun j => (s.getN Reg.termWord c).testBit j && termLatched s (4 * c + j / 4)).map fun j => 2 ^ j
    let t := t.set Reg.termWord (word.sum : Nat) c
    t.forN 16 fun i u =>
      let p := 16 * c + i
      if u.get Reg.termPhaseCmd p = 2 then u else (u.set Reg.termPhaseCmd 0 p).setSeq Reg.termEdges [] p

def execTerminalSafeOff (link : Fin 16) (s : State) : Out := s.run fun s => termSafeOff link s

/-- The terminal turns a phase off on desaturation (4), over-current (2) or high-side supply undervoltage (1), and holds
it off (Table 3.13). -/
def termFaultOff (p cause : Nat) (s : State) : State :=
  if cause = 0 then s
  else ((((s.set Reg.termFault cause p).set Reg.termFaultFrame (s.get Reg.termNow (cabOf p)) p).set Reg.termPhaseCmd 0 p).setSeq
    Reg.termEdges [] p)

def execTerminalPhaseFault (phase : Fin 256) (cause : Fin 8) (s : State) : Out := s.run fun s => termFaultOff phase cause s

end Sys2Proof.Machine
end

