-- ==== Sys2Proof/Machine/Dispatch.lean ====
section
/-!
DEFINITION. The meaning of every command: one arm per constructor of `Instr`.
-/

namespace Sys2Proof.Machine

/-- The effect of a command on everything but the queue. -/
def exec (i : Instr) (s : State) : Host.Outcome State Fault Refusal :=
  match i with
  | .frameStart => Sys2Proof.Machine.execFrameStart s
  | .telemetryFrame link lane line => Sys2Proof.Machine.execTelemetryFrame link lane line s
  | .telemetryDeadline => Sys2Proof.Machine.execTelemetryDeadline s
  | .staleLimitReached link => Sys2Proof.Machine.execStaleLimitReached link s
  | .fastClassEvaluation mism again late done peak => Sys2Proof.Machine.execFastClassEvaluation mism again late done peak s
  | .mismatchFreePeriodEnd => Sys2Proof.Machine.execMismatchFreePeriodEnd s
  | .fastClassDeadline => Sys2Proof.Machine.execFastClassDeadline s
  | .fastClassOverrunLimit => Sys2Proof.Machine.execFastClassOverrunLimit s
  | .commandDispatch missed => Sys2Proof.Machine.execCommandDispatch missed s
  | .dispatchDeadline link => Sys2Proof.Machine.execDispatchDeadline link s
  | .allocatorFastPass => Sys2Proof.Machine.execAllocatorFastPass s
  | .allocatorFastPassOverrun => Sys2Proof.Machine.execAllocatorFastPassOverrun s
  | .fastPassOverrunLimit => Sys2Proof.Machine.execFastPassOverrunLimit s
  | .slowTick mism again late => Sys2Proof.Machine.execSlowTick mism again late s
  | .housekeepingRound temps supplies fitted offs => Sys2Proof.Machine.execHousekeepingRound temps supplies fitted offs s
  | .allocationPassComplete => Sys2Proof.Machine.execAllocationPassComplete s
  | .eyeScanComplete link lane ef => Sys2Proof.Machine.execEyeScanComplete link lane ef s
  | .duneDepthWrite r data => Sys2Proof.Machine.execDuneDepthWrite r data s
  | .duneDepthApplied => Sys2Proof.Machine.execDuneDepthApplied s
  | .samplingLeadWrite r data => Sys2Proof.Machine.execSamplingLeadWrite r data s
  | .ptpSync identity domain diff => Sys2Proof.Machine.execPtpSync identity domain diff s
  | .ptpAnnounce a => Sys2Proof.Machine.execPtpAnnounce a s
  | .ptpDelayResp identity diff => Sys2Proof.Machine.execPtpDelayResp identity diff s
  | .ptpLockLost => Sys2Proof.Machine.execPtpLockLost s
  | .holdoverTimeout => Sys2Proof.Machine.execHoldoverTimeout s
  | .moduleTimeWrite r data => Sys2Proof.Machine.execModuleTimeWrite r data s
  | .rtcUpdate => Sys2Proof.Machine.execRtcUpdate s
  | .clockCheck ppb => Sys2Proof.Machine.execClockCheck ppb s
  | .pllLockLost => Sys2Proof.Machine.execPllLockLost s
  | .porRelease simplexOpen slotOpen rtc since => Sys2Proof.Machine.execPorRelease simplexOpen slotOpen rtc since s
  | .imageVerified => Sys2Proof.Machine.execImageVerified s
  | .journalMount batteryGood torn newerBad lost retBad => Sys2Proof.Machine.execJournalMount batteryGood torn newerBad lost retBad s
  | .dictionaryAvailable holdUp => Sys2Proof.Machine.execDictionaryAvailable holdUp s
  | .roleEstablished => Sys2Proof.Machine.execRoleEstablished s
  | .startupStageTimeout => Sys2Proof.Machine.execStartupStageTimeout s
  | .topologyCheck => Sys2Proof.Machine.execTopologyCheck s
  | .topologyCheckComplete => Sys2Proof.Machine.execTopologyCheckComplete s
  | .runTopologyCheck r => Sys2Proof.Machine.execRunTopologyCheck r s
  | .linkBringUp link => Sys2Proof.Machine.execLinkBringUp link s
  | .restartBringUp r link data => Sys2Proof.Machine.execRestartBringUp r link data s
  | .ckuDetected link => Sys2Proof.Machine.execCkuDetected link s
  | .trainingFrame link lane arrival line => Sys2Proof.Machine.execTrainingFrame link lane arrival line s
  | .alignComplete link => Sys2Proof.Machine.execAlignComplete link s
  | .identityRead link => Sys2Proof.Machine.execIdentityRead link s
  | .configurationCrcReturned link => Sys2Proof.Machine.execConfigurationCrcReturned link s
  | .bringUpTimeout link => Sys2Proof.Machine.execBringUpTimeout link s
  | .serviceFrame link lane line => Sys2Proof.Machine.execServiceFrame link lane line s
  | .serviceResendTimeout link lane => Sys2Proof.Machine.execServiceResendTimeout link lane s
  | .linkLostKeepAliveEnd link => Sys2Proof.Machine.execLinkLostKeepAliveEnd link s
  | .linkLostRetry link => Sys2Proof.Machine.execLinkLostRetry link s
  | .firmwareDataWrite r link data => Sys2Proof.Machine.execFirmwareDataWrite r link data s
  | .activateTerminalFirmware r link data => Sys2Proof.Machine.execActivateTerminalFirmware r link data s
  | .terminalCommandAccept link late frame => Sys2Proof.Machine.execTerminalCommandAccept link late frame s
  | .terminalHold link => Sys2Proof.Machine.execTerminalHold link s
  | .terminalSafeOff link => Sys2Proof.Machine.execTerminalSafeOff link s
  | .terminalPhaseFault phase cause => Sys2Proof.Machine.execTerminalPhaseFault phase cause s
  | .blockStartRequest block => Sys2Proof.Machine.execBlockStartRequest block s
  | .blockStopRequest block => Sys2Proof.Machine.execBlockStopRequest block s
  | .outputDischargeWaitEnd block => Sys2Proof.Machine.execOutputDischargeWaitEnd block s
  | .outputDischargeTimeout block => Sys2Proof.Machine.execOutputDischargeTimeout block s
  | .shortedHighSideEvaluation block => Sys2Proof.Machine.execShortedHighSideEvaluation block s
  | .startDelayEnd block => Sys2Proof.Machine.execStartDelayEnd block s
  | .gateDriveReady block => Sys2Proof.Machine.execGateDriveReady block s
  | .gateDriveTimeout block => Sys2Proof.Machine.execGateDriveTimeout block s
  | .rampOnComplete block => Sys2Proof.Machine.execRampOnComplete block s
  | .rampOffComplete block => Sys2Proof.Machine.execRampOffComplete block s
  | .stopDelayEnd block => Sys2Proof.Machine.execStopDelayEnd block s
  | .clearOverVoltageLatch r block data => Sys2Proof.Machine.execClearOverVoltageLatch r block data s
  | .retryDelayEnd phase => Sys2Proof.Machine.execRetryDelayEnd phase s
  | .clearLockout r phase data => Sys2Proof.Machine.execClearLockout r phase data s
  | .phaseShed block => Sys2Proof.Machine.execPhaseShed block s
  | .presetOutput r slot data => Sys2Proof.Machine.execPresetOutput r slot data s
  | .clearIntegrator r slot data => Sys2Proof.Machine.execClearIntegrator r slot data s
  | .parentSlotWrite r slot source data => Sys2Proof.Machine.execParentSlotWrite r slot source data s
  | .startInjection r => Sys2Proof.Machine.execStartInjection r s
  | .stopInjection r => Sys2Proof.Machine.execStopInjection r s
  | .injectionLengthReached => Sys2Proof.Machine.execInjectionLengthReached s
  | .startCapture r => Sys2Proof.Machine.execStartCapture r s
  | .stopCapture r => Sys2Proof.Machine.execStopCapture r s
  | .captureComplete => Sys2Proof.Machine.execCaptureComplete s
  | .planningPass completes => Sys2Proof.Machine.execPlanningPass completes s
  | .planningPassTimeout => Sys2Proof.Machine.execPlanningPassTimeout s
  | .dynamicLimitWrite r data => Sys2Proof.Machine.execDynamicLimitWrite r data s
  | .dynamicLimitExpiry => Sys2Proof.Machine.execDynamicLimitExpiry s
  | .mainsPresentHoldEnd feeder => Sys2Proof.Machine.execMainsPresentHoldEnd feeder s
  | .migrationStart block => Sys2Proof.Machine.execMigrationStart block s
  | .migrationReachOpen block => Sys2Proof.Machine.execMigrationReachOpen block s
  | .migrationWaitEnd block => Sys2Proof.Machine.execMigrationWaitEnd block s
  | .migrationPreChargeDone block => Sys2Proof.Machine.execMigrationPreChargeDone block s
  | .migrationClosedReported block => Sys2Proof.Machine.execMigrationClosedReported block s
  | .migrationSettled block => Sys2Proof.Machine.execMigrationSettled block s
  | .migrationOpenTimeout block => Sys2Proof.Machine.execMigrationOpenTimeout block s
  | .migrationPreChargeTimeout block => Sys2Proof.Machine.execMigrationPreChargeTimeout block s
  | .migrationCloseTimeout block => Sys2Proof.Machine.execMigrationCloseTimeout block s
  | .clearWithhold r block data => Sys2Proof.Machine.execClearWithhold r block data s
  | .pilotStateChange outlet readings => Sys2Proof.Machine.execPilotStateChange outlet readings s
  | .proximityStateChange outlet readings => Sys2Proof.Machine.execProximityStateChange outlet readings s
  | .hvilStateChange outlet readings => Sys2Proof.Machine.execHvilStateChange outlet readings s
  | .contactorFeedbackFault outlet feedback => Sys2Proof.Machine.execContactorFeedbackFault outlet feedback s
  | .clearContactorFault r outlet data => Sys2Proof.Machine.execClearContactorFault r outlet data s
  | .cmSlacParmReq outlet runId => Sys2Proof.Machine.execCmSlacParmReq outlet runId s
  | .slacRunArbitration runId heard => Sys2Proof.Machine.execSlacRunArbitration runId heard s
  | .sdpRequest outlet tls => Sys2Proof.Machine.execSdpRequest outlet tls s
  | .tcpConnection outlet => Sys2Proof.Machine.execTcpConnection outlet s
  | .supportedAppProtocol outlet options => Sys2Proof.Machine.execSupportedAppProtocol outlet options s
  | .communicationLost outlet => Sys2Proof.Machine.execCommunicationLost outlet s
  | .vehicleIdentified outlet contract good evccid emaid => Sys2Proof.Machine.execVehicleIdentified outlet contract good evccid emaid s
  | .authorisationRequest outlet => Sys2Proof.Machine.execAuthorisationRequest outlet s
  | .authorisationWrite r ctx data => Sys2Proof.Machine.execAuthorisationWrite r ctx data s
  | .authorisationTimeout outlet => Sys2Proof.Machine.execAuthorisationTimeout outlet s
  | .certificateRequest outlet body => Sys2Proof.Machine.execCertificateRequest outlet body s
  | .certificateResponseWrite r outlet data => Sys2Proof.Machine.execCertificateResponseWrite r outlet data s
  | .certificateTimeout outlet => Sys2Proof.Machine.execCertificateTimeout outlet s
  | .cableCheckReq outlet => Sys2Proof.Machine.execCableCheckReq outlet s
  | .imdStatusFrame outlet frame => Sys2Proof.Machine.execImdStatusFrame outlet frame s
  | .imdSilent outlet => Sys2Proof.Machine.execImdSilent outlet s
  | .imdKeepAlive outlet => Sys2Proof.Machine.execImdKeepAlive outlet s
  | .outletContactorsClosed outlet => Sys2Proof.Machine.execOutletContactorsClosed outlet s
  | .cableCheckRampEnd outlet => Sys2Proof.Machine.execCableCheckRampEnd outlet s
  | .cableCheckTimeout outlet => Sys2Proof.Machine.execCableCheckTimeout outlet s
  | .preChargeReq outlet target => Sys2Proof.Machine.execPreChargeReq outlet target s
  | .preChargeCurrentExceeded outlet => Sys2Proof.Machine.execPreChargeCurrentExceeded outlet s
  | .powerDeliveryStart outlet => Sys2Proof.Machine.execPowerDeliveryStart outlet s
  | .preChargeTimeout outlet => Sys2Proof.Machine.execPreChargeTimeout outlet s
  | .currentDemandReq outlet tv ti mv mi soc err marked => Sys2Proof.Machine.execCurrentDemandReq outlet tv ti mv mi soc err marked s
  | .demandSilenceTimeout outlet => Sys2Proof.Machine.execDemandSilenceTimeout outlet s
  | .evOverVoltage outlet => Sys2Proof.Machine.execEvOverVoltage outlet s
  | .powerDeliveryStop outlet => Sys2Proof.Machine.execPowerDeliveryStop outlet s
  | .stopCurrentDecayed outlet => Sys2Proof.Machine.execStopCurrentDecayed outlet s
  | .stopCurrentTimeout outlet => Sys2Proof.Machine.execStopCurrentTimeout outlet s
  | .outputDischarged outlet => Sys2Proof.Machine.execOutputDischarged outlet s
  | .vehicleVoltageRemains outlet => Sys2Proof.Machine.execVehicleVoltageRemains outlet s
  | .outletContactorsOpen outlet => Sys2Proof.Machine.execOutletContactorsOpen outlet s
  | .weldTestHalfComplete outlet => Sys2Proof.Machine.execWeldTestHalfComplete outlet s
  | .emergencyOpenDelay outlet => Sys2Proof.Machine.execEmergencyOpenDelay outlet s
  | .noCapacityTimeout outlet => Sys2Proof.Machine.execNoCapacityTimeout outlet s
  | .stopSessionNormal r outlet => Sys2Proof.Machine.execStopSessionNormal r outlet s
  | .stopSessionEmergency r outlet => Sys2Proof.Machine.execStopSessionEmergency r outlet s
  | .createPending r ctx => Sys2Proof.Machine.execCreatePending r ctx s
  | .createReserved r ctx => Sys2Proof.Machine.execCreateReserved r ctx s
  | .cancel r ctx => Sys2Proof.Machine.execCancel r ctx s
  | .contextNormalStop r ctx => Sys2Proof.Machine.execContextNormalStop r ctx s
  | .contextEmergencyStop r ctx => Sys2Proof.Machine.execContextEmergencyStop r ctx s
  | .contextExpiry ctx => Sys2Proof.Machine.execContextExpiry ctx s
  | .coolantStatusFrame outlet frame => Sys2Proof.Machine.execCoolantStatusFrame outlet frame s
  | .coolantUnitSilent outlet => Sys2Proof.Machine.execCoolantUnitSilent outlet s
  | .metrologySample inputs => Sys2Proof.Machine.execMetrologySample inputs s
  | .noMains feeder => Sys2Proof.Machine.execNoMains feeder s
  | .mainsReturned feeder => Sys2Proof.Machine.execMainsReturned feeder s
  | .meteringSecond => Sys2Proof.Machine.execMeteringSecond s
  | .channelFault channel stuck => Sys2Proof.Machine.execChannelFault channel stuck s
  | .channelFaultCleared channel => Sys2Proof.Machine.execChannelFaultCleared channel s
  | .pulseEmit output => Sys2Proof.Machine.execPulseEmit output s
  | .theftWatchBurst means => Sys2Proof.Machine.execTheftWatchBurst means s
  | .crossCheckWindowEnd partner => Sys2Proof.Machine.execCrossCheckWindowEnd partner s
  | .meteringValuesSync values => Sys2Proof.Machine.execMeteringValuesSync values s
  | .sealOpened => Sys2Proof.Machine.execSealOpened s
  | .sealClosed => Sys2Proof.Machine.execSealClosed s
  | .metrologyImageData r data => Sys2Proof.Machine.execMetrologyImageData r data s
  | .activateMetrologyImage r => Sys2Proof.Machine.execActivateMetrologyImage r s
  | .clearTheftLog r => Sys2Proof.Machine.execClearTheftLog r s
  | .tariffSlotSwitch => Sys2Proof.Machine.execTariffSlotSwitch s
  | .demandIntervalEnd => Sys2Proof.Machine.execDemandIntervalEnd s
  | .billingPeriodClose => Sys2Proof.Machine.execBillingPeriodClose s
  | .closePeriod r => Sys2Proof.Machine.execClosePeriod r s
  | .calendarActivationWrite r data => Sys2Proof.Machine.execCalendarActivationWrite r data s
  | .calendarActivation => Sys2Proof.Machine.execCalendarActivation s
  | .dstChange => Sys2Proof.Machine.execDstChange s
  | .boundaryRecordCommitted => Sys2Proof.Machine.execBoundaryRecordCommitted s
  | .recordSealed ctx => Sys2Proof.Machine.execRecordSealed ctx s
  | .recordSelect r data => Sys2Proof.Machine.execRecordSelect r data s
  | .collectRecord r data => Sys2Proof.Machine.execCollectRecord r data s
  | .releaseUpTo r data => Sys2Proof.Machine.execReleaseUpTo r data s
  | .tamperInputChange input closed => Sys2Proof.Machine.execTamperInputChange input closed s
  | .magneticCheck outlet readings => Sys2Proof.Machine.execMagneticCheck outlet readings s
  | .runMagneticTest r data => Sys2Proof.Machine.execRunMagneticTest r data s
  | .requestField r => Sys2Proof.Machine.execRequestField r s
  | .requestService r => Sys2Proof.Machine.execRequestService r s
  | .requestRetired r => Sys2Proof.Machine.execRequestRetired r s
  | .retiredConfirmLapse => Sys2Proof.Machine.execRetiredConfirmLapse s
  | .transitionComplete refused => Sys2Proof.Machine.execTransitionComplete refused s
  | .fieldMeteringKeyVersion r data => Sys2Proof.Machine.execFieldMeteringKeyVersion r data s
  | .reMask => Sys2Proof.Machine.execReMask s
  | .blobRewrap => Sys2Proof.Machine.execBlobRewrap s
  | .healthTestFailed test => Sys2Proof.Machine.execHealthTestFailed test s
  | .randomSourceRestart passes => Sys2Proof.Machine.execRandomSourceRestart passes s
  | .attestationNonce r nonce => Sys2Proof.Machine.execAttestationNonce r nonce s
  | .roleKeyWrite r index data => Sys2Proof.Machine.execRoleKeyWrite r index data s
  | .canRoleKeyWrite r index data => Sys2Proof.Machine.execCanRoleKeyWrite r index data s
  | .generateSeccKeyP256 r => Sys2Proof.Machine.execGenerateSeccKeyP256 r s
  | .generateSeccKeyP521 r => Sys2Proof.Machine.execGenerateSeccKeyP521 r s
  | .generateSeccKeyEd448 r => Sys2Proof.Machine.execGenerateSeccKeyEd448 r s
  | .imageDataWrite r data => Sys2Proof.Machine.execImageDataWrite r data s
  | .activateImage r => Sys2Proof.Machine.execActivateImage r s
  | .confirmTrialImage r => Sys2Proof.Machine.execConfirmTrialImage r s
  | .open port addr tag epoch payload => Sys2Proof.Machine.execOpen port addr tag epoch payload s
  | .confirm ident seq tag epoch sig mac => Sys2Proof.Machine.execConfirm ident seq tag epoch sig mac s
  | .close r => Sys2Proof.Machine.execClose r s
  | .sessionIdleTimeout => Sys2Proof.Machine.execSessionIdleTimeout s
  | .sessionLifetimeEnd => Sys2Proof.Machine.execSessionLifetimeEnd s
  | .openingLockoutEnd => Sys2Proof.Machine.execOpeningLockoutEnd s
  | .read r index sub => Sys2Proof.Machine.execRead r index sub s
  | .write r index sub data => Sys2Proof.Machine.execWrite r index sub data s
  | .abort r => Sys2Proof.Machine.execAbort r s
  | .blockAck tag => Sys2Proof.Machine.execBlockAck tag s
  | .requestIncomplete space tag => Sys2Proof.Machine.execRequestIncomplete space tag s
  | .canTransferTimeout tag => Sys2Proof.Machine.execCanTransferTimeout tag s
  | .commitConfiguration r => Sys2Proof.Machine.execCommitConfiguration r s
  | .commitComplete => Sys2Proof.Machine.execCommitComplete s
  | .discardChanges r => Sys2Proof.Machine.execDiscardChanges r s
  | .windowPost r channel data => Sys2Proof.Machine.execWindowPost r channel data s
  | .pushData channel => Sys2Proof.Machine.execPushData channel s
  | .windowFlush channel => Sys2Proof.Machine.execWindowFlush channel s
  | .pushResend channel => Sys2Proof.Machine.execPushResend channel s
  | .pushNoWindow channel => Sys2Proof.Machine.execPushNoWindow channel s
  | .exportLog r data => Sys2Proof.Machine.execExportLog r data s
  | .canFrameReceived bus ext fd remote ident data => Sys2Proof.Machine.execCanFrameReceived bus ext fd remote ident data s
  | .canDataWrite r mo data => Sys2Proof.Machine.execCanDataWrite r mo data s
  | .canSendPeriod mo => Sys2Proof.Machine.execCanSendPeriod mo s
  | .canFrameSent bus => Sys2Proof.Machine.execCanFrameSent bus s
  | .canObjectChange r mo field data => Sys2Proof.Machine.execCanObjectChange r mo field data s
  | .canAbort r mo => Sys2Proof.Machine.execCanAbort r mo s
  | .deadlineMiss mo => Sys2Proof.Machine.execDeadlineMiss mo s
  | .ttEnter r bus => Sys2Proof.Machine.execTtEnter r bus s
  | .ttLeave r bus => Sys2Proof.Machine.execTtLeave r bus s
  | .ttWindowMark bus => Sys2Proof.Machine.execTtWindowMark bus s
  | .canBusError bus transmitting primary => Sys2Proof.Machine.execCanBusError bus transmitting primary s
  | .busOff bus => Sys2Proof.Machine.execBusOff bus s
  | .busOffRecoveryRequest bus => Sys2Proof.Machine.execBusOffRecoveryRequest bus s
  | .busOffRecovered bus => Sys2Proof.Machine.execBusOffRecovered bus s
  | .restartController r bus => Sys2Proof.Machine.execRestartController r bus s
  | .bitTimingApply bus => Sys2Proof.Machine.execBitTimingApply bus s
  | .busMonitoringExit bus => Sys2Proof.Machine.execBusMonitoringExit bus s
  | .crossingMissing => Sys2Proof.Machine.execCrossingMissing s
  | .claimRound heard => Sys2Proof.Machine.execClaimRound heard s
  | .status header body => Sys2Proof.Machine.execStatus header body s
  | .alarm header body => Sys2Proof.Machine.execAlarm header body s
  | .ack header body => Sys2Proof.Machine.execAck header body s
  | .sound header snr => Sys2Proof.Machine.execSound header snr s
  | .map header body => Sys2Proof.Machine.execMap header body s
  | .responseTimeoutRepeat => Sys2Proof.Machine.execResponseTimeoutRepeat s
  | .poll outstation => Sys2Proof.Machine.execPoll outstation s
  | .outstationCommand r outstation data => Sys2Proof.Machine.execOutstationCommand r outstation data s
  | .estimationDue outstation fromOs => Sys2Proof.Machine.execEstimationDue outstation fromOs s
  | .loadSwitchCommand r channel data => Sys2Proof.Machine.execLoadSwitchCommand r channel data s
  | .hardShort channel current => Sys2Proof.Machine.execHardShort channel current s
  | .inrushOverCurrent channel current => Sys2Proof.Machine.execInrushOverCurrent channel current s
  | .steadyOverCurrent channel current => Sys2Proof.Machine.execSteadyOverCurrent channel current s
  | .inrushWindowEnd channel => Sys2Proof.Machine.execInrushWindowEnd channel s
  | .thermalShutdown channel junction => Sys2Proof.Machine.execThermalShutdown channel junction s
  | .junctionCooled channel junction => Sys2Proof.Machine.execJunctionCooled channel junction s
  | .clearLatch r channel => Sys2Proof.Machine.execClearLatch r channel s
  | .groupOverCurrent group current => Sys2Proof.Machine.execGroupOverCurrent group current s
  | .groupUndervoltage group voltage => Sys2Proof.Machine.execGroupUndervoltage group voltage s
  | .shedRestart group current => Sys2Proof.Machine.execShedRestart group current s
  | .coilTurnOnRelease group current => Sys2Proof.Machine.execCoilTurnOnRelease group current s
  | .groupOverVoltage group voltage => Sys2Proof.Machine.execGroupOverVoltage group voltage s
  | .lossOfGround offset => Sys2Proof.Machine.execLossOfGround offset s
  | .supplyFaultReturn ground group voltage => Sys2Proof.Machine.execSupplyFaultReturn ground group voltage s
  | .hpCycle levels srst pulses above5 above18 => Sys2Proof.Machine.execHpCycle levels srst pulses above5 above18 s
  | .testPulse source high => Sys2Proof.Machine.execTestPulse source high s
  | .offPulse output below5 above18 => Sys2Proof.Machine.execOffPulse output below5 above18 s
  | .hpSafeState diagnostic => Sys2Proof.Machine.execHpSafeState diagnostic s
  | .hpWatchdog => Sys2Proof.Machine.execHpWatchdog s
  | .startBrakeTest r manipulator => Sys2Proof.Machine.execStartBrakeTest r manipulator s
  | .testTorqueApplied r manipulator count => Sys2Proof.Machine.execTestTorqueApplied r manipulator count s
  | .brakeTestHoldEnd manipulator count => Sys2Proof.Machine.execBrakeTestHoldEnd manipulator count s
  | .torqueConfirmTimeout manipulator => Sys2Proof.Machine.execTorqueConfirmTimeout manipulator s
  | .brakeTestDue manipulator => Sys2Proof.Machine.execBrakeTestDue manipulator s
  | .clearBrakeLockout r manipulator => Sys2Proof.Machine.execClearBrakeLockout r manipulator s
  | .clearOutputFault r data => Sys2Proof.Machine.execClearOutputFault r data s
  | .confirmConfiguration r data => Sys2Proof.Machine.execConfirmConfiguration r data s
  | .outputDemand r data => Sys2Proof.Machine.execOutputDemand r data s
  | .becomeActive r => Sys2Proof.Machine.execBecomeActive r s
  | .activeLineSample partnerLine => Sys2Proof.Machine.execActiveLineSample partnerLine s
  | .isolate r => Sys2Proof.Machine.execIsolate r s
  | .handOver r => Sys2Proof.Machine.execHandOver r s
  | .join r => Sys2Proof.Machine.execJoin r s
  | .request frame => Sys2Proof.Machine.execRequest frame s
  | .grant frame => Sys2Proof.Machine.execGrant frame s
  | .grantDeadline => Sys2Proof.Machine.execGrantDeadline s
  | .leaseExpiry live => Sys2Proof.Machine.execLeaseExpiry live s
  | .takeover partnerLine => Sys2Proof.Machine.execTakeover partnerLine s
  | .release frame => Sys2Proof.Machine.execRelease frame s
  | .accept frame => Sys2Proof.Machine.execAccept frame s
  | .refuse frame => Sys2Proof.Machine.execRefuse frame s
  | .resign frame => Sys2Proof.Machine.execResign frame s
  | .resignAck frame => Sys2Proof.Machine.execResignAck frame s
  | .partnerActiveLineChange asserted => Sys2Proof.Machine.execPartnerActiveLineChange asserted s
  | .mirrorFrame m good => Sys2Proof.Machine.execMirrorFrame m good s
  | .configurationSync item => Sys2Proof.Machine.execConfigurationSync item s
  | .syncAckTimeout => Sys2Proof.Machine.execSyncAckTimeout s
  | .fullSyncComplete values items generation => Sys2Proof.Machine.execFullSyncComplete values items generation s
  | .joinFailed cause => Sys2Proof.Machine.execJoinFailed cause s
  | .joinRetry => Sys2Proof.Machine.execJoinRetry s
  | .fencedTimeout => Sys2Proof.Machine.execFencedTimeout s
  | .healthReport => Sys2Proof.Machine.execHealthReport s
  | .heartbeat => Sys2Proof.Machine.execHeartbeat s
  | .supplyWarning vaux => Sys2Proof.Machine.execSupplyWarning vaux s
  | .windowRecovery vaux => Sys2Proof.Machine.execWindowRecovery vaux s
  | .dipCommitPeriod => Sys2Proof.Machine.execDipCommitPeriod s
  | .dipEpisodeLimit => Sys2Proof.Machine.execDipEpisodeLimit s
  | .stagedSessionStop => Sys2Proof.Machine.execStagedSessionStop s
  | .dipEpisodeEnd vaux => Sys2Proof.Machine.execDipEpisodeEnd vaux s
  | .brownOut vaux cell => Sys2Proof.Machine.execBrownOut vaux cell s
  | .watchdogReset processor => Sys2Proof.Machine.execWatchdogReset processor s
  | .softwareResetQuiet r => Sys2Proof.Machine.execSoftwareResetQuiet r s
  | .softwareResetAtOnce r => Sys2Proof.Machine.execSoftwareResetAtOnce r s
  | .softwareResetAssert => Sys2Proof.Machine.execSoftwareResetAssert s
  | .enterIdle => Sys2Proof.Machine.execEnterIdle s
  | .wake r => Sys2Proof.Machine.execWake r s
  | .cellReplaced r => Sys2Proof.Machine.execCellReplaced r s
  | .reverseInput input volts => Sys2Proof.Machine.execReverseInput input volts s
  | .gateOn input volts => Sys2Proof.Machine.execGateOn input volts s
  | .vauxOverVoltage volts => Sys2Proof.Machine.execVauxOverVoltage volts s
  | .ethernetLinkUp port up gigabit => Sys2Proof.Machine.execEthernetLinkUp port up gigabit s
  | .lockstepMismatch processor => Sys2Proof.Machine.execLockstepMismatch processor s
  | .poolSingleBitError address => Sys2Proof.Machine.execPoolSingleBitError address s
  | .poolDoubleBitError address slot channels push => Sys2Proof.Machine.execPoolDoubleBitError address slot channels push s
  | .ownerRegisterWrite bank requester newOwner => Sys2Proof.Machine.execOwnerRegisterWrite bank requester newOwner s
  | .xdGrant bank requester grant => Sys2Proof.Machine.execXdGrant bank requester grant s
  | .siltRegionTest singles doubles failed => Sys2Proof.Machine.execSiltRegionTest singles doubles failed s
  | .siltTestAbandon singles doubles => Sys2Proof.Machine.execSiltTestAbandon singles doubles s
  | .journalCommit => Sys2Proof.Machine.execJournalCommit s
  | .commitValid => Sys2Proof.Machine.execCommitValid s
  | .batchHoldEnd => Sys2Proof.Machine.execBatchHoldEnd s
  | .programVerifyFailed sector => Sys2Proof.Machine.execProgramVerifyFailed sector s
  | .cellInserted volts => Sys2Proof.Machine.execCellInserted volts s
  | .rtcMinuteCellCheck volts fitted => Sys2Proof.Machine.execRtcMinuteCellCheck volts fitted s
  | .internalRailFault rail => Sys2Proof.Machine.execInternalRailFault rail s
  | .resyncTimeout => Sys2Proof.Machine.execResyncTimeout s
  | .vehicleRequest outlet kind mv mi tv soc => Sys2Proof.Machine.execVehicleRequest outlet kind mv mi tv soc s

end Sys2Proof.Machine
end

