-- ==== Sys2Proof/Safety.lean ====
section
/-!
DEFINITION. What counts as a safe run: every command completes, and every state is in canonical form.
-/

namespace Sys2Proof.Machine

/-- An image of part of the registers is canonical. -/
def Kept.wf (k : Kept) : Bool := storeRising k.regs && storeRising k.octs && storeRising k.seqs && storeRising k.logs

/-- A state is canonical: the names of every store rise, and both memories list rising addresses and no blank cell, so that
equal states are equal data. -/
def State.wf (s : State) : Bool :=
  storeRising s.regs && storeRising s.octs && storeRising s.seqs && storeRising s.reals && storeRising s.logs &&
  storeRising s.cfgRegs && storeRising s.cfgOcts && s.cfgOld.wf && s.journal.wf && s.staged.wf &&
  Memory.wf poolBlank s.pool && Memory.wf flashBlank s.flash

/-- A step is safe: it answers a next state, and that state is canonical. -/
def safeStep (s : State) : Prop := ∃ t, step s = .next t ∧ t.wf = true

/-- The states that `n` steps from `s` reach, without a stop. -/
def reaches (s : State) : Nat → State → Prop
  | 0, t => t = s
  | n + 1, t => ∃ u, step s = .next u ∧ reaches u n t

/-! ### What a command leaves alone -/

/-- What a state holds under the name of a register: its numbers, bytes, sequences, reals and logs. -/
def State.view (s : State) (o : Obj) :
    (Nat → Nat → Int) × (Nat → Nat → List Byte) × (Nat → Nat → List Int) × (Nat → Nat → Rat) × (Nat → List (List Byte)) :=
  (fun i j => s.get o i j, fun i j => s.bytes o i j, fun i j => s.seq o i j, fun i j => s.real o i j, fun i => s.log o i)

/-- The memories and the images of the configuration and of the journal, which few commands touch. -/
def State.still (s : State) : List Host.Cell × List Host.Cell × Store Int × Store (List Byte) × Kept × Kept ×
    List (List Byte) × List (List Byte) × List Key :=
  (s.pool, s.flash, s.cfgRegs, s.cfgOcts, s.cfgOld, s.staged, s.ring, s.archive, s.committing)

/-- Both. -/
def State.part (s : State) (o : Obj) :
    ((Nat → Nat → Int) × (Nat → Nat → List Byte) × (Nat → Nat → List Int) × (Nat → Nat → Rat) × (Nat → List (List Byte))) ×
    (List Host.Cell × List Host.Cell × Store Int × Store (List Byte) × Kept × Kept × List (List Byte) × List (List Byte) ×
      List Key) :=
  (s.view o, s.still)

/-- The registers that the event log, the push queues, the journal queue and the answers of requests write. -/
def busyRegisters : List Nat :=
  [Obj.eventEntriesDropped.id, Obj.lastEventSequence.id, Obj.itemsQueued.id, Reg.pushIdleSince.id,
   Obj.entriesOverwrittenBeforePush.id, Reg.pushLost.id, Reg.pushDropped.id, Reg.pushQueue.id, Reg.eventRing.id,
   Reg.eventWaiting.id, Reg.eventStamps.id, Reg.suppressed.id, Obj.batteryDomainShadowInUse.id, Reg.shadow.id,
   Reg.journalItems.id, Reg.journalItemsAt.id, Reg.journalUrgent.id, Obj.uncommittedChanges.id, Obj.uncommittedObjects.id,
   Reg.syncGeneration.id, Reg.syncSentAt.id, Reg.canRest.id, Reg.canRestAt.id]

/-- A register that none of them writes. -/
def Obj.quiet (o : Obj) : Bool := !busyRegisters.contains o.id

/-! ### Requests that are let through -/

/-- The request is one that R300 lets through to the rules of its chapter: authenticated with a role, its tag free, room
among the transactions, its value of the type and in the range, and nothing in R4 or R302 against it. `u` is the state
after authentication. -/
structure Granted (r : Req) (o : Obj) (i j : Nat) (d : List Byte) (role space : Nat) (s u : State) : Prop where
  complete : r.complete = true
  judged : judgeRequest r 2 (o.index i) (o.sub + o.subStep * j) d { s with out := [] } = .accept u space role false
  value : writeStatus u o i role d = 0
  allowed : roleForbids u (o.index i) = false

end Sys2Proof.Machine
end

