-- ==== Sys2Proof/Machine/Footprint.lean ====
section
/-!
DEFINITION. Footprints: the registers that a function of the model may write, by their numbers, beside the registers that the
event log, the push queues, the journal queue and the answers of requests write (`busyRegisters`). `Footprint.f` is the
footprint of `f`, put together from those of the functions that `f` calls.
-/

namespace Sys2Proof.Machine

def Footprint.authFailed : List Nat := [Obj.authenticationFailures.id]
def Footprint.authenticate : List Nat := [Obj.droppedFramesAndDatagrams.id, Obj.authenticationFailures.id,
  Obj.canCounter.id]
def Footprint.hostWrite : List Nat := Footprint.authenticate
def Footprint.hostDefer : List Nat := Footprint.authenticate
def Footprint.unbindChannel : List Nat := [Obj.boundSession.id, Obj.windowsPosted.id, Reg.pushWindows.id,
  Reg.pushLastWindow.id, Reg.pushFilled.id, Reg.pushWindowAt.id, Reg.pushSegment.id, Reg.pushOffset.id,
  Reg.pushNext.id, Reg.pushAckDue.id, Reg.pushEndsOpen.id, Reg.pushIdleSince.id]
def Footprint.auditEntry : List Nat := [Reg.auditLog.id, Obj.lastAuditSequence.id, Obj.auditEntriesUsed.id]
def Footprint.undirty : List Nat := [Obj.uncommittedChanges.id, Obj.uncommittedObjects.id]
def Footprint.endDiscard : List Nat := [Reg.commitRunning.id]
def Footprint.poolWrite : List Nat := [Reg.poisoned.id]
def Footprint.handBank : List Nat := [Obj.owner.id, Obj.xdSecondaryAccess.id, Obj.handovers.id]
def Footprint.presetSlot : List Nat := [Reg.slotPresetDue.id, Reg.slotPresetValue.id]
def Footprint.holdSlot : List Nat := [Reg.slotHeld.id, Reg.slotReal.id, Reg.slotFirst.id]
def Footprint.releaseSlot : List Nat := [Reg.slotHeld.id, Reg.slotFirst.id]
def Footprint.holdBlockSlots : List Nat := Footprint.holdSlot
def Footprint.releaseBlockSlots : List Nat := Footprint.releaseSlot
def Footprint.endCapture : List Nat := [Obj.captureState.id, Reg.captureBelongs.id] ++ Footprint.handBank
def Footprint.endInjection : List Nat := [Obj.injectionState.id] ++ Footprint.endCapture
def Footprint.endInjectionOfBlock : List Nat := Footprint.endInjection
def Footprint.commandReach : List Nat := [Reg.contactorCommand.id, Obj.contactorOperations.id,
  Obj.contactorLoadOpenings.id]
def Footprint.openReaches : List Nat := Footprint.commandReach
def Footprint.freeBlock : List Nat := [Obj.allocState.id, Obj.boundOutlet.id, Obj.blockShare.id, Reg.share.id,
  Reg.blockReleased.id, Reg.mvQueued.id]
def Footprint.endMove : List Nat := [Reg.mvKind.id, Reg.mvStep.id, Reg.mvDoneAt.id]
def Footprint.abandonMove : List Nat := [Obj.migrationsAbandoned.id] ++ Footprint.endMove
def Footprint.completeMove : List Nat := [Obj.migrationsCompleted.id] ++ Footprint.endMove
def Footprint.withdrawBlock : List Nat := [Reg.mvQueued.id, Obj.blockShare.id, Reg.share.id, Reg.blockEmpty.id] ++
  Footprint.abandonMove
def Footprint.refreshBlock : List Nat := [Obj.usablePhases.id, Obj.switchingPhases.id, Obj.effectiveRating.id]
def Footprint.setBlock : List Nat := [Obj.blockState.id, Reg.blockSince.id]
def Footprint.touchActive : List Nat := [Reg.activeSetAt.id, Reg.mismatchCount.id, Reg.openCount.id,
  Reg.stuckCount.id, Reg.rangeCount.id]
def Footprint.setPhase : List Nat := [Obj.phaseState.id] ++ Footprint.refreshBlock ++ Footprint.touchActive
def Footprint.movePhases : List Nat := Footprint.setPhase
def Footprint.blockOut : List Nat := [Reg.ramp.id, Reg.startWaiting.id] ++ Footprint.movePhases ++
  Footprint.endInjectionOfBlock ++ Footprint.holdBlockSlots ++ Footprint.withdrawBlock ++ Footprint.setBlock
def Footprint.outIfShort : List Nat := Footprint.blockOut
def Footprint.recoverBlock : List Nat := [Reg.blockEmpty.id] ++ Footprint.setBlock
def Footprint.lockPhase : List Nat := [Obj.lockoutCause.id] ++ Footprint.setPhase ++ Footprint.outIfShort
def Footprint.stopBlock : List Nat := [Reg.startHeld.id, Reg.startWaiting.id] ++ Footprint.holdBlockSlots ++
  Footprint.setBlock ++ Footprint.movePhases ++ Footprint.endInjectionOfBlock
def Footprint.stopAllBlocks : List Nat := Footprint.stopBlock
def Footprint.dropBlock : List Nat := [Reg.startHeld.id, Reg.startWaiting.id, Reg.ramp.id] ++ Footprint.movePhases ++
  Footprint.endInjectionOfBlock ++ Footprint.holdBlockSlots ++ Footprint.setBlock
def Footprint.withholdBlock : List Nat := [Obj.allocState.id, Obj.withholdCause.id] ++ Footprint.abandonMove ++
  Footprint.commandReach ++ Footprint.stopBlock ++ Footprint.freeBlock
def Footprint.refuseStart : List Nat := [Obj.lastStartRefusalCause.id, Reg.startWaiting.id] ++ Footprint.freeBlock ++
  Footprint.abandonMove
def Footprint.beginTest : List Nat := [Reg.startWaiting.id, Reg.startAt.id, Reg.gateReadyBy.id, Obj.startCount.id,
  Reg.testOver.id, Reg.testLargest.id] ++ Footprint.releaseBlockSlots ++ Footprint.setBlock
def Footprint.startBlock : List Nat := [Reg.startHeld.id, Reg.startWaiting.id, Reg.startAt.id] ++
  Footprint.setBlock ++ Footprint.refuseStart ++ Footprint.beginTest
def Footprint.setLatch : List Nat := [Obj.latchingOutlet.id, Reg.ramp.id, Reg.outletLatch.id, Obj.lsCommand.id,
  Obj.lsState.id] ++ Footprint.movePhases ++ Footprint.endInjectionOfBlock ++ Footprint.holdBlockSlots ++
  Footprint.setBlock ++ Footprint.abandonMove ++ Footprint.freeBlock ++ Footprint.dropBlock
def Footprint.clearLatch : List Nat := [Obj.latchingOutlet.id, Reg.blockReleased.id, Reg.outletLatch.id] ++
  Footprint.movePhases ++ Footprint.setBlock ++ Footprint.holdBlockSlots ++ Footprint.withdrawBlock
def Footprint.setLink : List Nat := [Obj.linkState.id, Reg.linkSince.id]
def Footprint.withdrawCabinet : List Nat := [Reg.linkRechecked.id, Reg.cabPassed.id] ++ Footprint.holdBlockSlots ++
  Footprint.withdrawBlock ++ Footprint.blockOut
def Footprint.loseLink : List Nat := [Obj.linkLostCount.id] ++ Footprint.withdrawCabinet ++ Footprint.setLink
def Footprint.refuseLink : List Nat := [Obj.lastRefusalCause.id, Reg.cabPassed.id] ++ Footprint.setLink ++
  Footprint.blockOut
def Footprint.settleLanes : List Nat := Footprint.loseLink ++ Footprint.setLink
def Footprint.laneOut : List Nat := [Obj.lanesInService.id, Reg.laneGoodScans.id, Reg.laneCrcGood.id] ++
  Footprint.settleLanes
def Footprint.laneBack : List Nat := [Obj.lanesInService.id] ++ Footprint.settleLanes
def Footprint.eyeScan : List Nat := [Obj.eyeFigure.id, Reg.laneScans.id, Reg.laneLowScans.id, Reg.laneGoodScans.id] ++
  Footprint.laneOut ++ Footprint.laneBack
def Footprint.launchService : List Nat := [Reg.txLine.id]
def Footprint.sendAck : List Nat := Footprint.launchService
def Footprint.sendService : List Nat := [Reg.serviceWaiting.id, Reg.serviceTxSeq.id, Reg.serviceQueue.id,
  Reg.serviceProgressAt.id, Reg.serviceResendRun.id] ++ Footprint.launchService
def Footprint.pumpService : List Nat := [Reg.serviceWaiting.id] ++ Footprint.sendService
def Footprint.sendInPieces : List Nat := Footprint.sendService
def Footprint.takeService : List Nat := [Reg.serviceQueue.id, Reg.serviceProgressAt.id, Reg.serviceResendRun.id,
  Reg.serviceTxAcked.id, Reg.serviceRxSeq.id, Reg.identityData.id, Reg.configCrc.id, Reg.firmwareActivating.id] ++
  Footprint.pumpService ++ Footprint.sendAck
def Footprint.crcFailed : List Nat := [Obj.laneCrcFailures.id, Reg.laneCopyFailed.id]
def Footprint.receive : List Nat := [Reg.rxLine.id]
def Footprint.failService : List Nat := [Reg.serviceFailed.id, Reg.serviceQueue.id] ++ Footprint.refuseLink ++
  Footprint.sendService
def Footprint.storeTelemetry : List Nat := [Reg.tmState.id, Reg.telemetrySeq.id, Reg.tmEcho.id, Obj.eyeFigure.id,
  Reg.tmBusVoltage.id, Reg.tmBusCurrent.id, Reg.tmTemps.id, Reg.tmOutVoltage.id, Reg.tmOutCurrent.id,
  Reg.tmContactors.id, Reg.tmBlockFlags.id, Reg.tmCurrent.id, Reg.tmSwitchNode.id, Reg.tmDvdtOn.id, Reg.tmDvdtOff.id,
  Reg.tmPhaseTemp.id, Reg.tmStatus.id, Reg.tmDuty.id, Reg.tmFaultTime.id]
def Footprint.countDrops : List Nat := [Reg.dropsSeen.id, Obj.commandsDroppedByTerminal.id]
def Footprint.countDownCrc : List Nat := [Reg.downCrcSeen.id, Reg.laneCrcGood.id, Obj.laneCrcFailures.id,
  Reg.freeCount.id]
def Footprint.linkRun : List Nat := [Reg.linkGoodRun.id, Reg.topologyDue.id, Reg.linkMisses.id] ++ Footprint.setLink
def Footprint.takeTelemetry : List Nat := [Reg.linkGood.id] ++ Footprint.linkRun ++ Footprint.countDownCrc ++
  Footprint.countDrops ++ Footprint.storeTelemetry
def Footprint.bringUp : List Nat := [Reg.linkBringUpAt.id, Obj.lanesInService.id, Reg.linkCommanded.id,
  Reg.linkGoodRun.id, Reg.linkSteps.id, Reg.identityData.id, Reg.configCrc.id, Reg.serviceWaiting.id,
  Reg.serviceTxSeq.id, Reg.serviceTxAcked.id, Reg.serviceRxSeq.id, Reg.serviceFailed.id, Reg.serviceQueue.id,
  Reg.serviceResendRun.id, Reg.laneScans.id, Reg.laneLowScans.id, Reg.laneGoodScans.id, Reg.laneCrcRun.id] ++
  Footprint.setLink
def Footprint.takeTraining : List Nat := [Obj.eyeFigure.id, Obj.oneWayDelayD.id, Reg.linkSteps.id, Reg.termSynced.id,
  Reg.termNow.id] ++ Footprint.refuseLink ++ Footprint.sendService ++ Footprint.setLink
def Footprint.storeIdentity : List Nat := [Obj.idVersion.id, Obj.idPhases.id, Obj.idBlocks.id, Obj.idContactors.id,
  Obj.idSupplyMap.id, Obj.idReadyTime.id, Reg.phaseRating.id, Reg.busRating.id, Obj.idMaker.id, Obj.idSerial.id,
  Obj.idFirmware.id]
def Footprint.enterInrush : List Nat := [Obj.lsState.id, Reg.lsSince.id, Reg.lsEntered.id, Reg.lsRank.id]
def Footprint.tryTurnOn : List Nat := [Obj.lsState.id] ++ Footprint.enterInrush
def Footprint.commandChannel : List Nat := [Obj.lsCommand.id, Reg.lsRank.id, Reg.lsWant.id, Obj.lsState.id] ++
  Footprint.tryTurnOn
def Footprint.latchChannel : List Nat := [Obj.lsState.id, Obj.lsCause.id, Obj.lsLatches.id]
def Footprint.supplyOff : List Nat := [Reg.supplyOffCause.id, Obj.lsState.id]
def Footprint.supplyBack : List Nat := [Reg.supplyOffCause.id] ++ Footprint.tryTurnOn
def Footprint.commandCoils : List Nat := Footprint.commandChannel
def Footprint.setContext : List Nat := [Obj.ctxState.id]
def Footprint.takeSerial : List Nat := [Reg.lastSerial.id, Obj.ctxSerial.id, Reg.ctxRank.id, Reg.ctxCreated.id,
  Reg.ctxAuthorised.id, Obj.ctxEndCause.id]
def Footprint.dropContext : List Nat := [Obj.ctxSerial.id, Obj.ctxAuthorisation.id, Reg.ctxAuthorised.id,
  Obj.regSetOutlet.id] ++ Footprint.setContext
def Footprint.takeStart : List Nat := [Obj.startReg.id, Obj.startTime.id, Obj.regSetOutlet.id, Obj.regSetFlags.id,
  Reg.qualityStart.id, Reg.sessionSlot.id, Reg.ctxOpen.id, Obj.ctxStartTime.id]
def Footprint.takeStop : List Nat := [Obj.stopReg.id, Obj.stopTime.id, Reg.qualityStop.id, Reg.ctxOpen.id,
  Obj.regSetFlags.id]
def Footprint.takeBoth : List Nat := Footprint.takeStop ++ Footprint.takeStart
def Footprint.endContext : List Nat := [Obj.boundContext.id] ++ Footprint.setContext ++ Footprint.dropContext
def Footprint.drivePilot : List Nat := [Obj.pilotDutyApplied.id, Obj.pilotState.id]
def Footprint.refreshAvail : List Nat := [Obj.unavailCauses.id, Obj.available.id] ++ Footprint.drivePilot
def Footprint.refreshAll : List Nat := Footprint.refreshAvail
def Footprint.setOutlet : List Nat := [Obj.outletState.id, Reg.outletSince.id, Reg.outletSinceFrame.id] ++
  Footprint.drivePilot
def Footprint.applyRamp : List Nat := [Reg.preVoltage.id]
def Footprint.startRamp : List Nat := [Reg.rampFrom.id, Reg.rampTo.id, Reg.rampStart.id, Reg.rampFrames.id] ++
  Footprint.applyRamp
def Footprint.setRamp : List Nat := [Reg.rampFrom.id, Reg.rampTo.id, Reg.rampFrames.id] ++ Footprint.applyRamp
def Footprint.commandContactors : List Nat := [Reg.coilsAt.id] ++ Footprint.commandCoils
def Footprint.releaseBlocks : List Nat := [Reg.blockReleased.id] ++ Footprint.stopBlock
def Footprint.closeLink : List Nat := [Reg.tcpOpen.id, Reg.slacRun.id, Reg.vehicleKnown.id, Reg.certificateAt.id]
def Footprint.toClosing : List Nat := [Reg.weldHalf.id, Reg.weldWaiting.id, Reg.weldSkip.id, Reg.stopForced.id,
  Reg.stopStep.id] ++ Footprint.endContext ++ Footprint.takeBoth ++ Footprint.closeLink ++ Footprint.setOutlet
def Footprint.recordCause : List Nat := [Obj.lastEndCause.id, Reg.causeFrame.id, Reg.causeRank.id, Obj.ctxEndCause.id]
def Footprint.closeEarly : List Nat := [Reg.stopKind.id, Reg.stopFrame.id] ++ Footprint.recordCause ++
  Footprint.toClosing ++ Footprint.releaseBlocks
def Footprint.toWeldCheck : List Nat := [Reg.setNext.id, Reg.stopStep.id, Reg.stopAt.id] ++ Footprint.endContext ++
  Footprint.setOutlet ++ Footprint.setRamp
def Footprint.normalStop : List Nat := [Reg.stopKind.id, Reg.stopFrame.id, Reg.vehicleStopped.id, Reg.stopStep.id,
  Reg.stopAt.id] ++ Footprint.closeEarly ++ Footprint.recordCause ++ Footprint.endContext ++ Footprint.setOutlet ++
  Footprint.toWeldCheck
def Footprint.openContactors : List Nat := [Reg.outletLoadOpenings.id, Reg.stopStep.id, Reg.stopAt.id] ++
  Footprint.takeStop ++ Footprint.commandContactors
def Footprint.emergencyStop : List Nat := [Reg.stopKind.id, Reg.stopFrame.id, Reg.stopAt.id] ++
  Footprint.closeEarly ++ Footprint.recordCause ++ Footprint.endContext ++ Footprint.stopBlock ++
  Footprint.setOutlet ++ Footprint.openContactors
def Footprint.hardwareStop : List Nat := [Reg.stopKind.id, Reg.stopFrame.id, Reg.stopAt.id, Reg.outletLoadOpenings.id,
  Reg.stopStep.id] ++ Footprint.closeEarly ++ Footprint.recordCause ++ Footprint.endContext ++ Footprint.stopBlock ++
  Footprint.setOutlet ++ Footprint.takeStop ++ Footprint.commandContactors
def Footprint.weldLeft : List Nat := [Obj.weldOutstanding.id, Reg.weldSkip.id] ++ Footprint.refreshAvail
def Footprint.outletFault : List Nat := Footprint.closeEarly ++ Footprint.recordCause ++ Footprint.normalStop ++
  Footprint.emergencyStop ++ Footprint.hardwareStop ++ Footprint.setOutlet ++ Footprint.openContactors ++
  Footprint.weldLeft
def Footprint.tryIdle : List Nat := [Obj.boundContext.id, Obj.protocolInUse.id, Obj.outOfService.id,
  Reg.serviceDue.id, Reg.stopKind.id, Reg.stopStep.id] ++ Footprint.setOutlet ++ Footprint.refreshAvail
def Footprint.tryConnect : List Nat := [Reg.stopKind.id, Obj.lastEndCause.id, Reg.vehicleKnown.id, Reg.imdWarned.id,
  Reg.checkStep.id] ++ Footprint.setOutlet
def Footprint.outletFrame : List Nat := [Reg.lowCurrentRun.id, Reg.preCurrentRun.id, Reg.preChargeRun.id,
  Reg.evOverRun.id, Reg.checkReadAt.id, Reg.weldRun.id, Reg.weldHigh.id] ++ Footprint.applyRamp
def Footprint.sendLease : List Nat := [Reg.leaseSeq.id]
def Footprint.setRole : List Nat := [Obj.role.id, Obj.timeOfLastRoleChange.id]
def Footprint.channelsOff : List Nat := [Obj.lsState.id]
def Footprint.channelsFollow : List Nat := Footprint.tryTurnOn
def Footprint.unpair : List Nat := [Reg.paired.id, Obj.partnerRole.id, Reg.ungrantedRun.id, Obj.partnerFit.id]
def Footprint.fence : List Nat := [Reg.ownActive.id, Obj.safeOutputStates.id, Reg.fencedAt.id, Reg.fenceDue.id,
  Reg.handoverFrame.id, Reg.paired.id, Reg.ungrantedRun.id] ++ Footprint.channelsOff ++ Footprint.setRole
def Footprint.takeToken : List Nat := [Reg.ownActive.id, Obj.takeovers.id, Obj.lastCause.id, Reg.activeSince.id,
  Obj.injectionState.id, Obj.captureState.id, Reg.heldLogged.id, Reg.paired.id, Reg.acceptFrame.id,
  Obj.partnerRole.id] ++ Footprint.setRole ++ Footprint.channelsFollow
def Footprint.handOverOr : List Nat := [Reg.handoverDue.id]
def Footprint.healthItem : List Nat := [Reg.itemLast.id, Reg.itemCount.id, Reg.itemElement.id, Reg.itemTime.id]
def Footprint.injectionStep : List Nat := [Reg.injectionCount.id, Reg.injectionPhase.id, Reg.prbsState.id]
def Footprint.captureSample : List Nat := [Obj.samplesTaken.id] ++ Footprint.poolWrite
def Footprint.evaluateSlot : List Nat := [Reg.slotReal.id, Obj.slotFlags.id, Reg.slotLast.id, Reg.slotFirst.id,
  Reg.slotPresetDue.id, Reg.slotClearDue.id, Reg.dutyRaw.id] ++ Footprint.injectionStep ++ Footprint.captureSample
def Footprint.issueSlot : List Nat := [Reg.lastMismatch.id, Obj.slotFlags.id, Obj.slotMismatches.id,
  Obj.correctedMismatches.id] ++ Footprint.evaluateSlot
def Footprint.judgeMismatches : List Nat := [Reg.secondMismatchAt.id, Obj.framesWithASecondMismatch.id,
  Reg.secondMismatchRun.id, Reg.allOffNext.id, Reg.handoverDue.id, Reg.startRefused.id] ++ Footprint.stopBlock
def Footprint.judgeShorts : List Nat := Footprint.lockPhase
def Footprint.rampOn : List Nat := [Reg.ramp.id] ++ Footprint.movePhases ++ Footprint.setBlock ++ Footprint.presetSlot
def Footprint.joinRuns : List Nat := [Reg.mvStep.id, Reg.mvO.id, Reg.nearRun.id]
def Footprint.endShedding : List Nat := [Reg.shedHold.id] ++ Footprint.setPhase ++ Footprint.presetSlot
def Footprint.judgeShedding : List Nat := [Reg.referenceBefore.id] ++ Footprint.endShedding
def Footprint.pilotFault : List Nat := Footprint.outletFault
def Footprint.pilotTo : List Nat := [Obj.pilotState.id] ++ Footprint.tryIdle ++ Footprint.outletFault ++
  Footprint.pilotFault ++ Footprint.normalStop ++ Footprint.tryConnect
def Footprint.takePilot : List Nat := [Obj.pilotPositive.id, Obj.pilotNegative.id, Reg.diodeFault.id] ++
  Footprint.pilotFault ++ Footprint.pilotTo
def Footprint.takeProximity : List Nat := [Obj.proximityResistance.id, Reg.proximityState.id] ++ Footprint.tryIdle ++
  Footprint.outletFault ++ Footprint.tryConnect
def Footprint.takeHvil : List Nat := [Obj.hvilResistance.id, Reg.hvilState.id] ++ Footprint.outletFault
def Footprint.feedbackFault : List Nat := [Obj.contactorFeedback.id, Reg.contactorFault.id] ++
  Footprint.refreshAvail ++ Footprint.outletFault
def Footprint.feedbackAgrees : List Nat := [Obj.contactorFeedback.id, Reg.contactorFault.id] ++ Footprint.refreshAvail
def Footprint.arbitrate : List Nat := [Obj.slacMeanAttenuation.id, Reg.slacRun.id]
def Footprint.authoriseOutlet : List Nat := [Obj.ctxAuthorisation.id, Reg.ctxAuthorised.id] ++ Footprint.setOutlet
def Footprint.refuseSession : List Nat := Footprint.closeEarly
def Footprint.bindContext : List Nat := [Obj.ctxClass.id, Obj.ctxIdentityKind.id, Obj.ctxIdentity.id,
  Obj.ctxEnergyNeed.id, Obj.ctxDeparture.id, Obj.ctxTariff.id, Reg.recordFlags.id, Reg.ctxEvccid.id, Reg.ctxAt.id,
  Obj.boundContext.id, Reg.ctxOpen.id, Obj.stopTime.id, Obj.regSetFlags.id, Obj.ctxAuthorisation.id,
  Reg.authorisationAt.id] ++ Footprint.takeSerial ++ Footprint.setContext ++ Footprint.authoriseOutlet
def Footprint.identified : List Nat := [Obj.evccid.id, Reg.vehicleKnown.id, Reg.usesContract.id] ++
  Footprint.refuseSession ++ Footprint.bindContext
def Footprint.contextWritten : List Nat := [Reg.recordFlags.id]
def Footprint.imdSend : List Nat := [Reg.imdSequence.id, Reg.imdSentAt.id]
def Footprint.tryCloseContactors : List Nat := Footprint.commandContactors
def Footprint.cableCheckFails : List Nat := [Reg.stopKind.id, Reg.stopFrame.id, Reg.vehicleStopped.id] ++
  Footprint.closeEarly ++ Footprint.recordCause ++ Footprint.toWeldCheck
def Footprint.judgeInsulation : List Nat := [Reg.imdWarned.id, Reg.checkStep.id, Reg.preTarget.id,
  Reg.preChargeRun.id, Reg.preCurrentRun.id] ++ Footprint.cableCheckFails ++ Footprint.setOutlet ++
  Footprint.emergencyStop
def Footprint.imdSilence : List Nat := [Reg.imdSilent.id] ++ Footprint.cableCheckFails ++ Footprint.outletFault
def Footprint.takeImd : List Nat := [Reg.imdStatus.id, Reg.imdAt.id, Obj.insulationResistance.id, Reg.imdSilent.id,
  Reg.checkStep.id, Reg.checkStepAt.id] ++ Footprint.imdSilence ++ Footprint.tryCloseContactors ++
  Footprint.judgeInsulation
def Footprint.currentDemand : List Nat := [Obj.evTargetVoltage.id, Obj.evTargetCurrent.id, Obj.evMaximumVoltage.id,
  Obj.evMaximumCurrent.id, Obj.stateOfCharge.id, Obj.evErrorCode.id, Reg.demandAt.id, Reg.voltageLimit.id] ++
  Footprint.outletFault
def Footprint.vehicleStop : List Nat := [Reg.vehicleStopped.id] ++ Footprint.toWeldCheck ++ Footprint.normalStop
def Footprint.currentGone : List Nat := [Reg.stopStep.id, Reg.stopAt.id] ++ Footprint.toWeldCheck
def Footprint.stopOverdue : List Nat := Footprint.toWeldCheck
def Footprint.beginWeldHalf : List Nat := [Reg.weldHalf.id, Reg.weldRun.id, Reg.weldHigh.id] ++ Footprint.setRamp ++
  Footprint.commandContactors
def Footprint.tryWeldTest : List Nat := [Reg.weldWaiting.id, Reg.weldFailed.id] ++ Footprint.beginWeldHalf
def Footprint.weldTick : List Nat := [Reg.weldWaiting.id] ++ Footprint.tryWeldTest ++ Footprint.releaseBlocks ++
  Footprint.toClosing ++ Footprint.weldLeft
def Footprint.weldAgain : List Nat := [Reg.weldWaiting.id]
def Footprint.endWeldTest : List Nat := [Reg.weldHalf.id, Obj.weldResult.id, Obj.weldOutstanding.id] ++
  Footprint.setRamp ++ Footprint.commandContactors ++ Footprint.refreshAvail ++ Footprint.releaseBlocks ++
  Footprint.toClosing
def Footprint.vehicleRequest : List Nat := [Obj.evMaximumVoltage.id, Obj.evMaximumCurrent.id, Obj.evTargetVoltage.id,
  Obj.stateOfCharge.id, Reg.tcpOpen.id] ++ Footprint.vehicleStop ++ Footprint.normalStop
def Footprint.settleTelemetry : List Nat := [Reg.linkMisses.id, Reg.tmSubstituted.id, Obj.lateTelemetry.id,
  Obj.lateOrMissingTelemetry.id]
def Footprint.settleLane : List Nat := [Reg.laneCrcRun.id, Reg.laneCrcGood.id, Reg.laneCopyFailed.id] ++
  Footprint.laneOut ++ Footprint.laneBack
def Footprint.judgeLatch : List Nat := Footprint.refreshAvail ++ Footprint.outletFault ++ Footprint.setLatch
def Footprint.countFault : List Nat := [Reg.faultFrames.id, Reg.turnedOn.id, Obj.faultCount.id,
  Obj.lastFaultStatus.id] ++ Footprint.lockPhase
def Footprint.judgeFault : List Nat := [Reg.tmStatusBefore.id, Reg.retryAt.id] ++ Footprint.setPhase ++
  Footprint.countFault
def Footprint.countPhase : List Nat := [Reg.openCount.id, Reg.stuckBits.id, Reg.stuckCount.id, Reg.stuckDuties.id,
  Reg.rangeCount.id, Reg.deviations.id]
def Footprint.countMismatch : List Nat := [Reg.mismatchCount.id]
def Footprint.rejectPhase : List Nat := [Obj.blockState.id] ++ Footprint.blockOut ++ Footprint.lockPhase
def Footprint.reactPhase : List Nat := Footprint.rejectPhase
def Footprint.reactMismatch : List Nat := [Reg.mismatchCount.id, Obj.blockState.id] ++ Footprint.rejectPhase
def Footprint.detect : List Nat := [Reg.phasesMeasured.id] ++ Footprint.countMismatch ++ Footprint.countPhase ++
  Footprint.reactMismatch ++ Footprint.reactPhase
def Footprint.takeTest : List Nat := [Reg.testLargest.id, Reg.testOver.id]
def Footprint.countIdle : List Nat := [Reg.idleJudged.id, Reg.idleFrames.id]
def Footprint.peakDvdt : List Nat := [Reg.trimPeakOn.id, Reg.trimPeakOff.id]
def Footprint.judgeContactors : List Nat := Footprint.withholdBlock
def Footprint.countBlock : List Nat := [Reg.lowOut.id, Reg.nearRun.id, Reg.shedHold.id]
def Footprint.judgeCabinet : List Nat := Footprint.countIdle ++ Footprint.peakDvdt ++ Footprint.judgeFault ++
  Footprint.countBlock ++ Footprint.judgeContactors ++ Footprint.detect ++ Footprint.takeTest
def Footprint.telemetryDeadline : List Nat := [Reg.deadlinePassed.id] ++ Footprint.settleLane ++
  Footprint.settleTelemetry ++ Footprint.judgeCabinet ++ Footprint.judgeLatch ++ Footprint.outletFrame
def Footprint.lowerScale : List Nat := [Reg.kLoss.id]
def Footprint.scaleSite : List Nat := [Obj.importEstimate.id, Obj.scalingCount.id] ++ Footprint.lowerScale
def Footprint.scaleFeeder : List Nat := [Obj.feederImport.id] ++ Footprint.lowerScale
def Footprint.scaleCabinet : List Nat := [Obj.cabinetInputPower.id] ++ Footprint.lowerScale
def Footprint.setTarget : List Nat := [Obj.maxCurrentSent.id, Reg.target.id, Obj.currentTarget.id, Reg.fastTarget.id,
  Obj.bindingTerm.id]
def Footprint.putShare : List Nat := [Reg.share.id, Obj.blockShare.id]
def Footprint.setShares : List Nat := Footprint.putShare
def Footprint.unbind : List Nat := [Obj.allocState.id, Reg.blockReleased.id] ++ Footprint.openReaches ++
  Footprint.freeBlock
def Footprint.startFor : List Nat := [Reg.mvKind.id, Reg.mvStep.id, Reg.mvTarget.id, Reg.mvSource.id, Reg.mvM.id,
  Reg.setNext.id, Reg.preVoltage.id, Obj.allocState.id] ++ Footprint.startBlock
def Footprint.bindStarted : List Nat := [Reg.preVoltage.id, Obj.boundOutlet.id, Obj.allocState.id] ++
  Footprint.freeBlock ++ Footprint.abandonMove ++ Footprint.stopBlock ++ Footprint.endMove ++ Footprint.commandReach
def Footprint.settleDelivering : List Nat := [Obj.allocState.id, Reg.setNext.id]
def Footprint.startMove : List Nat := [Reg.mvKind.id, Reg.mvStep.id, Reg.mvSource.id, Reg.mvTarget.id, Reg.mvM.id,
  Reg.mvS0.id, Obj.allocState.id, Reg.mvQueued.id]
def Footprint.resettle : List Nat := [Obj.allocState.id] ++ Footprint.abandonMove
def Footprint.dropMove : List Nat := Footprint.freeBlock ++ Footprint.abandonMove ++ Footprint.stopBlock
def Footprint.stepPreCharge : List Nat := [Reg.preVoltage.id, Reg.mvO.id]
def Footprint.judgeMove : List Nat := [Reg.blockReleased.id] ++ Footprint.freeBlock ++ Footprint.completeMove ++
  Footprint.resettle ++ Footprint.abandonMove ++ Footprint.dropMove
def Footprint.takeBlock : List Nat := [Reg.mvNext.id, Reg.mvNextTo.id]
def Footprint.takeBlocks : List Nat := Footprint.takeBlock
def Footprint.bindBlocks : List Nat := [Reg.mvNext.id, Reg.mvNextTo.id] ++ Footprint.takeBlocks
def Footprint.allocationPass : List Nat := [Obj.availableDCPowerC.id, Obj.measuredAuxiliaryLoad.id, Reg.nextPower.id,
  Reg.nextCurrent.id, Reg.allocRunning.id] ++ Footprint.bindBlocks
def Footprint.beginAllocation : List Nat := [Obj.allocationPassOverruns.id] ++ Footprint.allocationPass
def Footprint.takeAllocation : List Nat := [Obj.allocatedPower.id, Obj.allocatedCurrent.id, Reg.kLoss.id,
  Reg.allocReady.id, Reg.mvNext.id, Reg.mvQueued.id, Reg.mvQueuedTo.id] ++ Footprint.startFor
def Footprint.sumDc : List Nat := [Reg.pdcSum.id, Reg.pdcFrames.id]
def Footprint.judgeShadow : List Nat := [Reg.shadowLogged.id] ++ Footprint.stopAllBlocks
def Footprint.judgeCapacity : List Nat := [Reg.noCapacityAt.id]
def Footprint.fastPass : List Nat := [Obj.effectiveSiteLimit.id, Obj.siteScaleFactor.id, Obj.boundBlocks.id,
  Reg.fastPassRun.id] ++ Footprint.takeAllocation ++ Footprint.sumDc ++ Footprint.judgeMove ++
  Footprint.settleDelivering ++ Footprint.bindStarted ++ Footprint.stepPreCharge ++ Footprint.unbind ++
  Footprint.scaleSite ++ Footprint.scaleFeeder ++ Footprint.scaleCabinet ++ Footprint.setTarget ++
  Footprint.setShares ++ Footprint.tryCloseContactors ++ Footprint.judgeCapacity ++ Footprint.judgeShadow
def Footprint.withholdFeeder : List Nat := [Reg.mainsAt.id, Obj.allocState.id, Obj.withholdCause.id,
  Reg.blockReleased.id] ++ Footprint.abandonMove ++ Footprint.stopBlock
def Footprint.setMpl : List Nat := [Obj.mplState.id]
def Footprint.abandonFrames : List Nat := [Obj.osOutcome.id, Reg.mplAwait.id, Reg.mplMissed.id, Reg.mplWait.id]
def Footprint.eraseHalf : List Nat := [Reg.mplErased.id, Obj.erasedHalfCycles.id]
def Footprint.countSilence : List Nat := [Reg.mplSilent.id] ++ Footprint.setMpl
def Footprint.lostHalf : List Nat := [Reg.mplRun.id, Reg.mplZ.id, Reg.mplLocked.id] ++ Footprint.eraseHalf ++
  Footprint.countSilence ++ Footprint.setMpl ++ Footprint.abandonFrames
def Footprint.takeCrossing : List Nat := [Reg.mplRising.id, Reg.mplLocked.id, Reg.mplSilent.id, Reg.mplPeriod.id,
  Reg.mplZ.id, Reg.mplErased.id, Obj.lastCrossingDeviation.id, Reg.mplRun.id] ++ Footprint.setMpl ++
  Footprint.countSilence ++ Footprint.lostHalf
def Footprint.suspendLink : List Nat := [Reg.mplLocked.id, Reg.mplRun.id] ++ Footprint.setMpl ++ Footprint.abandonFrames
def Footprint.resumeLink : List Nat := Footprint.setMpl
def Footprint.nextSeq : List Nat := [Reg.osTxSeq.id]
def Footprint.queueFrame : List Nat := [Reg.mplQueue.id] ++ Footprint.nextSeq
def Footprint.osAbsent : List Nat := [Obj.osState.id, Obj.absentOutstations.id]
def Footprint.giveUp : List Nat := [Reg.mplAwait.id, Reg.mplMissed.id, Obj.osAbandoned.id, Obj.osOutcome.id,
  Reg.osEstimating.id, Reg.osEstimatedAt.id] ++ Footprint.osAbsent
def Footprint.commandOs : List Nat := [Reg.mplQueue.id, Obj.osCommand.id, Obj.osOutcome.id] ++ Footprint.queueFrame
def Footprint.bodyFails : List Nat := [Reg.osBodyFailed.id, Reg.osDue.id]
def Footprint.osAnswers : List Nat := [Obj.osLastAnswer.id, Reg.osBodyFailed.id, Obj.absentOutstations.id,
  Obj.osState.id, Reg.osDue.id]
def Footprint.settleAwait : List Nat := [Reg.mplAwait.id, Reg.mplMissed.id, Reg.mplWait.id]
def Footprint.queueAck : List Nat := Footprint.queueFrame
def Footprint.hearActive : List Nat := [Reg.osTxSeq.id, Reg.osMapNew.id, Reg.mplAwait.id]
def Footprint.takeFrame : List Nat := [Reg.osRxSeq.id, Reg.osRxAt.id] ++ Footprint.hearActive ++
  Footprint.bodyFails ++ Footprint.osAnswers
def Footprint.installMap : List Nat := [Reg.osMaps.id, Obj.osMap.id, Obj.osMapGeneration.id, Reg.osEstimating.id,
  Reg.osDue.id, Reg.osEstimatedAt.id, Obj.osState.id]
def Footprint.showRunning : List Nat := [Obj.runningDemand.id]
def Footprint.rankDemand : List Nat := [Obj.topDemand.id, Obj.topDemandEnd.id]
def Footprint.judgeDemand : List Nat := [Obj.lastDemand.id, Obj.lastDemandEnd.id, Obj.lastIntervalFlags.id,
  Reg.demandHist.id, Reg.subFlagsHist.id, Reg.subFlags.id] ++ Footprint.rankDemand
def Footprint.restartDemand : List Nat := [Reg.demandHist.id, Reg.subFlagsHist.id, Reg.subFlags.id, Reg.demandFrom.id]
def Footprint.closePeriod : List Nat := [Reg.closedPeriods.id, Obj.topDemand.id, Obj.topDemandEnd.id,
  Obj.dcHighest.id, Obj.dcHighestTime.id, Obj.afExtreme.id, Obj.afExtremeTime.id, Obj.openPeriod.id,
  Reg.periodOpened.id, Reg.periodFlags.id, Obj.configurationInUse.id] ++ Footprint.restartDemand
def Footprint.activateCalendar : List Nat := [Reg.actSeason.id, Reg.actWeek.id, Reg.actDay.id, Reg.actSpecial.id,
  Obj.calendarActivations.id, Reg.activationDue.id]
def Footprint.switchSlot : List Nat := [Obj.slotInForce.id]
def Footprint.storeBoundary : List Nat := [Obj.lastBoundarySequence.id, Reg.boundaryRing.id, Reg.clockAudit.id,
  Obj.clockAuditEntriesUsed.id, Reg.bdKinds.id, Reg.bdCause.id, Reg.bdStep.id, Reg.bdSkipped.id,
  Reg.bdSkippedClosings.id, Reg.bdCommitted.id, Reg.bdClosing.id]
def Footprint.applyBoundary : List Nat := [Reg.subFlags.id, Reg.demandFrom.id, Reg.lastClosing.id, Reg.periodFlags.id,
  Obj.dstInForce.id] ++ Footprint.judgeDemand ++ Footprint.closePeriod ++ Footprint.activateCalendar ++
  Footprint.switchSlot ++ Footprint.storeBoundary
def Footprint.joinBoundary : List Nat := [Reg.bdKinds.id, Reg.bdInstant.id] ++ Footprint.applyBoundary
def Footprint.setActivation : List Nat := [Obj.activationInstant.id, Reg.activationDue.id, Reg.activationAt.id]
def Footprint.clockStep : List Nat := [Reg.recordFlags.id, Reg.bdEnd.id, Reg.bdStep.id, Reg.bdSkipped.id,
  Reg.bdKinds.id, Reg.bdCause.id, Reg.bdClosing.id, Reg.bdSkippedClosings.id] ++ Footprint.joinBoundary
def Footprint.derivedEnd : List Nat := [Reg.subFlags.id] ++ Footprint.judgeDemand
def Footprint.derivedEnds : List Nat := [Reg.bdCause.id] ++ Footprint.closePeriod ++ Footprint.derivedEnd
def Footprint.putSlot : List Nat := [Obj.dstInForce.id] ++ Footprint.switchSlot
def Footprint.firstInterval : List Nat := [Reg.periodOpened.id] ++ Footprint.restartDemand ++ Footprint.putSlot
def Footprint.beginDerivation : List Nat := [Reg.bdKinds.id, Reg.bdCause.id, Reg.bdInstant.id, Reg.bdSkippedClosings.id]
def Footprint.deriveClosing : List Nat := [Reg.lastClosing.id] ++ Footprint.closePeriod
def Footprint.skipEnds : List Nat := [Reg.demandHist.id, Reg.subFlagsHist.id, Reg.bdSkipped.id, Reg.subFlags.id,
  Reg.demandFrom.id, Reg.periodFlags.id]
def Footprint.deriveKinds : List Nat := [Reg.bdKinds.id] ++ Footprint.putSlot
def Footprint.deriveBoundaries : List Nat := [Reg.derivationDue.id] ++ Footprint.firstInterval ++
  Footprint.beginDerivation ++ Footprint.derivedEnds ++ Footprint.deriveKinds ++ Footprint.skipEnds ++
  Footprint.deriveClosing ++ Footprint.storeBoundary
def Footprint.publishPlan : List Nat := [Reg.planned.id, Reg.atRisk.id, Obj.plannedPower.id, Obj.contextsAtRisk.id,
  Obj.lastPlanTime.id]
def Footprint.restartChannel : List Nat := [Reg.tcHist.id, Reg.tcFilt.id, Reg.tcElectrical.id, Reg.tcClean.id,
  Reg.tcExit.id, Obj.tcBrokenCause.id, Obj.tcState.id, Obj.tcFiltered.id, Obj.tcRate.id]
def Footprint.takeReading : List Nat := [Reg.tcHist.id, Reg.tcFilt.id, Obj.tcRaw.id, Obj.tcFiltered.id,
  Obj.tcRate.id] ++ Footprint.restartChannel
def Footprint.judgeChannel : List Nat := [Reg.tcClean.id, Reg.tcElectrical.id, Obj.tcBrokenCause.id, Reg.tcStuckAt.id,
  Reg.tcExit.id, Obj.tcState.id]
def Footprint.judgeStop : List Nat := [Obj.thermalStopCauses.id, Obj.cableLimit.id, Obj.connectorLimit.id,
  Reg.outletStopped.id] ++ Footprint.outletFault
def Footprint.connectorStep : List Nat := [Obj.connectorLimit.id, Obj.connectorLimitFrozen.id, Reg.freezeLogged.id,
  Reg.freeCount.id]
def Footprint.stopSessions : List Nat := Footprint.normalStop
def Footprint.judgeDies : List Nat := [Reg.dieStop.id, Reg.dieGood.id] ++ Footprint.handOverOr ++ Footprint.stopSessions
def Footprint.journalOpens : List Nat := [Reg.journalItemsAt.id, Reg.journalItems.id, Reg.shadow.id,
  Obj.batteryDomainShadowInUse.id, Reg.shadowLogged.id, Reg.eventWaiting.id]
def Footprint.judgeWindow (o : Obj) : List Nat := [o.id, Reg.windowGood.id, Reg.windowJudged.id] ++
  Footprint.stopSessions ++ Footprint.journalOpens
def Footprint.judgeWindows : List Nat := Footprint.judgeWindow Obj.journalWritesPermitted ++
  Footprint.judgeWindow Obj.flashWritesPermitted
def Footprint.tempOf : List Nat := [Reg.freeCount.id]
def Footprint.startModel : List Nat := [Reg.cableStarted.id, Reg.cableC.id, Reg.cableK.id, Reg.cableDk.id,
  Reg.cableAt.id]
def Footprint.correctModel : List Nat := [Reg.cableK.id, Reg.cableC.id] ++ Footprint.startModel ++ Footprint.tempOf
def Footprint.showModel : List Nat := [Obj.thetaC.id, Obj.thetaK.id, Obj.coolantRate.id, Obj.predictedTheta.id,
  Obj.cableLimit.id]
def Footprint.modelStep : List Nat := [Obj.modelValid.id, Reg.cableLogged.id, Reg.cableC.id, Reg.cableK.id,
  Reg.cableDk.id, Reg.cableH.id, Reg.cableIcab.id, Reg.cableAt.id] ++ Footprint.showModel ++ Footprint.tempOf
def Footprint.coolInputs : List Nat := [Obj.flowTarget.id, Reg.coolReference.id, Reg.coolMeasurement.id] ++
  Footprint.tempOf
def Footprint.coolOutputs : List Nat := [Obj.pumpCommandApplied.id, Obj.valveCommandApplied.id, Obj.flowUsed.id,
  Reg.freeCount.id]
def Footprint.driveCooling : List Nat := Footprint.commandChannel
def Footprint.coolantCommand : List Nat := [Reg.coolantSeq.id]
def Footprint.unitSilent : List Nat := [Obj.coolantSilent.id, Obj.flowUsed.id] ++ Footprint.holdSlot
def Footprint.takeCabinet : List Nat := [Reg.phaseTempHist.id, Reg.cabTempHist.id]
def Footprint.cabinetStep : List Nat := [Obj.cabinetThermalLimit.id, Obj.highestPhaseTemp.id, Obj.coolantInletTemp.id,
  Reg.cabDerated.id]
def Footprint.thermalRound : List Nat := Footprint.takeReading ++ Footprint.judgeChannel ++ Footprint.judgeWindows ++
  Footprint.judgeDies ++ Footprint.judgeStop ++ Footprint.correctModel ++ Footprint.takeCabinet ++
  Footprint.coolantCommand
def Footprint.thermalTick : List Nat := Footprint.coolInputs ++ Footprint.connectorStep ++ Footprint.modelStep ++
  Footprint.cabinetStep
def Footprint.coolingTick : List Nat := Footprint.driveCooling ++ Footprint.coolOutputs
def Footprint.addSum (o : Obj) : List Nat := [Reg.shadowSum.id, o.id]
def Footprint.addImport : List Nat := [Reg.windowSum.id, Reg.sessionSlot.id] ++ Footprint.addSum Reg.siteTariff ++
  Footprint.addSum Reg.dmTariff ++ Footprint.addSum Reg.dmSum
def Footprint.takeDc : List Nat := [Obj.dcVoltage.id, Obj.dcCurrent.id, Reg.secAcc.id, Obj.dcStatus.id,
  Reg.quietSince.id] ++ Footprint.addImport ++ Footprint.judgeLatch ++ Footprint.addSum Reg.dmSum
def Footprint.takeHp : List Nat := [Reg.hpInput.id, Reg.hpHist.id]
def Footprint.feederEnergy : List Nat := [Reg.windowSum.id] ++ Footprint.addSum Reg.siteTariff ++
  Footprint.addSum Reg.afTariff ++ Footprint.addSum Reg.afSum
def Footprint.feederSums : List Nat := [Reg.afAcc.id, Reg.afCount.id]
def Footprint.judgeSequence : List Nat := [Reg.afReversed.id]
def Footprint.judgeResidual : List Nat := [Reg.afMismatch.id]
def Footprint.endCycle : List Nat := [Reg.afCycleAt.id, Obj.afVoltage.id, Obj.afCurrent.id, Obj.afPhasePower.id,
  Reg.afActive.id, Reg.afPhaseReactive.id, Obj.afActivePower.id, Obj.afReactivePower.id, Reg.afPeriods.id,
  Obj.afFrequency.id, Reg.afLow.id, Reg.afSecAcc.id, Reg.pdcMean.id, Reg.pdcSum.id, Reg.pdcFrames.id, Reg.afAcc.id,
  Reg.afCount.id] ++ Footprint.judgeResidual ++ Footprint.judgeSequence
def Footprint.countGood : List Nat := [Reg.afGood.id]
def Footprint.takePhase : List Nat := [Reg.afCrossAt.id, Reg.afHalfGood.id, Reg.afPeak.id] ++
  Footprint.takeCrossing ++ Footprint.countGood ++ Footprint.endCycle
def Footprint.takeFeeder : List Nat := Footprint.takeHp ++ Footprint.feederSums ++ Footprint.feederEnergy ++
  Footprint.takePhase ++ Footprint.endCycle
def Footprint.countPulses : List Nat := [Reg.pulseAcc.id, Obj.pulseFlags.id, Reg.pulsePeriod.id, Reg.pulseLastDue.id,
  Obj.pulsesOwed.id]
def Footprint.loseMains : List Nat := [Obj.noMains.id, Reg.afGood.id, Reg.afCycleAt.id] ++ Footprint.suspendLink ++
  Footprint.withholdFeeder
def Footprint.keepHighest (o ot : Obj) : List Nat := [o.id, ot.id]
def Footprint.secondOfDc : List Nat := [Obj.dcMeanVoltage.id, Obj.dcMeanCurrent.id, Obj.dcMeanPower.id, Reg.secAcc.id,
  Obj.overloadTime.id, Obj.dcStatus.id] ++ Footprint.keepHighest Obj.dcHighest Obj.dcHighestTime
def Footprint.secondOfFeeder : List Nat := [Obj.afExtreme.id, Obj.afExtremeTime.id, Reg.afSecAcc.id] ++
  Footprint.keepHighest Obj.afExtreme Obj.afExtremeTime
def Footprint.faultChannel : List Nat := [Reg.channelBadAt.id, Reg.channelFault.id, Obj.dcStatus.id,
  Reg.serviceDue.id, Obj.outOfService.id, Obj.regSetFlags.id] ++ Footprint.refreshAvail ++ Footprint.loseMains
def Footprint.theftMean : List Nat := [Reg.theftFraction.id, Reg.theftEntrySum.id, Reg.theftExceeded.id, Reg.theftOpen.id, Obj.theftCharge.id, Reg.theftLog.id,
  Obj.theftLogOverflowCount.id, Obj.theftEntriesInUse.id]
def Footprint.adoptMeters : List Nat := (meterCells.map fun x => x.1.id) ++ [Reg.shadowSum.id]
def Footprint.crossCheck : List Nat := [Obj.lastJudgedWindowEnd.id, Obj.largestDifferenceLastWindow.id,
  Obj.windowsOverLimit.id, Obj.regSetFlags.id] ++ Footprint.healthItem
def Footprint.setSeal : List Nat := [Obj.sealOpen.id, Obj.regSetFlags.id] ++ Footprint.auditEntry
def Footprint.checkPhase : List Nat := [Reg.phasePassed.id] ++ Footprint.setPhase
def Footprint.checkBlock : List Nat := [Reg.blockPassed.id, Obj.refusedBlocks.id, Obj.blockState.id] ++
  Footprint.refreshBlock
def Footprint.checkCab : List Nat := [Reg.cabPassed.id, Obj.refusedCabinets.id] ++ Footprint.checkPhase ++
  Footprint.checkBlock
def Footprint.checkOutlet : List Nat := [Reg.outletPassed.id, Obj.refusedOutlets.id] ++ Footprint.refreshAvail
def Footprint.checkFeeder : List Nat := [Obj.refusedFeeders.id, Reg.feederPassed.id]
def Footprint.judgeTopology : List Nat := [Obj.refusedPhases.id] ++ Footprint.checkCab ++ Footprint.checkOutlet ++
  Footprint.checkFeeder
def Footprint.beginTopology : List Nat := [Obj.topologyResult.id, Reg.magWanted.id]
def Footprint.checkShared : List Nat := Footprint.healthItem
def Footprint.holdSecret : List Nat := [Reg.keyShare.id, Reg.freeCount.id]
def Footprint.remask : List Nat := [Reg.keyShare.id, Reg.freeCount.id]
def Footprint.signWith : List Nat := [Reg.freeCount.id]
def Footprint.wrapWith : List Nat := [Reg.freeCount.id]
def Footprint.writeBlob : List Nat := [Reg.keyBlob.id] ++ Footprint.remask ++ Footprint.wrapWith
def Footprint.rewrapBlobs : List Nat := [Reg.blobGeneration.id, Reg.blobsAt.id] ++ Footprint.writeBlob
def Footprint.readBlob : List Nat := [Reg.keyShare.id]
def Footprint.destroySecret : List Nat := [Reg.keyShare.id, Reg.keyBlob.id]
def Footprint.publishFieldKey : List Nat := [Obj.fmkPublicP256.id, Obj.fmkPublicP384.id, Obj.fmkKeyId.id]
def Footprint.showRecords : List Nat := [Obj.recordCounts.id]
def Footprint.recordEntryOf : List Nat := Footprint.signWith
def Footprint.sealContext : List Nat := [Reg.recordSeq.id, Reg.recordStore.id, Reg.recordImage.id] ++
  Footprint.recordEntryOf ++ Footprint.setContext ++ Footprint.refreshAll ++ Footprint.showRecords
def Footprint.collectRecord : List Nat := [Reg.recordCollected.id, Obj.ctxSerial.id, Obj.ctxAuthorisation.id,
  Reg.ctxAuthorised.id, Obj.regSetOutlet.id] ++ Footprint.setContext ++ Footprint.refreshAll ++ Footprint.showRecords
def Footprint.releaseUpTo : List Nat := [Reg.recordStore.id, Reg.recordImage.id, Reg.recordCollected.id] ++
  Footprint.refreshAll ++ Footprint.showRecords
def Footprint.tamperEntryOf : List Nat := [Reg.tamperLog.id, Reg.tamperCount.id, Obj.tamperLogOverwrites.id]
def Footprint.reportTamper : List Nat := [Reg.tamperReported.id]
def Footprint.showSessions : List Nat := [Obj.openEthernetSessions.id]
def Footprint.endSession : List Nat := Footprint.unbindChannel ++ Footprint.showSessions
def Footprint.endSessions : List Nat := Footprint.endSession
def Footprint.failOpening : List Nat := [Reg.failedOpenings.id, Reg.lockedOut.id]
def Footprint.startTransition : List Nat := [Reg.retireAskedAt.id, Reg.transitionTo.id, Reg.syncGeneration.id,
  Reg.syncSentAt.id]
def Footprint.requestTransition : List Nat := Footprint.hostDefer ++ Footprint.startTransition
def Footprint.wrapCanKeys : List Nat := [Reg.canWrapped.id] ++ Footprint.wrapWith
def Footprint.changeRoots : List Nat := [Reg.freeCount.id] ++ Footprint.holdSecret ++ Footprint.destroySecret
def Footprint.carryOut : List Nat := [Obj.lifeCycleState.id, Obj.timeOfLastTransition.id, Reg.transitionTo.id,
  Reg.serviceLogPublic.id] ++ Footprint.changeRoots ++ Footprint.rewrapBlobs ++ Footprint.wrapCanKeys ++
  Footprint.publishFieldKey ++ Footprint.refreshAll
def Footprint.attest : List Nat := [Reg.attestationSequence.id, Obj.attestationStatement.id] ++ Footprint.signWith
def Footprint.makeSecc : List Nat := [Reg.seccKind.id, Reg.seccPublic.id, Reg.seccWrapped.id,
  Obj.seccCertificateRequest.id, Reg.freeCount.id] ++ Footprint.wrapWith ++ Footprint.writeBlob ++
  Footprint.holdSecret
def Footprint.exportLog : List Nat := Footprint.signWith
def Footprint.resumeKc : List Nat := Footprint.attest ++ Footprint.makeSecc ++ Footprint.exportLog ++
  Footprint.sealContext
def Footprint.setFieldKeyVersion : List Nat := [Obj.fmkVersion.id] ++ Footprint.publishFieldKey
def Footprint.setRoleKey : List Nat := [Obj.metrologyPublicKey.id, Obj.timePublicKey.id, Obj.rolePublicKey.id] ++
  Footprint.endSessions ++ Footprint.auditEntry
def Footprint.setCanKey : List Nat := [Reg.canWrapped.id, Obj.canCounter.id, Reg.canFloor.id] ++
  Footprint.holdSecret ++ Footprint.wrapWith ++ Footprint.writeBlob ++ Footprint.auditEntry
def Footprint.generateSecc : List Nat := Footprint.resumeKc ++ Footprint.hostDefer
def Footprint.selectSlot : List Nat := [Obj.bootSelection.id]
def Footprint.endTrial : List Nat := [Obj.trialState.id] ++ Footprint.selectSlot
def Footprint.rejectTrial : List Nat := Footprint.endTrial
def Footprint.stageCommit : List Nat := [Reg.commitBytes.id, Reg.commitNums.id]
def Footprint.acknowledged : List Nat := [Obj.lastEventAcknowledged.id, Obj.captureState.id]
def Footprint.acknowledge : List Nat := [Reg.pushQueue.id, Reg.pushFirst.id, Reg.pushNext.id, Reg.pushAckDue.id,
  Obj.lastItemAcknowledged.id, Obj.itemsQueued.id] ++ Footprint.acknowledged
def Footprint.postWindow : List Nat := [Obj.boundSession.id, Obj.resends.id, Reg.pushWindows.id, Obj.windowsPosted.id,
  Reg.pushLastWindow.id, Reg.pushIdleSince.id] ++ Footprint.acknowledge
def Footprint.skipDropped : List Nat := [Reg.pushNext.id, Reg.pushLost.id, Reg.pushEndsOpen.id]
def Footprint.endWindow : List Nat := [Reg.pushAckDue.id, Reg.pushEndsOpen.id, Reg.pushWindows.id,
  Obj.windowsPosted.id, Reg.pushFilled.id, Reg.pushWindowAt.id, Reg.pushSegment.id, Reg.pushIdleSince.id]
def Footprint.sendPush : List Nat := [Reg.pushWindowAt.id, Reg.pushLost.id, Obj.lastItemSequenceSent.id,
  Reg.pushFilled.id, Reg.pushSegment.id, Reg.pushOffset.id, Reg.pushNext.id, Reg.pushEndsOpen.id] ++
  Footprint.skipDropped ++ Footprint.endWindow
def Footprint.closeWindow : List Nat := Footprint.endWindow
def Footprint.resendFrom : List Nat := [Reg.pushNext.id, Reg.pushOffset.id, Reg.pushAckDue.id, Reg.pushEndsOpen.id,
  Obj.resends.id] ++ Footprint.closeWindow
def Footprint.startCan : List Nat := [Reg.canOnBus.id]
def Footprint.queueFrameOf : List Nat := [Reg.moFrames.id, Obj.moStatus.id] ++ Footprint.startCan
def Footprint.canIdle : List Nat := [Reg.ttEnterDue.id, Obj.operation.id, Obj.cycleCount.id, Reg.ttWindow.id,
  Obj.framesSent.id] ++ Footprint.startCan
def Footprint.writeMoData : List Nat := [Obj.moData.id] ++ Footprint.queueFrameOf
def Footprint.markDeferred : List Nat := [Obj.moStatus.id, Obj.moPendingId.id]
def Footprint.storeFrame : List Nat := [Obj.moData.id, Obj.moStatus.id, Obj.moTime.id]
def Footprint.frameTaken : List Nat := [Obj.moStatus.id, Reg.moRun.id, Reg.moWatchAt.id, Reg.ttTaken.id]
def Footprint.takeCanFrame : List Nat := [Obj.moStatus.id, Obj.moOverruns.id, Reg.moLastFilled.id] ++
  Footprint.frameTaken ++ Footprint.storeFrame
def Footprint.readMoData : List Nat := [Obj.moStatus.id, Reg.moLastRead.id]
def Footprint.missOf : List Nat := [Obj.moMisses.id, Obj.moStatus.id, Reg.moRun.id, Reg.ttEnterDue.id, Reg.ttCause.id,
  Reg.ttObject.id] ++ Footprint.canIdle
def Footprint.endTtWindow : List Nat := Footprint.missOf
def Footprint.nextBasicCycle : List Nat := [Obj.operation.id, Reg.ttLeaveDue.id, Obj.cycleCount.id, Reg.ttWindow.id,
  Obj.framesSent.id] ++ Footprint.canIdle
def Footprint.judgeErrors : List Nat := [Obj.transmitErrors.id, Reg.canWarned.id, Reg.canPassive.id,
  Obj.controllerState.id]
def Footprint.beginRecovery : List Nat := [Obj.controllerState.id, Reg.busRecoveries.id,
  Obj.recoveriesInTheLast3600S.id]
def Footprint.coilFault : List Nat := Footprint.hardwareStop
def Footprint.latchOff : List Nat := Footprint.coilFault ++ Footprint.latchChannel
def Footprint.hostCommand : List Nat := Footprint.commandChannel
def Footprint.keepRetries : List Nat := [Reg.lsRetries.id, Obj.lsRestarts.id]
def Footprint.restartCooled : List Nat := [Obj.lsState.id] ++ Footprint.enterInrush ++ Footprint.keepRetries
def Footprint.restartShed : List Nat := [Obj.lsCause.id] ++ Footprint.enterInrush
def Footprint.clearChannel : List Nat := [Obj.lsCause.id, Obj.lsState.id] ++ Footprint.keepRetries ++
  Footprint.tryTurnOn ++ Footprint.restartShed
def Footprint.groupMeasured : List Nat := [Obj.groupCurrent.id, Obj.groupFlags.id, Reg.groupShedAt.id, Reg.groupHold.id]
def Footprint.groupOver : List Nat := [Obj.groupFlags.id, Obj.overCurrentEpisodes.id, Reg.groupHold.id, Reg.lsRank.id,
  Reg.lsShedRank.id, Reg.groupShedAt.id] ++ Footprint.latchChannel
def Footprint.supplyFault : List Nat := Footprint.coilFault ++ Footprint.supplyOff
def Footprint.supplyReturn : List Nat := Footprint.supplyBack
def Footprint.groupBack : List Nat := [Obj.groupVoltage.id, Obj.groupFlags.id] ++ Footprint.supplyReturn
def Footprint.offStateTest : List Nat := [Obj.lsOffResult.id, Reg.lsDiagLast.id]
def Footprint.sampleInput : List Nat := [Reg.siSamples.id, Obj.safeInputStates.id, Reg.guardSeen.id]
def Footprint.confirmFault : List Nat := [Obj.inputFaults.id, Reg.siPasses.id, Reg.sfNeedsEdge.id]
def Footprint.countPass : List Nat := [Reg.siPasses.id, Obj.inputFaults.id]
def Footprint.judgeOssd : List Nat := [Reg.ossdAt.id, Reg.ossdSeen.id] ++ Footprint.confirmFault ++ Footprint.countPass
def Footprint.sampleReset : List Nat := [Reg.srstLow.id, Reg.srstHigh.id]
def Footprint.startTest : List Nat := [Reg.brakePhase.id, Reg.brakeAt.id]
def Footprint.abortTest : List Nat := [Reg.brakePhase.id]
def Footprint.groupDisabled : List Nat := [Obj.groupFlags.id] ++ Footprint.supplyOff ++ Footprint.outletFault
def Footprint.groupEnabled : List Nat := [Obj.groupFlags.id] ++ Footprint.supplyReturn
def Footprint.setOutput : List Nat := [Obj.safeOutputStates.id, Reg.soLowRun.id, Reg.brakeGranted.id] ++
  Footprint.groupEnabled ++ Footprint.groupDisabled
def Footprint.setOutputs : List Nat := Footprint.setOutput
def Footprint.startDueTests : List Nat := Footprint.startTest
def Footprint.tripFunction : List Nat := [Obj.functionState.id, Reg.sfEdge.id, Reg.sfClosedRun.id] ++
  Footprint.abortTest
def Footprint.judgeFunction : List Nat := [Obj.functionState.id, Reg.sfEdge.id, Reg.sfClosedRun.id,
  Reg.sfNeedsEdge.id] ++ Footprint.tripFunction
def Footprint.judgeStartUp : List Nat := [Obj.guardInputsOutstanding.id, Reg.startPassed.id]
def Footprint.judgeFunctions : List Nat := Footprint.judgeFunction
def Footprint.outputFault : List Nat := [Obj.outputFaults.id] ++ Footprint.setOutput ++ Footprint.emergencyStop ++
  Footprint.refreshAvail ++ Footprint.commandCoils
def Footprint.judgeReadBack : List Nat := [Obj.readBackAbove18V.id, Reg.soAbove5.id, Reg.soLowRun.id] ++
  Footprint.outputFault
def Footprint.hpStart : List Nat := [Obj.hpState.id]
def Footprint.testPulse : List Nat := [Reg.tpAt.id, Reg.siSuspect.id] ++ Footprint.countPass ++
  Footprint.confirmFault ++ Footprint.setOutputs ++ Footprint.judgeFunctions
def Footprint.enterSafeState : List Nat := [Obj.hpState.id] ++ Footprint.setOutputs ++ Footprint.abortTest
def Footprint.resetHp : List Nat := [Obj.hpState.id, Obj.safeInputStates.id, Obj.inputFaults.id, Reg.startPassed.id,
  Reg.hpCycles.id, Obj.readBackAbove18V.id, Reg.srstLow.id, Reg.srstHigh.id, Reg.soAbove5.id, Obj.functionState.id,
  Reg.sfEdge.id, Reg.sfClosedRun.id, Reg.sfNeedsEdge.id, Reg.guardSeen.id, Reg.siSamples.id, Reg.siSuspect.id,
  Reg.siPasses.id, Reg.soLowRun.id, Reg.ossdAt.id, Reg.ossdSeen.id, Reg.brakeGranted.id, Reg.tpAt.id,
  Obj.outputDemand.id, Obj.guardInputsOutstanding.id] ++ Footprint.abortTest ++ Footprint.setOutputs
def Footprint.endTest : List Nat := [Reg.brakePhase.id, Obj.brakeTestResult.id, Obj.brakeTestTime.id,
  Reg.brakePassed.id, Reg.brakePassedAt.id, Reg.brakeLockout.id, Reg.brakeGranted.id] ++ Footprint.setOutputs
def Footprint.clearOutputFault : List Nat := [Obj.outputFaults.id] ++ Footprint.refreshAvail ++ Footprint.setOutputs
def Footprint.confirmSafety : List Nat := [Reg.siInUse.id, Reg.sfInputsInUse.id, Reg.sfOutputsInUse.id,
  Reg.sfModeInUse.id, Obj.functionState.id, Reg.sfEdge.id, Reg.sfClosedRun.id, Reg.guardSeen.id, Reg.ossdAt.id,
  Reg.siSuspect.id, Reg.siPasses.id, Reg.holdInUse.id, Reg.countInUse.id, Reg.startPassed.id, Obj.inputFaults.id,
  Obj.configurationCRCInUse.id, Obj.pendingConfigurationCRC.id, Obj.guardInputsOutstanding.id] ++
  Footprint.abortTest ++ Footprint.undirty ++ Footprint.setOutputs
def Footprint.demandOutputs : List Nat := [Obj.outputDemand.id] ++ Footprint.setOutputs ++ Footprint.startDueTests
def Footprint.trimArchive : List Nat := [Reg.archiveErases.id, Obj.highestSectorEraseCount.id]
def Footprint.cleanOldest : List Nat := [Obj.headCommitSequence.id] ++ Footprint.trimArchive
def Footprint.makeRoom : List Nat := Footprint.cleanOldest
def Footprint.showFill : List Nat := [Obj.commitRingFill.id, Obj.archiveFill.id, Reg.journalFull.id] ++
  Footprint.journalOpens
def Footprint.journalFills : List Nat := [Reg.journalFull.id] ++ Footprint.stopSessions
def Footprint.beginCommit : List Nat := [Reg.entryStaged.id, Reg.commitBusy.id, Reg.commitFlags.id,
  Reg.metersStaged.id, Reg.journalItems.id, Reg.journalUrgent.id, Reg.warningDue.id] ++ Footprint.makeRoom ++
  Footprint.journalFills
def Footprint.showContexts : List Nat := [Reg.ctxShowDue.id, Reg.ctxShown.id]
def Footprint.commitValid : List Nat := [Reg.commitBusy.id, Reg.entryStaged.id, Obj.headCommitSequence.id,
  Reg.ringAt.id, Obj.ringWraps.id, Reg.commitTimes.id, Reg.warningValid.id, Reg.bdCommitted.id, Reg.syncGeneration.id,
  Reg.ctxShowDue.id, Reg.syncSentAt.id] ++ Footprint.showContexts ++ Footprint.showFill
def Footprint.continueNumbers : List Nat := [Reg.recordSeq.id, Reg.lastSerial.id, Obj.lastBoundarySequence.id,
  Obj.lastEventSequence.id, Obj.openPeriod.id]
def Footprint.recoverContext : List Nat := [Obj.ctxEndCause.id, Obj.regSetFlags.id] ++ Footprint.takeBoth ++
  Footprint.takeStop ++ Footprint.setContext ++ Footprint.dropContext
def Footprint.chooseArea : List Nat := [Obj.configurationGenerationInUse.id]
def Footprint.recordReset : List Nat := [Obj.lastResetCause.id, Obj.wdtSource.id, Obj.timeOfLastReset.id,
  Obj.resetCount.id, Obj.durationOfLastBackup.id]
def Footprint.reportLockstep : List Nat := [Obj.lockstepFaults.id, Reg.lockstepHeld.id]
def Footprint.drainShadow : List Nat := Footprint.journalOpens
def Footprint.retArea : List Nat := [Obj.lsCause.id, Obj.lsState.id]
def Footprint.acceptSwr : List Nat := [Reg.warningDue.id, Reg.swrAt.id]
def Footprint.finishCommit : List Nat := Footprint.commitValid ++ Footprint.beginCommit
def Footprint.openWindow : List Nat := [Reg.dipElapsed.id, Obj.episodeElapsedTime.id, Reg.dipLowest.id,
  Obj.quicksandWindow.id, Reg.dipOpenedAt.id, Reg.dipCommitAt.id, Obj.timeOfLastWarning.id, Reg.dipTarget.id,
  Reg.pausedAt.id, Reg.warningDue.id, Reg.warningValid.id]
def Footprint.showEpisode : List Nat := [Obj.episodeElapsedTime.id]
def Footprint.resumeOutlet : List Nat := [Reg.outletSince.id, Reg.checkAt.id, Reg.checkStepAt.id, Reg.noCapacityAt.id, Reg.rampStart.id,
  Reg.pausedAt.id]
def Footprint.closeDip : List Nat := [Obj.quicksandWindow.id, Reg.dipElapsed.id, Reg.dipClosedAt.id,
  Reg.warningValid.id, Obj.lowestVauxInLastDip.id, Obj.dipsWithoutReset.id] ++ Footprint.showEpisode ++
  Footprint.resumeOutlet
def Footprint.stopNextOutlet : List Nat := [Reg.stopQueue.id, Reg.stopNext.id, Reg.pausedAt.id] ++ Footprint.outletFault
def Footprint.episodePasses : List Nat := [Obj.quicksandWindow.id, Reg.stopQueue.id] ++ Footprint.showEpisode ++
  Footprint.outletFault ++ Footprint.stopNextOutlet
def Footprint.judgeCell : List Nat := [Obj.vbatVoltage.id, Obj.cellState.id, Reg.cellJudged.id]
def Footprint.supplyRound : List Nat := [Reg.supplyRaw.id, Obj.supplyMonitor.id, Obj.supplyVoltage.id,
  Obj.inputFlags.id] ++ Footprint.judgeCell
def Footprint.countIdleTime : List Nat := [Reg.idleSince.id]
def Footprint.returnToRun : List Nat := [Obj.powerState.id, Reg.wakeCause.id, Reg.idleSince.id]
def Footprint.singleError : List Nat := [Obj.correctedErrors.id, Obj.lastErrorAddress.id, Reg.siltCorrected.id] ++
  Footprint.healthItem
def Footprint.leError : List Nat := [Reg.lastMismatch.id, Reg.leErrorFrame.id, Obj.slotMismatches.id,
  Obj.correctedMismatches.id] ++ Footprint.judgeMismatches
def Footprint.nextRegion : List Nat := [Reg.siltAbandonRun.id, Obj.currentRegion.id, Obj.siltPasses.id,
  Obj.lastPassLength.id, Reg.siltPassAt.id, Obj.backgroundInUse.id, Reg.siltFailedBefore.id, Reg.siltFailed.id,
  Reg.siltCorrected.id]
def Footprint.saveRegion : List Nat := [Reg.poisoned.id] ++ Footprint.singleError
def Footprint.marchFailure : List Nat := [Obj.marchFailures.id, Reg.siltFailed.id] ++ Footprint.healthItem ++
  Footprint.handOverOr
def Footprint.keepRecord : List Nat := [Reg.dutyCommanded.id, Reg.lastLength.id, Reg.dutyClamped.id, Reg.lastOff.id,
  Reg.turnedOn.id]
def Footprint.launchCommand : List Nat := [Reg.txLine.id]
def Footprint.dispatch : List Nat := [Reg.commandSeq.id, Reg.contactorWord.id, Reg.dispatchedFrame.id,
  Reg.linkDispatchMisses.id] ++ Footprint.keepRecord ++ Footprint.launchCommand
def Footprint.sendMirror : List Nat := [Reg.mirrorSeq.id]
def Footprint.rampStep : List Nat := [Reg.ramp.id]
def Footprint.fastClass : List Nat := [Reg.unfinished.id] ++ Footprint.rampStep ++ Footprint.issueSlot ++
  Footprint.judgeShedding ++ Footprint.judgeMismatches
def Footprint.startInjection : List Nat := [Obj.injectionState.id, Reg.injectionSlot.id, Reg.injectionCount.id,
  Reg.injectionPhase.id, Reg.prbsState.id, Reg.captureBelongs.id]
def Footprint.startCapture : List Nat := [Obj.captureState.id, Obj.samplesTaken.id, Reg.captureIn.id,
  Obj.captureStartFrame.id, Reg.captureBelongs.id] ++ Footprint.handBank
def Footprint.settlePhase : List Nat := [Reg.phasePassed.id] ++ Footprint.setPhase
def Footprint.settleLevels : List Nat := [Obj.slotLevel.id]
def Footprint.afterRole : List Nat := [Obj.controllerState.id, Reg.windowBad.id, Reg.mplSilent.id, Reg.mplAttempts.id,
  Reg.mplMissed.id] ++ Footprint.setOutputs ++ Footprint.abortTest ++ Footprint.setMpl
def Footprint.becomeIsolated : List Nat := [Reg.ownActive.id, Reg.paired.id, Reg.resignDue.id, Reg.isolateDue.id,
  Reg.joinPhase.id, Reg.mirrorLocked.id, Reg.mirrorRun.id, Reg.acceptFrame.id, Reg.outOfSync.id, Reg.resyncAt.id] ++
  Footprint.channelsOff ++ Footprint.afterRole ++ Footprint.setRole
def Footprint.becomeStandby : List Nat := [Reg.joinPhase.id, Reg.joinFailedAt.id, Reg.requestAt.id, Reg.resignDue.id,
  Reg.heldLogged.id, Reg.acceptFrame.id, Reg.mirrorLocked.id, Reg.paired.id] ++ Footprint.afterRole ++
  Footprint.setRole
def Footprint.fenceNow : List Nat := Footprint.afterRole ++ Footprint.fence
def Footprint.takeOver : List Nat := Footprint.afterRole ++ Footprint.adoptMeters ++ Footprint.takeToken ++
  Footprint.refreshAll
def Footprint.hearLease : List Nat := [Reg.leaseSeenAt.id, Reg.partnerSeen.id, Obj.partnerRole.id,
  Obj.partnerScore.id, Obj.partnerFit.id, Reg.partnerFlags.id, Reg.partnerLease.id, Obj.partnerLinkState.id]
def Footprint.onLease : List Nat := Footprint.hearLease
def Footprint.noteSync : List Nat := [Reg.outOfSync.id, Reg.resyncAt.id] ++ Footprint.healthItem
def Footprint.becomeActive : List Nat := [Reg.ownActive.id, Reg.activeTryAt.id]
def Footprint.isolateByHost : List Nat := [Reg.resignDue.id]
def Footprint.handOver : List Nat := [Reg.handoverDue.id]
def Footprint.startJoin : List Nat := [Reg.joinPhase.id, Reg.joinAt.id, Reg.joinFailedAt.id, Reg.mirrorRun.id,
  Reg.mirrorLocked.id, Reg.objectsReplaced.id, Obj.partnerLinkState.id]
def Footprint.joinByHost : List Nat := Footprint.startJoin ++ Footprint.becomeIsolated
def Footprint.adoptSlot : List Nat := [Reg.slotReal.id, Obj.slotFlags.id, Reg.dutyRaw.id]
def Footprint.adoptBlock : List Nat := [Obj.blockState.id, Obj.allocState.id, Obj.slotSetInUse.id, Reg.mvKind.id,
  Reg.mvStep.id, Reg.mvM.id, Reg.contactorCommand.id, Obj.boundOutlet.id, Obj.blockShare.id, Reg.preVoltage.id,
  Reg.ramp.id]
def Footprint.adoptOutlet : List Nat := [Obj.outletState.id, Reg.outletLatch.id, Obj.lastEndCause.id,
  Obj.boundContext.id, Reg.checkStep.id, Reg.stopStep.id, Reg.outletSinceFrame.id, Reg.leTarget.id, Reg.leVoltage.id]
def Footprint.adoptChannel : List Nat := [Obj.lsCommand.id, Obj.lsState.id]
def Footprint.adoptFunction : List Nat := [Obj.functionState.id]
def Footprint.adoptMirror : List Nat := [Obj.phaseState.id, Reg.startPassed.id, Obj.linkState.id, Reg.commandSeq.id,
  Obj.frameCounter.id, Obj.moduleTime.id] ++ Footprint.adoptSlot ++ Footprint.adoptBlock ++ Footprint.adoptOutlet ++
  Footprint.adoptChannel ++ Footprint.adoptFunction
def Footprint.takeRecord : List Nat := [Reg.recordStore.id, Reg.recordImage.id, Reg.recordSeq.id] ++
  Footprint.showRecords
def Footprint.takeContext : List Nat := [Obj.ctxState.id, Obj.ctxSerial.id, Reg.ctxAuthorised.id,
  Obj.ctxIdentityKind.id, Obj.ctxIdentity.id, Reg.lastSerial.id]
def Footprint.takeRegSet : List Nat := [Obj.regSetOutlet.id, Obj.regSetFlags.id, Reg.ctxOpen.id, Reg.qualityStart.id,
  Obj.startTime.id, Obj.stopTime.id, Obj.startReg.id, Obj.stopReg.id]
def Footprint.takeBoundary : List Nat := [Reg.boundaryRing.id, Obj.lastBoundarySequence.id, Obj.slotInForce.id]
def Footprint.takeTopology : List Nat := [Obj.topologyResult.id, Obj.refusedCabinets.id, Obj.refusedBlocks.id,
  Obj.refusedOutlets.id, Obj.refusedFeeders.id, Obj.refusedPhases.id, Obj.absentOutstations.id, Reg.cabPassed.id,
  Reg.blockPassed.id, Reg.phasePassed.id, Reg.outletPassed.id, Reg.feederPassed.id]
def Footprint.advanceTime : List Nat := [Obj.moduleTime.id, Reg.elapsed.id, Reg.timeFrac.id, Reg.slewLeft.id,
  Obj.rateTrim.id, Reg.coreCycles.id, Reg.rtcTime.id]
def Footprint.switchSet : List Nat := [Obj.slotSetInUse.id] ++ Footprint.presetSlot
def Footprint.loadLimits : List Nat := [Reg.leTarget.id, Reg.leVoltage.id]
def Footprint.clearFrame : List Nat := [Reg.linkGood.id, Reg.deadlinePassed.id, Reg.granted.id, Reg.grantJudged.id]
def Footprint.missMirror : List Nat := [Obj.mirrorsMissingOrFailed.id, Reg.mirrorRun.id, Reg.mirrorSeen.id,
  Reg.mirrorLocked.id]
def Footprint.watchLink : List Nat := [Obj.partnerLinkState.id]
def Footprint.takeLease : List Nat := [Reg.leaseInUse.id]
def Footprint.pairStart : List Nat := [Reg.handoverDue.id, Reg.handoverFrame.id] ++ Footprint.takeLease ++
  Footprint.watchLink ++ Footprint.missMirror ++ Footprint.fenceNow ++ Footprint.becomeIsolated ++ Footprint.sendLease
def Footprint.nextFrame : List Nat := [Obj.frameCounter.id, Reg.frameLength.id, Reg.frameStartAt.id, Reg.ownLive.id]
def Footprint.trimEdge (peakOf max_ applied : Obj) : List Nat := [peakOf.id, max_.id, applied.id, Reg.trimStuck.id]
def Footprint.trimPhase : List Nat := Footprint.trimEdge Reg.trimPeakOff Obj.dvdtMaxOff Obj.weakOffApplied ++
  Footprint.trimEdge Reg.trimPeakOn Obj.dvdtMaxOn Obj.weakOnApplied
def Footprint.slowClass : List Nat := [Reg.slowUnfinished.id] ++ Footprint.issueSlot ++ Footprint.judgeMismatches
def Footprint.slowOverrun : List Nat := [Obj.slowOverruns.id, Reg.slowUnfinished.id]
def Footprint.lastStage : List Nat := [Obj.startUpStage.id, Reg.stageAt.id]
def Footprint.countHours : List Nat := [Obj.operatingTime.id, Reg.runTime.id, Obj.timeWithAnyDieChannelAbove100C.id,
  Reg.hotTime.id, Reg.roundAt.id]
def Footprint.timeFirstSet : List Nat := Footprint.refreshAll ++ Footprint.deriveBoundaries
def Footprint.selectMaster : List Nat := [Reg.ptpMasters.id, Reg.ptpMaster.id, Obj.masterIdentity.id,
  Reg.goodSyncs.id, Reg.ptpDelay.id]
def Footprint.lockTime : List Nat := [Obj.timeQuality.id, Obj.timeInHoldover.id] ++ Footprint.timeFirstSet
def Footprint.stepMarks : List Nat := [Reg.blobsAt.id, Reg.brakePassedAt.id]
def Footprint.setTime : List Nat := [Reg.recordFlags.id, Reg.slewLeft.id, Obj.moduleTime.id, Obj.timeQuality.id] ++
  Footprint.stepMarks ++ Footprint.clockStep ++ Footprint.timeFirstSet
def Footprint.createContext : List Nat := [Obj.ctxAuthorisation.id] ++ Footprint.setContext ++ Footprint.takeSerial
def Footprint.reachStage : List Nat := [Obj.startUpStage.id, Reg.stageAt.id, Reg.stageLate.id]
def Footprint.readStraps : List Nat := [Obj.strapsRead.id, Obj.backplane.id]
def Footprint.chooseMetrology : List Nat := [Reg.metrologySlot.id, Reg.metrologyPending.id]
def Footprint.showImages : List Nat := [Obj.metrologyFirmwareVersion.id, Obj.metrologyImageCRC32.id,
  Obj.metrologyImageSHA256.id, Obj.firmwareVersionInUse.id]
def Footprint.tellLost : List Nat := [Reg.pulsesLost.id]
def Footprint.startTrim : List Nat := [Obj.weakOnApplied.id, Obj.weakOffApplied.id]
def Footprint.afterRead : List Nat := [Reg.freeCount.id] ++ Footprint.readMoData
def Footprint.readAddress : List Nat := Footprint.afterRead
def Footprint.fieldAction : List Nat := [Obj.dynamicSiteImportLimit.id, Reg.dynamicAt.id, Reg.dynamicExpired.id] ++
  Footprint.setActivation ++ Footprint.demandOutputs ++ Footprint.setFieldKeyVersion ++ Footprint.commandOs ++
  Footprint.writeMoData ++ Footprint.setRoleKey
def Footprint.endResponse : List Nat := [Reg.canRest.id, Reg.canRestAt.id]
def Footprint.termRecord : List Nat := [Reg.termPhaseCmd.id, Reg.termEdges.id, Reg.termCommandError.id,
  Reg.termFault.id]
def Footprint.termAccept : List Nat := [Reg.termDrops.id, Reg.termNow.id, Reg.termFrame.id, Reg.termMissed.id,
  Reg.termLength.id, Reg.termDepth.id, Reg.termIndex.id, Reg.termMode.id, Reg.termCommand.id, Reg.termWord.id] ++
  Footprint.termRecord
def Footprint.termHold : List Nat := [Reg.termMissed.id, Reg.termIndex.id, Reg.termLength.id, Reg.termNow.id,
  Reg.termEdges.id]
def Footprint.termSafeOff : List Nat := [Reg.termMissed.id, Reg.termMode.id, Reg.termSynced.id, Reg.termNow.id,
  Reg.termWord.id, Reg.termPhaseCmd.id, Reg.termEdges.id]
def Footprint.termFaultOff : List Nat := [Reg.termFault.id, Reg.termFaultFrame.id, Reg.termPhaseCmd.id,
  Reg.termEdges.id]
def Footprint.applyField : List Nat := [Reg.ethStaged.id] ++ Footprint.auditEntry
def Footprint.atBoundary : List Nat := Footprint.applyField ++ Footprint.endDiscard ++ Footprint.undirty
def Footprint.flushContext : List Nat := Footprint.applyField ++ Footprint.contextWritten
def Footprint.frameDone : List Nat := [Reg.moFrames.id, Obj.moStatus.id, Obj.moPendingId.id, Reg.moAbortDue.id] ++
  Footprint.atBoundary
def Footprint.attemptFailed : List Nat := [Reg.canOnBus.id] ++ Footprint.frameDone ++ Footprint.canIdle
def Footprint.hpCycle : List Nat := [Reg.hpCycles.id] ++ Footprint.hpStart ++ Footprint.atBoundary ++
  Footprint.judgeOssd ++ Footprint.sampleInput ++ Footprint.sampleReset ++ Footprint.judgeFunctions ++
  Footprint.judgeStartUp ++ Footprint.setOutputs ++ Footprint.startDueTests ++ Footprint.judgeReadBack
def Footprint.setParent : List Nat := [Obj.slotParent.id, Obj.slotRefSource.id, Obj.slotLevel.id] ++
  Footprint.applyField
def Footprint.contextCommand : List Nat := Footprint.hostWrite ++ Footprint.flushContext
def Footprint.execAuthorisationWrite : List Nat := [Obj.ctxAuthorisation.id] ++ Footprint.hostWrite ++
  Footprint.flushContext ++ Footprint.authoriseOutlet ++ Footprint.closeEarly
def Footprint.execAllocatorFastPass : List Nat := Footprint.atBoundary ++ Footprint.fastPass
def Footprint.execMeteringSecond : List Nat := [Reg.secondDone.id, Reg.channelBadAt.id, Reg.overloads.id,
  Reg.secCount.id, Reg.pushDropped.id] ++ Footprint.atBoundary ++ Footprint.secondOfDc ++ Footprint.secondOfFeeder ++
  Footprint.showRunning
def Footprint.execMeteringValuesSync : List Nat := Footprint.adoptMeters
def Footprint.execCanFrameSent : List Nat := [Obj.framesSent.id, Reg.canTec.id, Obj.transmitErrors.id, Obj.moTime.id,
  Reg.canOnBus.id] ++ Footprint.frameDone ++ Footprint.canIdle
def Footprint.execCanAbort : List Nat := Footprint.hostDefer ++ Footprint.frameDone
def Footprint.execCanObjectChange : List Nat := [Obj.moId.id, Obj.moFlags.id, Obj.moMask.id, Obj.moLength.id,
  Obj.moPendingId.id] ++ Footprint.authenticate ++ Footprint.applyField ++ Footprint.markDeferred
def Footprint.execCanBusError : List Nat := [Reg.canTec.id, Obj.receiveErrors.id] ++ Footprint.judgeErrors ++
  Footprint.attemptFailed
def Footprint.execBitTimingApply : List Nat := Footprint.atBoundary
def Footprint.execHpCycle : List Nat := Footprint.hpCycle
def Footprint.execParentSlotWrite : List Nat := Footprint.hostWrite ++ Footprint.setParent
def Footprint.execSyncAckTimeout : List Nat := [Reg.syncSentAt.id, Reg.outOfSync.id, Reg.resyncAt.id] ++
  Footprint.atBoundary ++ Footprint.showContexts ++ Footprint.healthItem
def Footprint.execCreatePending : List Nat := Footprint.contextCommand ++ Footprint.createContext
def Footprint.execCreateReserved : List Nat := Footprint.contextCommand ++ Footprint.createContext
def Footprint.execCancel : List Nat := Footprint.contextCommand ++ Footprint.dropContext
def Footprint.execContextNormalStop : List Nat := Footprint.contextCommand ++ Footprint.normalStop
def Footprint.execContextEmergencyStop : List Nat := Footprint.contextCommand ++ Footprint.emergencyStop
def Footprint.execEyeScanComplete : List Nat := Footprint.eyeScan
def Footprint.execServiceFrame : List Nat := Footprint.receive ++ Footprint.takeService
def Footprint.execServiceResendTimeout : List Nat := [Reg.serviceResendRun.id, Reg.serviceProgressAt.id,
  Obj.serviceResends.id] ++ Footprint.failService ++ Footprint.launchService
def Footprint.execTelemetryFrame : List Nat := Footprint.receive ++ Footprint.takeTelemetry ++ Footprint.crcFailed
def Footprint.execLinkBringUp : List Nat := Footprint.bringUp
def Footprint.execRestartBringUp : List Nat := Footprint.hostWrite ++ Footprint.bringUp ++ Footprint.withdrawCabinet
def Footprint.execCkuDetected : List Nat := [Reg.ckuPresent.id, Reg.linkSteps.id] ++ Footprint.setLink
def Footprint.execAlignComplete : List Nat := [Reg.linkSteps.id] ++ Footprint.setLink
def Footprint.execTrainingFrame : List Nat := Footprint.receive ++ Footprint.takeTraining
def Footprint.execIdentityRead : List Nat := [Reg.linkSteps.id] ++ Footprint.storeIdentity ++ Footprint.setLink ++
  Footprint.refuseLink ++ Footprint.sendInPieces
def Footprint.execConfigurationCrcReturned : List Nat := [Obj.appliedImageCRC.id, Reg.linkCommanded.id,
  Reg.linkSteps.id] ++ Footprint.refuseLink
def Footprint.execBringUpTimeout : List Nat := Footprint.refuseLink ++ Footprint.setLink
def Footprint.execStaleLimitReached : List Nat := Footprint.loseLink
def Footprint.execDispatchDeadline : List Nat := [Obj.dispatchMisses.id, Reg.linkDispatchMisses.id]
def Footprint.execLinkLostKeepAliveEnd : List Nat := [Reg.contactorWord.id] ++ Footprint.freeBlock ++
  Footprint.openReaches
def Footprint.execLinkLostRetry : List Nat := [Reg.firmwareActivating.id] ++ Footprint.bringUp ++ Footprint.setLink
def Footprint.execFirmwareDataWrite : List Nat := [Obj.firmwareWriteOffset.id] ++ Footprint.hostWrite ++
  Footprint.sendInPieces
def Footprint.execActivateTerminalFirmware : List Nat := [Reg.firmwareActivating.id] ++ Footprint.hostWrite ++
  Footprint.sendService
def Footprint.execBlockStartRequest : List Nat := Footprint.startBlock
def Footprint.execBlockStopRequest : List Nat := Footprint.stopBlock
def Footprint.execOutputDischargeWaitEnd : List Nat := Footprint.beginTest
def Footprint.execOutputDischargeTimeout : List Nat := Footprint.refuseStart
def Footprint.execShortedHighSideEvaluation : List Nat := Footprint.judgeShorts ++ Footprint.setBlock ++
  Footprint.refuseStart
def Footprint.execStartDelayEnd : List Nat := [Reg.gateReadyBy.id]
def Footprint.execGateDriveReady : List Nat := Footprint.rampOn
def Footprint.execGateDriveTimeout : List Nat := Footprint.holdBlockSlots ++ Footprint.refuseStart ++ Footprint.setBlock
def Footprint.execRampOnComplete : List Nat := [Reg.ramp.id] ++ Footprint.joinRuns ++ Footprint.setBlock
def Footprint.execRampOffComplete : List Nat := [Reg.ramp.id] ++ Footprint.setBlock ++ Footprint.movePhases
def Footprint.execStopDelayEnd : List Nat := [Reg.startHeld.id] ++ Footprint.holdBlockSlots ++ Footprint.setBlock ++
  Footprint.startBlock
def Footprint.execClearOverVoltageLatch : List Nat := Footprint.hostWrite ++ Footprint.clearLatch
def Footprint.execRetryDelayEnd : List Nat := Footprint.setPhase ++ Footprint.presetSlot
def Footprint.execClearLockout : List Nat := [Obj.lockoutCause.id] ++ Footprint.hostWrite ++ Footprint.recoverBlock ++
  Footprint.setPhase
def Footprint.execPhaseShed : List Nat := [Reg.shedHold.id] ++ Footprint.setPhase
def Footprint.execPilotStateChange : List Nat := Footprint.takePilot
def Footprint.execProximityStateChange : List Nat := Footprint.takeProximity
def Footprint.execHvilStateChange : List Nat := Footprint.takeHvil
def Footprint.execContactorFeedbackFault : List Nat := Footprint.feedbackFault
def Footprint.execClearContactorFault : List Nat := [Reg.contactorFault.id, Obj.weldResult.id,
  Obj.weldOutstanding.id] ++ Footprint.hostWrite ++ Footprint.refreshAvail
def Footprint.execCmSlacParmReq : List Nat := [Reg.slacKey.id, Reg.slacRun.id, Reg.freeCount.id]
def Footprint.execSlacRunArbitration : List Nat := Footprint.arbitrate
def Footprint.execSdpRequest : List Nat := []
def Footprint.execTcpConnection : List Nat := [Reg.tcpOpen.id]
def Footprint.execSupportedAppProtocol : List Nat := [Obj.protocolInUse.id] ++ Footprint.setOutlet ++
  Footprint.closeEarly
def Footprint.execCommunicationLost : List Nat := [Reg.tcpOpen.id, Reg.vehicleStopped.id] ++ Footprint.outletFault
def Footprint.execVehicleIdentified : List Nat := Footprint.identified
def Footprint.execAuthorisationRequest : List Nat := []
def Footprint.execAuthorisationTimeout : List Nat := Footprint.closeEarly
def Footprint.execCertificateRequest : List Nat := [Obj.certificateRequestBody.id, Reg.certificateAt.id]
def Footprint.execCertificateResponseWrite : List Nat := [Obj.certificateResponseBody.id, Reg.certificateAt.id] ++
  Footprint.hostWrite
def Footprint.execCertificateTimeout : List Nat := [Reg.certificateAt.id]
def Footprint.execCableCheckReq : List Nat := [Reg.checkStep.id, Reg.checkAt.id, Reg.checkReadAt.id] ++
  Footprint.imdSend ++ Footprint.setRamp ++ Footprint.setOutlet
def Footprint.execImdStatusFrame : List Nat := Footprint.takeImd
def Footprint.execImdSilent : List Nat := Footprint.imdSilence
def Footprint.execImdKeepAlive : List Nat := Footprint.imdSend
def Footprint.execOutletContactorsClosed : List Nat := [Reg.checkStep.id, Reg.checkStepAt.id] ++
  Footprint.feedbackAgrees ++ Footprint.takeStart ++ Footprint.startRamp
def Footprint.execCableCheckRampEnd : List Nat := [Reg.checkStep.id, Reg.checkStepAt.id] ++ Footprint.imdSend
def Footprint.execCableCheckTimeout : List Nat := Footprint.cableCheckFails
def Footprint.execPreChargeReq : List Nat := [Reg.preChargeRun.id, Reg.preTarget.id, Obj.evTargetVoltage.id] ++
  Footprint.startRamp
def Footprint.execPreChargeCurrentExceeded : List Nat := Footprint.emergencyStop
def Footprint.execPowerDeliveryStart : List Nat := [Reg.demandAt.id, Reg.evOverRun.id, Reg.setNext.id] ++
  Footprint.normalStop ++ Footprint.setOutlet ++ Footprint.setContext
def Footprint.execPreChargeTimeout : List Nat := Footprint.normalStop
def Footprint.execCurrentDemandReq : List Nat := Footprint.currentDemand
def Footprint.execDemandSilenceTimeout : List Nat := Footprint.normalStop
def Footprint.execEvOverVoltage : List Nat := Footprint.emergencyStop
def Footprint.execPowerDeliveryStop : List Nat := Footprint.vehicleStop
def Footprint.execStopCurrentDecayed : List Nat := Footprint.currentGone ++ Footprint.setOutlet ++
  Footprint.openContactors
def Footprint.execStopCurrentTimeout : List Nat := [Reg.stopForced.id] ++ Footprint.currentGone
def Footprint.execOutputDischarged : List Nat := [Reg.stopStep.id] ++ Footprint.openContactors
def Footprint.execVehicleVoltageRemains : List Nat := Footprint.openContactors ++ Footprint.weldLeft
def Footprint.execOutletContactorsOpen : List Nat := [Reg.stopStep.id, Reg.weldWaiting.id] ++
  Footprint.feedbackAgrees ++ Footprint.imdSend ++ Footprint.toClosing ++ Footprint.releaseBlocks ++
  Footprint.tryWeldTest
def Footprint.execWeldTestHalfComplete : List Nat := [Reg.weldFailed.id] ++ Footprint.beginWeldHalf ++
  Footprint.endWeldTest
def Footprint.execEmergencyOpenDelay : List Nat := Footprint.setOutlet ++ Footprint.openContactors
def Footprint.execNoCapacityTimeout : List Nat := Footprint.outletFault
def Footprint.execStopSessionNormal : List Nat := Footprint.hostWrite ++ Footprint.normalStop
def Footprint.execStopSessionEmergency : List Nat := Footprint.hostWrite ++ Footprint.emergencyStop
def Footprint.execVehicleRequest : List Nat := Footprint.vehicleRequest
def Footprint.execTelemetryDeadline : List Nat := Footprint.telemetryDeadline
def Footprint.execMigrationStart : List Nat := Footprint.startMove
def Footprint.execMigrationReachOpen : List Nat := [Reg.mvO.id, Reg.mvStep.id, Reg.setNext.id, Reg.preVoltage.id] ++
  Footprint.openReaches ++ Footprint.putShare
def Footprint.execMigrationWaitEnd : List Nat := [Reg.mvSource.id, Reg.mvStep.id, Reg.mvFrom.id, Reg.nearRun.id,
  Obj.boundOutlet.id] ++ Footprint.withholdBlock ++ Footprint.stopBlock
def Footprint.execMigrationPreChargeDone : List Nat := [Reg.mvC.id, Reg.mvStep.id, Reg.setNext.id, Obj.boundOutlet.id,
  Obj.allocState.id] ++ Footprint.commandReach ++ Footprint.putShare
def Footprint.execMigrationClosedReported : List Nat := [Reg.mvK.id, Reg.mvStep.id]
def Footprint.execMigrationSettled : List Nat := [Obj.allocState.id] ++ Footprint.completeMove
def Footprint.execMigrationOpenTimeout : List Nat := Footprint.resettle
def Footprint.execMigrationPreChargeTimeout : List Nat := Footprint.dropMove
def Footprint.execMigrationCloseTimeout : List Nat := [Reg.mvSource.id] ++ Footprint.withholdBlock
def Footprint.execAllocationPassComplete : List Nat := [Reg.allocRunning.id, Reg.allocReady.id]
def Footprint.execAllocatorFastPassOverrun : List Nat := [Obj.fastPassOverruns.id, Reg.fastPassRun.id]
def Footprint.execFastPassOverrunLimit : List Nat := Footprint.stopAllBlocks
def Footprint.execDynamicLimitWrite : List Nat := [Obj.dynamicSiteImportLimit.id, Reg.dynamicAt.id,
  Reg.dynamicExpired.id] ++ Footprint.hostWrite
def Footprint.execDynamicLimitExpiry : List Nat := [Reg.dynamicExpired.id]
def Footprint.execMainsPresentHoldEnd : List Nat := [Reg.mainsAt.id, Obj.allocState.id, Obj.withholdCause.id] ++
  Footprint.freeBlock
def Footprint.execClearWithhold : List Nat := [Obj.allocState.id, Obj.withholdCause.id] ++ Footprint.hostWrite ++
  Footprint.freeBlock
def Footprint.execCrossingMissing : List Nat := [Reg.mplRising.id] ++ Footprint.lostHalf
def Footprint.execClaimRound : List Nat := [Reg.mplWait.id, Reg.mplMissed.id, Reg.mplQueue.id, Reg.mplAwait.id,
  Reg.mplAttempts.id]
def Footprint.execResponseTimeoutRepeat : List Nat := [Reg.mplAttempts.id, Reg.mplMissed.id, Reg.mplWait.id,
  Reg.freeCount.id] ++ Footprint.giveUp
def Footprint.execPoll : List Nat := [Reg.osPolledAt.id, Obj.osState.id] ++ Footprint.queueFrame
def Footprint.execOutstationCommand : List Nat := Footprint.hostWrite ++ Footprint.commandOs
def Footprint.execStatus : List Nat := [Obj.osInputs.id, Obj.osOutputs.id, Obj.osOutcome.id] ++ Footprint.takeFrame ++
  Footprint.settleAwait
def Footprint.execAlarm : List Nat := [Obj.osInputs.id, Obj.osAlarms.id] ++ Footprint.takeFrame ++ Footprint.queueAck
def Footprint.execAck : List Nat := Footprint.takeFrame ++ Footprint.installMap ++ Footprint.settleAwait
def Footprint.execSound : List Nat := [Reg.osMapNew.id] ++ Footprint.takeFrame ++ Footprint.settleAwait ++
  Footprint.queueFrame
def Footprint.execMap : List Nat := Footprint.takeFrame ++ Footprint.queueAck ++ Footprint.settleAwait ++
  Footprint.installMap
def Footprint.execEstimationDue : List Nat := [Reg.osDue.id, Reg.osEstimating.id, Obj.osState.id] ++
  Footprint.queueFrame
def Footprint.execDemandIntervalEnd : List Nat := [Reg.bdEnd.id] ++ Footprint.joinBoundary
def Footprint.execBillingPeriodClose : List Nat := [Reg.bdCause.id, Reg.bdClosing.id] ++ Footprint.joinBoundary
def Footprint.execClosePeriod : List Nat := [Reg.bdCause.id] ++ Footprint.hostWrite ++ Footprint.joinBoundary
def Footprint.execTariffSlotSwitch : List Nat := Footprint.joinBoundary
def Footprint.execCalendarActivationWrite : List Nat := Footprint.hostWrite ++ Footprint.setActivation
def Footprint.execCalendarActivation : List Nat := Footprint.joinBoundary
def Footprint.execDstChange : List Nat := Footprint.joinBoundary
def Footprint.execBoundaryRecordCommitted : List Nat := [Reg.bdCommitted.id]
def Footprint.execPlanningPass : List Nat := [Reg.planAt.id, Reg.planSecond.id, Reg.planDue.id] ++ Footprint.publishPlan
def Footprint.execPlanningPassTimeout : List Nat := [Reg.planDue.id]
def Footprint.execCoolantStatusFrame : List Nat := [Obj.coolantStatus.id, Reg.coolantFlow.id, Reg.coolantAt.id,
  Obj.coolantSilent.id, Obj.flowUsed.id] ++ Footprint.unitSilent ++ Footprint.releaseSlot ++ Footprint.judgeStop
def Footprint.execCoolantUnitSilent : List Nat := Footprint.unitSilent
def Footprint.execPulseEmit : List Nat := [Obj.pulsesOwed.id, Obj.pulsesEmitted.id, Reg.pulseBusyUntil.id,
  Obj.pulseFlags.id]
def Footprint.execNoMains : List Nat := Footprint.loseMains
def Footprint.execMainsReturned : List Nat := [Obj.noMains.id, Reg.mainsAt.id] ++ Footprint.resumeLink
def Footprint.execChannelFault : List Nat := Footprint.faultChannel
def Footprint.execChannelFaultCleared : List Nat := [Reg.channelFault.id, Obj.dcStatus.id]
def Footprint.execTheftWatchBurst : List Nat := Footprint.theftMean
def Footprint.execClearTheftLog : List Nat := [Reg.theftLog.id, Obj.theftEntriesInUse.id,
  Reg.theftOpen.id] ++ Footprint.hostWrite
def Footprint.execCrossCheckWindowEnd : List Nat := [Reg.windowSum.id, Reg.windowServed.id, Reg.windowBad.id,
  Reg.windowAt.id] ++ Footprint.crossCheck
def Footprint.execSealOpened : List Nat := Footprint.setSeal
def Footprint.execSealClosed : List Nat := Footprint.setSeal
def Footprint.execMetrologyImageData : List Nat := Footprint.hostWrite ++ Footprint.auditEntry
def Footprint.execActivateMetrologyImage : List Nat := [Reg.metrologyPending.id] ++ Footprint.hostWrite ++
  Footprint.auditEntry
def Footprint.execTopologyCheck : List Nat := Footprint.checkShared ++ Footprint.judgeTopology ++
  Footprint.beginTopology
def Footprint.execTopologyCheckComplete : List Nat := [Reg.linkRechecked.id, Reg.topologyDue.id, Reg.topologyFull.id,
  Obj.topologyResult.id, Obj.lastCheckTime.id, Obj.startUpStage.id, Reg.stageAt.id, Reg.stageLate.id] ++
  Footprint.judgeTopology ++ Footprint.recoverBlock ++ Footprint.refreshAll
def Footprint.execRunTopologyCheck : List Nat := [Reg.topologyDue.id, Reg.topologyFull.id, Obj.topologyResult.id] ++
  Footprint.hostWrite ++ Footprint.beginTopology
def Footprint.execRecordSealed : List Nat := Footprint.sealContext
def Footprint.execRecordSelect : List Nat := [Obj.recordSelector.id] ++ Footprint.hostWrite
def Footprint.execCollectRecord : List Nat := Footprint.hostWrite ++ Footprint.collectRecord
def Footprint.execReleaseUpTo : List Nat := Footprint.hostWrite ++ Footprint.releaseUpTo
def Footprint.execTamperInputChange : List Nat := [Obj.tamperInputStates.id, Reg.recordFlags.id] ++
  Footprint.tamperEntryOf
def Footprint.execMagneticCheck : List Nat := [Reg.magWanted.id, Obj.magLastField.id, Obj.magLastTime.id,
  Obj.magLastResult.id, Obj.refusedOutlets.id, Reg.outletPassed.id] ++ Footprint.tamperEntryOf ++
  Footprint.refreshAvail ++ Footprint.checkOutlet
def Footprint.execRunMagneticTest : List Nat := [Reg.magWanted.id] ++ Footprint.hostWrite
def Footprint.execOpen : List Nat := [Reg.nextSession.id, Reg.freeCount.id] ++ Footprint.signWith
def Footprint.execConfirm : List Nat := [Obj.droppedFramesAndDatagrams.id] ++ Footprint.authFailed ++
  Footprint.showSessions ++ Footprint.failOpening ++ Footprint.endSession
def Footprint.execClose : List Nat := Footprint.authenticate ++ Footprint.endSession
def Footprint.execSessionIdleTimeout : List Nat := Footprint.endSessions
def Footprint.execSessionLifetimeEnd : List Nat := Footprint.endSessions
def Footprint.execOpeningLockoutEnd : List Nat := [Reg.lockedOut.id]
def Footprint.execRequestField : List Nat := Footprint.requestTransition
def Footprint.execRequestService : List Nat := Footprint.requestTransition
def Footprint.execRequestRetired : List Nat := Footprint.requestTransition
def Footprint.execRetiredConfirmLapse : List Nat := [Reg.retireAskedAt.id]
def Footprint.execTransitionComplete : List Nat := [Reg.transitionTo.id, Reg.freeCount.id] ++ Footprint.resumeKc ++
  Footprint.carryOut
def Footprint.execFieldMeteringKeyVersion : List Nat := Footprint.hostWrite ++ Footprint.setFieldKeyVersion
def Footprint.execReMask : List Nat := [Reg.remaskAt.id] ++ Footprint.remask
def Footprint.execBlobRewrap : List Nat := Footprint.rewrapBlobs
def Footprint.execRoleKeyWrite : List Nat := Footprint.hostWrite ++ Footprint.setRoleKey
def Footprint.execCanRoleKeyWrite : List Nat := Footprint.hostWrite ++ Footprint.setCanKey
def Footprint.execGenerateSeccKeyP256 : List Nat := Footprint.generateSecc
def Footprint.execGenerateSeccKeyP521 : List Nat := Footprint.generateSecc
def Footprint.execGenerateSeccKeyEd448 : List Nat := Footprint.generateSecc
def Footprint.execAttestationNonce : List Nat := Footprint.resumeKc ++ Footprint.hostDefer
def Footprint.execHealthTestFailed : List Nat := [Obj.healthTestFailures.id, Reg.sourceFails.id, Reg.sourceStartAt.id,
  Obj.randomSourceState.id, Reg.freeCount.id]
def Footprint.execRandomSourceRestart : List Nat := [Obj.randomSourceState.id, Reg.sourceStartAt.id,
  Reg.freeCount.id] ++ Footprint.resumeKc
def Footprint.execImageDataWrite : List Nat := Footprint.hostWrite
def Footprint.execActivateImage : List Nat := [Reg.trialSlot.id, Obj.trialState.id, Reg.trialWdt.id] ++
  Footprint.hostWrite ++ Footprint.selectSlot
def Footprint.execConfirmTrialImage : List Nat := [Obj.trialState.id, Obj.minimumSecurityVersion.id] ++
  Footprint.hostWrite
def Footprint.execCommitConfiguration : List Nat := [Reg.commitRunning.id, Reg.commitAt.id] ++ Footprint.hostDefer ++
  Footprint.stageCommit
def Footprint.execCommitComplete : List Nat := [Reg.commitNums.id, Reg.commitBytes.id, Reg.commitRunning.id,
  Obj.commitCount.id, Obj.timeOfLastCommit.id] ++ Footprint.undirty
def Footprint.execWindowPost : List Nat := Footprint.authenticate ++ Footprint.postWindow
def Footprint.execPushData : List Nat := Footprint.sendPush
def Footprint.execWindowFlush : List Nat := Footprint.closeWindow
def Footprint.execPushResend : List Nat := Footprint.resendFrom
def Footprint.execPushNoWindow : List Nat := [Reg.pushIdleSince.id]
def Footprint.execExportLog : List Nat := Footprint.hostDefer ++ Footprint.resumeKc ++ Footprint.exportLog
def Footprint.execCanDataWrite : List Nat := Footprint.hostWrite ++ Footprint.writeMoData
def Footprint.execCanSendPeriod : List Nat := [Reg.moPeriodAt.id] ++ Footprint.queueFrameOf
def Footprint.execCanFrameReceived : List Nat := [Obj.remoteFramesIgnored.id, Obj.framesReceived.id,
  Obj.receiveErrors.id, Reg.partnerHeartbeat.id, Obj.unmatchedFramesDropped.id, Reg.freeCount.id] ++
  Footprint.takeCanFrame
def Footprint.execDeadlineMiss : List Nat := [Reg.moWatchAt.id] ++ Footprint.missOf
def Footprint.execTtEnter : List Nat := [Reg.ttEnterDue.id, Reg.ttCause.id, Reg.ttObject.id] ++ Footprint.hostDefer ++
  Footprint.canIdle
def Footprint.execTtLeave : List Nat := [Reg.ttLeaveDue.id, Reg.ttEnterDue.id] ++ Footprint.hostDefer
def Footprint.execTtWindowMark : List Nat := [Reg.ttWindow.id, Reg.ttTaken.id, Reg.moFrames.id, Obj.moStatus.id,
  Reg.canOnBus.id] ++ Footprint.endTtWindow ++ Footprint.nextBasicCycle ++ Footprint.startCan
def Footprint.execBusOffRecoveryRequest : List Nat := Footprint.beginRecovery
def Footprint.execBusOffRecovered : List Nat := [Reg.canTec.id, Obj.transmitErrors.id, Obj.receiveErrors.id,
  Reg.canWarned.id, Reg.canPassive.id, Obj.controllerState.id, Obj.cycleCount.id, Reg.ttWindow.id,
  Obj.framesSent.id] ++ Footprint.canIdle
def Footprint.execRestartController : List Nat := [Reg.busRecoveries.id] ++ Footprint.hostWrite ++
  Footprint.beginRecovery
def Footprint.execBusMonitoringExit : List Nat := [Obj.controllerState.id] ++ Footprint.canIdle ++ Footprint.judgeErrors
def Footprint.execLoadSwitchCommand : List Nat := Footprint.hostWrite ++ Footprint.hostCommand
def Footprint.execHardShort : List Nat := [Obj.lsCurrent.id] ++ Footprint.latchOff
def Footprint.execInrushOverCurrent : List Nat := [Obj.lsCurrent.id] ++ Footprint.latchOff
def Footprint.execSteadyOverCurrent : List Nat := [Obj.lsCurrent.id] ++ Footprint.latchOff
def Footprint.execInrushWindowEnd : List Nat := [Obj.lsState.id]
def Footprint.execThermalShutdown : List Nat := [Obj.lsJunction.id, Obj.lsState.id] ++ Footprint.latchOff ++
  Footprint.coilFault
def Footprint.execJunctionCooled : List Nat := [Obj.lsJunction.id] ++ Footprint.restartCooled
def Footprint.execClearLatch : List Nat := Footprint.hostWrite ++ Footprint.clearChannel
def Footprint.execGroupOverCurrent : List Nat := Footprint.groupMeasured ++ Footprint.groupOver
def Footprint.execGroupUndervoltage : List Nat := [Obj.groupVoltage.id, Obj.groupFlags.id]
def Footprint.execShedRestart : List Nat := [Reg.groupRestartAt.id] ++ Footprint.groupMeasured ++ Footprint.restartShed
def Footprint.execCoilTurnOnRelease : List Nat := Footprint.groupMeasured ++ Footprint.restartCooled ++
  Footprint.enterInrush
def Footprint.execGroupOverVoltage : List Nat := [Obj.groupVoltage.id, Obj.groupFlags.id] ++ Footprint.supplyFault
def Footprint.execLossOfGround : List Nat := [Reg.groundLost.id] ++ Footprint.supplyFault
def Footprint.execSupplyFaultReturn : List Nat := [Reg.groundLost.id] ++ Footprint.supplyReturn ++ Footprint.groupBack
def Footprint.execTestPulse : List Nat := Footprint.testPulse
def Footprint.execOffPulse : List Nat := Footprint.healthItem ++ Footprint.outputFault
def Footprint.execHpSafeState : List Nat := Footprint.enterSafeState
def Footprint.execHpWatchdog : List Nat := [Obj.hpWatchdogResets.id] ++ Footprint.resetHp
def Footprint.execStartBrakeTest : List Nat := Footprint.hostWrite ++ Footprint.setOutputs ++ Footprint.startTest
def Footprint.execTestTorqueApplied : List Nat := [Reg.brakePhase.id, Reg.brakeAt.id, Reg.brakeCount.id] ++
  Footprint.hostWrite
def Footprint.execBrakeTestHoldEnd : List Nat := Footprint.endTest
def Footprint.execTorqueConfirmTimeout : List Nat := Footprint.setOutputs ++ Footprint.abortTest
def Footprint.execBrakeTestDue : List Nat := Footprint.setOutputs ++ Footprint.startDueTests
def Footprint.execClearBrakeLockout : List Nat := [Reg.brakeLockout.id] ++ Footprint.hostWrite
def Footprint.execClearOutputFault : List Nat := Footprint.hostWrite ++ Footprint.clearOutputFault
def Footprint.execConfirmConfiguration : List Nat := Footprint.hostWrite ++ Footprint.confirmSafety
def Footprint.execOutputDemand : List Nat := Footprint.hostWrite ++ Footprint.demandOutputs
def Footprint.execJournalCommit : List Nat := Footprint.beginCommit
def Footprint.execBatchHoldEnd : List Nat := Footprint.beginCommit
def Footprint.execProgramVerifyFailed : List Nat := [Reg.badSectors.id, Obj.sectorsOutOfUse.id] ++ Footprint.healthItem
def Footprint.execSoftwareResetQuiet : List Nat := Footprint.hostWrite ++ Footprint.acceptSwr
def Footprint.execSoftwareResetAtOnce : List Nat := Footprint.hostWrite ++ Footprint.acceptSwr
def Footprint.execSupplyWarning : List Nat := [Obj.supplyVoltage.id, Reg.dipLowest.id] ++ Footprint.openWindow
def Footprint.execDipCommitPeriod : List Nat := [Reg.dipCommitAt.id] ++ Footprint.showEpisode
def Footprint.execWindowRecovery : List Nat := [Obj.supplyVoltage.id] ++ Footprint.closeDip
def Footprint.execDipEpisodeLimit : List Nat := Footprint.episodePasses
def Footprint.execStagedSessionStop : List Nat := Footprint.stopNextOutlet
def Footprint.execDipEpisodeEnd : List Nat := [Obj.supplyVoltage.id, Reg.dipElapsed.id, Obj.episodeElapsedTime.id,
  Reg.dipClosedAt.id]
def Footprint.execReverseInput : List Nat := [Obj.inputFlags.id] ++ Footprint.supplyFault
def Footprint.execGateOn : List Nat := [Obj.supplyVoltage.id, Obj.inputFlags.id] ++ Footprint.supplyReturn
def Footprint.execVauxOverVoltage : List Nat := [Obj.supplyVoltage.id, Reg.vauxHigh.id, Obj.inputFlags.id]
def Footprint.execCellInserted : List Nat := [Obj.powerState.id, Obj.vbatVoltage.id, Obj.cellState.id]
def Footprint.execCellReplaced : List Nat := [Obj.chargeDrawnFromCell.id, Reg.chargeSixths.id] ++ Footprint.hostWrite
def Footprint.execEnterIdle : List Nat := [Obj.powerState.id, Reg.wakeCause.id] ++ Footprint.countIdleTime
def Footprint.execWake : List Nat := [Reg.wakeCause.id] ++ Footprint.hostWrite
def Footprint.execPoolSingleBitError : List Nat := Footprint.singleError
def Footprint.execOwnerRegisterWrite : List Nat := [Obj.refusedOwnerWrites.id] ++ Footprint.handBank
def Footprint.execXdGrant : List Nat := [Obj.xdSecondaryAccess.id]
def Footprint.execSiltRegionTest : List Nat := Footprint.saveRegion ++ Footprint.nextRegion ++ Footprint.marchFailure
def Footprint.execSiltTestAbandon : List Nat := [Obj.abandonedRegionTests.id, Reg.siltAbandonRun.id,
  Obj.skippedRegions.id] ++ Footprint.saveRegion ++ Footprint.nextRegion
def Footprint.execCommandDispatch : List Nat := Footprint.dispatch ++ Footprint.sendMirror
def Footprint.execFastClassEvaluation : List Nat := [Obj.fastWindowLast.id, Obj.fastWindowWorst.id,
  Obj.peakInFlight.id] ++ Footprint.fastClass
def Footprint.execMismatchFreePeriodEnd : List Nat := [Reg.startRefused.id]
def Footprint.execFastClassDeadline : List Nat := [Reg.fastOverrunRun.id, Obj.slotFlags.id, Obj.fastOverruns.id,
  Reg.unfinished.id]
def Footprint.execFastClassOverrunLimit : List Nat := Footprint.handOverOr ++ Footprint.stopAllBlocks
def Footprint.execPresetOutput : List Nat := Footprint.hostWrite ++ Footprint.presetSlot
def Footprint.execClearIntegrator : List Nat := [Reg.slotClearDue.id] ++ Footprint.hostWrite
def Footprint.execStartInjection : List Nat := Footprint.hostWrite ++ Footprint.startInjection
def Footprint.execStopInjection : List Nat := Footprint.hostWrite ++ Footprint.endInjection
def Footprint.execInjectionLengthReached : List Nat := Footprint.endInjection
def Footprint.execStartCapture : List Nat := Footprint.hostWrite ++ Footprint.startCapture
def Footprint.execStopCapture : List Nat := Footprint.hostWrite ++ Footprint.endCapture
def Footprint.execCaptureComplete : List Nat := Footprint.endCapture
def Footprint.execRequest : List Nat := [Reg.requestAt.id, Reg.heldLogged.id, Reg.joinPhase.id] ++
  Footprint.onLease ++ Footprint.sendLease ++ Footprint.noteSync
def Footprint.execGrant : List Nat := [Reg.granted.id, Reg.paired.id] ++ Footprint.onLease
def Footprint.execGrantDeadline : List Nat := [Reg.grantJudged.id, Reg.handoverFrame.id, Reg.ungrantedRun.id,
  Obj.framesUngranted.id]
def Footprint.execLeaseExpiry : List Nat := [Obj.partnerLinkState.id] ++ Footprint.fenceNow ++ Footprint.unpair
def Footprint.execTakeover : List Nat := [Reg.partnerActive.id, Reg.heldLogged.id] ++ Footprint.takeOver
def Footprint.execRelease : List Nat := [Reg.acceptFrame.id] ++ Footprint.onLease ++ Footprint.sendLease
def Footprint.execAccept : List Nat := [Reg.fenceDue.id] ++ Footprint.onLease
def Footprint.execRefuse : List Nat := [Reg.handoverFrame.id] ++ Footprint.onLease
def Footprint.execResign : List Nat := Footprint.onLease ++ Footprint.unpair ++ Footprint.sendLease
def Footprint.execResignAck : List Nat := [Reg.isolateDue.id] ++ Footprint.onLease
def Footprint.execBecomeActive : List Nat := Footprint.hostDefer ++ Footprint.becomeActive
def Footprint.execActiveLineSample : List Nat := [Reg.partnerActive.id, Reg.activeTryAt.id, Reg.ownActive.id,
  Reg.joinPhase.id] ++ Footprint.takeOver ++ Footprint.bringUp ++ Footprint.withdrawCabinet
def Footprint.execIsolate : List Nat := Footprint.hostWrite ++ Footprint.isolateByHost
def Footprint.execHandOver : List Nat := Footprint.hostWrite ++ Footprint.handOver
def Footprint.execJoin : List Nat := Footprint.hostWrite ++ Footprint.joinByHost ++ Footprint.startJoin
def Footprint.execJoinFailed : List Nat := [Reg.joinPhase.id, Reg.joinFailedAt.id, Obj.lastCause.id, Reg.mirrorRun.id]
def Footprint.execJoinRetry : List Nat := Footprint.startJoin
def Footprint.execFencedTimeout : List Nat := Footprint.becomeIsolated
def Footprint.execResyncTimeout : List Nat := Footprint.becomeIsolated
def Footprint.execPartnerActiveLineChange : List Nat := [Reg.partnerActive.id, Reg.leaseSeenAt.id,
  Reg.partnerSeen.id] ++ Footprint.setOutputs ++ Footprint.channelsOff ++ Footprint.channelsFollow
def Footprint.execMirrorFrame : List Nat := [Obj.mirrorsMissingOrFailed.id, Reg.mirrorRun.id, Reg.mirrorSeen.id,
  Obj.shadowMismatches.id, Obj.mirrorsReceived.id, Reg.mirrorGap.id, Reg.mirrorFrame.id, Reg.mirrorLocked.id] ++
  Footprint.healthItem ++ Footprint.adoptMirror ++ Footprint.becomeStandby
def Footprint.execHealthReport : List Nat := [Obj.fitScore.id, Obj.itemsListed.id, Obj.itemList.id, Obj.reportTime.id,
  Obj.fitToTakeOver.id] ++ Footprint.healthItem
def Footprint.execHeartbeat : List Nat := [Reg.heartbeatSeq.id]
def Footprint.execDuneDepthWrite : List Nat := [Obj.requestedDuneDepth.id] ++ Footprint.hostWrite
def Footprint.execDuneDepthApplied : List Nat := [Obj.appliedDuneDepth.id]
def Footprint.execSamplingLeadWrite : List Nat := [Obj.samplingLead.id] ++ Footprint.hostWrite
def Footprint.execHousekeepingRound : List Nat := Footprint.supplyRound ++ Footprint.thermalRound ++
  Footprint.offStateTest ++ Footprint.countHours ++ Footprint.weldAgain ++ Footprint.beginAllocation
def Footprint.execPtpAnnounce : List Nat := [Reg.ptpAnnounceAt.id] ++ Footprint.selectMaster
def Footprint.execPtpSync : List Nat := [Reg.ptpDiff.id, Reg.ptpSyncAt.id, Obj.lastPTPOffset.id, Reg.goodSyncs.id,
  Reg.freqTrim.id, Reg.slewLeft.id, Reg.freeCount.id] ++ Footprint.lockTime
def Footprint.execPtpDelayResp : List Nat := [Reg.ptpDelay.id]
def Footprint.execPtpLockLost : List Nat := [Reg.goodSyncs.id, Obj.timeQuality.id, Reg.holdoverAt.id] ++
  Footprint.selectMaster
def Footprint.execHoldoverTimeout : List Nat := [Obj.timeQuality.id]
def Footprint.execModuleTimeWrite : List Nat := Footprint.hostWrite ++ Footprint.setTime
def Footprint.execRtcUpdate : List Nat := [Reg.rtcTime.id, Reg.rtcValid.id, Reg.rtcUpdatedAt.id]
def Footprint.execClockCheck : List Nat := [Obj.crystalDeviationAgainstRTC.id, Reg.clockBad.id, Reg.clockGood.id,
  Reg.clockFault.id] ++ Footprint.handOverOr ++ Footprint.stopAllBlocks
def Footprint.execContextExpiry : List Nat := Footprint.dropContext
def Footprint.execImageVerified : List Nat := [Obj.imageInUse.id, Reg.heldAtStage2.id] ++ Footprint.chooseMetrology ++
  Footprint.reachStage ++ Footprint.rejectTrial ++ Footprint.showImages
def Footprint.execRoleEstablished : List Nat := Footprint.reachStage ++ Footprint.afterRole ++ Footprint.setRole
def Footprint.execStartupStageTimeout : List Nat := [Reg.stageLate.id] ++ Footprint.rejectTrial
def Footprint.execEthernetLinkUp : List Nat := [Obj.ethLinkState.id]
def Footprint.execRead : List Nat := Footprint.authenticate ++ Footprint.afterRead
def Footprint.execAbort : List Nat := Footprint.endResponse
def Footprint.execBlockAck : List Nat := [Reg.canRest.id, Reg.canRestAt.id]
def Footprint.execRequestIncomplete : List Nat := []
def Footprint.execCanTransferTimeout : List Nat := Footprint.endResponse
def Footprint.execTerminalCommandAccept : List Nat := Footprint.termAccept
def Footprint.execTerminalHold : List Nat := Footprint.termHold
def Footprint.execTerminalSafeOff : List Nat := Footprint.termSafeOff
def Footprint.execTerminalPhaseFault : List Nat := Footprint.termFaultOff

/-- The footprint of a command; none for the commands that take an image of many registers back, or that may bring any
waiting write into effect between two effects of their own. -/
def footprint : Instr → Option (List Nat)
  | .frameStart => none
  | .telemetryFrame _ _ _ => some Footprint.execTelemetryFrame
  | .telemetryDeadline => some Footprint.execTelemetryDeadline
  | .staleLimitReached _ => some Footprint.execStaleLimitReached
  | .fastClassEvaluation _ _ _ _ _ => some Footprint.execFastClassEvaluation
  | .mismatchFreePeriodEnd => some Footprint.execMismatchFreePeriodEnd
  | .fastClassDeadline => some Footprint.execFastClassDeadline
  | .fastClassOverrunLimit => some Footprint.execFastClassOverrunLimit
  | .commandDispatch _ => some Footprint.execCommandDispatch
  | .dispatchDeadline _ => some Footprint.execDispatchDeadline
  | .allocatorFastPass => some Footprint.execAllocatorFastPass
  | .allocatorFastPassOverrun => some Footprint.execAllocatorFastPassOverrun
  | .fastPassOverrunLimit => some Footprint.execFastPassOverrunLimit
  | .slowTick _ _ _ => none
  | .housekeepingRound _ _ _ _ => some Footprint.execHousekeepingRound
  | .allocationPassComplete => some Footprint.execAllocationPassComplete
  | .eyeScanComplete _ _ _ => some Footprint.execEyeScanComplete
  | .duneDepthWrite _ _ => some Footprint.execDuneDepthWrite
  | .duneDepthApplied => some Footprint.execDuneDepthApplied
  | .samplingLeadWrite _ _ => some Footprint.execSamplingLeadWrite
  | .ptpSync _ _ _ => some Footprint.execPtpSync
  | .ptpAnnounce _ => some Footprint.execPtpAnnounce
  | .ptpDelayResp _ _ => some Footprint.execPtpDelayResp
  | .ptpLockLost => some Footprint.execPtpLockLost
  | .holdoverTimeout => some Footprint.execHoldoverTimeout
  | .moduleTimeWrite _ _ => some Footprint.execModuleTimeWrite
  | .rtcUpdate => some Footprint.execRtcUpdate
  | .clockCheck _ => some Footprint.execClockCheck
  | .pllLockLost => none
  | .porRelease _ _ _ _ => none
  | .imageVerified => some Footprint.execImageVerified
  | .journalMount _ _ _ _ _ => none
  | .dictionaryAvailable _ => none
  | .roleEstablished => some Footprint.execRoleEstablished
  | .startupStageTimeout => some Footprint.execStartupStageTimeout
  | .topologyCheck => some Footprint.execTopologyCheck
  | .topologyCheckComplete => some Footprint.execTopologyCheckComplete
  | .runTopologyCheck _ => some Footprint.execRunTopologyCheck
  | .linkBringUp _ => some Footprint.execLinkBringUp
  | .restartBringUp _ _ _ => some Footprint.execRestartBringUp
  | .ckuDetected _ => some Footprint.execCkuDetected
  | .trainingFrame _ _ _ _ => some Footprint.execTrainingFrame
  | .alignComplete _ => some Footprint.execAlignComplete
  | .identityRead _ => some Footprint.execIdentityRead
  | .configurationCrcReturned _ => some Footprint.execConfigurationCrcReturned
  | .bringUpTimeout _ => some Footprint.execBringUpTimeout
  | .serviceFrame _ _ _ => some Footprint.execServiceFrame
  | .serviceResendTimeout _ _ => some Footprint.execServiceResendTimeout
  | .linkLostKeepAliveEnd _ => some Footprint.execLinkLostKeepAliveEnd
  | .linkLostRetry _ => some Footprint.execLinkLostRetry
  | .firmwareDataWrite _ _ _ => some Footprint.execFirmwareDataWrite
  | .activateTerminalFirmware _ _ _ => some Footprint.execActivateTerminalFirmware
  | .terminalCommandAccept _ _ _ => some Footprint.execTerminalCommandAccept
  | .terminalHold _ => some Footprint.execTerminalHold
  | .terminalSafeOff _ => some Footprint.execTerminalSafeOff
  | .terminalPhaseFault _ _ => some Footprint.execTerminalPhaseFault
  | .blockStartRequest _ => some Footprint.execBlockStartRequest
  | .blockStopRequest _ => some Footprint.execBlockStopRequest
  | .outputDischargeWaitEnd _ => some Footprint.execOutputDischargeWaitEnd
  | .outputDischargeTimeout _ => some Footprint.execOutputDischargeTimeout
  | .shortedHighSideEvaluation _ => some Footprint.execShortedHighSideEvaluation
  | .startDelayEnd _ => some Footprint.execStartDelayEnd
  | .gateDriveReady _ => some Footprint.execGateDriveReady
  | .gateDriveTimeout _ => some Footprint.execGateDriveTimeout
  | .rampOnComplete _ => some Footprint.execRampOnComplete
  | .rampOffComplete _ => some Footprint.execRampOffComplete
  | .stopDelayEnd _ => some Footprint.execStopDelayEnd
  | .clearOverVoltageLatch _ _ _ => some Footprint.execClearOverVoltageLatch
  | .retryDelayEnd _ => some Footprint.execRetryDelayEnd
  | .clearLockout _ _ _ => some Footprint.execClearLockout
  | .phaseShed _ => some Footprint.execPhaseShed
  | .presetOutput _ _ _ => some Footprint.execPresetOutput
  | .clearIntegrator _ _ _ => some Footprint.execClearIntegrator
  | .parentSlotWrite _ _ _ _ => some Footprint.execParentSlotWrite
  | .startInjection _ => some Footprint.execStartInjection
  | .stopInjection _ => some Footprint.execStopInjection
  | .injectionLengthReached => some Footprint.execInjectionLengthReached
  | .startCapture _ => some Footprint.execStartCapture
  | .stopCapture _ => some Footprint.execStopCapture
  | .captureComplete => some Footprint.execCaptureComplete
  | .planningPass _ => some Footprint.execPlanningPass
  | .planningPassTimeout => some Footprint.execPlanningPassTimeout
  | .dynamicLimitWrite _ _ => some Footprint.execDynamicLimitWrite
  | .dynamicLimitExpiry => some Footprint.execDynamicLimitExpiry
  | .mainsPresentHoldEnd _ => some Footprint.execMainsPresentHoldEnd
  | .migrationStart _ => some Footprint.execMigrationStart
  | .migrationReachOpen _ => some Footprint.execMigrationReachOpen
  | .migrationWaitEnd _ => some Footprint.execMigrationWaitEnd
  | .migrationPreChargeDone _ => some Footprint.execMigrationPreChargeDone
  | .migrationClosedReported _ => some Footprint.execMigrationClosedReported
  | .migrationSettled _ => some Footprint.execMigrationSettled
  | .migrationOpenTimeout _ => some Footprint.execMigrationOpenTimeout
  | .migrationPreChargeTimeout _ => some Footprint.execMigrationPreChargeTimeout
  | .migrationCloseTimeout _ => some Footprint.execMigrationCloseTimeout
  | .clearWithhold _ _ _ => some Footprint.execClearWithhold
  | .pilotStateChange _ _ => some Footprint.execPilotStateChange
  | .proximityStateChange _ _ => some Footprint.execProximityStateChange
  | .hvilStateChange _ _ => some Footprint.execHvilStateChange
  | .contactorFeedbackFault _ _ => some Footprint.execContactorFeedbackFault
  | .clearContactorFault _ _ _ => some Footprint.execClearContactorFault
  | .cmSlacParmReq _ _ => some Footprint.execCmSlacParmReq
  | .slacRunArbitration _ _ => some Footprint.execSlacRunArbitration
  | .sdpRequest _ _ => some Footprint.execSdpRequest
  | .tcpConnection _ => some Footprint.execTcpConnection
  | .supportedAppProtocol _ _ => some Footprint.execSupportedAppProtocol
  | .communicationLost _ => some Footprint.execCommunicationLost
  | .vehicleIdentified _ _ _ _ _ => some Footprint.execVehicleIdentified
  | .authorisationRequest _ => some Footprint.execAuthorisationRequest
  | .authorisationWrite _ _ _ => some Footprint.execAuthorisationWrite
  | .authorisationTimeout _ => some Footprint.execAuthorisationTimeout
  | .certificateRequest _ _ => some Footprint.execCertificateRequest
  | .certificateResponseWrite _ _ _ => some Footprint.execCertificateResponseWrite
  | .certificateTimeout _ => some Footprint.execCertificateTimeout
  | .cableCheckReq _ => some Footprint.execCableCheckReq
  | .imdStatusFrame _ _ => some Footprint.execImdStatusFrame
  | .imdSilent _ => some Footprint.execImdSilent
  | .imdKeepAlive _ => some Footprint.execImdKeepAlive
  | .outletContactorsClosed _ => some Footprint.execOutletContactorsClosed
  | .cableCheckRampEnd _ => some Footprint.execCableCheckRampEnd
  | .cableCheckTimeout _ => some Footprint.execCableCheckTimeout
  | .preChargeReq _ _ => some Footprint.execPreChargeReq
  | .preChargeCurrentExceeded _ => some Footprint.execPreChargeCurrentExceeded
  | .powerDeliveryStart _ => some Footprint.execPowerDeliveryStart
  | .preChargeTimeout _ => some Footprint.execPreChargeTimeout
  | .currentDemandReq _ _ _ _ _ _ _ _ => some Footprint.execCurrentDemandReq
  | .demandSilenceTimeout _ => some Footprint.execDemandSilenceTimeout
  | .evOverVoltage _ => some Footprint.execEvOverVoltage
  | .powerDeliveryStop _ => some Footprint.execPowerDeliveryStop
  | .stopCurrentDecayed _ => some Footprint.execStopCurrentDecayed
  | .stopCurrentTimeout _ => some Footprint.execStopCurrentTimeout
  | .outputDischarged _ => some Footprint.execOutputDischarged
  | .vehicleVoltageRemains _ => some Footprint.execVehicleVoltageRemains
  | .outletContactorsOpen _ => some Footprint.execOutletContactorsOpen
  | .weldTestHalfComplete _ => some Footprint.execWeldTestHalfComplete
  | .emergencyOpenDelay _ => some Footprint.execEmergencyOpenDelay
  | .noCapacityTimeout _ => some Footprint.execNoCapacityTimeout
  | .stopSessionNormal _ _ => some Footprint.execStopSessionNormal
  | .stopSessionEmergency _ _ => some Footprint.execStopSessionEmergency
  | .createPending _ _ => some Footprint.execCreatePending
  | .createReserved _ _ => some Footprint.execCreateReserved
  | .cancel _ _ => some Footprint.execCancel
  | .contextNormalStop _ _ => some Footprint.execContextNormalStop
  | .contextEmergencyStop _ _ => some Footprint.execContextEmergencyStop
  | .contextExpiry _ => some Footprint.execContextExpiry
  | .coolantStatusFrame _ _ => some Footprint.execCoolantStatusFrame
  | .coolantUnitSilent _ => some Footprint.execCoolantUnitSilent
  | .metrologySample _ => none
  | .noMains _ => some Footprint.execNoMains
  | .mainsReturned _ => some Footprint.execMainsReturned
  | .meteringSecond => some Footprint.execMeteringSecond
  | .channelFault _ _ => some Footprint.execChannelFault
  | .channelFaultCleared _ => some Footprint.execChannelFaultCleared
  | .pulseEmit _ => some Footprint.execPulseEmit
  | .theftWatchBurst _ => some Footprint.execTheftWatchBurst
  | .crossCheckWindowEnd _ => some Footprint.execCrossCheckWindowEnd
  | .meteringValuesSync _ => some Footprint.execMeteringValuesSync
  | .sealOpened => some Footprint.execSealOpened
  | .sealClosed => some Footprint.execSealClosed
  | .metrologyImageData _ _ => some Footprint.execMetrologyImageData
  | .activateMetrologyImage _ => some Footprint.execActivateMetrologyImage
  | .clearTheftLog _ => some Footprint.execClearTheftLog
  | .tariffSlotSwitch => some Footprint.execTariffSlotSwitch
  | .demandIntervalEnd => some Footprint.execDemandIntervalEnd
  | .billingPeriodClose => some Footprint.execBillingPeriodClose
  | .closePeriod _ => some Footprint.execClosePeriod
  | .calendarActivationWrite _ _ => some Footprint.execCalendarActivationWrite
  | .calendarActivation => some Footprint.execCalendarActivation
  | .dstChange => some Footprint.execDstChange
  | .boundaryRecordCommitted => some Footprint.execBoundaryRecordCommitted
  | .recordSealed _ => some Footprint.execRecordSealed
  | .recordSelect _ _ => some Footprint.execRecordSelect
  | .collectRecord _ _ => some Footprint.execCollectRecord
  | .releaseUpTo _ _ => some Footprint.execReleaseUpTo
  | .tamperInputChange _ _ => some Footprint.execTamperInputChange
  | .magneticCheck _ _ => some Footprint.execMagneticCheck
  | .runMagneticTest _ _ => some Footprint.execRunMagneticTest
  | .requestField _ => some Footprint.execRequestField
  | .requestService _ => some Footprint.execRequestService
  | .requestRetired _ => some Footprint.execRequestRetired
  | .retiredConfirmLapse => some Footprint.execRetiredConfirmLapse
  | .transitionComplete _ => some Footprint.execTransitionComplete
  | .fieldMeteringKeyVersion _ _ => some Footprint.execFieldMeteringKeyVersion
  | .reMask => some Footprint.execReMask
  | .blobRewrap => some Footprint.execBlobRewrap
  | .healthTestFailed _ => some Footprint.execHealthTestFailed
  | .randomSourceRestart _ => some Footprint.execRandomSourceRestart
  | .attestationNonce _ _ => some Footprint.execAttestationNonce
  | .roleKeyWrite _ _ _ => some Footprint.execRoleKeyWrite
  | .canRoleKeyWrite _ _ _ => some Footprint.execCanRoleKeyWrite
  | .generateSeccKeyP256 _ => some Footprint.execGenerateSeccKeyP256
  | .generateSeccKeyP521 _ => some Footprint.execGenerateSeccKeyP521
  | .generateSeccKeyEd448 _ => some Footprint.execGenerateSeccKeyEd448
  | .imageDataWrite _ _ => some Footprint.execImageDataWrite
  | .activateImage _ => some Footprint.execActivateImage
  | .confirmTrialImage _ => some Footprint.execConfirmTrialImage
  | .open _ _ _ _ _ => some Footprint.execOpen
  | .confirm _ _ _ _ _ _ => some Footprint.execConfirm
  | .close _ => some Footprint.execClose
  | .sessionIdleTimeout => some Footprint.execSessionIdleTimeout
  | .sessionLifetimeEnd => some Footprint.execSessionLifetimeEnd
  | .openingLockoutEnd => some Footprint.execOpeningLockoutEnd
  | .read _ _ _ => some Footprint.execRead
  | .write _ _ _ _ => none
  | .abort _ => some Footprint.execAbort
  | .blockAck _ => some Footprint.execBlockAck
  | .requestIncomplete _ _ => some Footprint.execRequestIncomplete
  | .canTransferTimeout _ => some Footprint.execCanTransferTimeout
  | .commitConfiguration _ => some Footprint.execCommitConfiguration
  | .commitComplete => some Footprint.execCommitComplete
  | .discardChanges _ => none
  | .windowPost _ _ _ => some Footprint.execWindowPost
  | .pushData _ => some Footprint.execPushData
  | .windowFlush _ => some Footprint.execWindowFlush
  | .pushResend _ => some Footprint.execPushResend
  | .pushNoWindow _ => some Footprint.execPushNoWindow
  | .exportLog _ _ => some Footprint.execExportLog
  | .canFrameReceived _ _ _ _ _ _ => some Footprint.execCanFrameReceived
  | .canDataWrite _ _ _ => some Footprint.execCanDataWrite
  | .canSendPeriod _ => some Footprint.execCanSendPeriod
  | .canFrameSent _ => some Footprint.execCanFrameSent
  | .canObjectChange _ _ _ _ => some Footprint.execCanObjectChange
  | .canAbort _ _ => some Footprint.execCanAbort
  | .deadlineMiss _ => some Footprint.execDeadlineMiss
  | .ttEnter _ _ => some Footprint.execTtEnter
  | .ttLeave _ _ => some Footprint.execTtLeave
  | .ttWindowMark _ => some Footprint.execTtWindowMark
  | .canBusError _ _ _ => some Footprint.execCanBusError
  | .busOff _ => none
  | .busOffRecoveryRequest _ => some Footprint.execBusOffRecoveryRequest
  | .busOffRecovered _ => some Footprint.execBusOffRecovered
  | .restartController _ _ => some Footprint.execRestartController
  | .bitTimingApply _ => some Footprint.execBitTimingApply
  | .busMonitoringExit _ => some Footprint.execBusMonitoringExit
  | .crossingMissing => some Footprint.execCrossingMissing
  | .claimRound _ => some Footprint.execClaimRound
  | .status _ _ => some Footprint.execStatus
  | .alarm _ _ => some Footprint.execAlarm
  | .ack _ _ => some Footprint.execAck
  | .sound _ _ => some Footprint.execSound
  | .map _ _ => some Footprint.execMap
  | .responseTimeoutRepeat => some Footprint.execResponseTimeoutRepeat
  | .poll _ => some Footprint.execPoll
  | .outstationCommand _ _ _ => some Footprint.execOutstationCommand
  | .estimationDue _ _ => some Footprint.execEstimationDue
  | .loadSwitchCommand _ _ _ => some Footprint.execLoadSwitchCommand
  | .hardShort _ _ => some Footprint.execHardShort
  | .inrushOverCurrent _ _ => some Footprint.execInrushOverCurrent
  | .steadyOverCurrent _ _ => some Footprint.execSteadyOverCurrent
  | .inrushWindowEnd _ => some Footprint.execInrushWindowEnd
  | .thermalShutdown _ _ => some Footprint.execThermalShutdown
  | .junctionCooled _ _ => some Footprint.execJunctionCooled
  | .clearLatch _ _ => some Footprint.execClearLatch
  | .groupOverCurrent _ _ => some Footprint.execGroupOverCurrent
  | .groupUndervoltage _ _ => some Footprint.execGroupUndervoltage
  | .shedRestart _ _ => some Footprint.execShedRestart
  | .coilTurnOnRelease _ _ => some Footprint.execCoilTurnOnRelease
  | .groupOverVoltage _ _ => some Footprint.execGroupOverVoltage
  | .lossOfGround _ => some Footprint.execLossOfGround
  | .supplyFaultReturn _ _ _ => some Footprint.execSupplyFaultReturn
  | .hpCycle _ _ _ _ _ => some Footprint.execHpCycle
  | .testPulse _ _ => some Footprint.execTestPulse
  | .offPulse _ _ _ => some Footprint.execOffPulse
  | .hpSafeState _ => some Footprint.execHpSafeState
  | .hpWatchdog => some Footprint.execHpWatchdog
  | .startBrakeTest _ _ => some Footprint.execStartBrakeTest
  | .testTorqueApplied _ _ _ => some Footprint.execTestTorqueApplied
  | .brakeTestHoldEnd _ _ => some Footprint.execBrakeTestHoldEnd
  | .torqueConfirmTimeout _ => some Footprint.execTorqueConfirmTimeout
  | .brakeTestDue _ => some Footprint.execBrakeTestDue
  | .clearBrakeLockout _ _ => some Footprint.execClearBrakeLockout
  | .clearOutputFault _ _ => some Footprint.execClearOutputFault
  | .confirmConfiguration _ _ => some Footprint.execConfirmConfiguration
  | .outputDemand _ _ => some Footprint.execOutputDemand
  | .becomeActive _ => some Footprint.execBecomeActive
  | .activeLineSample _ => some Footprint.execActiveLineSample
  | .isolate _ => some Footprint.execIsolate
  | .handOver _ => some Footprint.execHandOver
  | .join _ => some Footprint.execJoin
  | .request _ => some Footprint.execRequest
  | .grant _ => some Footprint.execGrant
  | .grantDeadline => some Footprint.execGrantDeadline
  | .leaseExpiry _ => some Footprint.execLeaseExpiry
  | .takeover _ => some Footprint.execTakeover
  | .release _ => some Footprint.execRelease
  | .accept _ => some Footprint.execAccept
  | .refuse _ => some Footprint.execRefuse
  | .resign _ => some Footprint.execResign
  | .resignAck _ => some Footprint.execResignAck
  | .partnerActiveLineChange _ => some Footprint.execPartnerActiveLineChange
  | .mirrorFrame _ _ => some Footprint.execMirrorFrame
  | .configurationSync _ => none
  | .syncAckTimeout => some Footprint.execSyncAckTimeout
  | .fullSyncComplete _ _ _ => none
  | .joinFailed _ => some Footprint.execJoinFailed
  | .joinRetry => some Footprint.execJoinRetry
  | .fencedTimeout => some Footprint.execFencedTimeout
  | .healthReport => some Footprint.execHealthReport
  | .heartbeat => some Footprint.execHeartbeat
  | .supplyWarning _ => some Footprint.execSupplyWarning
  | .windowRecovery _ => some Footprint.execWindowRecovery
  | .dipCommitPeriod => some Footprint.execDipCommitPeriod
  | .dipEpisodeLimit => some Footprint.execDipEpisodeLimit
  | .stagedSessionStop => some Footprint.execStagedSessionStop
  | .dipEpisodeEnd _ => some Footprint.execDipEpisodeEnd
  | .brownOut _ _ => none
  | .watchdogReset _ => none
  | .softwareResetQuiet _ => some Footprint.execSoftwareResetQuiet
  | .softwareResetAtOnce _ => some Footprint.execSoftwareResetAtOnce
  | .softwareResetAssert => none
  | .enterIdle => some Footprint.execEnterIdle
  | .wake _ => some Footprint.execWake
  | .cellReplaced _ => some Footprint.execCellReplaced
  | .reverseInput _ _ => some Footprint.execReverseInput
  | .gateOn _ _ => some Footprint.execGateOn
  | .vauxOverVoltage _ => some Footprint.execVauxOverVoltage
  | .ethernetLinkUp _ _ _ => some Footprint.execEthernetLinkUp
  | .lockstepMismatch _ => none
  | .poolSingleBitError _ => some Footprint.execPoolSingleBitError
  | .poolDoubleBitError _ _ _ _ => none
  | .ownerRegisterWrite _ _ _ => some Footprint.execOwnerRegisterWrite
  | .xdGrant _ _ _ => some Footprint.execXdGrant
  | .siltRegionTest _ _ _ => some Footprint.execSiltRegionTest
  | .siltTestAbandon _ _ => some Footprint.execSiltTestAbandon
  | .journalCommit => some Footprint.execJournalCommit
  | .commitValid => none
  | .batchHoldEnd => some Footprint.execBatchHoldEnd
  | .programVerifyFailed _ => some Footprint.execProgramVerifyFailed
  | .cellInserted _ => some Footprint.execCellInserted
  | .rtcMinuteCellCheck _ _ => none
  | .internalRailFault _ => none
  | .resyncTimeout => some Footprint.execResyncTimeout
  | .vehicleRequest _ _ _ _ _ _ => some Footprint.execVehicleRequest

/-- Commands at which writes that wait for a boundary take effect, before anything else the command does. -/
def atItsBoundary : Instr → Bool
  | .allocatorFastPass => true
  | .authorisationWrite _ _ _ => true
  | .createPending _ _ => true
  | .createReserved _ _ => true
  | .cancel _ _ => true
  | .contextNormalStop _ _ => true
  | .contextEmergencyStop _ _ => true
  | .meteringSecond => true
  | .canFrameSent _ => true
  | .canAbort _ _ => true
  | .canBusError _ _ _ => true
  | .bitTimingApply _ => true
  | .hpCycle _ _ _ _ _ => true
  | .syncAckTimeout => true
  | _ => false

/-- Commands that may write the pool, the code flash, or the images of the configuration and of the journal. -/
def touchesMemory : Instr → Bool
  | .frameStart => true
  | .fastClassEvaluation _ _ _ _ _ => true
  | .slowTick _ _ _ => true
  | .pllLockLost => true
  | .porRelease _ _ _ _ => true
  | .imageVerified => true
  | .journalMount _ _ _ _ _ => true
  | .dictionaryAvailable _ => true
  | .startupStageTimeout => true
  | .metrologySample _ => true
  | .metrologyImageData _ _ => true
  | .imageDataWrite _ _ => true
  | .activateImage _ => true
  | .write _ _ _ _ => true
  | .commitConfiguration _ => true
  | .commitComplete => true
  | .discardChanges _ => true
  | .busOff _ => true
  | .confirmConfiguration _ _ => true
  | .configurationSync _ => true
  | .fullSyncComplete _ _ _ => true
  | .brownOut _ _ => true
  | .watchdogReset _ => true
  | .softwareResetAssert => true
  | .lockstepMismatch _ => true
  | .poolDoubleBitError _ _ _ _ => true
  | .journalCommit => true
  | .commitValid => true
  | .batchHoldEnd => true
  | .rtcMinuteCellCheck _ _ => true
  | .internalRailFault _ => true
  | _ => false

/-- No write that waits for its boundary names the register. -/
def State.unawaited (s : State) (o : Obj) : Prop := ∀ w ∈ s.waiting, ∀ f ∈ w.writes, f.key.o ≠ o.id

end Sys2Proof.Machine
end

