-- ==== Sys2Proof/Certificates/Slice0/Obligations.lean ====
section
/-!
DEFINITION. The statements for the provers. A title names the commands or the state that a statement is about; where a
statement rests on the model's own choice, it names the entry of the assumption log.
-/

open Sys2Proof Sys2Proof.Machine

/-- A step runs the command at the front of the queue. With command c at the front, step is exec of c on the state with
the queue's rest; on an empty queue the block idles (the model's choice, log entry 2). -/
def Obligations.StepTakesFrontCommand : Prop :=
  (∀ (s : State) (c : Instr) (l : List Instr), s.pending = c :: l → step s = exec c { s with pending := l }) ∧
  (∀ (s : State), s.pending = [] → step s = .next s)

/-- Every command answers a next state in every state. Whatever the state and the operands, exec of each of the 332
commands answers a next state: no command stops the block. -/
def Obligations.EveryCommandCompletes : Prop :=
  (∀ (c : Instr) (s : State), ∃ t, exec c s = .next t)

/-- A command leaves the queue alone. No command adds to the queue of waiting commands or takes from it: step alone
does. -/
def Obligations.QueueLeftAlone : Prop :=
  (∀ (c : Instr) (s t : State), exec c s = .next t → t.pending = s.pending)

/-- Every step keeps the state canonical. In a state whose stores and memories are in canonical form a step answers a
state in canonical form: names of registers rise, addresses rise, and no listed byte equals what an unlisted one
reads as. -/
def Obligations.EveryStepKeepsForm : Prop :=
  (∀ (s t : State), s.wf = true → step s = .next t → t.wf = true)

/-- The state after reset is canonical and its queue is empty. State.reset is in canonical form, no command waits, no
session, transaction or emission exists, and neither memory lists a byte. -/
def Obligations.ResetIsCanonical : Prop :=
  (State.reset.wf = true) ∧
  (State.reset.pending = [] ∧ State.reset.sessions = [] ∧ State.reset.waiting = [] ∧ State.reset.out = [] ∧ State.reset.pool = [] ∧ State.reset.flash = [])

/-- Memories and stores that read alike are equal data. Two canonical memories in which every address reads alike are
equal, and two canonical stores in which every name finds alike are equal. -/
def Obligations.EqualReadingsEqualData : Prop :=
  (∀ (blank : Byte) (m n : List Host.Cell), Memory.wf blank m = true → Memory.wf blank n = true →
      (∀ a, memRead blank a m = memRead blank a n) → m = n) ∧
  (∀ (m n : Store Int), storeRising m = true → storeRising n = true → (∀ k, storeFind m k = storeFind n k) → m = n)

/-- What registers read after reset. After reset a numeric object reads the default of its row in its table: idle delay
300 s, conversion efficiency 960, lease length 16, start-up stage 0 and commit count 0; a byte string is empty. -/
def Obligations.DefaultsAfterReset : Prop :=
  (State.reset.get Obj.idleDelay = 300 ∧ State.reset.get Obj.efficiency = 960 ∧ State.reset.get Obj.leaseLength = 16 ∧
      State.reset.get Obj.startUpStage = 0 ∧ State.reset.get Obj.commitCount = 0) ∧
  (∀ (o : Obj) (i j : Nat), State.reset.get o i j = o.dflt i j ∧ State.reset.bytes o i j = [])

/-- A command leaves every other register as it was. For each of the 301 commands whose registers the model lists and
that no boundary precedes: a register that is not in the list, and that the event log, the push queues, the journal
queue and answers do not write, holds what it held, in every instance. -/
def Obligations.FrameOfCommands : Prop :=
  (∀ (c : Instr) (s t : State) (W : List Nat) (o : Obj), footprint c = some W → atItsBoundary c = false → exec c s = .next t →
      o.quiet = true → o.id ∉ W → t.view o = s.view o)

/-- A command at a boundary also lets waiting writes in. For the 14 commands at whose boundary waiting writes take
effect the same holds of a register that no waiting write names. -/
def Obligations.FrameAtBoundaries : Prop :=
  (∀ (c : Instr) (s t : State) (W : List Nat) (o : Obj), footprint c = some W → atItsBoundary c = true → exec c s = .next t →
      o.quiet = true → s.unawaited o → o.id ∉ W → t.view o = s.view o)

/-- Commands that store nothing in the pool or the flash. A command outside the model's list of those that may write
memory leaves every byte of the pool and of the flash as it reads. -/
def Obligations.MemoriesKept : Prop :=
  (∀ (c : Instr) (s t : State) (a : Nat), touchesMemory c = false → exec c s = .next t →
      memRead poolBlank a t.pool = memRead poolBlank a s.pool ∧ memRead flashBlank a t.flash = memRead flashBlank a s.flash)

/-- Only image writes store in the code flash. Every command but the two image writes, and the plain write that may
stand for them, leaves every byte of the flash as it reads; an image write at a granted offset stores its bytes from
the base of the slot not in use, and leaves every byte outside them and the pool as they were. -/
def Obligations.OnlyImagesReachFlash : Prop :=
  (∀ (c : Instr) (s t : State) (a : Nat), (∀ r d, c ≠ .imageDataWrite r d) → (∀ r d, c ≠ .metrologyImageData r d) →
      (∀ r i j d, c ≠ .write r i j d) → exec c s = .next t → memRead flashBlank a t.flash = memRead flashBlank a s.flash) ∧
  (∀ (s u : State) (r : Req) (d : List Byte) (role space a : Nat), Granted r Obj.imageData 0 0 d role space s u →
      u.get Obj.flashWritesPermitted ≠ 0 → u.getN Obj.imageWriteOffset + d.length ≤ 0x1000000 →
      ∃ t, exec (.imageDataWrite r d) s = .next t ∧
      memRead flashBlank a t.flash = (if imageBase (otherSlot u) + u.getN Obj.imageWriteOffset ≤ a ∧
      a < imageBase (otherSlot u) + u.getN Obj.imageWriteOffset + d.length
      then d.getD (a - (imageBase (otherSlot u) + u.getN Obj.imageWriteOffset)) 0 else memRead flashBlank a u.flash) ∧
      memRead poolBlank a t.pool = memRead poolBlank a s.pool) ∧
  (∀ (s u : State) (r : Req) (d : List Byte) (role space a : Nat), Granted r Obj.metrologyImageData 0 0 d role space s u →
      u.get Obj.flashWritesPermitted ≠ 0 → u.getN Obj.metrologyImageWriteOffset + d.length ≤ 0x400000 → auditFull u = false →
      ∃ t, exec (.metrologyImageData r d) s = .next t ∧
      memRead flashBlank a t.flash = (if metrologyBase u + u.getN Obj.metrologyImageWriteOffset ≤ a ∧
      a < metrologyBase u + u.getN Obj.metrologyImageWriteOffset + d.length
      then d.getD (a - (metrologyBase u + u.getN Obj.metrologyImageWriteOffset)) 0 else memRead flashBlank a u.flash) ∧
      memRead poolBlank a t.pool = memRead poolBlank a s.pool)

/-- What is stored in the pool. The fast class and the slow tick store in the pool only while a capture runs and only in
the capture's bank; resets clear it, but a watchdog or software reset keeps its retained area; every other command
leaves every byte of the pool as it reads. -/
def Obligations.CapturesStayInTheirBank : Prop :=
  (∀ (s t : State) (m g l : List Nat) (k p a : Nat), exec (.fastClassEvaluation m g l k p) s = .next t →
      a < s.getN Reg.captureIn * 0x40000 ∨ s.getN Reg.captureIn * 0x40000 + 0x40000 ≤ a ∨ s.get Obj.captureState ≠ 1 →
      memRead poolBlank a t.pool = memRead poolBlank a s.pool) ∧
  (∀ (s t : State) (m g l : List Nat) (a : Nat), exec (.slowTick m g l) s = .next t →
      a < s.getN Reg.captureIn * 0x40000 ∨ s.getN Reg.captureIn * 0x40000 + 0x40000 ≤ a ∨ s.get Obj.captureState ≠ 1 →
      memRead poolBlank a t.pool = memRead poolBlank a s.pool) ∧
  (∀ (s t : State) (processor : Fin 4) (a : Nat), inRetArea a = true → exec (.watchdogReset processor) s = .next t →
      memRead poolBlank a t.pool = memRead poolBlank a s.pool) ∧
  (∀ (s t : State) (a : Nat), inRetArea a = true → exec .softwareResetAssert s = .next t →
      memRead poolBlank a t.pool = memRead poolBlank a s.pool) ∧
  (∀ (c : Instr) (s t : State) (a : Nat), (∀ m g l k p, c ≠ .fastClassEvaluation m g l k p) → (∀ m g l, c ≠ .slowTick m g l) →
      c ≠ .pllLockLost → (∀ x, c ≠ .internalRailFault x) → (∀ x, c ≠ .watchdogReset x) → c ≠ .softwareResetAssert →
      (∀ x y, c ≠ .brownOut x y) → c ≠ .commitValid → (∀ x, c ≠ .lockstepMismatch x) →
      (∀ x y z w, c ≠ .poolDoubleBitError x y z w) → exec c s = .next t →
      memRead poolBlank a t.pool = memRead poolBlank a s.pool)

/-- A frame put on a cabinet link's lane is read back. Marker, scrambling, CRC and stuffing lose nothing: what an up
lane carries of a control, training or service frame destuffs, is found and passes its CRC as the bytes that were
sent, from any line state that stuffing can be in. -/
def Obligations.LineFramesReadBack : Prop :=
  (∀ (v : Bool) (c : Nat) (l : List Bool), c < 31 → (destuff v c (stuff v c l).1).1 = l) ∧
  (∀ (seed : Nat) (l : List Bool), scramble seed (scramble seed l) = l) ∧
  (∀ (type seq link lane reg : Nat) (body : List Byte), reg < 128 → reg % 64 < 31 → link < 16 → lane < 2 →
      (type = typeControl ∧ body.length = 248) ∨ (type = typeTraining ∧ body.length = 24) ∨
      (type = typeService ∧ body.length = 16 + ofBytes ((body.drop 6).take 2)) →
      (receiveLine link lane reg (stuff (64 ≤ reg) (reg % 64) (lineFrame type seq link lane 1 body)).1).1 = Received.good type body)

/-- The module's own cycles leave the configuration alone. A frame start, a slow tick, a metrology sample and a bus-off
leave every writable object of class PER that no waiting write names as it reads, but for the out-of-service mark of
an outlet, the fields of a context, and the boot selection. -/
def Obligations.ConfigurationKept : Prop :=
  (∀ (c : Instr) (s t : State) (o : Obj), c = .frameStart ∨ (∃ m g l, c = .slowTick m g l) ∨ (∃ p, c = .metrologySample p) ∨ (∃ b, c = .busOff b) →
      objById o.id = some o → o.cls = .per → o.right = .rw ∨ o.right = .rws → o.base ≠ 0x6000 → o.id ≠ Obj.outOfService.id →
      o.id ≠ Obj.bootSelection.id → o.quiet = true → s.unawaited o → exec c s = .next t → t.view o = s.view o) ∧
  (∀ (s t : State) (o : Obj), (∀ i j, regOf (o.key i j) = some o) → o.cls = .bat →
      o.id ∉ [Reg.resetKind.id, Reg.resetSource.id, Reg.resetTime.id, Reg.pulsesLost.id, Reg.supplyHeld.id] →
      exec .pllLockLost s = .next t → t.view o = s.view o) ∧
  (∀ (s t : State) (rail : Fin 27) (o : Obj), (∀ i j, regOf (o.key i j) = some o) → o.cls = .bat →
      o.id ∉ [Reg.resetKind.id, Reg.resetSource.id, Reg.resetTime.id, Reg.pulsesLost.id, Reg.supplyHeld.id, Reg.supplyRaw.id] →
      exec (.internalRailFault rail) s = .next t → t.view o = s.view o)

/-- The length of a frame. A frame with dither index k lasts 8000 + s × d(k) cycles at a step of s cycles, d rises to
32, falls to −32 and returns, its sum over a cycle is zero, and every 128 frames last exactly 1 024 000 cycles.
States R19. -/
def Obligations.FrameLengths : Prop :=
  (∀ (s : State), s.get Obj.startUpStage ≠ 0 → s.is Reg.supplyHeld = false → s.unawaited Reg.frameLength → s.unawaited Obj.frameCounter →
      s.unawaited Obj.appliedDuneDepth →
      ∃ t k, exec .frameStart s = .next t ∧ t.get Obj.frameCounter % 128 = k ∧
      (k ≤ 32 → t.get Reg.frameLength = 8000 + duneStep (s.get Obj.appliedDuneDepth) * k) ∧
      (33 ≤ k → k ≤ 96 → t.get Reg.frameLength = 8000 + duneStep (s.get Obj.appliedDuneDepth) * (64 - k)) ∧
      (97 ≤ k → k ≤ 127 → t.get Reg.frameLength = 8000 + duneStep (s.get Obj.appliedDuneDepth) * (k - 128))) ∧
  (∀ (depth : Int), ((List.range 128).map ditherOffset).sum = 0 ∧ ((List.range 128).map (frameCycles depth)).sum = 1024000)

/-- A start without gate-drive ready is refused. Gate-drive ready that is not reported within 200 frames after the start
delay refuses the start with cause 3, and the block is OFF again. States R87. -/
def Obligations.GateReadyRefusal : Prop :=
  (∀ (s : State) (block : Fin 64), blockSt s block = bkStartDelay → s.get Reg.gateReadyBy block ≠ 0 →
      s.getN Reg.gateReadyBy block + 200 ≤ s.frame →
      ∃ t, exec (.gateDriveTimeout block) s = .next t ∧ blockSt t block = bkOff ∧ t.get Obj.lastStartRefusalCause block = 3)

/-- Start and stop requests while a block starts or stops. A start in RAMP_OFF ramps on again from the current r without
a test, a start in STOP_DELAY is held until OFF and then judged and tested, and a stop in TEST or START_DELAY ends
in OFF. States R90. -/
def Obligations.StartAndStopRequests : Prop :=
  (∀ (s : State) (block : Fin 64), blockSt s block = bkRampOff →
      ∃ t, exec (.blockStartRequest block) s = .next t ∧ blockSt t block = bkRampOn ∧ t.real Reg.ramp block = s.real Reg.ramp block ∧
      t.get Obj.startCount block = s.get Obj.startCount block) ∧
  (∀ (s : State) (block : Fin 64), blockSt s block = bkStopDelay →
      ∃ t, exec (.blockStartRequest block) s = .next t ∧ blockSt t block = bkStopDelay ∧ t.get Reg.startHeld block = 1) ∧
  (∀ (s u : State) (block : Fin 64), blockSt s block = bkStopDelay →
      s.getN Reg.blockSince block + s.getN Obj.stopDelay block ≤ s.frame → s.is Reg.startHeld block = true →
      u = holdBlockSlots block (setBlock block bkOff (({ s with out := [] }).set Reg.startHeld 0 block)) →
      startCause u block = 0 → outputDischarged u block = true →
      ∃ t, exec (.stopDelayEnd block) s = .next t ∧ blockSt t block = bkTest ∧
      t.get Obj.startCount block = (s.get Obj.startCount block + 1) % 4294967296) ∧
  (∀ (s : State) (block : Fin 64), blockSt s block = bkTest ∨ blockSt s block = bkStartDelay →
      ∃ t, exec (.blockStopRequest block) s = .next t ∧ blockSt t block = bkOff)

/-- At most 128 transactions are outstanding. With 128 transactions outstanding a further read or write is answered with
status 0x0A, and its tag is not occupied. -/
def Obligations.OutstandingLimit : Prop :=
  (∀ (s u : State) (r : Req) (index sub role space : Nat) (d : List Byte) (plain : Bool), r.complete = true → space ≠ 0 →
      authenticate r 2 index sub d { s with out := [] } = .accept u space role plain → tagBusy u space r.tag = false →
      128 ≤ outstanding u → partlyOf u space r.tag = none → actionRow r index sub d = none →
      ∃ t, exec (.write r index sub d) s = .next t ∧ Emission.answer ⟨space, r.tag, r.epoch, 0x12, 10, []⟩ ∈ t.out ∧
      t.waiting = u.waiting) ∧
  (∀ (s u : State) (r : Req) (index sub role space : Nat) (plain : Bool), r.complete = true → space ≠ 0 →
      authenticate r 1 index sub [] { s with out := [] } = .accept u space role plain → tagBusy u space r.tag = false →
      128 ≤ outstanding u → partlyOf u space r.tag = none →
      ∃ t, exec (.read r index sub) s = .next t ∧ Emission.answer ⟨space, r.tag, r.epoch, 0x11, 10, []⟩ ∈ t.out ∧
      t.waiting = u.waiting)

/-- What STANDBY, FENCED and ISOLATED modules do with requests. A STANDBY or FENCED module answers a read, and refuses a
write with status 0x06 outside the four areas that stay open; in the areas and in every other role no write is
refused for the role. States R302. -/
def Obligations.StandbyAnswersReads : Prop :=
  (∀ (s u v : State) (r : Req) (index sub role space : Nat) (d : List Byte), r.complete = true → space ≠ 0 →
      judgeRequest r 1 index sub [] { s with out := [] } = .accept u space role false →
      u.get Obj.role = roStandby ∨ u.get Obj.role = roFenced → readAddress index sub role u = .ok (d, v) →
      ∃ t, exec (.read r index sub) s = .next t ∧ Emission.answer ⟨space, r.tag, r.epoch, 0x11, 0, d⟩ ∈ t.out) ∧
  (∀ (s u : State) (r : Req) (index sub role space : Nat) (d : List Byte) (l : List FieldWrite), r.complete = true → space ≠ 0 →
      judgeRequest r 2 index sub d { s with out := [] } = .accept u space role false →
      actionRow r index sub d = none → writtenFields u index sub role d = .ok l →
      u.get Obj.role = roStandby ∨ u.get Obj.role = roFenced →
      index < 0x1000 ∨ 0x13FF < index → index < 0xA800 ∨ 0xA8FF < index → index < 0xB200 ∨ 0xB2FF < index →
      index < 0xC000 ∨ 0xCFFF < index →
      ∃ t, exec (.write r index sub d) s = .next t ∧ Emission.answer ⟨space, r.tag, r.epoch, 0x12, 6, []⟩ ∈ t.out ∧
      t.waiting = u.waiting ∧ ∀ o i j, t.get o i j = u.get o i j) ∧
  (∀ (s u : State) (r : Req) (o : Obj) (i j role space : Nat) (d : List Byte) (f : Nat → State → Except Nat State), r.complete = true →
      judgeRequest r 2 (o.index i) (o.sub + o.subStep * j) d s = .accept u space role false → writeStatus u o i role d = 0 →
      u.get Obj.role = roStandby ∨ u.get Obj.role = roFenced →
      o.index i < 0x1000 ∨ 0x13FF < o.index i → o.index i < 0xA800 ∨ 0xA8FF < o.index i →
      o.index i < 0xB200 ∨ 0xB2FF < o.index i → o.index i < 0xC000 ∨ 0xCFFF < o.index i →
      hostWrite r o i j d f s = u.answer space r 2 6 ∧ hostDefer r o i j d f s = u.answer space r 2 6) ∧
  (∀ (s : State) (index : Nat), (0x1000 ≤ index ∧ index ≤ 0x13FF) ∨ (0xA800 ≤ index ∧ index ≤ 0xA8FF) ∨
      (0xB200 ≤ index ∧ index ≤ 0xB2FF) ∨ (0xC000 ≤ index ∧ index ≤ 0xCFFF) ∨
      (s.get Obj.role ≠ roStandby ∧ s.get Obj.role ≠ roFenced) → roleForbids s index = false)

/-- No answer before the dictionary is available. Before stage 4, and unless the image service runs on the request's
port, a read, write, opening, confirmation, close or window post is dropped: nothing is emitted, no register changes
and nothing waits. States R495. -/
def Obligations.SilentBeforeDictionary : Prop :=
  (∀ (s : State) (r : Req) (index sub : Nat), s.get Obj.startUpStage < 4 → s.is Reg.heldAtStage2 = false ∨ arrivesOn s r ≠ 1 →
      ∃ t, exec (.read r index sub) s = .next t ∧ t.out = [] ∧ t.waiting = s.waiting ∧ t.sessions = s.sessions ∧ t.get = s.get) ∧
  (∀ (s : State) (r : Req) (index sub : Nat) (d : List Byte), s.get Obj.startUpStage < 4 → s.is Reg.heldAtStage2 = false ∨ arrivesOn s r ≠ 1 → actionRow r index sub d = none →
      ∃ t, exec (.write r index sub d) s = .next t ∧ t.out = [] ∧ t.waiting = s.waiting ∧ t.sessions = s.sessions ∧ t.get = s.get) ∧
  (∀ (s : State) (r : Req), s.get Obj.startUpStage < 4 → s.is Reg.heldAtStage2 = false ∨ arrivesOn s r ≠ 1 →
      ∃ t, exec (.close r) s = .next t ∧ t.out = [] ∧ t.waiting = s.waiting ∧ t.sessions = s.sessions ∧ t.get = s.get) ∧
  (∀ (s : State) (r : Req) (channel : Fin 8) (d : List Byte), s.get Obj.startUpStage < 4 → s.is Reg.heldAtStage2 = false ∨ arrivesOn s r ≠ 1 →
      ∃ t, exec (.windowPost r channel d) s = .next t ∧ t.out = [] ∧ t.waiting = s.waiting ∧ t.sessions = s.sessions ∧ t.get = s.get) ∧
  (∀ (s : State) (r : Req), s.get Obj.startUpStage < 4 → s.is Reg.heldAtStage2 = false ∨ arrivesOn s r ≠ 1 →
      ∃ t, exec (.abort r) s = .next t ∧ t.out = [] ∧ t.waiting = s.waiting ∧ t.sessions = s.sessions ∧ t.get = s.get) ∧
  (∀ (s : State) (port : Fin 2) (addr tag epoch : Nat) (payload : List Byte), s.get Obj.startUpStage < 4 → s.is Reg.heldAtStage2 = false ∨ port.val ≠ 1 →
      ∃ t, exec (.open port addr tag epoch payload) s = .next t ∧ t.out = [] ∧ t.waiting = s.waiting ∧ t.sessions = s.sessions ∧ t.get = s.get) ∧
  (∀ (s : State) (ident seq tag epoch : Nat) (sig mac : List Byte), s.get Obj.startUpStage < 4 → s.is Reg.heldAtStage2 = false ∨ (∀ y ∈ s.sessions, y.port ≠ 1) →
      ∃ t, exec (.confirm ident seq tag epoch sig mac) s = .next t ∧ t.out = [] ∧ t.waiting = s.waiting ∧ t.sessions = s.sessions ∧ t.get = s.get) ∧
  (∀ (s : State) (r : Req) (o : Obj) (i j : Nat) (d : List Byte) (f : Nat → State → Except Nat State), s.get Obj.startUpStage < 4 →
      s.is Reg.heldAtStage2 = false ∨ arrivesOn s r ≠ 1 → hostWrite r o i j d f s = s ∧ hostDefer r o i j d f s = s)

/-- The host ends a transfer. An ABORT of a request whose segments still arrive discards it and answers it with status
0x0A; one of a response still being sent on CAN stops it and frees the tag; one of a complete request has no effect;
the ABORT itself is not answered. States R303. -/
def Obligations.AbortsEndTransfers : Prop :=
  (∀ (s : State) (r : Req) (w : Waiting), serves s r 0xB210 = true → mayBegin s r = true → partlyOf s (spaceOf r) r.tag = some w →
      ∃ t, exec (.abort r) s = .next t ∧ t.waiting = (s.waiting.filter fun x => x ≠ w) ∧
      t.out = [Emission.answer ⟨w.space, w.tag, w.epoch, w.code, 10, []⟩]) ∧
  (∀ (s : State) (r : Req), serves s r 0xB210 = true → mayBegin s r = true → partlyOf s (spaceOf r) r.tag = none → spaceOf r = 0 →
      ∃ t, exec (.abort r) s = .next t ∧ t.bytes Reg.canRest r.tag = [] ∧ t.out = [] ∧ t.waiting = s.waiting ∧
      tagBusy t 0 r.tag = s.waiting.any fun w => w.space == 0 && w.tag == r.tag && !w.partly) ∧
  (∀ (s : State) (r : Req), serves s r 0xB210 = true → mayBegin s r = true → partlyOf s (spaceOf r) r.tag = none → spaceOf r ≠ 0 →
      ∃ t, exec (.abort r) s = .next t ∧ t.out = [] ∧ t.waiting = s.waiting ∧ t.sessions = s.sessions ∧ t.get = s.get)

/-- The site's import registers are formed at each read. The site DC import reads as the sum of the 24 outlet import
registers and the site AC import as the sum of the four feeder import registers, modulo the width of the field.
States R226. -/
def Obligations.SiteImportsFormed : Prop :=
  (∀ (s : State), (readCell s Obj.siteDcImport 0 0).map ofBytes =
      some (((List.range 24).map fun n => ofBytes ((readCell s Obj.dcImport n 0).getD [])).sum % 2 ^ 80)) ∧
  (∀ (s : State), (readCell s Obj.siteAcImport 0 0).map ofBytes =
      some (((List.range 4).map fun n => ofBytes ((readCell s Obj.afEnergy n 0).getD [])).sum % 2 ^ 80))

/-- A cabinet link is brought up step by step. For a link in the state that each step of the bring-up starts from,
LINK_BRING_UP, RESTART_BRING_UP, CKU_DETECTED, ALIGN_COMPLETE, TRAINING_FRAME, IDENTITY_READ and
CONFIGURATION_CRC_RETURNED complete and leave the link at the next step; BRING_UP_TIMEOUT refuses a declared link
that has not come up in 4 s. Parts of R58, R59, R60. -/
def Obligations.CabinetLinkBringUp : Prop :=
  (∀ (s : State) (link : Fin 16), mayDriveLanes s = true → s.get Obj.linkState link = lkDown → s.get Reg.linkSteps link = 0 →
      ∃ t, exec (.linkBringUp link) s = .next t ∧ t.get Obj.linkState link = lkClock ∧ t.get Obj.lanesInService link = 15 ∧
      t.get Reg.linkBringUpAt link = s.now) ∧
  (∀ (s u : State) (r : Req) (link : Fin 16) (d : List Byte) (role space : Nat),
      Granted r Obj.restartBringUp link 0 d role space s u → cabEnergised u link = false →
      ∃ t, exec (.restartBringUp r link d) s = .next t ∧ t.get Obj.linkState link = lkClock ∧ t.get Reg.linkSteps link = 1) ∧
  (∀ (s : State) (link : Fin 16), s.get Obj.linkState link = lkClock →
      ∃ t, exec (.ckuDetected link) s = .next t ∧ t.get Obj.linkState link = lkAlign ∧ t.get Reg.ckuPresent link = 1) ∧
  (∀ (s : State) (link : Fin 16), s.get Obj.linkState link = lkAlign →
      12 ≤ s.get Reg.laneScans (4 * link + 0) → 96 ≤ s.get Obj.eyeFigure link 0 →
      12 ≤ s.get Reg.laneScans (4 * link + 1) → 96 ≤ s.get Obj.eyeFigure link 1 →
      12 ≤ s.get Reg.laneScans (4 * link + 2) → 96 ≤ s.get Obj.eyeFigure link 2 →
      12 ≤ s.get Reg.laneScans (4 * link + 3) → 96 ≤ s.get Obj.eyeFigure link 3 →
      laneIn s link 0 = true → laneIn s link 2 = true →
      ∃ t, exec (.alignComplete link) s = .next t ∧ t.get Obj.linkState link = lkSync) ∧
  (∀ (s : State) (link : Fin 16) (lane : Fin 2) (arrival : Nat) (line : List Bool) (b : List Byte),
      (receiveLine link lane (s.getN Reg.rxLine (4 * link + lane)) line).1 = Received.good typeTraining b → fieldU b 0 1 = 0x14 →
      fieldU b 1 1 / 16 = link → fieldU b 1 1 % 16 = 3 → s.get Obj.linkState link = lkSync →
      ∃ t, exec (.trainingFrame link lane arrival line) s = .next t ∧ t.get Obj.linkState link = lkIdent ∧
      t.get Obj.eyeFigure link 2 = fieldU b 4 1 ∧ t.get Obj.eyeFigure link 3 = fieldU b 5 1) ∧
  (∀ (s : State) (link : Fin 16), s.get Obj.linkState link = lkIdent → (s.bytes Reg.identityData link).length = 44 →
      cabDeclared s link = true → fieldU (s.bytes Reg.identityData link) 0 2 = s.get Obj.declaredVersion link →
      fieldU (s.bytes Reg.identityData link) 2 1 = s.get Obj.declaredPhaseCount link →
      fieldU (s.bytes Reg.identityData link) 3 1 = s.get Obj.declaredBlockCount link →
      fieldU (s.bytes Reg.identityData link) 4 1 = s.get Obj.declaredContactorCount link →
      s.bytes Obj.declaredSerial link = List.replicate 8 0 →
      fieldU (s.bytes Reg.identityData link) 8 2 ≤ s.get Obj.samplingLead + 400 →
      ∃ t, exec (.identityRead link) s = .next t ∧ t.get Obj.linkState link = lkConfig ∧
      t.bytes Obj.idSerial link = ((s.bytes Reg.identityData link).drop 32).take 8) ∧
  (∀ (s : State) (link : Fin 16), s.get Obj.linkState link = lkConfig →
      s.get Reg.configCrc link = crc32 (s.bytes Obj.terminalConfigurationImage link) + 1 →
      ∃ t, exec (.configurationCrcReturned link) s = .next t ∧ t.get Reg.linkCommanded link = 1 ∧
      t.get Obj.appliedImageCRC link = crc32 (s.bytes Obj.terminalConfigurationImage link)) ∧
  (∀ (s : State) (link : Fin 16), lkClock ≤ s.get Obj.linkState link → s.get Obj.linkState link ≤ lkConfig →
      s.getN Reg.linkBringUpAt link + 4 * second ≤ s.now → cabDeclared s link = true →
      ∃ t, exec (.bringUpTimeout link) s = .next t ∧ t.get Obj.linkState link = lkRefused ∧ t.get Obj.lastRefusalCause link = 1)

/-- A running cabinet link takes, counts and loses. A good telemetry frame of the due frame marks the link good; a good
service frame is acknowledged; an eye scan is recorded; a service frame without progress for 16 frames is resent;
the stale limit loses the link, a missed dispatch is counted, the 50th and the 500th frame of LOST free the blocks
and restart the bring-up; firmware data and activation go to the terminal. Parts of R28, R53, R54, R56, R64, R65,
R66. -/
def Obligations.CabinetLinkRuns : Prop :=
  (∀ (s : State) (link : Fin 16) (lane : Fin 2) (line : List Bool) (b : List Byte),
      (receiveLine link lane (s.getN Reg.rxLine (4 * link + lane)) line).1 = Received.good typeControl b →
      telemetryFits s link b = true → s.is Reg.deadlinePassed = false →
      ∃ t, exec (.telemetryFrame link lane line) s = .next t ∧ t.get Reg.linkGood link = 1) ∧
  (∀ (s : State) (link : Fin 16) (lane : Fin 2) (line : List Bool) (b : List Byte),
      (receiveLine link lane (s.getN Reg.rxLine (4 * link + lane)) line).1 = Received.good typeService b →
      ofBytes ((b.drop 1).take 1) / 16 = link →
      ∃ t, exec (.serviceFrame link lane line) s = .next t ∧
      t.get Reg.serviceTxAcked (2 * link + lane) = ofBytes ((b.drop 12).take 2)) ∧
  (∀ (s : State) (link : Fin 16) (lane : Fin 4) (ef : Fin 256), lkAlign ≤ s.get Obj.linkState link →
      s.get Obj.linkState link ≤ lkOneLane → 64 ≤ ef.val → ef.val < 96 →
      ∃ t, exec (.eyeScanComplete link lane ef) s = .next t ∧ t.get Obj.eyeFigure link lane = ef.val ∧
      t.get Reg.laneGoodScans (4 * link + lane) = 0 ∧ t.get Reg.laneLowScans (4 * link + lane) = 0 ∧
      t.get Reg.laneScans (4 * link + lane) = s.get Reg.laneScans (4 * link + lane) + 1) ∧
  (∀ (s : State) (link : Fin 16) (lane : Fin 2) (b : List Byte) (rest : List (List Byte)), s.log Reg.serviceQueue (2 * link + lane) = b :: rest →
      s.getN Reg.serviceProgressAt (2 * link + lane) + 16 ≤ s.frame → s.get Reg.serviceResendRun (2 * link + lane) < 8 →
      ∃ t, exec (.serviceResendTimeout link lane) s = .next t ∧
      t.get Obj.serviceResends link = (s.get Obj.serviceResends link + 1) % 4294967296 ∧
      t.get Reg.serviceResendRun (2 * link + lane) = s.get Reg.serviceResendRun (2 * link + lane) + 1) ∧
  (∀ (s : State) (link : Fin 16), linkUp s link = true → s.get Obj.staleLimit ≤ s.get Reg.linkMisses link →
      ∃ t, exec (.staleLimitReached link) s = .next t ∧ t.get Obj.linkState link = lkLost) ∧
  (∀ (s : State) (link : Fin 16), linkUp s link = true → s.getN Reg.dispatchedFrame link ≠ s.frame + 1 →
      ∃ t, exec (.dispatchDeadline link) s = .next t ∧
      t.get Obj.dispatchMisses = (s.get Obj.dispatchMisses + 1) % 4294967296 ∧
      t.get Reg.linkDispatchMisses link = s.get Reg.linkDispatchMisses link + 1) ∧
  (∀ (s : State) (link : Fin 16), s.get Obj.linkState link = lkLost → s.getN Reg.linkSince link + 50 ≤ s.frame →
      ∃ t, exec (.linkLostKeepAliveEnd link) s = .next t ∧ t.get Reg.contactorWord link = 0) ∧
  (∀ (s : State) (link : Fin 16), s.get Obj.linkState link = lkLost → s.getN Reg.linkSince link + 500 ≤ s.frame →
      s.is Reg.ckuPresent link = true → s.is Reg.firmwareActivating link = false →
      ∃ t, exec (.linkLostRetry link) s = .next t ∧ t.get Obj.linkState link = lkAlign ∧ t.get Reg.linkBringUpAt link = s.now) ∧
  (∀ (s u : State) (r : Req) (link : Fin 16) (d : List Byte) (role space : Nat),
      Granted r Obj.firmwareData link 0 d role space s u →
      ∃ t, exec (.firmwareDataWrite r link d) s = .next t ∧
      t.get Obj.firmwareWriteOffset link = (u.get Obj.firmwareWriteOffset link + d.length) % 4294967296) ∧
  (∀ (s u : State) (r : Req) (link : Fin 16) (d : List Byte) (role space : Nat),
      Granted r Obj.activateTerminalFirmware link 0 d role space s u → cabEnergised u link = false →
      ∃ t, exec (.activateTerminalFirmware r link d) s = .next t ∧ t.get Reg.firmwareActivating link = 1)

/-- An outlet takes its inputs. The last pilot, proximity and interlock readings are shown, contactor feedback that
differs from the command 100 ms after the coils changed is a contactor fault, the fault is cleared when the feedback
is open, the insulation monitor's status is taken, its silence of 300 ms is noticed once, the keep-alive goes out
each second, and the weld test passes from its first half to its second. Parts of R157, R158, R159, R160, R173,
R181. -/
def Obligations.OutletInputsTaken : Prop :=
  (∀ (s : State) (outlet : Fin 24) (a b : Int), s.get Obj.pilotState outlet = 5 →
      ∃ t, exec (.pilotStateChange outlet [(a, b)]) s = .next t ∧ t.get Obj.pilotPositive outlet = a ∧
      t.get Obj.pilotNegative outlet = b ∧ t.get Obj.pilotState outlet = 5) ∧
  (∀ (s : State) (outlet : Fin 24) (x : Nat), ∃ t, exec (.proximityStateChange outlet [x]) s = .next t ∧
      t.get Obj.proximityResistance outlet = (min 65535 x : Nat)) ∧
  (∀ (s : State) (outlet : Fin 24) (x : Nat), ∃ t, exec (.hvilStateChange outlet [x]) s = .next t ∧
      t.get Obj.hvilResistance outlet = (min 65535 x : Nat)) ∧
  (∀ (s : State) (outlet : Fin 24) (feedback : Fin 4), s.getN Reg.coilsAt outlet + 100 * millisecond < s.now →
      commandedBits s outlet ≠ feedback → ∃ t, exec (.contactorFeedbackFault outlet feedback) s = .next t ∧
      t.get Obj.contactorFeedback outlet = feedback.val ∧ t.get Reg.contactorFault outlet ≠ 0) ∧
  (∀ (s u : State) (r : Req) (outlet : Fin 24) (d : List Byte) (role space : Nat),
      Granted r Obj.clearContactorFault outlet 0 d role space s u → u.get Obj.contactorFeedback outlet = 0 →
      ∃ t, exec (.clearContactorFault r outlet d) s = .next t ∧ t.get Reg.contactorFault outlet = 0) ∧
  (∀ (s : State) (outlet : Fin 24) (frame : List Byte), frame.length = 8 →
      ∃ t, exec (.imdStatusFrame outlet frame) s = .next t ∧ t.get Reg.imdStatus outlet = ofBytes (frame.take 1) ∧
      t.get Obj.insulationResistance outlet = ofBytes ((frame.drop 2).take 4) ∧ t.get Reg.imdAt outlet = s.now) ∧
  (∀ (s : State) (outlet : Fin 24), s.getN Reg.imdAt outlet + 300 * millisecond ≤ s.now →
      ∃ t, exec (.imdSilent outlet) s = .next t ∧ t.get Reg.imdSilent outlet = 1) ∧
  (∀ (s : State) (outlet : Fin 24), s.getN Reg.imdSentAt outlet + second ≤ s.now →
      ∃ t, exec (.imdKeepAlive outlet) s = .next t ∧
      t.get Reg.imdSequence outlet = (s.get Reg.imdSequence outlet + 1) % 256 ∧ t.get Reg.imdSentAt outlet = s.now) ∧
  (∀ (s : State) (outlet : Fin 24), s.get Reg.weldHalf outlet = 1 → 100 ≤ s.get Reg.weldRun outlet →
      ∃ t, exec (.weldTestHalfComplete outlet) s = .next t ∧ t.get Reg.weldHalf outlet = 2 ∧ t.get Reg.weldRun outlet = 0)

/-- A vehicle is matched, identified and authorised. SLAC gives a key, arbitration records the attenuations heard, SDP
and TCP answer, an offered protocol takes the outlet to its identification state, the identifier is shown,
authorisation is answered and written, the certificate exchange is served and lapses after 60 s, and an expired
authorisation or a lost communication ends the session. Parts of R162, R163, R164, R165, R167, R169, R182, R187,
R188. -/
def Obligations.ChargingSessionOpens : Prop :=
  (∀ (s : State) (outlet : Fin 24) (runId : Nat), s.get Obj.outletMode outlet = 0 → pwmRuns s outlet = true →
      s.get Obj.pilotState outlet = 1 → randomGood s = true →
      ∃ t, exec (.cmSlacParmReq outlet runId) s = .next t ∧ t.get Reg.slacRun outlet = runId + 1) ∧
  (∀ (s : State) (runId a : Nat) (outlet : Fin 24), s.get Obj.outletState outlet = 1 →
      ∃ t, exec (.slacRunArbitration runId [(outlet, a)]) s = .next t ∧
      t.get Obj.slacMeanAttenuation outlet = (min 255 a : Nat)) ∧
  (∀ (s : State) (outlet : Fin 24), (s.getN Obj.protocolMask outlet).testBit 2 = true →
      ∃ t, exec (.sdpRequest outlet true) s = .next t ∧
      t.out = [Emission.vehicle outlet 3 [noticeOf s outlet, 49152 + (outlet.val : Int), 0]]) ∧
  (∀ (s : State) (outlet : Fin 24), s.is Reg.tcpOpen outlet = false →
      ∃ t, exec (.tcpConnection outlet) s = .next t ∧ t.get Reg.tcpOpen outlet = 1) ∧
  (∀ (s : State) (outlet : Fin 24) (option : Nat), s.get Obj.outletState outlet = 1 →
      optionAllowed s outlet option = true →
      ∃ t, exec (.supportedAppProtocol outlet [option]) s = .next t ∧ t.get Obj.outletState outlet = 2 ∧
      t.get Obj.protocolInUse outlet = protocolOf option) ∧
  (∀ (s : State) (outlet : Fin 24), 1 ≤ s.get Obj.outletState outlet → s.get Obj.outletState outlet < 4 →
      ∃ t, exec (.communicationLost outlet) s = .next t ∧ t.get Reg.vehicleStopped outlet = 1 ∧
      t.get Obj.outletState outlet = 9) ∧
  (∀ (s : State) (outlet : Fin 24) (contract good : Bool) (evccid emaid : List Byte), s.get Obj.outletState outlet = 2 →
      contextOf s outlet = none →
      ∃ t, exec (.vehicleIdentified outlet contract good evccid emaid) s = .next t ∧
      t.bytes Obj.evccid outlet = fitBytes 6 evccid) ∧
  (∀ (s : State) (outlet : Fin 24), s.get Obj.outletState outlet = 3 →
      ∃ t, exec (.authorisationRequest outlet) s = .next t ∧ t.out = [Emission.vehicle outlet 7 [noticeOf s outlet, 1]]) ∧
  (∀ (s u : State) (r : Req) (ctx : Fin 250) (outlet : Nat) (d : List Byte) (role space : Nat),
      Granted r Obj.ctxAuthorisation ctx 0 d role space s u → ofBytes d = 1 → flushContext ctx u = u →
      outletOf u ctx = some outlet → u.get Obj.ctxState ctx = cxBound → u.get Obj.outletState outlet = 2 →
      u.get Obj.ctxAuthorisation ctx = 0 →
      ∃ t, exec (.authorisationWrite r ctx d) s = .next t ∧ t.get Obj.ctxAuthorisation ctx = 1 ∧
      t.get Obj.outletState outlet = 3) ∧
  (∀ (s : State) (outlet : Fin 24), s.get Obj.outletState outlet = 2 → contextOf s outlet ≠ none →
      s.get Reg.authorisationAt outlet + s.get Obj.authorisationTimeout outlet * second ≤ s.now →
      ∃ t, exec (.authorisationTimeout outlet) s = .next t ∧ t.get Obj.outletState outlet = 9) ∧
  (∀ (s : State) (outlet : Fin 24) (body : List Byte), 2 ≤ s.get Obj.protocolInUse outlet →
      ∃ t, exec (.certificateRequest outlet body) s = .next t ∧
      t.bytes Obj.certificateRequestBody outlet = body.take 8192 ∧ t.get Reg.certificateAt outlet = s.now + 1) ∧
  (∀ (s u : State) (r : Req) (outlet : Fin 24) (d : List Byte) (role space : Nat),
      Granted r Obj.certificateResponseBody outlet 0 d role space s u →
      ∃ t, exec (.certificateResponseWrite r outlet d) s = .next t ∧ t.get Reg.certificateAt outlet = 0) ∧
  (∀ (s : State) (outlet : Fin 24), s.get Reg.certificateAt outlet ≠ 0 →
      s.getN Reg.certificateAt outlet + 60 * second ≤ s.now + 1 →
      ∃ t, exec (.certificateTimeout outlet) s = .next t ∧ t.get Reg.certificateAt outlet = 0)

/-- Cable check, pre-charge and delivery. The cable check begins when the outlet may be checked, goes through its ramp
and fails at its timeout; pre-charge takes the vehicle's target, power delivery starts after 8 good frames; a demand
of the vehicle is recorded; the timeouts and the excesses of pre-charge and delivery stop the session; closed
contactors are reported. Parts of R168, R172, R174, R175, R176, R177, R178, R227. -/
def Obligations.ChargingSessionDelivers : Prop :=
  (∀ (s : State) (outlet : Fin 24), s.get Obj.outletState outlet = 3 → mayCableCheck s outlet = true →
      ∃ t, exec (.cableCheckReq outlet) s = .next t ∧ t.get Obj.outletState outlet = 4 ∧ t.get Reg.checkStep outlet = 1 ∧
      t.get Reg.checkAt outlet = s.now) ∧
  (∀ (s : State) (outlet : Fin 24), plusCommanded s outlet = true → minusCommanded s outlet = true →
      ∃ t, exec (.outletContactorsClosed outlet) s = .next t ∧
      t.get Obj.contactorFeedback outlet = (commandedBits s outlet : Nat)) ∧
  (∀ (s : State) (outlet : Fin 24), s.get Obj.outletState outlet = 4 → s.get Reg.checkStep outlet = 3 →
      s.get Reg.pausedAt outlet = 0 → s.get Reg.rampStart outlet + 2500 ≤ s.frame →
      ∃ t, exec (.cableCheckRampEnd outlet) s = .next t ∧ t.get Reg.checkStep outlet = 4 ∧
      t.get Reg.checkStepAt outlet = s.now) ∧
  (∀ (s : State) (outlet : Fin 24), s.get Obj.outletState outlet = 4 → s.get Reg.checkStep outlet = 1 →
      s.get Reg.pausedAt outlet = 0 → s.get Reg.checkAt outlet + s.get Obj.cableCheckTimeout outlet * second ≤ s.now →
      ∃ t, exec (.cableCheckTimeout outlet) s = .next t ∧ t.get Obj.outletState outlet = 9) ∧
  (∀ (s : State) (outlet : Fin 24) (target : Nat), s.get Obj.outletState outlet = 5 → s.get Reg.pausedAt outlet = 0 →
      ∃ t, exec (.preChargeReq outlet target) s = .next t ∧ t.get Reg.preTarget outlet = (min 150000 target : Nat) ∧
      t.get Obj.evTargetVoltage outlet = target) ∧
  (∀ (s : State) (outlet : Fin 24), s.get Obj.outletState outlet = 5 → 50 ≤ s.get Reg.preCurrentRun outlet →
      s.get Reg.stopKind outlet = 0 →
      ∃ t, exec (.preChargeCurrentExceeded outlet) s = .next t ∧ t.get Reg.stopKind outlet = 2 ∧
      t.get Obj.outletState outlet = 8) ∧
  (∀ (s : State) (outlet : Fin 24), s.get Obj.outletState outlet = 5 → s.get Reg.pausedAt outlet = 0 →
      8 ≤ s.get Reg.preChargeRun outlet →
      ∃ t, exec (.powerDeliveryStart outlet) s = .next t ∧ t.get Obj.outletState outlet = 6 ∧
      t.get Reg.demandAt outlet = s.now) ∧
  (∀ (s : State) (outlet : Fin 24), s.get Obj.outletState outlet = 5 → s.get Reg.pausedAt outlet = 0 →
      s.get Reg.outletSince outlet + s.get Obj.preChargeTimeout outlet * (100 * millisecond) ≤ s.now →
      s.get Reg.stopKind outlet = 0 →
      ∃ t, exec (.preChargeTimeout outlet) s = .next t ∧ t.get Reg.stopKind outlet = 1 ∧ t.get Obj.outletState outlet = 8) ∧
  (∀ (s : State) (outlet : Fin 24) (tv ti mv mi soc : Nat) (marked : Bool), s.get Obj.outletState outlet = 6 →
      ∃ t, exec (.currentDemandReq outlet tv ti mv mi soc 0 marked) s = .next t ∧ t.get Obj.evTargetVoltage outlet = tv ∧
      t.get Obj.evMaximumVoltage outlet = mv ∧ t.get Reg.demandAt outlet = s.now) ∧
  (∀ (s : State) (outlet : Fin 24), s.get Obj.outletState outlet = 6 →
      s.get Reg.demandAt outlet + s.get Obj.demandSilenceLimit outlet * millisecond ≤ s.now → s.get Reg.stopKind outlet = 0 →
      ∃ t, exec (.demandSilenceTimeout outlet) s = .next t ∧ t.get Obj.outletState outlet = 7 ∧
      t.get Reg.vehicleStopped outlet = 1) ∧
  (∀ (s : State) (outlet : Fin 24), s.get Obj.outletState outlet = 6 → 10 ≤ s.get Reg.evOverRun outlet →
      s.get Reg.stopKind outlet = 0 →
      ∃ t, exec (.evOverVoltage outlet) s = .next t ∧ t.get Reg.stopKind outlet = 2) ∧
  (∀ (s : State) (outlet : Fin 24) (mv mi tv soc : Nat), soc ≤ 100 →
      ∃ t, exec (.vehicleRequest outlet 0 mv mi tv soc) s = .next t ∧ t.get Obj.evMaximumVoltage outlet = mv ∧
      t.get Obj.evTargetVoltage outlet = tv ∧ t.get Obj.stateOfCharge outlet = soc)

/-- A charging session stops step by step. A stop of the vehicle or of the host begins the stop sequence; the current's
decay or 50 000 frames end its first step; the discharged output opens the contactors, a remaining voltage leaves a
weld test outstanding; open contactors end the sequence; an emergency opens them after its delay; no capacity for
the limit ends a session that waits. Parts of R179, R180, R181, R182. -/
def Obligations.ChargingSessionStops : Prop :=
  (∀ (s : State) (outlet : Fin 24), s.get Obj.outletState outlet = 6 → s.get Reg.stopKind outlet = 0 →
      ∃ t, exec (.powerDeliveryStop outlet) s = .next t ∧ t.get Obj.outletState outlet = 7 ∧ t.get Reg.stopKind outlet = 1 ∧
      t.get Reg.stopStep outlet = 1) ∧
  (∀ (s : State) (outlet : Fin 24), 3 ≤ s.get Reg.lowCurrentRun outlet → s.get Reg.stopKind outlet = 1 →
      s.get Obj.outletState outlet = 7 → s.get Reg.stopStep outlet < 2 → s.get Reg.stopFrame outlet + 3 ≤ s.frame →
      s.is Reg.vehicleStopped outlet = false →
      ∃ t, exec (.stopCurrentDecayed outlet) s = .next t ∧ t.get Reg.stopStep outlet = 2 ∧ t.get Reg.stopAt outlet = s.now) ∧
  (∀ (s : State) (outlet : Fin 24), s.get Reg.stopKind outlet = 1 → s.get Obj.outletState outlet = 7 →
      s.get Reg.stopStep outlet < 2 → s.get Reg.stopFrame outlet + 50000 ≤ s.frame → s.is Reg.vehicleStopped outlet = false →
      ∃ t, exec (.stopCurrentTimeout outlet) s = .next t ∧ t.get Reg.stopForced outlet = 1 ∧ t.get Reg.stopStep outlet = 2) ∧
  (∀ (s : State) (outlet : Fin 24), s.get Obj.outletState outlet = 8 → s.get Reg.stopStep outlet = 3 →
      outletDead s outlet = true → plusCommanded s outlet = true →
      ∃ t, exec (.outputDischarged outlet) s = .next t ∧ t.get Reg.stopStep outlet = 5 ∧ t.get Reg.stopAt outlet = s.now) ∧
  (∀ (s : State) (outlet : Fin 24), s.get Obj.outletState outlet = 8 → s.get Reg.stopStep outlet = 3 →
      outletDead s outlet = false → outletQuiet s outlet = true → s.getN Reg.stopAt outlet + second ≤ s.now →
      ∃ t, exec (.vehicleVoltageRemains outlet) s = .next t ∧ t.get Obj.weldOutstanding outlet = 1 ∧
      t.get Reg.weldSkip outlet = 1) ∧
  (∀ (s : State) (outlet : Fin 24), plusCommanded s outlet = false → minusCommanded s outlet = false →
      s.get Obj.outletState outlet = 8 → s.get Reg.stopStep outlet = 5 → s.is Reg.weldSkip outlet = true →
      ∃ t, exec (.outletContactorsOpen outlet) s = .next t ∧ t.get Obj.outletState outlet = 9 ∧
      t.get Reg.stopStep outlet = 7) ∧
  (∀ (s : State) (outlet : Fin 24), s.get Reg.stopKind outlet = 2 → plusCommanded s outlet = true →
      s.get Reg.weldHalf outlet = 0 → s.get Reg.stopFrame outlet + s.get Obj.emergencyOpenDelay outlet ≤ s.frame →
      ∃ t, exec (.emergencyOpenDelay outlet) s = .next t ∧ t.get Obj.outletState outlet = 8 ∧ t.get Reg.stopStep outlet = 5) ∧
  (∀ (s : State) (outlet : Fin 24), s.get Reg.pausedAt outlet = 0 → s.get Reg.noCapacityAt outlet ≠ 0 →
      s.get Reg.noCapacityAt outlet + s.get Obj.noCapacityLimit outlet * second ≤ s.now + 1 →
      s.get Obj.outletState outlet = 3 →
      ∃ t, exec (.noCapacityTimeout outlet) s = .next t ∧ t.get Obj.outletState outlet = 9) ∧
  (∀ (s u : State) (r : Req) (outlet : Fin 24) (role space : Nat),
      Granted r Obj.stopSession outlet 0 [1] role space s u → u.get Obj.outletState outlet = 6 →
      u.get Reg.stopKind outlet = 0 →
      ∃ t, exec (.stopSessionNormal r outlet) s = .next t ∧ t.get Reg.stopKind outlet = 1 ∧ t.get Obj.outletState outlet = 7) ∧
  (∀ (s u : State) (r : Req) (outlet : Fin 24) (role space : Nat),
      Granted r Obj.stopSession outlet 0 [2] role space s u → u.get Obj.outletState outlet = 6 →
      u.get Reg.stopKind outlet = 0 →
      ∃ t, exec (.stopSessionEmergency r outlet) s = .next t ∧ t.get Reg.stopKind outlet = 2)

/-- Charging contexts are created, cancelled, stopped and expire. A create command of a free context whose data stand
gives a pending or a reserved one; a cancel frees a context that waits; the stop commands stop the outlet the
context is bound to; a context whose expiry is past is freed. Parts of R179, R180, R185, R186, R188. -/
def Obligations.ChargingContexts : Prop :=
  (∀ (s u : State) (r : Req) (ctx : Fin 250) (role space : Nat),
      Granted r Obj.ctxCommand ctx 0 [1] role space s u → createStatus (flushContext ctx u) ctx false = 0 →
      ∃ t, exec (.createPending r ctx) s = .next t ∧ t.get Obj.ctxState ctx = cxPending ∧ t.get Obj.ctxAuthorisation ctx = 0) ∧
  (∀ (s u : State) (r : Req) (ctx : Fin 250) (role space : Nat),
      Granted r Obj.ctxCommand ctx 0 [2] role space s u → createStatus (flushContext ctx u) ctx true = 0 →
      ∃ t, exec (.createReserved r ctx) s = .next t ∧ t.get Obj.ctxState ctx = cxReserved ∧ t.get Obj.ctxAuthorisation ctx = 0) ∧
  (∀ (s u : State) (r : Req) (ctx : Fin 250) (role space : Nat),
      Granted r Obj.ctxCommand ctx 0 [3] role space s u → flushContext ctx u = u → u.get Obj.ctxState ctx = cxPending →
      ∃ t, exec (.cancel r ctx) s = .next t ∧ t.get Obj.ctxState ctx = cxFree ∧ t.get Obj.ctxSerial ctx = 0 ∧
      t.get Obj.regSetOutlet ctx = 255) ∧
  (∀ (s u : State) (r : Req) (ctx : Fin 250) (outlet : Nat) (role space : Nat),
      Granted r Obj.ctxCommand ctx 0 [4] role space s u → flushContext ctx u = u → u.get Obj.ctxState ctx = cxDelivering →
      outletOf u ctx = some outlet → u.get Obj.outletState outlet = 6 → u.get Reg.stopKind outlet = 0 →
      ∃ t, exec (.contextNormalStop r ctx) s = .next t ∧ t.get Reg.stopKind outlet = 1 ∧ t.get Obj.outletState outlet = 7) ∧
  (∀ (s u : State) (r : Req) (ctx : Fin 250) (outlet : Nat) (role space : Nat),
      Granted r Obj.ctxCommand ctx 0 [5] role space s u → flushContext ctx u = u → u.get Obj.ctxState ctx = cxDelivering →
      outletOf u ctx = some outlet → u.get Obj.outletState outlet = 6 → u.get Reg.stopKind outlet = 0 →
      ∃ t, exec (.contextEmergencyStop r ctx) s = .next t ∧ t.get Reg.stopKind outlet = 2) ∧
  (∀ (s : State) (ctx : Fin 250), s.get Obj.ctxState ctx = cxPending → s.get Obj.ctxExpiry ctx ≠ 0 →
      s.get Obj.ctxExpiry ctx ≤ s.time →
      ∃ t, exec (.contextExpiry ctx) s = .next t ∧ t.get Obj.ctxState ctx = cxFree ∧ t.get Obj.ctxSerial ctx = 0)

/-- A block starts. A start of a discharged block that may start begins the test; the discharge wait ends in the test or
in a refusal with cause 1; the evaluation ends the test; the start delay's end asks for the gate drive, which ramps
the block on; the finished ramp leaves the block running; the telemetry deadline closes the frame's telemetry. Parts
of R28, R83, R85, R86, R87. -/
def Obligations.BlockStartSequence : Prop :=
  (∀ (s : State) (block : Fin 64), blockSt s block = bkOff → startCause s block = 0 → outputDischarged s block = true →
      ∃ t, exec (.blockStartRequest block) s = .next t ∧ blockSt t block = bkTest ∧
      t.get Obj.startCount block = (s.get Obj.startCount block + 1) % 4294967296) ∧
  (∀ (s : State) (block : Fin 64), s.is Reg.startWaiting block = true → blockSt s block = bkOff →
      outputDischarged s block = true →
      ∃ t, exec (.outputDischargeWaitEnd block) s = .next t ∧ blockSt t block = bkTest ∧ t.get Reg.startWaiting block = 0) ∧
  (∀ (s : State) (block : Fin 64), s.is Reg.startWaiting block = true → s.getN Reg.startAt block + 2500 ≤ s.frame →
      outputDischarged s block = false →
      ∃ t, exec (.outputDischargeTimeout block) s = .next t ∧ t.get Obj.lastStartRefusalCause block = 1 ∧
      t.get Reg.startWaiting block = 0) ∧
  (∀ (s : State) (block : Fin 64), blockSt s block = bkTest → s.getN Reg.startAt block + 4 ≤ s.frame →
      (∀ p, p ∈ usablePhases s block → s.get Reg.testOver p < 3) →
      ∃ t, exec (.shortedHighSideEvaluation block) s = .next t ∧ blockSt t block = bkStartDelay) ∧
  (∀ (s : State) (block : Fin 64), blockSt s block = bkStartDelay → s.get Reg.gateReadyBy block = 0 →
      s.getN Reg.startAt block + 5 + s.getN Obj.startDelay block ≤ s.frame + 1 →
      ∃ t, exec (.startDelayEnd block) s = .next t ∧ t.get Reg.gateReadyBy block = s.frame) ∧
  (∀ (s : State) (block : Fin 64), blockSt s block = bkStartDelay → s.get Reg.gateReadyBy block ≠ 0 →
      gateReady s (cabOfBlock block) = true →
      ∃ t, exec (.gateDriveReady block) s = .next t ∧ blockSt t block = bkRampOn ∧ t.real Reg.ramp block = 0) ∧
  (∀ (s : State) (block : Fin 64), blockSt s block = bkRampOn → 1 ≤ s.real Reg.ramp block →
      ∃ t, exec (.rampOnComplete block) s = .next t ∧ blockSt t block = bkRunning ∧ t.real Reg.ramp block = 1) ∧
  (∀ (s : State), ∃ t, exec .telemetryDeadline s = .next t ∧ t.get Reg.deadlinePassed = 1)

/-- A block stops, its phases recover. A stop of a running block ramps it off, the ramp's end begins the stop delay,
whose end leaves the block off; the over-voltage latch of a discharged outlet and a phase's lockout are cleared; a
phase whose retry delay has passed in a block that does not switch goes off; a held shedding sheds one phase. Parts
of R89, R93, R94, R96, R102. -/
def Obligations.BlockStopAndPhases : Prop :=
  (∀ (s : State) (block : Fin 64), blockSt s block = bkRunning →
      ∃ t, exec (.blockStopRequest block) s = .next t ∧ blockSt t block = bkRampOff ∧ t.get Reg.startHeld block = 0) ∧
  (∀ (s : State) (block : Fin 64), blockSt s block = bkRampOff → s.real Reg.ramp block ≤ 0 →
      ∃ t, exec (.rampOffComplete block) s = .next t ∧ blockSt t block = bkStopDelay ∧ t.real Reg.ramp block = 0) ∧
  (∀ (s : State) (block : Fin 64), blockSt s block = bkStopDelay → s.is Reg.startHeld block = false →
      s.getN Reg.blockSince block + s.getN Obj.stopDelay block ≤ s.frame →
      ∃ t, exec (.stopDelayEnd block) s = .next t ∧ blockSt t block = bkOff) ∧
  (∀ (s u : State) (r : Req) (block : Fin 64) (d : List Byte) (role space : Nat),
      Granted r Obj.clearOverVoltageLatch block 0 d role space s u → blockSt u block = bkLatched →
      u.get Obj.dcVoltage (u.getN Obj.latchingOutlet block) < 50000 →
      ((List.range 64).any fun b => blockSt u b == bkLatched && u.getN Obj.latchingOutlet b == u.getN Obj.latchingOutlet block &&
      !latchedLow u (u.getN Obj.latchingOutlet block) b) = false →
      ∃ t, exec (.clearOverVoltageLatch r block d) s = .next t ∧ t.get Reg.outletLatch (u.getN Obj.latchingOutlet block) = 0) ∧
  (∀ (s : State) (phase : Fin 256), phaseSt s phase = phRetry →
      s.getN Reg.retryAt phase + s.getN Obj.retryDelay phase ≤ s.frame → switching s (blockOf phase) = false →
      ∃ t, exec (.retryDelayEnd phase) s = .next t ∧ phaseSt t phase = phOff) ∧
  (∀ (s u : State) (r : Req) (phase : Fin 256) (d : List Byte) (role space : Nat),
      Granted r Obj.clearLockout phase 0 d role space s u → phaseSt u phase = phLocked → u.get Obj.lockoutCause phase ≠ 1 →
      blockSt u (blockOf phase) = bkOff →
      ∃ t, exec (.clearLockout r phase d) s = .next t ∧ phaseSt t phase = phOff ∧ t.get Obj.lockoutCause phase = 0) ∧
  (∀ (s : State) (block : Fin 64) (p : Nat), shedAllowed s block = true → 500 ≤ s.get Reg.shedHold block →
      shedChoice s block = some p →
      ∃ t, exec (.phaseShed block) s = .next t ∧ phaseSt t p = phShed ∧ t.get Reg.shedHold block = 0)

/-- The allocator's passes and the limits it works to. A fast pass clears the count of overruns, which an overrun raises
and whose fourth in a row stops every block; an allocation pass that ends is ready to be taken; a dynamic limit is
taken with its time and expires once; a feeder's hold of 10 s ends; a withheld block is cleared; planning passes and
topology checks begin and end; a coolant unit's status is taken and its silence held. Parts of R6, R9, R11, R129,
R130, R132, R136, R137, R141, R142, R213, R148. -/
def Obligations.AllocatorPasses : Prop :=
  (∀ (s : State), ∃ t, exec .allocatorFastPass s = .next t ∧ t.get Reg.fastPassRun = 0) ∧
  (∀ (s : State), ∃ t, exec .allocatorFastPassOverrun s = .next t ∧
      t.get Obj.fastPassOverruns = (s.get Obj.fastPassOverruns + 1) % 4294967296 ∧
      t.get Reg.fastPassRun = s.get Reg.fastPassRun + 1) ∧
  (∀ (s : State) (block : Fin 64), 4 ≤ s.get Reg.fastPassRun →
      ∃ t, exec .fastPassOverrunLimit s = .next t ∧ t.get Reg.startHeld block = 0 ∧ t.get Reg.startWaiting block = 0) ∧
  (∀ (s : State), s.is Reg.allocRunning = true →
      ∃ t, exec .allocationPassComplete s = .next t ∧ t.get Reg.allocRunning = 0 ∧ t.get Reg.allocReady = 1) ∧
  (∀ (s u : State) (r : Req) (d : List Byte) (role space : Nat),
      Granted r Obj.dynamicSiteImportLimit 0 0 d role space s u →
      ∃ t, exec (.dynamicLimitWrite r d) s = .next t ∧ t.get Obj.dynamicSiteImportLimit = ofBytes d ∧
      t.get Reg.dynamicAt = u.now ∧ t.get Reg.dynamicExpired = 0) ∧
  (∀ (s : State), s.getN Obj.dynamicLimitHoldTime ≠ 0 → s.is Reg.dynamicExpired = false →
      s.getN Reg.dynamicAt + s.getN Obj.dynamicLimitHoldTime * second ≤ s.now →
      ∃ t, exec .dynamicLimitExpiry s = .next t ∧ t.get Reg.dynamicExpired = 1) ∧
  (∀ (s : State) (feeder : Fin 4), s.get Reg.mainsAt feeder ≠ 0 → s.getN Reg.mainsAt feeder + 10 * second ≤ s.now + 1 →
      ∃ t, exec (.mainsPresentHoldEnd feeder) s = .next t ∧ t.get Reg.mainsAt feeder = 0) ∧
  (∀ (s u : State) (r : Req) (block : Fin 64) (d : List Byte) (role space : Nat),
      Granted r Obj.clearWithhold block 0 d role space s u → allReportedOpen u block = true →
      u.get Obj.allocState block = 7 → u.get Obj.withholdCause block ≠ 3 →
      ∃ t, exec (.clearWithhold r block d) s = .next t ∧ t.get Obj.allocState block = 0 ∧ t.get Obj.withholdCause block = 0 ∧
      t.get Obj.boundOutlet block = 255) ∧
  (∀ (s : State), s.is Obj.planningEnable = true → s.is Reg.planDue = false → timeSecond s % 10 = 0 →
      s.get Reg.planSecond ≠ timeSecond s + 1 →
      ∃ t, exec (.planningPass false) s = .next t ∧ t.get Reg.planAt = s.now + 1 ∧ t.get Reg.planDue = 1) ∧
  (∀ (s : State), s.is Reg.planDue = true → s.getN Reg.planAt + 10 * second ≤ s.now + 1 →
      ∃ t, exec .planningPassTimeout s = .next t ∧ t.get Reg.planDue = 0) ∧
  (∀ (s : State), mayCheck s = true → s.get Obj.role = roSolo → s.get Obj.topologyResult = 0 →
      ∃ t, exec .topologyCheck s = .next t ∧ t.get Obj.topologyResult = 1) ∧
  (∀ (s : State), mayCheck s = true → s.get Obj.topologyResult = 1 → topologyAwaits s = false →
      ∃ t, exec .topologyCheckComplete s = .next t ∧ t.get Reg.topologyDue = 0 ∧ t.get Reg.topologyFull = 0) ∧
  (∀ (s u : State) (r : Req) (role space : Nat), Granted r Obj.runTopologyCheck 0 0 [1] role space s u →
      ∃ t, exec (.runTopologyCheck r) s = .next t ∧ t.get Reg.topologyDue = 1 ∧ t.get Reg.topologyFull = 1 ∧
      t.get Obj.topologyResult = 1) ∧
  (∀ (s : State) (outlet : Fin 24) (frame : List Byte), s.get Obj.coolantBus outlet ≠ 0xFF → frame.length = 8 →
      ∃ t, exec (.coolantStatusFrame outlet frame) s = .next t ∧
      t.get Obj.coolantStatus outlet = ((frame.headD 0).toNat : Nat) ∧
      t.get Reg.coolantFlow outlet = ofBytes ((frame.drop 2).take 2) ∧ t.get Reg.coolantAt outlet = s.now) ∧
  (∀ (s : State) (outlet : Fin 24), s.get Obj.coolantBus outlet ≠ 0xFF → s.is Obj.coolantSilent outlet = false →
      s.getN Reg.coolantAt outlet + 500 * millisecond ≤ s.now →
      ∃ t, exec (.coolantUnitSilent outlet) s = .next t ∧ t.get Obj.coolantSilent outlet = 1 ∧ t.get Obj.flowUsed outlet = 0)

/-- A block moves between outlets. A move that is queued and may begin starts, opens the source's reach when the block
carries no current, waits, pre-charges, closes the target's reach, is reported closed and settles; each step's
timeout drops the move or withholds the block. Parts of R149, R150, R151. -/
def Obligations.BlockMigration : Prop :=
  (∀ (s : State) (block : Fin 64), s.get Reg.mvQueued block ≠ 0 → s.get Reg.mvKind block = 0 →
      mayMove s block (s.get Reg.mvQueued block) (s.getN Reg.mvQueuedTo block) = true →
      ∃ t, exec (.migrationStart block) s = .next t ∧ t.get Reg.mvKind block = s.get Reg.mvQueued block ∧
      t.get Reg.mvStep block = 1 ∧ t.get Reg.mvM block = s.frame ∧ t.get Reg.mvQueued block = 0) ∧
  (∀ (s : State) (block : Fin 64), s.get Reg.mvStep block = 1 → mayOpenReach s block = true →
      s.getN Reg.mvM block + 1003 ≤ s.frame →
      ∃ t, exec (.migrationReachOpen block) s = .next t ∧ t.get Reg.mvStep block = 3 ∧ t.get Reg.mvO block = s.frame ∧
      t.get Obj.blockShare block = 0) ∧
  (∀ (s : State) (block : Fin 64), s.get Reg.mvStep block = 3 → s.getN Reg.mvO block + 1500 ≤ s.frame →
      allReportedOpen s block = true →
      ∃ t, exec (.migrationWaitEnd block) s = .next t ∧ t.get Reg.mvStep block = 4 ∧ t.get Obj.boundOutlet block = 255) ∧
  (∀ (s : State) (block : Fin 64) (reach : Nat), reachTo s block (s.getN Reg.mvTarget block) = some reach →
      s.get Reg.mvStep block = 4 → s.get Reg.mvKind block = 1 → 8 ≤ s.get Reg.nearRun block →
      preChargeFrom s block + 1008 ≤ s.frame → mayCloseReach s block (s.getN Reg.mvTarget block) = true →
      ∃ t, exec (.migrationPreChargeDone block) s = .next t ∧ t.get Reg.mvStep block = 6 ∧ t.get Obj.allocState block = 4 ∧
      t.get Obj.boundOutlet block = s.getN Reg.mvTarget block) ∧
  (∀ (s : State) (block : Fin 64) (reach : Nat), reachTo s block (s.getN Reg.mvTarget block) = some reach →
      s.get Reg.mvStep block = 6 → contactorReported s block reach = 1 →
      ∃ t, exec (.migrationClosedReported block) s = .next t ∧ t.get Reg.mvStep block = 7 ∧ t.get Reg.mvK block = s.frame) ∧
  (∀ (s : State) (block : Fin 64), s.get Reg.mvStep block = 7 → s.getN Reg.mvK block + 1000 ≤ s.frame →
      ∃ t, exec (.migrationSettled block) s = .next t ∧ t.get Obj.allocState block = 1 ∧
      t.get Obj.migrationsCompleted = (s.get Obj.migrationsCompleted + 1) % 4294967296) ∧
  (∀ (s : State) (block : Fin 64), s.get Reg.mvStep block = 1 → s.getN Reg.mvM block + 1250 ≤ s.frame →
      mayOpenReach s block = false →
      ∃ t, exec (.migrationOpenTimeout block) s = .next t ∧ t.get Obj.allocState block = 1) ∧
  (∀ (s : State) (block : Fin 64), s.get Reg.mvStep block = 4 → s.get Reg.mvKind block = 1 →
      preChargeFrom s block + 5000 ≤ s.frame →
      ∃ t, exec (.migrationPreChargeTimeout block) s = .next t ∧ t.get Obj.boundOutlet block = 255 ∧
      t.get Obj.blockShare block = 0) ∧
  (∀ (s : State) (block : Fin 64) (reach : Nat), reachTo s block (s.getN Reg.mvTarget block) = some reach →
      s.get Reg.mvStep block = 6 → s.getN Reg.mvC block + 2000 ≤ s.frame →
      ∃ t, exec (.migrationCloseTimeout block) s = .next t ∧ t.get Obj.allocState block = 7 ∧
      t.get Obj.withholdCause block = (if contactorReported s block reach = 3 then 2 else 1))

/-- The loop engine's slots, injections and captures. A fast-class evaluation records its window; 50 000 frames without
a mismatch allow the starts again; unfinished slots at the deadline are flagged and counted, eight such frames stop
the blocks of a module alone; presets, clears and parents are taken; injections and captures start and end; the
dispatch of a frame keeps the numbers of the commands it sends. Parts of R28, R50, R112, R113, R119, R120, R123,
R126, R127. -/
def Obligations.LoopSlotsAndCaptures : Prop :=
  (∀ (s : State) (mism again late : List Nat) (done peak : Nat),
      ∃ t, exec (.fastClassEvaluation mism again late done peak) s = .next t ∧
      t.get Obj.fastWindowLast = (min 65535 done : Nat)) ∧
  (∀ (s : State) (block : Fin 64), s.getN Reg.lastMismatch + 50000 ≤ s.frame →
      ∃ t, exec .mismatchFreePeriodEnd s = .next t ∧ t.get Reg.startRefused block = 0) ∧
  (∀ (s : State), s.seq Reg.unfinished ≠ [] →
      ∃ t, exec .fastClassDeadline s = .next t ∧ t.get Obj.fastOverruns = (s.get Obj.fastOverruns + 1) % 4294967296 ∧
      t.get Reg.fastOverrunRun = s.get Reg.fastOverrunRun + 1 ∧ t.seq Reg.unfinished = []) ∧
  (∀ (s : State), 8 ≤ s.get Reg.fastOverrunRun → standbyFit s = true →
      ∃ t, exec .fastClassOverrunLimit s = .next t ∧ t.get Reg.handoverDue = 1) ∧
  (∀ (s : State) (block : Fin 64), 8 ≤ s.get Reg.fastOverrunRun → standbyFit s = false →
      ∃ t, exec .fastClassOverrunLimit s = .next t ∧ t.get Reg.startHeld block = 0) ∧
  (∀ (s u : State) (r : Req) (slot : Fin 1024) (d : List Byte) (role space : Nat),
      Granted r Obj.slotPreset slot 0 d role space s u →
      ∃ t, exec (.presetOutput r slot d) s = .next t ∧ t.get Reg.slotPresetDue slot = 1 ∧
      t.real Reg.slotPresetValue slot = f32Val (ofBytes d)) ∧
  (∀ (s u : State) (r : Req) (slot : Fin 1024) (d : List Byte) (role space : Nat),
      Granted r Obj.slotClear slot 0 d role space s u →
      ∃ t, exec (.clearIntegrator r slot d) s = .next t ∧ t.get Reg.slotClearDue slot = 1) ∧
  (∀ (s u : State) (r : Req) (slot : Fin 1024) (d : List Byte) (role space : Nat),
      Granted r Obj.slotParent slot 0 d role space s u →
      levelsFit (applyField 0 false ⟨Obj.slotParent.key slot 0, ofBytes d, [], false⟩
      (applyField 0 false ⟨Obj.slotRefSource.key slot 0, sourceOfParent (ofBytes d), [], false⟩ u)) = true →
      ∃ t, exec (.parentSlotWrite r slot false d) s = .next t ∧ t.get Obj.slotParent slot = ofBytes d ∧
      t.get Obj.slotRefSource slot = sourceOfParent (ofBytes d)) ∧
  (∀ (s u : State) (r : Req) (role space : Nat),
      Granted r Obj.startInjection 0 0 [1] role space s u → 416 ≤ u.getN Obj.injectionTarget →
      slotIsHeld u (u.getN Obj.injectionTarget) = false → slotEnabled u (u.getN Obj.injectionTarget) = true →
      u.get Obj.injectionState = 0 →
      ∃ t, exec (.startInjection r) s = .next t ∧ t.get Obj.injectionState = 1 ∧
      t.get Reg.injectionSlot = u.getN Obj.injectionTarget ∧ t.get Reg.injectionCount = 0) ∧
  (∀ (s u : State) (r : Req) (role space : Nat), Granted r Obj.stopInjection 0 0 [1] role space s u →
      ∃ t, exec (.stopInjection r) s = .next t ∧ t.get Obj.injectionState = 0) ∧
  (∀ (s : State), s.get Obj.injectionState = 1 → s.get Obj.injectionSignal = 1 →
      s.getN Obj.injectionLength + 16384 ≤ s.getN Reg.injectionCount →
      ∃ t, exec .injectionLengthReached s = .next t ∧ t.get Obj.injectionState = 0) ∧
  (∀ (s u : State) (r : Req) (role space : Nat), Granted r Obj.captureCommand 0 0 [1] role space s u →
      bankFree u (u.getN Obj.captureBank) = true → u.get Obj.captureState = 0 →
      ∃ t, exec (.startCapture r) s = .next t ∧ t.get Obj.captureState = 1 ∧ t.get Obj.samplesTaken = 0 ∧
      t.get Obj.captureStartFrame = u.frame) ∧
  (∀ (s u : State) (r : Req) (role space : Nat), Granted r Obj.captureCommand 0 0 [2] role space s u →
      u.get Obj.captureState = 1 → ∃ t, exec (.stopCapture r) s = .next t ∧ t.get Obj.captureState = 2) ∧
  (∀ (s : State), s.get Obj.captureState = 1 → 16384 ≤ s.get Obj.samplesTaken →
      ∃ t, exec .captureComplete s = .next t ∧ t.get Obj.captureState = 2) ∧
  (∀ (s : State) (link : Fin 16), mayDriveLanes s = true → s.get Reg.partnerActive = 0 → commanded s link = true →
      ∃ t, exec (.commandDispatch []) s = .next t ∧ t.get Reg.dispatchedFrame link = s.frame + 1)

/-- What a cabinet terminal does with a command frame. A frame that is whole, for this terminal and due at its next
boundary becomes its command, any other is dropped and counted, up to 40 boundaries without one repeat the last
pattern, the next turns the switches off, and a fault turns the phase off and is kept. Parts of R61, R62. -/
def Obligations.TerminalPlays : Prop :=
  (∀ (s : State) (link : Fin 16) (f : List Byte), f.length = 536 → ofBytes (f.drop 532) = crc32 (f.take 532) →
      fieldU f 0 1 = 0x11 → fieldU f 1 1 / 16 = link → fieldU f 4 4 = (s.get Reg.termNow link + 1) % 4294967296 →
      s.is Reg.termSynced link = true →
      ∃ t, exec (.terminalCommandAccept link false f) s = .next t ∧ t.get Reg.termNow link = s.get Reg.termNow link + 1 ∧
      t.get Reg.termMissed link = 0 ∧ t.get Reg.termLength link = fieldU f 8 2 % 16384 ∧
      t.bytes Reg.termCommand link = f.take 532 ∧ t.get Reg.termDrops link = s.get Reg.termDrops link) ∧
  (∀ (s : State) (link : Fin 16) (f : List Byte),
      ∃ t, exec (.terminalCommandAccept link true f) s = .next t ∧ t.get Reg.termNow link = s.get Reg.termNow link ∧
      t.get Reg.termDrops link = (s.get Reg.termDrops link + 1) % 65536) ∧
  (∀ (s : State) (link : Fin 16), s.get Reg.termMissed link < 40 → s.is Reg.termSynced link = true →
      ∃ t, exec (.terminalHold link) s = .next t ∧ t.get Reg.termMissed link = s.get Reg.termMissed link + 1 ∧
      t.get Reg.termNow link = s.get Reg.termNow link + 1 ∧
      t.get Reg.termIndex link = ((s.getN Reg.termIndex link + 1) % 128 : Nat)) ∧
  (∀ (s : State) (link : Fin 16) (i : Fin 16), s.get Reg.termMissed link = 40 →
      s.get Reg.termPhaseCmd (16 * link + i) ≠ 2 →
      ∃ t, exec (.terminalSafeOff link) s = .next t ∧ t.get Reg.termMode link = 2 ∧ t.get Reg.termSynced link = 0 ∧
      t.get Reg.termPhaseCmd (16 * link + i) = 0 ∧ t.seq Reg.termEdges (16 * link + i) = []) ∧
  (∀ (s : State) (phase : Fin 256) (cause : Fin 8), cause.val ≠ 0 →
      ∃ t, exec (.terminalPhaseFault phase cause) s = .next t ∧ t.get Reg.termFault phase = cause.val ∧
      t.get Reg.termPhaseCmd phase = 0 ∧ t.seq Reg.termEdges phase = [] ∧
      t.get Reg.termFaultFrame phase = s.get Reg.termNow (cabOf phase))

/-- The mains link polls, commands and hears its outstations. A half cycle without a crossing is counted as lost; a
claim round won sends the waiting frame, a call for which is repeated or given up when its response is missing; a
poll, a command, an estimation and a sounding queue their frames; a good frame of an outstation is taken once: a
status gives its inputs and outputs, an alarm is counted, an acknowledgement settles a map that was sent, a map is
installed. Parts of R340, R344, R345, R350, R351, R352. -/
def Obligations.MainsLinkExchanges : Prop :=
  (∀ (s : State), s.is Obj.linkEnable = true → s.is Reg.mplLocked = true → s.get Obj.mplState = 2 → s.get Reg.mplRun < 7 →
      ∃ t, exec .crossingMissing s = .next t ∧ t.get Reg.mplRun = s.get Reg.mplRun + 1) ∧
  (∀ (s : State) (f : List Byte), mayClaim s = true → s.log Reg.mplAwait = [] → s.log Reg.mplQueue = [f] → frPrio f < 4 →
      callsFor (frType f) = true →
      ∃ t, exec (.claimRound []) s = .next t ∧ t.log Reg.mplQueue = [] ∧ (t.log Reg.mplAwait).length = 1 ∧
      t.get Reg.mplAttempts = 1) ∧
  (∀ (s : State) (f : List Byte), s.log Reg.mplAwait = [f] → s.is Reg.mplMissed = true → mayClaim s = true →
      s.get Reg.mplAttempts < attemptLimit s (frType f) →
      ∃ t, exec .responseTimeoutRepeat s = .next t ∧ t.get Reg.mplAttempts = s.get Reg.mplAttempts + 1 ∧
      t.get Reg.mplMissed = 0) ∧
  (∀ (s : State) (outstation : Fin 63), outstation.val ≠ 0 → s.is Obj.osDeclared outstation = true → mayClaim s = true →
      s.log Reg.mplQueue = [] → s.log Reg.mplAwait = [] → s.getN Reg.osPolledAt outstation = 0 →
      ∃ t, exec (.poll outstation) s = .next t ∧ t.get Reg.osPolledAt outstation = s.now + 1 ∧
      (t.log Reg.mplQueue).length = 1) ∧
  (∀ (s u : State) (r : Req) (outstation : Fin 63) (d : List Byte) (role space : Nat),
      Granted r Obj.osCommand outstation 0 d role space s u → outstation.val ≠ 0 →
      ∃ t, exec (.outstationCommand r outstation d) s = .next t ∧ t.bytes Obj.osCommand outstation = d ∧
      t.get Obj.osOutcome outstation = 1) ∧
  (∀ (s : State) (outstation : Nat) (header body : List Byte), goodFrame s 1 header body = true →
      frSource (header.take 13) = outstation → s.getN Reg.osRxSeq outstation ≠ frSeq (header.take 13) + 1 →
      ∃ t, exec (.status header body) s = .next t ∧
      t.get Obj.osInputs outstation = ofBytes ((frPayload (header.take 13)).take 2) ∧
      t.get Obj.osOutputs outstation = ofBytes (((frPayload (header.take 13)).drop 2).take 2)) ∧
  (∀ (s : State) (outstation : Nat) (header body : List Byte), goodFrame s 4 header body = true →
      frSource (header.take 13) = outstation → s.getN Reg.osRxSeq outstation ≠ frSeq (header.take 13) + 1 →
      ∃ t, exec (.alarm header body) s = .next t ∧
      t.get Obj.osInputs outstation = ofBytes (((frPayload (header.take 13)).drop 2).take 2) ∧
      t.get Obj.osAlarms outstation = (s.get Obj.osAlarms outstation + 1) % 4294967296) ∧
  (∀ (s : State) (outstation : Nat) (header body f : List Byte), goodFrame s 3 header body = true →
      frSource (header.take 13) = outstation → s.getN Reg.osRxSeq outstation ≠ frSeq (header.take 13) + 1 →
      s.log Reg.mplAwait = [f] → frDest f = outstation → frType f = 7 →
      frSeq f = ofBytes ((frPayload (header.take 13)).take 1) →
      ∃ t, exec (.ack header body) s = .next t ∧ t.log Reg.mplAwait = [] ∧
      t.get Obj.osMap outstation 1 = s.getN Reg.osMapNew outstation) ∧
  (∀ (s : State) (outstation : Nat) (header : List Byte) (snr : List Int), goodFrame s 6 header [] = true →
      frSource (header.take 13) = outstation → s.getN Reg.osRxSeq outstation ≠ frSeq (header.take 13) + 1 →
      isDriving s = true →
      ∃ t, exec (.sound header snr) s = .next t ∧ t.get Reg.osMapNew outstation = mapFrom s snr) ∧
  (∀ (s : State) (outstation : Nat) (header body : List Byte), goodFrame s 7 header body = true →
      frSource (header.take 13) = outstation → s.getN Reg.osRxSeq outstation ≠ frSeq (header.take 13) + 1 →
      mapFits (ofBytes ((frPayload (header.take 13)).take 4)) = true →
      ofBytes (((frPayload (header.take 13)).drop 4).take 1) < 2 →
      ∃ t, exec (.map header body) s = .next t ∧
      t.get Obj.osMap outstation 0 = ofBytes ((frPayload (header.take 13)).take 4)) ∧
  (∀ (s : State) (outstation : Fin 63), s.is Obj.osDeclared outstation = true → 2 ≤ s.get Obj.osState outstation →
      mayClaim s = true → s.is Reg.osDue outstation 0 = true → s.is Reg.osEstimating outstation 0 = false →
      ∃ t, exec (.estimationDue outstation false) s = .next t ∧ t.get Reg.osEstimating outstation 0 = 1 ∧
      t.get Obj.osState outstation = 3)

/-- Billing boundaries are opened and committed. Where billing runs and no boundary of the kind waits, the end of a
demand interval, of a billing period, a tariff slot, a calendar activation, and a change of daylight saving each
join a boundary of their kind at their instant; a host closes the period and sets the activation; the record's
commit marks the boundary. Parts of R245, R246, R247, R248, R252, R255. -/
def Obligations.BillingBoundaries : Prop :=
  (∀ (s : State), intervalDue s = true → s.get Reg.bdKinds = 0 →
      ∃ t, exec .demandIntervalEnd s = .next t ∧ t.get Reg.bdKinds = 1 ∧
      t.get Reg.bdEnd = nextEnd s (s.get Reg.demandFrom) ∧ t.get Reg.bdInstant = nextEnd s (s.get Reg.demandFrom)) ∧
  (∀ (s : State) (c : Int), billingRuns s = true → s.get Reg.bdKinds = 0 →
      nextClosing s (max (s.get Reg.lastClosing) (civilTime s (s.get Reg.periodOpened))) = some c → c ≤ civilTime s s.time →
      ∃ t, exec .billingPeriodClose s = .next t ∧ t.get Reg.bdKinds = 2 ∧ t.get Reg.bdCause = 1 ∧ t.get Reg.bdClosing = c) ∧
  (∀ (s u : State) (r : Req) (role space : Nat), Granted r Obj.closePeriod 0 0 [1] role space s u →
      u.get Reg.bdKinds = 0 →
      ∃ t, exec (.closePeriod r) s = .next t ∧ t.get Reg.bdKinds = 2 ∧ t.get Reg.bdCause = 2 ∧ t.get Reg.bdInstant = u.time) ∧
  (∀ (s : State), billingRuns s = true → s.get Reg.bdKinds = 0 → slotAt s s.time ≠ s.get Obj.slotInForce →
      ∃ t, exec .tariffSlotSwitch s = .next t ∧ t.get Reg.bdKinds = 4 ∧ t.get Reg.bdInstant = s.time / minuteNs * minuteNs) ∧
  (∀ (s u : State) (r : Req) (d : List Byte) (role space : Nat),
      Granted r Obj.activationInstant 0 0 d role space s u → u.time < ofBytesI d →
      ∃ t, exec (.calendarActivationWrite r d) s = .next t ∧ t.get Obj.activationInstant = ofBytesI d ∧
      t.get Reg.activationDue = 1 ∧ t.get Reg.activationAt = ofBytesI d) ∧
  (∀ (s : State), billingRuns s = true → s.get Reg.bdKinds = 0 → s.is Reg.activationDue = true →
      s.get Reg.activationAt ≤ s.time →
      ∃ t, exec .calendarActivation s = .next t ∧ t.get Reg.bdKinds = 16 ∧ t.get Reg.bdInstant = s.get Reg.activationAt) ∧
  (∀ (s : State), billingRuns s = true → s.get Reg.bdKinds = 0 → dstShiftAt s s.time = 0 → s.is Obj.dstInForce = true →
      ∃ t, exec .dstChange s = .next t ∧ t.get Reg.bdKinds = 64 ∧ t.get Reg.bdInstant = s.time / minuteNs * minuteNs) ∧
  (∀ (s : State), s.get Reg.bdKinds ≠ 0 →
      ∃ t, exec .boundaryRecordCommitted s = .next t ∧ t.get Reg.bdCommitted = 1)

/-- Metering samples, seconds, faults and seals. A sample is counted, a second is done once, lost and returned mains and
channel faults are recorded, pulses owed are emitted, theft bursts are kept and their log cleared, the standby takes
the partner's values, the cross-check window is judged once, the seal's opening and closing are recorded, and a
metrology image is taken under the seal and armed. Parts of R218, R219, R222, R228, R231, R233, R234, R235, R237,
R239. -/
def Obligations.MeteringChain : Prop :=
  (∀ (s : State) (inputs : List Int), 2 ≤ s.get Obj.powerState → s.waiting = [] → s.is Reg.bdCommitted = false →
      ∃ t, exec (.metrologySample inputs) s = .next t ∧ t.get Reg.sampleCount = s.get Reg.sampleCount + 1) ∧
  (∀ (s : State) (feeder : Fin 4), mainsCause s feeder ≠ 0 →
      ∃ t, exec (.noMains feeder) s = .next t ∧ t.get Obj.noMains feeder = 1) ∧
  (∀ (s : State) (feeder : Fin 4), s.is Obj.noMains feeder = true → 10 ≤ s.get Reg.afGood feeder →
      ((List.range 6).any fun j => s.is Reg.channelFault (afChannel feeder j)) = false →
      ∃ t, exec (.mainsReturned feeder) s = .next t ∧ t.get Obj.noMains feeder = 0 ∧ t.get Reg.mainsAt feeder = s.now + 1) ∧
  (∀ (s : State) (channel : Fin 76), s.get Reg.secondDone ≠ s.time / 1000000000 + 1 → s.waiting = [] →
      ∃ t, exec .meteringSecond s = .next t ∧ t.get Reg.secondDone = s.time / 1000000000 + 1 ∧ t.get Reg.secCount = 0 ∧
      t.get Reg.overloads channel = 0) ∧
  (∀ (s : State) (channel : Fin 76), ∃ t, exec (.channelFault channel true) s = .next t ∧ t.get Reg.channelFault channel = 1 ∧
      t.get Reg.channelBadAt channel = s.now) ∧
  (∀ (s : State) (channel : Fin 76), s.is Reg.channelFault channel = true →
      s.getN Reg.channelBadAt channel + second ≤ s.now →
      ∃ t, exec (.channelFaultCleared channel) s = .next t ∧ t.get Reg.channelFault channel = 0) ∧
  (∀ (s : State) (output : Fin 4), 0 < s.get Obj.pulsesOwed output → s.getN Reg.pulseBusyUntil output ≤ s.now →
      ∃ t, exec (.pulseEmit output) s = .next t ∧ t.get Obj.pulsesOwed output = s.get Obj.pulsesOwed output - 1 ∧
      t.get Obj.pulsesEmitted output = (s.get Obj.pulsesEmitted output + 1) % 4294967296 ∧ t.out = [Emission.pulse output]) ∧
  (∀ (s : State) (means : List Int) (outlet : Fin 24), s.get Obj.powerState = 1 →
      means.getD outlet 0 ≤ s.get Obj.theftThreshold * 100 →
      ∃ t, exec (.theftWatchBurst means) s = .next t ∧ t.get Reg.theftExceeded outlet = 0 ∧ t.get Reg.theftOpen outlet = 0) ∧
  (∀ (s u : State) (r : Req) (role space : Nat), Granted r Obj.clearTheftLog 0 0 [1] role space s u →
      ∃ t, exec (.clearTheftLog r) s = .next t ∧ t.log Reg.theftLog = [] ∧ t.get Obj.theftEntriesInUse = 0) ∧
  (∀ (s : State) (v : Nat), s.get Obj.role = roStandby →
      ∃ t, exec (.meteringValuesSync [v]) s = .next t ∧ t.get Reg.dmSum 0 0 = v * 2 ^ 32) ∧
  (∀ (s : State) (partner : List Int) (k : Fin 32), s.time / 900000000000 ≠ s.get Reg.windowAt / 900000000000 →
      ∃ t, exec (.crossCheckWindowEnd partner) s = .next t ∧ t.get Reg.windowSum k = 0 ∧ t.get Reg.windowBad = 0) ∧
  (∀ (s : State), s.is Obj.sealOpen = false → ∃ t, exec .sealOpened s = .next t ∧ t.get Obj.sealOpen = 1) ∧
  (∀ (s : State), s.is Obj.sealOpen = true → ∃ t, exec .sealClosed s = .next t ∧ t.get Obj.sealOpen = 0) ∧
  (∀ (s u : State) (r : Req) (d : List Byte) (role space : Nat),
      Granted r Obj.metrologyImageData 0 0 d role space s u → auditFull s = false → auditFull u = false →
      u.get Obj.flashWritesPermitted = 1 → u.getN Obj.metrologyImageWriteOffset + d.length ≤ 0x400000 →
      ∃ t, exec (.metrologyImageData r d) s = .next t ∧ t.get Obj.lastAuditSequence = u.get Obj.lastAuditSequence + 1) ∧
  (∀ (s u : State) (r : Req) (role space : Nat), Granted r Obj.activateMetrologyImage 0 0 [1] role space s u →
      auditFull s = false → auditFull u = false → u.get Obj.flashWritesPermitted = 1 →
      ∃ t, exec (.activateMetrologyImage r) s = .next t ∧ t.get Reg.metrologyPending = 1)

/-- The start-up goes through its stages. Release from reset begins stage 1, a verified image stage 2, the mounted
journal stage 3, a good hold-up supply stage 4, the established role stage 5; a stage that is late is noted;
Ethernet links are shown up only at a gigabit. Parts of R15, R16, R265, R286, R424, R452, R482, R495. -/
def Obligations.StartUpStages : Prop :=
  (∀ (s : State) (simplexOpen slotOpen : Bool) (rtc : Int) (since : Nat), s.get Obj.startUpStage = 0 →
      ∃ t, exec (.porRelease simplexOpen slotOpen rtc since) s = .next t ∧ t.get Obj.startUpStage = 1 ∧
      t.get Reg.supplyHeld = 0) ∧
  (∀ (s : State), s.get Obj.startUpStage = 1 →
      ∃ t, exec .imageVerified s = .next t ∧ t.get Obj.startUpStage = 2 ∧ t.get Reg.stageAt = s.now) ∧
  (∀ (s : State), s.get Obj.startUpStage = 2 → s.is Reg.heldAtStage2 = false →
      ∃ t, exec (.journalMount true 0 false true []) s = .next t ∧ t.get Obj.startUpStage = 3) ∧
  (∀ (s : State) (holdUp : Nat), s.get Obj.startUpStage = 3 → holdUpGood holdUp = true →
      ∃ t, exec (.dictionaryAvailable holdUp) s = .next t ∧ t.get Obj.startUpStage = 4 ∧ t.get Obj.powerState = pwRun ∧
      t.get Obj.supplyMonitor 0 12 = holdUp) ∧
  (∀ (s : State), s.get Obj.startUpStage = 4 → pairing s = true →
      ∃ t, exec .roleEstablished s = .next t ∧ t.get Obj.startUpStage = 5 ∧ t.get Reg.stageAt = s.now) ∧
  (∀ (s : State), s.get Obj.startUpStage = 4 → stageOrigin 5 s + stageMax 5 < s.now →
      ∃ t, exec .startupStageTimeout s = .next t ∧ t.get Reg.stageLate = 1) ∧
  (∀ (s : State) (port : Fin 2) (gigabit : Bool),
      ∃ t, exec (.ethernetLinkUp port true gigabit) s = .next t ∧ t.get Obj.ethLinkState port = (if gigabit then 1 else 0))

/-- Frames, ticks and the time. A frame start counts the frame and clears its marks, slow ticks and housekeeping rounds
run on their frames, the requested depth is taken and applied at dither index 0, a fitting sampling lead is taken,
PTP measures its offset and delay and loses its lock after 4 s of silence, holdover ends after a day, the host sets
the time, the RTC is written each minute and the crystal is compared with it. Parts of R21, R25, R26, R30, R33, R34,
R35, R36, R37, R193. -/
def Obligations.ClockKept : Prop :=
  (∀ (s : State), s.get Obj.startUpStage ≠ 0 → s.is Reg.supplyHeld = false → s.waiting = [] →
      s.get Obj.backplane = 0 →
      ∃ t, exec .frameStart s = .next t ∧ t.get Obj.frameCounter = (s.get Obj.frameCounter + 1) % 2 ^ 64) ∧
  (∀ (s : State), s.frame % 500 = 0 → s.get Obj.startUpStage = 6 → s.get Obj.safeOutputStates % 16 ≠ 0 → s.waiting = [] →
      ∃ t, exec (.slowTick [] [] []) s = .next t ∧ t.get Obj.startUpStage = 7) ∧
  (∀ (s : State) (temps : List (Int × Int)) (supplies offs : List Nat) (fitted : Bool) (k : Fin 40), s.frame % 5000 = 0 →
      4 ≤ s.get Obj.startUpStage →
      ∃ t, exec (.housekeepingRound temps supplies fitted offs) s = .next t ∧
      t.get Obj.supplyMonitor 0 k = filterOf ((((supplies.getD k 0 : Nat) : Int) :: s.seq Reg.supplyRaw k).take 3)) ∧
  (∀ (s u : State) (r : Req) (d : List Byte) (role space : Nat), Granted r Obj.requestedDuneDepth 0 0 d role space s u →
      ∃ t, exec (.duneDepthWrite r d) s = .next t ∧ t.get Obj.requestedDuneDepth = ofBytes d) ∧
  (∀ (s : State), ditherIndex s.frame = 0 → 4 ≤ s.get Obj.startUpStage →
      ∃ t, exec .duneDepthApplied s = .next t ∧ t.get Obj.appliedDuneDepth = s.get Obj.requestedDuneDepth) ∧
  (∀ (s u : State) (r : Req) (d : List Byte) (role space : Nat), Granted r Obj.samplingLead 0 0 d role space s u →
      leadFits u (ofBytes d) = true → ∃ t, exec (.samplingLeadWrite r d) s = .next t ∧ t.get Obj.samplingLead = ofBytes d) ∧
  (∀ (s : State) (a : Announce), ptpHears s a.domain = true → a.identity.length = 8 → s.seq Reg.ptpMasters = [] →
      ∃ t, exec (.ptpAnnounce a) s = .next t ∧ t.get Reg.ptpMaster = 1 ∧ t.bytes Obj.masterIdentity = beBytes 8 (ofBytes a.identity)) ∧
  (∀ (s : State) (identity : List Byte) (domain : Nat) (diff : Int), ptpHears s domain = true →
      s.is Reg.ptpMaster = true → s.bytes Obj.masterIdentity = identity → 1000000000 < diff - s.get Reg.ptpDelay →
      ∃ t, exec (.ptpSync identity domain diff) s = .next t ∧ t.get Obj.lastPTPOffset = diff - s.get Reg.ptpDelay ∧
      t.get Reg.ptpDiff = diff ∧ t.get Reg.goodSyncs = 0) ∧
  (∀ (s : State) (identity : List Byte) (diff : Int), s.is Reg.ptpMaster = true → s.is Obj.ptpEnable = true →
      s.bytes Obj.masterIdentity = identity →
      ∃ t, exec (.ptpDelayResp identity diff) s = .next t ∧ t.get Reg.ptpDelay = (s.get Reg.ptpDiff + diff) / 2) ∧
  (∀ (s : State), s.is Reg.ptpMaster = true → s.getN Reg.ptpSyncAt + 4 * second ≤ s.now →
      s.now < s.getN Reg.ptpAnnounceAt + announceTimeout → s.get Obj.timeQuality = 3 →
      ∃ t, exec .ptpLockLost s = .next t ∧ t.get Obj.timeQuality = 2 ∧ t.get Reg.holdoverAt = s.now ∧ t.get Reg.goodSyncs = 0) ∧
  (∀ (s : State), s.get Obj.timeQuality = 2 → s.getN Reg.holdoverAt + 86400 * second ≤ s.now →
      ∃ t, exec .holdoverTimeout s = .next t ∧ t.get Obj.timeQuality = 1) ∧
  (∀ (s u : State) (r : Req) (d : List Byte) (role space : Nat), Granted r Obj.moduleTime 0 0 d role space s u →
      auditBlocks (ofBytesI d) s = false → auditBlocks (ofBytesI d) u = false → u.get Obj.timeQuality = 1 →
      |ofBytesI d - u.time| ≤ 1000000000 →
      ∃ t, exec (.moduleTimeWrite r d) s = .next t ∧ t.real Reg.slewLeft = ofBytesI d - u.time) ∧
  (∀ (s : State), 2 ≤ s.get Obj.timeQuality → s.getN Reg.rtcUpdatedAt + 60 * second ≤ s.now →
      ∃ t, exec .rtcUpdate s = .next t ∧ t.get Reg.rtcTime = s.time ∧ t.get Reg.rtcValid = 1 ∧ t.get Reg.rtcUpdatedAt = s.now) ∧
  (∀ (s : State) (ppb : Int), |ppb| ≤ 100000 →
      ∃ t, exec (.clockCheck ppb) s = .next t ∧ t.get Obj.crystalDeviationAgainstRTC = ppb ∧
      t.get Reg.clockGood = min 4 (s.get Reg.clockGood + 1) ∧ t.get Reg.clockBad = 0)

/-- Session records and tamper evidence. A context that may be sealed is recorded under the next sequence; a record that
is kept is selected, collected and released with those before it; an enabled tamper input is entered; a magnetic
reading is shown and a test asked for; a read of an address that may be read is answered with status 0. Parts of
R261, R263, R265, R266, R291. -/
def Obligations.RecordsAndTamper : Prop :=
  (∀ (s : State) (ctx : Fin 250), maySeal s ctx = true →
      ∃ t, exec (.recordSealed ctx) s = .next t ∧ t.get Reg.recordSeq = s.get Reg.recordSeq + 1 ∧
      (t.log Reg.recordStore).length = (s.log Reg.recordStore).length + 1) ∧
  (∀ (s u : State) (r : Req) (d : List Byte) (role space : Nat), Granted r Obj.recordSelector 0 0 d role space s u →
      recordOfSerial u (ofBytes d) ≠ none →
      ∃ t, exec (.recordSelect r d) s = .next t ∧ t.get Obj.recordSelector = ofBytes d) ∧
  (∀ (s u : State) (r : Req) (d e : List Byte) (role space : Nat), Granted r Obj.collectRecord 0 0 d role space s u →
      u.get Obj.lifeCycleState ≠ lcRetired → recordOfSerial u (ofBytes d) = some e →
      ∃ t, exec (.collectRecord r d) s = .next t ∧ isCollected t e = true) ∧
  (∀ (s u : State) (r : Req) (d e : List Byte) (role space : Nat), Granted r Obj.releaseUpTo 0 0 d role space s u →
      u.get Obj.lifeCycleState ≠ lcRetired → recordOfSerial u (ofBytes d) = some e → isCollected u e = true →
      ∃ t, exec (.releaseUpTo r d) s = .next t ∧ (∀ x ∈ t.log Reg.recordStore, ¬ (isCollected u x = true ∧ entrySerial x ≤ ofBytes d))) ∧
  (∀ (s : State) (input : Fin 8), s.bit Obj.tamperInputStates input = false → s.get Obj.powerState ≠ 0 →
      s.bit Obj.tamperEnable input = true →
      ∃ t, exec (.tamperInputChange input true) s = .next t ∧ t.bit Obj.tamperInputStates input = true ∧
      t.get Reg.tamperCount = s.get Reg.tamperCount + 1) ∧
  (∀ (s : State) (outlet : Fin 24) (readings : List Int), s.is Reg.magWanted outlet = true → magQuiet s outlet = true →
      readings.length = 100 →
      ∃ t, exec (.magneticCheck outlet readings) s = .next t ∧ t.get Reg.magWanted outlet = 0 ∧
      t.get Obj.magLastField outlet = fieldOf s outlet ((readings.sum : Int) / 100 : Rat) ∧
      t.get Obj.magLastTime outlet = s.time) ∧
  (∀ (s u : State) (r : Req) (d : List Byte) (outlet : Fin 24) (role space : Nat),
      Granted r Obj.runMagneticTest 0 0 d role space s u → (ofBytes d).testBit outlet = true →
      ∃ t, exec (.runMagneticTest r d) s = .next t ∧ t.get Reg.magWanted outlet = 1) ∧
  (∀ (s u v : State) (r : Req) (index sub role space : Nat) (d : List Byte), r.complete = true →
      judgeRequest r 1 index sub [] { s with out := [] } = .accept u space role false →
      readAddress index sub role u = .ok (d, v) →
      ∃ t, exec (.read r index sub) s = .next t ∧ t.out = (v.answer space r 1 0 d).out)

/-- Life-cycle transitions and the key core. An allowed transition is prepared and carried out to its state, a
retirement's confirmation lapses after 60 s, the field key's version is set, shares are masked again and blobs
wrapped again, the random source fails and restarts, an attestation and a SECC key are made, role keys are written
and a CAN role key's counter starts at 0. Parts of R268, R269, R273, R274, R275, R276, R278, R279, R282, R283. -/
def Obligations.LifeCycleAndKeys : Prop :=
  (∀ (s u : State) (r : Req) (role space : Nat), Granted r Obj.requestedTransition 0 0 [2] role space s u →
      transitionStatus u 2 role = 0 →
      ∃ t, exec (.requestField r) s = .next t ∧ t.get Reg.transitionTo = 3 ∧ t.get Reg.retireAskedAt = 0) ∧
  (∀ (s u : State) (r : Req) (role space : Nat), Granted r Obj.requestedTransition 0 0 [3] role space s u →
      transitionStatus u 3 role = 0 →
      ∃ t, exec (.requestService r) s = .next t ∧ t.get Reg.transitionTo = 4 ∧ t.get Reg.retireAskedAt = 0) ∧
  (∀ (s u : State) (r : Req) (role space : Nat), Granted r Obj.requestedTransition 0 0 [4] role space s u →
      transitionStatus u 4 role = 0 → role = roleService →
      ∃ t, exec (.requestRetired r) s = .next t ∧ t.get Reg.transitionTo = 5 ∧ t.get Reg.retireAskedAt = 0) ∧
  (∀ (s : State), s.get Reg.retireAskedAt ≠ 0 → s.getN Reg.retireAskedAt + 60 * second < s.now + 1 →
      ∃ t, exec .retiredConfirmLapse s = .next t ∧ t.get Reg.retireAskedAt = 0) ∧
  (∀ (s : State), s.get Reg.transitionTo ≠ 0 → s.get Obj.randomSourceState = 1 → s.is Reg.paired = false →
      ∃ t, exec (.transitionComplete 0) s = .next t ∧ t.get Obj.lifeCycleState = s.get Reg.transitionTo - 1 ∧
      t.get Reg.transitionTo = 0 ∧ t.get Obj.timeOfLastTransition = s.time) ∧
  (∀ (s u : State) (r : Req) (d : List Byte) (role space : Nat), Granted r Obj.fmkVersion 0 0 d role space s u →
      anySession u = false →
      ∃ t, exec (.fieldMeteringKeyVersion r d) s = .next t ∧ t.get Obj.fmkVersion = ofBytes d) ∧
  (∀ (s : State), s.getN Reg.remaskAt + 12500 ≤ s.frame → kcReady s = true →
      ∃ t, exec .reMask s = .next t ∧ t.get Reg.remaskAt = s.frame) ∧
  (∀ (s : State), s.get Reg.blobsAt + 86400 * second ≤ s.time → kcReady s = true →
      ∃ t, exec .blobRewrap s = .next t ∧ t.get Reg.blobGeneration = s.get Reg.blobGeneration + 1 ∧
      t.get Reg.blobsAt = s.time) ∧
  (∀ (s u : State) (r : Req) (index : Fin 5) (d : List Byte) (role space : Nat),
      Granted r Obj.rolePublicKey 0 index d role space s u → index.val < 3 →
      ∃ t, exec (.roleKeyWrite r index d) s = .next t ∧ t.bytes Obj.rolePublicKey 0 index = d) ∧
  (∀ (s u : State) (r : Req) (index : Fin 5) (d : List Byte) (role space ident seq : Nat) (macs : List (List Byte)),
      Granted r Obj.canRoleKey 0 index d role space s u → r.auth = Auth.session ident seq macs → index.val < 3 →
      u.get Obj.lifeCycleState = lcField → secretOf u kField ≠ [] → kcReady u = true →
      ∃ t, exec (.canRoleKeyWrite r index d) s = .next t ∧ t.get Obj.canCounter 0 index = 0 ∧ t.get Reg.canFloor index = 0) ∧
  (∀ (s u : State) (r : Req) (role space : Nat), Granted r Obj.generateSeccKey 0 0 [1] role space s u →
      u.get Obj.lifeCycleState = lcField → secretOf u kField ≠ [] → kcReady u = true → u.waiting = [] →
      ∃ t, exec (.generateSeccKeyP256 r) s = .next t ∧ t.get Reg.seccKind = 1) ∧
  (∀ (s u : State) (r : Req) (role space : Nat), Granted r Obj.generateSeccKey 0 0 [2] role space s u →
      u.get Obj.lifeCycleState = lcField → secretOf u kField ≠ [] → kcReady u = true → u.waiting = [] →
      ∃ t, exec (.generateSeccKeyP521 r) s = .next t ∧ t.get Reg.seccKind = 2) ∧
  (∀ (s u : State) (r : Req) (role space : Nat), Granted r Obj.generateSeccKey 0 0 [3] role space s u →
      u.get Obj.lifeCycleState = lcField → secretOf u kField ≠ [] → kcReady u = true → u.waiting = [] →
      ∃ t, exec (.generateSeccKeyEd448 r) s = .next t ∧ t.get Reg.seccKind = 3) ∧
  (∀ (s u : State) (r : Req) (d : List Byte) (role space : Nat), Granted r Obj.attestationNonce 0 0 d role space s u →
      attestable u = true → kcReady u = true → u.waiting = [] →
      ∃ t, exec (.attestationNonce r d) s = .next t ∧ t.get Reg.attestationSequence = u.get Reg.attestationSequence + 1) ∧
  (∀ (s : State) (test : Fin 3), test.val ≠ 0 →
      ∃ t, exec (.healthTestFailed test) s = .next t ∧ t.get Reg.sourceStartAt = s.now ∧
      t.get Obj.healthTestFailures = (s.get Obj.healthTestFailures + 1) % 4294967296 ∧ t.get Obj.randomSourceState ≠ 1) ∧
  (∀ (s : State), s.get Obj.randomSourceState = 0 →
      ∃ t, exec (.randomSourceRestart true) s = .next t ∧ t.get Obj.randomSourceState = 1)

/-- Firmware images are written, activated and confirmed. Image data are written at their offset in the slot that is not
in use; activation selects a good image for trial and changes nothing for a bad one; a trial image in use is
confirmed after 600 s. Parts of R287. -/
def Obligations.ImagesActivated : Prop :=
  (∀ (s u : State) (r : Req) (d : List Byte) (role space : Nat), Granted r Obj.imageData 0 0 d role space s u →
      u.get Obj.flashWritesPermitted = 1 → u.getN Obj.imageWriteOffset + d.length ≤ 0x1000000 →
      ∃ t, exec (.imageDataWrite r d) s = .next t ∧
      t.flashRead (imageBase (otherSlot u) + u.getN Obj.imageWriteOffset) d.length = d) ∧
  (∀ (s u : State) (r : Req) (role space : Nat), Granted r Obj.activateImage 0 0 [1] role space s u →
      ∃ t, exec (.activateImage r) s = .next t ∧ t.get Obj.trialState =
      (if imageGood u 0 (u.flashRead (imageBase (otherSlot u)) 0x1000000) then 1 else u.get Obj.trialState) ∧
      t.get Obj.bootSelection =
      (if imageGood u 0 (u.flashRead (imageBase (otherSlot u)) 0x1000000) then otherSlot u else u.get Obj.bootSelection)) ∧
  (∀ (s u : State) (r : Req) (role space : Nat), Granted r Obj.confirmTrialImage 0 0 [1] role space s u →
      u.get Obj.trialState = 1 → u.get Obj.imageInUse = u.get Reg.trialSlot → 600 * second ≤ u.now →
      ∃ t, exec (.confirmTrialImage r) s = .next t ∧ t.get Obj.trialState = 0)

/-- Host sessions are opened, confirmed and ended. An open with room, a good source and 98 bytes of payload gives the
next session; a confirmation whose tag is right makes it a session or ends it by its signature; a close ends the
session, as do 300 s of silence and the end of its life; a lockout ends with its time. Parts of R282, R307. -/
def Obligations.SessionsOfHosts : Prop :=
  (∀ (s : State) (port : Fin 2) (addr tag epoch : Nat) (payload : List Byte), 4 ≤ s.get Obj.startUpStage →
      lockedOut s addr = false → s.get Obj.randomSourceState = 1 → s.sessions.length < 16 → payload.length = 98 →
      ∃ t, exec (.open port addr tag epoch payload) s = .next t ∧ t.sessions.length = s.sessions.length + 1 ∧
      t.get Reg.nextSession = (s.getN Reg.nextSession + 1 : Nat) % 4294967296) ∧
  (∀ (s : State) (x : Session) (seq tag epoch : Nat) (sig mac : List Byte), 4 ≤ s.get Obj.startUpStage →
      s.sessions = [x] → x.opening = true → x.lastIn < seq → macsGood x 6 tag epoch 0 0 seq sig [mac] = true →
      roleKeyOf s x.role ≠ [] → sig.length = 64 →
      ∃ t, exec (.confirm x.ident seq tag epoch sig mac) s = .next t ∧ t.sessions.length =
      (if Config.ecdsaVerify 256 (roleKeyOf s x.role) (Config.sha256 x.transcript) sig then 1 else 0)) ∧
  (∀ (s u : State) (r : Req) (ident seq space role : Nat) (macs : List (List Byte)) (plain : Bool),
      r.auth = Auth.session ident seq macs → authenticate r 7 0 0 [] { s with out := [] } = .accept u space role plain →
      ∃ t, exec (.close r) s = .next t ∧ (∀ y, y ∈ t.sessions → y.ident ≠ ident)) ∧
  (∀ (s : State) (x : Session), s.sessions = [x] → x.traffic + 300 * second ≤ s.now →
      ∃ t, exec .sessionIdleTimeout s = .next t ∧ t.sessions = []) ∧
  (∀ (s : State) (x : Session), s.sessions = [x] → x.opened + 86400 * second ≤ s.now →
      ∃ t, exec .sessionLifetimeEnd s = .next t ∧ t.sessions = []) ∧
  (∀ (s : State), ∃ t, exec .openingLockoutEnd s = .next t ∧
      (∀ x, x ∈ pairsOf (t.seq Reg.lockedOut) → (s.now : Int) < x.2))

/-- Configuration commits and push channels. A commit that may run begins and, when nothing waits before it, ends and is
counted; a discard of a changed value restores the committed one; a window post binds the channel and is counted, an
item is sent in it, an idle window is closed, unacknowledged items are sent again, 60 s without a window are noted,
and a log is exported to its channel. Parts of R293, R294, R311, R312, R313, R319. -/
def Obligations.CommitsAndPushes : Prop :=
  (∀ (s u : State) (r : Req) (role space : Nat), Granted r Obj.commitCommand 0 0 [1] role space s u →
      commitStatus u = 0 →
      ∃ t, exec (.commitConfiguration r) s = .next t ∧ t.get Reg.commitRunning = 1 ∧ t.get Reg.commitAt = u.now) ∧
  (∀ (s : State), s.get Reg.commitRunning = 1 → beforeCommit s = [] →
      ∃ t, exec .commitComplete s = .next t ∧ t.get Reg.commitRunning = 0 ∧
      t.get Obj.commitCount = (s.get Obj.commitCount + 1) % 4294967296 ∧ t.get Obj.timeOfLastCommit = s.time) ∧
  (∀ (s u : State) (r : Req) (channel : Fin 8) (role space : Nat), Granted r Obj.commitCommand 0 0 [2] role space s u →
      commitStatus u = 0 → u.waiting = [] → u.committing = [] → u.dirty = [Obj.flushTime.key channel 0] →
      ∃ t, exec (.discardChanges r) s = .next t ∧ t.dirty = [] ∧ t.get Reg.commitRunning = 0 ∧
      t.get Obj.flushTime channel = committedNum u (Obj.flushTime.key channel 0)) ∧
  (∀ (s u : State) (r : Req) (channel : Fin 8) (d : List Byte) (ident seq space role : Nat) (macs : List (List Byte))
      (plain : Bool), r.auth = Auth.session ident seq macs →
      judgeRequest r 8 (0x1200 + channel) 0 d { s with out := [] } = .accept u space role plain →
      postStatus u channel role space d = 0 →
      ∃ t, exec (.windowPost r channel d) s = .next t ∧ t.get Obj.boundSession channel = space ∧
      t.get Obj.windowsPosted channel = u.get Obj.windowsPosted channel + 1 ∧
      t.get Reg.pushLastWindow channel = ofBytes (d.take 4)) ∧
  (∀ (s : State) (channel : Fin 8) (b : Byte) (item : List Byte), 0 < s.get Obj.windowsPosted channel →
      s.get Reg.pushNext channel = 0 → s.log Reg.pushQueue channel = [b :: item] →
      ∃ t, exec (.pushData channel) s = .next t ∧
      t.get Obj.lastItemSequenceSent channel = max (s.get Reg.pushFirst channel) (s.get Obj.lastItemSequenceSent channel)) ∧
  (∀ (s : State) (channel : Fin 8), s.get Reg.pushWindowAt channel ≠ 0 → nothingReady s channel = true →
      s.getN Reg.pushWindowAt channel + s.getN Obj.flushTime channel * millisecond ≤ s.now + 1 →
      ∃ t, exec (.windowFlush channel) s = .next t ∧ t.get Reg.pushWindowAt channel = 0 ∧
      t.get Obj.windowsPosted channel = s.get Obj.windowsPosted channel - 1) ∧
  (∀ (s : State) (channel : Fin 8) (since : Int) (rest : List Int), s.seq Reg.pushAckDue channel = since :: rest →
      since + 10 * second ≤ s.now + 1 →
      ∃ t, exec (.pushResend channel) s = .next t ∧ t.get Reg.pushNext channel = 0 ∧
      t.get Obj.resends channel = (s.get Obj.resends channel + 1) % 4294967296 ∧ t.seq Reg.pushAckDue channel = []) ∧
  (∀ (s : State) (channel : Fin 8), 0 < s.get Reg.pushIdleSince channel → s.get Obj.startUpStage = 2 →
      s.getN Reg.pushIdleSince channel + 60 * second ≤ s.now + 1 →
      ∃ t, exec (.pushNoWindow channel) s = .next t ∧ t.get Reg.pushIdleSince channel = -1) ∧
  (∀ (s u : State) (r : Req) (d : List Byte) (role space : Nat), Granted r Obj.exportLog 0 0 d role space s u →
      u.log Reg.pushQueue (u.getN Obj.exportPushChannel) = [] → kcReady u = true → u.waiting = [] →
      ∃ t, exec (.exportLog r d) s = .next t ∧ (t.log Reg.pushQueue (u.getN Obj.exportPushChannel)).length = 1 ∧ t.waiting = [])

/-- Writes of plain objects and transfers in segments. A whole write of an object that no other command names sets it
and is answered, a block acknowledgement sends the next 128 segments, and a transfer without segments for 100 ms on
CAN or 1 s on Ethernet ends. Parts of R4, R7, R306, R310. -/
def Obligations.TransfersOfRequests : Prop :=
  (∀ (s u : State) (r : Req) (d : List Byte) (role space : Nat), Granted r Obj.efficiency 0 0 d role space s u → u.waiting = [] →
      ∃ t, exec (.write r (Obj.efficiency.index 0) Obj.efficiency.sub d) s = .next t ∧
      t.waiting.map (fun (w : Waiting) => (w.boundary, w.tag, w.writes)) =
      [(Boundary.fastPass, r.tag, [FieldWrite.mk (Obj.efficiency.key 0 0) (ofBytes d) [] false])] ∧
      t.get Obj.efficiency = u.get Obj.efficiency) ∧
  (∀ (s u : State) (r : Req) (d : List Byte) (role space : Nat), Granted r Obj.idleDelay 0 0 d role space s u →
      ∃ t, exec (.write r (Obj.idleDelay.index 0) Obj.idleDelay.sub d) s = .next t ∧ t.get Obj.idleDelay = ofBytes d) ∧
  (∀ (s : State) (tag : Fin 256), s.bytes Reg.canRest tag ≠ [] →
      ∃ t, exec (.blockAck tag) s = .next t ∧ t.bytes Reg.canRest tag = (s.bytes Reg.canRest tag).drop nextBlock ∧
      t.out = [Emission.block tag ((s.bytes Reg.canRest tag).take nextBlock)]) ∧
  (∀ (s : State) (space tag : Nat) (w : Waiting), partlyOf s space tag = some w → space ≠ 0 → w.since + second ≤ s.now →
      ∃ t, exec (.requestIncomplete space tag) s = .next t ∧ t.waiting = s.waiting.filter fun x => x ≠ w) ∧
  (∀ (s : State) (tag : Fin 256) (w : Waiting), partlyOf s 0 tag = some w → w.since + 100 * millisecond ≤ s.now →
      ∃ t, exec (.canTransferTimeout tag) s = .next t ∧ t.waiting = s.waiting.filter fun x => x ≠ w) ∧
  (∀ (s : State) (tag : Fin 256), partlyOf s 0 tag = none → s.bytes Reg.canRest tag ≠ [] →
      s.getN Reg.canRestAt tag + 100 * millisecond ≤ s.now →
      ∃ t, exec (.canTransferTimeout tag) s = .next t ∧ t.bytes Reg.canRest tag = [] ∧ t.get Reg.canRestAt tag = 0)

/-- Frames on the CAN buses. A received data frame is stored by the object that takes it and a remote frame is only
counted; a data write or an elapsed period queues the object's frame, a sent frame is counted and timed, an abort
drops a waiting frame or waits for the one on the bus, an object change waits for nothing when nothing is queued, a
deadline without a frame is a miss, a bit timing takes effect on the idle bus, and monitoring ends when the module
drives. Parts of R320, R325, R327, R329, R330, R332. -/
def Obligations.CanFramesMove : Prop :=
  (∀ (s : State) (bus : Fin 4) (ext fd : Bool) (ident m : Nat) (data : List Byte), canListens s bus = true →
      isHeartbeat s bus ext fd ident data = false → takerOf s bus ext fd ident = some m → s.get Obj.moFifoNext m = 255 →
      ∃ t, exec (.canFrameReceived bus ext fd false ident data) s = .next t ∧ t.bytes Obj.moData m = data ∧
      t.get Obj.moTime m = s.time ∧ t.bit Obj.moStatus 2 m = true ∧
      t.get Obj.framesReceived bus = (s.get Obj.framesReceived bus + 1) % 4294967296) ∧
  (∀ (s : State) (bus : Fin 4) (ext fd : Bool) (ident : Nat) (data : List Byte), canListens s bus = true →
      ∃ t, exec (.canFrameReceived bus ext fd true ident data) s = .next t ∧
      t.get Obj.remoteFramesIgnored bus = (s.get Obj.remoteFramesIgnored bus + 1) % 4294967296) ∧
  (∀ (s u : State) (r : Req) (mo : Fin 512) (d : List Byte) (role space : Nat), Granted r Obj.moData mo 0 d role space s u →
      moOwned u mo = false → ∃ t, exec (.canDataWrite r mo d) s = .next t ∧ t.bytes Obj.moData mo = d) ∧
  (∀ (s : State) (mo : Fin 512), s.get Obj.moUse mo = 2 → s.get Obj.moPeriod mo ≠ 0 → 0 ≤ s.get Obj.moPeriod mo →
      s.getN Reg.moPeriodAt mo + s.getN Obj.moPeriod mo * millisecond ≤ s.now →
      ∃ t, exec (.canSendPeriod mo) s = .next t ∧
      t.get Reg.moPeriodAt mo = (s.getN Reg.moPeriodAt mo + s.getN Obj.moPeriod mo * millisecond : Nat) ∧
      t.log Reg.moFrames mo = (s.log Reg.moFrames mo).take 1 ++ [s.bytes Obj.moData mo]) ∧
  (∀ (s : State) (bus : Fin 4) (m : Nat), s.getN Reg.canOnBus bus = m + 1 → s.is Reg.ttEnterDue bus = false →
      ∃ t, exec (.canFrameSent bus) s = .next t ∧ t.get Obj.moTime m = s.time ∧
      t.get Obj.framesSent bus = (s.get Obj.framesSent bus + 1) % 4294967296) ∧
  (∀ (s u : State) (r : Req) (mo : Fin 512) (field : Fin 4) (d : List Byte) (role space : Nat),
      Granted r (moFieldObj field) mo 0 d role space s u →
      moStatusOf u mo (moFieldsWith u mo [⟨(moFieldObj field).key mo 0, (moFieldObj field).ty.decode d, [], false⟩]) = 0 →
      moBoundary u mo = Boundary.atOnce →
      ∃ t, exec (.canObjectChange r mo field d) s = .next t ∧ t.get (moFieldObj field) mo = (moFieldObj field).ty.decode d) ∧
  (∀ (s u : State) (r : Req) (mo : Fin 512) (f : List Byte) (role space : Nat), Granted r Obj.moAbort mo 0 [1] role space s u →
      moOwned u mo = false → u.log Reg.moFrames mo = [f] → u.getN Reg.canOnBus (busOf mo) ≠ mo + 1 →
      u.is Reg.moAbortDue mo = false →
      ∃ t, exec (.canAbort r mo) s = .next t ∧ t.log Reg.moFrames mo = [] ∧ t.bit Obj.moStatus 0 mo = false) ∧
  (∀ (s u : State) (r : Req) (mo : Fin 512) (role space : Nat), Granted r Obj.moAbort mo 0 [1] role space s u →
      moOwned u mo = false → u.getN Reg.canOnBus (busOf mo) = mo + 1 →
      ∃ t, exec (.canAbort r mo) s = .next t ∧ t.get Reg.moAbortDue mo = 1) ∧
  (∀ (s : State) (mo : Fin 512), s.get Obj.moUse mo = 1 → s.get Obj.moDeadline mo ≠ 0 → 0 ≤ s.get Obj.moDeadline mo →
      s.getN Reg.moWatchAt mo + s.getN Obj.moDeadline mo * millisecond ≤ s.now →
      ∃ t, exec (.deadlineMiss mo) s = .next t ∧ t.get Reg.moRun mo = s.get Reg.moRun mo + 1 ∧
      t.get Obj.moMisses mo = (s.get Obj.moMisses mo + 1) % 4294967296 ∧ t.bit Obj.moStatus 4 mo = true) ∧
  (∀ (s : State) (bus : Fin 4) (w : Waiting) (v : Int), s.get Reg.canOnBus bus = 0 → s.waiting = [w] →
      w.boundary = Boundary.busIdle bus → w.partly = false → w.writes = [FieldWrite.mk (Obj.nominalRateCode.key bus 0) v [] false] →
      ∃ t, exec (.bitTimingApply bus) s = .next t ∧ t.get Obj.nominalRateCode bus = v) ∧
  (∀ (s : State) (bus : Fin 2), isDriving s = true → s.get Obj.controllerState (2 + bus) = csMonitor →
      ∃ t, exec (.busMonitoringExit bus) s = .next t ∧ 1 ≤ t.get Obj.controllerState (2 + bus) ∧
      t.get Obj.controllerState (2 + bus) ≤ 3)

/-- Time-triggered operation and bus errors. Entering time-triggered operation takes an idle bus to cycle 0 and its
reference frame, leaving waits for the matrix's end, a window mark opens the next window or the next basic cycle; a
failed transmission adds 8 and a failed reception 1 or 8, a count of 256 is bus-off with its hold-off, a second
later recovery begins, its end clears both counts, and a fault waits for a restart. Parts of R333, R336, R337, R338. -/
def Obligations.CanErrorsAndSchedule : Prop :=
  (∀ (s u : State) (r : Req) (bus : Fin 2) (role space : Nat), Granted r Obj.timeTriggeredCommand (2 + bus) 0 [1] role space s u →
      u.get Obj.operation (2 + bus) ≠ 1 → canSends u (2 + bus) = true → u.get Reg.canOnBus (2 + bus) = 0 →
      ∃ t, exec (.ttEnter r bus) s = .next t ∧ t.get Obj.operation (2 + bus) = 1 ∧ t.get Obj.cycleCount (2 + bus) = 0 ∧
      t.get Reg.ttEnterDue (2 + bus) = 0) ∧
  (∀ (s u : State) (r : Req) (bus : Fin 2) (role space : Nat), Granted r Obj.timeTriggeredCommand (2 + bus) 0 [2] role space s u →
      u.get Obj.operation (2 + bus) = 1 → u.get Obj.controllerState (2 + bus) ≠ csMonitor →
      ∃ t, exec (.ttLeave r bus) s = .next t ∧ t.get Reg.ttLeaveDue (2 + bus) = 1 ∧ t.get Obj.operation (2 + bus) = 1) ∧
  (∀ (s : State) (bus : Fin 2) (w : Nat), s.get Obj.operation (2 + bus) = 1 → canSends s (2 + bus) = true →
      s.get Reg.ttWindow (2 + bus) = 0 → nextWindow s (2 + bus) 0 = some w →
      ∃ t, exec (.ttWindowMark bus) s = .next t ∧ t.get Reg.ttWindow (2 + bus) = w ∧ t.get Reg.ttTaken (2 + bus) = 0) ∧
  (∀ (s : State) (bus : Fin 2), s.get Obj.operation (2 + bus) = 1 → canSends s (2 + bus) = true →
      s.get Reg.ttWindow (2 + bus) = 0 → nextWindow s (2 + bus) 0 = none → s.is Reg.ttLeaveDue (2 + bus) = false →
      ∃ t, exec (.ttWindowMark bus) s = .next t ∧ t.get Reg.ttWindow (2 + bus) = 0 ∧
      t.get Obj.cycleCount (2 + bus) = (s.get Obj.cycleCount (2 + bus) + 1) % s.get Obj.basicCycles (2 + bus)) ∧
  (∀ (s : State) (bus : Fin 4) (primary : Bool), canSends s bus = true →
      ∃ t, exec (.canBusError bus false primary) s = .next t ∧
      t.get Obj.receiveErrors bus = min 255 (s.get Obj.receiveErrors bus + (if primary then 8 else 1)) ∧
      t.get Reg.canTec bus = s.get Reg.canTec bus) ∧
  (∀ (s : State) (bus : Fin 4) (primary : Bool), canSends s bus = true → s.get Reg.canOnBus bus = 0 →
      ∃ t, exec (.canBusError bus true primary) s = .next t ∧ t.get Reg.canTec bus = min 256 (s.get Reg.canTec bus + 8) ∧
      t.get Obj.receiveErrors bus = s.get Obj.receiveErrors bus) ∧
  (∀ (s : State) (bus : Fin 4), canSends s bus = true → 256 ≤ s.get Reg.canTec bus → (recentRecoveries s bus).length < 8 →
      ∃ t, exec (.busOff bus) s = .next t ∧ t.get Obj.controllerState bus = csHoldoff ∧ t.get Reg.busOffAt bus = s.now) ∧
  (∀ (s : State) (bus : Fin 4), s.get Obj.controllerState bus = csHoldoff → s.getN Reg.busOffAt bus + second ≤ s.now →
      ∃ t, exec (.busOffRecoveryRequest bus) s = .next t ∧ t.get Obj.controllerState bus = csRecovering) ∧
  (∀ (s : State) (bus : Fin 4), s.get Obj.controllerState bus = csRecovering →
      ∃ t, exec (.busOffRecovered bus) s = .next t ∧ t.get Obj.controllerState bus = 1 ∧ t.get Reg.canTec bus = 0 ∧
      t.get Obj.receiveErrors bus = 0) ∧
  (∀ (s u : State) (r : Req) (bus : Fin 4) (role space : Nat), Granted r Obj.restartController bus 0 [1] role space s u →
      u.get Obj.controllerState bus = csFault →
      ∃ t, exec (.restartController r bus) s = .next t ∧ t.get Obj.controllerState bus = csRecovering ∧
      t.get Obj.recoveriesInTheLast3600S bus = 1)

/-- A load-switch channel is commanded, protected and cleared. A command of 0 turns the channel off; a current above the
limit in force latches it off with cause 1, 2 or 3; the inrush window ends in the on state; a hot junction waits for
cooling or latches, cooling turns the channel on again, and a clear takes a cool latched channel off its latch.
Parts of R356, R359, R360, R363, R365. -/
def Obligations.LoadSwitchesDriven : Prop :=
  (∀ (s u : State) (r : Req) (channel : Fin 96) (d : List Byte) (role space : Nat),
      Granted r Obj.lsCommand channel 0 d role space s u → commandSource u channel = 0 → ofBytes d = 0 →
      u.get Obj.lsState channel = lsOn →
      ∃ t, exec (.loadSwitchCommand r channel d) s = .next t ∧ t.get Obj.lsCommand channel = 0 ∧ t.get Obj.lsState channel = lsOff) ∧
  (∀ (s u : State) (r : Req) (channel : Fin 96) (d : List Byte) (role space : Nat),
      Granted r Obj.lsCommand channel 0 d role space s u → commandSource u channel = 0 →
      isDrive channel = true ∨ ofBytes d = 10000 → ofBytes d ≠ 0 → u.get Obj.lsState channel ≠ lsOff →
      ∃ t, exec (.loadSwitchCommand r channel d) s = .next t ∧ t.get Obj.lsCommand channel = ofBytes d ∧
      t.get Obj.lsState channel = u.get Obj.lsState channel) ∧
  (∀ (s : State) (channel : Fin 96) (current : Nat), lsDriving s channel = true → hardShort channel < current →
      ∃ t, exec (.hardShort channel current) s = .next t ∧ t.get Obj.lsState channel = lsLatched ∧ t.get Obj.lsCause channel = 1 ∧
      t.get Obj.lsCurrent channel = current) ∧
  (∀ (s : State) (channel : Fin 96) (current : Nat), s.get Obj.lsState channel = lsInrushing →
      s.get Obj.lsInrush channel < current →
      ∃ t, exec (.inrushOverCurrent channel current) s = .next t ∧ t.get Obj.lsState channel = lsLatched ∧
      t.get Obj.lsCause channel = 2) ∧
  (∀ (s : State) (channel : Fin 96) (current : Nat), s.get Obj.lsState channel = lsOn →
      s.get Obj.lsSteady channel < current →
      ∃ t, exec (.steadyOverCurrent channel current) s = .next t ∧ t.get Obj.lsState channel = lsLatched ∧
      t.get Obj.lsCause channel = 3) ∧
  (∀ (s : State) (channel : Fin 96), s.get Obj.lsState channel = lsInrushing →
      s.get Reg.lsSince channel + s.get Obj.lsWindow channel * millisecond ≤ s.now →
      ∃ t, exec (.inrushWindowEnd channel) s = .next t ∧ t.get Obj.lsState channel = lsOn) ∧
  (∀ (s : State) (channel : Fin 96) (junction : Nat), lsDriving s channel = true → 1750 ≤ junction →
      s.is Obj.lsThermalMode channel = true →
      ∃ t, exec (.thermalShutdown channel junction) s = .next t ∧ t.get Obj.lsState channel = lsLatched ∧
      t.get Obj.lsCause channel = 4 ∧ t.get Obj.lsJunction channel = junction) ∧
  (∀ (s : State) (channel : Fin 96) (junction : Nat), lsDriving s channel = true → 1750 ≤ junction →
      s.is Obj.lsThermalMode channel = false → (recentRetries s channel).length < s.get Obj.lsRetryLimit channel →
      ∃ t, exec (.thermalShutdown channel junction) s = .next t ∧ t.get Obj.lsState channel = lsThermalWait) ∧
  (∀ (s : State) (channel : Fin 96) (junction : Int), s.get Obj.lsState channel = lsThermalWait → junction ≤ 1500 →
      s.get Obj.lsCommand channel ≠ 0 → isDriving s = true → lsWanted s channel = true → lsSupplied s channel = true →
      coilBlocked s channel = false →
      ∃ t, exec (.junctionCooled channel junction) s = .next t ∧ t.get Obj.lsState channel = lsInrushing ∧
      t.get Reg.lsSince channel = s.now) ∧
  (∀ (s u : State) (r : Req) (channel : Fin 96) (role space : Nat), Granted r Obj.lsClear channel 0 [1] role space s u →
      u.get Obj.lsState channel = lsLatched → u.get Obj.lsJunction channel ≤ 1500 → u.get Obj.lsCommand channel = 0 →
      lsSupplied u channel = true →
      ∃ t, exec (.clearLatch r channel) s = .next t ∧ t.get Obj.lsState channel = lsOff ∧ t.get Obj.lsCause channel = 0)

/-- Groups of load switches share a supply. A group's current above its rating starts an episode and holds back coils, a
low supply is flagged and a recovered one unflagged, the first shed channel and the first held coil come on again
when the current allows, and an over-voltage or a lost ground turns the channels off until the supply returns. Parts
of R368, R369, R370, R371, R372. -/
def Obligations.LoadSwitchGroups : Prop :=
  (∀ (s : State) (group : Fin 8) (current : Nat), group.val < 4 → groupRating group < current →
      s.bit Obj.groupFlags 2 group = false →
      ∃ t, exec (.groupOverCurrent group current) s = .next t ∧ t.get Reg.groupHold group = 1 ∧
      t.bit Obj.groupFlags 2 group = true ∧ t.get Obj.groupCurrent group = current) ∧
  (∀ (s : State) (group : Fin 8) (voltage : Nat), (voltage : Int) < s.get Obj.undervoltageLevel group →
      ∃ t, exec (.groupUndervoltage group voltage) s = .next t ∧ t.bit Obj.groupFlags 0 group = true ∧
      t.get Obj.groupVoltage group = voltage) ∧
  (∀ (s : State) (group : Fin 8) (voltage : Nat), s.get Obj.undervoltageLevel group ≤ voltage →
      ∃ t, exec (.groupUndervoltage group voltage) s = .next t ∧ t.bit Obj.groupFlags 0 group = false ∧
      t.get Obj.groupVoltage group = voltage) ∧
  (∀ (s : State) (group : Fin 8) (current c : Nat), 10 * (current : Int) < 8 * groupRating group →
      s.get Reg.groupRestartAt group = 0 → 4 ≤ group.val → firstShed s group = some c →
      lsWanted s c = true → lsSupplied s c = true → coilBlocked s c = false →
      ∃ t, exec (.shedRestart group current) s = .next t ∧ t.get Obj.lsState c = lsInrushing ∧ t.get Obj.lsCause c = 0 ∧
      t.get Reg.groupRestartAt group = s.now + 1) ∧
  (∀ (s : State) (group : Fin 4) (current c : Nat), (firstHeld (groupMeasured group current s) group) = some c →
      coilBlocked (groupMeasured group current s) c = false → s.get Obj.lsState c ≠ lsThermalWait →
      ∃ t, exec (.coilTurnOnRelease group current) s = .next t ∧ t.get Obj.lsState c = lsInrushing ∧ t.get Reg.lsSince c = s.now) ∧
  (∀ (s : State) (group : Fin 8) (voltage : Nat) (c : Fin 96), 3600 < voltage → s.bit Obj.groupFlags 1 group = false →
      groupOf c = group → s.get Obj.lsState c = lsOn →
      ∃ t, exec (.groupOverVoltage group voltage) s = .next t ∧ t.bit Obj.groupFlags 1 group = true ∧
      t.get Obj.lsState c = lsSupplyOff) ∧
  (∀ (s : State) (offset : Nat), 150 < offset → s.is Reg.groundLost = false →
      ∃ t, exec (.lossOfGround offset) s = .next t ∧ t.get Reg.groundLost = 1) ∧
  (∀ (s : State) (group : Fin 8) (voltage : Nat), voltage < 50 → s.is Reg.groundLost = true →
      ∃ t, exec (.supplyFaultReturn true group voltage) s = .next t ∧ t.get Reg.groundLost = 0) ∧
  (∀ (s : State) (group : Fin 8) (voltage : Nat), voltage < 3400 → s.bit Obj.groupFlags 1 group = true →
      ∃ t, exec (.supplyFaultReturn false group voltage) s = .next t ∧ t.bit Obj.groupFlags 1 group = false ∧
      t.get Obj.groupVoltage group = voltage)

/-- Hardpan samples, tests and switches off. A cycle counts and takes in what its boundary lets in, a test pulse notes
its cycle, an off pulse that does not fall below 5 V confirms the output fault and a good one none, a diagnostic
takes every output off in the safe state, and its watchdog starts Hardpan again. Parts of R374, R375, R379, R384,
R425. -/
def Obligations.HardpanCycles : Prop :=
  (∀ (s : State) (levels pulses above5 above18 : Fin 256) (srst : Bool), s.get Obj.hpState = 1 → s.waiting = [] →
      ∃ t, exec (.hpCycle levels srst pulses above5 above18) s = .next t ∧ t.get Reg.hpCycles = s.get Reg.hpCycles + 1 ∧
      t.get Obj.hpState = 1 ∧ t.get Reg.soAbove5 = above5.val ∧ t.get Obj.readBackAbove18V = above18.val) ∧
  (∀ (s : State) (source : Fin 2) (high : Fin 256), s.get Obj.hpState ≠ 2 → pulseDue s source = true →
      ∃ t, exec (.testPulse source high) s = .next t ∧ t.get Reg.tpAt source = s.get Reg.hpCycles) ∧
  (∀ (s : State) (output : Fin 8) (above18 : Bool), s.get Obj.hpState = 1 →
      s.get Reg.hpCycles % 1000 = 125 * (output.val : Int) → isDriving s = true → soOn s output = true →
      ∃ t, exec (.offPulse output false above18) s = .next t ∧ t.bit Obj.outputFaults output = true) ∧
  (∀ (s : State) (output : Fin 8), s.get Obj.hpState = 1 → s.get Reg.hpCycles % 1000 = 125 * (output.val : Int) →
      isDriving s = true → soOn s output = true →
      ∃ t, exec (.offPulse output true true) s = .next t ∧ t.get Obj.outputFaults = s.get Obj.outputFaults ∧
      t.get Obj.safeOutputStates = s.get Obj.safeOutputStates) ∧
  (∀ (s : State) (diagnostic : Fin 5) (output : Fin 8) (manipulator : Fin 2), s.get Obj.hpState ≠ 2 →
      ∃ t, exec (.hpSafeState diagnostic) s = .next t ∧ t.get Obj.hpState = 2 ∧ t.bit Obj.safeOutputStates output = false ∧
      t.get Reg.brakePhase manipulator = 0) ∧
  (∀ (s : State) (function : Fin 8), ∃ t, exec .hpWatchdog s = .next t ∧ t.get Obj.hpState = 0 ∧ t.get Reg.hpCycles = 0 ∧
      t.get Obj.functionState function = 1 ∧ t.get Obj.hpWatchdogResets = (s.get Obj.hpWatchdogResets + 1) % 4294967296)

/-- Brake tests and the safety configuration. A brake test starts, takes the encoder count when the torque is applied
and ends after the hold time with the result and a lockout if it failed; a missing confirmation ends it after 10 s;
a due test starts by itself; a lockout asks for a new test once cleared; an output fault is cleared, a confirmed
configuration is in use and the demand is taken. Parts of R383, R385, R386, R387, R388. -/
def Obligations.BrakesAndConfiguration : Prop :=
  (∀ (s u : State) (r : Req) (manipulator : Fin 2) (role space : Nat),
      Granted r Obj.startBrakeTest manipulator 0 [1] role space s u → soOn u (4 + manipulator) = false →
      u.get Reg.brakePhase manipulator = 0 → u.get Obj.hpState = 1 →
      ∃ t, exec (.startBrakeTest r manipulator) s = .next t ∧ t.get Reg.brakePhase manipulator = 1 ∧
      t.get Reg.brakeAt manipulator = u.now) ∧
  (∀ (s u : State) (r : Req) (manipulator : Fin 2) (count : Int) (role space : Nat),
      Granted r Obj.testTorqueApplied manipulator 0 [1] role space s u → u.get Reg.brakePhase manipulator = 1 →
      ∃ t, exec (.testTorqueApplied r manipulator count) s = .next t ∧ t.get Reg.brakePhase manipulator = 2 ∧
      t.get Reg.brakeCount manipulator = count ∧ t.get Reg.brakeAt manipulator = u.now) ∧
  (∀ (s : State) (manipulator : Fin 2) (count : Int), s.get Reg.brakePhase manipulator = 2 →
      s.get Reg.brakeAt manipulator + s.get Reg.holdInUse manipulator * millisecond ≤ s.now →
      |count - s.get Reg.brakeCount manipulator| ≤ s.get Reg.countInUse manipulator →
      ∃ t, exec (.brakeTestHoldEnd manipulator count) s = .next t ∧ t.get Reg.brakePhase manipulator = 0 ∧
      t.get Obj.brakeTestResult manipulator = 1 ∧ t.get Obj.brakeTestTime manipulator = s.time ∧
      t.get Reg.brakePassed manipulator = 1) ∧
  (∀ (s : State) (manipulator : Fin 2) (count : Int), s.get Reg.brakePhase manipulator = 2 →
      s.get Reg.brakeAt manipulator + s.get Reg.holdInUse manipulator * millisecond ≤ s.now →
      s.get Reg.countInUse manipulator < |count - s.get Reg.brakeCount manipulator| →
      ∃ t, exec (.brakeTestHoldEnd manipulator count) s = .next t ∧ t.get Reg.brakePhase manipulator = 0 ∧
      t.get Obj.brakeTestResult manipulator = 2 ∧ t.get Reg.brakeLockout manipulator = 2) ∧
  (∀ (s : State) (manipulator : Fin 2), s.get Reg.brakePhase manipulator = 1 →
      s.get Reg.brakeAt manipulator + 10 * second ≤ s.now →
      ∃ t, exec (.torqueConfirmTimeout manipulator) s = .next t ∧ t.get Reg.brakePhase manipulator = 0) ∧
  (∀ (s : State) (manipulator : Fin 2), isDriving s = true → s.get Obj.hpState = 1 → testDue s manipulator = true →
      s.bit Obj.outputDemand (4 + manipulator) = true → soOn s (4 + manipulator) = false →
      s.get Reg.brakePhase manipulator = 0 → s.get Reg.brakeLockout manipulator ≠ 2 →
      s.is Reg.brakeGranted manipulator = false → functionsAllow s (4 + manipulator) = true →
      functionsAllow s (6 + manipulator) = true →
      ∃ t, exec (.brakeTestDue manipulator) s = .next t ∧ t.get Reg.brakePhase manipulator = 1) ∧
  (∀ (s u : State) (r : Req) (manipulator : Fin 2) (role space : Nat),
      Granted r Obj.clearBrakeLockout manipulator 0 [1] role space s u → u.get Reg.brakeLockout manipulator = 2 →
      ∃ t, exec (.clearBrakeLockout r manipulator) s = .next t ∧ t.get Reg.brakeLockout manipulator = 1) ∧
  (∀ (s u : State) (r : Req) (d : List Byte) (role space : Nat), Granted r Obj.clearOutputFault 0 0 d role space s u →
      u.bit Reg.soAbove5 (ofBytes d) = false →
      ∃ t, exec (.clearOutputFault r d) s = .next t ∧ t.bit Obj.outputFaults (ofBytes d) = false ∧
      t.bit Obj.outputFaults (ofBytes d + 8) = false) ∧
  (∀ (s u : State) (r : Req) (d : List Byte) (role space : Nat), Granted r Obj.confirmConfiguration 0 0 d role space s u →
      ofBytes d = pendingCrc u → guardPending u = true →
      ∃ t, exec (.confirmConfiguration r d) s = .next t ∧ t.get Obj.configurationCRCInUse = ofBytes d ∧
      t.get Obj.pendingConfigurationCRC = ofBytes d ∧ t.get Reg.startPassed = 0 ∧ t.get Obj.inputFaults = 0) ∧
  (∀ (s u : State) (r : Req) (d : List Byte) (role space : Nat), Granted r Obj.outputDemand 0 0 d role space s u →
      ofBytes d % 16 = 15 →
      ∃ t, exec (.outputDemand r d) s = .next t ∧ t.get Obj.outputDemand = ofBytes d)

/-- Resets, the cell and the idle state. The PLL or a rail holds the module in a power-on reset, a watchdog resets with
its processor as source, a software reset is accepted and asserted 100 ms later, a brown-out resets once the warning
is committed and goes to backup or off with the cell, and the cell, its minutes, its replacement, idle and wake do
as told. Parts of R37, R415, R416, R425, R426, R428, R429, R430, R432. -/
def Obligations.ResetsAndPower : Prop :=
  (∀ (s : State), ∃ t, exec .pllLockLost s = .next t ∧ t.get Reg.resetKind = 0 ∧ t.get Reg.supplyHeld = 1 ∧ t.sessions = [] ∧ t.pool = []) ∧
  (∀ (s : State) (rail : Fin 27), ∃ t, exec (.internalRailFault rail) s = .next t ∧ t.get Reg.resetKind = 0 ∧ t.get Reg.supplyHeld = 1 ∧ t.sessions = [] ∧ t.pool = []) ∧
  (∀ (s : State) (processor : Fin 4), ∃ t, exec (.watchdogReset processor) s = .next t ∧ t.get Reg.resetKind = 2 ∧
      t.get Reg.resetSource = (processor.val : Int) + 1 ∧ t.get Reg.resetTime = s.get Reg.rtcTime ∧ t.sessions = [] ∧
      t.waiting = []) ∧
  (∀ (s u : State) (r : Req) (role space : Nat), Granted r Obj.softwareReset 0 0 [1] role space s u →
      contextsRest u = true → blocksRest u = true →
      ∃ t, exec (.softwareResetQuiet r) s = .next t ∧ t.get Reg.swrAt = u.now + 1 ∧ t.get Reg.warningDue = 1) ∧
  (∀ (s u : State) (r : Req) (role space : Nat), Granted r Obj.softwareReset 0 0 [2] role space s u →
      ∃ t, exec (.softwareResetAtOnce r) s = .next t ∧ t.get Reg.swrAt = u.now + 1 ∧ t.get Reg.warningDue = 1) ∧
  (∀ (s : State), s.get Reg.swrAt ≠ 0 → s.get Reg.swrAt + 100 * millisecond ≤ s.now + 1 →
      ∃ t, exec .softwareResetAssert s = .next t ∧ t.get Reg.resetKind = 3 ∧ t.sessions = [] ∧ t.waiting = []) ∧
  (∀ (s : State) (vaux cell : Nat), vaux ≤ 1200 → s.is Reg.warningValid = true → dipOpen s = true → 2800 ≤ cell →
      ∃ t, exec (.brownOut vaux cell) s = .next t ∧ t.get Reg.resetKind = 1 ∧ t.get Obj.powerState = 1) ∧
  (∀ (s : State) (vaux cell : Nat), vaux ≤ 1200 → s.is Reg.warningValid = true → dipOpen s = true → cell < 2500 →
      ∃ t, exec (.brownOut vaux cell) s = .next t ∧ t.get Obj.powerState = 0) ∧
  (∀ (s : State) (vaux cell : Nat), vaux ≤ 1200 → s.is Reg.warningValid = true → dipOpen s = true → 2500 ≤ cell → cell < 2800 →
      ∃ t, exec (.brownOut vaux cell) s = .next t ∧ (t.get Obj.powerState = 0 ∨ (t.get Obj.powerState = 1 ∧ t.get Reg.resetKind = 1))) ∧
  (∀ (s : State) (vaux cell : Nat), vaux ≤ 1200 → s.is Reg.warningValid = false → dipOpen s = true →
      ∃ t, exec (.brownOut vaux cell) s = .next t ∧ t.get Reg.brownOut = 1 ∧ t.get Reg.brownCell = cell) ∧
  (∀ (s : State) (volts : Nat), s.get Obj.powerState = 0 → 2800 ≤ volts → volts < 3000 →
      ∃ t, exec (.cellInserted volts) s = .next t ∧ t.get Obj.powerState = 1 ∧ t.get Obj.vbatVoltage = volts ∧ t.get Obj.cellState = 1) ∧
  (∀ (s : State) (volts : Nat), s.get Obj.powerState = 0 → 3000 ≤ volts →
      ∃ t, exec (.cellInserted volts) s = .next t ∧ t.get Obj.powerState = 1 ∧ t.get Obj.vbatVoltage = volts ∧ t.get Obj.cellState = 2) ∧
  (∀ (s : State) (volts : Nat), s.get Obj.powerState = 1 → 3000 ≤ volts →
      ∃ t, exec (.rtcMinuteCellCheck volts true) s = .next t ∧ t.get Obj.powerState = 1 ∧
      t.get Reg.rtcTime = s.get Reg.rtcTime + 60 * second ∧ t.get Obj.cellState = 2 ∧
      t.get Obj.timeInBackupTotal = (s.get Obj.timeInBackupTotal + 60) % 4294967296) ∧
  (∀ (s : State) (volts : Nat) (fitted : Bool), s.get Obj.powerState = 1 → fitted = false ∨ volts < 2500 →
      ∃ t, exec (.rtcMinuteCellCheck volts fitted) s = .next t ∧ t.get Obj.powerState = 0) ∧
  (∀ (s u : State) (r : Req) (role space : Nat), Granted r Obj.cellReplaced 0 0 [1] role space s u →
      ∃ t, exec (.cellReplaced r) s = .next t ∧ t.get Obj.chargeDrawnFromCell = 0 ∧ t.get Reg.chargeSixths = 0) ∧
  (∀ (s : State), mayIdle s = true → s.get Reg.idleSince ≠ 0 →
      s.getN Reg.idleSince + s.getN Obj.idleDelay * second ≤ s.now + 1 →
      ∃ t, exec .enterIdle s = .next t ∧ t.get Obj.powerState = pwIdle ∧ t.get Reg.wakeCause = 0) ∧
  (∀ (s u : State) (r : Req) (role space : Nat), Granted r Obj.wake 0 0 [1] role space s u → u.get Obj.powerState = pwIdle →
      ∃ t, exec (.wake r) s = .next t ∧ t.get Reg.wakeCause = 2)

/-- The supply window and the input gates. A supply below 16 V opens the warning window, commits every 100 ms while it
is open, closes above 17 V, passes to the staged stop after 500 ms, stops one outlet every 250 frames, ends the
episode 990 ms after the close, and the input gates open and close with their voltages. Parts of R414, R416, R417,
R420, R421. -/
def Obligations.SupplyDips : Prop :=
  (∀ (s : State) (vaux : Nat), vaux < 1600 → s.get Obj.quicksandWindow = 0 →
      ∃ t, exec (.supplyWarning vaux) s = .next t ∧ t.get Obj.quicksandWindow = 1 ∧ t.get Obj.supplyVoltage = vaux ∧
      t.get Reg.dipOpenedAt = s.now ∧ t.get Reg.warningDue = 1 ∧ t.get Reg.warningValid = 0) ∧
  (∀ (s : State), dipOpen s = true → s.getN Reg.dipCommitAt + 100 * millisecond ≤ s.now →
      ∃ t, exec .dipCommitPeriod s = .next t ∧ t.get Reg.dipCommitAt = s.now ∧
      t.get Obj.episodeElapsedTime = (min 65535 (episodeTime s / millisecond) : Nat)) ∧
  (∀ (s : State) (vaux : Nat), 1700 < vaux → dipOpen s = true → s.is Reg.brownOut = false →
      ∃ t, exec (.windowRecovery vaux) s = .next t ∧ t.get Obj.quicksandWindow = 0 ∧ t.get Reg.dipClosedAt = s.now + 1 ∧
      t.get Obj.lowestVauxInLastDip = s.get Reg.dipLowest) ∧
  (∀ (s : State), s.get Obj.quicksandWindow = 1 → 500 * millisecond < episodeTime s →
      ∃ t, exec .dipEpisodeLimit s = .next t ∧ t.get Obj.quicksandWindow = 2) ∧
  (∀ (s : State) (n : Fin 24) (rest : List Int), s.getN Reg.stopNext ≤ s.frame → s.seq Reg.stopQueue = (n.val : Int) :: rest →
      ∃ t, exec .stagedSessionStop s = .next t ∧ t.seq Reg.stopQueue = rest ∧ t.get Reg.stopNext = s.frame + 250) ∧
  (∀ (s : State) (vaux : Nat), 1700 < vaux → dipOpen s = false → s.get Reg.dipClosedAt ≠ 0 →
      s.getN Reg.dipClosedAt + 990 * millisecond ≤ s.now + 1 →
      ∃ t, exec (.dipEpisodeEnd vaux) s = .next t ∧ t.get Reg.dipElapsed = 0 ∧ t.get Obj.episodeElapsedTime = 0 ∧
      t.get Reg.dipClosedAt = 0) ∧
  (∀ (s : State) (input : Fin 3) (volts : Int), volts < -500 →
      ∃ t, exec (.reverseInput input volts) s = .next t ∧ t.bit Obj.inputFlags input = true ∧
      t.bit Obj.inputFlags (6 + input) = false) ∧
  (∀ (s : State) (input : Fin 3) (volts : Nat), 1800 ≤ volts → volts ≤ 3200 → 3 ≤ s.get Obj.startUpStage →
      ∃ t, exec (.gateOn input volts) s = .next t ∧ t.bit Obj.inputFlags (6 + input) = true ∧
      t.bit Obj.inputFlags input = false ∧ t.get Obj.supplyVoltage 0 input = volts) ∧
  (∀ (s : State) (volts : Nat), 3400 < volts →
      ∃ t, exec (.vauxOverVoltage volts) s = .next t ∧ t.get Reg.vauxHigh = 1 ∧ t.bit Obj.inputFlags 3 = true) ∧
  (∀ (s : State) (volts : Nat), volts ≤ 3400 →
      ∃ t, exec (.vauxOverVoltage volts) s = .next t ∧ t.get Reg.vauxHigh = 0 ∧ t.bit Obj.inputFlags 3 = false)

/-- The lease between the two modules. A request restarts the standby's watch and is granted, a grant of the present
frame pairs the active module, a frame without one is counted, the lease's run-out fences a live module or ends the
pair, a silent active module is taken over, and release, accept, refuse, resign and its acknowledgement hand the
role over. Parts of R390, R398, R399, R403, R410. -/
def Obligations.PairLease : Prop :=
  (∀ (s : State) (f : List Byte) (x : Lease), leaseOf opRequest f = some x → pairing s = true → s.get Obj.role = roStandby →
      ∃ t, exec (.request f) s = .next t ∧ t.get Reg.requestAt = s.frame ∧ t.get Obj.partnerRole = x.role ∧
      t.get Reg.leaseSeq = (s.get Reg.leaseSeq + 1) % 65536 ∧ t.get Reg.heldLogged = 0) ∧
  (∀ (s : State) (f : List Byte) (x : Lease), leaseOf opRequest f = some x → pairing s = true → s.get Obj.role = roIsolated →
      s.get Reg.joinPhase = 1 → ∃ t, exec (.request f) s = .next t ∧ t.get Reg.joinPhase = 2 ∧ t.get Obj.partnerRole = x.role) ∧
  (∀ (s : State) (f : List Byte) (x : Lease), leaseOf opGrant f = some x → pairing s = true → s.get Obj.role = roActive →
      x.frame = s.frame → s.get Reg.grantJudged = 0 →
      ∃ t, exec (.grant f) s = .next t ∧ t.get Reg.granted = 1 ∧ t.get Reg.paired = 1) ∧
  (∀ (s : State), s.get Obj.role = roActive → s.is Reg.paired = true → s.is Reg.grantJudged = false → s.is Reg.granted = true →
      ∃ t, exec .grantDeadline s = .next t ∧ t.get Reg.grantJudged = 1 ∧ t.get Reg.ungrantedRun = 0) ∧
  (∀ (s : State), s.get Obj.role = roActive → s.is Reg.paired = true → s.is Reg.grantJudged = false → s.is Reg.granted = false →
      ∃ t, exec .grantDeadline s = .next t ∧ t.get Reg.grantJudged = 1 ∧ t.get Reg.ungrantedRun = s.get Reg.ungrantedRun + 1 ∧
      t.get Obj.framesUngranted = (s.get Obj.framesUngranted + 1) % 4294967296) ∧
  (∀ (s : State), s.get Obj.role = roActive → s.is Reg.paired = true → s.get Reg.leaseInUse ≤ s.get Reg.ungrantedRun →
      ∃ t, exec (.leaseExpiry true) s = .next t ∧ t.get Obj.role = roFenced ∧ t.get Reg.ownActive = 0 ∧
      t.get Obj.partnerLinkState = lkLost ∧ t.get Reg.paired = 0) ∧
  (∀ (s : State), s.get Obj.role = roActive → s.is Reg.paired = true → s.get Reg.leaseInUse ≤ s.get Reg.ungrantedRun →
      ∃ t, exec (.leaseExpiry false) s = .next t ∧ t.get Obj.role = roActive ∧ t.get Reg.paired = 0 ∧ t.get Obj.partnerRole = 255) ∧
  (∀ (s : State), s.get Obj.role = roStandby → s.get Reg.acceptFrame = 0 → s.get Reg.requestAt + s.get Reg.leaseInUse + 2 ≤ s.frame →
      ∃ t, exec (.takeover false) s = .next t ∧ t.get Obj.role = roActive ∧ t.get Obj.lastCause = 1 ∧ t.get Reg.ownActive = 1 ∧
      t.get Obj.takeovers = (s.get Obj.takeovers + 1) % 4294967296) ∧
  (∀ (s : State), s.get Obj.role = roStandby → s.get Reg.acceptFrame = 0 → s.get Reg.requestAt + s.get Reg.leaseInUse + 2 ≤ s.frame →
      ∃ t, exec (.takeover true) s = .next t ∧ t.get Obj.role = roStandby ∧ t.get Reg.heldLogged ≠ 0 ∧ t.get Reg.partnerActive = 1) ∧
  (∀ (s : State) (f : List Byte) (x : Lease), leaseOf opRelease f = some x → pairing s = true → s.get Obj.role = roStandby →
      s.is Obj.fitToTakeOver = true → s.is Reg.mirrorLocked = true →
      ∃ t, exec (.release f) s = .next t ∧ t.get Reg.acceptFrame = x.frame + 1) ∧
  (∀ (s : State) (f : List Byte) (x : Lease), leaseOf opRelease f = some x → pairing s = true → s.get Obj.role = roStandby →
      s.is Obj.fitToTakeOver = false → ∃ t, exec (.release f) s = .next t ∧ t.get Reg.acceptFrame = s.get Reg.acceptFrame ∧
      t.get Reg.leaseSeq = (s.get Reg.leaseSeq + 1) % 65536) ∧
  (∀ (s : State) (f : List Byte) (x : Lease), leaseOf opAccept f = some x → pairing s = true → s.get Obj.role = roActive →
      s.get Reg.handoverFrame = x.frame + 1 → x.frame = s.frame → s.get Reg.grantJudged = 0 →
      ∃ t, exec (.accept f) s = .next t ∧ t.get Reg.fenceDue = 1) ∧
  (∀ (s : State) (f : List Byte) (x : Lease), leaseOf opRefuse f = some x → pairing s = true → s.get Obj.role = roActive →
      s.get Reg.handoverFrame = x.frame + 1 →
      ∃ t, exec (.refuse f) s = .next t ∧ t.get Reg.handoverFrame = 0) ∧
  (∀ (s : State) (f : List Byte) (x : Lease), leaseOf opResign f = some x → pairing s = true → s.get Obj.role = roActive →
      ∃ t, exec (.resign f) s = .next t ∧ t.get Reg.paired = 0 ∧ t.get Obj.partnerRole = 255 ∧
      t.get Reg.leaseSeq = (s.get Reg.leaseSeq + 1) % 65536) ∧
  (∀ (s : State) (f : List Byte) (x : Lease), leaseOf opResignAck f = some x → pairing s = true → s.get Obj.role = roStandby →
      s.is Reg.resignDue = true → ∃ t, exec (.resignAck f) s = .next t ∧ t.get Reg.isolateDue = 1)

/-- Roles, joining and the mirror. The role commands are taken, the line sample decides who becomes active, a join
starts, fails, is retried and completes, timeouts isolate, the partner's line turns the channels off, mirrors are
counted and adopted, synced items are taken and acknowledged, and the health report and heartbeat are made. Parts of
R390, R392, R393, R396, R397, R403, R405, R406, R407, R408, R410. -/
def Obligations.PairRoles : Prop :=
  (∀ (s u : State) (r : Req) (role space : Nat), Granted r Obj.roleCommand 0 0 [1] role space s u → pairing u = true →
      u.get Obj.role = roIsolated → u.get Reg.activeTryAt = 0 → partnerQuiet u = true →
      ∃ t, exec (.becomeActive r) s = .next t ∧ t.get Reg.ownActive = 1 ∧ t.get Reg.activeTryAt = u.frame + 1) ∧
  (∀ (s : State), s.get Reg.activeTryAt ≠ 0 → s.get Reg.activeTryAt + 2 ≤ s.frame + 1 → s.bit Obj.backplane 1 = true →
      ∃ t, exec (.activeLineSample true) s = .next t ∧ t.get Reg.ownActive = 0 ∧ t.get Reg.activeTryAt = 0) ∧
  (∀ (s : State), s.get Reg.activeTryAt ≠ 0 → s.get Reg.activeTryAt + 2 ≤ s.frame + 1 →
      ∃ t, exec (.activeLineSample false) s = .next t ∧ t.get Obj.role = roActive ∧ t.get Obj.lastCause = 3 ∧ t.get Reg.joinPhase = 0) ∧
  (∀ (s u : State) (r : Req) (role space : Nat), Granted r Obj.roleCommand 0 0 [2] role space s u → u.get Obj.role = roStandby →
      ∃ t, exec (.isolate r) s = .next t ∧ t.get Reg.resignDue = 1) ∧
  (∀ (s u : State) (r : Req) (role space : Nat), Granted r Obj.roleCommand 0 0 [3] role space s u → u.get Obj.role = roActive →
      standbyFit u = true → ∃ t, exec (.handOver r) s = .next t ∧ t.get Reg.handoverDue = 1) ∧
  (∀ (s u : State) (r : Req) (role space : Nat), Granted r Obj.roleCommand 0 0 [3] role space s u → u.get Obj.role = roStandby →
      u.is Obj.fitToTakeOver = true →
      ∃ t, exec (.handOver r) s = .next t ∧ Emission.sync (Obj.roleCommand.key 0 0) 3 [] ∈ t.out) ∧
  (∀ (s u : State) (r : Req) (role space : Nat), Granted r Obj.roleCommand 0 0 [4] role space s u → pairing u = true →
      u.get Obj.role = roIsolated →
      ∃ t, exec (.join (some r)) s = .next t ∧ t.get Reg.joinPhase = 1 ∧ t.get Reg.joinAt = u.now ∧ t.get Obj.partnerLinkState = lkClock) ∧
  (∀ (s : State), pairing s = true → s.get Obj.role = roIsolated → 4 ≤ s.get Obj.startUpStage → s.is Reg.partnerSeen = true →
      s.get Reg.joinPhase = 0 → s.get Reg.joinFailedAt = 0 →
      ∃ t, exec (.join none) s = .next t ∧ t.get Reg.joinPhase = 1 ∧ t.get Reg.objectsReplaced = 0) ∧
  (∀ (s : State) (cause : Fin 5), s.get Obj.role = roIsolated → s.get Reg.joinPhase ≠ 0 → joinFails s (cause + 1) = true →
      ∃ t, exec (.joinFailed cause) s = .next t ∧ t.get Reg.joinPhase = 0 ∧ t.get Reg.joinFailedAt = s.now + 1 ∧
      t.get Obj.lastCause = (cause.val : Int) + 17) ∧
  (∀ (s : State), s.get Obj.role = roIsolated → s.get Reg.joinFailedAt ≠ 0 → s.getN Reg.joinFailedAt + 60 * second ≤ s.now + 1 →
      ∃ t, exec .joinRetry s = .next t ∧ t.get Reg.joinPhase = 1 ∧ t.get Reg.joinFailedAt = 0) ∧
  (∀ (s : State), s.get Obj.role = roFenced → s.getN Reg.fencedAt + 2 * second ≤ s.now → s.get Reg.partnerHeartbeat ≠ roActive →
      ∃ t, exec .fencedTimeout s = .next t ∧ t.get Obj.role = roIsolated ∧ t.get Reg.ownActive = 0) ∧
  (∀ (s : State), s.get Obj.role = roStandby → s.get Reg.resyncAt ≠ 0 → s.getN Reg.resyncAt + 25 * second ≤ s.now + 1 →
      ∃ t, exec .resyncTimeout s = .next t ∧ t.get Obj.role = roIsolated ∧ t.get Reg.resyncAt = 0) ∧
  (∀ (s : State) (channel : Fin 96), s.get Obj.role ≠ roSolo → s.get Obj.lsState channel = lsOn →
      ∃ t, exec (.partnerActiveLineChange true) s = .next t ∧ t.get Reg.partnerActive = 1 ∧ t.get Obj.lsState channel = lsOff) ∧
  (∀ (s : State), s.get Obj.role ≠ roSolo →
      ∃ t, exec (.partnerActiveLineChange false) s = .next t ∧ t.get Reg.partnerActive = 0 ∧ t.get Reg.partnerSeen = 1) ∧
  (∀ (s : State) (m : Mirror), followsMirror s = true →
      ∃ t, exec (.mirrorFrame m false) s = .next t ∧ t.get Reg.mirrorRun = 0 ∧
      t.get Obj.mirrorsMissingOrFailed = (s.get Obj.mirrorsMissingOrFailed + 1) % 4294967296) ∧
  (∀ (s : State) (m : Mirror), s.get Obj.role = roStandby →
      ∃ t, exec (.mirrorFrame m true) s = .next t ∧ t.frame = m.frame ∧ t.time = m.time ∧ t.get Reg.mirrorFrame = m.frame ∧
      t.get Obj.mirrorsReceived = (s.get Obj.mirrorsReceived + 1) % 4294967296) ∧
  (∀ (s : State), pairing s = true → s.get Obj.role = roActive → s.waiting = [] →
      ∃ t, exec (.configurationSync .ack) s = .next t ∧ t.get Reg.syncSentAt = 0) ∧
  (∀ (s : State) (v : List Byte), pairing s = true → s.get Obj.role = roStandby → v.length = 2 →
      ∃ t, exec (.configurationSync (.cell (Obj.efficiency.index 0) Obj.efficiency.sub v)) s = .next t ∧
      t.get Obj.efficiency = ofBytes v ∧ t.get Reg.syncGeneration = (s.get Reg.syncGeneration + 1) % 4294967296) ∧
  (∀ (s : State) (score : Nat) (fit : Bool), pairing s = true → s.get Obj.role = roStandby →
      ∃ t, exec (.configurationSync (.report score fit)) s = .next t ∧ t.get Obj.partnerScore = score ∧
      t.is Obj.partnerFit = fit) ∧
  (∀ (s : State) (st : Nat), pairing s = true → s.get Obj.role = roStandby → s.get Reg.transitionTo = 0 →
      ∃ t, exec (.configurationSync (.transition st)) s = .next t ∧ t.get Reg.transitionTo = st + 1) ∧
  (∀ (s : State), s.get Obj.role = roActive → s.get Reg.syncSentAt ≠ 0 → s.getN Reg.syncSentAt + 50 * millisecond ≤ s.now + 1 →
      s.waiting = [] → s.is Reg.outOfSync = false →
      ∃ t, exec .syncAckTimeout s = .next t ∧ t.get Reg.syncSentAt = 0 ∧ t.get Reg.outOfSync = 1 ∧ t.get Reg.resyncAt = s.now + 1) ∧
  (∀ (s : State) (values : List (Nat × Nat × List Byte)) (items : List (List Byte)) (generation : Nat), s.get Obj.role = roActive →
      ∃ t, exec (.fullSyncComplete values items generation) s = .next t ∧ t.get Reg.outOfSync = 0 ∧ t.get Reg.resyncAt = 0) ∧
  (∀ (s : State) (generation : Nat), s.get Obj.role = roIsolated → s.get Reg.joinPhase = 2 →
      ∃ t, exec (.fullSyncComplete [] [] generation) s = .next t ∧ t.get Reg.joinPhase = 3 ∧ t.get Reg.objectsReplaced = 0 ∧
      t.get Reg.syncGeneration = (generation % 4294967296 : Nat)) ∧
  (∀ (s : State), ∃ t, exec .healthReport s = .next t ∧ t.get Obj.reportTime = s.time ∧ 0 ≤ t.get Obj.fitScore ∧
      t.get Obj.fitScore ≤ 100 ∧ t.get Obj.itemsListed ≤ 64) ∧
  (∀ (s : State), pairing s = true → canSends s 1 = true →
      ∃ t, exec .heartbeat s = .next t ∧ t.get Reg.heartbeatSeq = (s.get Reg.heartbeatSeq + 1) % 256)

/-- Pool banks, their owners and the silt test. A corrected error is counted at its word, an uncorrectable one reaches
the bank's owner, a lockstep mismatch stops the processor or takes Hardpan to its safe state, only the owner hands a
bank over and grants XD access, and the region test moves through the regions and skips one after eight abandoned
tests. Parts of R436, R437, R439, R440, R443, R445. -/
def Obligations.PoolAndSilt : Prop :=
  (∀ (s : State) (processor : Fin 5), processor.val ≠ 3 →
      ∃ t, exec (.lockstepMismatch processor) s = .next t ∧
      t.get Reg.lockstepHeld = (if processor.val = 4 then 4 else processor.val + 1 : Nat) ∧ t.get Reg.resetKind = 2) ∧
  (∀ (s : State), s.get Obj.hpState ≠ 2 → ∃ t, exec (.lockstepMismatch 3) s = .next t ∧ t.get Obj.hpState = 2 ∧
      t.get Obj.lockstepFaults 0 3 = (s.get Obj.lockstepFaults 0 3 + 1) % 4294967296) ∧
  (∀ (s : State) (address : Fin 6291456), ∃ t, exec (.poolSingleBitError address) s = .next t ∧
      t.get Obj.correctedErrors (bankOf address) = (s.get Obj.correctedErrors (bankOf address) + 1) % 4294967296 ∧
      t.get Obj.lastErrorAddress (bankOf address) = poolWord address) ∧
  (∀ (s : State) (address : Fin 6291456) (slot : Fin 1024) (channels : List (Fin 76)) (push : Option (Fin 8)),
      6 ≤ s.get Obj.owner (bankOf address) →
      ∃ t, exec (.poolDoubleBitError address slot channels push) s = .next t ∧
      t.get Obj.uncorrectableErrors (bankOf address) = (s.get Obj.uncorrectableErrors (bankOf address) + 1) % 4294967296 ∧
      t.get Obj.lastErrorAddress (bankOf address) = poolWord address) ∧
  (∀ (s : State) (address : Fin 6291456) (slot : Fin 1024) (channels : List (Fin 76)) (push : Option (Fin 8)),
      s.get Obj.owner (bankOf address) = 4 →
      ∃ t, exec (.poolDoubleBitError address slot channels push) s = .next t ∧ t.get Obj.hpState = 2) ∧
  (∀ (s : State) (address : Fin 6291456) (slot : Fin 1024) (channels : List (Fin 76)) (push : Option (Fin 8)),
      1 ≤ s.get Obj.owner (bankOf address) → s.get Obj.owner (bankOf address) ≤ 3 →
      ∃ t, exec (.poolDoubleBitError address slot channels push) s = .next t ∧ t.get Reg.resetKind = 2 ∧
      t.get Reg.lockstepHeld = s.get Obj.owner (bankOf address)) ∧
  (∀ (s : State) (bank : Fin 24) (requester newOwner : Fin 9), s.get Obj.owner bank = requester.val → requester.val ≠ 0 →
      bank.val ≠ 20 → bank.val ≠ 21 → requester ≠ newOwner →
      ∃ t, exec (.ownerRegisterWrite bank requester newOwner) s = .next t ∧ t.get Obj.owner bank = newOwner.val ∧
      t.get Obj.xdSecondaryAccess bank = 0 ∧ t.get Obj.handovers bank = (s.get Obj.handovers bank + 1) % 4294967296) ∧
  (∀ (s : State) (bank : Fin 24) (requester newOwner : Fin 9), s.get Obj.owner bank ≠ requester.val →
      ∃ t, exec (.ownerRegisterWrite bank requester newOwner) s = .next t ∧ t.get Obj.owner bank = s.get Obj.owner bank ∧
      t.get Obj.refusedOwnerWrites bank = (s.get Obj.refusedOwnerWrites bank + 1) % 4294967296) ∧
  (∀ (s : State) (bank : Fin 24) (requester : Fin 9) (grant : Fin 3), s.get Obj.owner bank = requester.val →
      requester.val ≠ 0 → (requester.val : Int) ≠ ownXd → bank.val ≠ 20 → bank.val ≠ 21 →
      ∃ t, exec (.xdGrant bank requester grant) s = .next t ∧ t.get Obj.xdSecondaryAccess bank = grant.val) ∧
  (∀ (s : State) (singles doubles : List (Fin 64)), s.getN Obj.currentRegion + 1 < siltRegions →
      ∃ t, exec (.siltRegionTest singles doubles false) s = .next t ∧
      t.get Obj.currentRegion = s.getN Obj.currentRegion + 1 ∧ t.get Reg.siltAbandonRun = 0) ∧
  (∀ (s : State) (singles doubles : List (Fin 64)), siltRegions ≤ s.getN Obj.currentRegion + 1 →
      ∃ t, exec (.siltRegionTest singles doubles false) s = .next t ∧ t.get Obj.currentRegion = 0 ∧
      t.get Obj.siltPasses = (s.get Obj.siltPasses + 1) % 4294967296) ∧
  (∀ (s : State) (singles doubles : List (Fin 64)), s.get Reg.siltAbandonRun + 1 < 8 →
      ∃ t, exec (.siltTestAbandon singles doubles) s = .next t ∧
      t.get Reg.siltAbandonRun = s.get Reg.siltAbandonRun + 1 ∧ t.get Obj.currentRegion = s.get Obj.currentRegion ∧
      t.get Obj.abandonedRegionTests = (s.get Obj.abandonedRegionTests + 1) % 4294967296) ∧
  (∀ (s : State) (singles doubles : List (Fin 64)), 8 ≤ s.get Reg.siltAbandonRun + 1 →
      s.getN Obj.currentRegion + 1 < siltRegions →
      ∃ t, exec (.siltTestAbandon singles doubles) s = .next t ∧ t.get Reg.siltAbandonRun = 0 ∧
      t.get Obj.currentRegion = s.getN Obj.currentRegion + 1 ∧
      t.get Obj.skippedRegions = (s.get Obj.skippedRegions + 1) % 4294967296)

/-- The journal commits. With items pending a commit begins when it fits, the hold of 2000 frames begins one too, a
programmed commit becomes the head of the ring, and a sector that fails to verify is out of use. Parts of R448,
R449, R457. -/
def Obligations.JournalCommits : Prop :=
  (∀ (s : State), mayCommit s = true →
      ringUsed s + (40 + (superseded (s.log Reg.journalItems ++ eventItems s)).flatten.length) ≤ ringSize →
      ∃ t, exec .journalCommit s = .next t ∧ t.get Reg.commitBusy = 1 ∧ t.log Reg.journalItems = []) ∧
  (∀ (s : State), mayCommit s = true → s.getN Reg.journalItemsAt + 2000 ≤ s.frame →
      ringUsed s + (40 + (superseded (s.log Reg.journalItems ++ eventItems s)).flatten.length) ≤ ringSize →
      ∃ t, exec .batchHoldEnd s = .next t ∧ t.get Reg.commitBusy = 1 ∧ t.log Reg.journalItems = []) ∧
  (∀ (s : State), s.is Reg.commitBusy = true → s.is Reg.brownOut = false →
      ∃ t, exec .commitValid s = .next t ∧ t.get Reg.commitBusy = 0 ∧ t.ring = s.bytes Reg.entryStaged :: s.ring ∧
      t.journal = s.staged ∧ t.get Obj.headCommitSequence = entryCommit (s.bytes Reg.entryStaged)) ∧
  (∀ (s : State) (sector : Fin 1024), (s.seq Reg.badSectors).contains (sector.val : Int) = false →
      ∃ t, exec (.programVerifyFailed sector) s = .next t ∧ t.seq Reg.badSectors = (sector.val : Int) :: s.seq Reg.badSectors ∧
      t.get Obj.sectorsOutOfUse = (s.seq Reg.badSectors).length + 1)
end

