-- ==== Sys2Proof/Laws/Store.lean ====
section
/-!
SUPPORT. Laws of the sparse stores and of the addressed memories: reading after writing, and that every operation leaves
the canonical form.
-/

namespace Sys2Proof.Machine

set_option Elab.async false

/-! ### The order of cells -/

theorem Key.lt_irrefl (a : Key) : Key.lt a a = false := by
  simp [Key.lt]

theorem Key.lt_trans {a b c : Key} (h : Key.lt a b = true) (k : Key.lt b c = true) : Key.lt a c = true := by
  simp only [Key.lt, Bool.or_eq_true, Bool.and_eq_true, decide_eq_true_eq, beq_iff_eq] at *
  omega

/-- Two cells are one, or one comes first. -/
theorem Key.lt_of_ne {a b : Key} (h : a ≠ b) (k : Key.lt a b = false) : Key.lt b a = true := by
  have : ¬ (a.o = b.o ∧ a.i = b.i ∧ a.j = b.j) := by
    rintro ⟨h1, h2, h3⟩
    exact h (by cases a; cases b; simp_all)
  simp only [Key.lt, Bool.or_eq_false_iff, Bool.and_eq_false_iff, decide_eq_false_iff_not, beq_eq_false_iff_ne,
    Bool.or_eq_true, Bool.and_eq_true, decide_eq_true_eq, beq_iff_eq] at *
  omega

/-! ### Stores -/

variable {α : Type}

theorem storeFind_insert (k q : Key) (v : α) (m : Store α) :
    storeFind (storeInsert k v m) q = if k = q then some v else storeFind m q := by
  induction m with
  | nil => simp [storeInsert, storeFind]
  | cons x t ih =>
    obtain ⟨k', v'⟩ := x
    by_cases h : k = k'
    · subst h
      by_cases hq : k = q <;> simp [storeInsert, storeFind, hq]
    · by_cases hl : Key.lt k k' = true
      · simp [storeInsert, h, hl, storeFind]
      · by_cases hk : k' = q
        · subst hk
          simp [storeInsert, h, hl, storeFind]
        · simp [storeInsert, h, hl, storeFind, ih, hk]

/-- The canonical form reads as the store does. -/
@[simp] theorem storeFind_canon (m : Store α) (q : Key) : storeFind (storeCanon m) q = storeFind m q := by
  induction m with
  | nil => rfl
  | cons x t ih => obtain ⟨k, v⟩ := x; simp [storeCanon, storeFind, storeFind_insert, ih]

/-- The first name of a store comes after `a`. -/
def firstAfter (a : Key) : Store α → Bool
  | [] => true
  | (b, _) :: _ => Key.lt a b

theorem storeRising_cons (a : Key) (v : α) (t : Store α) :
    storeRising ((a, v) :: t) = (firstAfter a t && storeRising t) := by
  cases t with
  | nil => rfl
  | cons x t => obtain ⟨b, w⟩ := x; rfl

theorem firstAfter_insert {a k : Key} {v : α} {t : Store α} (h : firstAfter a t = true) (hk : Key.lt a k = true) :
    firstAfter a (storeInsert k v t) = true := by
  cases t with
  | nil => simpa [storeInsert, firstAfter] using hk
  | cons x t =>
    obtain ⟨b, w⟩ := x
    simp only [storeInsert]
    split
    · simpa [firstAfter] using hk
    · split
      · simpa [firstAfter] using hk
      · simpa [firstAfter] using h

theorem storeRising_insert (k : Key) (v : α) (m : Store α) (h : storeRising m = true) :
    storeRising (storeInsert k v m) = true := by
  induction m with
  | nil => rfl
  | cons x t ih =>
    obtain ⟨k', v'⟩ := x
    rw [storeRising_cons, Bool.and_eq_true] at h
    simp only [storeInsert]
    split
    · next e => subst e; rw [storeRising_cons]; simp [h.1, h.2]
    · next e =>
      split
      · next l => rw [storeRising_cons, storeRising_cons, h.1, h.2]; simpa [firstAfter] using l
      · next l =>
        rw [storeRising_cons]
        simp only [Bool.and_eq_true]
        exact ⟨firstAfter_insert h.1 (Key.lt_of_ne e (by simpa using l)), ih h.2⟩

/-- The canonical form is canonical. -/
theorem storeRising_canon (m : Store α) : storeRising (storeCanon m) = true := by
  induction m with
  | nil => rfl
  | cons x t ih => exact storeRising_insert _ _ _ ih

/-! ### Memories -/

theorem memRead_erase_other {blank : Byte} {a b : Nat} (h : a ≠ b) (m : List Host.Cell) :
    memRead blank b (memErase a m) = memRead blank b m := by
  induction m with
  | nil => rfl
  | cons x t ih =>
    obtain ⟨k, v⟩ := x
    by_cases hk : k = a
    · have : k ≠ b := by omega
      simp [memErase, memRead, hk, h]
    · simp [memErase, memRead, hk, ih]

theorem memRead_put (blank : Byte) (a b : Nat) (v : Byte) (m : List Host.Cell) :
    memRead blank b (memPut a v m) = if a = b then v else memRead blank b m := by
  induction m with
  | nil => simp [memPut, memRead]
  | cons x t ih =>
    obtain ⟨k, w⟩ := x
    simp only [memPut]
    split
    · simp [memRead]
    · split
      · next e => subst e; by_cases hb : a = b <;> simp [memRead, hb]
      · next e =>
        by_cases hb : k = b
        · subst hb; simp [memRead, e]
        · simp [memRead, hb, ih]

theorem memWfFrom_mono {blank : Byte} {a b : Nat} {m : List Host.Cell} (h : a ≤ b) (w : memWfFrom blank b m = true) :
    memWfFrom blank a m = true := by
  cases m with
  | nil => rfl
  | cons x t =>
    obtain ⟨k, v⟩ := x
    simp only [memWfFrom, Bool.and_eq_true, decide_eq_true_eq] at *
    exact ⟨⟨by omega, w.1.2⟩, w.2⟩

/-- An address below a canonical memory is blank. -/
theorem memRead_below {blank : Byte} {a lo : Nat} {m : List Host.Cell} (w : memWfFrom blank lo m = true) (h : a < lo) :
    memRead blank a m = blank := by
  induction m generalizing lo with
  | nil => rfl
  | cons x t ih =>
    obtain ⟨k, v⟩ := x
    simp only [memWfFrom, Bool.and_eq_true, decide_eq_true_eq] at w
    have : k ≠ a := by omega
    simp only [memRead, this, if_false]
    exact ih w.2 (by omega)

theorem memWfFrom_erase {blank : Byte} {lo a : Nat} {m : List Host.Cell} (w : memWfFrom blank lo m = true) :
    memWfFrom blank lo (memErase a m) = true := by
  induction m generalizing lo with
  | nil => rfl
  | cons x t ih =>
    obtain ⟨k, v⟩ := x
    simp only [memWfFrom, Bool.and_eq_true, decide_eq_true_eq] at w
    simp only [memErase]
    split
    · exact memWfFrom_mono (by omega) w.2
    · simp only [memWfFrom, Bool.and_eq_true, decide_eq_true_eq]
      exact ⟨w.1, ih w.2⟩

theorem memWfFrom_put {blank : Byte} {lo a : Nat} {v : Byte} {m : List Host.Cell} (w : memWfFrom blank lo m = true)
    (h : lo ≤ a) (hv : v ≠ blank) : memWfFrom blank lo (memPut a v m) = true := by
  induction m generalizing lo with
  | nil => simp [memPut, memWfFrom, h, hv]
  | cons x t ih =>
    obtain ⟨k, u⟩ := x
    simp only [memWfFrom, Bool.and_eq_true, decide_eq_true_eq] at w
    simp only [memPut]
    split
    · simp only [memWfFrom, Bool.and_eq_true, decide_eq_true_eq, bne_iff_ne]
      exact ⟨⟨h, hv⟩, ⟨by omega, by simpa using w.1.2⟩, w.2⟩
    · split
      · next e =>
        subst e
        simp only [memWfFrom, Bool.and_eq_true, decide_eq_true_eq, bne_iff_ne]
        exact ⟨⟨h, hv⟩, w.2⟩
      · simp only [memWfFrom, Bool.and_eq_true, decide_eq_true_eq]
        exact ⟨w.1, ih w.2 (by omega)⟩

/-- A write leaves the canonical form. -/
theorem memWrite_wf {blank : Byte} {a : Nat} {b : Byte} {m : List Host.Cell} (w : Memory.wf blank m = true) :
    Memory.wf blank (memWrite blank a b m) = true := by
  unfold memWrite Memory.wf at *
  split
  · exact memWfFrom_erase w
  · next h => exact memWfFrom_put w (Nat.zero_le _) h

theorem memWriteAll_wf {blank : Byte} {a : Nat} {d : List Byte} {m : List Host.Cell} (w : Memory.wf blank m = true) :
    Memory.wf blank (memWriteAll blank a d m) = true := by
  induction d generalizing a m with
  | nil => exact w
  | cons b t ih => exact ih (memWrite_wf w)

/-- A memory stays canonical when cells are dropped. -/
theorem memWfFrom_filter {blank : Byte} {lo : Nat} {p : Host.Cell → Bool} {m : List Host.Cell}
    (w : memWfFrom blank lo m = true) : memWfFrom blank lo (m.filter p) = true := by
  induction m generalizing lo with
  | nil => rfl
  | cons x t ih =>
    obtain ⟨k, v⟩ := x
    simp only [memWfFrom, Bool.and_eq_true, decide_eq_true_eq] at w
    by_cases hp : p (k, v) = true
    · simp only [List.filter_cons, hp, if_true, memWfFrom, Bool.and_eq_true, decide_eq_true_eq]
      exact ⟨w.1, ih w.2⟩
    · simp only [List.filter_cons, hp]
      exact memWfFrom_mono (by omega) (ih w.2)

theorem memCanon_wf (blank : Byte) (m : List Host.Cell) : Memory.wf blank (memCanon blank m) = true := by
  induction m with
  | nil => rfl
  | cons x t ih => obtain ⟨a, b⟩ := x; exact memWrite_wf ih

theorem memRead_erase_same {blank : Byte} {lo a : Nat} {m : List Host.Cell} (w : memWfFrom blank lo m = true) :
    memRead blank a (memErase a m) = blank := by
  induction m generalizing lo with
  | nil => rfl
  | cons x t ih =>
    obtain ⟨k, u⟩ := x
    simp only [memWfFrom, Bool.and_eq_true, decide_eq_true_eq] at w
    simp only [memErase]
    split
    · next e => subst e; exact memRead_below w.2 (by omega)
    · next e => simp only [memRead, e, if_false]; exact ih w.2

/-- A byte reads as it was last written, every other one as before. -/
theorem memRead_write {blank : Byte} {a b : Nat} {v : Byte} {m : List Host.Cell} (w : Memory.wf blank m = true) :
    memRead blank b (memWrite blank a v m) = if a = b then v else memRead blank b m := by
  unfold memWrite
  split
  · next h =>
    by_cases hb : a = b
    · subst hb h; simpa using memRead_erase_same w
    · simp [hb, memRead_erase_other hb]
  · exact memRead_put _ _ _ _ _

theorem memRead_writeAll_other {blank : Byte} {a b : Nat} {d : List Byte} {m : List Host.Cell} (w : Memory.wf blank m = true)
    (h : b < a ∨ a + d.length ≤ b) : memRead blank b (memWriteAll blank a d m) = memRead blank b m := by
  induction d generalizing a m with
  | nil => rfl
  | cons v t ih =>
    simp only [List.length_cons] at h
    rw [memWriteAll, ih (memWrite_wf w) (by omega), memRead_write w, if_neg (by omega)]

end Sys2Proof.Machine
end

