-- ==== Sys2Proof/Laws/State.lean ====
section
/-!
SUPPORT. Laws of the state: what the named operations change and what they leave, one lemma for each field and update.
-/

namespace Sys2Proof.Machine

set_option Elab.async false

/-! ### Registers -/

theorem get_set (s : State) (o q : Obj) (v : Int) (i j k l : Nat) :
    (s.set o v i j).get q k l = if o.id = q.id ∧ i = k ∧ j = l then v else s.get q k l := by
  unfold State.get State.set
  simp only [storeFind, Key.mk.injEq]
  by_cases h : o.id = q.id ∧ i = k ∧ j = l
  · rw [if_pos h, if_pos h]
  · rw [if_neg h, if_neg h]

@[simp] theorem get_set_same (s : State) (o : Obj) (v : Int) (i j : Nat) : (s.set o v i j).get o i j = v := by
  simp [get_set]

theorem get_set_of_ne (s : State) {o q : Obj} (v : Int) (i j k l : Nat) (h : o.id ≠ q.id) :
    (s.set o v i j).get q k l = s.get q k l := by
  simp [get_set, h]

theorem get_set_of_ne_inst (s : State) (o : Obj) (v : Int) {i k : Nat} (j l : Nat) (h : i ≠ k) :
    (s.set o v i j).get o k l = s.get o k l := by
  simp [get_set, h]

@[simp] theorem set_octs (s : State) (o : Obj) (v : Int) (i j : Nat) : (s.set o v i j).octs = s.octs := rfl
@[simp] theorem set_seqs (s : State) (o : Obj) (v : Int) (i j : Nat) : (s.set o v i j).seqs = s.seqs := rfl
@[simp] theorem set_reals (s : State) (o : Obj) (v : Int) (i j : Nat) : (s.set o v i j).reals = s.reals := rfl
@[simp] theorem set_logs (s : State) (o : Obj) (v : Int) (i j : Nat) : (s.set o v i j).logs = s.logs := rfl
@[simp] theorem set_out (s : State) (o : Obj) (v : Int) (i j : Nat) : (s.set o v i j).out = s.out := rfl
@[simp] theorem set_waiting (s : State) (o : Obj) (v : Int) (i j : Nat) : (s.set o v i j).waiting = s.waiting := rfl
@[simp] theorem set_sessions (s : State) (o : Obj) (v : Int) (i j : Nat) : (s.set o v i j).sessions = s.sessions := rfl
@[simp] theorem set_pool (s : State) (o : Obj) (v : Int) (i j : Nat) : (s.set o v i j).pool = s.pool := rfl
@[simp] theorem set_flash (s : State) (o : Obj) (v : Int) (i j : Nat) : (s.set o v i j).flash = s.flash := rfl
@[simp] theorem set_pending (s : State) (o : Obj) (v : Int) (i j : Nat) : (s.set o v i j).pending = s.pending := rfl
@[simp] theorem set_journal (s : State) (o : Obj) (v : Int) (i j : Nat) : (s.set o v i j).journal = s.journal := rfl
@[simp] theorem set_dirty (s : State) (o : Obj) (v : Int) (i j : Nat) : (s.set o v i j).dirty = s.dirty := rfl

@[simp] theorem get_emit (s : State) (e : Emission) (o : Obj) (i j : Nat) : (s.emit e).get o i j = s.get o i j := rfl
@[simp] theorem bytes_emit (s : State) (e : Emission) (o : Obj) (i j : Nat) : (s.emit e).bytes o i j = s.bytes o i j := rfl
@[simp] theorem seq_emit (s : State) (e : Emission) (o : Obj) (i j : Nat) : (s.emit e).seq o i j = s.seq o i j := rfl
@[simp] theorem real_emit (s : State) (e : Emission) (o : Obj) (i j : Nat) : (s.emit e).real o i j = s.real o i j := rfl
@[simp] theorem log_emit (s : State) (e : Emission) (o : Obj) (i : Nat) : (s.emit e).log o i = s.log o i := rfl
@[simp] theorem emit_out (s : State) (e : Emission) : (s.emit e).out = s.out ++ [e] := rfl
@[simp] theorem emit_pending (s : State) (e : Emission) : (s.emit e).pending = s.pending := rfl
@[simp] theorem emit_waiting (s : State) (e : Emission) : (s.emit e).waiting = s.waiting := rfl
@[simp] theorem emit_sessions (s : State) (e : Emission) : (s.emit e).sessions = s.sessions := rfl

@[simp] theorem get_setBytes (s : State) (p o : Obj) (d : List Byte) (i j k l : Nat) :
    (s.setBytes p d i j).get o k l = s.get o k l := rfl
@[simp] theorem get_setSeq (s : State) (p o : Obj) (d : List Int) (i j k l : Nat) :
    (s.setSeq p d i j).get o k l = s.get o k l := rfl
@[simp] theorem get_setReal (s : State) (p o : Obj) (d : Rat) (i j k l : Nat) :
    (s.setReal p d i j).get o k l = s.get o k l := rfl
@[simp] theorem get_setLog (s : State) (p o : Obj) (d : List (List Byte)) (i k l : Nat) :
    (s.setLog p d i).get o k l = s.get o k l := rfl
@[simp] theorem bytes_set (s : State) (p o : Obj) (v : Int) (i j k l : Nat) :
    (s.set p v i j).bytes o k l = s.bytes o k l := rfl
@[simp] theorem seq_set (s : State) (p o : Obj) (v : Int) (i j k l : Nat) :
    (s.set p v i j).seq o k l = s.seq o k l := rfl
@[simp] theorem real_set (s : State) (p o : Obj) (v : Int) (i j k l : Nat) :
    (s.set p v i j).real o k l = s.real o k l := rfl
@[simp] theorem log_set (s : State) (p o : Obj) (v : Int) (i j k : Nat) : (s.set p v i j).log o k = s.log o k := rfl
@[simp] theorem seq_setBytes (s : State) (p o : Obj) (v : List Byte) (i j k l : Nat) :
    (s.setBytes p v i j).seq o k l = s.seq o k l := rfl
@[simp] theorem log_setBytes (s : State) (p o : Obj) (v : List Byte) (i j k : Nat) :
    (s.setBytes p v i j).log o k = s.log o k := rfl
@[simp] theorem bytes_setSeq (s : State) (p o : Obj) (v : List Int) (i j k l : Nat) :
    (s.setSeq p v i j).bytes o k l = s.bytes o k l := rfl
@[simp] theorem log_setSeq (s : State) (p o : Obj) (v : List Int) (i j k : Nat) :
    (s.setSeq p v i j).log o k = s.log o k := rfl
@[simp] theorem bytes_setLog (s : State) (p o : Obj) (v : List (List Byte)) (i k l : Nat) :
    (s.setLog p v i).bytes o k l = s.bytes o k l := rfl
@[simp] theorem seq_setLog (s : State) (p o : Obj) (v : List (List Byte)) (i k l : Nat) :
    (s.setLog p v i).seq o k l = s.seq o k l := rfl

theorem bytes_setBytes (s : State) (o q : Obj) (v : List Byte) (i j k l : Nat) :
    (s.setBytes o v i j).bytes q k l = if o.id = q.id ∧ i = k ∧ j = l then v else s.bytes q k l := by
  unfold State.bytes State.setBytes
  simp only [storeFind, Key.mk.injEq]
  by_cases h : o.id = q.id ∧ i = k ∧ j = l
  · rw [if_pos h, if_pos h]
  · rw [if_neg h, if_neg h]

@[simp] theorem bytes_setBytes_same (s : State) (o : Obj) (v : List Byte) (i j : Nat) :
    (s.setBytes o v i j).bytes o i j = v := by
  simp [bytes_setBytes]

theorem seq_setSeq (s : State) (o q : Obj) (v : List Int) (i j k l : Nat) :
    (s.setSeq o v i j).seq q k l = if o.id = q.id ∧ i = k ∧ j = l then v else s.seq q k l := by
  unfold State.seq State.setSeq
  simp only [storeFind, Key.mk.injEq]
  by_cases h : o.id = q.id ∧ i = k ∧ j = l
  · rw [if_pos h, if_pos h]
  · rw [if_neg h, if_neg h]

@[simp] theorem seq_setSeq_same (s : State) (o : Obj) (v : List Int) (i j : Nat) :
    (s.setSeq o v i j).seq o i j = v := by
  simp [seq_setSeq]

theorem real_setReal (s : State) (o q : Obj) (v : Rat) (i j k l : Nat) :
    (s.setReal o v i j).real q k l = if o.id = q.id ∧ i = k ∧ j = l then v else s.real q k l := by
  unfold State.real State.setReal
  simp only [storeFind, Key.mk.injEq]
  by_cases h : o.id = q.id ∧ i = k ∧ j = l
  · rw [if_pos h, if_pos h]
  · rw [if_neg h, if_neg h]

@[simp] theorem real_setReal_same (s : State) (o : Obj) (v : Rat) (i j : Nat) :
    (s.setReal o v i j).real o i j = v := by
  simp [real_setReal]

theorem log_setLog (s : State) (o q : Obj) (v : List (List Byte)) (i k : Nat) :
    (s.setLog o v i).log q k = if o.id = q.id ∧ i = k then v else s.log q k := by
  unfold State.log State.setLog
  simp only [storeFind, Key.mk.injEq, and_true]
  by_cases h : o.id = q.id ∧ i = k
  · rw [if_pos h, if_pos h]
  · rw [if_neg h, if_neg h]

@[simp] theorem log_setLog_same (s : State) (o : Obj) (v : List (List Byte)) (i : Nat) :
    (s.setLog o v i).log o i = v := by
  simp [log_setLog]

@[simp] theorem get_inc_same (s : State) (o : Obj) (i j : Nat) : (s.inc o i j).get o i j = (s.get o i j + 1) % 4294967296 := by
  simp [State.inc]

theorem get_inc_of_ne (s : State) {o q : Obj} (i j k l : Nat) (h : o.id ≠ q.id) :
    (s.inc o i j).get q k l = s.get q k l := get_set_of_ne s _ _ _ _ _ h

/-! ### The canonical form -/

@[simp] theorem canon_get (s : State) (o : Obj) (i j : Nat) : s.canon.get o i j = s.get o i j := by
  simp [State.get, State.canon]

@[simp] theorem canon_bytes (s : State) (o : Obj) (i j : Nat) : s.canon.bytes o i j = s.bytes o i j := by
  simp [State.bytes, State.canon]

@[simp] theorem canon_seq (s : State) (o : Obj) (i j : Nat) : s.canon.seq o i j = s.seq o i j := by
  simp [State.seq, State.canon]

@[simp] theorem canon_real (s : State) (o : Obj) (i j : Nat) : s.canon.real o i j = s.real o i j := by
  simp [State.real, State.canon]

@[simp] theorem canon_log (s : State) (o : Obj) (i : Nat) : s.canon.log o i = s.log o i := by
  simp [State.log, State.canon]

@[simp] theorem canon_out (s : State) : s.canon.out = s.out := rfl
@[simp] theorem canon_waiting (s : State) : s.canon.waiting = s.waiting := rfl
@[simp] theorem canon_sessions (s : State) : s.canon.sessions = s.sessions := rfl
@[simp] theorem canon_dirty (s : State) : s.canon.dirty = s.dirty := rfl
@[simp] theorem canon_ring (s : State) : s.canon.ring = s.ring := rfl

theorem Kept.canon_wf (k : Kept) : k.canon.wf = true := by
  simp [Kept.canon, Kept.wf, storeRising_canon]

/-- What the canonical form leaves is canonical, whatever the queue. -/
theorem canon_wf (s : State) (q : List Instr) : State.wf { s.canon with pending := q } = true := by
  simp [State.canon, State.wf, storeRising_canon, Kept.canon_wf, memCanon_wf]

/-! ### Reading past the fields that a command starts and ends with -/

@[simp] theorem get_withOut (s : State) (e : List Emission) (o : Obj) (i j : Nat) :
    State.get { s with out := e } o i j = s.get o i j := rfl
@[simp] theorem bytes_withOut (s : State) (e : List Emission) (o : Obj) (i j : Nat) :
    State.bytes { s with out := e } o i j = s.bytes o i j := rfl
@[simp] theorem seq_withOut (s : State) (e : List Emission) (o : Obj) (i j : Nat) :
    State.seq { s with out := e } o i j = s.seq o i j := rfl
@[simp] theorem real_withOut (s : State) (e : List Emission) (o : Obj) (i j : Nat) :
    State.real { s with out := e } o i j = s.real o i j := rfl
@[simp] theorem log_withOut (s : State) (e : List Emission) (o : Obj) (i : Nat) :
    State.log { s with out := e } o i = s.log o i := rfl
@[simp] theorem get_withPending (s : State) (q : List Instr) (o : Obj) (i j : Nat) :
    State.get { s with pending := q } o i j = s.get o i j := rfl
@[simp] theorem bytes_withPending (s : State) (q : List Instr) (o : Obj) (i j : Nat) :
    State.bytes { s with pending := q } o i j = s.bytes o i j := rfl
@[simp] theorem seq_withPending (s : State) (q : List Instr) (o : Obj) (i j : Nat) :
    State.seq { s with pending := q } o i j = s.seq o i j := rfl
@[simp] theorem real_withPending (s : State) (q : List Instr) (o : Obj) (i j : Nat) :
    State.real { s with pending := q } o i j = s.real o i j := rfl
@[simp] theorem log_withPending (s : State) (q : List Instr) (o : Obj) (i : Nat) :
    State.log { s with pending := q } o i = s.log o i := rfl

/-! ### Running a change -/

/-- The state in which a change leaves the module. -/
theorem run_next (s : State) (f : State → State) :
    s.run f = .next { (f { s with out := [] }).canon with pending := s.pending } := rfl

/-- Everything that a change can do: it answers one next state, which reads as the change left it, with the queue as before. -/
theorem run_inv {s t : State} {f : State → State} (h : s.run f = .next t) :
    t = { (f { s with out := [] }).canon with pending := s.pending } := by
  rw [run_next] at h
  cases h
  rfl

theorem run_wf {s t : State} {f : State → State} (h : s.run f = .next t) : t.wf = true := by
  rw [run_inv h]; exact canon_wf _ _

theorem run_pending {s t : State} {f : State → State} (h : s.run f = .next t) : t.pending = s.pending := by
  rw [run_inv h]

end Sys2Proof.Machine
end

