-- ==== Sys2Proof/Laws/View.lean ====
section
/-!
SUPPORT. Laws of a register's view: a write leaves the view of every other register, and with it the stores that few
commands touch.
-/

namespace Sys2Proof.Machine

set_option Elab.async false

theorem view_of_part {s t : State} {o : Obj} (h : s.part o = t.part o) : s.view o = t.view o := congrArg Prod.fst h

theorem part_of {s t : State} {o : Obj} (h : s.view o = t.view o) (k : s.still = t.still) : s.part o = t.part o := by
  unfold State.part; rw [h, k]

theorem get_of_view {s t : State} {o : Obj} (h : s.view o = t.view o) (i j : Nat) : s.get o i j = t.get o i j :=
  congrFun (congrFun (congrArg (fun x => x.1) h) i) j

theorem bytes_of_view {s t : State} {o : Obj} (h : s.view o = t.view o) (i j : Nat) : s.bytes o i j = t.bytes o i j :=
  congrFun (congrFun (congrArg (fun x => x.2.1) h) i) j

theorem seq_of_view {s t : State} {o : Obj} (h : s.view o = t.view o) (i j : Nat) : s.seq o i j = t.seq o i j :=
  congrFun (congrFun (congrArg (fun x => x.2.2.1) h) i) j

theorem real_of_view {s t : State} {o : Obj} (h : s.view o = t.view o) (i j : Nat) : s.real o i j = t.real o i j :=
  congrFun (congrFun (congrArg (fun x => x.2.2.2.1) h) i) j

theorem log_of_view {s t : State} {o : Obj} (h : s.view o = t.view o) (i : Nat) : s.log o i = t.log o i :=
  congrFun (congrArg (fun x => x.2.2.2.2) h) i

theorem part_ite (c : Prop) [Decidable c] (a b : State) (o : Obj) :
    State.part (if c then a else b) o = if c then a.part o else b.part o := by split <;> rfl

theorem view_ite (c : Prop) [Decidable c] (a b : State) (o : Obj) :
    State.view (if c then a else b) o = if c then a.view o else b.view o := by split <;> rfl

theorem view_set {s : State} {o q : Obj} (h : ¬ o.id = q.id) (v : Int) (i j : Nat) : (s.set q v i j).view o = s.view o := by
  have e : (fun k l => (s.set q v i j).get o k l) = fun k l => s.get o k l := by
    funext k l; exact get_set_of_ne s v i j k l fun x => h x.symm
  unfold State.view; rw [e]; rfl

theorem view_setBytes {s : State} {o q : Obj} (h : ¬ o.id = q.id) (v : List Byte) (i j : Nat) : (s.setBytes q v i j).view o = s.view o := by
  have e : (fun k l => (s.setBytes q v i j).bytes o k l) = fun k l => s.bytes o k l := by
    funext k l; rw [bytes_setBytes, if_neg fun x => h x.1.symm]
  unfold State.view; rw [e]; rfl

theorem view_setSeq {s : State} {o q : Obj} (h : ¬ o.id = q.id) (v : List Int) (i j : Nat) : (s.setSeq q v i j).view o = s.view o := by
  have e : (fun k l => (s.setSeq q v i j).seq o k l) = fun k l => s.seq o k l := by
    funext k l; rw [seq_setSeq, if_neg fun x => h x.1.symm]
  unfold State.view; rw [e]; rfl

theorem view_setReal {s : State} {o q : Obj} (h : ¬ o.id = q.id) (v : Rat) (i j : Nat) : (s.setReal q v i j).view o = s.view o := by
  have e : (fun k l => (s.setReal q v i j).real o k l) = fun k l => s.real o k l := by
    funext k l; rw [real_setReal, if_neg fun x => h x.1.symm]
  unfold State.view; rw [e]; rfl

theorem view_setLog {s : State} {o q : Obj} (h : ¬ o.id = q.id) (v : List (List Byte)) (i : Nat) : (s.setLog q v i).view o = s.view o := by
  have e : (fun k => (s.setLog q v i).log o k) = fun k => s.log o k := by
    funext k; rw [log_setLog, if_neg fun x => h x.1.symm]
  unfold State.view; rw [e]; rfl

theorem view_inc {s : State} {o q : Obj} (h : ¬ o.id = q.id) (i j : Nat) : (s.inc q i j).view o = s.view o := view_set h _ i j

theorem view_setB {s : State} {o q : Obj} (h : ¬ o.id = q.id) (v : Bool) (i j : Nat) : (s.setB q v i j).view o = s.view o := view_set h _ i j

theorem view_setBit {s : State} {o q : Obj} (h : ¬ o.id = q.id) (b : Nat) (v : Bool) (i j : Nat) : (s.setBit q b v i j).view o = s.view o := view_set h _ i j

theorem view_retain (s : State) (o q : Obj) (v : Int) (i j : Nat) : (s.retain q v i j).view o = s.view o := rfl

theorem view_keep {s : State} {o q : Obj} (h : ¬ o.id = q.id) (v : Int) (i j : Nat) : (s.keep q v i j).view o = s.view o := view_set h _ i j

theorem view_emit (s : State) (e : Emission) (o : Obj) : (s.emit e).view o = s.view o := rfl

theorem view_draw {s : State} {o : Obj} (h : ¬ o.id = Reg.freeCount.id) (p : Nat) : (s.draw p).2.view o = s.view o := view_set h _ 0 0

theorem view_random {s : State} {o : Obj} (h : ¬ o.id = Reg.freeCount.id) (p : Nat) : (s.random p).2.view o = s.view o := view_set h _ 0 0

theorem part_set {s : State} {o q : Obj} (h : ¬ o.id = q.id) (v : Int) (i j : Nat) : (s.set q v i j).part o = s.part o := part_of (view_set h v i j) rfl

theorem part_setBytes {s : State} {o q : Obj} (h : ¬ o.id = q.id) (v : List Byte) (i j : Nat) : (s.setBytes q v i j).part o = s.part o := part_of (view_setBytes h v i j) rfl

theorem part_setSeq {s : State} {o q : Obj} (h : ¬ o.id = q.id) (v : List Int) (i j : Nat) : (s.setSeq q v i j).part o = s.part o := part_of (view_setSeq h v i j) rfl

theorem part_setReal {s : State} {o q : Obj} (h : ¬ o.id = q.id) (v : Rat) (i j : Nat) : (s.setReal q v i j).part o = s.part o := part_of (view_setReal h v i j) rfl

theorem part_setLog {s : State} {o q : Obj} (h : ¬ o.id = q.id) (v : List (List Byte)) (i : Nat) : (s.setLog q v i).part o = s.part o := part_of (view_setLog h v i) rfl

theorem part_inc {s : State} {o q : Obj} (h : ¬ o.id = q.id) (i j : Nat) : (s.inc q i j).part o = s.part o := part_of (view_inc h i j) rfl

theorem part_setB {s : State} {o q : Obj} (h : ¬ o.id = q.id) (v : Bool) (i j : Nat) : (s.setB q v i j).part o = s.part o := part_of (view_setB h v i j) rfl

theorem part_setBit {s : State} {o q : Obj} (h : ¬ o.id = q.id) (b : Nat) (v : Bool) (i j : Nat) : (s.setBit q b v i j).part o = s.part o := part_of (view_setBit h b v i j) rfl

theorem part_retain (s : State) (o q : Obj) (v : Int) (i j : Nat) : (s.retain q v i j).part o = s.part o := rfl

theorem part_keep {s : State} {o q : Obj} (h : ¬ o.id = q.id) (v : Int) (i j : Nat) : (s.keep q v i j).part o = s.part o := part_of (view_keep h v i j) rfl

theorem part_emit (s : State) (e : Emission) (o : Obj) : (s.emit e).part o = s.part o := rfl

theorem part_draw {s : State} {o : Obj} (h : ¬ o.id = Reg.freeCount.id) (p : Nat) : (s.draw p).2.part o = s.part o := part_of (view_draw h p) rfl

theorem part_random {s : State} {o : Obj} (h : ¬ o.id = Reg.freeCount.id) (p : Nat) : (s.random p).2.part o = s.part o := part_of (view_random h p) rfl

theorem part_when (s : State) (c : Bool) (f : State → State) (o : Obj) : (s.when c f).part o = if c then (f s).part o else s.part o := by
  unfold State.when; split <;> rfl

theorem view_when (s : State) (c : Bool) (f : State → State) (o : Obj) : (s.when c f).view o = if c then (f s).view o else s.view o := by
  unfold State.when; split <;> rfl

theorem forL_part {o : Obj} {f : Nat → State → State} (h : ∀ k u, (f k u).part o = u.part o) (l : List Nat) (s : State) : (s.forL l f).part o = s.part o := by
  induction l generalizing s with
  | nil => rfl
  | cons a l ih => exact (ih (f a s)).trans (h a s)

theorem forN_part {o : Obj} {f : Nat → State → State} (h : ∀ k u, (f k u).part o = u.part o) (n : Nat) (s : State) : (s.forN n f).part o = s.part o := forL_part h _ s

theorem foldl_part {α : Type} {o : Obj} {f : State → α → State} (h : ∀ a u, (f u a).part o = u.part o) (l : List α) (s : State) : (l.foldl f s).part o = s.part o := by
  induction l generalizing s with
  | nil => rfl
  | cons a l ih => exact (ih (f s a)).trans (h a s)

theorem forL_view {o : Obj} {f : Nat → State → State} (h : ∀ k u, (f k u).view o = u.view o) (l : List Nat) (s : State) : (s.forL l f).view o = s.view o := by
  induction l generalizing s with
  | nil => rfl
  | cons a l ih => exact (ih (f a s)).trans (h a s)

theorem forN_view {o : Obj} {f : Nat → State → State} (h : ∀ k u, (f k u).view o = u.view o) (n : Nat) (s : State) : (s.forN n f).view o = s.view o := forL_view h _ s

theorem foldl_view {α : Type} {o : Obj} {f : State → α → State} (h : ∀ a u, (f u a).view o = u.view o) (l : List α) (s : State) : (l.foldl f s).view o = s.view o := by
  induction l generalizing s with
  | nil => rfl
  | cons a l ih => exact (ih (f s a)).trans (h a s)

end Sys2Proof.Machine
end

