-- ==== Sys2Proof/Laws/Ops.lean ====
section
/-!
SUPPORT. Laws of the shared operations: the event log, the journal queue, and the judgement of a host write leave every
register alone but their own.
-/

namespace Sys2Proof.Machine

set_option Elab.async false

/-! ### Repetition -/

theorem forL_get {o : Obj} {i j : Nat} {f : Nat → State → State} (h : ∀ k u, (f k u).get o i j = u.get o i j)
    (l : List Nat) (s : State) : (s.forL l f).get o i j = s.get o i j := by
  induction l generalizing s with
  | nil => rfl
  | cons a l ih => exact (ih (f a s)).trans (h a s)

theorem forN_get {o : Obj} {i j : Nat} {f : Nat → State → State} (h : ∀ k u, (f k u).get o i j = u.get o i j)
    (n : Nat) (s : State) : (s.forN n f).get o i j = s.get o i j := forL_get h _ s

theorem foldl_get {α : Type} {o : Obj} {i j : Nat} {f : State → α → State} (h : ∀ a u, (f u a).get o i j = u.get o i j)
    (l : List α) (s : State) : (l.foldl f s).get o i j = s.get o i j := by
  induction l generalizing s with
  | nil => rfl
  | cons a l ih => exact (ih (f s a)).trans (h a s)

/-- A change made for each number reads, at each number below the bound, as that number's own change left it, when the
others leave it alone. -/
theorem forN_get_at {o : Obj} {j : Nat} {f : Nat → State → State} {v : Nat → Int}
    (hit : ∀ k u, (f k u).get o k j = v k) (miss : ∀ k i u, i ≠ k → (f k u).get o i j = u.get o i j)
    {n i : Nat} (hi : i < n) (s : State) : (s.forN n f).get o i j = v i := by
  induction n with
  | zero => omega
  | succ n ih =>
    have e : s.forN (n + 1) f = f n (s.forN n f) := by
      simp [State.forN, List.range_succ]
    rw [e]
    by_cases h : i = n
    · subst h; exact hit _ _
    · rw [miss n i _ h]; exact ih (by omega)

theorem forL_real {o : Obj} {i j : Nat} {f : Nat → State → State} (h : ∀ k u, (f k u).real o i j = u.real o i j)
    (l : List Nat) (s : State) : (s.forL l f).real o i j = s.real o i j := by
  induction l generalizing s with
  | nil => rfl
  | cons a l ih => exact (ih (f a s)).trans (h a s)

theorem forL_log {o : Obj} {i : Nat} {f : Nat → State → State} (h : ∀ k u, (f k u).log o i = u.log o i)
    (l : List Nat) (s : State) : (s.forL l f).log o i = s.log o i := by
  induction l generalizing s with
  | nil => rfl
  | cons a l ih => exact (ih (f a s)).trans (h a s)

theorem forL_out {f : Nat → State → State} (h : ∀ k u, (f k u).out = u.out)
    (l : List Nat) (s : State) : (s.forL l f).out = s.out := by
  induction l generalizing s with
  | nil => rfl
  | cons a l ih => exact (ih (f a s)).trans (h a s)

theorem forN_out {f : Nat → State → State} (h : ∀ k u, (f k u).out = u.out)
    (n : Nat) (s : State) : (s.forN n f).out = s.out := forL_out h _ s

theorem forL_waiting {f : Nat → State → State} (h : ∀ k u, (f k u).waiting = u.waiting)
    (l : List Nat) (s : State) : (s.forL l f).waiting = s.waiting := by
  induction l generalizing s with
  | nil => rfl
  | cons a l ih => exact (ih (f a s)).trans (h a s)

theorem forN_waiting {f : Nat → State → State} (h : ∀ k u, (f k u).waiting = u.waiting)
    (n : Nat) (s : State) : (s.forN n f).waiting = s.waiting := forL_waiting h _ s

/-! ### Registers that the shared operations leave -/

theorem ne_of_quiet {o : Obj} (h : o.quiet = true) {n : Nat} (m : n ∈ busyRegisters) : n ≠ o.id := by
  rintro rfl
  simp only [Obj.quiet, Bool.not_eq_true', ← Bool.not_eq_true, List.contains_iff_mem] at h
  exact h m

theorem quiet_ne {o : Obj} (h : o.quiet = true) {n : Nat} (m : n ∈ busyRegisters := by decide) : ¬ o.id = n :=
  fun e => ne_of_quiet h m e.symm

section
variable {o : Obj} (h : o.quiet = true)
include h

theorem dropItem_part (kind : Nat) (item : List Byte) (s : State) :
    (dropItem kind item s).part o = s.part o := by
  refine forN_part (fun ch u => ?_) _ _
  split
  · rw [part_set (quiet_ne h), part_set (quiet_ne h), part_setLog (quiet_ne h)]
  · rfl

theorem queueItem_part (ch kind : Nat) (item : List Byte) (s : State) :
    (queueItem ch kind item s).part o = s.part o := by
  unfold queueItem
  dsimp only
  split
  · rw [part_set (quiet_ne h), part_set (quiet_ne h), part_setLog (quiet_ne h)]
  · rw [part_set (quiet_ne h), part_setLog (quiet_ne h)]

theorem ringEntry_part (e : List Byte) (s : State) : (ringEntry e s).part o = s.part o := by
  unfold ringEntry
  dsimp only
  split
  · split
    · rw [dropItem_part h, part_inc (quiet_ne h), part_setLog (quiet_ne h)]
    · rw [part_setLog (quiet_ne h)]
  · rw [part_setLog (quiet_ne h)]

theorem enterEvent_part (f : Nat → List Byte) (s : State) : (enterEvent f s).part o = s.part o := by
  have q (t : State) (n : Nat) (e : List Byte) :
      State.part (if t.get Obj.startUpStage < 3 then t else queueItem n 4 e t) o = t.part o := by
    split
    · rfl
    · rw [queueItem_part h]
  unfold enterEvent
  dsimp only
  split
  · rw [part_inc (quiet_ne h)]
  · split
    · rw [part_setLog (quiet_ne h), q, part_set (quiet_ne h)]
    · rw [ringEntry_part h, q, part_set (quiet_ne h)]

theorem logEntry_part (code src held : Nat) (d : List Byte) (s : State) :
    (logEntry code src held d s).part o = s.part o := by
  rw [logEntry, enterEvent_part h]

theorem logEvent_part (code src : Nat) (d : List Byte) (s : State) :
    (logEvent code src d s).part o = s.part o := by
  rw [logEvent, logEntry_part h]

theorem logLimited_part (code src elem period : Nat) (d : List Byte) (s : State) :
    (logLimited code src elem period d s).part o = s.part o := by
  unfold logLimited
  dsimp only
  split
  · rw [part_set (quiet_ne h), part_set (quiet_ne h), logEntry_part h]
  · rw [part_set (quiet_ne h)]

theorem logEpisode_part (code src elem : Nat) (d : List Byte) (s : State) :
    (logEpisode code src elem d s).part o = s.part o := by
  unfold logEpisode
  split
  · rw [part_set (quiet_ne h), part_set (quiet_ne h), logEntry_part h]
  · rw [part_set (quiet_ne h)]

theorem endEpisode_part (code elem : Nat) (s : State) :
    (endEpisode code elem s).part o = s.part o := by
  rw [endEpisode, part_set (quiet_ne h)]

theorem submit_part (writer kind key sub : Nat) (p : List Byte) (urgent : Bool) (s : State) :
    (submit writer kind key sub p urgent s).part o = s.part o := by
  have q (t : State) : State.part (if (t.log Reg.journalItems).isEmpty then t.set Reg.journalItemsAt t.frame else t) o =
      t.part o := by
    split
    · rw [part_set (quiet_ne h)]
    · rfl
  unfold submit
  dsimp only
  split
  · split
    · rfl
    · rw [part_set (quiet_ne h), part_setLog (quiet_ne h)]
  · split
    · rw [part_set (quiet_ne h), part_setLog (quiet_ne h), q]
    · rw [part_setLog (quiet_ne h), q]

theorem submitObject_part (writer kind : Nat) (q : Obj) (a b : Nat) (urgent : Bool) (s : State) :
    (submitObject writer kind q a b urgent s).part o = s.part o := by
  rw [submitObject, submit_part h]

theorem emitAnswer_part (a : Answer) (s : State) : (emitAnswer a s).part o = s.part o := by
  unfold emitAnswer
  split
  · dsimp only
    split
    · rfl
    · rw [part_set (quiet_ne h), part_setBytes (quiet_ne h), part_emit]
  · rfl

theorem answer_part (s : State) (space : Nat) (r : Req) (fn status : Nat) (d : List Byte) :
    (s.answer space r fn status d).part o = s.part o := by
  rw [State.answer, emitAnswer_part h]

theorem markDirty_part (q : Obj) (k : Key) (s : State) : (markDirty q k s).part o = s.part o := by
  unfold markDirty
  split
  · dsimp only
    rw [part_set (quiet_ne h), part_set (quiet_ne h)]
    rfl
  · rfl

theorem awaitSync_part (w : Waiting) (s : State) : (awaitSync w s).part o = s.part o := by
  unfold awaitSync
  dsimp only
  split
  · rw [part_set (quiet_ne h), part_inc (quiet_ne h)]; rfl
  · rw [part_inc (quiet_ne h)]; rfl

theorem accepted_part (s : State) (space role : Nat) (r : Req) (q : Obj) (a b : Nat) (d : List Byte) :
    (s.accepted space role r q a b d).part o = s.part o := by
  unfold State.accepted
  split
  · rw [awaitSync_part h, part_emit]
  · rw [answer_part h]

@[simp] theorem logEntry_get (code src held : Nat) (d : List Byte) (s : State) (i j : Nat) :
    (logEntry code src held d s).get o i j = s.get o i j := get_of_view (view_of_part (logEntry_part h code src held d s)) i j

@[simp] theorem logEvent_get (code src : Nat) (d : List Byte) (s : State) (i j : Nat) :
    (logEvent code src d s).get o i j = s.get o i j := get_of_view (view_of_part (logEvent_part h code src d s)) i j

@[simp] theorem logLimited_get (code src elem period : Nat) (d : List Byte) (s : State) (i j : Nat) :
    (logLimited code src elem period d s).get o i j = s.get o i j := get_of_view (view_of_part (logLimited_part h code src elem period d s)) i j

@[simp] theorem logEpisode_get (code src elem : Nat) (d : List Byte) (s : State) (i j : Nat) :
    (logEpisode code src elem d s).get o i j = s.get o i j := get_of_view (view_of_part (logEpisode_part h code src elem d s)) i j

@[simp] theorem endEpisode_get (code elem : Nat) (s : State) (i j : Nat) :
    (endEpisode code elem s).get o i j = s.get o i j := get_of_view (view_of_part (endEpisode_part h code elem s)) i j

@[simp] theorem submit_get (writer kind key sub : Nat) (p : List Byte) (urgent : Bool) (s : State) (i j : Nat) :
    (submit writer kind key sub p urgent s).get o i j = s.get o i j := get_of_view (view_of_part (submit_part h writer kind key sub p urgent s)) i j

@[simp] theorem submitObject_get (writer kind : Nat) (q : Obj) (a b : Nat) (urgent : Bool) (s : State) (i j : Nat) :
    (submitObject writer kind q a b urgent s).get o i j = s.get o i j := get_of_view (view_of_part (submitObject_part h writer kind q a b urgent s)) i j

@[simp] theorem emitAnswer_get (a : Answer) (s : State) (i j : Nat) :
    (emitAnswer a s).get o i j = s.get o i j := get_of_view (view_of_part (emitAnswer_part h a s)) i j

@[simp] theorem answer_get (s : State) (space : Nat) (r : Req) (fn status : Nat) (d : List Byte) (i j : Nat) :
    (State.answer s space r fn status d).get o i j = s.get o i j := get_of_view (view_of_part (answer_part h s space r fn status d)) i j

@[simp] theorem markDirty_get (q : Obj) (k : Key) (s : State) (i j : Nat) :
    (markDirty q k s).get o i j = s.get o i j := get_of_view (view_of_part (markDirty_part h q k s)) i j

@[simp] theorem awaitSync_get (w : Waiting) (s : State) (i j : Nat) :
    (awaitSync w s).get o i j = s.get o i j := get_of_view (view_of_part (awaitSync_part h w s)) i j

@[simp] theorem accepted_get (s : State) (space role : Nat) (r : Req) (q : Obj) (a b : Nat) (d : List Byte) (i j : Nat) :
    (State.accepted s space role r q a b d).get o i j = s.get o i j := get_of_view (view_of_part (accepted_part h s space role r q a b d)) i j

end

/-! ### Host writes -/

/-- A granted write takes the effect of its rule and is answered. -/
theorem hostWrite_granted {r : Req} {o : Obj} {i j : Nat} {d : List Byte} {role space : Nat} {s u t : State}
    {fx : Nat → State → Except Nat State} (g : Granted r o i j d role space s u) (h : fx role u = .ok t) :
    hostWrite r o i j d fx { s with out := [] } = (markDirty o (o.key i j) t).accepted space role r o i j d := by
  have c : ¬ r.complete = false := by simp [g.complete]
  unfold hostWrite
  rw [if_neg c, g.judged]
  simp [g.value, g.allowed, h]

/-- A granted write that a rule of its chapter refuses is answered with that status. -/
theorem hostWrite_refused {r : Req} {o : Obj} {i j : Nat} {d : List Byte} {role space st : Nat} {s u : State}
    {fx : Nat → State → Except Nat State} (g : Granted r o i j d role space s u) (h : fx role u = .error st) :
    hostWrite r o i j d fx { s with out := [] } = u.answer space r 2 st := by
  have c : ¬ r.complete = false := by simp [g.complete]
  unfold hostWrite
  rw [if_neg c, g.judged]
  simp [g.value, g.allowed, h]

/-- A granted write whose action has an end of its own waits for it. -/
theorem hostDefer_granted {r : Req} {o : Obj} {i j : Nat} {d : List Byte} {role space : Nat} {s u t : State}
    {fx : Nat → State → Except Nat State} (g : Granted r o i j d role space s u) (h : fx role u = .ok t) :
    hostDefer r o i j d fx { s with out := [] } = { markDirty o (o.key i j) t with
      waiting := t.waiting ++ [⟨space, r.tag, r.epoch, respCode 2, .atOnce, false, t.now, role, false,
        [⟨o.key i j, o.ty.decode d, d, o.ty.isBytes⟩]⟩] } := by
  have c : ¬ r.complete = false := by simp [g.complete]
  unfold hostDefer
  rw [if_neg c, g.judged]
  simp [g.value, g.allowed, h]

/-- What a granted write leaves in a quiet register is what its rule left there. -/
theorem hostWrite_get {r : Req} {o q : Obj} {i j : Nat} {d : List Byte} {role space : Nat} {s u t : State}
    {fx : Nat → State → Except Nat State} (g : Granted r o i j d role space s u) (h : fx role u = .ok t)
    (hq : q.quiet = true) (k l : Nat) : (hostWrite r o i j d fx { s with out := [] }).get q k l = t.get q k l := by
  rw [hostWrite_granted g h, accepted_get hq, markDirty_get hq]

theorem hostDefer_get {r : Req} {o q : Obj} {i j : Nat} {d : List Byte} {role space : Nat} {s u t : State}
    {fx : Nat → State → Except Nat State} (g : Granted r o i j d role space s u) (h : fx role u = .ok t)
    (hq : q.quiet = true) (k l : Nat) : (hostDefer r o i j d fx { s with out := [] }).get q k l = t.get q k l := by
  rw [hostDefer_granted g h]
  exact markDirty_get hq _ _ _ _ _

end Sys2Proof.Machine
end

