-- ==== Sys2Proof/Laws/Frames.lean ====
section
/-!
SUPPORT. Frames: a function leaves every register outside its footprint, and with it the memories, or at least the register
where it may write a memory. One lemma for each function, from those of the functions it calls.
-/

namespace Sys2Proof.Machine

set_option Elab.async false

set_option maxRecDepth 2000
set_option linter.unusedSimpArgs false
set_option linter.unusedVariables false
set_option linter.unreachableTactic false
set_option linter.unusedTactic false
set_option linter.unnecessarySeqFocus false

/-- The state in which the judgement of a request leaves the module. -/
def Admission.state : Admission → State
  | .drop s => s
  | .reply s _ _ => s
  | .accept s _ _ _ => s

section
variable {o : Obj} (h : o.quiet = true)
include h
theorem logEntry_view (code src held : Nat) (d : List Byte) (s : State) :
    (logEntry code src held d s).view o = s.view o := view_of_part (logEntry_part h code src held d s)

theorem logEvent_view (code src : Nat) (d : List Byte) (s : State) :
    (logEvent code src d s).view o = s.view o := view_of_part (logEvent_part h code src d s)

theorem logLimited_view (code src elem period : Nat) (d : List Byte) (s : State) :
    (logLimited code src elem period d s).view o = s.view o := view_of_part (logLimited_part h code src elem period d s)

theorem logEpisode_view (code src elem : Nat) (d : List Byte) (s : State) :
    (logEpisode code src elem d s).view o = s.view o := view_of_part (logEpisode_part h code src elem d s)

theorem endEpisode_view (code elem : Nat) (s : State) :
    (endEpisode code elem s).view o = s.view o := view_of_part (endEpisode_part h code elem s)

theorem submit_view (writer kind key sub : Nat) (p : List Byte) (urgent : Bool) (s : State) :
    (submit writer kind key sub p urgent s).view o = s.view o := view_of_part (submit_part h writer kind key sub p urgent s)

theorem submitObject_view (writer kind : Nat) (q : Obj) (a b : Nat) (urgent : Bool) (s : State) :
    (submitObject writer kind q a b urgent s).view o = s.view o := view_of_part (submitObject_part h writer kind q a b urgent s)

theorem emitAnswer_view (a : Answer) (s : State) :
    (emitAnswer a s).view o = s.view o := view_of_part (emitAnswer_part h a s)

theorem answer_view (s : State) (space : Nat) (r : Req) (fn status : Nat) (d : List Byte) :
    (State.answer s space r fn status d).view o = s.view o := view_of_part (answer_part h s space r fn status d)

theorem markDirty_view (q : Obj) (k : Key) (s : State) :
    (markDirty q k s).view o = s.view o := view_of_part (markDirty_part h q k s)

theorem awaitSync_view (w : Waiting) (s : State) :
    (awaitSync w s).view o = s.view o := view_of_part (awaitSync_part h w s)

theorem accepted_view (s : State) (space role : Nat) (r : Req) (q : Obj) (a b : Nat) (d : List Byte) :
    (State.accepted s space role r q a b d).view o = s.view o := view_of_part (accepted_part h s space role r q a b d)

theorem dropItem_view (kind : Nat) (item : List Byte) (s : State) :
    (dropItem kind item s).view o = s.view o := view_of_part (dropItem_part h kind item s)

theorem queueItem_view (ch kind : Nat) (item : List Byte) (s : State) :
    (queueItem ch kind item s).view o = s.view o := view_of_part (queueItem_part h ch kind item s)

theorem ringEntry_view (e : List Byte) (s : State) :
    (ringEntry e s).view o = s.view o := view_of_part (ringEntry_part h e s)

theorem enterEvent_view (f : Nat → List Byte) (s : State) :
    (enterEvent f s).view o = s.view o := view_of_part (enterEvent_part h f s)

end
theorem dropItem_waiting (kind : Nat) (item : List Byte) (s : State) : (dropItem kind item s).waiting = s.waiting := by
  refine forN_waiting (fun ch u => ?_) _ _
  split <;> rfl
theorem queueItem_waiting (ch kind : Nat) (item : List Byte) (s : State) : (queueItem ch kind item s).waiting = s.waiting := by
  unfold queueItem
  dsimp only
  split <;> rfl
theorem ringEntry_waiting (e : List Byte) (s : State) : (ringEntry e s).waiting = s.waiting := by
  unfold ringEntry
  dsimp only
  split
  · split
    · rw [dropItem_waiting]; rfl
    · rfl
  · rfl
theorem enterEvent_waiting (f : Nat → List Byte) (s : State) : (enterEvent f s).waiting = s.waiting := by
  have q (t : State) (n : Nat) (e : List Byte) :
      State.waiting (if t.get Obj.startUpStage < 3 then t else queueItem n 4 e t) = t.waiting := by
    split
    · rfl
    · rw [queueItem_waiting]
  unfold enterEvent
  dsimp only
  split
  · rfl
  · split
    · exact q _ _ _
    · rw [ringEntry_waiting, q]; rfl
theorem logEvent_waiting (code src : Nat) (d : List Byte) (s : State) : (logEvent code src d s).waiting = s.waiting := by
  rw [logEvent, logEntry, enterEvent_waiting]
theorem judgeErrors_waiting (k : Nat) (s : State) : (judgeErrors k s).waiting = s.waiting := by
  unfold judgeErrors
  simp only [apply_ite State.waiting, logEvent_waiting, set_waiting, ite_self]
theorem state_authFailed_part {o_ : Obj} (q_ : o_.quiet = true) (h_ : ¬ o_.id ∈ Footprint.authFailed) (s : State) :
    (State.authFailed s).part o_ = s.part o_ := by
  simp only [Footprint.authFailed, List.mem_append, List.mem_cons, List.not_mem_nil, or_false, false_or, not_or] at h_
  unfold State.authFailed
  first
  | (simp only [part_ite, part_inc, h_, q_, implies_true, ite_self, not_false_eq_true, if_false]; done)
  | ((try simp only [part_ite, part_inc, h_, q_, implies_true, ite_self, not_false_eq_true, if_false]) <;> (repeat' split) <;> (first | (simp only [part_ite, part_inc, h_, q_, implies_true, ite_self, not_false_eq_true, if_false]; done) | rfl))
theorem touchSession_part {o_ : Obj} (q_ : o_.quiet = true)  (s : State) (x lastIn : Nat) :
    (touchSession s x lastIn).part o_ = s.part o_ := by
  unfold touchSession
  first
  | (simp only [part_ite, q_, implies_true, ite_self, not_false_eq_true, if_false]; done)
  | ((try simp only [part_ite, q_, implies_true, ite_self, not_false_eq_true, if_false]) <;> (repeat' split) <;> (first | (simp only [part_ite, q_, implies_true, ite_self, not_false_eq_true, if_false]; done) | rfl))
theorem authenticate_part {o_ : Obj} (h_ : ¬ o_.id ∈ Footprint.authenticate) (r : Req) (fn index sub : Nat) (d : List Byte) (s : State) :
    (authenticate r fn index sub d s).state.part o_ = s.part o_ := by
  simp only [Footprint.authenticate, List.mem_cons, List.not_mem_nil, or_false, not_or] at h_
  obtain ⟨a1, a2, a3⟩ := h_
  unfold authenticate
  dsimp only
  repeat' split
  all_goals first
    | rfl
    | exact part_inc a1 _ _
    | exact part_inc a2 _ _
    | exact part_set a3 _ _ _

theorem judgeRequest_part {o_ : Obj} (h_ : ¬ o_.id ∈ Footprint.authenticate) (r : Req) (fn index sub : Nat) (d : List Byte) (s : State) :
    (judgeRequest r fn index sub d s).state.part o_ = s.part o_ := by
  have a := authenticate_part h_ r fn index sub d s
  unfold judgeRequest
  split
  · rename_i e
    rw [e] at a
    dsimp only
    repeat' split
    all_goals exact a
  · exact a

theorem beginPartly_part {o_ : Obj} (q_ : o_.quiet = true) (r : Req) (fn : Nat) (s : State) :
    (beginPartly r fn s).part o_ = s.part o_ := by
  unfold beginPartly
  dsimp only
  repeat' split
  all_goals first | rfl | exact answer_part q_ _ _ _ _ _ _
theorem hostWrite_part {o_ : Obj} (q_ : o_.quiet = true) (h_ : ¬ o_.id ∈ Footprint.hostWrite) (r : Req) (q : Obj) (i j : Nat) (d : List Byte)
    {fx : Nat → State → Except Nat State} (f_ : ∀ role u t, fx role u = .ok t → t.part o_ = u.part o_) (s : State) :
    (hostWrite r q i j d fx s).part o_ = s.part o_ := by
  unfold hostWrite
  split
  · exact beginPartly_part q_ _ _ _
  · have a := judgeRequest_part h_ r 2 (q.index i) (q.sub + q.subStep * j) d s
    split
    · rename_i e; rw [e] at a; exact a
    · rename_i e; rw [e] at a; rw [answer_part q_]; exact a
    · rename_i e
      rw [e] at a
      repeat' split
      · rw [answer_part q_]; exact a
      · rw [answer_part q_]; exact a
      · rw [answer_part q_]; exact a
      · rw [answer_part q_]; exact a
      · rename_i g
        rw [accepted_part q_, markDirty_part q_, f_ _ _ _ g]; exact a

theorem hostWrite_view {o_ : Obj} (q_ : o_.quiet = true) (h_ : ¬ o_.id ∈ Footprint.hostWrite) (r : Req) (q : Obj) (i j : Nat) (d : List Byte)
    {fx : Nat → State → Except Nat State} (f_ : ∀ role u t, fx role u = .ok t → t.view o_ = u.view o_) (s : State) :
    (hostWrite r q i j d fx s).view o_ = s.view o_ := by
  unfold hostWrite
  split
  · exact view_of_part (beginPartly_part q_ _ _ _)
  · have a := view_of_part (judgeRequest_part h_ r 2 (q.index i) (q.sub + q.subStep * j) d s)
    split
    · rename_i e; rw [e] at a; exact a
    · rename_i e; rw [e] at a; rw [answer_view q_]; exact a
    · rename_i e
      rw [e] at a
      repeat' split
      · rw [answer_view q_]; exact a
      · rw [answer_view q_]; exact a
      · rw [answer_view q_]; exact a
      · rw [answer_view q_]; exact a
      · rename_i g
        rw [accepted_view q_, markDirty_view q_, f_ _ _ _ g]; exact a

theorem hostDefer_part {o_ : Obj} (q_ : o_.quiet = true) (h_ : ¬ o_.id ∈ Footprint.hostDefer) (r : Req) (q : Obj) (i j : Nat) (d : List Byte)
    {fx : Nat → State → Except Nat State} (f_ : ∀ role u t, fx role u = .ok t → t.part o_ = u.part o_) (s : State) :
    (hostDefer r q i j d fx s).part o_ = s.part o_ := by
  unfold hostDefer
  split
  · exact beginPartly_part q_ _ _ _
  · have a := judgeRequest_part h_ r 2 (q.index i) (q.sub + q.subStep * j) d s
    split
    · rename_i e; rw [e] at a; exact a
    · rename_i e; rw [e] at a; rw [answer_part q_]; exact a
    · rename_i e
      rw [e] at a
      repeat' split
      · rw [answer_part q_]; exact a
      · rw [answer_part q_]; exact a
      · rw [answer_part q_]; exact a
      · rw [answer_part q_]; exact a
      · rename_i g
        exact (markDirty_part q_ _ _ _).trans ((f_ _ _ _ g).trans a)

theorem hostDefer_view {o_ : Obj} (q_ : o_.quiet = true) (h_ : ¬ o_.id ∈ Footprint.hostDefer) (r : Req) (q : Obj) (i j : Nat) (d : List Byte)
    {fx : Nat → State → Except Nat State} (f_ : ∀ role u t, fx role u = .ok t → t.view o_ = u.view o_) (s : State) :
    (hostDefer r q i j d fx s).view o_ = s.view o_ := by
  unfold hostDefer
  split
  · exact view_of_part (beginPartly_part q_ _ _ _)
  · have a := view_of_part (judgeRequest_part h_ r 2 (q.index i) (q.sub + q.subStep * j) d s)
    split
    · rename_i e; rw [e] at a; exact a
    · rename_i e; rw [e] at a; rw [answer_view q_]; exact a
    · rename_i e
      rw [e] at a
      repeat' split
      · rw [answer_view q_]; exact a
      · rw [answer_view q_]; exact a
      · rw [answer_view q_]; exact a
      · rw [answer_view q_]; exact a
      · rename_i g
        exact (markDirty_view q_ _ _ _).trans ((f_ _ _ _ g).trans a)

theorem answerWaiting_part {o_ : Obj} (q_ : o_.quiet = true)  (o : Obj) (i status : Nat) (s : State) :
    (answerWaiting o i status s).part o_ = s.part o_ := by
  unfold answerWaiting
  first
  | (simp only [part_ite, foldl_part, emitAnswer_part, q_, implies_true, ite_self, not_false_eq_true, if_false]; done)
  | ((try simp only [part_ite, foldl_part, emitAnswer_part, q_, implies_true, ite_self, not_false_eq_true, if_false]) <;> (repeat' split) <;> (first | (simp only [part_ite, foldl_part, emitAnswer_part, q_, implies_true, ite_self, not_false_eq_true, if_false]; done) | rfl))
theorem answerWaiting_view {o_ : Obj} (q_ : o_.quiet = true)  (o : Obj) (i status : Nat) (s : State)  :
    (answerWaiting o i status s).view o_ = s.view o_ :=
  view_of_part (answerWaiting_part q_ o i status s)

theorem unbindChannel_part {o_ : Obj} (q_ : o_.quiet = true) (h_ : ¬ o_.id ∈ Footprint.unbindChannel) (ch : Nat) (s : State) :
    (unbindChannel ch s).part o_ = s.part o_ := by
  simp only [Footprint.unbindChannel, List.mem_append, List.mem_cons, List.not_mem_nil, or_false, false_or, not_or] at h_
  unfold unbindChannel
  first
  | (simp only [part_ite, part_set, part_setSeq, h_, q_, implies_true, ite_self, not_false_eq_true, if_false]; done)
  | ((try simp only [part_ite, part_set, part_setSeq, h_, q_, implies_true, ite_self, not_false_eq_true, if_false]) <;> (repeat' split) <;> (first | (simp only [part_ite, part_set, part_setSeq, h_, q_, implies_true, ite_self, not_false_eq_true, if_false]; done) | rfl))
theorem auditEntry_part {o_ : Obj} (q_ : o_.quiet = true) (h_ : ¬ o_.id ∈ Footprint.auditEntry) (kind role index sub : Nat) (old new : List Byte) (s : State) :
    (auditEntry kind role index sub old new s).part o_ = s.part o_ := by
  simp only [Footprint.auditEntry, List.mem_append, List.mem_cons, List.not_mem_nil, or_false, false_or, not_or] at h_
  unfold auditEntry
  first
  | (simp only [part_ite, part_set, part_setLog, h_, q_, implies_true, ite_self, not_false_eq_true, if_false]; done)
  | ((try simp only [part_ite, part_set, part_setLog, h_, q_, implies_true, ite_self, not_false_eq_true, if_false]) <;> (repeat' split) <;> (first | (simp only [part_ite, part_set, part_setLog, h_, q_, implies_true, ite_self, not_false_eq_true, if_false]; done) | rfl))
theorem auditEntry_view {o_ : Obj} (q_ : o_.quiet = true) (h_ : ¬ o_.id ∈ Footprint.auditEntry) (kind role index sub : Nat) (old new : List Byte) (s : State)  :
    (auditEntry kind role index sub old new s).view o_ = s.view o_ :=
  view_of_part (auditEntry_part q_ h_ kind role index sub old new s)

theorem undirty_part {o_ : Obj} (q_ : o_.quiet = true) (h_ : ¬ o_.id ∈ Footprint.undirty) (l : List Key) (s : State) :
    (undirty l s).part o_ = s.part o_ := by
  simp only [Footprint.undirty, List.mem_append, List.mem_cons, List.not_mem_nil, or_false, false_or, not_or] at h_
  unfold undirty
  first
  | (simp only [part_ite, part_set, part_setB, h_, q_, implies_true, ite_self, not_false_eq_true, if_false]; done)
  | ((try simp only [part_ite, part_set, part_setB, h_, q_, implies_true, ite_self, not_false_eq_true, if_false]) <;> (repeat' split) <;> (first | (simp only [part_ite, part_set, part_setB, h_, q_, implies_true, ite_self, not_false_eq_true, if_false]; done) | rfl))
theorem undirty_view {o_ : Obj} (q_ : o_.quiet = true) (h_ : ¬ o_.id ∈ Footprint.undirty) (l : List Key) (s : State)  :
    (undirty l s).view o_ = s.view o_ :=
  view_of_part (undirty_part q_ h_ l s)

theorem endDiscard_part {o_ : Obj} (q_ : o_.quiet = true) (h_ : ¬ o_.id ∈ Footprint.endDiscard) (s : State) :
    (endDiscard s).part o_ = s.part o_ := by
  simp only [Footprint.endDiscard, List.mem_append, List.mem_cons, List.not_mem_nil, or_false, false_or, not_or] at h_
  unfold endDiscard
  first
  | (simp only [part_ite, part_set, answerWaiting_part, h_, q_, implies_true, ite_self, not_false_eq_true, if_false]; done)
  | ((try simp only [part_ite, part_set, answerWaiting_part, h_, q_, implies_true, ite_self, not_false_eq_true, if_false]) <;> (repeat' split) <;> (first | (simp only [part_ite, part_set, answerWaiting_part, h_, q_, implies_true, ite_self, not_false_eq_true, if_false]; done) | rfl))
theorem state_poolWrite_view {o_ : Obj} (q_ : o_.quiet = true) (h_ : ¬ o_.id ∈ Footprint.poolWrite) (s : State) (a : Nat) (d : List Byte) :
    (State.poolWrite s a d).view o_ = s.view o_ := by
  simp only [Footprint.poolWrite, List.mem_append, List.mem_cons, List.not_mem_nil, or_false, false_or, not_or] at h_
  unfold State.poolWrite
  first
  | (simp only [view_ite, view_setSeq, h_, q_, implies_true, ite_self, not_false_eq_true, if_false]; done)
  | ((try simp only [view_ite, view_setSeq, h_, q_, implies_true, ite_self, not_false_eq_true, if_false]) <;> (repeat' split) <;> (first | (simp only [view_ite, view_setSeq, h_, q_, implies_true, ite_self, not_false_eq_true, if_false]; done) | rfl))

theorem state_flashWrite_view {o_ : Obj} (q_ : o_.quiet = true)  (s : State) (a : Nat) (d : List Byte) :
    (State.flashWrite s a d).view o_ = s.view o_ := by
  unfold State.flashWrite
  first
  | (simp only [view_ite, q_, implies_true, ite_self, not_false_eq_true, if_false]; done)
  | ((try simp only [view_ite, q_, implies_true, ite_self, not_false_eq_true, if_false]) <;> (repeat' split) <;> (first | (simp only [view_ite, q_, implies_true, ite_self, not_false_eq_true, if_false]; done) | rfl))

theorem handBank_part {o_ : Obj} (q_ : o_.quiet = true) (h_ : ¬ o_.id ∈ Footprint.handBank) (b : Nat) (code : Int) (s : State) :
    (handBank b code s).part o_ = s.part o_ := by
  simp only [Footprint.handBank, List.mem_append, List.mem_cons, List.not_mem_nil, or_false, false_or, not_or] at h_
  unfold handBank
  first
  | (simp only [part_ite, part_set, part_inc, h_, q_, implies_true, ite_self, not_false_eq_true, if_false]; done)
  | ((try simp only [part_ite, part_set, part_inc, h_, q_, implies_true, ite_self, not_false_eq_true, if_false]) <;> (repeat' split) <;> (first | (simp only [part_ite, part_set, part_inc, h_, q_, implies_true, ite_self, not_false_eq_true, if_false]; done) | rfl))
theorem presetSlot_part {o_ : Obj} (q_ : o_.quiet = true) (h_ : ¬ o_.id ∈ Footprint.presetSlot) (i : Nat) (v : Rat) (s : State) :
    (presetSlot i v s).part o_ = s.part o_ := by
  simp only [Footprint.presetSlot, List.mem_append, List.mem_cons, List.not_mem_nil, or_false, false_or, not_or] at h_
  unfold presetSlot
  first
  | (simp only [part_ite, part_set, part_setReal, h_, q_, implies_true, ite_self, not_false_eq_true, if_false]; done)
  | ((try simp only [part_ite, part_set, part_setReal, h_, q_, implies_true, ite_self, not_false_eq_true, if_false]) <;> (repeat' split) <;> (first | (simp only [part_ite, part_set, part_setReal, h_, q_, implies_true, ite_self, not_false_eq_true, if_false]; done) | rfl))
theorem holdSlot_part {o_ : Obj} (q_ : o_.quiet = true) (h_ : ¬ o_.id ∈ Footprint.holdSlot) (i : Nat) (s : State) :
    (holdSlot i s).part o_ = s.part o_ := by
  simp only [Footprint.holdSlot, List.mem_append, List.mem_cons, List.not_mem_nil, or_false, false_or, not_or] at h_
  unfold holdSlot
  first
  | (simp only [part_ite, part_set, part_setReal, h_, q_, implies_true, ite_self, not_false_eq_true, if_false]; done)
  | ((try simp only [part_ite, part_set, part_setReal, h_, q_, implies_true, ite_self, not_false_eq_true, if_false]) <;> (repeat' split) <;> (first | (simp only [part_ite, part_set, part_setReal, h_, q_, implies_true, ite_self, not_false_eq_true, if_false]; done) | rfl))
theorem releaseSlot_part {o_ : Obj} (q_ : o_.quiet = true) (h_ : ¬ o_.id ∈ Footprint.releaseSlot) (i : Nat) (s : State) :
    (releaseSlot i s).part o_ = s.part o_ := by
  simp only [Footprint.releaseSlot, List.mem_append, List.mem_cons, List.not_mem_nil, or_false, false_or, not_or] at h_
  unfold releaseSlot
  first
  | (simp only [part_ite, part_set, h_, q_, implies_true, ite_self, not_false_eq_true, if_false]; done)
  | ((try simp only [part_ite, part_set, h_, q_, implies_true, ite_self, not_false_eq_true, if_false]) <;> (repeat' split) <;> (first | (simp only [part_ite, part_set, h_, q_, implies_true, ite_self, not_false_eq_true, if_false]; done) | rfl))
theorem holdBlockSlots_part {o_ : Obj} (q_ : o_.quiet = true) (h_ : ¬ o_.id ∈ Footprint.holdBlockSlots) (b : Nat) (s : State) :
    (holdBlockSlots b s).part o_ = s.part o_ := by
  simp only [Footprint.holdBlockSlots, List.mem_append, List.mem_cons, List.not_mem_nil, or_false, false_or, not_or] at h_
  unfold holdBlockSlots
  first
  | (simp only [part_ite, forL_part, holdSlot_part, h_, q_, implies_true, ite_self, not_false_eq_true, if_false]; done)
  | ((try simp only [part_ite, forL_part, holdSlot_part, h_, q_, implies_true, ite_self, not_false_eq_true, if_false]) <;> (repeat' split) <;> (first | (simp only [part_ite, forL_part, holdSlot_part, h_, q_, implies_true, ite_self, not_false_eq_true, if_false]; done) | rfl))
theorem releaseBlockSlots_part {o_ : Obj} (q_ : o_.quiet = true) (h_ : ¬ o_.id ∈ Footprint.releaseBlockSlots) (b : Nat) (s : State) :
    (releaseBlockSlots b s).part o_ = s.part o_ := by
  simp only [Footprint.releaseBlockSlots, List.mem_append, List.mem_cons, List.not_mem_nil, or_false, false_or, not_or] at h_
  unfold releaseBlockSlots
  first
  | (simp only [part_ite, forL_part, releaseSlot_part, h_, q_, implies_true, ite_self, not_false_eq_true, if_false]; done)
  | ((try simp only [part_ite, forL_part, releaseSlot_part, h_, q_, implies_true, ite_self, not_false_eq_true, if_false]) <;> (repeat' split) <;> (first | (simp only [part_ite, forL_part, releaseSlot_part, h_, q_, implies_true, ite_self, not_false_eq_true, if_false]; done) | rfl))
theorem endCapture_part {o_ : Obj} (q_ : o_.quiet = true) (h_ : ¬ o_.id ∈ Footprint.endCapture) (shown : Int) (s : State) :
    (endCapture shown s).part o_ = s.part o_ := by
  simp only [Footprint.endCapture, List.mem_append, List.mem_cons, List.not_mem_nil, or_false, false_or, not_or] at h_
  unfold endCapture
  first
  | (simp only [part_ite, part_set, logEvent_part, queueItem_part, handBank_part, h_, q_, implies_true, ite_self, not_false_eq_true, if_false]; done)
  | ((try simp only [part_ite, part_set, logEvent_part, queueItem_part, handBank_part, h_, q_, implies_true, ite_self, not_false_eq_true, if_false]) <;> (repeat' split) <;> (first | (simp only [part_ite, part_set, logEvent_part, queueItem_part, handBank_part, h_, q_, implies_true, ite_self, not_false_eq_true, if_false]; done) | rfl))
theorem endInjection_part {o_ : Obj} (q_ : o_.quiet = true) (h_ : ¬ o_.id ∈ Footprint.endInjection) (cause : Int) (s : State) :
    (endInjection cause s).part o_ = s.part o_ := by
  simp only [Footprint.endInjection, List.mem_append, List.mem_cons, List.not_mem_nil, or_false, false_or, not_or] at h_
  unfold endInjection
  first
  | (simp only [part_ite, part_set, logEvent_part, endCapture_part, h_, q_, implies_true, ite_self, not_false_eq_true, if_false]; done)
  | ((try simp only [part_ite, part_set, logEvent_part, endCapture_part, h_, q_, implies_true, ite_self, not_false_eq_true, if_false]) <;> (repeat' split) <;> (first | (simp only [part_ite, part_set, logEvent_part, endCapture_part, h_, q_, implies_true, ite_self, not_false_eq_true, if_false]; done) | rfl))
theorem endInjectionOfBlock_part {o_ : Obj} (q_ : o_.quiet = true) (h_ : ¬ o_.id ∈ Footprint.endInjectionOfBlock) (b : Nat) (cause : Int) (s : State) :
    (endInjectionOfBlock b cause s).part o_ = s.part o_ := by
  simp only [Footprint.endInjectionOfBlock, List.mem_append, List.mem_cons, List.not_mem_nil, or_false, false_or, not_or] at h_
  unfold endInjectionOfBlock
  first
  | (simp only [part_ite, endInjection_part, h_, q_, implies_true, ite_self, not_false_eq_true, if_false]; done)
  | ((try simp only [part_ite, endInjection_part, h_, q_, implies_true, ite_self, not_false_eq_true, if_false]) <;> (repeat' split) <;> (first | (simp only [part_ite, endInjection_part, h_, q_, implies_true, ite_self, not_false_eq_true, if_false]; done) | rfl))
theorem commandReach_part {o_ : Obj} (q_ : o_.quiet = true) (h_ : ¬ o_.id ∈ Footprint.commandReach) (b r : Nat) (on : Bool) (s : State) :
    (commandReach b r on s).part o_ = s.part o_ := by
  simp only [Footprint.commandReach, List.mem_append, List.mem_cons, List.not_mem_nil, or_false, false_or, not_or] at h_
  unfold commandReach
  first
  | (simp only [part_ite, part_inc, part_setBit, logEvent_part, submitObject_part, h_, q_, implies_true, ite_self, not_false_eq_true, if_false]; done)
  | ((try simp only [part_ite, part_inc, part_setBit, logEvent_part, submitObject_part, h_, q_, implies_true, ite_self, not_false_eq_true, if_false]) <;> (repeat' split) <;> (first | (simp only [part_ite, part_inc, part_setBit, logEvent_part, submitObject_part, h_, q_, implies_true, ite_self, not_false_eq_true, if_false]; done) | rfl))
theorem openReaches_part {o_ : Obj} (q_ : o_.quiet = true) (h_ : ¬ o_.id ∈ Footprint.openReaches) (b : Nat) (s : State) :
    (openReaches b s).part o_ = s.part o_ := by
  simp only [Footprint.openReaches, List.mem_append, List.mem_cons, List.not_mem_nil, or_false, false_or, not_or] at h_
  unfold openReaches
  first
  | (simp only [part_ite, forN_part, commandReach_part, h_, q_, implies_true, ite_self, not_false_eq_true, if_false]; done)
  | ((try simp only [part_ite, forN_part, commandReach_part, h_, q_, implies_true, ite_self, not_false_eq_true, if_false]) <;> (repeat' split) <;> (first | (simp only [part_ite, forN_part, commandReach_part, h_, q_, implies_true, ite_self, not_false_eq_true, if_false]; done) | rfl))
theorem freeBlock_part {o_ : Obj} (q_ : o_.quiet = true) (h_ : ¬ o_.id ∈ Footprint.freeBlock) (b : Nat) (s : State) :
    (freeBlock b s).part o_ = s.part o_ := by
  simp only [Footprint.freeBlock, List.mem_append, List.mem_cons, List.not_mem_nil, or_false, false_or, not_or] at h_
  unfold freeBlock
  first
  | (simp only [part_ite, part_set, part_setReal, h_, q_, implies_true, ite_self, not_false_eq_true, if_false]; done)
  | ((try simp only [part_ite, part_set, part_setReal, h_, q_, implies_true, ite_self, not_false_eq_true, if_false]) <;> (repeat' split) <;> (first | (simp only [part_ite, part_set, part_setReal, h_, q_, implies_true, ite_self, not_false_eq_true, if_false]; done) | rfl))
theorem endMove_part {o_ : Obj} (q_ : o_.quiet = true) (h_ : ¬ o_.id ∈ Footprint.endMove) (b : Nat) (s : State) :
    (endMove b s).part o_ = s.part o_ := by
  simp only [Footprint.endMove, List.mem_append, List.mem_cons, List.not_mem_nil, or_false, false_or, not_or] at h_
  unfold endMove
  first
  | (simp only [part_ite, part_set, h_, q_, implies_true, ite_self, not_false_eq_true, if_false]; done)
  | ((try simp only [part_ite, part_set, h_, q_, implies_true, ite_self, not_false_eq_true, if_false]) <;> (repeat' split) <;> (first | (simp only [part_ite, part_set, h_, q_, implies_true, ite_self, not_false_eq_true, if_false]; done) | rfl))
theorem abandonMove_part {o_ : Obj} (q_ : o_.quiet = true) (h_ : ¬ o_.id ∈ Footprint.abandonMove) (b : Nat) (cause : Int) (s : State) :
    (abandonMove b cause s).part o_ = s.part o_ := by
  simp only [Footprint.abandonMove, List.mem_append, List.mem_cons, List.not_mem_nil, or_false, false_or, not_or] at h_
  unfold abandonMove
  first
  | (simp only [part_ite, part_inc, logEvent_part, endMove_part, h_, q_, implies_true, ite_self, not_false_eq_true, if_false]; done)
  | ((try simp only [part_ite, part_inc, logEvent_part, endMove_part, h_, q_, implies_true, ite_self, not_false_eq_true, if_false]) <;> (repeat' split) <;> (first | (simp only [part_ite, part_inc, logEvent_part, endMove_part, h_, q_, implies_true, ite_self, not_false_eq_true, if_false]; done) | rfl))
theorem completeMove_part {o_ : Obj} (q_ : o_.quiet = true) (h_ : ¬ o_.id ∈ Footprint.completeMove) (b : Nat) (s : State) :
    (completeMove b s).part o_ = s.part o_ := by
  simp only [Footprint.completeMove, List.mem_append, List.mem_cons, List.not_mem_nil, or_false, false_or, not_or] at h_
  unfold completeMove
  first
  | (simp only [part_ite, part_inc, logEvent_part, endMove_part, h_, q_, implies_true, ite_self, not_false_eq_true, if_false]; done)
  | ((try simp only [part_ite, part_inc, logEvent_part, endMove_part, h_, q_, implies_true, ite_self, not_false_eq_true, if_false]) <;> (repeat' split) <;> (first | (simp only [part_ite, part_inc, logEvent_part, endMove_part, h_, q_, implies_true, ite_self, not_false_eq_true, if_false]; done) | rfl))
theorem withdrawBlock_part {o_ : Obj} (q_ : o_.quiet = true) (h_ : ¬ o_.id ∈ Footprint.withdrawBlock) (b : Nat) (cause : Int) (s : State) :
    (withdrawBlock b cause s).part o_ = s.part o_ := by
  simp only [Footprint.withdrawBlock, List.mem_append, List.mem_cons, List.not_mem_nil, or_false, false_or, not_or] at h_
  unfold withdrawBlock
  first
  | (simp only [part_ite, part_set, part_setReal, abandonMove_part, h_, q_, implies_true, ite_self, not_false_eq_true, if_false]; done)
  | ((try simp only [part_ite, part_set, part_setReal, abandonMove_part, h_, q_, implies_true, ite_self, not_false_eq_true, if_false]) <;> (repeat' split) <;> (first | (simp only [part_ite, part_set, part_setReal, abandonMove_part, h_, q_, implies_true, ite_self, not_false_eq_true, if_false]; done) | rfl))
theorem refreshBlock_part {o_ : Obj} (q_ : o_.quiet = true) (h_ : ¬ o_.id ∈ Footprint.refreshBlock) (b : Nat) (s : State) :
    (refreshBlock b s).part o_ = s.part o_ := by
  simp only [Footprint.refreshBlock, List.mem_append, List.mem_cons, List.not_mem_nil, or_false, false_or, not_or] at h_
  unfold refreshBlock
  first
  | (simp only [part_ite, part_set, h_, q_, implies_true, ite_self, not_false_eq_true, if_false]; done)
  | ((try simp only [part_ite, part_set, h_, q_, implies_true, ite_self, not_false_eq_true, if_false]) <;> (repeat' split) <;> (first | (simp only [part_ite, part_set, h_, q_, implies_true, ite_self, not_false_eq_true, if_false]; done) | rfl))
theorem setBlock_part {o_ : Obj} (q_ : o_.quiet = true) (h_ : ¬ o_.id ∈ Footprint.setBlock) (b : Nat) (st : Int) (s : State) :
    (setBlock b st s).part o_ = s.part o_ := by
  simp only [Footprint.setBlock, List.mem_append, List.mem_cons, List.not_mem_nil, or_false, false_or, not_or] at h_
  unfold setBlock
  first
  | (simp only [part_ite, part_set, logEvent_part, h_, q_, implies_true, ite_self, not_false_eq_true, if_false]; done)
  | ((try simp only [part_ite, part_set, logEvent_part, h_, q_, implies_true, ite_self, not_false_eq_true, if_false]) <;> (repeat' split) <;> (first | (simp only [part_ite, part_set, logEvent_part, h_, q_, implies_true, ite_self, not_false_eq_true, if_false]; done) | rfl))
theorem touchActive_part {o_ : Obj} (q_ : o_.quiet = true) (h_ : ¬ o_.id ∈ Footprint.touchActive) (b : Nat) (s : State) :
    (touchActive b s).part o_ = s.part o_ := by
  simp only [Footprint.touchActive, List.mem_append, List.mem_cons, List.not_mem_nil, or_false, false_or, not_or] at h_
  unfold touchActive
  first
  | (simp only [part_ite, part_set, forL_part, h_, q_, implies_true, ite_self, not_false_eq_true, if_false]; done)
  | ((try simp only [part_ite, part_set, forL_part, h_, q_, implies_true, ite_self, not_false_eq_true, if_false]) <;> (repeat' split) <;> (first | (simp only [part_ite, part_set, forL_part, h_, q_, implies_true, ite_self, not_false_eq_true, if_false]; done) | rfl))
theorem setPhase_part {o_ : Obj} (q_ : o_.quiet = true) (h_ : ¬ o_.id ∈ Footprint.setPhase) (p : Nat) (st : Int) (s : State) :
    (setPhase p st s).part o_ = s.part o_ := by
  simp only [Footprint.setPhase, List.mem_append, List.mem_cons, List.not_mem_nil, or_false, false_or, not_or] at h_
  unfold setPhase
  first
  | (simp only [part_ite, part_set, refreshBlock_part, touchActive_part, h_, q_, implies_true, ite_self, not_false_eq_true, if_false]; done)
  | ((try simp only [part_ite, part_set, refreshBlock_part, touchActive_part, h_, q_, implies_true, ite_self, not_false_eq_true, if_false]) <;> (repeat' split) <;> (first | (simp only [part_ite, part_set, refreshBlock_part, touchActive_part, h_, q_, implies_true, ite_self, not_false_eq_true, if_false]; done) | rfl))
theorem movePhases_part {o_ : Obj} (q_ : o_.quiet = true) (h_ : ¬ o_.id ∈ Footprint.movePhases) (b : Nat) (src : List Int) (dst : Int) (s : State) :
    (movePhases b src dst s).part o_ = s.part o_ := by
  simp only [Footprint.movePhases, List.mem_append, List.mem_cons, List.not_mem_nil, or_false, false_or, not_or] at h_
  unfold movePhases
  first
  | (simp only [part_ite, forL_part, setPhase_part, h_, q_, implies_true, ite_self, not_false_eq_true, if_false]; done)
  | ((try simp only [part_ite, forL_part, setPhase_part, h_, q_, implies_true, ite_self, not_false_eq_true, if_false]) <;> (repeat' split) <;> (first | (simp only [part_ite, forL_part, setPhase_part, h_, q_, implies_true, ite_self, not_false_eq_true, if_false]; done) | rfl))
theorem blockOut_part {o_ : Obj} (q_ : o_.quiet = true) (h_ : ¬ o_.id ∈ Footprint.blockOut) (b : Nat) (s : State) :
    (blockOut b s).part o_ = s.part o_ := by
  simp only [Footprint.blockOut, List.mem_append, List.mem_cons, List.not_mem_nil, or_false, false_or, not_or] at h_
  unfold blockOut
  first
  | (simp only [part_ite, part_set, part_setReal, movePhases_part, endInjectionOfBlock_part, holdBlockSlots_part, withdrawBlock_part, setBlock_part, h_, q_, implies_true, ite_self, not_false_eq_true, if_false]; done)
  | ((try simp only [part_ite, part_set, part_setReal, movePhases_part, endInjectionOfBlock_part, holdBlockSlots_part, withdrawBlock_part, setBlock_part, h_, q_, implies_true, ite_self, not_false_eq_true, if_false]) <;> (repeat' split) <;> (first | (simp only [part_ite, part_set, part_setReal, movePhases_part, endInjectionOfBlock_part, holdBlockSlots_part, withdrawBlock_part, setBlock_part, h_, q_, implies_true, ite_self, not_false_eq_true, if_false]; done) | rfl))
theorem outIfShort_part {o_ : Obj} (q_ : o_.quiet = true) (h_ : ¬ o_.id ∈ Footprint.outIfShort) (b : Nat) (s : State) :
    (outIfShort b s).part o_ = s.part o_ := by
  simp only [Footprint.outIfShort, List.mem_append, List.mem_cons, List.not_mem_nil, or_false, false_or, not_or] at h_
  unfold outIfShort
  first
  | (simp only [part_ite, blockOut_part, h_, q_, implies_true, ite_self, not_false_eq_true, if_false]; done)
  | ((try simp only [part_ite, blockOut_part, h_, q_, implies_true, ite_self, not_false_eq_true, if_false]) <;> (repeat' split) <;> (first | (simp only [part_ite, blockOut_part, h_, q_, implies_true, ite_self, not_false_eq_true, if_false]; done) | rfl))
theorem recoverBlock_part {o_ : Obj} (q_ : o_.quiet = true) (h_ : ¬ o_.id ∈ Footprint.recoverBlock) (b : Nat) (s : State) :
    (recoverBlock b s).part o_ = s.part o_ := by
  simp only [Footprint.recoverBlock, List.mem_append, List.mem_cons, List.not_mem_nil, or_false, false_or, not_or] at h_
  unfold recoverBlock
  first
  | (simp only [part_ite, part_set, setBlock_part, h_, q_, implies_true, ite_self, not_false_eq_true, if_false]; done)
  | ((try simp only [part_ite, part_set, setBlock_part, h_, q_, implies_true, ite_self, not_false_eq_true, if_false]) <;> (repeat' split) <;> (first | (simp only [part_ite, part_set, setBlock_part, h_, q_, implies_true, ite_self, not_false_eq_true, if_false]; done) | rfl))
theorem lockPhase_part {o_ : Obj} (q_ : o_.quiet = true) (h_ : ¬ o_.id ∈ Footprint.lockPhase) (p : Nat) (cause : Int) (s : State) :
    (lockPhase p cause s).part o_ = s.part o_ := by
  simp only [Footprint.lockPhase, List.mem_append, List.mem_cons, List.not_mem_nil, or_false, false_or, not_or] at h_
  unfold lockPhase
  first
  | (simp only [part_ite, part_set, logEvent_part, submitObject_part, setPhase_part, outIfShort_part, h_, q_, implies_true, ite_self, not_false_eq_true, if_false]; done)
  | ((try simp only [part_ite, part_set, logEvent_part, submitObject_part, setPhase_part, outIfShort_part, h_, q_, implies_true, ite_self, not_false_eq_true, if_false]) <;> (repeat' split) <;> (first | (simp only [part_ite, part_set, logEvent_part, submitObject_part, setPhase_part, outIfShort_part, h_, q_, implies_true, ite_self, not_false_eq_true, if_false]; done) | rfl))
theorem stopBlock_part {o_ : Obj} (q_ : o_.quiet = true) (h_ : ¬ o_.id ∈ Footprint.stopBlock) (b : Nat) (s : State) :
    (stopBlock b s).part o_ = s.part o_ := by
  simp only [Footprint.stopBlock, List.mem_append, List.mem_cons, List.not_mem_nil, or_false, false_or, not_or] at h_
  unfold stopBlock
  first
  | (simp only [part_ite, part_set, holdBlockSlots_part, setBlock_part, movePhases_part, endInjectionOfBlock_part, h_, q_, implies_true, ite_self, not_false_eq_true, if_false]; done)
  | ((try simp only [part_ite, part_set, holdBlockSlots_part, setBlock_part, movePhases_part, endInjectionOfBlock_part, h_, q_, implies_true, ite_self, not_false_eq_true, if_false]) <;> (repeat' split) <;> (first | (simp only [part_ite, part_set, holdBlockSlots_part, setBlock_part, movePhases_part, endInjectionOfBlock_part, h_, q_, implies_true, ite_self, not_false_eq_true, if_false]; done) | rfl))
theorem stopAllBlocks_part {o_ : Obj} (q_ : o_.quiet = true) (h_ : ¬ o_.id ∈ Footprint.stopAllBlocks) (s : State) :
    (stopAllBlocks s).part o_ = s.part o_ := by
  simp only [Footprint.stopAllBlocks, List.mem_append, List.mem_cons, List.not_mem_nil, or_false, false_or, not_or] at h_
  unfold stopAllBlocks
  first
  | (simp only [part_ite, forN_part, stopBlock_part, h_, q_, implies_true, ite_self, not_false_eq_true, if_false]; done)
  | ((try simp only [part_ite, forN_part, stopBlock_part, h_, q_, implies_true, ite_self, not_false_eq_true, if_false]) <;> (repeat' split) <;> (first | (simp only [part_ite, forN_part, stopBlock_part, h_, q_, implies_true, ite_self, not_false_eq_true, if_false]; done) | rfl))
theorem dropBlock_part {o_ : Obj} (q_ : o_.quiet = true) (h_ : ¬ o_.id ∈ Footprint.dropBlock) (b : Nat) (s : State) :
    (dropBlock b s).part o_ = s.part o_ := by
  simp only [Footprint.dropBlock, List.mem_append, List.mem_cons, List.not_mem_nil, or_false, false_or, not_or] at h_
  unfold dropBlock
  first
  | (simp only [part_ite, part_set, part_setReal, movePhases_part, endInjectionOfBlock_part, holdBlockSlots_part, setBlock_part, h_, q_, implies_true, ite_self, not_false_eq_true, if_false]; done)
  | ((try simp only [part_ite, part_set, part_setReal, movePhases_part, endInjectionOfBlock_part, holdBlockSlots_part, setBlock_part, h_, q_, implies_true, ite_self, not_false_eq_true, if_false]) <;> (repeat' split) <;> (first | (simp only [part_ite, part_set, part_setReal, movePhases_part, endInjectionOfBlock_part, holdBlockSlots_part, setBlock_part, h_, q_, implies_true, ite_self, not_false_eq_true, if_false]; done) | rfl))
theorem withholdBlock_part {o_ : Obj} (q_ : o_.quiet = true) (h_ : ¬ o_.id ∈ Footprint.withholdBlock) (b r : Nat) (cause : Int) (s : State) :
    (withholdBlock b r cause s).part o_ = s.part o_ := by
  simp only [Footprint.withholdBlock, List.mem_append, List.mem_cons, List.not_mem_nil, or_false, false_or, not_or] at h_
  unfold withholdBlock
  first
  | (simp only [part_ite, part_set, logEvent_part, abandonMove_part, commandReach_part, stopBlock_part, freeBlock_part, h_, q_, implies_true, ite_self, not_false_eq_true, if_false]; done)
  | ((try simp only [part_ite, part_set, logEvent_part, abandonMove_part, commandReach_part, stopBlock_part, freeBlock_part, h_, q_, implies_true, ite_self, not_false_eq_true, if_false]) <;> (repeat' split) <;> (first | (simp only [part_ite, part_set, logEvent_part, abandonMove_part, commandReach_part, stopBlock_part, freeBlock_part, h_, q_, implies_true, ite_self, not_false_eq_true, if_false]; done) | rfl))
theorem refuseStart_part {o_ : Obj} (q_ : o_.quiet = true) (h_ : ¬ o_.id ∈ Footprint.refuseStart) (b : Nat) (cause : Int) (s : State) :
    (refuseStart b cause s).part o_ = s.part o_ := by
  simp only [Footprint.refuseStart, List.mem_append, List.mem_cons, List.not_mem_nil, or_false, false_or, not_or] at h_
  unfold refuseStart
  first
  | (simp only [part_ite, part_set, logEvent_part, freeBlock_part, abandonMove_part, h_, q_, implies_true, ite_self, not_false_eq_true, if_false]; done)
  | ((try simp only [part_ite, part_set, logEvent_part, freeBlock_part, abandonMove_part, h_, q_, implies_true, ite_self, not_false_eq_true, if_false]) <;> (repeat' split) <;> (first | (simp only [part_ite, part_set, logEvent_part, freeBlock_part, abandonMove_part, h_, q_, implies_true, ite_self, not_false_eq_true, if_false]; done) | rfl))
theorem beginTest_part {o_ : Obj} (q_ : o_.quiet = true) (h_ : ¬ o_.id ∈ Footprint.beginTest) (b : Nat) (s : State) :
    (beginTest b s).part o_ = s.part o_ := by
  simp only [Footprint.beginTest, List.mem_append, List.mem_cons, List.not_mem_nil, or_false, false_or, not_or] at h_
  unfold beginTest
  first
  | (simp only [part_ite, part_set, part_inc, forL_part, releaseBlockSlots_part, setBlock_part, h_, q_, implies_true, ite_self, not_false_eq_true, if_false]; done)
  | ((try simp only [part_ite, part_set, part_inc, forL_part, releaseBlockSlots_part, setBlock_part, h_, q_, implies_true, ite_self, not_false_eq_true, if_false]) <;> (repeat' split) <;> (first | (simp only [part_ite, part_set, part_inc, forL_part, releaseBlockSlots_part, setBlock_part, h_, q_, implies_true, ite_self, not_false_eq_true, if_false]; done) | rfl))
theorem startBlock_part {o_ : Obj} (q_ : o_.quiet = true) (h_ : ¬ o_.id ∈ Footprint.startBlock) (b : Nat) (s : State) :
    (startBlock b s).part o_ = s.part o_ := by
  simp only [Footprint.startBlock, List.mem_append, List.mem_cons, List.not_mem_nil, or_false, false_or, not_or] at h_
  unfold startBlock
  first
  | (simp only [part_ite, part_set, setBlock_part, refuseStart_part, beginTest_part, h_, q_, implies_true, ite_self, not_false_eq_true, if_false]; done)
  | ((try simp only [part_ite, part_set, setBlock_part, refuseStart_part, beginTest_part, h_, q_, implies_true, ite_self, not_false_eq_true, if_false]) <;> (repeat' split) <;> (first | (simp only [part_ite, part_set, setBlock_part, refuseStart_part, beginTest_part, h_, q_, implies_true, ite_self, not_false_eq_true, if_false]; done) | rfl))
theorem setLatch_part {o_ : Obj} (q_ : o_.quiet = true) (h_ : ¬ o_.id ∈ Footprint.setLatch) (n : Nat) (v : Int) (s : State) :
    (setLatch n v s).part o_ = s.part o_ := by
  simp only [Footprint.setLatch, List.mem_append, List.mem_cons, List.not_mem_nil, or_false, false_or, not_or] at h_
  unfold setLatch
  first
  | (simp only [part_ite, part_set, part_setReal, forN_part, forL_part, logEvent_part, movePhases_part, endInjectionOfBlock_part, holdBlockSlots_part, setBlock_part, abandonMove_part, freeBlock_part, dropBlock_part, h_, q_, implies_true, ite_self, not_false_eq_true, if_false]; done)
  | ((try simp only [part_ite, part_set, part_setReal, forN_part, forL_part, logEvent_part, movePhases_part, endInjectionOfBlock_part, holdBlockSlots_part, setBlock_part, abandonMove_part, freeBlock_part, dropBlock_part, h_, q_, implies_true, ite_self, not_false_eq_true, if_false]) <;> (repeat' split) <;> (first | (simp only [part_ite, part_set, part_setReal, forN_part, forL_part, logEvent_part, movePhases_part, endInjectionOfBlock_part, holdBlockSlots_part, setBlock_part, abandonMove_part, freeBlock_part, dropBlock_part, h_, q_, implies_true, ite_self, not_false_eq_true, if_false]; done) | rfl))
theorem clearLatch_part {o_ : Obj} (q_ : o_.quiet = true) (h_ : ¬ o_.id ∈ Footprint.clearLatch) (n : Nat) (s : State) :
    (clearLatch n s).part o_ = s.part o_ := by
  simp only [Footprint.clearLatch, List.mem_append, List.mem_cons, List.not_mem_nil, or_false, false_or, not_or, and_assoc] at h_
  obtain ⟨h1, h2, h3, hm, hs, hh, hw⟩ := h_
  unfold clearLatch
  dsimp only
  rw [logEvent_part q_, part_set h3, forN_part]
  intro b u
  split
  · split
    · rw [holdBlockSlots_part q_ hh, withdrawBlock_part q_ hw, setBlock_part q_ hs, part_set h2, part_set h1,
        movePhases_part q_ hm]
    · rw [setBlock_part q_ hs, part_set h2, part_set h1, movePhases_part q_ hm]
  · rfl
theorem setLink_part {o_ : Obj} (q_ : o_.quiet = true) (h_ : ¬ o_.id ∈ Footprint.setLink) (c : Nat) (st : Int) (s : State) :
    (setLink c st s).part o_ = s.part o_ := by
  simp only [Footprint.setLink, List.mem_append, List.mem_cons, List.not_mem_nil, or_false, false_or, not_or] at h_
  unfold setLink
  first
  | (simp only [part_ite, part_set, logEvent_part, h_, q_, implies_true, ite_self, not_false_eq_true, if_false]; done)
  | ((try simp only [part_ite, part_set, logEvent_part, h_, q_, implies_true, ite_self, not_false_eq_true, if_false]) <;> (repeat' split) <;> (first | (simp only [part_ite, part_set, logEvent_part, h_, q_, implies_true, ite_self, not_false_eq_true, if_false]; done) | rfl))
theorem withdrawCabinet_part {o_ : Obj} (q_ : o_.quiet = true) (h_ : ¬ o_.id ∈ Footprint.withdrawCabinet) (c : Nat) (s : State) :
    (withdrawCabinet c s).part o_ = s.part o_ := by
  simp only [Footprint.withdrawCabinet, List.mem_append, List.mem_cons, List.not_mem_nil, or_false, false_or, not_or] at h_
  unfold withdrawCabinet
  first
  | (simp only [part_ite, part_set, forL_part, holdBlockSlots_part, withdrawBlock_part, blockOut_part, h_, q_, implies_true, ite_self, not_false_eq_true, if_false]; done)
  | ((try simp only [part_ite, part_set, forL_part, holdBlockSlots_part, withdrawBlock_part, blockOut_part, h_, q_, implies_true, ite_self, not_false_eq_true, if_false]) <;> (repeat' split) <;> (first | (simp only [part_ite, part_set, forL_part, holdBlockSlots_part, withdrawBlock_part, blockOut_part, h_, q_, implies_true, ite_self, not_false_eq_true, if_false]; done) | rfl))
theorem loseLink_part {o_ : Obj} (q_ : o_.quiet = true) (h_ : ¬ o_.id ∈ Footprint.loseLink) (c : Nat) (cause : Int) (s : State) :
    (loseLink c cause s).part o_ = s.part o_ := by
  simp only [Footprint.loseLink, List.mem_append, List.mem_cons, List.not_mem_nil, or_false, false_or, not_or] at h_
  unfold loseLink
  first
  | (simp only [part_ite, part_inc, logEvent_part, withdrawCabinet_part, setLink_part, h_, q_, implies_true, ite_self, not_false_eq_true, if_false]; done)
  | ((try simp only [part_ite, part_inc, logEvent_part, withdrawCabinet_part, setLink_part, h_, q_, implies_true, ite_self, not_false_eq_true, if_false]) <;> (repeat' split) <;> (first | (simp only [part_ite, part_inc, logEvent_part, withdrawCabinet_part, setLink_part, h_, q_, implies_true, ite_self, not_false_eq_true, if_false]; done) | rfl))
theorem refuseLink_part {o_ : Obj} (q_ : o_.quiet = true) (h_ : ¬ o_.id ∈ Footprint.refuseLink) (c : Nat) (cause : Int) (s : State) :
    (refuseLink c cause s).part o_ = s.part o_ := by
  simp only [Footprint.refuseLink, List.mem_append, List.mem_cons, List.not_mem_nil, or_false, false_or, not_or] at h_
  unfold refuseLink
  first
  | (simp only [part_ite, part_set, forL_part, logEvent_part, setLink_part, blockOut_part, h_, q_, implies_true, ite_self, not_false_eq_true, if_false]; done)
  | ((try simp only [part_ite, part_set, forL_part, logEvent_part, setLink_part, blockOut_part, h_, q_, implies_true, ite_self, not_false_eq_true, if_false]) <;> (repeat' split) <;> (first | (simp only [part_ite, part_set, forL_part, logEvent_part, setLink_part, blockOut_part, h_, q_, implies_true, ite_self, not_false_eq_true, if_false]; done) | rfl))
theorem settleLanes_part {o_ : Obj} (q_ : o_.quiet = true) (h_ : ¬ o_.id ∈ Footprint.settleLanes) (c : Nat) (s : State) :
    (settleLanes c s).part o_ = s.part o_ := by
  simp only [Footprint.settleLanes, List.mem_append, List.mem_cons, List.not_mem_nil, or_false, false_or, not_or] at h_
  unfold settleLanes
  first
  | (simp only [part_ite, loseLink_part, setLink_part, h_, q_, implies_true, ite_self, not_false_eq_true, if_false]; done)
  | ((try simp only [part_ite, loseLink_part, setLink_part, h_, q_, implies_true, ite_self, not_false_eq_true, if_false]) <;> (repeat' split) <;> (first | (simp only [part_ite, loseLink_part, setLink_part, h_, q_, implies_true, ite_self, not_false_eq_true, if_false]; done) | rfl))
theorem laneOut_part {o_ : Obj} (q_ : o_.quiet = true) (h_ : ¬ o_.id ∈ Footprint.laneOut) (c l : Nat) (s : State) :
    (laneOut c l s).part o_ = s.part o_ := by
  simp only [Footprint.laneOut, List.mem_append, List.mem_cons, List.not_mem_nil, or_false, false_or, not_or] at h_
  unfold laneOut
  first
  | (simp only [part_ite, part_set, part_setBit, logEvent_part, settleLanes_part, h_, q_, implies_true, ite_self, not_false_eq_true, if_false]; done)
  | ((try simp only [part_ite, part_set, part_setBit, logEvent_part, settleLanes_part, h_, q_, implies_true, ite_self, not_false_eq_true, if_false]) <;> (repeat' split) <;> (first | (simp only [part_ite, part_set, part_setBit, logEvent_part, settleLanes_part, h_, q_, implies_true, ite_self, not_false_eq_true, if_false]; done) | rfl))
theorem laneBack_part {o_ : Obj} (q_ : o_.quiet = true) (h_ : ¬ o_.id ∈ Footprint.laneBack) (c l : Nat) (s : State) :
    (laneBack c l s).part o_ = s.part o_ := by
  simp only [Footprint.laneBack, List.mem_append, List.mem_cons, List.not_mem_nil, or_false, false_or, not_or] at h_
  unfold laneBack
  first
  | (simp only [part_ite, part_setBit, logEvent_part, settleLanes_part, h_, q_, implies_true, ite_self, not_false_eq_true, if_false]; done)
  | ((try simp only [part_ite, part_setBit, logEvent_part, settleLanes_part, h_, q_, implies_true, ite_self, not_false_eq_true, if_false]) <;> (repeat' split) <;> (first | (simp only [part_ite, part_setBit, logEvent_part, settleLanes_part, h_, q_, implies_true, ite_self, not_false_eq_true, if_false]; done) | rfl))
theorem eyeScan_part {o_ : Obj} (q_ : o_.quiet = true) (h_ : ¬ o_.id ∈ Footprint.eyeScan) (c l ef : Nat) (s : State) :
    (eyeScan c l ef s).part o_ = s.part o_ := by
  simp only [Footprint.eyeScan, List.mem_append, List.mem_cons, List.not_mem_nil, or_false, false_or, not_or] at h_
  unfold eyeScan
  first
  | (simp only [part_ite, part_set, laneOut_part, laneBack_part, h_, q_, implies_true, ite_self, not_false_eq_true, if_false]; done)
  | ((try simp only [part_ite, part_set, laneOut_part, laneBack_part, h_, q_, implies_true, ite_self, not_false_eq_true, if_false]) <;> (repeat' split) <;> (first | (simp only [part_ite, part_set, laneOut_part, laneBack_part, h_, q_, implies_true, ite_self, not_false_eq_true, if_false]; done) | rfl))
theorem launchService_part {o_ : Obj} (q_ : o_.quiet = true) (h_ : ¬ o_.id ∈ Footprint.launchService) (c l seq : Nat) (body : List Byte) (s : State) :
    (launchService c l seq body s).part o_ = s.part o_ := by
  simp only [Footprint.launchService, List.mem_append, List.mem_cons, List.not_mem_nil, or_false, false_or, not_or] at h_
  unfold launchService
  first
  | (simp only [part_ite, part_set, part_emit, h_, q_, implies_true, ite_self, not_false_eq_true, if_false]; done)
  | ((try simp only [part_ite, part_set, part_emit, h_, q_, implies_true, ite_self, not_false_eq_true, if_false]) <;> (repeat' split) <;> (first | (simp only [part_ite, part_set, part_emit, h_, q_, implies_true, ite_self, not_false_eq_true, if_false]; done) | rfl))
theorem sendAck_part {o_ : Obj} (q_ : o_.quiet = true) (h_ : ¬ o_.id ∈ Footprint.sendAck) (c l : Nat) (s : State) :
    (sendAck c l s).part o_ = s.part o_ := by
  simp only [Footprint.sendAck, List.mem_append, List.mem_cons, List.not_mem_nil, or_false, false_or, not_or] at h_
  unfold sendAck
  first
  | (simp only [part_ite, launchService_part, h_, q_, implies_true, ite_self, not_false_eq_true, if_false]; done)
  | ((try simp only [part_ite, launchService_part, h_, q_, implies_true, ite_self, not_false_eq_true, if_false]) <;> (repeat' split) <;> (first | (simp only [part_ite, launchService_part, h_, q_, implies_true, ite_self, not_false_eq_true, if_false]; done) | rfl))
theorem sendService_part {o_ : Obj} (q_ : o_.quiet = true) (h_ : ¬ o_.id ∈ Footprint.sendService) (c chan op off : Nat) (payload : List Byte) (s : State) :
    (sendService c chan op off payload s).part o_ = s.part o_ := by
  simp only [Footprint.sendService, List.mem_append, List.mem_cons, List.not_mem_nil, or_false, false_or, not_or] at h_
  unfold sendService
  first
  | (simp only [part_ite, part_set, part_setLog, launchService_part, h_, q_, implies_true, ite_self, not_false_eq_true, if_false]; done)
  | ((try simp only [part_ite, part_set, part_setLog, launchService_part, h_, q_, implies_true, ite_self, not_false_eq_true, if_false]) <;> (repeat' split) <;> (first | (simp only [part_ite, part_set, part_setLog, launchService_part, h_, q_, implies_true, ite_self, not_false_eq_true, if_false]; done) | rfl))
theorem pumpService_part {o_ : Obj} (q_ : o_.quiet = true) (h_ : ¬ o_.id ∈ Footprint.pumpService) (c : Nat) (n_ : Nat) (s_ : State) :
    (pumpService c n_ s_).part o_ = s_.part o_ := by
  simp only [Footprint.pumpService, List.mem_append, List.mem_cons, List.not_mem_nil, or_false, false_or, not_or, and_assoc] at h_
  induction n_ generalizing s_ with
  | zero => rfl
  | succ n ih =>
    unfold pumpService
    split
    · split
      · rw [ih, sendService_part q_ h_.2, part_setLog h_.1]
      · rfl
    · rfl
theorem sendInPieces_part {o_ : Obj} (q_ : o_.quiet = true) (h_ : ¬ o_.id ∈ Footprint.sendInPieces) (c chan off : Nat) (d : List Byte) (s : State) :
    (sendInPieces c chan off d s).part o_ = s.part o_ := by
  simp only [Footprint.sendInPieces, List.mem_append, List.mem_cons, List.not_mem_nil, or_false, false_or, not_or] at h_
  unfold sendInPieces
  first
  | (simp only [part_ite, forL_part, sendService_part, h_, q_, implies_true, ite_self, not_false_eq_true, if_false]; done)
  | ((try simp only [part_ite, forL_part, sendService_part, h_, q_, implies_true, ite_self, not_false_eq_true, if_false]) <;> (repeat' split) <;> (first | (simp only [part_ite, forL_part, sendService_part, h_, q_, implies_true, ite_self, not_false_eq_true, if_false]; done) | rfl))
theorem takeService_part {o_ : Obj} (q_ : o_.quiet = true) (h_ : ¬ o_.id ∈ Footprint.takeService) (c l : Nat) (b : List Byte) (s : State) :
    (takeService c l b s).part o_ = s.part o_ := by
  simp only [Footprint.takeService, List.mem_append, List.mem_cons, List.not_mem_nil, or_false, false_or, not_or] at h_
  unfold takeService
  first
  | (simp only [part_ite, part_set, part_setBytes, part_setLog, queueItem_part, pumpService_part, sendAck_part, h_, q_, implies_true, ite_self, not_false_eq_true, if_false]; done)
  | ((try simp only [part_ite, part_set, part_setBytes, part_setLog, queueItem_part, pumpService_part, sendAck_part, h_, q_, implies_true, ite_self, not_false_eq_true, if_false]) <;> (repeat' split) <;> (first | (simp only [part_ite, part_set, part_setBytes, part_setLog, queueItem_part, pumpService_part, sendAck_part, h_, q_, implies_true, ite_self, not_false_eq_true, if_false]; done) | rfl))
theorem crcFailed_part {o_ : Obj} (q_ : o_.quiet = true) (h_ : ¬ o_.id ∈ Footprint.crcFailed) (c l : Nat) (s : State) :
    (crcFailed c l s).part o_ = s.part o_ := by
  simp only [Footprint.crcFailed, List.mem_append, List.mem_cons, List.not_mem_nil, or_false, false_or, not_or] at h_
  unfold crcFailed
  first
  | (simp only [part_ite, part_set, part_inc, h_, q_, implies_true, ite_self, not_false_eq_true, if_false]; done)
  | ((try simp only [part_ite, part_set, part_inc, h_, q_, implies_true, ite_self, not_false_eq_true, if_false]) <;> (repeat' split) <;> (first | (simp only [part_ite, part_set, part_inc, h_, q_, implies_true, ite_self, not_false_eq_true, if_false]; done) | rfl))
theorem receive_part {o_ : Obj} (q_ : o_.quiet = true) (h_ : ¬ o_.id ∈ Footprint.receive) (c l : Nat) (line : List Bool) (s : State) :
    (receive c l line s).2.part o_ = s.part o_ := by
  simp only [Footprint.receive, List.mem_append, List.mem_cons, List.not_mem_nil, or_false, false_or, not_or] at h_
  unfold receive
  first
  | (simp only [part_ite, part_set, h_, q_, implies_true, ite_self, not_false_eq_true, if_false]; done)
  | ((try simp only [part_ite, part_set, h_, q_, implies_true, ite_self, not_false_eq_true, if_false]) <;> (repeat' split) <;> (first | (simp only [part_ite, part_set, h_, q_, implies_true, ite_self, not_false_eq_true, if_false]; done) | rfl))
theorem failService_part {o_ : Obj} (q_ : o_.quiet = true) (h_ : ¬ o_.id ∈ Footprint.failService) (c l : Nat) (s : State) :
    (failService c l s).part o_ = s.part o_ := by
  simp only [Footprint.failService, List.mem_append, List.mem_cons, List.not_mem_nil, or_false, false_or, not_or] at h_
  unfold failService
  first
  | (simp only [part_ite, part_set, part_setLog, foldl_part, logEvent_part, refuseLink_part, sendService_part, h_, q_, implies_true, ite_self, not_false_eq_true, if_false]; done)
  | ((try simp only [part_ite, part_set, part_setLog, foldl_part, logEvent_part, refuseLink_part, sendService_part, h_, q_, implies_true, ite_self, not_false_eq_true, if_false]) <;> (repeat' split) <;> (first | (simp only [part_ite, part_set, part_setLog, foldl_part, logEvent_part, refuseLink_part, sendService_part, h_, q_, implies_true, ite_self, not_false_eq_true, if_false]; done) | rfl))
theorem storeTelemetry_part {o_ : Obj} (q_ : o_.quiet = true) (h_ : ¬ o_.id ∈ Footprint.storeTelemetry) (c : Nat) (b : List Byte) (s : State) :
    (storeTelemetry c b s).part o_ = s.part o_ := by
  simp only [Footprint.storeTelemetry, List.mem_append, List.mem_cons, List.not_mem_nil, or_false, false_or, not_or] at h_
  unfold storeTelemetry
  first
  | (simp only [part_ite, part_set, forN_part, h_, q_, implies_true, ite_self, not_false_eq_true, if_false]; done)
  | ((try simp only [part_ite, part_set, forN_part, h_, q_, implies_true, ite_self, not_false_eq_true, if_false]) <;> (repeat' split) <;> (first | (simp only [part_ite, part_set, forN_part, h_, q_, implies_true, ite_self, not_false_eq_true, if_false]; done) | rfl))
theorem countDrops_part {o_ : Obj} (q_ : o_.quiet = true) (h_ : ¬ o_.id ∈ Footprint.countDrops) (c : Nat) (b : List Byte) (s : State) :
    (countDrops c b s).part o_ = s.part o_ := by
  simp only [Footprint.countDrops, List.mem_append, List.mem_cons, List.not_mem_nil, or_false, false_or, not_or] at h_
  unfold countDrops
  first
  | (simp only [part_ite, part_set, logLimited_part, h_, q_, implies_true, ite_self, not_false_eq_true, if_false]; done)
  | ((try simp only [part_ite, part_set, logLimited_part, h_, q_, implies_true, ite_self, not_false_eq_true, if_false]) <;> (repeat' split) <;> (first | (simp only [part_ite, part_set, logLimited_part, h_, q_, implies_true, ite_self, not_false_eq_true, if_false]; done) | rfl))
theorem countDownCrc_part {o_ : Obj} (q_ : o_.quiet = true) (h_ : ¬ o_.id ∈ Footprint.countDownCrc) (c : Nat) (b : List Byte) (s : State) :
    (countDownCrc c b s).part o_ = s.part o_ := by
  simp only [Footprint.countDownCrc, List.mem_append, List.mem_cons, List.not_mem_nil, or_false, false_or, not_or] at h_
  unfold countDownCrc
  first
  | (simp only [part_ite, part_set, part_draw, h_, q_, implies_true, ite_self, not_false_eq_true, if_false]; done)
  | ((try simp only [part_ite, part_set, part_draw, h_, q_, implies_true, ite_self, not_false_eq_true, if_false]) <;> (repeat' split) <;> (first | (simp only [part_ite, part_set, part_draw, h_, q_, implies_true, ite_self, not_false_eq_true, if_false]; done) | rfl))
theorem linkRun_part {o_ : Obj} (q_ : o_.quiet = true) (h_ : ¬ o_.id ∈ Footprint.linkRun) (c : Nat) (s : State) :
    (linkRun c s).part o_ = s.part o_ := by
  simp only [Footprint.linkRun, List.mem_append, List.mem_cons, List.not_mem_nil, or_false, false_or, not_or] at h_
  unfold linkRun
  first
  | (simp only [part_ite, part_set, setLink_part, h_, q_, implies_true, ite_self, not_false_eq_true, if_false]; done)
  | ((try simp only [part_ite, part_set, setLink_part, h_, q_, implies_true, ite_self, not_false_eq_true, if_false]) <;> (repeat' split) <;> (first | (simp only [part_ite, part_set, setLink_part, h_, q_, implies_true, ite_self, not_false_eq_true, if_false]; done) | rfl))
theorem takeTelemetry_part {o_ : Obj} (q_ : o_.quiet = true) (h_ : ¬ o_.id ∈ Footprint.takeTelemetry) (c : Nat) (b : List Byte) (s : State) :
    (takeTelemetry c b s).part o_ = s.part o_ := by
  simp only [Footprint.takeTelemetry, List.mem_append, List.mem_cons, List.not_mem_nil, or_false, false_or, not_or] at h_
  unfold takeTelemetry
  first
  | (simp only [part_ite, part_set, linkRun_part, countDownCrc_part, countDrops_part, storeTelemetry_part, h_, q_, implies_true, ite_self, not_false_eq_true, if_false]; done)
  | ((try simp only [part_ite, part_set, linkRun_part, countDownCrc_part, countDrops_part, storeTelemetry_part, h_, q_, implies_true, ite_self, not_false_eq_true, if_false]) <;> (repeat' split) <;> (first | (simp only [part_ite, part_set, linkRun_part, countDownCrc_part, countDrops_part, storeTelemetry_part, h_, q_, implies_true, ite_self, not_false_eq_true, if_false]; done) | rfl))
theorem bringUp_part {o_ : Obj} (q_ : o_.quiet = true) (h_ : ¬ o_.id ∈ Footprint.bringUp) (c : Nat) (s : State) :
    (bringUp c s).part o_ = s.part o_ := by
  simp only [Footprint.bringUp, List.mem_append, List.mem_cons, List.not_mem_nil, or_false, false_or, not_or] at h_
  unfold bringUp
  first
  | (simp only [part_ite, part_set, part_setBytes, part_setLog, forL_part, setLink_part, h_, q_, implies_true, ite_self, not_false_eq_true, if_false]; done)
  | ((try simp only [part_ite, part_set, part_setBytes, part_setLog, forL_part, setLink_part, h_, q_, implies_true, ite_self, not_false_eq_true, if_false]) <;> (repeat' split) <;> (first | (simp only [part_ite, part_set, part_setBytes, part_setLog, forL_part, setLink_part, h_, q_, implies_true, ite_self, not_false_eq_true, if_false]; done) | rfl))
theorem takeTraining_part {o_ : Obj} (q_ : o_.quiet = true) (h_ : ¬ o_.id ∈ Footprint.takeTraining) (c : Nat) (arrival : Nat) (b : List Byte) (s : State) :
    (takeTraining c arrival b s).part o_ = s.part o_ := by
  simp only [Footprint.takeTraining, List.mem_append, List.mem_cons, List.not_mem_nil, or_false, false_or, not_or] at h_
  unfold takeTraining
  first
  | (simp only [part_ite, part_set, refuseLink_part, sendService_part, setLink_part, h_, q_, implies_true, ite_self, not_false_eq_true, if_false]; done)
  | ((try simp only [part_ite, part_set, refuseLink_part, sendService_part, setLink_part, h_, q_, implies_true, ite_self, not_false_eq_true, if_false]) <;> (repeat' split) <;> (first | (simp only [part_ite, part_set, refuseLink_part, sendService_part, setLink_part, h_, q_, implies_true, ite_self, not_false_eq_true, if_false]; done) | rfl))
theorem storeIdentity_part {o_ : Obj} (q_ : o_.quiet = true) (h_ : ¬ o_.id ∈ Footprint.storeIdentity) (c : Nat) (b : List Byte) (s : State) :
    (storeIdentity c b s).part o_ = s.part o_ := by
  simp only [Footprint.storeIdentity, List.mem_append, List.mem_cons, List.not_mem_nil, or_false, false_or, not_or] at h_
  unfold storeIdentity
  first
  | (simp only [part_ite, part_set, part_setBytes, h_, q_, implies_true, ite_self, not_false_eq_true, if_false]; done)
  | ((try simp only [part_ite, part_set, part_setBytes, h_, q_, implies_true, ite_self, not_false_eq_true, if_false]) <;> (repeat' split) <;> (first | (simp only [part_ite, part_set, part_setBytes, h_, q_, implies_true, ite_self, not_false_eq_true, if_false]; done) | rfl))
theorem enterInrush_part {o_ : Obj} (q_ : o_.quiet = true) (h_ : ¬ o_.id ∈ Footprint.enterInrush) (c : Nat) (s : State) :
    (enterInrush c s).part o_ = s.part o_ := by
  simp only [Footprint.enterInrush, List.mem_append, List.mem_cons, List.not_mem_nil, or_false, false_or, not_or] at h_
  unfold enterInrush
  first
  | (simp only [part_ite, part_set, h_, q_, implies_true, ite_self, not_false_eq_true, if_false]; done)
  | ((try simp only [part_ite, part_set, h_, q_, implies_true, ite_self, not_false_eq_true, if_false]) <;> (repeat' split) <;> (first | (simp only [part_ite, part_set, h_, q_, implies_true, ite_self, not_false_eq_true, if_false]; done) | rfl))
theorem tryTurnOn_part {o_ : Obj} (q_ : o_.quiet = true) (h_ : ¬ o_.id ∈ Footprint.tryTurnOn) (c : Nat) (s : State) :
    (tryTurnOn c s).part o_ = s.part o_ := by
  simp only [Footprint.tryTurnOn, List.mem_append, List.mem_cons, List.not_mem_nil, or_false, false_or, not_or] at h_
  unfold tryTurnOn
  first
  | (simp only [part_ite, part_set, enterInrush_part, h_, q_, implies_true, ite_self, not_false_eq_true, if_false]; done)
  | ((try simp only [part_ite, part_set, enterInrush_part, h_, q_, implies_true, ite_self, not_false_eq_true, if_false]) <;> (repeat' split) <;> (first | (simp only [part_ite, part_set, enterInrush_part, h_, q_, implies_true, ite_self, not_false_eq_true, if_false]; done) | rfl))
theorem commandChannel_part {o_ : Obj} (q_ : o_.quiet = true) (h_ : ¬ o_.id ∈ Footprint.commandChannel) (c : Nat) (v : Int) (s : State) :
    (commandChannel c v s).part o_ = s.part o_ := by
  simp only [Footprint.commandChannel, List.mem_append, List.mem_cons, List.not_mem_nil, or_false, false_or, not_or] at h_
  unfold commandChannel
  first
  | (simp only [part_ite, part_set, tryTurnOn_part, h_, q_, implies_true, ite_self, not_false_eq_true, if_false]; done)
  | ((try simp only [part_ite, part_set, tryTurnOn_part, h_, q_, implies_true, ite_self, not_false_eq_true, if_false]) <;> (repeat' split) <;> (first | (simp only [part_ite, part_set, tryTurnOn_part, h_, q_, implies_true, ite_self, not_false_eq_true, if_false]; done) | rfl))
theorem latchChannel_part {o_ : Obj} (q_ : o_.quiet = true) (h_ : ¬ o_.id ∈ Footprint.latchChannel) (c : Nat) (st cause : Int) (s : State) :
    (latchChannel c st cause s).part o_ = s.part o_ := by
  simp only [Footprint.latchChannel, List.mem_append, List.mem_cons, List.not_mem_nil, or_false, false_or, not_or] at h_
  unfold latchChannel
  first
  | (simp only [part_ite, part_set, part_inc, logEvent_part, h_, q_, implies_true, ite_self, not_false_eq_true, if_false]; done)
  | ((try simp only [part_ite, part_set, part_inc, logEvent_part, h_, q_, implies_true, ite_self, not_false_eq_true, if_false]) <;> (repeat' split) <;> (first | (simp only [part_ite, part_set, part_inc, logEvent_part, h_, q_, implies_true, ite_self, not_false_eq_true, if_false]; done) | rfl))
theorem supplyOff_part {o_ : Obj} (q_ : o_.quiet = true) (h_ : ¬ o_.id ∈ Footprint.supplyOff) (c : Nat) (bit : Nat) (s : State) :
    (supplyOff c bit s).part o_ = s.part o_ := by
  simp only [Footprint.supplyOff, List.mem_append, List.mem_cons, List.not_mem_nil, or_false, false_or, not_or] at h_
  unfold supplyOff
  first
  | (simp only [part_ite, part_set, h_, q_, implies_true, ite_self, not_false_eq_true, if_false]; done)
  | ((try simp only [part_ite, part_set, h_, q_, implies_true, ite_self, not_false_eq_true, if_false]) <;> (repeat' split) <;> (first | (simp only [part_ite, part_set, h_, q_, implies_true, ite_self, not_false_eq_true, if_false]; done) | rfl))
theorem supplyBack_part {o_ : Obj} (q_ : o_.quiet = true) (h_ : ¬ o_.id ∈ Footprint.supplyBack) (c : Nat) (bit : Nat) (s : State) :
    (supplyBack c bit s).part o_ = s.part o_ := by
  simp only [Footprint.supplyBack, List.mem_append, List.mem_cons, List.not_mem_nil, or_false, false_or, not_or] at h_
  unfold supplyBack
  first
  | (simp only [part_ite, part_set, tryTurnOn_part, h_, q_, implies_true, ite_self, not_false_eq_true, if_false]; done)
  | ((try simp only [part_ite, part_set, tryTurnOn_part, h_, q_, implies_true, ite_self, not_false_eq_true, if_false]) <;> (repeat' split) <;> (first | (simp only [part_ite, part_set, tryTurnOn_part, h_, q_, implies_true, ite_self, not_false_eq_true, if_false]; done) | rfl))
theorem commandCoils_part {o_ : Obj} (q_ : o_.quiet = true) (h_ : ¬ o_.id ∈ Footprint.commandCoils) (n : Nat) (plus minus : Bool) (s : State) :
    (commandCoils n plus minus s).part o_ = s.part o_ := by
  simp only [Footprint.commandCoils, List.mem_append, List.mem_cons, List.not_mem_nil, or_false, false_or, not_or] at h_
  unfold commandCoils
  first
  | (simp only [part_ite, commandChannel_part, h_, q_, implies_true, ite_self, not_false_eq_true, if_false]; done)
  | ((try simp only [part_ite, commandChannel_part, h_, q_, implies_true, ite_self, not_false_eq_true, if_false]) <;> (repeat' split) <;> (first | (simp only [part_ite, commandChannel_part, h_, q_, implies_true, ite_self, not_false_eq_true, if_false]; done) | rfl))
theorem respond_part {o_ : Obj} (q_ : o_.quiet = true)  (n code : Nat) (vals : List Int) (s : State) :
    (respond n code vals s).part o_ = s.part o_ := by
  unfold respond
  first
  | (simp only [part_ite, part_emit, q_, implies_true, ite_self, not_false_eq_true, if_false]; done)
  | ((try simp only [part_ite, part_emit, q_, implies_true, ite_self, not_false_eq_true, if_false]) <;> (repeat' split) <;> (first | (simp only [part_ite, part_emit, q_, implies_true, ite_self, not_false_eq_true, if_false]; done) | rfl))
theorem noteRoom_part {o_ : Obj} (q_ : o_.quiet = true)  (s : State) :
    (noteRoom s).part o_ = s.part o_ := by
  unfold noteRoom
  first
  | (simp only [part_ite, endEpisode_part, logEpisode_part, q_, implies_true, ite_self, not_false_eq_true, if_false]; done)
  | ((try simp only [part_ite, endEpisode_part, logEpisode_part, q_, implies_true, ite_self, not_false_eq_true, if_false]) <;> (repeat' split) <;> (first | (simp only [part_ite, endEpisode_part, logEpisode_part, q_, implies_true, ite_self, not_false_eq_true, if_false]; done) | rfl))
theorem setContext_part {o_ : Obj} (q_ : o_.quiet = true) (h_ : ¬ o_.id ∈ Footprint.setContext) (c : Nat) (st : Int) (s : State) :
    (setContext c st s).part o_ = s.part o_ := by
  simp only [Footprint.setContext, List.mem_append, List.mem_cons, List.not_mem_nil, or_false, false_or, not_or] at h_
  unfold setContext
  first
  | (simp only [part_ite, part_set, logEvent_part, submit_part, noteRoom_part, h_, q_, implies_true, ite_self, not_false_eq_true, if_false]; done)
  | ((try simp only [part_ite, part_set, logEvent_part, submit_part, noteRoom_part, h_, q_, implies_true, ite_self, not_false_eq_true, if_false]) <;> (repeat' split) <;> (first | (simp only [part_ite, part_set, logEvent_part, submit_part, noteRoom_part, h_, q_, implies_true, ite_self, not_false_eq_true, if_false]; done) | rfl))
theorem takeSerial_part {o_ : Obj} (q_ : o_.quiet = true) (h_ : ¬ o_.id ∈ Footprint.takeSerial) (c : Nat) (s : State) :
    (takeSerial c s).part o_ = s.part o_ := by
  simp only [Footprint.takeSerial, List.mem_append, List.mem_cons, List.not_mem_nil, or_false, false_or, not_or] at h_
  unfold takeSerial
  first
  | (simp only [part_ite, part_set, h_, q_, implies_true, ite_self, not_false_eq_true, if_false]; done)
  | ((try simp only [part_ite, part_set, h_, q_, implies_true, ite_self, not_false_eq_true, if_false]) <;> (repeat' split) <;> (first | (simp only [part_ite, part_set, h_, q_, implies_true, ite_self, not_false_eq_true, if_false]; done) | rfl))
theorem dropContext_part {o_ : Obj} (q_ : o_.quiet = true) (h_ : ¬ o_.id ∈ Footprint.dropContext) (c : Nat) (reason : Int) (s : State) :
    (dropContext c reason s).part o_ = s.part o_ := by
  simp only [Footprint.dropContext, List.mem_append, List.mem_cons, List.not_mem_nil, or_false, false_or, not_or] at h_
  unfold dropContext
  first
  | (simp only [part_ite, part_set, logEvent_part, setContext_part, h_, q_, implies_true, ite_self, not_false_eq_true, if_false]; done)
  | ((try simp only [part_ite, part_set, logEvent_part, setContext_part, h_, q_, implies_true, ite_self, not_false_eq_true, if_false]) <;> (repeat' split) <;> (first | (simp only [part_ite, part_set, logEvent_part, setContext_part, h_, q_, implies_true, ite_self, not_false_eq_true, if_false]; done) | rfl))
theorem takeStart_part {o_ : Obj} (q_ : o_.quiet = true) (h_ : ¬ o_.id ∈ Footprint.takeStart) (c n : Nat) (s : State) :
    (takeStart c n s).part o_ = s.part o_ := by
  simp only [Footprint.takeStart, List.mem_append, List.mem_cons, List.not_mem_nil, or_false, false_or, not_or] at h_
  unfold takeStart
  first
  | (simp only [part_ite, part_set, part_setBytes, forN_part, submit_part, h_, q_, implies_true, ite_self, not_false_eq_true, if_false]; done)
  | ((try simp only [part_ite, part_set, part_setBytes, forN_part, submit_part, h_, q_, implies_true, ite_self, not_false_eq_true, if_false]) <;> (repeat' split) <;> (first | (simp only [part_ite, part_set, part_setBytes, forN_part, submit_part, h_, q_, implies_true, ite_self, not_false_eq_true, if_false]; done) | rfl))
theorem takeStop_part {o_ : Obj} (q_ : o_.quiet = true) (h_ : ¬ o_.id ∈ Footprint.takeStop) (c n : Nat) (s : State) :
    (takeStop c n s).part o_ = s.part o_ := by
  simp only [Footprint.takeStop, List.mem_append, List.mem_cons, List.not_mem_nil, or_false, false_or, not_or] at h_
  unfold takeStop
  first
  | (simp only [part_ite, part_set, part_setBit, part_setBytes, forN_part, submit_part, h_, q_, implies_true, ite_self, not_false_eq_true, if_false]; done)
  | ((try simp only [part_ite, part_set, part_setBit, part_setBytes, forN_part, submit_part, h_, q_, implies_true, ite_self, not_false_eq_true, if_false]) <;> (repeat' split) <;> (first | (simp only [part_ite, part_set, part_setBit, part_setBytes, forN_part, submit_part, h_, q_, implies_true, ite_self, not_false_eq_true, if_false]; done) | rfl))
theorem takeBoth_part {o_ : Obj} (q_ : o_.quiet = true) (h_ : ¬ o_.id ∈ Footprint.takeBoth) (c n : Nat) (s : State) :
    (takeBoth c n s).part o_ = s.part o_ := by
  simp only [Footprint.takeBoth, List.mem_append, List.mem_cons, List.not_mem_nil, or_false, false_or, not_or] at h_
  unfold takeBoth
  first
  | (simp only [part_ite, takeStop_part, takeStart_part, h_, q_, implies_true, ite_self, not_false_eq_true, if_false]; done)
  | ((try simp only [part_ite, takeStop_part, takeStart_part, h_, q_, implies_true, ite_self, not_false_eq_true, if_false]) <;> (repeat' split) <;> (first | (simp only [part_ite, takeStop_part, takeStart_part, h_, q_, implies_true, ite_self, not_false_eq_true, if_false]; done) | rfl))
theorem endContext_part {o_ : Obj} (q_ : o_.quiet = true) (h_ : ¬ o_.id ∈ Footprint.endContext) (n : Nat) (s : State) :
    (endContext n s).part o_ = s.part o_ := by
  simp only [Footprint.endContext, List.mem_append, List.mem_cons, List.not_mem_nil, or_false, false_or, not_or] at h_
  unfold endContext
  first
  | (simp only [part_ite, part_set, setContext_part, dropContext_part, h_, q_, implies_true, ite_self, not_false_eq_true, if_false]; done)
  | ((try simp only [part_ite, part_set, setContext_part, dropContext_part, h_, q_, implies_true, ite_self, not_false_eq_true, if_false]) <;> (repeat' split) <;> (first | (simp only [part_ite, part_set, setContext_part, dropContext_part, h_, q_, implies_true, ite_self, not_false_eq_true, if_false]; done) | rfl))
theorem drivePilot_part {o_ : Obj} (q_ : o_.quiet = true) (h_ : ¬ o_.id ∈ Footprint.drivePilot) (n : Nat) (s : State) :
    (drivePilot n s).part o_ = s.part o_ := by
  simp only [Footprint.drivePilot, List.mem_append, List.mem_cons, List.not_mem_nil, or_false, false_or, not_or] at h_
  unfold drivePilot
  first
  | (simp only [part_ite, part_set, h_, q_, implies_true, ite_self, not_false_eq_true, if_false]; done)
  | ((try simp only [part_ite, part_set, h_, q_, implies_true, ite_self, not_false_eq_true, if_false]) <;> (repeat' split) <;> (first | (simp only [part_ite, part_set, h_, q_, implies_true, ite_self, not_false_eq_true, if_false]; done) | rfl))
theorem refreshAvail_part {o_ : Obj} (q_ : o_.quiet = true) (h_ : ¬ o_.id ∈ Footprint.refreshAvail) (n : Nat) (s : State) :
    (refreshAvail n s).part o_ = s.part o_ := by
  simp only [Footprint.refreshAvail, List.mem_append, List.mem_cons, List.not_mem_nil, or_false, false_or, not_or] at h_
  unfold refreshAvail
  first
  | (simp only [part_ite, part_set, part_setB, logEvent_part, drivePilot_part, h_, q_, implies_true, ite_self, not_false_eq_true, if_false]; done)
  | ((try simp only [part_ite, part_set, part_setB, logEvent_part, drivePilot_part, h_, q_, implies_true, ite_self, not_false_eq_true, if_false]) <;> (repeat' split) <;> (first | (simp only [part_ite, part_set, part_setB, logEvent_part, drivePilot_part, h_, q_, implies_true, ite_self, not_false_eq_true, if_false]; done) | rfl))
theorem refreshAll_part {o_ : Obj} (q_ : o_.quiet = true) (h_ : ¬ o_.id ∈ Footprint.refreshAll) (s : State) :
    (refreshAll s).part o_ = s.part o_ := by
  simp only [Footprint.refreshAll, List.mem_append, List.mem_cons, List.not_mem_nil, or_false, false_or, not_or] at h_
  unfold refreshAll
  first
  | (simp only [part_ite, forN_part, refreshAvail_part, h_, q_, implies_true, ite_self, not_false_eq_true, if_false]; done)
  | ((try simp only [part_ite, forN_part, refreshAvail_part, h_, q_, implies_true, ite_self, not_false_eq_true, if_false]) <;> (repeat' split) <;> (first | (simp only [part_ite, forN_part, refreshAvail_part, h_, q_, implies_true, ite_self, not_false_eq_true, if_false]; done) | rfl))
theorem setOutlet_part {o_ : Obj} (q_ : o_.quiet = true) (h_ : ¬ o_.id ∈ Footprint.setOutlet) (n : Nat) (st : Int) (s : State) :
    (setOutlet n st s).part o_ = s.part o_ := by
  simp only [Footprint.setOutlet, List.mem_append, List.mem_cons, List.not_mem_nil, or_false, false_or, not_or] at h_
  unfold setOutlet
  first
  | (simp only [part_ite, part_set, logEvent_part, drivePilot_part, h_, q_, implies_true, ite_self, not_false_eq_true, if_false]; done)
  | ((try simp only [part_ite, part_set, logEvent_part, drivePilot_part, h_, q_, implies_true, ite_self, not_false_eq_true, if_false]) <;> (repeat' split) <;> (first | (simp only [part_ite, part_set, logEvent_part, drivePilot_part, h_, q_, implies_true, ite_self, not_false_eq_true, if_false]; done) | rfl))
theorem applyRamp_part {o_ : Obj} (q_ : o_.quiet = true) (h_ : ¬ o_.id ∈ Footprint.applyRamp) (n : Nat) (s : State) :
    (applyRamp n s).part o_ = s.part o_ := by
  simp only [Footprint.applyRamp, List.mem_append, List.mem_cons, List.not_mem_nil, or_false, false_or, not_or] at h_
  unfold applyRamp
  first
  | (simp only [part_ite, part_set, forL_part, h_, q_, implies_true, ite_self, not_false_eq_true, if_false]; done)
  | ((try simp only [part_ite, part_set, forL_part, h_, q_, implies_true, ite_self, not_false_eq_true, if_false]) <;> (repeat' split) <;> (first | (simp only [part_ite, part_set, forL_part, h_, q_, implies_true, ite_self, not_false_eq_true, if_false]; done) | rfl))
theorem startRamp_part {o_ : Obj} (q_ : o_.quiet = true) (h_ : ¬ o_.id ∈ Footprint.startRamp) (n : Nat) (dest frames : Int) (s : State) :
    (startRamp n dest frames s).part o_ = s.part o_ := by
  simp only [Footprint.startRamp, List.mem_append, List.mem_cons, List.not_mem_nil, or_false, false_or, not_or] at h_
  unfold startRamp
  first
  | (simp only [part_ite, part_set, applyRamp_part, h_, q_, implies_true, ite_self, not_false_eq_true, if_false]; done)
  | ((try simp only [part_ite, part_set, applyRamp_part, h_, q_, implies_true, ite_self, not_false_eq_true, if_false]) <;> (repeat' split) <;> (first | (simp only [part_ite, part_set, applyRamp_part, h_, q_, implies_true, ite_self, not_false_eq_true, if_false]; done) | rfl))
theorem setRamp_part {o_ : Obj} (q_ : o_.quiet = true) (h_ : ¬ o_.id ∈ Footprint.setRamp) (n : Nat) (v : Int) (s : State) :
    (setRamp n v s).part o_ = s.part o_ := by
  simp only [Footprint.setRamp, List.mem_append, List.mem_cons, List.not_mem_nil, or_false, false_or, not_or] at h_
  unfold setRamp
  first
  | (simp only [part_ite, part_set, applyRamp_part, h_, q_, implies_true, ite_self, not_false_eq_true, if_false]; done)
  | ((try simp only [part_ite, part_set, applyRamp_part, h_, q_, implies_true, ite_self, not_false_eq_true, if_false]) <;> (repeat' split) <;> (first | (simp only [part_ite, part_set, applyRamp_part, h_, q_, implies_true, ite_self, not_false_eq_true, if_false]; done) | rfl))
theorem commandContactors_part {o_ : Obj} (q_ : o_.quiet = true) (h_ : ¬ o_.id ∈ Footprint.commandContactors) (n : Nat) (plus minus : Bool) (s : State) :
    (commandContactors n plus minus s).part o_ = s.part o_ := by
  simp only [Footprint.commandContactors, List.mem_append, List.mem_cons, List.not_mem_nil, or_false, false_or, not_or] at h_
  unfold commandContactors
  first
  | (simp only [part_ite, part_set, commandCoils_part, h_, q_, implies_true, ite_self, not_false_eq_true, if_false]; done)
  | ((try simp only [part_ite, part_set, commandCoils_part, h_, q_, implies_true, ite_self, not_false_eq_true, if_false]) <;> (repeat' split) <;> (first | (simp only [part_ite, part_set, commandCoils_part, h_, q_, implies_true, ite_self, not_false_eq_true, if_false]; done) | rfl))
theorem releaseBlocks_part {o_ : Obj} (q_ : o_.quiet = true) (h_ : ¬ o_.id ∈ Footprint.releaseBlocks) (n : Nat) (s : State) :
    (releaseBlocks n s).part o_ = s.part o_ := by
  simp only [Footprint.releaseBlocks, List.mem_append, List.mem_cons, List.not_mem_nil, or_false, false_or, not_or] at h_
  unfold releaseBlocks
  first
  | (simp only [part_ite, part_set, forN_part, stopBlock_part, h_, q_, implies_true, ite_self, not_false_eq_true, if_false]; done)
  | ((try simp only [part_ite, part_set, forN_part, stopBlock_part, h_, q_, implies_true, ite_self, not_false_eq_true, if_false]) <;> (repeat' split) <;> (first | (simp only [part_ite, part_set, forN_part, stopBlock_part, h_, q_, implies_true, ite_self, not_false_eq_true, if_false]; done) | rfl))
theorem closeLink_part {o_ : Obj} (q_ : o_.quiet = true) (h_ : ¬ o_.id ∈ Footprint.closeLink) (n : Nat) (s : State) :
    (closeLink n s).part o_ = s.part o_ := by
  simp only [Footprint.closeLink, List.mem_append, List.mem_cons, List.not_mem_nil, or_false, false_or, not_or] at h_
  unfold closeLink
  first
  | (simp only [part_ite, part_set, h_, q_, implies_true, ite_self, not_false_eq_true, if_false]; done)
  | ((try simp only [part_ite, part_set, h_, q_, implies_true, ite_self, not_false_eq_true, if_false]) <;> (repeat' split) <;> (first | (simp only [part_ite, part_set, h_, q_, implies_true, ite_self, not_false_eq_true, if_false]; done) | rfl))
theorem toClosing_part {o_ : Obj} (q_ : o_.quiet = true) (h_ : ¬ o_.id ∈ Footprint.toClosing) (n : Nat) (s : State) :
    (toClosing n s).part o_ = s.part o_ := by
  simp only [Footprint.toClosing, List.mem_append, List.mem_cons, List.not_mem_nil, or_false, false_or, not_or] at h_
  unfold toClosing
  first
  | (simp only [part_ite, part_set, endContext_part, takeBoth_part, closeLink_part, setOutlet_part, h_, q_, implies_true, ite_self, not_false_eq_true, if_false]; done)
  | ((try simp only [part_ite, part_set, endContext_part, takeBoth_part, closeLink_part, setOutlet_part, h_, q_, implies_true, ite_self, not_false_eq_true, if_false]) <;> (repeat' split) <;> (first | (simp only [part_ite, part_set, endContext_part, takeBoth_part, closeLink_part, setOutlet_part, h_, q_, implies_true, ite_self, not_false_eq_true, if_false]; done) | rfl))
theorem recordCause_part {o_ : Obj} (q_ : o_.quiet = true) (h_ : ¬ o_.id ∈ Footprint.recordCause) (n : Nat) (kind cause : Int) (s : State) :
    (recordCause n kind cause s).part o_ = s.part o_ := by
  simp only [Footprint.recordCause, List.mem_append, List.mem_cons, List.not_mem_nil, or_false, false_or, not_or] at h_
  unfold recordCause
  first
  | (simp only [part_ite, part_set, h_, q_, implies_true, ite_self, not_false_eq_true, if_false]; done)
  | ((try simp only [part_ite, part_set, h_, q_, implies_true, ite_self, not_false_eq_true, if_false]) <;> (repeat' split) <;> (first | (simp only [part_ite, part_set, h_, q_, implies_true, ite_self, not_false_eq_true, if_false]; done) | rfl))
theorem closeEarly_part {o_ : Obj} (q_ : o_.quiet = true) (h_ : ¬ o_.id ∈ Footprint.closeEarly) (n : Nat) (kind cause : Int) (s : State) :
    (closeEarly n kind cause s).part o_ = s.part o_ := by
  simp only [Footprint.closeEarly, List.mem_append, List.mem_cons, List.not_mem_nil, or_false, false_or, not_or] at h_
  unfold closeEarly
  first
  | (simp only [part_ite, part_set, recordCause_part, toClosing_part, releaseBlocks_part, h_, q_, implies_true, ite_self, not_false_eq_true, if_false]; done)
  | ((try simp only [part_ite, part_set, recordCause_part, toClosing_part, releaseBlocks_part, h_, q_, implies_true, ite_self, not_false_eq_true, if_false]) <;> (repeat' split) <;> (first | (simp only [part_ite, part_set, recordCause_part, toClosing_part, releaseBlocks_part, h_, q_, implies_true, ite_self, not_false_eq_true, if_false]; done) | rfl))
theorem toWeldCheck_part {o_ : Obj} (q_ : o_.quiet = true) (h_ : ¬ o_.id ∈ Footprint.toWeldCheck) (n : Nat) (s : State) :
    (toWeldCheck n s).part o_ = s.part o_ := by
  simp only [Footprint.toWeldCheck, List.mem_append, List.mem_cons, List.not_mem_nil, or_false, false_or, not_or] at h_
  unfold toWeldCheck
  first
  | (simp only [part_ite, part_set, forL_part, endContext_part, setOutlet_part, setRamp_part, h_, q_, implies_true, ite_self, not_false_eq_true, if_false]; done)
  | ((try simp only [part_ite, part_set, forL_part, endContext_part, setOutlet_part, setRamp_part, h_, q_, implies_true, ite_self, not_false_eq_true, if_false]) <;> (repeat' split) <;> (first | (simp only [part_ite, part_set, forL_part, endContext_part, setOutlet_part, setRamp_part, h_, q_, implies_true, ite_self, not_false_eq_true, if_false]; done) | rfl))
theorem normalStop_part {o_ : Obj} (q_ : o_.quiet = true) (h_ : ¬ o_.id ∈ Footprint.normalStop) (n : Nat) (cause : Int) (s : State) :
    (normalStop n cause s).part o_ = s.part o_ := by
  simp only [Footprint.normalStop, List.mem_append, List.mem_cons, List.not_mem_nil, or_false, false_or, not_or] at h_
  unfold normalStop
  first
  | (simp only [part_ite, part_set, part_setB, closeEarly_part, recordCause_part, endContext_part, setOutlet_part, toWeldCheck_part, h_, q_, implies_true, ite_self, not_false_eq_true, if_false]; done)
  | ((try simp only [part_ite, part_set, part_setB, closeEarly_part, recordCause_part, endContext_part, setOutlet_part, toWeldCheck_part, h_, q_, implies_true, ite_self, not_false_eq_true, if_false]) <;> (repeat' split) <;> (first | (simp only [part_ite, part_set, part_setB, closeEarly_part, recordCause_part, endContext_part, setOutlet_part, toWeldCheck_part, h_, q_, implies_true, ite_self, not_false_eq_true, if_false]; done) | rfl))
theorem openContactors_part {o_ : Obj} (q_ : o_.quiet = true) (h_ : ¬ o_.id ∈ Footprint.openContactors) (n : Nat) (forced : Bool) (s : State) :
    (openContactors n forced s).part o_ = s.part o_ := by
  simp only [Footprint.openContactors, List.mem_append, List.mem_cons, List.not_mem_nil, or_false, false_or, not_or] at h_
  unfold openContactors
  first
  | (simp only [part_ite, part_set, logEvent_part, takeStop_part, commandContactors_part, h_, q_, implies_true, ite_self, not_false_eq_true, if_false]; done)
  | ((try simp only [part_ite, part_set, logEvent_part, takeStop_part, commandContactors_part, h_, q_, implies_true, ite_self, not_false_eq_true, if_false]) <;> (repeat' split) <;> (first | (simp only [part_ite, part_set, logEvent_part, takeStop_part, commandContactors_part, h_, q_, implies_true, ite_self, not_false_eq_true, if_false]; done) | rfl))
theorem emergencyStop_part {o_ : Obj} (q_ : o_.quiet = true) (h_ : ¬ o_.id ∈ Footprint.emergencyStop) (n : Nat) (cause : Int) (s : State) :
    (emergencyStop n cause s).part o_ = s.part o_ := by
  simp only [Footprint.emergencyStop, List.mem_append, List.mem_cons, List.not_mem_nil, or_false, false_or, not_or] at h_
  unfold emergencyStop
  first
  | (simp only [part_ite, part_set, forL_part, closeEarly_part, recordCause_part, endContext_part, stopBlock_part, setOutlet_part, openContactors_part, h_, q_, implies_true, ite_self, not_false_eq_true, if_false]; done)
  | ((try simp only [part_ite, part_set, forL_part, closeEarly_part, recordCause_part, endContext_part, stopBlock_part, setOutlet_part, openContactors_part, h_, q_, implies_true, ite_self, not_false_eq_true, if_false]) <;> (repeat' split) <;> (first | (simp only [part_ite, part_set, forL_part, closeEarly_part, recordCause_part, endContext_part, stopBlock_part, setOutlet_part, openContactors_part, h_, q_, implies_true, ite_self, not_false_eq_true, if_false]; done) | rfl))
theorem hardwareStop_part {o_ : Obj} (q_ : o_.quiet = true) (h_ : ¬ o_.id ∈ Footprint.hardwareStop) (n : Nat) (cause : Int) (s : State) :
    (hardwareStop n cause s).part o_ = s.part o_ := by
  simp only [Footprint.hardwareStop, List.mem_append, List.mem_cons, List.not_mem_nil, or_false, false_or, not_or] at h_
  unfold hardwareStop
  first
  | (simp only [part_ite, part_set, forL_part, logEvent_part, closeEarly_part, recordCause_part, endContext_part, stopBlock_part, setOutlet_part, takeStop_part, commandContactors_part, h_, q_, implies_true, ite_self, not_false_eq_true, if_false]; done)
  | ((try simp only [part_ite, part_set, forL_part, logEvent_part, closeEarly_part, recordCause_part, endContext_part, stopBlock_part, setOutlet_part, takeStop_part, commandContactors_part, h_, q_, implies_true, ite_self, not_false_eq_true, if_false]) <;> (repeat' split) <;> (first | (simp only [part_ite, part_set, forL_part, logEvent_part, closeEarly_part, recordCause_part, endContext_part, stopBlock_part, setOutlet_part, takeStop_part, commandContactors_part, h_, q_, implies_true, ite_self, not_false_eq_true, if_false]; done) | rfl))
theorem weldLeft_part {o_ : Obj} (q_ : o_.quiet = true) (h_ : ¬ o_.id ∈ Footprint.weldLeft) (n : Nat) (s : State) :
    (weldLeft n s).part o_ = s.part o_ := by
  simp only [Footprint.weldLeft, List.mem_append, List.mem_cons, List.not_mem_nil, or_false, false_or, not_or] at h_
  unfold weldLeft
  first
  | (simp only [part_ite, part_set, refreshAvail_part, h_, q_, implies_true, ite_self, not_false_eq_true, if_false]; done)
  | ((try simp only [part_ite, part_set, refreshAvail_part, h_, q_, implies_true, ite_self, not_false_eq_true, if_false]) <;> (repeat' split) <;> (first | (simp only [part_ite, part_set, refreshAvail_part, h_, q_, implies_true, ite_self, not_false_eq_true, if_false]; done) | rfl))
theorem outletFault_part {o_ : Obj} (q_ : o_.quiet = true) (h_ : ¬ o_.id ∈ Footprint.outletFault) (n : Nat) (cause : Int) (marked : Bool) (s : State) :
    (outletFault n cause marked s).part o_ = s.part o_ := by
  simp only [Footprint.outletFault, List.mem_append, List.mem_cons, List.not_mem_nil, or_false, false_or, not_or] at h_
  unfold outletFault
  first
  | (simp only [part_ite, closeEarly_part, recordCause_part, normalStop_part, emergencyStop_part, hardwareStop_part, setOutlet_part, openContactors_part, weldLeft_part, h_, q_, implies_true, ite_self, not_false_eq_true, if_false]; done)
  | ((try simp only [part_ite, closeEarly_part, recordCause_part, normalStop_part, emergencyStop_part, hardwareStop_part, setOutlet_part, openContactors_part, weldLeft_part, h_, q_, implies_true, ite_self, not_false_eq_true, if_false]) <;> (repeat' split) <;> (first | (simp only [part_ite, closeEarly_part, recordCause_part, normalStop_part, emergencyStop_part, hardwareStop_part, setOutlet_part, openContactors_part, weldLeft_part, h_, q_, implies_true, ite_self, not_false_eq_true, if_false]; done) | rfl))
theorem tryIdle_part {o_ : Obj} (q_ : o_.quiet = true) (h_ : ¬ o_.id ∈ Footprint.tryIdle) (n : Nat) (s : State) :
    (tryIdle n s).part o_ = s.part o_ := by
  simp only [Footprint.tryIdle, List.mem_append, List.mem_cons, List.not_mem_nil, or_false, false_or, not_or] at h_
  unfold tryIdle
  first
  | (simp only [part_ite, part_set, setOutlet_part, refreshAvail_part, h_, q_, implies_true, ite_self, not_false_eq_true, if_false]; done)
  | ((try simp only [part_ite, part_set, setOutlet_part, refreshAvail_part, h_, q_, implies_true, ite_self, not_false_eq_true, if_false]) <;> (repeat' split) <;> (first | (simp only [part_ite, part_set, setOutlet_part, refreshAvail_part, h_, q_, implies_true, ite_self, not_false_eq_true, if_false]; done) | rfl))
theorem tryConnect_part {o_ : Obj} (q_ : o_.quiet = true) (h_ : ¬ o_.id ∈ Footprint.tryConnect) (n : Nat) (s : State) :
    (tryConnect n s).part o_ = s.part o_ := by
  simp only [Footprint.tryConnect, List.mem_append, List.mem_cons, List.not_mem_nil, or_false, false_or, not_or] at h_
  unfold tryConnect
  first
  | (simp only [part_ite, part_set, setOutlet_part, h_, q_, implies_true, ite_self, not_false_eq_true, if_false]; done)
  | ((try simp only [part_ite, part_set, setOutlet_part, h_, q_, implies_true, ite_self, not_false_eq_true, if_false]) <;> (repeat' split) <;> (first | (simp only [part_ite, part_set, setOutlet_part, h_, q_, implies_true, ite_self, not_false_eq_true, if_false]; done) | rfl))
theorem outletFrame_part {o_ : Obj} (q_ : o_.quiet = true) (h_ : ¬ o_.id ∈ Footprint.outletFrame) (n : Nat) (s : State) :
    (outletFrame n s).part o_ = s.part o_ := by
  simp only [Footprint.outletFrame, List.mem_append, List.mem_cons, List.not_mem_nil, or_false, false_or, not_or] at h_
  unfold outletFrame
  first
  | (simp only [part_ite, part_set, part_setB, applyRamp_part, h_, q_, implies_true, ite_self, not_false_eq_true, if_false]; done)
  | ((try simp only [part_ite, part_set, part_setB, applyRamp_part, h_, q_, implies_true, ite_self, not_false_eq_true, if_false]) <;> (repeat' split) <;> (first | (simp only [part_ite, part_set, part_setB, applyRamp_part, h_, q_, implies_true, ite_self, not_false_eq_true, if_false]; done) | rfl))
theorem sendLease_part {o_ : Obj} (q_ : o_.quiet = true) (h_ : ¬ o_.id ∈ Footprint.sendLease) (op : Nat) (frame : Int) (s : State) :
    (sendLease op frame s).part o_ = s.part o_ := by
  simp only [Footprint.sendLease, List.mem_append, List.mem_cons, List.not_mem_nil, or_false, false_or, not_or] at h_
  unfold sendLease
  first
  | (simp only [part_ite, part_set, part_emit, h_, q_, implies_true, ite_self, not_false_eq_true, if_false]; done)
  | ((try simp only [part_ite, part_set, part_emit, h_, q_, implies_true, ite_self, not_false_eq_true, if_false]) <;> (repeat' split) <;> (first | (simp only [part_ite, part_set, part_emit, h_, q_, implies_true, ite_self, not_false_eq_true, if_false]; done) | rfl))
theorem setRole_part {o_ : Obj} (q_ : o_.quiet = true) (h_ : ¬ o_.id ∈ Footprint.setRole) (v : Int) (s : State) :
    (setRole v s).part o_ = s.part o_ := by
  simp only [Footprint.setRole, List.mem_append, List.mem_cons, List.not_mem_nil, or_false, false_or, not_or] at h_
  unfold setRole
  first
  | (simp only [part_ite, part_set, logEvent_part, h_, q_, implies_true, ite_self, not_false_eq_true, if_false]; done)
  | ((try simp only [part_ite, part_set, logEvent_part, h_, q_, implies_true, ite_self, not_false_eq_true, if_false]) <;> (repeat' split) <;> (first | (simp only [part_ite, part_set, logEvent_part, h_, q_, implies_true, ite_self, not_false_eq_true, if_false]; done) | rfl))
theorem channelsOff_part {o_ : Obj} (q_ : o_.quiet = true) (h_ : ¬ o_.id ∈ Footprint.channelsOff) (s : State) :
    (channelsOff s).part o_ = s.part o_ := by
  simp only [Footprint.channelsOff, List.mem_append, List.mem_cons, List.not_mem_nil, or_false, false_or, not_or] at h_
  unfold channelsOff
  first
  | (simp only [part_ite, part_set, forN_part, h_, q_, implies_true, ite_self, not_false_eq_true, if_false]; done)
  | ((try simp only [part_ite, part_set, forN_part, h_, q_, implies_true, ite_self, not_false_eq_true, if_false]) <;> (repeat' split) <;> (first | (simp only [part_ite, part_set, forN_part, h_, q_, implies_true, ite_self, not_false_eq_true, if_false]; done) | rfl))
theorem channelsFollow_part {o_ : Obj} (q_ : o_.quiet = true) (h_ : ¬ o_.id ∈ Footprint.channelsFollow) (s : State) :
    (channelsFollow s).part o_ = s.part o_ := by
  simp only [Footprint.channelsFollow, List.mem_append, List.mem_cons, List.not_mem_nil, or_false, false_or, not_or] at h_
  unfold channelsFollow
  first
  | (simp only [part_ite, forN_part, tryTurnOn_part, h_, q_, implies_true, ite_self, not_false_eq_true, if_false]; done)
  | ((try simp only [part_ite, forN_part, tryTurnOn_part, h_, q_, implies_true, ite_self, not_false_eq_true, if_false]) <;> (repeat' split) <;> (first | (simp only [part_ite, forN_part, tryTurnOn_part, h_, q_, implies_true, ite_self, not_false_eq_true, if_false]; done) | rfl))
theorem unpair_part {o_ : Obj} (q_ : o_.quiet = true) (h_ : ¬ o_.id ∈ Footprint.unpair) (cause : Int) (s : State) :
    (unpair cause s).part o_ = s.part o_ := by
  simp only [Footprint.unpair, List.mem_append, List.mem_cons, List.not_mem_nil, or_false, false_or, not_or] at h_
  unfold unpair
  first
  | (simp only [part_ite, part_set, logEvent_part, h_, q_, implies_true, ite_self, not_false_eq_true, if_false]; done)
  | ((try simp only [part_ite, part_set, logEvent_part, h_, q_, implies_true, ite_self, not_false_eq_true, if_false]) <;> (repeat' split) <;> (first | (simp only [part_ite, part_set, logEvent_part, h_, q_, implies_true, ite_self, not_false_eq_true, if_false]; done) | rfl))
theorem fence_part {o_ : Obj} (q_ : o_.quiet = true) (h_ : ¬ o_.id ∈ Footprint.fence) (s : State) :
    (fence s).part o_ = s.part o_ := by
  simp only [Footprint.fence, List.mem_append, List.mem_cons, List.not_mem_nil, or_false, false_or, not_or] at h_
  unfold fence
  first
  | (simp only [part_ite, part_set, logEvent_part, channelsOff_part, setRole_part, h_, q_, implies_true, ite_self, not_false_eq_true, if_false]; done)
  | ((try simp only [part_ite, part_set, logEvent_part, channelsOff_part, setRole_part, h_, q_, implies_true, ite_self, not_false_eq_true, if_false]) <;> (repeat' split) <;> (first | (simp only [part_ite, part_set, logEvent_part, channelsOff_part, setRole_part, h_, q_, implies_true, ite_self, not_false_eq_true, if_false]; done) | rfl))
theorem takeToken_part {o_ : Obj} (q_ : o_.quiet = true) (h_ : ¬ o_.id ∈ Footprint.takeToken) (cause : Int) (s : State) :
    (takeToken cause s).part o_ = s.part o_ := by
  simp only [Footprint.takeToken, List.mem_append, List.mem_cons, List.not_mem_nil, or_false, false_or, not_or] at h_
  unfold takeToken
  first
  | (simp only [part_ite, part_set, part_inc, logEvent_part, setRole_part, channelsFollow_part, h_, q_, implies_true, ite_self, not_false_eq_true, if_false]; done)
  | ((try simp only [part_ite, part_set, part_inc, logEvent_part, setRole_part, channelsFollow_part, h_, q_, implies_true, ite_self, not_false_eq_true, if_false]) <;> (repeat' split) <;> (first | (simp only [part_ite, part_set, part_inc, logEvent_part, setRole_part, channelsFollow_part, h_, q_, implies_true, ite_self, not_false_eq_true, if_false]; done) | rfl))
theorem handOverOr_part {o_ : Obj} (h_ : ¬ o_.id ∈ Footprint.handOverOr) {alone : State → State} (f_ : ∀ u, (alone u).part o_ = u.part o_) (s : State) :
    (handOverOr alone s).part o_ = s.part o_ := by
  unfold handOverOr
  split
  · exact part_set (by simpa [Footprint.handOverOr] using h_) _ _ _
  · exact f_ s

theorem healthItem_part {o_ : Obj} (q_ : o_.quiet = true) (h_ : ¬ o_.id ∈ Footprint.healthItem) (code el : Nat) (s : State) :
    (healthItem code el s).part o_ = s.part o_ := by
  simp only [Footprint.healthItem, List.mem_append, List.mem_cons, List.not_mem_nil, or_false, false_or, not_or] at h_
  unfold healthItem
  first
  | (simp only [part_ite, part_set, part_setSeq, h_, q_, implies_true, ite_self, not_false_eq_true, if_false]; done)
  | ((try simp only [part_ite, part_set, part_setSeq, h_, q_, implies_true, ite_self, not_false_eq_true, if_false]) <;> (repeat' split) <;> (first | (simp only [part_ite, part_set, part_setSeq, h_, q_, implies_true, ite_self, not_false_eq_true, if_false]; done) | rfl))
theorem injectionStep_part {o_ : Obj} (q_ : o_.quiet = true) (h_ : ¬ o_.id ∈ Footprint.injectionStep) (s : State) :
    (injectionStep s).2.part o_ = s.part o_ := by
  simp only [Footprint.injectionStep, List.mem_append, List.mem_cons, List.not_mem_nil, or_false, false_or, not_or] at h_
  unfold injectionStep
  first
  | (simp only [part_ite, part_set, part_setReal, h_, q_, implies_true, ite_self, not_false_eq_true, if_false]; done)
  | ((try simp only [part_ite, part_set, part_setReal, h_, q_, implies_true, ite_self, not_false_eq_true, if_false]) <;> (repeat' split) <;> (first | (simp only [part_ite, part_set, part_setReal, h_, q_, implies_true, ite_self, not_false_eq_true, if_false]; done) | rfl))
theorem injectionStep_view {o_ : Obj} (q_ : o_.quiet = true) (h_ : ¬ o_.id ∈ Footprint.injectionStep) (s : State)  :
    (injectionStep s).2.view o_ = s.view o_ :=
  view_of_part (injectionStep_part q_ h_ s)

theorem captureSample_view {o_ : Obj} (q_ : o_.quiet = true) (h_ : ¬ o_.id ∈ Footprint.captureSample) (s : State) :
    (captureSample s).view o_ = s.view o_ := by
  simp only [Footprint.captureSample, List.mem_append, List.mem_cons, List.not_mem_nil, or_false, false_or, not_or] at h_
  unfold captureSample
  first
  | (simp only [view_ite, view_set, forN_view, state_poolWrite_view, h_, q_, implies_true, ite_self, not_false_eq_true, if_false]; done)
  | ((try simp only [view_ite, view_set, forN_view, state_poolWrite_view, h_, q_, implies_true, ite_self, not_false_eq_true, if_false]) <;> (repeat' split) <;> (first | (simp only [view_ite, view_set, forN_view, state_poolWrite_view, h_, q_, implies_true, ite_self, not_false_eq_true, if_false]; done) | rfl))

theorem evaluateSlot_view {o_ : Obj} (q_ : o_.quiet = true) (h_ : ¬ o_.id ∈ Footprint.evaluateSlot) (i : Nat) (kids : List Nat) (extra : Int) (s : State) :
    (evaluateSlot i kids extra s).view o_ = s.view o_ := by
  simp only [Footprint.evaluateSlot, List.mem_append, List.mem_cons, List.not_mem_nil, or_false, false_or, not_or] at h_
  unfold evaluateSlot
  first
  | (simp only [view_ite, view_set, view_setReal, foldl_view, logLimited_view, injectionStep_view, captureSample_view, h_, q_, implies_true, ite_self, not_false_eq_true, if_false]; done)
  | ((try simp only [view_ite, view_set, view_setReal, foldl_view, logLimited_view, injectionStep_view, captureSample_view, h_, q_, implies_true, ite_self, not_false_eq_true, if_false]) <;> (repeat' split) <;> (first | (simp only [view_ite, view_set, view_setReal, foldl_view, logLimited_view, injectionStep_view, captureSample_view, h_, q_, implies_true, ite_self, not_false_eq_true, if_false]; done) | rfl))

theorem issueSlot_view {o_ : Obj} (q_ : o_.quiet = true) (h_ : ¬ o_.id ∈ Footprint.issueSlot) (kids mism again late : List Nat) (i : Nat) (s : State) :
    (issueSlot kids mism again late i s).view o_ = s.view o_ := by
  simp only [Footprint.issueSlot, List.mem_append, List.mem_cons, List.not_mem_nil, or_false, false_or, not_or] at h_
  unfold issueSlot
  first
  | (simp only [view_ite, view_set, view_inc, logLimited_view, evaluateSlot_view, h_, q_, implies_true, ite_self, not_false_eq_true, if_false]; done)
  | ((try simp only [view_ite, view_set, view_inc, logLimited_view, evaluateSlot_view, h_, q_, implies_true, ite_self, not_false_eq_true, if_false]) <;> (repeat' split) <;> (first | (simp only [view_ite, view_set, view_inc, logLimited_view, evaluateSlot_view, h_, q_, implies_true, ite_self, not_false_eq_true, if_false]; done) | rfl))

theorem judgeMismatches_part {o_ : Obj} (q_ : o_.quiet = true) (h_ : ¬ o_.id ∈ Footprint.judgeMismatches) (due mism again : List Nat) (s : State) :
    (judgeMismatches due mism again s).part o_ = s.part o_ := by
  simp only [Footprint.judgeMismatches, List.mem_append, List.mem_cons, List.not_mem_nil, or_false, false_or, not_or] at h_
  unfold judgeMismatches
  first
  | (simp only [part_ite, part_set, part_inc, forL_part, logLimited_part, endEpisode_part, stopBlock_part, h_, q_, implies_true, ite_self, not_false_eq_true, if_false]; done)
  | ((try simp only [part_ite, part_set, part_inc, forL_part, logLimited_part, endEpisode_part, stopBlock_part, h_, q_, implies_true, ite_self, not_false_eq_true, if_false]) <;> (repeat' split) <;> (first | (simp only [part_ite, part_set, part_inc, forL_part, logLimited_part, endEpisode_part, stopBlock_part, h_, q_, implies_true, ite_self, not_false_eq_true, if_false]; done) | rfl))
theorem judgeMismatches_view {o_ : Obj} (q_ : o_.quiet = true) (h_ : ¬ o_.id ∈ Footprint.judgeMismatches) (due mism again : List Nat) (s : State)  :
    (judgeMismatches due mism again s).view o_ = s.view o_ :=
  view_of_part (judgeMismatches_part q_ h_ due mism again s)

theorem judgeShorts_part {o_ : Obj} (q_ : o_.quiet = true) (h_ : ¬ o_.id ∈ Footprint.judgeShorts) (b : Nat) (s : State) :
    (judgeShorts b s).part o_ = s.part o_ := by
  simp only [Footprint.judgeShorts, List.mem_append, List.mem_cons, List.not_mem_nil, or_false, false_or, not_or] at h_
  unfold judgeShorts
  first
  | (simp only [part_ite, forL_part, logEvent_part, lockPhase_part, h_, q_, implies_true, ite_self, not_false_eq_true, if_false]; done)
  | ((try simp only [part_ite, forL_part, logEvent_part, lockPhase_part, h_, q_, implies_true, ite_self, not_false_eq_true, if_false]) <;> (repeat' split) <;> (first | (simp only [part_ite, forL_part, logEvent_part, lockPhase_part, h_, q_, implies_true, ite_self, not_false_eq_true, if_false]; done) | rfl))
theorem rampOn_part {o_ : Obj} (q_ : o_.quiet = true) (h_ : ¬ o_.id ∈ Footprint.rampOn) (b : Nat) (s : State) :
    (rampOn b s).part o_ = s.part o_ := by
  simp only [Footprint.rampOn, List.mem_append, List.mem_cons, List.not_mem_nil, or_false, false_or, not_or] at h_
  unfold rampOn
  first
  | (simp only [part_ite, part_setReal, forL_part, movePhases_part, setBlock_part, presetSlot_part, h_, q_, implies_true, ite_self, not_false_eq_true, if_false]; done)
  | ((try simp only [part_ite, part_setReal, forL_part, movePhases_part, setBlock_part, presetSlot_part, h_, q_, implies_true, ite_self, not_false_eq_true, if_false]) <;> (repeat' split) <;> (first | (simp only [part_ite, part_setReal, forL_part, movePhases_part, setBlock_part, presetSlot_part, h_, q_, implies_true, ite_self, not_false_eq_true, if_false]; done) | rfl))
theorem joinRuns_part {o_ : Obj} (q_ : o_.quiet = true) (h_ : ¬ o_.id ∈ Footprint.joinRuns) (b : Nat) (s : State) :
    (joinRuns b s).part o_ = s.part o_ := by
  simp only [Footprint.joinRuns, List.mem_append, List.mem_cons, List.not_mem_nil, or_false, false_or, not_or] at h_
  unfold joinRuns
  first
  | (simp only [part_ite, part_set, h_, q_, implies_true, ite_self, not_false_eq_true, if_false]; done)
  | ((try simp only [part_ite, part_set, h_, q_, implies_true, ite_self, not_false_eq_true, if_false]) <;> (repeat' split) <;> (first | (simp only [part_ite, part_set, h_, q_, implies_true, ite_self, not_false_eq_true, if_false]; done) | rfl))
theorem endShedding_part {o_ : Obj} (q_ : o_.quiet = true) (h_ : ¬ o_.id ∈ Footprint.endShedding) (b : Nat) (cause : Int) (s : State) :
    (endShedding b cause s).part o_ = s.part o_ := by
  simp only [Footprint.endShedding, List.mem_append, List.mem_cons, List.not_mem_nil, or_false, false_or, not_or] at h_
  unfold endShedding
  first
  | (simp only [part_ite, part_set, forL_part, logEvent_part, setPhase_part, presetSlot_part, h_, q_, implies_true, ite_self, not_false_eq_true, if_false]; done)
  | ((try simp only [part_ite, part_set, forL_part, logEvent_part, setPhase_part, presetSlot_part, h_, q_, implies_true, ite_self, not_false_eq_true, if_false]) <;> (repeat' split) <;> (first | (simp only [part_ite, part_set, forL_part, logEvent_part, setPhase_part, presetSlot_part, h_, q_, implies_true, ite_self, not_false_eq_true, if_false]; done) | rfl))
theorem judgeShedding_part {o_ : Obj} (q_ : o_.quiet = true) (h_ : ¬ o_.id ∈ Footprint.judgeShedding) (b : Nat) (s : State) :
    (judgeShedding b s).part o_ = s.part o_ := by
  simp only [Footprint.judgeShedding, List.mem_append, List.mem_cons, List.not_mem_nil, or_false, false_or, not_or] at h_
  unfold judgeShedding
  first
  | (simp only [part_ite, part_setReal, endShedding_part, h_, q_, implies_true, ite_self, not_false_eq_true, if_false]; done)
  | ((try simp only [part_ite, part_setReal, endShedding_part, h_, q_, implies_true, ite_self, not_false_eq_true, if_false]) <;> (repeat' split) <;> (first | (simp only [part_ite, part_setReal, endShedding_part, h_, q_, implies_true, ite_self, not_false_eq_true, if_false]; done) | rfl))
theorem judgeShedding_view {o_ : Obj} (q_ : o_.quiet = true) (h_ : ¬ o_.id ∈ Footprint.judgeShedding) (b : Nat) (s : State)  :
    (judgeShedding b s).view o_ = s.view o_ :=
  view_of_part (judgeShedding_part q_ h_ b s)

theorem pilotFault_part {o_ : Obj} (q_ : o_.quiet = true) (h_ : ¬ o_.id ∈ Footprint.pilotFault) (n : Nat) (s : State) :
    (pilotFault n s).part o_ = s.part o_ := by
  simp only [Footprint.pilotFault, List.mem_append, List.mem_cons, List.not_mem_nil, or_false, false_or, not_or] at h_
  unfold pilotFault
  first
  | (simp only [part_ite, logEvent_part, outletFault_part, h_, q_, implies_true, ite_self, not_false_eq_true, if_false]; done)
  | ((try simp only [part_ite, logEvent_part, outletFault_part, h_, q_, implies_true, ite_self, not_false_eq_true, if_false]) <;> (repeat' split) <;> (first | (simp only [part_ite, logEvent_part, outletFault_part, h_, q_, implies_true, ite_self, not_false_eq_true, if_false]; done) | rfl))
theorem pilotTo_part {o_ : Obj} (q_ : o_.quiet = true) (h_ : ¬ o_.id ∈ Footprint.pilotTo) (n : Nat) (p : Int) (s : State) :
    (pilotTo n p s).part o_ = s.part o_ := by
  simp only [Footprint.pilotTo, List.mem_append, List.mem_cons, List.not_mem_nil, or_false, false_or, not_or] at h_
  unfold pilotTo
  first
  | (simp only [part_ite, part_set, tryIdle_part, outletFault_part, pilotFault_part, normalStop_part, tryConnect_part, h_, q_, implies_true, ite_self, not_false_eq_true, if_false]; done)
  | ((try simp only [part_ite, part_set, tryIdle_part, outletFault_part, pilotFault_part, normalStop_part, tryConnect_part, h_, q_, implies_true, ite_self, not_false_eq_true, if_false]) <;> (repeat' split) <;> (first | (simp only [part_ite, part_set, tryIdle_part, outletFault_part, pilotFault_part, normalStop_part, tryConnect_part, h_, q_, implies_true, ite_self, not_false_eq_true, if_false]; done) | rfl))
theorem takePilot_part {o_ : Obj} (q_ : o_.quiet = true) (h_ : ¬ o_.id ∈ Footprint.takePilot) (n : Nat) (l : List (Int × Int)) (s : State) :
    (takePilot n l s).part o_ = s.part o_ := by
  simp only [Footprint.takePilot, List.mem_append, List.mem_cons, List.not_mem_nil, or_false, false_or, not_or] at h_
  unfold takePilot
  first
  | (simp only [part_ite, part_set, pilotFault_part, pilotTo_part, h_, q_, implies_true, ite_self, not_false_eq_true, if_false]; done)
  | ((try simp only [part_ite, part_set, pilotFault_part, pilotTo_part, h_, q_, implies_true, ite_self, not_false_eq_true, if_false]) <;> (repeat' split) <;> (first | (simp only [part_ite, part_set, pilotFault_part, pilotTo_part, h_, q_, implies_true, ite_self, not_false_eq_true, if_false]; done) | rfl))
theorem takeProximity_part {o_ : Obj} (q_ : o_.quiet = true) (h_ : ¬ o_.id ∈ Footprint.takeProximity) (n : Nat) (l : List Nat) (s : State) :
    (takeProximity n l s).part o_ = s.part o_ := by
  simp only [Footprint.takeProximity, List.mem_append, List.mem_cons, List.not_mem_nil, or_false, false_or, not_or] at h_
  unfold takeProximity
  first
  | (simp only [part_ite, part_set, tryIdle_part, outletFault_part, tryConnect_part, h_, q_, implies_true, ite_self, not_false_eq_true, if_false]; done)
  | ((try simp only [part_ite, part_set, tryIdle_part, outletFault_part, tryConnect_part, h_, q_, implies_true, ite_self, not_false_eq_true, if_false]) <;> (repeat' split) <;> (first | (simp only [part_ite, part_set, tryIdle_part, outletFault_part, tryConnect_part, h_, q_, implies_true, ite_self, not_false_eq_true, if_false]; done) | rfl))
theorem takeHvil_part {o_ : Obj} (q_ : o_.quiet = true) (h_ : ¬ o_.id ∈ Footprint.takeHvil) (n : Nat) (l : List Nat) (s : State) :
    (takeHvil n l s).part o_ = s.part o_ := by
  simp only [Footprint.takeHvil, List.mem_append, List.mem_cons, List.not_mem_nil, or_false, false_or, not_or] at h_
  unfold takeHvil
  first
  | (simp only [part_ite, part_set, outletFault_part, h_, q_, implies_true, ite_self, not_false_eq_true, if_false]; done)
  | ((try simp only [part_ite, part_set, outletFault_part, h_, q_, implies_true, ite_self, not_false_eq_true, if_false]) <;> (repeat' split) <;> (first | (simp only [part_ite, part_set, outletFault_part, h_, q_, implies_true, ite_self, not_false_eq_true, if_false]; done) | rfl))
theorem feedbackFault_part {o_ : Obj} (q_ : o_.quiet = true) (h_ : ¬ o_.id ∈ Footprint.feedbackFault) (n : Nat) (fb : Nat) (s : State) :
    (feedbackFault n fb s).part o_ = s.part o_ := by
  simp only [Footprint.feedbackFault, List.mem_append, List.mem_cons, List.not_mem_nil, or_false, false_or, not_or] at h_
  unfold feedbackFault
  first
  | (simp only [part_ite, part_set, part_setBit, forL_part, logEvent_part, refreshAvail_part, outletFault_part, h_, q_, implies_true, ite_self, not_false_eq_true, if_false]; done)
  | ((try simp only [part_ite, part_set, part_setBit, forL_part, logEvent_part, refreshAvail_part, outletFault_part, h_, q_, implies_true, ite_self, not_false_eq_true, if_false]) <;> (repeat' split) <;> (first | (simp only [part_ite, part_set, part_setBit, forL_part, logEvent_part, refreshAvail_part, outletFault_part, h_, q_, implies_true, ite_self, not_false_eq_true, if_false]; done) | rfl))
theorem feedbackAgrees_part {o_ : Obj} (q_ : o_.quiet = true) (h_ : ¬ o_.id ∈ Footprint.feedbackAgrees) (n : Nat) (s : State) :
    (feedbackAgrees n s).part o_ = s.part o_ := by
  simp only [Footprint.feedbackAgrees, List.mem_append, List.mem_cons, List.not_mem_nil, or_false, false_or, not_or] at h_
  unfold feedbackAgrees
  first
  | (simp only [part_ite, part_set, refreshAvail_part, h_, q_, implies_true, ite_self, not_false_eq_true, if_false]; done)
  | ((try simp only [part_ite, part_set, refreshAvail_part, h_, q_, implies_true, ite_self, not_false_eq_true, if_false]) <;> (repeat' split) <;> (first | (simp only [part_ite, part_set, refreshAvail_part, h_, q_, implies_true, ite_self, not_false_eq_true, if_false]; done) | rfl))
theorem arbitrate_part {o_ : Obj} (q_ : o_.quiet = true) (h_ : ¬ o_.id ∈ Footprint.arbitrate) (runId : Nat) (heard : List (Nat × Nat)) (s : State) :
    (arbitrate runId heard s).part o_ = s.part o_ := by
  simp only [Footprint.arbitrate, List.mem_append, List.mem_cons, List.not_mem_nil, or_false, false_or, not_or] at h_
  unfold arbitrate
  first
  | (simp only [part_ite, part_set, foldl_part, logEvent_part, respond_part, h_, q_, implies_true, ite_self, not_false_eq_true, if_false]; done)
  | ((try simp only [part_ite, part_set, foldl_part, logEvent_part, respond_part, h_, q_, implies_true, ite_self, not_false_eq_true, if_false]) <;> (repeat' split) <;> (first | (simp only [part_ite, part_set, foldl_part, logEvent_part, respond_part, h_, q_, implies_true, ite_self, not_false_eq_true, if_false]; done) | rfl))
theorem authoriseOutlet_part {o_ : Obj} (q_ : o_.quiet = true) (h_ : ¬ o_.id ∈ Footprint.authoriseOutlet) (n c : Nat) (s : State) :
    (authoriseOutlet n c s).part o_ = s.part o_ := by
  simp only [Footprint.authoriseOutlet, List.mem_append, List.mem_cons, List.not_mem_nil, or_false, false_or, not_or] at h_
  unfold authoriseOutlet
  first
  | (simp only [part_ite, part_set, submit_part, setOutlet_part, h_, q_, implies_true, ite_self, not_false_eq_true, if_false]; done)
  | ((try simp only [part_ite, part_set, submit_part, setOutlet_part, h_, q_, implies_true, ite_self, not_false_eq_true, if_false]) <;> (repeat' split) <;> (first | (simp only [part_ite, part_set, submit_part, setOutlet_part, h_, q_, implies_true, ite_self, not_false_eq_true, if_false]; done) | rfl))
theorem refuseSession_part {o_ : Obj} (q_ : o_.quiet = true) (h_ : ¬ o_.id ∈ Footprint.refuseSession) (n : Nat) (cause : Int) (s : State) :
    (refuseSession n cause s).part o_ = s.part o_ := by
  simp only [Footprint.refuseSession, List.mem_append, List.mem_cons, List.not_mem_nil, or_false, false_or, not_or] at h_
  unfold refuseSession
  first
  | (simp only [part_ite, logEvent_part, closeEarly_part, respond_part, h_, q_, implies_true, ite_self, not_false_eq_true, if_false]; done)
  | ((try simp only [part_ite, logEvent_part, closeEarly_part, respond_part, h_, q_, implies_true, ite_self, not_false_eq_true, if_false]) <;> (repeat' split) <;> (first | (simp only [part_ite, logEvent_part, closeEarly_part, respond_part, h_, q_, implies_true, ite_self, not_false_eq_true, if_false]; done) | rfl))
theorem bindContext_part {o_ : Obj} (q_ : o_.quiet = true) (h_ : ¬ o_.id ∈ Footprint.bindContext) (n c : Nat) (contract : Bool) (evccid emaid : List Byte) (s : State) :
    (bindContext n c contract evccid emaid s).part o_ = s.part o_ := by
  simp only [Footprint.bindContext, List.mem_append, List.mem_cons, List.not_mem_nil, or_false, false_or, not_or] at h_
  unfold bindContext
  first
  | (simp only [part_ite, part_set, part_setBytes, logEvent_part, takeSerial_part, setContext_part, authoriseOutlet_part, h_, q_, implies_true, ite_self, not_false_eq_true, if_false]; done)
  | ((try simp only [part_ite, part_set, part_setBytes, logEvent_part, takeSerial_part, setContext_part, authoriseOutlet_part, h_, q_, implies_true, ite_self, not_false_eq_true, if_false]) <;> (repeat' split) <;> (first | (simp only [part_ite, part_set, part_setBytes, logEvent_part, takeSerial_part, setContext_part, authoriseOutlet_part, h_, q_, implies_true, ite_self, not_false_eq_true, if_false]; done) | rfl))
theorem identified_part {o_ : Obj} (q_ : o_.quiet = true) (h_ : ¬ o_.id ∈ Footprint.identified) (n : Nat) (contract good : Bool) (evccid emaid : List Byte) (s : State) :
    (identified n contract good evccid emaid s).part o_ = s.part o_ := by
  simp only [Footprint.identified, List.mem_append, List.mem_cons, List.not_mem_nil, or_false, false_or, not_or] at h_
  unfold identified
  first
  | (simp only [part_ite, part_set, part_setB, part_setBytes, respond_part, refuseSession_part, bindContext_part, h_, q_, implies_true, ite_self, not_false_eq_true, if_false]; done)
  | ((try simp only [part_ite, part_set, part_setB, part_setBytes, respond_part, refuseSession_part, bindContext_part, h_, q_, implies_true, ite_self, not_false_eq_true, if_false]) <;> (repeat' split) <;> (first | (simp only [part_ite, part_set, part_setB, part_setBytes, respond_part, refuseSession_part, bindContext_part, h_, q_, implies_true, ite_self, not_false_eq_true, if_false]; done) | rfl))
theorem contextWritten_part {o_ : Obj} (q_ : o_.quiet = true) (h_ : ¬ o_.id ∈ Footprint.contextWritten) (c : Nat) (s : State) :
    (contextWritten c s).part o_ = s.part o_ := by
  simp only [Footprint.contextWritten, List.mem_append, List.mem_cons, List.not_mem_nil, or_false, false_or, not_or] at h_
  unfold contextWritten
  first
  | (simp only [part_ite, part_setBit, submit_part, h_, q_, implies_true, ite_self, not_false_eq_true, if_false]; done)
  | ((try simp only [part_ite, part_setBit, submit_part, h_, q_, implies_true, ite_self, not_false_eq_true, if_false]) <;> (repeat' split) <;> (first | (simp only [part_ite, part_setBit, submit_part, h_, q_, implies_true, ite_self, not_false_eq_true, if_false]; done) | rfl))
theorem imdSend_part {o_ : Obj} (q_ : o_.quiet = true) (h_ : ¬ o_.id ∈ Footprint.imdSend) (n : Nat) (cmd volts : Int) (s : State) :
    (imdSend n cmd volts s).part o_ = s.part o_ := by
  simp only [Footprint.imdSend, List.mem_append, List.mem_cons, List.not_mem_nil, or_false, false_or, not_or] at h_
  unfold imdSend
  first
  | (simp only [part_ite, part_set, part_emit, h_, q_, implies_true, ite_self, not_false_eq_true, if_false]; done)
  | ((try simp only [part_ite, part_set, part_emit, h_, q_, implies_true, ite_self, not_false_eq_true, if_false]) <;> (repeat' split) <;> (first | (simp only [part_ite, part_set, part_emit, h_, q_, implies_true, ite_self, not_false_eq_true, if_false]; done) | rfl))
theorem tryCloseContactors_part {o_ : Obj} (q_ : o_.quiet = true) (h_ : ¬ o_.id ∈ Footprint.tryCloseContactors) (n : Nat) (s : State) :
    (tryCloseContactors n s).part o_ = s.part o_ := by
  simp only [Footprint.tryCloseContactors, List.mem_append, List.mem_cons, List.not_mem_nil, or_false, false_or, not_or] at h_
  unfold tryCloseContactors
  first
  | (simp only [part_ite, commandContactors_part, h_, q_, implies_true, ite_self, not_false_eq_true, if_false]; done)
  | ((try simp only [part_ite, commandContactors_part, h_, q_, implies_true, ite_self, not_false_eq_true, if_false]) <;> (repeat' split) <;> (first | (simp only [part_ite, commandContactors_part, h_, q_, implies_true, ite_self, not_false_eq_true, if_false]; done) | rfl))
theorem cableCheckFails_part {o_ : Obj} (q_ : o_.quiet = true) (h_ : ¬ o_.id ∈ Footprint.cableCheckFails) (n : Nat) (cause : Int) (s : State) :
    (cableCheckFails n cause s).part o_ = s.part o_ := by
  simp only [Footprint.cableCheckFails, List.mem_append, List.mem_cons, List.not_mem_nil, or_false, false_or, not_or] at h_
  unfold cableCheckFails
  first
  | (simp only [part_ite, part_set, part_setB, closeEarly_part, recordCause_part, toWeldCheck_part, h_, q_, implies_true, ite_self, not_false_eq_true, if_false]; done)
  | ((try simp only [part_ite, part_set, part_setB, closeEarly_part, recordCause_part, toWeldCheck_part, h_, q_, implies_true, ite_self, not_false_eq_true, if_false]) <;> (repeat' split) <;> (first | (simp only [part_ite, part_set, part_setB, closeEarly_part, recordCause_part, toWeldCheck_part, h_, q_, implies_true, ite_self, not_false_eq_true, if_false]; done) | rfl))
theorem judgeInsulation_part {o_ : Obj} (q_ : o_.quiet = true) (h_ : ¬ o_.id ∈ Footprint.judgeInsulation) (n : Nat) (s : State) :
    (judgeInsulation n s).part o_ = s.part o_ := by
  simp only [Footprint.judgeInsulation, List.mem_append, List.mem_cons, List.not_mem_nil, or_false, false_or, not_or] at h_
  unfold judgeInsulation
  first
  | (simp only [part_ite, part_set, logEvent_part, cableCheckFails_part, setOutlet_part, respond_part, emergencyStop_part, h_, q_, implies_true, ite_self, not_false_eq_true, if_false]; done)
  | ((try simp only [part_ite, part_set, logEvent_part, cableCheckFails_part, setOutlet_part, respond_part, emergencyStop_part, h_, q_, implies_true, ite_self, not_false_eq_true, if_false]) <;> (repeat' split) <;> (first | (simp only [part_ite, part_set, logEvent_part, cableCheckFails_part, setOutlet_part, respond_part, emergencyStop_part, h_, q_, implies_true, ite_self, not_false_eq_true, if_false]; done) | rfl))
theorem imdSilence_part {o_ : Obj} (q_ : o_.quiet = true) (h_ : ¬ o_.id ∈ Footprint.imdSilence) (n : Nat) (s : State) :
    (imdSilence n s).part o_ = s.part o_ := by
  simp only [Footprint.imdSilence, List.mem_append, List.mem_cons, List.not_mem_nil, or_false, false_or, not_or] at h_
  unfold imdSilence
  first
  | (simp only [part_ite, part_set, logEvent_part, cableCheckFails_part, outletFault_part, h_, q_, implies_true, ite_self, not_false_eq_true, if_false]; done)
  | ((try simp only [part_ite, part_set, logEvent_part, cableCheckFails_part, outletFault_part, h_, q_, implies_true, ite_self, not_false_eq_true, if_false]) <;> (repeat' split) <;> (first | (simp only [part_ite, part_set, logEvent_part, cableCheckFails_part, outletFault_part, h_, q_, implies_true, ite_self, not_false_eq_true, if_false]; done) | rfl))
theorem takeImd_part {o_ : Obj} (q_ : o_.quiet = true) (h_ : ¬ o_.id ∈ Footprint.takeImd) (n : Nat) (f : List Byte) (s : State) :
    (takeImd n f s).part o_ = s.part o_ := by
  simp only [Footprint.takeImd, List.mem_append, List.mem_cons, List.not_mem_nil, or_false, false_or, not_or] at h_
  unfold takeImd
  first
  | (simp only [part_ite, part_set, imdSilence_part, tryCloseContactors_part, judgeInsulation_part, h_, q_, implies_true, ite_self, not_false_eq_true, if_false]; done)
  | ((try simp only [part_ite, part_set, imdSilence_part, tryCloseContactors_part, judgeInsulation_part, h_, q_, implies_true, ite_self, not_false_eq_true, if_false]) <;> (repeat' split) <;> (first | (simp only [part_ite, part_set, imdSilence_part, tryCloseContactors_part, judgeInsulation_part, h_, q_, implies_true, ite_self, not_false_eq_true, if_false]; done) | rfl))
theorem demandResponse_part {o_ : Obj} (q_ : o_.quiet = true)  (n : Nat) (s : State) :
    (demandResponse n s).part o_ = s.part o_ := by
  unfold demandResponse
  first
  | (simp only [part_ite, respond_part, q_, implies_true, ite_self, not_false_eq_true, if_false]; done)
  | ((try simp only [part_ite, respond_part, q_, implies_true, ite_self, not_false_eq_true, if_false]) <;> (repeat' split) <;> (first | (simp only [part_ite, respond_part, q_, implies_true, ite_self, not_false_eq_true, if_false]; done) | rfl))
theorem currentDemand_part {o_ : Obj} (q_ : o_.quiet = true) (h_ : ¬ o_.id ∈ Footprint.currentDemand) (n : Nat) (tv ti mv mi soc err : Nat) (marked : Bool) (s : State) :
    (currentDemand n tv ti mv mi soc err marked s).part o_ = s.part o_ := by
  simp only [Footprint.currentDemand, List.mem_append, List.mem_cons, List.not_mem_nil, or_false, false_or, not_or] at h_
  unfold currentDemand
  first
  | (simp only [part_ite, part_set, respond_part, demandResponse_part, outletFault_part, h_, q_, implies_true, ite_self, not_false_eq_true, if_false]; done)
  | ((try simp only [part_ite, part_set, respond_part, demandResponse_part, outletFault_part, h_, q_, implies_true, ite_self, not_false_eq_true, if_false]) <;> (repeat' split) <;> (first | (simp only [part_ite, part_set, respond_part, demandResponse_part, outletFault_part, h_, q_, implies_true, ite_self, not_false_eq_true, if_false]; done) | rfl))
theorem vehicleStop_part {o_ : Obj} (q_ : o_.quiet = true) (h_ : ¬ o_.id ∈ Footprint.vehicleStop) (n : Nat) (s : State) :
    (vehicleStop n s).part o_ = s.part o_ := by
  simp only [Footprint.vehicleStop, List.mem_append, List.mem_cons, List.not_mem_nil, or_false, false_or, not_or] at h_
  unfold vehicleStop
  first
  | (simp only [part_ite, part_set, toWeldCheck_part, normalStop_part, h_, q_, implies_true, ite_self, not_false_eq_true, if_false]; done)
  | ((try simp only [part_ite, part_set, toWeldCheck_part, normalStop_part, h_, q_, implies_true, ite_self, not_false_eq_true, if_false]) <;> (repeat' split) <;> (first | (simp only [part_ite, part_set, toWeldCheck_part, normalStop_part, h_, q_, implies_true, ite_self, not_false_eq_true, if_false]; done) | rfl))
theorem currentGone_part {o_ : Obj} (q_ : o_.quiet = true) (h_ : ¬ o_.id ∈ Footprint.currentGone) (n : Nat) (s : State) :
    (currentGone n s).part o_ = s.part o_ := by
  simp only [Footprint.currentGone, List.mem_append, List.mem_cons, List.not_mem_nil, or_false, false_or, not_or] at h_
  unfold currentGone
  first
  | (simp only [part_ite, part_set, toWeldCheck_part, h_, q_, implies_true, ite_self, not_false_eq_true, if_false]; done)
  | ((try simp only [part_ite, part_set, toWeldCheck_part, h_, q_, implies_true, ite_self, not_false_eq_true, if_false]) <;> (repeat' split) <;> (first | (simp only [part_ite, part_set, toWeldCheck_part, h_, q_, implies_true, ite_self, not_false_eq_true, if_false]; done) | rfl))
theorem stopOverdue_part {o_ : Obj} (q_ : o_.quiet = true) (h_ : ¬ o_.id ∈ Footprint.stopOverdue) (n : Nat) (s : State) :
    (stopOverdue n s).part o_ = s.part o_ := by
  simp only [Footprint.stopOverdue, List.mem_append, List.mem_cons, List.not_mem_nil, or_false, false_or, not_or] at h_
  unfold stopOverdue
  first
  | (simp only [part_ite, toWeldCheck_part, h_, q_, implies_true, ite_self, not_false_eq_true, if_false]; done)
  | ((try simp only [part_ite, toWeldCheck_part, h_, q_, implies_true, ite_self, not_false_eq_true, if_false]) <;> (repeat' split) <;> (first | (simp only [part_ite, toWeldCheck_part, h_, q_, implies_true, ite_self, not_false_eq_true, if_false]; done) | rfl))
theorem beginWeldHalf_part {o_ : Obj} (q_ : o_.quiet = true) (h_ : ¬ o_.id ∈ Footprint.beginWeldHalf) (n : Nat) (half : Int) (s : State) :
    (beginWeldHalf n half s).part o_ = s.part o_ := by
  simp only [Footprint.beginWeldHalf, List.mem_append, List.mem_cons, List.not_mem_nil, or_false, false_or, not_or] at h_
  unfold beginWeldHalf
  first
  | (simp only [part_ite, part_set, setRamp_part, commandContactors_part, h_, q_, implies_true, ite_self, not_false_eq_true, if_false]; done)
  | ((try simp only [part_ite, part_set, setRamp_part, commandContactors_part, h_, q_, implies_true, ite_self, not_false_eq_true, if_false]) <;> (repeat' split) <;> (first | (simp only [part_ite, part_set, setRamp_part, commandContactors_part, h_, q_, implies_true, ite_self, not_false_eq_true, if_false]; done) | rfl))
theorem tryWeldTest_part {o_ : Obj} (q_ : o_.quiet = true) (h_ : ¬ o_.id ∈ Footprint.tryWeldTest) (n : Nat) (s : State) :
    (tryWeldTest n s).part o_ = s.part o_ := by
  simp only [Footprint.tryWeldTest, List.mem_append, List.mem_cons, List.not_mem_nil, or_false, false_or, not_or] at h_
  unfold tryWeldTest
  first
  | (simp only [part_ite, part_set, beginWeldHalf_part, h_, q_, implies_true, ite_self, not_false_eq_true, if_false]; done)
  | ((try simp only [part_ite, part_set, beginWeldHalf_part, h_, q_, implies_true, ite_self, not_false_eq_true, if_false]) <;> (repeat' split) <;> (first | (simp only [part_ite, part_set, beginWeldHalf_part, h_, q_, implies_true, ite_self, not_false_eq_true, if_false]; done) | rfl))
theorem weldTick_part {o_ : Obj} (q_ : o_.quiet = true) (h_ : ¬ o_.id ∈ Footprint.weldTick) (n : Nat) (s : State) :
    (weldTick n s).part o_ = s.part o_ := by
  simp only [Footprint.weldTick, List.mem_append, List.mem_cons, List.not_mem_nil, or_false, false_or, not_or] at h_
  unfold weldTick
  first
  | (simp only [part_ite, part_set, tryWeldTest_part, releaseBlocks_part, toClosing_part, weldLeft_part, h_, q_, implies_true, ite_self, not_false_eq_true, if_false]; done)
  | ((try simp only [part_ite, part_set, tryWeldTest_part, releaseBlocks_part, toClosing_part, weldLeft_part, h_, q_, implies_true, ite_self, not_false_eq_true, if_false]) <;> (repeat' split) <;> (first | (simp only [part_ite, part_set, tryWeldTest_part, releaseBlocks_part, toClosing_part, weldLeft_part, h_, q_, implies_true, ite_self, not_false_eq_true, if_false]; done) | rfl))
theorem weldAgain_part {o_ : Obj} (q_ : o_.quiet = true) (h_ : ¬ o_.id ∈ Footprint.weldAgain) (n : Nat) (s : State) :
    (weldAgain n s).part o_ = s.part o_ := by
  simp only [Footprint.weldAgain, List.mem_append, List.mem_cons, List.not_mem_nil, or_false, false_or, not_or] at h_
  unfold weldAgain
  first
  | (simp only [part_ite, part_set, h_, q_, implies_true, ite_self, not_false_eq_true, if_false]; done)
  | ((try simp only [part_ite, part_set, h_, q_, implies_true, ite_self, not_false_eq_true, if_false]) <;> (repeat' split) <;> (first | (simp only [part_ite, part_set, h_, q_, implies_true, ite_self, not_false_eq_true, if_false]; done) | rfl))
theorem endWeldTest_part {o_ : Obj} (q_ : o_.quiet = true) (h_ : ¬ o_.id ∈ Footprint.endWeldTest) (n : Nat) (s : State) :
    (endWeldTest n s).part o_ = s.part o_ := by
  simp only [Footprint.endWeldTest, List.mem_append, List.mem_cons, List.not_mem_nil, or_false, false_or, not_or] at h_
  unfold endWeldTest
  first
  | (simp only [part_ite, part_set, forL_part, logEvent_part, setRamp_part, commandContactors_part, refreshAvail_part, releaseBlocks_part, toClosing_part, h_, q_, implies_true, ite_self, not_false_eq_true, if_false]; done)
  | ((try simp only [part_ite, part_set, forL_part, logEvent_part, setRamp_part, commandContactors_part, refreshAvail_part, releaseBlocks_part, toClosing_part, h_, q_, implies_true, ite_self, not_false_eq_true, if_false]) <;> (repeat' split) <;> (first | (simp only [part_ite, part_set, forL_part, logEvent_part, setRamp_part, commandContactors_part, refreshAvail_part, releaseBlocks_part, toClosing_part, h_, q_, implies_true, ite_self, not_false_eq_true, if_false]; done) | rfl))
theorem vehicleRequest_part {o_ : Obj} (q_ : o_.quiet = true) (h_ : ¬ o_.id ∈ Footprint.vehicleRequest) (n kind mv mi tv soc : Nat) (s : State) :
    (vehicleRequest n kind mv mi tv soc s).part o_ = s.part o_ := by
  simp only [Footprint.vehicleRequest, List.mem_append, List.mem_cons, List.not_mem_nil, or_false, false_or, not_or] at h_
  unfold vehicleRequest
  first
  | (simp only [part_ite, part_set, respond_part, vehicleStop_part, normalStop_part, h_, q_, implies_true, ite_self, not_false_eq_true, if_false]; done)
  | ((try simp only [part_ite, part_set, respond_part, vehicleStop_part, normalStop_part, h_, q_, implies_true, ite_self, not_false_eq_true, if_false]) <;> (repeat' split) <;> (first | (simp only [part_ite, part_set, respond_part, vehicleStop_part, normalStop_part, h_, q_, implies_true, ite_self, not_false_eq_true, if_false]; done) | rfl))
theorem settleTelemetry_part {o_ : Obj} (q_ : o_.quiet = true) (h_ : ¬ o_.id ∈ Footprint.settleTelemetry) (c : Nat) (s : State) :
    (settleTelemetry c s).part o_ = s.part o_ := by
  simp only [Footprint.settleTelemetry, List.mem_append, List.mem_cons, List.not_mem_nil, or_false, false_or, not_or] at h_
  unfold settleTelemetry
  first
  | (simp only [part_ite, part_set, part_inc, h_, q_, implies_true, ite_self, not_false_eq_true, if_false]; done)
  | ((try simp only [part_ite, part_set, part_inc, h_, q_, implies_true, ite_self, not_false_eq_true, if_false]) <;> (repeat' split) <;> (first | (simp only [part_ite, part_set, part_inc, h_, q_, implies_true, ite_self, not_false_eq_true, if_false]; done) | rfl))
theorem settleLane_part {o_ : Obj} (q_ : o_.quiet = true) (h_ : ¬ o_.id ∈ Footprint.settleLane) (c l : Nat) (s : State) :
    (settleLane c l s).part o_ = s.part o_ := by
  simp only [Footprint.settleLane, List.mem_append, List.mem_cons, List.not_mem_nil, or_false, false_or, not_or] at h_
  unfold settleLane
  first
  | (simp only [part_ite, part_set, laneOut_part, laneBack_part, h_, q_, implies_true, ite_self, not_false_eq_true, if_false]; done)
  | ((try simp only [part_ite, part_set, laneOut_part, laneBack_part, h_, q_, implies_true, ite_self, not_false_eq_true, if_false]) <;> (repeat' split) <;> (first | (simp only [part_ite, part_set, laneOut_part, laneBack_part, h_, q_, implies_true, ite_self, not_false_eq_true, if_false]; done) | rfl))
theorem judgeLatch_part {o_ : Obj} (q_ : o_.quiet = true) (h_ : ¬ o_.id ∈ Footprint.judgeLatch) (n : Nat) (s : State) :
    (judgeLatch n s).part o_ = s.part o_ := by
  simp only [Footprint.judgeLatch, List.mem_append, List.mem_cons, List.not_mem_nil, or_false, false_or, not_or] at h_
  unfold judgeLatch
  first
  | (simp only [part_ite, refreshAvail_part, outletFault_part, setLatch_part, h_, q_, implies_true, ite_self, not_false_eq_true, if_false]; done)
  | ((try simp only [part_ite, refreshAvail_part, outletFault_part, setLatch_part, h_, q_, implies_true, ite_self, not_false_eq_true, if_false]) <;> (repeat' split) <;> (first | (simp only [part_ite, refreshAvail_part, outletFault_part, setLatch_part, h_, q_, implies_true, ite_self, not_false_eq_true, if_false]; done) | rfl))
theorem countFault_part {o_ : Obj} (q_ : o_.quiet = true) (h_ : ¬ o_.id ∈ Footprint.countFault) (p : Nat) (s : State) :
    (countFault p s).part o_ = s.part o_ := by
  simp only [Footprint.countFault, List.mem_append, List.mem_cons, List.not_mem_nil, or_false, false_or, not_or] at h_
  unfold countFault
  first
  | (simp only [part_ite, part_set, part_inc, part_setSeq, logLimited_part, lockPhase_part, h_, q_, implies_true, ite_self, not_false_eq_true, if_false]; done)
  | ((try simp only [part_ite, part_set, part_inc, part_setSeq, logLimited_part, lockPhase_part, h_, q_, implies_true, ite_self, not_false_eq_true, if_false]) <;> (repeat' split) <;> (first | (simp only [part_ite, part_set, part_inc, part_setSeq, logLimited_part, lockPhase_part, h_, q_, implies_true, ite_self, not_false_eq_true, if_false]; done) | rfl))
theorem judgeFault_part {o_ : Obj} (q_ : o_.quiet = true) (h_ : ¬ o_.id ∈ Footprint.judgeFault) (p : Nat) (s : State) :
    (judgeFault p s).part o_ = s.part o_ := by
  simp only [Footprint.judgeFault, List.mem_append, List.mem_cons, List.not_mem_nil, or_false, false_or, not_or] at h_
  unfold judgeFault
  first
  | (simp only [part_ite, part_set, setPhase_part, countFault_part, h_, q_, implies_true, ite_self, not_false_eq_true, if_false]; done)
  | ((try simp only [part_ite, part_set, setPhase_part, countFault_part, h_, q_, implies_true, ite_self, not_false_eq_true, if_false]) <;> (repeat' split) <;> (first | (simp only [part_ite, part_set, setPhase_part, countFault_part, h_, q_, implies_true, ite_self, not_false_eq_true, if_false]; done) | rfl))
theorem countPhase_part {o_ : Obj} (q_ : o_.quiet = true) (h_ : ¬ o_.id ∈ Footprint.countPhase) (b p : Nat) (s : State) :
    (countPhase b p s).part o_ = s.part o_ := by
  simp only [Footprint.countPhase, List.mem_append, List.mem_cons, List.not_mem_nil, or_false, false_or, not_or] at h_
  unfold countPhase
  first
  | (simp only [part_ite, part_set, part_setSeq, h_, q_, implies_true, ite_self, not_false_eq_true, if_false]; done)
  | ((try simp only [part_ite, part_set, part_setSeq, h_, q_, implies_true, ite_self, not_false_eq_true, if_false]) <;> (repeat' split) <;> (first | (simp only [part_ite, part_set, part_setSeq, h_, q_, implies_true, ite_self, not_false_eq_true, if_false]; done) | rfl))
theorem countMismatch_part {o_ : Obj} (q_ : o_.quiet = true) (h_ : ¬ o_.id ∈ Footprint.countMismatch) (b : Nat) (s : State) :
    (countMismatch b s).part o_ = s.part o_ := by
  simp only [Footprint.countMismatch, List.mem_append, List.mem_cons, List.not_mem_nil, or_false, false_or, not_or] at h_
  unfold countMismatch
  first
  | (simp only [part_ite, part_set, h_, q_, implies_true, ite_self, not_false_eq_true, if_false]; done)
  | ((try simp only [part_ite, part_set, h_, q_, implies_true, ite_self, not_false_eq_true, if_false]) <;> (repeat' split) <;> (first | (simp only [part_ite, part_set, h_, q_, implies_true, ite_self, not_false_eq_true, if_false]; done) | rfl))
theorem rejectPhase_part {o_ : Obj} (q_ : o_.quiet = true) (h_ : ¬ o_.id ∈ Footprint.rejectPhase) (b p : Nat) (cause : Int) (s : State) :
    (rejectPhase b p cause s).part o_ = s.part o_ := by
  simp only [Footprint.rejectPhase, List.mem_append, List.mem_cons, List.not_mem_nil, or_false, false_or, not_or] at h_
  unfold rejectPhase
  first
  | (simp only [part_ite, part_setBit, blockOut_part, lockPhase_part, h_, q_, implies_true, ite_self, not_false_eq_true, if_false]; done)
  | ((try simp only [part_ite, part_setBit, blockOut_part, lockPhase_part, h_, q_, implies_true, ite_self, not_false_eq_true, if_false]) <;> (repeat' split) <;> (first | (simp only [part_ite, part_setBit, blockOut_part, lockPhase_part, h_, q_, implies_true, ite_self, not_false_eq_true, if_false]; done) | rfl))
theorem reactPhase_part {o_ : Obj} (q_ : o_.quiet = true) (h_ : ¬ o_.id ∈ Footprint.reactPhase) (b p : Nat) (s : State) :
    (reactPhase b p s).part o_ = s.part o_ := by
  simp only [Footprint.reactPhase, List.mem_append, List.mem_cons, List.not_mem_nil, or_false, false_or, not_or] at h_
  unfold reactPhase
  first
  | (simp only [part_ite, logEvent_part, rejectPhase_part, h_, q_, implies_true, ite_self, not_false_eq_true, if_false]; done)
  | ((try simp only [part_ite, logEvent_part, rejectPhase_part, h_, q_, implies_true, ite_self, not_false_eq_true, if_false]) <;> (repeat' split) <;> (first | (simp only [part_ite, logEvent_part, rejectPhase_part, h_, q_, implies_true, ite_self, not_false_eq_true, if_false]; done) | rfl))
theorem reactMismatch_part {o_ : Obj} (q_ : o_.quiet = true) (h_ : ¬ o_.id ∈ Footprint.reactMismatch) (b : Nat) (s : State) :
    (reactMismatch b s).part o_ = s.part o_ := by
  simp only [Footprint.reactMismatch, List.mem_append, List.mem_cons, List.not_mem_nil, or_false, false_or, not_or] at h_
  unfold reactMismatch
  first
  | (simp only [part_ite, part_set, part_setBit, logEvent_part, rejectPhase_part, h_, q_, implies_true, ite_self, not_false_eq_true, if_false]; done)
  | ((try simp only [part_ite, part_set, part_setBit, logEvent_part, rejectPhase_part, h_, q_, implies_true, ite_self, not_false_eq_true, if_false]) <;> (repeat' split) <;> (first | (simp only [part_ite, part_set, part_setBit, logEvent_part, rejectPhase_part, h_, q_, implies_true, ite_self, not_false_eq_true, if_false]; done) | rfl))
theorem detect_part {o_ : Obj} (q_ : o_.quiet = true) (h_ : ¬ o_.id ∈ Footprint.detect) (b : Nat) (s : State) :
    (detect b s).part o_ = s.part o_ := by
  simp only [Footprint.detect, List.mem_append, List.mem_cons, List.not_mem_nil, or_false, false_or, not_or] at h_
  unfold detect
  first
  | (simp only [part_ite, part_set, forL_part, countMismatch_part, countPhase_part, reactMismatch_part, reactPhase_part, h_, q_, implies_true, ite_self, not_false_eq_true, if_false]; done)
  | ((try simp only [part_ite, part_set, forL_part, countMismatch_part, countPhase_part, reactMismatch_part, reactPhase_part, h_, q_, implies_true, ite_self, not_false_eq_true, if_false]) <;> (repeat' split) <;> (first | (simp only [part_ite, part_set, forL_part, countMismatch_part, countPhase_part, reactMismatch_part, reactPhase_part, h_, q_, implies_true, ite_self, not_false_eq_true, if_false]; done) | rfl))
theorem takeTest_part {o_ : Obj} (q_ : o_.quiet = true) (h_ : ¬ o_.id ∈ Footprint.takeTest) (b : Nat) (s : State) :
    (takeTest b s).part o_ = s.part o_ := by
  simp only [Footprint.takeTest, List.mem_append, List.mem_cons, List.not_mem_nil, or_false, false_or, not_or] at h_
  unfold takeTest
  first
  | (simp only [part_ite, part_set, forL_part, h_, q_, implies_true, ite_self, not_false_eq_true, if_false]; done)
  | ((try simp only [part_ite, part_set, forL_part, h_, q_, implies_true, ite_self, not_false_eq_true, if_false]) <;> (repeat' split) <;> (first | (simp only [part_ite, part_set, forL_part, h_, q_, implies_true, ite_self, not_false_eq_true, if_false]; done) | rfl))
theorem countIdle_part {o_ : Obj} (q_ : o_.quiet = true) (h_ : ¬ o_.id ∈ Footprint.countIdle) (p : Nat) (s : State) :
    (countIdle p s).part o_ = s.part o_ := by
  simp only [Footprint.countIdle, List.mem_append, List.mem_cons, List.not_mem_nil, or_false, false_or, not_or] at h_
  unfold countIdle
  first
  | (simp only [part_ite, part_set, h_, q_, implies_true, ite_self, not_false_eq_true, if_false]; done)
  | ((try simp only [part_ite, part_set, h_, q_, implies_true, ite_self, not_false_eq_true, if_false]) <;> (repeat' split) <;> (first | (simp only [part_ite, part_set, h_, q_, implies_true, ite_self, not_false_eq_true, if_false]; done) | rfl))
theorem peakDvdt_part {o_ : Obj} (q_ : o_.quiet = true) (h_ : ¬ o_.id ∈ Footprint.peakDvdt) (p : Nat) (s : State) :
    (peakDvdt p s).part o_ = s.part o_ := by
  simp only [Footprint.peakDvdt, List.mem_append, List.mem_cons, List.not_mem_nil, or_false, false_or, not_or] at h_
  unfold peakDvdt
  first
  | (simp only [part_ite, part_set, h_, q_, implies_true, ite_self, not_false_eq_true, if_false]; done)
  | ((try simp only [part_ite, part_set, h_, q_, implies_true, ite_self, not_false_eq_true, if_false]) <;> (repeat' split) <;> (first | (simp only [part_ite, part_set, h_, q_, implies_true, ite_self, not_false_eq_true, if_false]; done) | rfl))
theorem judgeContactors_part {o_ : Obj} (q_ : o_.quiet = true) (h_ : ¬ o_.id ∈ Footprint.judgeContactors) (b : Nat) (s : State) :
    (judgeContactors b s).part o_ = s.part o_ := by
  simp only [Footprint.judgeContactors, List.mem_append, List.mem_cons, List.not_mem_nil, or_false, false_or, not_or] at h_
  unfold judgeContactors
  first
  | (simp only [part_ite, withholdBlock_part, h_, q_, implies_true, ite_self, not_false_eq_true, if_false]; done)
  | ((try simp only [part_ite, withholdBlock_part, h_, q_, implies_true, ite_self, not_false_eq_true, if_false]) <;> (repeat' split) <;> (first | (simp only [part_ite, withholdBlock_part, h_, q_, implies_true, ite_self, not_false_eq_true, if_false]; done) | rfl))
theorem countBlock_part {o_ : Obj} (q_ : o_.quiet = true) (h_ : ¬ o_.id ∈ Footprint.countBlock) (b : Nat) (s : State) :
    (countBlock b s).part o_ = s.part o_ := by
  simp only [Footprint.countBlock, List.mem_append, List.mem_cons, List.not_mem_nil, or_false, false_or, not_or] at h_
  unfold countBlock
  first
  | (simp only [part_ite, part_set, h_, q_, implies_true, ite_self, not_false_eq_true, if_false]; done)
  | ((try simp only [part_ite, part_set, h_, q_, implies_true, ite_self, not_false_eq_true, if_false]) <;> (repeat' split) <;> (first | (simp only [part_ite, part_set, h_, q_, implies_true, ite_self, not_false_eq_true, if_false]; done) | rfl))
theorem judgeCabinet_part {o_ : Obj} (q_ : o_.quiet = true) (h_ : ¬ o_.id ∈ Footprint.judgeCabinet) (c : Nat) (s : State) :
    (judgeCabinet c s).part o_ = s.part o_ := by
  simp only [Footprint.judgeCabinet, List.mem_append, List.mem_cons, List.not_mem_nil, or_false, false_or, not_or] at h_
  unfold judgeCabinet
  first
  | (simp only [part_ite, forN_part, forL_part, countIdle_part, peakDvdt_part, judgeFault_part, countBlock_part, judgeContactors_part, detect_part, takeTest_part, h_, q_, implies_true, ite_self, not_false_eq_true, if_false]; done)
  | ((try simp only [part_ite, forN_part, forL_part, countIdle_part, peakDvdt_part, judgeFault_part, countBlock_part, judgeContactors_part, detect_part, takeTest_part, h_, q_, implies_true, ite_self, not_false_eq_true, if_false]) <;> (repeat' split) <;> (first | (simp only [part_ite, forN_part, forL_part, countIdle_part, peakDvdt_part, judgeFault_part, countBlock_part, judgeContactors_part, detect_part, takeTest_part, h_, q_, implies_true, ite_self, not_false_eq_true, if_false]; done) | rfl))
theorem telemetryDeadline_part {o_ : Obj} (q_ : o_.quiet = true) (h_ : ¬ o_.id ∈ Footprint.telemetryDeadline) (s : State) :
    (telemetryDeadline s).part o_ = s.part o_ := by
  simp only [Footprint.telemetryDeadline, List.mem_append, List.mem_cons, List.not_mem_nil, or_false, false_or, not_or] at h_
  unfold telemetryDeadline
  first
  | (simp only [part_ite, part_set, forN_part, settleLane_part, settleTelemetry_part, judgeCabinet_part, judgeLatch_part, outletFrame_part, h_, q_, implies_true, ite_self, not_false_eq_true, if_false]; done)
  | ((try simp only [part_ite, part_set, forN_part, settleLane_part, settleTelemetry_part, judgeCabinet_part, judgeLatch_part, outletFrame_part, h_, q_, implies_true, ite_self, not_false_eq_true, if_false]) <;> (repeat' split) <;> (first | (simp only [part_ite, part_set, forN_part, settleLane_part, settleTelemetry_part, judgeCabinet_part, judgeLatch_part, outletFrame_part, h_, q_, implies_true, ite_self, not_false_eq_true, if_false]; done) | rfl))
theorem lowerScale_part {o_ : Obj} (q_ : o_.quiet = true) (h_ : ¬ o_.id ∈ Footprint.lowerScale) (k : Nat) (limit other charging : Rat) (s : State) :
    (lowerScale k limit other charging s).part o_ = s.part o_ := by
  simp only [Footprint.lowerScale, List.mem_append, List.mem_cons, List.not_mem_nil, or_false, false_or, not_or] at h_
  unfold lowerScale
  first
  | (simp only [part_ite, part_setReal, h_, q_, implies_true, ite_self, not_false_eq_true, if_false]; done)
  | ((try simp only [part_ite, part_setReal, h_, q_, implies_true, ite_self, not_false_eq_true, if_false]) <;> (repeat' split) <;> (first | (simp only [part_ite, part_setReal, h_, q_, implies_true, ite_self, not_false_eq_true, if_false]; done) | rfl))
theorem scaleSite_part {o_ : Obj} (q_ : o_.quiet = true) (h_ : ¬ o_.id ∈ Footprint.scaleSite) (s : State) :
    (scaleSite s).part o_ = s.part o_ := by
  simp only [Footprint.scaleSite, List.mem_append, List.mem_cons, List.not_mem_nil, or_false, false_or, not_or] at h_
  unfold scaleSite
  first
  | (simp only [part_ite, part_set, part_inc, logLimited_part, lowerScale_part, h_, q_, implies_true, ite_self, not_false_eq_true, if_false]; done)
  | ((try simp only [part_ite, part_set, part_inc, logLimited_part, lowerScale_part, h_, q_, implies_true, ite_self, not_false_eq_true, if_false]) <;> (repeat' split) <;> (first | (simp only [part_ite, part_set, part_inc, logLimited_part, lowerScale_part, h_, q_, implies_true, ite_self, not_false_eq_true, if_false]; done) | rfl))
theorem scaleFeeder_part {o_ : Obj} (q_ : o_.quiet = true) (h_ : ¬ o_.id ∈ Footprint.scaleFeeder) (f : Nat) (s : State) :
    (scaleFeeder f s).part o_ = s.part o_ := by
  simp only [Footprint.scaleFeeder, List.mem_append, List.mem_cons, List.not_mem_nil, or_false, false_or, not_or] at h_
  unfold scaleFeeder
  first
  | (simp only [part_ite, part_set, forN_part, logLimited_part, lowerScale_part, h_, q_, implies_true, ite_self, not_false_eq_true, if_false]; done)
  | ((try simp only [part_ite, part_set, forN_part, logLimited_part, lowerScale_part, h_, q_, implies_true, ite_self, not_false_eq_true, if_false]) <;> (repeat' split) <;> (first | (simp only [part_ite, part_set, forN_part, logLimited_part, lowerScale_part, h_, q_, implies_true, ite_self, not_false_eq_true, if_false]; done) | rfl))
theorem scaleCabinet_part {o_ : Obj} (q_ : o_.quiet = true) (h_ : ¬ o_.id ∈ Footprint.scaleCabinet) (c : Nat) (s : State) :
    (scaleCabinet c s).part o_ = s.part o_ := by
  simp only [Footprint.scaleCabinet, List.mem_append, List.mem_cons, List.not_mem_nil, or_false, false_or, not_or] at h_
  unfold scaleCabinet
  first
  | (simp only [part_ite, part_set, logLimited_part, lowerScale_part, h_, q_, implies_true, ite_self, not_false_eq_true, if_false]; done)
  | ((try simp only [part_ite, part_set, logLimited_part, lowerScale_part, h_, q_, implies_true, ite_self, not_false_eq_true, if_false]) <;> (repeat' split) <;> (first | (simp only [part_ite, part_set, logLimited_part, lowerScale_part, h_, q_, implies_true, ite_self, not_false_eq_true, if_false]; done) | rfl))
theorem setTarget_part {o_ : Obj} (q_ : o_.quiet = true) (h_ : ¬ o_.id ∈ Footprint.setTarget) (n : Nat) (s : State) :
    (setTarget n s).part o_ = s.part o_ := by
  simp only [Footprint.setTarget, List.mem_append, List.mem_cons, List.not_mem_nil, or_false, false_or, not_or] at h_
  unfold setTarget
  first
  | (simp only [part_ite, part_set, part_setReal, h_, q_, implies_true, ite_self, not_false_eq_true, if_false]; done)
  | ((try simp only [part_ite, part_set, part_setReal, h_, q_, implies_true, ite_self, not_false_eq_true, if_false]) <;> (repeat' split) <;> (first | (simp only [part_ite, part_set, part_setReal, h_, q_, implies_true, ite_self, not_false_eq_true, if_false]; done) | rfl))
theorem putShare_part {o_ : Obj} (q_ : o_.quiet = true) (h_ : ¬ o_.id ∈ Footprint.putShare) (b : Nat) (v : Rat) (s : State) :
    (putShare b v s).part o_ = s.part o_ := by
  simp only [Footprint.putShare, List.mem_append, List.mem_cons, List.not_mem_nil, or_false, false_or, not_or] at h_
  unfold putShare
  first
  | (simp only [part_ite, part_set, part_setReal, h_, q_, implies_true, ite_self, not_false_eq_true, if_false]; done)
  | ((try simp only [part_ite, part_set, part_setReal, h_, q_, implies_true, ite_self, not_false_eq_true, if_false]) <;> (repeat' split) <;> (first | (simp only [part_ite, part_set, part_setReal, h_, q_, implies_true, ite_self, not_false_eq_true, if_false]; done) | rfl))
theorem setShares_part {o_ : Obj} (q_ : o_.quiet = true) (h_ : ¬ o_.id ∈ Footprint.setShares) (n : Nat) (s : State) :
    (setShares n s).part o_ = s.part o_ := by
  simp only [Footprint.setShares, List.mem_append, List.mem_cons, List.not_mem_nil, or_false, false_or, not_or] at h_
  unfold setShares
  first
  | (simp only [part_ite, foldl_part, putShare_part, h_, q_, implies_true, ite_self, not_false_eq_true, if_false]; done)
  | ((try simp only [part_ite, foldl_part, putShare_part, h_, q_, implies_true, ite_self, not_false_eq_true, if_false]) <;> (repeat' split) <;> (first | (simp only [part_ite, foldl_part, putShare_part, h_, q_, implies_true, ite_self, not_false_eq_true, if_false]; done) | rfl))
theorem unbind_part {o_ : Obj} (q_ : o_.quiet = true) (h_ : ¬ o_.id ∈ Footprint.unbind) (b : Nat) (s : State) :
    (unbind b s).part o_ = s.part o_ := by
  simp only [Footprint.unbind, List.mem_append, List.mem_cons, List.not_mem_nil, or_false, false_or, not_or] at h_
  unfold unbind
  first
  | (simp only [part_ite, part_set, openReaches_part, freeBlock_part, h_, q_, implies_true, ite_self, not_false_eq_true, if_false]; done)
  | ((try simp only [part_ite, part_set, openReaches_part, freeBlock_part, h_, q_, implies_true, ite_self, not_false_eq_true, if_false]) <;> (repeat' split) <;> (first | (simp only [part_ite, part_set, openReaches_part, freeBlock_part, h_, q_, implies_true, ite_self, not_false_eq_true, if_false]; done) | rfl))
theorem startFor_part {o_ : Obj} (q_ : o_.quiet = true) (h_ : ¬ o_.id ∈ Footprint.startFor) (b n : Nat) (kind : Int) (s : State) :
    (startFor b n kind s).part o_ = s.part o_ := by
  simp only [Footprint.startFor, List.mem_append, List.mem_cons, List.not_mem_nil, or_false, false_or, not_or] at h_
  unfold startFor
  first
  | (simp only [part_ite, part_set, logEvent_part, startBlock_part, h_, q_, implies_true, ite_self, not_false_eq_true, if_false]; done)
  | ((try simp only [part_ite, part_set, logEvent_part, startBlock_part, h_, q_, implies_true, ite_self, not_false_eq_true, if_false]) <;> (repeat' split) <;> (first | (simp only [part_ite, part_set, logEvent_part, startBlock_part, h_, q_, implies_true, ite_self, not_false_eq_true, if_false]; done) | rfl))
theorem bindStarted_part {o_ : Obj} (q_ : o_.quiet = true) (h_ : ¬ o_.id ∈ Footprint.bindStarted) (b : Nat) (s : State) :
    (bindStarted b s).part o_ = s.part o_ := by
  simp only [Footprint.bindStarted, List.mem_append, List.mem_cons, List.not_mem_nil, or_false, false_or, not_or] at h_
  unfold bindStarted
  first
  | (simp only [part_ite, part_set, freeBlock_part, abandonMove_part, stopBlock_part, endMove_part, commandReach_part, h_, q_, implies_true, ite_self, not_false_eq_true, if_false]; done)
  | ((try simp only [part_ite, part_set, freeBlock_part, abandonMove_part, stopBlock_part, endMove_part, commandReach_part, h_, q_, implies_true, ite_self, not_false_eq_true, if_false]) <;> (repeat' split) <;> (first | (simp only [part_ite, part_set, freeBlock_part, abandonMove_part, stopBlock_part, endMove_part, commandReach_part, h_, q_, implies_true, ite_self, not_false_eq_true, if_false]; done) | rfl))
theorem settleDelivering_part {o_ : Obj} (q_ : o_.quiet = true) (h_ : ¬ o_.id ∈ Footprint.settleDelivering) (b : Nat) (s : State) :
    (settleDelivering b s).part o_ = s.part o_ := by
  simp only [Footprint.settleDelivering, List.mem_append, List.mem_cons, List.not_mem_nil, or_false, false_or, not_or] at h_
  unfold settleDelivering
  first
  | (simp only [part_ite, part_set, h_, q_, implies_true, ite_self, not_false_eq_true, if_false]; done)
  | ((try simp only [part_ite, part_set, h_, q_, implies_true, ite_self, not_false_eq_true, if_false]) <;> (repeat' split) <;> (first | (simp only [part_ite, part_set, h_, q_, implies_true, ite_self, not_false_eq_true, if_false]; done) | rfl))
theorem startMove_part {o_ : Obj} (q_ : o_.quiet = true) (h_ : ¬ o_.id ∈ Footprint.startMove) (b : Nat) (s : State) :
    (startMove b s).part o_ = s.part o_ := by
  simp only [Footprint.startMove, List.mem_append, List.mem_cons, List.not_mem_nil, or_false, false_or, not_or] at h_
  unfold startMove
  first
  | (simp only [part_ite, part_set, part_setReal, logEvent_part, h_, q_, implies_true, ite_self, not_false_eq_true, if_false]; done)
  | ((try simp only [part_ite, part_set, part_setReal, logEvent_part, h_, q_, implies_true, ite_self, not_false_eq_true, if_false]) <;> (repeat' split) <;> (first | (simp only [part_ite, part_set, part_setReal, logEvent_part, h_, q_, implies_true, ite_self, not_false_eq_true, if_false]; done) | rfl))
theorem resettle_part {o_ : Obj} (q_ : o_.quiet = true) (h_ : ¬ o_.id ∈ Footprint.resettle) (b : Nat) (cause : Int) (s : State) :
    (resettle b cause s).part o_ = s.part o_ := by
  simp only [Footprint.resettle, List.mem_append, List.mem_cons, List.not_mem_nil, or_false, false_or, not_or] at h_
  unfold resettle
  first
  | (simp only [part_ite, part_set, abandonMove_part, h_, q_, implies_true, ite_self, not_false_eq_true, if_false]; done)
  | ((try simp only [part_ite, part_set, abandonMove_part, h_, q_, implies_true, ite_self, not_false_eq_true, if_false]) <;> (repeat' split) <;> (first | (simp only [part_ite, part_set, abandonMove_part, h_, q_, implies_true, ite_self, not_false_eq_true, if_false]; done) | rfl))
theorem dropMove_part {o_ : Obj} (q_ : o_.quiet = true) (h_ : ¬ o_.id ∈ Footprint.dropMove) (b : Nat) (cause : Int) (s : State) :
    (dropMove b cause s).part o_ = s.part o_ := by
  simp only [Footprint.dropMove, List.mem_append, List.mem_cons, List.not_mem_nil, or_false, false_or, not_or] at h_
  unfold dropMove
  first
  | (simp only [part_ite, freeBlock_part, abandonMove_part, stopBlock_part, h_, q_, implies_true, ite_self, not_false_eq_true, if_false]; done)
  | ((try simp only [part_ite, freeBlock_part, abandonMove_part, stopBlock_part, h_, q_, implies_true, ite_self, not_false_eq_true, if_false]) <;> (repeat' split) <;> (first | (simp only [part_ite, freeBlock_part, abandonMove_part, stopBlock_part, h_, q_, implies_true, ite_self, not_false_eq_true, if_false]; done) | rfl))
theorem stepPreCharge_part {o_ : Obj} (q_ : o_.quiet = true) (h_ : ¬ o_.id ∈ Footprint.stepPreCharge) (b : Nat) (s : State) :
    (stepPreCharge b s).part o_ = s.part o_ := by
  simp only [Footprint.stepPreCharge, List.mem_append, List.mem_cons, List.not_mem_nil, or_false, false_or, not_or] at h_
  unfold stepPreCharge
  first
  | (simp only [part_ite, part_set, h_, q_, implies_true, ite_self, not_false_eq_true, if_false]; done)
  | ((try simp only [part_ite, part_set, h_, q_, implies_true, ite_self, not_false_eq_true, if_false]) <;> (repeat' split) <;> (first | (simp only [part_ite, part_set, h_, q_, implies_true, ite_self, not_false_eq_true, if_false]; done) | rfl))
theorem judgeMove_part {o_ : Obj} (q_ : o_.quiet = true) (h_ : ¬ o_.id ∈ Footprint.judgeMove) (b : Nat) (s : State) :
    (judgeMove b s).part o_ = s.part o_ := by
  simp only [Footprint.judgeMove, List.mem_append, List.mem_cons, List.not_mem_nil, or_false, false_or, not_or] at h_
  unfold judgeMove
  first
  | (simp only [part_ite, part_set, freeBlock_part, completeMove_part, resettle_part, abandonMove_part, dropMove_part, h_, q_, implies_true, ite_self, not_false_eq_true, if_false]; done)
  | ((try simp only [part_ite, part_set, freeBlock_part, completeMove_part, resettle_part, abandonMove_part, dropMove_part, h_, q_, implies_true, ite_self, not_false_eq_true, if_false]) <;> (repeat' split) <;> (first | (simp only [part_ite, part_set, freeBlock_part, completeMove_part, resettle_part, abandonMove_part, dropMove_part, h_, q_, implies_true, ite_self, not_false_eq_true, if_false]; done) | rfl))
theorem takeBlock_part {o_ : Obj} (q_ : o_.quiet = true) (h_ : ¬ o_.id ∈ Footprint.takeBlock) (n : Nat) (need : Rat) (least : Nat) (s : State) :
    (takeBlock n need least s).part o_ = s.part o_ := by
  simp only [Footprint.takeBlock, List.mem_append, List.mem_cons, List.not_mem_nil, or_false, false_or, not_or, and_assoc] at h_
  unfold takeBlock
  dsimp only
  repeat' split
  all_goals first
    | rfl
    | exact (part_set h_.2 _ _ _).trans (part_set h_.1 _ _ _)
theorem takeBlocks_part {o_ : Obj} (q_ : o_.quiet = true) (h_ : ¬ o_.id ∈ Footprint.takeBlocks) (n : Nat) (need : Rat) (least k : Nat) (s : State) :
    (takeBlocks n need least k s).part o_ = s.part o_ := by
  simp only [Footprint.takeBlocks, List.mem_append, List.mem_cons, List.not_mem_nil, or_false, false_or, not_or] at h_
  unfold takeBlocks
  first
  | (simp only [part_ite, forN_part, takeBlock_part, h_, q_, implies_true, ite_self, not_false_eq_true, if_false]; done)
  | ((try simp only [part_ite, forN_part, takeBlock_part, h_, q_, implies_true, ite_self, not_false_eq_true, if_false]) <;> (repeat' split) <;> (first | (simp only [part_ite, forN_part, takeBlock_part, h_, q_, implies_true, ite_self, not_false_eq_true, if_false]; done) | rfl))
theorem bindBlocks_part {o_ : Obj} (q_ : o_.quiet = true) (h_ : ¬ o_.id ∈ Footprint.bindBlocks) (got : List Rat) (s : State) :
    (bindBlocks got s).part o_ = s.part o_ := by
  simp only [Footprint.bindBlocks, List.mem_append, List.mem_cons, List.not_mem_nil, or_false, false_or, not_or, and_assoc] at h_
  unfold bindBlocks
  dsimp only
  rw [forL_part, forL_part, forL_part, forN_part]
  · intro k u; rw [part_set h_.2.1, part_set h_.1]
  · intro k u
    split
    · exact part_set h_.1 _ _ _
    · rfl
  · intro k u
    exact takeBlocks_part q_ h_.2.2 _ _ _ _ _
  · intro k u; exact part_set h_.1 _ _ _
theorem allocationPass_part {o_ : Obj} (q_ : o_.quiet = true) (h_ : ¬ o_.id ∈ Footprint.allocationPass) (s : State) :
    (allocationPass s).part o_ = s.part o_ := by
  simp only [Footprint.allocationPass, List.mem_append, List.mem_cons, List.not_mem_nil, or_false, false_or, not_or] at h_
  unfold allocationPass
  first
  | (simp only [part_ite, part_set, forN_part, bindBlocks_part, h_, q_, implies_true, ite_self, not_false_eq_true, if_false]; done)
  | ((try simp only [part_ite, part_set, forN_part, bindBlocks_part, h_, q_, implies_true, ite_self, not_false_eq_true, if_false]) <;> (repeat' split) <;> (first | (simp only [part_ite, part_set, forN_part, bindBlocks_part, h_, q_, implies_true, ite_self, not_false_eq_true, if_false]; done) | rfl))
theorem beginAllocation_part {o_ : Obj} (q_ : o_.quiet = true) (h_ : ¬ o_.id ∈ Footprint.beginAllocation) (s : State) :
    (beginAllocation s).part o_ = s.part o_ := by
  simp only [Footprint.beginAllocation, List.mem_append, List.mem_cons, List.not_mem_nil, or_false, false_or, not_or] at h_
  unfold beginAllocation
  first
  | (simp only [part_ite, part_inc, logLimited_part, allocationPass_part, h_, q_, implies_true, ite_self, not_false_eq_true, if_false]; done)
  | ((try simp only [part_ite, part_inc, logLimited_part, allocationPass_part, h_, q_, implies_true, ite_self, not_false_eq_true, if_false]) <;> (repeat' split) <;> (first | (simp only [part_ite, part_inc, logLimited_part, allocationPass_part, h_, q_, implies_true, ite_self, not_false_eq_true, if_false]; done) | rfl))
theorem takeAllocation_part {o_ : Obj} (q_ : o_.quiet = true) (h_ : ¬ o_.id ∈ Footprint.takeAllocation) (s : State) :
    (takeAllocation s).part o_ = s.part o_ := by
  simp only [Footprint.takeAllocation, List.mem_append, List.mem_cons, List.not_mem_nil, or_false, false_or, not_or] at h_
  unfold takeAllocation
  first
  | (simp only [part_ite, part_set, part_setReal, forN_part, startFor_part, h_, q_, implies_true, ite_self, not_false_eq_true, if_false]; done)
  | ((try simp only [part_ite, part_set, part_setReal, forN_part, startFor_part, h_, q_, implies_true, ite_self, not_false_eq_true, if_false]) <;> (repeat' split) <;> (first | (simp only [part_ite, part_set, part_setReal, forN_part, startFor_part, h_, q_, implies_true, ite_self, not_false_eq_true, if_false]; done) | rfl))
theorem sumDc_part {o_ : Obj} (q_ : o_.quiet = true) (h_ : ¬ o_.id ∈ Footprint.sumDc) (s : State) :
    (sumDc s).part o_ = s.part o_ := by
  simp only [Footprint.sumDc, List.mem_append, List.mem_cons, List.not_mem_nil, or_false, false_or, not_or] at h_
  unfold sumDc
  first
  | (simp only [part_ite, part_set, part_setReal, forN_part, h_, q_, implies_true, ite_self, not_false_eq_true, if_false]; done)
  | ((try simp only [part_ite, part_set, part_setReal, forN_part, h_, q_, implies_true, ite_self, not_false_eq_true, if_false]) <;> (repeat' split) <;> (first | (simp only [part_ite, part_set, part_setReal, forN_part, h_, q_, implies_true, ite_self, not_false_eq_true, if_false]; done) | rfl))
theorem judgeShadow_part {o_ : Obj} (q_ : o_.quiet = true) (h_ : ¬ o_.id ∈ Footprint.judgeShadow) (s : State) :
    (judgeShadow s).part o_ = s.part o_ := by
  simp only [Footprint.judgeShadow, List.mem_append, List.mem_cons, List.not_mem_nil, or_false, false_or, not_or] at h_
  unfold judgeShadow
  first
  | (simp only [part_ite, part_set, logEvent_part, stopAllBlocks_part, h_, q_, implies_true, ite_self, not_false_eq_true, if_false]; done)
  | ((try simp only [part_ite, part_set, logEvent_part, stopAllBlocks_part, h_, q_, implies_true, ite_self, not_false_eq_true, if_false]) <;> (repeat' split) <;> (first | (simp only [part_ite, part_set, logEvent_part, stopAllBlocks_part, h_, q_, implies_true, ite_self, not_false_eq_true, if_false]; done) | rfl))
theorem judgeCapacity_part {o_ : Obj} (q_ : o_.quiet = true) (h_ : ¬ o_.id ∈ Footprint.judgeCapacity) (n : Nat) (s : State) :
    (judgeCapacity n s).part o_ = s.part o_ := by
  simp only [Footprint.judgeCapacity, List.mem_append, List.mem_cons, List.not_mem_nil, or_false, false_or, not_or] at h_
  unfold judgeCapacity
  first
  | (simp only [part_ite, part_set, logEvent_part, h_, q_, implies_true, ite_self, not_false_eq_true, if_false]; done)
  | ((try simp only [part_ite, part_set, logEvent_part, h_, q_, implies_true, ite_self, not_false_eq_true, if_false]) <;> (repeat' split) <;> (first | (simp only [part_ite, part_set, logEvent_part, h_, q_, implies_true, ite_self, not_false_eq_true, if_false]; done) | rfl))
theorem fastPass_part {o_ : Obj} (q_ : o_.quiet = true) (h_ : ¬ o_.id ∈ Footprint.fastPass) (s : State) :
    (fastPass s).part o_ = s.part o_ := by
  simp only [Footprint.fastPass, List.mem_append, List.mem_cons, List.not_mem_nil, or_false, false_or, not_or] at h_
  unfold fastPass
  first
  | (simp only [part_ite, part_set, forN_part, takeAllocation_part, sumDc_part, judgeMove_part, settleDelivering_part, bindStarted_part, stepPreCharge_part, unbind_part, scaleSite_part, scaleFeeder_part, scaleCabinet_part, setTarget_part, setShares_part, tryCloseContactors_part, judgeCapacity_part, judgeShadow_part, h_, q_, implies_true, ite_self, not_false_eq_true, if_false]; done)
  | ((try simp only [part_ite, part_set, forN_part, takeAllocation_part, sumDc_part, judgeMove_part, settleDelivering_part, bindStarted_part, stepPreCharge_part, unbind_part, scaleSite_part, scaleFeeder_part, scaleCabinet_part, setTarget_part, setShares_part, tryCloseContactors_part, judgeCapacity_part, judgeShadow_part, h_, q_, implies_true, ite_self, not_false_eq_true, if_false]) <;> (repeat' split) <;> (first | (simp only [part_ite, part_set, forN_part, takeAllocation_part, sumDc_part, judgeMove_part, settleDelivering_part, bindStarted_part, stepPreCharge_part, unbind_part, scaleSite_part, scaleFeeder_part, scaleCabinet_part, setTarget_part, setShares_part, tryCloseContactors_part, judgeCapacity_part, judgeShadow_part, h_, q_, implies_true, ite_self, not_false_eq_true, if_false]; done) | rfl))
theorem withholdFeeder_part {o_ : Obj} (q_ : o_.quiet = true) (h_ : ¬ o_.id ∈ Footprint.withholdFeeder) (f : Nat) (s : State) :
    (withholdFeeder f s).part o_ = s.part o_ := by
  simp only [Footprint.withholdFeeder, List.mem_append, List.mem_cons, List.not_mem_nil, or_false, false_or, not_or] at h_
  unfold withholdFeeder
  first
  | (simp only [part_ite, part_set, forN_part, abandonMove_part, stopBlock_part, h_, q_, implies_true, ite_self, not_false_eq_true, if_false]; done)
  | ((try simp only [part_ite, part_set, forN_part, abandonMove_part, stopBlock_part, h_, q_, implies_true, ite_self, not_false_eq_true, if_false]) <;> (repeat' split) <;> (first | (simp only [part_ite, part_set, forN_part, abandonMove_part, stopBlock_part, h_, q_, implies_true, ite_self, not_false_eq_true, if_false]; done) | rfl))
theorem setMpl_part {o_ : Obj} (q_ : o_.quiet = true) (h_ : ¬ o_.id ∈ Footprint.setMpl) (v : Int) (s : State) :
    (setMpl v s).part o_ = s.part o_ := by
  simp only [Footprint.setMpl, List.mem_append, List.mem_cons, List.not_mem_nil, or_false, false_or, not_or] at h_
  unfold setMpl
  first
  | (simp only [part_ite, part_set, logEvent_part, h_, q_, implies_true, ite_self, not_false_eq_true, if_false]; done)
  | ((try simp only [part_ite, part_set, logEvent_part, h_, q_, implies_true, ite_self, not_false_eq_true, if_false]) <;> (repeat' split) <;> (first | (simp only [part_ite, part_set, logEvent_part, h_, q_, implies_true, ite_self, not_false_eq_true, if_false]; done) | rfl))
theorem abandonFrames_part {o_ : Obj} (q_ : o_.quiet = true) (h_ : ¬ o_.id ∈ Footprint.abandonFrames) (s : State) :
    (abandonFrames s).part o_ = s.part o_ := by
  simp only [Footprint.abandonFrames, List.mem_append, List.mem_cons, List.not_mem_nil, or_false, false_or, not_or] at h_
  unfold abandonFrames
  first
  | (simp only [part_ite, part_set, part_setLog, h_, q_, implies_true, ite_self, not_false_eq_true, if_false]; done)
  | ((try simp only [part_ite, part_set, part_setLog, h_, q_, implies_true, ite_self, not_false_eq_true, if_false]) <;> (repeat' split) <;> (first | (simp only [part_ite, part_set, part_setLog, h_, q_, implies_true, ite_self, not_false_eq_true, if_false]; done) | rfl))
theorem eraseHalf_part {o_ : Obj} (q_ : o_.quiet = true) (h_ : ¬ o_.id ∈ Footprint.eraseHalf) (s : State) :
    (eraseHalf s).part o_ = s.part o_ := by
  simp only [Footprint.eraseHalf, List.mem_append, List.mem_cons, List.not_mem_nil, or_false, false_or, not_or] at h_
  unfold eraseHalf
  first
  | (simp only [part_ite, part_set, part_inc, h_, q_, implies_true, ite_self, not_false_eq_true, if_false]; done)
  | ((try simp only [part_ite, part_set, part_inc, h_, q_, implies_true, ite_self, not_false_eq_true, if_false]) <;> (repeat' split) <;> (first | (simp only [part_ite, part_set, part_inc, h_, q_, implies_true, ite_self, not_false_eq_true, if_false]; done) | rfl))
theorem countSilence_part {o_ : Obj} (q_ : o_.quiet = true) (h_ : ¬ o_.id ∈ Footprint.countSilence) (s : State) :
    (countSilence s).part o_ = s.part o_ := by
  simp only [Footprint.countSilence, List.mem_append, List.mem_cons, List.not_mem_nil, or_false, false_or, not_or] at h_
  unfold countSilence
  first
  | (simp only [part_ite, part_set, setMpl_part, h_, q_, implies_true, ite_self, not_false_eq_true, if_false]; done)
  | ((try simp only [part_ite, part_set, setMpl_part, h_, q_, implies_true, ite_self, not_false_eq_true, if_false]) <;> (repeat' split) <;> (first | (simp only [part_ite, part_set, setMpl_part, h_, q_, implies_true, ite_self, not_false_eq_true, if_false]; done) | rfl))
theorem lostHalf_part {o_ : Obj} (q_ : o_.quiet = true) (h_ : ¬ o_.id ∈ Footprint.lostHalf) (s : State) :
    (lostHalf s).part o_ = s.part o_ := by
  simp only [Footprint.lostHalf, List.mem_append, List.mem_cons, List.not_mem_nil, or_false, false_or, not_or] at h_
  unfold lostHalf
  first
  | (simp only [part_ite, part_set, part_setReal, logEvent_part, eraseHalf_part, countSilence_part, setMpl_part, abandonFrames_part, h_, q_, implies_true, ite_self, not_false_eq_true, if_false]; done)
  | ((try simp only [part_ite, part_set, part_setReal, logEvent_part, eraseHalf_part, countSilence_part, setMpl_part, abandonFrames_part, h_, q_, implies_true, ite_self, not_false_eq_true, if_false]) <;> (repeat' split) <;> (first | (simp only [part_ite, part_set, part_setReal, logEvent_part, eraseHalf_part, countSilence_part, setMpl_part, abandonFrames_part, h_, q_, implies_true, ite_self, not_false_eq_true, if_false]; done) | rfl))
theorem takeCrossing_part {o_ : Obj} (q_ : o_.quiet = true) (h_ : ¬ o_.id ∈ Footprint.takeCrossing) (at_ : Rat) (rising : Bool) (s : State) :
    (takeCrossing at_ rising s).part o_ = s.part o_ := by
  simp only [Footprint.takeCrossing, List.mem_append, List.mem_cons, List.not_mem_nil, or_false, false_or, not_or] at h_
  unfold takeCrossing
  first
  | (simp only [part_ite, part_set, part_setB, part_setReal, logLimited_part, setMpl_part, countSilence_part, lostHalf_part, h_, q_, implies_true, ite_self, not_false_eq_true, if_false]; done)
  | ((try simp only [part_ite, part_set, part_setB, part_setReal, logLimited_part, setMpl_part, countSilence_part, lostHalf_part, h_, q_, implies_true, ite_self, not_false_eq_true, if_false]) <;> (repeat' split) <;> (first | (simp only [part_ite, part_set, part_setB, part_setReal, logLimited_part, setMpl_part, countSilence_part, lostHalf_part, h_, q_, implies_true, ite_self, not_false_eq_true, if_false]; done) | rfl))
theorem suspendLink_part {o_ : Obj} (q_ : o_.quiet = true) (h_ : ¬ o_.id ∈ Footprint.suspendLink) (f : Nat) (s : State) :
    (suspendLink f s).part o_ = s.part o_ := by
  simp only [Footprint.suspendLink, List.mem_append, List.mem_cons, List.not_mem_nil, or_false, false_or, not_or] at h_
  unfold suspendLink
  first
  | (simp only [part_ite, part_set, setMpl_part, abandonFrames_part, h_, q_, implies_true, ite_self, not_false_eq_true, if_false]; done)
  | ((try simp only [part_ite, part_set, setMpl_part, abandonFrames_part, h_, q_, implies_true, ite_self, not_false_eq_true, if_false]) <;> (repeat' split) <;> (first | (simp only [part_ite, part_set, setMpl_part, abandonFrames_part, h_, q_, implies_true, ite_self, not_false_eq_true, if_false]; done) | rfl))
theorem resumeLink_part {o_ : Obj} (q_ : o_.quiet = true) (h_ : ¬ o_.id ∈ Footprint.resumeLink) (f : Nat) (s : State) :
    (resumeLink f s).part o_ = s.part o_ := by
  simp only [Footprint.resumeLink, List.mem_append, List.mem_cons, List.not_mem_nil, or_false, false_or, not_or] at h_
  unfold resumeLink
  first
  | (simp only [part_ite, setMpl_part, h_, q_, implies_true, ite_self, not_false_eq_true, if_false]; done)
  | ((try simp only [part_ite, setMpl_part, h_, q_, implies_true, ite_self, not_false_eq_true, if_false]) <;> (repeat' split) <;> (first | (simp only [part_ite, setMpl_part, h_, q_, implies_true, ite_self, not_false_eq_true, if_false]; done) | rfl))
theorem nextSeq_part {o_ : Obj} (q_ : o_.quiet = true) (h_ : ¬ o_.id ∈ Footprint.nextSeq) (n : Nat) (s : State) :
    (nextSeq n s).2.part o_ = s.part o_ := by
  simp only [Footprint.nextSeq, List.mem_append, List.mem_cons, List.not_mem_nil, or_false, false_or, not_or] at h_
  unfold nextSeq
  first
  | (simp only [part_ite, part_set, h_, q_, implies_true, ite_self, not_false_eq_true, if_false]; done)
  | ((try simp only [part_ite, part_set, h_, q_, implies_true, ite_self, not_false_eq_true, if_false]) <;> (repeat' split) <;> (first | (simp only [part_ite, part_set, h_, q_, implies_true, ite_self, not_false_eq_true, if_false]; done) | rfl))
theorem queueFrame_part {o_ : Obj} (q_ : o_.quiet = true) (h_ : ¬ o_.id ∈ Footprint.queueFrame) (n typ prio : Nat) (payload : List Byte) (s : State) :
    (queueFrame n typ prio payload s).part o_ = s.part o_ := by
  simp only [Footprint.queueFrame, List.mem_append, List.mem_cons, List.not_mem_nil, or_false, false_or, not_or] at h_
  unfold queueFrame
  first
  | (simp only [part_ite, part_setLog, nextSeq_part, h_, q_, implies_true, ite_self, not_false_eq_true, if_false]; done)
  | ((try simp only [part_ite, part_setLog, nextSeq_part, h_, q_, implies_true, ite_self, not_false_eq_true, if_false]) <;> (repeat' split) <;> (first | (simp only [part_ite, part_setLog, nextSeq_part, h_, q_, implies_true, ite_self, not_false_eq_true, if_false]; done) | rfl))
theorem transmit_part {o_ : Obj} (q_ : o_.quiet = true)  (f : List Byte) (map : Nat) (w : Nat) (s : State) :
    (transmit f map w s).part o_ = s.part o_ := by
  unfold transmit
  first
  | (simp only [part_ite, part_emit, q_, implies_true, ite_self, not_false_eq_true, if_false]; done)
  | ((try simp only [part_ite, part_emit, q_, implies_true, ite_self, not_false_eq_true, if_false]) <;> (repeat' split) <;> (first | (simp only [part_ite, part_emit, q_, implies_true, ite_self, not_false_eq_true, if_false]; done) | rfl))
theorem osAbsent_part {o_ : Obj} (q_ : o_.quiet = true) (h_ : ¬ o_.id ∈ Footprint.osAbsent) (n : Nat) (s : State) :
    (osAbsent n s).part o_ = s.part o_ := by
  simp only [Footprint.osAbsent, List.mem_append, List.mem_cons, List.not_mem_nil, or_false, false_or, not_or] at h_
  unfold osAbsent
  first
  | (simp only [part_ite, part_set, part_setBit, logEvent_part, h_, q_, implies_true, ite_self, not_false_eq_true, if_false]; done)
  | ((try simp only [part_ite, part_set, part_setBit, logEvent_part, h_, q_, implies_true, ite_self, not_false_eq_true, if_false]) <;> (repeat' split) <;> (first | (simp only [part_ite, part_set, part_setBit, logEvent_part, h_, q_, implies_true, ite_self, not_false_eq_true, if_false]; done) | rfl))
theorem giveUp_part {o_ : Obj} (q_ : o_.quiet = true) (h_ : ¬ o_.id ∈ Footprint.giveUp) (f : List Byte) (s : State) :
    (giveUp f s).part o_ = s.part o_ := by
  simp only [Footprint.giveUp, List.mem_append, List.mem_cons, List.not_mem_nil, or_false, false_or, not_or] at h_
  unfold giveUp
  first
  | (simp only [part_ite, part_set, part_inc, part_setLog, logEvent_part, osAbsent_part, h_, q_, implies_true, ite_self, not_false_eq_true, if_false]; done)
  | ((try simp only [part_ite, part_set, part_inc, part_setLog, logEvent_part, osAbsent_part, h_, q_, implies_true, ite_self, not_false_eq_true, if_false]) <;> (repeat' split) <;> (first | (simp only [part_ite, part_set, part_inc, part_setLog, logEvent_part, osAbsent_part, h_, q_, implies_true, ite_self, not_false_eq_true, if_false]; done) | rfl))
theorem commandOs_part {o_ : Obj} (q_ : o_.quiet = true) (h_ : ¬ o_.id ∈ Footprint.commandOs) (n : Nat) (data : List Byte) (t : State) {t_ : State} (e_ : commandOs n data t = .ok t_) :
    t_.part o_ = t.part o_ := by
  simp only [Footprint.commandOs, List.mem_append, List.mem_cons, List.not_mem_nil, or_false, false_or, not_or] at h_
  unfold commandOs at e_
  (repeat' split at e_) <;> cases e_ <;> (first | (simp only [part_ite, part_set, part_setBytes, part_setLog, queueFrame_part, h_, q_, implies_true, ite_self, not_false_eq_true, if_false]; done) | rfl)
theorem bodyFails_part {o_ : Obj} (q_ : o_.quiet = true) (h_ : ¬ o_.id ∈ Footprint.bodyFails) (n : Nat) (s : State) :
    (bodyFails n s).part o_ = s.part o_ := by
  simp only [Footprint.bodyFails, List.mem_append, List.mem_cons, List.not_mem_nil, or_false, false_or, not_or] at h_
  unfold bodyFails
  first
  | (simp only [part_ite, part_set, h_, q_, implies_true, ite_self, not_false_eq_true, if_false]; done)
  | ((try simp only [part_ite, part_set, h_, q_, implies_true, ite_self, not_false_eq_true, if_false]) <;> (repeat' split) <;> (first | (simp only [part_ite, part_set, h_, q_, implies_true, ite_self, not_false_eq_true, if_false]; done) | rfl))
theorem osAnswers_part {o_ : Obj} (q_ : o_.quiet = true) (h_ : ¬ o_.id ∈ Footprint.osAnswers) (n : Nat) (s : State) :
    (osAnswers n s).part o_ = s.part o_ := by
  simp only [Footprint.osAnswers, List.mem_append, List.mem_cons, List.not_mem_nil, or_false, false_or, not_or] at h_
  unfold osAnswers
  first
  | (simp only [part_ite, part_set, part_setBit, logEvent_part, h_, q_, implies_true, ite_self, not_false_eq_true, if_false]; done)
  | ((try simp only [part_ite, part_set, part_setBit, logEvent_part, h_, q_, implies_true, ite_self, not_false_eq_true, if_false]) <;> (repeat' split) <;> (first | (simp only [part_ite, part_set, part_setBit, logEvent_part, h_, q_, implies_true, ite_self, not_false_eq_true, if_false]; done) | rfl))
theorem settleAwait_part {o_ : Obj} (q_ : o_.quiet = true) (h_ : ¬ o_.id ∈ Footprint.settleAwait) (s : State) :
    (settleAwait s).part o_ = s.part o_ := by
  simp only [Footprint.settleAwait, List.mem_append, List.mem_cons, List.not_mem_nil, or_false, false_or, not_or] at h_
  unfold settleAwait
  first
  | (simp only [part_ite, part_set, part_setLog, h_, q_, implies_true, ite_self, not_false_eq_true, if_false]; done)
  | ((try simp only [part_ite, part_set, part_setLog, h_, q_, implies_true, ite_self, not_false_eq_true, if_false]) <;> (repeat' split) <;> (first | (simp only [part_ite, part_set, part_setLog, h_, q_, implies_true, ite_self, not_false_eq_true, if_false]; done) | rfl))
theorem queueAck_part {o_ : Obj} (q_ : o_.quiet = true) (h_ : ¬ o_.id ∈ Footprint.queueAck) (n seq : Nat) (s : State) :
    (queueAck n seq s).part o_ = s.part o_ := by
  simp only [Footprint.queueAck, List.mem_append, List.mem_cons, List.not_mem_nil, or_false, false_or, not_or] at h_
  unfold queueAck
  first
  | (simp only [part_ite, queueFrame_part, h_, q_, implies_true, ite_self, not_false_eq_true, if_false]; done)
  | ((try simp only [part_ite, queueFrame_part, h_, q_, implies_true, ite_self, not_false_eq_true, if_false]) <;> (repeat' split) <;> (first | (simp only [part_ite, queueFrame_part, h_, q_, implies_true, ite_self, not_false_eq_true, if_false]; done) | rfl))
theorem hearActive_part {o_ : Obj} (q_ : o_.quiet = true) (h_ : ¬ o_.id ∈ Footprint.hearActive) (typ : Nat) (header : List Byte) (s : State) :
    (hearActive typ header s).part o_ = s.part o_ := by
  simp only [Footprint.hearActive, List.mem_append, List.mem_cons, List.not_mem_nil, or_false, false_or, not_or] at h_
  unfold hearActive
  first
  | (simp only [part_ite, part_set, part_setLog, h_, q_, implies_true, ite_self, not_false_eq_true, if_false]; done)
  | ((try simp only [part_ite, part_set, part_setLog, h_, q_, implies_true, ite_self, not_false_eq_true, if_false]) <;> (repeat' split) <;> (first | (simp only [part_ite, part_set, part_setLog, h_, q_, implies_true, ite_self, not_false_eq_true, if_false]; done) | rfl))
theorem takeFrame_part {o_ : Obj} (q_ : o_.quiet = true) (h_ : ¬ o_.id ∈ Footprint.takeFrame) (typ : Nat) (header body : List Byte)
    {again act : Nat → List Byte → State → State} (a_ : ∀ n h u, (again n h u).part o_ = u.part o_)
    (b_ : ∀ n h u, (act n h u).part o_ = u.part o_) (s : State) : (takeFrame typ header body again act s).part o_ = s.part o_ := by
  simp only [Footprint.takeFrame, List.mem_append, List.mem_cons, List.not_mem_nil, or_false, false_or, not_or, and_assoc] at h_
  unfold takeFrame
  dsimp only
  split
  · exact hearActive_part q_ h_.2.2.1 _ _ _
  · split
    · split
      · exact bodyFails_part q_ h_.2.2.2.1 _ _
      · rfl
    · split
      · exact a_ _ _ _
      · rw [b_, osAnswers_part q_ h_.2.2.2.2, part_set h_.2.1, part_set h_.1]

theorem installMap_part {o_ : Obj} (q_ : o_.quiet = true) (h_ : ¬ o_.id ∈ Footprint.installMap) (n dir gen map : Nat) (s : State) :
    (installMap n dir gen map s).part o_ = s.part o_ := by
  simp only [Footprint.installMap, List.mem_append, List.mem_cons, List.not_mem_nil, or_false, false_or, not_or] at h_
  unfold installMap
  first
  | (simp only [part_ite, part_set, part_setBit, logEvent_part, h_, q_, implies_true, ite_self, not_false_eq_true, if_false]; done)
  | ((try simp only [part_ite, part_set, part_setBit, logEvent_part, h_, q_, implies_true, ite_self, not_false_eq_true, if_false]) <;> (repeat' split) <;> (first | (simp only [part_ite, part_set, part_setBit, logEvent_part, h_, q_, implies_true, ite_self, not_false_eq_true, if_false]; done) | rfl))
theorem showRunning_part {o_ : Obj} (q_ : o_.quiet = true) (h_ : ¬ o_.id ∈ Footprint.showRunning) (s : State) :
    (showRunning s).part o_ = s.part o_ := by
  simp only [Footprint.showRunning, List.mem_append, List.mem_cons, List.not_mem_nil, or_false, false_or, not_or] at h_
  unfold showRunning
  first
  | (simp only [part_ite, part_set, forN_part, h_, q_, implies_true, ite_self, not_false_eq_true, if_false]; done)
  | ((try simp only [part_ite, part_set, forN_part, h_, q_, implies_true, ite_self, not_false_eq_true, if_false]) <;> (repeat' split) <;> (first | (simp only [part_ite, part_set, forN_part, h_, q_, implies_true, ite_self, not_false_eq_true, if_false]; done) | rfl))
theorem rankDemand_part {o_ : Obj} (q_ : o_.quiet = true) (h_ : ¬ o_.id ∈ Footprint.rankDemand) (m : Nat) (slot : Int) (v e : Int) (s : State) :
    (rankDemand m slot v e s).part o_ = s.part o_ := by
  simp only [Footprint.rankDemand, List.mem_append, List.mem_cons, List.not_mem_nil, or_false, false_or, not_or] at h_
  unfold rankDemand
  first
  | (simp only [part_ite, part_set, foldl_part, h_, q_, implies_true, ite_self, not_false_eq_true, if_false]; done)
  | ((try simp only [part_ite, part_set, foldl_part, h_, q_, implies_true, ite_self, not_false_eq_true, if_false]) <;> (repeat' split) <;> (first | (simp only [part_ite, part_set, foldl_part, h_, q_, implies_true, ite_self, not_false_eq_true, if_false]; done) | rfl))
theorem judgeDemand_part {o_ : Obj} (q_ : o_.quiet = true) (h_ : ¬ o_.id ∈ Footprint.judgeDemand) (e : Int) (slot : Int) (s : State) :
    (judgeDemand e slot s).part o_ = s.part o_ := by
  simp only [Footprint.judgeDemand, List.mem_append, List.mem_cons, List.not_mem_nil, or_false, false_or, not_or] at h_
  unfold judgeDemand
  first
  | (simp only [part_ite, part_set, part_setSeq, forN_part, logEvent_part, rankDemand_part, h_, q_, implies_true, ite_self, not_false_eq_true, if_false]; done)
  | ((try simp only [part_ite, part_set, part_setSeq, forN_part, logEvent_part, rankDemand_part, h_, q_, implies_true, ite_self, not_false_eq_true, if_false]) <;> (repeat' split) <;> (first | (simp only [part_ite, part_set, part_setSeq, forN_part, logEvent_part, rankDemand_part, h_, q_, implies_true, ite_self, not_false_eq_true, if_false]; done) | rfl))
theorem restartDemand_part {o_ : Obj} (q_ : o_.quiet = true) (h_ : ¬ o_.id ∈ Footprint.restartDemand) (t0 : Int) (s : State) :
    (restartDemand t0 s).part o_ = s.part o_ := by
  simp only [Footprint.restartDemand, List.mem_append, List.mem_cons, List.not_mem_nil, or_false, false_or, not_or] at h_
  unfold restartDemand
  first
  | (simp only [part_ite, part_set, part_setSeq, forN_part, h_, q_, implies_true, ite_self, not_false_eq_true, if_false]; done)
  | ((try simp only [part_ite, part_set, part_setSeq, forN_part, h_, q_, implies_true, ite_self, not_false_eq_true, if_false]) <;> (repeat' split) <;> (first | (simp only [part_ite, part_set, part_setSeq, forN_part, h_, q_, implies_true, ite_self, not_false_eq_true, if_false]; done) | rfl))
theorem closePeriod_part {o_ : Obj} (q_ : o_.quiet = true) (h_ : ¬ o_.id ∈ Footprint.closePeriod) (cause at_ : Int) (skipped : Bool) (s : State) :
    (closePeriod cause at_ skipped s).part o_ = s.part o_ := by
  simp only [Footprint.closePeriod, List.mem_append, List.mem_cons, List.not_mem_nil, or_false, false_or, not_or, and_assoc] at h_
  unfold closePeriod
  dsimp only
  obtain ⟨a1, a2, a3, a4, a5, a6, a7, a8, a9, a10, a11, b⟩ := h_
  have e (u : State) : (State.part (match (s.log Reg.closedPeriods).getLast? with
      | some x => if 24 ≤ (s.log Reg.closedPeriods).length then dropItem 3 x u else u
      | none => u) o_) = u.part o_ := by
    split
    · split
      · exact dropItem_part q_ _ _ _
      · rfl
    · rfl
  simp only [part_ite, restartDemand_part q_ b, part_set a11, part_set a10, part_set a9, part_set a8, forN_part, part_set a7,
    part_set a6, part_set a5, part_set a4, part_set a3, part_set a2, logEvent_part q_, queueItem_part q_, e, part_setLog a1,
    implies_true, ite_self]
  all_goals exact (e _).trans (part_setLog a1 _ _)
theorem activateCalendar_part {o_ : Obj} (q_ : o_.quiet = true) (h_ : ¬ o_.id ∈ Footprint.activateCalendar) (s : State) :
    (activateCalendar s).part o_ = s.part o_ := by
  simp only [Footprint.activateCalendar, List.mem_append, List.mem_cons, List.not_mem_nil, or_false, false_or, not_or, and_assoc] at h_
  unfold activateCalendar
  dsimp only
  obtain ⟨a1, a2, a3, a4, a5, a6⟩ := h_
  rw [logEvent_part q_, part_set a6, part_inc a5, forN_part, forN_part, forN_part, forN_part]
  · exact fun k u => part_set a1 _ _ _
  · exact fun k u => forN_part (fun j w => part_set a2 _ _ _) _ _
  · exact fun k u => forN_part (fun j w => part_set a3 _ _ _) _ _
  · exact fun k u => part_set a4 _ _ _
theorem switchSlot_part {o_ : Obj} (q_ : o_.quiet = true) (h_ : ¬ o_.id ∈ Footprint.switchSlot) (v : Int) (s : State) :
    (switchSlot v s).part o_ = s.part o_ := by
  simp only [Footprint.switchSlot, List.mem_append, List.mem_cons, List.not_mem_nil, or_false, false_or, not_or] at h_
  unfold switchSlot
  first
  | (simp only [part_ite, part_set, logEvent_part, h_, q_, implies_true, ite_self, not_false_eq_true, if_false]; done)
  | ((try simp only [part_ite, part_set, logEvent_part, h_, q_, implies_true, ite_self, not_false_eq_true, if_false]) <;> (repeat' split) <;> (first | (simp only [part_ite, part_set, logEvent_part, h_, q_, implies_true, ite_self, not_false_eq_true, if_false]; done) | rfl))
theorem storeBoundary_part {o_ : Obj} (q_ : o_.quiet = true) (h_ : ¬ o_.id ∈ Footprint.storeBoundary) (oldSlot flags period : Int) (demands : List Int) (s : State) :
    (storeBoundary oldSlot flags period demands s).part o_ = s.part o_ := by
  simp only [Footprint.storeBoundary, List.mem_append, List.mem_cons, List.not_mem_nil, or_false, false_or, not_or] at h_
  unfold storeBoundary
  first
  | (simp only [part_ite, part_set, part_setLog, submit_part, h_, q_, implies_true, ite_self, not_false_eq_true, if_false]; done)
  | ((try simp only [part_ite, part_set, part_setLog, submit_part, h_, q_, implies_true, ite_self, not_false_eq_true, if_false]) <;> (repeat' split) <;> (first | (simp only [part_ite, part_set, part_setLog, submit_part, h_, q_, implies_true, ite_self, not_false_eq_true, if_false]; done) | rfl))
theorem applyBoundary_part {o_ : Obj} (q_ : o_.quiet = true) (h_ : ¬ o_.id ∈ Footprint.applyBoundary) (s : State) :
    (applyBoundary s).part o_ = s.part o_ := by
  simp only [Footprint.applyBoundary, List.mem_append, List.mem_cons, List.not_mem_nil, or_false, false_or, not_or] at h_
  unfold applyBoundary
  first
  | (simp only [part_ite, part_set, part_setB, part_setBit, logEvent_part, judgeDemand_part, closePeriod_part, activateCalendar_part, switchSlot_part, storeBoundary_part, h_, q_, implies_true, ite_self, not_false_eq_true, if_false]; done)
  | ((try simp only [part_ite, part_set, part_setB, part_setBit, logEvent_part, judgeDemand_part, closePeriod_part, activateCalendar_part, switchSlot_part, storeBoundary_part, h_, q_, implies_true, ite_self, not_false_eq_true, if_false]) <;> (repeat' split) <;> (first | (simp only [part_ite, part_set, part_setB, part_setBit, logEvent_part, judgeDemand_part, closePeriod_part, activateCalendar_part, switchSlot_part, storeBoundary_part, h_, q_, implies_true, ite_self, not_false_eq_true, if_false]; done) | rfl))
theorem joinBoundary_part {o_ : Obj} (q_ : o_.quiet = true) (h_ : ¬ o_.id ∈ Footprint.joinBoundary) (kind : Nat) (inst : Int) (s : State) :
    (joinBoundary kind inst s).part o_ = s.part o_ := by
  simp only [Footprint.joinBoundary, List.mem_append, List.mem_cons, List.not_mem_nil, or_false, false_or, not_or] at h_
  unfold joinBoundary
  first
  | (simp only [part_ite, part_set, part_setBit, applyBoundary_part, h_, q_, implies_true, ite_self, not_false_eq_true, if_false]; done)
  | ((try simp only [part_ite, part_set, part_setBit, applyBoundary_part, h_, q_, implies_true, ite_self, not_false_eq_true, if_false]) <;> (repeat' split) <;> (first | (simp only [part_ite, part_set, part_setBit, applyBoundary_part, h_, q_, implies_true, ite_self, not_false_eq_true, if_false]; done) | rfl))
theorem setActivation_part {o_ : Obj} (q_ : o_.quiet = true) (h_ : ¬ o_.id ∈ Footprint.setActivation) (v : Int) (t : State) :
    (setActivation v t).part o_ = t.part o_ := by
  simp only [Footprint.setActivation, List.mem_append, List.mem_cons, List.not_mem_nil, or_false, false_or, not_or] at h_
  unfold setActivation
  first
  | (simp only [part_ite, part_set, h_, q_, implies_true, ite_self, not_false_eq_true, if_false]; done)
  | ((try simp only [part_ite, part_set, h_, q_, implies_true, ite_self, not_false_eq_true, if_false]) <;> (repeat' split) <;> (first | (simp only [part_ite, part_set, h_, q_, implies_true, ite_self, not_false_eq_true, if_false]; done) | rfl))
theorem clockStep_part {o_ : Obj} (q_ : o_.quiet = true) (h_ : ¬ o_.id ∈ Footprint.clockStep) (before : Int) (s : State) :
    (clockStep before s).part o_ = s.part o_ := by
  simp only [Footprint.clockStep, List.mem_append, List.mem_cons, List.not_mem_nil, or_false, false_or, not_or] at h_
  unfold clockStep
  first
  | (simp only [part_ite, part_set, part_setBit, forN_part, joinBoundary_part, h_, q_, implies_true, ite_self, not_false_eq_true, if_false]; done)
  | ((try simp only [part_ite, part_set, part_setBit, forN_part, joinBoundary_part, h_, q_, implies_true, ite_self, not_false_eq_true, if_false]) <;> (repeat' split) <;> (first | (simp only [part_ite, part_set, part_setBit, forN_part, joinBoundary_part, h_, q_, implies_true, ite_self, not_false_eq_true, if_false]; done) | rfl))
theorem derivedEnd_part {o_ : Obj} (q_ : o_.quiet = true) (h_ : ¬ o_.id ∈ Footprint.derivedEnd) (cut e : Int) (s : State) :
    (derivedEnd cut e s).part o_ = s.part o_ := by
  simp only [Footprint.derivedEnd, List.mem_append, List.mem_cons, List.not_mem_nil, or_false, false_or, not_or] at h_
  unfold derivedEnd
  first
  | (simp only [part_ite, part_set, judgeDemand_part, h_, q_, implies_true, ite_self, not_false_eq_true, if_false]; done)
  | ((try simp only [part_ite, part_set, judgeDemand_part, h_, q_, implies_true, ite_self, not_false_eq_true, if_false]) <;> (repeat' split) <;> (first | (simp only [part_ite, part_set, judgeDemand_part, h_, q_, implies_true, ite_self, not_false_eq_true, if_false]; done) | rfl))
theorem derivedEnds_part {o_ : Obj} (q_ : o_.quiet = true) (h_ : ¬ o_.id ∈ Footprint.derivedEnds) (cut held now : Int)
    (closing : Option Int) (n : Nat) (e : Int) (s : State) : (derivedEnds cut held now closing n e s).1.part o_ = s.part o_ := by
  simp only [Footprint.derivedEnds, List.mem_append, List.mem_cons, List.not_mem_nil, or_false, false_or, not_or, and_assoc] at h_
  induction n generalizing e s with
  | zero => rfl
  | succ n ih =>
    unfold derivedEnds
    dsimp only
    split
    · rfl
    · rw [ih, derivedEnd_part q_ h_.2.2, part_ite, part_set h_.1, closePeriod_part q_ h_.2.1, ite_self]
theorem putSlot_part {o_ : Obj} (q_ : o_.quiet = true) (h_ : ¬ o_.id ∈ Footprint.putSlot) (now : Int) (s : State) :
    (putSlot now s).part o_ = s.part o_ := by
  simp only [Footprint.putSlot, List.mem_append, List.mem_cons, List.not_mem_nil, or_false, false_or, not_or] at h_
  unfold putSlot
  first
  | (simp only [part_ite, part_setB, switchSlot_part, h_, q_, implies_true, ite_self, not_false_eq_true, if_false]; done)
  | ((try simp only [part_ite, part_setB, switchSlot_part, h_, q_, implies_true, ite_self, not_false_eq_true, if_false]) <;> (repeat' split) <;> (first | (simp only [part_ite, part_setB, switchSlot_part, h_, q_, implies_true, ite_self, not_false_eq_true, if_false]; done) | rfl))
theorem firstInterval_part {o_ : Obj} (q_ : o_.quiet = true) (h_ : ¬ o_.id ∈ Footprint.firstInterval) (now : Int) (s : State) :
    (firstInterval now s).part o_ = s.part o_ := by
  simp only [Footprint.firstInterval, List.mem_append, List.mem_cons, List.not_mem_nil, or_false, false_or, not_or] at h_
  unfold firstInterval
  first
  | (simp only [part_ite, part_set, restartDemand_part, putSlot_part, h_, q_, implies_true, ite_self, not_false_eq_true, if_false]; done)
  | ((try simp only [part_ite, part_set, restartDemand_part, putSlot_part, h_, q_, implies_true, ite_self, not_false_eq_true, if_false]) <;> (repeat' split) <;> (first | (simp only [part_ite, part_set, restartDemand_part, putSlot_part, h_, q_, implies_true, ite_self, not_false_eq_true, if_false]; done) | rfl))
theorem beginDerivation_part {o_ : Obj} (q_ : o_.quiet = true) (h_ : ¬ o_.id ∈ Footprint.beginDerivation) (closing : Option (Int × Int × Nat)) (now : Int) (s : State) :
    (beginDerivation closing now s).part o_ = s.part o_ := by
  simp only [Footprint.beginDerivation, List.mem_append, List.mem_cons, List.not_mem_nil, or_false, false_or, not_or] at h_
  unfold beginDerivation
  first
  | (simp only [part_ite, part_set, h_, q_, implies_true, ite_self, not_false_eq_true, if_false]; done)
  | ((try simp only [part_ite, part_set, h_, q_, implies_true, ite_self, not_false_eq_true, if_false]) <;> (repeat' split) <;> (first | (simp only [part_ite, part_set, h_, q_, implies_true, ite_self, not_false_eq_true, if_false]; done) | rfl))
theorem deriveClosing_part {o_ : Obj} (q_ : o_.quiet = true) (h_ : ¬ o_.id ∈ Footprint.deriveClosing) (closing : Option (Int × Int × Nat)) (s : State) :
    (deriveClosing closing s).part o_ = s.part o_ := by
  simp only [Footprint.deriveClosing, List.mem_append, List.mem_cons, List.not_mem_nil, or_false, false_or, not_or] at h_
  unfold deriveClosing
  first
  | (simp only [part_ite, part_set, closePeriod_part, h_, q_, implies_true, ite_self, not_false_eq_true, if_false]; done)
  | ((try simp only [part_ite, part_set, closePeriod_part, h_, q_, implies_true, ite_self, not_false_eq_true, if_false]) <;> (repeat' split) <;> (first | (simp only [part_ite, part_set, closePeriod_part, h_, q_, implies_true, ite_self, not_false_eq_true, if_false]; done) | rfl))
theorem skipEnds_part {o_ : Obj} (q_ : o_.quiet = true) (h_ : ¬ o_.id ∈ Footprint.skipEnds) (last now : Int) (s : State) :
    (skipEnds last now s).part o_ = s.part o_ := by
  simp only [Footprint.skipEnds, List.mem_append, List.mem_cons, List.not_mem_nil, or_false, false_or, not_or] at h_
  unfold skipEnds
  first
  | (simp only [part_ite, part_set, part_setBit, part_setSeq, forN_part, h_, q_, implies_true, ite_self, not_false_eq_true, if_false]; done)
  | ((try simp only [part_ite, part_set, part_setBit, part_setSeq, forN_part, h_, q_, implies_true, ite_self, not_false_eq_true, if_false]) <;> (repeat' split) <;> (first | (simp only [part_ite, part_set, part_setBit, part_setSeq, forN_part, h_, q_, implies_true, ite_self, not_false_eq_true, if_false]; done) | rfl))
theorem deriveKinds_part {o_ : Obj} (q_ : o_.quiet = true) (h_ : ¬ o_.id ∈ Footprint.deriveKinds) (demands : List Int) (period old now : Int) (s : State) :
    (deriveKinds demands period old now s).part o_ = s.part o_ := by
  simp only [Footprint.deriveKinds, List.mem_append, List.mem_cons, List.not_mem_nil, or_false, false_or, not_or] at h_
  unfold deriveKinds
  first
  | (simp only [part_ite, part_setBit, putSlot_part, h_, q_, implies_true, ite_self, not_false_eq_true, if_false]; done)
  | ((try simp only [part_ite, part_setBit, putSlot_part, h_, q_, implies_true, ite_self, not_false_eq_true, if_false]) <;> (repeat' split) <;> (first | (simp only [part_ite, part_setBit, putSlot_part, h_, q_, implies_true, ite_self, not_false_eq_true, if_false]; done) | rfl))
theorem deriveBoundaries_part {o_ : Obj} (q_ : o_.quiet = true) (h_ : ¬ o_.id ∈ Footprint.deriveBoundaries) (s : State) :
    (deriveBoundaries s).part o_ = s.part o_ := by
  simp only [Footprint.deriveBoundaries, List.mem_append, List.mem_cons, List.not_mem_nil, or_false, false_or, not_or] at h_
  unfold deriveBoundaries
  first
  | (simp only [part_ite, part_set, logEvent_part, firstInterval_part, beginDerivation_part, derivedEnds_part, deriveKinds_part, skipEnds_part, deriveClosing_part, storeBoundary_part, h_, q_, implies_true, ite_self, not_false_eq_true, if_false]; done)
  | ((try simp only [part_ite, part_set, logEvent_part, firstInterval_part, beginDerivation_part, derivedEnds_part, deriveKinds_part, skipEnds_part, deriveClosing_part, storeBoundary_part, h_, q_, implies_true, ite_self, not_false_eq_true, if_false]) <;> (repeat' split) <;> (first | (simp only [part_ite, part_set, logEvent_part, firstInterval_part, beginDerivation_part, derivedEnds_part, deriveKinds_part, skipEnds_part, deriveClosing_part, storeBoundary_part, h_, q_, implies_true, ite_self, not_false_eq_true, if_false]; done) | rfl))
theorem publishPlan_part {o_ : Obj} (q_ : o_.quiet = true) (h_ : ¬ o_.id ∈ Footprint.publishPlan) (s : State) :
    (publishPlan s).part o_ = s.part o_ := by
  simp only [Footprint.publishPlan, List.mem_append, List.mem_cons, List.not_mem_nil, or_false, false_or, not_or, and_assoc] at h_
  obtain ⟨a1, a2, a3, a4, a5⟩ := h_
  unfold publishPlan
  simp only []
  rw [part_set a5, part_set a4, forN_part, foldl_part, forN_part]
  · intro c u
    split
    · rfl
    · rw [part_set a2, part_set a1]
  · intro x u
    rw [part_setB a2]
    split
    · rw [logEvent_part q_, part_set a1]
    · rw [part_set a1]
  · intro n u
    split <;> exact part_set a3 _ _ _
theorem restartChannel_part {o_ : Obj} (q_ : o_.quiet = true) (h_ : ¬ o_.id ∈ Footprint.restartChannel) (c : Nat) (s : State) :
    (restartChannel c s).part o_ = s.part o_ := by
  simp only [Footprint.restartChannel, List.mem_append, List.mem_cons, List.not_mem_nil, or_false, false_or, not_or] at h_
  unfold restartChannel
  first
  | (simp only [part_ite, part_set, part_setSeq, h_, q_, implies_true, ite_self, not_false_eq_true, if_false]; done)
  | ((try simp only [part_ite, part_set, part_setSeq, h_, q_, implies_true, ite_self, not_false_eq_true, if_false]) <;> (repeat' split) <;> (first | (simp only [part_ite, part_set, part_setSeq, h_, q_, implies_true, ite_self, not_false_eq_true, if_false]; done) | rfl))
theorem takeReading_part {o_ : Obj} (q_ : o_.quiet = true) (h_ : ¬ o_.id ∈ Footprint.takeReading) (readings : List (Int × Int)) (c : Nat) (s : State) :
    (takeReading readings c s).part o_ = s.part o_ := by
  simp only [Footprint.takeReading, List.mem_append, List.mem_cons, List.not_mem_nil, or_false, false_or, not_or] at h_
  unfold takeReading
  first
  | (simp only [part_ite, part_set, part_setSeq, restartChannel_part, h_, q_, implies_true, ite_self, not_false_eq_true, if_false]; done)
  | ((try simp only [part_ite, part_set, part_setSeq, restartChannel_part, h_, q_, implies_true, ite_self, not_false_eq_true, if_false]) <;> (repeat' split) <;> (first | (simp only [part_ite, part_set, part_setSeq, restartChannel_part, h_, q_, implies_true, ite_self, not_false_eq_true, if_false]; done) | rfl))
theorem judgeChannel_part {o_ : Obj} (q_ : o_.quiet = true) (h_ : ¬ o_.id ∈ Footprint.judgeChannel) (readings : List (Int × Int)) (c : Nat) (s : State) :
    (judgeChannel readings c s).part o_ = s.part o_ := by
  simp only [Footprint.judgeChannel, List.mem_append, List.mem_cons, List.not_mem_nil, or_false, false_or, not_or] at h_
  unfold judgeChannel
  first
  | (simp only [part_ite, part_set, logEvent_part, h_, q_, implies_true, ite_self, not_false_eq_true, if_false]; done)
  | ((try simp only [part_ite, part_set, logEvent_part, h_, q_, implies_true, ite_self, not_false_eq_true, if_false]) <;> (repeat' split) <;> (first | (simp only [part_ite, part_set, logEvent_part, h_, q_, implies_true, ite_self, not_false_eq_true, if_false]; done) | rfl))
theorem judgeStop_part {o_ : Obj} (q_ : o_.quiet = true) (h_ : ¬ o_.id ∈ Footprint.judgeStop) (n : Nat) (s : State) :
    (judgeStop n s).part o_ = s.part o_ := by
  simp only [Footprint.judgeStop, List.mem_append, List.mem_cons, List.not_mem_nil, or_false, false_or, not_or] at h_
  unfold judgeStop
  first
  | (simp only [part_ite, part_set, logEvent_part, outletFault_part, h_, q_, implies_true, ite_self, not_false_eq_true, if_false]; done)
  | ((try simp only [part_ite, part_set, logEvent_part, outletFault_part, h_, q_, implies_true, ite_self, not_false_eq_true, if_false]) <;> (repeat' split) <;> (first | (simp only [part_ite, part_set, logEvent_part, outletFault_part, h_, q_, implies_true, ite_self, not_false_eq_true, if_false]; done) | rfl))
theorem connectorStep_part {o_ : Obj} (q_ : o_.quiet = true) (h_ : ¬ o_.id ∈ Footprint.connectorStep) (n : Nat) (s : State) :
    (connectorStep n s).part o_ = s.part o_ := by
  simp only [Footprint.connectorStep, List.mem_append, List.mem_cons, List.not_mem_nil, or_false, false_or, not_or] at h_
  unfold connectorStep
  first
  | (simp only [part_ite, part_set, part_setB, foldl_part, part_draw, logEvent_part, h_, q_, implies_true, ite_self, not_false_eq_true, if_false]; done)
  | ((try simp only [part_ite, part_set, part_setB, foldl_part, part_draw, logEvent_part, h_, q_, implies_true, ite_self, not_false_eq_true, if_false]) <;> (repeat' split) <;> (first | (simp only [part_ite, part_set, part_setB, foldl_part, part_draw, logEvent_part, h_, q_, implies_true, ite_self, not_false_eq_true, if_false]; done) | rfl))
theorem stopSessions_part {o_ : Obj} (q_ : o_.quiet = true) (h_ : ¬ o_.id ∈ Footprint.stopSessions) (cause : Int) (s : State) :
    (stopSessions cause s).part o_ = s.part o_ := by
  simp only [Footprint.stopSessions, List.mem_append, List.mem_cons, List.not_mem_nil, or_false, false_or, not_or, and_assoc] at h_
  refine forN_part (fun n u => ?_) _ _
  split
  · split
    · exact normalStop_part q_ h_ _ _ _
    · rfl
  · rfl
theorem judgeDies_part {o_ : Obj} (q_ : o_.quiet = true) (h_ : ¬ o_.id ∈ Footprint.judgeDies) (was : Nat → Int) (s : State) :
    (judgeDies was s).part o_ = s.part o_ := by
  simp only [Footprint.judgeDies, List.mem_append, List.mem_cons, List.not_mem_nil, or_false, false_or, not_or] at h_
  unfold judgeDies
  first
  | (simp only [part_ite, part_set, forL_part, logEvent_part, handOverOr_part, stopSessions_part, h_, q_, implies_true, ite_self, not_false_eq_true, if_false]; done)
  | ((try simp only [part_ite, part_set, forL_part, logEvent_part, handOverOr_part, stopSessions_part, h_, q_, implies_true, ite_self, not_false_eq_true, if_false]) <;> (repeat' split) <;> (first | (simp only [part_ite, part_set, forL_part, logEvent_part, handOverOr_part, stopSessions_part, h_, q_, implies_true, ite_self, not_false_eq_true, if_false]; done) | rfl))
theorem journalOpens_part {o_ : Obj} (q_ : o_.quiet = true) (h_ : ¬ o_.id ∈ Footprint.journalOpens) (s : State) :
    (journalOpens s).part o_ = s.part o_ := by
  simp only [Footprint.journalOpens, List.mem_append, List.mem_cons, List.not_mem_nil, or_false, false_or, not_or] at h_
  unfold journalOpens
  first
  | (simp only [part_ite, part_set, part_setLog, foldl_part, ringEntry_part, h_, q_, implies_true, ite_self, not_false_eq_true, if_false]; done)
  | ((try simp only [part_ite, part_set, part_setLog, foldl_part, ringEntry_part, h_, q_, implies_true, ite_self, not_false_eq_true, if_false]) <;> (repeat' split) <;> (first | (simp only [part_ite, part_set, part_setLog, foldl_part, ringEntry_part, h_, q_, implies_true, ite_self, not_false_eq_true, if_false]; done) | rfl))
theorem judgeWindow_part {o_ : Obj} (q_ : o_.quiet = true) (k : Nat) (o : Obj) (lo hi : Int) (s : State) (h_ : ¬ o_.id ∈ (Footprint.judgeWindow o)) :
    (judgeWindow k o lo hi s).part o_ = s.part o_ := by
  simp only [Footprint.judgeWindow, List.mem_append, List.mem_cons, List.not_mem_nil, or_false, false_or, not_or] at h_
  unfold judgeWindow
  first
  | (simp only [part_ite, part_set, logEvent_part, stopSessions_part, journalOpens_part, h_, q_, implies_true, ite_self, not_false_eq_true, if_false]; done)
  | ((try simp only [part_ite, part_set, logEvent_part, stopSessions_part, journalOpens_part, h_, q_, implies_true, ite_self, not_false_eq_true, if_false]) <;> (repeat' split) <;> (first | (simp only [part_ite, part_set, logEvent_part, stopSessions_part, journalOpens_part, h_, q_, implies_true, ite_self, not_false_eq_true, if_false]; done) | rfl))
theorem judgeWindows_part {o_ : Obj} (q_ : o_.quiet = true) (h_ : ¬ o_.id ∈ Footprint.judgeWindows) (s : State) :
    (judgeWindows s).part o_ = s.part o_ := by
  simp only [Footprint.judgeWindows, List.mem_append, List.mem_cons, List.not_mem_nil, or_false, false_or, not_or] at h_
  unfold judgeWindows
  first
  | (simp only [part_ite, judgeWindow_part, h_, q_, implies_true, ite_self, not_false_eq_true, if_false]; done)
  | ((try simp only [part_ite, judgeWindow_part, h_, q_, implies_true, ite_self, not_false_eq_true, if_false]) <;> (repeat' split) <;> (first | (simp only [part_ite, judgeWindow_part, h_, q_, implies_true, ite_self, not_false_eq_true, if_false]; done) | rfl))
theorem tempOf_part {o_ : Obj} (q_ : o_.quiet = true) (h_ : ¬ o_.id ∈ Footprint.tempOf) (c : Nat) (s : State) :
    (tempOf c s).2.part o_ = s.part o_ := by
  simp only [Footprint.tempOf, List.mem_append, List.mem_cons, List.not_mem_nil, or_false, false_or, not_or] at h_
  unfold tempOf
  first
  | (simp only [part_ite, part_draw, h_, q_, implies_true, ite_self, not_false_eq_true, if_false]; done)
  | ((try simp only [part_ite, part_draw, h_, q_, implies_true, ite_self, not_false_eq_true, if_false]) <;> (repeat' split) <;> (first | (simp only [part_ite, part_draw, h_, q_, implies_true, ite_self, not_false_eq_true, if_false]; done) | rfl))
theorem startModel_part {o_ : Obj} (q_ : o_.quiet = true) (h_ : ¬ o_.id ∈ Footprint.startModel) (n : Nat) (s : State) :
    (startModel n s).part o_ = s.part o_ := by
  simp only [Footprint.startModel, List.mem_append, List.mem_cons, List.not_mem_nil, or_false, false_or, not_or] at h_
  unfold startModel
  first
  | (simp only [part_ite, part_set, part_setReal, foldl_part, h_, q_, implies_true, ite_self, not_false_eq_true, if_false]; done)
  | ((try simp only [part_ite, part_set, part_setReal, foldl_part, h_, q_, implies_true, ite_self, not_false_eq_true, if_false]) <;> (repeat' split) <;> (first | (simp only [part_ite, part_set, part_setReal, foldl_part, h_, q_, implies_true, ite_self, not_false_eq_true, if_false]; done) | rfl))
theorem correctModel_part {o_ : Obj} (q_ : o_.quiet = true) (h_ : ¬ o_.id ∈ Footprint.correctModel) (n : Nat) (s : State) :
    (correctModel n s).part o_ = s.part o_ := by
  simp only [Footprint.correctModel, List.mem_append, List.mem_cons, List.not_mem_nil, or_false, false_or, not_or, and_assoc] at h_
  unfold correctModel
  dsimp only
  split
  · rfl
  · split
    · exact startModel_part q_ h_.2.2.1 _ _
    · rw [foldl_part, part_setReal h_.1, tempOf_part q_ h_.2.2.2, tempOf_part q_ h_.2.2.2]
      intro c u
      split
      · exact part_setReal h_.2.1 _ _ _
      · rfl
theorem showModel_part {o_ : Obj} (q_ : o_.quiet = true) (h_ : ¬ o_.id ∈ Footprint.showModel) (n : Nat) (s : State) :
    (showModel n s).part o_ = s.part o_ := by
  simp only [Footprint.showModel, List.mem_append, List.mem_cons, List.not_mem_nil, or_false, false_or, not_or] at h_
  unfold showModel
  first
  | (simp only [part_ite, part_set, h_, q_, implies_true, ite_self, not_false_eq_true, if_false]; done)
  | ((try simp only [part_ite, part_set, h_, q_, implies_true, ite_self, not_false_eq_true, if_false]) <;> (repeat' split) <;> (first | (simp only [part_ite, part_set, h_, q_, implies_true, ite_self, not_false_eq_true, if_false]; done) | rfl))
theorem modelStep_part {o_ : Obj} (q_ : o_.quiet = true) (h_ : ¬ o_.id ∈ Footprint.modelStep) (n : Nat) (s : State) :
    (modelStep n s).part o_ = s.part o_ := by
  simp only [Footprint.modelStep, List.mem_append, List.mem_cons, List.not_mem_nil, or_false, false_or, not_or] at h_
  unfold modelStep
  first
  | (simp only [part_ite, part_set, part_setReal, logEvent_part, showModel_part, tempOf_part, h_, q_, implies_true, ite_self, not_false_eq_true, if_false]; done)
  | ((try simp only [part_ite, part_set, part_setReal, logEvent_part, showModel_part, tempOf_part, h_, q_, implies_true, ite_self, not_false_eq_true, if_false]) <;> (repeat' split) <;> (first | (simp only [part_ite, part_set, part_setReal, logEvent_part, showModel_part, tempOf_part, h_, q_, implies_true, ite_self, not_false_eq_true, if_false]; done) | rfl))
theorem coolInputs_part {o_ : Obj} (q_ : o_.quiet = true) (h_ : ¬ o_.id ∈ Footprint.coolInputs) (n : Nat) (s : State) :
    (coolInputs n s).part o_ = s.part o_ := by
  simp only [Footprint.coolInputs, List.mem_append, List.mem_cons, List.not_mem_nil, or_false, false_or, not_or] at h_
  unfold coolInputs
  first
  | (simp only [part_ite, part_set, part_setReal, tempOf_part, h_, q_, implies_true, ite_self, not_false_eq_true, if_false]; done)
  | ((try simp only [part_ite, part_set, part_setReal, tempOf_part, h_, q_, implies_true, ite_self, not_false_eq_true, if_false]) <;> (repeat' split) <;> (first | (simp only [part_ite, part_set, part_setReal, tempOf_part, h_, q_, implies_true, ite_self, not_false_eq_true, if_false]; done) | rfl))
theorem coolOutputs_part {o_ : Obj} (q_ : o_.quiet = true) (h_ : ¬ o_.id ∈ Footprint.coolOutputs) (n : Nat) (s : State) :
    (coolOutputs n s).part o_ = s.part o_ := by
  simp only [Footprint.coolOutputs, List.mem_append, List.mem_cons, List.not_mem_nil, or_false, false_or, not_or] at h_
  unfold coolOutputs
  first
  | (simp only [part_ite, part_set, part_draw, h_, q_, implies_true, ite_self, not_false_eq_true, if_false]; done)
  | ((try simp only [part_ite, part_set, part_draw, h_, q_, implies_true, ite_self, not_false_eq_true, if_false]) <;> (repeat' split) <;> (first | (simp only [part_ite, part_set, part_draw, h_, q_, implies_true, ite_self, not_false_eq_true, if_false]; done) | rfl))
theorem driveCooling_part {o_ : Obj} (q_ : o_.quiet = true) (h_ : ¬ o_.id ∈ Footprint.driveCooling) (s : State) :
    (driveCooling s).part o_ = s.part o_ := by
  simp only [Footprint.driveCooling, List.mem_append, List.mem_cons, List.not_mem_nil, or_false, false_or, not_or, and_assoc] at h_
  refine forN_part (fun k u => ?_) _ _
  split
  · split
    · rfl
    · exact commandChannel_part q_ h_ _ _ _
  · rfl
theorem coolantCommand_part {o_ : Obj} (q_ : o_.quiet = true) (h_ : ¬ o_.id ∈ Footprint.coolantCommand) (n : Nat) (s : State) :
    (coolantCommand n s).part o_ = s.part o_ := by
  simp only [Footprint.coolantCommand, List.mem_append, List.mem_cons, List.not_mem_nil, or_false, false_or, not_or] at h_
  unfold coolantCommand
  first
  | (simp only [part_ite, part_set, part_emit, h_, q_, implies_true, ite_self, not_false_eq_true, if_false]; done)
  | ((try simp only [part_ite, part_set, part_emit, h_, q_, implies_true, ite_self, not_false_eq_true, if_false]) <;> (repeat' split) <;> (first | (simp only [part_ite, part_set, part_emit, h_, q_, implies_true, ite_self, not_false_eq_true, if_false]; done) | rfl))
theorem unitSilent_part {o_ : Obj} (q_ : o_.quiet = true) (h_ : ¬ o_.id ∈ Footprint.unitSilent) (n : Nat) (s : State) :
    (unitSilent n s).part o_ = s.part o_ := by
  simp only [Footprint.unitSilent, List.mem_append, List.mem_cons, List.not_mem_nil, or_false, false_or, not_or] at h_
  unfold unitSilent
  first
  | (simp only [part_ite, part_set, logEvent_part, holdSlot_part, h_, q_, implies_true, ite_self, not_false_eq_true, if_false]; done)
  | ((try simp only [part_ite, part_set, logEvent_part, holdSlot_part, h_, q_, implies_true, ite_self, not_false_eq_true, if_false]) <;> (repeat' split) <;> (first | (simp only [part_ite, part_set, logEvent_part, holdSlot_part, h_, q_, implies_true, ite_self, not_false_eq_true, if_false]; done) | rfl))
theorem takeCabinet_part {o_ : Obj} (q_ : o_.quiet = true) (h_ : ¬ o_.id ∈ Footprint.takeCabinet) (c : Nat) (s : State) :
    (takeCabinet c s).part o_ = s.part o_ := by
  simp only [Footprint.takeCabinet, List.mem_append, List.mem_cons, List.not_mem_nil, or_false, false_or, not_or] at h_
  unfold takeCabinet
  first
  | (simp only [part_ite, part_setSeq, forN_part, endEpisode_part, logEpisode_part, h_, q_, implies_true, ite_self, not_false_eq_true, if_false]; done)
  | ((try simp only [part_ite, part_setSeq, forN_part, endEpisode_part, logEpisode_part, h_, q_, implies_true, ite_self, not_false_eq_true, if_false]) <;> (repeat' split) <;> (first | (simp only [part_ite, part_setSeq, forN_part, endEpisode_part, logEpisode_part, h_, q_, implies_true, ite_self, not_false_eq_true, if_false]; done) | rfl))
theorem cabinetStep_part {o_ : Obj} (q_ : o_.quiet = true) (h_ : ¬ o_.id ∈ Footprint.cabinetStep) (c : Nat) (s : State) :
    (cabinetStep c s).part o_ = s.part o_ := by
  simp only [Footprint.cabinetStep, List.mem_append, List.mem_cons, List.not_mem_nil, or_false, false_or, not_or] at h_
  unfold cabinetStep
  first
  | (simp only [part_ite, part_set, part_setB, forL_part, foldl_part, logEvent_part, h_, q_, implies_true, ite_self, not_false_eq_true, if_false]; done)
  | ((try simp only [part_ite, part_set, part_setB, forL_part, foldl_part, logEvent_part, h_, q_, implies_true, ite_self, not_false_eq_true, if_false]) <;> (repeat' split) <;> (first | (simp only [part_ite, part_set, part_setB, forL_part, foldl_part, logEvent_part, h_, q_, implies_true, ite_self, not_false_eq_true, if_false]; done) | rfl))
theorem thermalRound_part {o_ : Obj} (q_ : o_.quiet = true) (h_ : ¬ o_.id ∈ Footprint.thermalRound) (readings : List (Int × Int)) (s : State) :
    (thermalRound readings s).part o_ = s.part o_ := by
  simp only [Footprint.thermalRound, List.mem_append, List.mem_cons, List.not_mem_nil, or_false, false_or, not_or] at h_
  unfold thermalRound
  first
  | (simp only [part_ite, forN_part, takeReading_part, judgeChannel_part, judgeWindows_part, judgeDies_part, judgeStop_part, correctModel_part, takeCabinet_part, coolantCommand_part, h_, q_, implies_true, ite_self, not_false_eq_true, if_false]; done)
  | ((try simp only [part_ite, forN_part, takeReading_part, judgeChannel_part, judgeWindows_part, judgeDies_part, judgeStop_part, correctModel_part, takeCabinet_part, coolantCommand_part, h_, q_, implies_true, ite_self, not_false_eq_true, if_false]) <;> (repeat' split) <;> (first | (simp only [part_ite, forN_part, takeReading_part, judgeChannel_part, judgeWindows_part, judgeDies_part, judgeStop_part, correctModel_part, takeCabinet_part, coolantCommand_part, h_, q_, implies_true, ite_self, not_false_eq_true, if_false]; done) | rfl))
theorem thermalTick_part {o_ : Obj} (q_ : o_.quiet = true) (h_ : ¬ o_.id ∈ Footprint.thermalTick) (s : State) :
    (thermalTick s).part o_ = s.part o_ := by
  simp only [Footprint.thermalTick, List.mem_append, List.mem_cons, List.not_mem_nil, or_false, false_or, not_or] at h_
  unfold thermalTick
  first
  | (simp only [part_ite, forN_part, coolInputs_part, connectorStep_part, modelStep_part, cabinetStep_part, h_, q_, implies_true, ite_self, not_false_eq_true, if_false]; done)
  | ((try simp only [part_ite, forN_part, coolInputs_part, connectorStep_part, modelStep_part, cabinetStep_part, h_, q_, implies_true, ite_self, not_false_eq_true, if_false]) <;> (repeat' split) <;> (first | (simp only [part_ite, forN_part, coolInputs_part, connectorStep_part, modelStep_part, cabinetStep_part, h_, q_, implies_true, ite_self, not_false_eq_true, if_false]; done) | rfl))
theorem coolingTick_part {o_ : Obj} (q_ : o_.quiet = true) (h_ : ¬ o_.id ∈ Footprint.coolingTick) (s : State) :
    (coolingTick s).part o_ = s.part o_ := by
  simp only [Footprint.coolingTick, List.mem_append, List.mem_cons, List.not_mem_nil, or_false, false_or, not_or] at h_
  unfold coolingTick
  first
  | (simp only [part_ite, forN_part, driveCooling_part, coolOutputs_part, h_, q_, implies_true, ite_self, not_false_eq_true, if_false]; done)
  | ((try simp only [part_ite, forN_part, driveCooling_part, coolOutputs_part, h_, q_, implies_true, ite_self, not_false_eq_true, if_false]) <;> (repeat' split) <;> (first | (simp only [part_ite, forN_part, driveCooling_part, coolOutputs_part, h_, q_, implies_true, ite_self, not_false_eq_true, if_false]; done) | rfl))
theorem addSum_part {o_ : Obj} (q_ : o_.quiet = true) (o : Obj) (i j : Nat) (inc : Int) (s : State) (h_ : ¬ o_.id ∈ (Footprint.addSum o)) :
    (addSum o i j inc s).part o_ = s.part o_ := by
  simp only [Footprint.addSum, List.mem_append, List.mem_cons, List.not_mem_nil, or_false, false_or, not_or] at h_
  unfold addSum
  first
  | (simp only [part_ite, part_set, h_, q_, implies_true, ite_self, not_false_eq_true, if_false]; done)
  | ((try simp only [part_ite, part_set, h_, q_, implies_true, ite_self, not_false_eq_true, if_false]) <;> (repeat' split) <;> (first | (simp only [part_ite, part_set, h_, q_, implies_true, ite_self, not_false_eq_true, if_false]; done) | rfl))
theorem addImport_part {o_ : Obj} (q_ : o_.quiet = true) (h_ : ¬ o_.id ∈ Footprint.addImport) (n : Nat) (inc : Int) (s : State) :
    (addImport n inc s).part o_ = s.part o_ := by
  simp only [Footprint.addImport, List.mem_append, List.mem_cons, List.not_mem_nil, or_false, false_or, not_or] at h_
  unfold addImport
  first
  | (simp only [part_ite, part_set, addSum_part, h_, q_, implies_true, ite_self, not_false_eq_true, if_false]; done)
  | ((try simp only [part_ite, part_set, addSum_part, h_, q_, implies_true, ite_self, not_false_eq_true, if_false]) <;> (repeat' split) <;> (first | (simp only [part_ite, part_set, addSum_part, h_, q_, implies_true, ite_self, not_false_eq_true, if_false]; done) | rfl))
theorem takeDc_part {o_ : Obj} (q_ : o_.quiet = true) (h_ : ¬ o_.id ∈ Footprint.takeDc) (n : Nat) (uv ui : Int) (s : State) :
    (takeDc n uv ui s).part o_ = s.part o_ := by
  simp only [Footprint.takeDc, List.mem_append, List.mem_cons, List.not_mem_nil, or_false, false_or, not_or] at h_
  unfold takeDc
  first
  | (simp only [part_ite, part_set, part_setBit, part_setReal, addImport_part, addSum_part, judgeLatch_part, h_, q_, implies_true, ite_self, not_false_eq_true, if_false]; done)
  | ((try simp only [part_ite, part_set, part_setBit, part_setReal, addImport_part, addSum_part, judgeLatch_part, h_, q_, implies_true, ite_self, not_false_eq_true, if_false]) <;> (repeat' split) <;> (first | (simp only [part_ite, part_set, part_setBit, part_setReal, addImport_part, addSum_part, judgeLatch_part, h_, q_, implies_true, ite_self, not_false_eq_true, if_false]; done) | rfl))
theorem takeHp_part {o_ : Obj} (q_ : o_.quiet = true) (h_ : ¬ o_.id ∈ Footprint.takeHp) (c : Nat) (u : Int) (s : State) :
    (takeHp c u s).part o_ = s.part o_ := by
  simp only [Footprint.takeHp, List.mem_append, List.mem_cons, List.not_mem_nil, or_false, false_or, not_or] at h_
  unfold takeHp
  first
  | (simp only [part_ite, part_set, part_setSeq, h_, q_, implies_true, ite_self, not_false_eq_true, if_false]; done)
  | ((try simp only [part_ite, part_set, part_setSeq, h_, q_, implies_true, ite_self, not_false_eq_true, if_false]) <;> (repeat' split) <;> (first | (simp only [part_ite, part_set, part_setSeq, h_, q_, implies_true, ite_self, not_false_eq_true, if_false]; done) | rfl))
theorem feederEnergy_part {o_ : Obj} (q_ : o_.quiet = true) (h_ : ¬ o_.id ∈ Footprint.feederEnergy) (f : Nat) (s : State) :
    (feederEnergy f s).part o_ = s.part o_ := by
  simp only [Footprint.feederEnergy, List.mem_append, List.mem_cons, List.not_mem_nil, or_false, false_or, not_or] at h_
  unfold feederEnergy
  first
  | (simp only [part_ite, part_set, addSum_part, h_, q_, implies_true, ite_self, not_false_eq_true, if_false]; done)
  | ((try simp only [part_ite, part_set, addSum_part, h_, q_, implies_true, ite_self, not_false_eq_true, if_false]) <;> (repeat' split) <;> (first | (simp only [part_ite, part_set, addSum_part, h_, q_, implies_true, ite_self, not_false_eq_true, if_false]; done) | rfl))
theorem feederSums_part {o_ : Obj} (q_ : o_.quiet = true) (h_ : ¬ o_.id ∈ Footprint.feederSums) (f : Nat) (s : State) :
    (feederSums f s).part o_ = s.part o_ := by
  simp only [Footprint.feederSums, List.mem_append, List.mem_cons, List.not_mem_nil, or_false, false_or, not_or] at h_
  unfold feederSums
  first
  | (simp only [part_ite, part_set, part_setReal, forN_part, h_, q_, implies_true, ite_self, not_false_eq_true, if_false]; done)
  | ((try simp only [part_ite, part_set, part_setReal, forN_part, h_, q_, implies_true, ite_self, not_false_eq_true, if_false]) <;> (repeat' split) <;> (first | (simp only [part_ite, part_set, part_setReal, forN_part, h_, q_, implies_true, ite_self, not_false_eq_true, if_false]; done) | rfl))
theorem judgeSequence_part {o_ : Obj} (q_ : o_.quiet = true) (h_ : ¬ o_.id ∈ Footprint.judgeSequence) (f : Nat) (s : State) :
    (judgeSequence f s).part o_ = s.part o_ := by
  simp only [Footprint.judgeSequence, List.mem_append, List.mem_cons, List.not_mem_nil, or_false, false_or, not_or] at h_
  unfold judgeSequence
  first
  | (simp only [part_ite, part_set, endEpisode_part, logEpisode_part, h_, q_, implies_true, ite_self, not_false_eq_true, if_false]; done)
  | ((try simp only [part_ite, part_set, endEpisode_part, logEpisode_part, h_, q_, implies_true, ite_self, not_false_eq_true, if_false]) <;> (repeat' split) <;> (first | (simp only [part_ite, part_set, endEpisode_part, logEpisode_part, h_, q_, implies_true, ite_self, not_false_eq_true, if_false]; done) | rfl))
theorem judgeResidual_part {o_ : Obj} (q_ : o_.quiet = true) (h_ : ¬ o_.id ∈ Footprint.judgeResidual) (f : Nat) (rms : Rat) (s : State) :
    (judgeResidual f rms s).part o_ = s.part o_ := by
  simp only [Footprint.judgeResidual, List.mem_append, List.mem_cons, List.not_mem_nil, or_false, false_or, not_or] at h_
  unfold judgeResidual
  first
  | (simp only [part_ite, part_set, endEpisode_part, logEpisode_part, h_, q_, implies_true, ite_self, not_false_eq_true, if_false]; done)
  | ((try simp only [part_ite, part_set, endEpisode_part, logEpisode_part, h_, q_, implies_true, ite_self, not_false_eq_true, if_false]) <;> (repeat' split) <;> (first | (simp only [part_ite, part_set, endEpisode_part, logEpisode_part, h_, q_, implies_true, ite_self, not_false_eq_true, if_false]; done) | rfl))
theorem endCycle_part {o_ : Obj} (q_ : o_.quiet = true) (h_ : ¬ o_.id ∈ Footprint.endCycle) (f : Nat) (at_ : Int) (s : State) :
    (endCycle f at_ s).part o_ = s.part o_ := by
  simp only [Footprint.endCycle, List.mem_append, List.mem_cons, List.not_mem_nil, or_false, false_or, not_or] at h_
  unfold endCycle
  first
  | (simp only [part_ite, part_set, part_setB, part_setSeq, part_setReal, forN_part, judgeResidual_part, judgeSequence_part, h_, q_, implies_true, ite_self, not_false_eq_true, if_false]; done)
  | ((try simp only [part_ite, part_set, part_setB, part_setSeq, part_setReal, forN_part, judgeResidual_part, judgeSequence_part, h_, q_, implies_true, ite_self, not_false_eq_true, if_false]) <;> (repeat' split) <;> (first | (simp only [part_ite, part_set, part_setB, part_setSeq, part_setReal, forN_part, judgeResidual_part, judgeSequence_part, h_, q_, implies_true, ite_self, not_false_eq_true, if_false]; done) | rfl))
theorem countGood_part {o_ : Obj} (q_ : o_.quiet = true) (h_ : ¬ o_.id ∈ Footprint.countGood) (f : Nat) (s : State) :
    (countGood f s).part o_ = s.part o_ := by
  simp only [Footprint.countGood, List.mem_append, List.mem_cons, List.not_mem_nil, or_false, false_or, not_or] at h_
  unfold countGood
  first
  | (simp only [part_ite, part_set, h_, q_, implies_true, ite_self, not_false_eq_true, if_false]; done)
  | ((try simp only [part_ite, part_set, h_, q_, implies_true, ite_self, not_false_eq_true, if_false]) <;> (repeat' split) <;> (first | (simp only [part_ite, part_set, h_, q_, implies_true, ite_self, not_false_eq_true, if_false]; done) | rfl))
theorem takePhase_part {o_ : Obj} (q_ : o_.quiet = true) (h_ : ¬ o_.id ∈ Footprint.takePhase) (f j : Nat) (s : State) :
    (takePhase f j s).part o_ = s.part o_ := by
  simp only [Footprint.takePhase, List.mem_append, List.mem_cons, List.not_mem_nil, or_false, false_or, not_or] at h_
  unfold takePhase
  first
  | (simp only [part_ite, part_set, part_setB, takeCrossing_part, countGood_part, endCycle_part, h_, q_, implies_true, ite_self, not_false_eq_true, if_false]; done)
  | ((try simp only [part_ite, part_set, part_setB, takeCrossing_part, countGood_part, endCycle_part, h_, q_, implies_true, ite_self, not_false_eq_true, if_false]) <;> (repeat' split) <;> (first | (simp only [part_ite, part_set, part_setB, takeCrossing_part, countGood_part, endCycle_part, h_, q_, implies_true, ite_self, not_false_eq_true, if_false]; done) | rfl))
theorem takeFeeder_part {o_ : Obj} (q_ : o_.quiet = true) (h_ : ¬ o_.id ∈ Footprint.takeFeeder) (inputs : List Int) (f : Nat) (s : State) :
    (takeFeeder inputs f s).part o_ = s.part o_ := by
  simp only [Footprint.takeFeeder, List.mem_append, List.mem_cons, List.not_mem_nil, or_false, false_or, not_or] at h_
  unfold takeFeeder
  first
  | (simp only [part_ite, forN_part, takeHp_part, feederSums_part, feederEnergy_part, takePhase_part, endCycle_part, h_, q_, implies_true, ite_self, not_false_eq_true, if_false]; done)
  | ((try simp only [part_ite, forN_part, takeHp_part, feederSums_part, feederEnergy_part, takePhase_part, endCycle_part, h_, q_, implies_true, ite_self, not_false_eq_true, if_false]) <;> (repeat' split) <;> (first | (simp only [part_ite, forN_part, takeHp_part, feederSums_part, feederEnergy_part, takePhase_part, endCycle_part, h_, q_, implies_true, ite_self, not_false_eq_true, if_false]; done) | rfl))
theorem countPulses_part {o_ : Obj} (q_ : o_.quiet = true) (h_ : ¬ o_.id ∈ Footprint.countPulses) (before : State) (k : Nat) (s : State) :
    (countPulses before k s).part o_ = s.part o_ := by
  simp only [Footprint.countPulses, List.mem_append, List.mem_cons, List.not_mem_nil, or_false, false_or, not_or] at h_
  unfold countPulses
  first
  | (simp only [part_ite, part_set, part_setBit, logEvent_part, h_, q_, implies_true, ite_self, not_false_eq_true, if_false]; done)
  | ((try simp only [part_ite, part_set, part_setBit, logEvent_part, h_, q_, implies_true, ite_self, not_false_eq_true, if_false]) <;> (repeat' split) <;> (first | (simp only [part_ite, part_set, part_setBit, logEvent_part, h_, q_, implies_true, ite_self, not_false_eq_true, if_false]; done) | rfl))
theorem loseMains_part {o_ : Obj} (q_ : o_.quiet = true) (h_ : ¬ o_.id ∈ Footprint.loseMains) (f : Nat) (cause : Int) (s : State) :
    (loseMains f cause s).part o_ = s.part o_ := by
  simp only [Footprint.loseMains, List.mem_append, List.mem_cons, List.not_mem_nil, or_false, false_or, not_or] at h_
  unfold loseMains
  first
  | (simp only [part_ite, part_set, logEvent_part, suspendLink_part, withholdFeeder_part, h_, q_, implies_true, ite_self, not_false_eq_true, if_false]; done)
  | ((try simp only [part_ite, part_set, logEvent_part, suspendLink_part, withholdFeeder_part, h_, q_, implies_true, ite_self, not_false_eq_true, if_false]) <;> (repeat' split) <;> (first | (simp only [part_ite, part_set, logEvent_part, suspendLink_part, withholdFeeder_part, h_, q_, implies_true, ite_self, not_false_eq_true, if_false]; done) | rfl))
theorem keepHighest_part {o_ : Obj} (q_ : o_.quiet = true) (o ot : Obj) (i j : Nat) (v at_ : Int) (s : State) (h_ : ¬ o_.id ∈ (Footprint.keepHighest o ot)) :
    (keepHighest o ot i j v at_ s).part o_ = s.part o_ := by
  simp only [Footprint.keepHighest, List.mem_append, List.mem_cons, List.not_mem_nil, or_false, false_or, not_or] at h_
  unfold keepHighest
  first
  | (simp only [part_ite, part_set, h_, q_, implies_true, ite_self, not_false_eq_true, if_false]; done)
  | ((try simp only [part_ite, part_set, h_, q_, implies_true, ite_self, not_false_eq_true, if_false]) <;> (repeat' split) <;> (first | (simp only [part_ite, part_set, h_, q_, implies_true, ite_self, not_false_eq_true, if_false]; done) | rfl))
theorem secondOfDc_part {o_ : Obj} (q_ : o_.quiet = true) (h_ : ¬ o_.id ∈ Footprint.secondOfDc) (at_ : Int) (n : Nat) (s : State) :
    (secondOfDc at_ n s).part o_ = s.part o_ := by
  simp only [Footprint.secondOfDc, List.mem_append, List.mem_cons, List.not_mem_nil, or_false, false_or, not_or] at h_
  unfold secondOfDc
  first
  | (simp only [part_ite, part_set, part_inc, part_setBit, part_setReal, forN_part, keepHighest_part, h_, q_, implies_true, ite_self, not_false_eq_true, if_false]; done)
  | ((try simp only [part_ite, part_set, part_inc, part_setBit, part_setReal, forN_part, keepHighest_part, h_, q_, implies_true, ite_self, not_false_eq_true, if_false]) <;> (repeat' split) <;> (first | (simp only [part_ite, part_set, part_inc, part_setBit, part_setReal, forN_part, keepHighest_part, h_, q_, implies_true, ite_self, not_false_eq_true, if_false]; done) | rfl))
theorem secondOfFeeder_part {o_ : Obj} (q_ : o_.quiet = true) (h_ : ¬ o_.id ∈ Footprint.secondOfFeeder) (at_ : Int) (f : Nat) (s : State) :
    (secondOfFeeder at_ f s).part o_ = s.part o_ := by
  simp only [Footprint.secondOfFeeder, List.mem_append, List.mem_cons, List.not_mem_nil, or_false, false_or, not_or] at h_
  unfold secondOfFeeder
  first
  | (simp only [part_ite, part_set, part_setReal, forN_part, foldl_part, keepHighest_part, h_, q_, implies_true, ite_self, not_false_eq_true, if_false]; done)
  | ((try simp only [part_ite, part_set, part_setReal, forN_part, foldl_part, keepHighest_part, h_, q_, implies_true, ite_self, not_false_eq_true, if_false]) <;> (repeat' split) <;> (first | (simp only [part_ite, part_set, part_setReal, forN_part, foldl_part, keepHighest_part, h_, q_, implies_true, ite_self, not_false_eq_true, if_false]; done) | rfl))
theorem commitMeters_part {o_ : Obj} (q_ : o_.quiet = true)  (s : State) :
    (commitMeters s).part o_ = s.part o_ := by
  unfold commitMeters
  first
  | (simp only [part_ite, submit_part, q_, implies_true, ite_self, not_false_eq_true, if_false]; done)
  | ((try simp only [part_ite, submit_part, q_, implies_true, ite_self, not_false_eq_true, if_false]) <;> (repeat' split) <;> (first | (simp only [part_ite, submit_part, q_, implies_true, ite_self, not_false_eq_true, if_false]; done) | rfl))
theorem faultChannel_part {o_ : Obj} (q_ : o_.quiet = true) (h_ : ¬ o_.id ∈ Footprint.faultChannel) (c : Nat) (cause : Int) (s : State) :
    (faultChannel c cause s).part o_ = s.part o_ := by
  simp only [Footprint.faultChannel, List.mem_append, List.mem_cons, List.not_mem_nil, or_false, false_or, not_or] at h_
  unfold faultChannel
  first
  | (simp only [part_ite, part_set, part_setBit, logEvent_part, refreshAvail_part, loseMains_part, h_, q_, implies_true, ite_self, not_false_eq_true, if_false]; done)
  | ((try simp only [part_ite, part_set, part_setBit, logEvent_part, refreshAvail_part, loseMains_part, h_, q_, implies_true, ite_self, not_false_eq_true, if_false]) <;> (repeat' split) <;> (first | (simp only [part_ite, part_set, part_setBit, logEvent_part, refreshAvail_part, loseMains_part, h_, q_, implies_true, ite_self, not_false_eq_true, if_false]; done) | rfl))
theorem theftMean_part {o_ : Obj} (q_ : o_.quiet = true) (h_ : ¬ o_.id ∈ Footprint.theftMean) (n : Nat) (mean : Int) (s : State) :
    (theftMean n mean s).part o_ = s.part o_ := by
  simp only [Footprint.theftMean, List.mem_append, List.mem_cons, List.not_mem_nil, or_false, false_or, not_or] at h_
  unfold theftMean
  first
  | (simp only [part_ite, part_set, part_inc, part_setLog, h_, q_, implies_true, ite_self, not_false_eq_true, if_false]; done)
  | ((try simp only [part_ite, part_set, part_inc, part_setLog, h_, q_, implies_true, ite_self, not_false_eq_true, if_false]) <;> (repeat' split) <;> (first | (simp only [part_ite, part_set, part_inc, part_setLog, h_, q_, implies_true, ite_self, not_false_eq_true, if_false]; done) | rfl))
theorem adoptMeters_part {o_ : Obj} (q_ : o_.quiet = true) (h_ : ¬ o_.id ∈ Footprint.adoptMeters) (s : State) : (adoptMeters s).part o_ = s.part o_ := by
  have f (l : List (Obj × Nat × Nat)) (m : ∀ x ∈ l, ¬ o_.id = x.1.id) (n : ¬ o_.id = Reg.shadowSum.id) (u : State) :
      (l.foldl (fun u x =>
        let (o, i, j) := x
        (u.set o ((u.get o i j + u.get Reg.shadowSum o.id (16 * i + j)) % 2 ^ 112) i j).set Reg.shadowSum 0 o.id (16 * i + j)) u).part o_ = u.part o_ := by
    induction l generalizing u with
    | nil => rfl
    | cons x l ih =>
      refine (ih (fun y my => m y (.tail _ my)) _).trans ?_
      dsimp only
      rw [part_set n, part_set (m x (.head _))]
  simp only [Footprint.adoptMeters, List.mem_append, List.mem_map, List.mem_cons, List.not_mem_nil, or_false, not_or] at h_
  exact f _ (fun x m e => h_.1 ⟨x, m, e.symm⟩) h_.2 s
theorem crossCheck_part {o_ : Obj} (q_ : o_.quiet = true) (h_ : ¬ o_.id ∈ Footprint.crossCheck) (partner : List Int) (s : State) :
    (crossCheck partner s).part o_ = s.part o_ := by
  simp only [Footprint.crossCheck, List.mem_append, List.mem_cons, List.not_mem_nil, or_false, false_or, not_or, and_assoc] at h_
  unfold crossCheck
  dsimp only
  rw [foldl_part]
  · split <;> (try rw [part_inc h_.2.2.1]) <;> rw [part_set h_.2.1, part_set h_.1]
  · intro x u
    split
    · rw [foldl_part, healthItem_part q_ h_.2.2.2.2, logEvent_part q_]
      intro c w
      exact part_setBit h_.2.2.2.1 _ _ _ _
    · rw [healthItem_part q_ h_.2.2.2.2, logEvent_part q_]
theorem setSeal_part {o_ : Obj} (q_ : o_.quiet = true) (h_ : ¬ o_.id ∈ Footprint.setSeal) (open_ : Bool) (s : State) :
    (setSeal open_ s).part o_ = s.part o_ := by
  simp only [Footprint.setSeal, List.mem_append, List.mem_cons, List.not_mem_nil, or_false, false_or, not_or] at h_
  unfold setSeal
  first
  | (simp only [part_ite, part_setB, part_setBit, forN_part, logEvent_part, auditEntry_part, h_, q_, implies_true, ite_self, not_false_eq_true, if_false]; done)
  | ((try simp only [part_ite, part_setB, part_setBit, forN_part, logEvent_part, auditEntry_part, h_, q_, implies_true, ite_self, not_false_eq_true, if_false]) <;> (repeat' split) <;> (first | (simp only [part_ite, part_setB, part_setBit, forN_part, logEvent_part, auditEntry_part, h_, q_, implies_true, ite_self, not_false_eq_true, if_false]; done) | rfl))
theorem auditRoom_part {o_ : Obj} {s t : State} {f : State → Except Nat State} (f_ : ∀ u t, f u = .ok t → t.part o_ = u.part o_)
    (e_ : auditRoom s f = .ok t) : t.part o_ = s.part o_ := by
  unfold auditRoom at e_
  split at e_
  · cases e_
  · exact f_ _ _ e_

theorem noteFull_part {o_ : Obj} (q_ : o_.quiet = true)  (index : Nat) (s t : State) :
    (noteFull index s t).part o_ = t.part o_ := by
  unfold noteFull
  first
  | (simp only [part_ite, logEvent_part, answer_part, q_, implies_true, ite_self, not_false_eq_true, if_false]; done)
  | ((try simp only [part_ite, logEvent_part, answer_part, q_, implies_true, ite_self, not_false_eq_true, if_false]) <;> (repeat' split) <;> (first | (simp only [part_ite, logEvent_part, answer_part, q_, implies_true, ite_self, not_false_eq_true, if_false]; done) | rfl))
theorem noteFull_view {o_ : Obj} (q_ : o_.quiet = true)  (index : Nat) (s t : State)  :
    (noteFull index s t).view o_ = t.view o_ :=
  view_of_part (noteFull_part q_ index s t)

theorem refusedNow_part {o_ : Obj} (q_ : o_.quiet = true)  (kind i : Nat) (was now : Bool) (s : State) :
    (refusedNow kind i was now s).part o_ = s.part o_ := by
  unfold refusedNow
  first
  | (simp only [part_ite, logEvent_part, q_, implies_true, ite_self, not_false_eq_true, if_false]; done)
  | ((try simp only [part_ite, logEvent_part, q_, implies_true, ite_self, not_false_eq_true, if_false]) <;> (repeat' split) <;> (first | (simp only [part_ite, logEvent_part, q_, implies_true, ite_self, not_false_eq_true, if_false]; done) | rfl))
theorem checkPhase_part {o_ : Obj} (q_ : o_.quiet = true) (h_ : ¬ o_.id ∈ Footprint.checkPhase) (p : Nat) (s : State) :
    (checkPhase p s).part o_ = s.part o_ := by
  simp only [Footprint.checkPhase, List.mem_append, List.mem_cons, List.not_mem_nil, or_false, false_or, not_or] at h_
  unfold checkPhase
  first
  | (simp only [part_ite, part_set, part_setB, setPhase_part, refusedNow_part, h_, q_, implies_true, ite_self, not_false_eq_true, if_false]; done)
  | ((try simp only [part_ite, part_set, part_setB, setPhase_part, refusedNow_part, h_, q_, implies_true, ite_self, not_false_eq_true, if_false]) <;> (repeat' split) <;> (first | (simp only [part_ite, part_set, part_setB, setPhase_part, refusedNow_part, h_, q_, implies_true, ite_self, not_false_eq_true, if_false]; done) | rfl))
theorem checkBlock_part {o_ : Obj} (q_ : o_.quiet = true) (h_ : ¬ o_.id ∈ Footprint.checkBlock) (b : Nat) (s : State) :
    (checkBlock b s).part o_ = s.part o_ := by
  simp only [Footprint.checkBlock, List.mem_append, List.mem_cons, List.not_mem_nil, or_false, false_or, not_or] at h_
  unfold checkBlock
  first
  | (simp only [part_ite, part_set, part_setB, part_setBit, refusedNow_part, refreshBlock_part, h_, q_, implies_true, ite_self, not_false_eq_true, if_false]; done)
  | ((try simp only [part_ite, part_set, part_setB, part_setBit, refusedNow_part, refreshBlock_part, h_, q_, implies_true, ite_self, not_false_eq_true, if_false]) <;> (repeat' split) <;> (first | (simp only [part_ite, part_set, part_setB, part_setBit, refusedNow_part, refreshBlock_part, h_, q_, implies_true, ite_self, not_false_eq_true, if_false]; done) | rfl))
theorem checkCab_part {o_ : Obj} (q_ : o_.quiet = true) (h_ : ¬ o_.id ∈ Footprint.checkCab) (c : Nat) (s : State) :
    (checkCab c s).part o_ = s.part o_ := by
  simp only [Footprint.checkCab, List.mem_append, List.mem_cons, List.not_mem_nil, or_false, false_or, not_or] at h_
  unfold checkCab
  first
  | (simp only [part_ite, part_setB, part_setBit, forN_part, forL_part, refusedNow_part, checkPhase_part, checkBlock_part, h_, q_, implies_true, ite_self, not_false_eq_true, if_false]; done)
  | ((try simp only [part_ite, part_setB, part_setBit, forN_part, forL_part, refusedNow_part, checkPhase_part, checkBlock_part, h_, q_, implies_true, ite_self, not_false_eq_true, if_false]) <;> (repeat' split) <;> (first | (simp only [part_ite, part_setB, part_setBit, forN_part, forL_part, refusedNow_part, checkPhase_part, checkBlock_part, h_, q_, implies_true, ite_self, not_false_eq_true, if_false]; done) | rfl))
theorem checkOutlet_part {o_ : Obj} (q_ : o_.quiet = true) (h_ : ¬ o_.id ∈ Footprint.checkOutlet) (n : Nat) (s : State) :
    (checkOutlet n s).part o_ = s.part o_ := by
  simp only [Footprint.checkOutlet, List.mem_append, List.mem_cons, List.not_mem_nil, or_false, false_or, not_or] at h_
  unfold checkOutlet
  first
  | (simp only [part_ite, part_set, part_setB, part_setBit, refreshAvail_part, refusedNow_part, h_, q_, implies_true, ite_self, not_false_eq_true, if_false]; done)
  | ((try simp only [part_ite, part_set, part_setB, part_setBit, refreshAvail_part, refusedNow_part, h_, q_, implies_true, ite_self, not_false_eq_true, if_false]) <;> (repeat' split) <;> (first | (simp only [part_ite, part_set, part_setB, part_setBit, refreshAvail_part, refusedNow_part, h_, q_, implies_true, ite_self, not_false_eq_true, if_false]; done) | rfl))
theorem checkFeeder_part {o_ : Obj} (q_ : o_.quiet = true) (h_ : ¬ o_.id ∈ Footprint.checkFeeder) (f : Nat) (s : State) :
    (checkFeeder f s).part o_ = s.part o_ := by
  simp only [Footprint.checkFeeder, List.mem_append, List.mem_cons, List.not_mem_nil, or_false, false_or, not_or] at h_
  unfold checkFeeder
  first
  | (simp only [part_ite, part_setB, part_setBit, refusedNow_part, h_, q_, implies_true, ite_self, not_false_eq_true, if_false]; done)
  | ((try simp only [part_ite, part_setB, part_setBit, refusedNow_part, h_, q_, implies_true, ite_self, not_false_eq_true, if_false]) <;> (repeat' split) <;> (first | (simp only [part_ite, part_setB, part_setBit, refusedNow_part, h_, q_, implies_true, ite_self, not_false_eq_true, if_false]; done) | rfl))
theorem judgeTopology_part {o_ : Obj} (q_ : o_.quiet = true) (h_ : ¬ o_.id ∈ Footprint.judgeTopology) (s : State) :
    (judgeTopology s).part o_ = s.part o_ := by
  simp only [Footprint.judgeTopology, List.mem_append, List.mem_cons, List.not_mem_nil, or_false, false_or, not_or] at h_
  unfold judgeTopology
  first
  | (simp only [part_ite, part_set, forN_part, checkCab_part, checkOutlet_part, checkFeeder_part, h_, q_, implies_true, ite_self, not_false_eq_true, if_false]; done)
  | ((try simp only [part_ite, part_set, forN_part, checkCab_part, checkOutlet_part, checkFeeder_part, h_, q_, implies_true, ite_self, not_false_eq_true, if_false]) <;> (repeat' split) <;> (first | (simp only [part_ite, part_set, forN_part, checkCab_part, checkOutlet_part, checkFeeder_part, h_, q_, implies_true, ite_self, not_false_eq_true, if_false]; done) | rfl))
theorem beginTopology_part {o_ : Obj} (q_ : o_.quiet = true) (h_ : ¬ o_.id ∈ Footprint.beginTopology) (s : State) :
    (beginTopology s).part o_ = s.part o_ := by
  simp only [Footprint.beginTopology, List.mem_append, List.mem_cons, List.not_mem_nil, or_false, false_or, not_or] at h_
  unfold beginTopology
  first
  | (simp only [part_ite, part_set, forN_part, h_, q_, implies_true, ite_self, not_false_eq_true, if_false]; done)
  | ((try simp only [part_ite, part_set, forN_part, h_, q_, implies_true, ite_self, not_false_eq_true, if_false]) <;> (repeat' split) <;> (first | (simp only [part_ite, part_set, forN_part, h_, q_, implies_true, ite_self, not_false_eq_true, if_false]; done) | rfl))
theorem checkShared_part {o_ : Obj} (q_ : o_.quiet = true) (h_ : ¬ o_.id ∈ Footprint.checkShared) (s : State) :
    (checkShared s).part o_ = s.part o_ := by
  simp only [Footprint.checkShared, List.mem_append, List.mem_cons, List.not_mem_nil, or_false, false_or, not_or] at h_
  unfold checkShared
  first
  | (simp only [part_ite, forN_part, healthItem_part, h_, q_, implies_true, ite_self, not_false_eq_true, if_false]; done)
  | ((try simp only [part_ite, forN_part, healthItem_part, h_, q_, implies_true, ite_self, not_false_eq_true, if_false]) <;> (repeat' split) <;> (first | (simp only [part_ite, forN_part, healthItem_part, h_, q_, implies_true, ite_self, not_false_eq_true, if_false]; done) | rfl))
theorem sendTopology_part {o_ : Obj} (q_ : o_.quiet = true)  (s : State) :
    (sendTopology s).part o_ = s.part o_ := by
  unfold sendTopology
  first
  | (simp only [part_ite, part_emit, q_, implies_true, ite_self, not_false_eq_true, if_false]; done)
  | ((try simp only [part_ite, part_emit, q_, implies_true, ite_self, not_false_eq_true, if_false]) <;> (repeat' split) <;> (first | (simp only [part_ite, part_emit, q_, implies_true, ite_self, not_false_eq_true, if_false]; done) | rfl))
theorem holdSecret_part {o_ : Obj} (q_ : o_.quiet = true) (h_ : ¬ o_.id ∈ Footprint.holdSecret) (k : Nat) (v : List Byte) (s : State) :
    (holdSecret k v s).part o_ = s.part o_ := by
  simp only [Footprint.holdSecret, List.mem_append, List.mem_cons, List.not_mem_nil, or_false, false_or, not_or] at h_
  unfold holdSecret
  first
  | (simp only [part_ite, part_setBytes, part_random, h_, q_, implies_true, ite_self, not_false_eq_true, if_false]; done)
  | ((try simp only [part_ite, part_setBytes, part_random, h_, q_, implies_true, ite_self, not_false_eq_true, if_false]) <;> (repeat' split) <;> (first | (simp only [part_ite, part_setBytes, part_random, h_, q_, implies_true, ite_self, not_false_eq_true, if_false]; done) | rfl))
theorem remask_part {o_ : Obj} (q_ : o_.quiet = true) (h_ : ¬ o_.id ∈ Footprint.remask) (k : Nat) (s : State) :
    (remask k s).part o_ = s.part o_ := by
  simp only [Footprint.remask, List.mem_append, List.mem_cons, List.not_mem_nil, or_false, false_or, not_or] at h_
  unfold remask
  first
  | (simp only [part_ite, part_setBytes, part_random, h_, q_, implies_true, ite_self, not_false_eq_true, if_false]; done)
  | ((try simp only [part_ite, part_setBytes, part_random, h_, q_, implies_true, ite_self, not_false_eq_true, if_false]) <;> (repeat' split) <;> (first | (simp only [part_ite, part_setBytes, part_random, h_, q_, implies_true, ite_self, not_false_eq_true, if_false]; done) | rfl))
theorem signWith_part {o_ : Obj} (q_ : o_.quiet = true) (h_ : ¬ o_.id ∈ Footprint.signWith) (curve : Nat) (d m : List Byte) (s : State) :
    (signWith curve d m s).2.part o_ = s.part o_ := by
  simp only [Footprint.signWith, List.mem_append, List.mem_cons, List.not_mem_nil, or_false, false_or, not_or] at h_
  unfold signWith
  first
  | (simp only [part_ite, part_random, h_, q_, implies_true, ite_self, not_false_eq_true, if_false]; done)
  | ((try simp only [part_ite, part_random, h_, q_, implies_true, ite_self, not_false_eq_true, if_false]) <;> (repeat' split) <;> (first | (simp only [part_ite, part_random, h_, q_, implies_true, ite_self, not_false_eq_true, if_false]; done) | rfl))
theorem wrapWith_part {o_ : Obj} (q_ : o_.quiet = true) (h_ : ¬ o_.id ∈ Footprint.wrapWith) (key plain : List Byte) (s : State) :
    (wrapWith key plain s).2.part o_ = s.part o_ := by
  simp only [Footprint.wrapWith, List.mem_append, List.mem_cons, List.not_mem_nil, or_false, false_or, not_or] at h_
  unfold wrapWith
  first
  | (simp only [part_ite, part_random, h_, q_, implies_true, ite_self, not_false_eq_true, if_false]; done)
  | ((try simp only [part_ite, part_random, h_, q_, implies_true, ite_self, not_false_eq_true, if_false]) <;> (repeat' split) <;> (first | (simp only [part_ite, part_random, h_, q_, implies_true, ite_self, not_false_eq_true, if_false]; done) | rfl))
theorem writeBlob_part {o_ : Obj} (q_ : o_.quiet = true) (h_ : ¬ o_.id ∈ Footprint.writeBlob) (k : Nat) (s : State) :
    (writeBlob k s).part o_ = s.part o_ := by
  simp only [Footprint.writeBlob, List.mem_append, List.mem_cons, List.not_mem_nil, or_false, false_or, not_or] at h_
  unfold writeBlob
  first
  | (simp only [part_ite, part_setBytes, remask_part, wrapWith_part, h_, q_, implies_true, ite_self, not_false_eq_true, if_false]; done)
  | ((try simp only [part_ite, part_setBytes, remask_part, wrapWith_part, h_, q_, implies_true, ite_self, not_false_eq_true, if_false]) <;> (repeat' split) <;> (first | (simp only [part_ite, part_setBytes, remask_part, wrapWith_part, h_, q_, implies_true, ite_self, not_false_eq_true, if_false]; done) | rfl))
theorem rewrapBlobs_part {o_ : Obj} (q_ : o_.quiet = true) (h_ : ¬ o_.id ∈ Footprint.rewrapBlobs) (s : State) :
    (rewrapBlobs s).part o_ = s.part o_ := by
  simp only [Footprint.rewrapBlobs, List.mem_append, List.mem_cons, List.not_mem_nil, or_false, false_or, not_or] at h_
  unfold rewrapBlobs
  first
  | (simp only [part_ite, part_set, forN_part, writeBlob_part, h_, q_, implies_true, ite_self, not_false_eq_true, if_false]; done)
  | ((try simp only [part_ite, part_set, forN_part, writeBlob_part, h_, q_, implies_true, ite_self, not_false_eq_true, if_false]) <;> (repeat' split) <;> (first | (simp only [part_ite, part_set, forN_part, writeBlob_part, h_, q_, implies_true, ite_self, not_false_eq_true, if_false]; done) | rfl))
theorem readBlob_part {o_ : Obj} (q_ : o_.quiet = true) (h_ : ¬ o_.id ∈ Footprint.readBlob) (k : Nat) (s : State) :
    (readBlob k s).part o_ = s.part o_ := by
  simp only [Footprint.readBlob, List.mem_append, List.mem_cons, List.not_mem_nil, or_false, false_or, not_or] at h_
  unfold readBlob
  first
  | (simp only [part_ite, part_setBytes, logEvent_part, h_, q_, implies_true, ite_self, not_false_eq_true, if_false]; done)
  | ((try simp only [part_ite, part_setBytes, logEvent_part, h_, q_, implies_true, ite_self, not_false_eq_true, if_false]) <;> (repeat' split) <;> (first | (simp only [part_ite, part_setBytes, logEvent_part, h_, q_, implies_true, ite_self, not_false_eq_true, if_false]; done) | rfl))
theorem destroySecret_part {o_ : Obj} (q_ : o_.quiet = true) (h_ : ¬ o_.id ∈ Footprint.destroySecret) (k : Nat) (s : State) :
    (destroySecret k s).part o_ = s.part o_ := by
  simp only [Footprint.destroySecret, List.mem_append, List.mem_cons, List.not_mem_nil, or_false, false_or, not_or] at h_
  unfold destroySecret
  first
  | (simp only [part_ite, part_setBytes, h_, q_, implies_true, ite_self, not_false_eq_true, if_false]; done)
  | ((try simp only [part_ite, part_setBytes, h_, q_, implies_true, ite_self, not_false_eq_true, if_false]) <;> (repeat' split) <;> (first | (simp only [part_ite, part_setBytes, h_, q_, implies_true, ite_self, not_false_eq_true, if_false]; done) | rfl))
theorem publishFieldKey_part {o_ : Obj} (q_ : o_.quiet = true) (h_ : ¬ o_.id ∈ Footprint.publishFieldKey) (s : State) :
    (publishFieldKey s).part o_ = s.part o_ := by
  simp only [Footprint.publishFieldKey, List.mem_append, List.mem_cons, List.not_mem_nil, or_false, false_or, not_or] at h_
  unfold publishFieldKey
  first
  | (simp only [part_ite, part_set, part_setBytes, h_, q_, implies_true, ite_self, not_false_eq_true, if_false]; done)
  | ((try simp only [part_ite, part_set, part_setBytes, h_, q_, implies_true, ite_self, not_false_eq_true, if_false]) <;> (repeat' split) <;> (first | (simp only [part_ite, part_set, part_setBytes, h_, q_, implies_true, ite_self, not_false_eq_true, if_false]; done) | rfl))
theorem showRecords_part {o_ : Obj} (q_ : o_.quiet = true) (h_ : ¬ o_.id ∈ Footprint.showRecords) (s : State) :
    (showRecords s).part o_ = s.part o_ := by
  simp only [Footprint.showRecords, List.mem_append, List.mem_cons, List.not_mem_nil, or_false, false_or, not_or] at h_
  unfold showRecords
  first
  | (simp only [part_ite, part_set, noteRoom_part, h_, q_, implies_true, ite_self, not_false_eq_true, if_false]; done)
  | ((try simp only [part_ite, part_set, noteRoom_part, h_, q_, implies_true, ite_self, not_false_eq_true, if_false]) <;> (repeat' split) <;> (first | (simp only [part_ite, part_set, noteRoom_part, h_, q_, implies_true, ite_self, not_false_eq_true, if_false]; done) | rfl))
theorem recordEntryOf_part {o_ : Obj} (q_ : o_.quiet = true) (h_ : ¬ o_.id ∈ Footprint.recordEntryOf) (s : State) (c : Nat) :
    (recordEntryOf s c).2.part o_ = s.part o_ := by
  simp only [Footprint.recordEntryOf, List.mem_append, List.mem_cons, List.not_mem_nil, or_false, false_or, not_or] at h_
  unfold recordEntryOf
  first
  | (simp only [part_ite, signWith_part, h_, q_, implies_true, ite_self, not_false_eq_true, if_false]; done)
  | ((try simp only [part_ite, signWith_part, h_, q_, implies_true, ite_self, not_false_eq_true, if_false]) <;> (repeat' split) <;> (first | (simp only [part_ite, signWith_part, h_, q_, implies_true, ite_self, not_false_eq_true, if_false]; done) | rfl))
theorem sealContext_part {o_ : Obj} (q_ : o_.quiet = true) (h_ : ¬ o_.id ∈ Footprint.sealContext) (c : Nat) (s : State) :
    (sealContext c s).part o_ = s.part o_ := by
  simp only [Footprint.sealContext, List.mem_append, List.mem_cons, List.not_mem_nil, or_false, false_or, not_or] at h_
  unfold sealContext
  first
  | (simp only [part_ite, part_set, part_setSeq, part_setLog, part_emit, logEvent_part, queueItem_part, submit_part, recordEntryOf_part, setContext_part, refreshAll_part, showRecords_part, h_, q_, implies_true, ite_self, not_false_eq_true, if_false]; done)
  | ((try simp only [part_ite, part_set, part_setSeq, part_setLog, part_emit, logEvent_part, queueItem_part, submit_part, recordEntryOf_part, setContext_part, refreshAll_part, showRecords_part, h_, q_, implies_true, ite_self, not_false_eq_true, if_false]) <;> (repeat' split) <;> (first | (simp only [part_ite, part_set, part_setSeq, part_setLog, part_emit, logEvent_part, queueItem_part, submit_part, recordEntryOf_part, setContext_part, refreshAll_part, showRecords_part, h_, q_, implies_true, ite_self, not_false_eq_true, if_false]; done) | rfl))
theorem collectRecord_part {o_ : Obj} (q_ : o_.quiet = true) (h_ : ¬ o_.id ∈ Footprint.collectRecord) (data : List Byte) (t : State) {t_ : State} (e_ : collectRecord data t = .ok t_) :
    t_.part o_ = t.part o_ := by
  simp only [Footprint.collectRecord, List.mem_append, List.mem_cons, List.not_mem_nil, or_false, false_or, not_or, and_assoc] at h_
  obtain ⟨a1, a2, a3, a4, a5, b, c, d⟩ := h_
  have k (x : List Byte) : State.part (if isCollected t x then t else t.setSeq Reg.recordCollected ((entrySeq x : Int) :: t.seq Reg.recordCollected)) o_ = t.part o_ := by
    split
    · rfl
    · exact part_setSeq a1 _ _ _
  unfold collectRecord at e_
  split at e_
  · cases e_
  · split at e_
    · cases e_
    · rw [← Except.ok.inj e_, refreshAll_part q_ c, showRecords_part q_ d]
      split
      · rw [part_set a5, part_set a4, part_set a3, part_set a2, setContext_part q_ b, k]
      · rw [k]
theorem releaseUpTo_part {o_ : Obj} (q_ : o_.quiet = true) (h_ : ¬ o_.id ∈ Footprint.releaseUpTo) (data : List Byte) (t : State) {t_ : State} (e_ : releaseUpTo data t = .ok t_) :
    t_.part o_ = t.part o_ := by
  simp only [Footprint.releaseUpTo, List.mem_append, List.mem_cons, List.not_mem_nil, or_false, false_or, not_or, and_assoc] at h_
  obtain ⟨a1, a2, a3, c, d⟩ := h_
  unfold releaseUpTo at e_
  split at e_
  · cases e_
  · split at e_
    · cases e_
    · split at e_
      · cases e_
      · rw [← Except.ok.inj e_, refreshAll_part q_ c, showRecords_part q_ d, part_setSeq a3, part_setSeq a2, part_setLog a1]
theorem tamperEntryOf_part {o_ : Obj} (q_ : o_.quiet = true) (h_ : ¬ o_.id ∈ Footprint.tamperEntryOf) (kind source value : Int) (s : State) :
    (tamperEntryOf kind source value s).part o_ = s.part o_ := by
  simp only [Footprint.tamperEntryOf, List.mem_append, List.mem_cons, List.not_mem_nil, or_false, false_or, not_or] at h_
  unfold tamperEntryOf
  first
  | (simp only [part_ite, part_set, part_inc, part_setLog, h_, q_, implies_true, ite_self, not_false_eq_true, if_false]; done)
  | ((try simp only [part_ite, part_set, part_inc, part_setLog, h_, q_, implies_true, ite_self, not_false_eq_true, if_false]) <;> (repeat' split) <;> (first | (simp only [part_ite, part_set, part_inc, part_setLog, h_, q_, implies_true, ite_self, not_false_eq_true, if_false]; done) | rfl))
theorem reportTamper_part {o_ : Obj} (q_ : o_.quiet = true) (h_ : ¬ o_.id ∈ Footprint.reportTamper) (s : State) :
    (reportTamper s).part o_ = s.part o_ := by
  simp only [Footprint.reportTamper, List.mem_append, List.mem_cons, List.not_mem_nil, or_false, false_or, not_or] at h_
  unfold reportTamper
  first
  | (simp only [part_ite, part_set, foldl_part, logEvent_part, h_, q_, implies_true, ite_self, not_false_eq_true, if_false]; done)
  | ((try simp only [part_ite, part_set, foldl_part, logEvent_part, h_, q_, implies_true, ite_self, not_false_eq_true, if_false]) <;> (repeat' split) <;> (first | (simp only [part_ite, part_set, foldl_part, logEvent_part, h_, q_, implies_true, ite_self, not_false_eq_true, if_false]; done) | rfl))
theorem showSessions_part {o_ : Obj} (q_ : o_.quiet = true) (h_ : ¬ o_.id ∈ Footprint.showSessions) (s : State) :
    (showSessions s).part o_ = s.part o_ := by
  simp only [Footprint.showSessions, List.mem_append, List.mem_cons, List.not_mem_nil, or_false, false_or, not_or] at h_
  unfold showSessions
  first
  | (simp only [part_ite, part_set, h_, q_, implies_true, ite_self, not_false_eq_true, if_false]; done)
  | ((try simp only [part_ite, part_set, h_, q_, implies_true, ite_self, not_false_eq_true, if_false]) <;> (repeat' split) <;> (first | (simp only [part_ite, part_set, h_, q_, implies_true, ite_self, not_false_eq_true, if_false]; done) | rfl))
theorem endSession_part {o_ : Obj} (q_ : o_.quiet = true) (h_ : ¬ o_.id ∈ Footprint.endSession) (x : Session) (cause : Int) (s : State) :
    (endSession x cause s).part o_ = s.part o_ := by
  simp only [Footprint.endSession, List.mem_append, List.mem_cons, List.not_mem_nil, or_false, false_or, not_or] at h_
  unfold endSession
  first
  | (simp only [part_ite, forN_part, logEvent_part, unbindChannel_part, showSessions_part, h_, q_, implies_true, ite_self, not_false_eq_true, if_false]; done)
  | ((try simp only [part_ite, forN_part, logEvent_part, unbindChannel_part, showSessions_part, h_, q_, implies_true, ite_self, not_false_eq_true, if_false]) <;> (repeat' split) <;> (first | (simp only [part_ite, forN_part, logEvent_part, unbindChannel_part, showSessions_part, h_, q_, implies_true, ite_self, not_false_eq_true, if_false]; done) | rfl))
theorem endSessions_part {o_ : Obj} (q_ : o_.quiet = true) (h_ : ¬ o_.id ∈ Footprint.endSessions) (p : Session → Bool) (cause : Int) (s : State) :
    (endSessions p cause s).part o_ = s.part o_ := by
  simp only [Footprint.endSessions, List.mem_append, List.mem_cons, List.not_mem_nil, or_false, false_or, not_or] at h_
  unfold endSessions
  first
  | (simp only [part_ite, foldl_part, endSession_part, h_, q_, implies_true, ite_self, not_false_eq_true, if_false]; done)
  | ((try simp only [part_ite, foldl_part, endSession_part, h_, q_, implies_true, ite_self, not_false_eq_true, if_false]) <;> (repeat' split) <;> (first | (simp only [part_ite, foldl_part, endSession_part, h_, q_, implies_true, ite_self, not_false_eq_true, if_false]; done) | rfl))
theorem failOpening_part {o_ : Obj} (q_ : o_.quiet = true) (h_ : ¬ o_.id ∈ Footprint.failOpening) (addr : Nat) (s : State) :
    (failOpening addr s).part o_ = s.part o_ := by
  simp only [Footprint.failOpening, List.mem_append, List.mem_cons, List.not_mem_nil, or_false, false_or, not_or] at h_
  unfold failOpening
  first
  | (simp only [part_ite, part_setSeq, logEvent_part, h_, q_, implies_true, ite_self, not_false_eq_true, if_false]; done)
  | ((try simp only [part_ite, part_setSeq, logEvent_part, h_, q_, implies_true, ite_self, not_false_eq_true, if_false]) <;> (repeat' split) <;> (first | (simp only [part_ite, part_setSeq, logEvent_part, h_, q_, implies_true, ite_self, not_false_eq_true, if_false]; done) | rfl))
theorem answerOpen_part {o_ : Obj} (q_ : o_.quiet = true)  (space tag epoch fn status : Nat) (d : List Byte) (s : State) :
    (answerOpen space tag epoch fn status d s).part o_ = s.part o_ := by
  unfold answerOpen
  first
  | (simp only [part_ite, emitAnswer_part, q_, implies_true, ite_self, not_false_eq_true, if_false]; done)
  | ((try simp only [part_ite, emitAnswer_part, q_, implies_true, ite_self, not_false_eq_true, if_false]) <;> (repeat' split) <;> (first | (simp only [part_ite, emitAnswer_part, q_, implies_true, ite_self, not_false_eq_true, if_false]; done) | rfl))
theorem startTransition_part {o_ : Obj} (q_ : o_.quiet = true) (h_ : ¬ o_.id ∈ Footprint.startTransition) (dst role : Nat) (s : State) :
    (startTransition dst role s).part o_ = s.part o_ := by
  simp only [Footprint.startTransition, List.mem_append, List.mem_cons, List.not_mem_nil, or_false, false_or, not_or] at h_
  unfold startTransition
  first
  | (simp only [part_ite, part_set, part_inc, part_emit, h_, q_, implies_true, ite_self, not_false_eq_true, if_false]; done)
  | ((try simp only [part_ite, part_set, part_inc, part_emit, h_, q_, implies_true, ite_self, not_false_eq_true, if_false]) <;> (repeat' split) <;> (first | (simp only [part_ite, part_set, part_inc, part_emit, h_, q_, implies_true, ite_self, not_false_eq_true, if_false]; done) | rfl))
theorem requestTransition_part {o_ : Obj} (q_ : o_.quiet = true) (h_ : ¬ o_.id ∈ Footprint.requestTransition) (r : Req) (dst : Nat) (s : State) :
    (requestTransition r dst s).part o_ = s.part o_ := by
  simp only [Footprint.requestTransition, List.mem_append, List.mem_cons, List.not_mem_nil, or_false, false_or, not_or, and_assoc] at h_
  have f (role : Nat) (u t : State) (e : (if transitionStatus u dst role ≠ 0 then Except.error (transitionStatus u dst role) else Except.ok (startTransition dst role u)) = .ok t) :
      t.part o_ = u.part o_ := by
    split at e
    · cases e
    · rw [← Except.ok.inj e, startTransition_part q_ h_.2]
  unfold requestTransition
  dsimp only
  rw [part_ite, answerWaiting_part q_, ite_self, hostDefer_part q_ h_.1 _ _ _ _ _ f]
theorem wrapCanKeys_part {o_ : Obj} (q_ : o_.quiet = true) (h_ : ¬ o_.id ∈ Footprint.wrapCanKeys) (s : State) :
    (wrapCanKeys s).part o_ = s.part o_ := by
  simp only [Footprint.wrapCanKeys, List.mem_append, List.mem_cons, List.not_mem_nil, or_false, false_or, not_or] at h_
  unfold wrapCanKeys
  first
  | (simp only [part_ite, part_setBytes, forN_part, wrapWith_part, h_, q_, implies_true, ite_self, not_false_eq_true, if_false]; done)
  | ((try simp only [part_ite, part_setBytes, forN_part, wrapWith_part, h_, q_, implies_true, ite_self, not_false_eq_true, if_false]) <;> (repeat' split) <;> (first | (simp only [part_ite, part_setBytes, forN_part, wrapWith_part, h_, q_, implies_true, ite_self, not_false_eq_true, if_false]; done) | rfl))
theorem changeRoots_part {o_ : Obj} (q_ : o_.quiet = true) (h_ : ¬ o_.id ∈ Footprint.changeRoots) (old new : Int) (s : State) :
    (changeRoots old new s).part o_ = s.part o_ := by
  simp only [Footprint.changeRoots, List.mem_append, List.mem_cons, List.not_mem_nil, or_false, false_or, not_or] at h_
  unfold changeRoots
  first
  | (simp only [part_ite, part_random, holdSecret_part, destroySecret_part, h_, q_, implies_true, ite_self, not_false_eq_true, if_false]; done)
  | ((try simp only [part_ite, part_random, holdSecret_part, destroySecret_part, h_, q_, implies_true, ite_self, not_false_eq_true, if_false]) <;> (repeat' split) <;> (first | (simp only [part_ite, part_random, holdSecret_part, destroySecret_part, h_, q_, implies_true, ite_self, not_false_eq_true, if_false]; done) | rfl))
theorem carryOut_part {o_ : Obj} (q_ : o_.quiet = true) (h_ : ¬ o_.id ∈ Footprint.carryOut) (s : State) :
    (carryOut s).part o_ = s.part o_ := by
  simp only [Footprint.carryOut, List.mem_append, List.mem_cons, List.not_mem_nil, or_false, false_or, not_or] at h_
  unfold carryOut
  first
  | (simp only [part_ite, part_set, part_setBytes, logEvent_part, submit_part, changeRoots_part, rewrapBlobs_part, wrapCanKeys_part, publishFieldKey_part, refreshAll_part, h_, q_, implies_true, ite_self, not_false_eq_true, if_false]; done)
  | ((try simp only [part_ite, part_set, part_setBytes, logEvent_part, submit_part, changeRoots_part, rewrapBlobs_part, wrapCanKeys_part, publishFieldKey_part, refreshAll_part, h_, q_, implies_true, ite_self, not_false_eq_true, if_false]) <;> (repeat' split) <;> (first | (simp only [part_ite, part_set, part_setBytes, logEvent_part, submit_part, changeRoots_part, rewrapBlobs_part, wrapCanKeys_part, publishFieldKey_part, refreshAll_part, h_, q_, implies_true, ite_self, not_false_eq_true, if_false]; done) | rfl))
theorem attest_part {o_ : Obj} (q_ : o_.quiet = true) (h_ : ¬ o_.id ∈ Footprint.attest) (nonce : List Byte) (s : State) :
    (attest nonce s).part o_ = s.part o_ := by
  simp only [Footprint.attest, List.mem_append, List.mem_cons, List.not_mem_nil, or_false, false_or, not_or] at h_
  unfold attest
  first
  | (simp only [part_ite, part_set, part_setBytes, signWith_part, h_, q_, implies_true, ite_self, not_false_eq_true, if_false]; done)
  | ((try simp only [part_ite, part_set, part_setBytes, signWith_part, h_, q_, implies_true, ite_self, not_false_eq_true, if_false]) <;> (repeat' split) <;> (first | (simp only [part_ite, part_set, part_setBytes, signWith_part, h_, q_, implies_true, ite_self, not_false_eq_true, if_false]; done) | rfl))
theorem makeSecc_part {o_ : Obj} (q_ : o_.quiet = true) (h_ : ¬ o_.id ∈ Footprint.makeSecc) (kind : Nat) (s : State) :
    (makeSecc kind s).part o_ = s.part o_ := by
  simp only [Footprint.makeSecc, List.mem_append, List.mem_cons, List.not_mem_nil, or_false, false_or, not_or] at h_
  unfold makeSecc
  first
  | (simp only [part_ite, part_set, part_setBytes, part_random, wrapWith_part, writeBlob_part, holdSecret_part, h_, q_, implies_true, ite_self, not_false_eq_true, if_false]; done)
  | ((try simp only [part_ite, part_set, part_setBytes, part_random, wrapWith_part, writeBlob_part, holdSecret_part, h_, q_, implies_true, ite_self, not_false_eq_true, if_false]) <;> (repeat' split) <;> (first | (simp only [part_ite, part_set, part_setBytes, part_random, wrapWith_part, writeBlob_part, holdSecret_part, h_, q_, implies_true, ite_self, not_false_eq_true, if_false]; done) | rfl))
theorem exportLog_part {o_ : Obj} (q_ : o_.quiet = true) (h_ : ¬ o_.id ∈ Footprint.exportLog) (code : Nat) (s : State) :
    (exportLog code s).part o_ = s.part o_ := by
  simp only [Footprint.exportLog, List.mem_append, List.mem_cons, List.not_mem_nil, or_false, false_or, not_or] at h_
  unfold exportLog
  first
  | (simp only [part_ite, queueItem_part, signWith_part, h_, q_, implies_true, ite_self, not_false_eq_true, if_false]; done)
  | ((try simp only [part_ite, queueItem_part, signWith_part, h_, q_, implies_true, ite_self, not_false_eq_true, if_false]) <;> (repeat' split) <;> (first | (simp only [part_ite, queueItem_part, signWith_part, h_, q_, implies_true, ite_self, not_false_eq_true, if_false]; done) | rfl))
theorem resumeKc_part {o_ : Obj} (q_ : o_.quiet = true) (h_ : ¬ o_.id ∈ Footprint.resumeKc) (s : State) :
    (resumeKc s).part o_ = s.part o_ := by
  simp only [Footprint.resumeKc, List.mem_append, List.mem_cons, List.not_mem_nil, or_false, false_or, not_or] at h_
  unfold resumeKc
  first
  | (simp only [part_ite, forN_part, foldl_part, attest_part, answerWaiting_part, makeSecc_part, exportLog_part, sealContext_part, h_, q_, implies_true, ite_self, not_false_eq_true, if_false]; done)
  | ((try simp only [part_ite, forN_part, foldl_part, attest_part, answerWaiting_part, makeSecc_part, exportLog_part, sealContext_part, h_, q_, implies_true, ite_self, not_false_eq_true, if_false]) <;> (repeat' split) <;> (first | (simp only [part_ite, forN_part, foldl_part, attest_part, answerWaiting_part, makeSecc_part, exportLog_part, sealContext_part, h_, q_, implies_true, ite_self, not_false_eq_true, if_false]; done) | rfl))
theorem setFieldKeyVersion_part {o_ : Obj} (q_ : o_.quiet = true) (h_ : ¬ o_.id ∈ Footprint.setFieldKeyVersion) (v : Int) (t : State) {t_ : State} (e_ : setFieldKeyVersion v t = .ok t_) :
    t_.part o_ = t.part o_ := by
  simp only [Footprint.setFieldKeyVersion, List.mem_append, List.mem_cons, List.not_mem_nil, or_false, false_or, not_or] at h_
  unfold setFieldKeyVersion at e_
  (repeat' split at e_) <;> cases e_ <;> (first | (simp only [part_ite, part_set, logEvent_part, publishFieldKey_part, h_, q_, implies_true, ite_self, not_false_eq_true, if_false]; done) | rfl)
theorem setRoleKey_part {o_ : Obj} (q_ : o_.quiet = true) (h_ : ¬ o_.id ∈ Footprint.setRoleKey) (role by_ : Nat) (key : List Byte) (s : State) {t_ : State} (e_ : setRoleKey role by_ key s = .ok t_) :
    t_.part o_ = s.part o_ := by
  simp only [Footprint.setRoleKey, List.mem_append, List.mem_cons, List.not_mem_nil, or_false, false_or, not_or, and_assoc] at h_
  obtain ⟨a1, a2, a3, b, c⟩ := h_
  unfold setRoleKey at e_
  dsimp only at e_
  split at e_
  · split at e_
    · cases e_
    · refine auditRoom_part (fun u t h => ?_) e_
      rw [← Except.ok.inj h, endSessions_part q_ b, auditEntry_part q_ c, part_setBytes a1]
  · rw [← Except.ok.inj e_, endSessions_part q_ b]
    split
    · exact part_setBytes a2 _ _ _
    · exact part_setBytes a3 _ _ _
theorem setCanKey_part {o_ : Obj} (q_ : o_.quiet = true) (h_ : ¬ o_.id ∈ Footprint.setCanKey) (r : Req) (role by_ : Nat) (key : List Byte) (s : State)
    {t_ : State} (e_ : setCanKey r role by_ key s = .ok t_) : t_.part o_ = s.part o_ := by
  simp only [Footprint.setCanKey, List.mem_append, List.mem_cons, List.not_mem_nil, or_false, false_or, not_or, and_assoc] at h_
  obtain ⟨a1, a2, a3, b, c, d, e⟩ := h_
  have w (t : State) : State.part (let u := holdSecret (kCan role) key t
      let p := wrapWith (roleWrapKey u) key u
      let v := writeBlob (kCan role) (p.2.setBytes Reg.canWrapped p.1 (role - 1))
      (v.set Obj.canCounter 0 0 (role - 1)).set Reg.canFloor 0 (role - 1)) o_ = t.part o_ := by
    dsimp only
    rw [part_set a3, part_set a2, writeBlob_part q_ d, part_setBytes a1, wrapWith_part q_ c, holdSecret_part q_ b]
  unfold setCanKey at e_
  dsimp only at e_
  split at e_
  · cases e_
  · split at e_
    · cases e_
    · split at e_
      · refine auditRoom_part (fun u t h => ?_) e_
        cases h
        rw [auditEntry_part q_ e]
        exact w u
      · cases e_
        exact w s
theorem generateSecc_part {o_ : Obj} (q_ : o_.quiet = true) (h_ : ¬ o_.id ∈ Footprint.generateSecc) (r : Req) (kind : Nat) (s : State) :
    (generateSecc r kind s).part o_ = s.part o_ := by
  simp only [Footprint.generateSecc, List.mem_append, List.mem_cons, List.not_mem_nil, or_false, false_or, not_or, and_assoc] at h_
  unfold generateSecc
  rw [resumeKc_part q_ h_.1, hostDefer_part q_ h_.2]
  intro role u t e
  split at e
  · cases e
  · rw [← Except.ok.inj e]
theorem selectSlot_view {o_ : Obj} (q_ : o_.quiet = true) (h_ : ¬ o_.id ∈ Footprint.selectSlot) (v : Int) (s : State) :
    (selectSlot v s).view o_ = s.view o_ := by
  simp only [Footprint.selectSlot, List.mem_append, List.mem_cons, List.not_mem_nil, or_false, false_or, not_or, and_assoc] at h_
  exact view_set h_ _ _ _

theorem endTrial_view {o_ : Obj} (q_ : o_.quiet = true) (h_ : ¬ o_.id ∈ Footprint.endTrial) (s : State) :
    (endTrial s).view o_ = s.view o_ := by
  simp only [Footprint.endTrial, List.mem_append, List.mem_cons, List.not_mem_nil, or_false, false_or, not_or] at h_
  unfold endTrial
  first
  | (simp only [view_ite, view_keep, selectSlot_view, h_, q_, implies_true, ite_self, not_false_eq_true, if_false]; done)
  | ((try simp only [view_ite, view_keep, selectSlot_view, h_, q_, implies_true, ite_self, not_false_eq_true, if_false]) <;> (repeat' split) <;> (first | (simp only [view_ite, view_keep, selectSlot_view, h_, q_, implies_true, ite_self, not_false_eq_true, if_false]; done) | rfl))

theorem rejectTrial_view {o_ : Obj} (q_ : o_.quiet = true) (h_ : ¬ o_.id ∈ Footprint.rejectTrial) (cause : Int) (s : State) :
    (rejectTrial cause s).view o_ = s.view o_ := by
  simp only [Footprint.rejectTrial, List.mem_append, List.mem_cons, List.not_mem_nil, or_false, false_or, not_or] at h_
  unfold rejectTrial
  first
  | (simp only [view_ite, logEvent_view, endTrial_view, h_, q_, implies_true, ite_self, not_false_eq_true, if_false]; done)
  | ((try simp only [view_ite, logEvent_view, endTrial_view, h_, q_, implies_true, ite_self, not_false_eq_true, if_false]) <;> (repeat' split) <;> (first | (simp only [view_ite, logEvent_view, endTrial_view, h_, q_, implies_true, ite_self, not_false_eq_true, if_false]; done) | rfl))

theorem stageCommit_view {o_ : Obj} (q_ : o_.quiet = true) (h_ : ¬ o_.id ∈ Footprint.stageCommit) (s : State) :
    (stageCommit s).view o_ = s.view o_ := by
  simp only [Footprint.stageCommit, List.mem_append, List.mem_cons, List.not_mem_nil, or_false, false_or, not_or, and_assoc] at h_
  unfold stageCommit
  dsimp only
  have e (t : State) (c d : List Key) : State.view { t with committing := c, dirty := d } o_ = t.view o_ := rfl
  rw [e, foldl_view, view_setLog h_.1, view_setSeq h_.2]
  intro k u
  split
  · rfl
  · split
    · exact view_setLog h_.1 _ _
    · exact view_setSeq h_.2 _ _ _

theorem acknowledged_part {o_ : Obj} (q_ : o_.quiet = true) (h_ : ¬ o_.id ∈ Footprint.acknowledged) (item : List Byte) (s : State) :
    (acknowledged item s).part o_ = s.part o_ := by
  simp only [Footprint.acknowledged, List.mem_append, List.mem_cons, List.not_mem_nil, or_false, false_or, not_or] at h_
  unfold acknowledged
  first
  | (simp only [part_ite, part_set, h_, q_, implies_true, ite_self, not_false_eq_true, if_false]; done)
  | ((try simp only [part_ite, part_set, h_, q_, implies_true, ite_self, not_false_eq_true, if_false]) <;> (repeat' split) <;> (first | (simp only [part_ite, part_set, h_, q_, implies_true, ite_self, not_false_eq_true, if_false]; done) | rfl))
theorem acknowledge_part {o_ : Obj} (q_ : o_.quiet = true) (h_ : ¬ o_.id ∈ Footprint.acknowledge) (ch : Nat) (seq : Int) (s : State) :
    (acknowledge ch seq s).part o_ = s.part o_ := by
  simp only [Footprint.acknowledge, List.mem_append, List.mem_cons, List.not_mem_nil, or_false, false_or, not_or] at h_
  unfold acknowledge
  first
  | (simp only [part_ite, part_set, part_setSeq, part_setLog, foldl_part, acknowledged_part, h_, q_, implies_true, ite_self, not_false_eq_true, if_false]; done)
  | ((try simp only [part_ite, part_set, part_setSeq, part_setLog, foldl_part, acknowledged_part, h_, q_, implies_true, ite_self, not_false_eq_true, if_false]) <;> (repeat' split) <;> (first | (simp only [part_ite, part_set, part_setSeq, part_setLog, foldl_part, acknowledged_part, h_, q_, implies_true, ite_self, not_false_eq_true, if_false]; done) | rfl))
theorem postWindow_part {o_ : Obj} (q_ : o_.quiet = true) (h_ : ¬ o_.id ∈ Footprint.postWindow) (ch space : Nat) (d : List Byte) (s : State) :
    (postWindow ch space d s).part o_ = s.part o_ := by
  simp only [Footprint.postWindow, List.mem_append, List.mem_cons, List.not_mem_nil, or_false, false_or, not_or] at h_
  unfold postWindow
  first
  | (simp only [part_ite, part_set, part_inc, part_setSeq, acknowledge_part, h_, q_, implies_true, ite_self, not_false_eq_true, if_false]; done)
  | ((try simp only [part_ite, part_set, part_inc, part_setSeq, acknowledge_part, h_, q_, implies_true, ite_self, not_false_eq_true, if_false]) <;> (repeat' split) <;> (first | (simp only [part_ite, part_set, part_inc, part_setSeq, acknowledge_part, h_, q_, implies_true, ite_self, not_false_eq_true, if_false]; done) | rfl))
theorem skipDropped_part {o_ : Obj} (q_ : o_.quiet = true) (h_ : ¬ o_.id ∈ Footprint.skipDropped) (m_ n_ : Nat) (s_ : State) :
    (skipDropped m_ n_ s_).part o_ = s_.part o_ := by
  simp only [Footprint.skipDropped, List.mem_append, List.mem_cons, List.not_mem_nil, or_false, false_or, not_or, and_assoc] at h_
  induction m_ generalizing s_ with
  | zero => rfl
  | succ n ih =>
    unfold skipDropped
    split
    · rw [ih, part_set h_.2.2, part_set h_.2.1, part_set h_.1]
    · rfl
theorem endWindow_part {o_ : Obj} (q_ : o_.quiet = true) (h_ : ¬ o_.id ∈ Footprint.endWindow) (ch : Nat) (s : State) :
    (endWindow ch s).part o_ = s.part o_ := by
  simp only [Footprint.endWindow, List.mem_append, List.mem_cons, List.not_mem_nil, or_false, false_or, not_or] at h_
  unfold endWindow
  first
  | (simp only [part_ite, part_set, part_setSeq, h_, q_, implies_true, ite_self, not_false_eq_true, if_false]; done)
  | ((try simp only [part_ite, part_set, part_setSeq, h_, q_, implies_true, ite_self, not_false_eq_true, if_false]) <;> (repeat' split) <;> (first | (simp only [part_ite, part_set, part_setSeq, h_, q_, implies_true, ite_self, not_false_eq_true, if_false]; done) | rfl))
theorem sendPush_part {o_ : Obj} (q_ : o_.quiet = true) (h_ : ¬ o_.id ∈ Footprint.sendPush) (ch : Nat) (s : State) :
    (sendPush ch s).part o_ = s.part o_ := by
  simp only [Footprint.sendPush, List.mem_append, List.mem_cons, List.not_mem_nil, or_false, false_or, not_or] at h_
  unfold sendPush
  first
  | (simp only [part_ite, part_set, part_emit, skipDropped_part, endWindow_part, h_, q_, implies_true, ite_self, not_false_eq_true, if_false]; done)
  | ((try simp only [part_ite, part_set, part_emit, skipDropped_part, endWindow_part, h_, q_, implies_true, ite_self, not_false_eq_true, if_false]) <;> (repeat' split) <;> (first | (simp only [part_ite, part_set, part_emit, skipDropped_part, endWindow_part, h_, q_, implies_true, ite_self, not_false_eq_true, if_false]; done) | rfl))
theorem closeWindow_part {o_ : Obj} (q_ : o_.quiet = true) (h_ : ¬ o_.id ∈ Footprint.closeWindow) (ch : Nat) (s : State) :
    (closeWindow ch s).part o_ = s.part o_ := by
  simp only [Footprint.closeWindow, List.mem_append, List.mem_cons, List.not_mem_nil, or_false, false_or, not_or] at h_
  unfold closeWindow
  first
  | (simp only [part_ite, part_emit, endWindow_part, h_, q_, implies_true, ite_self, not_false_eq_true, if_false]; done)
  | ((try simp only [part_ite, part_emit, endWindow_part, h_, q_, implies_true, ite_self, not_false_eq_true, if_false]) <;> (repeat' split) <;> (first | (simp only [part_ite, part_emit, endWindow_part, h_, q_, implies_true, ite_self, not_false_eq_true, if_false]; done) | rfl))
theorem resendFrom_part {o_ : Obj} (q_ : o_.quiet = true) (h_ : ¬ o_.id ∈ Footprint.resendFrom) (ch : Nat) (s : State) :
    (resendFrom ch s).part o_ = s.part o_ := by
  simp only [Footprint.resendFrom, List.mem_append, List.mem_cons, List.not_mem_nil, or_false, false_or, not_or] at h_
  unfold resendFrom
  first
  | (simp only [part_ite, part_set, part_inc, part_setSeq, closeWindow_part, h_, q_, implies_true, ite_self, not_false_eq_true, if_false]; done)
  | ((try simp only [part_ite, part_set, part_inc, part_setSeq, closeWindow_part, h_, q_, implies_true, ite_self, not_false_eq_true, if_false]) <;> (repeat' split) <;> (first | (simp only [part_ite, part_set, part_inc, part_setSeq, closeWindow_part, h_, q_, implies_true, ite_self, not_false_eq_true, if_false]; done) | rfl))
theorem startCan_part {o_ : Obj} (q_ : o_.quiet = true) (h_ : ¬ o_.id ∈ Footprint.startCan) (k : Nat) (s : State) :
    (startCan k s).part o_ = s.part o_ := by
  simp only [Footprint.startCan, List.mem_append, List.mem_cons, List.not_mem_nil, or_false, false_or, not_or] at h_
  unfold startCan
  first
  | (simp only [part_ite, part_set, h_, q_, implies_true, ite_self, not_false_eq_true, if_false]; done)
  | ((try simp only [part_ite, part_set, h_, q_, implies_true, ite_self, not_false_eq_true, if_false]) <;> (repeat' split) <;> (first | (simp only [part_ite, part_set, h_, q_, implies_true, ite_self, not_false_eq_true, if_false]; done) | rfl))
theorem queueFrameOf_part {o_ : Obj} (q_ : o_.quiet = true) (h_ : ¬ o_.id ∈ Footprint.queueFrameOf) (m : Nat) (d : List Byte) (s : State) :
    (queueFrameOf m d s).part o_ = s.part o_ := by
  simp only [Footprint.queueFrameOf, List.mem_append, List.mem_cons, List.not_mem_nil, or_false, false_or, not_or] at h_
  unfold queueFrameOf
  first
  | (simp only [part_ite, part_setBit, part_setLog, startCan_part, h_, q_, implies_true, ite_self, not_false_eq_true, if_false]; done)
  | ((try simp only [part_ite, part_setBit, part_setLog, startCan_part, h_, q_, implies_true, ite_self, not_false_eq_true, if_false]) <;> (repeat' split) <;> (first | (simp only [part_ite, part_setBit, part_setLog, startCan_part, h_, q_, implies_true, ite_self, not_false_eq_true, if_false]; done) | rfl))
theorem canIdle_part {o_ : Obj} (q_ : o_.quiet = true) (h_ : ¬ o_.id ∈ Footprint.canIdle) (k : Nat) (s : State) :
    (canIdle k s).part o_ = s.part o_ := by
  simp only [Footprint.canIdle, List.mem_append, List.mem_cons, List.not_mem_nil, or_false, false_or, not_or] at h_
  unfold canIdle
  first
  | (simp only [part_ite, part_set, part_inc, part_emit, logEvent_part, answerWaiting_part, startCan_part, h_, q_, implies_true, ite_self, not_false_eq_true, if_false]; done)
  | ((try simp only [part_ite, part_set, part_inc, part_emit, logEvent_part, answerWaiting_part, startCan_part, h_, q_, implies_true, ite_self, not_false_eq_true, if_false]) <;> (repeat' split) <;> (first | (simp only [part_ite, part_set, part_inc, part_emit, logEvent_part, answerWaiting_part, startCan_part, h_, q_, implies_true, ite_self, not_false_eq_true, if_false]; done) | rfl))
theorem writeMoData_part {o_ : Obj} (q_ : o_.quiet = true) (h_ : ¬ o_.id ∈ Footprint.writeMoData) (m : Nat) (d : List Byte) (s : State) {t_ : State} (e_ : writeMoData m d s = .ok t_) :
    t_.part o_ = s.part o_ := by
  simp only [Footprint.writeMoData, List.mem_append, List.mem_cons, List.not_mem_nil, or_false, false_or, not_or] at h_
  unfold writeMoData at e_
  (repeat' split at e_) <;> cases e_ <;> (first | (simp only [part_ite, part_setBytes, queueFrameOf_part, h_, q_, implies_true, ite_self, not_false_eq_true, if_false]; done) | rfl)
theorem markDeferred_part {o_ : Obj} (q_ : o_.quiet = true) (h_ : ¬ o_.id ∈ Footprint.markDeferred) (m : Nat) (l : List FieldWrite) (s : State) :
    (markDeferred m l s).part o_ = s.part o_ := by
  simp only [Footprint.markDeferred, List.mem_append, List.mem_cons, List.not_mem_nil, or_false, false_or, not_or] at h_
  unfold markDeferred
  first
  | (simp only [part_ite, part_set, part_setBit, h_, q_, implies_true, ite_self, not_false_eq_true, if_false]; done)
  | ((try simp only [part_ite, part_set, part_setBit, h_, q_, implies_true, ite_self, not_false_eq_true, if_false]) <;> (repeat' split) <;> (first | (simp only [part_ite, part_set, part_setBit, h_, q_, implies_true, ite_self, not_false_eq_true, if_false]; done) | rfl))
theorem storeFrame_part {o_ : Obj} (q_ : o_.quiet = true) (h_ : ¬ o_.id ∈ Footprint.storeFrame) (m : Nat) (d : List Byte) (s : State) :
    (storeFrame m d s).part o_ = s.part o_ := by
  simp only [Footprint.storeFrame, List.mem_append, List.mem_cons, List.not_mem_nil, or_false, false_or, not_or] at h_
  unfold storeFrame
  first
  | (simp only [part_ite, part_set, part_setBit, part_setBytes, h_, q_, implies_true, ite_self, not_false_eq_true, if_false]; done)
  | ((try simp only [part_ite, part_set, part_setBit, part_setBytes, h_, q_, implies_true, ite_self, not_false_eq_true, if_false]) <;> (repeat' split) <;> (first | (simp only [part_ite, part_set, part_setBit, part_setBytes, h_, q_, implies_true, ite_self, not_false_eq_true, if_false]; done) | rfl))
theorem frameTaken_part {o_ : Obj} (q_ : o_.quiet = true) (h_ : ¬ o_.id ∈ Footprint.frameTaken) (m : Nat) (s : State) :
    (frameTaken m s).part o_ = s.part o_ := by
  simp only [Footprint.frameTaken, List.mem_append, List.mem_cons, List.not_mem_nil, or_false, false_or, not_or] at h_
  unfold frameTaken
  first
  | (simp only [part_ite, part_set, part_setBit, h_, q_, implies_true, ite_self, not_false_eq_true, if_false]; done)
  | ((try simp only [part_ite, part_set, part_setBit, h_, q_, implies_true, ite_self, not_false_eq_true, if_false]) <;> (repeat' split) <;> (first | (simp only [part_ite, part_set, part_setBit, h_, q_, implies_true, ite_self, not_false_eq_true, if_false]; done) | rfl))
theorem takeCanFrame_part {o_ : Obj} (q_ : o_.quiet = true) (h_ : ¬ o_.id ∈ Footprint.takeCanFrame) (m : Nat) (d : List Byte) (s : State) :
    (takeCanFrame m d s).part o_ = s.part o_ := by
  simp only [Footprint.takeCanFrame, List.mem_append, List.mem_cons, List.not_mem_nil, or_false, false_or, not_or] at h_
  unfold takeCanFrame
  first
  | (simp only [part_ite, part_set, part_inc, part_setBit, frameTaken_part, storeFrame_part, h_, q_, implies_true, ite_self, not_false_eq_true, if_false]; done)
  | ((try simp only [part_ite, part_set, part_inc, part_setBit, frameTaken_part, storeFrame_part, h_, q_, implies_true, ite_self, not_false_eq_true, if_false]) <;> (repeat' split) <;> (first | (simp only [part_ite, part_set, part_inc, part_setBit, frameTaken_part, storeFrame_part, h_, q_, implies_true, ite_self, not_false_eq_true, if_false]; done) | rfl))
theorem readMoData_part {o_ : Obj} (q_ : o_.quiet = true) (h_ : ¬ o_.id ∈ Footprint.readMoData) (m : Nat) (s : State) :
    (readMoData m s).2.part o_ = s.part o_ := by
  simp only [Footprint.readMoData, List.mem_append, List.mem_cons, List.not_mem_nil, or_false, false_or, not_or] at h_
  unfold readMoData
  first
  | (simp only [part_ite, part_set, part_setBit, h_, q_, implies_true, ite_self, not_false_eq_true, if_false]; done)
  | ((try simp only [part_ite, part_set, part_setBit, h_, q_, implies_true, ite_self, not_false_eq_true, if_false]) <;> (repeat' split) <;> (first | (simp only [part_ite, part_set, part_setBit, h_, q_, implies_true, ite_self, not_false_eq_true, if_false]; done) | rfl))
theorem missOf_part {o_ : Obj} (q_ : o_.quiet = true) (h_ : ¬ o_.id ∈ Footprint.missOf) (m : Nat) (s : State) :
    (missOf m s).part o_ = s.part o_ := by
  simp only [Footprint.missOf, List.mem_append, List.mem_cons, List.not_mem_nil, or_false, false_or, not_or] at h_
  unfold missOf
  first
  | (simp only [part_ite, part_set, part_inc, part_setBit, logLimited_part, canIdle_part, h_, q_, implies_true, ite_self, not_false_eq_true, if_false]; done)
  | ((try simp only [part_ite, part_set, part_inc, part_setBit, logLimited_part, canIdle_part, h_, q_, implies_true, ite_self, not_false_eq_true, if_false]) <;> (repeat' split) <;> (first | (simp only [part_ite, part_set, part_inc, part_setBit, logLimited_part, canIdle_part, h_, q_, implies_true, ite_self, not_false_eq_true, if_false]; done) | rfl))
theorem endTtWindow_part {o_ : Obj} (q_ : o_.quiet = true) (h_ : ¬ o_.id ∈ Footprint.endTtWindow) (k : Nat) (s : State) :
    (endTtWindow k s).part o_ = s.part o_ := by
  simp only [Footprint.endTtWindow, List.mem_append, List.mem_cons, List.not_mem_nil, or_false, false_or, not_or] at h_
  unfold endTtWindow
  first
  | (simp only [part_ite, missOf_part, h_, q_, implies_true, ite_self, not_false_eq_true, if_false]; done)
  | ((try simp only [part_ite, missOf_part, h_, q_, implies_true, ite_self, not_false_eq_true, if_false]) <;> (repeat' split) <;> (first | (simp only [part_ite, missOf_part, h_, q_, implies_true, ite_self, not_false_eq_true, if_false]; done) | rfl))
theorem nextBasicCycle_part {o_ : Obj} (q_ : o_.quiet = true) (h_ : ¬ o_.id ∈ Footprint.nextBasicCycle) (k : Nat) (s : State) :
    (nextBasicCycle k s).part o_ = s.part o_ := by
  simp only [Footprint.nextBasicCycle, List.mem_append, List.mem_cons, List.not_mem_nil, or_false, false_or, not_or] at h_
  unfold nextBasicCycle
  first
  | (simp only [part_ite, part_set, part_inc, part_emit, logEvent_part, answerWaiting_part, canIdle_part, h_, q_, implies_true, ite_self, not_false_eq_true, if_false]; done)
  | ((try simp only [part_ite, part_set, part_inc, part_emit, logEvent_part, answerWaiting_part, canIdle_part, h_, q_, implies_true, ite_self, not_false_eq_true, if_false]) <;> (repeat' split) <;> (first | (simp only [part_ite, part_set, part_inc, part_emit, logEvent_part, answerWaiting_part, canIdle_part, h_, q_, implies_true, ite_self, not_false_eq_true, if_false]; done) | rfl))
theorem judgeErrors_part {o_ : Obj} (q_ : o_.quiet = true) (h_ : ¬ o_.id ∈ Footprint.judgeErrors) (k : Nat) (s : State) :
    (judgeErrors k s).part o_ = s.part o_ := by
  simp only [Footprint.judgeErrors, List.mem_append, List.mem_cons, List.not_mem_nil, or_false, false_or, not_or] at h_
  unfold judgeErrors
  first
  | (simp only [part_ite, part_set, logEvent_part, h_, q_, implies_true, ite_self, not_false_eq_true, if_false]; done)
  | ((try simp only [part_ite, part_set, logEvent_part, h_, q_, implies_true, ite_self, not_false_eq_true, if_false]) <;> (repeat' split) <;> (first | (simp only [part_ite, part_set, logEvent_part, h_, q_, implies_true, ite_self, not_false_eq_true, if_false]; done) | rfl))
theorem beginRecovery_part {o_ : Obj} (q_ : o_.quiet = true) (h_ : ¬ o_.id ∈ Footprint.beginRecovery) (k : Nat) (s : State) :
    (beginRecovery k s).part o_ = s.part o_ := by
  simp only [Footprint.beginRecovery, List.mem_append, List.mem_cons, List.not_mem_nil, or_false, false_or, not_or] at h_
  unfold beginRecovery
  first
  | (simp only [part_ite, part_set, part_setSeq, h_, q_, implies_true, ite_self, not_false_eq_true, if_false]; done)
  | ((try simp only [part_ite, part_set, part_setSeq, h_, q_, implies_true, ite_self, not_false_eq_true, if_false]) <;> (repeat' split) <;> (first | (simp only [part_ite, part_set, part_setSeq, h_, q_, implies_true, ite_self, not_false_eq_true, if_false]; done) | rfl))
theorem coilFault_part {o_ : Obj} (q_ : o_.quiet = true) (h_ : ¬ o_.id ∈ Footprint.coilFault) (cause : Int) (before : State) (l : List Nat) (s : State) :
    (coilFault cause before l s).part o_ = s.part o_ := by
  simp only [Footprint.coilFault, List.mem_append, List.mem_cons, List.not_mem_nil, or_false, false_or, not_or] at h_
  unfold coilFault
  first
  | (simp only [part_ite, forN_part, hardwareStop_part, h_, q_, implies_true, ite_self, not_false_eq_true, if_false]; done)
  | ((try simp only [part_ite, forN_part, hardwareStop_part, h_, q_, implies_true, ite_self, not_false_eq_true, if_false]) <;> (repeat' split) <;> (first | (simp only [part_ite, forN_part, hardwareStop_part, h_, q_, implies_true, ite_self, not_false_eq_true, if_false]; done) | rfl))
theorem latchOff_part {o_ : Obj} (q_ : o_.quiet = true) (h_ : ¬ o_.id ∈ Footprint.latchOff) (c : Nat) (cause : Int) (s : State) :
    (latchOff c cause s).part o_ = s.part o_ := by
  simp only [Footprint.latchOff, List.mem_append, List.mem_cons, List.not_mem_nil, or_false, false_or, not_or] at h_
  unfold latchOff
  first
  | (simp only [part_ite, coilFault_part, latchChannel_part, h_, q_, implies_true, ite_self, not_false_eq_true, if_false]; done)
  | ((try simp only [part_ite, coilFault_part, latchChannel_part, h_, q_, implies_true, ite_self, not_false_eq_true, if_false]) <;> (repeat' split) <;> (first | (simp only [part_ite, coilFault_part, latchChannel_part, h_, q_, implies_true, ite_self, not_false_eq_true, if_false]; done) | rfl))
theorem hostCommand_part {o_ : Obj} (q_ : o_.quiet = true) (h_ : ¬ o_.id ∈ Footprint.hostCommand) (c : Nat) (v : Int) (s : State) {t_ : State} (e_ : hostCommand c v s = .ok t_) :
    t_.part o_ = s.part o_ := by
  simp only [Footprint.hostCommand, List.mem_append, List.mem_cons, List.not_mem_nil, or_false, false_or, not_or] at h_
  unfold hostCommand at e_
  (repeat' split at e_) <;> cases e_ <;> (first | (simp only [part_ite, commandChannel_part, h_, q_, implies_true, ite_self, not_false_eq_true, if_false]; done) | rfl)
theorem keepRetries_part {o_ : Obj} (q_ : o_.quiet = true) (h_ : ¬ o_.id ∈ Footprint.keepRetries) (c : Nat) (l : List Int) (s : State) :
    (keepRetries c l s).part o_ = s.part o_ := by
  simp only [Footprint.keepRetries, List.mem_append, List.mem_cons, List.not_mem_nil, or_false, false_or, not_or] at h_
  unfold keepRetries
  first
  | (simp only [part_ite, part_set, part_setSeq, h_, q_, implies_true, ite_self, not_false_eq_true, if_false]; done)
  | ((try simp only [part_ite, part_set, part_setSeq, h_, q_, implies_true, ite_self, not_false_eq_true, if_false]) <;> (repeat' split) <;> (first | (simp only [part_ite, part_set, part_setSeq, h_, q_, implies_true, ite_self, not_false_eq_true, if_false]; done) | rfl))
theorem restartCooled_part {o_ : Obj} (q_ : o_.quiet = true) (h_ : ¬ o_.id ∈ Footprint.restartCooled) (c : Nat) (s : State) :
    (restartCooled c s).part o_ = s.part o_ := by
  simp only [Footprint.restartCooled, List.mem_append, List.mem_cons, List.not_mem_nil, or_false, false_or, not_or] at h_
  unfold restartCooled
  first
  | (simp only [part_ite, part_set, enterInrush_part, keepRetries_part, h_, q_, implies_true, ite_self, not_false_eq_true, if_false]; done)
  | ((try simp only [part_ite, part_set, enterInrush_part, keepRetries_part, h_, q_, implies_true, ite_self, not_false_eq_true, if_false]) <;> (repeat' split) <;> (first | (simp only [part_ite, part_set, enterInrush_part, keepRetries_part, h_, q_, implies_true, ite_self, not_false_eq_true, if_false]; done) | rfl))
theorem restartShed_part {o_ : Obj} (q_ : o_.quiet = true) (h_ : ¬ o_.id ∈ Footprint.restartShed) (c : Nat) (s : State) :
    (restartShed c s).part o_ = s.part o_ := by
  simp only [Footprint.restartShed, List.mem_append, List.mem_cons, List.not_mem_nil, or_false, false_or, not_or] at h_
  unfold restartShed
  first
  | (simp only [part_ite, part_set, enterInrush_part, h_, q_, implies_true, ite_self, not_false_eq_true, if_false]; done)
  | ((try simp only [part_ite, part_set, enterInrush_part, h_, q_, implies_true, ite_self, not_false_eq_true, if_false]) <;> (repeat' split) <;> (first | (simp only [part_ite, part_set, enterInrush_part, h_, q_, implies_true, ite_self, not_false_eq_true, if_false]; done) | rfl))
theorem clearChannel_part {o_ : Obj} (q_ : o_.quiet = true) (h_ : ¬ o_.id ∈ Footprint.clearChannel) (c : Nat) (s : State) {t_ : State} (e_ : clearChannel c s = .ok t_) :
    t_.part o_ = s.part o_ := by
  simp only [Footprint.clearChannel, List.mem_append, List.mem_cons, List.not_mem_nil, or_false, false_or, not_or, and_assoc] at h_
  obtain ⟨a1, a2, b, c, d⟩ := h_
  unfold clearChannel at e_
  dsimp only at e_
  split at e_
  · split at e_
    · cases e_
    · cases e_
      split
      · rw [part_set a2, logEvent_part q_, keepRetries_part q_ b, part_set a2, part_set a1]
      · split
        · rw [tryTurnOn_part q_ c, logEvent_part q_, keepRetries_part q_ b, part_set a2, part_set a1]
        · rw [logEvent_part q_, keepRetries_part q_ b, part_set a2, part_set a1]
  · split at e_
    · cases e_
      exact restartShed_part q_ d _ _
    · cases e_
      rfl
theorem groupMeasured_part {o_ : Obj} (q_ : o_.quiet = true) (h_ : ¬ o_.id ∈ Footprint.groupMeasured) (g : Nat) (current : Int) (s : State) :
    (groupMeasured g current s).part o_ = s.part o_ := by
  simp only [Footprint.groupMeasured, List.mem_append, List.mem_cons, List.not_mem_nil, or_false, false_or, not_or] at h_
  unfold groupMeasured
  first
  | (simp only [part_ite, part_set, part_setBit, h_, q_, implies_true, ite_self, not_false_eq_true, if_false]; done)
  | ((try simp only [part_ite, part_set, part_setBit, h_, q_, implies_true, ite_self, not_false_eq_true, if_false]) <;> (repeat' split) <;> (first | (simp only [part_ite, part_set, part_setBit, h_, q_, implies_true, ite_self, not_false_eq_true, if_false]; done) | rfl))
theorem groupEvent_part {o_ : Obj} (q_ : o_.quiet = true)  (g : Nat) (current : Int) (shed : List Int) (s : State) :
    (groupEvent g current shed s).part o_ = s.part o_ := by
  unfold groupEvent
  first
  | (simp only [part_ite, logEvent_part, q_, implies_true, ite_self, not_false_eq_true, if_false]; done)
  | ((try simp only [part_ite, logEvent_part, q_, implies_true, ite_self, not_false_eq_true, if_false]) <;> (repeat' split) <;> (first | (simp only [part_ite, logEvent_part, q_, implies_true, ite_self, not_false_eq_true, if_false]; done) | rfl))
theorem groupOver_part {o_ : Obj} (q_ : o_.quiet = true) (h_ : ¬ o_.id ∈ Footprint.groupOver) (g : Nat) (s : State) :
    (groupOver g s).part o_ = s.part o_ := by
  simp only [Footprint.groupOver, List.mem_append, List.mem_cons, List.not_mem_nil, or_false, false_or, not_or] at h_
  unfold groupOver
  first
  | (simp only [part_ite, part_set, part_inc, part_setBit, part_when, groupEvent_part, latchChannel_part, h_, q_, implies_true, ite_self, not_false_eq_true, if_false]; done)
  | ((try simp only [part_ite, part_set, part_inc, part_setBit, part_when, groupEvent_part, latchChannel_part, h_, q_, implies_true, ite_self, not_false_eq_true, if_false]) <;> (repeat' split) <;> (first | (simp only [part_ite, part_set, part_inc, part_setBit, part_when, groupEvent_part, latchChannel_part, h_, q_, implies_true, ite_self, not_false_eq_true, if_false]; done) | rfl))
theorem supplyFault_part {o_ : Obj} (q_ : o_.quiet = true) (h_ : ¬ o_.id ∈ Footprint.supplyFault) (b : Nat) (l : List Nat) (s : State) :
    (supplyFault b l s).part o_ = s.part o_ := by
  simp only [Footprint.supplyFault, List.mem_append, List.mem_cons, List.not_mem_nil, or_false, false_or, not_or] at h_
  unfold supplyFault
  first
  | (simp only [part_ite, forL_part, coilFault_part, supplyOff_part, h_, q_, implies_true, ite_self, not_false_eq_true, if_false]; done)
  | ((try simp only [part_ite, forL_part, coilFault_part, supplyOff_part, h_, q_, implies_true, ite_self, not_false_eq_true, if_false]) <;> (repeat' split) <;> (first | (simp only [part_ite, forL_part, coilFault_part, supplyOff_part, h_, q_, implies_true, ite_self, not_false_eq_true, if_false]; done) | rfl))
theorem supplyReturn_part {o_ : Obj} (q_ : o_.quiet = true) (h_ : ¬ o_.id ∈ Footprint.supplyReturn) (b : Nat) (l : List Nat) (s : State) :
    (supplyReturn b l s).part o_ = s.part o_ := by
  simp only [Footprint.supplyReturn, List.mem_append, List.mem_cons, List.not_mem_nil, or_false, false_or, not_or] at h_
  unfold supplyReturn
  first
  | (simp only [part_ite, forL_part, supplyBack_part, h_, q_, implies_true, ite_self, not_false_eq_true, if_false]; done)
  | ((try simp only [part_ite, forL_part, supplyBack_part, h_, q_, implies_true, ite_self, not_false_eq_true, if_false]) <;> (repeat' split) <;> (first | (simp only [part_ite, forL_part, supplyBack_part, h_, q_, implies_true, ite_self, not_false_eq_true, if_false]; done) | rfl))
theorem groupBack_part {o_ : Obj} (q_ : o_.quiet = true) (h_ : ¬ o_.id ∈ Footprint.groupBack) (g : Nat) (voltage : Nat) (s : State) :
    (groupBack g voltage s).part o_ = s.part o_ := by
  simp only [Footprint.groupBack, List.mem_append, List.mem_cons, List.not_mem_nil, or_false, false_or, not_or] at h_
  unfold groupBack
  first
  | (simp only [part_ite, part_set, part_setBit, supplyReturn_part, h_, q_, implies_true, ite_self, not_false_eq_true, if_false]; done)
  | ((try simp only [part_ite, part_set, part_setBit, supplyReturn_part, h_, q_, implies_true, ite_self, not_false_eq_true, if_false]) <;> (repeat' split) <;> (first | (simp only [part_ite, part_set, part_setBit, supplyReturn_part, h_, q_, implies_true, ite_self, not_false_eq_true, if_false]; done) | rfl))
theorem offStateTest_part {o_ : Obj} (q_ : o_.quiet = true) (h_ : ¬ o_.id ∈ Footprint.offStateTest) (c u : Nat) (s : State) :
    (offStateTest c u s).part o_ = s.part o_ := by
  simp only [Footprint.offStateTest, List.mem_append, List.mem_cons, List.not_mem_nil, or_false, false_or, not_or] at h_
  unfold offStateTest
  first
  | (simp only [part_ite, part_set, logEvent_part, h_, q_, implies_true, ite_self, not_false_eq_true, if_false]; done)
  | ((try simp only [part_ite, part_set, logEvent_part, h_, q_, implies_true, ite_self, not_false_eq_true, if_false]) <;> (repeat' split) <;> (first | (simp only [part_ite, part_set, logEvent_part, h_, q_, implies_true, ite_self, not_false_eq_true, if_false]; done) | rfl))
theorem sampleInput_part {o_ : Obj} (q_ : o_.quiet = true) (h_ : ¬ o_.id ∈ Footprint.sampleInput) (n : Nat) (high : Bool) (s : State) :
    (sampleInput n high s).part o_ = s.part o_ := by
  simp only [Footprint.sampleInput, List.mem_append, List.mem_cons, List.not_mem_nil, or_false, false_or, not_or] at h_
  unfold sampleInput
  first
  | (simp only [part_ite, part_set, part_setBit, part_setSeq, h_, q_, implies_true, ite_self, not_false_eq_true, if_false]; done)
  | ((try simp only [part_ite, part_set, part_setBit, part_setSeq, h_, q_, implies_true, ite_self, not_false_eq_true, if_false]) <;> (repeat' split) <;> (first | (simp only [part_ite, part_set, part_setBit, part_setSeq, h_, q_, implies_true, ite_self, not_false_eq_true, if_false]; done) | rfl))
theorem confirmFault_part {o_ : Obj} (q_ : o_.quiet = true) (h_ : ¬ o_.id ∈ Footprint.confirmFault) (n : Nat) (cause : Int) (s : State) :
    (confirmFault n cause s).part o_ = s.part o_ := by
  simp only [Footprint.confirmFault, List.mem_append, List.mem_cons, List.not_mem_nil, or_false, false_or, not_or] at h_
  unfold confirmFault
  first
  | (simp only [part_ite, part_set, part_setBit, forN_part, logEvent_part, h_, q_, implies_true, ite_self, not_false_eq_true, if_false]; done)
  | ((try simp only [part_ite, part_set, part_setBit, forN_part, logEvent_part, h_, q_, implies_true, ite_self, not_false_eq_true, if_false]) <;> (repeat' split) <;> (first | (simp only [part_ite, part_set, part_setBit, forN_part, logEvent_part, h_, q_, implies_true, ite_self, not_false_eq_true, if_false]; done) | rfl))
theorem countPass_part {o_ : Obj} (q_ : o_.quiet = true) (h_ : ¬ o_.id ∈ Footprint.countPass) (n : Nat) (passed : Bool) (need : Int) (s : State) :
    (countPass n passed need s).part o_ = s.part o_ := by
  simp only [Footprint.countPass, List.mem_append, List.mem_cons, List.not_mem_nil, or_false, false_or, not_or] at h_
  unfold countPass
  first
  | (simp only [part_ite, part_set, part_setBit, h_, q_, implies_true, ite_self, not_false_eq_true, if_false]; done)
  | ((try simp only [part_ite, part_set, part_setBit, h_, q_, implies_true, ite_self, not_false_eq_true, if_false]) <;> (repeat' split) <;> (first | (simp only [part_ite, part_set, part_setBit, h_, q_, implies_true, ite_self, not_false_eq_true, if_false]; done) | rfl))
theorem judgeOssd_part {o_ : Obj} (q_ : o_.quiet = true) (h_ : ¬ o_.id ∈ Footprint.judgeOssd) (n : Nat) (pulse : Bool) (s : State) :
    (judgeOssd n pulse s).part o_ = s.part o_ := by
  simp only [Footprint.judgeOssd, List.mem_append, List.mem_cons, List.not_mem_nil, or_false, false_or, not_or] at h_
  unfold judgeOssd
  first
  | (simp only [part_ite, part_set, confirmFault_part, countPass_part, h_, q_, implies_true, ite_self, not_false_eq_true, if_false]; done)
  | ((try simp only [part_ite, part_set, confirmFault_part, countPass_part, h_, q_, implies_true, ite_self, not_false_eq_true, if_false]) <;> (repeat' split) <;> (first | (simp only [part_ite, part_set, confirmFault_part, countPass_part, h_, q_, implies_true, ite_self, not_false_eq_true, if_false]; done) | rfl))
theorem sampleReset_part {o_ : Obj} (q_ : o_.quiet = true) (h_ : ¬ o_.id ∈ Footprint.sampleReset) (high : Bool) (s : State) :
    (sampleReset high s).2.part o_ = s.part o_ := by
  simp only [Footprint.sampleReset, List.mem_append, List.mem_cons, List.not_mem_nil, or_false, false_or, not_or] at h_
  unfold sampleReset
  first
  | (simp only [part_ite, part_set, logEvent_part, h_, q_, implies_true, ite_self, not_false_eq_true, if_false]; done)
  | ((try simp only [part_ite, part_set, logEvent_part, h_, q_, implies_true, ite_self, not_false_eq_true, if_false]) <;> (repeat' split) <;> (first | (simp only [part_ite, part_set, logEvent_part, h_, q_, implies_true, ite_self, not_false_eq_true, if_false]; done) | rfl))
theorem startTest_part {o_ : Obj} (q_ : o_.quiet = true) (h_ : ¬ o_.id ∈ Footprint.startTest) (m : Nat) (s : State) :
    (startTest m s).part o_ = s.part o_ := by
  simp only [Footprint.startTest, List.mem_append, List.mem_cons, List.not_mem_nil, or_false, false_or, not_or] at h_
  unfold startTest
  first
  | (simp only [part_ite, part_set, h_, q_, implies_true, ite_self, not_false_eq_true, if_false]; done)
  | ((try simp only [part_ite, part_set, h_, q_, implies_true, ite_self, not_false_eq_true, if_false]) <;> (repeat' split) <;> (first | (simp only [part_ite, part_set, h_, q_, implies_true, ite_self, not_false_eq_true, if_false]; done) | rfl))
theorem abortTest_part {o_ : Obj} (q_ : o_.quiet = true) (h_ : ¬ o_.id ∈ Footprint.abortTest) (m : Nat) (s : State) :
    (abortTest m s).part o_ = s.part o_ := by
  simp only [Footprint.abortTest, List.mem_append, List.mem_cons, List.not_mem_nil, or_false, false_or, not_or] at h_
  unfold abortTest
  first
  | (simp only [part_ite, part_set, h_, q_, implies_true, ite_self, not_false_eq_true, if_false]; done)
  | ((try simp only [part_ite, part_set, h_, q_, implies_true, ite_self, not_false_eq_true, if_false]) <;> (repeat' split) <;> (first | (simp only [part_ite, part_set, h_, q_, implies_true, ite_self, not_false_eq_true, if_false]; done) | rfl))
theorem abortTest_view {o_ : Obj} (q_ : o_.quiet = true) (h_ : ¬ o_.id ∈ Footprint.abortTest) (m : Nat) (s : State)  :
    (abortTest m s).view o_ = s.view o_ :=
  view_of_part (abortTest_part q_ h_ m s)

theorem groupDisabled_part {o_ : Obj} (q_ : o_.quiet = true) (h_ : ¬ o_.id ∈ Footprint.groupDisabled) (g : Nat) (s : State) :
    (groupDisabled g s).part o_ = s.part o_ := by
  simp only [Footprint.groupDisabled, List.mem_append, List.mem_cons, List.not_mem_nil, or_false, false_or, not_or] at h_
  unfold groupDisabled
  first
  | (simp only [part_ite, part_setBit, forN_part, forL_part, supplyOff_part, outletFault_part, h_, q_, implies_true, ite_self, not_false_eq_true, if_false]; done)
  | ((try simp only [part_ite, part_setBit, forN_part, forL_part, supplyOff_part, outletFault_part, h_, q_, implies_true, ite_self, not_false_eq_true, if_false]) <;> (repeat' split) <;> (first | (simp only [part_ite, part_setBit, forN_part, forL_part, supplyOff_part, outletFault_part, h_, q_, implies_true, ite_self, not_false_eq_true, if_false]; done) | rfl))
theorem groupEnabled_part {o_ : Obj} (q_ : o_.quiet = true) (h_ : ¬ o_.id ∈ Footprint.groupEnabled) (g : Nat) (s : State) :
    (groupEnabled g s).part o_ = s.part o_ := by
  simp only [Footprint.groupEnabled, List.mem_append, List.mem_cons, List.not_mem_nil, or_false, false_or, not_or] at h_
  unfold groupEnabled
  first
  | (simp only [part_ite, part_setBit, supplyReturn_part, h_, q_, implies_true, ite_self, not_false_eq_true, if_false]; done)
  | ((try simp only [part_ite, part_setBit, supplyReturn_part, h_, q_, implies_true, ite_self, not_false_eq_true, if_false]) <;> (repeat' split) <;> (first | (simp only [part_ite, part_setBit, supplyReturn_part, h_, q_, implies_true, ite_self, not_false_eq_true, if_false]; done) | rfl))
theorem setOutput_part {o_ : Obj} (q_ : o_.quiet = true) (h_ : ¬ o_.id ∈ Footprint.setOutput) (o : Nat) (s : State) :
    (setOutput o s).part o_ = s.part o_ := by
  simp only [Footprint.setOutput, List.mem_append, List.mem_cons, List.not_mem_nil, or_false, false_or, not_or] at h_
  unfold setOutput
  first
  | (simp only [part_ite, part_set, part_setBit, part_when, groupEnabled_part, groupDisabled_part, h_, q_, implies_true, ite_self, not_false_eq_true, if_false]; done)
  | ((try simp only [part_ite, part_set, part_setBit, part_when, groupEnabled_part, groupDisabled_part, h_, q_, implies_true, ite_self, not_false_eq_true, if_false]) <;> (repeat' split) <;> (first | (simp only [part_ite, part_set, part_setBit, part_when, groupEnabled_part, groupDisabled_part, h_, q_, implies_true, ite_self, not_false_eq_true, if_false]; done) | rfl))
theorem setOutputs_part {o_ : Obj} (q_ : o_.quiet = true) (h_ : ¬ o_.id ∈ Footprint.setOutputs) (s : State) :
    (setOutputs s).part o_ = s.part o_ := by
  simp only [Footprint.setOutputs, List.mem_append, List.mem_cons, List.not_mem_nil, or_false, false_or, not_or] at h_
  unfold setOutputs
  first
  | (simp only [part_ite, forN_part, setOutput_part, h_, q_, implies_true, ite_self, not_false_eq_true, if_false]; done)
  | ((try simp only [part_ite, forN_part, setOutput_part, h_, q_, implies_true, ite_self, not_false_eq_true, if_false]) <;> (repeat' split) <;> (first | (simp only [part_ite, forN_part, setOutput_part, h_, q_, implies_true, ite_self, not_false_eq_true, if_false]; done) | rfl))
theorem setOutputs_view {o_ : Obj} (q_ : o_.quiet = true) (h_ : ¬ o_.id ∈ Footprint.setOutputs) (s : State)  :
    (setOutputs s).view o_ = s.view o_ :=
  view_of_part (setOutputs_part q_ h_ s)

theorem startDueTests_part {o_ : Obj} (q_ : o_.quiet = true) (h_ : ¬ o_.id ∈ Footprint.startDueTests) (s : State) :
    (startDueTests s).part o_ = s.part o_ := by
  simp only [Footprint.startDueTests, List.mem_append, List.mem_cons, List.not_mem_nil, or_false, false_or, not_or] at h_
  unfold startDueTests
  first
  | (simp only [part_ite, forN_part, startTest_part, h_, q_, implies_true, ite_self, not_false_eq_true, if_false]; done)
  | ((try simp only [part_ite, forN_part, startTest_part, h_, q_, implies_true, ite_self, not_false_eq_true, if_false]) <;> (repeat' split) <;> (first | (simp only [part_ite, forN_part, startTest_part, h_, q_, implies_true, ite_self, not_false_eq_true, if_false]; done) | rfl))
theorem tripFunction_part {o_ : Obj} (q_ : o_.quiet = true) (h_ : ¬ o_.id ∈ Footprint.tripFunction) (k n : Nat) (s : State) :
    (tripFunction k n s).part o_ = s.part o_ := by
  simp only [Footprint.tripFunction, List.mem_append, List.mem_cons, List.not_mem_nil, or_false, false_or, not_or] at h_
  unfold tripFunction
  first
  | (simp only [part_ite, part_set, forN_part, logEvent_part, abortTest_part, h_, q_, implies_true, ite_self, not_false_eq_true, if_false]; done)
  | ((try simp only [part_ite, part_set, forN_part, logEvent_part, abortTest_part, h_, q_, implies_true, ite_self, not_false_eq_true, if_false]) <;> (repeat' split) <;> (first | (simp only [part_ite, part_set, forN_part, logEvent_part, abortTest_part, h_, q_, implies_true, ite_self, not_false_eq_true, if_false]; done) | rfl))
theorem judgeFunction_part {o_ : Obj} (q_ : o_.quiet = true) (h_ : ¬ o_.id ∈ Footprint.judgeFunction) (edge : Bool) (k : Nat) (s : State) :
    (judgeFunction edge k s).part o_ = s.part o_ := by
  simp only [Footprint.judgeFunction, List.mem_append, List.mem_cons, List.not_mem_nil, or_false, false_or, not_or] at h_
  unfold judgeFunction
  first
  | (simp only [part_ite, part_set, logEvent_part, tripFunction_part, h_, q_, implies_true, ite_self, not_false_eq_true, if_false]; done)
  | ((try simp only [part_ite, part_set, logEvent_part, tripFunction_part, h_, q_, implies_true, ite_self, not_false_eq_true, if_false]) <;> (repeat' split) <;> (first | (simp only [part_ite, part_set, logEvent_part, tripFunction_part, h_, q_, implies_true, ite_self, not_false_eq_true, if_false]; done) | rfl))
theorem judgeStartUp_part {o_ : Obj} (q_ : o_.quiet = true) (h_ : ¬ o_.id ∈ Footprint.judgeStartUp) (s : State) :
    (judgeStartUp s).part o_ = s.part o_ := by
  simp only [Footprint.judgeStartUp, List.mem_append, List.mem_cons, List.not_mem_nil, or_false, false_or, not_or] at h_
  unfold judgeStartUp
  first
  | (simp only [part_ite, part_set, logEvent_part, h_, q_, implies_true, ite_self, not_false_eq_true, if_false]; done)
  | ((try simp only [part_ite, part_set, logEvent_part, h_, q_, implies_true, ite_self, not_false_eq_true, if_false]) <;> (repeat' split) <;> (first | (simp only [part_ite, part_set, logEvent_part, h_, q_, implies_true, ite_self, not_false_eq_true, if_false]; done) | rfl))
theorem judgeFunctions_part {o_ : Obj} (q_ : o_.quiet = true) (h_ : ¬ o_.id ∈ Footprint.judgeFunctions) (edge : Bool) (s : State) :
    (judgeFunctions edge s).part o_ = s.part o_ := by
  simp only [Footprint.judgeFunctions, List.mem_append, List.mem_cons, List.not_mem_nil, or_false, false_or, not_or] at h_
  unfold judgeFunctions
  first
  | (simp only [part_ite, forN_part, judgeFunction_part, h_, q_, implies_true, ite_self, not_false_eq_true, if_false]; done)
  | ((try simp only [part_ite, forN_part, judgeFunction_part, h_, q_, implies_true, ite_self, not_false_eq_true, if_false]) <;> (repeat' split) <;> (first | (simp only [part_ite, forN_part, judgeFunction_part, h_, q_, implies_true, ite_self, not_false_eq_true, if_false]; done) | rfl))
theorem outputFault_part {o_ : Obj} (q_ : o_.quiet = true) (h_ : ¬ o_.id ∈ Footprint.outputFault) (o : Nat) (cause : Int) (s : State) :
    (outputFault o cause s).part o_ = s.part o_ := by
  simp only [Footprint.outputFault, List.mem_append, List.mem_cons, List.not_mem_nil, or_false, false_or, not_or] at h_
  unfold outputFault
  first
  | (simp only [part_ite, part_setBit, forN_part, logEvent_part, submitObject_part, setOutput_part, emergencyStop_part, refreshAvail_part, commandCoils_part, h_, q_, implies_true, ite_self, not_false_eq_true, if_false]; done)
  | ((try simp only [part_ite, part_setBit, forN_part, logEvent_part, submitObject_part, setOutput_part, emergencyStop_part, refreshAvail_part, commandCoils_part, h_, q_, implies_true, ite_self, not_false_eq_true, if_false]) <;> (repeat' split) <;> (first | (simp only [part_ite, part_setBit, forN_part, logEvent_part, submitObject_part, setOutput_part, emergencyStop_part, refreshAvail_part, commandCoils_part, h_, q_, implies_true, ite_self, not_false_eq_true, if_false]; done) | rfl))
theorem judgeReadBack_part {o_ : Obj} (q_ : o_.quiet = true) (h_ : ¬ o_.id ∈ Footprint.judgeReadBack) (above5 above18 : Nat) (before : State) (s : State) :
    (judgeReadBack above5 above18 before s).part o_ = s.part o_ := by
  simp only [Footprint.judgeReadBack, List.mem_append, List.mem_cons, List.not_mem_nil, or_false, false_or, not_or] at h_
  unfold judgeReadBack
  first
  | (simp only [part_ite, part_set, forN_part, outputFault_part, h_, q_, implies_true, ite_self, not_false_eq_true, if_false]; done)
  | ((try simp only [part_ite, part_set, forN_part, outputFault_part, h_, q_, implies_true, ite_self, not_false_eq_true, if_false]) <;> (repeat' split) <;> (first | (simp only [part_ite, part_set, forN_part, outputFault_part, h_, q_, implies_true, ite_self, not_false_eq_true, if_false]; done) | rfl))
theorem hpStart_part {o_ : Obj} (q_ : o_.quiet = true) (h_ : ¬ o_.id ∈ Footprint.hpStart) (s : State) :
    (hpStart s).part o_ = s.part o_ := by
  simp only [Footprint.hpStart, List.mem_append, List.mem_cons, List.not_mem_nil, or_false, false_or, not_or] at h_
  unfold hpStart
  first
  | (simp only [part_ite, part_set, h_, q_, implies_true, ite_self, not_false_eq_true, if_false]; done)
  | ((try simp only [part_ite, part_set, h_, q_, implies_true, ite_self, not_false_eq_true, if_false]) <;> (repeat' split) <;> (first | (simp only [part_ite, part_set, h_, q_, implies_true, ite_self, not_false_eq_true, if_false]; done) | rfl))
theorem testPulse_part {o_ : Obj} (q_ : o_.quiet = true) (h_ : ¬ o_.id ∈ Footprint.testPulse) (k high : Nat) (s : State) :
    (testPulse k high s).part o_ = s.part o_ := by
  simp only [Footprint.testPulse, List.mem_append, List.mem_cons, List.not_mem_nil, or_false, false_or, not_or] at h_
  unfold testPulse
  first
  | (simp only [part_ite, part_set, forN_part, countPass_part, confirmFault_part, setOutputs_part, judgeFunctions_part, h_, q_, implies_true, ite_self, not_false_eq_true, if_false]; done)
  | ((try simp only [part_ite, part_set, forN_part, countPass_part, confirmFault_part, setOutputs_part, judgeFunctions_part, h_, q_, implies_true, ite_self, not_false_eq_true, if_false]) <;> (repeat' split) <;> (first | (simp only [part_ite, part_set, forN_part, countPass_part, confirmFault_part, setOutputs_part, judgeFunctions_part, h_, q_, implies_true, ite_self, not_false_eq_true, if_false]; done) | rfl))
theorem enterSafeState_part {o_ : Obj} (q_ : o_.quiet = true) (h_ : ¬ o_.id ∈ Footprint.enterSafeState) (diagnostic : Int) (s : State) :
    (enterSafeState diagnostic s).part o_ = s.part o_ := by
  simp only [Footprint.enterSafeState, List.mem_append, List.mem_cons, List.not_mem_nil, or_false, false_or, not_or] at h_
  unfold enterSafeState
  first
  | (simp only [part_ite, part_set, forN_part, logEvent_part, setOutputs_part, abortTest_part, h_, q_, implies_true, ite_self, not_false_eq_true, if_false]; done)
  | ((try simp only [part_ite, part_set, forN_part, logEvent_part, setOutputs_part, abortTest_part, h_, q_, implies_true, ite_self, not_false_eq_true, if_false]) <;> (repeat' split) <;> (first | (simp only [part_ite, part_set, forN_part, logEvent_part, setOutputs_part, abortTest_part, h_, q_, implies_true, ite_self, not_false_eq_true, if_false]; done) | rfl))
theorem resetHp_part {o_ : Obj} (q_ : o_.quiet = true) (h_ : ¬ o_.id ∈ Footprint.resetHp) (s : State) :
    (resetHp s).part o_ = s.part o_ := by
  simp only [Footprint.resetHp, List.mem_append, List.mem_cons, List.not_mem_nil, or_false, false_or, not_or] at h_
  unfold resetHp
  first
  | (simp only [part_ite, part_set, part_setSeq, forN_part, abortTest_part, setOutputs_part, h_, q_, implies_true, ite_self, not_false_eq_true, if_false]; done)
  | ((try simp only [part_ite, part_set, part_setSeq, forN_part, abortTest_part, setOutputs_part, h_, q_, implies_true, ite_self, not_false_eq_true, if_false]) <;> (repeat' split) <;> (first | (simp only [part_ite, part_set, part_setSeq, forN_part, abortTest_part, setOutputs_part, h_, q_, implies_true, ite_self, not_false_eq_true, if_false]; done) | rfl))
theorem endTest_part {o_ : Obj} (q_ : o_.quiet = true) (h_ : ¬ o_.id ∈ Footprint.endTest) (m : Nat) (passed : Bool) (s : State) :
    (endTest m passed s).part o_ = s.part o_ := by
  simp only [Footprint.endTest, List.mem_append, List.mem_cons, List.not_mem_nil, or_false, false_or, not_or] at h_
  unfold endTest
  first
  | (simp only [part_ite, part_set, part_setB, logEvent_part, submitObject_part, setOutputs_part, h_, q_, implies_true, ite_self, not_false_eq_true, if_false]; done)
  | ((try simp only [part_ite, part_set, part_setB, logEvent_part, submitObject_part, setOutputs_part, h_, q_, implies_true, ite_self, not_false_eq_true, if_false]) <;> (repeat' split) <;> (first | (simp only [part_ite, part_set, part_setB, logEvent_part, submitObject_part, setOutputs_part, h_, q_, implies_true, ite_self, not_false_eq_true, if_false]; done) | rfl))
theorem clearOutputFault_part {o_ : Obj} (q_ : o_.quiet = true) (h_ : ¬ o_.id ∈ Footprint.clearOutputFault) (o : Nat) (s : State) {t_ : State} (e_ : clearOutputFault o s = .ok t_) :
    t_.part o_ = s.part o_ := by
  simp only [Footprint.clearOutputFault, List.mem_append, List.mem_cons, List.not_mem_nil, or_false, false_or, not_or] at h_
  unfold clearOutputFault at e_
  (repeat' split at e_) <;> cases e_ <;> (first | (simp only [part_ite, part_setBit, forN_part, submitObject_part, refreshAvail_part, setOutputs_part, h_, q_, implies_true, ite_self, not_false_eq_true, if_false]; done) | rfl)
theorem confirmSafety_view {o_ : Obj} (q_ : o_.quiet = true) (h_ : ¬ o_.id ∈ Footprint.confirmSafety) (crc : Nat) (s : State) {t_ : State} (e_ : confirmSafety crc s = .ok t_) :
    t_.view o_ = s.view o_ := by
  simp only [Footprint.confirmSafety, List.mem_append, List.mem_cons, List.not_mem_nil, or_false, false_or, not_or, and_assoc] at h_
  obtain ⟨a1, a2, a3, a4, a5, a6, a7, a8, a9, a10, a11, a12, a13, a14, a15, a16, a17, a18, b, c, d⟩ := h_
  have e (t : State) (x : Store Int) : State.view { t with cfgRegs := x } o_ = t.view o_ := rfl
  unfold confirmSafety at e_
  dsimp only at e_
  split at e_
  · cases e_
  · cases e_
    rw [setOutputs_view q_ d, logEvent_view q_, submitObject_view q_, undirty_view q_ c, e, view_set a18, view_set a17, view_set a16,
      view_set a15, view_set a14, forN_view, forN_view]
    · intro k u
      rw [view_set a11, view_set a10, view_set a9, view_set a8, view_set a7, view_set a6, view_set a5, view_set a4, view_set a3, view_set a2, view_set a1]
    · intro m u
      rw [view_set a13, view_set a12, abortTest_view q_ b]

theorem demandOutputs_part {o_ : Obj} (q_ : o_.quiet = true) (h_ : ¬ o_.id ∈ Footprint.demandOutputs) (v : Nat) (t : State) {t_ : State} (e_ : demandOutputs v t = .ok t_) :
    t_.part o_ = t.part o_ := by
  simp only [Footprint.demandOutputs, List.mem_append, List.mem_cons, List.not_mem_nil, or_false, false_or, not_or] at h_
  unfold demandOutputs at e_
  (repeat' split at e_) <;> cases e_ <;> (first | (simp only [part_ite, part_set, setOutputs_part, startDueTests_part, h_, q_, implies_true, ite_self, not_false_eq_true, if_false]; done) | rfl)
theorem trimArchive_view {o_ : Obj} (q_ : o_.quiet = true) (h_ : ¬ o_.id ∈ Footprint.trimArchive) (n_ : Nat) (s_ : State) :
    (trimArchive n_ s_).view o_ = s_.view o_ := by
  simp only [Footprint.trimArchive, List.mem_append, List.mem_cons, List.not_mem_nil, or_false, false_or, not_or, and_assoc] at h_
  induction n_ generalizing s_ with
  | zero => rfl
  | succ n ih =>
    unfold trimArchive
    split
    · rfl
    · dsimp only
      rw [ih, view_set h_.2, view_set h_.1]
      rfl

theorem cleanOldest_view {o_ : Obj} (q_ : o_.quiet = true) (h_ : ¬ o_.id ∈ Footprint.cleanOldest) (s : State) {t_ : State}
    (e_ : cleanOldest s = some t_) : t_.view o_ = s.view o_ := by
  simp only [Footprint.cleanOldest, List.mem_append, List.mem_cons, List.not_mem_nil, or_false, false_or, not_or, and_assoc] at h_
  have w (t : State) (r : List (List Byte)) : State.view { t with ring := r } o_ = t.view o_ := rfl
  unfold cleanOldest at e_
  dsimp only at e_
  split at e_
  · cases e_
  · split at e_
    · cases e_
    · injection e_ with e_
      rw [← e_]
      split
      · rw [trimArchive_view q_ h_.2]; rfl
      · rw [view_set h_.1, w, trimArchive_view q_ h_.2]; rfl

theorem makeRoom_view {o_ : Obj} (q_ : o_.quiet = true) (h_ : ¬ o_.id ∈ Footprint.makeRoom) (len n : Nat) (s : State) :
    (makeRoom len n s).2.view o_ = s.view o_ := by
  simp only [Footprint.makeRoom, List.mem_append, List.mem_cons, List.not_mem_nil, or_false, false_or, not_or, and_assoc] at h_
  induction n generalizing s with
  | zero => rfl
  | succ n ih =>
    unfold makeRoom
    split
    · rfl
    · split
      · rename_i t e
        rw [ih, cleanOldest_view q_ h_ s e]
      · rfl

theorem showFill_part {o_ : Obj} (q_ : o_.quiet = true) (h_ : ¬ o_.id ∈ Footprint.showFill) (s : State) :
    (showFill s).part o_ = s.part o_ := by
  simp only [Footprint.showFill, List.mem_append, List.mem_cons, List.not_mem_nil, or_false, false_or, not_or] at h_
  unfold showFill
  first
  | (simp only [part_ite, part_set, endEpisode_part, logEpisode_part, journalOpens_part, h_, q_, implies_true, ite_self, not_false_eq_true, if_false]; done)
  | ((try simp only [part_ite, part_set, endEpisode_part, logEpisode_part, journalOpens_part, h_, q_, implies_true, ite_self, not_false_eq_true, if_false]) <;> (repeat' split) <;> (first | (simp only [part_ite, part_set, endEpisode_part, logEpisode_part, journalOpens_part, h_, q_, implies_true, ite_self, not_false_eq_true, if_false]; done) | rfl))
theorem showFill_view {o_ : Obj} (q_ : o_.quiet = true) (h_ : ¬ o_.id ∈ Footprint.showFill) (s : State)  :
    (showFill s).view o_ = s.view o_ :=
  view_of_part (showFill_part q_ h_ s)

theorem journalFills_part {o_ : Obj} (q_ : o_.quiet = true) (h_ : ¬ o_.id ∈ Footprint.journalFills) (s : State) :
    (journalFills s).part o_ = s.part o_ := by
  simp only [Footprint.journalFills, List.mem_append, List.mem_cons, List.not_mem_nil, or_false, false_or, not_or] at h_
  unfold journalFills
  first
  | (simp only [part_ite, part_set, logEvent_part, stopSessions_part, h_, q_, implies_true, ite_self, not_false_eq_true, if_false]; done)
  | ((try simp only [part_ite, part_set, logEvent_part, stopSessions_part, h_, q_, implies_true, ite_self, not_false_eq_true, if_false]) <;> (repeat' split) <;> (first | (simp only [part_ite, part_set, logEvent_part, stopSessions_part, h_, q_, implies_true, ite_self, not_false_eq_true, if_false]; done) | rfl))
theorem journalFills_view {o_ : Obj} (q_ : o_.quiet = true) (h_ : ¬ o_.id ∈ Footprint.journalFills) (s : State)  :
    (journalFills s).view o_ = s.view o_ :=
  view_of_part (journalFills_part q_ h_ s)

theorem beginCommit_view {o_ : Obj} (q_ : o_.quiet = true) (h_ : ¬ o_.id ∈ Footprint.beginCommit) (s : State) :
    (beginCommit s).view o_ = s.view o_ := by
  simp only [Footprint.beginCommit, List.mem_append, List.mem_cons, List.not_mem_nil, or_false, false_or, not_or, and_assoc] at h_
  obtain ⟨a1, a2, a3, a4, a5, a6, a7, b, c⟩ := h_
  have w (t : State) (r : Kept) : State.view { t with staged := r } o_ = t.view o_ := rfl
  unfold beginCommit
  dsimp only
  split
  · rw [journalFills_view q_ c, makeRoom_view q_ b]
  · rw [view_set a7, view_set a6, view_setLog a5, view_setB a4, view_set a3, view_set a2, view_setBytes a1, w, makeRoom_view q_ b]

theorem showContexts_part {o_ : Obj} (q_ : o_.quiet = true) (h_ : ¬ o_.id ∈ Footprint.showContexts) (s : State) :
    (showContexts s).part o_ = s.part o_ := by
  simp only [Footprint.showContexts, List.mem_append, List.mem_cons, List.not_mem_nil, or_false, false_or, not_or] at h_
  unfold showContexts
  first
  | (simp only [part_ite, part_set, forN_part, h_, q_, implies_true, ite_self, not_false_eq_true, if_false]; done)
  | ((try simp only [part_ite, part_set, forN_part, h_, q_, implies_true, ite_self, not_false_eq_true, if_false]) <;> (repeat' split) <;> (first | (simp only [part_ite, part_set, forN_part, h_, q_, implies_true, ite_self, not_false_eq_true, if_false]; done) | rfl))
theorem showContexts_view {o_ : Obj} (q_ : o_.quiet = true) (h_ : ¬ o_.id ∈ Footprint.showContexts) (s : State)  :
    (showContexts s).view o_ = s.view o_ :=
  view_of_part (showContexts_part q_ h_ s)

theorem commitValid_view {o_ : Obj} (q_ : o_.quiet = true) (h_ : ¬ o_.id ∈ Footprint.commitValid) (s : State) :
    (commitValid s).view o_ = s.view o_ := by
  simp only [Footprint.commitValid, List.mem_append, List.mem_cons, List.not_mem_nil, or_false, false_or, not_or, and_assoc] at h_
  obtain ⟨a1, a2, a3, a4, a5, a6, a7, a8, a9, a10, a11, b, c⟩ := h_
  have w (t : State) (r : List (List Byte)) (j k : Kept) : State.view { t with ring := r, journal := j, staged := k } o_ = t.view o_ := rfl
  have e (t : State) (l : List (List Byte)) : State.view (l.foldl (fun u it => u.emit (.sync (Reg.journalItems.key 0 0) 0 it)) t) o_ = t.view o_ :=
    foldl_view (o := o_) (f := fun u it => u.emit (.sync (Reg.journalItems.key 0 0) 0 it)) (fun _ _ => rfl) l t
  unfold commitValid
  dsimp only
  rw [showFill_view q_ c]
  simp only [view_ite, e, view_set a1, view_setBytes a2, view_set a3, view_set a4, view_inc a5, view_setSeq a6, view_set a7, view_set a8,
    view_inc a9, view_set a10, view_set a11, showContexts_view q_ b, ite_self, w]

theorem continueNumbers_part {o_ : Obj} (q_ : o_.quiet = true) (h_ : ¬ o_.id ∈ Footprint.continueNumbers) (s : State) :
    (continueNumbers s).part o_ = s.part o_ := by
  simp only [Footprint.continueNumbers, List.mem_append, List.mem_cons, List.not_mem_nil, or_false, false_or, not_or] at h_
  unfold continueNumbers
  first
  | (simp only [part_ite, part_set, foldl_part, h_, q_, implies_true, ite_self, not_false_eq_true, if_false]; done)
  | ((try simp only [part_ite, part_set, foldl_part, h_, q_, implies_true, ite_self, not_false_eq_true, if_false]) <;> (repeat' split) <;> (first | (simp only [part_ite, part_set, foldl_part, h_, q_, implies_true, ite_self, not_false_eq_true, if_false]; done) | rfl))
theorem recoverContext_part {o_ : Obj} (q_ : o_.quiet = true) (h_ : ¬ o_.id ∈ Footprint.recoverContext) (c : Nat) (s : State) :
    (recoverContext c s).part o_ = s.part o_ := by
  simp only [Footprint.recoverContext, List.mem_append, List.mem_cons, List.not_mem_nil, or_false, false_or, not_or] at h_
  unfold recoverContext
  first
  | (simp only [part_ite, part_set, part_setBit, takeBoth_part, takeStop_part, setContext_part, dropContext_part, h_, q_, implies_true, ite_self, not_false_eq_true, if_false]; done)
  | ((try simp only [part_ite, part_set, part_setBit, takeBoth_part, takeStop_part, setContext_part, dropContext_part, h_, q_, implies_true, ite_self, not_false_eq_true, if_false]) <;> (repeat' split) <;> (first | (simp only [part_ite, part_set, part_setBit, takeBoth_part, takeStop_part, setContext_part, dropContext_part, h_, q_, implies_true, ite_self, not_false_eq_true, if_false]; done) | rfl))
theorem pushAgain_part {o_ : Obj} (q_ : o_.quiet = true)  (s : State) :
    (pushAgain s).part o_ = s.part o_ := by
  unfold pushAgain
  first
  | (simp only [part_ite, foldl_part, queueItem_part, q_, implies_true, ite_self, not_false_eq_true, if_false]; done)
  | ((try simp only [part_ite, foldl_part, queueItem_part, q_, implies_true, ite_self, not_false_eq_true, if_false]) <;> (repeat' split) <;> (first | (simp only [part_ite, foldl_part, queueItem_part, q_, implies_true, ite_self, not_false_eq_true, if_false]; done) | rfl))
theorem chooseArea_part {o_ : Obj} (q_ : o_.quiet = true) (h_ : ¬ o_.id ∈ Footprint.chooseArea) (newerBad : Bool) (s : State) :
    (chooseArea newerBad s).part o_ = s.part o_ := by
  simp only [Footprint.chooseArea, List.mem_append, List.mem_cons, List.not_mem_nil, or_false, false_or, not_or] at h_
  unfold chooseArea
  first
  | (simp only [part_ite, part_set, logEvent_part, h_, q_, implies_true, ite_self, not_false_eq_true, if_false]; done)
  | ((try simp only [part_ite, part_set, logEvent_part, h_, q_, implies_true, ite_self, not_false_eq_true, if_false]) <;> (repeat' split) <;> (first | (simp only [part_ite, part_set, logEvent_part, h_, q_, implies_true, ite_self, not_false_eq_true, if_false]; done) | rfl))
theorem recordReset_part {o_ : Obj} (q_ : o_.quiet = true) (h_ : ¬ o_.id ∈ Footprint.recordReset) (s : State) :
    (recordReset s).part o_ = s.part o_ := by
  simp only [Footprint.recordReset, List.mem_append, List.mem_cons, List.not_mem_nil, or_false, false_or, not_or] at h_
  unfold recordReset
  first
  | (simp only [part_ite, part_set, part_inc, foldl_part, logEvent_part, submitObject_part, h_, q_, implies_true, ite_self, not_false_eq_true, if_false]; done)
  | ((try simp only [part_ite, part_set, part_inc, foldl_part, logEvent_part, submitObject_part, h_, q_, implies_true, ite_self, not_false_eq_true, if_false]) <;> (repeat' split) <;> (first | (simp only [part_ite, part_set, part_inc, foldl_part, logEvent_part, submitObject_part, h_, q_, implies_true, ite_self, not_false_eq_true, if_false]; done) | rfl))
theorem reportLockstep_part {o_ : Obj} (q_ : o_.quiet = true) (h_ : ¬ o_.id ∈ Footprint.reportLockstep) (s : State) :
    (reportLockstep s).part o_ = s.part o_ := by
  simp only [Footprint.reportLockstep, List.mem_append, List.mem_cons, List.not_mem_nil, or_false, false_or, not_or] at h_
  unfold reportLockstep
  first
  | (simp only [part_ite, part_set, part_inc, logEvent_part, submitObject_part, h_, q_, implies_true, ite_self, not_false_eq_true, if_false]; done)
  | ((try simp only [part_ite, part_set, part_inc, logEvent_part, submitObject_part, h_, q_, implies_true, ite_self, not_false_eq_true, if_false]) <;> (repeat' split) <;> (first | (simp only [part_ite, part_set, part_inc, logEvent_part, submitObject_part, h_, q_, implies_true, ite_self, not_false_eq_true, if_false]; done) | rfl))
theorem drainShadow_part {o_ : Obj} (q_ : o_.quiet = true) (h_ : ¬ o_.id ∈ Footprint.drainShadow) (s : State) :
    (drainShadow s).part o_ = s.part o_ := by
  simp only [Footprint.drainShadow, List.mem_append, List.mem_cons, List.not_mem_nil, or_false, false_or, not_or] at h_
  unfold drainShadow
  first
  | (simp only [part_ite, journalOpens_part, h_, q_, implies_true, ite_self, not_false_eq_true, if_false]; done)
  | ((try simp only [part_ite, journalOpens_part, h_, q_, implies_true, ite_self, not_false_eq_true, if_false]) <;> (repeat' split) <;> (first | (simp only [part_ite, journalOpens_part, h_, q_, implies_true, ite_self, not_false_eq_true, if_false]; done) | rfl))
theorem reportReverted_view {o_ : Obj} (q_ : o_.quiet = true)  (s : State) :
    (reportReverted s).view o_ = s.view o_ := by
  unfold reportReverted
  first
  | (simp only [view_ite, logEvent_view, q_, implies_true, ite_self, not_false_eq_true, if_false]; done)
  | ((try simp only [view_ite, logEvent_view, q_, implies_true, ite_self, not_false_eq_true, if_false]) <;> (repeat' split) <;> (first | (simp only [view_ite, logEvent_view, q_, implies_true, ite_self, not_false_eq_true, if_false]; done) | rfl))

theorem retArea_part {o_ : Obj} (q_ : o_.quiet = true) (h_ : ¬ o_.id ∈ Footprint.retArea) (owner : Nat) (s : State) :
    (retArea owner s).part o_ = s.part o_ := by
  simp only [Footprint.retArea, List.mem_append, List.mem_cons, List.not_mem_nil, or_false, false_or, not_or] at h_
  unfold retArea
  first
  | (simp only [part_ite, part_set, forN_part, logEvent_part, h_, q_, implies_true, ite_self, not_false_eq_true, if_false]; done)
  | ((try simp only [part_ite, part_set, forN_part, logEvent_part, h_, q_, implies_true, ite_self, not_false_eq_true, if_false]) <;> (repeat' split) <;> (first | (simp only [part_ite, part_set, forN_part, logEvent_part, h_, q_, implies_true, ite_self, not_false_eq_true, if_false]; done) | rfl))
theorem acceptSwr_part {o_ : Obj} (q_ : o_.quiet = true) (h_ : ¬ o_.id ∈ Footprint.acceptSwr) (s : State) :
    (acceptSwr s).part o_ = s.part o_ := by
  simp only [Footprint.acceptSwr, List.mem_append, List.mem_cons, List.not_mem_nil, or_false, false_or, not_or] at h_
  unfold acceptSwr
  first
  | (simp only [part_ite, part_set, commitMeters_part, h_, q_, implies_true, ite_self, not_false_eq_true, if_false]; done)
  | ((try simp only [part_ite, part_set, commitMeters_part, h_, q_, implies_true, ite_self, not_false_eq_true, if_false]) <;> (repeat' split) <;> (first | (simp only [part_ite, part_set, commitMeters_part, h_, q_, implies_true, ite_self, not_false_eq_true, if_false]; done) | rfl))
theorem finishCommit_view {o_ : Obj} (q_ : o_.quiet = true) (h_ : ¬ o_.id ∈ Footprint.finishCommit) (s : State) :
    (finishCommit s).view o_ = s.view o_ := by
  simp only [Footprint.finishCommit, List.mem_append, List.mem_cons, List.not_mem_nil, or_false, false_or, not_or] at h_
  unfold finishCommit
  first
  | (simp only [view_ite, commitValid_view, beginCommit_view, h_, q_, implies_true, ite_self, not_false_eq_true, if_false]; done)
  | ((try simp only [view_ite, commitValid_view, beginCommit_view, h_, q_, implies_true, ite_self, not_false_eq_true, if_false]) <;> (repeat' split) <;> (first | (simp only [view_ite, commitValid_view, beginCommit_view, h_, q_, implies_true, ite_self, not_false_eq_true, if_false]; done) | rfl))

theorem openWindow_part {o_ : Obj} (q_ : o_.quiet = true) (h_ : ¬ o_.id ∈ Footprint.openWindow) (vaux : Nat) (s : State) :
    (openWindow vaux s).part o_ = s.part o_ := by
  simp only [Footprint.openWindow, List.mem_append, List.mem_cons, List.not_mem_nil, or_false, false_or, not_or] at h_
  unfold openWindow
  first
  | (simp only [part_ite, part_set, forN_part, logEvent_part, submitObject_part, commitMeters_part, h_, q_, implies_true, ite_self, not_false_eq_true, if_false]; done)
  | ((try simp only [part_ite, part_set, forN_part, logEvent_part, submitObject_part, commitMeters_part, h_, q_, implies_true, ite_self, not_false_eq_true, if_false]) <;> (repeat' split) <;> (first | (simp only [part_ite, part_set, forN_part, logEvent_part, submitObject_part, commitMeters_part, h_, q_, implies_true, ite_self, not_false_eq_true, if_false]; done) | rfl))
theorem showEpisode_part {o_ : Obj} (q_ : o_.quiet = true) (h_ : ¬ o_.id ∈ Footprint.showEpisode) (s : State) :
    (showEpisode s).part o_ = s.part o_ := by
  simp only [Footprint.showEpisode, List.mem_append, List.mem_cons, List.not_mem_nil, or_false, false_or, not_or] at h_
  unfold showEpisode
  first
  | (simp only [part_ite, part_set, h_, q_, implies_true, ite_self, not_false_eq_true, if_false]; done)
  | ((try simp only [part_ite, part_set, h_, q_, implies_true, ite_self, not_false_eq_true, if_false]) <;> (repeat' split) <;> (first | (simp only [part_ite, part_set, h_, q_, implies_true, ite_self, not_false_eq_true, if_false]; done) | rfl))
theorem resumeOutlet_part {o_ : Obj} (q_ : o_.quiet = true) (h_ : ¬ o_.id ∈ Footprint.resumeOutlet) (n : Nat) (s : State) :
    (resumeOutlet n s).part o_ = s.part o_ := by
  simp only [Footprint.resumeOutlet, List.mem_append, List.mem_cons, List.not_mem_nil, or_false, false_or, not_or] at h_
  unfold resumeOutlet
  first
  | (simp only [part_ite, part_set, h_, q_, implies_true, ite_self, not_false_eq_true, if_false]; done)
  | ((try simp only [part_ite, part_set, h_, q_, implies_true, ite_self, not_false_eq_true, if_false]) <;> (repeat' split) <;> (first | (simp only [part_ite, part_set, h_, q_, implies_true, ite_self, not_false_eq_true, if_false]; done) | rfl))
theorem closeDip_part {o_ : Obj} (q_ : o_.quiet = true) (h_ : ¬ o_.id ∈ Footprint.closeDip) (s : State) :
    (closeDip s).part o_ = s.part o_ := by
  simp only [Footprint.closeDip, List.mem_append, List.mem_cons, List.not_mem_nil, or_false, false_or, not_or] at h_
  unfold closeDip
  first
  | (simp only [part_ite, part_set, part_inc, forN_part, logEvent_part, submitObject_part, showEpisode_part, resumeOutlet_part, h_, q_, implies_true, ite_self, not_false_eq_true, if_false]; done)
  | ((try simp only [part_ite, part_set, part_inc, forN_part, logEvent_part, submitObject_part, showEpisode_part, resumeOutlet_part, h_, q_, implies_true, ite_self, not_false_eq_true, if_false]) <;> (repeat' split) <;> (first | (simp only [part_ite, part_set, part_inc, forN_part, logEvent_part, submitObject_part, showEpisode_part, resumeOutlet_part, h_, q_, implies_true, ite_self, not_false_eq_true, if_false]; done) | rfl))
theorem stopNextOutlet_part {o_ : Obj} (q_ : o_.quiet = true) (h_ : ¬ o_.id ∈ Footprint.stopNextOutlet) (s : State) :
    (stopNextOutlet s).part o_ = s.part o_ := by
  simp only [Footprint.stopNextOutlet, List.mem_append, List.mem_cons, List.not_mem_nil, or_false, false_or, not_or] at h_
  unfold stopNextOutlet
  first
  | (simp only [part_ite, part_set, part_setSeq, outletFault_part, h_, q_, implies_true, ite_self, not_false_eq_true, if_false]; done)
  | ((try simp only [part_ite, part_set, part_setSeq, outletFault_part, h_, q_, implies_true, ite_self, not_false_eq_true, if_false]) <;> (repeat' split) <;> (first | (simp only [part_ite, part_set, part_setSeq, outletFault_part, h_, q_, implies_true, ite_self, not_false_eq_true, if_false]; done) | rfl))
theorem episodePasses_part {o_ : Obj} (q_ : o_.quiet = true) (h_ : ¬ o_.id ∈ Footprint.episodePasses) (s : State) :
    (episodePasses s).part o_ = s.part o_ := by
  simp only [Footprint.episodePasses, List.mem_append, List.mem_cons, List.not_mem_nil, or_false, false_or, not_or] at h_
  unfold episodePasses
  first
  | (simp only [part_ite, part_set, part_setSeq, forL_part, logEvent_part, showEpisode_part, outletFault_part, stopNextOutlet_part, h_, q_, implies_true, ite_self, not_false_eq_true, if_false]; done)
  | ((try simp only [part_ite, part_set, part_setSeq, forL_part, logEvent_part, showEpisode_part, outletFault_part, stopNextOutlet_part, h_, q_, implies_true, ite_self, not_false_eq_true, if_false]) <;> (repeat' split) <;> (first | (simp only [part_ite, part_set, part_setSeq, forL_part, logEvent_part, showEpisode_part, outletFault_part, stopNextOutlet_part, h_, q_, implies_true, ite_self, not_false_eq_true, if_false]; done) | rfl))
theorem judgeCell_part {o_ : Obj} (q_ : o_.quiet = true) (h_ : ¬ o_.id ∈ Footprint.judgeCell) (volts : Int) (fitted : Bool) (s : State) :
    (judgeCell volts fitted s).part o_ = s.part o_ := by
  simp only [Footprint.judgeCell, List.mem_append, List.mem_cons, List.not_mem_nil, or_false, false_or, not_or] at h_
  unfold judgeCell
  first
  | (simp only [part_ite, part_set, logEvent_part, endEpisode_part, logEpisode_part, h_, q_, implies_true, ite_self, not_false_eq_true, if_false]; done)
  | ((try simp only [part_ite, part_set, logEvent_part, endEpisode_part, logEpisode_part, h_, q_, implies_true, ite_self, not_false_eq_true, if_false]) <;> (repeat' split) <;> (first | (simp only [part_ite, part_set, logEvent_part, endEpisode_part, logEpisode_part, h_, q_, implies_true, ite_self, not_false_eq_true, if_false]; done) | rfl))
theorem supplyRound_part {o_ : Obj} (q_ : o_.quiet = true) (h_ : ¬ o_.id ∈ Footprint.supplyRound) (readings : List Nat) (fitted : Bool) (s : State) :
    (supplyRound readings fitted s).part o_ = s.part o_ := by
  simp only [Footprint.supplyRound, List.mem_append, List.mem_cons, List.not_mem_nil, or_false, false_or, not_or] at h_
  unfold supplyRound
  first
  | (simp only [part_ite, part_set, part_setBit, part_setSeq, forN_part, endEpisode_part, logEpisode_part, judgeCell_part, h_, q_, implies_true, ite_self, not_false_eq_true, if_false]; done)
  | ((try simp only [part_ite, part_set, part_setBit, part_setSeq, forN_part, endEpisode_part, logEpisode_part, judgeCell_part, h_, q_, implies_true, ite_self, not_false_eq_true, if_false]) <;> (repeat' split) <;> (first | (simp only [part_ite, part_set, part_setBit, part_setSeq, forN_part, endEpisode_part, logEpisode_part, judgeCell_part, h_, q_, implies_true, ite_self, not_false_eq_true, if_false]; done) | rfl))
theorem countIdleTime_part {o_ : Obj} (q_ : o_.quiet = true) (h_ : ¬ o_.id ∈ Footprint.countIdleTime) (s : State) :
    (countIdleTime s).part o_ = s.part o_ := by
  simp only [Footprint.countIdleTime, List.mem_append, List.mem_cons, List.not_mem_nil, or_false, false_or, not_or] at h_
  unfold countIdleTime
  first
  | (simp only [part_ite, part_set, h_, q_, implies_true, ite_self, not_false_eq_true, if_false]; done)
  | ((try simp only [part_ite, part_set, h_, q_, implies_true, ite_self, not_false_eq_true, if_false]) <;> (repeat' split) <;> (first | (simp only [part_ite, part_set, h_, q_, implies_true, ite_self, not_false_eq_true, if_false]; done) | rfl))
theorem returnToRun_part {o_ : Obj} (q_ : o_.quiet = true) (h_ : ¬ o_.id ∈ Footprint.returnToRun) (s : State) :
    (returnToRun s).part o_ = s.part o_ := by
  simp only [Footprint.returnToRun, List.mem_append, List.mem_cons, List.not_mem_nil, or_false, false_or, not_or] at h_
  unfold returnToRun
  first
  | (simp only [part_ite, part_set, logEvent_part, h_, q_, implies_true, ite_self, not_false_eq_true, if_false]; done)
  | ((try simp only [part_ite, part_set, logEvent_part, h_, q_, implies_true, ite_self, not_false_eq_true, if_false]) <;> (repeat' split) <;> (first | (simp only [part_ite, part_set, logEvent_part, h_, q_, implies_true, ite_self, not_false_eq_true, if_false]; done) | rfl))
theorem singleError_part {o_ : Obj} (q_ : o_.quiet = true) (h_ : ¬ o_.id ∈ Footprint.singleError) (a : Nat) (s : State) :
    (singleError a s).part o_ = s.part o_ := by
  simp only [Footprint.singleError, List.mem_append, List.mem_cons, List.not_mem_nil, or_false, false_or, not_or] at h_
  unfold singleError
  first
  | (simp only [part_ite, part_set, part_inc, logLimited_part, healthItem_part, h_, q_, implies_true, ite_self, not_false_eq_true, if_false]; done)
  | ((try simp only [part_ite, part_set, part_inc, logLimited_part, healthItem_part, h_, q_, implies_true, ite_self, not_false_eq_true, if_false]) <;> (repeat' split) <;> (first | (simp only [part_ite, part_set, part_inc, logLimited_part, healthItem_part, h_, q_, implies_true, ite_self, not_false_eq_true, if_false]; done) | rfl))
theorem leError_part {o_ : Obj} (q_ : o_.quiet = true) (h_ : ¬ o_.id ∈ Footprint.leError) (slot : Nat) (s : State) :
    (leError slot s).part o_ = s.part o_ := by
  simp only [Footprint.leError, List.mem_append, List.mem_cons, List.not_mem_nil, or_false, false_or, not_or] at h_
  unfold leError
  first
  | (simp only [part_ite, part_set, part_inc, logLimited_part, judgeMismatches_part, h_, q_, implies_true, ite_self, not_false_eq_true, if_false]; done)
  | ((try simp only [part_ite, part_set, part_inc, logLimited_part, judgeMismatches_part, h_, q_, implies_true, ite_self, not_false_eq_true, if_false]) <;> (repeat' split) <;> (first | (simp only [part_ite, part_set, part_inc, logLimited_part, judgeMismatches_part, h_, q_, implies_true, ite_self, not_false_eq_true, if_false]; done) | rfl))
theorem nextRegion_part {o_ : Obj} (q_ : o_.quiet = true) (h_ : ¬ o_.id ∈ Footprint.nextRegion) (s : State) :
    (nextRegion s).part o_ = s.part o_ := by
  simp only [Footprint.nextRegion, List.mem_append, List.mem_cons, List.not_mem_nil, or_false, false_or, not_or] at h_
  unfold nextRegion
  first
  | (simp only [part_ite, part_set, part_inc, part_setSeq, forN_part, h_, q_, implies_true, ite_self, not_false_eq_true, if_false]; done)
  | ((try simp only [part_ite, part_set, part_inc, part_setSeq, forN_part, h_, q_, implies_true, ite_self, not_false_eq_true, if_false]) <;> (repeat' split) <;> (first | (simp only [part_ite, part_set, part_inc, part_setSeq, forN_part, h_, q_, implies_true, ite_self, not_false_eq_true, if_false]; done) | rfl))
theorem saveRegion_part {o_ : Obj} (q_ : o_.quiet = true) (h_ : ¬ o_.id ∈ Footprint.saveRegion) (singles doubles : List (Fin 64)) (s : State) :
    (saveRegion singles doubles s).part o_ = s.part o_ := by
  simp only [Footprint.saveRegion, List.mem_append, List.mem_cons, List.not_mem_nil, or_false, false_or, not_or] at h_
  unfold saveRegion
  first
  | (simp only [part_ite, part_setSeq, forL_part, singleError_part, h_, q_, implies_true, ite_self, not_false_eq_true, if_false]; done)
  | ((try simp only [part_ite, part_setSeq, forL_part, singleError_part, h_, q_, implies_true, ite_self, not_false_eq_true, if_false]) <;> (repeat' split) <;> (first | (simp only [part_ite, part_setSeq, forL_part, singleError_part, h_, q_, implies_true, ite_self, not_false_eq_true, if_false]; done) | rfl))
theorem marchFailure_part {o_ : Obj} (q_ : o_.quiet = true) (h_ : ¬ o_.id ∈ Footprint.marchFailure) (s : State) :
    (marchFailure s).part o_ = s.part o_ := by
  simp only [Footprint.marchFailure, List.mem_append, List.mem_cons, List.not_mem_nil, or_false, false_or, not_or] at h_
  unfold marchFailure
  first
  | (simp only [part_ite, part_inc, part_setSeq, logEvent_part, healthItem_part, handOverOr_part, h_, q_, implies_true, ite_self, not_false_eq_true, if_false]; done)
  | ((try simp only [part_ite, part_inc, part_setSeq, logEvent_part, healthItem_part, handOverOr_part, h_, q_, implies_true, ite_self, not_false_eq_true, if_false]) <;> (repeat' split) <;> (first | (simp only [part_ite, part_inc, part_setSeq, logEvent_part, healthItem_part, handOverOr_part, h_, q_, implies_true, ite_self, not_false_eq_true, if_false]; done) | rfl))
theorem keepRecord_part {o_ : Obj} (q_ : o_.quiet = true) (h_ : ¬ o_.id ∈ Footprint.keepRecord) (p : Nat) (cycles : Int) (r : PhaseRecord) (s : State) :
    (keepRecord p cycles r s).part o_ = s.part o_ := by
  simp only [Footprint.keepRecord, List.mem_append, List.mem_cons, List.not_mem_nil, or_false, false_or, not_or] at h_
  unfold keepRecord
  first
  | (simp only [part_ite, part_set, part_setB, h_, q_, implies_true, ite_self, not_false_eq_true, if_false]; done)
  | ((try simp only [part_ite, part_set, part_setB, h_, q_, implies_true, ite_self, not_false_eq_true, if_false]) <;> (repeat' split) <;> (first | (simp only [part_ite, part_set, part_setB, h_, q_, implies_true, ite_self, not_false_eq_true, if_false]; done) | rfl))
theorem launchCommand_part {o_ : Obj} (q_ : o_.quiet = true) (h_ : ¬ o_.id ∈ Footprint.launchCommand) (c l : Nat) (body : List Byte) (s : State) :
    (launchCommand c l body s).part o_ = s.part o_ := by
  simp only [Footprint.launchCommand, List.mem_append, List.mem_cons, List.not_mem_nil, or_false, false_or, not_or] at h_
  unfold launchCommand
  first
  | (simp only [part_ite, part_set, part_emit, h_, q_, implies_true, ite_self, not_false_eq_true, if_false]; done)
  | ((try simp only [part_ite, part_set, part_emit, h_, q_, implies_true, ite_self, not_false_eq_true, if_false]) <;> (repeat' split) <;> (first | (simp only [part_ite, part_set, part_emit, h_, q_, implies_true, ite_self, not_false_eq_true, if_false]; done) | rfl))
theorem dispatch_part {o_ : Obj} (q_ : o_.quiet = true) (h_ : ¬ o_.id ∈ Footprint.dispatch) (c : Nat) (s : State) :
    (dispatch c s).part o_ = s.part o_ := by
  simp only [Footprint.dispatch, List.mem_append, List.mem_cons, List.not_mem_nil, or_false, false_or, not_or] at h_
  unfold dispatch
  first
  | (simp only [part_ite, part_set, foldl_part, keepRecord_part, launchCommand_part, h_, q_, implies_true, ite_self, not_false_eq_true, if_false]; done)
  | ((try simp only [part_ite, part_set, foldl_part, keepRecord_part, launchCommand_part, h_, q_, implies_true, ite_self, not_false_eq_true, if_false]) <;> (repeat' split) <;> (first | (simp only [part_ite, part_set, foldl_part, keepRecord_part, launchCommand_part, h_, q_, implies_true, ite_self, not_false_eq_true, if_false]; done) | rfl))
theorem sendMirror_part {o_ : Obj} (q_ : o_.quiet = true) (h_ : ¬ o_.id ∈ Footprint.sendMirror) (s : State) :
    (sendMirror s).part o_ = s.part o_ := by
  simp only [Footprint.sendMirror, List.mem_append, List.mem_cons, List.not_mem_nil, or_false, false_or, not_or] at h_
  unfold sendMirror
  first
  | (simp only [part_ite, part_set, part_emit, h_, q_, implies_true, ite_self, not_false_eq_true, if_false]; done)
  | ((try simp only [part_ite, part_set, part_emit, h_, q_, implies_true, ite_self, not_false_eq_true, if_false]) <;> (repeat' split) <;> (first | (simp only [part_ite, part_set, part_emit, h_, q_, implies_true, ite_self, not_false_eq_true, if_false]; done) | rfl))
theorem rampStep_part {o_ : Obj} (q_ : o_.quiet = true) (h_ : ¬ o_.id ∈ Footprint.rampStep) (b : Nat) (s : State) :
    (rampStep b s).part o_ = s.part o_ := by
  simp only [Footprint.rampStep, List.mem_append, List.mem_cons, List.not_mem_nil, or_false, false_or, not_or] at h_
  unfold rampStep
  first
  | (simp only [part_ite, part_setReal, h_, q_, implies_true, ite_self, not_false_eq_true, if_false]; done)
  | ((try simp only [part_ite, part_setReal, h_, q_, implies_true, ite_self, not_false_eq_true, if_false]) <;> (repeat' split) <;> (first | (simp only [part_ite, part_setReal, h_, q_, implies_true, ite_self, not_false_eq_true, if_false]; done) | rfl))
theorem rampStep_view {o_ : Obj} (q_ : o_.quiet = true) (h_ : ¬ o_.id ∈ Footprint.rampStep) (b : Nat) (s : State)  :
    (rampStep b s).view o_ = s.view o_ :=
  view_of_part (rampStep_part q_ h_ b s)

theorem fastClass_view {o_ : Obj} (q_ : o_.quiet = true) (h_ : ¬ o_.id ∈ Footprint.fastClass) (mism again late : List Nat) (s : State) :
    (fastClass mism again late s).view o_ = s.view o_ := by
  simp only [Footprint.fastClass, List.mem_append, List.mem_cons, List.not_mem_nil, or_false, false_or, not_or] at h_
  unfold fastClass
  first
  | (simp only [view_ite, view_setSeq, forN_view, forL_view, rampStep_view, issueSlot_view, judgeShedding_view, judgeMismatches_view, h_, q_, implies_true, ite_self, not_false_eq_true, if_false]; done)
  | ((try simp only [view_ite, view_setSeq, forN_view, forL_view, rampStep_view, issueSlot_view, judgeShedding_view, judgeMismatches_view, h_, q_, implies_true, ite_self, not_false_eq_true, if_false]) <;> (repeat' split) <;> (first | (simp only [view_ite, view_setSeq, forN_view, forL_view, rampStep_view, issueSlot_view, judgeShedding_view, judgeMismatches_view, h_, q_, implies_true, ite_self, not_false_eq_true, if_false]; done) | rfl))

theorem startInjection_part {o_ : Obj} (q_ : o_.quiet = true) (h_ : ¬ o_.id ∈ Footprint.startInjection) (role : Nat) (s : State) {t_ : State} (e_ : startInjection role s = .ok t_) :
    t_.part o_ = s.part o_ := by
  simp only [Footprint.startInjection, List.mem_append, List.mem_cons, List.not_mem_nil, or_false, false_or, not_or, and_assoc] at h_
  obtain ⟨a1, a2, a3, a4, a5, a6⟩ := h_
  unfold startInjection at e_
  dsimp only at e_
  split at e_
  · cases e_
  · cases e_
    rw [logEvent_part q_, part_setB a6, part_set a5, part_setReal a4, part_set a3, part_set a2, part_set a1]
theorem startCapture_part {o_ : Obj} (q_ : o_.quiet = true) (h_ : ¬ o_.id ∈ Footprint.startCapture) (s : State) {t_ : State} (e_ : startCapture s = .ok t_) :
    t_.part o_ = s.part o_ := by
  simp only [Footprint.startCapture, List.mem_append, List.mem_cons, List.not_mem_nil, or_false, false_or, not_or, and_assoc] at h_
  obtain ⟨a1, a2, a3, a4, a5, b⟩ := h_
  unfold startCapture at e_
  dsimp only at e_
  split at e_
  · cases e_
  · cases e_
    rw [part_setB a5, part_set a4, handBank_part q_ b, part_set a3, part_set a2, part_set a1]
theorem settlePhase_part {o_ : Obj} (q_ : o_.quiet = true) (h_ : ¬ o_.id ∈ Footprint.settlePhase) (p : Nat) (s : State) :
    (settlePhase p s).part o_ = s.part o_ := by
  simp only [Footprint.settlePhase, List.mem_append, List.mem_cons, List.not_mem_nil, or_false, false_or, not_or] at h_
  unfold settlePhase
  first
  | (simp only [part_ite, part_set, setPhase_part, h_, q_, implies_true, ite_self, not_false_eq_true, if_false]; done)
  | ((try simp only [part_ite, part_set, setPhase_part, h_, q_, implies_true, ite_self, not_false_eq_true, if_false]) <;> (repeat' split) <;> (first | (simp only [part_ite, part_set, setPhase_part, h_, q_, implies_true, ite_self, not_false_eq_true, if_false]; done) | rfl))
theorem settleLevels_part {o_ : Obj} (q_ : o_.quiet = true) (h_ : ¬ o_.id ∈ Footprint.settleLevels) (s : State) :
    (settleLevels s).part o_ = s.part o_ := by
  simp only [Footprint.settleLevels, List.mem_append, List.mem_cons, List.not_mem_nil, or_false, false_or, not_or] at h_
  unfold settleLevels
  first
  | (simp only [part_ite, part_set, forN_part, h_, q_, implies_true, ite_self, not_false_eq_true, if_false]; done)
  | ((try simp only [part_ite, part_set, forN_part, h_, q_, implies_true, ite_self, not_false_eq_true, if_false]) <;> (repeat' split) <;> (first | (simp only [part_ite, part_set, forN_part, h_, q_, implies_true, ite_self, not_false_eq_true, if_false]; done) | rfl))
theorem afterRole_part {o_ : Obj} (q_ : o_.quiet = true) (h_ : ¬ o_.id ∈ Footprint.afterRole) (s : State) :
    (afterRole s).part o_ = s.part o_ := by
  simp only [Footprint.afterRole, List.mem_append, List.mem_cons, List.not_mem_nil, or_false, false_or, not_or] at h_
  unfold afterRole
  first
  | (simp only [part_ite, part_set, forN_part, forL_part, setOutputs_part, abortTest_part, setMpl_part, h_, q_, implies_true, ite_self, not_false_eq_true, if_false]; done)
  | ((try simp only [part_ite, part_set, forN_part, forL_part, setOutputs_part, abortTest_part, setMpl_part, h_, q_, implies_true, ite_self, not_false_eq_true, if_false]) <;> (repeat' split) <;> (first | (simp only [part_ite, part_set, forN_part, forL_part, setOutputs_part, abortTest_part, setMpl_part, h_, q_, implies_true, ite_self, not_false_eq_true, if_false]; done) | rfl))
theorem becomeIsolated_part {o_ : Obj} (q_ : o_.quiet = true) (h_ : ¬ o_.id ∈ Footprint.becomeIsolated) (s : State) :
    (becomeIsolated s).part o_ = s.part o_ := by
  simp only [Footprint.becomeIsolated, List.mem_append, List.mem_cons, List.not_mem_nil, or_false, false_or, not_or] at h_
  unfold becomeIsolated
  first
  | (simp only [part_ite, part_set, channelsOff_part, afterRole_part, setRole_part, h_, q_, implies_true, ite_self, not_false_eq_true, if_false]; done)
  | ((try simp only [part_ite, part_set, channelsOff_part, afterRole_part, setRole_part, h_, q_, implies_true, ite_self, not_false_eq_true, if_false]) <;> (repeat' split) <;> (first | (simp only [part_ite, part_set, channelsOff_part, afterRole_part, setRole_part, h_, q_, implies_true, ite_self, not_false_eq_true, if_false]; done) | rfl))
theorem becomeStandby_part {o_ : Obj} (q_ : o_.quiet = true) (h_ : ¬ o_.id ∈ Footprint.becomeStandby) (s : State) :
    (becomeStandby s).part o_ = s.part o_ := by
  simp only [Footprint.becomeStandby, List.mem_append, List.mem_cons, List.not_mem_nil, or_false, false_or, not_or] at h_
  unfold becomeStandby
  first
  | (simp only [part_ite, part_set, afterRole_part, setRole_part, h_, q_, implies_true, ite_self, not_false_eq_true, if_false]; done)
  | ((try simp only [part_ite, part_set, afterRole_part, setRole_part, h_, q_, implies_true, ite_self, not_false_eq_true, if_false]) <;> (repeat' split) <;> (first | (simp only [part_ite, part_set, afterRole_part, setRole_part, h_, q_, implies_true, ite_self, not_false_eq_true, if_false]; done) | rfl))
theorem fenceNow_part {o_ : Obj} (q_ : o_.quiet = true) (h_ : ¬ o_.id ∈ Footprint.fenceNow) (s : State) :
    (fenceNow s).part o_ = s.part o_ := by
  simp only [Footprint.fenceNow, List.mem_append, List.mem_cons, List.not_mem_nil, or_false, false_or, not_or] at h_
  unfold fenceNow
  first
  | (simp only [part_ite, afterRole_part, fence_part, h_, q_, implies_true, ite_self, not_false_eq_true, if_false]; done)
  | ((try simp only [part_ite, afterRole_part, fence_part, h_, q_, implies_true, ite_self, not_false_eq_true, if_false]) <;> (repeat' split) <;> (first | (simp only [part_ite, afterRole_part, fence_part, h_, q_, implies_true, ite_self, not_false_eq_true, if_false]; done) | rfl))
theorem takeOver_part {o_ : Obj} (q_ : o_.quiet = true) (h_ : ¬ o_.id ∈ Footprint.takeOver) (cause : Int) (s : State) :
    (takeOver cause s).part o_ = s.part o_ := by
  simp only [Footprint.takeOver, List.mem_append, List.mem_cons, List.not_mem_nil, or_false, false_or, not_or] at h_
  unfold takeOver
  first
  | (simp only [part_ite, part_emit, afterRole_part, adoptMeters_part, takeToken_part, refreshAll_part, h_, q_, implies_true, ite_self, not_false_eq_true, if_false]; done)
  | ((try simp only [part_ite, part_emit, afterRole_part, adoptMeters_part, takeToken_part, refreshAll_part, h_, q_, implies_true, ite_self, not_false_eq_true, if_false]) <;> (repeat' split) <;> (first | (simp only [part_ite, part_emit, afterRole_part, adoptMeters_part, takeToken_part, refreshAll_part, h_, q_, implies_true, ite_self, not_false_eq_true, if_false]; done) | rfl))
theorem hearLease_part {o_ : Obj} (q_ : o_.quiet = true) (h_ : ¬ o_.id ∈ Footprint.hearLease) (x : Lease) (s : State) :
    (hearLease x s).part o_ = s.part o_ := by
  simp only [Footprint.hearLease, List.mem_append, List.mem_cons, List.not_mem_nil, or_false, false_or, not_or] at h_
  unfold hearLease
  first
  | (simp only [part_ite, part_set, h_, q_, implies_true, ite_self, not_false_eq_true, if_false]; done)
  | ((try simp only [part_ite, part_set, h_, q_, implies_true, ite_self, not_false_eq_true, if_false]) <;> (repeat' split) <;> (first | (simp only [part_ite, part_set, h_, q_, implies_true, ite_self, not_false_eq_true, if_false]; done) | rfl))
theorem onLease_part {o_ : Obj} (q_ : o_.quiet = true) (h_ : ¬ o_.id ∈ Footprint.onLease) (op : Nat) (d : List Byte) {f : Lease → State → State}
    (f_ : ∀ x u, (f x u).part o_ = u.part o_) (s : State) : (onLease op d f s).part o_ = s.part o_ := by
  simp only [Footprint.onLease, List.mem_append, List.mem_cons, List.not_mem_nil, or_false, false_or, not_or, and_assoc] at h_
  unfold onLease
  split
  · split
    · rw [f_, hearLease_part q_ h_]
    · rfl
  · rfl

theorem noteSync_part {o_ : Obj} (q_ : o_.quiet = true) (h_ : ¬ o_.id ∈ Footprint.noteSync) (was : Nat) (x : Lease) (s : State) :
    (noteSync was x s).part o_ = s.part o_ := by
  simp only [Footprint.noteSync, List.mem_append, List.mem_cons, List.not_mem_nil, or_false, false_or, not_or] at h_
  unfold noteSync
  first
  | (simp only [part_ite, part_set, healthItem_part, h_, q_, implies_true, ite_self, not_false_eq_true, if_false]; done)
  | ((try simp only [part_ite, part_set, healthItem_part, h_, q_, implies_true, ite_self, not_false_eq_true, if_false]) <;> (repeat' split) <;> (first | (simp only [part_ite, part_set, healthItem_part, h_, q_, implies_true, ite_self, not_false_eq_true, if_false]; done) | rfl))
theorem becomeActive_part {o_ : Obj} (q_ : o_.quiet = true) (h_ : ¬ o_.id ∈ Footprint.becomeActive) (s : State) {t_ : State} (e_ : becomeActive s = .ok t_) :
    t_.part o_ = s.part o_ := by
  simp only [Footprint.becomeActive, List.mem_append, List.mem_cons, List.not_mem_nil, or_false, false_or, not_or] at h_
  unfold becomeActive at e_
  (repeat' split at e_) <;> cases e_ <;> (first | (simp only [part_ite, part_set, h_, q_, implies_true, ite_self, not_false_eq_true, if_false]; done) | rfl)
theorem isolateByHost_part {o_ : Obj} (q_ : o_.quiet = true) (h_ : ¬ o_.id ∈ Footprint.isolateByHost) (s : State) {t_ : State} (e_ : isolateByHost s = .ok t_) :
    t_.part o_ = s.part o_ := by
  simp only [Footprint.isolateByHost, List.mem_append, List.mem_cons, List.not_mem_nil, or_false, false_or, not_or] at h_
  unfold isolateByHost at e_
  (repeat' split at e_) <;> cases e_ <;> (first | (simp only [part_ite, part_set, h_, q_, implies_true, ite_self, not_false_eq_true, if_false]; done) | rfl)
theorem handOver_part {o_ : Obj} (q_ : o_.quiet = true) (h_ : ¬ o_.id ∈ Footprint.handOver) (s : State) {t_ : State} (e_ : handOver s = .ok t_) :
    t_.part o_ = s.part o_ := by
  simp only [Footprint.handOver, List.mem_append, List.mem_cons, List.not_mem_nil, or_false, false_or, not_or] at h_
  unfold handOver at e_
  (repeat' split at e_) <;> cases e_ <;> (first | (simp only [part_ite, part_set, part_emit, h_, q_, implies_true, ite_self, not_false_eq_true, if_false]; done) | rfl)
theorem startJoin_part {o_ : Obj} (q_ : o_.quiet = true) (h_ : ¬ o_.id ∈ Footprint.startJoin) (j : Nat) (s : State) :
    (startJoin j s).part o_ = s.part o_ := by
  simp only [Footprint.startJoin, List.mem_append, List.mem_cons, List.not_mem_nil, or_false, false_or, not_or] at h_
  unfold startJoin
  first
  | (simp only [part_ite, part_set, h_, q_, implies_true, ite_self, not_false_eq_true, if_false]; done)
  | ((try simp only [part_ite, part_set, h_, q_, implies_true, ite_self, not_false_eq_true, if_false]) <;> (repeat' split) <;> (first | (simp only [part_ite, part_set, h_, q_, implies_true, ite_self, not_false_eq_true, if_false]; done) | rfl))
theorem joinByHost_part {o_ : Obj} (q_ : o_.quiet = true) (h_ : ¬ o_.id ∈ Footprint.joinByHost) (s : State) {t_ : State} (e_ : joinByHost s = .ok t_) :
    t_.part o_ = s.part o_ := by
  simp only [Footprint.joinByHost, List.mem_append, List.mem_cons, List.not_mem_nil, or_false, false_or, not_or] at h_
  unfold joinByHost at e_
  (repeat' split at e_) <;> cases e_ <;> (first | (simp only [part_ite, startJoin_part, becomeIsolated_part, h_, q_, implies_true, ite_self, not_false_eq_true, if_false]; done) | rfl)
theorem adoptSlot_part {o_ : Obj} (q_ : o_.quiet = true) (h_ : ¬ o_.id ∈ Footprint.adoptSlot) (i : Nat) (d : List Byte) (s : State) :
    (adoptSlot i d s).part o_ = s.part o_ := by
  simp only [Footprint.adoptSlot, List.mem_append, List.mem_cons, List.not_mem_nil, or_false, false_or, not_or] at h_
  unfold adoptSlot
  first
  | (simp only [part_ite, part_set, part_setReal, h_, q_, implies_true, ite_self, not_false_eq_true, if_false]; done)
  | ((try simp only [part_ite, part_set, part_setReal, h_, q_, implies_true, ite_self, not_false_eq_true, if_false]) <;> (repeat' split) <;> (first | (simp only [part_ite, part_set, part_setReal, h_, q_, implies_true, ite_self, not_false_eq_true, if_false]; done) | rfl))
theorem adoptBlock_part {o_ : Obj} (q_ : o_.quiet = true) (h_ : ¬ o_.id ∈ Footprint.adoptBlock) (m : Mirror) (b : Nat) (s : State) :
    (adoptBlock m b s).part o_ = s.part o_ := by
  simp only [Footprint.adoptBlock, List.mem_append, List.mem_cons, List.not_mem_nil, or_false, false_or, not_or] at h_
  unfold adoptBlock
  first
  | (simp only [part_ite, part_set, part_setReal, h_, q_, implies_true, ite_self, not_false_eq_true, if_false]; done)
  | ((try simp only [part_ite, part_set, part_setReal, h_, q_, implies_true, ite_self, not_false_eq_true, if_false]) <;> (repeat' split) <;> (first | (simp only [part_ite, part_set, part_setReal, h_, q_, implies_true, ite_self, not_false_eq_true, if_false]; done) | rfl))
theorem adoptOutlet_part {o_ : Obj} (q_ : o_.quiet = true) (h_ : ¬ o_.id ∈ Footprint.adoptOutlet) (m : Mirror) (n : Nat) (s : State) :
    (adoptOutlet m n s).part o_ = s.part o_ := by
  simp only [Footprint.adoptOutlet, List.mem_append, List.mem_cons, List.not_mem_nil, or_false, false_or, not_or] at h_
  unfold adoptOutlet
  first
  | (simp only [part_ite, part_set, h_, q_, implies_true, ite_self, not_false_eq_true, if_false]; done)
  | ((try simp only [part_ite, part_set, h_, q_, implies_true, ite_self, not_false_eq_true, if_false]) <;> (repeat' split) <;> (first | (simp only [part_ite, part_set, h_, q_, implies_true, ite_self, not_false_eq_true, if_false]; done) | rfl))
theorem adoptChannel_part {o_ : Obj} (q_ : o_.quiet = true) (h_ : ¬ o_.id ∈ Footprint.adoptChannel) (m : Mirror) (c : Nat) (s : State) :
    (adoptChannel m c s).part o_ = s.part o_ := by
  simp only [Footprint.adoptChannel, List.mem_append, List.mem_cons, List.not_mem_nil, or_false, false_or, not_or] at h_
  unfold adoptChannel
  first
  | (simp only [part_ite, part_set, h_, q_, implies_true, ite_self, not_false_eq_true, if_false]; done)
  | ((try simp only [part_ite, part_set, h_, q_, implies_true, ite_self, not_false_eq_true, if_false]) <;> (repeat' split) <;> (first | (simp only [part_ite, part_set, h_, q_, implies_true, ite_self, not_false_eq_true, if_false]; done) | rfl))
theorem adoptFunction_part {o_ : Obj} (q_ : o_.quiet = true) (h_ : ¬ o_.id ∈ Footprint.adoptFunction) (m : Mirror) (k : Nat) (s : State) :
    (adoptFunction m k s).part o_ = s.part o_ := by
  simp only [Footprint.adoptFunction, List.mem_append, List.mem_cons, List.not_mem_nil, or_false, false_or, not_or] at h_
  unfold adoptFunction
  first
  | (simp only [part_ite, part_set, h_, q_, implies_true, ite_self, not_false_eq_true, if_false]; done)
  | ((try simp only [part_ite, part_set, h_, q_, implies_true, ite_self, not_false_eq_true, if_false]) <;> (repeat' split) <;> (first | (simp only [part_ite, part_set, h_, q_, implies_true, ite_self, not_false_eq_true, if_false]; done) | rfl))
theorem adoptMirror_part {o_ : Obj} (q_ : o_.quiet = true) (h_ : ¬ o_.id ∈ Footprint.adoptMirror) (m : Mirror) (s : State) :
    (adoptMirror m s).part o_ = s.part o_ := by
  simp only [Footprint.adoptMirror, List.mem_append, List.mem_cons, List.not_mem_nil, or_false, false_or, not_or] at h_
  unfold adoptMirror
  first
  | (simp only [part_ite, part_set, forN_part, adoptSlot_part, adoptBlock_part, adoptOutlet_part, adoptChannel_part, adoptFunction_part, h_, q_, implies_true, ite_self, not_false_eq_true, if_false]; done)
  | ((try simp only [part_ite, part_set, forN_part, adoptSlot_part, adoptBlock_part, adoptOutlet_part, adoptChannel_part, adoptFunction_part, h_, q_, implies_true, ite_self, not_false_eq_true, if_false]) <;> (repeat' split) <;> (first | (simp only [part_ite, part_set, forN_part, adoptSlot_part, adoptBlock_part, adoptOutlet_part, adoptChannel_part, adoptFunction_part, h_, q_, implies_true, ite_self, not_false_eq_true, if_false]; done) | rfl))
theorem takeRecord_part {o_ : Obj} (q_ : o_.quiet = true) (h_ : ¬ o_.id ∈ Footprint.takeRecord) (e : List Byte) (s : State) :
    (takeRecord e s).part o_ = s.part o_ := by
  simp only [Footprint.takeRecord, List.mem_append, List.mem_cons, List.not_mem_nil, or_false, false_or, not_or] at h_
  unfold takeRecord
  first
  | (simp only [part_ite, part_set, part_setSeq, part_setLog, showRecords_part, h_, q_, implies_true, ite_self, not_false_eq_true, if_false]; done)
  | ((try simp only [part_ite, part_set, part_setSeq, part_setLog, showRecords_part, h_, q_, implies_true, ite_self, not_false_eq_true, if_false]) <;> (repeat' split) <;> (first | (simp only [part_ite, part_set, part_setSeq, part_setLog, showRecords_part, h_, q_, implies_true, ite_self, not_false_eq_true, if_false]; done) | rfl))
theorem takeContext_part {o_ : Obj} (q_ : o_.quiet = true) (h_ : ¬ o_.id ∈ Footprint.takeContext) (c : Nat) (d : List Byte) (s : State) :
    (takeContext c d s).part o_ = s.part o_ := by
  simp only [Footprint.takeContext, List.mem_append, List.mem_cons, List.not_mem_nil, or_false, false_or, not_or] at h_
  unfold takeContext
  first
  | (simp only [part_ite, part_set, part_setBytes, h_, q_, implies_true, ite_self, not_false_eq_true, if_false]; done)
  | ((try simp only [part_ite, part_set, part_setBytes, h_, q_, implies_true, ite_self, not_false_eq_true, if_false]) <;> (repeat' split) <;> (first | (simp only [part_ite, part_set, part_setBytes, h_, q_, implies_true, ite_self, not_false_eq_true, if_false]; done) | rfl))
theorem takeRegSet_part {o_ : Obj} (q_ : o_.quiet = true) (h_ : ¬ o_.id ∈ Footprint.takeRegSet) (c : Nat) (d : List Byte) (s : State) :
    (takeRegSet c d s).part o_ = s.part o_ := by
  simp only [Footprint.takeRegSet, List.mem_append, List.mem_cons, List.not_mem_nil, or_false, false_or, not_or] at h_
  unfold takeRegSet
  first
  | (simp only [part_ite, part_set, part_setBytes, forN_part, h_, q_, implies_true, ite_self, not_false_eq_true, if_false]; done)
  | ((try simp only [part_ite, part_set, part_setBytes, forN_part, h_, q_, implies_true, ite_self, not_false_eq_true, if_false]) <;> (repeat' split) <;> (first | (simp only [part_ite, part_set, part_setBytes, forN_part, h_, q_, implies_true, ite_self, not_false_eq_true, if_false]; done) | rfl))
theorem takeBoundary_part {o_ : Obj} (q_ : o_.quiet = true) (h_ : ¬ o_.id ∈ Footprint.takeBoundary) (d : List Byte) (s : State) :
    (takeBoundary d s).part o_ = s.part o_ := by
  simp only [Footprint.takeBoundary, List.mem_append, List.mem_cons, List.not_mem_nil, or_false, false_or, not_or] at h_
  unfold takeBoundary
  first
  | (simp only [part_ite, part_set, part_setLog, h_, q_, implies_true, ite_self, not_false_eq_true, if_false]; done)
  | ((try simp only [part_ite, part_set, part_setLog, h_, q_, implies_true, ite_self, not_false_eq_true, if_false]) <;> (repeat' split) <;> (first | (simp only [part_ite, part_set, part_setLog, h_, q_, implies_true, ite_self, not_false_eq_true, if_false]; done) | rfl))
theorem takeTopology_part {o_ : Obj} (q_ : o_.quiet = true) (h_ : ¬ o_.id ∈ Footprint.takeTopology) (l : List Nat) (s : State) :
    (takeTopology l s).part o_ = s.part o_ := by
  simp only [Footprint.takeTopology, List.mem_append, List.mem_cons, List.not_mem_nil, or_false, false_or, not_or] at h_
  unfold takeTopology
  first
  | (simp only [part_ite, part_set, part_setB, forN_part, h_, q_, implies_true, ite_self, not_false_eq_true, if_false]; done)
  | ((try simp only [part_ite, part_set, part_setB, forN_part, h_, q_, implies_true, ite_self, not_false_eq_true, if_false]) <;> (repeat' split) <;> (first | (simp only [part_ite, part_set, part_setB, forN_part, h_, q_, implies_true, ite_self, not_false_eq_true, if_false]; done) | rfl))
theorem advanceTime_part {o_ : Obj} (q_ : o_.quiet = true) (h_ : ¬ o_.id ∈ Footprint.advanceTime) (cycles : Int) (s : State) :
    (advanceTime cycles s).part o_ = s.part o_ := by
  simp only [Footprint.advanceTime, List.mem_append, List.mem_cons, List.not_mem_nil, or_false, false_or, not_or] at h_
  unfold advanceTime
  first
  | (simp only [part_ite, part_set, part_setReal, h_, q_, implies_true, ite_self, not_false_eq_true, if_false]; done)
  | ((try simp only [part_ite, part_set, part_setReal, h_, q_, implies_true, ite_self, not_false_eq_true, if_false]) <;> (repeat' split) <;> (first | (simp only [part_ite, part_set, part_setReal, h_, q_, implies_true, ite_self, not_false_eq_true, if_false]; done) | rfl))
theorem switchSet_part {o_ : Obj} (q_ : o_.quiet = true) (h_ : ¬ o_.id ∈ Footprint.switchSet) (b : Nat) (s : State) :
    (switchSet b s).part o_ = s.part o_ := by
  simp only [Footprint.switchSet, List.mem_append, List.mem_cons, List.not_mem_nil, or_false, false_or, not_or] at h_
  unfold switchSet
  first
  | (simp only [part_ite, part_set, presetSlot_part, h_, q_, implies_true, ite_self, not_false_eq_true, if_false]; done)
  | ((try simp only [part_ite, part_set, presetSlot_part, h_, q_, implies_true, ite_self, not_false_eq_true, if_false]) <;> (repeat' split) <;> (first | (simp only [part_ite, part_set, presetSlot_part, h_, q_, implies_true, ite_self, not_false_eq_true, if_false]; done) | rfl))
theorem loadLimits_part {o_ : Obj} (q_ : o_.quiet = true) (h_ : ¬ o_.id ∈ Footprint.loadLimits) (s : State) :
    (loadLimits s).part o_ = s.part o_ := by
  simp only [Footprint.loadLimits, List.mem_append, List.mem_cons, List.not_mem_nil, or_false, false_or, not_or] at h_
  unfold loadLimits
  first
  | (simp only [part_ite, part_set, forN_part, h_, q_, implies_true, ite_self, not_false_eq_true, if_false]; done)
  | ((try simp only [part_ite, part_set, forN_part, h_, q_, implies_true, ite_self, not_false_eq_true, if_false]) <;> (repeat' split) <;> (first | (simp only [part_ite, part_set, forN_part, h_, q_, implies_true, ite_self, not_false_eq_true, if_false]; done) | rfl))
theorem clearFrame_part {o_ : Obj} (q_ : o_.quiet = true) (h_ : ¬ o_.id ∈ Footprint.clearFrame) (s : State) :
    (clearFrame s).part o_ = s.part o_ := by
  simp only [Footprint.clearFrame, List.mem_append, List.mem_cons, List.not_mem_nil, or_false, false_or, not_or] at h_
  unfold clearFrame
  first
  | (simp only [part_ite, part_set, forN_part, h_, q_, implies_true, ite_self, not_false_eq_true, if_false]; done)
  | ((try simp only [part_ite, part_set, forN_part, h_, q_, implies_true, ite_self, not_false_eq_true, if_false]) <;> (repeat' split) <;> (first | (simp only [part_ite, part_set, forN_part, h_, q_, implies_true, ite_self, not_false_eq_true, if_false]; done) | rfl))
theorem missMirror_part {o_ : Obj} (q_ : o_.quiet = true) (h_ : ¬ o_.id ∈ Footprint.missMirror) (s : State) :
    (missMirror s).part o_ = s.part o_ := by
  simp only [Footprint.missMirror, List.mem_append, List.mem_cons, List.not_mem_nil, or_false, false_or, not_or] at h_
  unfold missMirror
  first
  | (simp only [part_ite, part_set, part_inc, h_, q_, implies_true, ite_self, not_false_eq_true, if_false]; done)
  | ((try simp only [part_ite, part_set, part_inc, h_, q_, implies_true, ite_self, not_false_eq_true, if_false]) <;> (repeat' split) <;> (first | (simp only [part_ite, part_set, part_inc, h_, q_, implies_true, ite_self, not_false_eq_true, if_false]; done) | rfl))
theorem watchLink_part {o_ : Obj} (q_ : o_.quiet = true) (h_ : ¬ o_.id ∈ Footprint.watchLink) (s : State) :
    (watchLink s).part o_ = s.part o_ := by
  simp only [Footprint.watchLink, List.mem_append, List.mem_cons, List.not_mem_nil, or_false, false_or, not_or] at h_
  unfold watchLink
  first
  | (simp only [part_ite, part_set, h_, q_, implies_true, ite_self, not_false_eq_true, if_false]; done)
  | ((try simp only [part_ite, part_set, h_, q_, implies_true, ite_self, not_false_eq_true, if_false]) <;> (repeat' split) <;> (first | (simp only [part_ite, part_set, h_, q_, implies_true, ite_self, not_false_eq_true, if_false]; done) | rfl))
theorem takeLease_part {o_ : Obj} (q_ : o_.quiet = true) (h_ : ¬ o_.id ∈ Footprint.takeLease) (s : State) :
    (takeLease s).part o_ = s.part o_ := by
  simp only [Footprint.takeLease, List.mem_append, List.mem_cons, List.not_mem_nil, or_false, false_or, not_or] at h_
  unfold takeLease
  first
  | (simp only [part_ite, part_set, h_, q_, implies_true, ite_self, not_false_eq_true, if_false]; done)
  | ((try simp only [part_ite, part_set, h_, q_, implies_true, ite_self, not_false_eq_true, if_false]) <;> (repeat' split) <;> (first | (simp only [part_ite, part_set, h_, q_, implies_true, ite_self, not_false_eq_true, if_false]; done) | rfl))
theorem pairStart_part {o_ : Obj} (q_ : o_.quiet = true) (h_ : ¬ o_.id ∈ Footprint.pairStart) (s : State) :
    (pairStart s).part o_ = s.part o_ := by
  simp only [Footprint.pairStart, List.mem_append, List.mem_cons, List.not_mem_nil, or_false, false_or, not_or] at h_
  unfold pairStart
  first
  | (simp only [part_ite, part_set, takeLease_part, watchLink_part, missMirror_part, fenceNow_part, becomeIsolated_part, sendLease_part, h_, q_, implies_true, ite_self, not_false_eq_true, if_false]; done)
  | ((try simp only [part_ite, part_set, takeLease_part, watchLink_part, missMirror_part, fenceNow_part, becomeIsolated_part, sendLease_part, h_, q_, implies_true, ite_self, not_false_eq_true, if_false]) <;> (repeat' split) <;> (first | (simp only [part_ite, part_set, takeLease_part, watchLink_part, missMirror_part, fenceNow_part, becomeIsolated_part, sendLease_part, h_, q_, implies_true, ite_self, not_false_eq_true, if_false]; done) | rfl))
theorem nextFrame_part {o_ : Obj} (q_ : o_.quiet = true) (h_ : ¬ o_.id ∈ Footprint.nextFrame) (s : State) :
    (nextFrame s).part o_ = s.part o_ := by
  simp only [Footprint.nextFrame, List.mem_append, List.mem_cons, List.not_mem_nil, or_false, false_or, not_or] at h_
  unfold nextFrame
  first
  | (simp only [part_ite, part_set, h_, q_, implies_true, ite_self, not_false_eq_true, if_false]; done)
  | ((try simp only [part_ite, part_set, h_, q_, implies_true, ite_self, not_false_eq_true, if_false]) <;> (repeat' split) <;> (first | (simp only [part_ite, part_set, h_, q_, implies_true, ite_self, not_false_eq_true, if_false]; done) | rfl))
theorem trimEdge_part {o_ : Obj} (q_ : o_.quiet = true) (p x : Nat) (peakOf max_ applied configured target : Obj) (s : State) (h_ : ¬ o_.id ∈ (Footprint.trimEdge peakOf max_ applied)) :
    (trimEdge p x peakOf max_ applied configured target s).part o_ = s.part o_ := by
  simp only [Footprint.trimEdge, List.mem_append, List.mem_cons, List.not_mem_nil, or_false, false_or, not_or] at h_
  unfold trimEdge
  first
  | (simp only [part_ite, part_set, logEvent_part, h_, q_, implies_true, ite_self, not_false_eq_true, if_false]; done)
  | ((try simp only [part_ite, part_set, logEvent_part, h_, q_, implies_true, ite_self, not_false_eq_true, if_false]) <;> (repeat' split) <;> (first | (simp only [part_ite, part_set, logEvent_part, h_, q_, implies_true, ite_self, not_false_eq_true, if_false]; done) | rfl))
theorem trimPhase_part {o_ : Obj} (q_ : o_.quiet = true) (h_ : ¬ o_.id ∈ Footprint.trimPhase) (p : Nat) (s : State) :
    (trimPhase p s).part o_ = s.part o_ := by
  simp only [Footprint.trimPhase, List.mem_append, List.mem_cons, List.not_mem_nil, or_false, false_or, not_or] at h_
  unfold trimPhase
  first
  | (simp only [part_ite, trimEdge_part, h_, q_, implies_true, ite_self, not_false_eq_true, if_false]; done)
  | ((try simp only [part_ite, trimEdge_part, h_, q_, implies_true, ite_self, not_false_eq_true, if_false]) <;> (repeat' split) <;> (first | (simp only [part_ite, trimEdge_part, h_, q_, implies_true, ite_self, not_false_eq_true, if_false]; done) | rfl))
theorem slowClass_view {o_ : Obj} (q_ : o_.quiet = true) (h_ : ¬ o_.id ∈ Footprint.slowClass) (mism again late : List Nat) (s : State) :
    (slowClass mism again late s).view o_ = s.view o_ := by
  simp only [Footprint.slowClass, List.mem_append, List.mem_cons, List.not_mem_nil, or_false, false_or, not_or] at h_
  unfold slowClass
  first
  | (simp only [view_ite, view_setSeq, forL_view, issueSlot_view, judgeMismatches_view, h_, q_, implies_true, ite_self, not_false_eq_true, if_false]; done)
  | ((try simp only [view_ite, view_setSeq, forL_view, issueSlot_view, judgeMismatches_view, h_, q_, implies_true, ite_self, not_false_eq_true, if_false]) <;> (repeat' split) <;> (first | (simp only [view_ite, view_setSeq, forL_view, issueSlot_view, judgeMismatches_view, h_, q_, implies_true, ite_self, not_false_eq_true, if_false]; done) | rfl))

theorem slowOverrun_part {o_ : Obj} (q_ : o_.quiet = true) (h_ : ¬ o_.id ∈ Footprint.slowOverrun) (s : State) :
    (slowOverrun s).part o_ = s.part o_ := by
  simp only [Footprint.slowOverrun, List.mem_append, List.mem_cons, List.not_mem_nil, or_false, false_or, not_or] at h_
  unfold slowOverrun
  first
  | (simp only [part_ite, part_inc, part_setSeq, logLimited_part, h_, q_, implies_true, ite_self, not_false_eq_true, if_false]; done)
  | ((try simp only [part_ite, part_inc, part_setSeq, logLimited_part, h_, q_, implies_true, ite_self, not_false_eq_true, if_false]) <;> (repeat' split) <;> (first | (simp only [part_ite, part_inc, part_setSeq, logLimited_part, h_, q_, implies_true, ite_self, not_false_eq_true, if_false]; done) | rfl))
theorem lastStage_part {o_ : Obj} (q_ : o_.quiet = true) (h_ : ¬ o_.id ∈ Footprint.lastStage) (s : State) :
    (lastStage s).part o_ = s.part o_ := by
  simp only [Footprint.lastStage, List.mem_append, List.mem_cons, List.not_mem_nil, or_false, false_or, not_or] at h_
  unfold lastStage
  first
  | (simp only [part_ite, part_set, h_, q_, implies_true, ite_self, not_false_eq_true, if_false]; done)
  | ((try simp only [part_ite, part_set, h_, q_, implies_true, ite_self, not_false_eq_true, if_false]) <;> (repeat' split) <;> (first | (simp only [part_ite, part_set, h_, q_, implies_true, ite_self, not_false_eq_true, if_false]; done) | rfl))
theorem countHours_part {o_ : Obj} (q_ : o_.quiet = true) (h_ : ¬ o_.id ∈ Footprint.countHours) (s : State) :
    (countHours s).part o_ = s.part o_ := by
  simp only [Footprint.countHours, List.mem_append, List.mem_cons, List.not_mem_nil, or_false, false_or, not_or] at h_
  unfold countHours
  first
  | (simp only [part_ite, part_set, h_, q_, implies_true, ite_self, not_false_eq_true, if_false]; done)
  | ((try simp only [part_ite, part_set, h_, q_, implies_true, ite_self, not_false_eq_true, if_false]) <;> (repeat' split) <;> (first | (simp only [part_ite, part_set, h_, q_, implies_true, ite_self, not_false_eq_true, if_false]; done) | rfl))
theorem timeFirstSet_part {o_ : Obj} (q_ : o_.quiet = true) (h_ : ¬ o_.id ∈ Footprint.timeFirstSet) (was : Int) (s : State) :
    (timeFirstSet was s).part o_ = s.part o_ := by
  simp only [Footprint.timeFirstSet, List.mem_append, List.mem_cons, List.not_mem_nil, or_false, false_or, not_or] at h_
  unfold timeFirstSet
  first
  | (simp only [part_ite, refreshAll_part, deriveBoundaries_part, h_, q_, implies_true, ite_self, not_false_eq_true, if_false]; done)
  | ((try simp only [part_ite, refreshAll_part, deriveBoundaries_part, h_, q_, implies_true, ite_self, not_false_eq_true, if_false]) <;> (repeat' split) <;> (first | (simp only [part_ite, refreshAll_part, deriveBoundaries_part, h_, q_, implies_true, ite_self, not_false_eq_true, if_false]; done) | rfl))
theorem selectMaster_part {o_ : Obj} (q_ : o_.quiet = true) (h_ : ¬ o_.id ∈ Footprint.selectMaster) (l : List (List Int)) (s : State) :
    (selectMaster l s).part o_ = s.part o_ := by
  simp only [Footprint.selectMaster, List.mem_append, List.mem_cons, List.not_mem_nil, or_false, false_or, not_or] at h_
  unfold selectMaster
  first
  | (simp only [part_ite, part_set, part_setBytes, part_setSeq, foldl_part, h_, q_, implies_true, ite_self, not_false_eq_true, if_false]; done)
  | ((try simp only [part_ite, part_set, part_setBytes, part_setSeq, foldl_part, h_, q_, implies_true, ite_self, not_false_eq_true, if_false]) <;> (repeat' split) <;> (first | (simp only [part_ite, part_set, part_setBytes, part_setSeq, foldl_part, h_, q_, implies_true, ite_self, not_false_eq_true, if_false]; done) | rfl))
theorem lockTime_part {o_ : Obj} (q_ : o_.quiet = true) (h_ : ¬ o_.id ∈ Footprint.lockTime) (s : State) :
    (lockTime s).part o_ = s.part o_ := by
  simp only [Footprint.lockTime, List.mem_append, List.mem_cons, List.not_mem_nil, or_false, false_or, not_or] at h_
  unfold lockTime
  first
  | (simp only [part_ite, part_set, logEvent_part, timeFirstSet_part, h_, q_, implies_true, ite_self, not_false_eq_true, if_false]; done)
  | ((try simp only [part_ite, part_set, logEvent_part, timeFirstSet_part, h_, q_, implies_true, ite_self, not_false_eq_true, if_false]) <;> (repeat' split) <;> (first | (simp only [part_ite, part_set, logEvent_part, timeFirstSet_part, h_, q_, implies_true, ite_self, not_false_eq_true, if_false]; done) | rfl))
theorem stepMarks_part {o_ : Obj} (h_ : ¬ o_.id ∈ Footprint.stepMarks) (before d : Int) (s : State) :
    (stepMarks before d s).part o_ = s.part o_ := by
  simp only [Footprint.stepMarks, List.mem_cons, List.not_mem_nil, or_false, not_or] at h_
  unfold stepMarks
  dsimp only
  rw [forN_part]
  · split
    · exact part_set h_.1 _ _ _
    · rfl
  · intro m u
    split
    · exact part_set h_.2 _ _ _
    · rfl
theorem setTime_part {o_ : Obj} (q_ : o_.quiet = true) (h_ : ¬ o_.id ∈ Footprint.setTime) (v : Int) (s : State) :
    (setTime v s).part o_ = s.part o_ := by
  simp only [Footprint.setTime, List.mem_append, List.mem_cons, List.not_mem_nil, or_false, false_or, not_or] at h_
  unfold setTime
  first
  | (simp only [part_ite, part_set, part_setBit, part_setReal, forN_part, logEvent_part, stepMarks_part, clockStep_part, timeFirstSet_part, h_, q_, implies_true, ite_self, not_false_eq_true, if_false]; done)
  | ((try simp only [part_ite, part_set, part_setBit, part_setReal, forN_part, logEvent_part, stepMarks_part, clockStep_part, timeFirstSet_part, h_, q_, implies_true, ite_self, not_false_eq_true, if_false]) <;> (repeat' split) <;> (first | (simp only [part_ite, part_set, part_setBit, part_setReal, forN_part, logEvent_part, stepMarks_part, clockStep_part, timeFirstSet_part, h_, q_, implies_true, ite_self, not_false_eq_true, if_false]; done) | rfl))
theorem createContext_part {o_ : Obj} (q_ : o_.quiet = true) (h_ : ¬ o_.id ∈ Footprint.createContext) (c : Nat) (st : Int) (s : State) :
    (createContext c st s).part o_ = s.part o_ := by
  simp only [Footprint.createContext, List.mem_append, List.mem_cons, List.not_mem_nil, or_false, false_or, not_or] at h_
  unfold createContext
  first
  | (simp only [part_ite, part_set, setContext_part, takeSerial_part, h_, q_, implies_true, ite_self, not_false_eq_true, if_false]; done)
  | ((try simp only [part_ite, part_set, setContext_part, takeSerial_part, h_, q_, implies_true, ite_self, not_false_eq_true, if_false]) <;> (repeat' split) <;> (first | (simp only [part_ite, part_set, setContext_part, takeSerial_part, h_, q_, implies_true, ite_self, not_false_eq_true, if_false]; done) | rfl))
theorem contextStop_part {o_ : Obj} (c : Nat) {stop : Nat → State → State} (f_ : ∀ n u, (stop n u).part o_ = u.part o_) (s : State) {t_ : State}
    (e_ : contextStop c stop s = .ok t_) : t_.part o_ = s.part o_ := by
  unfold contextStop at e_
  split at e_
  · split at e_ <;> cases e_
    · exact f_ _ _
    · rfl
  · cases e_

theorem reachStage_part {o_ : Obj} (q_ : o_.quiet = true) (h_ : ¬ o_.id ∈ Footprint.reachStage) (k : Int) (s : State) :
    (reachStage k s).part o_ = s.part o_ := by
  simp only [Footprint.reachStage, List.mem_append, List.mem_cons, List.not_mem_nil, or_false, false_or, not_or] at h_
  unfold reachStage
  first
  | (simp only [part_ite, part_set, h_, q_, implies_true, ite_self, not_false_eq_true, if_false]; done)
  | ((try simp only [part_ite, part_set, h_, q_, implies_true, ite_self, not_false_eq_true, if_false]) <;> (repeat' split) <;> (first | (simp only [part_ite, part_set, h_, q_, implies_true, ite_self, not_false_eq_true, if_false]; done) | rfl))
theorem reachStage_view {o_ : Obj} (q_ : o_.quiet = true) (h_ : ¬ o_.id ∈ Footprint.reachStage) (k : Int) (s : State)  :
    (reachStage k s).view o_ = s.view o_ :=
  view_of_part (reachStage_part q_ h_ k s)

theorem readStraps_part {o_ : Obj} (q_ : o_.quiet = true) (h_ : ¬ o_.id ∈ Footprint.readStraps) (simplexOpen slotOpen : Bool) (s : State) :
    (readStraps simplexOpen slotOpen s).part o_ = s.part o_ := by
  simp only [Footprint.readStraps, List.mem_append, List.mem_cons, List.not_mem_nil, or_false, false_or, not_or] at h_
  unfold readStraps
  first
  | (simp only [part_ite, part_set, h_, q_, implies_true, ite_self, not_false_eq_true, if_false]; done)
  | ((try simp only [part_ite, part_set, h_, q_, implies_true, ite_self, not_false_eq_true, if_false]) <;> (repeat' split) <;> (first | (simp only [part_ite, part_set, h_, q_, implies_true, ite_self, not_false_eq_true, if_false]; done) | rfl))
theorem chooseMetrology_part {o_ : Obj} (q_ : o_.quiet = true) (h_ : ¬ o_.id ∈ Footprint.chooseMetrology) (s : State) :
    (chooseMetrology s).part o_ = s.part o_ := by
  simp only [Footprint.chooseMetrology, List.mem_append, List.mem_cons, List.not_mem_nil, or_false, false_or, not_or] at h_
  unfold chooseMetrology
  first
  | (simp only [part_ite, part_keep, h_, q_, implies_true, ite_self, not_false_eq_true, if_false]; done)
  | ((try simp only [part_ite, part_keep, h_, q_, implies_true, ite_self, not_false_eq_true, if_false]) <;> (repeat' split) <;> (first | (simp only [part_ite, part_keep, h_, q_, implies_true, ite_self, not_false_eq_true, if_false]; done) | rfl))
theorem chooseMetrology_view {o_ : Obj} (q_ : o_.quiet = true) (h_ : ¬ o_.id ∈ Footprint.chooseMetrology) (s : State)  :
    (chooseMetrology s).view o_ = s.view o_ :=
  view_of_part (chooseMetrology_part q_ h_ s)

theorem showImages_part {o_ : Obj} (q_ : o_.quiet = true) (h_ : ¬ o_.id ∈ Footprint.showImages) (s : State) :
    (showImages s).part o_ = s.part o_ := by
  simp only [Footprint.showImages, List.mem_append, List.mem_cons, List.not_mem_nil, or_false, false_or, not_or] at h_
  unfold showImages
  first
  | (simp only [part_ite, part_set, part_setBytes, h_, q_, implies_true, ite_self, not_false_eq_true, if_false]; done)
  | ((try simp only [part_ite, part_set, part_setBytes, h_, q_, implies_true, ite_self, not_false_eq_true, if_false]) <;> (repeat' split) <;> (first | (simp only [part_ite, part_set, part_setBytes, h_, q_, implies_true, ite_self, not_false_eq_true, if_false]; done) | rfl))
theorem showImages_view {o_ : Obj} (q_ : o_.quiet = true) (h_ : ¬ o_.id ∈ Footprint.showImages) (s : State)  :
    (showImages s).view o_ = s.view o_ :=
  view_of_part (showImages_part q_ h_ s)

theorem reenter_part {o_ : Obj} (q_ : o_.quiet = true)  (e : List Byte) (s : State) :
    (reenter e s).part o_ = s.part o_ := by
  unfold reenter
  first
  | (simp only [part_ite, enterEvent_part, q_, implies_true, ite_self, not_false_eq_true, if_false]; done)
  | ((try simp only [part_ite, enterEvent_part, q_, implies_true, ite_self, not_false_eq_true, if_false]) <;> (repeat' split) <;> (first | (simp only [part_ite, enterEvent_part, q_, implies_true, ite_self, not_false_eq_true, if_false]; done) | rfl))
theorem tellLost_part {o_ : Obj} (q_ : o_.quiet = true) (h_ : ¬ o_.id ∈ Footprint.tellLost) (k : Nat) (s : State) :
    (tellLost k s).part o_ = s.part o_ := by
  simp only [Footprint.tellLost, List.mem_append, List.mem_cons, List.not_mem_nil, or_false, false_or, not_or] at h_
  unfold tellLost
  first
  | (simp only [part_ite, part_set, logEvent_part, h_, q_, implies_true, ite_self, not_false_eq_true, if_false]; done)
  | ((try simp only [part_ite, part_set, logEvent_part, h_, q_, implies_true, ite_self, not_false_eq_true, if_false]) <;> (repeat' split) <;> (first | (simp only [part_ite, part_set, logEvent_part, h_, q_, implies_true, ite_self, not_false_eq_true, if_false]; done) | rfl))
theorem startTrim_part {o_ : Obj} (q_ : o_.quiet = true) (h_ : ¬ o_.id ∈ Footprint.startTrim) (p : Nat) (s : State) :
    (startTrim p s).part o_ = s.part o_ := by
  simp only [Footprint.startTrim, List.mem_append, List.mem_cons, List.not_mem_nil, or_false, false_or, not_or] at h_
  unfold startTrim
  first
  | (simp only [part_ite, part_set, h_, q_, implies_true, ite_self, not_false_eq_true, if_false]; done)
  | ((try simp only [part_ite, part_set, h_, q_, implies_true, ite_self, not_false_eq_true, if_false]) <;> (repeat' split) <;> (first | (simp only [part_ite, part_set, h_, q_, implies_true, ite_self, not_false_eq_true, if_false]; done) | rfl))
theorem afterRead_part {o_ : Obj} (q_ : o_.quiet = true) (h_ : ¬ o_.id ∈ Footprint.afterRead) (o : Obj) (i : Nat) (s : State) :
    (afterRead o i s).part o_ = s.part o_ := by
  simp only [Footprint.afterRead, List.mem_append, List.mem_cons, List.not_mem_nil, or_false, false_or, not_or] at h_
  unfold afterRead
  first
  | (simp only [part_ite, part_set, readMoData_part, h_, q_, implies_true, ite_self, not_false_eq_true, if_false]; done)
  | ((try simp only [part_ite, part_set, readMoData_part, h_, q_, implies_true, ite_self, not_false_eq_true, if_false]) <;> (repeat' split) <;> (first | (simp only [part_ite, part_set, readMoData_part, h_, q_, implies_true, ite_self, not_false_eq_true, if_false]; done) | rfl))
theorem fieldAction_part {o_ : Obj} (q_ : o_.quiet = true) (h_ : ¬ o_.id ∈ Footprint.fieldAction) (role : Nat) (w : FieldWrite) (s : State) {t_ : State} (e_ : fieldAction role w s = .ok t_) :
    t_.part o_ = s.part o_ := by
  simp only [Footprint.fieldAction, List.mem_append, List.mem_cons, List.not_mem_nil, or_false, false_or, not_or, and_assoc] at h_
  obtain ⟨a1, a2, a3, b, c, d, e, f, g⟩ := h_
  unfold fieldAction at e_
  dsimp only at e_
  repeat' split at e_
  · rw [← Except.ok.inj e_, part_set a3, part_set a2, part_set a1]
  · rw [← Except.ok.inj e_, setActivation_part q_ b]
  · exact demandOutputs_part q_ c _ _ e_
  · exact setFieldKeyVersion_part q_ d _ _ e_
  · exact commandOs_part q_ e _ _ _ e_
  · exact writeMoData_part q_ f _ _ _ e_
  · exact setRoleKey_part q_ g _ _ _ _ e_
  · rw [← Except.ok.inj e_]
theorem endPartly_part {o_ : Obj} (q_ : o_.quiet = true)  (w : Waiting) (s : State) :
    (endPartly w s).part o_ = s.part o_ := by
  unfold endPartly
  first
  | (simp only [part_ite, emitAnswer_part, q_, implies_true, ite_self, not_false_eq_true, if_false]; done)
  | ((try simp only [part_ite, emitAnswer_part, q_, implies_true, ite_self, not_false_eq_true, if_false]) <;> (repeat' split) <;> (first | (simp only [part_ite, emitAnswer_part, q_, implies_true, ite_self, not_false_eq_true, if_false]; done) | rfl))
theorem endResponse_part {o_ : Obj} (q_ : o_.quiet = true) (h_ : ¬ o_.id ∈ Footprint.endResponse) (tag : Nat) (s : State) :
    (endResponse tag s).part o_ = s.part o_ := by
  simp only [Footprint.endResponse, List.mem_append, List.mem_cons, List.not_mem_nil, or_false, false_or, not_or] at h_
  unfold endResponse
  first
  | (simp only [part_ite, part_set, part_setBytes, h_, q_, implies_true, ite_self, not_false_eq_true, if_false]; done)
  | ((try simp only [part_ite, part_set, part_setBytes, h_, q_, implies_true, ite_self, not_false_eq_true, if_false]) <;> (repeat' split) <;> (first | (simp only [part_ite, part_set, part_setBytes, h_, q_, implies_true, ite_self, not_false_eq_true, if_false]; done) | rfl))
theorem termRecord_part {o_ : Obj} (q_ : o_.quiet = true) (h_ : ¬ o_.id ∈ Footprint.termRecord) (mode len : Int) (frame p : Nat) (r : PhaseRecord) (s : State) :
    (termRecord mode len frame p r s).part o_ = s.part o_ := by
  simp only [Footprint.termRecord, List.mem_append, List.mem_cons, List.not_mem_nil, or_false, false_or, not_or] at h_
  unfold termRecord
  first
  | (simp only [part_ite, part_set, part_setB, part_setSeq, h_, q_, implies_true, ite_self, not_false_eq_true, if_false]; done)
  | ((try simp only [part_ite, part_set, part_setB, part_setSeq, h_, q_, implies_true, ite_self, not_false_eq_true, if_false]) <;> (repeat' split) <;> (first | (simp only [part_ite, part_set, part_setB, part_setSeq, h_, q_, implies_true, ite_self, not_false_eq_true, if_false]; done) | rfl))
theorem termAccept_part {o_ : Obj} (q_ : o_.quiet = true) (h_ : ¬ o_.id ∈ Footprint.termAccept) (c : Nat) (late : Bool) (f : List Byte) (s : State) :
    (termAccept c late f s).part o_ = s.part o_ := by
  simp only [Footprint.termAccept, List.mem_append, List.mem_cons, List.not_mem_nil, or_false, false_or, not_or] at h_
  unfold termAccept
  first
  | (simp only [part_ite, part_set, part_setBytes, forN_part, termRecord_part, h_, q_, implies_true, ite_self, not_false_eq_true, if_false]; done)
  | ((try simp only [part_ite, part_set, part_setBytes, forN_part, termRecord_part, h_, q_, implies_true, ite_self, not_false_eq_true, if_false]) <;> (repeat' split) <;> (first | (simp only [part_ite, part_set, part_setBytes, forN_part, termRecord_part, h_, q_, implies_true, ite_self, not_false_eq_true, if_false]; done) | rfl))
theorem termHold_part {o_ : Obj} (q_ : o_.quiet = true) (h_ : ¬ o_.id ∈ Footprint.termHold) (c : Nat) (s : State) :
    (termHold c s).part o_ = s.part o_ := by
  simp only [Footprint.termHold, List.mem_append, List.mem_cons, List.not_mem_nil, or_false, false_or, not_or] at h_
  unfold termHold
  first
  | (simp only [part_ite, part_set, part_setSeq, forN_part, h_, q_, implies_true, ite_self, not_false_eq_true, if_false]; done)
  | ((try simp only [part_ite, part_set, part_setSeq, forN_part, h_, q_, implies_true, ite_self, not_false_eq_true, if_false]) <;> (repeat' split) <;> (first | (simp only [part_ite, part_set, part_setSeq, forN_part, h_, q_, implies_true, ite_self, not_false_eq_true, if_false]; done) | rfl))
theorem termSafeOff_part {o_ : Obj} (q_ : o_.quiet = true) (h_ : ¬ o_.id ∈ Footprint.termSafeOff) (c : Nat) (s : State) :
    (termSafeOff c s).part o_ = s.part o_ := by
  simp only [Footprint.termSafeOff, List.mem_append, List.mem_cons, List.not_mem_nil, or_false, false_or, not_or] at h_
  unfold termSafeOff
  first
  | (simp only [part_ite, part_set, part_setSeq, forN_part, h_, q_, implies_true, ite_self, not_false_eq_true, if_false]; done)
  | ((try simp only [part_ite, part_set, part_setSeq, forN_part, h_, q_, implies_true, ite_self, not_false_eq_true, if_false]) <;> (repeat' split) <;> (first | (simp only [part_ite, part_set, part_setSeq, forN_part, h_, q_, implies_true, ite_self, not_false_eq_true, if_false]; done) | rfl))
theorem termFaultOff_part {o_ : Obj} (q_ : o_.quiet = true) (h_ : ¬ o_.id ∈ Footprint.termFaultOff) (p cause : Nat) (s : State) :
    (termFaultOff p cause s).part o_ = s.part o_ := by
  simp only [Footprint.termFaultOff, List.mem_append, List.mem_cons, List.not_mem_nil, or_false, false_or, not_or] at h_
  unfold termFaultOff
  first
  | (simp only [part_ite, part_set, part_setSeq, h_, q_, implies_true, ite_self, not_false_eq_true, if_false]; done)
  | ((try simp only [part_ite, part_set, part_setSeq, h_, q_, implies_true, ite_self, not_false_eq_true, if_false]) <;> (repeat' split) <;> (first | (simp only [part_ite, part_set, part_setSeq, h_, q_, implies_true, ite_self, not_false_eq_true, if_false]; done) | rfl))
section
variable {o_ : Obj} (q_ : o_.quiet = true)
include q_

theorem applyField_part (h_ : ¬ o_.id ∈ Footprint.applyField) (role : Nat) (record : Bool) {w : FieldWrite} (n : w.key.o ≠ o_.id) (s : State) :
    (applyField role record w s).part o_ = s.part o_ := by
  simp only [Footprint.applyField, List.mem_append, List.mem_cons, List.not_mem_nil, or_false, not_or] at h_
  unfold applyField
  split
  · rfl
  · rename_i o e
    have i : o.id = w.key.o := by simpa using List.find?_some e
    have m : ¬ o_.id = o.id := fun x => n (i.symm.trans x.symm)
    have t (u : State) : State.part (if isEth o then u.set Reg.ethStaged (w.num + 1) w.key.i o.sub
      else if w.isBytes then u.setBytes o w.bytes w.key.i w.key.j
      else u.set o w.num w.key.i w.key.j) o_ = u.part o_ := by
      repeat' split
      · exact part_set h_.1 _ _ _
      · exact part_setBytes m _ _ _
      · exact part_set m _ _ _
    dsimp only
    rw [part_ite, auditEntry_part q_ h_.2, markDirty_part q_, t, ite_self]

theorem applyWaiting_part (h_ : ¬ o_.id ∈ Footprint.applyField) {w : Waiting} (n : ∀ f ∈ w.writes, f.key.o ≠ o_.id) (s : State) :
    (applyWaiting w s).part o_ = s.part o_ := by
  have a (l : List FieldWrite) (m : ∀ f ∈ l, f.key.o ≠ o_.id) (u : State) :
      (l.foldl (fun u f => applyField w.role w.record f u) u).part o_ = u.part o_ := by
    induction l generalizing u with
    | nil => rfl
    | cons x l ih => exact (ih (fun f k => m f (.tail _ k)) _).trans (applyField_part q_ h_ _ _ (m x (.head _)) _)
  have b (l : List FieldWrite) (u : State) : (l.foldl (fun (u : State) f => u.emit (.sync f.key f.num f.bytes)) u).part o_ = u.part o_ :=
    foldl_part (o := o_) (f := fun u f => u.emit (.sync f.key f.num f.bytes)) (fun _ _ => rfl) l u
  unfold applyWaiting
  dsimp only
  split
  · rw [awaitSync_part q_, b, a _ n]
  · split
    · rw [emitAnswer_part q_, a _ n]
    · rw [a _ n]

theorem atBoundary_part (h_ : ¬ o_.id ∈ Footprint.atBoundary) (b : Boundary) {s : State} (n : s.unawaited o_) :
    (atBoundary b s).part o_ = s.part o_ := by
  simp only [Footprint.atBoundary, List.mem_append, not_or, and_assoc] at h_
  have a (l : List Waiting) (m : ∀ w ∈ l, ∀ f ∈ w.writes, f.key.o ≠ o_.id) (e : List Waiting) (u : State) :
      (l.foldl (fun u w =>
        let v := applyWaiting w u
        if w.space = discardSpace ∨ e.contains w then undirty (w.writes.map (·.key)) v else v) u).part o_ = u.part o_ := by
    induction l generalizing u with
    | nil => rfl
    | cons x l ih =>
      refine (ih (fun w k => m w (.tail _ k)) _).trans ?_
      dsimp only
      split
      · rw [undirty_part q_ h_.2.2, applyWaiting_part q_ h_.1 (m x (.head _))]
      · rw [applyWaiting_part q_ h_.1 (m x (.head _))]
  unfold atBoundary
  dsimp only
  rw [endDiscard_part q_ h_.2.1, a _ fun w k => n w (List.mem_of_mem_filter k)]
  rfl

theorem flushContext_part (h_ : ¬ o_.id ∈ Footprint.flushContext) (c : Nat) {s : State} (n : s.unawaited o_) :
    (flushContext c s).part o_ = s.part o_ := by
  simp only [Footprint.flushContext, List.mem_append, not_or] at h_
  have a (l : List Waiting) (m : ∀ w ∈ l, ∀ f ∈ w.writes, f.key.o ≠ o_.id) (u : State) :
      (l.foldl (fun u w => applyWaiting w u) u).part o_ = u.part o_ := by
    induction l generalizing u with
    | nil => rfl
    | cons x l ih => exact (ih (fun w k => m w (.tail _ k)) _).trans (applyWaiting_part q_ h_.1 (m x (.head _)) _)
  unfold flushContext
  dsimp only
  split
  · rfl
  · rw [contextWritten_part q_ h_.2, a _ fun w k => n w (List.mem_of_mem_filter k)]
    rfl

theorem frameDone_part (h_ : ¬ o_.id ∈ Footprint.frameDone) (m : Nat) {s : State} (n : s.unawaited o_) :
    (frameDone m s).part o_ = s.part o_ := by
  simp only [Footprint.frameDone, List.mem_append, List.mem_cons, List.not_mem_nil, or_false, not_or, and_assoc] at h_
  obtain ⟨a1, a2, a3, a4, b⟩ := h_
  have t : (atBoundary (.frameDone m) ((s.setLog Reg.moFrames ((s.log Reg.moFrames m).drop 1) m).setBit Obj.moStatus 1 false m)).part o_ = s.part o_ := by
    rw [atBoundary_part q_ b (.frameDone m) (s := (s.setLog Reg.moFrames ((s.log Reg.moFrames m).drop 1) m).setBit Obj.moStatus 1 false m) n, part_setBit a2, part_setLog a1]
  unfold frameDone
  simp only [part_ite, answerWaiting_part q_, part_set a4, part_set a3, part_setBit a2, part_setLog a1, t, ite_self]

theorem abortMo_part (h_ : ¬ o_.id ∈ Footprint.frameDone) (m : Nat) {s t_ : State} (n : s.unawaited o_) (e_ : abortMo m s = .ok t_) :
    t_.part o_ = s.part o_ := by
  unfold abortMo at e_
  split at e_
  · exact nomatch e_
  · split at e_
    · rw [← Except.ok.inj e_]
      simp only [Footprint.frameDone, List.mem_append, List.mem_cons, List.not_mem_nil, or_false, not_or, and_assoc] at h_
      exact part_set h_.2.2.2.1 _ _ _
    · rw [← Except.ok.inj e_]
      split
      · exact frameDone_part q_ h_ m n
      · rfl

theorem attemptFailed_part (h_ : ¬ o_.id ∈ Footprint.attemptFailed) (k : Nat) {s : State} (n : s.unawaited o_) :
    (attemptFailed k s).part o_ = s.part o_ := by
  simp only [Footprint.attemptFailed, List.mem_append, List.mem_cons, List.not_mem_nil, or_false, not_or, and_assoc] at h_
  unfold attemptFailed
  split
  · rfl
  · dsimp only
    rw [canIdle_part q_ h_.2.2]
    split
    · rw [frameDone_part q_ h_.2.1 _ (s := s.set Reg.canOnBus 0 k) n, part_set h_.1]
    · rw [part_set h_.1]

theorem hpCycle_part (h_ : ¬ o_.id ∈ Footprint.hpCycle) (levels : Nat) (srst : Bool) (pulses above5 above18 : Nat) {s : State} (n : s.unawaited o_) :
    (hpCycle levels srst pulses above5 above18 s).part o_ = s.part o_ := by
  simp only [Footprint.hpCycle, List.mem_append, List.mem_cons, List.not_mem_nil, or_false, not_or, and_assoc] at h_
  obtain ⟨a, b, c, d, e, f, g, h, i, j, k⟩ := h_
  unfold hpCycle
  dsimp only
  split
  · rw [hpStart_part q_ b, atBoundary_part q_ c _ n]
  · rw [judgeReadBack_part q_ k, setOutputs_part q_ i, startDueTests_part q_ j, judgeFunctions_part q_ g, judgeStartUp_part q_ h,
      sampleReset_part q_ f, forN_part (fun x u => (judgeOssd_part q_ d _ _ _).trans (sampleInput_part q_ e _ _ _)), part_set a,
      hpStart_part q_ b, atBoundary_part q_ c _ n]

theorem setParent_part (h_ : ¬ o_.id ∈ Footprint.setParent) (i : Nat) (p v : Int) {s t_ : State} (e_ : setParent i p v s = .ok t_) :
    t_.part o_ = s.part o_ := by
  simp only [Footprint.setParent, List.mem_append, List.mem_cons, List.not_mem_nil, or_false, not_or, and_assoc] at h_
  obtain ⟨a, b, c, d⟩ := h_
  have k (l : Nat → State → Int) (u : State) : (u.forN 1024 fun k u => if u.get Obj.slotLevel k = l k u then u else u.set Obj.slotLevel (l k u) k).part o_ = u.part o_ := by
    refine forN_part (fun k u => ?_) _ _
    split
    · rfl
    · exact part_set c _ _ _
  unfold setParent at e_
  dsimp only at e_
  split at e_
  · rw [← Except.ok.inj e_, k, applyField_part q_ d _ _ (fun x => a x.symm), applyField_part q_ d _ _ (fun x => b x.symm)]
  · exact nomatch e_

omit q_ in
/-- A judged request leaves no more writes waiting. -/
theorem judgeRequest_unawaited (r : Req) (fn index sub : Nat) (d : List Byte) {s : State} (n : s.unawaited o_) :
    (judgeRequest r fn index sub d s).state.unawaited o_ := by
  have a : (authenticate r fn index sub d s).state.waiting = s.waiting := by
    unfold authenticate
    dsimp only
    repeat' split
    all_goals rfl
  unfold judgeRequest
  split
  · rename_i e
    rw [e] at a
    dsimp only at a ⊢
    have c (t : State) (k : t.waiting = s.waiting) : t.unawaited o_ := fun w m => n w (k ▸ m)
    repeat' split
    · exact c _ a
    · exact fun w m => c _ a w (List.mem_of_mem_filter m)
    · exact fun w m => c _ a w (List.mem_of_mem_filter m)
  · intro w m
    exact n w (by simpa [a] using m)

/-- A host write whose action depends on what waits leaves what the action leaves. -/
theorem hostWrite_part_of {fx : Nat → State → Except Nat State} (h_ : ¬ o_.id ∈ Footprint.hostWrite) (r : Req) (q : Obj) (i j : Nat) (d : List Byte)
    {s : State} (n : s.unawaited o_) (f_ : ∀ role u t, u.unawaited o_ → fx role u = .ok t → t.part o_ = u.part o_) :
    (hostWrite r q i j d fx s).part o_ = s.part o_ := by
  have y := judgeRequest_unawaited r 2 (q.index i) (q.sub + q.subStep * j) d n
  unfold hostWrite
  split
  · exact beginPartly_part q_ _ _ _
  · have a := judgeRequest_part h_ r 2 (q.index i) (q.sub + q.subStep * j) d s
    split
    · rename_i e; rw [e] at a; exact a
    · rename_i e; rw [e] at a; rw [answer_part q_]; exact a
    · rename_i e
      rw [e] at a y
      repeat' split
      · rw [answer_part q_]; exact a
      · rw [answer_part q_]; exact a
      · rw [answer_part q_]; exact a
      · rw [answer_part q_]; exact a
      · rename_i g
        rw [accepted_part q_, markDirty_part q_, f_ _ _ _ y g]; exact a

theorem hostDefer_part_of {fx : Nat → State → Except Nat State} (h_ : ¬ o_.id ∈ Footprint.hostDefer) (r : Req) (q : Obj) (i j : Nat) (d : List Byte)
    {s : State} (n : s.unawaited o_) (f_ : ∀ role u t, u.unawaited o_ → fx role u = .ok t → t.part o_ = u.part o_) :
    (hostDefer r q i j d fx s).part o_ = s.part o_ := by
  have y := judgeRequest_unawaited r 2 (q.index i) (q.sub + q.subStep * j) d n
  unfold hostDefer
  split
  · exact beginPartly_part q_ _ _ _
  · have a := judgeRequest_part h_ r 2 (q.index i) (q.sub + q.subStep * j) d s
    split
    · rename_i e; rw [e] at a; exact a
    · rename_i e; rw [e] at a; rw [answer_part q_]; exact a
    · rename_i e
      rw [e] at a y
      repeat' split
      · rw [answer_part q_]; exact a
      · rw [answer_part q_]; exact a
      · rw [answer_part q_]; exact a
      · rw [answer_part q_]; exact a
      · rename_i g
        exact (markDirty_part q_ _ _ _).trans ((f_ _ _ _ y g).trans a)


theorem contextCommand_part (h_ : ¬ o_.id ∈ Footprint.contextCommand) {fx : State → Except Nat State} (f_ : ∀ u t, fx u = .ok t → t.part o_ = u.part o_)
    (r : Req) (c v : Nat) {s : State} (n : s.unawaited o_) : (contextCommand r c v fx s).part o_ = s.part o_ := by
  simp only [Footprint.contextCommand, List.mem_append, not_or] at h_
  exact hostWrite_part_of q_ h_.1 r _ c 0 _ n fun role u t y e => (f_ _ _ e).trans (flushContext_part q_ h_.2 c y)
end

theorem view_canon (u : State) (q : List Instr) (o : Obj) : State.view { u.canon with pending := q } o = u.view o := by
  have a : (fun i j => State.get { u.canon with pending := q } o i j) = fun i j => u.get o i j := by
    funext i j; exact (get_withPending u.canon q o i j).trans (canon_get u o i j)
  have b : (fun i j => State.bytes { u.canon with pending := q } o i j) = fun i j => u.bytes o i j := by
    funext i j; exact (bytes_withPending u.canon q o i j).trans (canon_bytes u o i j)
  have c : (fun i j => State.seq { u.canon with pending := q } o i j) = fun i j => u.seq o i j := by
    funext i j; exact (seq_withPending u.canon q o i j).trans (canon_seq u o i j)
  have d : (fun i j => State.real { u.canon with pending := q } o i j) = fun i j => u.real o i j := by
    funext i j; exact (real_withPending u.canon q o i j).trans (canon_real u o i j)
  have e : (fun i => State.log { u.canon with pending := q } o i) = fun i => u.log o i := by
    funext i; exact (log_withPending u.canon q o i).trans (canon_log u o i)
  unfold State.view
  rw [a, b, c, d, e]
theorem run_view {o : Obj} {s t : State} {f : State → State} (h : (f { s with out := [] }).view o = State.view { s with out := [] } o) (e : s.run f = .next t) :
    t.view o = s.view o := by
  rw [run_inv e, view_canon]
  exact h
theorem run_frame {o : Obj} {s t : State} {f : State → State} (h : (f { s with out := [] }).part o = State.part { s with out := [] } o) (e : s.run f = .next t) :
    t.view o = s.view o ∧ t.still = s.canon.still := by
  refine ⟨run_view (view_of_part h) e, ?_⟩
  rw [run_inv e]
  have b := congrArg Prod.snd h
  simp only [State.part, State.still, Prod.mk.injEq] at b
  obtain ⟨b1, b2, b3, b4, b5, b6, b7, b8, b9⟩ := b
  simp only [State.still, State.canon, b1, b2, b3, b4, b5, b6, b7, b8, b9]
end Sys2Proof.Machine
end

