-- ==== Sys2Proof/Laws/Commands.lean ====
section
/-!
SUPPORT. Frames of the commands: what a command leaves alone when it completes.
-/

namespace Sys2Proof.Machine

set_option Elab.async false

set_option maxRecDepth 2000
set_option linter.unusedSimpArgs false
set_option linter.unusedVariables false
set_option linter.unreachableTactic false
set_option linter.unusedTactic false
set_option linter.unnecessarySeqFocus false

theorem execEyeScanComplete_frame {o_ : Obj} (q_ : o_.quiet = true) (h_ : ¬ o_.id ∈ Footprint.execEyeScanComplete) (link : Fin 16) (lane : Fin 4) (ef : Fin 256) (s : State) {t : State} (e_ : execEyeScanComplete link lane ef s = .next t) :
    t.view o_ = s.view o_ ∧ t.still = s.canon.still := by
  simp only [Footprint.execEyeScanComplete, List.mem_append, List.mem_cons, List.not_mem_nil, or_false, false_or, not_or, and_assoc] at h_
  refine run_frame ?_ e_
  first
  | (simp only [part_ite, eyeScan_part, h_, q_, implies_true, ite_self, not_false_eq_true, if_false]; rfl)
  | ((try simp only [part_ite, eyeScan_part, h_, q_, implies_true, ite_self, not_false_eq_true, if_false]) <;> (repeat' split) <;> (first | rfl | (simp only [part_ite, eyeScan_part, h_, q_, implies_true, ite_self, not_false_eq_true, if_false]; done) | (simp only [part_ite, eyeScan_part, h_, q_, implies_true, ite_self, not_false_eq_true, if_false]; rfl)))

theorem execServiceFrame_frame {o_ : Obj} (q_ : o_.quiet = true) (h_ : ¬ o_.id ∈ Footprint.execServiceFrame) (link : Fin 16) (lane : Fin 2) (line : List Bool) (s : State) {t : State} (e_ : execServiceFrame link lane line s = .next t) :
    t.view o_ = s.view o_ ∧ t.still = s.canon.still := by
  simp only [Footprint.execServiceFrame, List.mem_append, List.mem_cons, List.not_mem_nil, or_false, false_or, not_or, and_assoc] at h_
  refine run_frame ?_ e_
  have a := receive_part q_ (by simp only [h_, not_false_eq_true]) link lane line { s with out := [] }
  (try dsimp only)
  revert a
  generalize receive link lane line _ = p
  obtain ⟨x, u⟩ := p
  intro a
  (try dsimp only at a)
  cases x <;> (try dsimp only) <;> (repeat' split) <;> first | exact a | (rw [takeService_part q_ (by simp only [h_, not_false_eq_true])]; exact a)

theorem execServiceResendTimeout_frame {o_ : Obj} (q_ : o_.quiet = true) (h_ : ¬ o_.id ∈ Footprint.execServiceResendTimeout) (link : Fin 16) (lane : Fin 2) (s : State) {t : State} (e_ : execServiceResendTimeout link lane s = .next t) :
    t.view o_ = s.view o_ ∧ t.still = s.canon.still := by
  simp only [Footprint.execServiceResendTimeout, List.mem_append, List.mem_cons, List.not_mem_nil, or_false, false_or, not_or, and_assoc] at h_
  refine run_frame ?_ e_
  first
  | (simp only [part_ite, part_set, part_inc, foldl_part, failService_part, launchService_part, h_, q_, implies_true, ite_self, not_false_eq_true, if_false]; rfl)
  | ((try simp only [part_ite, part_set, part_inc, foldl_part, failService_part, launchService_part, h_, q_, implies_true, ite_self, not_false_eq_true, if_false]) <;> (repeat' split) <;> (first | rfl | (simp only [part_ite, part_set, part_inc, foldl_part, failService_part, launchService_part, h_, q_, implies_true, ite_self, not_false_eq_true, if_false]; done) | (simp only [part_ite, part_set, part_inc, foldl_part, failService_part, launchService_part, h_, q_, implies_true, ite_self, not_false_eq_true, if_false]; rfl)))

theorem execTelemetryFrame_frame {o_ : Obj} (q_ : o_.quiet = true) (h_ : ¬ o_.id ∈ Footprint.execTelemetryFrame) (link : Fin 16) (lane : Fin 2) (line : List Bool) (s : State) {t : State} (e_ : execTelemetryFrame link lane line s = .next t) :
    t.view o_ = s.view o_ ∧ t.still = s.canon.still := by
  simp only [Footprint.execTelemetryFrame, List.mem_append, List.mem_cons, List.not_mem_nil, or_false, false_or, not_or, and_assoc] at h_
  refine run_frame ?_ e_
  have a := receive_part q_ (by simp only [h_, not_false_eq_true]) link lane line { s with out := [] }
  (try dsimp only)
  revert a
  generalize receive link lane line _ = p
  obtain ⟨x, u⟩ := p
  intro a
  (try dsimp only at a)
  cases x <;> (try dsimp only) <;> (repeat' split) <;> first | exact a | (rw [takeTelemetry_part q_ (by simp only [h_, not_false_eq_true])]; exact a) | (rw [crcFailed_part q_ (by simp only [h_, not_false_eq_true])]; exact a)

theorem execLinkBringUp_frame {o_ : Obj} (q_ : o_.quiet = true) (h_ : ¬ o_.id ∈ Footprint.execLinkBringUp) (link : Fin 16) (s : State) {t : State} (e_ : execLinkBringUp link s = .next t) :
    t.view o_ = s.view o_ ∧ t.still = s.canon.still := by
  simp only [Footprint.execLinkBringUp, List.mem_append, List.mem_cons, List.not_mem_nil, or_false, false_or, not_or, and_assoc] at h_
  refine run_frame ?_ e_
  first
  | (simp only [part_ite, bringUp_part, h_, q_, implies_true, ite_self, not_false_eq_true, if_false]; rfl)
  | ((try simp only [part_ite, bringUp_part, h_, q_, implies_true, ite_self, not_false_eq_true, if_false]) <;> (repeat' split) <;> (first | rfl | (simp only [part_ite, bringUp_part, h_, q_, implies_true, ite_self, not_false_eq_true, if_false]; done) | (simp only [part_ite, bringUp_part, h_, q_, implies_true, ite_self, not_false_eq_true, if_false]; rfl)))

theorem execRestartBringUp_frame {o_ : Obj} (q_ : o_.quiet = true) (h_ : ¬ o_.id ∈ Footprint.execRestartBringUp) (r : Req) (link : Fin 16) (data : List Byte) (s : State) {t : State} (e_ : execRestartBringUp r link data s = .next t) :
    t.view o_ = s.view o_ ∧ t.still = s.canon.still := by
  simp only [Footprint.execRestartBringUp, List.mem_append, List.mem_cons, List.not_mem_nil, or_false, false_or, not_or, and_assoc] at h_
  refine run_frame (hostWrite_part q_ (by simp only [h_, not_false_eq_true]) _ _ _ _ _ (fun _ u t e => ?_) _) e_
  (try dsimp only at e)
  repeat' split at e
  all_goals first
      | exact absurd e (by simp only [reduceCtorEq, not_false_eq_true])
      | (rw [← Except.ok.inj e]; done)
      | (rw [← Except.ok.inj e]; simp only [part_ite, bringUp_part, withdrawCabinet_part, h_, q_, implies_true, ite_self, not_false_eq_true, if_false]; done)
      | (rw [← Except.ok.inj e]; (try simp only [part_ite, bringUp_part, withdrawCabinet_part, h_, q_, implies_true, ite_self, not_false_eq_true, if_false]) <;> (repeat' split) <;> (first | (simp only [part_ite, bringUp_part, withdrawCabinet_part, h_, q_, implies_true, ite_self, not_false_eq_true, if_false]; done) | rfl))

theorem execCkuDetected_frame {o_ : Obj} (q_ : o_.quiet = true) (h_ : ¬ o_.id ∈ Footprint.execCkuDetected) (link : Fin 16) (s : State) {t : State} (e_ : execCkuDetected link s = .next t) :
    t.view o_ = s.view o_ ∧ t.still = s.canon.still := by
  simp only [Footprint.execCkuDetected, List.mem_append, List.mem_cons, List.not_mem_nil, or_false, false_or, not_or, and_assoc] at h_
  refine run_frame ?_ e_
  first
  | (simp only [part_ite, part_set, setLink_part, h_, q_, implies_true, ite_self, not_false_eq_true, if_false]; rfl)
  | ((try simp only [part_ite, part_set, setLink_part, h_, q_, implies_true, ite_self, not_false_eq_true, if_false]) <;> (repeat' split) <;> (first | rfl | (simp only [part_ite, part_set, setLink_part, h_, q_, implies_true, ite_self, not_false_eq_true, if_false]; done) | (simp only [part_ite, part_set, setLink_part, h_, q_, implies_true, ite_self, not_false_eq_true, if_false]; rfl)))

theorem execAlignComplete_frame {o_ : Obj} (q_ : o_.quiet = true) (h_ : ¬ o_.id ∈ Footprint.execAlignComplete) (link : Fin 16) (s : State) {t : State} (e_ : execAlignComplete link s = .next t) :
    t.view o_ = s.view o_ ∧ t.still = s.canon.still := by
  simp only [Footprint.execAlignComplete, List.mem_append, List.mem_cons, List.not_mem_nil, or_false, false_or, not_or, and_assoc] at h_
  refine run_frame ?_ e_
  first
  | (simp only [part_ite, part_set, setLink_part, h_, q_, implies_true, ite_self, not_false_eq_true, if_false]; rfl)
  | ((try simp only [part_ite, part_set, setLink_part, h_, q_, implies_true, ite_self, not_false_eq_true, if_false]) <;> (repeat' split) <;> (first | rfl | (simp only [part_ite, part_set, setLink_part, h_, q_, implies_true, ite_self, not_false_eq_true, if_false]; done) | (simp only [part_ite, part_set, setLink_part, h_, q_, implies_true, ite_self, not_false_eq_true, if_false]; rfl)))

theorem execTrainingFrame_frame {o_ : Obj} (q_ : o_.quiet = true) (h_ : ¬ o_.id ∈ Footprint.execTrainingFrame) (link : Fin 16) (lane : Fin 2) (arrival : Nat) (line : List Bool) (s : State) {t : State} (e_ : execTrainingFrame link lane arrival line s = .next t) :
    t.view o_ = s.view o_ ∧ t.still = s.canon.still := by
  simp only [Footprint.execTrainingFrame, List.mem_append, List.mem_cons, List.not_mem_nil, or_false, false_or, not_or, and_assoc] at h_
  refine run_frame ?_ e_
  have a := receive_part q_ (by simp only [h_, not_false_eq_true]) link lane line { s with out := [] }
  (try dsimp only)
  revert a
  generalize receive link lane line _ = p
  obtain ⟨x, u⟩ := p
  intro a
  (try dsimp only at a)
  cases x <;> (try dsimp only) <;> (repeat' split) <;> first | exact a | (rw [takeTraining_part q_ (by simp only [h_, not_false_eq_true])]; exact a)

theorem execIdentityRead_frame {o_ : Obj} (q_ : o_.quiet = true) (h_ : ¬ o_.id ∈ Footprint.execIdentityRead) (link : Fin 16) (s : State) {t : State} (e_ : execIdentityRead link s = .next t) :
    t.view o_ = s.view o_ ∧ t.still = s.canon.still := by
  simp only [Footprint.execIdentityRead, List.mem_append, List.mem_cons, List.not_mem_nil, or_false, false_or, not_or, and_assoc] at h_
  refine run_frame ?_ e_
  first
  | (simp only [part_ite, part_set, logEvent_part, storeIdentity_part, setLink_part, refuseLink_part, sendInPieces_part, h_, q_, implies_true, ite_self, not_false_eq_true, if_false]; rfl)
  | ((try simp only [part_ite, part_set, logEvent_part, storeIdentity_part, setLink_part, refuseLink_part, sendInPieces_part, h_, q_, implies_true, ite_self, not_false_eq_true, if_false]) <;> (repeat' split) <;> (first | rfl | (simp only [part_ite, part_set, logEvent_part, storeIdentity_part, setLink_part, refuseLink_part, sendInPieces_part, h_, q_, implies_true, ite_self, not_false_eq_true, if_false]; done) | (simp only [part_ite, part_set, logEvent_part, storeIdentity_part, setLink_part, refuseLink_part, sendInPieces_part, h_, q_, implies_true, ite_self, not_false_eq_true, if_false]; rfl)))

theorem execConfigurationCrcReturned_frame {o_ : Obj} (q_ : o_.quiet = true) (h_ : ¬ o_.id ∈ Footprint.execConfigurationCrcReturned) (link : Fin 16) (s : State) {t : State} (e_ : execConfigurationCrcReturned link s = .next t) :
    t.view o_ = s.view o_ ∧ t.still = s.canon.still := by
  simp only [Footprint.execConfigurationCrcReturned, List.mem_append, List.mem_cons, List.not_mem_nil, or_false, false_or, not_or, and_assoc] at h_
  refine run_frame ?_ e_
  first
  | (simp only [part_ite, part_set, refuseLink_part, h_, q_, implies_true, ite_self, not_false_eq_true, if_false]; rfl)
  | ((try simp only [part_ite, part_set, refuseLink_part, h_, q_, implies_true, ite_self, not_false_eq_true, if_false]) <;> (repeat' split) <;> (first | rfl | (simp only [part_ite, part_set, refuseLink_part, h_, q_, implies_true, ite_self, not_false_eq_true, if_false]; done) | (simp only [part_ite, part_set, refuseLink_part, h_, q_, implies_true, ite_self, not_false_eq_true, if_false]; rfl)))

theorem execBringUpTimeout_frame {o_ : Obj} (q_ : o_.quiet = true) (h_ : ¬ o_.id ∈ Footprint.execBringUpTimeout) (link : Fin 16) (s : State) {t : State} (e_ : execBringUpTimeout link s = .next t) :
    t.view o_ = s.view o_ ∧ t.still = s.canon.still := by
  simp only [Footprint.execBringUpTimeout, List.mem_append, List.mem_cons, List.not_mem_nil, or_false, false_or, not_or, and_assoc] at h_
  refine run_frame ?_ e_
  first
  | (simp only [part_ite, refuseLink_part, setLink_part, h_, q_, implies_true, ite_self, not_false_eq_true, if_false]; rfl)
  | ((try simp only [part_ite, refuseLink_part, setLink_part, h_, q_, implies_true, ite_self, not_false_eq_true, if_false]) <;> (repeat' split) <;> (first | rfl | (simp only [part_ite, refuseLink_part, setLink_part, h_, q_, implies_true, ite_self, not_false_eq_true, if_false]; done) | (simp only [part_ite, refuseLink_part, setLink_part, h_, q_, implies_true, ite_self, not_false_eq_true, if_false]; rfl)))

theorem execStaleLimitReached_frame {o_ : Obj} (q_ : o_.quiet = true) (h_ : ¬ o_.id ∈ Footprint.execStaleLimitReached) (link : Fin 16) (s : State) {t : State} (e_ : execStaleLimitReached link s = .next t) :
    t.view o_ = s.view o_ ∧ t.still = s.canon.still := by
  simp only [Footprint.execStaleLimitReached, List.mem_append, List.mem_cons, List.not_mem_nil, or_false, false_or, not_or, and_assoc] at h_
  refine run_frame ?_ e_
  first
  | (simp only [part_ite, logLimited_part, loseLink_part, h_, q_, implies_true, ite_self, not_false_eq_true, if_false]; rfl)
  | ((try simp only [part_ite, logLimited_part, loseLink_part, h_, q_, implies_true, ite_self, not_false_eq_true, if_false]) <;> (repeat' split) <;> (first | rfl | (simp only [part_ite, logLimited_part, loseLink_part, h_, q_, implies_true, ite_self, not_false_eq_true, if_false]; done) | (simp only [part_ite, logLimited_part, loseLink_part, h_, q_, implies_true, ite_self, not_false_eq_true, if_false]; rfl)))

theorem execDispatchDeadline_frame {o_ : Obj} (q_ : o_.quiet = true) (h_ : ¬ o_.id ∈ Footprint.execDispatchDeadline) (link : Fin 16) (s : State) {t : State} (e_ : execDispatchDeadline link s = .next t) :
    t.view o_ = s.view o_ ∧ t.still = s.canon.still := by
  simp only [Footprint.execDispatchDeadline, List.mem_append, List.mem_cons, List.not_mem_nil, or_false, false_or, not_or, and_assoc] at h_
  refine run_frame ?_ e_
  first
  | (simp only [part_ite, part_set, part_inc, logLimited_part, h_, q_, implies_true, ite_self, not_false_eq_true, if_false]; rfl)
  | ((try simp only [part_ite, part_set, part_inc, logLimited_part, h_, q_, implies_true, ite_self, not_false_eq_true, if_false]) <;> (repeat' split) <;> (first | rfl | (simp only [part_ite, part_set, part_inc, logLimited_part, h_, q_, implies_true, ite_self, not_false_eq_true, if_false]; done) | (simp only [part_ite, part_set, part_inc, logLimited_part, h_, q_, implies_true, ite_self, not_false_eq_true, if_false]; rfl)))

theorem execLinkLostKeepAliveEnd_frame {o_ : Obj} (q_ : o_.quiet = true) (h_ : ¬ o_.id ∈ Footprint.execLinkLostKeepAliveEnd) (link : Fin 16) (s : State) {t : State} (e_ : execLinkLostKeepAliveEnd link s = .next t) :
    t.view o_ = s.view o_ ∧ t.still = s.canon.still := by
  simp only [Footprint.execLinkLostKeepAliveEnd, List.mem_append, List.mem_cons, List.not_mem_nil, or_false, false_or, not_or, and_assoc] at h_
  refine run_frame ?_ e_
  first
  | (simp only [part_ite, part_set, forL_part, freeBlock_part, openReaches_part, h_, q_, implies_true, ite_self, not_false_eq_true, if_false]; rfl)
  | ((try simp only [part_ite, part_set, forL_part, freeBlock_part, openReaches_part, h_, q_, implies_true, ite_self, not_false_eq_true, if_false]) <;> (repeat' split) <;> (first | rfl | (simp only [part_ite, part_set, forL_part, freeBlock_part, openReaches_part, h_, q_, implies_true, ite_self, not_false_eq_true, if_false]; done) | (simp only [part_ite, part_set, forL_part, freeBlock_part, openReaches_part, h_, q_, implies_true, ite_self, not_false_eq_true, if_false]; rfl)))

theorem execLinkLostRetry_frame {o_ : Obj} (q_ : o_.quiet = true) (h_ : ¬ o_.id ∈ Footprint.execLinkLostRetry) (link : Fin 16) (s : State) {t : State} (e_ : execLinkLostRetry link s = .next t) :
    t.view o_ = s.view o_ ∧ t.still = s.canon.still := by
  simp only [Footprint.execLinkLostRetry, List.mem_append, List.mem_cons, List.not_mem_nil, or_false, false_or, not_or, and_assoc] at h_
  refine run_frame ?_ e_
  first
  | (simp only [part_ite, part_set, bringUp_part, setLink_part, h_, q_, implies_true, ite_self, not_false_eq_true, if_false]; rfl)
  | ((try simp only [part_ite, part_set, bringUp_part, setLink_part, h_, q_, implies_true, ite_self, not_false_eq_true, if_false]) <;> (repeat' split) <;> (first | rfl | (simp only [part_ite, part_set, bringUp_part, setLink_part, h_, q_, implies_true, ite_self, not_false_eq_true, if_false]; done) | (simp only [part_ite, part_set, bringUp_part, setLink_part, h_, q_, implies_true, ite_self, not_false_eq_true, if_false]; rfl)))

theorem execFirmwareDataWrite_frame {o_ : Obj} (q_ : o_.quiet = true) (h_ : ¬ o_.id ∈ Footprint.execFirmwareDataWrite) (r : Req) (link : Fin 16) (data : List Byte) (s : State) {t : State} (e_ : execFirmwareDataWrite r link data s = .next t) :
    t.view o_ = s.view o_ ∧ t.still = s.canon.still := by
  simp only [Footprint.execFirmwareDataWrite, List.mem_append, List.mem_cons, List.not_mem_nil, or_false, false_or, not_or, and_assoc] at h_
  refine run_frame (hostWrite_part q_ (by simp only [h_, not_false_eq_true]) _ _ _ _ _ (fun _ u t e => ?_) _) e_
  (try dsimp only at e)
  repeat' split at e
  all_goals first
      | exact absurd e (by simp only [reduceCtorEq, not_false_eq_true])
      | (rw [← Except.ok.inj e]; done)
      | (rw [← Except.ok.inj e]; simp only [part_ite, part_set, sendInPieces_part, h_, q_, implies_true, ite_self, not_false_eq_true, if_false]; done)
      | (rw [← Except.ok.inj e]; (try simp only [part_ite, part_set, sendInPieces_part, h_, q_, implies_true, ite_self, not_false_eq_true, if_false]) <;> (repeat' split) <;> (first | (simp only [part_ite, part_set, sendInPieces_part, h_, q_, implies_true, ite_self, not_false_eq_true, if_false]; done) | rfl))

theorem execActivateTerminalFirmware_frame {o_ : Obj} (q_ : o_.quiet = true) (h_ : ¬ o_.id ∈ Footprint.execActivateTerminalFirmware) (r : Req) (link : Fin 16) (data : List Byte) (s : State) {t : State} (e_ : execActivateTerminalFirmware r link data s = .next t) :
    t.view o_ = s.view o_ ∧ t.still = s.canon.still := by
  simp only [Footprint.execActivateTerminalFirmware, List.mem_append, List.mem_cons, List.not_mem_nil, or_false, false_or, not_or, and_assoc] at h_
  refine run_frame (hostWrite_part q_ (by simp only [h_, not_false_eq_true]) _ _ _ _ _ (fun _ u t e => ?_) _) e_
  (try dsimp only at e)
  repeat' split at e
  all_goals first
      | exact absurd e (by simp only [reduceCtorEq, not_false_eq_true])
      | (rw [← Except.ok.inj e]; done)
      | (rw [← Except.ok.inj e]; simp only [part_ite, part_set, sendService_part, h_, q_, implies_true, ite_self, not_false_eq_true, if_false]; done)
      | (rw [← Except.ok.inj e]; (try simp only [part_ite, part_set, sendService_part, h_, q_, implies_true, ite_self, not_false_eq_true, if_false]) <;> (repeat' split) <;> (first | (simp only [part_ite, part_set, sendService_part, h_, q_, implies_true, ite_self, not_false_eq_true, if_false]; done) | rfl))

theorem execBlockStartRequest_frame {o_ : Obj} (q_ : o_.quiet = true) (h_ : ¬ o_.id ∈ Footprint.execBlockStartRequest) (block : Fin 64) (s : State) {t : State} (e_ : execBlockStartRequest block s = .next t) :
    t.view o_ = s.view o_ ∧ t.still = s.canon.still := by
  simp only [Footprint.execBlockStartRequest, List.mem_append, List.mem_cons, List.not_mem_nil, or_false, false_or, not_or, and_assoc] at h_
  refine run_frame ?_ e_
  first
  | (simp only [part_ite, startBlock_part, h_, q_, implies_true, ite_self, not_false_eq_true, if_false]; rfl)
  | ((try simp only [part_ite, startBlock_part, h_, q_, implies_true, ite_self, not_false_eq_true, if_false]) <;> (repeat' split) <;> (first | rfl | (simp only [part_ite, startBlock_part, h_, q_, implies_true, ite_self, not_false_eq_true, if_false]; done) | (simp only [part_ite, startBlock_part, h_, q_, implies_true, ite_self, not_false_eq_true, if_false]; rfl)))

theorem execBlockStopRequest_frame {o_ : Obj} (q_ : o_.quiet = true) (h_ : ¬ o_.id ∈ Footprint.execBlockStopRequest) (block : Fin 64) (s : State) {t : State} (e_ : execBlockStopRequest block s = .next t) :
    t.view o_ = s.view o_ ∧ t.still = s.canon.still := by
  simp only [Footprint.execBlockStopRequest, List.mem_append, List.mem_cons, List.not_mem_nil, or_false, false_or, not_or, and_assoc] at h_
  refine run_frame ?_ e_
  first
  | (simp only [part_ite, stopBlock_part, h_, q_, implies_true, ite_self, not_false_eq_true, if_false]; rfl)
  | ((try simp only [part_ite, stopBlock_part, h_, q_, implies_true, ite_self, not_false_eq_true, if_false]) <;> (repeat' split) <;> (first | rfl | (simp only [part_ite, stopBlock_part, h_, q_, implies_true, ite_self, not_false_eq_true, if_false]; done) | (simp only [part_ite, stopBlock_part, h_, q_, implies_true, ite_self, not_false_eq_true, if_false]; rfl)))

theorem execOutputDischargeWaitEnd_frame {o_ : Obj} (q_ : o_.quiet = true) (h_ : ¬ o_.id ∈ Footprint.execOutputDischargeWaitEnd) (block : Fin 64) (s : State) {t : State} (e_ : execOutputDischargeWaitEnd block s = .next t) :
    t.view o_ = s.view o_ ∧ t.still = s.canon.still := by
  simp only [Footprint.execOutputDischargeWaitEnd, List.mem_append, List.mem_cons, List.not_mem_nil, or_false, false_or, not_or, and_assoc] at h_
  refine run_frame ?_ e_
  first
  | (simp only [part_ite, beginTest_part, h_, q_, implies_true, ite_self, not_false_eq_true, if_false]; rfl)
  | ((try simp only [part_ite, beginTest_part, h_, q_, implies_true, ite_self, not_false_eq_true, if_false]) <;> (repeat' split) <;> (first | rfl | (simp only [part_ite, beginTest_part, h_, q_, implies_true, ite_self, not_false_eq_true, if_false]; done) | (simp only [part_ite, beginTest_part, h_, q_, implies_true, ite_self, not_false_eq_true, if_false]; rfl)))

theorem execOutputDischargeTimeout_frame {o_ : Obj} (q_ : o_.quiet = true) (h_ : ¬ o_.id ∈ Footprint.execOutputDischargeTimeout) (block : Fin 64) (s : State) {t : State} (e_ : execOutputDischargeTimeout block s = .next t) :
    t.view o_ = s.view o_ ∧ t.still = s.canon.still := by
  simp only [Footprint.execOutputDischargeTimeout, List.mem_append, List.mem_cons, List.not_mem_nil, or_false, false_or, not_or, and_assoc] at h_
  refine run_frame ?_ e_
  first
  | (simp only [part_ite, refuseStart_part, h_, q_, implies_true, ite_self, not_false_eq_true, if_false]; rfl)
  | ((try simp only [part_ite, refuseStart_part, h_, q_, implies_true, ite_self, not_false_eq_true, if_false]) <;> (repeat' split) <;> (first | rfl | (simp only [part_ite, refuseStart_part, h_, q_, implies_true, ite_self, not_false_eq_true, if_false]; done) | (simp only [part_ite, refuseStart_part, h_, q_, implies_true, ite_self, not_false_eq_true, if_false]; rfl)))

theorem execShortedHighSideEvaluation_frame {o_ : Obj} (q_ : o_.quiet = true) (h_ : ¬ o_.id ∈ Footprint.execShortedHighSideEvaluation) (block : Fin 64) (s : State) {t : State} (e_ : execShortedHighSideEvaluation block s = .next t) :
    t.view o_ = s.view o_ ∧ t.still = s.canon.still := by
  simp only [Footprint.execShortedHighSideEvaluation, List.mem_append, List.mem_cons, List.not_mem_nil, or_false, false_or, not_or, and_assoc] at h_
  refine run_frame ?_ e_
  first
  | (simp only [part_ite, judgeShorts_part, setBlock_part, refuseStart_part, h_, q_, implies_true, ite_self, not_false_eq_true, if_false]; rfl)
  | ((try simp only [part_ite, judgeShorts_part, setBlock_part, refuseStart_part, h_, q_, implies_true, ite_self, not_false_eq_true, if_false]) <;> (repeat' split) <;> (first | rfl | (simp only [part_ite, judgeShorts_part, setBlock_part, refuseStart_part, h_, q_, implies_true, ite_self, not_false_eq_true, if_false]; done) | (simp only [part_ite, judgeShorts_part, setBlock_part, refuseStart_part, h_, q_, implies_true, ite_self, not_false_eq_true, if_false]; rfl)))

theorem execStartDelayEnd_frame {o_ : Obj} (q_ : o_.quiet = true) (h_ : ¬ o_.id ∈ Footprint.execStartDelayEnd) (block : Fin 64) (s : State) {t : State} (e_ : execStartDelayEnd block s = .next t) :
    t.view o_ = s.view o_ ∧ t.still = s.canon.still := by
  simp only [Footprint.execStartDelayEnd, List.mem_append, List.mem_cons, List.not_mem_nil, or_false, false_or, not_or, and_assoc] at h_
  refine run_frame ?_ e_
  first
  | (simp only [part_ite, part_set, h_, q_, implies_true, ite_self, not_false_eq_true, if_false]; rfl)
  | ((try simp only [part_ite, part_set, h_, q_, implies_true, ite_self, not_false_eq_true, if_false]) <;> (repeat' split) <;> (first | rfl | (simp only [part_ite, part_set, h_, q_, implies_true, ite_self, not_false_eq_true, if_false]; done) | (simp only [part_ite, part_set, h_, q_, implies_true, ite_self, not_false_eq_true, if_false]; rfl)))

theorem execGateDriveReady_frame {o_ : Obj} (q_ : o_.quiet = true) (h_ : ¬ o_.id ∈ Footprint.execGateDriveReady) (block : Fin 64) (s : State) {t : State} (e_ : execGateDriveReady block s = .next t) :
    t.view o_ = s.view o_ ∧ t.still = s.canon.still := by
  simp only [Footprint.execGateDriveReady, List.mem_append, List.mem_cons, List.not_mem_nil, or_false, false_or, not_or, and_assoc] at h_
  refine run_frame ?_ e_
  first
  | (simp only [part_ite, rampOn_part, h_, q_, implies_true, ite_self, not_false_eq_true, if_false]; rfl)
  | ((try simp only [part_ite, rampOn_part, h_, q_, implies_true, ite_self, not_false_eq_true, if_false]) <;> (repeat' split) <;> (first | rfl | (simp only [part_ite, rampOn_part, h_, q_, implies_true, ite_self, not_false_eq_true, if_false]; done) | (simp only [part_ite, rampOn_part, h_, q_, implies_true, ite_self, not_false_eq_true, if_false]; rfl)))

theorem execGateDriveTimeout_frame {o_ : Obj} (q_ : o_.quiet = true) (h_ : ¬ o_.id ∈ Footprint.execGateDriveTimeout) (block : Fin 64) (s : State) {t : State} (e_ : execGateDriveTimeout block s = .next t) :
    t.view o_ = s.view o_ ∧ t.still = s.canon.still := by
  simp only [Footprint.execGateDriveTimeout, List.mem_append, List.mem_cons, List.not_mem_nil, or_false, false_or, not_or, and_assoc] at h_
  refine run_frame ?_ e_
  first
  | (simp only [part_ite, holdBlockSlots_part, refuseStart_part, setBlock_part, h_, q_, implies_true, ite_self, not_false_eq_true, if_false]; rfl)
  | ((try simp only [part_ite, holdBlockSlots_part, refuseStart_part, setBlock_part, h_, q_, implies_true, ite_self, not_false_eq_true, if_false]) <;> (repeat' split) <;> (first | rfl | (simp only [part_ite, holdBlockSlots_part, refuseStart_part, setBlock_part, h_, q_, implies_true, ite_self, not_false_eq_true, if_false]; done) | (simp only [part_ite, holdBlockSlots_part, refuseStart_part, setBlock_part, h_, q_, implies_true, ite_self, not_false_eq_true, if_false]; rfl)))

theorem execRampOnComplete_frame {o_ : Obj} (q_ : o_.quiet = true) (h_ : ¬ o_.id ∈ Footprint.execRampOnComplete) (block : Fin 64) (s : State) {t : State} (e_ : execRampOnComplete block s = .next t) :
    t.view o_ = s.view o_ ∧ t.still = s.canon.still := by
  simp only [Footprint.execRampOnComplete, List.mem_append, List.mem_cons, List.not_mem_nil, or_false, false_or, not_or, and_assoc] at h_
  refine run_frame ?_ e_
  first
  | (simp only [part_ite, part_setReal, joinRuns_part, setBlock_part, h_, q_, implies_true, ite_self, not_false_eq_true, if_false]; rfl)
  | ((try simp only [part_ite, part_setReal, joinRuns_part, setBlock_part, h_, q_, implies_true, ite_self, not_false_eq_true, if_false]) <;> (repeat' split) <;> (first | rfl | (simp only [part_ite, part_setReal, joinRuns_part, setBlock_part, h_, q_, implies_true, ite_self, not_false_eq_true, if_false]; done) | (simp only [part_ite, part_setReal, joinRuns_part, setBlock_part, h_, q_, implies_true, ite_self, not_false_eq_true, if_false]; rfl)))

theorem execRampOffComplete_frame {o_ : Obj} (q_ : o_.quiet = true) (h_ : ¬ o_.id ∈ Footprint.execRampOffComplete) (block : Fin 64) (s : State) {t : State} (e_ : execRampOffComplete block s = .next t) :
    t.view o_ = s.view o_ ∧ t.still = s.canon.still := by
  simp only [Footprint.execRampOffComplete, List.mem_append, List.mem_cons, List.not_mem_nil, or_false, false_or, not_or, and_assoc] at h_
  refine run_frame ?_ e_
  first
  | (simp only [part_ite, part_setReal, setBlock_part, movePhases_part, h_, q_, implies_true, ite_self, not_false_eq_true, if_false]; rfl)
  | ((try simp only [part_ite, part_setReal, setBlock_part, movePhases_part, h_, q_, implies_true, ite_self, not_false_eq_true, if_false]) <;> (repeat' split) <;> (first | rfl | (simp only [part_ite, part_setReal, setBlock_part, movePhases_part, h_, q_, implies_true, ite_self, not_false_eq_true, if_false]; done) | (simp only [part_ite, part_setReal, setBlock_part, movePhases_part, h_, q_, implies_true, ite_self, not_false_eq_true, if_false]; rfl)))

theorem execStopDelayEnd_frame {o_ : Obj} (q_ : o_.quiet = true) (h_ : ¬ o_.id ∈ Footprint.execStopDelayEnd) (block : Fin 64) (s : State) {t : State} (e_ : execStopDelayEnd block s = .next t) :
    t.view o_ = s.view o_ ∧ t.still = s.canon.still := by
  simp only [Footprint.execStopDelayEnd, List.mem_append, List.mem_cons, List.not_mem_nil, or_false, false_or, not_or, and_assoc] at h_
  refine run_frame ?_ e_
  first
  | (simp only [part_ite, part_set, holdBlockSlots_part, setBlock_part, startBlock_part, h_, q_, implies_true, ite_self, not_false_eq_true, if_false]; rfl)
  | ((try simp only [part_ite, part_set, holdBlockSlots_part, setBlock_part, startBlock_part, h_, q_, implies_true, ite_self, not_false_eq_true, if_false]) <;> (repeat' split) <;> (first | rfl | (simp only [part_ite, part_set, holdBlockSlots_part, setBlock_part, startBlock_part, h_, q_, implies_true, ite_self, not_false_eq_true, if_false]; done) | (simp only [part_ite, part_set, holdBlockSlots_part, setBlock_part, startBlock_part, h_, q_, implies_true, ite_self, not_false_eq_true, if_false]; rfl)))

theorem execClearOverVoltageLatch_frame {o_ : Obj} (q_ : o_.quiet = true) (h_ : ¬ o_.id ∈ Footprint.execClearOverVoltageLatch) (r : Req) (block : Fin 64) (data : List Byte) (s : State) {t : State} (e_ : execClearOverVoltageLatch r block data s = .next t) :
    t.view o_ = s.view o_ ∧ t.still = s.canon.still := by
  simp only [Footprint.execClearOverVoltageLatch, List.mem_append, List.mem_cons, List.not_mem_nil, or_false, false_or, not_or, and_assoc] at h_
  refine run_frame (hostWrite_part q_ (by simp only [h_, not_false_eq_true]) _ _ _ _ _ (fun _ u t e => ?_) _) e_
  (try dsimp only at e)
  repeat' split at e
  all_goals first
      | exact absurd e (by simp only [reduceCtorEq, not_false_eq_true])
      | (rw [← Except.ok.inj e]; done)
      | (rw [← Except.ok.inj e]; simp only [part_ite, clearLatch_part, h_, q_, implies_true, ite_self, not_false_eq_true, if_false]; done)
      | (rw [← Except.ok.inj e]; (try simp only [part_ite, clearLatch_part, h_, q_, implies_true, ite_self, not_false_eq_true, if_false]) <;> (repeat' split) <;> (first | (simp only [part_ite, clearLatch_part, h_, q_, implies_true, ite_self, not_false_eq_true, if_false]; done) | rfl))

theorem execRetryDelayEnd_frame {o_ : Obj} (q_ : o_.quiet = true) (h_ : ¬ o_.id ∈ Footprint.execRetryDelayEnd) (phase : Fin 256) (s : State) {t : State} (e_ : execRetryDelayEnd phase s = .next t) :
    t.view o_ = s.view o_ ∧ t.still = s.canon.still := by
  simp only [Footprint.execRetryDelayEnd, List.mem_append, List.mem_cons, List.not_mem_nil, or_false, false_or, not_or, and_assoc] at h_
  refine run_frame ?_ e_
  first
  | (simp only [part_ite, setPhase_part, presetSlot_part, h_, q_, implies_true, ite_self, not_false_eq_true, if_false]; rfl)
  | ((try simp only [part_ite, setPhase_part, presetSlot_part, h_, q_, implies_true, ite_self, not_false_eq_true, if_false]) <;> (repeat' split) <;> (first | rfl | (simp only [part_ite, setPhase_part, presetSlot_part, h_, q_, implies_true, ite_self, not_false_eq_true, if_false]; done) | (simp only [part_ite, setPhase_part, presetSlot_part, h_, q_, implies_true, ite_self, not_false_eq_true, if_false]; rfl)))

theorem execClearLockout_frame {o_ : Obj} (q_ : o_.quiet = true) (h_ : ¬ o_.id ∈ Footprint.execClearLockout) (r : Req) (phase : Fin 256) (data : List Byte) (s : State) {t : State} (e_ : execClearLockout r phase data s = .next t) :
    t.view o_ = s.view o_ ∧ t.still = s.canon.still := by
  simp only [Footprint.execClearLockout, List.mem_append, List.mem_cons, List.not_mem_nil, or_false, false_or, not_or, and_assoc] at h_
  refine run_frame (hostWrite_part q_ (by simp only [h_, not_false_eq_true]) _ _ _ _ _ (fun _ u t e => ?_) _) e_
  (try dsimp only at e)
  repeat' split at e
  all_goals first
      | exact absurd e (by simp only [reduceCtorEq, not_false_eq_true])
      | (rw [← Except.ok.inj e]; done)
      | (rw [← Except.ok.inj e]; simp only [part_ite, part_set, logEvent_part, submitObject_part, recoverBlock_part, setPhase_part, h_, q_, implies_true, ite_self, not_false_eq_true, if_false]; done)
      | (rw [← Except.ok.inj e]; (try simp only [part_ite, part_set, logEvent_part, submitObject_part, recoverBlock_part, setPhase_part, h_, q_, implies_true, ite_self, not_false_eq_true, if_false]) <;> (repeat' split) <;> (first | (simp only [part_ite, part_set, logEvent_part, submitObject_part, recoverBlock_part, setPhase_part, h_, q_, implies_true, ite_self, not_false_eq_true, if_false]; done) | rfl))

theorem execPhaseShed_frame {o_ : Obj} (q_ : o_.quiet = true) (h_ : ¬ o_.id ∈ Footprint.execPhaseShed) (block : Fin 64) (s : State) {t : State} (e_ : execPhaseShed block s = .next t) :
    t.view o_ = s.view o_ ∧ t.still = s.canon.still := by
  simp only [Footprint.execPhaseShed, List.mem_append, List.mem_cons, List.not_mem_nil, or_false, false_or, not_or, and_assoc] at h_
  refine run_frame ?_ e_
  first
  | (simp only [part_ite, part_set, setPhase_part, h_, q_, implies_true, ite_self, not_false_eq_true, if_false]; rfl)
  | ((try simp only [part_ite, part_set, setPhase_part, h_, q_, implies_true, ite_self, not_false_eq_true, if_false]) <;> (repeat' split) <;> (first | rfl | (simp only [part_ite, part_set, setPhase_part, h_, q_, implies_true, ite_self, not_false_eq_true, if_false]; done) | (simp only [part_ite, part_set, setPhase_part, h_, q_, implies_true, ite_self, not_false_eq_true, if_false]; rfl)))

theorem execPilotStateChange_frame {o_ : Obj} (q_ : o_.quiet = true) (h_ : ¬ o_.id ∈ Footprint.execPilotStateChange) (outlet : Fin 24) (readings : List (Int × Int)) (s : State) {t : State} (e_ : execPilotStateChange outlet readings s = .next t) :
    t.view o_ = s.view o_ ∧ t.still = s.canon.still := by
  simp only [Footprint.execPilotStateChange, List.mem_append, List.mem_cons, List.not_mem_nil, or_false, false_or, not_or, and_assoc] at h_
  refine run_frame ?_ e_
  first
  | (simp only [part_ite, takePilot_part, h_, q_, implies_true, ite_self, not_false_eq_true, if_false]; rfl)
  | ((try simp only [part_ite, takePilot_part, h_, q_, implies_true, ite_self, not_false_eq_true, if_false]) <;> (repeat' split) <;> (first | rfl | (simp only [part_ite, takePilot_part, h_, q_, implies_true, ite_self, not_false_eq_true, if_false]; done) | (simp only [part_ite, takePilot_part, h_, q_, implies_true, ite_self, not_false_eq_true, if_false]; rfl)))

theorem execProximityStateChange_frame {o_ : Obj} (q_ : o_.quiet = true) (h_ : ¬ o_.id ∈ Footprint.execProximityStateChange) (outlet : Fin 24) (readings : List Nat) (s : State) {t : State} (e_ : execProximityStateChange outlet readings s = .next t) :
    t.view o_ = s.view o_ ∧ t.still = s.canon.still := by
  simp only [Footprint.execProximityStateChange, List.mem_append, List.mem_cons, List.not_mem_nil, or_false, false_or, not_or, and_assoc] at h_
  refine run_frame ?_ e_
  first
  | (simp only [part_ite, takeProximity_part, h_, q_, implies_true, ite_self, not_false_eq_true, if_false]; rfl)
  | ((try simp only [part_ite, takeProximity_part, h_, q_, implies_true, ite_self, not_false_eq_true, if_false]) <;> (repeat' split) <;> (first | rfl | (simp only [part_ite, takeProximity_part, h_, q_, implies_true, ite_self, not_false_eq_true, if_false]; done) | (simp only [part_ite, takeProximity_part, h_, q_, implies_true, ite_self, not_false_eq_true, if_false]; rfl)))

theorem execHvilStateChange_frame {o_ : Obj} (q_ : o_.quiet = true) (h_ : ¬ o_.id ∈ Footprint.execHvilStateChange) (outlet : Fin 24) (readings : List Nat) (s : State) {t : State} (e_ : execHvilStateChange outlet readings s = .next t) :
    t.view o_ = s.view o_ ∧ t.still = s.canon.still := by
  simp only [Footprint.execHvilStateChange, List.mem_append, List.mem_cons, List.not_mem_nil, or_false, false_or, not_or, and_assoc] at h_
  refine run_frame ?_ e_
  first
  | (simp only [part_ite, takeHvil_part, h_, q_, implies_true, ite_self, not_false_eq_true, if_false]; rfl)
  | ((try simp only [part_ite, takeHvil_part, h_, q_, implies_true, ite_self, not_false_eq_true, if_false]) <;> (repeat' split) <;> (first | rfl | (simp only [part_ite, takeHvil_part, h_, q_, implies_true, ite_self, not_false_eq_true, if_false]; done) | (simp only [part_ite, takeHvil_part, h_, q_, implies_true, ite_self, not_false_eq_true, if_false]; rfl)))

theorem execContactorFeedbackFault_frame {o_ : Obj} (q_ : o_.quiet = true) (h_ : ¬ o_.id ∈ Footprint.execContactorFeedbackFault) (outlet : Fin 24) (feedback : Fin 4) (s : State) {t : State} (e_ : execContactorFeedbackFault outlet feedback s = .next t) :
    t.view o_ = s.view o_ ∧ t.still = s.canon.still := by
  simp only [Footprint.execContactorFeedbackFault, List.mem_append, List.mem_cons, List.not_mem_nil, or_false, false_or, not_or, and_assoc] at h_
  refine run_frame ?_ e_
  first
  | (simp only [part_ite, feedbackFault_part, h_, q_, implies_true, ite_self, not_false_eq_true, if_false]; rfl)
  | ((try simp only [part_ite, feedbackFault_part, h_, q_, implies_true, ite_self, not_false_eq_true, if_false]) <;> (repeat' split) <;> (first | rfl | (simp only [part_ite, feedbackFault_part, h_, q_, implies_true, ite_self, not_false_eq_true, if_false]; done) | (simp only [part_ite, feedbackFault_part, h_, q_, implies_true, ite_self, not_false_eq_true, if_false]; rfl)))

theorem execClearContactorFault_frame {o_ : Obj} (q_ : o_.quiet = true) (h_ : ¬ o_.id ∈ Footprint.execClearContactorFault) (r : Req) (outlet : Fin 24) (data : List Byte) (s : State) {t : State} (e_ : execClearContactorFault r outlet data s = .next t) :
    t.view o_ = s.view o_ ∧ t.still = s.canon.still := by
  simp only [Footprint.execClearContactorFault, List.mem_append, List.mem_cons, List.not_mem_nil, or_false, false_or, not_or, and_assoc] at h_
  refine run_frame (hostWrite_part q_ (by simp only [h_, not_false_eq_true]) _ _ _ _ _ (fun _ u t e => ?_) _) e_
  (try dsimp only at e)
  repeat' split at e
  all_goals first
      | exact absurd e (by simp only [reduceCtorEq, not_false_eq_true])
      | (rw [← Except.ok.inj e]; done)
      | (rw [← Except.ok.inj e]; simp only [part_ite, part_set, refreshAvail_part, h_, q_, implies_true, ite_self, not_false_eq_true, if_false]; done)
      | (rw [← Except.ok.inj e]; (try simp only [part_ite, part_set, refreshAvail_part, h_, q_, implies_true, ite_self, not_false_eq_true, if_false]) <;> (repeat' split) <;> (first | (simp only [part_ite, part_set, refreshAvail_part, h_, q_, implies_true, ite_self, not_false_eq_true, if_false]; done) | rfl))

theorem execCmSlacParmReq_frame {o_ : Obj} (q_ : o_.quiet = true) (h_ : ¬ o_.id ∈ Footprint.execCmSlacParmReq) (outlet : Fin 24) (runId : Nat) (s : State) {t : State} (e_ : execCmSlacParmReq outlet runId s = .next t) :
    t.view o_ = s.view o_ ∧ t.still = s.canon.still := by
  simp only [Footprint.execCmSlacParmReq, List.mem_append, List.mem_cons, List.not_mem_nil, or_false, false_or, not_or, and_assoc] at h_
  refine run_frame ?_ e_
  first
  | (simp only [part_ite, part_set, part_setBytes, part_random, respond_part, h_, q_, implies_true, ite_self, not_false_eq_true, if_false]; rfl)
  | ((try simp only [part_ite, part_set, part_setBytes, part_random, respond_part, h_, q_, implies_true, ite_self, not_false_eq_true, if_false]) <;> (repeat' split) <;> (first | rfl | (simp only [part_ite, part_set, part_setBytes, part_random, respond_part, h_, q_, implies_true, ite_self, not_false_eq_true, if_false]; done) | (simp only [part_ite, part_set, part_setBytes, part_random, respond_part, h_, q_, implies_true, ite_self, not_false_eq_true, if_false]; rfl)))

theorem execSlacRunArbitration_frame {o_ : Obj} (q_ : o_.quiet = true) (h_ : ¬ o_.id ∈ Footprint.execSlacRunArbitration) (runId : Nat) (heard : List (Nat × Nat)) (s : State) {t : State} (e_ : execSlacRunArbitration runId heard s = .next t) :
    t.view o_ = s.view o_ ∧ t.still = s.canon.still := by
  simp only [Footprint.execSlacRunArbitration, List.mem_append, List.mem_cons, List.not_mem_nil, or_false, false_or, not_or, and_assoc] at h_
  refine run_frame ?_ e_
  first
  | (simp only [part_ite, arbitrate_part, h_, q_, implies_true, ite_self, not_false_eq_true, if_false]; rfl)
  | ((try simp only [part_ite, arbitrate_part, h_, q_, implies_true, ite_self, not_false_eq_true, if_false]) <;> (repeat' split) <;> (first | rfl | (simp only [part_ite, arbitrate_part, h_, q_, implies_true, ite_self, not_false_eq_true, if_false]; done) | (simp only [part_ite, arbitrate_part, h_, q_, implies_true, ite_self, not_false_eq_true, if_false]; rfl)))

theorem execSdpRequest_frame {o_ : Obj} (q_ : o_.quiet = true) (h_ : ¬ o_.id ∈ Footprint.execSdpRequest) (outlet : Fin 24) (tls : Bool) (s : State) {t : State} (e_ : execSdpRequest outlet tls s = .next t) :
    t.view o_ = s.view o_ ∧ t.still = s.canon.still := by
  refine run_frame ?_ e_
  first
  | (simp only [part_ite, respond_part, h_, q_, implies_true, ite_self, not_false_eq_true, if_false]; rfl)
  | ((try simp only [part_ite, respond_part, h_, q_, implies_true, ite_self, not_false_eq_true, if_false]) <;> (repeat' split) <;> (first | rfl | (simp only [part_ite, respond_part, h_, q_, implies_true, ite_self, not_false_eq_true, if_false]; done) | (simp only [part_ite, respond_part, h_, q_, implies_true, ite_self, not_false_eq_true, if_false]; rfl)))

theorem execTcpConnection_frame {o_ : Obj} (q_ : o_.quiet = true) (h_ : ¬ o_.id ∈ Footprint.execTcpConnection) (outlet : Fin 24) (s : State) {t : State} (e_ : execTcpConnection outlet s = .next t) :
    t.view o_ = s.view o_ ∧ t.still = s.canon.still := by
  simp only [Footprint.execTcpConnection, List.mem_append, List.mem_cons, List.not_mem_nil, or_false, false_or, not_or, and_assoc] at h_
  refine run_frame ?_ e_
  first
  | (simp only [part_ite, part_set, respond_part, h_, q_, implies_true, ite_self, not_false_eq_true, if_false]; rfl)
  | ((try simp only [part_ite, part_set, respond_part, h_, q_, implies_true, ite_self, not_false_eq_true, if_false]) <;> (repeat' split) <;> (first | rfl | (simp only [part_ite, part_set, respond_part, h_, q_, implies_true, ite_self, not_false_eq_true, if_false]; done) | (simp only [part_ite, part_set, respond_part, h_, q_, implies_true, ite_self, not_false_eq_true, if_false]; rfl)))

theorem execSupportedAppProtocol_frame {o_ : Obj} (q_ : o_.quiet = true) (h_ : ¬ o_.id ∈ Footprint.execSupportedAppProtocol) (outlet : Fin 24) (options : List Nat) (s : State) {t : State} (e_ : execSupportedAppProtocol outlet options s = .next t) :
    t.view o_ = s.view o_ ∧ t.still = s.canon.still := by
  simp only [Footprint.execSupportedAppProtocol, List.mem_append, List.mem_cons, List.not_mem_nil, or_false, false_or, not_or, and_assoc] at h_
  refine run_frame ?_ e_
  first
  | (simp only [part_ite, part_set, respond_part, setOutlet_part, closeEarly_part, h_, q_, implies_true, ite_self, not_false_eq_true, if_false]; rfl)
  | ((try simp only [part_ite, part_set, respond_part, setOutlet_part, closeEarly_part, h_, q_, implies_true, ite_self, not_false_eq_true, if_false]) <;> (repeat' split) <;> (first | rfl | (simp only [part_ite, part_set, respond_part, setOutlet_part, closeEarly_part, h_, q_, implies_true, ite_self, not_false_eq_true, if_false]; done) | (simp only [part_ite, part_set, respond_part, setOutlet_part, closeEarly_part, h_, q_, implies_true, ite_self, not_false_eq_true, if_false]; rfl)))

theorem execCommunicationLost_frame {o_ : Obj} (q_ : o_.quiet = true) (h_ : ¬ o_.id ∈ Footprint.execCommunicationLost) (outlet : Fin 24) (s : State) {t : State} (e_ : execCommunicationLost outlet s = .next t) :
    t.view o_ = s.view o_ ∧ t.still = s.canon.still := by
  simp only [Footprint.execCommunicationLost, List.mem_append, List.mem_cons, List.not_mem_nil, or_false, false_or, not_or, and_assoc] at h_
  refine run_frame ?_ e_
  first
  | (simp only [part_ite, part_set, outletFault_part, h_, q_, implies_true, ite_self, not_false_eq_true, if_false]; rfl)
  | ((try simp only [part_ite, part_set, outletFault_part, h_, q_, implies_true, ite_self, not_false_eq_true, if_false]) <;> (repeat' split) <;> (first | rfl | (simp only [part_ite, part_set, outletFault_part, h_, q_, implies_true, ite_self, not_false_eq_true, if_false]; done) | (simp only [part_ite, part_set, outletFault_part, h_, q_, implies_true, ite_self, not_false_eq_true, if_false]; rfl)))

theorem execVehicleIdentified_frame {o_ : Obj} (q_ : o_.quiet = true) (h_ : ¬ o_.id ∈ Footprint.execVehicleIdentified) (outlet : Fin 24) (contract good : Bool) (evccid emaid : List Byte) (s : State) {t : State} (e_ : execVehicleIdentified outlet contract good evccid emaid s = .next t) :
    t.view o_ = s.view o_ ∧ t.still = s.canon.still := by
  simp only [Footprint.execVehicleIdentified, List.mem_append, List.mem_cons, List.not_mem_nil, or_false, false_or, not_or, and_assoc] at h_
  refine run_frame ?_ e_
  first
  | (simp only [part_ite, identified_part, h_, q_, implies_true, ite_self, not_false_eq_true, if_false]; rfl)
  | ((try simp only [part_ite, identified_part, h_, q_, implies_true, ite_self, not_false_eq_true, if_false]) <;> (repeat' split) <;> (first | rfl | (simp only [part_ite, identified_part, h_, q_, implies_true, ite_self, not_false_eq_true, if_false]; done) | (simp only [part_ite, identified_part, h_, q_, implies_true, ite_self, not_false_eq_true, if_false]; rfl)))

theorem execAuthorisationRequest_frame {o_ : Obj} (q_ : o_.quiet = true) (h_ : ¬ o_.id ∈ Footprint.execAuthorisationRequest) (outlet : Fin 24) (s : State) {t : State} (e_ : execAuthorisationRequest outlet s = .next t) :
    t.view o_ = s.view o_ ∧ t.still = s.canon.still := by
  refine run_frame ?_ e_
  first
  | (simp only [part_ite, respond_part, h_, q_, implies_true, ite_self, not_false_eq_true, if_false]; rfl)
  | ((try simp only [part_ite, respond_part, h_, q_, implies_true, ite_self, not_false_eq_true, if_false]) <;> (repeat' split) <;> (first | rfl | (simp only [part_ite, respond_part, h_, q_, implies_true, ite_self, not_false_eq_true, if_false]; done) | (simp only [part_ite, respond_part, h_, q_, implies_true, ite_self, not_false_eq_true, if_false]; rfl)))

theorem execAuthorisationTimeout_frame {o_ : Obj} (q_ : o_.quiet = true) (h_ : ¬ o_.id ∈ Footprint.execAuthorisationTimeout) (outlet : Fin 24) (s : State) {t : State} (e_ : execAuthorisationTimeout outlet s = .next t) :
    t.view o_ = s.view o_ ∧ t.still = s.canon.still := by
  simp only [Footprint.execAuthorisationTimeout, List.mem_append, List.mem_cons, List.not_mem_nil, or_false, false_or, not_or, and_assoc] at h_
  refine run_frame ?_ e_
  first
  | (simp only [part_ite, closeEarly_part, h_, q_, implies_true, ite_self, not_false_eq_true, if_false]; rfl)
  | ((try simp only [part_ite, closeEarly_part, h_, q_, implies_true, ite_self, not_false_eq_true, if_false]) <;> (repeat' split) <;> (first | rfl | (simp only [part_ite, closeEarly_part, h_, q_, implies_true, ite_self, not_false_eq_true, if_false]; done) | (simp only [part_ite, closeEarly_part, h_, q_, implies_true, ite_self, not_false_eq_true, if_false]; rfl)))

theorem execCertificateRequest_frame {o_ : Obj} (q_ : o_.quiet = true) (h_ : ¬ o_.id ∈ Footprint.execCertificateRequest) (outlet : Fin 24) (body : List Byte) (s : State) {t : State} (e_ : execCertificateRequest outlet body s = .next t) :
    t.view o_ = s.view o_ ∧ t.still = s.canon.still := by
  simp only [Footprint.execCertificateRequest, List.mem_append, List.mem_cons, List.not_mem_nil, or_false, false_or, not_or, and_assoc] at h_
  refine run_frame ?_ e_
  first
  | (simp only [part_ite, part_set, part_setBytes, logEvent_part, respond_part, h_, q_, implies_true, ite_self, not_false_eq_true, if_false]; rfl)
  | ((try simp only [part_ite, part_set, part_setBytes, logEvent_part, respond_part, h_, q_, implies_true, ite_self, not_false_eq_true, if_false]) <;> (repeat' split) <;> (first | rfl | (simp only [part_ite, part_set, part_setBytes, logEvent_part, respond_part, h_, q_, implies_true, ite_self, not_false_eq_true, if_false]; done) | (simp only [part_ite, part_set, part_setBytes, logEvent_part, respond_part, h_, q_, implies_true, ite_self, not_false_eq_true, if_false]; rfl)))

theorem execCertificateResponseWrite_frame {o_ : Obj} (q_ : o_.quiet = true) (h_ : ¬ o_.id ∈ Footprint.execCertificateResponseWrite) (r : Req) (outlet : Fin 24) (data : List Byte) (s : State) {t : State} (e_ : execCertificateResponseWrite r outlet data s = .next t) :
    t.view o_ = s.view o_ ∧ t.still = s.canon.still := by
  simp only [Footprint.execCertificateResponseWrite, List.mem_append, List.mem_cons, List.not_mem_nil, or_false, false_or, not_or, and_assoc] at h_
  refine run_frame (hostWrite_part q_ (by simp only [h_, not_false_eq_true]) _ _ _ _ _ (fun _ u t e => ?_) _) e_
  (try dsimp only at e)
  repeat' split at e
  all_goals first
      | exact absurd e (by simp only [reduceCtorEq, not_false_eq_true])
      | (rw [← Except.ok.inj e]; done)
      | (rw [← Except.ok.inj e]; simp only [part_ite, part_set, part_setBytes, respond_part, h_, q_, implies_true, ite_self, not_false_eq_true, if_false]; done)
      | (rw [← Except.ok.inj e]; (try simp only [part_ite, part_set, part_setBytes, respond_part, h_, q_, implies_true, ite_self, not_false_eq_true, if_false]) <;> (repeat' split) <;> (first | (simp only [part_ite, part_set, part_setBytes, respond_part, h_, q_, implies_true, ite_self, not_false_eq_true, if_false]; done) | rfl))

theorem execCertificateTimeout_frame {o_ : Obj} (q_ : o_.quiet = true) (h_ : ¬ o_.id ∈ Footprint.execCertificateTimeout) (outlet : Fin 24) (s : State) {t : State} (e_ : execCertificateTimeout outlet s = .next t) :
    t.view o_ = s.view o_ ∧ t.still = s.canon.still := by
  simp only [Footprint.execCertificateTimeout, List.mem_append, List.mem_cons, List.not_mem_nil, or_false, false_or, not_or, and_assoc] at h_
  refine run_frame ?_ e_
  first
  | (simp only [part_ite, part_set, respond_part, h_, q_, implies_true, ite_self, not_false_eq_true, if_false]; rfl)
  | ((try simp only [part_ite, part_set, respond_part, h_, q_, implies_true, ite_self, not_false_eq_true, if_false]) <;> (repeat' split) <;> (first | rfl | (simp only [part_ite, part_set, respond_part, h_, q_, implies_true, ite_self, not_false_eq_true, if_false]; done) | (simp only [part_ite, part_set, respond_part, h_, q_, implies_true, ite_self, not_false_eq_true, if_false]; rfl)))

theorem execCableCheckReq_frame {o_ : Obj} (q_ : o_.quiet = true) (h_ : ¬ o_.id ∈ Footprint.execCableCheckReq) (outlet : Fin 24) (s : State) {t : State} (e_ : execCableCheckReq outlet s = .next t) :
    t.view o_ = s.view o_ ∧ t.still = s.canon.still := by
  simp only [Footprint.execCableCheckReq, List.mem_append, List.mem_cons, List.not_mem_nil, or_false, false_or, not_or, and_assoc] at h_
  refine run_frame ?_ e_
  first
  | (simp only [part_ite, part_set, respond_part, imdSend_part, setRamp_part, setOutlet_part, h_, q_, implies_true, ite_self, not_false_eq_true, if_false]; rfl)
  | ((try simp only [part_ite, part_set, respond_part, imdSend_part, setRamp_part, setOutlet_part, h_, q_, implies_true, ite_self, not_false_eq_true, if_false]) <;> (repeat' split) <;> (first | rfl | (simp only [part_ite, part_set, respond_part, imdSend_part, setRamp_part, setOutlet_part, h_, q_, implies_true, ite_self, not_false_eq_true, if_false]; done) | (simp only [part_ite, part_set, respond_part, imdSend_part, setRamp_part, setOutlet_part, h_, q_, implies_true, ite_self, not_false_eq_true, if_false]; rfl)))

theorem execImdStatusFrame_frame {o_ : Obj} (q_ : o_.quiet = true) (h_ : ¬ o_.id ∈ Footprint.execImdStatusFrame) (outlet : Fin 24) (frame : List Byte) (s : State) {t : State} (e_ : execImdStatusFrame outlet frame s = .next t) :
    t.view o_ = s.view o_ ∧ t.still = s.canon.still := by
  simp only [Footprint.execImdStatusFrame, List.mem_append, List.mem_cons, List.not_mem_nil, or_false, false_or, not_or, and_assoc] at h_
  refine run_frame ?_ e_
  first
  | (simp only [part_ite, takeImd_part, h_, q_, implies_true, ite_self, not_false_eq_true, if_false]; rfl)
  | ((try simp only [part_ite, takeImd_part, h_, q_, implies_true, ite_self, not_false_eq_true, if_false]) <;> (repeat' split) <;> (first | rfl | (simp only [part_ite, takeImd_part, h_, q_, implies_true, ite_self, not_false_eq_true, if_false]; done) | (simp only [part_ite, takeImd_part, h_, q_, implies_true, ite_self, not_false_eq_true, if_false]; rfl)))

theorem execImdSilent_frame {o_ : Obj} (q_ : o_.quiet = true) (h_ : ¬ o_.id ∈ Footprint.execImdSilent) (outlet : Fin 24) (s : State) {t : State} (e_ : execImdSilent outlet s = .next t) :
    t.view o_ = s.view o_ ∧ t.still = s.canon.still := by
  simp only [Footprint.execImdSilent, List.mem_append, List.mem_cons, List.not_mem_nil, or_false, false_or, not_or, and_assoc] at h_
  refine run_frame ?_ e_
  first
  | (simp only [part_ite, imdSilence_part, h_, q_, implies_true, ite_self, not_false_eq_true, if_false]; rfl)
  | ((try simp only [part_ite, imdSilence_part, h_, q_, implies_true, ite_self, not_false_eq_true, if_false]) <;> (repeat' split) <;> (first | rfl | (simp only [part_ite, imdSilence_part, h_, q_, implies_true, ite_self, not_false_eq_true, if_false]; done) | (simp only [part_ite, imdSilence_part, h_, q_, implies_true, ite_self, not_false_eq_true, if_false]; rfl)))

theorem execImdKeepAlive_frame {o_ : Obj} (q_ : o_.quiet = true) (h_ : ¬ o_.id ∈ Footprint.execImdKeepAlive) (outlet : Fin 24) (s : State) {t : State} (e_ : execImdKeepAlive outlet s = .next t) :
    t.view o_ = s.view o_ ∧ t.still = s.canon.still := by
  simp only [Footprint.execImdKeepAlive, List.mem_append, List.mem_cons, List.not_mem_nil, or_false, false_or, not_or, and_assoc] at h_
  refine run_frame ?_ e_
  first
  | (simp only [part_ite, imdSend_part, h_, q_, implies_true, ite_self, not_false_eq_true, if_false]; rfl)
  | ((try simp only [part_ite, imdSend_part, h_, q_, implies_true, ite_self, not_false_eq_true, if_false]) <;> (repeat' split) <;> (first | rfl | (simp only [part_ite, imdSend_part, h_, q_, implies_true, ite_self, not_false_eq_true, if_false]; done) | (simp only [part_ite, imdSend_part, h_, q_, implies_true, ite_self, not_false_eq_true, if_false]; rfl)))

theorem execOutletContactorsClosed_frame {o_ : Obj} (q_ : o_.quiet = true) (h_ : ¬ o_.id ∈ Footprint.execOutletContactorsClosed) (outlet : Fin 24) (s : State) {t : State} (e_ : execOutletContactorsClosed outlet s = .next t) :
    t.view o_ = s.view o_ ∧ t.still = s.canon.still := by
  simp only [Footprint.execOutletContactorsClosed, List.mem_append, List.mem_cons, List.not_mem_nil, or_false, false_or, not_or, and_assoc] at h_
  refine run_frame ?_ e_
  first
  | (simp only [part_ite, part_set, feedbackAgrees_part, takeStart_part, startRamp_part, h_, q_, implies_true, ite_self, not_false_eq_true, if_false]; rfl)
  | ((try simp only [part_ite, part_set, feedbackAgrees_part, takeStart_part, startRamp_part, h_, q_, implies_true, ite_self, not_false_eq_true, if_false]) <;> (repeat' split) <;> (first | rfl | (simp only [part_ite, part_set, feedbackAgrees_part, takeStart_part, startRamp_part, h_, q_, implies_true, ite_self, not_false_eq_true, if_false]; done) | (simp only [part_ite, part_set, feedbackAgrees_part, takeStart_part, startRamp_part, h_, q_, implies_true, ite_self, not_false_eq_true, if_false]; rfl)))

theorem execCableCheckRampEnd_frame {o_ : Obj} (q_ : o_.quiet = true) (h_ : ¬ o_.id ∈ Footprint.execCableCheckRampEnd) (outlet : Fin 24) (s : State) {t : State} (e_ : execCableCheckRampEnd outlet s = .next t) :
    t.view o_ = s.view o_ ∧ t.still = s.canon.still := by
  simp only [Footprint.execCableCheckRampEnd, List.mem_append, List.mem_cons, List.not_mem_nil, or_false, false_or, not_or, and_assoc] at h_
  refine run_frame ?_ e_
  first
  | (simp only [part_ite, part_set, imdSend_part, h_, q_, implies_true, ite_self, not_false_eq_true, if_false]; rfl)
  | ((try simp only [part_ite, part_set, imdSend_part, h_, q_, implies_true, ite_self, not_false_eq_true, if_false]) <;> (repeat' split) <;> (first | rfl | (simp only [part_ite, part_set, imdSend_part, h_, q_, implies_true, ite_self, not_false_eq_true, if_false]; done) | (simp only [part_ite, part_set, imdSend_part, h_, q_, implies_true, ite_self, not_false_eq_true, if_false]; rfl)))

theorem execCableCheckTimeout_frame {o_ : Obj} (q_ : o_.quiet = true) (h_ : ¬ o_.id ∈ Footprint.execCableCheckTimeout) (outlet : Fin 24) (s : State) {t : State} (e_ : execCableCheckTimeout outlet s = .next t) :
    t.view o_ = s.view o_ ∧ t.still = s.canon.still := by
  simp only [Footprint.execCableCheckTimeout, List.mem_append, List.mem_cons, List.not_mem_nil, or_false, false_or, not_or, and_assoc] at h_
  refine run_frame ?_ e_
  first
  | (simp only [part_ite, cableCheckFails_part, h_, q_, implies_true, ite_self, not_false_eq_true, if_false]; rfl)
  | ((try simp only [part_ite, cableCheckFails_part, h_, q_, implies_true, ite_self, not_false_eq_true, if_false]) <;> (repeat' split) <;> (first | rfl | (simp only [part_ite, cableCheckFails_part, h_, q_, implies_true, ite_self, not_false_eq_true, if_false]; done) | (simp only [part_ite, cableCheckFails_part, h_, q_, implies_true, ite_self, not_false_eq_true, if_false]; rfl)))

theorem execPreChargeReq_frame {o_ : Obj} (q_ : o_.quiet = true) (h_ : ¬ o_.id ∈ Footprint.execPreChargeReq) (outlet : Fin 24) (target : Nat) (s : State) {t : State} (e_ : execPreChargeReq outlet target s = .next t) :
    t.view o_ = s.view o_ ∧ t.still = s.canon.still := by
  simp only [Footprint.execPreChargeReq, List.mem_append, List.mem_cons, List.not_mem_nil, or_false, false_or, not_or, and_assoc] at h_
  refine run_frame ?_ e_
  first
  | (simp only [part_ite, part_set, respond_part, startRamp_part, h_, q_, implies_true, ite_self, not_false_eq_true, if_false]; rfl)
  | ((try simp only [part_ite, part_set, respond_part, startRamp_part, h_, q_, implies_true, ite_self, not_false_eq_true, if_false]) <;> (repeat' split) <;> (first | rfl | (simp only [part_ite, part_set, respond_part, startRamp_part, h_, q_, implies_true, ite_self, not_false_eq_true, if_false]; done) | (simp only [part_ite, part_set, respond_part, startRamp_part, h_, q_, implies_true, ite_self, not_false_eq_true, if_false]; rfl)))

theorem execPreChargeCurrentExceeded_frame {o_ : Obj} (q_ : o_.quiet = true) (h_ : ¬ o_.id ∈ Footprint.execPreChargeCurrentExceeded) (outlet : Fin 24) (s : State) {t : State} (e_ : execPreChargeCurrentExceeded outlet s = .next t) :
    t.view o_ = s.view o_ ∧ t.still = s.canon.still := by
  simp only [Footprint.execPreChargeCurrentExceeded, List.mem_append, List.mem_cons, List.not_mem_nil, or_false, false_or, not_or, and_assoc] at h_
  refine run_frame ?_ e_
  first
  | (simp only [part_ite, emergencyStop_part, h_, q_, implies_true, ite_self, not_false_eq_true, if_false]; rfl)
  | ((try simp only [part_ite, emergencyStop_part, h_, q_, implies_true, ite_self, not_false_eq_true, if_false]) <;> (repeat' split) <;> (first | rfl | (simp only [part_ite, emergencyStop_part, h_, q_, implies_true, ite_self, not_false_eq_true, if_false]; done) | (simp only [part_ite, emergencyStop_part, h_, q_, implies_true, ite_self, not_false_eq_true, if_false]; rfl)))

theorem execPowerDeliveryStart_frame {o_ : Obj} (q_ : o_.quiet = true) (h_ : ¬ o_.id ∈ Footprint.execPowerDeliveryStart) (outlet : Fin 24) (s : State) {t : State} (e_ : execPowerDeliveryStart outlet s = .next t) :
    t.view o_ = s.view o_ ∧ t.still = s.canon.still := by
  simp only [Footprint.execPowerDeliveryStart, List.mem_append, List.mem_cons, List.not_mem_nil, or_false, false_or, not_or, and_assoc] at h_
  refine run_frame ?_ e_
  first
  | (simp only [part_ite, part_set, forL_part, respond_part, normalStop_part, setOutlet_part, setContext_part, h_, q_, implies_true, ite_self, not_false_eq_true, if_false]; rfl)
  | ((try simp only [part_ite, part_set, forL_part, respond_part, normalStop_part, setOutlet_part, setContext_part, h_, q_, implies_true, ite_self, not_false_eq_true, if_false]) <;> (repeat' split) <;> (first | rfl | (simp only [part_ite, part_set, forL_part, respond_part, normalStop_part, setOutlet_part, setContext_part, h_, q_, implies_true, ite_self, not_false_eq_true, if_false]; done) | (simp only [part_ite, part_set, forL_part, respond_part, normalStop_part, setOutlet_part, setContext_part, h_, q_, implies_true, ite_self, not_false_eq_true, if_false]; rfl)))

theorem execPreChargeTimeout_frame {o_ : Obj} (q_ : o_.quiet = true) (h_ : ¬ o_.id ∈ Footprint.execPreChargeTimeout) (outlet : Fin 24) (s : State) {t : State} (e_ : execPreChargeTimeout outlet s = .next t) :
    t.view o_ = s.view o_ ∧ t.still = s.canon.still := by
  simp only [Footprint.execPreChargeTimeout, List.mem_append, List.mem_cons, List.not_mem_nil, or_false, false_or, not_or, and_assoc] at h_
  refine run_frame ?_ e_
  first
  | (simp only [part_ite, normalStop_part, h_, q_, implies_true, ite_self, not_false_eq_true, if_false]; rfl)
  | ((try simp only [part_ite, normalStop_part, h_, q_, implies_true, ite_self, not_false_eq_true, if_false]) <;> (repeat' split) <;> (first | rfl | (simp only [part_ite, normalStop_part, h_, q_, implies_true, ite_self, not_false_eq_true, if_false]; done) | (simp only [part_ite, normalStop_part, h_, q_, implies_true, ite_self, not_false_eq_true, if_false]; rfl)))

theorem execCurrentDemandReq_frame {o_ : Obj} (q_ : o_.quiet = true) (h_ : ¬ o_.id ∈ Footprint.execCurrentDemandReq) (outlet : Fin 24) (tv ti mv mi soc err : Nat) (marked : Bool) (s : State) {t : State} (e_ : execCurrentDemandReq outlet tv ti mv mi soc err marked s = .next t) :
    t.view o_ = s.view o_ ∧ t.still = s.canon.still := by
  simp only [Footprint.execCurrentDemandReq, List.mem_append, List.mem_cons, List.not_mem_nil, or_false, false_or, not_or, and_assoc] at h_
  refine run_frame ?_ e_
  first
  | (simp only [part_ite, currentDemand_part, h_, q_, implies_true, ite_self, not_false_eq_true, if_false]; rfl)
  | ((try simp only [part_ite, currentDemand_part, h_, q_, implies_true, ite_self, not_false_eq_true, if_false]) <;> (repeat' split) <;> (first | rfl | (simp only [part_ite, currentDemand_part, h_, q_, implies_true, ite_self, not_false_eq_true, if_false]; done) | (simp only [part_ite, currentDemand_part, h_, q_, implies_true, ite_self, not_false_eq_true, if_false]; rfl)))

theorem execDemandSilenceTimeout_frame {o_ : Obj} (q_ : o_.quiet = true) (h_ : ¬ o_.id ∈ Footprint.execDemandSilenceTimeout) (outlet : Fin 24) (s : State) {t : State} (e_ : execDemandSilenceTimeout outlet s = .next t) :
    t.view o_ = s.view o_ ∧ t.still = s.canon.still := by
  simp only [Footprint.execDemandSilenceTimeout, List.mem_append, List.mem_cons, List.not_mem_nil, or_false, false_or, not_or, and_assoc] at h_
  refine run_frame ?_ e_
  first
  | (simp only [part_ite, normalStop_part, h_, q_, implies_true, ite_self, not_false_eq_true, if_false]; rfl)
  | ((try simp only [part_ite, normalStop_part, h_, q_, implies_true, ite_self, not_false_eq_true, if_false]) <;> (repeat' split) <;> (first | rfl | (simp only [part_ite, normalStop_part, h_, q_, implies_true, ite_self, not_false_eq_true, if_false]; done) | (simp only [part_ite, normalStop_part, h_, q_, implies_true, ite_self, not_false_eq_true, if_false]; rfl)))

theorem execEvOverVoltage_frame {o_ : Obj} (q_ : o_.quiet = true) (h_ : ¬ o_.id ∈ Footprint.execEvOverVoltage) (outlet : Fin 24) (s : State) {t : State} (e_ : execEvOverVoltage outlet s = .next t) :
    t.view o_ = s.view o_ ∧ t.still = s.canon.still := by
  simp only [Footprint.execEvOverVoltage, List.mem_append, List.mem_cons, List.not_mem_nil, or_false, false_or, not_or, and_assoc] at h_
  refine run_frame ?_ e_
  first
  | (simp only [part_ite, emergencyStop_part, h_, q_, implies_true, ite_self, not_false_eq_true, if_false]; rfl)
  | ((try simp only [part_ite, emergencyStop_part, h_, q_, implies_true, ite_self, not_false_eq_true, if_false]) <;> (repeat' split) <;> (first | rfl | (simp only [part_ite, emergencyStop_part, h_, q_, implies_true, ite_self, not_false_eq_true, if_false]; done) | (simp only [part_ite, emergencyStop_part, h_, q_, implies_true, ite_self, not_false_eq_true, if_false]; rfl)))

theorem execPowerDeliveryStop_frame {o_ : Obj} (q_ : o_.quiet = true) (h_ : ¬ o_.id ∈ Footprint.execPowerDeliveryStop) (outlet : Fin 24) (s : State) {t : State} (e_ : execPowerDeliveryStop outlet s = .next t) :
    t.view o_ = s.view o_ ∧ t.still = s.canon.still := by
  simp only [Footprint.execPowerDeliveryStop, List.mem_append, List.mem_cons, List.not_mem_nil, or_false, false_or, not_or, and_assoc] at h_
  refine run_frame ?_ e_
  first
  | (simp only [part_ite, respond_part, vehicleStop_part, h_, q_, implies_true, ite_self, not_false_eq_true, if_false]; rfl)
  | ((try simp only [part_ite, respond_part, vehicleStop_part, h_, q_, implies_true, ite_self, not_false_eq_true, if_false]) <;> (repeat' split) <;> (first | rfl | (simp only [part_ite, respond_part, vehicleStop_part, h_, q_, implies_true, ite_self, not_false_eq_true, if_false]; done) | (simp only [part_ite, respond_part, vehicleStop_part, h_, q_, implies_true, ite_self, not_false_eq_true, if_false]; rfl)))

theorem execStopCurrentDecayed_frame {o_ : Obj} (q_ : o_.quiet = true) (h_ : ¬ o_.id ∈ Footprint.execStopCurrentDecayed) (outlet : Fin 24) (s : State) {t : State} (e_ : execStopCurrentDecayed outlet s = .next t) :
    t.view o_ = s.view o_ ∧ t.still = s.canon.still := by
  simp only [Footprint.execStopCurrentDecayed, List.mem_append, List.mem_cons, List.not_mem_nil, or_false, false_or, not_or, and_assoc] at h_
  refine run_frame ?_ e_
  first
  | (simp only [part_ite, currentGone_part, setOutlet_part, openContactors_part, h_, q_, implies_true, ite_self, not_false_eq_true, if_false]; rfl)
  | ((try simp only [part_ite, currentGone_part, setOutlet_part, openContactors_part, h_, q_, implies_true, ite_self, not_false_eq_true, if_false]) <;> (repeat' split) <;> (first | rfl | (simp only [part_ite, currentGone_part, setOutlet_part, openContactors_part, h_, q_, implies_true, ite_self, not_false_eq_true, if_false]; done) | (simp only [part_ite, currentGone_part, setOutlet_part, openContactors_part, h_, q_, implies_true, ite_self, not_false_eq_true, if_false]; rfl)))

theorem execStopCurrentTimeout_frame {o_ : Obj} (q_ : o_.quiet = true) (h_ : ¬ o_.id ∈ Footprint.execStopCurrentTimeout) (outlet : Fin 24) (s : State) {t : State} (e_ : execStopCurrentTimeout outlet s = .next t) :
    t.view o_ = s.view o_ ∧ t.still = s.canon.still := by
  simp only [Footprint.execStopCurrentTimeout, List.mem_append, List.mem_cons, List.not_mem_nil, or_false, false_or, not_or, and_assoc] at h_
  refine run_frame ?_ e_
  first
  | (simp only [part_ite, part_set, currentGone_part, h_, q_, implies_true, ite_self, not_false_eq_true, if_false]; rfl)
  | ((try simp only [part_ite, part_set, currentGone_part, h_, q_, implies_true, ite_self, not_false_eq_true, if_false]) <;> (repeat' split) <;> (first | rfl | (simp only [part_ite, part_set, currentGone_part, h_, q_, implies_true, ite_self, not_false_eq_true, if_false]; done) | (simp only [part_ite, part_set, currentGone_part, h_, q_, implies_true, ite_self, not_false_eq_true, if_false]; rfl)))

theorem execOutputDischarged_frame {o_ : Obj} (q_ : o_.quiet = true) (h_ : ¬ o_.id ∈ Footprint.execOutputDischarged) (outlet : Fin 24) (s : State) {t : State} (e_ : execOutputDischarged outlet s = .next t) :
    t.view o_ = s.view o_ ∧ t.still = s.canon.still := by
  simp only [Footprint.execOutputDischarged, List.mem_append, List.mem_cons, List.not_mem_nil, or_false, false_or, not_or, and_assoc] at h_
  refine run_frame ?_ e_
  first
  | (simp only [part_ite, part_set, openContactors_part, h_, q_, implies_true, ite_self, not_false_eq_true, if_false]; rfl)
  | ((try simp only [part_ite, part_set, openContactors_part, h_, q_, implies_true, ite_self, not_false_eq_true, if_false]) <;> (repeat' split) <;> (first | rfl | (simp only [part_ite, part_set, openContactors_part, h_, q_, implies_true, ite_self, not_false_eq_true, if_false]; done) | (simp only [part_ite, part_set, openContactors_part, h_, q_, implies_true, ite_self, not_false_eq_true, if_false]; rfl)))

theorem execVehicleVoltageRemains_frame {o_ : Obj} (q_ : o_.quiet = true) (h_ : ¬ o_.id ∈ Footprint.execVehicleVoltageRemains) (outlet : Fin 24) (s : State) {t : State} (e_ : execVehicleVoltageRemains outlet s = .next t) :
    t.view o_ = s.view o_ ∧ t.still = s.canon.still := by
  simp only [Footprint.execVehicleVoltageRemains, List.mem_append, List.mem_cons, List.not_mem_nil, or_false, false_or, not_or, and_assoc] at h_
  refine run_frame ?_ e_
  first
  | (simp only [part_ite, logEvent_part, openContactors_part, weldLeft_part, h_, q_, implies_true, ite_self, not_false_eq_true, if_false]; rfl)
  | ((try simp only [part_ite, logEvent_part, openContactors_part, weldLeft_part, h_, q_, implies_true, ite_self, not_false_eq_true, if_false]) <;> (repeat' split) <;> (first | rfl | (simp only [part_ite, logEvent_part, openContactors_part, weldLeft_part, h_, q_, implies_true, ite_self, not_false_eq_true, if_false]; done) | (simp only [part_ite, logEvent_part, openContactors_part, weldLeft_part, h_, q_, implies_true, ite_self, not_false_eq_true, if_false]; rfl)))

theorem execOutletContactorsOpen_frame {o_ : Obj} (q_ : o_.quiet = true) (h_ : ¬ o_.id ∈ Footprint.execOutletContactorsOpen) (outlet : Fin 24) (s : State) {t : State} (e_ : execOutletContactorsOpen outlet s = .next t) :
    t.view o_ = s.view o_ ∧ t.still = s.canon.still := by
  simp only [Footprint.execOutletContactorsOpen, List.mem_append, List.mem_cons, List.not_mem_nil, or_false, false_or, not_or, and_assoc] at h_
  refine run_frame ?_ e_
  first
  | (simp only [part_ite, part_set, feedbackAgrees_part, imdSend_part, toClosing_part, releaseBlocks_part, tryWeldTest_part, h_, q_, implies_true, ite_self, not_false_eq_true, if_false]; rfl)
  | ((try simp only [part_ite, part_set, feedbackAgrees_part, imdSend_part, toClosing_part, releaseBlocks_part, tryWeldTest_part, h_, q_, implies_true, ite_self, not_false_eq_true, if_false]) <;> (repeat' split) <;> (first | rfl | (simp only [part_ite, part_set, feedbackAgrees_part, imdSend_part, toClosing_part, releaseBlocks_part, tryWeldTest_part, h_, q_, implies_true, ite_self, not_false_eq_true, if_false]; done) | (simp only [part_ite, part_set, feedbackAgrees_part, imdSend_part, toClosing_part, releaseBlocks_part, tryWeldTest_part, h_, q_, implies_true, ite_self, not_false_eq_true, if_false]; rfl)))

theorem execWeldTestHalfComplete_frame {o_ : Obj} (q_ : o_.quiet = true) (h_ : ¬ o_.id ∈ Footprint.execWeldTestHalfComplete) (outlet : Fin 24) (s : State) {t : State} (e_ : execWeldTestHalfComplete outlet s = .next t) :
    t.view o_ = s.view o_ ∧ t.still = s.canon.still := by
  simp only [Footprint.execWeldTestHalfComplete, List.mem_append, List.mem_cons, List.not_mem_nil, or_false, false_or, not_or, and_assoc] at h_
  refine run_frame ?_ e_
  first
  | (simp only [part_ite, part_setBit, beginWeldHalf_part, endWeldTest_part, h_, q_, implies_true, ite_self, not_false_eq_true, if_false]; rfl)
  | ((try simp only [part_ite, part_setBit, beginWeldHalf_part, endWeldTest_part, h_, q_, implies_true, ite_self, not_false_eq_true, if_false]) <;> (repeat' split) <;> (first | rfl | (simp only [part_ite, part_setBit, beginWeldHalf_part, endWeldTest_part, h_, q_, implies_true, ite_self, not_false_eq_true, if_false]; done) | (simp only [part_ite, part_setBit, beginWeldHalf_part, endWeldTest_part, h_, q_, implies_true, ite_self, not_false_eq_true, if_false]; rfl)))

theorem execEmergencyOpenDelay_frame {o_ : Obj} (q_ : o_.quiet = true) (h_ : ¬ o_.id ∈ Footprint.execEmergencyOpenDelay) (outlet : Fin 24) (s : State) {t : State} (e_ : execEmergencyOpenDelay outlet s = .next t) :
    t.view o_ = s.view o_ ∧ t.still = s.canon.still := by
  simp only [Footprint.execEmergencyOpenDelay, List.mem_append, List.mem_cons, List.not_mem_nil, or_false, false_or, not_or, and_assoc] at h_
  refine run_frame ?_ e_
  first
  | (simp only [part_ite, setOutlet_part, openContactors_part, h_, q_, implies_true, ite_self, not_false_eq_true, if_false]; rfl)
  | ((try simp only [part_ite, setOutlet_part, openContactors_part, h_, q_, implies_true, ite_self, not_false_eq_true, if_false]) <;> (repeat' split) <;> (first | rfl | (simp only [part_ite, setOutlet_part, openContactors_part, h_, q_, implies_true, ite_self, not_false_eq_true, if_false]; done) | (simp only [part_ite, setOutlet_part, openContactors_part, h_, q_, implies_true, ite_self, not_false_eq_true, if_false]; rfl)))

theorem execNoCapacityTimeout_frame {o_ : Obj} (q_ : o_.quiet = true) (h_ : ¬ o_.id ∈ Footprint.execNoCapacityTimeout) (outlet : Fin 24) (s : State) {t : State} (e_ : execNoCapacityTimeout outlet s = .next t) :
    t.view o_ = s.view o_ ∧ t.still = s.canon.still := by
  simp only [Footprint.execNoCapacityTimeout, List.mem_append, List.mem_cons, List.not_mem_nil, or_false, false_or, not_or, and_assoc] at h_
  refine run_frame ?_ e_
  first
  | (simp only [part_ite, outletFault_part, h_, q_, implies_true, ite_self, not_false_eq_true, if_false]; rfl)
  | ((try simp only [part_ite, outletFault_part, h_, q_, implies_true, ite_self, not_false_eq_true, if_false]) <;> (repeat' split) <;> (first | rfl | (simp only [part_ite, outletFault_part, h_, q_, implies_true, ite_self, not_false_eq_true, if_false]; done) | (simp only [part_ite, outletFault_part, h_, q_, implies_true, ite_self, not_false_eq_true, if_false]; rfl)))

theorem execStopSessionNormal_frame {o_ : Obj} (q_ : o_.quiet = true) (h_ : ¬ o_.id ∈ Footprint.execStopSessionNormal) (r : Req) (outlet : Fin 24) (s : State) {t : State} (e_ : execStopSessionNormal r outlet s = .next t) :
    t.view o_ = s.view o_ ∧ t.still = s.canon.still := by
  simp only [Footprint.execStopSessionNormal, List.mem_append, List.mem_cons, List.not_mem_nil, or_false, false_or, not_or, and_assoc] at h_
  refine run_frame (hostWrite_part q_ (by simp only [h_, not_false_eq_true]) _ _ _ _ _ (fun _ u t e => ?_) _) e_
  (try dsimp only at e)
  repeat' split at e
  all_goals first
      | exact absurd e (by simp only [reduceCtorEq, not_false_eq_true])
      | (rw [← Except.ok.inj e]; done)
      | (rw [← Except.ok.inj e]; simp only [part_ite, normalStop_part, h_, q_, implies_true, ite_self, not_false_eq_true, if_false]; done)
      | (rw [← Except.ok.inj e]; (try simp only [part_ite, normalStop_part, h_, q_, implies_true, ite_self, not_false_eq_true, if_false]) <;> (repeat' split) <;> (first | (simp only [part_ite, normalStop_part, h_, q_, implies_true, ite_self, not_false_eq_true, if_false]; done) | rfl))

theorem execStopSessionEmergency_frame {o_ : Obj} (q_ : o_.quiet = true) (h_ : ¬ o_.id ∈ Footprint.execStopSessionEmergency) (r : Req) (outlet : Fin 24) (s : State) {t : State} (e_ : execStopSessionEmergency r outlet s = .next t) :
    t.view o_ = s.view o_ ∧ t.still = s.canon.still := by
  simp only [Footprint.execStopSessionEmergency, List.mem_append, List.mem_cons, List.not_mem_nil, or_false, false_or, not_or, and_assoc] at h_
  refine run_frame (hostWrite_part q_ (by simp only [h_, not_false_eq_true]) _ _ _ _ _ (fun _ u t e => ?_) _) e_
  (try dsimp only at e)
  repeat' split at e
  all_goals first
      | exact absurd e (by simp only [reduceCtorEq, not_false_eq_true])
      | (rw [← Except.ok.inj e]; done)
      | (rw [← Except.ok.inj e]; simp only [part_ite, emergencyStop_part, h_, q_, implies_true, ite_self, not_false_eq_true, if_false]; done)
      | (rw [← Except.ok.inj e]; (try simp only [part_ite, emergencyStop_part, h_, q_, implies_true, ite_self, not_false_eq_true, if_false]) <;> (repeat' split) <;> (first | (simp only [part_ite, emergencyStop_part, h_, q_, implies_true, ite_self, not_false_eq_true, if_false]; done) | rfl))

theorem execVehicleRequest_frame {o_ : Obj} (q_ : o_.quiet = true) (h_ : ¬ o_.id ∈ Footprint.execVehicleRequest) (outlet : Fin 24) (kind mv mi tv soc : Nat) (s : State) {t : State} (e_ : execVehicleRequest outlet kind mv mi tv soc s = .next t) :
    t.view o_ = s.view o_ ∧ t.still = s.canon.still := by
  simp only [Footprint.execVehicleRequest, List.mem_append, List.mem_cons, List.not_mem_nil, or_false, false_or, not_or, and_assoc] at h_
  refine run_frame ?_ e_
  first
  | (simp only [part_ite, vehicleRequest_part, h_, q_, implies_true, ite_self, not_false_eq_true, if_false]; rfl)
  | ((try simp only [part_ite, vehicleRequest_part, h_, q_, implies_true, ite_self, not_false_eq_true, if_false]) <;> (repeat' split) <;> (first | rfl | (simp only [part_ite, vehicleRequest_part, h_, q_, implies_true, ite_self, not_false_eq_true, if_false]; done) | (simp only [part_ite, vehicleRequest_part, h_, q_, implies_true, ite_self, not_false_eq_true, if_false]; rfl)))

theorem execTelemetryDeadline_frame {o_ : Obj} (q_ : o_.quiet = true) (h_ : ¬ o_.id ∈ Footprint.execTelemetryDeadline)  (s : State) {t : State} (e_ : execTelemetryDeadline s = .next t) :
    t.view o_ = s.view o_ ∧ t.still = s.canon.still := by
  simp only [Footprint.execTelemetryDeadline, List.mem_append, List.mem_cons, List.not_mem_nil, or_false, false_or, not_or, and_assoc] at h_
  refine run_frame ?_ e_
  first
  | (simp only [part_ite, telemetryDeadline_part, h_, q_, implies_true, ite_self, not_false_eq_true, if_false]; rfl)
  | ((try simp only [part_ite, telemetryDeadline_part, h_, q_, implies_true, ite_self, not_false_eq_true, if_false]) <;> (repeat' split) <;> (first | rfl | (simp only [part_ite, telemetryDeadline_part, h_, q_, implies_true, ite_self, not_false_eq_true, if_false]; done) | (simp only [part_ite, telemetryDeadline_part, h_, q_, implies_true, ite_self, not_false_eq_true, if_false]; rfl)))

theorem execMigrationStart_frame {o_ : Obj} (q_ : o_.quiet = true) (h_ : ¬ o_.id ∈ Footprint.execMigrationStart) (block : Fin 64) (s : State) {t : State} (e_ : execMigrationStart block s = .next t) :
    t.view o_ = s.view o_ ∧ t.still = s.canon.still := by
  simp only [Footprint.execMigrationStart, List.mem_append, List.mem_cons, List.not_mem_nil, or_false, false_or, not_or, and_assoc] at h_
  refine run_frame ?_ e_
  first
  | (simp only [part_ite, startMove_part, h_, q_, implies_true, ite_self, not_false_eq_true, if_false]; rfl)
  | ((try simp only [part_ite, startMove_part, h_, q_, implies_true, ite_self, not_false_eq_true, if_false]) <;> (repeat' split) <;> (first | rfl | (simp only [part_ite, startMove_part, h_, q_, implies_true, ite_self, not_false_eq_true, if_false]; done) | (simp only [part_ite, startMove_part, h_, q_, implies_true, ite_self, not_false_eq_true, if_false]; rfl)))

theorem execMigrationReachOpen_frame {o_ : Obj} (q_ : o_.quiet = true) (h_ : ¬ o_.id ∈ Footprint.execMigrationReachOpen) (block : Fin 64) (s : State) {t : State} (e_ : execMigrationReachOpen block s = .next t) :
    t.view o_ = s.view o_ ∧ t.still = s.canon.still := by
  simp only [Footprint.execMigrationReachOpen, List.mem_append, List.mem_cons, List.not_mem_nil, or_false, false_or, not_or, and_assoc] at h_
  refine run_frame ?_ e_
  first
  | (simp only [part_ite, part_set, openReaches_part, putShare_part, h_, q_, implies_true, ite_self, not_false_eq_true, if_false]; rfl)
  | ((try simp only [part_ite, part_set, openReaches_part, putShare_part, h_, q_, implies_true, ite_self, not_false_eq_true, if_false]) <;> (repeat' split) <;> (first | rfl | (simp only [part_ite, part_set, openReaches_part, putShare_part, h_, q_, implies_true, ite_self, not_false_eq_true, if_false]; done) | (simp only [part_ite, part_set, openReaches_part, putShare_part, h_, q_, implies_true, ite_self, not_false_eq_true, if_false]; rfl)))

theorem execMigrationWaitEnd_frame {o_ : Obj} (q_ : o_.quiet = true) (h_ : ¬ o_.id ∈ Footprint.execMigrationWaitEnd) (block : Fin 64) (s : State) {t : State} (e_ : execMigrationWaitEnd block s = .next t) :
    t.view o_ = s.view o_ ∧ t.still = s.canon.still := by
  simp only [Footprint.execMigrationWaitEnd, List.mem_append, List.mem_cons, List.not_mem_nil, or_false, false_or, not_or, and_assoc] at h_
  refine run_frame ?_ e_
  first
  | (simp only [part_ite, part_set, withholdBlock_part, stopBlock_part, h_, q_, implies_true, ite_self, not_false_eq_true, if_false]; rfl)
  | ((try simp only [part_ite, part_set, withholdBlock_part, stopBlock_part, h_, q_, implies_true, ite_self, not_false_eq_true, if_false]) <;> (repeat' split) <;> (first | rfl | (simp only [part_ite, part_set, withholdBlock_part, stopBlock_part, h_, q_, implies_true, ite_self, not_false_eq_true, if_false]; done) | (simp only [part_ite, part_set, withholdBlock_part, stopBlock_part, h_, q_, implies_true, ite_self, not_false_eq_true, if_false]; rfl)))

theorem execMigrationPreChargeDone_frame {o_ : Obj} (q_ : o_.quiet = true) (h_ : ¬ o_.id ∈ Footprint.execMigrationPreChargeDone) (block : Fin 64) (s : State) {t : State} (e_ : execMigrationPreChargeDone block s = .next t) :
    t.view o_ = s.view o_ ∧ t.still = s.canon.still := by
  simp only [Footprint.execMigrationPreChargeDone, List.mem_append, List.mem_cons, List.not_mem_nil, or_false, false_or, not_or, and_assoc] at h_
  refine run_frame ?_ e_
  first
  | (simp only [part_ite, part_set, commandReach_part, putShare_part, h_, q_, implies_true, ite_self, not_false_eq_true, if_false]; rfl)
  | ((try simp only [part_ite, part_set, commandReach_part, putShare_part, h_, q_, implies_true, ite_self, not_false_eq_true, if_false]) <;> (repeat' split) <;> (first | rfl | (simp only [part_ite, part_set, commandReach_part, putShare_part, h_, q_, implies_true, ite_self, not_false_eq_true, if_false]; done) | (simp only [part_ite, part_set, commandReach_part, putShare_part, h_, q_, implies_true, ite_self, not_false_eq_true, if_false]; rfl)))

theorem execMigrationClosedReported_frame {o_ : Obj} (q_ : o_.quiet = true) (h_ : ¬ o_.id ∈ Footprint.execMigrationClosedReported) (block : Fin 64) (s : State) {t : State} (e_ : execMigrationClosedReported block s = .next t) :
    t.view o_ = s.view o_ ∧ t.still = s.canon.still := by
  simp only [Footprint.execMigrationClosedReported, List.mem_append, List.mem_cons, List.not_mem_nil, or_false, false_or, not_or, and_assoc] at h_
  refine run_frame ?_ e_
  first
  | (simp only [part_ite, part_set, h_, q_, implies_true, ite_self, not_false_eq_true, if_false]; rfl)
  | ((try simp only [part_ite, part_set, h_, q_, implies_true, ite_self, not_false_eq_true, if_false]) <;> (repeat' split) <;> (first | rfl | (simp only [part_ite, part_set, h_, q_, implies_true, ite_self, not_false_eq_true, if_false]; done) | (simp only [part_ite, part_set, h_, q_, implies_true, ite_self, not_false_eq_true, if_false]; rfl)))

theorem execMigrationSettled_frame {o_ : Obj} (q_ : o_.quiet = true) (h_ : ¬ o_.id ∈ Footprint.execMigrationSettled) (block : Fin 64) (s : State) {t : State} (e_ : execMigrationSettled block s = .next t) :
    t.view o_ = s.view o_ ∧ t.still = s.canon.still := by
  simp only [Footprint.execMigrationSettled, List.mem_append, List.mem_cons, List.not_mem_nil, or_false, false_or, not_or, and_assoc] at h_
  refine run_frame ?_ e_
  first
  | (simp only [part_ite, part_set, completeMove_part, h_, q_, implies_true, ite_self, not_false_eq_true, if_false]; rfl)
  | ((try simp only [part_ite, part_set, completeMove_part, h_, q_, implies_true, ite_self, not_false_eq_true, if_false]) <;> (repeat' split) <;> (first | rfl | (simp only [part_ite, part_set, completeMove_part, h_, q_, implies_true, ite_self, not_false_eq_true, if_false]; done) | (simp only [part_ite, part_set, completeMove_part, h_, q_, implies_true, ite_self, not_false_eq_true, if_false]; rfl)))

theorem execMigrationOpenTimeout_frame {o_ : Obj} (q_ : o_.quiet = true) (h_ : ¬ o_.id ∈ Footprint.execMigrationOpenTimeout) (block : Fin 64) (s : State) {t : State} (e_ : execMigrationOpenTimeout block s = .next t) :
    t.view o_ = s.view o_ ∧ t.still = s.canon.still := by
  simp only [Footprint.execMigrationOpenTimeout, List.mem_append, List.mem_cons, List.not_mem_nil, or_false, false_or, not_or, and_assoc] at h_
  refine run_frame ?_ e_
  first
  | (simp only [part_ite, resettle_part, h_, q_, implies_true, ite_self, not_false_eq_true, if_false]; rfl)
  | ((try simp only [part_ite, resettle_part, h_, q_, implies_true, ite_self, not_false_eq_true, if_false]) <;> (repeat' split) <;> (first | rfl | (simp only [part_ite, resettle_part, h_, q_, implies_true, ite_self, not_false_eq_true, if_false]; done) | (simp only [part_ite, resettle_part, h_, q_, implies_true, ite_self, not_false_eq_true, if_false]; rfl)))

theorem execMigrationPreChargeTimeout_frame {o_ : Obj} (q_ : o_.quiet = true) (h_ : ¬ o_.id ∈ Footprint.execMigrationPreChargeTimeout) (block : Fin 64) (s : State) {t : State} (e_ : execMigrationPreChargeTimeout block s = .next t) :
    t.view o_ = s.view o_ ∧ t.still = s.canon.still := by
  simp only [Footprint.execMigrationPreChargeTimeout, List.mem_append, List.mem_cons, List.not_mem_nil, or_false, false_or, not_or, and_assoc] at h_
  refine run_frame ?_ e_
  first
  | (simp only [part_ite, dropMove_part, h_, q_, implies_true, ite_self, not_false_eq_true, if_false]; rfl)
  | ((try simp only [part_ite, dropMove_part, h_, q_, implies_true, ite_self, not_false_eq_true, if_false]) <;> (repeat' split) <;> (first | rfl | (simp only [part_ite, dropMove_part, h_, q_, implies_true, ite_self, not_false_eq_true, if_false]; done) | (simp only [part_ite, dropMove_part, h_, q_, implies_true, ite_self, not_false_eq_true, if_false]; rfl)))

theorem execMigrationCloseTimeout_frame {o_ : Obj} (q_ : o_.quiet = true) (h_ : ¬ o_.id ∈ Footprint.execMigrationCloseTimeout) (block : Fin 64) (s : State) {t : State} (e_ : execMigrationCloseTimeout block s = .next t) :
    t.view o_ = s.view o_ ∧ t.still = s.canon.still := by
  simp only [Footprint.execMigrationCloseTimeout, List.mem_append, List.mem_cons, List.not_mem_nil, or_false, false_or, not_or, and_assoc] at h_
  refine run_frame ?_ e_
  first
  | (simp only [part_ite, part_set, withholdBlock_part, h_, q_, implies_true, ite_self, not_false_eq_true, if_false]; rfl)
  | ((try simp only [part_ite, part_set, withholdBlock_part, h_, q_, implies_true, ite_self, not_false_eq_true, if_false]) <;> (repeat' split) <;> (first | rfl | (simp only [part_ite, part_set, withholdBlock_part, h_, q_, implies_true, ite_self, not_false_eq_true, if_false]; done) | (simp only [part_ite, part_set, withholdBlock_part, h_, q_, implies_true, ite_self, not_false_eq_true, if_false]; rfl)))

theorem execAllocationPassComplete_frame {o_ : Obj} (q_ : o_.quiet = true) (h_ : ¬ o_.id ∈ Footprint.execAllocationPassComplete)  (s : State) {t : State} (e_ : execAllocationPassComplete s = .next t) :
    t.view o_ = s.view o_ ∧ t.still = s.canon.still := by
  simp only [Footprint.execAllocationPassComplete, List.mem_append, List.mem_cons, List.not_mem_nil, or_false, false_or, not_or, and_assoc] at h_
  refine run_frame ?_ e_
  first
  | (simp only [part_ite, part_set, h_, q_, implies_true, ite_self, not_false_eq_true, if_false]; rfl)
  | ((try simp only [part_ite, part_set, h_, q_, implies_true, ite_self, not_false_eq_true, if_false]) <;> (repeat' split) <;> (first | rfl | (simp only [part_ite, part_set, h_, q_, implies_true, ite_self, not_false_eq_true, if_false]; done) | (simp only [part_ite, part_set, h_, q_, implies_true, ite_self, not_false_eq_true, if_false]; rfl)))

theorem execAllocatorFastPassOverrun_frame {o_ : Obj} (q_ : o_.quiet = true) (h_ : ¬ o_.id ∈ Footprint.execAllocatorFastPassOverrun)  (s : State) {t : State} (e_ : execAllocatorFastPassOverrun s = .next t) :
    t.view o_ = s.view o_ ∧ t.still = s.canon.still := by
  simp only [Footprint.execAllocatorFastPassOverrun, List.mem_append, List.mem_cons, List.not_mem_nil, or_false, false_or, not_or, and_assoc] at h_
  refine run_frame ?_ e_
  first
  | (simp only [part_ite, part_set, part_inc, logLimited_part, h_, q_, implies_true, ite_self, not_false_eq_true, if_false]; rfl)
  | ((try simp only [part_ite, part_set, part_inc, logLimited_part, h_, q_, implies_true, ite_self, not_false_eq_true, if_false]) <;> (repeat' split) <;> (first | rfl | (simp only [part_ite, part_set, part_inc, logLimited_part, h_, q_, implies_true, ite_self, not_false_eq_true, if_false]; done) | (simp only [part_ite, part_set, part_inc, logLimited_part, h_, q_, implies_true, ite_self, not_false_eq_true, if_false]; rfl)))

theorem execFastPassOverrunLimit_frame {o_ : Obj} (q_ : o_.quiet = true) (h_ : ¬ o_.id ∈ Footprint.execFastPassOverrunLimit)  (s : State) {t : State} (e_ : execFastPassOverrunLimit s = .next t) :
    t.view o_ = s.view o_ ∧ t.still = s.canon.still := by
  simp only [Footprint.execFastPassOverrunLimit, List.mem_append, List.mem_cons, List.not_mem_nil, or_false, false_or, not_or, and_assoc] at h_
  refine run_frame ?_ e_
  first
  | (simp only [part_ite, stopAllBlocks_part, h_, q_, implies_true, ite_self, not_false_eq_true, if_false]; rfl)
  | ((try simp only [part_ite, stopAllBlocks_part, h_, q_, implies_true, ite_self, not_false_eq_true, if_false]) <;> (repeat' split) <;> (first | rfl | (simp only [part_ite, stopAllBlocks_part, h_, q_, implies_true, ite_self, not_false_eq_true, if_false]; done) | (simp only [part_ite, stopAllBlocks_part, h_, q_, implies_true, ite_self, not_false_eq_true, if_false]; rfl)))

theorem execDynamicLimitWrite_frame {o_ : Obj} (q_ : o_.quiet = true) (h_ : ¬ o_.id ∈ Footprint.execDynamicLimitWrite) (r : Req) (data : List Byte) (s : State) {t : State} (e_ : execDynamicLimitWrite r data s = .next t) :
    t.view o_ = s.view o_ ∧ t.still = s.canon.still := by
  simp only [Footprint.execDynamicLimitWrite, List.mem_append, List.mem_cons, List.not_mem_nil, or_false, false_or, not_or, and_assoc] at h_
  refine run_frame (hostWrite_part q_ (by simp only [h_, not_false_eq_true]) _ _ _ _ _ (fun _ u t e => ?_) _) e_
  (try dsimp only at e)
  repeat' split at e
  all_goals first
      | exact absurd e (by simp only [reduceCtorEq, not_false_eq_true])
      | (rw [← Except.ok.inj e]; done)
      | (rw [← Except.ok.inj e]; simp only [part_ite, part_set, h_, q_, implies_true, ite_self, not_false_eq_true, if_false]; done)
      | (rw [← Except.ok.inj e]; (try simp only [part_ite, part_set, h_, q_, implies_true, ite_self, not_false_eq_true, if_false]) <;> (repeat' split) <;> (first | (simp only [part_ite, part_set, h_, q_, implies_true, ite_self, not_false_eq_true, if_false]; done) | rfl))

theorem execDynamicLimitExpiry_frame {o_ : Obj} (q_ : o_.quiet = true) (h_ : ¬ o_.id ∈ Footprint.execDynamicLimitExpiry)  (s : State) {t : State} (e_ : execDynamicLimitExpiry s = .next t) :
    t.view o_ = s.view o_ ∧ t.still = s.canon.still := by
  simp only [Footprint.execDynamicLimitExpiry, List.mem_append, List.mem_cons, List.not_mem_nil, or_false, false_or, not_or, and_assoc] at h_
  refine run_frame ?_ e_
  first
  | (simp only [part_ite, part_set, logEvent_part, h_, q_, implies_true, ite_self, not_false_eq_true, if_false]; rfl)
  | ((try simp only [part_ite, part_set, logEvent_part, h_, q_, implies_true, ite_self, not_false_eq_true, if_false]) <;> (repeat' split) <;> (first | rfl | (simp only [part_ite, part_set, logEvent_part, h_, q_, implies_true, ite_self, not_false_eq_true, if_false]; done) | (simp only [part_ite, part_set, logEvent_part, h_, q_, implies_true, ite_self, not_false_eq_true, if_false]; rfl)))

theorem execMainsPresentHoldEnd_frame {o_ : Obj} (q_ : o_.quiet = true) (h_ : ¬ o_.id ∈ Footprint.execMainsPresentHoldEnd) (feeder : Fin 4) (s : State) {t : State} (e_ : execMainsPresentHoldEnd feeder s = .next t) :
    t.view o_ = s.view o_ ∧ t.still = s.canon.still := by
  simp only [Footprint.execMainsPresentHoldEnd, List.mem_append, List.mem_cons, List.not_mem_nil, or_false, false_or, not_or, and_assoc] at h_
  refine run_frame ?_ e_
  first
  | (simp only [part_ite, part_set, forN_part, freeBlock_part, h_, q_, implies_true, ite_self, not_false_eq_true, if_false]; rfl)
  | ((try simp only [part_ite, part_set, forN_part, freeBlock_part, h_, q_, implies_true, ite_self, not_false_eq_true, if_false]) <;> (repeat' split) <;> (first | rfl | (simp only [part_ite, part_set, forN_part, freeBlock_part, h_, q_, implies_true, ite_self, not_false_eq_true, if_false]; done) | (simp only [part_ite, part_set, forN_part, freeBlock_part, h_, q_, implies_true, ite_self, not_false_eq_true, if_false]; rfl)))

theorem execClearWithhold_frame {o_ : Obj} (q_ : o_.quiet = true) (h_ : ¬ o_.id ∈ Footprint.execClearWithhold) (r : Req) (block : Fin 64) (data : List Byte) (s : State) {t : State} (e_ : execClearWithhold r block data s = .next t) :
    t.view o_ = s.view o_ ∧ t.still = s.canon.still := by
  simp only [Footprint.execClearWithhold, List.mem_append, List.mem_cons, List.not_mem_nil, or_false, false_or, not_or, and_assoc] at h_
  refine run_frame (hostWrite_part q_ (by simp only [h_, not_false_eq_true]) _ _ _ _ _ (fun _ u t e => ?_) _) e_
  (try dsimp only at e)
  repeat' split at e
  all_goals first
      | exact absurd e (by simp only [reduceCtorEq, not_false_eq_true])
      | (rw [← Except.ok.inj e]; done)
      | (rw [← Except.ok.inj e]; simp only [part_ite, part_set, freeBlock_part, h_, q_, implies_true, ite_self, not_false_eq_true, if_false]; done)
      | (rw [← Except.ok.inj e]; (try simp only [part_ite, part_set, freeBlock_part, h_, q_, implies_true, ite_self, not_false_eq_true, if_false]) <;> (repeat' split) <;> (first | (simp only [part_ite, part_set, freeBlock_part, h_, q_, implies_true, ite_self, not_false_eq_true, if_false]; done) | rfl))

theorem execCrossingMissing_frame {o_ : Obj} (q_ : o_.quiet = true) (h_ : ¬ o_.id ∈ Footprint.execCrossingMissing)  (s : State) {t : State} (e_ : execCrossingMissing s = .next t) :
    t.view o_ = s.view o_ ∧ t.still = s.canon.still := by
  simp only [Footprint.execCrossingMissing, List.mem_append, List.mem_cons, List.not_mem_nil, or_false, false_or, not_or, and_assoc] at h_
  refine run_frame ?_ e_
  first
  | (simp only [part_ite, part_setB, lostHalf_part, h_, q_, implies_true, ite_self, not_false_eq_true, if_false]; rfl)
  | ((try simp only [part_ite, part_setB, lostHalf_part, h_, q_, implies_true, ite_self, not_false_eq_true, if_false]) <;> (repeat' split) <;> (first | rfl | (simp only [part_ite, part_setB, lostHalf_part, h_, q_, implies_true, ite_self, not_false_eq_true, if_false]; done) | (simp only [part_ite, part_setB, lostHalf_part, h_, q_, implies_true, ite_self, not_false_eq_true, if_false]; rfl)))

theorem execClaimRound_frame {o_ : Obj} (q_ : o_.quiet = true) (h_ : ¬ o_.id ∈ Footprint.execClaimRound) (heard : List (Fin 4)) (s : State) {t : State} (e_ : execClaimRound heard s = .next t) :
    t.view o_ = s.view o_ ∧ t.still = s.canon.still := by
  simp only [Footprint.execClaimRound, List.mem_append, List.mem_cons, List.not_mem_nil, or_false, false_or, not_or, and_assoc] at h_
  refine run_frame ?_ e_
  first
  | (simp only [part_ite, part_set, part_setLog, transmit_part, h_, q_, implies_true, ite_self, not_false_eq_true, if_false]; rfl)
  | ((try simp only [part_ite, part_set, part_setLog, transmit_part, h_, q_, implies_true, ite_self, not_false_eq_true, if_false]) <;> (repeat' split) <;> (first | rfl | (simp only [part_ite, part_set, part_setLog, transmit_part, h_, q_, implies_true, ite_self, not_false_eq_true, if_false]; done) | (simp only [part_ite, part_set, part_setLog, transmit_part, h_, q_, implies_true, ite_self, not_false_eq_true, if_false]; rfl)))

theorem execResponseTimeoutRepeat_frame {o_ : Obj} (q_ : o_.quiet = true) (h_ : ¬ o_.id ∈ Footprint.execResponseTimeoutRepeat)  (s : State) {t : State} (e_ : execResponseTimeoutRepeat s = .next t) :
    t.view o_ = s.view o_ ∧ t.still = s.canon.still := by
  simp only [Footprint.execResponseTimeoutRepeat, List.mem_append, List.mem_cons, List.not_mem_nil, or_false, false_or, not_or, and_assoc] at h_
  refine run_frame ?_ e_
  first
  | (simp only [part_ite, part_set, part_draw, giveUp_part, transmit_part, h_, q_, implies_true, ite_self, not_false_eq_true, if_false]; rfl)
  | ((try simp only [part_ite, part_set, part_draw, giveUp_part, transmit_part, h_, q_, implies_true, ite_self, not_false_eq_true, if_false]) <;> (repeat' split) <;> (first | rfl | (simp only [part_ite, part_set, part_draw, giveUp_part, transmit_part, h_, q_, implies_true, ite_self, not_false_eq_true, if_false]; done) | (simp only [part_ite, part_set, part_draw, giveUp_part, transmit_part, h_, q_, implies_true, ite_self, not_false_eq_true, if_false]; rfl)))

theorem execPoll_frame {o_ : Obj} (q_ : o_.quiet = true) (h_ : ¬ o_.id ∈ Footprint.execPoll) (outstation : Fin 63) (s : State) {t : State} (e_ : execPoll outstation s = .next t) :
    t.view o_ = s.view o_ ∧ t.still = s.canon.still := by
  simp only [Footprint.execPoll, List.mem_append, List.mem_cons, List.not_mem_nil, or_false, false_or, not_or, and_assoc] at h_
  refine run_frame ?_ e_
  first
  | (simp only [part_ite, part_set, queueFrame_part, h_, q_, implies_true, ite_self, not_false_eq_true, if_false]; rfl)
  | ((try simp only [part_ite, part_set, queueFrame_part, h_, q_, implies_true, ite_self, not_false_eq_true, if_false]) <;> (repeat' split) <;> (first | rfl | (simp only [part_ite, part_set, queueFrame_part, h_, q_, implies_true, ite_self, not_false_eq_true, if_false]; done) | (simp only [part_ite, part_set, queueFrame_part, h_, q_, implies_true, ite_self, not_false_eq_true, if_false]; rfl)))

theorem execOutstationCommand_frame {o_ : Obj} (q_ : o_.quiet = true) (h_ : ¬ o_.id ∈ Footprint.execOutstationCommand) (r : Req) (outstation : Fin 63) (data : List Byte) (s : State) {t : State} (e_ : execOutstationCommand r outstation data s = .next t) :
    t.view o_ = s.view o_ ∧ t.still = s.canon.still := by
  simp only [Footprint.execOutstationCommand, List.mem_append, List.mem_cons, List.not_mem_nil, or_false, false_or, not_or, and_assoc] at h_
  refine run_frame (hostWrite_part q_ (by simp only [h_, not_false_eq_true]) _ _ _ _ _ (fun _ u t e => ?_) _) e_
  (try dsimp only at e)
  repeat' split at e
  all_goals first
      | exact absurd e (by simp only [reduceCtorEq, not_false_eq_true])
      | exact commandOs_part q_ (by simp only [h_, not_false_eq_true]) _ _ _ e
      | (rw [← Except.ok.inj e]; done)
      | (rw [← Except.ok.inj e]; simp only [part_ite, commandOs_part, h_, q_, implies_true, ite_self, not_false_eq_true, if_false]; done)
      | (rw [← Except.ok.inj e]; (try simp only [part_ite, commandOs_part, h_, q_, implies_true, ite_self, not_false_eq_true, if_false]) <;> (repeat' split) <;> (first | (simp only [part_ite, commandOs_part, h_, q_, implies_true, ite_self, not_false_eq_true, if_false]; done) | rfl))

theorem execStatus_frame {o_ : Obj} (q_ : o_.quiet = true) (h_ : ¬ o_.id ∈ Footprint.execStatus) (header body : List Byte) (s : State) {t : State} (e_ : execStatus header body s = .next t) :
    t.view o_ = s.view o_ ∧ t.still = s.canon.still := by
  simp only [Footprint.execStatus, List.mem_append, List.mem_cons, List.not_mem_nil, or_false, false_or, not_or, and_assoc] at h_
  refine run_frame ?_ e_
  first
  | (simp only [part_ite, part_set, takeFrame_part, settleAwait_part, h_, q_, implies_true, ite_self, not_false_eq_true, if_false]; rfl)
  | ((try simp only [part_ite, part_set, takeFrame_part, settleAwait_part, h_, q_, implies_true, ite_self, not_false_eq_true, if_false]) <;> (repeat' split) <;> (first | rfl | (simp only [part_ite, part_set, takeFrame_part, settleAwait_part, h_, q_, implies_true, ite_self, not_false_eq_true, if_false]; done) | (simp only [part_ite, part_set, takeFrame_part, settleAwait_part, h_, q_, implies_true, ite_self, not_false_eq_true, if_false]; rfl)))

theorem execAlarm_frame {o_ : Obj} (q_ : o_.quiet = true) (h_ : ¬ o_.id ∈ Footprint.execAlarm) (header body : List Byte) (s : State) {t : State} (e_ : execAlarm header body s = .next t) :
    t.view o_ = s.view o_ ∧ t.still = s.canon.still := by
  simp only [Footprint.execAlarm, List.mem_append, List.mem_cons, List.not_mem_nil, or_false, false_or, not_or, and_assoc] at h_
  refine run_frame ?_ e_
  first
  | (simp only [part_ite, part_set, part_inc, logEvent_part, takeFrame_part, queueAck_part, h_, q_, implies_true, ite_self, not_false_eq_true, if_false]; rfl)
  | ((try simp only [part_ite, part_set, part_inc, logEvent_part, takeFrame_part, queueAck_part, h_, q_, implies_true, ite_self, not_false_eq_true, if_false]) <;> (repeat' split) <;> (first | rfl | (simp only [part_ite, part_set, part_inc, logEvent_part, takeFrame_part, queueAck_part, h_, q_, implies_true, ite_self, not_false_eq_true, if_false]; done) | (simp only [part_ite, part_set, part_inc, logEvent_part, takeFrame_part, queueAck_part, h_, q_, implies_true, ite_self, not_false_eq_true, if_false]; rfl)))

theorem execAck_frame {o_ : Obj} (q_ : o_.quiet = true) (h_ : ¬ o_.id ∈ Footprint.execAck) (header body : List Byte) (s : State) {t : State} (e_ : execAck header body s = .next t) :
    t.view o_ = s.view o_ ∧ t.still = s.canon.still := by
  simp only [Footprint.execAck, List.mem_append, List.mem_cons, List.not_mem_nil, or_false, false_or, not_or, and_assoc] at h_
  refine run_frame ?_ e_
  first
  | (simp only [part_ite, takeFrame_part, installMap_part, settleAwait_part, h_, q_, implies_true, ite_self, not_false_eq_true, if_false]; rfl)
  | ((try simp only [part_ite, takeFrame_part, installMap_part, settleAwait_part, h_, q_, implies_true, ite_self, not_false_eq_true, if_false]) <;> (repeat' split) <;> (first | rfl | (simp only [part_ite, takeFrame_part, installMap_part, settleAwait_part, h_, q_, implies_true, ite_self, not_false_eq_true, if_false]; done) | (simp only [part_ite, takeFrame_part, installMap_part, settleAwait_part, h_, q_, implies_true, ite_self, not_false_eq_true, if_false]; rfl)))

theorem execSound_frame {o_ : Obj} (q_ : o_.quiet = true) (h_ : ¬ o_.id ∈ Footprint.execSound) (header : List Byte) (snr : List Int) (s : State) {t : State} (e_ : execSound header snr s = .next t) :
    t.view o_ = s.view o_ ∧ t.still = s.canon.still := by
  simp only [Footprint.execSound, List.mem_append, List.mem_cons, List.not_mem_nil, or_false, false_or, not_or, and_assoc] at h_
  refine run_frame ?_ e_
  first
  | (simp only [part_ite, part_set, takeFrame_part, settleAwait_part, queueFrame_part, h_, q_, implies_true, ite_self, not_false_eq_true, if_false]; rfl)
  | ((try simp only [part_ite, part_set, takeFrame_part, settleAwait_part, queueFrame_part, h_, q_, implies_true, ite_self, not_false_eq_true, if_false]) <;> (repeat' split) <;> (first | rfl | (simp only [part_ite, part_set, takeFrame_part, settleAwait_part, queueFrame_part, h_, q_, implies_true, ite_self, not_false_eq_true, if_false]; done) | (simp only [part_ite, part_set, takeFrame_part, settleAwait_part, queueFrame_part, h_, q_, implies_true, ite_self, not_false_eq_true, if_false]; rfl)))

theorem execMap_frame {o_ : Obj} (q_ : o_.quiet = true) (h_ : ¬ o_.id ∈ Footprint.execMap) (header body : List Byte) (s : State) {t : State} (e_ : execMap header body s = .next t) :
    t.view o_ = s.view o_ ∧ t.still = s.canon.still := by
  simp only [Footprint.execMap, List.mem_append, List.mem_cons, List.not_mem_nil, or_false, false_or, not_or, and_assoc] at h_
  refine run_frame ?_ e_
  first
  | (simp only [part_ite, takeFrame_part, queueAck_part, settleAwait_part, installMap_part, h_, q_, implies_true, ite_self, not_false_eq_true, if_false]; rfl)
  | ((try simp only [part_ite, takeFrame_part, queueAck_part, settleAwait_part, installMap_part, h_, q_, implies_true, ite_self, not_false_eq_true, if_false]) <;> (repeat' split) <;> (first | rfl | (simp only [part_ite, takeFrame_part, queueAck_part, settleAwait_part, installMap_part, h_, q_, implies_true, ite_self, not_false_eq_true, if_false]; done) | (simp only [part_ite, takeFrame_part, queueAck_part, settleAwait_part, installMap_part, h_, q_, implies_true, ite_self, not_false_eq_true, if_false]; rfl)))

theorem execEstimationDue_frame {o_ : Obj} (q_ : o_.quiet = true) (h_ : ¬ o_.id ∈ Footprint.execEstimationDue) (outstation : Fin 63) (fromOs : Bool) (s : State) {t : State} (e_ : execEstimationDue outstation fromOs s = .next t) :
    t.view o_ = s.view o_ ∧ t.still = s.canon.still := by
  simp only [Footprint.execEstimationDue, List.mem_append, List.mem_cons, List.not_mem_nil, or_false, false_or, not_or, and_assoc] at h_
  refine run_frame ?_ e_
  first
  | (simp only [part_ite, part_set, queueFrame_part, h_, q_, implies_true, ite_self, not_false_eq_true, if_false]; rfl)
  | ((try simp only [part_ite, part_set, queueFrame_part, h_, q_, implies_true, ite_self, not_false_eq_true, if_false]) <;> (repeat' split) <;> (first | rfl | (simp only [part_ite, part_set, queueFrame_part, h_, q_, implies_true, ite_self, not_false_eq_true, if_false]; done) | (simp only [part_ite, part_set, queueFrame_part, h_, q_, implies_true, ite_self, not_false_eq_true, if_false]; rfl)))

theorem execDemandIntervalEnd_frame {o_ : Obj} (q_ : o_.quiet = true) (h_ : ¬ o_.id ∈ Footprint.execDemandIntervalEnd)  (s : State) {t : State} (e_ : execDemandIntervalEnd s = .next t) :
    t.view o_ = s.view o_ ∧ t.still = s.canon.still := by
  simp only [Footprint.execDemandIntervalEnd, List.mem_append, List.mem_cons, List.not_mem_nil, or_false, false_or, not_or, and_assoc] at h_
  refine run_frame ?_ e_
  first
  | (simp only [part_ite, part_set, joinBoundary_part, h_, q_, implies_true, ite_self, not_false_eq_true, if_false]; rfl)
  | ((try simp only [part_ite, part_set, joinBoundary_part, h_, q_, implies_true, ite_self, not_false_eq_true, if_false]) <;> (repeat' split) <;> (first | rfl | (simp only [part_ite, part_set, joinBoundary_part, h_, q_, implies_true, ite_self, not_false_eq_true, if_false]; done) | (simp only [part_ite, part_set, joinBoundary_part, h_, q_, implies_true, ite_self, not_false_eq_true, if_false]; rfl)))

theorem execBillingPeriodClose_frame {o_ : Obj} (q_ : o_.quiet = true) (h_ : ¬ o_.id ∈ Footprint.execBillingPeriodClose)  (s : State) {t : State} (e_ : execBillingPeriodClose s = .next t) :
    t.view o_ = s.view o_ ∧ t.still = s.canon.still := by
  simp only [Footprint.execBillingPeriodClose, List.mem_append, List.mem_cons, List.not_mem_nil, or_false, false_or, not_or, and_assoc] at h_
  refine run_frame ?_ e_
  first
  | (simp only [part_ite, part_set, joinBoundary_part, h_, q_, implies_true, ite_self, not_false_eq_true, if_false]; rfl)
  | ((try simp only [part_ite, part_set, joinBoundary_part, h_, q_, implies_true, ite_self, not_false_eq_true, if_false]) <;> (repeat' split) <;> (first | rfl | (simp only [part_ite, part_set, joinBoundary_part, h_, q_, implies_true, ite_self, not_false_eq_true, if_false]; done) | (simp only [part_ite, part_set, joinBoundary_part, h_, q_, implies_true, ite_self, not_false_eq_true, if_false]; rfl)))

theorem execClosePeriod_frame {o_ : Obj} (q_ : o_.quiet = true) (h_ : ¬ o_.id ∈ Footprint.execClosePeriod) (r : Req) (s : State) {t : State} (e_ : execClosePeriod r s = .next t) :
    t.view o_ = s.view o_ ∧ t.still = s.canon.still := by
  simp only [Footprint.execClosePeriod, List.mem_append, List.mem_cons, List.not_mem_nil, or_false, false_or, not_or, and_assoc] at h_
  refine run_frame (hostWrite_part q_ (by simp only [h_, not_false_eq_true]) _ _ _ _ _ (fun _ u t e => ?_) _) e_
  (try dsimp only at e)
  repeat' split at e
  all_goals first
      | exact absurd e (by simp only [reduceCtorEq, not_false_eq_true])
      | (rw [← Except.ok.inj e]; done)
      | (rw [← Except.ok.inj e]; simp only [part_ite, part_set, joinBoundary_part, h_, q_, implies_true, ite_self, not_false_eq_true, if_false]; done)
      | (rw [← Except.ok.inj e]; (try simp only [part_ite, part_set, joinBoundary_part, h_, q_, implies_true, ite_self, not_false_eq_true, if_false]) <;> (repeat' split) <;> (first | (simp only [part_ite, part_set, joinBoundary_part, h_, q_, implies_true, ite_self, not_false_eq_true, if_false]; done) | rfl))

theorem execTariffSlotSwitch_frame {o_ : Obj} (q_ : o_.quiet = true) (h_ : ¬ o_.id ∈ Footprint.execTariffSlotSwitch)  (s : State) {t : State} (e_ : execTariffSlotSwitch s = .next t) :
    t.view o_ = s.view o_ ∧ t.still = s.canon.still := by
  simp only [Footprint.execTariffSlotSwitch, List.mem_append, List.mem_cons, List.not_mem_nil, or_false, false_or, not_or, and_assoc] at h_
  refine run_frame ?_ e_
  first
  | (simp only [part_ite, joinBoundary_part, h_, q_, implies_true, ite_self, not_false_eq_true, if_false]; rfl)
  | ((try simp only [part_ite, joinBoundary_part, h_, q_, implies_true, ite_self, not_false_eq_true, if_false]) <;> (repeat' split) <;> (first | rfl | (simp only [part_ite, joinBoundary_part, h_, q_, implies_true, ite_self, not_false_eq_true, if_false]; done) | (simp only [part_ite, joinBoundary_part, h_, q_, implies_true, ite_self, not_false_eq_true, if_false]; rfl)))

theorem execCalendarActivationWrite_frame {o_ : Obj} (q_ : o_.quiet = true) (h_ : ¬ o_.id ∈ Footprint.execCalendarActivationWrite) (r : Req) (data : List Byte) (s : State) {t : State} (e_ : execCalendarActivationWrite r data s = .next t) :
    t.view o_ = s.view o_ ∧ t.still = s.canon.still := by
  simp only [Footprint.execCalendarActivationWrite, List.mem_append, List.mem_cons, List.not_mem_nil, or_false, false_or, not_or, and_assoc] at h_
  refine run_frame (hostWrite_part q_ (by simp only [h_, not_false_eq_true]) _ _ _ _ _ (fun _ u t e => ?_) _) e_
  (try dsimp only at e)
  repeat' split at e
  all_goals first
      | exact absurd e (by simp only [reduceCtorEq, not_false_eq_true])
      | (rw [← Except.ok.inj e]; done)
      | (rw [← Except.ok.inj e]; simp only [part_ite, setActivation_part, h_, q_, implies_true, ite_self, not_false_eq_true, if_false]; done)
      | (rw [← Except.ok.inj e]; (try simp only [part_ite, setActivation_part, h_, q_, implies_true, ite_self, not_false_eq_true, if_false]) <;> (repeat' split) <;> (first | (simp only [part_ite, setActivation_part, h_, q_, implies_true, ite_self, not_false_eq_true, if_false]; done) | rfl))

theorem execCalendarActivation_frame {o_ : Obj} (q_ : o_.quiet = true) (h_ : ¬ o_.id ∈ Footprint.execCalendarActivation)  (s : State) {t : State} (e_ : execCalendarActivation s = .next t) :
    t.view o_ = s.view o_ ∧ t.still = s.canon.still := by
  simp only [Footprint.execCalendarActivation, List.mem_append, List.mem_cons, List.not_mem_nil, or_false, false_or, not_or, and_assoc] at h_
  refine run_frame ?_ e_
  first
  | (simp only [part_ite, joinBoundary_part, h_, q_, implies_true, ite_self, not_false_eq_true, if_false]; rfl)
  | ((try simp only [part_ite, joinBoundary_part, h_, q_, implies_true, ite_self, not_false_eq_true, if_false]) <;> (repeat' split) <;> (first | rfl | (simp only [part_ite, joinBoundary_part, h_, q_, implies_true, ite_self, not_false_eq_true, if_false]; done) | (simp only [part_ite, joinBoundary_part, h_, q_, implies_true, ite_self, not_false_eq_true, if_false]; rfl)))

theorem execDstChange_frame {o_ : Obj} (q_ : o_.quiet = true) (h_ : ¬ o_.id ∈ Footprint.execDstChange)  (s : State) {t : State} (e_ : execDstChange s = .next t) :
    t.view o_ = s.view o_ ∧ t.still = s.canon.still := by
  simp only [Footprint.execDstChange, List.mem_append, List.mem_cons, List.not_mem_nil, or_false, false_or, not_or, and_assoc] at h_
  refine run_frame ?_ e_
  first
  | (simp only [part_ite, joinBoundary_part, h_, q_, implies_true, ite_self, not_false_eq_true, if_false]; rfl)
  | ((try simp only [part_ite, joinBoundary_part, h_, q_, implies_true, ite_self, not_false_eq_true, if_false]) <;> (repeat' split) <;> (first | rfl | (simp only [part_ite, joinBoundary_part, h_, q_, implies_true, ite_self, not_false_eq_true, if_false]; done) | (simp only [part_ite, joinBoundary_part, h_, q_, implies_true, ite_self, not_false_eq_true, if_false]; rfl)))

theorem execBoundaryRecordCommitted_frame {o_ : Obj} (q_ : o_.quiet = true) (h_ : ¬ o_.id ∈ Footprint.execBoundaryRecordCommitted)  (s : State) {t : State} (e_ : execBoundaryRecordCommitted s = .next t) :
    t.view o_ = s.view o_ ∧ t.still = s.canon.still := by
  simp only [Footprint.execBoundaryRecordCommitted, List.mem_append, List.mem_cons, List.not_mem_nil, or_false, false_or, not_or, and_assoc] at h_
  refine run_frame ?_ e_
  first
  | (simp only [part_ite, part_set, h_, q_, implies_true, ite_self, not_false_eq_true, if_false]; rfl)
  | ((try simp only [part_ite, part_set, h_, q_, implies_true, ite_self, not_false_eq_true, if_false]) <;> (repeat' split) <;> (first | rfl | (simp only [part_ite, part_set, h_, q_, implies_true, ite_self, not_false_eq_true, if_false]; done) | (simp only [part_ite, part_set, h_, q_, implies_true, ite_self, not_false_eq_true, if_false]; rfl)))

theorem execPlanningPass_frame {o_ : Obj} (q_ : o_.quiet = true) (h_ : ¬ o_.id ∈ Footprint.execPlanningPass) (completes : Bool) (s : State) {t : State} (e_ : execPlanningPass completes s = .next t) :
    t.view o_ = s.view o_ ∧ t.still = s.canon.still := by
  simp only [Footprint.execPlanningPass, List.mem_append, List.mem_cons, List.not_mem_nil, or_false, false_or, not_or, and_assoc] at h_
  refine run_frame ?_ e_
  first
  | (simp only [part_ite, part_set, publishPlan_part, h_, q_, implies_true, ite_self, not_false_eq_true, if_false]; rfl)
  | ((try simp only [part_ite, part_set, publishPlan_part, h_, q_, implies_true, ite_self, not_false_eq_true, if_false]) <;> (repeat' split) <;> (first | rfl | (simp only [part_ite, part_set, publishPlan_part, h_, q_, implies_true, ite_self, not_false_eq_true, if_false]; done) | (simp only [part_ite, part_set, publishPlan_part, h_, q_, implies_true, ite_self, not_false_eq_true, if_false]; rfl)))

theorem execPlanningPassTimeout_frame {o_ : Obj} (q_ : o_.quiet = true) (h_ : ¬ o_.id ∈ Footprint.execPlanningPassTimeout)  (s : State) {t : State} (e_ : execPlanningPassTimeout s = .next t) :
    t.view o_ = s.view o_ ∧ t.still = s.canon.still := by
  simp only [Footprint.execPlanningPassTimeout, List.mem_append, List.mem_cons, List.not_mem_nil, or_false, false_or, not_or, and_assoc] at h_
  refine run_frame ?_ e_
  first
  | (simp only [part_ite, part_set, h_, q_, implies_true, ite_self, not_false_eq_true, if_false]; rfl)
  | ((try simp only [part_ite, part_set, h_, q_, implies_true, ite_self, not_false_eq_true, if_false]) <;> (repeat' split) <;> (first | rfl | (simp only [part_ite, part_set, h_, q_, implies_true, ite_self, not_false_eq_true, if_false]; done) | (simp only [part_ite, part_set, h_, q_, implies_true, ite_self, not_false_eq_true, if_false]; rfl)))

theorem execCoolantStatusFrame_frame {o_ : Obj} (q_ : o_.quiet = true) (h_ : ¬ o_.id ∈ Footprint.execCoolantStatusFrame) (outlet : Fin 24) (frame : List Byte) (s : State) {t : State} (e_ : execCoolantStatusFrame outlet frame s = .next t) :
    t.view o_ = s.view o_ ∧ t.still = s.canon.still := by
  simp only [Footprint.execCoolantStatusFrame, List.mem_append, List.mem_cons, List.not_mem_nil, or_false, false_or, not_or, and_assoc] at h_
  refine run_frame ?_ e_
  first
  | (simp only [part_ite, part_set, unitSilent_part, releaseSlot_part, judgeStop_part, h_, q_, implies_true, ite_self, not_false_eq_true, if_false]; rfl)
  | ((try simp only [part_ite, part_set, unitSilent_part, releaseSlot_part, judgeStop_part, h_, q_, implies_true, ite_self, not_false_eq_true, if_false]) <;> (repeat' split) <;> (first | rfl | (simp only [part_ite, part_set, unitSilent_part, releaseSlot_part, judgeStop_part, h_, q_, implies_true, ite_self, not_false_eq_true, if_false]; done) | (simp only [part_ite, part_set, unitSilent_part, releaseSlot_part, judgeStop_part, h_, q_, implies_true, ite_self, not_false_eq_true, if_false]; rfl)))

theorem execCoolantUnitSilent_frame {o_ : Obj} (q_ : o_.quiet = true) (h_ : ¬ o_.id ∈ Footprint.execCoolantUnitSilent) (outlet : Fin 24) (s : State) {t : State} (e_ : execCoolantUnitSilent outlet s = .next t) :
    t.view o_ = s.view o_ ∧ t.still = s.canon.still := by
  simp only [Footprint.execCoolantUnitSilent, List.mem_append, List.mem_cons, List.not_mem_nil, or_false, false_or, not_or, and_assoc] at h_
  refine run_frame ?_ e_
  first
  | (simp only [part_ite, unitSilent_part, h_, q_, implies_true, ite_self, not_false_eq_true, if_false]; rfl)
  | ((try simp only [part_ite, unitSilent_part, h_, q_, implies_true, ite_self, not_false_eq_true, if_false]) <;> (repeat' split) <;> (first | rfl | (simp only [part_ite, unitSilent_part, h_, q_, implies_true, ite_self, not_false_eq_true, if_false]; done) | (simp only [part_ite, unitSilent_part, h_, q_, implies_true, ite_self, not_false_eq_true, if_false]; rfl)))

theorem execPulseEmit_frame {o_ : Obj} (q_ : o_.quiet = true) (h_ : ¬ o_.id ∈ Footprint.execPulseEmit) (output : Fin 4) (s : State) {t : State} (e_ : execPulseEmit output s = .next t) :
    t.view o_ = s.view o_ ∧ t.still = s.canon.still := by
  simp only [Footprint.execPulseEmit, List.mem_append, List.mem_cons, List.not_mem_nil, or_false, false_or, not_or, and_assoc] at h_
  refine run_frame ?_ e_
  first
  | (simp only [part_ite, part_set, part_inc, part_setBit, part_emit, h_, q_, implies_true, ite_self, not_false_eq_true, if_false]; rfl)
  | ((try simp only [part_ite, part_set, part_inc, part_setBit, part_emit, h_, q_, implies_true, ite_self, not_false_eq_true, if_false]) <;> (repeat' split) <;> (first | rfl | (simp only [part_ite, part_set, part_inc, part_setBit, part_emit, h_, q_, implies_true, ite_self, not_false_eq_true, if_false]; done) | (simp only [part_ite, part_set, part_inc, part_setBit, part_emit, h_, q_, implies_true, ite_self, not_false_eq_true, if_false]; rfl)))

theorem execNoMains_frame {o_ : Obj} (q_ : o_.quiet = true) (h_ : ¬ o_.id ∈ Footprint.execNoMains) (feeder : Fin 4) (s : State) {t : State} (e_ : execNoMains feeder s = .next t) :
    t.view o_ = s.view o_ ∧ t.still = s.canon.still := by
  simp only [Footprint.execNoMains, List.mem_append, List.mem_cons, List.not_mem_nil, or_false, false_or, not_or, and_assoc] at h_
  refine run_frame ?_ e_
  first
  | (simp only [part_ite, loseMains_part, h_, q_, implies_true, ite_self, not_false_eq_true, if_false]; rfl)
  | ((try simp only [part_ite, loseMains_part, h_, q_, implies_true, ite_self, not_false_eq_true, if_false]) <;> (repeat' split) <;> (first | rfl | (simp only [part_ite, loseMains_part, h_, q_, implies_true, ite_self, not_false_eq_true, if_false]; done) | (simp only [part_ite, loseMains_part, h_, q_, implies_true, ite_self, not_false_eq_true, if_false]; rfl)))

theorem execMainsReturned_frame {o_ : Obj} (q_ : o_.quiet = true) (h_ : ¬ o_.id ∈ Footprint.execMainsReturned) (feeder : Fin 4) (s : State) {t : State} (e_ : execMainsReturned feeder s = .next t) :
    t.view o_ = s.view o_ ∧ t.still = s.canon.still := by
  simp only [Footprint.execMainsReturned, List.mem_append, List.mem_cons, List.not_mem_nil, or_false, false_or, not_or, and_assoc] at h_
  refine run_frame ?_ e_
  first
  | (simp only [part_ite, part_set, logEvent_part, resumeLink_part, h_, q_, implies_true, ite_self, not_false_eq_true, if_false]; rfl)
  | ((try simp only [part_ite, part_set, logEvent_part, resumeLink_part, h_, q_, implies_true, ite_self, not_false_eq_true, if_false]) <;> (repeat' split) <;> (first | rfl | (simp only [part_ite, part_set, logEvent_part, resumeLink_part, h_, q_, implies_true, ite_self, not_false_eq_true, if_false]; done) | (simp only [part_ite, part_set, logEvent_part, resumeLink_part, h_, q_, implies_true, ite_self, not_false_eq_true, if_false]; rfl)))

theorem execChannelFault_frame {o_ : Obj} (q_ : o_.quiet = true) (h_ : ¬ o_.id ∈ Footprint.execChannelFault) (channel : Fin 76) (stuck : Bool) (s : State) {t : State} (e_ : execChannelFault channel stuck s = .next t) :
    t.view o_ = s.view o_ ∧ t.still = s.canon.still := by
  simp only [Footprint.execChannelFault, List.mem_append, List.mem_cons, List.not_mem_nil, or_false, false_or, not_or, and_assoc] at h_
  refine run_frame ?_ e_
  first
  | (simp only [part_ite, faultChannel_part, h_, q_, implies_true, ite_self, not_false_eq_true, if_false]; rfl)
  | ((try simp only [part_ite, faultChannel_part, h_, q_, implies_true, ite_self, not_false_eq_true, if_false]) <;> (repeat' split) <;> (first | rfl | (simp only [part_ite, faultChannel_part, h_, q_, implies_true, ite_self, not_false_eq_true, if_false]; done) | (simp only [part_ite, faultChannel_part, h_, q_, implies_true, ite_self, not_false_eq_true, if_false]; rfl)))

theorem execChannelFaultCleared_frame {o_ : Obj} (q_ : o_.quiet = true) (h_ : ¬ o_.id ∈ Footprint.execChannelFaultCleared) (channel : Fin 76) (s : State) {t : State} (e_ : execChannelFaultCleared channel s = .next t) :
    t.view o_ = s.view o_ ∧ t.still = s.canon.still := by
  simp only [Footprint.execChannelFaultCleared, List.mem_append, List.mem_cons, List.not_mem_nil, or_false, false_or, not_or, and_assoc] at h_
  refine run_frame ?_ e_
  first
  | (simp only [part_ite, part_set, part_setBit, logEvent_part, h_, q_, implies_true, ite_self, not_false_eq_true, if_false]; rfl)
  | ((try simp only [part_ite, part_set, part_setBit, logEvent_part, h_, q_, implies_true, ite_self, not_false_eq_true, if_false]) <;> (repeat' split) <;> (first | rfl | (simp only [part_ite, part_set, part_setBit, logEvent_part, h_, q_, implies_true, ite_self, not_false_eq_true, if_false]; done) | (simp only [part_ite, part_set, part_setBit, logEvent_part, h_, q_, implies_true, ite_self, not_false_eq_true, if_false]; rfl)))

theorem execTheftWatchBurst_frame {o_ : Obj} (q_ : o_.quiet = true) (h_ : ¬ o_.id ∈ Footprint.execTheftWatchBurst) (means : List Int) (s : State) {t : State} (e_ : execTheftWatchBurst means s = .next t) :
    t.view o_ = s.view o_ ∧ t.still = s.canon.still := by
  simp only [Footprint.execTheftWatchBurst, List.mem_append, List.mem_cons, List.not_mem_nil, or_false, false_or, not_or, and_assoc] at h_
  refine run_frame ?_ e_
  first
  | (simp only [part_ite, forN_part, theftMean_part, h_, q_, implies_true, ite_self, not_false_eq_true, if_false]; rfl)
  | ((try simp only [part_ite, forN_part, theftMean_part, h_, q_, implies_true, ite_self, not_false_eq_true, if_false]) <;> (repeat' split) <;> (first | rfl | (simp only [part_ite, forN_part, theftMean_part, h_, q_, implies_true, ite_self, not_false_eq_true, if_false]; done) | (simp only [part_ite, forN_part, theftMean_part, h_, q_, implies_true, ite_self, not_false_eq_true, if_false]; rfl)))

theorem execClearTheftLog_frame {o_ : Obj} (q_ : o_.quiet = true) (h_ : ¬ o_.id ∈ Footprint.execClearTheftLog) (r : Req) (s : State) {t : State} (e_ : execClearTheftLog r s = .next t) :
    t.view o_ = s.view o_ ∧ t.still = s.canon.still := by
  simp only [Footprint.execClearTheftLog, List.mem_append, List.mem_cons, List.not_mem_nil, or_false, false_or, not_or, and_assoc] at h_
  refine run_frame (hostWrite_part q_ (by simp only [h_, not_false_eq_true]) _ _ _ _ _ (fun _ u t e => ?_) _) e_
  (try dsimp only at e)
  repeat' split at e
  all_goals first
      | exact absurd e (by simp only [reduceCtorEq, not_false_eq_true])
      | (rw [← Except.ok.inj e]; done)
      | (rw [← Except.ok.inj e]; simp only [part_ite, part_set, part_setLog, forN_part, h_, q_, implies_true, ite_self, not_false_eq_true, if_false]; done)
      | (rw [← Except.ok.inj e]; (try simp only [part_ite, part_set, part_setLog, forN_part, h_, q_, implies_true, ite_self, not_false_eq_true, if_false]) <;> (repeat' split) <;> (first | (simp only [part_ite, part_set, part_setLog, forN_part, h_, q_, implies_true, ite_self, not_false_eq_true, if_false]; done) | rfl))

theorem execCrossCheckWindowEnd_frame {o_ : Obj} (q_ : o_.quiet = true) (h_ : ¬ o_.id ∈ Footprint.execCrossCheckWindowEnd) (partner : List Int) (s : State) {t : State} (e_ : execCrossCheckWindowEnd partner s = .next t) :
    t.view o_ = s.view o_ ∧ t.still = s.canon.still := by
  simp only [Footprint.execCrossCheckWindowEnd, List.mem_append, List.mem_cons, List.not_mem_nil, or_false, false_or, not_or, and_assoc] at h_
  refine run_frame ?_ e_
  first
  | (simp only [part_ite, part_set, part_setSeq, forN_part, crossCheck_part, h_, q_, implies_true, ite_self, not_false_eq_true, if_false]; rfl)
  | ((try simp only [part_ite, part_set, part_setSeq, forN_part, crossCheck_part, h_, q_, implies_true, ite_self, not_false_eq_true, if_false]) <;> (repeat' split) <;> (first | rfl | (simp only [part_ite, part_set, part_setSeq, forN_part, crossCheck_part, h_, q_, implies_true, ite_self, not_false_eq_true, if_false]; done) | (simp only [part_ite, part_set, part_setSeq, forN_part, crossCheck_part, h_, q_, implies_true, ite_self, not_false_eq_true, if_false]; rfl)))

theorem execSealOpened_frame {o_ : Obj} (q_ : o_.quiet = true) (h_ : ¬ o_.id ∈ Footprint.execSealOpened)  (s : State) {t : State} (e_ : execSealOpened s = .next t) :
    t.view o_ = s.view o_ ∧ t.still = s.canon.still := by
  simp only [Footprint.execSealOpened, List.mem_append, List.mem_cons, List.not_mem_nil, or_false, false_or, not_or, and_assoc] at h_
  refine run_frame ?_ e_
  first
  | (simp only [part_ite, setSeal_part, h_, q_, implies_true, ite_self, not_false_eq_true, if_false]; rfl)
  | ((try simp only [part_ite, setSeal_part, h_, q_, implies_true, ite_self, not_false_eq_true, if_false]) <;> (repeat' split) <;> (first | rfl | (simp only [part_ite, setSeal_part, h_, q_, implies_true, ite_self, not_false_eq_true, if_false]; done) | (simp only [part_ite, setSeal_part, h_, q_, implies_true, ite_self, not_false_eq_true, if_false]; rfl)))

theorem execSealClosed_frame {o_ : Obj} (q_ : o_.quiet = true) (h_ : ¬ o_.id ∈ Footprint.execSealClosed)  (s : State) {t : State} (e_ : execSealClosed s = .next t) :
    t.view o_ = s.view o_ ∧ t.still = s.canon.still := by
  simp only [Footprint.execSealClosed, List.mem_append, List.mem_cons, List.not_mem_nil, or_false, false_or, not_or, and_assoc] at h_
  refine run_frame ?_ e_
  first
  | (simp only [part_ite, setSeal_part, h_, q_, implies_true, ite_self, not_false_eq_true, if_false]; rfl)
  | ((try simp only [part_ite, setSeal_part, h_, q_, implies_true, ite_self, not_false_eq_true, if_false]) <;> (repeat' split) <;> (first | rfl | (simp only [part_ite, setSeal_part, h_, q_, implies_true, ite_self, not_false_eq_true, if_false]; done) | (simp only [part_ite, setSeal_part, h_, q_, implies_true, ite_self, not_false_eq_true, if_false]; rfl)))

theorem execMetrologyImageData_frame {o_ : Obj} (q_ : o_.quiet = true) (h_ : ¬ o_.id ∈ Footprint.execMetrologyImageData) (r : Req) (data : List Byte) (s : State) {t : State} (e_ : execMetrologyImageData r data s = .next t) :
    t.view o_ = s.view o_ := by
  simp only [Footprint.execMetrologyImageData, List.mem_append, List.mem_cons, List.not_mem_nil, or_false, false_or, not_or, and_assoc] at h_
  refine run_view ?_ e_
  refine (noteFull_view q_ 0x8001 _ _).trans ?_
  refine hostWrite_view q_ (by simp only [h_, not_false_eq_true]) _ _ _ _ _ (fun role u t e => ?_) _
  unfold auditRoom at e
  split at e
  · exact nomatch e
  · dsimp only at e
    split at e
    · exact nomatch e
    · split at e
      · exact nomatch e
      · rw [← Except.ok.inj e, auditEntry_view q_ (by simp only [h_, not_false_eq_true]), state_flashWrite_view q_]

theorem execActivateMetrologyImage_frame {o_ : Obj} (q_ : o_.quiet = true) (h_ : ¬ o_.id ∈ Footprint.execActivateMetrologyImage) (r : Req) (s : State) {t : State} (e_ : execActivateMetrologyImage r s = .next t) :
    t.view o_ = s.view o_ ∧ t.still = s.canon.still := by
  simp only [Footprint.execActivateMetrologyImage, List.mem_append, List.mem_cons, List.not_mem_nil, or_false, false_or, not_or, and_assoc] at h_
  refine run_frame ?_ e_
  refine (noteFull_part q_ 0x8001 _ _).trans ?_
  refine hostWrite_part q_ (by simp only [h_, not_false_eq_true]) _ _ _ _ _ (fun role u t e => ?_) _
  refine auditRoom_part (fun v w g => ?_) e
  split at g
  · exact nomatch g
  · rw [← Except.ok.inj g, auditEntry_part q_ (by simp only [h_, not_false_eq_true]), part_set (by simp only [h_, not_false_eq_true])]

theorem execTopologyCheck_frame {o_ : Obj} (q_ : o_.quiet = true) (h_ : ¬ o_.id ∈ Footprint.execTopologyCheck)  (s : State) {t : State} (e_ : execTopologyCheck s = .next t) :
    t.view o_ = s.view o_ ∧ t.still = s.canon.still := by
  simp only [Footprint.execTopologyCheck, List.mem_append, List.mem_cons, List.not_mem_nil, or_false, false_or, not_or, and_assoc] at h_
  refine run_frame ?_ e_
  first
  | (simp only [part_ite, checkShared_part, judgeTopology_part, beginTopology_part, h_, q_, implies_true, ite_self, not_false_eq_true, if_false]; rfl)
  | ((try simp only [part_ite, checkShared_part, judgeTopology_part, beginTopology_part, h_, q_, implies_true, ite_self, not_false_eq_true, if_false]) <;> (repeat' split) <;> (first | rfl | (simp only [part_ite, checkShared_part, judgeTopology_part, beginTopology_part, h_, q_, implies_true, ite_self, not_false_eq_true, if_false]; done) | (simp only [part_ite, checkShared_part, judgeTopology_part, beginTopology_part, h_, q_, implies_true, ite_self, not_false_eq_true, if_false]; rfl)))

theorem execTopologyCheckComplete_frame {o_ : Obj} (q_ : o_.quiet = true) (h_ : ¬ o_.id ∈ Footprint.execTopologyCheckComplete)  (s : State) {t : State} (e_ : execTopologyCheckComplete s = .next t) :
    t.view o_ = s.view o_ ∧ t.still = s.canon.still := by
  simp only [Footprint.execTopologyCheckComplete, List.mem_append, List.mem_cons, List.not_mem_nil, or_false, false_or, not_or, and_assoc] at h_
  refine run_frame ?_ e_
  first
  | (simp only [part_ite, part_set, forN_part, logEvent_part, judgeTopology_part, recoverBlock_part, sendTopology_part, refreshAll_part, h_, q_, implies_true, ite_self, not_false_eq_true, if_false]; rfl)
  | ((try simp only [part_ite, part_set, forN_part, logEvent_part, judgeTopology_part, recoverBlock_part, sendTopology_part, refreshAll_part, h_, q_, implies_true, ite_self, not_false_eq_true, if_false]) <;> (repeat' split) <;> (first | rfl | (simp only [part_ite, part_set, forN_part, logEvent_part, judgeTopology_part, recoverBlock_part, sendTopology_part, refreshAll_part, h_, q_, implies_true, ite_self, not_false_eq_true, if_false]; done) | (simp only [part_ite, part_set, forN_part, logEvent_part, judgeTopology_part, recoverBlock_part, sendTopology_part, refreshAll_part, h_, q_, implies_true, ite_self, not_false_eq_true, if_false]; rfl)))

theorem execRunTopologyCheck_frame {o_ : Obj} (q_ : o_.quiet = true) (h_ : ¬ o_.id ∈ Footprint.execRunTopologyCheck) (r : Req) (s : State) {t : State} (e_ : execRunTopologyCheck r s = .next t) :
    t.view o_ = s.view o_ ∧ t.still = s.canon.still := by
  simp only [Footprint.execRunTopologyCheck, List.mem_append, List.mem_cons, List.not_mem_nil, or_false, false_or, not_or, and_assoc] at h_
  refine run_frame (hostWrite_part q_ (by simp only [h_, not_false_eq_true]) _ _ _ _ _ (fun _ u t e => ?_) _) e_
  (try dsimp only at e)
  repeat' split at e
  all_goals first
      | exact absurd e (by simp only [reduceCtorEq, not_false_eq_true])
      | (rw [← Except.ok.inj e]; done)
      | (rw [← Except.ok.inj e]; simp only [part_ite, part_set, beginTopology_part, h_, q_, implies_true, ite_self, not_false_eq_true, if_false]; done)
      | (rw [← Except.ok.inj e]; (try simp only [part_ite, part_set, beginTopology_part, h_, q_, implies_true, ite_self, not_false_eq_true, if_false]) <;> (repeat' split) <;> (first | (simp only [part_ite, part_set, beginTopology_part, h_, q_, implies_true, ite_self, not_false_eq_true, if_false]; done) | rfl))

theorem execRecordSealed_frame {o_ : Obj} (q_ : o_.quiet = true) (h_ : ¬ o_.id ∈ Footprint.execRecordSealed) (ctx : Fin 250) (s : State) {t : State} (e_ : execRecordSealed ctx s = .next t) :
    t.view o_ = s.view o_ ∧ t.still = s.canon.still := by
  simp only [Footprint.execRecordSealed, List.mem_append, List.mem_cons, List.not_mem_nil, or_false, false_or, not_or, and_assoc] at h_
  refine run_frame ?_ e_
  first
  | (simp only [part_ite, sealContext_part, h_, q_, implies_true, ite_self, not_false_eq_true, if_false]; rfl)
  | ((try simp only [part_ite, sealContext_part, h_, q_, implies_true, ite_self, not_false_eq_true, if_false]) <;> (repeat' split) <;> (first | rfl | (simp only [part_ite, sealContext_part, h_, q_, implies_true, ite_self, not_false_eq_true, if_false]; done) | (simp only [part_ite, sealContext_part, h_, q_, implies_true, ite_self, not_false_eq_true, if_false]; rfl)))

theorem execRecordSelect_frame {o_ : Obj} (q_ : o_.quiet = true) (h_ : ¬ o_.id ∈ Footprint.execRecordSelect) (r : Req) (data : List Byte) (s : State) {t : State} (e_ : execRecordSelect r data s = .next t) :
    t.view o_ = s.view o_ ∧ t.still = s.canon.still := by
  simp only [Footprint.execRecordSelect, List.mem_append, List.mem_cons, List.not_mem_nil, or_false, false_or, not_or, and_assoc] at h_
  refine run_frame (hostWrite_part q_ (by simp only [h_, not_false_eq_true]) _ _ _ _ _ (fun _ u t e => ?_) _) e_
  (try dsimp only at e)
  repeat' split at e
  all_goals first
      | exact absurd e (by simp only [reduceCtorEq, not_false_eq_true])
      | (rw [← Except.ok.inj e]; done)
      | (rw [← Except.ok.inj e]; simp only [part_ite, part_set, h_, q_, implies_true, ite_self, not_false_eq_true, if_false]; done)
      | (rw [← Except.ok.inj e]; (try simp only [part_ite, part_set, h_, q_, implies_true, ite_self, not_false_eq_true, if_false]) <;> (repeat' split) <;> (first | (simp only [part_ite, part_set, h_, q_, implies_true, ite_self, not_false_eq_true, if_false]; done) | rfl))

theorem execCollectRecord_frame {o_ : Obj} (q_ : o_.quiet = true) (h_ : ¬ o_.id ∈ Footprint.execCollectRecord) (r : Req) (data : List Byte) (s : State) {t : State} (e_ : execCollectRecord r data s = .next t) :
    t.view o_ = s.view o_ ∧ t.still = s.canon.still := by
  simp only [Footprint.execCollectRecord, List.mem_append, List.mem_cons, List.not_mem_nil, or_false, false_or, not_or, and_assoc] at h_
  refine run_frame (hostWrite_part q_ (by simp only [h_, not_false_eq_true]) _ _ _ _ _ (fun _ u t e => ?_) _) e_
  (try dsimp only at e)
  repeat' split at e
  all_goals first
      | exact absurd e (by simp only [reduceCtorEq, not_false_eq_true])
      | exact collectRecord_part q_ (by simp only [h_, not_false_eq_true]) _ _ e
      | (rw [← Except.ok.inj e]; done)
      | (rw [← Except.ok.inj e]; simp only [part_ite, collectRecord_part, h_, q_, implies_true, ite_self, not_false_eq_true, if_false]; done)
      | (rw [← Except.ok.inj e]; (try simp only [part_ite, collectRecord_part, h_, q_, implies_true, ite_self, not_false_eq_true, if_false]) <;> (repeat' split) <;> (first | (simp only [part_ite, collectRecord_part, h_, q_, implies_true, ite_self, not_false_eq_true, if_false]; done) | rfl))

theorem execReleaseUpTo_frame {o_ : Obj} (q_ : o_.quiet = true) (h_ : ¬ o_.id ∈ Footprint.execReleaseUpTo) (r : Req) (data : List Byte) (s : State) {t : State} (e_ : execReleaseUpTo r data s = .next t) :
    t.view o_ = s.view o_ ∧ t.still = s.canon.still := by
  simp only [Footprint.execReleaseUpTo, List.mem_append, List.mem_cons, List.not_mem_nil, or_false, false_or, not_or, and_assoc] at h_
  refine run_frame (hostWrite_part q_ (by simp only [h_, not_false_eq_true]) _ _ _ _ _ (fun _ u t e => ?_) _) e_
  (try dsimp only at e)
  repeat' split at e
  all_goals first
      | exact absurd e (by simp only [reduceCtorEq, not_false_eq_true])
      | exact releaseUpTo_part q_ (by simp only [h_, not_false_eq_true]) _ _ e
      | (rw [← Except.ok.inj e]; done)
      | (rw [← Except.ok.inj e]; simp only [part_ite, releaseUpTo_part, h_, q_, implies_true, ite_self, not_false_eq_true, if_false]; done)
      | (rw [← Except.ok.inj e]; (try simp only [part_ite, releaseUpTo_part, h_, q_, implies_true, ite_self, not_false_eq_true, if_false]) <;> (repeat' split) <;> (first | (simp only [part_ite, releaseUpTo_part, h_, q_, implies_true, ite_self, not_false_eq_true, if_false]; done) | rfl))

theorem execTamperInputChange_frame {o_ : Obj} (q_ : o_.quiet = true) (h_ : ¬ o_.id ∈ Footprint.execTamperInputChange) (input : Fin 8) (closed : Bool) (s : State) {t : State} (e_ : execTamperInputChange input closed s = .next t) :
    t.view o_ = s.view o_ ∧ t.still = s.canon.still := by
  simp only [Footprint.execTamperInputChange, List.mem_append, List.mem_cons, List.not_mem_nil, or_false, false_or, not_or, and_assoc] at h_
  refine run_frame ?_ e_
  first
  | (simp only [part_ite, part_setBit, forN_part, tamperEntryOf_part, h_, q_, implies_true, ite_self, not_false_eq_true, if_false]; rfl)
  | ((try simp only [part_ite, part_setBit, forN_part, tamperEntryOf_part, h_, q_, implies_true, ite_self, not_false_eq_true, if_false]) <;> (repeat' split) <;> (first | rfl | (simp only [part_ite, part_setBit, forN_part, tamperEntryOf_part, h_, q_, implies_true, ite_self, not_false_eq_true, if_false]; done) | (simp only [part_ite, part_setBit, forN_part, tamperEntryOf_part, h_, q_, implies_true, ite_self, not_false_eq_true, if_false]; rfl)))

theorem execMagneticCheck_frame {o_ : Obj} (q_ : o_.quiet = true) (h_ : ¬ o_.id ∈ Footprint.execMagneticCheck) (outlet : Fin 24) (readings : List Int) (s : State) {t : State} (e_ : execMagneticCheck outlet readings s = .next t) :
    t.view o_ = s.view o_ ∧ t.still = s.canon.still := by
  simp only [Footprint.execMagneticCheck, List.mem_append, List.mem_cons, List.not_mem_nil, or_false, false_or, not_or, and_assoc] at h_
  refine run_frame ?_ e_
  first
  | (simp only [part_ite, part_set, part_setBit, logEvent_part, tamperEntryOf_part, refreshAvail_part, refusedNow_part, checkOutlet_part, h_, q_, implies_true, ite_self, not_false_eq_true, if_false]; rfl)
  | ((try simp only [part_ite, part_set, part_setBit, logEvent_part, tamperEntryOf_part, refreshAvail_part, refusedNow_part, checkOutlet_part, h_, q_, implies_true, ite_self, not_false_eq_true, if_false]) <;> (repeat' split) <;> (first | rfl | (simp only [part_ite, part_set, part_setBit, logEvent_part, tamperEntryOf_part, refreshAvail_part, refusedNow_part, checkOutlet_part, h_, q_, implies_true, ite_self, not_false_eq_true, if_false]; done) | (simp only [part_ite, part_set, part_setBit, logEvent_part, tamperEntryOf_part, refreshAvail_part, refusedNow_part, checkOutlet_part, h_, q_, implies_true, ite_self, not_false_eq_true, if_false]; rfl)))

theorem execRunMagneticTest_frame {o_ : Obj} (q_ : o_.quiet = true) (h_ : ¬ o_.id ∈ Footprint.execRunMagneticTest) (r : Req) (data : List Byte) (s : State) {t : State} (e_ : execRunMagneticTest r data s = .next t) :
    t.view o_ = s.view o_ ∧ t.still = s.canon.still := by
  simp only [Footprint.execRunMagneticTest, List.mem_append, List.mem_cons, List.not_mem_nil, or_false, false_or, not_or, and_assoc] at h_
  refine run_frame (hostWrite_part q_ (by simp only [h_, not_false_eq_true]) _ _ _ _ _ (fun _ u t e => ?_) _) e_
  (try dsimp only at e)
  repeat' split at e
  all_goals first
      | exact absurd e (by simp only [reduceCtorEq, not_false_eq_true])
      | (rw [← Except.ok.inj e]; done)
      | (rw [← Except.ok.inj e]; simp only [part_ite, part_set, forN_part, h_, q_, implies_true, ite_self, not_false_eq_true, if_false]; done)
      | (rw [← Except.ok.inj e]; (try simp only [part_ite, part_set, forN_part, h_, q_, implies_true, ite_self, not_false_eq_true, if_false]) <;> (repeat' split) <;> (first | (simp only [part_ite, part_set, forN_part, h_, q_, implies_true, ite_self, not_false_eq_true, if_false]; done) | rfl))

theorem execOpen_frame {o_ : Obj} (q_ : o_.quiet = true) (h_ : ¬ o_.id ∈ Footprint.execOpen) (port : Fin 2) (addr tag epoch : Nat) (payload : List Byte) (s : State) {t : State} (e_ : execOpen port addr tag epoch payload s = .next t) :
    t.view o_ = s.view o_ ∧ t.still = s.canon.still := by
  simp only [Footprint.execOpen, List.mem_append, List.mem_cons, List.not_mem_nil, or_false, false_or, not_or, and_assoc] at h_
  have k (n st : Nat) (d : List Byte) (u : State) : (answerOpen plainSpace tag epoch n st d u).part o_ = u.part o_ := answerOpen_part q_ _ _ _ _ _ _ _
  refine run_frame ?_ e_
  (try dsimp only)
  repeat' split
  all_goals first
    | rfl
    | exact k _ _ _ _
    | skip
  refine (k _ _ _ _).trans (Eq.trans (b := State.part (State.set _ Reg.nextSession _) o_) rfl ?_)
  rw [part_set h_.1, signWith_part q_ h_.2.2, part_random h_.2.1, part_random h_.2.1]

theorem execConfirm_frame {o_ : Obj} (q_ : o_.quiet = true) (h_ : ¬ o_.id ∈ Footprint.execConfirm) (ident seq tag epoch : Nat) (sig mac : List Byte) (s : State) {t : State} (e_ : execConfirm ident seq tag epoch sig mac s = .next t) :
    t.view o_ = s.view o_ ∧ t.still = s.canon.still := by
  simp only [Footprint.execConfirm, List.mem_append, List.mem_cons, List.not_mem_nil, or_false, false_or, not_or, and_assoc] at h_
  refine run_frame ?_ e_
  first
  | (simp only [part_ite, part_inc, logEvent_part, state_authFailed_part, showSessions_part, answerOpen_part, failOpening_part, endSession_part, h_, q_, implies_true, ite_self, not_false_eq_true, if_false]; rfl)
  | ((try simp only [part_ite, part_inc, logEvent_part, state_authFailed_part, showSessions_part, answerOpen_part, failOpening_part, endSession_part, h_, q_, implies_true, ite_self, not_false_eq_true, if_false]) <;> (repeat' split) <;> (first | rfl | (simp only [part_ite, part_inc, logEvent_part, state_authFailed_part, showSessions_part, answerOpen_part, failOpening_part, endSession_part, h_, q_, implies_true, ite_self, not_false_eq_true, if_false]; done) | (simp only [part_ite, part_inc, logEvent_part, state_authFailed_part, showSessions_part, answerOpen_part, failOpening_part, endSession_part, h_, q_, implies_true, ite_self, not_false_eq_true, if_false]; rfl)))

theorem execClose_frame {o_ : Obj} (q_ : o_.quiet = true) (h_ : ¬ o_.id ∈ Footprint.execClose) (r : Req) (s : State) {t : State} (e_ : execClose r s = .next t) :
    t.view o_ = s.view o_ ∧ t.still = s.canon.still := by
  simp only [Footprint.execClose, List.mem_append, List.mem_cons, List.not_mem_nil, or_false, false_or, not_or, and_assoc] at h_
  have k (r : Req) (u : State) (sp n st : Nat) : (u.answer sp r n st).part o_ = u.part o_ := answer_part q_ _ _ _ _ _ _
  have a := authenticate_part h_.1 r 7 0 0 [] { s with out := [] }
  refine run_frame ?_ e_
  (try dsimp only)
  split
  · split <;> rename_i e <;> rw [e] at a
    · split
      · rw [endSession_part q_ h_.2, k]; exact a
      · rw [k]; exact a
    · rw [k]; exact a
    · exact a
  · split
    · rfl
    · exact k _ _ _ _ _
  · split
    · rfl
    · exact part_inc (by have z := h_.1; simp only [Footprint.authenticate, List.mem_cons, not_or] at z; exact z.1) _ _

theorem execSessionIdleTimeout_frame {o_ : Obj} (q_ : o_.quiet = true) (h_ : ¬ o_.id ∈ Footprint.execSessionIdleTimeout)  (s : State) {t : State} (e_ : execSessionIdleTimeout s = .next t) :
    t.view o_ = s.view o_ ∧ t.still = s.canon.still := by
  simp only [Footprint.execSessionIdleTimeout, List.mem_append, List.mem_cons, List.not_mem_nil, or_false, false_or, not_or, and_assoc] at h_
  refine run_frame ?_ e_
  first
  | (simp only [part_ite, endSessions_part, h_, q_, implies_true, ite_self, not_false_eq_true, if_false]; rfl)
  | ((try simp only [part_ite, endSessions_part, h_, q_, implies_true, ite_self, not_false_eq_true, if_false]) <;> (repeat' split) <;> (first | rfl | (simp only [part_ite, endSessions_part, h_, q_, implies_true, ite_self, not_false_eq_true, if_false]; done) | (simp only [part_ite, endSessions_part, h_, q_, implies_true, ite_self, not_false_eq_true, if_false]; rfl)))

theorem execSessionLifetimeEnd_frame {o_ : Obj} (q_ : o_.quiet = true) (h_ : ¬ o_.id ∈ Footprint.execSessionLifetimeEnd)  (s : State) {t : State} (e_ : execSessionLifetimeEnd s = .next t) :
    t.view o_ = s.view o_ ∧ t.still = s.canon.still := by
  simp only [Footprint.execSessionLifetimeEnd, List.mem_append, List.mem_cons, List.not_mem_nil, or_false, false_or, not_or, and_assoc] at h_
  refine run_frame ?_ e_
  first
  | (simp only [part_ite, endSessions_part, h_, q_, implies_true, ite_self, not_false_eq_true, if_false]; rfl)
  | ((try simp only [part_ite, endSessions_part, h_, q_, implies_true, ite_self, not_false_eq_true, if_false]) <;> (repeat' split) <;> (first | rfl | (simp only [part_ite, endSessions_part, h_, q_, implies_true, ite_self, not_false_eq_true, if_false]; done) | (simp only [part_ite, endSessions_part, h_, q_, implies_true, ite_self, not_false_eq_true, if_false]; rfl)))

theorem execOpeningLockoutEnd_frame {o_ : Obj} (q_ : o_.quiet = true) (h_ : ¬ o_.id ∈ Footprint.execOpeningLockoutEnd)  (s : State) {t : State} (e_ : execOpeningLockoutEnd s = .next t) :
    t.view o_ = s.view o_ ∧ t.still = s.canon.still := by
  simp only [Footprint.execOpeningLockoutEnd, List.mem_append, List.mem_cons, List.not_mem_nil, or_false, false_or, not_or, and_assoc] at h_
  refine run_frame ?_ e_
  first
  | (simp only [part_ite, part_setSeq, h_, q_, implies_true, ite_self, not_false_eq_true, if_false]; rfl)
  | ((try simp only [part_ite, part_setSeq, h_, q_, implies_true, ite_self, not_false_eq_true, if_false]) <;> (repeat' split) <;> (first | rfl | (simp only [part_ite, part_setSeq, h_, q_, implies_true, ite_self, not_false_eq_true, if_false]; done) | (simp only [part_ite, part_setSeq, h_, q_, implies_true, ite_self, not_false_eq_true, if_false]; rfl)))

theorem execRequestField_frame {o_ : Obj} (q_ : o_.quiet = true) (h_ : ¬ o_.id ∈ Footprint.execRequestField) (r : Req) (s : State) {t : State} (e_ : execRequestField r s = .next t) :
    t.view o_ = s.view o_ ∧ t.still = s.canon.still := by
  simp only [Footprint.execRequestField, List.mem_append, List.mem_cons, List.not_mem_nil, or_false, false_or, not_or, and_assoc] at h_
  refine run_frame ?_ e_
  first
  | (simp only [part_ite, requestTransition_part, h_, q_, implies_true, ite_self, not_false_eq_true, if_false]; rfl)
  | ((try simp only [part_ite, requestTransition_part, h_, q_, implies_true, ite_self, not_false_eq_true, if_false]) <;> (repeat' split) <;> (first | rfl | (simp only [part_ite, requestTransition_part, h_, q_, implies_true, ite_self, not_false_eq_true, if_false]; done) | (simp only [part_ite, requestTransition_part, h_, q_, implies_true, ite_self, not_false_eq_true, if_false]; rfl)))

theorem execRequestService_frame {o_ : Obj} (q_ : o_.quiet = true) (h_ : ¬ o_.id ∈ Footprint.execRequestService) (r : Req) (s : State) {t : State} (e_ : execRequestService r s = .next t) :
    t.view o_ = s.view o_ ∧ t.still = s.canon.still := by
  simp only [Footprint.execRequestService, List.mem_append, List.mem_cons, List.not_mem_nil, or_false, false_or, not_or, and_assoc] at h_
  refine run_frame ?_ e_
  first
  | (simp only [part_ite, requestTransition_part, h_, q_, implies_true, ite_self, not_false_eq_true, if_false]; rfl)
  | ((try simp only [part_ite, requestTransition_part, h_, q_, implies_true, ite_self, not_false_eq_true, if_false]) <;> (repeat' split) <;> (first | rfl | (simp only [part_ite, requestTransition_part, h_, q_, implies_true, ite_self, not_false_eq_true, if_false]; done) | (simp only [part_ite, requestTransition_part, h_, q_, implies_true, ite_self, not_false_eq_true, if_false]; rfl)))

theorem execRequestRetired_frame {o_ : Obj} (q_ : o_.quiet = true) (h_ : ¬ o_.id ∈ Footprint.execRequestRetired) (r : Req) (s : State) {t : State} (e_ : execRequestRetired r s = .next t) :
    t.view o_ = s.view o_ ∧ t.still = s.canon.still := by
  simp only [Footprint.execRequestRetired, List.mem_append, List.mem_cons, List.not_mem_nil, or_false, false_or, not_or, and_assoc] at h_
  refine run_frame ?_ e_
  first
  | (simp only [part_ite, requestTransition_part, h_, q_, implies_true, ite_self, not_false_eq_true, if_false]; rfl)
  | ((try simp only [part_ite, requestTransition_part, h_, q_, implies_true, ite_self, not_false_eq_true, if_false]) <;> (repeat' split) <;> (first | rfl | (simp only [part_ite, requestTransition_part, h_, q_, implies_true, ite_self, not_false_eq_true, if_false]; done) | (simp only [part_ite, requestTransition_part, h_, q_, implies_true, ite_self, not_false_eq_true, if_false]; rfl)))

theorem execRetiredConfirmLapse_frame {o_ : Obj} (q_ : o_.quiet = true) (h_ : ¬ o_.id ∈ Footprint.execRetiredConfirmLapse)  (s : State) {t : State} (e_ : execRetiredConfirmLapse s = .next t) :
    t.view o_ = s.view o_ ∧ t.still = s.canon.still := by
  simp only [Footprint.execRetiredConfirmLapse, List.mem_append, List.mem_cons, List.not_mem_nil, or_false, false_or, not_or, and_assoc] at h_
  refine run_frame ?_ e_
  first
  | (simp only [part_ite, part_set, h_, q_, implies_true, ite_self, not_false_eq_true, if_false]; rfl)
  | ((try simp only [part_ite, part_set, h_, q_, implies_true, ite_self, not_false_eq_true, if_false]) <;> (repeat' split) <;> (first | rfl | (simp only [part_ite, part_set, h_, q_, implies_true, ite_self, not_false_eq_true, if_false]; done) | (simp only [part_ite, part_set, h_, q_, implies_true, ite_self, not_false_eq_true, if_false]; rfl)))

theorem execTransitionComplete_frame {o_ : Obj} (q_ : o_.quiet = true) (h_ : ¬ o_.id ∈ Footprint.execTransitionComplete) (refused : Nat) (s : State) {t : State} (e_ : execTransitionComplete refused s = .next t) :
    t.view o_ = s.view o_ ∧ t.still = s.canon.still := by
  simp only [Footprint.execTransitionComplete, List.mem_append, List.mem_cons, List.not_mem_nil, or_false, false_or, not_or, and_assoc] at h_
  refine run_frame ?_ e_
  first
  | (simp only [part_ite, part_set, answerWaiting_part, resumeKc_part, carryOut_part, h_, q_, implies_true, ite_self, not_false_eq_true, if_false]; rfl)
  | ((try simp only [part_ite, part_set, answerWaiting_part, resumeKc_part, carryOut_part, h_, q_, implies_true, ite_self, not_false_eq_true, if_false]) <;> (repeat' split) <;> (first | rfl | (simp only [part_ite, part_set, answerWaiting_part, resumeKc_part, carryOut_part, h_, q_, implies_true, ite_self, not_false_eq_true, if_false]; done) | (simp only [part_ite, part_set, answerWaiting_part, resumeKc_part, carryOut_part, h_, q_, implies_true, ite_self, not_false_eq_true, if_false]; rfl)))

theorem execFieldMeteringKeyVersion_frame {o_ : Obj} (q_ : o_.quiet = true) (h_ : ¬ o_.id ∈ Footprint.execFieldMeteringKeyVersion) (r : Req) (data : List Byte) (s : State) {t : State} (e_ : execFieldMeteringKeyVersion r data s = .next t) :
    t.view o_ = s.view o_ ∧ t.still = s.canon.still := by
  simp only [Footprint.execFieldMeteringKeyVersion, List.mem_append, List.mem_cons, List.not_mem_nil, or_false, false_or, not_or, and_assoc] at h_
  refine run_frame (hostWrite_part q_ (by simp only [h_, not_false_eq_true]) _ _ _ _ _ (fun _ u t e => ?_) _) e_
  (try dsimp only at e)
  repeat' split at e
  all_goals first
      | exact absurd e (by simp only [reduceCtorEq, not_false_eq_true])
      | exact setFieldKeyVersion_part q_ (by simp only [h_, not_false_eq_true]) _ _ e
      | (rw [← Except.ok.inj e]; done)
      | (rw [← Except.ok.inj e]; simp only [part_ite, setFieldKeyVersion_part, h_, q_, implies_true, ite_self, not_false_eq_true, if_false]; done)
      | (rw [← Except.ok.inj e]; (try simp only [part_ite, setFieldKeyVersion_part, h_, q_, implies_true, ite_self, not_false_eq_true, if_false]) <;> (repeat' split) <;> (first | (simp only [part_ite, setFieldKeyVersion_part, h_, q_, implies_true, ite_self, not_false_eq_true, if_false]; done) | rfl))

theorem execReMask_frame {o_ : Obj} (q_ : o_.quiet = true) (h_ : ¬ o_.id ∈ Footprint.execReMask)  (s : State) {t : State} (e_ : execReMask s = .next t) :
    t.view o_ = s.view o_ ∧ t.still = s.canon.still := by
  simp only [Footprint.execReMask, List.mem_append, List.mem_cons, List.not_mem_nil, or_false, false_or, not_or, and_assoc] at h_
  refine run_frame ?_ e_
  first
  | (simp only [part_ite, part_set, forN_part, remask_part, h_, q_, implies_true, ite_self, not_false_eq_true, if_false]; rfl)
  | ((try simp only [part_ite, part_set, forN_part, remask_part, h_, q_, implies_true, ite_self, not_false_eq_true, if_false]) <;> (repeat' split) <;> (first | rfl | (simp only [part_ite, part_set, forN_part, remask_part, h_, q_, implies_true, ite_self, not_false_eq_true, if_false]; done) | (simp only [part_ite, part_set, forN_part, remask_part, h_, q_, implies_true, ite_self, not_false_eq_true, if_false]; rfl)))

theorem execBlobRewrap_frame {o_ : Obj} (q_ : o_.quiet = true) (h_ : ¬ o_.id ∈ Footprint.execBlobRewrap)  (s : State) {t : State} (e_ : execBlobRewrap s = .next t) :
    t.view o_ = s.view o_ ∧ t.still = s.canon.still := by
  simp only [Footprint.execBlobRewrap, List.mem_append, List.mem_cons, List.not_mem_nil, or_false, false_or, not_or, and_assoc] at h_
  refine run_frame ?_ e_
  first
  | (simp only [part_ite, rewrapBlobs_part, h_, q_, implies_true, ite_self, not_false_eq_true, if_false]; rfl)
  | ((try simp only [part_ite, rewrapBlobs_part, h_, q_, implies_true, ite_self, not_false_eq_true, if_false]) <;> (repeat' split) <;> (first | rfl | (simp only [part_ite, rewrapBlobs_part, h_, q_, implies_true, ite_self, not_false_eq_true, if_false]; done) | (simp only [part_ite, rewrapBlobs_part, h_, q_, implies_true, ite_self, not_false_eq_true, if_false]; rfl)))

theorem execRoleKeyWrite_frame {o_ : Obj} (q_ : o_.quiet = true) (h_ : ¬ o_.id ∈ Footprint.execRoleKeyWrite) (r : Req) (index : Fin 5) (data : List Byte) (s : State) {t : State} (e_ : execRoleKeyWrite r index data s = .next t) :
    t.view o_ = s.view o_ ∧ t.still = s.canon.still := by
  simp only [Footprint.execRoleKeyWrite, List.mem_append, List.mem_cons, List.not_mem_nil, or_false, false_or, not_or, and_assoc] at h_
  have k (i : Nat) (o : Obj × Nat) (b : Bool) (u v : State) (g : (v.part o_) = u.part o_) : State.part (if b then noteFull i u v else v) o_ = u.part o_ := by
    split
    · exact (noteFull_part q_ _ _ _).trans g
    · exact g
  refine run_frame ?_ e_
  (try dsimp only)
  split
  · exact (noteFull_part q_ _ _ _).trans (hostWrite_part q_ (by simp only [h_, not_false_eq_true]) _ _ _ _ _ (fun role u t e => setRoleKey_part q_ (by simp only [h_, not_false_eq_true]) _ _ _ _ e) _)
  · exact hostWrite_part q_ (by simp only [h_, not_false_eq_true]) _ _ _ _ _ (fun role u t e => setRoleKey_part q_ (by simp only [h_, not_false_eq_true]) _ _ _ _ e) _

theorem execCanRoleKeyWrite_frame {o_ : Obj} (q_ : o_.quiet = true) (h_ : ¬ o_.id ∈ Footprint.execCanRoleKeyWrite) (r : Req) (index : Fin 5) (data : List Byte) (s : State) {t : State} (e_ : execCanRoleKeyWrite r index data s = .next t) :
    t.view o_ = s.view o_ ∧ t.still = s.canon.still := by
  simp only [Footprint.execCanRoleKeyWrite, List.mem_append, List.mem_cons, List.not_mem_nil, or_false, false_or, not_or, and_assoc] at h_
  have k (i : Nat) (o : Obj × Nat) (b : Bool) (u v : State) (g : (v.part o_) = u.part o_) : State.part (if b then noteFull i u v else v) o_ = u.part o_ := by
    split
    · exact (noteFull_part q_ _ _ _).trans g
    · exact g
  refine run_frame ?_ e_
  (try dsimp only)
  split
  · exact (noteFull_part q_ _ _ _).trans (hostWrite_part q_ (by simp only [h_, not_false_eq_true]) _ _ _ _ _ (fun role u t e => setCanKey_part q_ (by simp only [h_, not_false_eq_true]) _ _ _ _ _ e) _)
  · exact hostWrite_part q_ (by simp only [h_, not_false_eq_true]) _ _ _ _ _ (fun role u t e => setCanKey_part q_ (by simp only [h_, not_false_eq_true]) _ _ _ _ _ e) _

theorem execGenerateSeccKeyP256_frame {o_ : Obj} (q_ : o_.quiet = true) (h_ : ¬ o_.id ∈ Footprint.execGenerateSeccKeyP256) (r : Req) (s : State) {t : State} (e_ : execGenerateSeccKeyP256 r s = .next t) :
    t.view o_ = s.view o_ ∧ t.still = s.canon.still := by
  simp only [Footprint.execGenerateSeccKeyP256, List.mem_append, List.mem_cons, List.not_mem_nil, or_false, false_or, not_or, and_assoc] at h_
  refine run_frame ?_ e_
  first
  | (simp only [part_ite, generateSecc_part, h_, q_, implies_true, ite_self, not_false_eq_true, if_false]; rfl)
  | ((try simp only [part_ite, generateSecc_part, h_, q_, implies_true, ite_self, not_false_eq_true, if_false]) <;> (repeat' split) <;> (first | rfl | (simp only [part_ite, generateSecc_part, h_, q_, implies_true, ite_self, not_false_eq_true, if_false]; done) | (simp only [part_ite, generateSecc_part, h_, q_, implies_true, ite_self, not_false_eq_true, if_false]; rfl)))

theorem execGenerateSeccKeyP521_frame {o_ : Obj} (q_ : o_.quiet = true) (h_ : ¬ o_.id ∈ Footprint.execGenerateSeccKeyP521) (r : Req) (s : State) {t : State} (e_ : execGenerateSeccKeyP521 r s = .next t) :
    t.view o_ = s.view o_ ∧ t.still = s.canon.still := by
  simp only [Footprint.execGenerateSeccKeyP521, List.mem_append, List.mem_cons, List.not_mem_nil, or_false, false_or, not_or, and_assoc] at h_
  refine run_frame ?_ e_
  first
  | (simp only [part_ite, generateSecc_part, h_, q_, implies_true, ite_self, not_false_eq_true, if_false]; rfl)
  | ((try simp only [part_ite, generateSecc_part, h_, q_, implies_true, ite_self, not_false_eq_true, if_false]) <;> (repeat' split) <;> (first | rfl | (simp only [part_ite, generateSecc_part, h_, q_, implies_true, ite_self, not_false_eq_true, if_false]; done) | (simp only [part_ite, generateSecc_part, h_, q_, implies_true, ite_self, not_false_eq_true, if_false]; rfl)))

theorem execGenerateSeccKeyEd448_frame {o_ : Obj} (q_ : o_.quiet = true) (h_ : ¬ o_.id ∈ Footprint.execGenerateSeccKeyEd448) (r : Req) (s : State) {t : State} (e_ : execGenerateSeccKeyEd448 r s = .next t) :
    t.view o_ = s.view o_ ∧ t.still = s.canon.still := by
  simp only [Footprint.execGenerateSeccKeyEd448, List.mem_append, List.mem_cons, List.not_mem_nil, or_false, false_or, not_or, and_assoc] at h_
  refine run_frame ?_ e_
  first
  | (simp only [part_ite, generateSecc_part, h_, q_, implies_true, ite_self, not_false_eq_true, if_false]; rfl)
  | ((try simp only [part_ite, generateSecc_part, h_, q_, implies_true, ite_self, not_false_eq_true, if_false]) <;> (repeat' split) <;> (first | rfl | (simp only [part_ite, generateSecc_part, h_, q_, implies_true, ite_self, not_false_eq_true, if_false]; done) | (simp only [part_ite, generateSecc_part, h_, q_, implies_true, ite_self, not_false_eq_true, if_false]; rfl)))

theorem execAttestationNonce_frame {o_ : Obj} (q_ : o_.quiet = true) (h_ : ¬ o_.id ∈ Footprint.execAttestationNonce) (r : Req) (nonce : List Byte) (s : State) {t : State} (e_ : execAttestationNonce r nonce s = .next t) :
    t.view o_ = s.view o_ ∧ t.still = s.canon.still := by
  simp only [Footprint.execAttestationNonce, List.mem_append, List.mem_cons, List.not_mem_nil, or_false, false_or, not_or, and_assoc] at h_
  refine run_frame ?_ e_
  refine (resumeKc_part q_ (by simp only [h_, not_false_eq_true]) _).trans ?_
  refine hostDefer_part q_ (by simp only [h_, not_false_eq_true]) _ _ _ _ _ (fun role u t e => ?_) _
  split at e
  · rw [← Except.ok.inj e]
  · exact nomatch e

theorem execHealthTestFailed_frame {o_ : Obj} (q_ : o_.quiet = true) (h_ : ¬ o_.id ∈ Footprint.execHealthTestFailed) (test : Fin 3) (s : State) {t : State} (e_ : execHealthTestFailed test s = .next t) :
    t.view o_ = s.view o_ ∧ t.still = s.canon.still := by
  simp only [Footprint.execHealthTestFailed, List.mem_append, List.mem_cons, List.not_mem_nil, or_false, false_or, not_or, and_assoc] at h_
  refine run_frame ?_ e_
  first
  | (simp only [part_ite, part_set, part_inc, part_setSeq, logEvent_part, h_, q_, implies_true, ite_self, not_false_eq_true, if_false]; rfl)
  | ((try simp only [part_ite, part_set, part_inc, part_setSeq, logEvent_part, h_, q_, implies_true, ite_self, not_false_eq_true, if_false]) <;> (repeat' split) <;> (first | rfl | (simp only [part_ite, part_set, part_inc, part_setSeq, logEvent_part, h_, q_, implies_true, ite_self, not_false_eq_true, if_false]; done) | (simp only [part_ite, part_set, part_inc, part_setSeq, logEvent_part, h_, q_, implies_true, ite_self, not_false_eq_true, if_false]; rfl)))

theorem execRandomSourceRestart_frame {o_ : Obj} (q_ : o_.quiet = true) (h_ : ¬ o_.id ∈ Footprint.execRandomSourceRestart) (passes : Bool) (s : State) {t : State} (e_ : execRandomSourceRestart passes s = .next t) :
    t.view o_ = s.view o_ ∧ t.still = s.canon.still := by
  simp only [Footprint.execRandomSourceRestart, List.mem_append, List.mem_cons, List.not_mem_nil, or_false, false_or, not_or, and_assoc] at h_
  refine run_frame ?_ e_
  first
  | (simp only [part_ite, part_set, resumeKc_part, h_, q_, implies_true, ite_self, not_false_eq_true, if_false]; rfl)
  | ((try simp only [part_ite, part_set, resumeKc_part, h_, q_, implies_true, ite_self, not_false_eq_true, if_false]) <;> (repeat' split) <;> (first | rfl | (simp only [part_ite, part_set, resumeKc_part, h_, q_, implies_true, ite_self, not_false_eq_true, if_false]; done) | (simp only [part_ite, part_set, resumeKc_part, h_, q_, implies_true, ite_self, not_false_eq_true, if_false]; rfl)))

theorem execImageDataWrite_frame {o_ : Obj} (q_ : o_.quiet = true) (h_ : ¬ o_.id ∈ Footprint.execImageDataWrite) (r : Req) (data : List Byte) (s : State) {t : State} (e_ : execImageDataWrite r data s = .next t) :
    t.view o_ = s.view o_ := by
  simp only [Footprint.execImageDataWrite, List.mem_append, List.mem_cons, List.not_mem_nil, or_false, false_or, not_or, and_assoc] at h_
  refine run_view (hostWrite_view q_ (by simp only [h_, not_false_eq_true]) _ _ _ _ _ (fun _ u t e => ?_) _) e_
  (try dsimp only at e)
  repeat' split at e
  all_goals first
      | exact absurd e (by simp only [reduceCtorEq, not_false_eq_true])
      | (rw [← Except.ok.inj e]; done)
      | (rw [← Except.ok.inj e]; simp only [view_ite, state_flashWrite_view, h_, q_, implies_true, ite_self, not_false_eq_true, if_false]; done)
      | (rw [← Except.ok.inj e]; (try simp only [view_ite, state_flashWrite_view, h_, q_, implies_true, ite_self, not_false_eq_true, if_false]) <;> (repeat' split) <;> (first | (simp only [view_ite, state_flashWrite_view, h_, q_, implies_true, ite_self, not_false_eq_true, if_false]; done) | rfl))

theorem execActivateImage_frame {o_ : Obj} (q_ : o_.quiet = true) (h_ : ¬ o_.id ∈ Footprint.execActivateImage) (r : Req) (s : State) {t : State} (e_ : execActivateImage r s = .next t) :
    t.view o_ = s.view o_ := by
  simp only [Footprint.execActivateImage, List.mem_append, List.mem_cons, List.not_mem_nil, or_false, false_or, not_or, and_assoc] at h_
  refine run_view (hostWrite_view q_ (by simp only [h_, not_false_eq_true]) _ _ _ _ _ (fun _ u t e => ?_) _) e_
  (try dsimp only at e)
  repeat' split at e
  all_goals first
      | exact absurd e (by simp only [reduceCtorEq, not_false_eq_true])
      | (rw [← Except.ok.inj e]; done)
      | (rw [← Except.ok.inj e]; simp only [view_ite, view_keep, selectSlot_view, h_, q_, implies_true, ite_self, not_false_eq_true, if_false]; done)
      | (rw [← Except.ok.inj e]; (try simp only [view_ite, view_keep, selectSlot_view, h_, q_, implies_true, ite_self, not_false_eq_true, if_false]) <;> (repeat' split) <;> (first | (simp only [view_ite, view_keep, selectSlot_view, h_, q_, implies_true, ite_self, not_false_eq_true, if_false]; done) | rfl))

theorem execConfirmTrialImage_frame {o_ : Obj} (q_ : o_.quiet = true) (h_ : ¬ o_.id ∈ Footprint.execConfirmTrialImage) (r : Req) (s : State) {t : State} (e_ : execConfirmTrialImage r s = .next t) :
    t.view o_ = s.view o_ ∧ t.still = s.canon.still := by
  simp only [Footprint.execConfirmTrialImage, List.mem_append, List.mem_cons, List.not_mem_nil, or_false, false_or, not_or, and_assoc] at h_
  refine run_frame (hostWrite_part q_ (by simp only [h_, not_false_eq_true]) _ _ _ _ _ (fun _ u t e => ?_) _) e_
  (try dsimp only at e)
  repeat' split at e
  all_goals first
      | exact absurd e (by simp only [reduceCtorEq, not_false_eq_true])
      | (rw [← Except.ok.inj e]; done)
      | (rw [← Except.ok.inj e]; simp only [part_ite, part_keep, h_, q_, implies_true, ite_self, not_false_eq_true, if_false]; done)
      | (rw [← Except.ok.inj e]; (try simp only [part_ite, part_keep, h_, q_, implies_true, ite_self, not_false_eq_true, if_false]) <;> (repeat' split) <;> (first | (simp only [part_ite, part_keep, h_, q_, implies_true, ite_self, not_false_eq_true, if_false]; done) | rfl))

theorem execCommitConfiguration_frame {o_ : Obj} (q_ : o_.quiet = true) (h_ : ¬ o_.id ∈ Footprint.execCommitConfiguration) (r : Req) (s : State) {t : State} (e_ : execCommitConfiguration r s = .next t) :
    t.view o_ = s.view o_ := by
  simp only [Footprint.execCommitConfiguration, List.mem_append, List.mem_cons, List.not_mem_nil, or_false, false_or, not_or, and_assoc] at h_
  refine run_view (hostDefer_view q_ (by simp only [h_, not_false_eq_true]) _ _ _ _ _ (fun _ u t e => ?_) _) e_
  (try dsimp only at e)
  repeat' split at e
  all_goals first
      | exact absurd e (by simp only [reduceCtorEq, not_false_eq_true])
      | (rw [← Except.ok.inj e]; done)
      | (rw [← Except.ok.inj e]; simp only [view_ite, view_set, stageCommit_view, h_, q_, implies_true, ite_self, not_false_eq_true, if_false]; done)
      | (rw [← Except.ok.inj e]; (try simp only [view_ite, view_set, stageCommit_view, h_, q_, implies_true, ite_self, not_false_eq_true, if_false]) <;> (repeat' split) <;> (first | (simp only [view_ite, view_set, stageCommit_view, h_, q_, implies_true, ite_self, not_false_eq_true, if_false]; done) | rfl))

theorem execCommitComplete_frame {o_ : Obj} (q_ : o_.quiet = true) (h_ : ¬ o_.id ∈ Footprint.execCommitComplete)  (s : State) {t : State} (e_ : execCommitComplete s = .next t) :
    t.view o_ = s.view o_ := by
  simp only [Footprint.execCommitComplete, List.mem_append, List.mem_cons, List.not_mem_nil, or_false, false_or, not_or, and_assoc] at h_
  refine run_view ?_ e_
  first
  | (simp only [view_ite, view_set, view_inc, view_setSeq, view_setLog, view_emit, foldl_view, logEvent_view, undirty_view, answerWaiting_view, h_, q_, implies_true, ite_self, not_false_eq_true, if_false]; rfl)
  | ((try simp only [view_ite, view_set, view_inc, view_setSeq, view_setLog, view_emit, foldl_view, logEvent_view, undirty_view, answerWaiting_view, h_, q_, implies_true, ite_self, not_false_eq_true, if_false]) <;> (repeat' split) <;> (first | rfl | (simp only [view_ite, view_set, view_inc, view_setSeq, view_setLog, view_emit, foldl_view, logEvent_view, undirty_view, answerWaiting_view, h_, q_, implies_true, ite_self, not_false_eq_true, if_false]; done) | (simp only [view_ite, view_set, view_inc, view_setSeq, view_setLog, view_emit, foldl_view, logEvent_view, undirty_view, answerWaiting_view, h_, q_, implies_true, ite_self, not_false_eq_true, if_false]; rfl)))

theorem execWindowPost_frame {o_ : Obj} (q_ : o_.quiet = true) (h_ : ¬ o_.id ∈ Footprint.execWindowPost) (r : Req) (channel : Fin 8) (data : List Byte) (s : State) {t : State} (e_ : execWindowPost r channel data s = .next t) :
    t.view o_ = s.view o_ ∧ t.still = s.canon.still := by
  simp only [Footprint.execWindowPost, List.mem_append, List.mem_cons, List.not_mem_nil, or_false, false_or, not_or, and_assoc] at h_
  have a := judgeRequest_part h_.1 r 8 (0x1200 + channel.val) 0 data { s with out := [] }
  refine run_frame ?_ e_
  (try dsimp only)
  split
  · split <;> rename_i e <;> rw [e] at a
    · exact a
    · rw [answer_part q_]; exact a
    · split
      · rw [answer_part q_]; exact a
      · rw [answer_part q_, postWindow_part q_ h_.2]; exact a
  · split
    · rfl
    · exact answer_part q_ _ _ _ _ _ _
  · split
    · rfl
    · exact part_inc (by have z := h_.1; simp only [Footprint.authenticate, List.mem_cons, not_or] at z; exact z.1) _ _

theorem execPushData_frame {o_ : Obj} (q_ : o_.quiet = true) (h_ : ¬ o_.id ∈ Footprint.execPushData) (channel : Fin 8) (s : State) {t : State} (e_ : execPushData channel s = .next t) :
    t.view o_ = s.view o_ ∧ t.still = s.canon.still := by
  simp only [Footprint.execPushData, List.mem_append, List.mem_cons, List.not_mem_nil, or_false, false_or, not_or, and_assoc] at h_
  refine run_frame ?_ e_
  first
  | (simp only [part_ite, sendPush_part, h_, q_, implies_true, ite_self, not_false_eq_true, if_false]; rfl)
  | ((try simp only [part_ite, sendPush_part, h_, q_, implies_true, ite_self, not_false_eq_true, if_false]) <;> (repeat' split) <;> (first | rfl | (simp only [part_ite, sendPush_part, h_, q_, implies_true, ite_self, not_false_eq_true, if_false]; done) | (simp only [part_ite, sendPush_part, h_, q_, implies_true, ite_self, not_false_eq_true, if_false]; rfl)))

theorem execWindowFlush_frame {o_ : Obj} (q_ : o_.quiet = true) (h_ : ¬ o_.id ∈ Footprint.execWindowFlush) (channel : Fin 8) (s : State) {t : State} (e_ : execWindowFlush channel s = .next t) :
    t.view o_ = s.view o_ ∧ t.still = s.canon.still := by
  simp only [Footprint.execWindowFlush, List.mem_append, List.mem_cons, List.not_mem_nil, or_false, false_or, not_or, and_assoc] at h_
  refine run_frame ?_ e_
  first
  | (simp only [part_ite, closeWindow_part, h_, q_, implies_true, ite_self, not_false_eq_true, if_false]; rfl)
  | ((try simp only [part_ite, closeWindow_part, h_, q_, implies_true, ite_self, not_false_eq_true, if_false]) <;> (repeat' split) <;> (first | rfl | (simp only [part_ite, closeWindow_part, h_, q_, implies_true, ite_self, not_false_eq_true, if_false]; done) | (simp only [part_ite, closeWindow_part, h_, q_, implies_true, ite_self, not_false_eq_true, if_false]; rfl)))

theorem execPushResend_frame {o_ : Obj} (q_ : o_.quiet = true) (h_ : ¬ o_.id ∈ Footprint.execPushResend) (channel : Fin 8) (s : State) {t : State} (e_ : execPushResend channel s = .next t) :
    t.view o_ = s.view o_ ∧ t.still = s.canon.still := by
  simp only [Footprint.execPushResend, List.mem_append, List.mem_cons, List.not_mem_nil, or_false, false_or, not_or, and_assoc] at h_
  refine run_frame ?_ e_
  first
  | (simp only [part_ite, resendFrom_part, h_, q_, implies_true, ite_self, not_false_eq_true, if_false]; rfl)
  | ((try simp only [part_ite, resendFrom_part, h_, q_, implies_true, ite_self, not_false_eq_true, if_false]) <;> (repeat' split) <;> (first | rfl | (simp only [part_ite, resendFrom_part, h_, q_, implies_true, ite_self, not_false_eq_true, if_false]; done) | (simp only [part_ite, resendFrom_part, h_, q_, implies_true, ite_self, not_false_eq_true, if_false]; rfl)))

theorem execPushNoWindow_frame {o_ : Obj} (q_ : o_.quiet = true) (h_ : ¬ o_.id ∈ Footprint.execPushNoWindow) (channel : Fin 8) (s : State) {t : State} (e_ : execPushNoWindow channel s = .next t) :
    t.view o_ = s.view o_ ∧ t.still = s.canon.still := by
  simp only [Footprint.execPushNoWindow, List.mem_append, List.mem_cons, List.not_mem_nil, or_false, false_or, not_or, and_assoc] at h_
  refine run_frame ?_ e_
  first
  | (simp only [part_ite, part_set, logEvent_part, h_, q_, implies_true, ite_self, not_false_eq_true, if_false]; rfl)
  | ((try simp only [part_ite, part_set, logEvent_part, h_, q_, implies_true, ite_self, not_false_eq_true, if_false]) <;> (repeat' split) <;> (first | rfl | (simp only [part_ite, part_set, logEvent_part, h_, q_, implies_true, ite_self, not_false_eq_true, if_false]; done) | (simp only [part_ite, part_set, logEvent_part, h_, q_, implies_true, ite_self, not_false_eq_true, if_false]; rfl)))

theorem execExportLog_frame {o_ : Obj} (q_ : o_.quiet = true) (h_ : ¬ o_.id ∈ Footprint.execExportLog) (r : Req) (data : List Byte) (s : State) {t : State} (e_ : execExportLog r data s = .next t) :
    t.view o_ = s.view o_ ∧ t.still = s.canon.still := by
  simp only [Footprint.execExportLog, List.mem_append, List.mem_cons, List.not_mem_nil, or_false, false_or, not_or, and_assoc] at h_
  have f (u : State) : (hostDefer r Obj.exportLog 0 0 data (fun _ t =>
      if ((t.log Reg.pushQueue (t.getN Obj.exportPushChannel)).any fun e => e.take 1 == beBytes 1 5) ∨
          (t.waiting.any (waitsFor Obj.exportLog 0)) then .error 10
      else .ok t) u).part o_ = u.part o_ := by
    refine hostDefer_part q_ (by simp only [h_, not_false_eq_true]) _ _ _ _ _ (fun role u t e => ?_) _
    split at e
    · exact nomatch e
    · rw [← Except.ok.inj e]
  refine run_frame ?_ e_
  (try dsimp only)
  repeat' split
  · rw [resumeKc_part q_ (by simp only [h_, not_false_eq_true])]; exact f _
  · exact f _
  · rw [answerWaiting_part q_, foldl_part (fun _ _ => exportLog_part q_ (by simp only [h_, not_false_eq_true]) _ _)]; exact f _

theorem execCanDataWrite_frame {o_ : Obj} (q_ : o_.quiet = true) (h_ : ¬ o_.id ∈ Footprint.execCanDataWrite) (r : Req) (mo : Fin 512) (data : List Byte) (s : State) {t : State} (e_ : execCanDataWrite r mo data s = .next t) :
    t.view o_ = s.view o_ ∧ t.still = s.canon.still := by
  simp only [Footprint.execCanDataWrite, List.mem_append, List.mem_cons, List.not_mem_nil, or_false, false_or, not_or, and_assoc] at h_
  refine run_frame (hostWrite_part q_ (by simp only [h_, not_false_eq_true]) _ _ _ _ _ (fun _ u t e => ?_) _) e_
  (try dsimp only at e)
  repeat' split at e
  all_goals first
      | exact absurd e (by simp only [reduceCtorEq, not_false_eq_true])
      | exact writeMoData_part q_ (by simp only [h_, not_false_eq_true]) _ _ _ e
      | (rw [← Except.ok.inj e]; done)
      | (rw [← Except.ok.inj e]; simp only [part_ite, writeMoData_part, h_, q_, implies_true, ite_self, not_false_eq_true, if_false]; done)
      | (rw [← Except.ok.inj e]; (try simp only [part_ite, writeMoData_part, h_, q_, implies_true, ite_self, not_false_eq_true, if_false]) <;> (repeat' split) <;> (first | (simp only [part_ite, writeMoData_part, h_, q_, implies_true, ite_self, not_false_eq_true, if_false]; done) | rfl))

theorem execCanSendPeriod_frame {o_ : Obj} (q_ : o_.quiet = true) (h_ : ¬ o_.id ∈ Footprint.execCanSendPeriod) (mo : Fin 512) (s : State) {t : State} (e_ : execCanSendPeriod mo s = .next t) :
    t.view o_ = s.view o_ ∧ t.still = s.canon.still := by
  simp only [Footprint.execCanSendPeriod, List.mem_append, List.mem_cons, List.not_mem_nil, or_false, false_or, not_or, and_assoc] at h_
  refine run_frame ?_ e_
  first
  | (simp only [part_ite, part_set, queueFrameOf_part, h_, q_, implies_true, ite_self, not_false_eq_true, if_false]; rfl)
  | ((try simp only [part_ite, part_set, queueFrameOf_part, h_, q_, implies_true, ite_self, not_false_eq_true, if_false]) <;> (repeat' split) <;> (first | rfl | (simp only [part_ite, part_set, queueFrameOf_part, h_, q_, implies_true, ite_self, not_false_eq_true, if_false]; done) | (simp only [part_ite, part_set, queueFrameOf_part, h_, q_, implies_true, ite_self, not_false_eq_true, if_false]; rfl)))

theorem execCanFrameReceived_frame {o_ : Obj} (q_ : o_.quiet = true) (h_ : ¬ o_.id ∈ Footprint.execCanFrameReceived) (bus : Fin 4) (ext fd remote : Bool) (ident : Nat) (data : List Byte) (s : State) {t : State} (e_ : execCanFrameReceived bus ext fd remote ident data s = .next t) :
    t.view o_ = s.view o_ ∧ t.still = s.canon.still := by
  simp only [Footprint.execCanFrameReceived, List.mem_append, List.mem_cons, List.not_mem_nil, or_false, false_or, not_or, and_assoc] at h_
  refine run_frame ?_ e_
  first
  | (simp only [part_ite, part_set, part_inc, part_draw, takeCanFrame_part, h_, q_, implies_true, ite_self, not_false_eq_true, if_false]; rfl)
  | ((try simp only [part_ite, part_set, part_inc, part_draw, takeCanFrame_part, h_, q_, implies_true, ite_self, not_false_eq_true, if_false]) <;> (repeat' split) <;> (first | rfl | (simp only [part_ite, part_set, part_inc, part_draw, takeCanFrame_part, h_, q_, implies_true, ite_self, not_false_eq_true, if_false]; done) | (simp only [part_ite, part_set, part_inc, part_draw, takeCanFrame_part, h_, q_, implies_true, ite_self, not_false_eq_true, if_false]; rfl)))

theorem execDeadlineMiss_frame {o_ : Obj} (q_ : o_.quiet = true) (h_ : ¬ o_.id ∈ Footprint.execDeadlineMiss) (mo : Fin 512) (s : State) {t : State} (e_ : execDeadlineMiss mo s = .next t) :
    t.view o_ = s.view o_ ∧ t.still = s.canon.still := by
  simp only [Footprint.execDeadlineMiss, List.mem_append, List.mem_cons, List.not_mem_nil, or_false, false_or, not_or, and_assoc] at h_
  refine run_frame ?_ e_
  first
  | (simp only [part_ite, part_set, missOf_part, h_, q_, implies_true, ite_self, not_false_eq_true, if_false]; rfl)
  | ((try simp only [part_ite, part_set, missOf_part, h_, q_, implies_true, ite_self, not_false_eq_true, if_false]) <;> (repeat' split) <;> (first | rfl | (simp only [part_ite, part_set, missOf_part, h_, q_, implies_true, ite_self, not_false_eq_true, if_false]; done) | (simp only [part_ite, part_set, missOf_part, h_, q_, implies_true, ite_self, not_false_eq_true, if_false]; rfl)))

theorem execTtEnter_frame {o_ : Obj} (q_ : o_.quiet = true) (h_ : ¬ o_.id ∈ Footprint.execTtEnter) (r : Req) (bus : Fin 2) (s : State) {t : State} (e_ : execTtEnter r bus s = .next t) :
    t.view o_ = s.view o_ ∧ t.still = s.canon.still := by
  simp only [Footprint.execTtEnter, List.mem_append, List.mem_cons, List.not_mem_nil, or_false, false_or, not_or, and_assoc] at h_
  refine run_frame ?_ e_
  (try dsimp only)
  have f (u : State) : (hostDefer r Obj.timeTriggeredCommand (2 + bus.val) 0 [1] (fun _ t =>
      if t.get Obj.controllerState (2 + bus.val) = csMonitor then .error 6
      else if t.get Obj.operation (2 + bus.val) = 1 then .ok t
      else .ok (((t.set Reg.ttEnterDue 1 (2 + bus.val)).set Reg.ttCause 1 (2 + bus.val)).set Reg.ttObject 255 (2 + bus.val))) u).part o_ = u.part o_ := by
    refine hostDefer_part q_ (by simp only [h_, not_false_eq_true]) _ _ _ _ _ (fun role u t e => ?_) _
    repeat' split at e
    · exact nomatch e
    · rw [← Except.ok.inj e]
    · rw [← Except.ok.inj e, part_set h_.2.2.1, part_set h_.2.1, part_set h_.1]
  repeat' split
  · rw [canIdle_part q_ (by simp only [h_, not_false_eq_true])]; exact f _
  · exact f _
  · rw [answerWaiting_part q_]; exact f _

theorem execTtLeave_frame {o_ : Obj} (q_ : o_.quiet = true) (h_ : ¬ o_.id ∈ Footprint.execTtLeave) (r : Req) (bus : Fin 2) (s : State) {t : State} (e_ : execTtLeave r bus s = .next t) :
    t.view o_ = s.view o_ ∧ t.still = s.canon.still := by
  simp only [Footprint.execTtLeave, List.mem_append, List.mem_cons, List.not_mem_nil, or_false, false_or, not_or, and_assoc] at h_
  refine run_frame ?_ e_
  (try dsimp only)
  have f (u : State) : (hostDefer r Obj.timeTriggeredCommand (2 + bus.val) 0 [2] (fun _ t =>
      if t.get Obj.controllerState (2 + bus.val) = csMonitor then .error 6
      else .ok (if t.get Obj.operation (2 + bus.val) = 1 then t.set Reg.ttLeaveDue 1 (2 + bus.val) else t.set Reg.ttEnterDue 0 (2 + bus.val))) u).part o_ = u.part o_ := by
    refine hostDefer_part q_ (by simp only [h_, not_false_eq_true]) _ _ _ _ _ (fun role u t e => ?_) _
    repeat' split at e
    · exact nomatch e
    · rw [← Except.ok.inj e, part_set (by simp only [h_, not_false_eq_true])]
    · rw [← Except.ok.inj e, part_set (by simp only [h_, not_false_eq_true])]
  repeat' split
  · exact f _
  · rw [answerWaiting_part q_]; exact f _

theorem execTtWindowMark_frame {o_ : Obj} (q_ : o_.quiet = true) (h_ : ¬ o_.id ∈ Footprint.execTtWindowMark) (bus : Fin 2) (s : State) {t : State} (e_ : execTtWindowMark bus s = .next t) :
    t.view o_ = s.view o_ ∧ t.still = s.canon.still := by
  simp only [Footprint.execTtWindowMark, List.mem_append, List.mem_cons, List.not_mem_nil, or_false, false_or, not_or, and_assoc] at h_
  refine run_frame ?_ e_
  first
  | (simp only [part_ite, part_set, part_setBit, part_setLog, endTtWindow_part, nextBasicCycle_part, startCan_part, h_, q_, implies_true, ite_self, not_false_eq_true, if_false]; rfl)
  | ((try simp only [part_ite, part_set, part_setBit, part_setLog, endTtWindow_part, nextBasicCycle_part, startCan_part, h_, q_, implies_true, ite_self, not_false_eq_true, if_false]) <;> (repeat' split) <;> (first | rfl | (simp only [part_ite, part_set, part_setBit, part_setLog, endTtWindow_part, nextBasicCycle_part, startCan_part, h_, q_, implies_true, ite_self, not_false_eq_true, if_false]; done) | (simp only [part_ite, part_set, part_setBit, part_setLog, endTtWindow_part, nextBasicCycle_part, startCan_part, h_, q_, implies_true, ite_self, not_false_eq_true, if_false]; rfl)))

theorem execBusOffRecoveryRequest_frame {o_ : Obj} (q_ : o_.quiet = true) (h_ : ¬ o_.id ∈ Footprint.execBusOffRecoveryRequest) (bus : Fin 4) (s : State) {t : State} (e_ : execBusOffRecoveryRequest bus s = .next t) :
    t.view o_ = s.view o_ ∧ t.still = s.canon.still := by
  simp only [Footprint.execBusOffRecoveryRequest, List.mem_append, List.mem_cons, List.not_mem_nil, or_false, false_or, not_or, and_assoc] at h_
  refine run_frame ?_ e_
  first
  | (simp only [part_ite, beginRecovery_part, h_, q_, implies_true, ite_self, not_false_eq_true, if_false]; rfl)
  | ((try simp only [part_ite, beginRecovery_part, h_, q_, implies_true, ite_self, not_false_eq_true, if_false]) <;> (repeat' split) <;> (first | rfl | (simp only [part_ite, beginRecovery_part, h_, q_, implies_true, ite_self, not_false_eq_true, if_false]; done) | (simp only [part_ite, beginRecovery_part, h_, q_, implies_true, ite_self, not_false_eq_true, if_false]; rfl)))

theorem execBusOffRecovered_frame {o_ : Obj} (q_ : o_.quiet = true) (h_ : ¬ o_.id ∈ Footprint.execBusOffRecovered) (bus : Fin 4) (s : State) {t : State} (e_ : execBusOffRecovered bus s = .next t) :
    t.view o_ = s.view o_ ∧ t.still = s.canon.still := by
  simp only [Footprint.execBusOffRecovered, List.mem_append, List.mem_cons, List.not_mem_nil, or_false, false_or, not_or, and_assoc] at h_
  refine run_frame ?_ e_
  first
  | (simp only [part_ite, part_set, part_inc, part_emit, logEvent_part, canIdle_part, h_, q_, implies_true, ite_self, not_false_eq_true, if_false]; rfl)
  | ((try simp only [part_ite, part_set, part_inc, part_emit, logEvent_part, canIdle_part, h_, q_, implies_true, ite_self, not_false_eq_true, if_false]) <;> (repeat' split) <;> (first | rfl | (simp only [part_ite, part_set, part_inc, part_emit, logEvent_part, canIdle_part, h_, q_, implies_true, ite_self, not_false_eq_true, if_false]; done) | (simp only [part_ite, part_set, part_inc, part_emit, logEvent_part, canIdle_part, h_, q_, implies_true, ite_self, not_false_eq_true, if_false]; rfl)))

theorem execRestartController_frame {o_ : Obj} (q_ : o_.quiet = true) (h_ : ¬ o_.id ∈ Footprint.execRestartController) (r : Req) (bus : Fin 4) (s : State) {t : State} (e_ : execRestartController r bus s = .next t) :
    t.view o_ = s.view o_ ∧ t.still = s.canon.still := by
  simp only [Footprint.execRestartController, List.mem_append, List.mem_cons, List.not_mem_nil, or_false, false_or, not_or, and_assoc] at h_
  refine run_frame (hostWrite_part q_ (by simp only [h_, not_false_eq_true]) _ _ _ _ _ (fun _ u t e => ?_) _) e_
  (try dsimp only at e)
  repeat' split at e
  all_goals first
      | exact absurd e (by simp only [reduceCtorEq, not_false_eq_true])
      | (rw [← Except.ok.inj e]; done)
      | (rw [← Except.ok.inj e]; simp only [part_ite, part_setSeq, beginRecovery_part, h_, q_, implies_true, ite_self, not_false_eq_true, if_false]; done)
      | (rw [← Except.ok.inj e]; (try simp only [part_ite, part_setSeq, beginRecovery_part, h_, q_, implies_true, ite_self, not_false_eq_true, if_false]) <;> (repeat' split) <;> (first | (simp only [part_ite, part_setSeq, beginRecovery_part, h_, q_, implies_true, ite_self, not_false_eq_true, if_false]; done) | rfl))

theorem execBusMonitoringExit_frame {o_ : Obj} (q_ : o_.quiet = true) (h_ : ¬ o_.id ∈ Footprint.execBusMonitoringExit) (bus : Fin 2) (s : State) {t : State} (e_ : execBusMonitoringExit bus s = .next t) :
    t.view o_ = s.view o_ ∧ t.still = s.canon.still := by
  simp only [Footprint.execBusMonitoringExit, List.mem_append, List.mem_cons, List.not_mem_nil, or_false, false_or, not_or, and_assoc] at h_
  refine run_frame ?_ e_
  first
  | (simp only [part_ite, part_set, canIdle_part, judgeErrors_part, h_, q_, implies_true, ite_self, not_false_eq_true, if_false]; rfl)
  | ((try simp only [part_ite, part_set, canIdle_part, judgeErrors_part, h_, q_, implies_true, ite_self, not_false_eq_true, if_false]) <;> (repeat' split) <;> (first | rfl | (simp only [part_ite, part_set, canIdle_part, judgeErrors_part, h_, q_, implies_true, ite_self, not_false_eq_true, if_false]; done) | (simp only [part_ite, part_set, canIdle_part, judgeErrors_part, h_, q_, implies_true, ite_self, not_false_eq_true, if_false]; rfl)))

theorem execLoadSwitchCommand_frame {o_ : Obj} (q_ : o_.quiet = true) (h_ : ¬ o_.id ∈ Footprint.execLoadSwitchCommand) (r : Req) (channel : Fin 96) (data : List Byte) (s : State) {t : State} (e_ : execLoadSwitchCommand r channel data s = .next t) :
    t.view o_ = s.view o_ ∧ t.still = s.canon.still := by
  simp only [Footprint.execLoadSwitchCommand, List.mem_append, List.mem_cons, List.not_mem_nil, or_false, false_or, not_or, and_assoc] at h_
  refine run_frame (hostWrite_part q_ (by simp only [h_, not_false_eq_true]) _ _ _ _ _ (fun _ u t e => ?_) _) e_
  (try dsimp only at e)
  repeat' split at e
  all_goals first
      | exact absurd e (by simp only [reduceCtorEq, not_false_eq_true])
      | exact hostCommand_part q_ (by simp only [h_, not_false_eq_true]) _ _ _ e
      | (rw [← Except.ok.inj e]; done)
      | (rw [← Except.ok.inj e]; simp only [part_ite, hostCommand_part, h_, q_, implies_true, ite_self, not_false_eq_true, if_false]; done)
      | (rw [← Except.ok.inj e]; (try simp only [part_ite, hostCommand_part, h_, q_, implies_true, ite_self, not_false_eq_true, if_false]) <;> (repeat' split) <;> (first | (simp only [part_ite, hostCommand_part, h_, q_, implies_true, ite_self, not_false_eq_true, if_false]; done) | rfl))

theorem execHardShort_frame {o_ : Obj} (q_ : o_.quiet = true) (h_ : ¬ o_.id ∈ Footprint.execHardShort) (channel : Fin 96) (current : Nat) (s : State) {t : State} (e_ : execHardShort channel current s = .next t) :
    t.view o_ = s.view o_ ∧ t.still = s.canon.still := by
  simp only [Footprint.execHardShort, List.mem_append, List.mem_cons, List.not_mem_nil, or_false, false_or, not_or, and_assoc] at h_
  refine run_frame ?_ e_
  first
  | (simp only [part_ite, part_set, latchOff_part, h_, q_, implies_true, ite_self, not_false_eq_true, if_false]; rfl)
  | ((try simp only [part_ite, part_set, latchOff_part, h_, q_, implies_true, ite_self, not_false_eq_true, if_false]) <;> (repeat' split) <;> (first | rfl | (simp only [part_ite, part_set, latchOff_part, h_, q_, implies_true, ite_self, not_false_eq_true, if_false]; done) | (simp only [part_ite, part_set, latchOff_part, h_, q_, implies_true, ite_self, not_false_eq_true, if_false]; rfl)))

theorem execInrushOverCurrent_frame {o_ : Obj} (q_ : o_.quiet = true) (h_ : ¬ o_.id ∈ Footprint.execInrushOverCurrent) (channel : Fin 96) (current : Nat) (s : State) {t : State} (e_ : execInrushOverCurrent channel current s = .next t) :
    t.view o_ = s.view o_ ∧ t.still = s.canon.still := by
  simp only [Footprint.execInrushOverCurrent, List.mem_append, List.mem_cons, List.not_mem_nil, or_false, false_or, not_or, and_assoc] at h_
  refine run_frame ?_ e_
  first
  | (simp only [part_ite, part_set, latchOff_part, h_, q_, implies_true, ite_self, not_false_eq_true, if_false]; rfl)
  | ((try simp only [part_ite, part_set, latchOff_part, h_, q_, implies_true, ite_self, not_false_eq_true, if_false]) <;> (repeat' split) <;> (first | rfl | (simp only [part_ite, part_set, latchOff_part, h_, q_, implies_true, ite_self, not_false_eq_true, if_false]; done) | (simp only [part_ite, part_set, latchOff_part, h_, q_, implies_true, ite_self, not_false_eq_true, if_false]; rfl)))

theorem execSteadyOverCurrent_frame {o_ : Obj} (q_ : o_.quiet = true) (h_ : ¬ o_.id ∈ Footprint.execSteadyOverCurrent) (channel : Fin 96) (current : Nat) (s : State) {t : State} (e_ : execSteadyOverCurrent channel current s = .next t) :
    t.view o_ = s.view o_ ∧ t.still = s.canon.still := by
  simp only [Footprint.execSteadyOverCurrent, List.mem_append, List.mem_cons, List.not_mem_nil, or_false, false_or, not_or, and_assoc] at h_
  refine run_frame ?_ e_
  first
  | (simp only [part_ite, part_set, latchOff_part, h_, q_, implies_true, ite_self, not_false_eq_true, if_false]; rfl)
  | ((try simp only [part_ite, part_set, latchOff_part, h_, q_, implies_true, ite_self, not_false_eq_true, if_false]) <;> (repeat' split) <;> (first | rfl | (simp only [part_ite, part_set, latchOff_part, h_, q_, implies_true, ite_self, not_false_eq_true, if_false]; done) | (simp only [part_ite, part_set, latchOff_part, h_, q_, implies_true, ite_self, not_false_eq_true, if_false]; rfl)))

theorem execInrushWindowEnd_frame {o_ : Obj} (q_ : o_.quiet = true) (h_ : ¬ o_.id ∈ Footprint.execInrushWindowEnd) (channel : Fin 96) (s : State) {t : State} (e_ : execInrushWindowEnd channel s = .next t) :
    t.view o_ = s.view o_ ∧ t.still = s.canon.still := by
  simp only [Footprint.execInrushWindowEnd, List.mem_append, List.mem_cons, List.not_mem_nil, or_false, false_or, not_or, and_assoc] at h_
  refine run_frame ?_ e_
  first
  | (simp only [part_ite, part_set, h_, q_, implies_true, ite_self, not_false_eq_true, if_false]; rfl)
  | ((try simp only [part_ite, part_set, h_, q_, implies_true, ite_self, not_false_eq_true, if_false]) <;> (repeat' split) <;> (first | rfl | (simp only [part_ite, part_set, h_, q_, implies_true, ite_self, not_false_eq_true, if_false]; done) | (simp only [part_ite, part_set, h_, q_, implies_true, ite_self, not_false_eq_true, if_false]; rfl)))

theorem execThermalShutdown_frame {o_ : Obj} (q_ : o_.quiet = true) (h_ : ¬ o_.id ∈ Footprint.execThermalShutdown) (channel : Fin 96) (junction : Nat) (s : State) {t : State} (e_ : execThermalShutdown channel junction s = .next t) :
    t.view o_ = s.view o_ ∧ t.still = s.canon.still := by
  simp only [Footprint.execThermalShutdown, List.mem_append, List.mem_cons, List.not_mem_nil, or_false, false_or, not_or, and_assoc] at h_
  refine run_frame ?_ e_
  first
  | (simp only [part_ite, part_set, latchOff_part, coilFault_part, h_, q_, implies_true, ite_self, not_false_eq_true, if_false]; rfl)
  | ((try simp only [part_ite, part_set, latchOff_part, coilFault_part, h_, q_, implies_true, ite_self, not_false_eq_true, if_false]) <;> (repeat' split) <;> (first | rfl | (simp only [part_ite, part_set, latchOff_part, coilFault_part, h_, q_, implies_true, ite_self, not_false_eq_true, if_false]; done) | (simp only [part_ite, part_set, latchOff_part, coilFault_part, h_, q_, implies_true, ite_self, not_false_eq_true, if_false]; rfl)))

theorem execJunctionCooled_frame {o_ : Obj} (q_ : o_.quiet = true) (h_ : ¬ o_.id ∈ Footprint.execJunctionCooled) (channel : Fin 96) (junction : Int) (s : State) {t : State} (e_ : execJunctionCooled channel junction s = .next t) :
    t.view o_ = s.view o_ ∧ t.still = s.canon.still := by
  simp only [Footprint.execJunctionCooled, List.mem_append, List.mem_cons, List.not_mem_nil, or_false, false_or, not_or, and_assoc] at h_
  refine run_frame ?_ e_
  first
  | (simp only [part_ite, part_set, restartCooled_part, h_, q_, implies_true, ite_self, not_false_eq_true, if_false]; rfl)
  | ((try simp only [part_ite, part_set, restartCooled_part, h_, q_, implies_true, ite_self, not_false_eq_true, if_false]) <;> (repeat' split) <;> (first | rfl | (simp only [part_ite, part_set, restartCooled_part, h_, q_, implies_true, ite_self, not_false_eq_true, if_false]; done) | (simp only [part_ite, part_set, restartCooled_part, h_, q_, implies_true, ite_self, not_false_eq_true, if_false]; rfl)))

theorem execClearLatch_frame {o_ : Obj} (q_ : o_.quiet = true) (h_ : ¬ o_.id ∈ Footprint.execClearLatch) (r : Req) (channel : Fin 96) (s : State) {t : State} (e_ : execClearLatch r channel s = .next t) :
    t.view o_ = s.view o_ ∧ t.still = s.canon.still := by
  simp only [Footprint.execClearLatch, List.mem_append, List.mem_cons, List.not_mem_nil, or_false, false_or, not_or, and_assoc] at h_
  refine run_frame (hostWrite_part q_ (by simp only [h_, not_false_eq_true]) _ _ _ _ _ (fun _ u t e => ?_) _) e_
  (try dsimp only at e)
  repeat' split at e
  all_goals first
      | exact absurd e (by simp only [reduceCtorEq, not_false_eq_true])
      | exact clearChannel_part q_ (by simp only [h_, not_false_eq_true]) _ _ e
      | (rw [← Except.ok.inj e]; done)
      | (rw [← Except.ok.inj e]; simp only [part_ite, clearChannel_part, h_, q_, implies_true, ite_self, not_false_eq_true, if_false]; done)
      | (rw [← Except.ok.inj e]; (try simp only [part_ite, clearChannel_part, h_, q_, implies_true, ite_self, not_false_eq_true, if_false]) <;> (repeat' split) <;> (first | (simp only [part_ite, clearChannel_part, h_, q_, implies_true, ite_self, not_false_eq_true, if_false]; done) | rfl))

theorem execGroupOverCurrent_frame {o_ : Obj} (q_ : o_.quiet = true) (h_ : ¬ o_.id ∈ Footprint.execGroupOverCurrent) (group : Fin 8) (current : Nat) (s : State) {t : State} (e_ : execGroupOverCurrent group current s = .next t) :
    t.view o_ = s.view o_ ∧ t.still = s.canon.still := by
  simp only [Footprint.execGroupOverCurrent, List.mem_append, List.mem_cons, List.not_mem_nil, or_false, false_or, not_or, and_assoc] at h_
  refine run_frame ?_ e_
  first
  | (simp only [part_ite, groupMeasured_part, groupOver_part, h_, q_, implies_true, ite_self, not_false_eq_true, if_false]; rfl)
  | ((try simp only [part_ite, groupMeasured_part, groupOver_part, h_, q_, implies_true, ite_self, not_false_eq_true, if_false]) <;> (repeat' split) <;> (first | rfl | (simp only [part_ite, groupMeasured_part, groupOver_part, h_, q_, implies_true, ite_self, not_false_eq_true, if_false]; done) | (simp only [part_ite, groupMeasured_part, groupOver_part, h_, q_, implies_true, ite_self, not_false_eq_true, if_false]; rfl)))

theorem execGroupUndervoltage_frame {o_ : Obj} (q_ : o_.quiet = true) (h_ : ¬ o_.id ∈ Footprint.execGroupUndervoltage) (group : Fin 8) (voltage : Nat) (s : State) {t : State} (e_ : execGroupUndervoltage group voltage s = .next t) :
    t.view o_ = s.view o_ ∧ t.still = s.canon.still := by
  simp only [Footprint.execGroupUndervoltage, List.mem_append, List.mem_cons, List.not_mem_nil, or_false, false_or, not_or, and_assoc] at h_
  refine run_frame ?_ e_
  first
  | (simp only [part_ite, part_set, part_setBit, endEpisode_part, logEpisode_part, h_, q_, implies_true, ite_self, not_false_eq_true, if_false]; rfl)
  | ((try simp only [part_ite, part_set, part_setBit, endEpisode_part, logEpisode_part, h_, q_, implies_true, ite_self, not_false_eq_true, if_false]) <;> (repeat' split) <;> (first | rfl | (simp only [part_ite, part_set, part_setBit, endEpisode_part, logEpisode_part, h_, q_, implies_true, ite_self, not_false_eq_true, if_false]; done) | (simp only [part_ite, part_set, part_setBit, endEpisode_part, logEpisode_part, h_, q_, implies_true, ite_self, not_false_eq_true, if_false]; rfl)))

theorem execShedRestart_frame {o_ : Obj} (q_ : o_.quiet = true) (h_ : ¬ o_.id ∈ Footprint.execShedRestart) (group : Fin 8) (current : Nat) (s : State) {t : State} (e_ : execShedRestart group current s = .next t) :
    t.view o_ = s.view o_ ∧ t.still = s.canon.still := by
  simp only [Footprint.execShedRestart, List.mem_append, List.mem_cons, List.not_mem_nil, or_false, false_or, not_or, and_assoc] at h_
  refine run_frame ?_ e_
  first
  | (simp only [part_ite, part_set, logEvent_part, groupMeasured_part, restartShed_part, h_, q_, implies_true, ite_self, not_false_eq_true, if_false]; rfl)
  | ((try simp only [part_ite, part_set, logEvent_part, groupMeasured_part, restartShed_part, h_, q_, implies_true, ite_self, not_false_eq_true, if_false]) <;> (repeat' split) <;> (first | rfl | (simp only [part_ite, part_set, logEvent_part, groupMeasured_part, restartShed_part, h_, q_, implies_true, ite_self, not_false_eq_true, if_false]; done) | (simp only [part_ite, part_set, logEvent_part, groupMeasured_part, restartShed_part, h_, q_, implies_true, ite_self, not_false_eq_true, if_false]; rfl)))

theorem execCoilTurnOnRelease_frame {o_ : Obj} (q_ : o_.quiet = true) (h_ : ¬ o_.id ∈ Footprint.execCoilTurnOnRelease) (group : Fin 4) (current : Nat) (s : State) {t : State} (e_ : execCoilTurnOnRelease group current s = .next t) :
    t.view o_ = s.view o_ ∧ t.still = s.canon.still := by
  simp only [Footprint.execCoilTurnOnRelease, List.mem_append, List.mem_cons, List.not_mem_nil, or_false, false_or, not_or, and_assoc] at h_
  refine run_frame ?_ e_
  first
  | (simp only [part_ite, groupMeasured_part, restartCooled_part, enterInrush_part, h_, q_, implies_true, ite_self, not_false_eq_true, if_false]; rfl)
  | ((try simp only [part_ite, groupMeasured_part, restartCooled_part, enterInrush_part, h_, q_, implies_true, ite_self, not_false_eq_true, if_false]) <;> (repeat' split) <;> (first | rfl | (simp only [part_ite, groupMeasured_part, restartCooled_part, enterInrush_part, h_, q_, implies_true, ite_self, not_false_eq_true, if_false]; done) | (simp only [part_ite, groupMeasured_part, restartCooled_part, enterInrush_part, h_, q_, implies_true, ite_self, not_false_eq_true, if_false]; rfl)))

theorem execGroupOverVoltage_frame {o_ : Obj} (q_ : o_.quiet = true) (h_ : ¬ o_.id ∈ Footprint.execGroupOverVoltage) (group : Fin 8) (voltage : Nat) (s : State) {t : State} (e_ : execGroupOverVoltage group voltage s = .next t) :
    t.view o_ = s.view o_ ∧ t.still = s.canon.still := by
  simp only [Footprint.execGroupOverVoltage, List.mem_append, List.mem_cons, List.not_mem_nil, or_false, false_or, not_or, and_assoc] at h_
  refine run_frame ?_ e_
  first
  | (simp only [part_ite, part_set, part_setBit, logEvent_part, supplyFault_part, h_, q_, implies_true, ite_self, not_false_eq_true, if_false]; rfl)
  | ((try simp only [part_ite, part_set, part_setBit, logEvent_part, supplyFault_part, h_, q_, implies_true, ite_self, not_false_eq_true, if_false]) <;> (repeat' split) <;> (first | rfl | (simp only [part_ite, part_set, part_setBit, logEvent_part, supplyFault_part, h_, q_, implies_true, ite_self, not_false_eq_true, if_false]; done) | (simp only [part_ite, part_set, part_setBit, logEvent_part, supplyFault_part, h_, q_, implies_true, ite_self, not_false_eq_true, if_false]; rfl)))

theorem execLossOfGround_frame {o_ : Obj} (q_ : o_.quiet = true) (h_ : ¬ o_.id ∈ Footprint.execLossOfGround) (offset : Nat) (s : State) {t : State} (e_ : execLossOfGround offset s = .next t) :
    t.view o_ = s.view o_ ∧ t.still = s.canon.still := by
  simp only [Footprint.execLossOfGround, List.mem_append, List.mem_cons, List.not_mem_nil, or_false, false_or, not_or, and_assoc] at h_
  refine run_frame ?_ e_
  first
  | (simp only [part_ite, part_set, logEvent_part, supplyFault_part, h_, q_, implies_true, ite_self, not_false_eq_true, if_false]; rfl)
  | ((try simp only [part_ite, part_set, logEvent_part, supplyFault_part, h_, q_, implies_true, ite_self, not_false_eq_true, if_false]) <;> (repeat' split) <;> (first | rfl | (simp only [part_ite, part_set, logEvent_part, supplyFault_part, h_, q_, implies_true, ite_self, not_false_eq_true, if_false]; done) | (simp only [part_ite, part_set, logEvent_part, supplyFault_part, h_, q_, implies_true, ite_self, not_false_eq_true, if_false]; rfl)))

theorem execSupplyFaultReturn_frame {o_ : Obj} (q_ : o_.quiet = true) (h_ : ¬ o_.id ∈ Footprint.execSupplyFaultReturn) (ground : Bool) (group : Fin 8) (voltage : Nat) (s : State) {t : State} (e_ : execSupplyFaultReturn ground group voltage s = .next t) :
    t.view o_ = s.view o_ ∧ t.still = s.canon.still := by
  simp only [Footprint.execSupplyFaultReturn, List.mem_append, List.mem_cons, List.not_mem_nil, or_false, false_or, not_or, and_assoc] at h_
  refine run_frame ?_ e_
  first
  | (simp only [part_ite, part_set, supplyReturn_part, groupBack_part, h_, q_, implies_true, ite_self, not_false_eq_true, if_false]; rfl)
  | ((try simp only [part_ite, part_set, supplyReturn_part, groupBack_part, h_, q_, implies_true, ite_self, not_false_eq_true, if_false]) <;> (repeat' split) <;> (first | rfl | (simp only [part_ite, part_set, supplyReturn_part, groupBack_part, h_, q_, implies_true, ite_self, not_false_eq_true, if_false]; done) | (simp only [part_ite, part_set, supplyReturn_part, groupBack_part, h_, q_, implies_true, ite_self, not_false_eq_true, if_false]; rfl)))

theorem execTestPulse_frame {o_ : Obj} (q_ : o_.quiet = true) (h_ : ¬ o_.id ∈ Footprint.execTestPulse) (source : Fin 2) (high : Fin 256) (s : State) {t : State} (e_ : execTestPulse source high s = .next t) :
    t.view o_ = s.view o_ ∧ t.still = s.canon.still := by
  simp only [Footprint.execTestPulse, List.mem_append, List.mem_cons, List.not_mem_nil, or_false, false_or, not_or, and_assoc] at h_
  refine run_frame ?_ e_
  first
  | (simp only [part_ite, testPulse_part, h_, q_, implies_true, ite_self, not_false_eq_true, if_false]; rfl)
  | ((try simp only [part_ite, testPulse_part, h_, q_, implies_true, ite_self, not_false_eq_true, if_false]) <;> (repeat' split) <;> (first | rfl | (simp only [part_ite, testPulse_part, h_, q_, implies_true, ite_self, not_false_eq_true, if_false]; done) | (simp only [part_ite, testPulse_part, h_, q_, implies_true, ite_self, not_false_eq_true, if_false]; rfl)))

theorem execOffPulse_frame {o_ : Obj} (q_ : o_.quiet = true) (h_ : ¬ o_.id ∈ Footprint.execOffPulse) (output : Fin 8) (below5 above18 : Bool) (s : State) {t : State} (e_ : execOffPulse output below5 above18 s = .next t) :
    t.view o_ = s.view o_ ∧ t.still = s.canon.still := by
  simp only [Footprint.execOffPulse, List.mem_append, List.mem_cons, List.not_mem_nil, or_false, false_or, not_or, and_assoc] at h_
  refine run_frame ?_ e_
  first
  | (simp only [part_ite, healthItem_part, outputFault_part, h_, q_, implies_true, ite_self, not_false_eq_true, if_false]; rfl)
  | ((try simp only [part_ite, healthItem_part, outputFault_part, h_, q_, implies_true, ite_self, not_false_eq_true, if_false]) <;> (repeat' split) <;> (first | rfl | (simp only [part_ite, healthItem_part, outputFault_part, h_, q_, implies_true, ite_self, not_false_eq_true, if_false]; done) | (simp only [part_ite, healthItem_part, outputFault_part, h_, q_, implies_true, ite_self, not_false_eq_true, if_false]; rfl)))

theorem execHpSafeState_frame {o_ : Obj} (q_ : o_.quiet = true) (h_ : ¬ o_.id ∈ Footprint.execHpSafeState) (diagnostic : Fin 5) (s : State) {t : State} (e_ : execHpSafeState diagnostic s = .next t) :
    t.view o_ = s.view o_ ∧ t.still = s.canon.still := by
  simp only [Footprint.execHpSafeState, List.mem_append, List.mem_cons, List.not_mem_nil, or_false, false_or, not_or, and_assoc] at h_
  refine run_frame ?_ e_
  first
  | (simp only [part_ite, enterSafeState_part, h_, q_, implies_true, ite_self, not_false_eq_true, if_false]; rfl)
  | ((try simp only [part_ite, enterSafeState_part, h_, q_, implies_true, ite_self, not_false_eq_true, if_false]) <;> (repeat' split) <;> (first | rfl | (simp only [part_ite, enterSafeState_part, h_, q_, implies_true, ite_self, not_false_eq_true, if_false]; done) | (simp only [part_ite, enterSafeState_part, h_, q_, implies_true, ite_self, not_false_eq_true, if_false]; rfl)))

theorem execHpWatchdog_frame {o_ : Obj} (q_ : o_.quiet = true) (h_ : ¬ o_.id ∈ Footprint.execHpWatchdog)  (s : State) {t : State} (e_ : execHpWatchdog s = .next t) :
    t.view o_ = s.view o_ ∧ t.still = s.canon.still := by
  simp only [Footprint.execHpWatchdog, List.mem_append, List.mem_cons, List.not_mem_nil, or_false, false_or, not_or, and_assoc] at h_
  refine run_frame ?_ e_
  first
  | (simp only [part_ite, part_inc, submitObject_part, resetHp_part, h_, q_, implies_true, ite_self, not_false_eq_true, if_false]; rfl)
  | ((try simp only [part_ite, part_inc, submitObject_part, resetHp_part, h_, q_, implies_true, ite_self, not_false_eq_true, if_false]) <;> (repeat' split) <;> (first | rfl | (simp only [part_ite, part_inc, submitObject_part, resetHp_part, h_, q_, implies_true, ite_self, not_false_eq_true, if_false]; done) | (simp only [part_ite, part_inc, submitObject_part, resetHp_part, h_, q_, implies_true, ite_self, not_false_eq_true, if_false]; rfl)))

theorem execStartBrakeTest_frame {o_ : Obj} (q_ : o_.quiet = true) (h_ : ¬ o_.id ∈ Footprint.execStartBrakeTest) (r : Req) (manipulator : Fin 2) (s : State) {t : State} (e_ : execStartBrakeTest r manipulator s = .next t) :
    t.view o_ = s.view o_ ∧ t.still = s.canon.still := by
  simp only [Footprint.execStartBrakeTest, List.mem_append, List.mem_cons, List.not_mem_nil, or_false, false_or, not_or, and_assoc] at h_
  refine run_frame (hostWrite_part q_ (by simp only [h_, not_false_eq_true]) _ _ _ _ _ (fun _ u t e => ?_) _) e_
  (try dsimp only at e)
  repeat' split at e
  all_goals first
      | exact absurd e (by simp only [reduceCtorEq, not_false_eq_true])
      | (rw [← Except.ok.inj e]; done)
      | (rw [← Except.ok.inj e]; simp only [part_ite, setOutputs_part, startTest_part, h_, q_, implies_true, ite_self, not_false_eq_true, if_false]; done)
      | (rw [← Except.ok.inj e]; (try simp only [part_ite, setOutputs_part, startTest_part, h_, q_, implies_true, ite_self, not_false_eq_true, if_false]) <;> (repeat' split) <;> (first | (simp only [part_ite, setOutputs_part, startTest_part, h_, q_, implies_true, ite_self, not_false_eq_true, if_false]; done) | rfl))

theorem execTestTorqueApplied_frame {o_ : Obj} (q_ : o_.quiet = true) (h_ : ¬ o_.id ∈ Footprint.execTestTorqueApplied) (r : Req) (manipulator : Fin 2) (count : Int) (s : State) {t : State} (e_ : execTestTorqueApplied r manipulator count s = .next t) :
    t.view o_ = s.view o_ ∧ t.still = s.canon.still := by
  simp only [Footprint.execTestTorqueApplied, List.mem_append, List.mem_cons, List.not_mem_nil, or_false, false_or, not_or, and_assoc] at h_
  refine run_frame (hostWrite_part q_ (by simp only [h_, not_false_eq_true]) _ _ _ _ _ (fun _ u t e => ?_) _) e_
  (try dsimp only at e)
  repeat' split at e
  all_goals first
      | exact absurd e (by simp only [reduceCtorEq, not_false_eq_true])
      | (rw [← Except.ok.inj e]; done)
      | (rw [← Except.ok.inj e]; simp only [part_ite, part_set, h_, q_, implies_true, ite_self, not_false_eq_true, if_false]; done)
      | (rw [← Except.ok.inj e]; (try simp only [part_ite, part_set, h_, q_, implies_true, ite_self, not_false_eq_true, if_false]) <;> (repeat' split) <;> (first | (simp only [part_ite, part_set, h_, q_, implies_true, ite_self, not_false_eq_true, if_false]; done) | rfl))

theorem execBrakeTestHoldEnd_frame {o_ : Obj} (q_ : o_.quiet = true) (h_ : ¬ o_.id ∈ Footprint.execBrakeTestHoldEnd) (manipulator : Fin 2) (count : Int) (s : State) {t : State} (e_ : execBrakeTestHoldEnd manipulator count s = .next t) :
    t.view o_ = s.view o_ ∧ t.still = s.canon.still := by
  simp only [Footprint.execBrakeTestHoldEnd, List.mem_append, List.mem_cons, List.not_mem_nil, or_false, false_or, not_or, and_assoc] at h_
  refine run_frame ?_ e_
  first
  | (simp only [part_ite, endTest_part, h_, q_, implies_true, ite_self, not_false_eq_true, if_false]; rfl)
  | ((try simp only [part_ite, endTest_part, h_, q_, implies_true, ite_self, not_false_eq_true, if_false]) <;> (repeat' split) <;> (first | rfl | (simp only [part_ite, endTest_part, h_, q_, implies_true, ite_self, not_false_eq_true, if_false]; done) | (simp only [part_ite, endTest_part, h_, q_, implies_true, ite_self, not_false_eq_true, if_false]; rfl)))

theorem execTorqueConfirmTimeout_frame {o_ : Obj} (q_ : o_.quiet = true) (h_ : ¬ o_.id ∈ Footprint.execTorqueConfirmTimeout) (manipulator : Fin 2) (s : State) {t : State} (e_ : execTorqueConfirmTimeout manipulator s = .next t) :
    t.view o_ = s.view o_ ∧ t.still = s.canon.still := by
  simp only [Footprint.execTorqueConfirmTimeout, List.mem_append, List.mem_cons, List.not_mem_nil, or_false, false_or, not_or, and_assoc] at h_
  refine run_frame ?_ e_
  first
  | (simp only [part_ite, setOutputs_part, abortTest_part, h_, q_, implies_true, ite_self, not_false_eq_true, if_false]; rfl)
  | ((try simp only [part_ite, setOutputs_part, abortTest_part, h_, q_, implies_true, ite_self, not_false_eq_true, if_false]) <;> (repeat' split) <;> (first | rfl | (simp only [part_ite, setOutputs_part, abortTest_part, h_, q_, implies_true, ite_self, not_false_eq_true, if_false]; done) | (simp only [part_ite, setOutputs_part, abortTest_part, h_, q_, implies_true, ite_self, not_false_eq_true, if_false]; rfl)))

theorem execBrakeTestDue_frame {o_ : Obj} (q_ : o_.quiet = true) (h_ : ¬ o_.id ∈ Footprint.execBrakeTestDue) (manipulator : Fin 2) (s : State) {t : State} (e_ : execBrakeTestDue manipulator s = .next t) :
    t.view o_ = s.view o_ ∧ t.still = s.canon.still := by
  simp only [Footprint.execBrakeTestDue, List.mem_append, List.mem_cons, List.not_mem_nil, or_false, false_or, not_or, and_assoc] at h_
  refine run_frame ?_ e_
  first
  | (simp only [part_ite, setOutputs_part, startDueTests_part, h_, q_, implies_true, ite_self, not_false_eq_true, if_false]; rfl)
  | ((try simp only [part_ite, setOutputs_part, startDueTests_part, h_, q_, implies_true, ite_self, not_false_eq_true, if_false]) <;> (repeat' split) <;> (first | rfl | (simp only [part_ite, setOutputs_part, startDueTests_part, h_, q_, implies_true, ite_self, not_false_eq_true, if_false]; done) | (simp only [part_ite, setOutputs_part, startDueTests_part, h_, q_, implies_true, ite_self, not_false_eq_true, if_false]; rfl)))

theorem execClearBrakeLockout_frame {o_ : Obj} (q_ : o_.quiet = true) (h_ : ¬ o_.id ∈ Footprint.execClearBrakeLockout) (r : Req) (manipulator : Fin 2) (s : State) {t : State} (e_ : execClearBrakeLockout r manipulator s = .next t) :
    t.view o_ = s.view o_ ∧ t.still = s.canon.still := by
  simp only [Footprint.execClearBrakeLockout, List.mem_append, List.mem_cons, List.not_mem_nil, or_false, false_or, not_or, and_assoc] at h_
  refine run_frame (hostWrite_part q_ (by simp only [h_, not_false_eq_true]) _ _ _ _ _ (fun _ u t e => ?_) _) e_
  (try dsimp only at e)
  repeat' split at e
  all_goals first
      | exact absurd e (by simp only [reduceCtorEq, not_false_eq_true])
      | (rw [← Except.ok.inj e]; done)
      | (rw [← Except.ok.inj e]; simp only [part_ite, part_set, h_, q_, implies_true, ite_self, not_false_eq_true, if_false]; done)
      | (rw [← Except.ok.inj e]; (try simp only [part_ite, part_set, h_, q_, implies_true, ite_self, not_false_eq_true, if_false]) <;> (repeat' split) <;> (first | (simp only [part_ite, part_set, h_, q_, implies_true, ite_self, not_false_eq_true, if_false]; done) | rfl))

theorem execClearOutputFault_frame {o_ : Obj} (q_ : o_.quiet = true) (h_ : ¬ o_.id ∈ Footprint.execClearOutputFault) (r : Req) (data : List Byte) (s : State) {t : State} (e_ : execClearOutputFault r data s = .next t) :
    t.view o_ = s.view o_ ∧ t.still = s.canon.still := by
  simp only [Footprint.execClearOutputFault, List.mem_append, List.mem_cons, List.not_mem_nil, or_false, false_or, not_or, and_assoc] at h_
  refine run_frame (hostWrite_part q_ (by simp only [h_, not_false_eq_true]) _ _ _ _ _ (fun _ u t e => ?_) _) e_
  (try dsimp only at e)
  repeat' split at e
  all_goals first
      | exact absurd e (by simp only [reduceCtorEq, not_false_eq_true])
      | exact clearOutputFault_part q_ (by simp only [h_, not_false_eq_true]) _ _ e
      | (rw [← Except.ok.inj e]; done)
      | (rw [← Except.ok.inj e]; simp only [part_ite, clearOutputFault_part, h_, q_, implies_true, ite_self, not_false_eq_true, if_false]; done)
      | (rw [← Except.ok.inj e]; (try simp only [part_ite, clearOutputFault_part, h_, q_, implies_true, ite_self, not_false_eq_true, if_false]) <;> (repeat' split) <;> (first | (simp only [part_ite, clearOutputFault_part, h_, q_, implies_true, ite_self, not_false_eq_true, if_false]; done) | rfl))

theorem execConfirmConfiguration_frame {o_ : Obj} (q_ : o_.quiet = true) (h_ : ¬ o_.id ∈ Footprint.execConfirmConfiguration) (r : Req) (data : List Byte) (s : State) {t : State} (e_ : execConfirmConfiguration r data s = .next t) :
    t.view o_ = s.view o_ := by
  simp only [Footprint.execConfirmConfiguration, List.mem_append, List.mem_cons, List.not_mem_nil, or_false, false_or, not_or, and_assoc] at h_
  refine run_view (hostWrite_view q_ (by simp only [h_, not_false_eq_true]) _ _ _ _ _ (fun _ u t e => ?_) _) e_
  (try dsimp only at e)
  repeat' split at e
  all_goals first
      | exact absurd e (by simp only [reduceCtorEq, not_false_eq_true])
      | exact confirmSafety_view q_ (by simp only [h_, not_false_eq_true]) _ _ e
      | (rw [← Except.ok.inj e]; done)
      | (rw [← Except.ok.inj e]; simp only [view_ite, confirmSafety_view, h_, q_, implies_true, ite_self, not_false_eq_true, if_false]; done)
      | (rw [← Except.ok.inj e]; (try simp only [view_ite, confirmSafety_view, h_, q_, implies_true, ite_self, not_false_eq_true, if_false]) <;> (repeat' split) <;> (first | (simp only [view_ite, confirmSafety_view, h_, q_, implies_true, ite_self, not_false_eq_true, if_false]; done) | rfl))

theorem execOutputDemand_frame {o_ : Obj} (q_ : o_.quiet = true) (h_ : ¬ o_.id ∈ Footprint.execOutputDemand) (r : Req) (data : List Byte) (s : State) {t : State} (e_ : execOutputDemand r data s = .next t) :
    t.view o_ = s.view o_ ∧ t.still = s.canon.still := by
  simp only [Footprint.execOutputDemand, List.mem_append, List.mem_cons, List.not_mem_nil, or_false, false_or, not_or, and_assoc] at h_
  refine run_frame (hostWrite_part q_ (by simp only [h_, not_false_eq_true]) _ _ _ _ _ (fun _ u t e => ?_) _) e_
  (try dsimp only at e)
  repeat' split at e
  all_goals first
      | exact absurd e (by simp only [reduceCtorEq, not_false_eq_true])
      | exact demandOutputs_part q_ (by simp only [h_, not_false_eq_true]) _ _ e
      | (rw [← Except.ok.inj e]; done)
      | (rw [← Except.ok.inj e]; simp only [part_ite, demandOutputs_part, h_, q_, implies_true, ite_self, not_false_eq_true, if_false]; done)
      | (rw [← Except.ok.inj e]; (try simp only [part_ite, demandOutputs_part, h_, q_, implies_true, ite_self, not_false_eq_true, if_false]) <;> (repeat' split) <;> (first | (simp only [part_ite, demandOutputs_part, h_, q_, implies_true, ite_self, not_false_eq_true, if_false]; done) | rfl))

theorem execJournalCommit_frame {o_ : Obj} (q_ : o_.quiet = true) (h_ : ¬ o_.id ∈ Footprint.execJournalCommit)  (s : State) {t : State} (e_ : execJournalCommit s = .next t) :
    t.view o_ = s.view o_ := by
  simp only [Footprint.execJournalCommit, List.mem_append, List.mem_cons, List.not_mem_nil, or_false, false_or, not_or, and_assoc] at h_
  refine run_view ?_ e_
  first
  | (simp only [view_ite, beginCommit_view, h_, q_, implies_true, ite_self, not_false_eq_true, if_false]; rfl)
  | ((try simp only [view_ite, beginCommit_view, h_, q_, implies_true, ite_self, not_false_eq_true, if_false]) <;> (repeat' split) <;> (first | rfl | (simp only [view_ite, beginCommit_view, h_, q_, implies_true, ite_self, not_false_eq_true, if_false]; done) | (simp only [view_ite, beginCommit_view, h_, q_, implies_true, ite_self, not_false_eq_true, if_false]; rfl)))

theorem execBatchHoldEnd_frame {o_ : Obj} (q_ : o_.quiet = true) (h_ : ¬ o_.id ∈ Footprint.execBatchHoldEnd)  (s : State) {t : State} (e_ : execBatchHoldEnd s = .next t) :
    t.view o_ = s.view o_ := by
  simp only [Footprint.execBatchHoldEnd, List.mem_append, List.mem_cons, List.not_mem_nil, or_false, false_or, not_or, and_assoc] at h_
  refine run_view ?_ e_
  first
  | (simp only [view_ite, beginCommit_view, h_, q_, implies_true, ite_self, not_false_eq_true, if_false]; rfl)
  | ((try simp only [view_ite, beginCommit_view, h_, q_, implies_true, ite_self, not_false_eq_true, if_false]) <;> (repeat' split) <;> (first | rfl | (simp only [view_ite, beginCommit_view, h_, q_, implies_true, ite_self, not_false_eq_true, if_false]; done) | (simp only [view_ite, beginCommit_view, h_, q_, implies_true, ite_self, not_false_eq_true, if_false]; rfl)))

theorem execProgramVerifyFailed_frame {o_ : Obj} (q_ : o_.quiet = true) (h_ : ¬ o_.id ∈ Footprint.execProgramVerifyFailed) (sector : Fin 1024) (s : State) {t : State} (e_ : execProgramVerifyFailed sector s = .next t) :
    t.view o_ = s.view o_ ∧ t.still = s.canon.still := by
  simp only [Footprint.execProgramVerifyFailed, List.mem_append, List.mem_cons, List.not_mem_nil, or_false, false_or, not_or, and_assoc] at h_
  refine run_frame ?_ e_
  first
  | (simp only [part_ite, part_set, part_setSeq, logEvent_part, submitObject_part, healthItem_part, h_, q_, implies_true, ite_self, not_false_eq_true, if_false]; rfl)
  | ((try simp only [part_ite, part_set, part_setSeq, logEvent_part, submitObject_part, healthItem_part, h_, q_, implies_true, ite_self, not_false_eq_true, if_false]) <;> (repeat' split) <;> (first | rfl | (simp only [part_ite, part_set, part_setSeq, logEvent_part, submitObject_part, healthItem_part, h_, q_, implies_true, ite_self, not_false_eq_true, if_false]; done) | (simp only [part_ite, part_set, part_setSeq, logEvent_part, submitObject_part, healthItem_part, h_, q_, implies_true, ite_self, not_false_eq_true, if_false]; rfl)))

theorem execSoftwareResetQuiet_frame {o_ : Obj} (q_ : o_.quiet = true) (h_ : ¬ o_.id ∈ Footprint.execSoftwareResetQuiet) (r : Req) (s : State) {t : State} (e_ : execSoftwareResetQuiet r s = .next t) :
    t.view o_ = s.view o_ ∧ t.still = s.canon.still := by
  simp only [Footprint.execSoftwareResetQuiet, List.mem_append, List.mem_cons, List.not_mem_nil, or_false, false_or, not_or, and_assoc] at h_
  refine run_frame (hostWrite_part q_ (by simp only [h_, not_false_eq_true]) _ _ _ _ _ (fun _ u t e => ?_) _) e_
  (try dsimp only at e)
  repeat' split at e
  all_goals first
      | exact absurd e (by simp only [reduceCtorEq, not_false_eq_true])
      | (rw [← Except.ok.inj e]; done)
      | (rw [← Except.ok.inj e]; simp only [part_ite, acceptSwr_part, h_, q_, implies_true, ite_self, not_false_eq_true, if_false]; done)
      | (rw [← Except.ok.inj e]; (try simp only [part_ite, acceptSwr_part, h_, q_, implies_true, ite_self, not_false_eq_true, if_false]) <;> (repeat' split) <;> (first | (simp only [part_ite, acceptSwr_part, h_, q_, implies_true, ite_self, not_false_eq_true, if_false]; done) | rfl))

theorem execSoftwareResetAtOnce_frame {o_ : Obj} (q_ : o_.quiet = true) (h_ : ¬ o_.id ∈ Footprint.execSoftwareResetAtOnce) (r : Req) (s : State) {t : State} (e_ : execSoftwareResetAtOnce r s = .next t) :
    t.view o_ = s.view o_ ∧ t.still = s.canon.still := by
  simp only [Footprint.execSoftwareResetAtOnce, List.mem_append, List.mem_cons, List.not_mem_nil, or_false, false_or, not_or, and_assoc] at h_
  refine run_frame (hostWrite_part q_ (by simp only [h_, not_false_eq_true]) _ _ _ _ _ (fun _ u t e => ?_) _) e_
  (try dsimp only at e)
  repeat' split at e
  all_goals first
      | exact absurd e (by simp only [reduceCtorEq, not_false_eq_true])
      | (rw [← Except.ok.inj e]; done)
      | (rw [← Except.ok.inj e]; simp only [part_ite, acceptSwr_part, h_, q_, implies_true, ite_self, not_false_eq_true, if_false]; done)
      | (rw [← Except.ok.inj e]; (try simp only [part_ite, acceptSwr_part, h_, q_, implies_true, ite_self, not_false_eq_true, if_false]) <;> (repeat' split) <;> (first | (simp only [part_ite, acceptSwr_part, h_, q_, implies_true, ite_self, not_false_eq_true, if_false]; done) | rfl))

theorem execSupplyWarning_frame {o_ : Obj} (q_ : o_.quiet = true) (h_ : ¬ o_.id ∈ Footprint.execSupplyWarning) (vaux : Nat) (s : State) {t : State} (e_ : execSupplyWarning vaux s = .next t) :
    t.view o_ = s.view o_ ∧ t.still = s.canon.still := by
  simp only [Footprint.execSupplyWarning, List.mem_append, List.mem_cons, List.not_mem_nil, or_false, false_or, not_or, and_assoc] at h_
  refine run_frame ?_ e_
  first
  | (simp only [part_ite, part_set, openWindow_part, h_, q_, implies_true, ite_self, not_false_eq_true, if_false]; rfl)
  | ((try simp only [part_ite, part_set, openWindow_part, h_, q_, implies_true, ite_self, not_false_eq_true, if_false]) <;> (repeat' split) <;> (first | rfl | (simp only [part_ite, part_set, openWindow_part, h_, q_, implies_true, ite_self, not_false_eq_true, if_false]; done) | (simp only [part_ite, part_set, openWindow_part, h_, q_, implies_true, ite_self, not_false_eq_true, if_false]; rfl)))

theorem execDipCommitPeriod_frame {o_ : Obj} (q_ : o_.quiet = true) (h_ : ¬ o_.id ∈ Footprint.execDipCommitPeriod)  (s : State) {t : State} (e_ : execDipCommitPeriod s = .next t) :
    t.view o_ = s.view o_ ∧ t.still = s.canon.still := by
  simp only [Footprint.execDipCommitPeriod, List.mem_append, List.mem_cons, List.not_mem_nil, or_false, false_or, not_or, and_assoc] at h_
  refine run_frame ?_ e_
  first
  | (simp only [part_ite, part_set, showEpisode_part, commitMeters_part, h_, q_, implies_true, ite_self, not_false_eq_true, if_false]; rfl)
  | ((try simp only [part_ite, part_set, showEpisode_part, commitMeters_part, h_, q_, implies_true, ite_self, not_false_eq_true, if_false]) <;> (repeat' split) <;> (first | rfl | (simp only [part_ite, part_set, showEpisode_part, commitMeters_part, h_, q_, implies_true, ite_self, not_false_eq_true, if_false]; done) | (simp only [part_ite, part_set, showEpisode_part, commitMeters_part, h_, q_, implies_true, ite_self, not_false_eq_true, if_false]; rfl)))

theorem execWindowRecovery_frame {o_ : Obj} (q_ : o_.quiet = true) (h_ : ¬ o_.id ∈ Footprint.execWindowRecovery) (vaux : Nat) (s : State) {t : State} (e_ : execWindowRecovery vaux s = .next t) :
    t.view o_ = s.view o_ ∧ t.still = s.canon.still := by
  simp only [Footprint.execWindowRecovery, List.mem_append, List.mem_cons, List.not_mem_nil, or_false, false_or, not_or, and_assoc] at h_
  refine run_frame ?_ e_
  first
  | (simp only [part_ite, part_set, closeDip_part, h_, q_, implies_true, ite_self, not_false_eq_true, if_false]; rfl)
  | ((try simp only [part_ite, part_set, closeDip_part, h_, q_, implies_true, ite_self, not_false_eq_true, if_false]) <;> (repeat' split) <;> (first | rfl | (simp only [part_ite, part_set, closeDip_part, h_, q_, implies_true, ite_self, not_false_eq_true, if_false]; done) | (simp only [part_ite, part_set, closeDip_part, h_, q_, implies_true, ite_self, not_false_eq_true, if_false]; rfl)))

theorem execDipEpisodeLimit_frame {o_ : Obj} (q_ : o_.quiet = true) (h_ : ¬ o_.id ∈ Footprint.execDipEpisodeLimit)  (s : State) {t : State} (e_ : execDipEpisodeLimit s = .next t) :
    t.view o_ = s.view o_ ∧ t.still = s.canon.still := by
  simp only [Footprint.execDipEpisodeLimit, List.mem_append, List.mem_cons, List.not_mem_nil, or_false, false_or, not_or, and_assoc] at h_
  refine run_frame ?_ e_
  first
  | (simp only [part_ite, episodePasses_part, h_, q_, implies_true, ite_self, not_false_eq_true, if_false]; rfl)
  | ((try simp only [part_ite, episodePasses_part, h_, q_, implies_true, ite_self, not_false_eq_true, if_false]) <;> (repeat' split) <;> (first | rfl | (simp only [part_ite, episodePasses_part, h_, q_, implies_true, ite_self, not_false_eq_true, if_false]; done) | (simp only [part_ite, episodePasses_part, h_, q_, implies_true, ite_self, not_false_eq_true, if_false]; rfl)))

theorem execStagedSessionStop_frame {o_ : Obj} (q_ : o_.quiet = true) (h_ : ¬ o_.id ∈ Footprint.execStagedSessionStop)  (s : State) {t : State} (e_ : execStagedSessionStop s = .next t) :
    t.view o_ = s.view o_ ∧ t.still = s.canon.still := by
  simp only [Footprint.execStagedSessionStop, List.mem_append, List.mem_cons, List.not_mem_nil, or_false, false_or, not_or, and_assoc] at h_
  refine run_frame ?_ e_
  first
  | (simp only [part_ite, stopNextOutlet_part, h_, q_, implies_true, ite_self, not_false_eq_true, if_false]; rfl)
  | ((try simp only [part_ite, stopNextOutlet_part, h_, q_, implies_true, ite_self, not_false_eq_true, if_false]) <;> (repeat' split) <;> (first | rfl | (simp only [part_ite, stopNextOutlet_part, h_, q_, implies_true, ite_self, not_false_eq_true, if_false]; done) | (simp only [part_ite, stopNextOutlet_part, h_, q_, implies_true, ite_self, not_false_eq_true, if_false]; rfl)))

theorem execDipEpisodeEnd_frame {o_ : Obj} (q_ : o_.quiet = true) (h_ : ¬ o_.id ∈ Footprint.execDipEpisodeEnd) (vaux : Nat) (s : State) {t : State} (e_ : execDipEpisodeEnd vaux s = .next t) :
    t.view o_ = s.view o_ ∧ t.still = s.canon.still := by
  simp only [Footprint.execDipEpisodeEnd, List.mem_append, List.mem_cons, List.not_mem_nil, or_false, false_or, not_or, and_assoc] at h_
  refine run_frame ?_ e_
  first
  | (simp only [part_ite, part_set, h_, q_, implies_true, ite_self, not_false_eq_true, if_false]; rfl)
  | ((try simp only [part_ite, part_set, h_, q_, implies_true, ite_self, not_false_eq_true, if_false]) <;> (repeat' split) <;> (first | rfl | (simp only [part_ite, part_set, h_, q_, implies_true, ite_self, not_false_eq_true, if_false]; done) | (simp only [part_ite, part_set, h_, q_, implies_true, ite_self, not_false_eq_true, if_false]; rfl)))

theorem execReverseInput_frame {o_ : Obj} (q_ : o_.quiet = true) (h_ : ¬ o_.id ∈ Footprint.execReverseInput) (input : Fin 3) (volts : Int) (s : State) {t : State} (e_ : execReverseInput input volts s = .next t) :
    t.view o_ = s.view o_ ∧ t.still = s.canon.still := by
  simp only [Footprint.execReverseInput, List.mem_append, List.mem_cons, List.not_mem_nil, or_false, false_or, not_or, and_assoc] at h_
  refine run_frame ?_ e_
  first
  | (simp only [part_ite, part_setBit, logEvent_part, supplyFault_part, h_, q_, implies_true, ite_self, not_false_eq_true, if_false]; rfl)
  | ((try simp only [part_ite, part_setBit, logEvent_part, supplyFault_part, h_, q_, implies_true, ite_self, not_false_eq_true, if_false]) <;> (repeat' split) <;> (first | rfl | (simp only [part_ite, part_setBit, logEvent_part, supplyFault_part, h_, q_, implies_true, ite_self, not_false_eq_true, if_false]; done) | (simp only [part_ite, part_setBit, logEvent_part, supplyFault_part, h_, q_, implies_true, ite_self, not_false_eq_true, if_false]; rfl)))

theorem execGateOn_frame {o_ : Obj} (q_ : o_.quiet = true) (h_ : ¬ o_.id ∈ Footprint.execGateOn) (input : Fin 3) (volts : Nat) (s : State) {t : State} (e_ : execGateOn input volts s = .next t) :
    t.view o_ = s.view o_ ∧ t.still = s.canon.still := by
  simp only [Footprint.execGateOn, List.mem_append, List.mem_cons, List.not_mem_nil, or_false, false_or, not_or, and_assoc] at h_
  refine run_frame ?_ e_
  first
  | (simp only [part_ite, part_set, part_setBit, supplyReturn_part, h_, q_, implies_true, ite_self, not_false_eq_true, if_false]; rfl)
  | ((try simp only [part_ite, part_set, part_setBit, supplyReturn_part, h_, q_, implies_true, ite_self, not_false_eq_true, if_false]) <;> (repeat' split) <;> (first | rfl | (simp only [part_ite, part_set, part_setBit, supplyReturn_part, h_, q_, implies_true, ite_self, not_false_eq_true, if_false]; done) | (simp only [part_ite, part_set, part_setBit, supplyReturn_part, h_, q_, implies_true, ite_self, not_false_eq_true, if_false]; rfl)))

theorem execVauxOverVoltage_frame {o_ : Obj} (q_ : o_.quiet = true) (h_ : ¬ o_.id ∈ Footprint.execVauxOverVoltage) (volts : Nat) (s : State) {t : State} (e_ : execVauxOverVoltage volts s = .next t) :
    t.view o_ = s.view o_ ∧ t.still = s.canon.still := by
  simp only [Footprint.execVauxOverVoltage, List.mem_append, List.mem_cons, List.not_mem_nil, or_false, false_or, not_or, and_assoc] at h_
  refine run_frame ?_ e_
  first
  | (simp only [part_ite, part_set, part_setB, part_setBit, endEpisode_part, logEpisode_part, h_, q_, implies_true, ite_self, not_false_eq_true, if_false]; rfl)
  | ((try simp only [part_ite, part_set, part_setB, part_setBit, endEpisode_part, logEpisode_part, h_, q_, implies_true, ite_self, not_false_eq_true, if_false]) <;> (repeat' split) <;> (first | rfl | (simp only [part_ite, part_set, part_setB, part_setBit, endEpisode_part, logEpisode_part, h_, q_, implies_true, ite_self, not_false_eq_true, if_false]; done) | (simp only [part_ite, part_set, part_setB, part_setBit, endEpisode_part, logEpisode_part, h_, q_, implies_true, ite_self, not_false_eq_true, if_false]; rfl)))

theorem execCellInserted_frame {o_ : Obj} (q_ : o_.quiet = true) (h_ : ¬ o_.id ∈ Footprint.execCellInserted) (volts : Nat) (s : State) {t : State} (e_ : execCellInserted volts s = .next t) :
    t.view o_ = s.view o_ ∧ t.still = s.canon.still := by
  simp only [Footprint.execCellInserted, List.mem_append, List.mem_cons, List.not_mem_nil, or_false, false_or, not_or, and_assoc] at h_
  refine run_frame ?_ e_
  first
  | (simp only [part_ite, part_set, h_, q_, implies_true, ite_self, not_false_eq_true, if_false]; rfl)
  | ((try simp only [part_ite, part_set, h_, q_, implies_true, ite_self, not_false_eq_true, if_false]) <;> (repeat' split) <;> (first | rfl | (simp only [part_ite, part_set, h_, q_, implies_true, ite_self, not_false_eq_true, if_false]; done) | (simp only [part_ite, part_set, h_, q_, implies_true, ite_self, not_false_eq_true, if_false]; rfl)))

theorem execCellReplaced_frame {o_ : Obj} (q_ : o_.quiet = true) (h_ : ¬ o_.id ∈ Footprint.execCellReplaced) (r : Req) (s : State) {t : State} (e_ : execCellReplaced r s = .next t) :
    t.view o_ = s.view o_ ∧ t.still = s.canon.still := by
  simp only [Footprint.execCellReplaced, List.mem_append, List.mem_cons, List.not_mem_nil, or_false, false_or, not_or, and_assoc] at h_
  refine run_frame (hostWrite_part q_ (by simp only [h_, not_false_eq_true]) _ _ _ _ _ (fun _ u t e => ?_) _) e_
  (try dsimp only at e)
  repeat' split at e
  all_goals first
      | exact absurd e (by simp only [reduceCtorEq, not_false_eq_true])
      | (rw [← Except.ok.inj e]; done)
      | (rw [← Except.ok.inj e]; simp only [part_ite, part_set, h_, q_, implies_true, ite_self, not_false_eq_true, if_false]; done)
      | (rw [← Except.ok.inj e]; (try simp only [part_ite, part_set, h_, q_, implies_true, ite_self, not_false_eq_true, if_false]) <;> (repeat' split) <;> (first | (simp only [part_ite, part_set, h_, q_, implies_true, ite_self, not_false_eq_true, if_false]; done) | rfl))

theorem execEnterIdle_frame {o_ : Obj} (q_ : o_.quiet = true) (h_ : ¬ o_.id ∈ Footprint.execEnterIdle)  (s : State) {t : State} (e_ : execEnterIdle s = .next t) :
    t.view o_ = s.view o_ ∧ t.still = s.canon.still := by
  simp only [Footprint.execEnterIdle, List.mem_append, List.mem_cons, List.not_mem_nil, or_false, false_or, not_or, and_assoc] at h_
  refine run_frame ?_ e_
  first
  | (simp only [part_ite, part_set, logEvent_part, countIdleTime_part, h_, q_, implies_true, ite_self, not_false_eq_true, if_false]; rfl)
  | ((try simp only [part_ite, part_set, logEvent_part, countIdleTime_part, h_, q_, implies_true, ite_self, not_false_eq_true, if_false]) <;> (repeat' split) <;> (first | rfl | (simp only [part_ite, part_set, logEvent_part, countIdleTime_part, h_, q_, implies_true, ite_self, not_false_eq_true, if_false]; done) | (simp only [part_ite, part_set, logEvent_part, countIdleTime_part, h_, q_, implies_true, ite_self, not_false_eq_true, if_false]; rfl)))

theorem execWake_frame {o_ : Obj} (q_ : o_.quiet = true) (h_ : ¬ o_.id ∈ Footprint.execWake) (r : Req) (s : State) {t : State} (e_ : execWake r s = .next t) :
    t.view o_ = s.view o_ ∧ t.still = s.canon.still := by
  simp only [Footprint.execWake, List.mem_append, List.mem_cons, List.not_mem_nil, or_false, false_or, not_or, and_assoc] at h_
  refine run_frame (hostWrite_part q_ (by simp only [h_, not_false_eq_true]) _ _ _ _ _ (fun _ u t e => ?_) _) e_
  (try dsimp only at e)
  repeat' split at e
  all_goals first
      | exact absurd e (by simp only [reduceCtorEq, not_false_eq_true])
      | (rw [← Except.ok.inj e]; done)
      | (rw [← Except.ok.inj e]; simp only [part_ite, part_set, h_, q_, implies_true, ite_self, not_false_eq_true, if_false]; done)
      | (rw [← Except.ok.inj e]; (try simp only [part_ite, part_set, h_, q_, implies_true, ite_self, not_false_eq_true, if_false]) <;> (repeat' split) <;> (first | (simp only [part_ite, part_set, h_, q_, implies_true, ite_self, not_false_eq_true, if_false]; done) | rfl))

theorem execPoolSingleBitError_frame {o_ : Obj} (q_ : o_.quiet = true) (h_ : ¬ o_.id ∈ Footprint.execPoolSingleBitError) (address : Fin 6291456) (s : State) {t : State} (e_ : execPoolSingleBitError address s = .next t) :
    t.view o_ = s.view o_ ∧ t.still = s.canon.still := by
  simp only [Footprint.execPoolSingleBitError, List.mem_append, List.mem_cons, List.not_mem_nil, or_false, false_or, not_or, and_assoc] at h_
  refine run_frame ?_ e_
  first
  | (simp only [part_ite, singleError_part, h_, q_, implies_true, ite_self, not_false_eq_true, if_false]; rfl)
  | ((try simp only [part_ite, singleError_part, h_, q_, implies_true, ite_self, not_false_eq_true, if_false]) <;> (repeat' split) <;> (first | rfl | (simp only [part_ite, singleError_part, h_, q_, implies_true, ite_self, not_false_eq_true, if_false]; done) | (simp only [part_ite, singleError_part, h_, q_, implies_true, ite_self, not_false_eq_true, if_false]; rfl)))

theorem execOwnerRegisterWrite_frame {o_ : Obj} (q_ : o_.quiet = true) (h_ : ¬ o_.id ∈ Footprint.execOwnerRegisterWrite) (bank : Fin 24) (requester newOwner : Fin 9) (s : State) {t : State} (e_ : execOwnerRegisterWrite bank requester newOwner s = .next t) :
    t.view o_ = s.view o_ ∧ t.still = s.canon.still := by
  simp only [Footprint.execOwnerRegisterWrite, List.mem_append, List.mem_cons, List.not_mem_nil, or_false, false_or, not_or, and_assoc] at h_
  refine run_frame ?_ e_
  first
  | (simp only [part_ite, part_inc, logEvent_part, handBank_part, h_, q_, implies_true, ite_self, not_false_eq_true, if_false]; rfl)
  | ((try simp only [part_ite, part_inc, logEvent_part, handBank_part, h_, q_, implies_true, ite_self, not_false_eq_true, if_false]) <;> (repeat' split) <;> (first | rfl | (simp only [part_ite, part_inc, logEvent_part, handBank_part, h_, q_, implies_true, ite_self, not_false_eq_true, if_false]; done) | (simp only [part_ite, part_inc, logEvent_part, handBank_part, h_, q_, implies_true, ite_self, not_false_eq_true, if_false]; rfl)))

theorem execXdGrant_frame {o_ : Obj} (q_ : o_.quiet = true) (h_ : ¬ o_.id ∈ Footprint.execXdGrant) (bank : Fin 24) (requester : Fin 9) (grant : Fin 3) (s : State) {t : State} (e_ : execXdGrant bank requester grant s = .next t) :
    t.view o_ = s.view o_ ∧ t.still = s.canon.still := by
  simp only [Footprint.execXdGrant, List.mem_append, List.mem_cons, List.not_mem_nil, or_false, false_or, not_or, and_assoc] at h_
  refine run_frame ?_ e_
  first
  | (simp only [part_ite, part_set, h_, q_, implies_true, ite_self, not_false_eq_true, if_false]; rfl)
  | ((try simp only [part_ite, part_set, h_, q_, implies_true, ite_self, not_false_eq_true, if_false]) <;> (repeat' split) <;> (first | rfl | (simp only [part_ite, part_set, h_, q_, implies_true, ite_self, not_false_eq_true, if_false]; done) | (simp only [part_ite, part_set, h_, q_, implies_true, ite_self, not_false_eq_true, if_false]; rfl)))

theorem execSiltRegionTest_frame {o_ : Obj} (q_ : o_.quiet = true) (h_ : ¬ o_.id ∈ Footprint.execSiltRegionTest) (singles doubles : List (Fin 64)) (failed : Bool) (s : State) {t : State} (e_ : execSiltRegionTest singles doubles failed s = .next t) :
    t.view o_ = s.view o_ ∧ t.still = s.canon.still := by
  simp only [Footprint.execSiltRegionTest, List.mem_append, List.mem_cons, List.not_mem_nil, or_false, false_or, not_or, and_assoc] at h_
  refine run_frame ?_ e_
  first
  | (simp only [part_ite, saveRegion_part, nextRegion_part, marchFailure_part, h_, q_, implies_true, ite_self, not_false_eq_true, if_false]; rfl)
  | ((try simp only [part_ite, saveRegion_part, nextRegion_part, marchFailure_part, h_, q_, implies_true, ite_self, not_false_eq_true, if_false]) <;> (repeat' split) <;> (first | rfl | (simp only [part_ite, saveRegion_part, nextRegion_part, marchFailure_part, h_, q_, implies_true, ite_self, not_false_eq_true, if_false]; done) | (simp only [part_ite, saveRegion_part, nextRegion_part, marchFailure_part, h_, q_, implies_true, ite_self, not_false_eq_true, if_false]; rfl)))

theorem execSiltTestAbandon_frame {o_ : Obj} (q_ : o_.quiet = true) (h_ : ¬ o_.id ∈ Footprint.execSiltTestAbandon) (singles doubles : List (Fin 64)) (s : State) {t : State} (e_ : execSiltTestAbandon singles doubles s = .next t) :
    t.view o_ = s.view o_ ∧ t.still = s.canon.still := by
  simp only [Footprint.execSiltTestAbandon, List.mem_append, List.mem_cons, List.not_mem_nil, or_false, false_or, not_or, and_assoc] at h_
  refine run_frame ?_ e_
  first
  | (simp only [part_ite, part_set, part_inc, logEvent_part, saveRegion_part, nextRegion_part, h_, q_, implies_true, ite_self, not_false_eq_true, if_false]; rfl)
  | ((try simp only [part_ite, part_set, part_inc, logEvent_part, saveRegion_part, nextRegion_part, h_, q_, implies_true, ite_self, not_false_eq_true, if_false]) <;> (repeat' split) <;> (first | rfl | (simp only [part_ite, part_set, part_inc, logEvent_part, saveRegion_part, nextRegion_part, h_, q_, implies_true, ite_self, not_false_eq_true, if_false]; done) | (simp only [part_ite, part_set, part_inc, logEvent_part, saveRegion_part, nextRegion_part, h_, q_, implies_true, ite_self, not_false_eq_true, if_false]; rfl)))

theorem execCommandDispatch_frame {o_ : Obj} (q_ : o_.quiet = true) (h_ : ¬ o_.id ∈ Footprint.execCommandDispatch) (missed : List (Fin 16)) (s : State) {t : State} (e_ : execCommandDispatch missed s = .next t) :
    t.view o_ = s.view o_ ∧ t.still = s.canon.still := by
  simp only [Footprint.execCommandDispatch, List.mem_append, List.mem_cons, List.not_mem_nil, or_false, false_or, not_or, and_assoc] at h_
  refine run_frame ?_ e_
  first
  | (simp only [part_ite, forN_part, dispatch_part, sendMirror_part, h_, q_, implies_true, ite_self, not_false_eq_true, if_false]; rfl)
  | ((try simp only [part_ite, forN_part, dispatch_part, sendMirror_part, h_, q_, implies_true, ite_self, not_false_eq_true, if_false]) <;> (repeat' split) <;> (first | rfl | (simp only [part_ite, forN_part, dispatch_part, sendMirror_part, h_, q_, implies_true, ite_self, not_false_eq_true, if_false]; done) | (simp only [part_ite, forN_part, dispatch_part, sendMirror_part, h_, q_, implies_true, ite_self, not_false_eq_true, if_false]; rfl)))

theorem execFastClassEvaluation_frame {o_ : Obj} (q_ : o_.quiet = true) (h_ : ¬ o_.id ∈ Footprint.execFastClassEvaluation) (mism again late : List Nat) (done peak : Nat) (s : State) {t : State} (e_ : execFastClassEvaluation mism again late done peak s = .next t) :
    t.view o_ = s.view o_ := by
  simp only [Footprint.execFastClassEvaluation, List.mem_append, List.mem_cons, List.not_mem_nil, or_false, false_or, not_or, and_assoc] at h_
  refine run_view ?_ e_
  first
  | (simp only [view_ite, view_set, fastClass_view, h_, q_, implies_true, ite_self, not_false_eq_true, if_false]; rfl)
  | ((try simp only [view_ite, view_set, fastClass_view, h_, q_, implies_true, ite_self, not_false_eq_true, if_false]) <;> (repeat' split) <;> (first | rfl | (simp only [view_ite, view_set, fastClass_view, h_, q_, implies_true, ite_self, not_false_eq_true, if_false]; done) | (simp only [view_ite, view_set, fastClass_view, h_, q_, implies_true, ite_self, not_false_eq_true, if_false]; rfl)))

theorem execMismatchFreePeriodEnd_frame {o_ : Obj} (q_ : o_.quiet = true) (h_ : ¬ o_.id ∈ Footprint.execMismatchFreePeriodEnd)  (s : State) {t : State} (e_ : execMismatchFreePeriodEnd s = .next t) :
    t.view o_ = s.view o_ ∧ t.still = s.canon.still := by
  simp only [Footprint.execMismatchFreePeriodEnd, List.mem_append, List.mem_cons, List.not_mem_nil, or_false, false_or, not_or, and_assoc] at h_
  refine run_frame ?_ e_
  first
  | (simp only [part_ite, part_set, forN_part, h_, q_, implies_true, ite_self, not_false_eq_true, if_false]; rfl)
  | ((try simp only [part_ite, part_set, forN_part, h_, q_, implies_true, ite_self, not_false_eq_true, if_false]) <;> (repeat' split) <;> (first | rfl | (simp only [part_ite, part_set, forN_part, h_, q_, implies_true, ite_self, not_false_eq_true, if_false]; done) | (simp only [part_ite, part_set, forN_part, h_, q_, implies_true, ite_self, not_false_eq_true, if_false]; rfl)))

theorem execFastClassDeadline_frame {o_ : Obj} (q_ : o_.quiet = true) (h_ : ¬ o_.id ∈ Footprint.execFastClassDeadline)  (s : State) {t : State} (e_ : execFastClassDeadline s = .next t) :
    t.view o_ = s.view o_ ∧ t.still = s.canon.still := by
  simp only [Footprint.execFastClassDeadline, List.mem_append, List.mem_cons, List.not_mem_nil, or_false, false_or, not_or, and_assoc] at h_
  refine run_frame ?_ e_
  first
  | (simp only [part_ite, part_set, part_inc, part_setBit, part_setSeq, forL_part, logLimited_part, h_, q_, implies_true, ite_self, not_false_eq_true, if_false]; rfl)
  | ((try simp only [part_ite, part_set, part_inc, part_setBit, part_setSeq, forL_part, logLimited_part, h_, q_, implies_true, ite_self, not_false_eq_true, if_false]) <;> (repeat' split) <;> (first | rfl | (simp only [part_ite, part_set, part_inc, part_setBit, part_setSeq, forL_part, logLimited_part, h_, q_, implies_true, ite_self, not_false_eq_true, if_false]; done) | (simp only [part_ite, part_set, part_inc, part_setBit, part_setSeq, forL_part, logLimited_part, h_, q_, implies_true, ite_self, not_false_eq_true, if_false]; rfl)))

theorem execFastClassOverrunLimit_frame {o_ : Obj} (q_ : o_.quiet = true) (h_ : ¬ o_.id ∈ Footprint.execFastClassOverrunLimit)  (s : State) {t : State} (e_ : execFastClassOverrunLimit s = .next t) :
    t.view o_ = s.view o_ ∧ t.still = s.canon.still := by
  simp only [Footprint.execFastClassOverrunLimit, List.mem_append, List.mem_cons, List.not_mem_nil, or_false, false_or, not_or, and_assoc] at h_
  refine run_frame ?_ e_
  first
  | (simp only [part_ite, handOverOr_part, stopAllBlocks_part, h_, q_, implies_true, ite_self, not_false_eq_true, if_false]; rfl)
  | ((try simp only [part_ite, handOverOr_part, stopAllBlocks_part, h_, q_, implies_true, ite_self, not_false_eq_true, if_false]) <;> (repeat' split) <;> (first | rfl | (simp only [part_ite, handOverOr_part, stopAllBlocks_part, h_, q_, implies_true, ite_self, not_false_eq_true, if_false]; done) | (simp only [part_ite, handOverOr_part, stopAllBlocks_part, h_, q_, implies_true, ite_self, not_false_eq_true, if_false]; rfl)))

theorem execPresetOutput_frame {o_ : Obj} (q_ : o_.quiet = true) (h_ : ¬ o_.id ∈ Footprint.execPresetOutput) (r : Req) (slot : Fin 1024) (data : List Byte) (s : State) {t : State} (e_ : execPresetOutput r slot data s = .next t) :
    t.view o_ = s.view o_ ∧ t.still = s.canon.still := by
  simp only [Footprint.execPresetOutput, List.mem_append, List.mem_cons, List.not_mem_nil, or_false, false_or, not_or, and_assoc] at h_
  refine run_frame (hostWrite_part q_ (by simp only [h_, not_false_eq_true]) _ _ _ _ _ (fun _ u t e => ?_) _) e_
  (try dsimp only at e)
  repeat' split at e
  all_goals first
      | exact absurd e (by simp only [reduceCtorEq, not_false_eq_true])
      | (rw [← Except.ok.inj e]; done)
      | (rw [← Except.ok.inj e]; simp only [part_ite, presetSlot_part, h_, q_, implies_true, ite_self, not_false_eq_true, if_false]; done)
      | (rw [← Except.ok.inj e]; (try simp only [part_ite, presetSlot_part, h_, q_, implies_true, ite_self, not_false_eq_true, if_false]) <;> (repeat' split) <;> (first | (simp only [part_ite, presetSlot_part, h_, q_, implies_true, ite_self, not_false_eq_true, if_false]; done) | rfl))

theorem execClearIntegrator_frame {o_ : Obj} (q_ : o_.quiet = true) (h_ : ¬ o_.id ∈ Footprint.execClearIntegrator) (r : Req) (slot : Fin 1024) (data : List Byte) (s : State) {t : State} (e_ : execClearIntegrator r slot data s = .next t) :
    t.view o_ = s.view o_ ∧ t.still = s.canon.still := by
  simp only [Footprint.execClearIntegrator, List.mem_append, List.mem_cons, List.not_mem_nil, or_false, false_or, not_or, and_assoc] at h_
  refine run_frame (hostWrite_part q_ (by simp only [h_, not_false_eq_true]) _ _ _ _ _ (fun _ u t e => ?_) _) e_
  (try dsimp only at e)
  repeat' split at e
  all_goals first
      | exact absurd e (by simp only [reduceCtorEq, not_false_eq_true])
      | (rw [← Except.ok.inj e]; done)
      | (rw [← Except.ok.inj e]; simp only [part_ite, part_set, h_, q_, implies_true, ite_self, not_false_eq_true, if_false]; done)
      | (rw [← Except.ok.inj e]; (try simp only [part_ite, part_set, h_, q_, implies_true, ite_self, not_false_eq_true, if_false]) <;> (repeat' split) <;> (first | (simp only [part_ite, part_set, h_, q_, implies_true, ite_self, not_false_eq_true, if_false]; done) | rfl))

theorem execStartInjection_frame {o_ : Obj} (q_ : o_.quiet = true) (h_ : ¬ o_.id ∈ Footprint.execStartInjection) (r : Req) (s : State) {t : State} (e_ : execStartInjection r s = .next t) :
    t.view o_ = s.view o_ ∧ t.still = s.canon.still := by
  simp only [Footprint.execStartInjection, List.mem_append, List.mem_cons, List.not_mem_nil, or_false, false_or, not_or, and_assoc] at h_
  refine run_frame (hostWrite_part q_ (by simp only [h_, not_false_eq_true]) _ _ _ _ _ (fun _ u t e => ?_) _) e_
  (try dsimp only at e)
  repeat' split at e
  all_goals first
      | exact absurd e (by simp only [reduceCtorEq, not_false_eq_true])
      | exact startInjection_part q_ (by simp only [h_, not_false_eq_true]) _ _ e
      | (rw [← Except.ok.inj e]; done)
      | (rw [← Except.ok.inj e]; simp only [part_ite, startInjection_part, h_, q_, implies_true, ite_self, not_false_eq_true, if_false]; done)
      | (rw [← Except.ok.inj e]; (try simp only [part_ite, startInjection_part, h_, q_, implies_true, ite_self, not_false_eq_true, if_false]) <;> (repeat' split) <;> (first | (simp only [part_ite, startInjection_part, h_, q_, implies_true, ite_self, not_false_eq_true, if_false]; done) | rfl))

theorem execStopInjection_frame {o_ : Obj} (q_ : o_.quiet = true) (h_ : ¬ o_.id ∈ Footprint.execStopInjection) (r : Req) (s : State) {t : State} (e_ : execStopInjection r s = .next t) :
    t.view o_ = s.view o_ ∧ t.still = s.canon.still := by
  simp only [Footprint.execStopInjection, List.mem_append, List.mem_cons, List.not_mem_nil, or_false, false_or, not_or, and_assoc] at h_
  refine run_frame (hostWrite_part q_ (by simp only [h_, not_false_eq_true]) _ _ _ _ _ (fun _ u t e => ?_) _) e_
  (try dsimp only at e)
  repeat' split at e
  all_goals first
      | exact absurd e (by simp only [reduceCtorEq, not_false_eq_true])
      | (rw [← Except.ok.inj e]; done)
      | (rw [← Except.ok.inj e]; simp only [part_ite, endInjection_part, h_, q_, implies_true, ite_self, not_false_eq_true, if_false]; done)
      | (rw [← Except.ok.inj e]; (try simp only [part_ite, endInjection_part, h_, q_, implies_true, ite_self, not_false_eq_true, if_false]) <;> (repeat' split) <;> (first | (simp only [part_ite, endInjection_part, h_, q_, implies_true, ite_self, not_false_eq_true, if_false]; done) | rfl))

theorem execInjectionLengthReached_frame {o_ : Obj} (q_ : o_.quiet = true) (h_ : ¬ o_.id ∈ Footprint.execInjectionLengthReached)  (s : State) {t : State} (e_ : execInjectionLengthReached s = .next t) :
    t.view o_ = s.view o_ ∧ t.still = s.canon.still := by
  simp only [Footprint.execInjectionLengthReached, List.mem_append, List.mem_cons, List.not_mem_nil, or_false, false_or, not_or, and_assoc] at h_
  refine run_frame ?_ e_
  first
  | (simp only [part_ite, endInjection_part, h_, q_, implies_true, ite_self, not_false_eq_true, if_false]; rfl)
  | ((try simp only [part_ite, endInjection_part, h_, q_, implies_true, ite_self, not_false_eq_true, if_false]) <;> (repeat' split) <;> (first | rfl | (simp only [part_ite, endInjection_part, h_, q_, implies_true, ite_self, not_false_eq_true, if_false]; done) | (simp only [part_ite, endInjection_part, h_, q_, implies_true, ite_self, not_false_eq_true, if_false]; rfl)))

theorem execStartCapture_frame {o_ : Obj} (q_ : o_.quiet = true) (h_ : ¬ o_.id ∈ Footprint.execStartCapture) (r : Req) (s : State) {t : State} (e_ : execStartCapture r s = .next t) :
    t.view o_ = s.view o_ ∧ t.still = s.canon.still := by
  simp only [Footprint.execStartCapture, List.mem_append, List.mem_cons, List.not_mem_nil, or_false, false_or, not_or, and_assoc] at h_
  refine run_frame (hostWrite_part q_ (by simp only [h_, not_false_eq_true]) _ _ _ _ _ (fun _ u t e => ?_) _) e_
  (try dsimp only at e)
  repeat' split at e
  all_goals first
      | exact absurd e (by simp only [reduceCtorEq, not_false_eq_true])
      | exact startCapture_part q_ (by simp only [h_, not_false_eq_true]) _ e
      | (rw [← Except.ok.inj e]; done)
      | (rw [← Except.ok.inj e]; simp only [part_ite, startCapture_part, h_, q_, implies_true, ite_self, not_false_eq_true, if_false]; done)
      | (rw [← Except.ok.inj e]; (try simp only [part_ite, startCapture_part, h_, q_, implies_true, ite_self, not_false_eq_true, if_false]) <;> (repeat' split) <;> (first | (simp only [part_ite, startCapture_part, h_, q_, implies_true, ite_self, not_false_eq_true, if_false]; done) | rfl))

theorem execStopCapture_frame {o_ : Obj} (q_ : o_.quiet = true) (h_ : ¬ o_.id ∈ Footprint.execStopCapture) (r : Req) (s : State) {t : State} (e_ : execStopCapture r s = .next t) :
    t.view o_ = s.view o_ ∧ t.still = s.canon.still := by
  simp only [Footprint.execStopCapture, List.mem_append, List.mem_cons, List.not_mem_nil, or_false, false_or, not_or, and_assoc] at h_
  refine run_frame (hostWrite_part q_ (by simp only [h_, not_false_eq_true]) _ _ _ _ _ (fun _ u t e => ?_) _) e_
  (try dsimp only at e)
  repeat' split at e
  all_goals first
      | exact absurd e (by simp only [reduceCtorEq, not_false_eq_true])
      | (rw [← Except.ok.inj e]; done)
      | (rw [← Except.ok.inj e]; simp only [part_ite, endCapture_part, h_, q_, implies_true, ite_self, not_false_eq_true, if_false]; done)
      | (rw [← Except.ok.inj e]; (try simp only [part_ite, endCapture_part, h_, q_, implies_true, ite_self, not_false_eq_true, if_false]) <;> (repeat' split) <;> (first | (simp only [part_ite, endCapture_part, h_, q_, implies_true, ite_self, not_false_eq_true, if_false]; done) | rfl))

theorem execCaptureComplete_frame {o_ : Obj} (q_ : o_.quiet = true) (h_ : ¬ o_.id ∈ Footprint.execCaptureComplete)  (s : State) {t : State} (e_ : execCaptureComplete s = .next t) :
    t.view o_ = s.view o_ ∧ t.still = s.canon.still := by
  simp only [Footprint.execCaptureComplete, List.mem_append, List.mem_cons, List.not_mem_nil, or_false, false_or, not_or, and_assoc] at h_
  refine run_frame ?_ e_
  first
  | (simp only [part_ite, endCapture_part, h_, q_, implies_true, ite_self, not_false_eq_true, if_false]; rfl)
  | ((try simp only [part_ite, endCapture_part, h_, q_, implies_true, ite_self, not_false_eq_true, if_false]) <;> (repeat' split) <;> (first | rfl | (simp only [part_ite, endCapture_part, h_, q_, implies_true, ite_self, not_false_eq_true, if_false]; done) | (simp only [part_ite, endCapture_part, h_, q_, implies_true, ite_self, not_false_eq_true, if_false]; rfl)))

theorem execRequest_frame {o_ : Obj} (q_ : o_.quiet = true) (h_ : ¬ o_.id ∈ Footprint.execRequest) (frame : List Byte) (s : State) {t : State} (e_ : execRequest frame s = .next t) :
    t.view o_ = s.view o_ ∧ t.still = s.canon.still := by
  simp only [Footprint.execRequest, List.mem_append, List.mem_cons, List.not_mem_nil, or_false, false_or, not_or, and_assoc] at h_
  refine run_frame ?_ e_
  first
  | (simp only [part_ite, part_set, onLease_part, sendLease_part, noteSync_part, h_, q_, implies_true, ite_self, not_false_eq_true, if_false]; rfl)
  | ((try simp only [part_ite, part_set, onLease_part, sendLease_part, noteSync_part, h_, q_, implies_true, ite_self, not_false_eq_true, if_false]) <;> (repeat' split) <;> (first | rfl | (simp only [part_ite, part_set, onLease_part, sendLease_part, noteSync_part, h_, q_, implies_true, ite_self, not_false_eq_true, if_false]; done) | (simp only [part_ite, part_set, onLease_part, sendLease_part, noteSync_part, h_, q_, implies_true, ite_self, not_false_eq_true, if_false]; rfl)))

theorem execGrant_frame {o_ : Obj} (q_ : o_.quiet = true) (h_ : ¬ o_.id ∈ Footprint.execGrant) (frame : List Byte) (s : State) {t : State} (e_ : execGrant frame s = .next t) :
    t.view o_ = s.view o_ ∧ t.still = s.canon.still := by
  simp only [Footprint.execGrant, List.mem_append, List.mem_cons, List.not_mem_nil, or_false, false_or, not_or, and_assoc] at h_
  refine run_frame ?_ e_
  first
  | (simp only [part_ite, part_set, onLease_part, h_, q_, implies_true, ite_self, not_false_eq_true, if_false]; rfl)
  | ((try simp only [part_ite, part_set, onLease_part, h_, q_, implies_true, ite_self, not_false_eq_true, if_false]) <;> (repeat' split) <;> (first | rfl | (simp only [part_ite, part_set, onLease_part, h_, q_, implies_true, ite_self, not_false_eq_true, if_false]; done) | (simp only [part_ite, part_set, onLease_part, h_, q_, implies_true, ite_self, not_false_eq_true, if_false]; rfl)))

theorem execGrantDeadline_frame {o_ : Obj} (q_ : o_.quiet = true) (h_ : ¬ o_.id ∈ Footprint.execGrantDeadline)  (s : State) {t : State} (e_ : execGrantDeadline s = .next t) :
    t.view o_ = s.view o_ ∧ t.still = s.canon.still := by
  simp only [Footprint.execGrantDeadline, List.mem_append, List.mem_cons, List.not_mem_nil, or_false, false_or, not_or, and_assoc] at h_
  refine run_frame ?_ e_
  first
  | (simp only [part_ite, part_set, part_inc, h_, q_, implies_true, ite_self, not_false_eq_true, if_false]; rfl)
  | ((try simp only [part_ite, part_set, part_inc, h_, q_, implies_true, ite_self, not_false_eq_true, if_false]) <;> (repeat' split) <;> (first | rfl | (simp only [part_ite, part_set, part_inc, h_, q_, implies_true, ite_self, not_false_eq_true, if_false]; done) | (simp only [part_ite, part_set, part_inc, h_, q_, implies_true, ite_self, not_false_eq_true, if_false]; rfl)))

theorem execLeaseExpiry_frame {o_ : Obj} (q_ : o_.quiet = true) (h_ : ¬ o_.id ∈ Footprint.execLeaseExpiry) (live : Bool) (s : State) {t : State} (e_ : execLeaseExpiry live s = .next t) :
    t.view o_ = s.view o_ ∧ t.still = s.canon.still := by
  simp only [Footprint.execLeaseExpiry, List.mem_append, List.mem_cons, List.not_mem_nil, or_false, false_or, not_or, and_assoc] at h_
  refine run_frame ?_ e_
  first
  | (simp only [part_ite, part_set, fenceNow_part, unpair_part, h_, q_, implies_true, ite_self, not_false_eq_true, if_false]; rfl)
  | ((try simp only [part_ite, part_set, fenceNow_part, unpair_part, h_, q_, implies_true, ite_self, not_false_eq_true, if_false]) <;> (repeat' split) <;> (first | rfl | (simp only [part_ite, part_set, fenceNow_part, unpair_part, h_, q_, implies_true, ite_self, not_false_eq_true, if_false]; done) | (simp only [part_ite, part_set, fenceNow_part, unpair_part, h_, q_, implies_true, ite_self, not_false_eq_true, if_false]; rfl)))

theorem execTakeover_frame {o_ : Obj} (q_ : o_.quiet = true) (h_ : ¬ o_.id ∈ Footprint.execTakeover) (partnerLine : Bool) (s : State) {t : State} (e_ : execTakeover partnerLine s = .next t) :
    t.view o_ = s.view o_ ∧ t.still = s.canon.still := by
  simp only [Footprint.execTakeover, List.mem_append, List.mem_cons, List.not_mem_nil, or_false, false_or, not_or, and_assoc] at h_
  refine run_frame ?_ e_
  first
  | (simp only [part_ite, part_set, part_setB, logEvent_part, takeOver_part, h_, q_, implies_true, ite_self, not_false_eq_true, if_false]; rfl)
  | ((try simp only [part_ite, part_set, part_setB, logEvent_part, takeOver_part, h_, q_, implies_true, ite_self, not_false_eq_true, if_false]) <;> (repeat' split) <;> (first | rfl | (simp only [part_ite, part_set, part_setB, logEvent_part, takeOver_part, h_, q_, implies_true, ite_self, not_false_eq_true, if_false]; done) | (simp only [part_ite, part_set, part_setB, logEvent_part, takeOver_part, h_, q_, implies_true, ite_self, not_false_eq_true, if_false]; rfl)))

theorem execRelease_frame {o_ : Obj} (q_ : o_.quiet = true) (h_ : ¬ o_.id ∈ Footprint.execRelease) (frame : List Byte) (s : State) {t : State} (e_ : execRelease frame s = .next t) :
    t.view o_ = s.view o_ ∧ t.still = s.canon.still := by
  simp only [Footprint.execRelease, List.mem_append, List.mem_cons, List.not_mem_nil, or_false, false_or, not_or, and_assoc] at h_
  refine run_frame ?_ e_
  first
  | (simp only [part_ite, part_set, onLease_part, sendLease_part, h_, q_, implies_true, ite_self, not_false_eq_true, if_false]; rfl)
  | ((try simp only [part_ite, part_set, onLease_part, sendLease_part, h_, q_, implies_true, ite_self, not_false_eq_true, if_false]) <;> (repeat' split) <;> (first | rfl | (simp only [part_ite, part_set, onLease_part, sendLease_part, h_, q_, implies_true, ite_self, not_false_eq_true, if_false]; done) | (simp only [part_ite, part_set, onLease_part, sendLease_part, h_, q_, implies_true, ite_self, not_false_eq_true, if_false]; rfl)))

theorem execAccept_frame {o_ : Obj} (q_ : o_.quiet = true) (h_ : ¬ o_.id ∈ Footprint.execAccept) (frame : List Byte) (s : State) {t : State} (e_ : execAccept frame s = .next t) :
    t.view o_ = s.view o_ ∧ t.still = s.canon.still := by
  simp only [Footprint.execAccept, List.mem_append, List.mem_cons, List.not_mem_nil, or_false, false_or, not_or, and_assoc] at h_
  refine run_frame ?_ e_
  first
  | (simp only [part_ite, part_set, onLease_part, h_, q_, implies_true, ite_self, not_false_eq_true, if_false]; rfl)
  | ((try simp only [part_ite, part_set, onLease_part, h_, q_, implies_true, ite_self, not_false_eq_true, if_false]) <;> (repeat' split) <;> (first | rfl | (simp only [part_ite, part_set, onLease_part, h_, q_, implies_true, ite_self, not_false_eq_true, if_false]; done) | (simp only [part_ite, part_set, onLease_part, h_, q_, implies_true, ite_self, not_false_eq_true, if_false]; rfl)))

theorem execRefuse_frame {o_ : Obj} (q_ : o_.quiet = true) (h_ : ¬ o_.id ∈ Footprint.execRefuse) (frame : List Byte) (s : State) {t : State} (e_ : execRefuse frame s = .next t) :
    t.view o_ = s.view o_ ∧ t.still = s.canon.still := by
  simp only [Footprint.execRefuse, List.mem_append, List.mem_cons, List.not_mem_nil, or_false, false_or, not_or, and_assoc] at h_
  refine run_frame ?_ e_
  first
  | (simp only [part_ite, part_set, onLease_part, h_, q_, implies_true, ite_self, not_false_eq_true, if_false]; rfl)
  | ((try simp only [part_ite, part_set, onLease_part, h_, q_, implies_true, ite_self, not_false_eq_true, if_false]) <;> (repeat' split) <;> (first | rfl | (simp only [part_ite, part_set, onLease_part, h_, q_, implies_true, ite_self, not_false_eq_true, if_false]; done) | (simp only [part_ite, part_set, onLease_part, h_, q_, implies_true, ite_self, not_false_eq_true, if_false]; rfl)))

theorem execResign_frame {o_ : Obj} (q_ : o_.quiet = true) (h_ : ¬ o_.id ∈ Footprint.execResign) (frame : List Byte) (s : State) {t : State} (e_ : execResign frame s = .next t) :
    t.view o_ = s.view o_ ∧ t.still = s.canon.still := by
  simp only [Footprint.execResign, List.mem_append, List.mem_cons, List.not_mem_nil, or_false, false_or, not_or, and_assoc] at h_
  refine run_frame ?_ e_
  first
  | (simp only [part_ite, onLease_part, unpair_part, sendLease_part, h_, q_, implies_true, ite_self, not_false_eq_true, if_false]; rfl)
  | ((try simp only [part_ite, onLease_part, unpair_part, sendLease_part, h_, q_, implies_true, ite_self, not_false_eq_true, if_false]) <;> (repeat' split) <;> (first | rfl | (simp only [part_ite, onLease_part, unpair_part, sendLease_part, h_, q_, implies_true, ite_self, not_false_eq_true, if_false]; done) | (simp only [part_ite, onLease_part, unpair_part, sendLease_part, h_, q_, implies_true, ite_self, not_false_eq_true, if_false]; rfl)))

theorem execResignAck_frame {o_ : Obj} (q_ : o_.quiet = true) (h_ : ¬ o_.id ∈ Footprint.execResignAck) (frame : List Byte) (s : State) {t : State} (e_ : execResignAck frame s = .next t) :
    t.view o_ = s.view o_ ∧ t.still = s.canon.still := by
  simp only [Footprint.execResignAck, List.mem_append, List.mem_cons, List.not_mem_nil, or_false, false_or, not_or, and_assoc] at h_
  refine run_frame ?_ e_
  first
  | (simp only [part_ite, part_set, onLease_part, h_, q_, implies_true, ite_self, not_false_eq_true, if_false]; rfl)
  | ((try simp only [part_ite, part_set, onLease_part, h_, q_, implies_true, ite_self, not_false_eq_true, if_false]) <;> (repeat' split) <;> (first | rfl | (simp only [part_ite, part_set, onLease_part, h_, q_, implies_true, ite_self, not_false_eq_true, if_false]; done) | (simp only [part_ite, part_set, onLease_part, h_, q_, implies_true, ite_self, not_false_eq_true, if_false]; rfl)))

theorem execBecomeActive_frame {o_ : Obj} (q_ : o_.quiet = true) (h_ : ¬ o_.id ∈ Footprint.execBecomeActive) (r : Req) (s : State) {t : State} (e_ : execBecomeActive r s = .next t) :
    t.view o_ = s.view o_ ∧ t.still = s.canon.still := by
  simp only [Footprint.execBecomeActive, List.mem_append, List.mem_cons, List.not_mem_nil, or_false, false_or, not_or, and_assoc] at h_
  refine run_frame (hostDefer_part q_ (by simp only [h_, not_false_eq_true]) _ _ _ _ _ (fun _ u t e => ?_) _) e_
  (try dsimp only at e)
  repeat' split at e
  all_goals first
      | exact absurd e (by simp only [reduceCtorEq, not_false_eq_true])
      | exact becomeActive_part q_ (by simp only [h_, not_false_eq_true]) _ e
      | (rw [← Except.ok.inj e]; done)
      | (rw [← Except.ok.inj e]; simp only [part_ite, becomeActive_part, h_, q_, implies_true, ite_self, not_false_eq_true, if_false]; done)
      | (rw [← Except.ok.inj e]; (try simp only [part_ite, becomeActive_part, h_, q_, implies_true, ite_self, not_false_eq_true, if_false]) <;> (repeat' split) <;> (first | (simp only [part_ite, becomeActive_part, h_, q_, implies_true, ite_self, not_false_eq_true, if_false]; done) | rfl))

theorem execActiveLineSample_frame {o_ : Obj} (q_ : o_.quiet = true) (h_ : ¬ o_.id ∈ Footprint.execActiveLineSample) (partnerLine : Bool) (s : State) {t : State} (e_ : execActiveLineSample partnerLine s = .next t) :
    t.view o_ = s.view o_ ∧ t.still = s.canon.still := by
  simp only [Footprint.execActiveLineSample, List.mem_append, List.mem_cons, List.not_mem_nil, or_false, false_or, not_or, and_assoc] at h_
  refine run_frame ?_ e_
  first
  | (simp only [part_ite, part_set, part_setB, forN_part, answerWaiting_part, takeOver_part, bringUp_part, withdrawCabinet_part, h_, q_, implies_true, ite_self, not_false_eq_true, if_false]; rfl)
  | ((try simp only [part_ite, part_set, part_setB, forN_part, answerWaiting_part, takeOver_part, bringUp_part, withdrawCabinet_part, h_, q_, implies_true, ite_self, not_false_eq_true, if_false]) <;> (repeat' split) <;> (first | rfl | (simp only [part_ite, part_set, part_setB, forN_part, answerWaiting_part, takeOver_part, bringUp_part, withdrawCabinet_part, h_, q_, implies_true, ite_self, not_false_eq_true, if_false]; done) | (simp only [part_ite, part_set, part_setB, forN_part, answerWaiting_part, takeOver_part, bringUp_part, withdrawCabinet_part, h_, q_, implies_true, ite_self, not_false_eq_true, if_false]; rfl)))

theorem execIsolate_frame {o_ : Obj} (q_ : o_.quiet = true) (h_ : ¬ o_.id ∈ Footprint.execIsolate) (r : Req) (s : State) {t : State} (e_ : execIsolate r s = .next t) :
    t.view o_ = s.view o_ ∧ t.still = s.canon.still := by
  simp only [Footprint.execIsolate, List.mem_append, List.mem_cons, List.not_mem_nil, or_false, false_or, not_or, and_assoc] at h_
  refine run_frame (hostWrite_part q_ (by simp only [h_, not_false_eq_true]) _ _ _ _ _ (fun _ u t e => ?_) _) e_
  (try dsimp only at e)
  repeat' split at e
  all_goals first
      | exact absurd e (by simp only [reduceCtorEq, not_false_eq_true])
      | exact isolateByHost_part q_ (by simp only [h_, not_false_eq_true]) _ e
      | (rw [← Except.ok.inj e]; done)
      | (rw [← Except.ok.inj e]; simp only [part_ite, isolateByHost_part, h_, q_, implies_true, ite_self, not_false_eq_true, if_false]; done)
      | (rw [← Except.ok.inj e]; (try simp only [part_ite, isolateByHost_part, h_, q_, implies_true, ite_self, not_false_eq_true, if_false]) <;> (repeat' split) <;> (first | (simp only [part_ite, isolateByHost_part, h_, q_, implies_true, ite_self, not_false_eq_true, if_false]; done) | rfl))

theorem execHandOver_frame {o_ : Obj} (q_ : o_.quiet = true) (h_ : ¬ o_.id ∈ Footprint.execHandOver) (r : Req) (s : State) {t : State} (e_ : execHandOver r s = .next t) :
    t.view o_ = s.view o_ ∧ t.still = s.canon.still := by
  simp only [Footprint.execHandOver, List.mem_append, List.mem_cons, List.not_mem_nil, or_false, false_or, not_or, and_assoc] at h_
  refine run_frame (hostWrite_part q_ (by simp only [h_, not_false_eq_true]) _ _ _ _ _ (fun _ u t e => ?_) _) e_
  (try dsimp only at e)
  repeat' split at e
  all_goals first
      | exact absurd e (by simp only [reduceCtorEq, not_false_eq_true])
      | exact handOver_part q_ (by simp only [h_, not_false_eq_true]) _ e
      | (rw [← Except.ok.inj e]; done)
      | (rw [← Except.ok.inj e]; simp only [part_ite, handOver_part, h_, q_, implies_true, ite_self, not_false_eq_true, if_false]; done)
      | (rw [← Except.ok.inj e]; (try simp only [part_ite, handOver_part, h_, q_, implies_true, ite_self, not_false_eq_true, if_false]) <;> (repeat' split) <;> (first | (simp only [part_ite, handOver_part, h_, q_, implies_true, ite_self, not_false_eq_true, if_false]; done) | rfl))

theorem execJoin_frame {o_ : Obj} (q_ : o_.quiet = true) (h_ : ¬ o_.id ∈ Footprint.execJoin) (r : Option Req) (s : State) {t : State} (e_ : execJoin r s = .next t) :
    t.view o_ = s.view o_ ∧ t.still = s.canon.still := by
  simp only [Footprint.execJoin, List.mem_append, List.mem_cons, List.not_mem_nil, or_false, false_or, not_or, and_assoc] at h_
  unfold execJoin at e_
  split at e_
  · exact run_frame (hostWrite_part q_ (by simp only [h_, not_false_eq_true]) _ _ _ _ _ (fun role u t e => joinByHost_part q_ (by simp only [h_, not_false_eq_true]) _ e) _) e_
  · refine run_frame ?_ e_
    (try dsimp only)
    split
    · exact startJoin_part q_ (by simp only [h_, not_false_eq_true]) _ _
    · rfl

theorem execJoinFailed_frame {o_ : Obj} (q_ : o_.quiet = true) (h_ : ¬ o_.id ∈ Footprint.execJoinFailed) (cause : Fin 5) (s : State) {t : State} (e_ : execJoinFailed cause s = .next t) :
    t.view o_ = s.view o_ ∧ t.still = s.canon.still := by
  simp only [Footprint.execJoinFailed, List.mem_append, List.mem_cons, List.not_mem_nil, or_false, false_or, not_or, and_assoc] at h_
  refine run_frame ?_ e_
  first
  | (simp only [part_ite, part_set, logEvent_part, h_, q_, implies_true, ite_self, not_false_eq_true, if_false]; rfl)
  | ((try simp only [part_ite, part_set, logEvent_part, h_, q_, implies_true, ite_self, not_false_eq_true, if_false]) <;> (repeat' split) <;> (first | rfl | (simp only [part_ite, part_set, logEvent_part, h_, q_, implies_true, ite_self, not_false_eq_true, if_false]; done) | (simp only [part_ite, part_set, logEvent_part, h_, q_, implies_true, ite_self, not_false_eq_true, if_false]; rfl)))

theorem execJoinRetry_frame {o_ : Obj} (q_ : o_.quiet = true) (h_ : ¬ o_.id ∈ Footprint.execJoinRetry)  (s : State) {t : State} (e_ : execJoinRetry s = .next t) :
    t.view o_ = s.view o_ ∧ t.still = s.canon.still := by
  simp only [Footprint.execJoinRetry, List.mem_append, List.mem_cons, List.not_mem_nil, or_false, false_or, not_or, and_assoc] at h_
  refine run_frame ?_ e_
  first
  | (simp only [part_ite, startJoin_part, h_, q_, implies_true, ite_self, not_false_eq_true, if_false]; rfl)
  | ((try simp only [part_ite, startJoin_part, h_, q_, implies_true, ite_self, not_false_eq_true, if_false]) <;> (repeat' split) <;> (first | rfl | (simp only [part_ite, startJoin_part, h_, q_, implies_true, ite_self, not_false_eq_true, if_false]; done) | (simp only [part_ite, startJoin_part, h_, q_, implies_true, ite_self, not_false_eq_true, if_false]; rfl)))

theorem execFencedTimeout_frame {o_ : Obj} (q_ : o_.quiet = true) (h_ : ¬ o_.id ∈ Footprint.execFencedTimeout)  (s : State) {t : State} (e_ : execFencedTimeout s = .next t) :
    t.view o_ = s.view o_ ∧ t.still = s.canon.still := by
  simp only [Footprint.execFencedTimeout, List.mem_append, List.mem_cons, List.not_mem_nil, or_false, false_or, not_or, and_assoc] at h_
  refine run_frame ?_ e_
  first
  | (simp only [part_ite, becomeIsolated_part, h_, q_, implies_true, ite_self, not_false_eq_true, if_false]; rfl)
  | ((try simp only [part_ite, becomeIsolated_part, h_, q_, implies_true, ite_self, not_false_eq_true, if_false]) <;> (repeat' split) <;> (first | rfl | (simp only [part_ite, becomeIsolated_part, h_, q_, implies_true, ite_self, not_false_eq_true, if_false]; done) | (simp only [part_ite, becomeIsolated_part, h_, q_, implies_true, ite_self, not_false_eq_true, if_false]; rfl)))

theorem execResyncTimeout_frame {o_ : Obj} (q_ : o_.quiet = true) (h_ : ¬ o_.id ∈ Footprint.execResyncTimeout)  (s : State) {t : State} (e_ : execResyncTimeout s = .next t) :
    t.view o_ = s.view o_ ∧ t.still = s.canon.still := by
  simp only [Footprint.execResyncTimeout, List.mem_append, List.mem_cons, List.not_mem_nil, or_false, false_or, not_or, and_assoc] at h_
  refine run_frame ?_ e_
  first
  | (simp only [part_ite, becomeIsolated_part, h_, q_, implies_true, ite_self, not_false_eq_true, if_false]; rfl)
  | ((try simp only [part_ite, becomeIsolated_part, h_, q_, implies_true, ite_self, not_false_eq_true, if_false]) <;> (repeat' split) <;> (first | rfl | (simp only [part_ite, becomeIsolated_part, h_, q_, implies_true, ite_self, not_false_eq_true, if_false]; done) | (simp only [part_ite, becomeIsolated_part, h_, q_, implies_true, ite_self, not_false_eq_true, if_false]; rfl)))

theorem execPartnerActiveLineChange_frame {o_ : Obj} (q_ : o_.quiet = true) (h_ : ¬ o_.id ∈ Footprint.execPartnerActiveLineChange) (asserted : Bool) (s : State) {t : State} (e_ : execPartnerActiveLineChange asserted s = .next t) :
    t.view o_ = s.view o_ ∧ t.still = s.canon.still := by
  simp only [Footprint.execPartnerActiveLineChange, List.mem_append, List.mem_cons, List.not_mem_nil, or_false, false_or, not_or, and_assoc] at h_
  refine run_frame ?_ e_
  first
  | (simp only [part_ite, part_set, part_setB, setOutputs_part, channelsOff_part, channelsFollow_part, h_, q_, implies_true, ite_self, not_false_eq_true, if_false]; rfl)
  | ((try simp only [part_ite, part_set, part_setB, setOutputs_part, channelsOff_part, channelsFollow_part, h_, q_, implies_true, ite_self, not_false_eq_true, if_false]) <;> (repeat' split) <;> (first | rfl | (simp only [part_ite, part_set, part_setB, setOutputs_part, channelsOff_part, channelsFollow_part, h_, q_, implies_true, ite_self, not_false_eq_true, if_false]; done) | (simp only [part_ite, part_set, part_setB, setOutputs_part, channelsOff_part, channelsFollow_part, h_, q_, implies_true, ite_self, not_false_eq_true, if_false]; rfl)))

theorem execMirrorFrame_frame {o_ : Obj} (q_ : o_.quiet = true) (h_ : ¬ o_.id ∈ Footprint.execMirrorFrame) (m : Mirror) (good : Bool) (s : State) {t : State} (e_ : execMirrorFrame m good s = .next t) :
    t.view o_ = s.view o_ ∧ t.still = s.canon.still := by
  simp only [Footprint.execMirrorFrame, List.mem_append, List.mem_cons, List.not_mem_nil, or_false, false_or, not_or, and_assoc] at h_
  refine run_frame ?_ e_
  first
  | (simp only [part_ite, part_set, part_inc, forL_part, logLimited_part, healthItem_part, adoptMirror_part, becomeStandby_part, h_, q_, implies_true, ite_self, not_false_eq_true, if_false]; rfl)
  | ((try simp only [part_ite, part_set, part_inc, forL_part, logLimited_part, healthItem_part, adoptMirror_part, becomeStandby_part, h_, q_, implies_true, ite_self, not_false_eq_true, if_false]) <;> (repeat' split) <;> (first | rfl | (simp only [part_ite, part_set, part_inc, forL_part, logLimited_part, healthItem_part, adoptMirror_part, becomeStandby_part, h_, q_, implies_true, ite_self, not_false_eq_true, if_false]; done) | (simp only [part_ite, part_set, part_inc, forL_part, logLimited_part, healthItem_part, adoptMirror_part, becomeStandby_part, h_, q_, implies_true, ite_self, not_false_eq_true, if_false]; rfl)))

theorem execHealthReport_frame {o_ : Obj} (q_ : o_.quiet = true) (h_ : ¬ o_.id ∈ Footprint.execHealthReport)  (s : State) {t : State} (e_ : execHealthReport s = .next t) :
    t.view o_ = s.view o_ ∧ t.still = s.canon.still := by
  simp only [Footprint.execHealthReport, List.mem_append, List.mem_cons, List.not_mem_nil, or_false, false_or, not_or, and_assoc] at h_
  refine run_frame ?_ e_
  first
  | (simp only [part_ite, part_set, part_setB, part_setBytes, part_emit, foldl_part, logEvent_part, healthItem_part, h_, q_, implies_true, ite_self, not_false_eq_true, if_false]; rfl)
  | ((try simp only [part_ite, part_set, part_setB, part_setBytes, part_emit, foldl_part, logEvent_part, healthItem_part, h_, q_, implies_true, ite_self, not_false_eq_true, if_false]) <;> (repeat' split) <;> (first | rfl | (simp only [part_ite, part_set, part_setB, part_setBytes, part_emit, foldl_part, logEvent_part, healthItem_part, h_, q_, implies_true, ite_self, not_false_eq_true, if_false]; done) | (simp only [part_ite, part_set, part_setB, part_setBytes, part_emit, foldl_part, logEvent_part, healthItem_part, h_, q_, implies_true, ite_self, not_false_eq_true, if_false]; rfl)))

theorem execHeartbeat_frame {o_ : Obj} (q_ : o_.quiet = true) (h_ : ¬ o_.id ∈ Footprint.execHeartbeat)  (s : State) {t : State} (e_ : execHeartbeat s = .next t) :
    t.view o_ = s.view o_ ∧ t.still = s.canon.still := by
  simp only [Footprint.execHeartbeat, List.mem_append, List.mem_cons, List.not_mem_nil, or_false, false_or, not_or, and_assoc] at h_
  refine run_frame ?_ e_
  first
  | (simp only [part_ite, part_set, part_emit, h_, q_, implies_true, ite_self, not_false_eq_true, if_false]; rfl)
  | ((try simp only [part_ite, part_set, part_emit, h_, q_, implies_true, ite_self, not_false_eq_true, if_false]) <;> (repeat' split) <;> (first | rfl | (simp only [part_ite, part_set, part_emit, h_, q_, implies_true, ite_self, not_false_eq_true, if_false]; done) | (simp only [part_ite, part_set, part_emit, h_, q_, implies_true, ite_self, not_false_eq_true, if_false]; rfl)))

theorem execDuneDepthWrite_frame {o_ : Obj} (q_ : o_.quiet = true) (h_ : ¬ o_.id ∈ Footprint.execDuneDepthWrite) (r : Req) (data : List Byte) (s : State) {t : State} (e_ : execDuneDepthWrite r data s = .next t) :
    t.view o_ = s.view o_ ∧ t.still = s.canon.still := by
  simp only [Footprint.execDuneDepthWrite, List.mem_append, List.mem_cons, List.not_mem_nil, or_false, false_or, not_or, and_assoc] at h_
  refine run_frame (hostWrite_part q_ (by simp only [h_, not_false_eq_true]) _ _ _ _ _ (fun _ u t e => ?_) _) e_
  (try dsimp only at e)
  repeat' split at e
  all_goals first
      | exact absurd e (by simp only [reduceCtorEq, not_false_eq_true])
      | (rw [← Except.ok.inj e]; done)
      | (rw [← Except.ok.inj e]; simp only [part_ite, part_set, h_, q_, implies_true, ite_self, not_false_eq_true, if_false]; done)
      | (rw [← Except.ok.inj e]; (try simp only [part_ite, part_set, h_, q_, implies_true, ite_self, not_false_eq_true, if_false]) <;> (repeat' split) <;> (first | (simp only [part_ite, part_set, h_, q_, implies_true, ite_self, not_false_eq_true, if_false]; done) | rfl))

theorem execDuneDepthApplied_frame {o_ : Obj} (q_ : o_.quiet = true) (h_ : ¬ o_.id ∈ Footprint.execDuneDepthApplied)  (s : State) {t : State} (e_ : execDuneDepthApplied s = .next t) :
    t.view o_ = s.view o_ ∧ t.still = s.canon.still := by
  simp only [Footprint.execDuneDepthApplied, List.mem_append, List.mem_cons, List.not_mem_nil, or_false, false_or, not_or, and_assoc] at h_
  refine run_frame ?_ e_
  first
  | (simp only [part_ite, part_set, logEvent_part, h_, q_, implies_true, ite_self, not_false_eq_true, if_false]; rfl)
  | ((try simp only [part_ite, part_set, logEvent_part, h_, q_, implies_true, ite_self, not_false_eq_true, if_false]) <;> (repeat' split) <;> (first | rfl | (simp only [part_ite, part_set, logEvent_part, h_, q_, implies_true, ite_self, not_false_eq_true, if_false]; done) | (simp only [part_ite, part_set, logEvent_part, h_, q_, implies_true, ite_self, not_false_eq_true, if_false]; rfl)))

theorem execSamplingLeadWrite_frame {o_ : Obj} (q_ : o_.quiet = true) (h_ : ¬ o_.id ∈ Footprint.execSamplingLeadWrite) (r : Req) (data : List Byte) (s : State) {t : State} (e_ : execSamplingLeadWrite r data s = .next t) :
    t.view o_ = s.view o_ ∧ t.still = s.canon.still := by
  simp only [Footprint.execSamplingLeadWrite, List.mem_append, List.mem_cons, List.not_mem_nil, or_false, false_or, not_or, and_assoc] at h_
  refine run_frame (hostWrite_part q_ (by simp only [h_, not_false_eq_true]) _ _ _ _ _ (fun _ u t e => ?_) _) e_
  (try dsimp only at e)
  repeat' split at e
  all_goals first
      | exact absurd e (by simp only [reduceCtorEq, not_false_eq_true])
      | (rw [← Except.ok.inj e]; done)
      | (rw [← Except.ok.inj e]; simp only [part_ite, part_set, h_, q_, implies_true, ite_self, not_false_eq_true, if_false]; done)
      | (rw [← Except.ok.inj e]; (try simp only [part_ite, part_set, h_, q_, implies_true, ite_self, not_false_eq_true, if_false]) <;> (repeat' split) <;> (first | (simp only [part_ite, part_set, h_, q_, implies_true, ite_self, not_false_eq_true, if_false]; done) | rfl))

theorem execHousekeepingRound_frame {o_ : Obj} (q_ : o_.quiet = true) (h_ : ¬ o_.id ∈ Footprint.execHousekeepingRound) (temps : List (Int × Int)) (supplies : List Nat) (fitted : Bool) (offs : List Nat) (s : State) {t : State} (e_ : execHousekeepingRound temps supplies fitted offs s = .next t) :
    t.view o_ = s.view o_ ∧ t.still = s.canon.still := by
  simp only [Footprint.execHousekeepingRound, List.mem_append, List.mem_cons, List.not_mem_nil, or_false, false_or, not_or, and_assoc] at h_
  refine run_frame ?_ e_
  first
  | (simp only [part_ite, forN_part, supplyRound_part, thermalRound_part, offStateTest_part, countHours_part, weldAgain_part, beginAllocation_part, h_, q_, implies_true, ite_self, not_false_eq_true, if_false]; rfl)
  | ((try simp only [part_ite, forN_part, supplyRound_part, thermalRound_part, offStateTest_part, countHours_part, weldAgain_part, beginAllocation_part, h_, q_, implies_true, ite_self, not_false_eq_true, if_false]) <;> (repeat' split) <;> (first | rfl | (simp only [part_ite, forN_part, supplyRound_part, thermalRound_part, offStateTest_part, countHours_part, weldAgain_part, beginAllocation_part, h_, q_, implies_true, ite_self, not_false_eq_true, if_false]; done) | (simp only [part_ite, forN_part, supplyRound_part, thermalRound_part, offStateTest_part, countHours_part, weldAgain_part, beginAllocation_part, h_, q_, implies_true, ite_self, not_false_eq_true, if_false]; rfl)))

theorem execPtpAnnounce_frame {o_ : Obj} (q_ : o_.quiet = true) (h_ : ¬ o_.id ∈ Footprint.execPtpAnnounce) (a : Announce) (s : State) {t : State} (e_ : execPtpAnnounce a s = .next t) :
    t.view o_ = s.view o_ ∧ t.still = s.canon.still := by
  simp only [Footprint.execPtpAnnounce, List.mem_append, List.mem_cons, List.not_mem_nil, or_false, false_or, not_or, and_assoc] at h_
  refine run_frame ?_ e_
  first
  | (simp only [part_ite, part_set, selectMaster_part, h_, q_, implies_true, ite_self, not_false_eq_true, if_false]; rfl)
  | ((try simp only [part_ite, part_set, selectMaster_part, h_, q_, implies_true, ite_self, not_false_eq_true, if_false]) <;> (repeat' split) <;> (first | rfl | (simp only [part_ite, part_set, selectMaster_part, h_, q_, implies_true, ite_self, not_false_eq_true, if_false]; done) | (simp only [part_ite, part_set, selectMaster_part, h_, q_, implies_true, ite_self, not_false_eq_true, if_false]; rfl)))

theorem execPtpSync_frame {o_ : Obj} (q_ : o_.quiet = true) (h_ : ¬ o_.id ∈ Footprint.execPtpSync) (identity : List Byte) (domain : Nat) (diff : Int) (s : State) {t : State} (e_ : execPtpSync identity domain diff s = .next t) :
    t.view o_ = s.view o_ ∧ t.still = s.canon.still := by
  simp only [Footprint.execPtpSync, List.mem_append, List.mem_cons, List.not_mem_nil, or_false, false_or, not_or, and_assoc] at h_
  refine run_frame ?_ e_
  first
  | (simp only [part_ite, part_set, part_setReal, part_draw, logLimited_part, lockTime_part, h_, q_, implies_true, ite_self, not_false_eq_true, if_false]; rfl)
  | ((try simp only [part_ite, part_set, part_setReal, part_draw, logLimited_part, lockTime_part, h_, q_, implies_true, ite_self, not_false_eq_true, if_false]) <;> (repeat' split) <;> (first | rfl | (simp only [part_ite, part_set, part_setReal, part_draw, logLimited_part, lockTime_part, h_, q_, implies_true, ite_self, not_false_eq_true, if_false]; done) | (simp only [part_ite, part_set, part_setReal, part_draw, logLimited_part, lockTime_part, h_, q_, implies_true, ite_self, not_false_eq_true, if_false]; rfl)))

theorem execPtpDelayResp_frame {o_ : Obj} (q_ : o_.quiet = true) (h_ : ¬ o_.id ∈ Footprint.execPtpDelayResp) (identity : List Byte) (diff : Int) (s : State) {t : State} (e_ : execPtpDelayResp identity diff s = .next t) :
    t.view o_ = s.view o_ ∧ t.still = s.canon.still := by
  simp only [Footprint.execPtpDelayResp, List.mem_append, List.mem_cons, List.not_mem_nil, or_false, false_or, not_or, and_assoc] at h_
  refine run_frame ?_ e_
  first
  | (simp only [part_ite, part_set, h_, q_, implies_true, ite_self, not_false_eq_true, if_false]; rfl)
  | ((try simp only [part_ite, part_set, h_, q_, implies_true, ite_self, not_false_eq_true, if_false]) <;> (repeat' split) <;> (first | rfl | (simp only [part_ite, part_set, h_, q_, implies_true, ite_self, not_false_eq_true, if_false]; done) | (simp only [part_ite, part_set, h_, q_, implies_true, ite_self, not_false_eq_true, if_false]; rfl)))

theorem execPtpLockLost_frame {o_ : Obj} (q_ : o_.quiet = true) (h_ : ¬ o_.id ∈ Footprint.execPtpLockLost)  (s : State) {t : State} (e_ : execPtpLockLost s = .next t) :
    t.view o_ = s.view o_ ∧ t.still = s.canon.still := by
  simp only [Footprint.execPtpLockLost, List.mem_append, List.mem_cons, List.not_mem_nil, or_false, false_or, not_or, and_assoc] at h_
  refine run_frame ?_ e_
  first
  | (simp only [part_ite, part_set, logEvent_part, selectMaster_part, h_, q_, implies_true, ite_self, not_false_eq_true, if_false]; rfl)
  | ((try simp only [part_ite, part_set, logEvent_part, selectMaster_part, h_, q_, implies_true, ite_self, not_false_eq_true, if_false]) <;> (repeat' split) <;> (first | rfl | (simp only [part_ite, part_set, logEvent_part, selectMaster_part, h_, q_, implies_true, ite_self, not_false_eq_true, if_false]; done) | (simp only [part_ite, part_set, logEvent_part, selectMaster_part, h_, q_, implies_true, ite_self, not_false_eq_true, if_false]; rfl)))

theorem execHoldoverTimeout_frame {o_ : Obj} (q_ : o_.quiet = true) (h_ : ¬ o_.id ∈ Footprint.execHoldoverTimeout)  (s : State) {t : State} (e_ : execHoldoverTimeout s = .next t) :
    t.view o_ = s.view o_ ∧ t.still = s.canon.still := by
  simp only [Footprint.execHoldoverTimeout, List.mem_append, List.mem_cons, List.not_mem_nil, or_false, false_or, not_or, and_assoc] at h_
  refine run_frame ?_ e_
  first
  | (simp only [part_ite, part_set, h_, q_, implies_true, ite_self, not_false_eq_true, if_false]; rfl)
  | ((try simp only [part_ite, part_set, h_, q_, implies_true, ite_self, not_false_eq_true, if_false]) <;> (repeat' split) <;> (first | rfl | (simp only [part_ite, part_set, h_, q_, implies_true, ite_self, not_false_eq_true, if_false]; done) | (simp only [part_ite, part_set, h_, q_, implies_true, ite_self, not_false_eq_true, if_false]; rfl)))

theorem execModuleTimeWrite_frame {o_ : Obj} (q_ : o_.quiet = true) (h_ : ¬ o_.id ∈ Footprint.execModuleTimeWrite) (r : Req) (data : List Byte) (s : State) {t : State} (e_ : execModuleTimeWrite r data s = .next t) :
    t.view o_ = s.view o_ ∧ t.still = s.canon.still := by
  simp only [Footprint.execModuleTimeWrite, List.mem_append, List.mem_cons, List.not_mem_nil, or_false, false_or, not_or, and_assoc] at h_
  have f (u : State) : (hostWrite r Obj.moduleTime 0 0 data (fun _ t =>
      if auditBlocks (ofBytesI data) t then .error 6 else .ok (setTime (ofBytesI data) t)) u).part o_ = u.part o_ := by
    refine hostWrite_part q_ (by simp only [h_, not_false_eq_true]) _ _ _ _ _ (fun role u t e => ?_) _
    split at e
    · exact nomatch e
    · rw [← Except.ok.inj e, setTime_part q_ (by simp only [h_, not_false_eq_true])]
  refine run_frame ?_ e_
  (try dsimp only)
  repeat' split
  all_goals first
    | exact f _
    | (rw [logEvent_part q_]; exact f _)

theorem execRtcUpdate_frame {o_ : Obj} (q_ : o_.quiet = true) (h_ : ¬ o_.id ∈ Footprint.execRtcUpdate)  (s : State) {t : State} (e_ : execRtcUpdate s = .next t) :
    t.view o_ = s.view o_ ∧ t.still = s.canon.still := by
  simp only [Footprint.execRtcUpdate, List.mem_append, List.mem_cons, List.not_mem_nil, or_false, false_or, not_or, and_assoc] at h_
  refine run_frame ?_ e_
  first
  | (simp only [part_ite, part_set, h_, q_, implies_true, ite_self, not_false_eq_true, if_false]; rfl)
  | ((try simp only [part_ite, part_set, h_, q_, implies_true, ite_self, not_false_eq_true, if_false]) <;> (repeat' split) <;> (first | rfl | (simp only [part_ite, part_set, h_, q_, implies_true, ite_self, not_false_eq_true, if_false]; done) | (simp only [part_ite, part_set, h_, q_, implies_true, ite_self, not_false_eq_true, if_false]; rfl)))

theorem execClockCheck_frame {o_ : Obj} (q_ : o_.quiet = true) (h_ : ¬ o_.id ∈ Footprint.execClockCheck) (ppb : Int) (s : State) {t : State} (e_ : execClockCheck ppb s = .next t) :
    t.view o_ = s.view o_ ∧ t.still = s.canon.still := by
  simp only [Footprint.execClockCheck, List.mem_append, List.mem_cons, List.not_mem_nil, or_false, false_or, not_or, and_assoc] at h_
  refine run_frame ?_ e_
  first
  | (simp only [part_ite, part_set, logEvent_part, handOverOr_part, stopAllBlocks_part, h_, q_, implies_true, ite_self, not_false_eq_true, if_false]; rfl)
  | ((try simp only [part_ite, part_set, logEvent_part, handOverOr_part, stopAllBlocks_part, h_, q_, implies_true, ite_self, not_false_eq_true, if_false]) <;> (repeat' split) <;> (first | rfl | (simp only [part_ite, part_set, logEvent_part, handOverOr_part, stopAllBlocks_part, h_, q_, implies_true, ite_self, not_false_eq_true, if_false]; done) | (simp only [part_ite, part_set, logEvent_part, handOverOr_part, stopAllBlocks_part, h_, q_, implies_true, ite_self, not_false_eq_true, if_false]; rfl)))

theorem execContextExpiry_frame {o_ : Obj} (q_ : o_.quiet = true) (h_ : ¬ o_.id ∈ Footprint.execContextExpiry) (ctx : Fin 250) (s : State) {t : State} (e_ : execContextExpiry ctx s = .next t) :
    t.view o_ = s.view o_ ∧ t.still = s.canon.still := by
  simp only [Footprint.execContextExpiry, List.mem_append, List.mem_cons, List.not_mem_nil, or_false, false_or, not_or, and_assoc] at h_
  refine run_frame ?_ e_
  first
  | (simp only [part_ite, dropContext_part, h_, q_, implies_true, ite_self, not_false_eq_true, if_false]; rfl)
  | ((try simp only [part_ite, dropContext_part, h_, q_, implies_true, ite_self, not_false_eq_true, if_false]) <;> (repeat' split) <;> (first | rfl | (simp only [part_ite, dropContext_part, h_, q_, implies_true, ite_self, not_false_eq_true, if_false]; done) | (simp only [part_ite, dropContext_part, h_, q_, implies_true, ite_self, not_false_eq_true, if_false]; rfl)))

theorem execImageVerified_frame {o_ : Obj} (q_ : o_.quiet = true) (h_ : ¬ o_.id ∈ Footprint.execImageVerified)  (s : State) {t : State} (e_ : execImageVerified s = .next t) :
    t.view o_ = s.view o_ := by
  simp only [Footprint.execImageVerified, List.mem_append, List.mem_cons, List.not_mem_nil, or_false, false_or, not_or, and_assoc] at h_
  refine run_view ?_ e_
  first
  | (simp only [view_ite, view_set, logEvent_view, chooseMetrology_view, reachStage_view, rejectTrial_view, showImages_view, h_, q_, implies_true, ite_self, not_false_eq_true, if_false]; rfl)
  | ((try simp only [view_ite, view_set, logEvent_view, chooseMetrology_view, reachStage_view, rejectTrial_view, showImages_view, h_, q_, implies_true, ite_self, not_false_eq_true, if_false]) <;> (repeat' split) <;> (first | rfl | (simp only [view_ite, view_set, logEvent_view, chooseMetrology_view, reachStage_view, rejectTrial_view, showImages_view, h_, q_, implies_true, ite_self, not_false_eq_true, if_false]; done) | (simp only [view_ite, view_set, logEvent_view, chooseMetrology_view, reachStage_view, rejectTrial_view, showImages_view, h_, q_, implies_true, ite_self, not_false_eq_true, if_false]; rfl)))

theorem execRoleEstablished_frame {o_ : Obj} (q_ : o_.quiet = true) (h_ : ¬ o_.id ∈ Footprint.execRoleEstablished)  (s : State) {t : State} (e_ : execRoleEstablished s = .next t) :
    t.view o_ = s.view o_ ∧ t.still = s.canon.still := by
  simp only [Footprint.execRoleEstablished, List.mem_append, List.mem_cons, List.not_mem_nil, or_false, false_or, not_or, and_assoc] at h_
  refine run_frame ?_ e_
  first
  | (simp only [part_ite, reachStage_part, afterRole_part, setRole_part, h_, q_, implies_true, ite_self, not_false_eq_true, if_false]; rfl)
  | ((try simp only [part_ite, reachStage_part, afterRole_part, setRole_part, h_, q_, implies_true, ite_self, not_false_eq_true, if_false]) <;> (repeat' split) <;> (first | rfl | (simp only [part_ite, reachStage_part, afterRole_part, setRole_part, h_, q_, implies_true, ite_self, not_false_eq_true, if_false]; done) | (simp only [part_ite, reachStage_part, afterRole_part, setRole_part, h_, q_, implies_true, ite_self, not_false_eq_true, if_false]; rfl)))

theorem execStartupStageTimeout_frame {o_ : Obj} (q_ : o_.quiet = true) (h_ : ¬ o_.id ∈ Footprint.execStartupStageTimeout)  (s : State) {t : State} (e_ : execStartupStageTimeout s = .next t) :
    t.view o_ = s.view o_ := by
  simp only [Footprint.execStartupStageTimeout, List.mem_append, List.mem_cons, List.not_mem_nil, or_false, false_or, not_or, and_assoc] at h_
  refine run_view ?_ e_
  first
  | (simp only [view_ite, view_set, logEvent_view, rejectTrial_view, h_, q_, implies_true, ite_self, not_false_eq_true, if_false]; rfl)
  | ((try simp only [view_ite, view_set, logEvent_view, rejectTrial_view, h_, q_, implies_true, ite_self, not_false_eq_true, if_false]) <;> (repeat' split) <;> (first | rfl | (simp only [view_ite, view_set, logEvent_view, rejectTrial_view, h_, q_, implies_true, ite_self, not_false_eq_true, if_false]; done) | (simp only [view_ite, view_set, logEvent_view, rejectTrial_view, h_, q_, implies_true, ite_self, not_false_eq_true, if_false]; rfl)))

theorem execEthernetLinkUp_frame {o_ : Obj} (q_ : o_.quiet = true) (h_ : ¬ o_.id ∈ Footprint.execEthernetLinkUp) (port : Fin 2) (up gigabit : Bool) (s : State) {t : State} (e_ : execEthernetLinkUp port up gigabit s = .next t) :
    t.view o_ = s.view o_ ∧ t.still = s.canon.still := by
  simp only [Footprint.execEthernetLinkUp, List.mem_append, List.mem_cons, List.not_mem_nil, or_false, false_or, not_or, and_assoc] at h_
  refine run_frame ?_ e_
  first
  | (simp only [part_ite, part_setB, h_, q_, implies_true, ite_self, not_false_eq_true, if_false]; rfl)
  | ((try simp only [part_ite, part_setB, h_, q_, implies_true, ite_self, not_false_eq_true, if_false]) <;> (repeat' split) <;> (first | rfl | (simp only [part_ite, part_setB, h_, q_, implies_true, ite_self, not_false_eq_true, if_false]; done) | (simp only [part_ite, part_setB, h_, q_, implies_true, ite_self, not_false_eq_true, if_false]; rfl)))

theorem execRead_frame {o_ : Obj} (q_ : o_.quiet = true) (h_ : ¬ o_.id ∈ Footprint.execRead) (r : Req) (index sub : Nat) (s : State) {t : State} (e_ : execRead r index sub s = .next t) :
    t.view o_ = s.view o_ ∧ t.still = s.canon.still := by
  simp only [Footprint.execRead, List.mem_append, List.mem_cons, List.not_mem_nil, or_false, false_or, not_or, and_assoc] at h_
  have f (a b c : Nat) (u v : State) (d : List Byte) (e : readAddress a b c u = .ok (d, v)) : v.part o_ = u.part o_ := by
    unfold readAddress at e
    split at e
    · exact nomatch e
    · split at e
      · split at e
        · exact nomatch e
        · split at e
          · have e2 := congrArg Prod.snd (Except.ok.inj e); dsimp only at e2; rw [← e2]; exact afterRead_part q_ (by simp only [h_, not_false_eq_true]) _ _ _
          · exact nomatch e
      · split at e
        · exact nomatch e
        · split at e
          · exact nomatch e
          · have e2 := congrArg Prod.snd (Except.ok.inj e); dsimp only at e2; rw [← e2]; exact foldl_part (fun _ _ => afterRead_part q_ (by simp only [h_, not_false_eq_true]) _ _ _) _ _
  have a := judgeRequest_part h_.1 r 1 index sub [] { s with out := [] }
  refine run_frame ?_ e_
  (try dsimp only)
  split
  · exact beginPartly_part q_ _ _ _
  · split <;> rename_i e <;> rw [e] at a
    · exact a
    · rw [answer_part q_]; exact a
    · split
      · rw [answer_part q_]; exact a
      · split
        · rw [answer_part q_]; exact a
        · rename_i g
          rw [answer_part q_, f _ _ _ _ _ _ g]; exact a

theorem execAbort_frame {o_ : Obj} (q_ : o_.quiet = true) (h_ : ¬ o_.id ∈ Footprint.execAbort) (r : Req) (s : State) {t : State} (e_ : execAbort r s = .next t) :
    t.view o_ = s.view o_ ∧ t.still = s.canon.still := by
  simp only [Footprint.execAbort, List.mem_append, List.mem_cons, List.not_mem_nil, or_false, false_or, not_or, and_assoc] at h_
  refine run_frame ?_ e_
  first
  | (simp only [part_ite, endPartly_part, endResponse_part, h_, q_, implies_true, ite_self, not_false_eq_true, if_false]; rfl)
  | ((try simp only [part_ite, endPartly_part, endResponse_part, h_, q_, implies_true, ite_self, not_false_eq_true, if_false]) <;> (repeat' split) <;> (first | rfl | (simp only [part_ite, endPartly_part, endResponse_part, h_, q_, implies_true, ite_self, not_false_eq_true, if_false]; done) | (simp only [part_ite, endPartly_part, endResponse_part, h_, q_, implies_true, ite_self, not_false_eq_true, if_false]; rfl)))

theorem execBlockAck_frame {o_ : Obj} (q_ : o_.quiet = true) (h_ : ¬ o_.id ∈ Footprint.execBlockAck) (tag : Fin 256) (s : State) {t : State} (e_ : execBlockAck tag s = .next t) :
    t.view o_ = s.view o_ ∧ t.still = s.canon.still := by
  simp only [Footprint.execBlockAck, List.mem_append, List.mem_cons, List.not_mem_nil, or_false, false_or, not_or, and_assoc] at h_
  refine run_frame ?_ e_
  first
  | (simp only [part_ite, part_set, part_setBytes, part_emit, h_, q_, implies_true, ite_self, not_false_eq_true, if_false]; rfl)
  | ((try simp only [part_ite, part_set, part_setBytes, part_emit, h_, q_, implies_true, ite_self, not_false_eq_true, if_false]) <;> (repeat' split) <;> (first | rfl | (simp only [part_ite, part_set, part_setBytes, part_emit, h_, q_, implies_true, ite_self, not_false_eq_true, if_false]; done) | (simp only [part_ite, part_set, part_setBytes, part_emit, h_, q_, implies_true, ite_self, not_false_eq_true, if_false]; rfl)))

theorem execRequestIncomplete_frame {o_ : Obj} (q_ : o_.quiet = true) (h_ : ¬ o_.id ∈ Footprint.execRequestIncomplete) (space tag : Nat) (s : State) {t : State} (e_ : execRequestIncomplete space tag s = .next t) :
    t.view o_ = s.view o_ ∧ t.still = s.canon.still := by
  refine run_frame ?_ e_
  first
  | (simp only [part_ite, logEvent_part, endPartly_part, h_, q_, implies_true, ite_self, not_false_eq_true, if_false]; rfl)
  | ((try simp only [part_ite, logEvent_part, endPartly_part, h_, q_, implies_true, ite_self, not_false_eq_true, if_false]) <;> (repeat' split) <;> (first | rfl | (simp only [part_ite, logEvent_part, endPartly_part, h_, q_, implies_true, ite_self, not_false_eq_true, if_false]; done) | (simp only [part_ite, logEvent_part, endPartly_part, h_, q_, implies_true, ite_self, not_false_eq_true, if_false]; rfl)))

theorem execCanTransferTimeout_frame {o_ : Obj} (q_ : o_.quiet = true) (h_ : ¬ o_.id ∈ Footprint.execCanTransferTimeout) (tag : Fin 256) (s : State) {t : State} (e_ : execCanTransferTimeout tag s = .next t) :
    t.view o_ = s.view o_ ∧ t.still = s.canon.still := by
  simp only [Footprint.execCanTransferTimeout, List.mem_append, List.mem_cons, List.not_mem_nil, or_false, false_or, not_or, and_assoc] at h_
  refine run_frame ?_ e_
  first
  | (simp only [part_ite, logEvent_part, endPartly_part, endResponse_part, h_, q_, implies_true, ite_self, not_false_eq_true, if_false]; rfl)
  | ((try simp only [part_ite, logEvent_part, endPartly_part, endResponse_part, h_, q_, implies_true, ite_self, not_false_eq_true, if_false]) <;> (repeat' split) <;> (first | rfl | (simp only [part_ite, logEvent_part, endPartly_part, endResponse_part, h_, q_, implies_true, ite_self, not_false_eq_true, if_false]; done) | (simp only [part_ite, logEvent_part, endPartly_part, endResponse_part, h_, q_, implies_true, ite_self, not_false_eq_true, if_false]; rfl)))

theorem execTerminalCommandAccept_frame {o_ : Obj} (q_ : o_.quiet = true) (h_ : ¬ o_.id ∈ Footprint.execTerminalCommandAccept) (link : Fin 16) (late : Bool) (frame : List Byte) (s : State) {t : State} (e_ : execTerminalCommandAccept link late frame s = .next t) :
    t.view o_ = s.view o_ ∧ t.still = s.canon.still := by
  simp only [Footprint.execTerminalCommandAccept, List.mem_append, List.mem_cons, List.not_mem_nil, or_false, false_or, not_or, and_assoc] at h_
  refine run_frame ?_ e_
  first
  | (simp only [part_ite, termAccept_part, h_, q_, implies_true, ite_self, not_false_eq_true, if_false]; rfl)
  | ((try simp only [part_ite, termAccept_part, h_, q_, implies_true, ite_self, not_false_eq_true, if_false]) <;> (repeat' split) <;> (first | rfl | (simp only [part_ite, termAccept_part, h_, q_, implies_true, ite_self, not_false_eq_true, if_false]; done) | (simp only [part_ite, termAccept_part, h_, q_, implies_true, ite_self, not_false_eq_true, if_false]; rfl)))

theorem execTerminalHold_frame {o_ : Obj} (q_ : o_.quiet = true) (h_ : ¬ o_.id ∈ Footprint.execTerminalHold) (link : Fin 16) (s : State) {t : State} (e_ : execTerminalHold link s = .next t) :
    t.view o_ = s.view o_ ∧ t.still = s.canon.still := by
  simp only [Footprint.execTerminalHold, List.mem_append, List.mem_cons, List.not_mem_nil, or_false, false_or, not_or, and_assoc] at h_
  refine run_frame ?_ e_
  first
  | (simp only [part_ite, termHold_part, h_, q_, implies_true, ite_self, not_false_eq_true, if_false]; rfl)
  | ((try simp only [part_ite, termHold_part, h_, q_, implies_true, ite_self, not_false_eq_true, if_false]) <;> (repeat' split) <;> (first | rfl | (simp only [part_ite, termHold_part, h_, q_, implies_true, ite_self, not_false_eq_true, if_false]; done) | (simp only [part_ite, termHold_part, h_, q_, implies_true, ite_self, not_false_eq_true, if_false]; rfl)))

theorem execTerminalSafeOff_frame {o_ : Obj} (q_ : o_.quiet = true) (h_ : ¬ o_.id ∈ Footprint.execTerminalSafeOff) (link : Fin 16) (s : State) {t : State} (e_ : execTerminalSafeOff link s = .next t) :
    t.view o_ = s.view o_ ∧ t.still = s.canon.still := by
  simp only [Footprint.execTerminalSafeOff, List.mem_append, List.mem_cons, List.not_mem_nil, or_false, false_or, not_or, and_assoc] at h_
  refine run_frame ?_ e_
  first
  | (simp only [part_ite, termSafeOff_part, h_, q_, implies_true, ite_self, not_false_eq_true, if_false]; rfl)
  | ((try simp only [part_ite, termSafeOff_part, h_, q_, implies_true, ite_self, not_false_eq_true, if_false]) <;> (repeat' split) <;> (first | rfl | (simp only [part_ite, termSafeOff_part, h_, q_, implies_true, ite_self, not_false_eq_true, if_false]; done) | (simp only [part_ite, termSafeOff_part, h_, q_, implies_true, ite_self, not_false_eq_true, if_false]; rfl)))

theorem execTerminalPhaseFault_frame {o_ : Obj} (q_ : o_.quiet = true) (h_ : ¬ o_.id ∈ Footprint.execTerminalPhaseFault) (phase : Fin 256) (cause : Fin 8) (s : State) {t : State} (e_ : execTerminalPhaseFault phase cause s = .next t) :
    t.view o_ = s.view o_ ∧ t.still = s.canon.still := by
  simp only [Footprint.execTerminalPhaseFault, List.mem_append, List.mem_cons, List.not_mem_nil, or_false, false_or, not_or, and_assoc] at h_
  refine run_frame ?_ e_
  first
  | (simp only [part_ite, termFaultOff_part, h_, q_, implies_true, ite_self, not_false_eq_true, if_false]; rfl)
  | ((try simp only [part_ite, termFaultOff_part, h_, q_, implies_true, ite_self, not_false_eq_true, if_false]) <;> (repeat' split) <;> (first | rfl | (simp only [part_ite, termFaultOff_part, h_, q_, implies_true, ite_self, not_false_eq_true, if_false]; done) | (simp only [part_ite, termFaultOff_part, h_, q_, implies_true, ite_self, not_false_eq_true, if_false]; rfl)))

section
variable {o_ : Obj} (q_ : o_.quiet = true)
include q_

theorem execAuthorisationWrite_frame (h_ : ¬ o_.id ∈ Footprint.execAuthorisationWrite) (r : Req) (ctx : Fin 250) (data : List Byte) {s t : State} (n : s.unawaited o_)
    (e_ : execAuthorisationWrite r ctx data s = .next t) : t.view o_ = s.view o_ ∧ t.still = s.canon.still := by
  simp only [Footprint.execAuthorisationWrite, List.mem_append, List.mem_cons, List.not_mem_nil, or_false, not_or, and_assoc] at h_
  obtain ⟨a, b, c, d, f⟩ := h_
  refine run_frame (hostWrite_part_of q_ b r _ _ _ _ (s := { s with out := [] }) n fun role u v y e => ?_) e_
  dsimp only at e
  split at e
  · exact nomatch e
  · split at e
    · exact nomatch e
    · split at e
      · exact nomatch e
      · split at e
        · rw [← Except.ok.inj e, authoriseOutlet_part q_ d, flushContext_part q_ c _ y]
        · rw [← Except.ok.inj e, closeEarly_part q_ f, part_set a, flushContext_part q_ c _ y]

theorem execAllocatorFastPass_frame (h_ : ¬ o_.id ∈ Footprint.execAllocatorFastPass) {s t : State} (n : s.unawaited o_)
    (e_ : execAllocatorFastPass s = .next t) : t.view o_ = s.view o_ ∧ t.still = s.canon.still := by
  simp only [Footprint.execAllocatorFastPass, List.mem_append, not_or] at h_
  refine run_frame ?_ e_
  (try dsimp only)
  rw [fastPass_part q_ h_.2]
  exact atBoundary_part q_ h_.1 _ (s := { s with out := [] }) n

theorem execMeteringSecond_frame (h_ : ¬ o_.id ∈ Footprint.execMeteringSecond) {s t : State} (n : s.unawaited o_)
    (e_ : execMeteringSecond s = .next t) : t.view o_ = s.view o_ ∧ t.still = s.canon.still := by
  simp only [Footprint.execMeteringSecond, List.mem_append, List.mem_cons, List.not_mem_nil, or_false, not_or, and_assoc] at h_
  obtain ⟨a1, a2, a3, a4, a5, b, c, d, f⟩ := h_
  have k (v : Int) : (atBoundary .second (State.set { s with out := [] } Reg.secondDone v)).part o_ = State.part { s with out := [] } o_ :=
    (atBoundary_part q_ b .second (s := State.set { s with out := [] } Reg.secondDone v) n).trans (part_set a1 _ _ _)
  have m (u : State) : (u.forN 8 fun ch u => if u.get Reg.pushDropped ch = 0 then u
        else logEvent 0x1210 srcAp0 (data8 [ch] ++ data32 (u.get Reg.pushDropped ch)) (u.set Reg.pushDropped 0 ch)).part o_ = u.part o_ := by
    refine forN_part (fun ch u => ?_) _ _
    split
    · rfl
    · rw [logEvent_part q_, part_set a5]
  have l (u : State) : (u.forN 76 fun c u =>
        (if 160 < u.get Reg.overloads c ∧ u.is Reg.channelFault c then u.set Reg.channelBadAt u.now c else u)).part o_ = u.part o_ := by
    refine forN_part (fun ch u => ?_) _ _
    split
    · exact part_set a2 _ _ _
    · rfl
  have j (v : Int) (u : State) : State.part (u.forN 24 (secondOfDc v)) o_ = u.part o_ := forN_part (fun _ _ => secondOfDc_part q_ c _ _ _) _ _
  have p (v : Int) (u : State) : State.part (u.forN 4 (secondOfFeeder v)) o_ = u.part o_ := forN_part (fun _ _ => secondOfFeeder_part q_ d _ _ _) _ _
  refine run_frame ?_ e_
  (try dsimp only)
  split
  · rfl
  · rw [part_ite, part_emit, ite_self, commitMeters_part q_, m, part_set a4, forN_part (fun _ _ => part_set a3 _ _ _),
      showRunning_part q_ f, p, j, l]
    exact k _

omit q_ in
theorem execMeteringValuesSync_frame (h_ : ¬ o_.id ∈ Footprint.execMeteringValuesSync) (values : List Nat) {s t : State}
    (e_ : execMeteringValuesSync values s = .next t) : t.view o_ = s.view o_ ∧ t.still = s.canon.still := by
  have f (l : List ((Obj × Nat × Nat) × Nat)) (m : ∀ x ∈ l, ¬ o_.id = x.1.1.id) (n : ¬ o_.id = Reg.shadowSum.id) (u : State) :
      (l.foldl (fun u x =>
        let (o, i, j) := x.1
        (u.set o ((x.2 : Int) * 2 ^ 32) i j).set Reg.shadowSum 0 o.id (16 * i + j)) u).part o_ = u.part o_ := by
    induction l generalizing u with
    | nil => rfl
    | cons x l ih =>
      refine (ih (fun y my => m y (.tail _ my)) _).trans ?_
      dsimp only
      rw [part_set n, part_set (m x (.head _))]
  simp only [Footprint.execMeteringValuesSync, Footprint.adoptMeters, List.mem_append, List.mem_map, List.mem_cons, List.not_mem_nil, or_false, not_or] at h_
  refine run_frame ?_ e_
  (try dsimp only)
  split
  · rfl
  · exact f _ (fun x m e => h_.1 ⟨x.1, (List.of_mem_zip m).1, e.symm⟩) h_.2 _

theorem execCanFrameSent_frame (h_ : ¬ o_.id ∈ Footprint.execCanFrameSent) (bus : Fin 4) {s t : State} (n : s.unawaited o_)
    (e_ : execCanFrameSent bus s = .next t) : t.view o_ = s.view o_ ∧ t.still = s.canon.still := by
  simp only [Footprint.execCanFrameSent, List.mem_append, List.mem_cons, List.not_mem_nil, or_false, not_or, and_assoc] at h_
  obtain ⟨a1, a2, a3, a4, a5, b, c⟩ := h_
  refine run_frame ?_ e_
  (try dsimp only)
  split
  · rfl
  · rw [canIdle_part q_ c]
    have z (x : Nat) (e : Emission) (k : Nat) (u v w y : Int) : (frameDone x ((((State.emit { s with out := [] } e).inc Obj.framesSent k).set Reg.canTec u k).set
        Obj.transmitErrors v k |>.set Obj.moTime w x |>.set Reg.canOnBus y k)).part o_ = s.part o_ := by
      rw [frameDone_part q_ b x, part_set a5, part_set a4, part_set a3, part_set a2, part_inc a1, part_emit]
      · rfl
      · exact n
    exact z _ _ _ _ _ _ _

theorem execCanAbort_frame (h_ : ¬ o_.id ∈ Footprint.execCanAbort) (r : Req) (mo : Fin 512) {s t : State} (n : s.unawaited o_)
    (e_ : execCanAbort r mo s = .next t) : t.view o_ = s.view o_ ∧ t.still = s.canon.still := by
  simp only [Footprint.execCanAbort, List.mem_append, not_or] at h_
  have k := hostDefer_part_of q_ h_.1 r Obj.moAbort mo 0 [1] (s := { s with out := [] }) (fx := fun _ t => abortMo mo t) n
    fun role u v y e => abortMo_part q_ h_.2 _ y e
  refine run_frame ?_ e_
  (try dsimp only)
  rw [part_ite, answerWaiting_part q_, ite_self]
  exact k

theorem execCanBusError_frame (h_ : ¬ o_.id ∈ Footprint.execCanBusError) (bus : Fin 4) (transmitting primary : Bool) {s t : State} (n : s.unawaited o_)
    (e_ : execCanBusError bus transmitting primary s = .next t) : t.view o_ = s.view o_ ∧ t.still = s.canon.still := by
  simp only [Footprint.execCanBusError, List.mem_append, List.mem_cons, List.not_mem_nil, or_false, not_or, and_assoc] at h_
  obtain ⟨a1, a2, b, c⟩ := h_
  have z (u : State) (y : u.waiting = s.waiting) : (judgeErrors bus u).unawaited o_ := by
    rw [State.unawaited, judgeErrors_waiting, y]; exact n
  refine run_frame ?_ e_
  (try dsimp only)
  split
  · rfl
  · cases transmitting
    · rw [if_neg (by decide), if_neg (by decide), judgeErrors_part q_ b, part_set a2]
    · rw [if_pos rfl, if_pos rfl, attemptFailed_part q_ c, judgeErrors_part q_ b, part_set a1]
      exact z _ rfl

theorem execBitTimingApply_frame (h_ : ¬ o_.id ∈ Footprint.execBitTimingApply) (bus : Fin 4) {s t : State} (n : s.unawaited o_)
    (e_ : execBitTimingApply bus s = .next t) : t.view o_ = s.view o_ ∧ t.still = s.canon.still := by
  refine run_frame ?_ e_
  (try dsimp only)
  split
  · exact atBoundary_part q_ h_ _ (s := { s with out := [] }) n
  · rfl

theorem execHpCycle_frame (h_ : ¬ o_.id ∈ Footprint.execHpCycle) (levels : Fin 256) (srst : Bool) (pulses above5 above18 : Fin 256) {s t : State} (n : s.unawaited o_)
    (e_ : execHpCycle levels srst pulses above5 above18 s = .next t) : t.view o_ = s.view o_ ∧ t.still = s.canon.still :=
  run_frame (hpCycle_part q_ h_ levels srst pulses above5 above18 (s := { s with out := [] }) n) e_

theorem execParentSlotWrite_frame (h_ : ¬ o_.id ∈ Footprint.execParentSlotWrite) (r : Req) (slot : Fin 1024) (source : Bool) (data : List Byte) {s t : State}
    (e_ : execParentSlotWrite r slot source data s = .next t) : t.view o_ = s.view o_ ∧ t.still = s.canon.still := by
  simp only [Footprint.execParentSlotWrite, List.mem_append, not_or] at h_
  refine run_frame ?_ e_
  (try dsimp only)
  split
  · refine hostWrite_part q_ h_.1 _ _ _ _ _ (fun role u v e => ?_) _
    split at e
    · exact setParent_part q_ h_.2 _ _ _ e
    · exact nomatch e
  · exact hostWrite_part q_ h_.1 _ _ _ _ _ (fun role u v e => setParent_part q_ h_.2 _ _ _ e) _

theorem execSyncAckTimeout_frame (h_ : ¬ o_.id ∈ Footprint.execSyncAckTimeout) {s t : State} (n : s.unawaited o_)
    (e_ : execSyncAckTimeout s = .next t) : t.view o_ = s.view o_ ∧ t.still = s.canon.still := by
  simp only [Footprint.execSyncAckTimeout, List.mem_append, List.mem_cons, List.not_mem_nil, or_false, not_or, and_assoc] at h_
  obtain ⟨a1, a2, a3, b, c, d⟩ := h_
  have k := atBoundary_part q_ b .sync (s := { s with out := [] }) n
  refine run_frame ?_ e_
  simp only [part_ite, logEvent_part q_, healthItem_part q_ d, part_set a3, part_set a2, showContexts_part q_ c, part_set a1, k, ite_self]

theorem execCreatePending_frame (h_ : ¬ o_.id ∈ Footprint.execCreatePending) (r : Req) (ctx : Fin 250) {s t : State} (n : s.unawaited o_)
    (e_ : execCreatePending r ctx s = .next t) : t.view o_ = s.view o_ ∧ t.still = s.canon.still := by
  simp only [Footprint.execCreatePending, List.mem_append, not_or] at h_
  refine run_frame (contextCommand_part q_ h_.1 (fun u v e => ?_) r ctx 1 (s := { s with out := [] }) n) e_
  split at e
  · exact nomatch e
  · rw [← Except.ok.inj e, createContext_part q_ h_.2]

theorem execCreateReserved_frame (h_ : ¬ o_.id ∈ Footprint.execCreateReserved) (r : Req) (ctx : Fin 250) {s t : State} (n : s.unawaited o_)
    (e_ : execCreateReserved r ctx s = .next t) : t.view o_ = s.view o_ ∧ t.still = s.canon.still := by
  simp only [Footprint.execCreateReserved, List.mem_append, not_or] at h_
  refine run_frame (contextCommand_part q_ h_.1 (fun u v e => ?_) r ctx 2 (s := { s with out := [] }) n) e_
  split at e
  · exact nomatch e
  · rw [← Except.ok.inj e, createContext_part q_ h_.2]

theorem execCancel_frame (h_ : ¬ o_.id ∈ Footprint.execCancel) (r : Req) (ctx : Fin 250) {s t : State} (n : s.unawaited o_)
    (e_ : execCancel r ctx s = .next t) : t.view o_ = s.view o_ ∧ t.still = s.canon.still := by
  simp only [Footprint.execCancel, List.mem_append, not_or] at h_
  refine run_frame (contextCommand_part q_ h_.1 (fun u v e => ?_) r ctx 3 (s := { s with out := [] }) n) e_
  split at e
  · rw [← Except.ok.inj e, dropContext_part q_ h_.2]
  · exact nomatch e

theorem execContextNormalStop_frame (h_ : ¬ o_.id ∈ Footprint.execContextNormalStop) (r : Req) (ctx : Fin 250) {s t : State} (n : s.unawaited o_)
    (e_ : execContextNormalStop r ctx s = .next t) : t.view o_ = s.view o_ ∧ t.still = s.canon.still := by
  simp only [Footprint.execContextNormalStop, List.mem_append, not_or] at h_
  exact run_frame (contextCommand_part q_ h_.1 (fun u v e => contextStop_part _ (fun _ _ => normalStop_part q_ h_.2 _ _ _) _ e) r ctx 4 (s := { s with out := [] }) n) e_

theorem execContextEmergencyStop_frame (h_ : ¬ o_.id ∈ Footprint.execContextEmergencyStop) (r : Req) (ctx : Fin 250) {s t : State} (n : s.unawaited o_)
    (e_ : execContextEmergencyStop r ctx s = .next t) : t.view o_ = s.view o_ ∧ t.still = s.canon.still := by
  simp only [Footprint.execContextEmergencyStop, List.mem_append, not_or] at h_
  exact run_frame (contextCommand_part q_ h_.1 (fun u v e => contextStop_part _ (fun _ _ => emergencyStop_part q_ h_.2 _ _ _) _ e) r ctx 5 (s := { s with out := [] }) n) e_

theorem execCanObjectChange_frame (h_ : ¬ o_.id ∈ Footprint.execCanObjectChange) (r : Req) (mo : Fin 512) (field : Fin 4) (data : List Byte) {s t : State}
    (e_ : execCanObjectChange r mo field data s = .next t) : t.view o_ = s.view o_ ∧ t.still = s.canon.still := by
  simp only [Footprint.execCanObjectChange, List.mem_append, List.mem_cons, List.not_mem_nil, or_false, not_or, and_assoc] at h_
  obtain ⟨a1, a2, a3, a4, a5, b, c, d⟩ := h_
  have f : (moFieldObj field).id ≠ o_.id := by
    match field with
    | 0 => exact fun x => a1 x.symm
    | 1 => exact fun x => a2 x.symm
    | 2 => exact fun x => a3 x.symm
    | 3 => exact fun x => a4 x.symm
  have k := judgeRequest_part b r 2 ((moFieldObj field).index mo) (moFieldObj field).sub data { s with out := [] }
  refine run_frame ?_ e_
  (try dsimp only)
  split
  · exact beginPartly_part q_ _ _ _
  · split <;> rename_i e <;> rw [e] at k
    · exact k
    · rw [answer_part q_]; exact k
    · have w (sp role : Nat) (bd : Boundary) (num : Int) (u : State) : (acceptWrite sp role r false bd [⟨(moFieldObj field).key mo 0, num, [], false⟩] u).part o_ = u.part o_ := by
        unfold acceptWrite
        dsimp only
        split
        · refine applyWaiting_part q_ c (fun g m => ?_) _
          rw [List.mem_singleton.mp m]; exact f
        · rfl
      repeat' split
      all_goals first
        | (rw [answer_part q_]; exact k)
        | (rw [part_set a5, w, markDeferred_part q_ d]; exact k)
        | (rw [w, markDeferred_part q_ d]; exact k)
end

end Sys2Proof.Machine
end

