-- ==== Sys2Proof/Laws/Reads.lean ====
section
/-!
SUPPORT. Reads: what a register reads after a function that leaves it alone, and what a command that completes leaves. One lemma
for each function whose frame Laws/Frames.lean gives.
-/

namespace Sys2Proof.Machine

set_option Elab.async false

set_option linter.unusedSimpArgs false
set_option linter.unusedVariables false

/-! ### A command that completes -/

/-- A command runs on the state with nothing on its interfaces. -/
def State.fresh (s : State) : State := { s with out := [] }

/-- It leaves the canonical state, with the queue as it was. -/
def State.done (u : State) (q : List Instr) : State := { u.canon with pending := q }

/-- What holds of the state that a command leaves. -/
theorem run_yields {s : State} {f : State → State} {P : State → Prop} (h : P ((f s.fresh).done s.pending)) :
    ∃ t, s.run f = .next t ∧ P t := ⟨_, rfl, h⟩

@[simp] theorem done_get (u : State) (q : List Instr) (o : Obj) (i j : Nat) : (u.done q).get o i j = u.get o i j :=
  (get_withPending u.canon q o i j).trans (canon_get u o i j)
@[simp] theorem done_bytes (u : State) (q : List Instr) (o : Obj) (i j : Nat) : (u.done q).bytes o i j = u.bytes o i j :=
  (bytes_withPending u.canon q o i j).trans (canon_bytes u o i j)
@[simp] theorem done_seq (u : State) (q : List Instr) (o : Obj) (i j : Nat) : (u.done q).seq o i j = u.seq o i j :=
  (seq_withPending u.canon q o i j).trans (canon_seq u o i j)
@[simp] theorem done_real (u : State) (q : List Instr) (o : Obj) (i j : Nat) : (u.done q).real o i j = u.real o i j :=
  (real_withPending u.canon q o i j).trans (canon_real u o i j)
@[simp] theorem done_log (u : State) (q : List Instr) (o : Obj) (i : Nat) : (u.done q).log o i = u.log o i :=
  (log_withPending u.canon q o i).trans (canon_log u o i)
@[simp] theorem done_out (u : State) (q : List Instr) : (u.done q).out = u.out := rfl
@[simp] theorem done_waiting (u : State) (q : List Instr) : (u.done q).waiting = u.waiting := rfl
@[simp] theorem done_sessions (u : State) (q : List Instr) : (u.done q).sessions = u.sessions := rfl
@[simp] theorem done_dirty (u : State) (q : List Instr) : (u.done q).dirty = u.dirty := rfl
@[simp] theorem fresh_get (s : State) (o : Obj) (i j : Nat) : s.fresh.get o i j = s.get o i j := rfl
@[simp] theorem fresh_getN (s : State) (o : Obj) (i j : Nat) : s.fresh.getN o i j = s.getN o i j := rfl
@[simp] theorem fresh_is (s : State) (o : Obj) (i j : Nat) : s.fresh.is o i j = s.is o i j := rfl
@[simp] theorem fresh_bytes (s : State) (o : Obj) (i j : Nat) : s.fresh.bytes o i j = s.bytes o i j := rfl
@[simp] theorem fresh_seq (s : State) (o : Obj) (i j : Nat) : s.fresh.seq o i j = s.seq o i j := rfl
@[simp] theorem fresh_real (s : State) (o : Obj) (i j : Nat) : s.fresh.real o i j = s.real o i j := rfl
@[simp] theorem fresh_log (s : State) (o : Obj) (i : Nat) : s.fresh.log o i = s.log o i := rfl
@[simp] theorem fresh_now (s : State) : s.fresh.now = s.now := rfl
@[simp] theorem fresh_time (s : State) : s.fresh.time = s.time := rfl
@[simp] theorem fresh_frame (s : State) : s.fresh.frame = s.frame := rfl
@[simp] theorem fresh_waiting (s : State) : s.fresh.waiting = s.waiting := rfl
@[simp] theorem fresh_sessions (s : State) : s.fresh.sessions = s.sessions := rfl
@[simp] theorem fresh_dirty (s : State) : s.fresh.dirty = s.dirty := rfl
@[simp] theorem fresh_flash (s : State) : s.fresh.flash = s.flash := rfl
@[simp] theorem fresh_pool (s : State) : s.fresh.pool = s.pool := rfl
@[simp] theorem fresh_out (s : State) : s.fresh.out = [] := rfl

/-! ### Plain updates -/

@[simp] theorem get_ite (c : Prop) [Decidable c] (a b : State) (o : Obj) (i j : Nat) :
    State.get (if c then a else b) o i j = if c then a.get o i j else b.get o i j := by split <;> rfl
@[simp] theorem bytes_ite (c : Prop) [Decidable c] (a b : State) (o : Obj) (i j : Nat) :
    State.bytes (if c then a else b) o i j = if c then a.bytes o i j else b.bytes o i j := by split <;> rfl
@[simp] theorem log_ite (c : Prop) [Decidable c] (a b : State) (o : Obj) (i : Nat) :
    State.log (if c then a else b) o i = if c then a.log o i else b.log o i := by split <;> rfl
@[simp] theorem seq_ite (c : Prop) [Decidable c] (a b : State) (o : Obj) (i j : Nat) :
    State.seq (if c then a else b) o i j = if c then a.seq o i j else b.seq o i j := by split <;> rfl
@[simp] theorem get_set_other (s : State) (o q : Obj) (v : Int) (i j k l : Nat) (h : ¬ o.id = q.id) :
    (s.set q v i j).get o k l = s.get o k l :=
  get_set_of_ne s v _ _ _ _ (fun x => h x.symm)
@[simp] theorem get_inc_other (s : State) (o q : Obj) (i j k l : Nat) (h : ¬ o.id = q.id) :
    (s.inc q i j).get o k l = s.get o k l :=
  get_set_other _ _ _ _ _ _ _ _ h
@[simp] theorem get_setB_other (s : State) (o q : Obj) (v : Bool) (i j k l : Nat) (h : ¬ o.id = q.id) :
    (s.setB q v i j).get o k l = s.get o k l :=
  get_set_other _ _ _ _ _ _ _ _ h
@[simp] theorem get_setB_same (s : State) (q : Obj) (v : Bool) (i j : Nat) :
    (s.setB q v i j).get q i j = if v then 1 else 0 :=
  get_set_same _ _ _ _ _
@[simp] theorem get_setBit_other (s : State) (o q : Obj) (b : Nat) (v : Bool) (i j k l : Nat) (h : ¬ o.id = q.id) :
    (s.setBit q b v i j).get o k l = s.get o k l :=
  get_set_other _ _ _ _ _ _ _ _ h
@[simp] theorem get_keep_same (s : State) (q : Obj) (v : Int) (i j : Nat) :
    (s.keep q v i j).get q i j = v :=
  get_set_same _ _ _ _ _
@[simp] theorem get_keep_other (s : State) (o q : Obj) (v : Int) (i j k l : Nat) (h : ¬ o.id = q.id) :
    (s.keep q v i j).get o k l = s.get o k l :=
  get_set_other _ _ _ _ _ _ _ _ h
@[simp] theorem bytes_setBytes_other (s : State) (o q : Obj) (v : List Byte) (i j k l : Nat) (h : ¬ o.id = q.id) :
    (s.setBytes q v i j).bytes o k l = s.bytes o k l := by rw [bytes_setBytes, if_neg fun x => h x.1.symm]
@[simp] theorem log_setLog_other (s : State) (o q : Obj) (v : List (List Byte)) (i k : Nat) (h : ¬ o.id = q.id) :
    (s.setLog q v i).log o k = s.log o k := by rw [log_setLog, if_neg fun x => h x.1.symm]
@[simp] theorem seq_setSeq_other (s : State) (o q : Obj) (v : List Int) (i j k l : Nat) (h : ¬ o.id = q.id) :
    (s.setSeq q v i j).seq o k l = s.seq o k l := by rw [seq_setSeq, if_neg fun x => h x.1.symm]
@[simp] theorem real_setReal_other (s : State) (o q : Obj) (v : Rat) (i j k l : Nat) (h : ¬ o.id = q.id) :
    (s.setReal q v i j).real o k l = s.real o k l := by rw [real_setReal, if_neg fun x => h x.1.symm]
@[simp] theorem now_set_other (s : State) (o : Obj) (v : Int) (i j : Nat) (h : ¬ o.id = Reg.elapsed.id) :
    (s.set o v i j).now = s.now := by
  unfold State.now State.getN; rw [get_set_other _ _ _ _ _ _ _ _ (fun x => h x.symm)]
@[simp] theorem frame_set_other (s : State) (o : Obj) (v : Int) (i j : Nat) (h : ¬ o.id = Obj.frameCounter.id) :
    (s.set o v i j).frame = s.frame := by
  unfold State.frame State.getN; rw [get_set_other _ _ _ _ _ _ _ _ (fun x => h x.symm)]

/-! ### Functions -/

section
variable {o_ : Obj} (q_ : o_.quiet = true)
include q_

@[simp] theorem get_answerWaiting (o : Obj) (i status : Nat) (s : State) (i_ j_ : Nat) :
    (answerWaiting o i status s).get o_ i_ j_ = s.get o_ i_ j_ :=
  get_of_view (view_of_part (answerWaiting_part q_ o i status s)) i_ j_
@[simp] theorem get_unbindChannel (h_ : ¬ o_.id ∈ Footprint.unbindChannel) (ch : Nat) (s : State) (i_ j_ : Nat) :
    (unbindChannel ch s).get o_ i_ j_ = s.get o_ i_ j_ :=
  get_of_view (view_of_part (unbindChannel_part q_ h_ ch s)) i_ j_
@[simp] theorem get_auditEntry (h_ : ¬ o_.id ∈ Footprint.auditEntry) (kind role index sub : Nat) (old new : List Byte) (s : State) (i_ j_ : Nat) :
    (auditEntry kind role index sub old new s).get o_ i_ j_ = s.get o_ i_ j_ :=
  get_of_view (view_of_part (auditEntry_part q_ h_ kind role index sub old new s)) i_ j_
@[simp] theorem get_undirty (h_ : ¬ o_.id ∈ Footprint.undirty) (l : List Key) (s : State) (i_ j_ : Nat) :
    (undirty l s).get o_ i_ j_ = s.get o_ i_ j_ :=
  get_of_view (view_of_part (undirty_part q_ h_ l s)) i_ j_
@[simp] theorem get_endDiscard (h_ : ¬ o_.id ∈ Footprint.endDiscard) (s : State) (i_ j_ : Nat) :
    (endDiscard s).get o_ i_ j_ = s.get o_ i_ j_ :=
  get_of_view (view_of_part (endDiscard_part q_ h_ s)) i_ j_
@[simp] theorem get_state_poolWrite (h_ : ¬ o_.id ∈ Footprint.poolWrite) (s : State) (a : Nat) (d : List Byte) (i_ j_ : Nat) :
    (State.poolWrite s a d).get o_ i_ j_ = s.get o_ i_ j_ :=
  get_of_view (state_poolWrite_view q_ h_ s a d) i_ j_
@[simp] theorem get_state_flashWrite (s : State) (a : Nat) (d : List Byte) (i_ j_ : Nat) :
    (State.flashWrite s a d).get o_ i_ j_ = s.get o_ i_ j_ :=
  get_of_view (state_flashWrite_view q_ s a d) i_ j_
@[simp] theorem get_handBank (h_ : ¬ o_.id ∈ Footprint.handBank) (b : Nat) (code : Int) (s : State) (i_ j_ : Nat) :
    (handBank b code s).get o_ i_ j_ = s.get o_ i_ j_ :=
  get_of_view (view_of_part (handBank_part q_ h_ b code s)) i_ j_
@[simp] theorem get_presetSlot (h_ : ¬ o_.id ∈ Footprint.presetSlot) (i : Nat) (v : Rat) (s : State) (i_ j_ : Nat) :
    (presetSlot i v s).get o_ i_ j_ = s.get o_ i_ j_ :=
  get_of_view (view_of_part (presetSlot_part q_ h_ i v s)) i_ j_
@[simp] theorem get_holdSlot (h_ : ¬ o_.id ∈ Footprint.holdSlot) (i : Nat) (s : State) (i_ j_ : Nat) :
    (holdSlot i s).get o_ i_ j_ = s.get o_ i_ j_ :=
  get_of_view (view_of_part (holdSlot_part q_ h_ i s)) i_ j_
@[simp] theorem get_releaseSlot (h_ : ¬ o_.id ∈ Footprint.releaseSlot) (i : Nat) (s : State) (i_ j_ : Nat) :
    (releaseSlot i s).get o_ i_ j_ = s.get o_ i_ j_ :=
  get_of_view (view_of_part (releaseSlot_part q_ h_ i s)) i_ j_
@[simp] theorem get_holdBlockSlots (h_ : ¬ o_.id ∈ Footprint.holdBlockSlots) (b : Nat) (s : State) (i_ j_ : Nat) :
    (holdBlockSlots b s).get o_ i_ j_ = s.get o_ i_ j_ :=
  get_of_view (view_of_part (holdBlockSlots_part q_ h_ b s)) i_ j_
@[simp] theorem get_releaseBlockSlots (h_ : ¬ o_.id ∈ Footprint.releaseBlockSlots) (b : Nat) (s : State) (i_ j_ : Nat) :
    (releaseBlockSlots b s).get o_ i_ j_ = s.get o_ i_ j_ :=
  get_of_view (view_of_part (releaseBlockSlots_part q_ h_ b s)) i_ j_
@[simp] theorem get_endCapture (h_ : ¬ o_.id ∈ Footprint.endCapture) (shown : Int) (s : State) (i_ j_ : Nat) :
    (endCapture shown s).get o_ i_ j_ = s.get o_ i_ j_ :=
  get_of_view (view_of_part (endCapture_part q_ h_ shown s)) i_ j_
@[simp] theorem get_endInjection (h_ : ¬ o_.id ∈ Footprint.endInjection) (cause : Int) (s : State) (i_ j_ : Nat) :
    (endInjection cause s).get o_ i_ j_ = s.get o_ i_ j_ :=
  get_of_view (view_of_part (endInjection_part q_ h_ cause s)) i_ j_
@[simp] theorem get_endInjectionOfBlock (h_ : ¬ o_.id ∈ Footprint.endInjectionOfBlock) (b : Nat) (cause : Int) (s : State) (i_ j_ : Nat) :
    (endInjectionOfBlock b cause s).get o_ i_ j_ = s.get o_ i_ j_ :=
  get_of_view (view_of_part (endInjectionOfBlock_part q_ h_ b cause s)) i_ j_
@[simp] theorem get_commandReach (h_ : ¬ o_.id ∈ Footprint.commandReach) (b r : Nat) (on : Bool) (s : State) (i_ j_ : Nat) :
    (commandReach b r on s).get o_ i_ j_ = s.get o_ i_ j_ :=
  get_of_view (view_of_part (commandReach_part q_ h_ b r on s)) i_ j_
@[simp] theorem get_openReaches (h_ : ¬ o_.id ∈ Footprint.openReaches) (b : Nat) (s : State) (i_ j_ : Nat) :
    (openReaches b s).get o_ i_ j_ = s.get o_ i_ j_ :=
  get_of_view (view_of_part (openReaches_part q_ h_ b s)) i_ j_
@[simp] theorem get_freeBlock (h_ : ¬ o_.id ∈ Footprint.freeBlock) (b : Nat) (s : State) (i_ j_ : Nat) :
    (freeBlock b s).get o_ i_ j_ = s.get o_ i_ j_ :=
  get_of_view (view_of_part (freeBlock_part q_ h_ b s)) i_ j_
@[simp] theorem get_endMove (h_ : ¬ o_.id ∈ Footprint.endMove) (b : Nat) (s : State) (i_ j_ : Nat) :
    (endMove b s).get o_ i_ j_ = s.get o_ i_ j_ :=
  get_of_view (view_of_part (endMove_part q_ h_ b s)) i_ j_
@[simp] theorem get_abandonMove (h_ : ¬ o_.id ∈ Footprint.abandonMove) (b : Nat) (cause : Int) (s : State) (i_ j_ : Nat) :
    (abandonMove b cause s).get o_ i_ j_ = s.get o_ i_ j_ :=
  get_of_view (view_of_part (abandonMove_part q_ h_ b cause s)) i_ j_
@[simp] theorem get_completeMove (h_ : ¬ o_.id ∈ Footprint.completeMove) (b : Nat) (s : State) (i_ j_ : Nat) :
    (completeMove b s).get o_ i_ j_ = s.get o_ i_ j_ :=
  get_of_view (view_of_part (completeMove_part q_ h_ b s)) i_ j_
@[simp] theorem get_withdrawBlock (h_ : ¬ o_.id ∈ Footprint.withdrawBlock) (b : Nat) (cause : Int) (s : State) (i_ j_ : Nat) :
    (withdrawBlock b cause s).get o_ i_ j_ = s.get o_ i_ j_ :=
  get_of_view (view_of_part (withdrawBlock_part q_ h_ b cause s)) i_ j_
@[simp] theorem get_refreshBlock (h_ : ¬ o_.id ∈ Footprint.refreshBlock) (b : Nat) (s : State) (i_ j_ : Nat) :
    (refreshBlock b s).get o_ i_ j_ = s.get o_ i_ j_ :=
  get_of_view (view_of_part (refreshBlock_part q_ h_ b s)) i_ j_
@[simp] theorem get_setBlock (h_ : ¬ o_.id ∈ Footprint.setBlock) (b : Nat) (st : Int) (s : State) (i_ j_ : Nat) :
    (setBlock b st s).get o_ i_ j_ = s.get o_ i_ j_ :=
  get_of_view (view_of_part (setBlock_part q_ h_ b st s)) i_ j_
@[simp] theorem get_touchActive (h_ : ¬ o_.id ∈ Footprint.touchActive) (b : Nat) (s : State) (i_ j_ : Nat) :
    (touchActive b s).get o_ i_ j_ = s.get o_ i_ j_ :=
  get_of_view (view_of_part (touchActive_part q_ h_ b s)) i_ j_
@[simp] theorem get_setPhase (h_ : ¬ o_.id ∈ Footprint.setPhase) (p : Nat) (st : Int) (s : State) (i_ j_ : Nat) :
    (setPhase p st s).get o_ i_ j_ = s.get o_ i_ j_ :=
  get_of_view (view_of_part (setPhase_part q_ h_ p st s)) i_ j_
@[simp] theorem get_movePhases (h_ : ¬ o_.id ∈ Footprint.movePhases) (b : Nat) (src : List Int) (dst : Int) (s : State) (i_ j_ : Nat) :
    (movePhases b src dst s).get o_ i_ j_ = s.get o_ i_ j_ :=
  get_of_view (view_of_part (movePhases_part q_ h_ b src dst s)) i_ j_
@[simp] theorem get_blockOut (h_ : ¬ o_.id ∈ Footprint.blockOut) (b : Nat) (s : State) (i_ j_ : Nat) :
    (blockOut b s).get o_ i_ j_ = s.get o_ i_ j_ :=
  get_of_view (view_of_part (blockOut_part q_ h_ b s)) i_ j_
@[simp] theorem get_outIfShort (h_ : ¬ o_.id ∈ Footprint.outIfShort) (b : Nat) (s : State) (i_ j_ : Nat) :
    (outIfShort b s).get o_ i_ j_ = s.get o_ i_ j_ :=
  get_of_view (view_of_part (outIfShort_part q_ h_ b s)) i_ j_
@[simp] theorem get_recoverBlock (h_ : ¬ o_.id ∈ Footprint.recoverBlock) (b : Nat) (s : State) (i_ j_ : Nat) :
    (recoverBlock b s).get o_ i_ j_ = s.get o_ i_ j_ :=
  get_of_view (view_of_part (recoverBlock_part q_ h_ b s)) i_ j_
@[simp] theorem get_lockPhase (h_ : ¬ o_.id ∈ Footprint.lockPhase) (p : Nat) (cause : Int) (s : State) (i_ j_ : Nat) :
    (lockPhase p cause s).get o_ i_ j_ = s.get o_ i_ j_ :=
  get_of_view (view_of_part (lockPhase_part q_ h_ p cause s)) i_ j_
@[simp] theorem get_stopBlock (h_ : ¬ o_.id ∈ Footprint.stopBlock) (b : Nat) (s : State) (i_ j_ : Nat) :
    (stopBlock b s).get o_ i_ j_ = s.get o_ i_ j_ :=
  get_of_view (view_of_part (stopBlock_part q_ h_ b s)) i_ j_
@[simp] theorem get_stopAllBlocks (h_ : ¬ o_.id ∈ Footprint.stopAllBlocks) (s : State) (i_ j_ : Nat) :
    (stopAllBlocks s).get o_ i_ j_ = s.get o_ i_ j_ :=
  get_of_view (view_of_part (stopAllBlocks_part q_ h_ s)) i_ j_
@[simp] theorem get_dropBlock (h_ : ¬ o_.id ∈ Footprint.dropBlock) (b : Nat) (s : State) (i_ j_ : Nat) :
    (dropBlock b s).get o_ i_ j_ = s.get o_ i_ j_ :=
  get_of_view (view_of_part (dropBlock_part q_ h_ b s)) i_ j_
@[simp] theorem get_withholdBlock (h_ : ¬ o_.id ∈ Footprint.withholdBlock) (b r : Nat) (cause : Int) (s : State) (i_ j_ : Nat) :
    (withholdBlock b r cause s).get o_ i_ j_ = s.get o_ i_ j_ :=
  get_of_view (view_of_part (withholdBlock_part q_ h_ b r cause s)) i_ j_
@[simp] theorem get_refuseStart (h_ : ¬ o_.id ∈ Footprint.refuseStart) (b : Nat) (cause : Int) (s : State) (i_ j_ : Nat) :
    (refuseStart b cause s).get o_ i_ j_ = s.get o_ i_ j_ :=
  get_of_view (view_of_part (refuseStart_part q_ h_ b cause s)) i_ j_
@[simp] theorem get_beginTest (h_ : ¬ o_.id ∈ Footprint.beginTest) (b : Nat) (s : State) (i_ j_ : Nat) :
    (beginTest b s).get o_ i_ j_ = s.get o_ i_ j_ :=
  get_of_view (view_of_part (beginTest_part q_ h_ b s)) i_ j_
@[simp] theorem get_startBlock (h_ : ¬ o_.id ∈ Footprint.startBlock) (b : Nat) (s : State) (i_ j_ : Nat) :
    (startBlock b s).get o_ i_ j_ = s.get o_ i_ j_ :=
  get_of_view (view_of_part (startBlock_part q_ h_ b s)) i_ j_
@[simp] theorem get_setLatch (h_ : ¬ o_.id ∈ Footprint.setLatch) (n : Nat) (v : Int) (s : State) (i_ j_ : Nat) :
    (setLatch n v s).get o_ i_ j_ = s.get o_ i_ j_ :=
  get_of_view (view_of_part (setLatch_part q_ h_ n v s)) i_ j_
@[simp] theorem get_clearLatch (h_ : ¬ o_.id ∈ Footprint.clearLatch) (n : Nat) (s : State) (i_ j_ : Nat) :
    (clearLatch n s).get o_ i_ j_ = s.get o_ i_ j_ :=
  get_of_view (view_of_part (clearLatch_part q_ h_ n s)) i_ j_
@[simp] theorem get_setLink (h_ : ¬ o_.id ∈ Footprint.setLink) (c : Nat) (st : Int) (s : State) (i_ j_ : Nat) :
    (setLink c st s).get o_ i_ j_ = s.get o_ i_ j_ :=
  get_of_view (view_of_part (setLink_part q_ h_ c st s)) i_ j_
@[simp] theorem get_withdrawCabinet (h_ : ¬ o_.id ∈ Footprint.withdrawCabinet) (c : Nat) (s : State) (i_ j_ : Nat) :
    (withdrawCabinet c s).get o_ i_ j_ = s.get o_ i_ j_ :=
  get_of_view (view_of_part (withdrawCabinet_part q_ h_ c s)) i_ j_
@[simp] theorem get_loseLink (h_ : ¬ o_.id ∈ Footprint.loseLink) (c : Nat) (cause : Int) (s : State) (i_ j_ : Nat) :
    (loseLink c cause s).get o_ i_ j_ = s.get o_ i_ j_ :=
  get_of_view (view_of_part (loseLink_part q_ h_ c cause s)) i_ j_
@[simp] theorem get_refuseLink (h_ : ¬ o_.id ∈ Footprint.refuseLink) (c : Nat) (cause : Int) (s : State) (i_ j_ : Nat) :
    (refuseLink c cause s).get o_ i_ j_ = s.get o_ i_ j_ :=
  get_of_view (view_of_part (refuseLink_part q_ h_ c cause s)) i_ j_
@[simp] theorem get_settleLanes (h_ : ¬ o_.id ∈ Footprint.settleLanes) (c : Nat) (s : State) (i_ j_ : Nat) :
    (settleLanes c s).get o_ i_ j_ = s.get o_ i_ j_ :=
  get_of_view (view_of_part (settleLanes_part q_ h_ c s)) i_ j_
@[simp] theorem get_laneOut (h_ : ¬ o_.id ∈ Footprint.laneOut) (c l : Nat) (s : State) (i_ j_ : Nat) :
    (laneOut c l s).get o_ i_ j_ = s.get o_ i_ j_ :=
  get_of_view (view_of_part (laneOut_part q_ h_ c l s)) i_ j_
@[simp] theorem get_laneBack (h_ : ¬ o_.id ∈ Footprint.laneBack) (c l : Nat) (s : State) (i_ j_ : Nat) :
    (laneBack c l s).get o_ i_ j_ = s.get o_ i_ j_ :=
  get_of_view (view_of_part (laneBack_part q_ h_ c l s)) i_ j_
@[simp] theorem get_eyeScan (h_ : ¬ o_.id ∈ Footprint.eyeScan) (c l ef : Nat) (s : State) (i_ j_ : Nat) :
    (eyeScan c l ef s).get o_ i_ j_ = s.get o_ i_ j_ :=
  get_of_view (view_of_part (eyeScan_part q_ h_ c l ef s)) i_ j_
@[simp] theorem get_launchService (h_ : ¬ o_.id ∈ Footprint.launchService) (c l seq : Nat) (body : List Byte) (s : State) (i_ j_ : Nat) :
    (launchService c l seq body s).get o_ i_ j_ = s.get o_ i_ j_ :=
  get_of_view (view_of_part (launchService_part q_ h_ c l seq body s)) i_ j_
@[simp] theorem get_sendAck (h_ : ¬ o_.id ∈ Footprint.sendAck) (c l : Nat) (s : State) (i_ j_ : Nat) :
    (sendAck c l s).get o_ i_ j_ = s.get o_ i_ j_ :=
  get_of_view (view_of_part (sendAck_part q_ h_ c l s)) i_ j_
@[simp] theorem get_sendService (h_ : ¬ o_.id ∈ Footprint.sendService) (c chan op off : Nat) (payload : List Byte) (s : State) (i_ j_ : Nat) :
    (sendService c chan op off payload s).get o_ i_ j_ = s.get o_ i_ j_ :=
  get_of_view (view_of_part (sendService_part q_ h_ c chan op off payload s)) i_ j_
@[simp] theorem get_pumpService (h_ : ¬ o_.id ∈ Footprint.pumpService) (c : Nat) (n_ : Nat) (s_ : State) (i_ j_ : Nat) :
    (pumpService c n_ s_).get o_ i_ j_ = s_.get o_ i_ j_ :=
  get_of_view (view_of_part (pumpService_part q_ h_ c n_ s_)) i_ j_
@[simp] theorem get_sendInPieces (h_ : ¬ o_.id ∈ Footprint.sendInPieces) (c chan off : Nat) (d : List Byte) (s : State) (i_ j_ : Nat) :
    (sendInPieces c chan off d s).get o_ i_ j_ = s.get o_ i_ j_ :=
  get_of_view (view_of_part (sendInPieces_part q_ h_ c chan off d s)) i_ j_
@[simp] theorem get_takeService (h_ : ¬ o_.id ∈ Footprint.takeService) (c l : Nat) (b : List Byte) (s : State) (i_ j_ : Nat) :
    (takeService c l b s).get o_ i_ j_ = s.get o_ i_ j_ :=
  get_of_view (view_of_part (takeService_part q_ h_ c l b s)) i_ j_
@[simp] theorem get_crcFailed (h_ : ¬ o_.id ∈ Footprint.crcFailed) (c l : Nat) (s : State) (i_ j_ : Nat) :
    (crcFailed c l s).get o_ i_ j_ = s.get o_ i_ j_ :=
  get_of_view (view_of_part (crcFailed_part q_ h_ c l s)) i_ j_
@[simp] theorem get_failService (h_ : ¬ o_.id ∈ Footprint.failService) (c l : Nat) (s : State) (i_ j_ : Nat) :
    (failService c l s).get o_ i_ j_ = s.get o_ i_ j_ :=
  get_of_view (view_of_part (failService_part q_ h_ c l s)) i_ j_
@[simp] theorem get_storeTelemetry (h_ : ¬ o_.id ∈ Footprint.storeTelemetry) (c : Nat) (b : List Byte) (s : State) (i_ j_ : Nat) :
    (storeTelemetry c b s).get o_ i_ j_ = s.get o_ i_ j_ :=
  get_of_view (view_of_part (storeTelemetry_part q_ h_ c b s)) i_ j_
@[simp] theorem get_countDrops (h_ : ¬ o_.id ∈ Footprint.countDrops) (c : Nat) (b : List Byte) (s : State) (i_ j_ : Nat) :
    (countDrops c b s).get o_ i_ j_ = s.get o_ i_ j_ :=
  get_of_view (view_of_part (countDrops_part q_ h_ c b s)) i_ j_
@[simp] theorem get_countDownCrc (h_ : ¬ o_.id ∈ Footprint.countDownCrc) (c : Nat) (b : List Byte) (s : State) (i_ j_ : Nat) :
    (countDownCrc c b s).get o_ i_ j_ = s.get o_ i_ j_ :=
  get_of_view (view_of_part (countDownCrc_part q_ h_ c b s)) i_ j_
@[simp] theorem get_linkRun (h_ : ¬ o_.id ∈ Footprint.linkRun) (c : Nat) (s : State) (i_ j_ : Nat) :
    (linkRun c s).get o_ i_ j_ = s.get o_ i_ j_ :=
  get_of_view (view_of_part (linkRun_part q_ h_ c s)) i_ j_
@[simp] theorem get_takeTelemetry (h_ : ¬ o_.id ∈ Footprint.takeTelemetry) (c : Nat) (b : List Byte) (s : State) (i_ j_ : Nat) :
    (takeTelemetry c b s).get o_ i_ j_ = s.get o_ i_ j_ :=
  get_of_view (view_of_part (takeTelemetry_part q_ h_ c b s)) i_ j_
@[simp] theorem get_bringUp (h_ : ¬ o_.id ∈ Footprint.bringUp) (c : Nat) (s : State) (i_ j_ : Nat) :
    (bringUp c s).get o_ i_ j_ = s.get o_ i_ j_ :=
  get_of_view (view_of_part (bringUp_part q_ h_ c s)) i_ j_
@[simp] theorem get_takeTraining (h_ : ¬ o_.id ∈ Footprint.takeTraining) (c : Nat) (arrival : Nat) (b : List Byte) (s : State) (i_ j_ : Nat) :
    (takeTraining c arrival b s).get o_ i_ j_ = s.get o_ i_ j_ :=
  get_of_view (view_of_part (takeTraining_part q_ h_ c arrival b s)) i_ j_
@[simp] theorem get_storeIdentity (h_ : ¬ o_.id ∈ Footprint.storeIdentity) (c : Nat) (b : List Byte) (s : State) (i_ j_ : Nat) :
    (storeIdentity c b s).get o_ i_ j_ = s.get o_ i_ j_ :=
  get_of_view (view_of_part (storeIdentity_part q_ h_ c b s)) i_ j_
@[simp] theorem get_enterInrush (h_ : ¬ o_.id ∈ Footprint.enterInrush) (c : Nat) (s : State) (i_ j_ : Nat) :
    (enterInrush c s).get o_ i_ j_ = s.get o_ i_ j_ :=
  get_of_view (view_of_part (enterInrush_part q_ h_ c s)) i_ j_
@[simp] theorem get_tryTurnOn (h_ : ¬ o_.id ∈ Footprint.tryTurnOn) (c : Nat) (s : State) (i_ j_ : Nat) :
    (tryTurnOn c s).get o_ i_ j_ = s.get o_ i_ j_ :=
  get_of_view (view_of_part (tryTurnOn_part q_ h_ c s)) i_ j_
@[simp] theorem get_commandChannel (h_ : ¬ o_.id ∈ Footprint.commandChannel) (c : Nat) (v : Int) (s : State) (i_ j_ : Nat) :
    (commandChannel c v s).get o_ i_ j_ = s.get o_ i_ j_ :=
  get_of_view (view_of_part (commandChannel_part q_ h_ c v s)) i_ j_
@[simp] theorem get_latchChannel (h_ : ¬ o_.id ∈ Footprint.latchChannel) (c : Nat) (st cause : Int) (s : State) (i_ j_ : Nat) :
    (latchChannel c st cause s).get o_ i_ j_ = s.get o_ i_ j_ :=
  get_of_view (view_of_part (latchChannel_part q_ h_ c st cause s)) i_ j_
@[simp] theorem get_supplyOff (h_ : ¬ o_.id ∈ Footprint.supplyOff) (c : Nat) (bit : Nat) (s : State) (i_ j_ : Nat) :
    (supplyOff c bit s).get o_ i_ j_ = s.get o_ i_ j_ :=
  get_of_view (view_of_part (supplyOff_part q_ h_ c bit s)) i_ j_
@[simp] theorem get_supplyBack (h_ : ¬ o_.id ∈ Footprint.supplyBack) (c : Nat) (bit : Nat) (s : State) (i_ j_ : Nat) :
    (supplyBack c bit s).get o_ i_ j_ = s.get o_ i_ j_ :=
  get_of_view (view_of_part (supplyBack_part q_ h_ c bit s)) i_ j_
@[simp] theorem get_commandCoils (h_ : ¬ o_.id ∈ Footprint.commandCoils) (n : Nat) (plus minus : Bool) (s : State) (i_ j_ : Nat) :
    (commandCoils n plus minus s).get o_ i_ j_ = s.get o_ i_ j_ :=
  get_of_view (view_of_part (commandCoils_part q_ h_ n plus minus s)) i_ j_
@[simp] theorem get_respond (n code : Nat) (vals : List Int) (s : State) (i_ j_ : Nat) :
    (respond n code vals s).get o_ i_ j_ = s.get o_ i_ j_ :=
  get_of_view (view_of_part (respond_part q_ n code vals s)) i_ j_
@[simp] theorem get_noteRoom (s : State) (i_ j_ : Nat) :
    (noteRoom s).get o_ i_ j_ = s.get o_ i_ j_ :=
  get_of_view (view_of_part (noteRoom_part q_ s)) i_ j_
@[simp] theorem get_setContext (h_ : ¬ o_.id ∈ Footprint.setContext) (c : Nat) (st : Int) (s : State) (i_ j_ : Nat) :
    (setContext c st s).get o_ i_ j_ = s.get o_ i_ j_ :=
  get_of_view (view_of_part (setContext_part q_ h_ c st s)) i_ j_
@[simp] theorem get_takeSerial (h_ : ¬ o_.id ∈ Footprint.takeSerial) (c : Nat) (s : State) (i_ j_ : Nat) :
    (takeSerial c s).get o_ i_ j_ = s.get o_ i_ j_ :=
  get_of_view (view_of_part (takeSerial_part q_ h_ c s)) i_ j_
@[simp] theorem get_dropContext (h_ : ¬ o_.id ∈ Footprint.dropContext) (c : Nat) (reason : Int) (s : State) (i_ j_ : Nat) :
    (dropContext c reason s).get o_ i_ j_ = s.get o_ i_ j_ :=
  get_of_view (view_of_part (dropContext_part q_ h_ c reason s)) i_ j_
@[simp] theorem get_takeStart (h_ : ¬ o_.id ∈ Footprint.takeStart) (c n : Nat) (s : State) (i_ j_ : Nat) :
    (takeStart c n s).get o_ i_ j_ = s.get o_ i_ j_ :=
  get_of_view (view_of_part (takeStart_part q_ h_ c n s)) i_ j_
@[simp] theorem get_takeStop (h_ : ¬ o_.id ∈ Footprint.takeStop) (c n : Nat) (s : State) (i_ j_ : Nat) :
    (takeStop c n s).get o_ i_ j_ = s.get o_ i_ j_ :=
  get_of_view (view_of_part (takeStop_part q_ h_ c n s)) i_ j_
@[simp] theorem get_takeBoth (h_ : ¬ o_.id ∈ Footprint.takeBoth) (c n : Nat) (s : State) (i_ j_ : Nat) :
    (takeBoth c n s).get o_ i_ j_ = s.get o_ i_ j_ :=
  get_of_view (view_of_part (takeBoth_part q_ h_ c n s)) i_ j_
@[simp] theorem get_endContext (h_ : ¬ o_.id ∈ Footprint.endContext) (n : Nat) (s : State) (i_ j_ : Nat) :
    (endContext n s).get o_ i_ j_ = s.get o_ i_ j_ :=
  get_of_view (view_of_part (endContext_part q_ h_ n s)) i_ j_
@[simp] theorem get_drivePilot (h_ : ¬ o_.id ∈ Footprint.drivePilot) (n : Nat) (s : State) (i_ j_ : Nat) :
    (drivePilot n s).get o_ i_ j_ = s.get o_ i_ j_ :=
  get_of_view (view_of_part (drivePilot_part q_ h_ n s)) i_ j_
@[simp] theorem get_refreshAvail (h_ : ¬ o_.id ∈ Footprint.refreshAvail) (n : Nat) (s : State) (i_ j_ : Nat) :
    (refreshAvail n s).get o_ i_ j_ = s.get o_ i_ j_ :=
  get_of_view (view_of_part (refreshAvail_part q_ h_ n s)) i_ j_
@[simp] theorem get_refreshAll (h_ : ¬ o_.id ∈ Footprint.refreshAll) (s : State) (i_ j_ : Nat) :
    (refreshAll s).get o_ i_ j_ = s.get o_ i_ j_ :=
  get_of_view (view_of_part (refreshAll_part q_ h_ s)) i_ j_
@[simp] theorem get_setOutlet (h_ : ¬ o_.id ∈ Footprint.setOutlet) (n : Nat) (st : Int) (s : State) (i_ j_ : Nat) :
    (setOutlet n st s).get o_ i_ j_ = s.get o_ i_ j_ :=
  get_of_view (view_of_part (setOutlet_part q_ h_ n st s)) i_ j_
@[simp] theorem get_applyRamp (h_ : ¬ o_.id ∈ Footprint.applyRamp) (n : Nat) (s : State) (i_ j_ : Nat) :
    (applyRamp n s).get o_ i_ j_ = s.get o_ i_ j_ :=
  get_of_view (view_of_part (applyRamp_part q_ h_ n s)) i_ j_
@[simp] theorem get_startRamp (h_ : ¬ o_.id ∈ Footprint.startRamp) (n : Nat) (dest frames : Int) (s : State) (i_ j_ : Nat) :
    (startRamp n dest frames s).get o_ i_ j_ = s.get o_ i_ j_ :=
  get_of_view (view_of_part (startRamp_part q_ h_ n dest frames s)) i_ j_
@[simp] theorem get_setRamp (h_ : ¬ o_.id ∈ Footprint.setRamp) (n : Nat) (v : Int) (s : State) (i_ j_ : Nat) :
    (setRamp n v s).get o_ i_ j_ = s.get o_ i_ j_ :=
  get_of_view (view_of_part (setRamp_part q_ h_ n v s)) i_ j_
@[simp] theorem get_commandContactors (h_ : ¬ o_.id ∈ Footprint.commandContactors) (n : Nat) (plus minus : Bool) (s : State) (i_ j_ : Nat) :
    (commandContactors n plus minus s).get o_ i_ j_ = s.get o_ i_ j_ :=
  get_of_view (view_of_part (commandContactors_part q_ h_ n plus minus s)) i_ j_
@[simp] theorem get_releaseBlocks (h_ : ¬ o_.id ∈ Footprint.releaseBlocks) (n : Nat) (s : State) (i_ j_ : Nat) :
    (releaseBlocks n s).get o_ i_ j_ = s.get o_ i_ j_ :=
  get_of_view (view_of_part (releaseBlocks_part q_ h_ n s)) i_ j_
@[simp] theorem get_closeLink (h_ : ¬ o_.id ∈ Footprint.closeLink) (n : Nat) (s : State) (i_ j_ : Nat) :
    (closeLink n s).get o_ i_ j_ = s.get o_ i_ j_ :=
  get_of_view (view_of_part (closeLink_part q_ h_ n s)) i_ j_
@[simp] theorem get_toClosing (h_ : ¬ o_.id ∈ Footprint.toClosing) (n : Nat) (s : State) (i_ j_ : Nat) :
    (toClosing n s).get o_ i_ j_ = s.get o_ i_ j_ :=
  get_of_view (view_of_part (toClosing_part q_ h_ n s)) i_ j_
@[simp] theorem get_recordCause (h_ : ¬ o_.id ∈ Footprint.recordCause) (n : Nat) (kind cause : Int) (s : State) (i_ j_ : Nat) :
    (recordCause n kind cause s).get o_ i_ j_ = s.get o_ i_ j_ :=
  get_of_view (view_of_part (recordCause_part q_ h_ n kind cause s)) i_ j_
@[simp] theorem get_closeEarly (h_ : ¬ o_.id ∈ Footprint.closeEarly) (n : Nat) (kind cause : Int) (s : State) (i_ j_ : Nat) :
    (closeEarly n kind cause s).get o_ i_ j_ = s.get o_ i_ j_ :=
  get_of_view (view_of_part (closeEarly_part q_ h_ n kind cause s)) i_ j_
@[simp] theorem get_toWeldCheck (h_ : ¬ o_.id ∈ Footprint.toWeldCheck) (n : Nat) (s : State) (i_ j_ : Nat) :
    (toWeldCheck n s).get o_ i_ j_ = s.get o_ i_ j_ :=
  get_of_view (view_of_part (toWeldCheck_part q_ h_ n s)) i_ j_
@[simp] theorem get_normalStop (h_ : ¬ o_.id ∈ Footprint.normalStop) (n : Nat) (cause : Int) (s : State) (i_ j_ : Nat) :
    (normalStop n cause s).get o_ i_ j_ = s.get o_ i_ j_ :=
  get_of_view (view_of_part (normalStop_part q_ h_ n cause s)) i_ j_
@[simp] theorem get_openContactors (h_ : ¬ o_.id ∈ Footprint.openContactors) (n : Nat) (forced : Bool) (s : State) (i_ j_ : Nat) :
    (openContactors n forced s).get o_ i_ j_ = s.get o_ i_ j_ :=
  get_of_view (view_of_part (openContactors_part q_ h_ n forced s)) i_ j_
@[simp] theorem get_emergencyStop (h_ : ¬ o_.id ∈ Footprint.emergencyStop) (n : Nat) (cause : Int) (s : State) (i_ j_ : Nat) :
    (emergencyStop n cause s).get o_ i_ j_ = s.get o_ i_ j_ :=
  get_of_view (view_of_part (emergencyStop_part q_ h_ n cause s)) i_ j_
@[simp] theorem get_hardwareStop (h_ : ¬ o_.id ∈ Footprint.hardwareStop) (n : Nat) (cause : Int) (s : State) (i_ j_ : Nat) :
    (hardwareStop n cause s).get o_ i_ j_ = s.get o_ i_ j_ :=
  get_of_view (view_of_part (hardwareStop_part q_ h_ n cause s)) i_ j_
@[simp] theorem get_weldLeft (h_ : ¬ o_.id ∈ Footprint.weldLeft) (n : Nat) (s : State) (i_ j_ : Nat) :
    (weldLeft n s).get o_ i_ j_ = s.get o_ i_ j_ :=
  get_of_view (view_of_part (weldLeft_part q_ h_ n s)) i_ j_
@[simp] theorem get_outletFault (h_ : ¬ o_.id ∈ Footprint.outletFault) (n : Nat) (cause : Int) (marked : Bool) (s : State) (i_ j_ : Nat) :
    (outletFault n cause marked s).get o_ i_ j_ = s.get o_ i_ j_ :=
  get_of_view (view_of_part (outletFault_part q_ h_ n cause marked s)) i_ j_
@[simp] theorem get_tryIdle (h_ : ¬ o_.id ∈ Footprint.tryIdle) (n : Nat) (s : State) (i_ j_ : Nat) :
    (tryIdle n s).get o_ i_ j_ = s.get o_ i_ j_ :=
  get_of_view (view_of_part (tryIdle_part q_ h_ n s)) i_ j_
@[simp] theorem get_tryConnect (h_ : ¬ o_.id ∈ Footprint.tryConnect) (n : Nat) (s : State) (i_ j_ : Nat) :
    (tryConnect n s).get o_ i_ j_ = s.get o_ i_ j_ :=
  get_of_view (view_of_part (tryConnect_part q_ h_ n s)) i_ j_
@[simp] theorem get_outletFrame (h_ : ¬ o_.id ∈ Footprint.outletFrame) (n : Nat) (s : State) (i_ j_ : Nat) :
    (outletFrame n s).get o_ i_ j_ = s.get o_ i_ j_ :=
  get_of_view (view_of_part (outletFrame_part q_ h_ n s)) i_ j_
@[simp] theorem get_sendLease (h_ : ¬ o_.id ∈ Footprint.sendLease) (op : Nat) (frame : Int) (s : State) (i_ j_ : Nat) :
    (sendLease op frame s).get o_ i_ j_ = s.get o_ i_ j_ :=
  get_of_view (view_of_part (sendLease_part q_ h_ op frame s)) i_ j_
@[simp] theorem get_setRole (h_ : ¬ o_.id ∈ Footprint.setRole) (v : Int) (s : State) (i_ j_ : Nat) :
    (setRole v s).get o_ i_ j_ = s.get o_ i_ j_ :=
  get_of_view (view_of_part (setRole_part q_ h_ v s)) i_ j_
@[simp] theorem get_channelsOff (h_ : ¬ o_.id ∈ Footprint.channelsOff) (s : State) (i_ j_ : Nat) :
    (channelsOff s).get o_ i_ j_ = s.get o_ i_ j_ :=
  get_of_view (view_of_part (channelsOff_part q_ h_ s)) i_ j_
@[simp] theorem get_channelsFollow (h_ : ¬ o_.id ∈ Footprint.channelsFollow) (s : State) (i_ j_ : Nat) :
    (channelsFollow s).get o_ i_ j_ = s.get o_ i_ j_ :=
  get_of_view (view_of_part (channelsFollow_part q_ h_ s)) i_ j_
@[simp] theorem get_unpair (h_ : ¬ o_.id ∈ Footprint.unpair) (cause : Int) (s : State) (i_ j_ : Nat) :
    (unpair cause s).get o_ i_ j_ = s.get o_ i_ j_ :=
  get_of_view (view_of_part (unpair_part q_ h_ cause s)) i_ j_
@[simp] theorem get_fence (h_ : ¬ o_.id ∈ Footprint.fence) (s : State) (i_ j_ : Nat) :
    (fence s).get o_ i_ j_ = s.get o_ i_ j_ :=
  get_of_view (view_of_part (fence_part q_ h_ s)) i_ j_
@[simp] theorem get_takeToken (h_ : ¬ o_.id ∈ Footprint.takeToken) (cause : Int) (s : State) (i_ j_ : Nat) :
    (takeToken cause s).get o_ i_ j_ = s.get o_ i_ j_ :=
  get_of_view (view_of_part (takeToken_part q_ h_ cause s)) i_ j_
@[simp] theorem get_healthItem (h_ : ¬ o_.id ∈ Footprint.healthItem) (code el : Nat) (s : State) (i_ j_ : Nat) :
    (healthItem code el s).get o_ i_ j_ = s.get o_ i_ j_ :=
  get_of_view (view_of_part (healthItem_part q_ h_ code el s)) i_ j_
@[simp] theorem get_captureSample (h_ : ¬ o_.id ∈ Footprint.captureSample) (s : State) (i_ j_ : Nat) :
    (captureSample s).get o_ i_ j_ = s.get o_ i_ j_ :=
  get_of_view (captureSample_view q_ h_ s) i_ j_
@[simp] theorem get_evaluateSlot (h_ : ¬ o_.id ∈ Footprint.evaluateSlot) (i : Nat) (kids : List Nat) (extra : Int) (s : State) (i_ j_ : Nat) :
    (evaluateSlot i kids extra s).get o_ i_ j_ = s.get o_ i_ j_ :=
  get_of_view (evaluateSlot_view q_ h_ i kids extra s) i_ j_
@[simp] theorem get_issueSlot (h_ : ¬ o_.id ∈ Footprint.issueSlot) (kids mism again late : List Nat) (i : Nat) (s : State) (i_ j_ : Nat) :
    (issueSlot kids mism again late i s).get o_ i_ j_ = s.get o_ i_ j_ :=
  get_of_view (issueSlot_view q_ h_ kids mism again late i s) i_ j_
@[simp] theorem get_judgeMismatches (h_ : ¬ o_.id ∈ Footprint.judgeMismatches) (due mism again : List Nat) (s : State) (i_ j_ : Nat) :
    (judgeMismatches due mism again s).get o_ i_ j_ = s.get o_ i_ j_ :=
  get_of_view (view_of_part (judgeMismatches_part q_ h_ due mism again s)) i_ j_
@[simp] theorem get_judgeShorts (h_ : ¬ o_.id ∈ Footprint.judgeShorts) (b : Nat) (s : State) (i_ j_ : Nat) :
    (judgeShorts b s).get o_ i_ j_ = s.get o_ i_ j_ :=
  get_of_view (view_of_part (judgeShorts_part q_ h_ b s)) i_ j_
@[simp] theorem get_rampOn (h_ : ¬ o_.id ∈ Footprint.rampOn) (b : Nat) (s : State) (i_ j_ : Nat) :
    (rampOn b s).get o_ i_ j_ = s.get o_ i_ j_ :=
  get_of_view (view_of_part (rampOn_part q_ h_ b s)) i_ j_
@[simp] theorem get_joinRuns (h_ : ¬ o_.id ∈ Footprint.joinRuns) (b : Nat) (s : State) (i_ j_ : Nat) :
    (joinRuns b s).get o_ i_ j_ = s.get o_ i_ j_ :=
  get_of_view (view_of_part (joinRuns_part q_ h_ b s)) i_ j_
@[simp] theorem get_endShedding (h_ : ¬ o_.id ∈ Footprint.endShedding) (b : Nat) (cause : Int) (s : State) (i_ j_ : Nat) :
    (endShedding b cause s).get o_ i_ j_ = s.get o_ i_ j_ :=
  get_of_view (view_of_part (endShedding_part q_ h_ b cause s)) i_ j_
@[simp] theorem get_judgeShedding (h_ : ¬ o_.id ∈ Footprint.judgeShedding) (b : Nat) (s : State) (i_ j_ : Nat) :
    (judgeShedding b s).get o_ i_ j_ = s.get o_ i_ j_ :=
  get_of_view (view_of_part (judgeShedding_part q_ h_ b s)) i_ j_
@[simp] theorem get_pilotFault (h_ : ¬ o_.id ∈ Footprint.pilotFault) (n : Nat) (s : State) (i_ j_ : Nat) :
    (pilotFault n s).get o_ i_ j_ = s.get o_ i_ j_ :=
  get_of_view (view_of_part (pilotFault_part q_ h_ n s)) i_ j_
@[simp] theorem get_pilotTo (h_ : ¬ o_.id ∈ Footprint.pilotTo) (n : Nat) (p : Int) (s : State) (i_ j_ : Nat) :
    (pilotTo n p s).get o_ i_ j_ = s.get o_ i_ j_ :=
  get_of_view (view_of_part (pilotTo_part q_ h_ n p s)) i_ j_
@[simp] theorem get_takePilot (h_ : ¬ o_.id ∈ Footprint.takePilot) (n : Nat) (l : List (Int × Int)) (s : State) (i_ j_ : Nat) :
    (takePilot n l s).get o_ i_ j_ = s.get o_ i_ j_ :=
  get_of_view (view_of_part (takePilot_part q_ h_ n l s)) i_ j_
@[simp] theorem get_takeProximity (h_ : ¬ o_.id ∈ Footprint.takeProximity) (n : Nat) (l : List Nat) (s : State) (i_ j_ : Nat) :
    (takeProximity n l s).get o_ i_ j_ = s.get o_ i_ j_ :=
  get_of_view (view_of_part (takeProximity_part q_ h_ n l s)) i_ j_
@[simp] theorem get_takeHvil (h_ : ¬ o_.id ∈ Footprint.takeHvil) (n : Nat) (l : List Nat) (s : State) (i_ j_ : Nat) :
    (takeHvil n l s).get o_ i_ j_ = s.get o_ i_ j_ :=
  get_of_view (view_of_part (takeHvil_part q_ h_ n l s)) i_ j_
@[simp] theorem get_feedbackFault (h_ : ¬ o_.id ∈ Footprint.feedbackFault) (n : Nat) (fb : Nat) (s : State) (i_ j_ : Nat) :
    (feedbackFault n fb s).get o_ i_ j_ = s.get o_ i_ j_ :=
  get_of_view (view_of_part (feedbackFault_part q_ h_ n fb s)) i_ j_
@[simp] theorem get_feedbackAgrees (h_ : ¬ o_.id ∈ Footprint.feedbackAgrees) (n : Nat) (s : State) (i_ j_ : Nat) :
    (feedbackAgrees n s).get o_ i_ j_ = s.get o_ i_ j_ :=
  get_of_view (view_of_part (feedbackAgrees_part q_ h_ n s)) i_ j_
@[simp] theorem get_arbitrate (h_ : ¬ o_.id ∈ Footprint.arbitrate) (runId : Nat) (heard : List (Nat × Nat)) (s : State) (i_ j_ : Nat) :
    (arbitrate runId heard s).get o_ i_ j_ = s.get o_ i_ j_ :=
  get_of_view (view_of_part (arbitrate_part q_ h_ runId heard s)) i_ j_
@[simp] theorem get_authoriseOutlet (h_ : ¬ o_.id ∈ Footprint.authoriseOutlet) (n c : Nat) (s : State) (i_ j_ : Nat) :
    (authoriseOutlet n c s).get o_ i_ j_ = s.get o_ i_ j_ :=
  get_of_view (view_of_part (authoriseOutlet_part q_ h_ n c s)) i_ j_
@[simp] theorem get_refuseSession (h_ : ¬ o_.id ∈ Footprint.refuseSession) (n : Nat) (cause : Int) (s : State) (i_ j_ : Nat) :
    (refuseSession n cause s).get o_ i_ j_ = s.get o_ i_ j_ :=
  get_of_view (view_of_part (refuseSession_part q_ h_ n cause s)) i_ j_
@[simp] theorem get_bindContext (h_ : ¬ o_.id ∈ Footprint.bindContext) (n c : Nat) (contract : Bool) (evccid emaid : List Byte) (s : State) (i_ j_ : Nat) :
    (bindContext n c contract evccid emaid s).get o_ i_ j_ = s.get o_ i_ j_ :=
  get_of_view (view_of_part (bindContext_part q_ h_ n c contract evccid emaid s)) i_ j_
@[simp] theorem get_identified (h_ : ¬ o_.id ∈ Footprint.identified) (n : Nat) (contract good : Bool) (evccid emaid : List Byte) (s : State) (i_ j_ : Nat) :
    (identified n contract good evccid emaid s).get o_ i_ j_ = s.get o_ i_ j_ :=
  get_of_view (view_of_part (identified_part q_ h_ n contract good evccid emaid s)) i_ j_
@[simp] theorem get_contextWritten (h_ : ¬ o_.id ∈ Footprint.contextWritten) (c : Nat) (s : State) (i_ j_ : Nat) :
    (contextWritten c s).get o_ i_ j_ = s.get o_ i_ j_ :=
  get_of_view (view_of_part (contextWritten_part q_ h_ c s)) i_ j_
@[simp] theorem get_imdSend (h_ : ¬ o_.id ∈ Footprint.imdSend) (n : Nat) (cmd volts : Int) (s : State) (i_ j_ : Nat) :
    (imdSend n cmd volts s).get o_ i_ j_ = s.get o_ i_ j_ :=
  get_of_view (view_of_part (imdSend_part q_ h_ n cmd volts s)) i_ j_
@[simp] theorem get_tryCloseContactors (h_ : ¬ o_.id ∈ Footprint.tryCloseContactors) (n : Nat) (s : State) (i_ j_ : Nat) :
    (tryCloseContactors n s).get o_ i_ j_ = s.get o_ i_ j_ :=
  get_of_view (view_of_part (tryCloseContactors_part q_ h_ n s)) i_ j_
@[simp] theorem get_cableCheckFails (h_ : ¬ o_.id ∈ Footprint.cableCheckFails) (n : Nat) (cause : Int) (s : State) (i_ j_ : Nat) :
    (cableCheckFails n cause s).get o_ i_ j_ = s.get o_ i_ j_ :=
  get_of_view (view_of_part (cableCheckFails_part q_ h_ n cause s)) i_ j_
@[simp] theorem get_judgeInsulation (h_ : ¬ o_.id ∈ Footprint.judgeInsulation) (n : Nat) (s : State) (i_ j_ : Nat) :
    (judgeInsulation n s).get o_ i_ j_ = s.get o_ i_ j_ :=
  get_of_view (view_of_part (judgeInsulation_part q_ h_ n s)) i_ j_
@[simp] theorem get_imdSilence (h_ : ¬ o_.id ∈ Footprint.imdSilence) (n : Nat) (s : State) (i_ j_ : Nat) :
    (imdSilence n s).get o_ i_ j_ = s.get o_ i_ j_ :=
  get_of_view (view_of_part (imdSilence_part q_ h_ n s)) i_ j_
@[simp] theorem get_takeImd (h_ : ¬ o_.id ∈ Footprint.takeImd) (n : Nat) (f : List Byte) (s : State) (i_ j_ : Nat) :
    (takeImd n f s).get o_ i_ j_ = s.get o_ i_ j_ :=
  get_of_view (view_of_part (takeImd_part q_ h_ n f s)) i_ j_
@[simp] theorem get_demandResponse (n : Nat) (s : State) (i_ j_ : Nat) :
    (demandResponse n s).get o_ i_ j_ = s.get o_ i_ j_ :=
  get_of_view (view_of_part (demandResponse_part q_ n s)) i_ j_
@[simp] theorem get_currentDemand (h_ : ¬ o_.id ∈ Footprint.currentDemand) (n : Nat) (tv ti mv mi soc err : Nat) (marked : Bool) (s : State) (i_ j_ : Nat) :
    (currentDemand n tv ti mv mi soc err marked s).get o_ i_ j_ = s.get o_ i_ j_ :=
  get_of_view (view_of_part (currentDemand_part q_ h_ n tv ti mv mi soc err marked s)) i_ j_
@[simp] theorem get_vehicleStop (h_ : ¬ o_.id ∈ Footprint.vehicleStop) (n : Nat) (s : State) (i_ j_ : Nat) :
    (vehicleStop n s).get o_ i_ j_ = s.get o_ i_ j_ :=
  get_of_view (view_of_part (vehicleStop_part q_ h_ n s)) i_ j_
@[simp] theorem get_currentGone (h_ : ¬ o_.id ∈ Footprint.currentGone) (n : Nat) (s : State) (i_ j_ : Nat) :
    (currentGone n s).get o_ i_ j_ = s.get o_ i_ j_ :=
  get_of_view (view_of_part (currentGone_part q_ h_ n s)) i_ j_
@[simp] theorem get_stopOverdue (h_ : ¬ o_.id ∈ Footprint.stopOverdue) (n : Nat) (s : State) (i_ j_ : Nat) :
    (stopOverdue n s).get o_ i_ j_ = s.get o_ i_ j_ :=
  get_of_view (view_of_part (stopOverdue_part q_ h_ n s)) i_ j_
@[simp] theorem get_beginWeldHalf (h_ : ¬ o_.id ∈ Footprint.beginWeldHalf) (n : Nat) (half : Int) (s : State) (i_ j_ : Nat) :
    (beginWeldHalf n half s).get o_ i_ j_ = s.get o_ i_ j_ :=
  get_of_view (view_of_part (beginWeldHalf_part q_ h_ n half s)) i_ j_
@[simp] theorem get_tryWeldTest (h_ : ¬ o_.id ∈ Footprint.tryWeldTest) (n : Nat) (s : State) (i_ j_ : Nat) :
    (tryWeldTest n s).get o_ i_ j_ = s.get o_ i_ j_ :=
  get_of_view (view_of_part (tryWeldTest_part q_ h_ n s)) i_ j_
@[simp] theorem get_weldTick (h_ : ¬ o_.id ∈ Footprint.weldTick) (n : Nat) (s : State) (i_ j_ : Nat) :
    (weldTick n s).get o_ i_ j_ = s.get o_ i_ j_ :=
  get_of_view (view_of_part (weldTick_part q_ h_ n s)) i_ j_
@[simp] theorem get_weldAgain (h_ : ¬ o_.id ∈ Footprint.weldAgain) (n : Nat) (s : State) (i_ j_ : Nat) :
    (weldAgain n s).get o_ i_ j_ = s.get o_ i_ j_ :=
  get_of_view (view_of_part (weldAgain_part q_ h_ n s)) i_ j_
@[simp] theorem get_endWeldTest (h_ : ¬ o_.id ∈ Footprint.endWeldTest) (n : Nat) (s : State) (i_ j_ : Nat) :
    (endWeldTest n s).get o_ i_ j_ = s.get o_ i_ j_ :=
  get_of_view (view_of_part (endWeldTest_part q_ h_ n s)) i_ j_
@[simp] theorem get_vehicleRequest (h_ : ¬ o_.id ∈ Footprint.vehicleRequest) (n kind mv mi tv soc : Nat) (s : State) (i_ j_ : Nat) :
    (vehicleRequest n kind mv mi tv soc s).get o_ i_ j_ = s.get o_ i_ j_ :=
  get_of_view (view_of_part (vehicleRequest_part q_ h_ n kind mv mi tv soc s)) i_ j_
@[simp] theorem get_settleTelemetry (h_ : ¬ o_.id ∈ Footprint.settleTelemetry) (c : Nat) (s : State) (i_ j_ : Nat) :
    (settleTelemetry c s).get o_ i_ j_ = s.get o_ i_ j_ :=
  get_of_view (view_of_part (settleTelemetry_part q_ h_ c s)) i_ j_
@[simp] theorem get_settleLane (h_ : ¬ o_.id ∈ Footprint.settleLane) (c l : Nat) (s : State) (i_ j_ : Nat) :
    (settleLane c l s).get o_ i_ j_ = s.get o_ i_ j_ :=
  get_of_view (view_of_part (settleLane_part q_ h_ c l s)) i_ j_
@[simp] theorem get_judgeLatch (h_ : ¬ o_.id ∈ Footprint.judgeLatch) (n : Nat) (s : State) (i_ j_ : Nat) :
    (judgeLatch n s).get o_ i_ j_ = s.get o_ i_ j_ :=
  get_of_view (view_of_part (judgeLatch_part q_ h_ n s)) i_ j_
@[simp] theorem get_countFault (h_ : ¬ o_.id ∈ Footprint.countFault) (p : Nat) (s : State) (i_ j_ : Nat) :
    (countFault p s).get o_ i_ j_ = s.get o_ i_ j_ :=
  get_of_view (view_of_part (countFault_part q_ h_ p s)) i_ j_
@[simp] theorem get_judgeFault (h_ : ¬ o_.id ∈ Footprint.judgeFault) (p : Nat) (s : State) (i_ j_ : Nat) :
    (judgeFault p s).get o_ i_ j_ = s.get o_ i_ j_ :=
  get_of_view (view_of_part (judgeFault_part q_ h_ p s)) i_ j_
@[simp] theorem get_countPhase (h_ : ¬ o_.id ∈ Footprint.countPhase) (b p : Nat) (s : State) (i_ j_ : Nat) :
    (countPhase b p s).get o_ i_ j_ = s.get o_ i_ j_ :=
  get_of_view (view_of_part (countPhase_part q_ h_ b p s)) i_ j_
@[simp] theorem get_countMismatch (h_ : ¬ o_.id ∈ Footprint.countMismatch) (b : Nat) (s : State) (i_ j_ : Nat) :
    (countMismatch b s).get o_ i_ j_ = s.get o_ i_ j_ :=
  get_of_view (view_of_part (countMismatch_part q_ h_ b s)) i_ j_
@[simp] theorem get_rejectPhase (h_ : ¬ o_.id ∈ Footprint.rejectPhase) (b p : Nat) (cause : Int) (s : State) (i_ j_ : Nat) :
    (rejectPhase b p cause s).get o_ i_ j_ = s.get o_ i_ j_ :=
  get_of_view (view_of_part (rejectPhase_part q_ h_ b p cause s)) i_ j_
@[simp] theorem get_reactPhase (h_ : ¬ o_.id ∈ Footprint.reactPhase) (b p : Nat) (s : State) (i_ j_ : Nat) :
    (reactPhase b p s).get o_ i_ j_ = s.get o_ i_ j_ :=
  get_of_view (view_of_part (reactPhase_part q_ h_ b p s)) i_ j_
@[simp] theorem get_reactMismatch (h_ : ¬ o_.id ∈ Footprint.reactMismatch) (b : Nat) (s : State) (i_ j_ : Nat) :
    (reactMismatch b s).get o_ i_ j_ = s.get o_ i_ j_ :=
  get_of_view (view_of_part (reactMismatch_part q_ h_ b s)) i_ j_
@[simp] theorem get_detect (h_ : ¬ o_.id ∈ Footprint.detect) (b : Nat) (s : State) (i_ j_ : Nat) :
    (detect b s).get o_ i_ j_ = s.get o_ i_ j_ :=
  get_of_view (view_of_part (detect_part q_ h_ b s)) i_ j_
@[simp] theorem get_takeTest (h_ : ¬ o_.id ∈ Footprint.takeTest) (b : Nat) (s : State) (i_ j_ : Nat) :
    (takeTest b s).get o_ i_ j_ = s.get o_ i_ j_ :=
  get_of_view (view_of_part (takeTest_part q_ h_ b s)) i_ j_
@[simp] theorem get_countIdle (h_ : ¬ o_.id ∈ Footprint.countIdle) (p : Nat) (s : State) (i_ j_ : Nat) :
    (countIdle p s).get o_ i_ j_ = s.get o_ i_ j_ :=
  get_of_view (view_of_part (countIdle_part q_ h_ p s)) i_ j_
@[simp] theorem get_peakDvdt (h_ : ¬ o_.id ∈ Footprint.peakDvdt) (p : Nat) (s : State) (i_ j_ : Nat) :
    (peakDvdt p s).get o_ i_ j_ = s.get o_ i_ j_ :=
  get_of_view (view_of_part (peakDvdt_part q_ h_ p s)) i_ j_
@[simp] theorem get_judgeContactors (h_ : ¬ o_.id ∈ Footprint.judgeContactors) (b : Nat) (s : State) (i_ j_ : Nat) :
    (judgeContactors b s).get o_ i_ j_ = s.get o_ i_ j_ :=
  get_of_view (view_of_part (judgeContactors_part q_ h_ b s)) i_ j_
@[simp] theorem get_countBlock (h_ : ¬ o_.id ∈ Footprint.countBlock) (b : Nat) (s : State) (i_ j_ : Nat) :
    (countBlock b s).get o_ i_ j_ = s.get o_ i_ j_ :=
  get_of_view (view_of_part (countBlock_part q_ h_ b s)) i_ j_
@[simp] theorem get_judgeCabinet (h_ : ¬ o_.id ∈ Footprint.judgeCabinet) (c : Nat) (s : State) (i_ j_ : Nat) :
    (judgeCabinet c s).get o_ i_ j_ = s.get o_ i_ j_ :=
  get_of_view (view_of_part (judgeCabinet_part q_ h_ c s)) i_ j_
@[simp] theorem get_telemetryDeadline (h_ : ¬ o_.id ∈ Footprint.telemetryDeadline) (s : State) (i_ j_ : Nat) :
    (telemetryDeadline s).get o_ i_ j_ = s.get o_ i_ j_ :=
  get_of_view (view_of_part (telemetryDeadline_part q_ h_ s)) i_ j_
@[simp] theorem get_lowerScale (h_ : ¬ o_.id ∈ Footprint.lowerScale) (k : Nat) (limit other charging : Rat) (s : State) (i_ j_ : Nat) :
    (lowerScale k limit other charging s).get o_ i_ j_ = s.get o_ i_ j_ :=
  get_of_view (view_of_part (lowerScale_part q_ h_ k limit other charging s)) i_ j_
@[simp] theorem get_scaleSite (h_ : ¬ o_.id ∈ Footprint.scaleSite) (s : State) (i_ j_ : Nat) :
    (scaleSite s).get o_ i_ j_ = s.get o_ i_ j_ :=
  get_of_view (view_of_part (scaleSite_part q_ h_ s)) i_ j_
@[simp] theorem get_scaleFeeder (h_ : ¬ o_.id ∈ Footprint.scaleFeeder) (f : Nat) (s : State) (i_ j_ : Nat) :
    (scaleFeeder f s).get o_ i_ j_ = s.get o_ i_ j_ :=
  get_of_view (view_of_part (scaleFeeder_part q_ h_ f s)) i_ j_
@[simp] theorem get_scaleCabinet (h_ : ¬ o_.id ∈ Footprint.scaleCabinet) (c : Nat) (s : State) (i_ j_ : Nat) :
    (scaleCabinet c s).get o_ i_ j_ = s.get o_ i_ j_ :=
  get_of_view (view_of_part (scaleCabinet_part q_ h_ c s)) i_ j_
@[simp] theorem get_setTarget (h_ : ¬ o_.id ∈ Footprint.setTarget) (n : Nat) (s : State) (i_ j_ : Nat) :
    (setTarget n s).get o_ i_ j_ = s.get o_ i_ j_ :=
  get_of_view (view_of_part (setTarget_part q_ h_ n s)) i_ j_
@[simp] theorem get_putShare (h_ : ¬ o_.id ∈ Footprint.putShare) (b : Nat) (v : Rat) (s : State) (i_ j_ : Nat) :
    (putShare b v s).get o_ i_ j_ = s.get o_ i_ j_ :=
  get_of_view (view_of_part (putShare_part q_ h_ b v s)) i_ j_
@[simp] theorem get_setShares (h_ : ¬ o_.id ∈ Footprint.setShares) (n : Nat) (s : State) (i_ j_ : Nat) :
    (setShares n s).get o_ i_ j_ = s.get o_ i_ j_ :=
  get_of_view (view_of_part (setShares_part q_ h_ n s)) i_ j_
@[simp] theorem get_unbind (h_ : ¬ o_.id ∈ Footprint.unbind) (b : Nat) (s : State) (i_ j_ : Nat) :
    (unbind b s).get o_ i_ j_ = s.get o_ i_ j_ :=
  get_of_view (view_of_part (unbind_part q_ h_ b s)) i_ j_
@[simp] theorem get_startFor (h_ : ¬ o_.id ∈ Footprint.startFor) (b n : Nat) (kind : Int) (s : State) (i_ j_ : Nat) :
    (startFor b n kind s).get o_ i_ j_ = s.get o_ i_ j_ :=
  get_of_view (view_of_part (startFor_part q_ h_ b n kind s)) i_ j_
@[simp] theorem get_bindStarted (h_ : ¬ o_.id ∈ Footprint.bindStarted) (b : Nat) (s : State) (i_ j_ : Nat) :
    (bindStarted b s).get o_ i_ j_ = s.get o_ i_ j_ :=
  get_of_view (view_of_part (bindStarted_part q_ h_ b s)) i_ j_
@[simp] theorem get_settleDelivering (h_ : ¬ o_.id ∈ Footprint.settleDelivering) (b : Nat) (s : State) (i_ j_ : Nat) :
    (settleDelivering b s).get o_ i_ j_ = s.get o_ i_ j_ :=
  get_of_view (view_of_part (settleDelivering_part q_ h_ b s)) i_ j_
@[simp] theorem get_startMove (h_ : ¬ o_.id ∈ Footprint.startMove) (b : Nat) (s : State) (i_ j_ : Nat) :
    (startMove b s).get o_ i_ j_ = s.get o_ i_ j_ :=
  get_of_view (view_of_part (startMove_part q_ h_ b s)) i_ j_
@[simp] theorem get_resettle (h_ : ¬ o_.id ∈ Footprint.resettle) (b : Nat) (cause : Int) (s : State) (i_ j_ : Nat) :
    (resettle b cause s).get o_ i_ j_ = s.get o_ i_ j_ :=
  get_of_view (view_of_part (resettle_part q_ h_ b cause s)) i_ j_
@[simp] theorem get_dropMove (h_ : ¬ o_.id ∈ Footprint.dropMove) (b : Nat) (cause : Int) (s : State) (i_ j_ : Nat) :
    (dropMove b cause s).get o_ i_ j_ = s.get o_ i_ j_ :=
  get_of_view (view_of_part (dropMove_part q_ h_ b cause s)) i_ j_
@[simp] theorem get_stepPreCharge (h_ : ¬ o_.id ∈ Footprint.stepPreCharge) (b : Nat) (s : State) (i_ j_ : Nat) :
    (stepPreCharge b s).get o_ i_ j_ = s.get o_ i_ j_ :=
  get_of_view (view_of_part (stepPreCharge_part q_ h_ b s)) i_ j_
@[simp] theorem get_judgeMove (h_ : ¬ o_.id ∈ Footprint.judgeMove) (b : Nat) (s : State) (i_ j_ : Nat) :
    (judgeMove b s).get o_ i_ j_ = s.get o_ i_ j_ :=
  get_of_view (view_of_part (judgeMove_part q_ h_ b s)) i_ j_
@[simp] theorem get_takeBlock (h_ : ¬ o_.id ∈ Footprint.takeBlock) (n : Nat) (need : Rat) (least : Nat) (s : State) (i_ j_ : Nat) :
    (takeBlock n need least s).get o_ i_ j_ = s.get o_ i_ j_ :=
  get_of_view (view_of_part (takeBlock_part q_ h_ n need least s)) i_ j_
@[simp] theorem get_takeBlocks (h_ : ¬ o_.id ∈ Footprint.takeBlocks) (n : Nat) (need : Rat) (least k : Nat) (s : State) (i_ j_ : Nat) :
    (takeBlocks n need least k s).get o_ i_ j_ = s.get o_ i_ j_ :=
  get_of_view (view_of_part (takeBlocks_part q_ h_ n need least k s)) i_ j_
@[simp] theorem get_bindBlocks (h_ : ¬ o_.id ∈ Footprint.bindBlocks) (got : List Rat) (s : State) (i_ j_ : Nat) :
    (bindBlocks got s).get o_ i_ j_ = s.get o_ i_ j_ :=
  get_of_view (view_of_part (bindBlocks_part q_ h_ got s)) i_ j_
@[simp] theorem get_allocationPass (h_ : ¬ o_.id ∈ Footprint.allocationPass) (s : State) (i_ j_ : Nat) :
    (allocationPass s).get o_ i_ j_ = s.get o_ i_ j_ :=
  get_of_view (view_of_part (allocationPass_part q_ h_ s)) i_ j_
@[simp] theorem get_beginAllocation (h_ : ¬ o_.id ∈ Footprint.beginAllocation) (s : State) (i_ j_ : Nat) :
    (beginAllocation s).get o_ i_ j_ = s.get o_ i_ j_ :=
  get_of_view (view_of_part (beginAllocation_part q_ h_ s)) i_ j_
@[simp] theorem get_takeAllocation (h_ : ¬ o_.id ∈ Footprint.takeAllocation) (s : State) (i_ j_ : Nat) :
    (takeAllocation s).get o_ i_ j_ = s.get o_ i_ j_ :=
  get_of_view (view_of_part (takeAllocation_part q_ h_ s)) i_ j_
@[simp] theorem get_sumDc (h_ : ¬ o_.id ∈ Footprint.sumDc) (s : State) (i_ j_ : Nat) :
    (sumDc s).get o_ i_ j_ = s.get o_ i_ j_ :=
  get_of_view (view_of_part (sumDc_part q_ h_ s)) i_ j_
@[simp] theorem get_judgeShadow (h_ : ¬ o_.id ∈ Footprint.judgeShadow) (s : State) (i_ j_ : Nat) :
    (judgeShadow s).get o_ i_ j_ = s.get o_ i_ j_ :=
  get_of_view (view_of_part (judgeShadow_part q_ h_ s)) i_ j_
@[simp] theorem get_judgeCapacity (h_ : ¬ o_.id ∈ Footprint.judgeCapacity) (n : Nat) (s : State) (i_ j_ : Nat) :
    (judgeCapacity n s).get o_ i_ j_ = s.get o_ i_ j_ :=
  get_of_view (view_of_part (judgeCapacity_part q_ h_ n s)) i_ j_
@[simp] theorem get_fastPass (h_ : ¬ o_.id ∈ Footprint.fastPass) (s : State) (i_ j_ : Nat) :
    (fastPass s).get o_ i_ j_ = s.get o_ i_ j_ :=
  get_of_view (view_of_part (fastPass_part q_ h_ s)) i_ j_
@[simp] theorem get_withholdFeeder (h_ : ¬ o_.id ∈ Footprint.withholdFeeder) (f : Nat) (s : State) (i_ j_ : Nat) :
    (withholdFeeder f s).get o_ i_ j_ = s.get o_ i_ j_ :=
  get_of_view (view_of_part (withholdFeeder_part q_ h_ f s)) i_ j_
@[simp] theorem get_setMpl (h_ : ¬ o_.id ∈ Footprint.setMpl) (v : Int) (s : State) (i_ j_ : Nat) :
    (setMpl v s).get o_ i_ j_ = s.get o_ i_ j_ :=
  get_of_view (view_of_part (setMpl_part q_ h_ v s)) i_ j_
@[simp] theorem get_abandonFrames (h_ : ¬ o_.id ∈ Footprint.abandonFrames) (s : State) (i_ j_ : Nat) :
    (abandonFrames s).get o_ i_ j_ = s.get o_ i_ j_ :=
  get_of_view (view_of_part (abandonFrames_part q_ h_ s)) i_ j_
@[simp] theorem get_eraseHalf (h_ : ¬ o_.id ∈ Footprint.eraseHalf) (s : State) (i_ j_ : Nat) :
    (eraseHalf s).get o_ i_ j_ = s.get o_ i_ j_ :=
  get_of_view (view_of_part (eraseHalf_part q_ h_ s)) i_ j_
@[simp] theorem get_countSilence (h_ : ¬ o_.id ∈ Footprint.countSilence) (s : State) (i_ j_ : Nat) :
    (countSilence s).get o_ i_ j_ = s.get o_ i_ j_ :=
  get_of_view (view_of_part (countSilence_part q_ h_ s)) i_ j_
@[simp] theorem get_lostHalf (h_ : ¬ o_.id ∈ Footprint.lostHalf) (s : State) (i_ j_ : Nat) :
    (lostHalf s).get o_ i_ j_ = s.get o_ i_ j_ :=
  get_of_view (view_of_part (lostHalf_part q_ h_ s)) i_ j_
@[simp] theorem get_takeCrossing (h_ : ¬ o_.id ∈ Footprint.takeCrossing) (at_ : Rat) (rising : Bool) (s : State) (i_ j_ : Nat) :
    (takeCrossing at_ rising s).get o_ i_ j_ = s.get o_ i_ j_ :=
  get_of_view (view_of_part (takeCrossing_part q_ h_ at_ rising s)) i_ j_
@[simp] theorem get_suspendLink (h_ : ¬ o_.id ∈ Footprint.suspendLink) (f : Nat) (s : State) (i_ j_ : Nat) :
    (suspendLink f s).get o_ i_ j_ = s.get o_ i_ j_ :=
  get_of_view (view_of_part (suspendLink_part q_ h_ f s)) i_ j_
@[simp] theorem get_resumeLink (h_ : ¬ o_.id ∈ Footprint.resumeLink) (f : Nat) (s : State) (i_ j_ : Nat) :
    (resumeLink f s).get o_ i_ j_ = s.get o_ i_ j_ :=
  get_of_view (view_of_part (resumeLink_part q_ h_ f s)) i_ j_
@[simp] theorem get_queueFrame (h_ : ¬ o_.id ∈ Footprint.queueFrame) (n typ prio : Nat) (payload : List Byte) (s : State) (i_ j_ : Nat) :
    (queueFrame n typ prio payload s).get o_ i_ j_ = s.get o_ i_ j_ :=
  get_of_view (view_of_part (queueFrame_part q_ h_ n typ prio payload s)) i_ j_
@[simp] theorem get_transmit (f : List Byte) (map : Nat) (w : Nat) (s : State) (i_ j_ : Nat) :
    (transmit f map w s).get o_ i_ j_ = s.get o_ i_ j_ :=
  get_of_view (view_of_part (transmit_part q_ f map w s)) i_ j_
@[simp] theorem get_osAbsent (h_ : ¬ o_.id ∈ Footprint.osAbsent) (n : Nat) (s : State) (i_ j_ : Nat) :
    (osAbsent n s).get o_ i_ j_ = s.get o_ i_ j_ :=
  get_of_view (view_of_part (osAbsent_part q_ h_ n s)) i_ j_
@[simp] theorem get_giveUp (h_ : ¬ o_.id ∈ Footprint.giveUp) (f : List Byte) (s : State) (i_ j_ : Nat) :
    (giveUp f s).get o_ i_ j_ = s.get o_ i_ j_ :=
  get_of_view (view_of_part (giveUp_part q_ h_ f s)) i_ j_
@[simp] theorem get_bodyFails (h_ : ¬ o_.id ∈ Footprint.bodyFails) (n : Nat) (s : State) (i_ j_ : Nat) :
    (bodyFails n s).get o_ i_ j_ = s.get o_ i_ j_ :=
  get_of_view (view_of_part (bodyFails_part q_ h_ n s)) i_ j_
@[simp] theorem get_osAnswers (h_ : ¬ o_.id ∈ Footprint.osAnswers) (n : Nat) (s : State) (i_ j_ : Nat) :
    (osAnswers n s).get o_ i_ j_ = s.get o_ i_ j_ :=
  get_of_view (view_of_part (osAnswers_part q_ h_ n s)) i_ j_
@[simp] theorem get_settleAwait (h_ : ¬ o_.id ∈ Footprint.settleAwait) (s : State) (i_ j_ : Nat) :
    (settleAwait s).get o_ i_ j_ = s.get o_ i_ j_ :=
  get_of_view (view_of_part (settleAwait_part q_ h_ s)) i_ j_
@[simp] theorem get_queueAck (h_ : ¬ o_.id ∈ Footprint.queueAck) (n seq : Nat) (s : State) (i_ j_ : Nat) :
    (queueAck n seq s).get o_ i_ j_ = s.get o_ i_ j_ :=
  get_of_view (view_of_part (queueAck_part q_ h_ n seq s)) i_ j_
@[simp] theorem get_hearActive (h_ : ¬ o_.id ∈ Footprint.hearActive) (typ : Nat) (header : List Byte) (s : State) (i_ j_ : Nat) :
    (hearActive typ header s).get o_ i_ j_ = s.get o_ i_ j_ :=
  get_of_view (view_of_part (hearActive_part q_ h_ typ header s)) i_ j_
@[simp] theorem get_showRunning (h_ : ¬ o_.id ∈ Footprint.showRunning) (s : State) (i_ j_ : Nat) :
    (showRunning s).get o_ i_ j_ = s.get o_ i_ j_ :=
  get_of_view (view_of_part (showRunning_part q_ h_ s)) i_ j_
@[simp] theorem get_rankDemand (h_ : ¬ o_.id ∈ Footprint.rankDemand) (m : Nat) (slot : Int) (v e : Int) (s : State) (i_ j_ : Nat) :
    (rankDemand m slot v e s).get o_ i_ j_ = s.get o_ i_ j_ :=
  get_of_view (view_of_part (rankDemand_part q_ h_ m slot v e s)) i_ j_
@[simp] theorem get_judgeDemand (h_ : ¬ o_.id ∈ Footprint.judgeDemand) (e : Int) (slot : Int) (s : State) (i_ j_ : Nat) :
    (judgeDemand e slot s).get o_ i_ j_ = s.get o_ i_ j_ :=
  get_of_view (view_of_part (judgeDemand_part q_ h_ e slot s)) i_ j_
@[simp] theorem get_restartDemand (h_ : ¬ o_.id ∈ Footprint.restartDemand) (t0 : Int) (s : State) (i_ j_ : Nat) :
    (restartDemand t0 s).get o_ i_ j_ = s.get o_ i_ j_ :=
  get_of_view (view_of_part (restartDemand_part q_ h_ t0 s)) i_ j_
@[simp] theorem get_closePeriod (h_ : ¬ o_.id ∈ Footprint.closePeriod) (cause at_ : Int) (skipped : Bool) (s : State) (i_ j_ : Nat) :
    (closePeriod cause at_ skipped s).get o_ i_ j_ = s.get o_ i_ j_ :=
  get_of_view (view_of_part (closePeriod_part q_ h_ cause at_ skipped s)) i_ j_
@[simp] theorem get_activateCalendar (h_ : ¬ o_.id ∈ Footprint.activateCalendar) (s : State) (i_ j_ : Nat) :
    (activateCalendar s).get o_ i_ j_ = s.get o_ i_ j_ :=
  get_of_view (view_of_part (activateCalendar_part q_ h_ s)) i_ j_
@[simp] theorem get_switchSlot (h_ : ¬ o_.id ∈ Footprint.switchSlot) (v : Int) (s : State) (i_ j_ : Nat) :
    (switchSlot v s).get o_ i_ j_ = s.get o_ i_ j_ :=
  get_of_view (view_of_part (switchSlot_part q_ h_ v s)) i_ j_
@[simp] theorem get_storeBoundary (h_ : ¬ o_.id ∈ Footprint.storeBoundary) (oldSlot flags period : Int) (demands : List Int) (s : State) (i_ j_ : Nat) :
    (storeBoundary oldSlot flags period demands s).get o_ i_ j_ = s.get o_ i_ j_ :=
  get_of_view (view_of_part (storeBoundary_part q_ h_ oldSlot flags period demands s)) i_ j_
@[simp] theorem get_applyBoundary (h_ : ¬ o_.id ∈ Footprint.applyBoundary) (s : State) (i_ j_ : Nat) :
    (applyBoundary s).get o_ i_ j_ = s.get o_ i_ j_ :=
  get_of_view (view_of_part (applyBoundary_part q_ h_ s)) i_ j_
@[simp] theorem get_joinBoundary (h_ : ¬ o_.id ∈ Footprint.joinBoundary) (kind : Nat) (inst : Int) (s : State) (i_ j_ : Nat) :
    (joinBoundary kind inst s).get o_ i_ j_ = s.get o_ i_ j_ :=
  get_of_view (view_of_part (joinBoundary_part q_ h_ kind inst s)) i_ j_
@[simp] theorem get_setActivation (h_ : ¬ o_.id ∈ Footprint.setActivation) (v : Int) (t : State) (i_ j_ : Nat) :
    (setActivation v t).get o_ i_ j_ = t.get o_ i_ j_ :=
  get_of_view (view_of_part (setActivation_part q_ h_ v t)) i_ j_
@[simp] theorem get_clockStep (h_ : ¬ o_.id ∈ Footprint.clockStep) (before : Int) (s : State) (i_ j_ : Nat) :
    (clockStep before s).get o_ i_ j_ = s.get o_ i_ j_ :=
  get_of_view (view_of_part (clockStep_part q_ h_ before s)) i_ j_
@[simp] theorem get_derivedEnd (h_ : ¬ o_.id ∈ Footprint.derivedEnd) (cut e : Int) (s : State) (i_ j_ : Nat) :
    (derivedEnd cut e s).get o_ i_ j_ = s.get o_ i_ j_ :=
  get_of_view (view_of_part (derivedEnd_part q_ h_ cut e s)) i_ j_
@[simp] theorem get_firstInterval (h_ : ¬ o_.id ∈ Footprint.firstInterval) (now : Int) (s : State) (i_ j_ : Nat) :
    (firstInterval now s).get o_ i_ j_ = s.get o_ i_ j_ :=
  get_of_view (view_of_part (firstInterval_part q_ h_ now s)) i_ j_
@[simp] theorem get_beginDerivation (h_ : ¬ o_.id ∈ Footprint.beginDerivation) (closing : Option (Int × Int × Nat)) (now : Int) (s : State) (i_ j_ : Nat) :
    (beginDerivation closing now s).get o_ i_ j_ = s.get o_ i_ j_ :=
  get_of_view (view_of_part (beginDerivation_part q_ h_ closing now s)) i_ j_
@[simp] theorem get_deriveClosing (h_ : ¬ o_.id ∈ Footprint.deriveClosing) (closing : Option (Int × Int × Nat)) (s : State) (i_ j_ : Nat) :
    (deriveClosing closing s).get o_ i_ j_ = s.get o_ i_ j_ :=
  get_of_view (view_of_part (deriveClosing_part q_ h_ closing s)) i_ j_
@[simp] theorem get_skipEnds (h_ : ¬ o_.id ∈ Footprint.skipEnds) (last now : Int) (s : State) (i_ j_ : Nat) :
    (skipEnds last now s).get o_ i_ j_ = s.get o_ i_ j_ :=
  get_of_view (view_of_part (skipEnds_part q_ h_ last now s)) i_ j_
@[simp] theorem get_deriveKinds (h_ : ¬ o_.id ∈ Footprint.deriveKinds) (demands : List Int) (period old now : Int) (s : State) (i_ j_ : Nat) :
    (deriveKinds demands period old now s).get o_ i_ j_ = s.get o_ i_ j_ :=
  get_of_view (view_of_part (deriveKinds_part q_ h_ demands period old now s)) i_ j_
@[simp] theorem get_deriveBoundaries (h_ : ¬ o_.id ∈ Footprint.deriveBoundaries) (s : State) (i_ j_ : Nat) :
    (deriveBoundaries s).get o_ i_ j_ = s.get o_ i_ j_ :=
  get_of_view (view_of_part (deriveBoundaries_part q_ h_ s)) i_ j_
@[simp] theorem get_publishPlan (h_ : ¬ o_.id ∈ Footprint.publishPlan) (s : State) (i_ j_ : Nat) :
    (publishPlan s).get o_ i_ j_ = s.get o_ i_ j_ :=
  get_of_view (view_of_part (publishPlan_part q_ h_ s)) i_ j_
@[simp] theorem get_restartChannel (h_ : ¬ o_.id ∈ Footprint.restartChannel) (c : Nat) (s : State) (i_ j_ : Nat) :
    (restartChannel c s).get o_ i_ j_ = s.get o_ i_ j_ :=
  get_of_view (view_of_part (restartChannel_part q_ h_ c s)) i_ j_
@[simp] theorem get_takeReading (h_ : ¬ o_.id ∈ Footprint.takeReading) (readings : List (Int × Int)) (c : Nat) (s : State) (i_ j_ : Nat) :
    (takeReading readings c s).get o_ i_ j_ = s.get o_ i_ j_ :=
  get_of_view (view_of_part (takeReading_part q_ h_ readings c s)) i_ j_
@[simp] theorem get_judgeChannel (h_ : ¬ o_.id ∈ Footprint.judgeChannel) (readings : List (Int × Int)) (c : Nat) (s : State) (i_ j_ : Nat) :
    (judgeChannel readings c s).get o_ i_ j_ = s.get o_ i_ j_ :=
  get_of_view (view_of_part (judgeChannel_part q_ h_ readings c s)) i_ j_
@[simp] theorem get_judgeStop (h_ : ¬ o_.id ∈ Footprint.judgeStop) (n : Nat) (s : State) (i_ j_ : Nat) :
    (judgeStop n s).get o_ i_ j_ = s.get o_ i_ j_ :=
  get_of_view (view_of_part (judgeStop_part q_ h_ n s)) i_ j_
@[simp] theorem get_connectorStep (h_ : ¬ o_.id ∈ Footprint.connectorStep) (n : Nat) (s : State) (i_ j_ : Nat) :
    (connectorStep n s).get o_ i_ j_ = s.get o_ i_ j_ :=
  get_of_view (view_of_part (connectorStep_part q_ h_ n s)) i_ j_
@[simp] theorem get_stopSessions (h_ : ¬ o_.id ∈ Footprint.stopSessions) (cause : Int) (s : State) (i_ j_ : Nat) :
    (stopSessions cause s).get o_ i_ j_ = s.get o_ i_ j_ :=
  get_of_view (view_of_part (stopSessions_part q_ h_ cause s)) i_ j_
@[simp] theorem get_judgeDies (h_ : ¬ o_.id ∈ Footprint.judgeDies) (was : Nat → Int) (s : State) (i_ j_ : Nat) :
    (judgeDies was s).get o_ i_ j_ = s.get o_ i_ j_ :=
  get_of_view (view_of_part (judgeDies_part q_ h_ was s)) i_ j_
@[simp] theorem get_journalOpens (h_ : ¬ o_.id ∈ Footprint.journalOpens) (s : State) (i_ j_ : Nat) :
    (journalOpens s).get o_ i_ j_ = s.get o_ i_ j_ :=
  get_of_view (view_of_part (journalOpens_part q_ h_ s)) i_ j_
@[simp] theorem get_judgeWindow (k : Nat) (o : Obj) (lo hi : Int) (s : State) (h_ : ¬ o_.id ∈ (Footprint.judgeWindow o)) (i_ j_ : Nat) :
    (judgeWindow k o lo hi s).get o_ i_ j_ = s.get o_ i_ j_ :=
  get_of_view (view_of_part (judgeWindow_part q_ k o lo hi s h_)) i_ j_
@[simp] theorem get_judgeWindows (h_ : ¬ o_.id ∈ Footprint.judgeWindows) (s : State) (i_ j_ : Nat) :
    (judgeWindows s).get o_ i_ j_ = s.get o_ i_ j_ :=
  get_of_view (view_of_part (judgeWindows_part q_ h_ s)) i_ j_
@[simp] theorem get_startModel (h_ : ¬ o_.id ∈ Footprint.startModel) (n : Nat) (s : State) (i_ j_ : Nat) :
    (startModel n s).get o_ i_ j_ = s.get o_ i_ j_ :=
  get_of_view (view_of_part (startModel_part q_ h_ n s)) i_ j_
@[simp] theorem get_correctModel (h_ : ¬ o_.id ∈ Footprint.correctModel) (n : Nat) (s : State) (i_ j_ : Nat) :
    (correctModel n s).get o_ i_ j_ = s.get o_ i_ j_ :=
  get_of_view (view_of_part (correctModel_part q_ h_ n s)) i_ j_
@[simp] theorem get_showModel (h_ : ¬ o_.id ∈ Footprint.showModel) (n : Nat) (s : State) (i_ j_ : Nat) :
    (showModel n s).get o_ i_ j_ = s.get o_ i_ j_ :=
  get_of_view (view_of_part (showModel_part q_ h_ n s)) i_ j_
@[simp] theorem get_modelStep (h_ : ¬ o_.id ∈ Footprint.modelStep) (n : Nat) (s : State) (i_ j_ : Nat) :
    (modelStep n s).get o_ i_ j_ = s.get o_ i_ j_ :=
  get_of_view (view_of_part (modelStep_part q_ h_ n s)) i_ j_
@[simp] theorem get_coolInputs (h_ : ¬ o_.id ∈ Footprint.coolInputs) (n : Nat) (s : State) (i_ j_ : Nat) :
    (coolInputs n s).get o_ i_ j_ = s.get o_ i_ j_ :=
  get_of_view (view_of_part (coolInputs_part q_ h_ n s)) i_ j_
@[simp] theorem get_coolOutputs (h_ : ¬ o_.id ∈ Footprint.coolOutputs) (n : Nat) (s : State) (i_ j_ : Nat) :
    (coolOutputs n s).get o_ i_ j_ = s.get o_ i_ j_ :=
  get_of_view (view_of_part (coolOutputs_part q_ h_ n s)) i_ j_
@[simp] theorem get_driveCooling (h_ : ¬ o_.id ∈ Footprint.driveCooling) (s : State) (i_ j_ : Nat) :
    (driveCooling s).get o_ i_ j_ = s.get o_ i_ j_ :=
  get_of_view (view_of_part (driveCooling_part q_ h_ s)) i_ j_
@[simp] theorem get_coolantCommand (h_ : ¬ o_.id ∈ Footprint.coolantCommand) (n : Nat) (s : State) (i_ j_ : Nat) :
    (coolantCommand n s).get o_ i_ j_ = s.get o_ i_ j_ :=
  get_of_view (view_of_part (coolantCommand_part q_ h_ n s)) i_ j_
@[simp] theorem get_unitSilent (h_ : ¬ o_.id ∈ Footprint.unitSilent) (n : Nat) (s : State) (i_ j_ : Nat) :
    (unitSilent n s).get o_ i_ j_ = s.get o_ i_ j_ :=
  get_of_view (view_of_part (unitSilent_part q_ h_ n s)) i_ j_
@[simp] theorem get_takeCabinet (h_ : ¬ o_.id ∈ Footprint.takeCabinet) (c : Nat) (s : State) (i_ j_ : Nat) :
    (takeCabinet c s).get o_ i_ j_ = s.get o_ i_ j_ :=
  get_of_view (view_of_part (takeCabinet_part q_ h_ c s)) i_ j_
@[simp] theorem get_cabinetStep (h_ : ¬ o_.id ∈ Footprint.cabinetStep) (c : Nat) (s : State) (i_ j_ : Nat) :
    (cabinetStep c s).get o_ i_ j_ = s.get o_ i_ j_ :=
  get_of_view (view_of_part (cabinetStep_part q_ h_ c s)) i_ j_
@[simp] theorem get_thermalRound (h_ : ¬ o_.id ∈ Footprint.thermalRound) (readings : List (Int × Int)) (s : State) (i_ j_ : Nat) :
    (thermalRound readings s).get o_ i_ j_ = s.get o_ i_ j_ :=
  get_of_view (view_of_part (thermalRound_part q_ h_ readings s)) i_ j_
@[simp] theorem get_thermalTick (h_ : ¬ o_.id ∈ Footprint.thermalTick) (s : State) (i_ j_ : Nat) :
    (thermalTick s).get o_ i_ j_ = s.get o_ i_ j_ :=
  get_of_view (view_of_part (thermalTick_part q_ h_ s)) i_ j_
@[simp] theorem get_coolingTick (h_ : ¬ o_.id ∈ Footprint.coolingTick) (s : State) (i_ j_ : Nat) :
    (coolingTick s).get o_ i_ j_ = s.get o_ i_ j_ :=
  get_of_view (view_of_part (coolingTick_part q_ h_ s)) i_ j_
@[simp] theorem get_addSum (o : Obj) (i j : Nat) (inc : Int) (s : State) (h_ : ¬ o_.id ∈ (Footprint.addSum o)) (i_ j_ : Nat) :
    (addSum o i j inc s).get o_ i_ j_ = s.get o_ i_ j_ :=
  get_of_view (view_of_part (addSum_part q_ o i j inc s h_)) i_ j_
@[simp] theorem get_addImport (h_ : ¬ o_.id ∈ Footprint.addImport) (n : Nat) (inc : Int) (s : State) (i_ j_ : Nat) :
    (addImport n inc s).get o_ i_ j_ = s.get o_ i_ j_ :=
  get_of_view (view_of_part (addImport_part q_ h_ n inc s)) i_ j_
@[simp] theorem get_takeDc (h_ : ¬ o_.id ∈ Footprint.takeDc) (n : Nat) (uv ui : Int) (s : State) (i_ j_ : Nat) :
    (takeDc n uv ui s).get o_ i_ j_ = s.get o_ i_ j_ :=
  get_of_view (view_of_part (takeDc_part q_ h_ n uv ui s)) i_ j_
@[simp] theorem get_takeHp (h_ : ¬ o_.id ∈ Footprint.takeHp) (c : Nat) (u : Int) (s : State) (i_ j_ : Nat) :
    (takeHp c u s).get o_ i_ j_ = s.get o_ i_ j_ :=
  get_of_view (view_of_part (takeHp_part q_ h_ c u s)) i_ j_
@[simp] theorem get_feederEnergy (h_ : ¬ o_.id ∈ Footprint.feederEnergy) (f : Nat) (s : State) (i_ j_ : Nat) :
    (feederEnergy f s).get o_ i_ j_ = s.get o_ i_ j_ :=
  get_of_view (view_of_part (feederEnergy_part q_ h_ f s)) i_ j_
@[simp] theorem get_feederSums (h_ : ¬ o_.id ∈ Footprint.feederSums) (f : Nat) (s : State) (i_ j_ : Nat) :
    (feederSums f s).get o_ i_ j_ = s.get o_ i_ j_ :=
  get_of_view (view_of_part (feederSums_part q_ h_ f s)) i_ j_
@[simp] theorem get_judgeSequence (h_ : ¬ o_.id ∈ Footprint.judgeSequence) (f : Nat) (s : State) (i_ j_ : Nat) :
    (judgeSequence f s).get o_ i_ j_ = s.get o_ i_ j_ :=
  get_of_view (view_of_part (judgeSequence_part q_ h_ f s)) i_ j_
@[simp] theorem get_judgeResidual (h_ : ¬ o_.id ∈ Footprint.judgeResidual) (f : Nat) (rms : Rat) (s : State) (i_ j_ : Nat) :
    (judgeResidual f rms s).get o_ i_ j_ = s.get o_ i_ j_ :=
  get_of_view (view_of_part (judgeResidual_part q_ h_ f rms s)) i_ j_
@[simp] theorem get_endCycle (h_ : ¬ o_.id ∈ Footprint.endCycle) (f : Nat) (at_ : Int) (s : State) (i_ j_ : Nat) :
    (endCycle f at_ s).get o_ i_ j_ = s.get o_ i_ j_ :=
  get_of_view (view_of_part (endCycle_part q_ h_ f at_ s)) i_ j_
@[simp] theorem get_countGood (h_ : ¬ o_.id ∈ Footprint.countGood) (f : Nat) (s : State) (i_ j_ : Nat) :
    (countGood f s).get o_ i_ j_ = s.get o_ i_ j_ :=
  get_of_view (view_of_part (countGood_part q_ h_ f s)) i_ j_
@[simp] theorem get_takePhase (h_ : ¬ o_.id ∈ Footprint.takePhase) (f j : Nat) (s : State) (i_ j_ : Nat) :
    (takePhase f j s).get o_ i_ j_ = s.get o_ i_ j_ :=
  get_of_view (view_of_part (takePhase_part q_ h_ f j s)) i_ j_
@[simp] theorem get_takeFeeder (h_ : ¬ o_.id ∈ Footprint.takeFeeder) (inputs : List Int) (f : Nat) (s : State) (i_ j_ : Nat) :
    (takeFeeder inputs f s).get o_ i_ j_ = s.get o_ i_ j_ :=
  get_of_view (view_of_part (takeFeeder_part q_ h_ inputs f s)) i_ j_
@[simp] theorem get_countPulses (h_ : ¬ o_.id ∈ Footprint.countPulses) (before : State) (k : Nat) (s : State) (i_ j_ : Nat) :
    (countPulses before k s).get o_ i_ j_ = s.get o_ i_ j_ :=
  get_of_view (view_of_part (countPulses_part q_ h_ before k s)) i_ j_
@[simp] theorem get_loseMains (h_ : ¬ o_.id ∈ Footprint.loseMains) (f : Nat) (cause : Int) (s : State) (i_ j_ : Nat) :
    (loseMains f cause s).get o_ i_ j_ = s.get o_ i_ j_ :=
  get_of_view (view_of_part (loseMains_part q_ h_ f cause s)) i_ j_
@[simp] theorem get_keepHighest (o ot : Obj) (i j : Nat) (v at_ : Int) (s : State) (h_ : ¬ o_.id ∈ (Footprint.keepHighest o ot)) (i_ j_ : Nat) :
    (keepHighest o ot i j v at_ s).get o_ i_ j_ = s.get o_ i_ j_ :=
  get_of_view (view_of_part (keepHighest_part q_ o ot i j v at_ s h_)) i_ j_
@[simp] theorem get_secondOfDc (h_ : ¬ o_.id ∈ Footprint.secondOfDc) (at_ : Int) (n : Nat) (s : State) (i_ j_ : Nat) :
    (secondOfDc at_ n s).get o_ i_ j_ = s.get o_ i_ j_ :=
  get_of_view (view_of_part (secondOfDc_part q_ h_ at_ n s)) i_ j_
@[simp] theorem get_secondOfFeeder (h_ : ¬ o_.id ∈ Footprint.secondOfFeeder) (at_ : Int) (f : Nat) (s : State) (i_ j_ : Nat) :
    (secondOfFeeder at_ f s).get o_ i_ j_ = s.get o_ i_ j_ :=
  get_of_view (view_of_part (secondOfFeeder_part q_ h_ at_ f s)) i_ j_
@[simp] theorem get_commitMeters (s : State) (i_ j_ : Nat) :
    (commitMeters s).get o_ i_ j_ = s.get o_ i_ j_ :=
  get_of_view (view_of_part (commitMeters_part q_ s)) i_ j_
@[simp] theorem get_faultChannel (h_ : ¬ o_.id ∈ Footprint.faultChannel) (c : Nat) (cause : Int) (s : State) (i_ j_ : Nat) :
    (faultChannel c cause s).get o_ i_ j_ = s.get o_ i_ j_ :=
  get_of_view (view_of_part (faultChannel_part q_ h_ c cause s)) i_ j_
@[simp] theorem get_theftMean (h_ : ¬ o_.id ∈ Footprint.theftMean) (n : Nat) (mean : Int) (s : State) (i_ j_ : Nat) :
    (theftMean n mean s).get o_ i_ j_ = s.get o_ i_ j_ :=
  get_of_view (view_of_part (theftMean_part q_ h_ n mean s)) i_ j_
@[simp] theorem get_crossCheck (h_ : ¬ o_.id ∈ Footprint.crossCheck) (partner : List Int) (s : State) (i_ j_ : Nat) :
    (crossCheck partner s).get o_ i_ j_ = s.get o_ i_ j_ :=
  get_of_view (view_of_part (crossCheck_part q_ h_ partner s)) i_ j_
@[simp] theorem get_setSeal (h_ : ¬ o_.id ∈ Footprint.setSeal) (open_ : Bool) (s : State) (i_ j_ : Nat) :
    (setSeal open_ s).get o_ i_ j_ = s.get o_ i_ j_ :=
  get_of_view (view_of_part (setSeal_part q_ h_ open_ s)) i_ j_
@[simp] theorem get_noteFull (index : Nat) (s t : State) (i_ j_ : Nat) :
    (noteFull index s t).get o_ i_ j_ = t.get o_ i_ j_ :=
  get_of_view (noteFull_view q_ index s t) i_ j_
@[simp] theorem get_refusedNow (kind i : Nat) (was now : Bool) (s : State) (i_ j_ : Nat) :
    (refusedNow kind i was now s).get o_ i_ j_ = s.get o_ i_ j_ :=
  get_of_view (view_of_part (refusedNow_part q_ kind i was now s)) i_ j_
@[simp] theorem get_checkPhase (h_ : ¬ o_.id ∈ Footprint.checkPhase) (p : Nat) (s : State) (i_ j_ : Nat) :
    (checkPhase p s).get o_ i_ j_ = s.get o_ i_ j_ :=
  get_of_view (view_of_part (checkPhase_part q_ h_ p s)) i_ j_
@[simp] theorem get_checkBlock (h_ : ¬ o_.id ∈ Footprint.checkBlock) (b : Nat) (s : State) (i_ j_ : Nat) :
    (checkBlock b s).get o_ i_ j_ = s.get o_ i_ j_ :=
  get_of_view (view_of_part (checkBlock_part q_ h_ b s)) i_ j_
@[simp] theorem get_checkCab (h_ : ¬ o_.id ∈ Footprint.checkCab) (c : Nat) (s : State) (i_ j_ : Nat) :
    (checkCab c s).get o_ i_ j_ = s.get o_ i_ j_ :=
  get_of_view (view_of_part (checkCab_part q_ h_ c s)) i_ j_
@[simp] theorem get_checkOutlet (h_ : ¬ o_.id ∈ Footprint.checkOutlet) (n : Nat) (s : State) (i_ j_ : Nat) :
    (checkOutlet n s).get o_ i_ j_ = s.get o_ i_ j_ :=
  get_of_view (view_of_part (checkOutlet_part q_ h_ n s)) i_ j_
@[simp] theorem get_checkFeeder (h_ : ¬ o_.id ∈ Footprint.checkFeeder) (f : Nat) (s : State) (i_ j_ : Nat) :
    (checkFeeder f s).get o_ i_ j_ = s.get o_ i_ j_ :=
  get_of_view (view_of_part (checkFeeder_part q_ h_ f s)) i_ j_
@[simp] theorem get_judgeTopology (h_ : ¬ o_.id ∈ Footprint.judgeTopology) (s : State) (i_ j_ : Nat) :
    (judgeTopology s).get o_ i_ j_ = s.get o_ i_ j_ :=
  get_of_view (view_of_part (judgeTopology_part q_ h_ s)) i_ j_
@[simp] theorem get_beginTopology (h_ : ¬ o_.id ∈ Footprint.beginTopology) (s : State) (i_ j_ : Nat) :
    (beginTopology s).get o_ i_ j_ = s.get o_ i_ j_ :=
  get_of_view (view_of_part (beginTopology_part q_ h_ s)) i_ j_
@[simp] theorem get_checkShared (h_ : ¬ o_.id ∈ Footprint.checkShared) (s : State) (i_ j_ : Nat) :
    (checkShared s).get o_ i_ j_ = s.get o_ i_ j_ :=
  get_of_view (view_of_part (checkShared_part q_ h_ s)) i_ j_
@[simp] theorem get_sendTopology (s : State) (i_ j_ : Nat) :
    (sendTopology s).get o_ i_ j_ = s.get o_ i_ j_ :=
  get_of_view (view_of_part (sendTopology_part q_ s)) i_ j_
@[simp] theorem get_holdSecret (h_ : ¬ o_.id ∈ Footprint.holdSecret) (k : Nat) (v : List Byte) (s : State) (i_ j_ : Nat) :
    (holdSecret k v s).get o_ i_ j_ = s.get o_ i_ j_ :=
  get_of_view (view_of_part (holdSecret_part q_ h_ k v s)) i_ j_
@[simp] theorem get_remask (h_ : ¬ o_.id ∈ Footprint.remask) (k : Nat) (s : State) (i_ j_ : Nat) :
    (remask k s).get o_ i_ j_ = s.get o_ i_ j_ :=
  get_of_view (view_of_part (remask_part q_ h_ k s)) i_ j_
@[simp] theorem get_writeBlob (h_ : ¬ o_.id ∈ Footprint.writeBlob) (k : Nat) (s : State) (i_ j_ : Nat) :
    (writeBlob k s).get o_ i_ j_ = s.get o_ i_ j_ :=
  get_of_view (view_of_part (writeBlob_part q_ h_ k s)) i_ j_
@[simp] theorem get_rewrapBlobs (h_ : ¬ o_.id ∈ Footprint.rewrapBlobs) (s : State) (i_ j_ : Nat) :
    (rewrapBlobs s).get o_ i_ j_ = s.get o_ i_ j_ :=
  get_of_view (view_of_part (rewrapBlobs_part q_ h_ s)) i_ j_
@[simp] theorem get_readBlob (h_ : ¬ o_.id ∈ Footprint.readBlob) (k : Nat) (s : State) (i_ j_ : Nat) :
    (readBlob k s).get o_ i_ j_ = s.get o_ i_ j_ :=
  get_of_view (view_of_part (readBlob_part q_ h_ k s)) i_ j_
@[simp] theorem get_destroySecret (h_ : ¬ o_.id ∈ Footprint.destroySecret) (k : Nat) (s : State) (i_ j_ : Nat) :
    (destroySecret k s).get o_ i_ j_ = s.get o_ i_ j_ :=
  get_of_view (view_of_part (destroySecret_part q_ h_ k s)) i_ j_
@[simp] theorem get_publishFieldKey (h_ : ¬ o_.id ∈ Footprint.publishFieldKey) (s : State) (i_ j_ : Nat) :
    (publishFieldKey s).get o_ i_ j_ = s.get o_ i_ j_ :=
  get_of_view (view_of_part (publishFieldKey_part q_ h_ s)) i_ j_
@[simp] theorem get_showRecords (h_ : ¬ o_.id ∈ Footprint.showRecords) (s : State) (i_ j_ : Nat) :
    (showRecords s).get o_ i_ j_ = s.get o_ i_ j_ :=
  get_of_view (view_of_part (showRecords_part q_ h_ s)) i_ j_
@[simp] theorem get_sealContext (h_ : ¬ o_.id ∈ Footprint.sealContext) (c : Nat) (s : State) (i_ j_ : Nat) :
    (sealContext c s).get o_ i_ j_ = s.get o_ i_ j_ :=
  get_of_view (view_of_part (sealContext_part q_ h_ c s)) i_ j_
@[simp] theorem get_tamperEntryOf (h_ : ¬ o_.id ∈ Footprint.tamperEntryOf) (kind source value : Int) (s : State) (i_ j_ : Nat) :
    (tamperEntryOf kind source value s).get o_ i_ j_ = s.get o_ i_ j_ :=
  get_of_view (view_of_part (tamperEntryOf_part q_ h_ kind source value s)) i_ j_
@[simp] theorem get_reportTamper (h_ : ¬ o_.id ∈ Footprint.reportTamper) (s : State) (i_ j_ : Nat) :
    (reportTamper s).get o_ i_ j_ = s.get o_ i_ j_ :=
  get_of_view (view_of_part (reportTamper_part q_ h_ s)) i_ j_
@[simp] theorem get_showSessions (h_ : ¬ o_.id ∈ Footprint.showSessions) (s : State) (i_ j_ : Nat) :
    (showSessions s).get o_ i_ j_ = s.get o_ i_ j_ :=
  get_of_view (view_of_part (showSessions_part q_ h_ s)) i_ j_
@[simp] theorem get_endSession (h_ : ¬ o_.id ∈ Footprint.endSession) (x : Session) (cause : Int) (s : State) (i_ j_ : Nat) :
    (endSession x cause s).get o_ i_ j_ = s.get o_ i_ j_ :=
  get_of_view (view_of_part (endSession_part q_ h_ x cause s)) i_ j_
@[simp] theorem get_endSessions (h_ : ¬ o_.id ∈ Footprint.endSessions) (p : Session → Bool) (cause : Int) (s : State) (i_ j_ : Nat) :
    (endSessions p cause s).get o_ i_ j_ = s.get o_ i_ j_ :=
  get_of_view (view_of_part (endSessions_part q_ h_ p cause s)) i_ j_
@[simp] theorem get_failOpening (h_ : ¬ o_.id ∈ Footprint.failOpening) (addr : Nat) (s : State) (i_ j_ : Nat) :
    (failOpening addr s).get o_ i_ j_ = s.get o_ i_ j_ :=
  get_of_view (view_of_part (failOpening_part q_ h_ addr s)) i_ j_
@[simp] theorem get_answerOpen (space tag epoch fn status : Nat) (d : List Byte) (s : State) (i_ j_ : Nat) :
    (answerOpen space tag epoch fn status d s).get o_ i_ j_ = s.get o_ i_ j_ :=
  get_of_view (view_of_part (answerOpen_part q_ space tag epoch fn status d s)) i_ j_
@[simp] theorem get_startTransition (h_ : ¬ o_.id ∈ Footprint.startTransition) (dst role : Nat) (s : State) (i_ j_ : Nat) :
    (startTransition dst role s).get o_ i_ j_ = s.get o_ i_ j_ :=
  get_of_view (view_of_part (startTransition_part q_ h_ dst role s)) i_ j_
@[simp] theorem get_requestTransition (h_ : ¬ o_.id ∈ Footprint.requestTransition) (r : Req) (dst : Nat) (s : State) (i_ j_ : Nat) :
    (requestTransition r dst s).get o_ i_ j_ = s.get o_ i_ j_ :=
  get_of_view (view_of_part (requestTransition_part q_ h_ r dst s)) i_ j_
@[simp] theorem get_wrapCanKeys (h_ : ¬ o_.id ∈ Footprint.wrapCanKeys) (s : State) (i_ j_ : Nat) :
    (wrapCanKeys s).get o_ i_ j_ = s.get o_ i_ j_ :=
  get_of_view (view_of_part (wrapCanKeys_part q_ h_ s)) i_ j_
@[simp] theorem get_changeRoots (h_ : ¬ o_.id ∈ Footprint.changeRoots) (old new : Int) (s : State) (i_ j_ : Nat) :
    (changeRoots old new s).get o_ i_ j_ = s.get o_ i_ j_ :=
  get_of_view (view_of_part (changeRoots_part q_ h_ old new s)) i_ j_
@[simp] theorem get_carryOut (h_ : ¬ o_.id ∈ Footprint.carryOut) (s : State) (i_ j_ : Nat) :
    (carryOut s).get o_ i_ j_ = s.get o_ i_ j_ :=
  get_of_view (view_of_part (carryOut_part q_ h_ s)) i_ j_
@[simp] theorem get_attest (h_ : ¬ o_.id ∈ Footprint.attest) (nonce : List Byte) (s : State) (i_ j_ : Nat) :
    (attest nonce s).get o_ i_ j_ = s.get o_ i_ j_ :=
  get_of_view (view_of_part (attest_part q_ h_ nonce s)) i_ j_
@[simp] theorem get_makeSecc (h_ : ¬ o_.id ∈ Footprint.makeSecc) (kind : Nat) (s : State) (i_ j_ : Nat) :
    (makeSecc kind s).get o_ i_ j_ = s.get o_ i_ j_ :=
  get_of_view (view_of_part (makeSecc_part q_ h_ kind s)) i_ j_
@[simp] theorem get_exportLog (h_ : ¬ o_.id ∈ Footprint.exportLog) (code : Nat) (s : State) (i_ j_ : Nat) :
    (exportLog code s).get o_ i_ j_ = s.get o_ i_ j_ :=
  get_of_view (view_of_part (exportLog_part q_ h_ code s)) i_ j_
@[simp] theorem get_resumeKc (h_ : ¬ o_.id ∈ Footprint.resumeKc) (s : State) (i_ j_ : Nat) :
    (resumeKc s).get o_ i_ j_ = s.get o_ i_ j_ :=
  get_of_view (view_of_part (resumeKc_part q_ h_ s)) i_ j_
@[simp] theorem get_selectSlot (h_ : ¬ o_.id ∈ Footprint.selectSlot) (v : Int) (s : State) (i_ j_ : Nat) :
    (selectSlot v s).get o_ i_ j_ = s.get o_ i_ j_ :=
  get_of_view (selectSlot_view q_ h_ v s) i_ j_
@[simp] theorem get_endTrial (h_ : ¬ o_.id ∈ Footprint.endTrial) (s : State) (i_ j_ : Nat) :
    (endTrial s).get o_ i_ j_ = s.get o_ i_ j_ :=
  get_of_view (endTrial_view q_ h_ s) i_ j_
@[simp] theorem get_rejectTrial (h_ : ¬ o_.id ∈ Footprint.rejectTrial) (cause : Int) (s : State) (i_ j_ : Nat) :
    (rejectTrial cause s).get o_ i_ j_ = s.get o_ i_ j_ :=
  get_of_view (rejectTrial_view q_ h_ cause s) i_ j_
@[simp] theorem get_stageCommit (h_ : ¬ o_.id ∈ Footprint.stageCommit) (s : State) (i_ j_ : Nat) :
    (stageCommit s).get o_ i_ j_ = s.get o_ i_ j_ :=
  get_of_view (stageCommit_view q_ h_ s) i_ j_
@[simp] theorem get_acknowledged (h_ : ¬ o_.id ∈ Footprint.acknowledged) (item : List Byte) (s : State) (i_ j_ : Nat) :
    (acknowledged item s).get o_ i_ j_ = s.get o_ i_ j_ :=
  get_of_view (view_of_part (acknowledged_part q_ h_ item s)) i_ j_
@[simp] theorem get_acknowledge (h_ : ¬ o_.id ∈ Footprint.acknowledge) (ch : Nat) (seq : Int) (s : State) (i_ j_ : Nat) :
    (acknowledge ch seq s).get o_ i_ j_ = s.get o_ i_ j_ :=
  get_of_view (view_of_part (acknowledge_part q_ h_ ch seq s)) i_ j_
@[simp] theorem get_postWindow (h_ : ¬ o_.id ∈ Footprint.postWindow) (ch space : Nat) (d : List Byte) (s : State) (i_ j_ : Nat) :
    (postWindow ch space d s).get o_ i_ j_ = s.get o_ i_ j_ :=
  get_of_view (view_of_part (postWindow_part q_ h_ ch space d s)) i_ j_
@[simp] theorem get_skipDropped (h_ : ¬ o_.id ∈ Footprint.skipDropped) (m_ n_ : Nat) (s_ : State) (i_ j_ : Nat) :
    (skipDropped m_ n_ s_).get o_ i_ j_ = s_.get o_ i_ j_ :=
  get_of_view (view_of_part (skipDropped_part q_ h_ m_ n_ s_)) i_ j_
@[simp] theorem get_endWindow (h_ : ¬ o_.id ∈ Footprint.endWindow) (ch : Nat) (s : State) (i_ j_ : Nat) :
    (endWindow ch s).get o_ i_ j_ = s.get o_ i_ j_ :=
  get_of_view (view_of_part (endWindow_part q_ h_ ch s)) i_ j_
@[simp] theorem get_sendPush (h_ : ¬ o_.id ∈ Footprint.sendPush) (ch : Nat) (s : State) (i_ j_ : Nat) :
    (sendPush ch s).get o_ i_ j_ = s.get o_ i_ j_ :=
  get_of_view (view_of_part (sendPush_part q_ h_ ch s)) i_ j_
@[simp] theorem get_closeWindow (h_ : ¬ o_.id ∈ Footprint.closeWindow) (ch : Nat) (s : State) (i_ j_ : Nat) :
    (closeWindow ch s).get o_ i_ j_ = s.get o_ i_ j_ :=
  get_of_view (view_of_part (closeWindow_part q_ h_ ch s)) i_ j_
@[simp] theorem get_resendFrom (h_ : ¬ o_.id ∈ Footprint.resendFrom) (ch : Nat) (s : State) (i_ j_ : Nat) :
    (resendFrom ch s).get o_ i_ j_ = s.get o_ i_ j_ :=
  get_of_view (view_of_part (resendFrom_part q_ h_ ch s)) i_ j_
@[simp] theorem get_startCan (h_ : ¬ o_.id ∈ Footprint.startCan) (k : Nat) (s : State) (i_ j_ : Nat) :
    (startCan k s).get o_ i_ j_ = s.get o_ i_ j_ :=
  get_of_view (view_of_part (startCan_part q_ h_ k s)) i_ j_
@[simp] theorem get_queueFrameOf (h_ : ¬ o_.id ∈ Footprint.queueFrameOf) (m : Nat) (d : List Byte) (s : State) (i_ j_ : Nat) :
    (queueFrameOf m d s).get o_ i_ j_ = s.get o_ i_ j_ :=
  get_of_view (view_of_part (queueFrameOf_part q_ h_ m d s)) i_ j_
@[simp] theorem get_canIdle (h_ : ¬ o_.id ∈ Footprint.canIdle) (k : Nat) (s : State) (i_ j_ : Nat) :
    (canIdle k s).get o_ i_ j_ = s.get o_ i_ j_ :=
  get_of_view (view_of_part (canIdle_part q_ h_ k s)) i_ j_
@[simp] theorem get_markDeferred (h_ : ¬ o_.id ∈ Footprint.markDeferred) (m : Nat) (l : List FieldWrite) (s : State) (i_ j_ : Nat) :
    (markDeferred m l s).get o_ i_ j_ = s.get o_ i_ j_ :=
  get_of_view (view_of_part (markDeferred_part q_ h_ m l s)) i_ j_
@[simp] theorem get_storeFrame (h_ : ¬ o_.id ∈ Footprint.storeFrame) (m : Nat) (d : List Byte) (s : State) (i_ j_ : Nat) :
    (storeFrame m d s).get o_ i_ j_ = s.get o_ i_ j_ :=
  get_of_view (view_of_part (storeFrame_part q_ h_ m d s)) i_ j_
@[simp] theorem get_frameTaken (h_ : ¬ o_.id ∈ Footprint.frameTaken) (m : Nat) (s : State) (i_ j_ : Nat) :
    (frameTaken m s).get o_ i_ j_ = s.get o_ i_ j_ :=
  get_of_view (view_of_part (frameTaken_part q_ h_ m s)) i_ j_
@[simp] theorem get_takeCanFrame (h_ : ¬ o_.id ∈ Footprint.takeCanFrame) (m : Nat) (d : List Byte) (s : State) (i_ j_ : Nat) :
    (takeCanFrame m d s).get o_ i_ j_ = s.get o_ i_ j_ :=
  get_of_view (view_of_part (takeCanFrame_part q_ h_ m d s)) i_ j_
@[simp] theorem get_missOf (h_ : ¬ o_.id ∈ Footprint.missOf) (m : Nat) (s : State) (i_ j_ : Nat) :
    (missOf m s).get o_ i_ j_ = s.get o_ i_ j_ :=
  get_of_view (view_of_part (missOf_part q_ h_ m s)) i_ j_
@[simp] theorem get_endTtWindow (h_ : ¬ o_.id ∈ Footprint.endTtWindow) (k : Nat) (s : State) (i_ j_ : Nat) :
    (endTtWindow k s).get o_ i_ j_ = s.get o_ i_ j_ :=
  get_of_view (view_of_part (endTtWindow_part q_ h_ k s)) i_ j_
@[simp] theorem get_nextBasicCycle (h_ : ¬ o_.id ∈ Footprint.nextBasicCycle) (k : Nat) (s : State) (i_ j_ : Nat) :
    (nextBasicCycle k s).get o_ i_ j_ = s.get o_ i_ j_ :=
  get_of_view (view_of_part (nextBasicCycle_part q_ h_ k s)) i_ j_
@[simp] theorem get_judgeErrors (h_ : ¬ o_.id ∈ Footprint.judgeErrors) (k : Nat) (s : State) (i_ j_ : Nat) :
    (judgeErrors k s).get o_ i_ j_ = s.get o_ i_ j_ :=
  get_of_view (view_of_part (judgeErrors_part q_ h_ k s)) i_ j_
@[simp] theorem get_beginRecovery (h_ : ¬ o_.id ∈ Footprint.beginRecovery) (k : Nat) (s : State) (i_ j_ : Nat) :
    (beginRecovery k s).get o_ i_ j_ = s.get o_ i_ j_ :=
  get_of_view (view_of_part (beginRecovery_part q_ h_ k s)) i_ j_
@[simp] theorem get_coilFault (h_ : ¬ o_.id ∈ Footprint.coilFault) (cause : Int) (before : State) (l : List Nat) (s : State) (i_ j_ : Nat) :
    (coilFault cause before l s).get o_ i_ j_ = s.get o_ i_ j_ :=
  get_of_view (view_of_part (coilFault_part q_ h_ cause before l s)) i_ j_
@[simp] theorem get_latchOff (h_ : ¬ o_.id ∈ Footprint.latchOff) (c : Nat) (cause : Int) (s : State) (i_ j_ : Nat) :
    (latchOff c cause s).get o_ i_ j_ = s.get o_ i_ j_ :=
  get_of_view (view_of_part (latchOff_part q_ h_ c cause s)) i_ j_
@[simp] theorem get_keepRetries (h_ : ¬ o_.id ∈ Footprint.keepRetries) (c : Nat) (l : List Int) (s : State) (i_ j_ : Nat) :
    (keepRetries c l s).get o_ i_ j_ = s.get o_ i_ j_ :=
  get_of_view (view_of_part (keepRetries_part q_ h_ c l s)) i_ j_
@[simp] theorem get_restartCooled (h_ : ¬ o_.id ∈ Footprint.restartCooled) (c : Nat) (s : State) (i_ j_ : Nat) :
    (restartCooled c s).get o_ i_ j_ = s.get o_ i_ j_ :=
  get_of_view (view_of_part (restartCooled_part q_ h_ c s)) i_ j_
@[simp] theorem get_restartShed (h_ : ¬ o_.id ∈ Footprint.restartShed) (c : Nat) (s : State) (i_ j_ : Nat) :
    (restartShed c s).get o_ i_ j_ = s.get o_ i_ j_ :=
  get_of_view (view_of_part (restartShed_part q_ h_ c s)) i_ j_
@[simp] theorem get_groupMeasured (h_ : ¬ o_.id ∈ Footprint.groupMeasured) (g : Nat) (current : Int) (s : State) (i_ j_ : Nat) :
    (groupMeasured g current s).get o_ i_ j_ = s.get o_ i_ j_ :=
  get_of_view (view_of_part (groupMeasured_part q_ h_ g current s)) i_ j_
@[simp] theorem get_groupEvent (g : Nat) (current : Int) (shed : List Int) (s : State) (i_ j_ : Nat) :
    (groupEvent g current shed s).get o_ i_ j_ = s.get o_ i_ j_ :=
  get_of_view (view_of_part (groupEvent_part q_ g current shed s)) i_ j_
@[simp] theorem get_groupOver (h_ : ¬ o_.id ∈ Footprint.groupOver) (g : Nat) (s : State) (i_ j_ : Nat) :
    (groupOver g s).get o_ i_ j_ = s.get o_ i_ j_ :=
  get_of_view (view_of_part (groupOver_part q_ h_ g s)) i_ j_
@[simp] theorem get_supplyFault (h_ : ¬ o_.id ∈ Footprint.supplyFault) (b : Nat) (l : List Nat) (s : State) (i_ j_ : Nat) :
    (supplyFault b l s).get o_ i_ j_ = s.get o_ i_ j_ :=
  get_of_view (view_of_part (supplyFault_part q_ h_ b l s)) i_ j_
@[simp] theorem get_supplyReturn (h_ : ¬ o_.id ∈ Footprint.supplyReturn) (b : Nat) (l : List Nat) (s : State) (i_ j_ : Nat) :
    (supplyReturn b l s).get o_ i_ j_ = s.get o_ i_ j_ :=
  get_of_view (view_of_part (supplyReturn_part q_ h_ b l s)) i_ j_
@[simp] theorem get_groupBack (h_ : ¬ o_.id ∈ Footprint.groupBack) (g : Nat) (voltage : Nat) (s : State) (i_ j_ : Nat) :
    (groupBack g voltage s).get o_ i_ j_ = s.get o_ i_ j_ :=
  get_of_view (view_of_part (groupBack_part q_ h_ g voltage s)) i_ j_
@[simp] theorem get_offStateTest (h_ : ¬ o_.id ∈ Footprint.offStateTest) (c u : Nat) (s : State) (i_ j_ : Nat) :
    (offStateTest c u s).get o_ i_ j_ = s.get o_ i_ j_ :=
  get_of_view (view_of_part (offStateTest_part q_ h_ c u s)) i_ j_
@[simp] theorem get_sampleInput (h_ : ¬ o_.id ∈ Footprint.sampleInput) (n : Nat) (high : Bool) (s : State) (i_ j_ : Nat) :
    (sampleInput n high s).get o_ i_ j_ = s.get o_ i_ j_ :=
  get_of_view (view_of_part (sampleInput_part q_ h_ n high s)) i_ j_
@[simp] theorem get_confirmFault (h_ : ¬ o_.id ∈ Footprint.confirmFault) (n : Nat) (cause : Int) (s : State) (i_ j_ : Nat) :
    (confirmFault n cause s).get o_ i_ j_ = s.get o_ i_ j_ :=
  get_of_view (view_of_part (confirmFault_part q_ h_ n cause s)) i_ j_
@[simp] theorem get_countPass (h_ : ¬ o_.id ∈ Footprint.countPass) (n : Nat) (passed : Bool) (need : Int) (s : State) (i_ j_ : Nat) :
    (countPass n passed need s).get o_ i_ j_ = s.get o_ i_ j_ :=
  get_of_view (view_of_part (countPass_part q_ h_ n passed need s)) i_ j_
@[simp] theorem get_judgeOssd (h_ : ¬ o_.id ∈ Footprint.judgeOssd) (n : Nat) (pulse : Bool) (s : State) (i_ j_ : Nat) :
    (judgeOssd n pulse s).get o_ i_ j_ = s.get o_ i_ j_ :=
  get_of_view (view_of_part (judgeOssd_part q_ h_ n pulse s)) i_ j_
@[simp] theorem get_startTest (h_ : ¬ o_.id ∈ Footprint.startTest) (m : Nat) (s : State) (i_ j_ : Nat) :
    (startTest m s).get o_ i_ j_ = s.get o_ i_ j_ :=
  get_of_view (view_of_part (startTest_part q_ h_ m s)) i_ j_
@[simp] theorem get_abortTest (h_ : ¬ o_.id ∈ Footprint.abortTest) (m : Nat) (s : State) (i_ j_ : Nat) :
    (abortTest m s).get o_ i_ j_ = s.get o_ i_ j_ :=
  get_of_view (view_of_part (abortTest_part q_ h_ m s)) i_ j_
@[simp] theorem get_groupDisabled (h_ : ¬ o_.id ∈ Footprint.groupDisabled) (g : Nat) (s : State) (i_ j_ : Nat) :
    (groupDisabled g s).get o_ i_ j_ = s.get o_ i_ j_ :=
  get_of_view (view_of_part (groupDisabled_part q_ h_ g s)) i_ j_
@[simp] theorem get_groupEnabled (h_ : ¬ o_.id ∈ Footprint.groupEnabled) (g : Nat) (s : State) (i_ j_ : Nat) :
    (groupEnabled g s).get o_ i_ j_ = s.get o_ i_ j_ :=
  get_of_view (view_of_part (groupEnabled_part q_ h_ g s)) i_ j_
@[simp] theorem get_setOutput (h_ : ¬ o_.id ∈ Footprint.setOutput) (o : Nat) (s : State) (i_ j_ : Nat) :
    (setOutput o s).get o_ i_ j_ = s.get o_ i_ j_ :=
  get_of_view (view_of_part (setOutput_part q_ h_ o s)) i_ j_
@[simp] theorem get_setOutputs (h_ : ¬ o_.id ∈ Footprint.setOutputs) (s : State) (i_ j_ : Nat) :
    (setOutputs s).get o_ i_ j_ = s.get o_ i_ j_ :=
  get_of_view (view_of_part (setOutputs_part q_ h_ s)) i_ j_
@[simp] theorem get_startDueTests (h_ : ¬ o_.id ∈ Footprint.startDueTests) (s : State) (i_ j_ : Nat) :
    (startDueTests s).get o_ i_ j_ = s.get o_ i_ j_ :=
  get_of_view (view_of_part (startDueTests_part q_ h_ s)) i_ j_
@[simp] theorem get_tripFunction (h_ : ¬ o_.id ∈ Footprint.tripFunction) (k n : Nat) (s : State) (i_ j_ : Nat) :
    (tripFunction k n s).get o_ i_ j_ = s.get o_ i_ j_ :=
  get_of_view (view_of_part (tripFunction_part q_ h_ k n s)) i_ j_
@[simp] theorem get_judgeFunction (h_ : ¬ o_.id ∈ Footprint.judgeFunction) (edge : Bool) (k : Nat) (s : State) (i_ j_ : Nat) :
    (judgeFunction edge k s).get o_ i_ j_ = s.get o_ i_ j_ :=
  get_of_view (view_of_part (judgeFunction_part q_ h_ edge k s)) i_ j_
@[simp] theorem get_judgeStartUp (h_ : ¬ o_.id ∈ Footprint.judgeStartUp) (s : State) (i_ j_ : Nat) :
    (judgeStartUp s).get o_ i_ j_ = s.get o_ i_ j_ :=
  get_of_view (view_of_part (judgeStartUp_part q_ h_ s)) i_ j_
@[simp] theorem get_judgeFunctions (h_ : ¬ o_.id ∈ Footprint.judgeFunctions) (edge : Bool) (s : State) (i_ j_ : Nat) :
    (judgeFunctions edge s).get o_ i_ j_ = s.get o_ i_ j_ :=
  get_of_view (view_of_part (judgeFunctions_part q_ h_ edge s)) i_ j_
@[simp] theorem get_outputFault (h_ : ¬ o_.id ∈ Footprint.outputFault) (o : Nat) (cause : Int) (s : State) (i_ j_ : Nat) :
    (outputFault o cause s).get o_ i_ j_ = s.get o_ i_ j_ :=
  get_of_view (view_of_part (outputFault_part q_ h_ o cause s)) i_ j_
@[simp] theorem get_judgeReadBack (h_ : ¬ o_.id ∈ Footprint.judgeReadBack) (above5 above18 : Nat) (before : State) (s : State) (i_ j_ : Nat) :
    (judgeReadBack above5 above18 before s).get o_ i_ j_ = s.get o_ i_ j_ :=
  get_of_view (view_of_part (judgeReadBack_part q_ h_ above5 above18 before s)) i_ j_
@[simp] theorem get_hpStart (h_ : ¬ o_.id ∈ Footprint.hpStart) (s : State) (i_ j_ : Nat) :
    (hpStart s).get o_ i_ j_ = s.get o_ i_ j_ :=
  get_of_view (view_of_part (hpStart_part q_ h_ s)) i_ j_
@[simp] theorem get_testPulse (h_ : ¬ o_.id ∈ Footprint.testPulse) (k high : Nat) (s : State) (i_ j_ : Nat) :
    (testPulse k high s).get o_ i_ j_ = s.get o_ i_ j_ :=
  get_of_view (view_of_part (testPulse_part q_ h_ k high s)) i_ j_
@[simp] theorem get_enterSafeState (h_ : ¬ o_.id ∈ Footprint.enterSafeState) (diagnostic : Int) (s : State) (i_ j_ : Nat) :
    (enterSafeState diagnostic s).get o_ i_ j_ = s.get o_ i_ j_ :=
  get_of_view (view_of_part (enterSafeState_part q_ h_ diagnostic s)) i_ j_
@[simp] theorem get_resetHp (h_ : ¬ o_.id ∈ Footprint.resetHp) (s : State) (i_ j_ : Nat) :
    (resetHp s).get o_ i_ j_ = s.get o_ i_ j_ :=
  get_of_view (view_of_part (resetHp_part q_ h_ s)) i_ j_
@[simp] theorem get_endTest (h_ : ¬ o_.id ∈ Footprint.endTest) (m : Nat) (passed : Bool) (s : State) (i_ j_ : Nat) :
    (endTest m passed s).get o_ i_ j_ = s.get o_ i_ j_ :=
  get_of_view (view_of_part (endTest_part q_ h_ m passed s)) i_ j_
@[simp] theorem get_trimArchive (h_ : ¬ o_.id ∈ Footprint.trimArchive) (n_ : Nat) (s_ : State) (i_ j_ : Nat) :
    (trimArchive n_ s_).get o_ i_ j_ = s_.get o_ i_ j_ :=
  get_of_view (trimArchive_view q_ h_ n_ s_) i_ j_
@[simp] theorem get_showFill (h_ : ¬ o_.id ∈ Footprint.showFill) (s : State) (i_ j_ : Nat) :
    (showFill s).get o_ i_ j_ = s.get o_ i_ j_ :=
  get_of_view (view_of_part (showFill_part q_ h_ s)) i_ j_
@[simp] theorem get_journalFills (h_ : ¬ o_.id ∈ Footprint.journalFills) (s : State) (i_ j_ : Nat) :
    (journalFills s).get o_ i_ j_ = s.get o_ i_ j_ :=
  get_of_view (view_of_part (journalFills_part q_ h_ s)) i_ j_
@[simp] theorem get_beginCommit (h_ : ¬ o_.id ∈ Footprint.beginCommit) (s : State) (i_ j_ : Nat) :
    (beginCommit s).get o_ i_ j_ = s.get o_ i_ j_ :=
  get_of_view (beginCommit_view q_ h_ s) i_ j_
@[simp] theorem get_showContexts (h_ : ¬ o_.id ∈ Footprint.showContexts) (s : State) (i_ j_ : Nat) :
    (showContexts s).get o_ i_ j_ = s.get o_ i_ j_ :=
  get_of_view (view_of_part (showContexts_part q_ h_ s)) i_ j_
@[simp] theorem get_commitValid (h_ : ¬ o_.id ∈ Footprint.commitValid) (s : State) (i_ j_ : Nat) :
    (commitValid s).get o_ i_ j_ = s.get o_ i_ j_ :=
  get_of_view (commitValid_view q_ h_ s) i_ j_
@[simp] theorem get_continueNumbers (h_ : ¬ o_.id ∈ Footprint.continueNumbers) (s : State) (i_ j_ : Nat) :
    (continueNumbers s).get o_ i_ j_ = s.get o_ i_ j_ :=
  get_of_view (view_of_part (continueNumbers_part q_ h_ s)) i_ j_
@[simp] theorem get_recoverContext (h_ : ¬ o_.id ∈ Footprint.recoverContext) (c : Nat) (s : State) (i_ j_ : Nat) :
    (recoverContext c s).get o_ i_ j_ = s.get o_ i_ j_ :=
  get_of_view (view_of_part (recoverContext_part q_ h_ c s)) i_ j_
@[simp] theorem get_pushAgain (s : State) (i_ j_ : Nat) :
    (pushAgain s).get o_ i_ j_ = s.get o_ i_ j_ :=
  get_of_view (view_of_part (pushAgain_part q_ s)) i_ j_
@[simp] theorem get_chooseArea (h_ : ¬ o_.id ∈ Footprint.chooseArea) (newerBad : Bool) (s : State) (i_ j_ : Nat) :
    (chooseArea newerBad s).get o_ i_ j_ = s.get o_ i_ j_ :=
  get_of_view (view_of_part (chooseArea_part q_ h_ newerBad s)) i_ j_
@[simp] theorem get_recordReset (h_ : ¬ o_.id ∈ Footprint.recordReset) (s : State) (i_ j_ : Nat) :
    (recordReset s).get o_ i_ j_ = s.get o_ i_ j_ :=
  get_of_view (view_of_part (recordReset_part q_ h_ s)) i_ j_
@[simp] theorem get_reportLockstep (h_ : ¬ o_.id ∈ Footprint.reportLockstep) (s : State) (i_ j_ : Nat) :
    (reportLockstep s).get o_ i_ j_ = s.get o_ i_ j_ :=
  get_of_view (view_of_part (reportLockstep_part q_ h_ s)) i_ j_
@[simp] theorem get_drainShadow (h_ : ¬ o_.id ∈ Footprint.drainShadow) (s : State) (i_ j_ : Nat) :
    (drainShadow s).get o_ i_ j_ = s.get o_ i_ j_ :=
  get_of_view (view_of_part (drainShadow_part q_ h_ s)) i_ j_
@[simp] theorem get_reportReverted (s : State) (i_ j_ : Nat) :
    (reportReverted s).get o_ i_ j_ = s.get o_ i_ j_ :=
  get_of_view (reportReverted_view q_ s) i_ j_
@[simp] theorem get_retArea (h_ : ¬ o_.id ∈ Footprint.retArea) (owner : Nat) (s : State) (i_ j_ : Nat) :
    (retArea owner s).get o_ i_ j_ = s.get o_ i_ j_ :=
  get_of_view (view_of_part (retArea_part q_ h_ owner s)) i_ j_
@[simp] theorem get_acceptSwr (h_ : ¬ o_.id ∈ Footprint.acceptSwr) (s : State) (i_ j_ : Nat) :
    (acceptSwr s).get o_ i_ j_ = s.get o_ i_ j_ :=
  get_of_view (view_of_part (acceptSwr_part q_ h_ s)) i_ j_
@[simp] theorem get_finishCommit (h_ : ¬ o_.id ∈ Footprint.finishCommit) (s : State) (i_ j_ : Nat) :
    (finishCommit s).get o_ i_ j_ = s.get o_ i_ j_ :=
  get_of_view (finishCommit_view q_ h_ s) i_ j_
@[simp] theorem get_openWindow (h_ : ¬ o_.id ∈ Footprint.openWindow) (vaux : Nat) (s : State) (i_ j_ : Nat) :
    (openWindow vaux s).get o_ i_ j_ = s.get o_ i_ j_ :=
  get_of_view (view_of_part (openWindow_part q_ h_ vaux s)) i_ j_
@[simp] theorem get_showEpisode (h_ : ¬ o_.id ∈ Footprint.showEpisode) (s : State) (i_ j_ : Nat) :
    (showEpisode s).get o_ i_ j_ = s.get o_ i_ j_ :=
  get_of_view (view_of_part (showEpisode_part q_ h_ s)) i_ j_
@[simp] theorem get_resumeOutlet (h_ : ¬ o_.id ∈ Footprint.resumeOutlet) (n : Nat) (s : State) (i_ j_ : Nat) :
    (resumeOutlet n s).get o_ i_ j_ = s.get o_ i_ j_ :=
  get_of_view (view_of_part (resumeOutlet_part q_ h_ n s)) i_ j_
@[simp] theorem get_closeDip (h_ : ¬ o_.id ∈ Footprint.closeDip) (s : State) (i_ j_ : Nat) :
    (closeDip s).get o_ i_ j_ = s.get o_ i_ j_ :=
  get_of_view (view_of_part (closeDip_part q_ h_ s)) i_ j_
@[simp] theorem get_stopNextOutlet (h_ : ¬ o_.id ∈ Footprint.stopNextOutlet) (s : State) (i_ j_ : Nat) :
    (stopNextOutlet s).get o_ i_ j_ = s.get o_ i_ j_ :=
  get_of_view (view_of_part (stopNextOutlet_part q_ h_ s)) i_ j_
@[simp] theorem get_episodePasses (h_ : ¬ o_.id ∈ Footprint.episodePasses) (s : State) (i_ j_ : Nat) :
    (episodePasses s).get o_ i_ j_ = s.get o_ i_ j_ :=
  get_of_view (view_of_part (episodePasses_part q_ h_ s)) i_ j_
@[simp] theorem get_judgeCell (h_ : ¬ o_.id ∈ Footprint.judgeCell) (volts : Int) (fitted : Bool) (s : State) (i_ j_ : Nat) :
    (judgeCell volts fitted s).get o_ i_ j_ = s.get o_ i_ j_ :=
  get_of_view (view_of_part (judgeCell_part q_ h_ volts fitted s)) i_ j_
@[simp] theorem get_supplyRound (h_ : ¬ o_.id ∈ Footprint.supplyRound) (readings : List Nat) (fitted : Bool) (s : State) (i_ j_ : Nat) :
    (supplyRound readings fitted s).get o_ i_ j_ = s.get o_ i_ j_ :=
  get_of_view (view_of_part (supplyRound_part q_ h_ readings fitted s)) i_ j_
@[simp] theorem get_countIdleTime (h_ : ¬ o_.id ∈ Footprint.countIdleTime) (s : State) (i_ j_ : Nat) :
    (countIdleTime s).get o_ i_ j_ = s.get o_ i_ j_ :=
  get_of_view (view_of_part (countIdleTime_part q_ h_ s)) i_ j_
@[simp] theorem get_returnToRun (h_ : ¬ o_.id ∈ Footprint.returnToRun) (s : State) (i_ j_ : Nat) :
    (returnToRun s).get o_ i_ j_ = s.get o_ i_ j_ :=
  get_of_view (view_of_part (returnToRun_part q_ h_ s)) i_ j_
@[simp] theorem get_singleError (h_ : ¬ o_.id ∈ Footprint.singleError) (a : Nat) (s : State) (i_ j_ : Nat) :
    (singleError a s).get o_ i_ j_ = s.get o_ i_ j_ :=
  get_of_view (view_of_part (singleError_part q_ h_ a s)) i_ j_
@[simp] theorem get_leError (h_ : ¬ o_.id ∈ Footprint.leError) (slot : Nat) (s : State) (i_ j_ : Nat) :
    (leError slot s).get o_ i_ j_ = s.get o_ i_ j_ :=
  get_of_view (view_of_part (leError_part q_ h_ slot s)) i_ j_
@[simp] theorem get_nextRegion (h_ : ¬ o_.id ∈ Footprint.nextRegion) (s : State) (i_ j_ : Nat) :
    (nextRegion s).get o_ i_ j_ = s.get o_ i_ j_ :=
  get_of_view (view_of_part (nextRegion_part q_ h_ s)) i_ j_
@[simp] theorem get_saveRegion (h_ : ¬ o_.id ∈ Footprint.saveRegion) (singles doubles : List (Fin 64)) (s : State) (i_ j_ : Nat) :
    (saveRegion singles doubles s).get o_ i_ j_ = s.get o_ i_ j_ :=
  get_of_view (view_of_part (saveRegion_part q_ h_ singles doubles s)) i_ j_
@[simp] theorem get_marchFailure (h_ : ¬ o_.id ∈ Footprint.marchFailure) (s : State) (i_ j_ : Nat) :
    (marchFailure s).get o_ i_ j_ = s.get o_ i_ j_ :=
  get_of_view (view_of_part (marchFailure_part q_ h_ s)) i_ j_
@[simp] theorem get_keepRecord (h_ : ¬ o_.id ∈ Footprint.keepRecord) (p : Nat) (cycles : Int) (r : PhaseRecord) (s : State) (i_ j_ : Nat) :
    (keepRecord p cycles r s).get o_ i_ j_ = s.get o_ i_ j_ :=
  get_of_view (view_of_part (keepRecord_part q_ h_ p cycles r s)) i_ j_
@[simp] theorem get_launchCommand (h_ : ¬ o_.id ∈ Footprint.launchCommand) (c l : Nat) (body : List Byte) (s : State) (i_ j_ : Nat) :
    (launchCommand c l body s).get o_ i_ j_ = s.get o_ i_ j_ :=
  get_of_view (view_of_part (launchCommand_part q_ h_ c l body s)) i_ j_
@[simp] theorem get_dispatch (h_ : ¬ o_.id ∈ Footprint.dispatch) (c : Nat) (s : State) (i_ j_ : Nat) :
    (dispatch c s).get o_ i_ j_ = s.get o_ i_ j_ :=
  get_of_view (view_of_part (dispatch_part q_ h_ c s)) i_ j_
@[simp] theorem get_sendMirror (h_ : ¬ o_.id ∈ Footprint.sendMirror) (s : State) (i_ j_ : Nat) :
    (sendMirror s).get o_ i_ j_ = s.get o_ i_ j_ :=
  get_of_view (view_of_part (sendMirror_part q_ h_ s)) i_ j_
@[simp] theorem get_rampStep (h_ : ¬ o_.id ∈ Footprint.rampStep) (b : Nat) (s : State) (i_ j_ : Nat) :
    (rampStep b s).get o_ i_ j_ = s.get o_ i_ j_ :=
  get_of_view (view_of_part (rampStep_part q_ h_ b s)) i_ j_
@[simp] theorem get_fastClass (h_ : ¬ o_.id ∈ Footprint.fastClass) (mism again late : List Nat) (s : State) (i_ j_ : Nat) :
    (fastClass mism again late s).get o_ i_ j_ = s.get o_ i_ j_ :=
  get_of_view (fastClass_view q_ h_ mism again late s) i_ j_
@[simp] theorem get_settlePhase (h_ : ¬ o_.id ∈ Footprint.settlePhase) (p : Nat) (s : State) (i_ j_ : Nat) :
    (settlePhase p s).get o_ i_ j_ = s.get o_ i_ j_ :=
  get_of_view (view_of_part (settlePhase_part q_ h_ p s)) i_ j_
@[simp] theorem get_settleLevels (h_ : ¬ o_.id ∈ Footprint.settleLevels) (s : State) (i_ j_ : Nat) :
    (settleLevels s).get o_ i_ j_ = s.get o_ i_ j_ :=
  get_of_view (view_of_part (settleLevels_part q_ h_ s)) i_ j_
@[simp] theorem get_afterRole (h_ : ¬ o_.id ∈ Footprint.afterRole) (s : State) (i_ j_ : Nat) :
    (afterRole s).get o_ i_ j_ = s.get o_ i_ j_ :=
  get_of_view (view_of_part (afterRole_part q_ h_ s)) i_ j_
@[simp] theorem get_becomeIsolated (h_ : ¬ o_.id ∈ Footprint.becomeIsolated) (s : State) (i_ j_ : Nat) :
    (becomeIsolated s).get o_ i_ j_ = s.get o_ i_ j_ :=
  get_of_view (view_of_part (becomeIsolated_part q_ h_ s)) i_ j_
@[simp] theorem get_becomeStandby (h_ : ¬ o_.id ∈ Footprint.becomeStandby) (s : State) (i_ j_ : Nat) :
    (becomeStandby s).get o_ i_ j_ = s.get o_ i_ j_ :=
  get_of_view (view_of_part (becomeStandby_part q_ h_ s)) i_ j_
@[simp] theorem get_fenceNow (h_ : ¬ o_.id ∈ Footprint.fenceNow) (s : State) (i_ j_ : Nat) :
    (fenceNow s).get o_ i_ j_ = s.get o_ i_ j_ :=
  get_of_view (view_of_part (fenceNow_part q_ h_ s)) i_ j_
@[simp] theorem get_takeOver (h_ : ¬ o_.id ∈ Footprint.takeOver) (cause : Int) (s : State) (i_ j_ : Nat) :
    (takeOver cause s).get o_ i_ j_ = s.get o_ i_ j_ :=
  get_of_view (view_of_part (takeOver_part q_ h_ cause s)) i_ j_
@[simp] theorem get_hearLease (h_ : ¬ o_.id ∈ Footprint.hearLease) (x : Lease) (s : State) (i_ j_ : Nat) :
    (hearLease x s).get o_ i_ j_ = s.get o_ i_ j_ :=
  get_of_view (view_of_part (hearLease_part q_ h_ x s)) i_ j_
@[simp] theorem get_startJoin (h_ : ¬ o_.id ∈ Footprint.startJoin) (j : Nat) (s : State) (i_ j_ : Nat) :
    (startJoin j s).get o_ i_ j_ = s.get o_ i_ j_ :=
  get_of_view (view_of_part (startJoin_part q_ h_ j s)) i_ j_
@[simp] theorem get_adoptSlot (h_ : ¬ o_.id ∈ Footprint.adoptSlot) (i : Nat) (d : List Byte) (s : State) (i_ j_ : Nat) :
    (adoptSlot i d s).get o_ i_ j_ = s.get o_ i_ j_ :=
  get_of_view (view_of_part (adoptSlot_part q_ h_ i d s)) i_ j_
@[simp] theorem get_adoptBlock (h_ : ¬ o_.id ∈ Footprint.adoptBlock) (m : Mirror) (b : Nat) (s : State) (i_ j_ : Nat) :
    (adoptBlock m b s).get o_ i_ j_ = s.get o_ i_ j_ :=
  get_of_view (view_of_part (adoptBlock_part q_ h_ m b s)) i_ j_
@[simp] theorem get_adoptOutlet (h_ : ¬ o_.id ∈ Footprint.adoptOutlet) (m : Mirror) (n : Nat) (s : State) (i_ j_ : Nat) :
    (adoptOutlet m n s).get o_ i_ j_ = s.get o_ i_ j_ :=
  get_of_view (view_of_part (adoptOutlet_part q_ h_ m n s)) i_ j_
@[simp] theorem get_adoptChannel (h_ : ¬ o_.id ∈ Footprint.adoptChannel) (m : Mirror) (c : Nat) (s : State) (i_ j_ : Nat) :
    (adoptChannel m c s).get o_ i_ j_ = s.get o_ i_ j_ :=
  get_of_view (view_of_part (adoptChannel_part q_ h_ m c s)) i_ j_
@[simp] theorem get_adoptFunction (h_ : ¬ o_.id ∈ Footprint.adoptFunction) (m : Mirror) (k : Nat) (s : State) (i_ j_ : Nat) :
    (adoptFunction m k s).get o_ i_ j_ = s.get o_ i_ j_ :=
  get_of_view (view_of_part (adoptFunction_part q_ h_ m k s)) i_ j_
@[simp] theorem get_adoptMirror (h_ : ¬ o_.id ∈ Footprint.adoptMirror) (m : Mirror) (s : State) (i_ j_ : Nat) :
    (adoptMirror m s).get o_ i_ j_ = s.get o_ i_ j_ :=
  get_of_view (view_of_part (adoptMirror_part q_ h_ m s)) i_ j_
@[simp] theorem get_takeRecord (h_ : ¬ o_.id ∈ Footprint.takeRecord) (e : List Byte) (s : State) (i_ j_ : Nat) :
    (takeRecord e s).get o_ i_ j_ = s.get o_ i_ j_ :=
  get_of_view (view_of_part (takeRecord_part q_ h_ e s)) i_ j_
@[simp] theorem get_takeContext (h_ : ¬ o_.id ∈ Footprint.takeContext) (c : Nat) (d : List Byte) (s : State) (i_ j_ : Nat) :
    (takeContext c d s).get o_ i_ j_ = s.get o_ i_ j_ :=
  get_of_view (view_of_part (takeContext_part q_ h_ c d s)) i_ j_
@[simp] theorem get_takeRegSet (h_ : ¬ o_.id ∈ Footprint.takeRegSet) (c : Nat) (d : List Byte) (s : State) (i_ j_ : Nat) :
    (takeRegSet c d s).get o_ i_ j_ = s.get o_ i_ j_ :=
  get_of_view (view_of_part (takeRegSet_part q_ h_ c d s)) i_ j_
@[simp] theorem get_takeBoundary (h_ : ¬ o_.id ∈ Footprint.takeBoundary) (d : List Byte) (s : State) (i_ j_ : Nat) :
    (takeBoundary d s).get o_ i_ j_ = s.get o_ i_ j_ :=
  get_of_view (view_of_part (takeBoundary_part q_ h_ d s)) i_ j_
@[simp] theorem get_takeTopology (h_ : ¬ o_.id ∈ Footprint.takeTopology) (l : List Nat) (s : State) (i_ j_ : Nat) :
    (takeTopology l s).get o_ i_ j_ = s.get o_ i_ j_ :=
  get_of_view (view_of_part (takeTopology_part q_ h_ l s)) i_ j_
@[simp] theorem get_advanceTime (h_ : ¬ o_.id ∈ Footprint.advanceTime) (cycles : Int) (s : State) (i_ j_ : Nat) :
    (advanceTime cycles s).get o_ i_ j_ = s.get o_ i_ j_ :=
  get_of_view (view_of_part (advanceTime_part q_ h_ cycles s)) i_ j_
@[simp] theorem get_switchSet (h_ : ¬ o_.id ∈ Footprint.switchSet) (b : Nat) (s : State) (i_ j_ : Nat) :
    (switchSet b s).get o_ i_ j_ = s.get o_ i_ j_ :=
  get_of_view (view_of_part (switchSet_part q_ h_ b s)) i_ j_
@[simp] theorem get_loadLimits (h_ : ¬ o_.id ∈ Footprint.loadLimits) (s : State) (i_ j_ : Nat) :
    (loadLimits s).get o_ i_ j_ = s.get o_ i_ j_ :=
  get_of_view (view_of_part (loadLimits_part q_ h_ s)) i_ j_
@[simp] theorem get_clearFrame (h_ : ¬ o_.id ∈ Footprint.clearFrame) (s : State) (i_ j_ : Nat) :
    (clearFrame s).get o_ i_ j_ = s.get o_ i_ j_ :=
  get_of_view (view_of_part (clearFrame_part q_ h_ s)) i_ j_
@[simp] theorem get_missMirror (h_ : ¬ o_.id ∈ Footprint.missMirror) (s : State) (i_ j_ : Nat) :
    (missMirror s).get o_ i_ j_ = s.get o_ i_ j_ :=
  get_of_view (view_of_part (missMirror_part q_ h_ s)) i_ j_
@[simp] theorem get_watchLink (h_ : ¬ o_.id ∈ Footprint.watchLink) (s : State) (i_ j_ : Nat) :
    (watchLink s).get o_ i_ j_ = s.get o_ i_ j_ :=
  get_of_view (view_of_part (watchLink_part q_ h_ s)) i_ j_
@[simp] theorem get_takeLease (h_ : ¬ o_.id ∈ Footprint.takeLease) (s : State) (i_ j_ : Nat) :
    (takeLease s).get o_ i_ j_ = s.get o_ i_ j_ :=
  get_of_view (view_of_part (takeLease_part q_ h_ s)) i_ j_
@[simp] theorem get_pairStart (h_ : ¬ o_.id ∈ Footprint.pairStart) (s : State) (i_ j_ : Nat) :
    (pairStart s).get o_ i_ j_ = s.get o_ i_ j_ :=
  get_of_view (view_of_part (pairStart_part q_ h_ s)) i_ j_
@[simp] theorem get_nextFrame (h_ : ¬ o_.id ∈ Footprint.nextFrame) (s : State) (i_ j_ : Nat) :
    (nextFrame s).get o_ i_ j_ = s.get o_ i_ j_ :=
  get_of_view (view_of_part (nextFrame_part q_ h_ s)) i_ j_
@[simp] theorem get_trimEdge (p x : Nat) (peakOf max_ applied configured target : Obj) (s : State) (h_ : ¬ o_.id ∈ (Footprint.trimEdge peakOf max_ applied)) (i_ j_ : Nat) :
    (trimEdge p x peakOf max_ applied configured target s).get o_ i_ j_ = s.get o_ i_ j_ :=
  get_of_view (view_of_part (trimEdge_part q_ p x peakOf max_ applied configured target s h_)) i_ j_
@[simp] theorem get_trimPhase (h_ : ¬ o_.id ∈ Footprint.trimPhase) (p : Nat) (s : State) (i_ j_ : Nat) :
    (trimPhase p s).get o_ i_ j_ = s.get o_ i_ j_ :=
  get_of_view (view_of_part (trimPhase_part q_ h_ p s)) i_ j_
@[simp] theorem get_slowClass (h_ : ¬ o_.id ∈ Footprint.slowClass) (mism again late : List Nat) (s : State) (i_ j_ : Nat) :
    (slowClass mism again late s).get o_ i_ j_ = s.get o_ i_ j_ :=
  get_of_view (slowClass_view q_ h_ mism again late s) i_ j_
@[simp] theorem get_slowOverrun (h_ : ¬ o_.id ∈ Footprint.slowOverrun) (s : State) (i_ j_ : Nat) :
    (slowOverrun s).get o_ i_ j_ = s.get o_ i_ j_ :=
  get_of_view (view_of_part (slowOverrun_part q_ h_ s)) i_ j_
@[simp] theorem get_lastStage (h_ : ¬ o_.id ∈ Footprint.lastStage) (s : State) (i_ j_ : Nat) :
    (lastStage s).get o_ i_ j_ = s.get o_ i_ j_ :=
  get_of_view (view_of_part (lastStage_part q_ h_ s)) i_ j_
@[simp] theorem get_countHours (h_ : ¬ o_.id ∈ Footprint.countHours) (s : State) (i_ j_ : Nat) :
    (countHours s).get o_ i_ j_ = s.get o_ i_ j_ :=
  get_of_view (view_of_part (countHours_part q_ h_ s)) i_ j_
@[simp] theorem get_timeFirstSet (h_ : ¬ o_.id ∈ Footprint.timeFirstSet) (was : Int) (s : State) (i_ j_ : Nat) :
    (timeFirstSet was s).get o_ i_ j_ = s.get o_ i_ j_ :=
  get_of_view (view_of_part (timeFirstSet_part q_ h_ was s)) i_ j_
@[simp] theorem get_selectMaster (h_ : ¬ o_.id ∈ Footprint.selectMaster) (l : List (List Int)) (s : State) (i_ j_ : Nat) :
    (selectMaster l s).get o_ i_ j_ = s.get o_ i_ j_ :=
  get_of_view (view_of_part (selectMaster_part q_ h_ l s)) i_ j_
@[simp] theorem get_lockTime (h_ : ¬ o_.id ∈ Footprint.lockTime) (s : State) (i_ j_ : Nat) :
    (lockTime s).get o_ i_ j_ = s.get o_ i_ j_ :=
  get_of_view (view_of_part (lockTime_part q_ h_ s)) i_ j_
@[simp] theorem get_setTime (h_ : ¬ o_.id ∈ Footprint.setTime) (v : Int) (s : State) (i_ j_ : Nat) :
    (setTime v s).get o_ i_ j_ = s.get o_ i_ j_ :=
  get_of_view (view_of_part (setTime_part q_ h_ v s)) i_ j_
@[simp] theorem get_createContext (h_ : ¬ o_.id ∈ Footprint.createContext) (c : Nat) (st : Int) (s : State) (i_ j_ : Nat) :
    (createContext c st s).get o_ i_ j_ = s.get o_ i_ j_ :=
  get_of_view (view_of_part (createContext_part q_ h_ c st s)) i_ j_
@[simp] theorem get_reachStage (h_ : ¬ o_.id ∈ Footprint.reachStage) (k : Int) (s : State) (i_ j_ : Nat) :
    (reachStage k s).get o_ i_ j_ = s.get o_ i_ j_ :=
  get_of_view (reachStage_view q_ h_ k s) i_ j_
@[simp] theorem get_readStraps (h_ : ¬ o_.id ∈ Footprint.readStraps) (simplexOpen slotOpen : Bool) (s : State) (i_ j_ : Nat) :
    (readStraps simplexOpen slotOpen s).get o_ i_ j_ = s.get o_ i_ j_ :=
  get_of_view (view_of_part (readStraps_part q_ h_ simplexOpen slotOpen s)) i_ j_
@[simp] theorem get_chooseMetrology (h_ : ¬ o_.id ∈ Footprint.chooseMetrology) (s : State) (i_ j_ : Nat) :
    (chooseMetrology s).get o_ i_ j_ = s.get o_ i_ j_ :=
  get_of_view (view_of_part (chooseMetrology_part q_ h_ s)) i_ j_
@[simp] theorem get_showImages (h_ : ¬ o_.id ∈ Footprint.showImages) (s : State) (i_ j_ : Nat) :
    (showImages s).get o_ i_ j_ = s.get o_ i_ j_ :=
  get_of_view (view_of_part (showImages_part q_ h_ s)) i_ j_
@[simp] theorem get_reenter (e : List Byte) (s : State) (i_ j_ : Nat) :
    (reenter e s).get o_ i_ j_ = s.get o_ i_ j_ :=
  get_of_view (view_of_part (reenter_part q_ e s)) i_ j_
@[simp] theorem get_tellLost (h_ : ¬ o_.id ∈ Footprint.tellLost) (k : Nat) (s : State) (i_ j_ : Nat) :
    (tellLost k s).get o_ i_ j_ = s.get o_ i_ j_ :=
  get_of_view (view_of_part (tellLost_part q_ h_ k s)) i_ j_
@[simp] theorem get_startTrim (h_ : ¬ o_.id ∈ Footprint.startTrim) (p : Nat) (s : State) (i_ j_ : Nat) :
    (startTrim p s).get o_ i_ j_ = s.get o_ i_ j_ :=
  get_of_view (view_of_part (startTrim_part q_ h_ p s)) i_ j_
@[simp] theorem get_afterRead (h_ : ¬ o_.id ∈ Footprint.afterRead) (o : Obj) (i : Nat) (s : State) (i_ j_ : Nat) :
    (afterRead o i s).get o_ i_ j_ = s.get o_ i_ j_ :=
  get_of_view (view_of_part (afterRead_part q_ h_ o i s)) i_ j_
@[simp] theorem get_endPartly (w : Waiting) (s : State) (i_ j_ : Nat) :
    (endPartly w s).get o_ i_ j_ = s.get o_ i_ j_ :=
  get_of_view (view_of_part (endPartly_part q_ w s)) i_ j_
@[simp] theorem get_endResponse (h_ : ¬ o_.id ∈ Footprint.endResponse) (tag : Nat) (s : State) (i_ j_ : Nat) :
    (endResponse tag s).get o_ i_ j_ = s.get o_ i_ j_ :=
  get_of_view (view_of_part (endResponse_part q_ h_ tag s)) i_ j_
@[simp] theorem get_termRecord (h_ : ¬ o_.id ∈ Footprint.termRecord) (mode len : Int) (frame p : Nat) (r : PhaseRecord) (s : State) (i_ j_ : Nat) :
    (termRecord mode len frame p r s).get o_ i_ j_ = s.get o_ i_ j_ :=
  get_of_view (view_of_part (termRecord_part q_ h_ mode len frame p r s)) i_ j_
@[simp] theorem get_termAccept (h_ : ¬ o_.id ∈ Footprint.termAccept) (c : Nat) (late : Bool) (f : List Byte) (s : State) (i_ j_ : Nat) :
    (termAccept c late f s).get o_ i_ j_ = s.get o_ i_ j_ :=
  get_of_view (view_of_part (termAccept_part q_ h_ c late f s)) i_ j_
@[simp] theorem get_termHold (h_ : ¬ o_.id ∈ Footprint.termHold) (c : Nat) (s : State) (i_ j_ : Nat) :
    (termHold c s).get o_ i_ j_ = s.get o_ i_ j_ :=
  get_of_view (view_of_part (termHold_part q_ h_ c s)) i_ j_
@[simp] theorem get_termSafeOff (h_ : ¬ o_.id ∈ Footprint.termSafeOff) (c : Nat) (s : State) (i_ j_ : Nat) :
    (termSafeOff c s).get o_ i_ j_ = s.get o_ i_ j_ :=
  get_of_view (view_of_part (termSafeOff_part q_ h_ c s)) i_ j_
@[simp] theorem get_termFaultOff (h_ : ¬ o_.id ∈ Footprint.termFaultOff) (p cause : Nat) (s : State) (i_ j_ : Nat) :
    (termFaultOff p cause s).get o_ i_ j_ = s.get o_ i_ j_ :=
  get_of_view (view_of_part (termFaultOff_part q_ h_ p cause s)) i_ j_
end

end Sys2Proof.Machine
end

