-- ==== Sys2Proof/WellFormed.lean ====
section
/-!
DEFINITION. Well-formed commands: the fields of a request lie in the widths that the protocol gives them. Every other
operand is bounded by its type.
-/

namespace Sys2Proof

/-- The fields of a CAN trailer (R283). -/
def Trailer.wf (t : Trailer) : Bool := 1 ≤ t.role && t.role ≤ 5 && t.counter < 2 ^ 32 && t.mac.length == 8

/-- The fields that vouch for a request: U32 identifier and U64 sequence of a session with 16-byte tags (R281, R305), port 0 or
1, and the priority and node address of Table 12.7. -/
def Auth.wf : Auth → Bool
  | .session x seq macs => x < 2 ^ 32 && seq < 2 ^ 64 && macs.all fun m => m.length == 16
  | .plain port => port < 2
  | .can prio node none => prio < 8 && 1 ≤ node && node < 64
  | .can prio node (some t) => prio < 8 && 1 ≤ node && node < 64 && t.wf

/-- Tag of 8 bits, epoch of 4 bits (R297, R298). -/
def Req.wf (r : Req) : Bool := r.tag < 256 && r.epoch < 16 && r.auth.wf

/-- A transfer carries up to 65 536 bytes (R306, R309). -/
def transferFits (d : List Byte) : Bool := d.length ≤ 65536

/-- A well-formed command. -/
def Instr.wf : Instr → Bool
  | .frameStart => true
  | .telemetryFrame _ _ _ => true
  | .telemetryDeadline => true
  | .staleLimitReached _ => true
  | .fastClassEvaluation _ _ _ _ _ => true
  | .mismatchFreePeriodEnd => true
  | .fastClassDeadline => true
  | .fastClassOverrunLimit => true
  | .commandDispatch _ => true
  | .dispatchDeadline _ => true
  | .allocatorFastPass => true
  | .allocatorFastPassOverrun => true
  | .fastPassOverrunLimit => true
  | .slowTick _ _ _ => true
  | .housekeepingRound _ _ _ _ => true
  | .allocationPassComplete => true
  | .eyeScanComplete _ _ _ => true
  | .duneDepthWrite r data => r.wf && transferFits data
  | .duneDepthApplied => true
  | .samplingLeadWrite r data => r.wf && transferFits data
  | .ptpSync _ _ _ => true
  | .ptpAnnounce _ => true
  | .ptpDelayResp _ _ => true
  | .ptpLockLost => true
  | .holdoverTimeout => true
  | .moduleTimeWrite r data => r.wf && transferFits data
  | .rtcUpdate => true
  | .clockCheck _ => true
  | .pllLockLost => true
  | .porRelease _ _ _ _ => true
  | .imageVerified => true
  | .journalMount _ _ _ _ _ => true
  | .dictionaryAvailable _ => true
  | .roleEstablished => true
  | .startupStageTimeout => true
  | .topologyCheck => true
  | .topologyCheckComplete => true
  | .runTopologyCheck r => r.wf
  | .linkBringUp _ => true
  | .restartBringUp r _ data => r.wf && transferFits data
  | .ckuDetected _ => true
  | .trainingFrame _ _ _ _ => true
  | .alignComplete _ => true
  | .identityRead _ => true
  | .configurationCrcReturned _ => true
  | .bringUpTimeout _ => true
  | .serviceFrame _ _ _ => true
  | .serviceResendTimeout _ _ => true
  | .linkLostKeepAliveEnd _ => true
  | .linkLostRetry _ => true
  | .firmwareDataWrite r _ data => r.wf && transferFits data
  | .activateTerminalFirmware r _ data => r.wf && transferFits data
  | .terminalCommandAccept _ _ _ => true
  | .terminalHold _ => true
  | .terminalSafeOff _ => true
  | .terminalPhaseFault _ _ => true
  | .blockStartRequest _ => true
  | .blockStopRequest _ => true
  | .outputDischargeWaitEnd _ => true
  | .outputDischargeTimeout _ => true
  | .shortedHighSideEvaluation _ => true
  | .startDelayEnd _ => true
  | .gateDriveReady _ => true
  | .gateDriveTimeout _ => true
  | .rampOnComplete _ => true
  | .rampOffComplete _ => true
  | .stopDelayEnd _ => true
  | .clearOverVoltageLatch r _ data => r.wf && transferFits data
  | .retryDelayEnd _ => true
  | .clearLockout r _ data => r.wf && transferFits data
  | .phaseShed _ => true
  | .presetOutput r _ data => r.wf && transferFits data
  | .clearIntegrator r _ data => r.wf && transferFits data
  | .parentSlotWrite r _ _ data => r.wf && transferFits data
  | .startInjection r => r.wf
  | .stopInjection r => r.wf
  | .injectionLengthReached => true
  | .startCapture r => r.wf
  | .stopCapture r => r.wf
  | .captureComplete => true
  | .planningPass _ => true
  | .planningPassTimeout => true
  | .dynamicLimitWrite r data => r.wf && transferFits data
  | .dynamicLimitExpiry => true
  | .mainsPresentHoldEnd _ => true
  | .migrationStart _ => true
  | .migrationReachOpen _ => true
  | .migrationWaitEnd _ => true
  | .migrationPreChargeDone _ => true
  | .migrationClosedReported _ => true
  | .migrationSettled _ => true
  | .migrationOpenTimeout _ => true
  | .migrationPreChargeTimeout _ => true
  | .migrationCloseTimeout _ => true
  | .clearWithhold r _ data => r.wf && transferFits data
  | .pilotStateChange _ _ => true
  | .proximityStateChange _ _ => true
  | .hvilStateChange _ _ => true
  | .contactorFeedbackFault _ _ => true
  | .clearContactorFault r _ data => r.wf && transferFits data
  | .cmSlacParmReq _ _ => true
  | .slacRunArbitration _ _ => true
  | .sdpRequest _ _ => true
  | .tcpConnection _ => true
  | .supportedAppProtocol _ _ => true
  | .communicationLost _ => true
  | .vehicleIdentified _ _ _ _ _ => true
  | .authorisationRequest _ => true
  | .authorisationWrite r _ data => r.wf && transferFits data
  | .authorisationTimeout _ => true
  | .certificateRequest _ _ => true
  | .certificateResponseWrite r _ data => r.wf && transferFits data
  | .certificateTimeout _ => true
  | .cableCheckReq _ => true
  | .imdStatusFrame _ _ => true
  | .imdSilent _ => true
  | .imdKeepAlive _ => true
  | .outletContactorsClosed _ => true
  | .cableCheckRampEnd _ => true
  | .cableCheckTimeout _ => true
  | .preChargeReq _ _ => true
  | .preChargeCurrentExceeded _ => true
  | .powerDeliveryStart _ => true
  | .preChargeTimeout _ => true
  | .currentDemandReq _ _ _ _ _ _ _ _ => true
  | .demandSilenceTimeout _ => true
  | .evOverVoltage _ => true
  | .powerDeliveryStop _ => true
  | .stopCurrentDecayed _ => true
  | .stopCurrentTimeout _ => true
  | .outputDischarged _ => true
  | .vehicleVoltageRemains _ => true
  | .outletContactorsOpen _ => true
  | .weldTestHalfComplete _ => true
  | .emergencyOpenDelay _ => true
  | .noCapacityTimeout _ => true
  | .stopSessionNormal r _ => r.wf
  | .stopSessionEmergency r _ => r.wf
  | .createPending r _ => r.wf
  | .createReserved r _ => r.wf
  | .cancel r _ => r.wf
  | .contextNormalStop r _ => r.wf
  | .contextEmergencyStop r _ => r.wf
  | .contextExpiry _ => true
  | .coolantStatusFrame _ _ => true
  | .coolantUnitSilent _ => true
  | .metrologySample _ => true
  | .noMains _ => true
  | .mainsReturned _ => true
  | .meteringSecond => true
  | .channelFault _ _ => true
  | .channelFaultCleared _ => true
  | .pulseEmit _ => true
  | .theftWatchBurst _ => true
  | .crossCheckWindowEnd _ => true
  | .meteringValuesSync _ => true
  | .sealOpened => true
  | .sealClosed => true
  | .metrologyImageData r data => r.wf && transferFits data
  | .activateMetrologyImage r => r.wf
  | .clearTheftLog r => r.wf
  | .tariffSlotSwitch => true
  | .demandIntervalEnd => true
  | .billingPeriodClose => true
  | .closePeriod r => r.wf
  | .calendarActivationWrite r data => r.wf && transferFits data
  | .calendarActivation => true
  | .dstChange => true
  | .boundaryRecordCommitted => true
  | .recordSealed _ => true
  | .recordSelect r data => r.wf && transferFits data
  | .collectRecord r data => r.wf && transferFits data
  | .releaseUpTo r data => r.wf && transferFits data
  | .tamperInputChange _ _ => true
  | .magneticCheck _ _ => true
  | .runMagneticTest r data => r.wf && transferFits data
  | .requestField r => r.wf
  | .requestService r => r.wf
  | .requestRetired r => r.wf
  | .retiredConfirmLapse => true
  | .transitionComplete _ => true
  | .fieldMeteringKeyVersion r data => r.wf && transferFits data
  | .reMask => true
  | .blobRewrap => true
  | .healthTestFailed _ => true
  | .randomSourceRestart _ => true
  | .attestationNonce r nonce => r.wf && transferFits nonce
  | .roleKeyWrite r _ data => r.wf && transferFits data
  | .canRoleKeyWrite r _ data => r.wf && transferFits data
  | .generateSeccKeyP256 r => r.wf
  | .generateSeccKeyP521 r => r.wf
  | .generateSeccKeyEd448 r => r.wf
  | .imageDataWrite r data => r.wf && transferFits data
  | .activateImage r => r.wf
  | .confirmTrialImage r => r.wf
  | .open _ _ _ _ _ => true
  | .confirm _ _ _ _ _ _ => true
  | .close r => r.wf
  | .sessionIdleTimeout => true
  | .sessionLifetimeEnd => true
  | .openingLockoutEnd => true
  | .read r index sub => r.wf && index < 65536 && sub < 256
  | .write r index sub data => r.wf && index < 65536 && sub < 256 && transferFits data
  | .abort r => r.wf
  | .blockAck _ => true
  | .requestIncomplete _ _ => true
  | .canTransferTimeout _ => true
  | .commitConfiguration r => r.wf
  | .commitComplete => true
  | .discardChanges r => r.wf
  | .windowPost r _ data => r.wf && transferFits data
  | .pushData _ => true
  | .windowFlush _ => true
  | .pushResend _ => true
  | .pushNoWindow _ => true
  | .exportLog r data => r.wf && transferFits data
  | .canFrameReceived _ _ _ _ _ _ => true
  | .canDataWrite r _ data => r.wf && transferFits data
  | .canSendPeriod _ => true
  | .canFrameSent _ => true
  | .canObjectChange r _ _ data => r.wf && transferFits data
  | .canAbort r _ => r.wf
  | .deadlineMiss _ => true
  | .ttEnter r _ => r.wf
  | .ttLeave r _ => r.wf
  | .ttWindowMark _ => true
  | .canBusError _ _ _ => true
  | .busOff _ => true
  | .busOffRecoveryRequest _ => true
  | .busOffRecovered _ => true
  | .restartController r _ => r.wf
  | .bitTimingApply _ => true
  | .busMonitoringExit _ => true
  | .crossingMissing => true
  | .claimRound _ => true
  | .status _ _ => true
  | .alarm _ _ => true
  | .ack _ _ => true
  | .sound _ _ => true
  | .map _ _ => true
  | .responseTimeoutRepeat => true
  | .poll _ => true
  | .outstationCommand r _ data => r.wf && transferFits data
  | .estimationDue _ _ => true
  | .loadSwitchCommand r _ data => r.wf && transferFits data
  | .hardShort _ _ => true
  | .inrushOverCurrent _ _ => true
  | .steadyOverCurrent _ _ => true
  | .inrushWindowEnd _ => true
  | .thermalShutdown _ _ => true
  | .junctionCooled _ _ => true
  | .clearLatch r _ => r.wf
  | .groupOverCurrent _ _ => true
  | .groupUndervoltage _ _ => true
  | .shedRestart _ _ => true
  | .coilTurnOnRelease _ _ => true
  | .groupOverVoltage _ _ => true
  | .lossOfGround _ => true
  | .supplyFaultReturn _ _ _ => true
  | .hpCycle _ _ _ _ _ => true
  | .testPulse _ _ => true
  | .offPulse _ _ _ => true
  | .hpSafeState _ => true
  | .hpWatchdog => true
  | .startBrakeTest r _ => r.wf
  | .testTorqueApplied r _ _ => r.wf
  | .brakeTestHoldEnd _ _ => true
  | .torqueConfirmTimeout _ => true
  | .brakeTestDue _ => true
  | .clearBrakeLockout r _ => r.wf
  | .clearOutputFault r data => r.wf && transferFits data
  | .confirmConfiguration r data => r.wf && transferFits data
  | .outputDemand r data => r.wf && transferFits data
  | .becomeActive r => r.wf
  | .activeLineSample _ => true
  | .isolate r => r.wf
  | .handOver r => r.wf
  | .join r => r.all Req.wf
  | .request _ => true
  | .grant _ => true
  | .grantDeadline => true
  | .leaseExpiry _ => true
  | .takeover _ => true
  | .release _ => true
  | .accept _ => true
  | .refuse _ => true
  | .resign _ => true
  | .resignAck _ => true
  | .partnerActiveLineChange _ => true
  | .mirrorFrame _ _ => true
  | .configurationSync _ => true
  | .syncAckTimeout => true
  | .fullSyncComplete _ _ _ => true
  | .joinFailed _ => true
  | .joinRetry => true
  | .fencedTimeout => true
  | .healthReport => true
  | .heartbeat => true
  | .supplyWarning _ => true
  | .windowRecovery _ => true
  | .dipCommitPeriod => true
  | .dipEpisodeLimit => true
  | .stagedSessionStop => true
  | .dipEpisodeEnd _ => true
  | .brownOut _ _ => true
  | .watchdogReset _ => true
  | .softwareResetQuiet r => r.wf
  | .softwareResetAtOnce r => r.wf
  | .softwareResetAssert => true
  | .enterIdle => true
  | .wake r => r.wf
  | .cellReplaced r => r.wf
  | .reverseInput _ _ => true
  | .gateOn _ _ => true
  | .vauxOverVoltage _ => true
  | .ethernetLinkUp _ _ _ => true
  | .lockstepMismatch _ => true
  | .poolSingleBitError _ => true
  | .poolDoubleBitError _ _ _ _ => true
  | .ownerRegisterWrite _ _ _ => true
  | .xdGrant _ _ _ => true
  | .siltRegionTest _ _ _ => true
  | .siltTestAbandon _ _ => true
  | .journalCommit => true
  | .commitValid => true
  | .batchHoldEnd => true
  | .programVerifyFailed _ => true
  | .cellInserted _ => true
  | .rtcMinuteCellCheck _ _ => true
  | .internalRailFault _ => true
  | .resyncTimeout => true
  | .vehicleRequest _ _ _ _ _ _ => true

end Sys2Proof
end

