-- ==== Sys2Proof/Tests/Slice0.lean ====
section
/-!
SUPPORT. Tests: that each statement's hypotheses can be met, that the check of well-formedness refuses each ill-formed
term, and that the model agrees with the numbers of the spec's worked examples.
-/

namespace Sys2Proof.Machine

set_option Elab.async false
set_option maxRecDepth 4000
set_option linter.unusedVariables false

/-! ### A request that is let through -/

/-- A confirmed session of a role. -/
def testSession (role : Nat) : Session := ⟨7, role, 0, 0, false, [], [], [], [], [], 0, 0, 0, 0⟩

/-- The GCM tags of a transfer of a function in that session. -/
def testMacs (fn role index sub : Nat) (d : List Byte) : List (List Byte) :=
  ((List.range (segmentsOf d).length).zip (segmentsOf d)).map fun x =>
    Config.gcmTag (testSession role).keyIn ((testSession role).saltIn ++ beBytes 8 (1 + x.1 : Nat))
      (udpHeader fn 1 0 index sub x.1 (x.1 + 1 == (segmentsOf d).length) x.2.length ++ beBytes 4 (testSession role).ident ++
        beBytes 8 (1 + x.1 : Nat)) x.2

/-- A whole request of a function in that session. -/
def testReqAs (fn role index sub : Nat) (d : List Byte) : Req :=
  { auth := .session 7 1 (testMacs fn role index sub d), tag := 1, epoch := 0, complete := true }

/-- A whole write request of an object in that session. -/
def testReq (role : Nat) (o : Obj) (i j : Nat) (d : List Byte) : Req := testReqAs 2 role (o.index i) (o.sub + o.subStep * j) d

/-- The state in which the session is open. -/
def inSession (role : Nat) (s : State) : State := { s with sessions := [testSession role] }

/-- The state after the request is authenticated. -/
def afterAuth (role : Nat) (d : List Byte) (s : State) : State :=
  { touchSession { inSession role s with out := [] } 7 (1 + (segmentsOf d).length - 1) with waiting := [] }

theorem macsGood_testMacs (fn role index sub : Nat) (d : List Byte) :
    macsGood (testSession role) fn 1 0 index sub 1 d (testMacs fn role index sub d) = true := by
  have g (f : Nat → List Byte → List Byte) (k : List Nat) (l : List (List Byte)) (h : k.length = l.length) :
      (k.zip (l.zip ((k.zip l).map fun x => f x.1 x.2))).all (fun x => f x.1 x.2.1 == x.2.2) = true := by
    induction k generalizing l with
    | nil => rfl
    | cons a k ih =>
      cases l with
      | nil => rfl
      | cons b l =>
        simp only [List.zip_cons_cons, List.map_cons, List.all_cons, beq_self_eq_true, Bool.true_and]
        exact ih l (by simpa using h)
  unfold macsGood testMacs
  have l : ((segmentsOf d).length) = (List.range (segmentsOf d).length).length := by simp
  rw [Bool.and_eq_true]
  refine ⟨by simp, ?_⟩
  exact g (fun k p => Config.gcmTag (testSession role).keyIn ((testSession role).saltIn ++ beBytes 8 (1 + k : Nat))
      (udpHeader fn 1 0 index sub k (k + 1 == (segmentsOf d).length) p.length ++ beBytes 4 (testSession role).ident ++
        beBytes 8 (1 + k : Nat)) p) _ _ l.symm

/-- A request of that session is authenticated. -/
theorem authenticated_testReq (fn role index sub : Nat) (d : List Byte) (s : State) (h : 4 ≤ s.get Obj.startUpStage) :
    authenticate (testReqAs fn role index sub d) fn index sub d { inSession role s with out := [] } =
      .accept (touchSession { inSession role s with out := [] } 7 (1 + (segmentsOf d).length - 1)) 7 role false := by
  have a : serves { inSession role s with out := [] } (testReqAs fn role index sub d) index = true := by
    unfold serves
    rw [Bool.or_eq_true]
    exact .inl (decide_eq_true h)
  have b : findSession { inSession role s with out := [] } 7 = some (testSession role) := rfl
  unfold authenticate
  rw [a]
  simp only [not_true_eq_false, if_false, testReqAs, b]
  exact if_pos (show (testSession role).lastIn < 1 ∧ macsGood (testSession role) fn 1 0 index sub 1 d
    (testMacs fn role index sub d) = true from ⟨Nat.zero_lt_one, macsGood_testMacs _ _ _ _ _⟩)

/-- It is accepted where nothing waits. -/
theorem judged_testReq (fn role index sub : Nat) (d : List Byte) (s : State) (w : s.waiting = []) (q : outstanding (afterAuth role d s) = 0)
    (h : 4 ≤ s.get Obj.startUpStage) :
    judgeRequest (testReqAs fn role index sub d) fn index sub d { inSession role s with out := [] } =
      .accept (afterAuth role d s) 7 role false := by
  unfold judgeRequest
  rw [authenticated_testReq fn role index sub d s h]
  have t : tagBusy (touchSession { inSession role s with out := [] } 7 (1 + (segmentsOf d).length - 1)) 7
      (testReqAs fn role index sub d).tag = false := by
    unfold tagBusy touchSession inSession
    simp [w]
  have e : (touchSession { inSession role s with out := [] } 7 (1 + (segmentsOf d).length - 1)).waiting = [] := w
  dsimp only
  rw [t, e]
  simp only [Bool.false_eq_true, if_false, List.filter_nil]
  exact if_neg (show ¬ 128 ≤ outstanding (afterAuth role d s) by rw [q]; decide)

/-- A write request of that session is let through where R4 and R302 let it. -/
theorem granted_testReq {role : Nat} {o : Obj} {i j : Nat} {d : List Byte} (s : State) (w : s.waiting = []) (q : outstanding (afterAuth role d s) = 0)
    (h : 4 ≤ s.get Obj.startUpStage) (v : writeStatus (afterAuth role d s) o i role d = 0)
    (f : roleForbids (afterAuth role d s) (o.index i) = false) :
    Granted (testReq role o i j d) o i j d role 7 (inSession role s) (afterAuth role d s) :=
  ⟨rfl, judged_testReq 2 role _ _ d s w q h, v, f⟩

/-- A header of a mains-link frame that outstation 1 sends with sequence 1: its type and eight payload bytes. -/
def testHeader (typ : Nat) (payload : List Byte) : List Byte :=
  let h : List Byte := [0, BitVec.ofNat 8 (16 + typ), 0x10, 0, 0] ++ payload
  h ++ beBytes 2 (crc16 h)

/-- A lease frame of the partner: opcode, frame number and role. -/
def testLease (op frame role : Nat) : List Byte :=
  let b : List Byte := [0x15] ++ beBytes 1 op ++ [0, 1] ++ beBytes 8 frame ++ [16] ++ beBytes 1 role ++ [90, 7, 0, 0, 0, 1, 0, 0, 0, 0, 0, 0, 0, 0]
  b ++ beBytes 4 (crc32 b)

/-- One module of a pair, in a role. -/
def testPair (role : Int) : State := (State.reset.set Obj.backplane 1).set Obj.role role

/-- A mirror of a frame. -/
def testMirror (frame : Nat) : Mirror := ⟨frame, 0, 0, 0, [], [], [], [], [], [], [], [], [], 0⟩

/-- A started module with 128 transactions outstanding. -/
def testFull : State :=
  { State.reset.set Obj.startUpStage 4 with waiting := List.replicate 128 ⟨9, 200, 0, 0x82, Boundary.atOnce, false, 0, 2, false, []⟩ }

/-- A module in which block 63 may start. -/
def testStartable : State :=
  ((((((((State.reset.set Obj.blockState 0 63).set Reg.tmBusVoltage 9000 15).forN 4
    (fun k u => u.set Obj.phaseState phOff (252 + k))).set Obj.linkState lkRun 15).set Reg.blockPassed 1 63).set
      Reg.cabPassed 1 15).set Obj.powerState pwRun).set Obj.role roSolo).set Obj.lifeCycleState lcField

/-! ### The hypotheses of each statement are met -/

theorem test_meets_StepTakesFrontCommand :
    (∃ (s : State) (c : Instr) (l : List Instr), s.pending = c :: l) ∧
    (∃ (s : State), s.pending = []) := by
  refine ⟨?_, ?_⟩
  · exact ⟨{ State.reset with pending := [Instr.joinRetry, Instr.heartbeat] }, Instr.joinRetry, [Instr.heartbeat], by
      decide⟩
  · exact ⟨State.reset, by decide⟩

theorem test_meets_QueueLeftAlone :
    (∃ (c : Instr) (s t : State), exec c s = .next t) :=
  ⟨.joinRetry, State.reset, _, rfl⟩

theorem test_meets_EveryStepKeepsForm :
    (∃ (s t : State), s.wf = true ∧ step s = .next t) :=
  ⟨{ State.reset with pending := [.joinRetry] }, _, by decide, rfl⟩

theorem test_meets_EqualReadingsEqualData :
    (∃ (blank : Byte) (m n : List Host.Cell), Memory.wf blank m = true ∧ Memory.wf blank n = true ∧ (∀ a, memRead
      blank a m = memRead blank a n)) ∧
    (∃ (m n : Store Int), storeRising m = true ∧ storeRising n = true ∧ (∀ k, storeFind m k = storeFind n k)) := by
  refine ⟨?_, ?_⟩
  · exact ⟨0, [(5, 7)], [(5, 7)], by decide, by decide, fun _ => rfl⟩
  · exact ⟨[(⟨5, 7, 0⟩, 3)], [(⟨5, 7, 0⟩, 3)], by decide, by decide, fun _ => rfl⟩

theorem test_meets_FrameOfCommands :
    (∃ (c : Instr) (s t : State) (W : List Nat) (o : Obj), footprint c = some W ∧ atItsBoundary c = false ∧ exec c s
      = .next t ∧ o.quiet = true ∧ o.id ∉ W) :=
  ⟨.joinRetry, State.reset, _, Footprint.execJoinRetry, Obj.dcVoltage, rfl, rfl, rfl, by decide, by decide⟩

theorem test_meets_FrameAtBoundaries :
    (∃ (c : Instr) (s t : State) (W : List Nat) (o : Obj), footprint c = some W ∧ atItsBoundary c = true ∧ exec c s =
      .next t ∧ o.quiet = true ∧ s.unawaited o ∧ o.id ∉ W) :=
  ⟨.bitTimingApply 2, State.reset, _, Footprint.execBitTimingApply, Obj.dcVoltage, rfl, rfl, rfl, by decide, nofun,
    by decide⟩

theorem test_meets_MemoriesKept :
    (∃ (c : Instr) (s t : State) (a : Nat), touchesMemory c = false ∧ exec c s = .next t) :=
  ⟨.joinRetry, State.reset, _, 0, rfl, rfl⟩

theorem test_meets_OnlyImagesReachFlash :
    (∃ (c : Instr) (s t : State) (a : Nat), (∀ r d, c ≠ .imageDataWrite r d) ∧ (∀ r d, c ≠ .metrologyImageData r d) ∧
      (∀ r i j d, c ≠ .write r i j d) ∧ exec c s = .next t) ∧
    (∃ (s u : State) (r : Req) (d : List Byte) (role space a : Nat), Granted r Obj.imageData 0 0 d role space s u ∧
      u.get Obj.flashWritesPermitted ≠ 0 ∧ u.getN Obj.imageWriteOffset + d.length ≤ 0x1000000) ∧
    (∃ (s u : State) (r : Req) (d : List Byte) (role space a : Nat), Granted r Obj.metrologyImageData 0 0 d role
      space s u ∧ u.get Obj.flashWritesPermitted ≠ 0 ∧ u.getN Obj.metrologyImageWriteOffset + d.length ≤ 0x400000 ∧
      auditFull u = false) := by
  refine ⟨?_, ?_, ?_⟩
  · exact ⟨.joinRetry, State.reset, _, 0, nofun, nofun, nofun, rfl⟩
  · exact ⟨_, _, _, List.replicate 3 5, 2, 7, 0x1000002, granted_testReq ((State.reset.set Obj.flashWritesPermitted
      1).set Obj.startUpStage 4) rfl (by decide) (by decide) (by decide) (by decide), by decide⟩
  · exact ⟨_, _, _, List.replicate 3 5, 4, 7, 0x2400002, granted_testReq (((State.reset.set Obj.flashWritesPermitted
      1).set Obj.sealOpen 1).set Obj.startUpStage 4) rfl (by decide) (by decide) (by decide) (by decide), by decide⟩

theorem test_meets_CapturesStayInTheirBank :
    (∃ (s t : State) (m g l : List Nat) (k p a : Nat), exec (.fastClassEvaluation m g l k p) s = .next t ∧ (a <
      s.getN Reg.captureIn * 0x40000 ∨ s.getN Reg.captureIn * 0x40000 + 0x40000 ≤ a ∨ s.get Obj.captureState ≠ 1)) ∧
    (∃ (s t : State) (m g l : List Nat) (a : Nat), exec (.slowTick m g l) s = .next t ∧ (a < s.getN Reg.captureIn *
      0x40000 ∨ s.getN Reg.captureIn * 0x40000 + 0x40000 ≤ a ∨ s.get Obj.captureState ≠ 1)) ∧
    (∃ (s t : State) (processor : Fin 4) (a : Nat), inRetArea a = true ∧ exec (.watchdogReset processor) s = .next t) ∧
    (∃ (s t : State) (a : Nat), inRetArea a = true ∧ exec .softwareResetAssert s = .next t) ∧
    (∃ (c : Instr) (s t : State) (a : Nat), (∀ m g l k p, c ≠ .fastClassEvaluation m g l k p) ∧ (∀ m g l, c ≠
      .slowTick m g l) ∧ c ≠ .pllLockLost ∧ (∀ x, c ≠ .internalRailFault x) ∧ (∀ x, c ≠ .watchdogReset x) ∧ c ≠
      .softwareResetAssert ∧ (∀ x y, c ≠ .brownOut x y) ∧ c ≠ .commitValid ∧ (∀ x, c ≠ .lockstepMismatch x) ∧ (∀ x y z
      w, c ≠ .poolDoubleBitError x y z w) ∧ exec c s = .next t) := by
  refine ⟨?_, ?_, ?_, ?_, ?_⟩
  · exact ⟨State.reset, _, [], [], [], 0, 0, 0, rfl, by decide⟩
  · exact ⟨State.reset, _, [], [], [], 0, rfl, by decide⟩
  · exact ⟨State.reset, _, 3, 0x3F000, by decide, rfl⟩
  · exact ⟨State.reset, _, 0x3F000, by decide, rfl⟩
  · exact ⟨.joinRetry, State.reset, _, 0, nofun, nofun, nofun, nofun, nofun, nofun, nofun, nofun, nofun, nofun, rfl⟩

theorem test_meets_LineFramesReadBack :
    (∃ (v : Bool) (c : Nat) (l : List Bool), c < 31) ∧
    (∃ (type seq link lane reg : Nat) (body : List Byte), reg < 128 ∧ reg % 64 < 31 ∧ link < 16 ∧ lane < 2 ∧ ((type =
      typeControl ∧ body.length = 248) ∨ (type = typeTraining ∧ body.length = 24) ∨ (type = typeService ∧ body.length
      = 16 + ofBytes ((body.drop 6).take 2)))) := by
  refine ⟨?_, ?_⟩
  · exact ⟨true, 30, [true, true, false], by decide⟩
  · exact ⟨typeTraining, 300, 15, 1, 94, List.replicate 24 5, by decide⟩

theorem test_meets_ConfigurationKept :
    (∃ (c : Instr) (s t : State) (o : Obj), (c = .frameStart ∨ (∃ m g l, c = .slowTick m g l) ∨ (∃ p, c =
      .metrologySample p) ∨ (∃ b, c = .busOff b)) ∧ objById o.id = some o ∧ o.cls = .per ∧ (o.right = .rw ∨ o.right =
      .rws) ∧ o.base ≠ 0x6000 ∧ o.id ≠ Obj.outOfService.id ∧ o.id ≠ Obj.bootSelection.id ∧ o.quiet = true ∧
      s.unawaited o ∧ exec c s = .next t) ∧
    (∃ (s t : State) (o : Obj), (∀ i j, regOf (o.key i j) = some o) ∧ o.cls = .bat ∧ o.id ∉ [Reg.resetKind.id,
      Reg.resetSource.id, Reg.resetTime.id, Reg.pulsesLost.id, Reg.supplyHeld.id] ∧ exec .pllLockLost s = .next t) ∧
    (∃ (s t : State) (rail : Fin 27) (o : Obj), (∀ i j, regOf (o.key i j) = some o) ∧ o.cls = .bat ∧ o.id ∉
      [Reg.resetKind.id, Reg.resetSource.id, Reg.resetTime.id, Reg.pulsesLost.id, Reg.supplyHeld.id, Reg.supplyRaw.id]
      ∧ exec (.internalRailFault rail) s = .next t) := by
  refine ⟨?_, ?_, ?_⟩
  · exact ⟨.busOff 2, State.reset, _, Obj.efficiency, .inr (.inr (.inr ⟨2, rfl⟩)), rfl, by decide, by decide, by decide,
      by decide, by decide, by decide, nofun, rfl⟩
  · exact ⟨State.reset, _, Obj.chargeDrawnFromCell, fun _ _ => rfl, by decide, by decide, rfl⟩
  · exact ⟨State.reset, _, 26, Obj.chargeDrawnFromCell, fun _ _ => rfl, by decide, by decide, rfl⟩

theorem test_meets_FrameLengths :
    (∃ (s : State), s.get Obj.startUpStage ≠ 0 ∧ s.is Reg.supplyHeld = false ∧ s.unawaited Reg.frameLength ∧
      s.unawaited Obj.frameCounter ∧ s.unawaited Obj.appliedDuneDepth) :=
  ⟨State.reset.set Obj.startUpStage 4, by decide, by decide, nofun, nofun, nofun⟩

theorem test_meets_GateReadyRefusal :
    (∃ (s : State) (block : Fin 64), blockSt s block = bkStartDelay ∧ s.get Reg.gateReadyBy block ≠ 0 ∧ s.getN
      Reg.gateReadyBy block + 200 ≤ s.frame) :=
  ⟨((State.reset.set Obj.blockState (bkStartDelay * 256) 63).set Reg.gateReadyBy 1 63).set Obj.frameCounter 201, 63,
    by decide⟩

theorem test_meets_StartAndStopRequests :
    (∃ (s : State) (block : Fin 64), blockSt s block = bkRampOff) ∧
    (∃ (s : State) (block : Fin 64), blockSt s block = bkStopDelay) ∧
    (∃ (s u : State) (block : Fin 64), blockSt s block = bkStopDelay ∧ s.getN Reg.blockSince block + s.getN
      Obj.stopDelay block ≤ s.frame ∧ s.is Reg.startHeld block = true ∧ u = holdBlockSlots block (setBlock block bkOff
      (({ s with out := [] }).set Reg.startHeld 0 block)) ∧ startCause u block = 0 ∧ outputDischarged u block = true) ∧
    (∃ (s : State) (block : Fin 64), (blockSt s block = bkTest ∨ blockSt s block = bkStartDelay)) := by
  refine ⟨?_, ?_, ?_, ?_⟩
  · exact ⟨State.reset.set Obj.blockState (bkRampOff * 256) 63, 63, by decide⟩
  · exact ⟨State.reset.set Obj.blockState (bkStopDelay * 256) 63, 63, by decide⟩
  · exact ⟨((testStartable.set Reg.startHeld 1 63).set Obj.blockState (bkStopDelay * 256) 63).set Obj.stopDelay 0 63, _,
      63, by decide +kernel, by decide +kernel, by decide +kernel, rfl, by decide +kernel, by decide +kernel⟩
  · exact ⟨State.reset.set Obj.blockState (bkStartDelay * 256) 63, 63, by decide⟩

theorem test_meets_OutstandingLimit :
    (∃ (s u : State) (r : Req) (index sub role space : Nat) (d : List Byte) (plain : Bool), r.complete = true ∧ space
      ≠ 0 ∧ authenticate r 2 index sub d { s with out := [] } = .accept u space role plain ∧ tagBusy u space r.tag =
      false ∧ 128 ≤ outstanding u ∧ partlyOf u space r.tag = none ∧ actionRow r index sub d = none) ∧
    (∃ (s u : State) (r : Req) (index sub role space : Nat) (plain : Bool), r.complete = true ∧ space ≠ 0 ∧
      authenticate r 1 index sub [] { s with out := [] } = .accept u space role plain ∧ tagBusy u space r.tag = false
      ∧ 128 ≤ outstanding u ∧ partlyOf u space r.tag = none) := by
  refine ⟨?_, ?_⟩
  · exact ⟨inSession 2 testFull, _, testReqAs 2 2 0x3300 7 [3, 132], 0x3300, 7, 2, 7, [3, 132], false, rfl, by decide,
      authenticated_testReq 2 2 0x3300 7 [3, 132] testFull (by decide), by decide, by decide, by decide, rfl⟩
  · exact ⟨inSession 2 testFull, _, testReqAs 1 2 0x3300 7 [], 0x3300, 7, 2, 7, false, rfl, by decide,
      authenticated_testReq 1 2 0x3300 7 [] testFull (by decide), by decide, by decide, by decide⟩

theorem test_meets_StandbyAnswersReads :
    (∃ (s u v : State) (r : Req) (index sub role space : Nat) (d : List Byte), r.complete = true ∧ space ≠ 0 ∧
      judgeRequest r 1 index sub [] { s with out := [] } = .accept u space role false ∧ (u.get Obj.role = roStandby ∨
      u.get Obj.role = roFenced) ∧ readAddress index sub role u = .ok (d, v)) ∧
    (∃ (s u : State) (r : Req) (index sub role space : Nat) (d : List Byte) (l : List FieldWrite), r.complete = true
      ∧ space ≠ 0 ∧ judgeRequest r 2 index sub d { s with out := [] } = .accept u space role false ∧ actionRow r index
      sub d = none ∧ writtenFields u index sub role d = .ok l ∧ (u.get Obj.role = roStandby ∨ u.get Obj.role =
      roFenced) ∧ (index < 0x1000 ∨ 0x13FF < index) ∧ (index < 0xA800 ∨ 0xA8FF < index) ∧ (index < 0xB200 ∨ 0xB2FF <
      index) ∧ (index < 0xC000 ∨ 0xCFFF < index)) ∧
    (∃ (s u : State) (r : Req) (o : Obj) (i j role space : Nat) (d : List Byte), r.complete = true ∧ judgeRequest r 2
      (o.index i) (o.sub + o.subStep * j) d s = .accept u space role false ∧ writeStatus u o i role d = 0 ∧ (u.get
      Obj.role = roStandby ∨ u.get Obj.role = roFenced) ∧ (o.index i < 0x1000 ∨ 0x13FF < o.index i) ∧ (o.index i <
      0xA800 ∨ 0xA8FF < o.index i) ∧ (o.index i < 0xB200 ∨ 0xB2FF < o.index i) ∧ (o.index i < 0xC000 ∨ 0xCFFF <
      o.index i)) ∧
    (∃ (s : State) (index : Nat), ((0x1000 ≤ index ∧ index ≤ 0x13FF) ∨ (0xA800 ≤ index ∧ index ≤ 0xA8FF) ∨ (0xB200 ≤
      index ∧ index ≤ 0xB2FF) ∨ (0xC000 ≤ index ∧ index ≤ 0xCFFF) ∨ (s.get Obj.role ≠ roStandby ∧ s.get Obj.role ≠
      roFenced))) := by
  refine ⟨?_, ?_, ?_, ?_⟩
  · exact ⟨inSession 2 ((testPair roStandby).set Obj.startUpStage 4), _, _, testReqAs 1 2 0x3300 7 [], 0x3300, 7, 2, 7,
      _, rfl, by decide, judged_testReq 1 2 0x3300 7 [] ((testPair roStandby).set Obj.startUpStage 4) rfl (by
      decide) (by decide), by decide, rfl⟩
  · exact ⟨inSession 2 ((testPair roFenced).set Obj.startUpStage 4), _, testReqAs 2 2 0x3300 7 [3, 132], 0x3300, 7, 2,
      7, [3, 132], _, rfl, by decide, judged_testReq 2 2 0x3300 7 [3, 132] ((testPair roFenced).set Obj.startUpStage
      4) rfl (by decide) (by decide), rfl, rfl, by decide, by decide, by decide, by decide, by decide⟩
  · exact ⟨inSession 2 ((testPair roFenced).set Obj.startUpStage 4), _, testReqAs 2 2 0x3300 7 [3, 132], Obj.efficiency,
      0, 0, 2, 7, [3, 132], rfl, judged_testReq 2 2 0x3300 7 [3, 132] ((testPair roFenced).set Obj.startUpStage 4)
      rfl (by decide) (by decide), by decide, by decide, by decide, by decide, by decide, by decide⟩
  · exact ⟨State.reset.set Obj.role 2, 0x1010, by decide⟩

theorem test_meets_SilentBeforeDictionary :
    (∃ (s : State) (r : Req) (index sub : Nat), s.get Obj.startUpStage < 4 ∧ (s.is Reg.heldAtStage2 = false ∨
      arrivesOn s r ≠ 1)) ∧
    (∃ (s : State) (r : Req) (index sub : Nat) (d : List Byte), s.get Obj.startUpStage < 4 ∧ (s.is Reg.heldAtStage2 =
      false ∨ arrivesOn s r ≠ 1) ∧ actionRow r index sub d = none) ∧
    (∃ (s : State) (r : Req), s.get Obj.startUpStage < 4 ∧ (s.is Reg.heldAtStage2 = false ∨ arrivesOn s r ≠ 1)) ∧
    (∃ (s : State) (r : Req) (channel : Fin 8) (d : List Byte), s.get Obj.startUpStage < 4 ∧ (s.is Reg.heldAtStage2 =
      false ∨ arrivesOn s r ≠ 1)) ∧
    (∃ (s : State) (r : Req), s.get Obj.startUpStage < 4 ∧ (s.is Reg.heldAtStage2 = false ∨ arrivesOn s r ≠ 1)) ∧
    (∃ (s : State) (port : Fin 2) (addr tag epoch : Nat) (payload : List Byte), s.get Obj.startUpStage < 4 ∧ (s.is
      Reg.heldAtStage2 = false ∨ port.val ≠ 1)) ∧
    (∃ (s : State) (ident seq tag epoch : Nat) (sig mac : List Byte), s.get Obj.startUpStage < 4 ∧ (s.is
      Reg.heldAtStage2 = false ∨ (∀ y ∈ s.sessions, y.port ≠ 1))) ∧
    (∃ (s : State) (r : Req) (o : Obj) (i j : Nat) (d : List Byte) (f : Nat → State → Except Nat State), s.get
      Obj.startUpStage < 4 ∧ (s.is Reg.heldAtStage2 = false ∨ arrivesOn s r ≠ 1)) := by
  refine ⟨?_, ?_, ?_, ?_, ?_, ?_, ?_, ?_⟩
  · exact ⟨State.reset, ({ auth := Auth.plain 0, tag := 1, epoch := 0, complete := true } : Req), 0x1000, 1, by decide⟩
  · exact ⟨State.reset, ({ auth := Auth.plain 0, tag := 1, epoch := 0, complete := true } : Req), 0x1000, 1, [], by
      decide⟩
  · exact ⟨State.reset, ({ auth := Auth.plain 0, tag := 1, epoch := 0, complete := true } : Req), by decide⟩
  · exact ⟨State.reset, ({ auth := Auth.plain 0, tag := 1, epoch := 0, complete := true } : Req), 7, [], by decide⟩
  · exact ⟨State.reset, ({ auth := Auth.plain 0, tag := 1, epoch := 0, complete := true } : Req), by decide⟩
  · exact ⟨State.reset, 1, 5, 6, 7, [], by decide⟩
  · exact ⟨State.reset, 1, 5, 6, 7, [], [], by decide⟩
  · exact ⟨State.reset, ({ auth := Auth.plain 0, tag := 1, epoch := 0, complete := true } : Req), Obj.efficiency, 0, 0,
      [], fun _ _ => .error 5, by decide⟩

theorem test_meets_AbortsEndTransfers :
    (∃ (s : State) (r : Req) (w : Waiting), serves s r 0xB210 = true ∧ mayBegin s r = true ∧ partlyOf s (spaceOf r)
      r.tag = some w) ∧
    (∃ (s : State) (r : Req), serves s r 0xB210 = true ∧ mayBegin s r = true ∧ partlyOf s (spaceOf r) r.tag = none ∧
      spaceOf r = 0) ∧
    (∃ (s : State) (r : Req), serves s r 0xB210 = true ∧ mayBegin s r = true ∧ partlyOf s (spaceOf r) r.tag = none ∧
      spaceOf r ≠ 0) := by
  refine ⟨?_, ?_, ?_⟩
  · exact 
      ⟨({ State.reset.set Obj.startUpStage 4 with waiting := [Waiting.mk 7 1 0 0x82 Boundary.atOnce true 0 2 false []], sessions := [testSession 2] }
      : State), ({ auth := Auth.session 7 1 [], tag := 1, epoch := 0, complete := true } : Req), Waiting.mk 7 1 0
      0x82 Boundary.atOnce true 0 2 false [], by decide⟩
  · exact ⟨((State.reset.set Obj.startUpStage 4).set Obj.ownNodeAddress 5).set Obj.fararOnCan 1,
      ({ auth := Auth.can 1 5 none, tag := 1, epoch := 0, complete := true } : Req), by decide⟩
  · exact ⟨({ State.reset.set Obj.startUpStage 4 with sessions := [testSession 2] } : State),
      ({ auth := Auth.session 7 1 [], tag := 1, epoch := 0, complete := true } : Req), by decide⟩

theorem test_meets_CabinetLinkBringUp :
    (∃ (s : State) (link : Fin 16), mayDriveLanes s = true ∧ s.get Obj.linkState link = lkDown ∧ s.get Reg.linkSteps
      link = 0) ∧
    (∃ (s u : State) (r : Req) (link : Fin 16) (d : List Byte) (role space : Nat), Granted r Obj.restartBringUp link
      0 d role space s u ∧ cabEnergised u link = false) ∧
    (∃ (s : State) (link : Fin 16), s.get Obj.linkState link = lkClock) ∧
    (∃ (s : State) (link : Fin 16), s.get Obj.linkState link = lkAlign ∧ 12 ≤ s.get Reg.laneScans (4 * link + 0) ∧ 96
      ≤ s.get Obj.eyeFigure link 0 ∧ 12 ≤ s.get Reg.laneScans (4 * link + 1) ∧ 96 ≤ s.get Obj.eyeFigure link 1 ∧ 12 ≤
      s.get Reg.laneScans (4 * link + 2) ∧ 96 ≤ s.get Obj.eyeFigure link 2 ∧ 12 ≤ s.get Reg.laneScans (4 * link + 3) ∧
      96 ≤ s.get Obj.eyeFigure link 3 ∧ laneIn s link 0 = true ∧ laneIn s link 2 = true) ∧
    (∃ (s : State) (link : Fin 16) (lane : Fin 2) (arrival : Nat) (line : List Bool) (b : List Byte), (receiveLine
      link lane (s.getN Reg.rxLine (4 * link + lane)) line).1 = Received.good typeTraining b ∧ fieldU b 0 1 = 0x14 ∧
      fieldU b 1 1 / 16 = link ∧ fieldU b 1 1 % 16 = 3 ∧ s.get Obj.linkState link = lkSync) ∧
    (∃ (s : State) (link : Fin 16), s.get Obj.linkState link = lkIdent ∧ (s.bytes Reg.identityData link).length = 44
      ∧ cabDeclared s link = true ∧ fieldU (s.bytes Reg.identityData link) 0 2 = s.get Obj.declaredVersion link ∧
      fieldU (s.bytes Reg.identityData link) 2 1 = s.get Obj.declaredPhaseCount link ∧ fieldU (s.bytes
      Reg.identityData link) 3 1 = s.get Obj.declaredBlockCount link ∧ fieldU (s.bytes Reg.identityData link) 4 1 =
      s.get Obj.declaredContactorCount link ∧ s.bytes Obj.declaredSerial link = List.replicate 8 0 ∧ fieldU (s.bytes
      Reg.identityData link) 8 2 ≤ s.get Obj.samplingLead + 400) ∧
    (∃ (s : State) (link : Fin 16), s.get Obj.linkState link = lkConfig ∧ s.get Reg.configCrc link = crc32 (s.bytes
      Obj.terminalConfigurationImage link) + 1) ∧
    (∃ (s : State) (link : Fin 16), lkClock ≤ s.get Obj.linkState link ∧ s.get Obj.linkState link ≤ lkConfig ∧ s.getN
      Reg.linkBringUpAt link + 4 * second ≤ s.now ∧ cabDeclared s link = true) := by
  refine ⟨?_, ?_, ?_, ?_, ?_, ?_, ?_, ?_⟩
  · exact ⟨(State.reset.set Obj.startUpStage 4).set Obj.role 0, 15, by decide⟩
  · exact ⟨_, _, _, 15, [1], 2, 7, granted_testReq (State.reset.set Obj.startUpStage 4) rfl (by decide) (by decide) (by
      decide) (by decide), by decide⟩
  · exact ⟨State.reset.set Obj.linkState lkClock 15, 15, by decide⟩
  · exact ⟨(State.reset.set Obj.linkState lkAlign 15).forN 4 (fun l u => ((u.set Reg.laneScans 12 (60 + l)).set
      Obj.eyeFigure 96 15 l).set Obj.lanesInService 15 15), 15, by decide⟩
  · exact ⟨State.reset.set Obj.linkState lkSync 1, 1, 0, 0, (stuff false 0 (lineFrame typeTraining 0 1 0 1 (([0x14,
      0x13] : List Byte) ++ List.replicate 22 0))).1, ([0x14, 0x13] : List Byte) ++ List.replicate 22 0, by decide⟩
  · exact ⟨((State.reset.set Obj.linkState lkIdent 15).setBytes Reg.identityData (List.replicate 44 0) 15).forN 1 (fun _
      u => ((u.set Obj.declaredVersion 0 15).set Obj.linkDeclared 1 15).set Obj.declaredPhaseCount 0 15), 15, by
      decide⟩
  · exact ⟨(State.reset.set Obj.linkState lkConfig 15).set Reg.configCrc (crc32 (State.reset.bytes
      Obj.terminalConfigurationImage 15) + 1) 15, 15, by decide⟩
  · exact ⟨((State.reset.set Obj.linkState lkClock 15).set Reg.elapsed 4000000000).set Obj.linkDeclared 1 15, 15, by
      decide⟩

theorem test_meets_CabinetLinkRuns :
    (∃ (s : State) (link : Fin 16) (lane : Fin 2) (line : List Bool) (b : List Byte), (receiveLine link lane (s.getN
      Reg.rxLine (4 * link + lane)) line).1 = Received.good typeControl b ∧ telemetryFits s link b = true ∧ s.is
      Reg.deadlinePassed = false) ∧
    (∃ (s : State) (link : Fin 16) (lane : Fin 2) (line : List Bool) (b : List Byte), (receiveLine link lane (s.getN
      Reg.rxLine (4 * link + lane)) line).1 = Received.good typeService b ∧ ofBytes ((b.drop 1).take 1) / 16 = link) ∧
    (∃ (s : State) (link : Fin 16) (lane : Fin 4) (ef : Fin 256), lkAlign ≤ s.get Obj.linkState link ∧ s.get
      Obj.linkState link ≤ lkOneLane ∧ 64 ≤ ef.val ∧ ef.val < 96) ∧
    (∃ (s : State) (link : Fin 16) (lane : Fin 2) (b : List Byte) (rest : List (List Byte)), s.log Reg.serviceQueue
      (2 * link + lane) = b :: rest ∧ s.getN Reg.serviceProgressAt (2 * link + lane) + 16 ≤ s.frame ∧ s.get
      Reg.serviceResendRun (2 * link + lane) < 8) ∧
    (∃ (s : State) (link : Fin 16), linkUp s link = true ∧ s.get Obj.staleLimit ≤ s.get Reg.linkMisses link) ∧
    (∃ (s : State) (link : Fin 16), linkUp s link = true ∧ s.getN Reg.dispatchedFrame link ≠ s.frame + 1) ∧
    (∃ (s : State) (link : Fin 16), s.get Obj.linkState link = lkLost ∧ s.getN Reg.linkSince link + 50 ≤ s.frame) ∧
    (∃ (s : State) (link : Fin 16), s.get Obj.linkState link = lkLost ∧ s.getN Reg.linkSince link + 500 ≤ s.frame ∧
      s.is Reg.ckuPresent link = true ∧ s.is Reg.firmwareActivating link = false) ∧
    (∃ (s u : State) (r : Req) (link : Fin 16) (d : List Byte) (role space : Nat), Granted r Obj.firmwareData link 0
      d role space s u) ∧
    (∃ (s u : State) (r : Req) (link : Fin 16) (d : List Byte) (role space : Nat), Granted r
      Obj.activateTerminalFirmware link 0 d role space s u ∧ cabEnergised u link = false) := by
  refine ⟨?_, ?_, ?_, ?_, ?_, ?_, ?_, ?_, ?_, ?_⟩
  · exact ⟨State.reset, 1, 0, (stuff false 0 (lineFrame typeControl 0 1 0 1 (([0x12, 0x10] : List Byte) ++
      List.replicate 246 0))).1, ([0x12, 0x10] : List Byte) ++ List.replicate 246 0, by decide +kernel⟩
  · exact ⟨State.reset, 1, 0, (stuff false 0 (lineFrame typeService 0 1 0 1 (([0x13, 0x10] : List Byte) ++
      List.replicate 14 0))).1, ([0x13, 0x10] : List Byte) ++ List.replicate 14 0, by decide⟩
  · exact ⟨State.reset.set Obj.linkState lkRun 15, 15, 3, 70, by decide⟩
  · exact ⟨(State.reset.setLog Reg.serviceQueue [[]] 31).set Obj.frameCounter 16, 15, 1, [], [], by decide⟩
  · exact ⟨(State.reset.set Obj.linkState lkRun 15).set Reg.linkMisses 100 15, 15, by decide⟩
  · exact ⟨State.reset.set Obj.linkState lkRun 15, 15, by decide⟩
  · exact ⟨(State.reset.set Obj.linkState lkLost 15).set Obj.frameCounter 50, 15, by decide⟩
  · exact ⟨((State.reset.set Obj.linkState lkLost 15).set Obj.frameCounter 500).set Reg.ckuPresent 1 15, 15, by decide⟩
  · exact ⟨_, _, _, 15, [1], 3, 7, granted_testReq (State.reset.set Obj.startUpStage 4) rfl (by decide) (by decide) (by
      decide) (by decide)⟩
  · exact ⟨_, _, _, 15, [1], 3, 7, granted_testReq (State.reset.set Obj.startUpStage 4) rfl (by decide) (by decide) (by
      decide) (by decide), by decide⟩

theorem test_meets_OutletInputsTaken :
    (∃ (s : State) (outlet : Fin 24) (a b : Int), s.get Obj.pilotState outlet = 5) ∧
    (∃ (s : State) (outlet : Fin 24) (feedback : Fin 4), s.getN Reg.coilsAt outlet + 100 * millisecond < s.now ∧
      commandedBits s outlet ≠ feedback) ∧
    (∃ (s u : State) (r : Req) (outlet : Fin 24) (d : List Byte) (role space : Nat), Granted r
      Obj.clearContactorFault outlet 0 d role space s u ∧ u.get Obj.contactorFeedback outlet = 0) ∧
    (∃ (s : State) (outlet : Fin 24) (frame : List Byte), frame.length = 8) ∧
    (∃ (s : State) (outlet : Fin 24), s.getN Reg.imdAt outlet + 300 * millisecond ≤ s.now) ∧
    (∃ (s : State) (outlet : Fin 24), s.getN Reg.imdSentAt outlet + second ≤ s.now) ∧
    (∃ (s : State) (outlet : Fin 24), s.get Reg.weldHalf outlet = 1 ∧ 100 ≤ s.get Reg.weldRun outlet) := by
  refine ⟨?_, ?_, ?_, ?_, ?_, ?_, ?_⟩
  · exact ⟨State.reset.set Obj.pilotState 5 23, 23, 9000, -1200, by decide⟩
  · exact ⟨State.reset.set Reg.elapsed 200000000, 23, 1, by decide⟩
  · exact ⟨_, _, _, 23, [1], 3, 7, granted_testReq (State.reset.set Obj.startUpStage 4) rfl (by decide) (by decide) (by
      decide) (by decide), by decide⟩
  · exact ⟨State.reset, 23, [1, 2, 3, 4, 5, 6, 7, 8], by decide⟩
  · exact ⟨State.reset.set Reg.elapsed 300000000, 23, by decide⟩
  · exact ⟨State.reset.set Reg.elapsed 1000000000, 23, by decide⟩
  · exact ⟨(State.reset.set Reg.weldHalf 1 23).set Reg.weldRun 100 23, 23, by decide⟩

theorem test_meets_ChargingSessionOpens :
    (∃ (s : State) (outlet : Fin 24) (runId : Nat), s.get Obj.outletMode outlet = 0 ∧ pwmRuns s outlet = true ∧ s.get
      Obj.pilotState outlet = 1 ∧ randomGood s = true) ∧
    (∃ (s : State) (runId a : Nat) (outlet : Fin 24), s.get Obj.outletState outlet = 1) ∧
    (∃ (s : State) (outlet : Fin 24), (s.getN Obj.protocolMask outlet).testBit 2 = true) ∧
    (∃ (s : State) (outlet : Fin 24), s.is Reg.tcpOpen outlet = false) ∧
    (∃ (s : State) (outlet : Fin 24) (option : Nat), s.get Obj.outletState outlet = 1 ∧ optionAllowed s outlet option
      = true) ∧
    (∃ (s : State) (outlet : Fin 24), 1 ≤ s.get Obj.outletState outlet ∧ s.get Obj.outletState outlet < 4) ∧
    (∃ (s : State) (outlet : Fin 24) (contract good : Bool) (evccid emaid : List Byte), s.get Obj.outletState outlet
      = 2 ∧ contextOf s outlet = none) ∧
    (∃ (s : State) (outlet : Fin 24), s.get Obj.outletState outlet = 3) ∧
    (∃ (s u : State) (r : Req) (ctx : Fin 250) (outlet : Nat) (d : List Byte) (role space : Nat), Granted r
      Obj.ctxAuthorisation ctx 0 d role space s u ∧ ofBytes d = 1 ∧ flushContext ctx u = u ∧ outletOf u ctx = some
      outlet ∧ u.get Obj.ctxState ctx = cxBound ∧ u.get Obj.outletState outlet = 2 ∧ u.get Obj.ctxAuthorisation ctx =
      0) ∧
    (∃ (s : State) (outlet : Fin 24), s.get Obj.outletState outlet = 2 ∧ contextOf s outlet ≠ none ∧ s.get
      Reg.authorisationAt outlet + s.get Obj.authorisationTimeout outlet * second ≤ s.now) ∧
    (∃ (s : State) (outlet : Fin 24) (body : List Byte), 2 ≤ s.get Obj.protocolInUse outlet) ∧
    (∃ (s u : State) (r : Req) (outlet : Fin 24) (d : List Byte) (role space : Nat), Granted r
      Obj.certificateResponseBody outlet 0 d role space s u) ∧
    (∃ (s : State) (outlet : Fin 24), s.get Reg.certificateAt outlet ≠ 0 ∧ s.getN Reg.certificateAt outlet + 60 *
      second ≤ s.now + 1) := by
  refine ⟨?_, ?_, ?_, ?_, ?_, ?_, ?_, ?_, ?_, ?_, ?_, ?_, ?_⟩
  · exact ⟨((State.reset.set Obj.pilotState 1 23).set Obj.outletState 1 23).set Obj.randomSourceState 1, 23, 5, by
      decide⟩
  · exact ⟨State.reset.set Obj.outletState 1 23, 5, 300, 23, by decide⟩
  · exact ⟨State.reset.set Obj.protocolMask 4 23, 23, by decide⟩
  · exact ⟨State.reset, 23, by decide⟩
  · exact ⟨(State.reset.set Obj.outletState 1 23).set Obj.protocolMask 1 23, 23, 0, by decide⟩
  · exact ⟨State.reset.set Obj.outletState 1 23, 23, by decide⟩
  · exact ⟨State.reset.set Obj.outletState 2 23, 23, false, false, [1], [], by decide⟩
  · exact ⟨State.reset.set Obj.outletState 3 23, 23, by decide⟩
  · exact ⟨_, _, _, 249, 23, [1], 1, 7, granted_testReq ((((State.reset.set Obj.boundContext 249 23).set Obj.ctxState
      cxBound 249).set Obj.outletState 2 23).set Obj.startUpStage 4) rfl (by decide) (by decide) (by decide) (by
      decide), by decide⟩
  · exact ⟨((State.reset.set Obj.outletState 2 23).set Obj.boundContext 0 23).set Reg.elapsed 1000000000000, 23, by
      decide⟩
  · exact ⟨State.reset.set Obj.protocolInUse 2 23, 23, [1, 2], by decide⟩
  · exact ⟨_, _, _, 23, [1], 1, 7, granted_testReq (State.reset.set Obj.startUpStage 4) rfl (by decide) (by decide) (by
      decide) (by decide)⟩
  · exact ⟨(State.reset.set Reg.certificateAt 1 23).set Reg.elapsed 60000000000, 23, by decide⟩

theorem test_meets_ChargingSessionDelivers :
    (∃ (s : State) (outlet : Fin 24), s.get Obj.outletState outlet = 3 ∧ mayCableCheck s outlet = true) ∧
    (∃ (s : State) (outlet : Fin 24), plusCommanded s outlet = true ∧ minusCommanded s outlet = true) ∧
    (∃ (s : State) (outlet : Fin 24), s.get Obj.outletState outlet = 4 ∧ s.get Reg.checkStep outlet = 3 ∧ s.get
      Reg.pausedAt outlet = 0 ∧ s.get Reg.rampStart outlet + 2500 ≤ s.frame) ∧
    (∃ (s : State) (outlet : Fin 24), s.get Obj.outletState outlet = 4 ∧ s.get Reg.checkStep outlet = 1 ∧ s.get
      Reg.pausedAt outlet = 0 ∧ s.get Reg.checkAt outlet + s.get Obj.cableCheckTimeout outlet * second ≤ s.now) ∧
    (∃ (s : State) (outlet : Fin 24) (target : Nat), s.get Obj.outletState outlet = 5 ∧ s.get Reg.pausedAt outlet = 0) ∧
    (∃ (s : State) (outlet : Fin 24), s.get Obj.outletState outlet = 5 ∧ 50 ≤ s.get Reg.preCurrentRun outlet ∧ s.get
      Reg.stopKind outlet = 0) ∧
    (∃ (s : State) (outlet : Fin 24), s.get Obj.outletState outlet = 5 ∧ s.get Reg.pausedAt outlet = 0 ∧ 8 ≤ s.get
      Reg.preChargeRun outlet) ∧
    (∃ (s : State) (outlet : Fin 24), s.get Obj.outletState outlet = 5 ∧ s.get Reg.pausedAt outlet = 0 ∧ s.get
      Reg.outletSince outlet + s.get Obj.preChargeTimeout outlet * (100 * millisecond) ≤ s.now ∧ s.get Reg.stopKind
      outlet = 0) ∧
    (∃ (s : State) (outlet : Fin 24) (tv ti mv mi soc : Nat) (marked : Bool), s.get Obj.outletState outlet = 6) ∧
    (∃ (s : State) (outlet : Fin 24), s.get Obj.outletState outlet = 6 ∧ s.get Reg.demandAt outlet + s.get
      Obj.demandSilenceLimit outlet * millisecond ≤ s.now ∧ s.get Reg.stopKind outlet = 0) ∧
    (∃ (s : State) (outlet : Fin 24), s.get Obj.outletState outlet = 6 ∧ 10 ≤ s.get Reg.evOverRun outlet ∧ s.get
      Reg.stopKind outlet = 0) ∧
    (∃ (s : State) (outlet : Fin 24) (mv mi tv soc : Nat), soc ≤ 100) := by
  refine ⟨?_, ?_, ?_, ?_, ?_, ?_, ?_, ?_, ?_, ?_, ?_, ?_⟩
  · exact ⟨(((State.reset.set Obj.outletState 3 23).set Obj.pilotState 2 23).set Reg.hvilState 0 23).forN 1 (fun _ u =>
      (u.set Obj.safeOutputStates 8).set Reg.proximityState 0 23), 23, by decide⟩
  · exact ⟨(State.reset.set Obj.lsCommand 1 (coilPlus 23)).set Obj.lsCommand 1 (coilMinus 23), 23, by decide⟩
  · exact ⟨((State.reset.set Obj.outletState 4 23).set Reg.checkStep 3 23).set Obj.frameCounter 2500, 23, by decide⟩
  · exact ⟨((State.reset.set Obj.outletState 4 23).set Reg.checkStep 1 23).set Reg.elapsed 1000000000000, 23, by decide⟩
  · exact ⟨State.reset.set Obj.outletState 5 23, 23, 200000, by decide⟩
  · exact ⟨(State.reset.set Obj.outletState 5 23).set Reg.preCurrentRun 50 23, 23, by decide⟩
  · exact ⟨(State.reset.set Obj.outletState 5 23).set Reg.preChargeRun 8 23, 23, by decide⟩
  · exact ⟨(State.reset.set Obj.outletState 5 23).set Reg.elapsed 1000000000000, 23, by decide⟩
  · exact ⟨State.reset.set Obj.outletState 6 23, 23, 400, 100, 500, 200, 50, false, by decide⟩
  · exact ⟨(State.reset.set Obj.outletState 6 23).set Reg.elapsed 1000000000000, 23, by decide⟩
  · exact ⟨(State.reset.set Obj.outletState 6 23).set Reg.evOverRun 10 23, 23, by decide⟩
  · exact ⟨State.reset, 23, 500, 200, 400, 100, by decide⟩

theorem test_meets_ChargingSessionStops :
    (∃ (s : State) (outlet : Fin 24), s.get Obj.outletState outlet = 6 ∧ s.get Reg.stopKind outlet = 0) ∧
    (∃ (s : State) (outlet : Fin 24), 3 ≤ s.get Reg.lowCurrentRun outlet ∧ s.get Reg.stopKind outlet = 1 ∧ s.get
      Obj.outletState outlet = 7 ∧ s.get Reg.stopStep outlet < 2 ∧ s.get Reg.stopFrame outlet + 3 ≤ s.frame ∧ s.is
      Reg.vehicleStopped outlet = false) ∧
    (∃ (s : State) (outlet : Fin 24), s.get Reg.stopKind outlet = 1 ∧ s.get Obj.outletState outlet = 7 ∧ s.get
      Reg.stopStep outlet < 2 ∧ s.get Reg.stopFrame outlet + 50000 ≤ s.frame ∧ s.is Reg.vehicleStopped outlet = false) ∧
    (∃ (s : State) (outlet : Fin 24), s.get Obj.outletState outlet = 8 ∧ s.get Reg.stopStep outlet = 3 ∧ outletDead s
      outlet = true ∧ plusCommanded s outlet = true) ∧
    (∃ (s : State) (outlet : Fin 24), s.get Obj.outletState outlet = 8 ∧ s.get Reg.stopStep outlet = 3 ∧ outletDead s
      outlet = false ∧ outletQuiet s outlet = true ∧ s.getN Reg.stopAt outlet + second ≤ s.now) ∧
    (∃ (s : State) (outlet : Fin 24), plusCommanded s outlet = false ∧ minusCommanded s outlet = false ∧ s.get
      Obj.outletState outlet = 8 ∧ s.get Reg.stopStep outlet = 5 ∧ s.is Reg.weldSkip outlet = true) ∧
    (∃ (s : State) (outlet : Fin 24), s.get Reg.stopKind outlet = 2 ∧ plusCommanded s outlet = true ∧ s.get
      Reg.weldHalf outlet = 0 ∧ s.get Reg.stopFrame outlet + s.get Obj.emergencyOpenDelay outlet ≤ s.frame) ∧
    (∃ (s : State) (outlet : Fin 24), s.get Reg.pausedAt outlet = 0 ∧ s.get Reg.noCapacityAt outlet ≠ 0 ∧ s.get
      Reg.noCapacityAt outlet + s.get Obj.noCapacityLimit outlet * second ≤ s.now + 1 ∧ s.get Obj.outletState outlet =
      3) ∧
    (∃ (s u : State) (r : Req) (outlet : Fin 24) (role space : Nat), Granted r Obj.stopSession outlet 0 [1] role
      space s u ∧ u.get Obj.outletState outlet = 6 ∧ u.get Reg.stopKind outlet = 0) ∧
    (∃ (s u : State) (r : Req) (outlet : Fin 24) (role space : Nat), Granted r Obj.stopSession outlet 0 [2] role
      space s u ∧ u.get Obj.outletState outlet = 6 ∧ u.get Reg.stopKind outlet = 0) := by
  refine ⟨?_, ?_, ?_, ?_, ?_, ?_, ?_, ?_, ?_, ?_⟩
  · exact ⟨State.reset.set Obj.outletState 6 23, 23, by decide⟩
  · exact ⟨(((State.reset.set Obj.outletState 7 23).set Reg.lowCurrentRun 3 23).set Reg.stopKind 1 23).set
      Obj.frameCounter 3, 23, by decide⟩
  · exact ⟨((State.reset.set Obj.outletState 7 23).set Reg.stopKind 1 23).set Obj.frameCounter 50000, 23, by decide⟩
  · exact ⟨((State.reset.set Obj.outletState 8 23).set Reg.stopStep 3 23).set Obj.lsCommand 1 (coilPlus 23), 23, by
      decide⟩
  · exact ⟨(((State.reset.set Obj.outletState 8 23).set Reg.stopStep 3 23).set Obj.dcVoltage 400000 23).set Reg.elapsed
      1000000000, 23, by decide⟩
  · exact ⟨((State.reset.set Obj.outletState 8 23).set Reg.stopStep 5 23).set Reg.weldSkip 1 23, 23, by decide⟩
  · exact ⟨((State.reset.set Reg.stopKind 2 23).set Obj.lsCommand 1 (coilPlus 23)).set Obj.frameCounter 500000, 23, by
      decide⟩
  · exact ⟨((State.reset.set Reg.noCapacityAt 1 23).set Obj.outletState 3 23).set Reg.elapsed 10000000000000, 23, by
      decide⟩
  · exact ⟨_, _, _, 23, 1, 7, granted_testReq ((State.reset.set Obj.outletState 6 23).set Obj.startUpStage 4) rfl (by
      decide) (by decide) (by decide) (by decide), by decide⟩
  · exact ⟨_, _, _, 23, 1, 7, granted_testReq ((State.reset.set Obj.outletState 6 23).set Obj.startUpStage 4) rfl (by
      decide) (by decide) (by decide) (by decide), by decide⟩

theorem test_meets_ChargingContexts :
    (∃ (s u : State) (r : Req) (ctx : Fin 250) (role space : Nat), Granted r Obj.ctxCommand ctx 0 [1] role space s u
      ∧ createStatus (flushContext ctx u) ctx false = 0) ∧
    (∃ (s u : State) (r : Req) (ctx : Fin 250) (role space : Nat), Granted r Obj.ctxCommand ctx 0 [2] role space s u
      ∧ createStatus (flushContext ctx u) ctx true = 0) ∧
    (∃ (s u : State) (r : Req) (ctx : Fin 250) (role space : Nat), Granted r Obj.ctxCommand ctx 0 [3] role space s u
      ∧ flushContext ctx u = u ∧ u.get Obj.ctxState ctx = cxPending) ∧
    (∃ (s u : State) (r : Req) (ctx : Fin 250) (outlet : Nat) (role space : Nat), Granted r Obj.ctxCommand ctx 0 [4]
      role space s u ∧ flushContext ctx u = u ∧ u.get Obj.ctxState ctx = cxDelivering ∧ outletOf u ctx = some outlet ∧
      u.get Obj.outletState outlet = 6 ∧ u.get Reg.stopKind outlet = 0) ∧
    (∃ (s u : State) (r : Req) (ctx : Fin 250) (outlet : Nat) (role space : Nat), Granted r Obj.ctxCommand ctx 0 [5]
      role space s u ∧ flushContext ctx u = u ∧ u.get Obj.ctxState ctx = cxDelivering ∧ outletOf u ctx = some outlet ∧
      u.get Obj.outletState outlet = 6 ∧ u.get Reg.stopKind outlet = 0) ∧
    (∃ (s : State) (ctx : Fin 250), s.get Obj.ctxState ctx = cxPending ∧ s.get Obj.ctxExpiry ctx ≠ 0 ∧ s.get
      Obj.ctxExpiry ctx ≤ s.time) := by
  refine ⟨?_, ?_, ?_, ?_, ?_, ?_⟩
  · exact ⟨_, _, _, 249, 1, 7, granted_testReq ((State.reset.set Obj.startUpStage 4).set Obj.journalWritesPermitted 1)
      rfl (by decide) (by decide) (by decide) (by decide), by decide⟩
  · exact ⟨_, _, _, 249, 1, 7, granted_testReq (((State.reset.set Obj.startUpStage 4).set Obj.journalWritesPermitted
      1).set Obj.ctxExpiry 5 249) rfl (by decide) (by decide) (by decide) (by decide), by decide⟩
  · exact ⟨_, _, _, 249, 1, 7, granted_testReq ((State.reset.set Obj.ctxState cxPending 249).set Obj.startUpStage 4) rfl
      (by decide) (by decide) (by decide) (by decide), by decide⟩
  · exact ⟨_, _, _, 249, 23, 1, 7, granted_testReq ((((State.reset.set Obj.ctxState cxDelivering 249).set
      Obj.boundContext 249 23).set Obj.outletState 6 23).set Obj.startUpStage 4) rfl (by decide) (by decide) (by
      decide) (by decide), by decide⟩
  · exact ⟨_, _, _, 249, 23, 1, 7, granted_testReq ((((State.reset.set Obj.ctxState cxDelivering 249).set
      Obj.boundContext 249 23).set Obj.outletState 6 23).set Obj.startUpStage 4) rfl (by decide) (by decide) (by
      decide) (by decide), by decide⟩
  · exact ⟨((State.reset.set Obj.ctxState cxPending 249).set Obj.ctxExpiry 5 249).set Obj.moduleTime 5, 249, by decide⟩

theorem test_meets_BlockStartSequence :
    (∃ (s : State) (block : Fin 64), blockSt s block = bkOff ∧ startCause s block = 0 ∧ outputDischarged s block =
      true) ∧
    (∃ (s : State) (block : Fin 64), s.is Reg.startWaiting block = true ∧ blockSt s block = bkOff ∧ outputDischarged
      s block = true) ∧
    (∃ (s : State) (block : Fin 64), s.is Reg.startWaiting block = true ∧ s.getN Reg.startAt block + 2500 ≤ s.frame ∧
      outputDischarged s block = false) ∧
    (∃ (s : State) (block : Fin 64), blockSt s block = bkTest ∧ s.getN Reg.startAt block + 4 ≤ s.frame ∧ (∀ p, p ∈
      usablePhases s block → s.get Reg.testOver p < 3)) ∧
    (∃ (s : State) (block : Fin 64), blockSt s block = bkStartDelay ∧ s.get Reg.gateReadyBy block = 0 ∧ s.getN
      Reg.startAt block + 5 + s.getN Obj.startDelay block ≤ s.frame + 1) ∧
    (∃ (s : State) (block : Fin 64), blockSt s block = bkStartDelay ∧ s.get Reg.gateReadyBy block ≠ 0 ∧ gateReady s
      (cabOfBlock block) = true) ∧
    (∃ (s : State) (block : Fin 64), blockSt s block = bkRampOn ∧ 1 ≤ s.real Reg.ramp block) := by
  refine ⟨?_, ?_, ?_, ?_, ?_, ?_, ?_⟩
  · exact ⟨testStartable, 63, by decide⟩
  · exact ⟨((State.reset.set Obj.blockState 0 63).set Reg.tmBusVoltage 9000 15).set Reg.startWaiting 1 63, 63, by
      decide⟩
  · exact ⟨(State.reset.set Obj.frameCounter 2500).set Reg.startWaiting 1 63, 63, by decide⟩
  · exact ⟨(State.reset.set Obj.blockState 256 63).set Obj.frameCounter 4, 63, by decide⟩
  · exact ⟨(State.reset.set Obj.blockState 512 63).set Obj.frameCounter 100000, 63, by decide⟩
  · exact ⟨((State.reset.set Obj.blockState 512 63).set Reg.gateReadyBy 5 63).set Reg.tmState 8 15, 63, by decide⟩
  · exact ⟨(State.reset.set Obj.blockState 768 63).setReal Reg.ramp 1 63, 63, by decide⟩

theorem test_meets_BlockStopAndPhases :
    (∃ (s : State) (block : Fin 64), blockSt s block = bkRunning) ∧
    (∃ (s : State) (block : Fin 64), blockSt s block = bkRampOff ∧ s.real Reg.ramp block ≤ 0) ∧
    (∃ (s : State) (block : Fin 64), blockSt s block = bkStopDelay ∧ s.is Reg.startHeld block = false ∧ s.getN
      Reg.blockSince block + s.getN Obj.stopDelay block ≤ s.frame) ∧
    (∃ (s u : State) (r : Req) (block : Fin 64) (d : List Byte) (role space : Nat), Granted r
      Obj.clearOverVoltageLatch block 0 d role space s u ∧ blockSt u block = bkLatched ∧ u.get Obj.dcVoltage (u.getN
      Obj.latchingOutlet block) < 50000 ∧ ((List.range 64).any fun b => blockSt u b == bkLatched && u.getN
      Obj.latchingOutlet b == u.getN Obj.latchingOutlet block && !latchedLow u (u.getN Obj.latchingOutlet block) b) =
      false) ∧
    (∃ (s : State) (phase : Fin 256), phaseSt s phase = phRetry ∧ s.getN Reg.retryAt phase + s.getN Obj.retryDelay
      phase ≤ s.frame ∧ switching s (blockOf phase) = false) ∧
    (∃ (s u : State) (r : Req) (phase : Fin 256) (d : List Byte) (role space : Nat), Granted r Obj.clearLockout phase
      0 d role space s u ∧ phaseSt u phase = phLocked ∧ u.get Obj.lockoutCause phase ≠ 1 ∧ blockSt u (blockOf phase) =
      bkOff) ∧
    (∃ (s : State) (block : Fin 64) (p : Nat), shedAllowed s block = true ∧ 500 ≤ s.get Reg.shedHold block ∧
      shedChoice s block = some p) := by
  refine ⟨?_, ?_, ?_, ?_, ?_, ?_, ?_⟩
  · exact ⟨State.reset.set Obj.blockState 1024 63, 63, by decide⟩
  · exact ⟨State.reset.set Obj.blockState 1280 63, 63, by decide⟩
  · exact ⟨(State.reset.set Obj.blockState 1536 63).set Obj.frameCounter 100000, 63, by decide⟩
  · exact ⟨_, _, _, 63, [1], 2, 7, granted_testReq (((State.reset.set Obj.blockState 1792 63).set Obj.latchingOutlet 23
      63).set Obj.startUpStage 4) rfl (by decide) (by decide) (by decide) (by decide), by decide⟩
  · exact ⟨(State.reset.set Obj.phaseState phRetry 255).set Obj.frameCounter 10000000, 255, by decide⟩
  · exact ⟨_, _, _, 255, [1], 2, 7, granted_testReq (((State.reset.set Obj.phaseState phLocked 255).set Obj.blockState 0
      63).set Obj.startUpStage 4) rfl (by decide) (by decide) (by decide) (by decide), by decide⟩
  · exact ⟨((((State.reset.set Obj.blockState 1024 63).set Obj.sheddingEnable 1 63).set Reg.shedHold 500 63).forN 4 (fun
      k u => (u.set Obj.phaseState phActive (252 + k)).set Obj.phaseDeclared 1 (252 + k))).set Obj.linkDeclared 1
      15, 63, 255, by decide⟩

theorem test_meets_AllocatorPasses :
    (∃ (s : State) (block : Fin 64), 4 ≤ s.get Reg.fastPassRun) ∧
    (∃ (s : State), s.is Reg.allocRunning = true) ∧
    (∃ (s u : State) (r : Req) (d : List Byte) (role space : Nat), Granted r Obj.dynamicSiteImportLimit 0 0 d role
      space s u) ∧
    (∃ (s : State), s.getN Obj.dynamicLimitHoldTime ≠ 0 ∧ s.is Reg.dynamicExpired = false ∧ s.getN Reg.dynamicAt +
      s.getN Obj.dynamicLimitHoldTime * second ≤ s.now) ∧
    (∃ (s : State) (feeder : Fin 4), s.get Reg.mainsAt feeder ≠ 0 ∧ s.getN Reg.mainsAt feeder + 10 * second ≤ s.now +
      1) ∧
    (∃ (s u : State) (r : Req) (block : Fin 64) (d : List Byte) (role space : Nat), Granted r Obj.clearWithhold block
      0 d role space s u ∧ allReportedOpen u block = true ∧ u.get Obj.allocState block = 7 ∧ u.get Obj.withholdCause
      block ≠ 3) ∧
    (∃ (s : State), s.is Obj.planningEnable = true ∧ s.is Reg.planDue = false ∧ timeSecond s % 10 = 0 ∧ s.get
      Reg.planSecond ≠ timeSecond s + 1) ∧
    (∃ (s : State), s.is Reg.planDue = true ∧ s.getN Reg.planAt + 10 * second ≤ s.now + 1) ∧
    (∃ (s : State), mayCheck s = true ∧ s.get Obj.role = roSolo ∧ s.get Obj.topologyResult = 0) ∧
    (∃ (s : State), mayCheck s = true ∧ s.get Obj.topologyResult = 1 ∧ topologyAwaits s = false) ∧
    (∃ (s u : State) (r : Req) (role space : Nat), Granted r Obj.runTopologyCheck 0 0 [1] role space s u) ∧
    (∃ (s : State) (outlet : Fin 24) (frame : List Byte), s.get Obj.coolantBus outlet ≠ 0xFF ∧ frame.length = 8) ∧
    (∃ (s : State) (outlet : Fin 24), s.get Obj.coolantBus outlet ≠ 0xFF ∧ s.is Obj.coolantSilent outlet = false ∧
      s.getN Reg.coolantAt outlet + 500 * millisecond ≤ s.now) := by
  refine ⟨?_, ?_, ?_, ?_, ?_, ?_, ?_, ?_, ?_, ?_, ?_, ?_, ?_⟩
  · exact ⟨(State.reset.set Reg.fastPassRun 4).set Reg.startHeld 1 63, 63, by decide⟩
  · exact ⟨State.reset.set Reg.allocRunning 1, by decide⟩
  · exact ⟨_, _, _, [0, 0, 0, 9], 1, 7, granted_testReq (State.reset.set Obj.startUpStage 4) rfl (by decide) (by decide)
      (by decide) (by decide)⟩
  · exact ⟨(State.reset.set Obj.dynamicLimitHoldTime 5).set Reg.elapsed 5000000000, by decide⟩
  · exact ⟨(State.reset.set Reg.mainsAt 1 3).set Reg.elapsed 10000000000, 3, by decide⟩
  · exact ⟨_, _, _, 63, [1], 2, 7, granted_testReq (((State.reset.set Obj.allocState 7 63).set Obj.withholdCause 1
      63).set Obj.startUpStage 4) rfl (by decide) (by decide) (by decide) (by decide), by decide⟩
  · exact ⟨State.reset.set Obj.planningEnable 1, by decide⟩
  · exact ⟨(State.reset.set Reg.planDue 1).set Reg.elapsed 10000000000, by decide⟩
  · exact ⟨((State.reset.set Obj.startUpStage 5).set Obj.role roSolo).set Obj.powerState 2, by decide⟩
  · exact ⟨(((State.reset.set Obj.startUpStage 5).set Obj.role roSolo).set Obj.powerState 2).set Obj.topologyResult 1,
      by decide⟩
  · exact ⟨_, _, _, 2, 7, granted_testReq ((State.reset).set Obj.startUpStage 4) rfl (by decide) (by decide) (by decide)
      (by decide)⟩
  · exact ⟨State.reset.set Obj.coolantBus 1 23, 23, [1, 2, 3, 4, 5, 6, 7, 8], by decide⟩
  · exact ⟨((State.reset.set Obj.coolantBus 1 23).set Reg.elapsed 500000000).set Obj.coolantSilent 0 23, 23, by decide⟩

theorem test_meets_BlockMigration :
    (∃ (s : State) (block : Fin 64), s.get Reg.mvQueued block ≠ 0 ∧ s.get Reg.mvKind block = 0 ∧ mayMove s block
      (s.get Reg.mvQueued block) (s.getN Reg.mvQueuedTo block) = true) ∧
    (∃ (s : State) (block : Fin 64), s.get Reg.mvStep block = 1 ∧ mayOpenReach s block = true ∧ s.getN Reg.mvM block
      + 1003 ≤ s.frame) ∧
    (∃ (s : State) (block : Fin 64), s.get Reg.mvStep block = 3 ∧ s.getN Reg.mvO block + 1500 ≤ s.frame ∧
      allReportedOpen s block = true) ∧
    (∃ (s : State) (block : Fin 64) (reach : Nat), reachTo s block (s.getN Reg.mvTarget block) = some reach ∧ s.get
      Reg.mvStep block = 4 ∧ s.get Reg.mvKind block = 1 ∧ 8 ≤ s.get Reg.nearRun block ∧ preChargeFrom s block + 1008 ≤
      s.frame ∧ mayCloseReach s block (s.getN Reg.mvTarget block) = true) ∧
    (∃ (s : State) (block : Fin 64) (reach : Nat), reachTo s block (s.getN Reg.mvTarget block) = some reach ∧ s.get
      Reg.mvStep block = 6 ∧ contactorReported s block reach = 1) ∧
    (∃ (s : State) (block : Fin 64), s.get Reg.mvStep block = 7 ∧ s.getN Reg.mvK block + 1000 ≤ s.frame) ∧
    (∃ (s : State) (block : Fin 64), s.get Reg.mvStep block = 1 ∧ s.getN Reg.mvM block + 1250 ≤ s.frame ∧
      mayOpenReach s block = false) ∧
    (∃ (s : State) (block : Fin 64), s.get Reg.mvStep block = 4 ∧ s.get Reg.mvKind block = 1 ∧ preChargeFrom s block
      + 5000 ≤ s.frame) ∧
    (∃ (s : State) (block : Fin 64) (reach : Nat), reachTo s block (s.getN Reg.mvTarget block) = some reach ∧ s.get
      Reg.mvStep block = 6 ∧ s.getN Reg.mvC block + 2000 ≤ s.frame) := by
  refine ⟨?_, ?_, ?_, ?_, ?_, ?_, ?_, ?_, ?_⟩
  · exact ⟨((((State.reset.set Reg.mvQueued 3 63).set Obj.boundOutlet 23 63).set Obj.reach 23 63 3).set
      Reg.contactorCommand 8 63).forN 1 (fun _ u => u.set Obj.allocState 1 63), 63, by decide +kernel⟩
  · exact ⟨((State.reset.set Reg.mvStep 1 63).set Reg.lowOut 3 63).set Obj.frameCounter 1003, 63, by decide⟩
  · exact ⟨(State.reset.set Reg.mvStep 3 63).set Obj.frameCounter 1500, 63, by decide⟩
  · exact ⟨(((((((((State.reset.set Obj.reach 23 63 3).set Reg.mvTarget 23 63).set Reg.mvStep 4 63).set Reg.mvKind 1
      63).set Reg.nearRun 8 63).set Obj.frameCounter 10000).set Reg.blockPassed 1 63).set Reg.cabPassed 1 15).set
      Obj.powerState pwRun).forN 1 (fun _ u => ((u.set Obj.role roSolo).set Obj.lifeCycleState lcField).set
      Reg.outletPassed 1 23), 63, 3, by decide⟩
  · exact ⟨(((State.reset.set Obj.reach 23 63 3).set Reg.mvTarget 23 63).set Reg.mvStep 6 63).set Reg.tmContactors 64
      63, 63, 3, by decide⟩
  · exact ⟨(State.reset.set Reg.mvStep 7 63).set Obj.frameCounter 1000, 63, by decide⟩
  · exact ⟨(State.reset.set Reg.mvStep 1 63).set Obj.frameCounter 1250, 63, by decide⟩
  · exact ⟨((State.reset.set Reg.mvStep 4 63).set Reg.mvKind 1 63).set Obj.frameCounter 6500, 63, by decide⟩
  · exact ⟨(((State.reset.set Obj.reach 23 63 3).set Reg.mvTarget 23 63).set Reg.mvStep 6 63).set Obj.frameCounter 2000,
      63, 3, by decide⟩

theorem test_meets_LoopSlotsAndCaptures :
    (∃ (s : State) (block : Fin 64), s.getN Reg.lastMismatch + 50000 ≤ s.frame) ∧
    (∃ (s : State), s.seq Reg.unfinished ≠ []) ∧
    (∃ (s : State), 8 ≤ s.get Reg.fastOverrunRun ∧ standbyFit s = true) ∧
    (∃ (s : State) (block : Fin 64), 8 ≤ s.get Reg.fastOverrunRun ∧ standbyFit s = false) ∧
    (∃ (s u : State) (r : Req) (slot : Fin 1024) (d : List Byte) (role space : Nat), Granted r Obj.slotPreset slot 0
      d role space s u) ∧
    (∃ (s u : State) (r : Req) (slot : Fin 1024) (d : List Byte) (role space : Nat), Granted r Obj.slotClear slot 0 d
      role space s u) ∧
    (∃ (s u : State) (r : Req) (slot : Fin 1024) (d : List Byte) (role space : Nat), Granted r Obj.slotParent slot 0
      d role space s u ∧ levelsFit (applyField 0 false ⟨Obj.slotParent.key slot 0, ofBytes d, [], false⟩ (applyField 0
      false ⟨Obj.slotRefSource.key slot 0, sourceOfParent (ofBytes d), [], false⟩ u)) = true) ∧
    (∃ (s u : State) (r : Req) (role space : Nat), Granted r Obj.startInjection 0 0 [1] role space s u ∧ 416 ≤ u.getN
      Obj.injectionTarget ∧ slotIsHeld u (u.getN Obj.injectionTarget) = false ∧ slotEnabled u (u.getN
      Obj.injectionTarget) = true ∧ u.get Obj.injectionState = 0) ∧
    (∃ (s u : State) (r : Req) (role space : Nat), Granted r Obj.stopInjection 0 0 [1] role space s u) ∧
    (∃ (s : State), s.get Obj.injectionState = 1 ∧ s.get Obj.injectionSignal = 1 ∧ s.getN Obj.injectionLength + 16384
      ≤ s.getN Reg.injectionCount) ∧
    (∃ (s u : State) (r : Req) (role space : Nat), Granted r Obj.captureCommand 0 0 [1] role space s u ∧ bankFree u
      (u.getN Obj.captureBank) = true ∧ u.get Obj.captureState = 0) ∧
    (∃ (s u : State) (r : Req) (role space : Nat), Granted r Obj.captureCommand 0 0 [2] role space s u ∧ u.get
      Obj.captureState = 1) ∧
    (∃ (s : State), s.get Obj.captureState = 1 ∧ 16384 ≤ s.get Obj.samplesTaken) ∧
    (∃ (s : State) (link : Fin 16), mayDriveLanes s = true ∧ s.get Reg.partnerActive = 0 ∧ commanded s link = true) := by
  refine ⟨?_, ?_, ?_, ?_, ?_, ?_, ?_, ?_, ?_, ?_, ?_, ?_, ?_, ?_⟩
  · exact ⟨(State.reset.set Obj.frameCounter 50000).set Reg.startRefused 1 63, 63, by decide⟩
  · exact ⟨State.reset.setSeq Reg.unfinished [5], by decide⟩
  · exact ⟨(((State.reset.set Obj.role roActive).set Reg.paired 1).set Obj.partnerRole roStandby).forN 1 (fun _ u =>
      (u.set Obj.partnerFit 1).set Reg.fastOverrunRun 8), by decide⟩
  · exact ⟨State.reset.set Reg.fastOverrunRun 8, 63, by decide⟩
  · exact ⟨_, _, _, 1023, [0, 0, 0, 0], 2, 7, granted_testReq (State.reset.set Obj.startUpStage 4) rfl (by
      decide +kernel) (by decide +kernel) (by decide +kernel) (by decide +kernel)⟩
  · exact ⟨_, _, _, 1023, [1], 2, 7, granted_testReq (State.reset.set Obj.startUpStage 4) rfl (by decide) (by decide)
      (by decide) (by decide)⟩
  · exact ⟨_, _, _, 1023, [0xFF, 0xFF], 2, 7, granted_testReq (State.reset.set Obj.startUpStage 4) rfl (by
      decide +kernel) (by decide +kernel) (by decide +kernel) (by decide +kernel), by decide +kernel⟩
  · exact ⟨_, _, _, 2, 7, granted_testReq (((State.reset.set Obj.injectionTarget 1023).set Obj.slotClass 1 1023).set
      Obj.startUpStage 4) rfl (by decide) (by decide) (by decide) (by decide), by decide⟩
  · exact ⟨_, _, _, 2, 7, granted_testReq ((State.reset.set Obj.injectionState 1).set Obj.startUpStage 4) rfl (by
      decide) (by decide) (by decide) (by decide)⟩
  · exact ⟨((State.reset.set Obj.injectionState 1).set Obj.injectionSignal 1).set Reg.injectionCount 10000000, by
      decide⟩
  · exact ⟨_, _, _, 2, 7, granted_testReq ((State.reset).set Obj.startUpStage 4) rfl (by decide) (by decide) (by decide)
      (by decide), by decide⟩
  · exact ⟨_, _, _, 2, 7, granted_testReq ((State.reset.set Obj.captureState 1).set Obj.startUpStage 4) rfl (by decide)
      (by decide) (by decide) (by decide), by decide⟩
  · exact ⟨(State.reset.set Obj.captureState 1).set Obj.samplesTaken 16384, by decide⟩
  · exact ⟨((State.reset.set Obj.startUpStage 4).set Obj.role 0).forN 1 (fun _ u => (u.set Obj.linkState lkRun 15).set
      Reg.linkCommanded 1 15), 15, by decide⟩

theorem test_meets_TerminalPlays :
    (∃ (s : State) (link : Fin 16) (f : List Byte), f.length = 536 ∧ ofBytes (f.drop 532) = crc32 (f.take 532) ∧
      fieldU f 0 1 = 0x11 ∧ fieldU f 1 1 / 16 = link ∧ fieldU f 4 4 = (s.get Reg.termNow link + 1) % 4294967296 ∧ s.is
      Reg.termSynced link = true) ∧
    (∃ (s : State) (link : Fin 16), s.get Reg.termMissed link < 40 ∧ s.is Reg.termSynced link = true) ∧
    (∃ (s : State) (link : Fin 16) (i : Fin 16), s.get Reg.termMissed link = 40 ∧ s.get Reg.termPhaseCmd (16 * link +
      i) ≠ 2) ∧
    (∃ (s : State) (phase : Fin 256) (cause : Fin 8), cause.val ≠ 0) := by
  refine ⟨?_, ?_, ?_, ?_⟩
  · exact ⟨State.reset.set Reg.termSynced 1 15, 15, (fun b => b ++ beBytes 4 (crc32 b)) ([0x11, 0xF0, 0, 0, 0, 0, 0, 1,
      31, 64] ++ List.replicate 522 0), by decide +kernel⟩
  · exact ⟨State.reset.set Reg.termSynced 1 15, 15, by decide⟩
  · exact ⟨(State.reset.set Reg.termMissed 40 15).set Reg.termPhaseCmd 1 255, 15, 15, by decide⟩
  · exact ⟨State.reset, 255, 7, by decide⟩

theorem test_meets_MainsLinkExchanges :
    (∃ (s : State), s.is Obj.linkEnable = true ∧ s.is Reg.mplLocked = true ∧ s.get Obj.mplState = 2 ∧ s.get
      Reg.mplRun < 7) ∧
    (∃ (s : State) (f : List Byte), mayClaim s = true ∧ s.log Reg.mplAwait = [] ∧ s.log Reg.mplQueue = [f] ∧ frPrio f
      < 4 ∧ callsFor (frType f) = true) ∧
    (∃ (s : State) (f : List Byte), s.log Reg.mplAwait = [f] ∧ s.is Reg.mplMissed = true ∧ mayClaim s = true ∧ s.get
      Reg.mplAttempts < attemptLimit s (frType f)) ∧
    (∃ (s : State) (outstation : Fin 63), outstation.val ≠ 0 ∧ s.is Obj.osDeclared outstation = true ∧ mayClaim s =
      true ∧ s.log Reg.mplQueue = [] ∧ s.log Reg.mplAwait = [] ∧ s.getN Reg.osPolledAt outstation = 0) ∧
    (∃ (s u : State) (r : Req) (outstation : Fin 63) (d : List Byte) (role space : Nat), Granted r Obj.osCommand
      outstation 0 d role space s u ∧ outstation.val ≠ 0) ∧
    (∃ (s : State) (outstation : Nat) (header body : List Byte), goodFrame s 1 header body = true ∧ frSource
      (header.take 13) = outstation ∧ s.getN Reg.osRxSeq outstation ≠ frSeq (header.take 13) + 1) ∧
    (∃ (s : State) (outstation : Nat) (header body : List Byte), goodFrame s 4 header body = true ∧ frSource
      (header.take 13) = outstation ∧ s.getN Reg.osRxSeq outstation ≠ frSeq (header.take 13) + 1) ∧
    (∃ (s : State) (outstation : Nat) (header body f : List Byte), goodFrame s 3 header body = true ∧ frSource
      (header.take 13) = outstation ∧ s.getN Reg.osRxSeq outstation ≠ frSeq (header.take 13) + 1 ∧ s.log Reg.mplAwait
      = [f] ∧ frDest f = outstation ∧ frType f = 7 ∧ frSeq f = ofBytes ((frPayload (header.take 13)).take 1)) ∧
    (∃ (s : State) (outstation : Nat) (header : List Byte) (snr : List Int), goodFrame s 6 header [] = true ∧
      frSource (header.take 13) = outstation ∧ s.getN Reg.osRxSeq outstation ≠ frSeq (header.take 13) + 1 ∧ isDriving
      s = true) ∧
    (∃ (s : State) (outstation : Nat) (header body : List Byte), goodFrame s 7 header body = true ∧ frSource
      (header.take 13) = outstation ∧ s.getN Reg.osRxSeq outstation ≠ frSeq (header.take 13) + 1 ∧ mapFits (ofBytes
      ((frPayload (header.take 13)).take 4)) = true ∧ ofBytes (((frPayload (header.take 13)).drop 4).take 1) < 2) ∧
    (∃ (s : State) (outstation : Fin 63), s.is Obj.osDeclared outstation = true ∧ 2 ≤ s.get Obj.osState outstation ∧
      mayClaim s = true ∧ s.is Reg.osDue outstation 0 = true ∧ s.is Reg.osEstimating outstation 0 = false) := by
  refine ⟨?_, ?_, ?_, ?_, ?_, ?_, ?_, ?_, ?_, ?_, ?_⟩
  · exact ⟨((State.reset.set Obj.linkEnable 1).set Reg.mplLocked 1).set Obj.mplState 2, by decide⟩
  · exact ⟨((State.reset.setLog Reg.mplQueue [mplFrame 1 0 1 3 [] []]).set Obj.mplState 2).set Obj.role roSolo, mplFrame
      1 0 1 3 [] [], by decide⟩
  · exact ⟨(((State.reset.setLog Reg.mplAwait [mplFrame 1 0 1 3 [] []]).set Obj.mplState 2).set Obj.role roSolo).set
      Reg.mplMissed 1, mplFrame 1 0 1 3 [] [], by decide⟩
  · exact ⟨((State.reset.set Obj.osDeclared 1 62).set Obj.mplState 2).set Obj.role roSolo, 62, by decide⟩
  · exact ⟨_, _, _, 62, [1, 2, 3, 4, 5, 6], 1, 7, granted_testReq (State.reset.set Obj.startUpStage 4) rfl (by decide)
      (by decide) (by decide) (by decide), by decide⟩
  · exact ⟨(State.reset.set Obj.osDeclared 1 1).set Obj.mplState 2, 1, testHeader 1 [1, 2, 3, 4, 0, 0, 0, 0], [], by
      decide +kernel⟩
  · exact ⟨(State.reset.set Obj.osDeclared 1 1).set Obj.mplState 2, 1, testHeader 4 [1, 2, 3, 4, 0, 0, 0, 0], [], by
      decide +kernel⟩
  · exact ⟨((State.reset.set Obj.osDeclared 1 1).set Obj.mplState 2).setLog Reg.mplAwait [mplFrame 1 7 1 3 [] []], 1,
      testHeader 3 [1, 2, 3, 4, 0, 0, 0, 0], [], mplFrame 1 7 1 3 [] [], by decide +kernel⟩
  · exact ⟨((State.reset.set Obj.osDeclared 1 1).set Obj.mplState 2).set Obj.role roSolo, 1, testHeader 6 [1, 2, 3, 4,
      0, 0, 0, 0], [], by decide +kernel⟩
  · exact ⟨(State.reset.set Obj.osDeclared 1 1).set Obj.mplState 2, 1, testHeader 7 [0x55, 0x55, 0x55, 0x55, 1, 0, 0,
      0], [], by decide +kernel⟩
  · exact ⟨((((State.reset.set Obj.osDeclared 1 62).set Obj.mplState 2).set Obj.role roSolo).set Obj.osState 2 62).set
      Reg.osDue 1 62 0, 62, by decide⟩

theorem test_meets_BillingBoundaries :
    (∃ (s : State), intervalDue s = true ∧ s.get Reg.bdKinds = 0) ∧
    (∃ (s : State) (c : Int), billingRuns s = true ∧ s.get Reg.bdKinds = 0 ∧ nextClosing s (max (s.get
      Reg.lastClosing) (civilTime s (s.get Reg.periodOpened))) = some c ∧ c ≤ civilTime s s.time) ∧
    (∃ (s u : State) (r : Req) (role space : Nat), Granted r Obj.closePeriod 0 0 [1] role space s u ∧ u.get
      Reg.bdKinds = 0) ∧
    (∃ (s : State), billingRuns s = true ∧ s.get Reg.bdKinds = 0 ∧ slotAt s s.time ≠ s.get Obj.slotInForce) ∧
    (∃ (s u : State) (r : Req) (d : List Byte) (role space : Nat), Granted r Obj.activationInstant 0 0 d role space s
      u ∧ u.time < ofBytesI d) ∧
    (∃ (s : State), billingRuns s = true ∧ s.get Reg.bdKinds = 0 ∧ s.is Reg.activationDue = true ∧ s.get
      Reg.activationAt ≤ s.time) ∧
    (∃ (s : State), billingRuns s = true ∧ s.get Reg.bdKinds = 0 ∧ dstShiftAt s s.time = 0 ∧ s.is Obj.dstInForce =
      true) ∧
    (∃ (s : State), s.get Reg.bdKinds ≠ 0) := by
  refine ⟨?_, ?_, ?_, ?_, ?_, ?_, ?_, ?_⟩
  · exact ⟨(State.reset.set Obj.timeQuality 1).set Obj.moduleTime 10000000000000000, by decide⟩
  · exact ⟨(State.reset.set Obj.timeQuality 1).set Obj.moduleTime 1000000000000000000, 2678400000000000, by decide⟩
  · exact ⟨_, _, _, 2, 7, granted_testReq ((State.reset).set Obj.startUpStage 4) rfl (by decide) (by decide) (by decide)
      (by decide), by decide⟩
  · exact ⟨(State.reset.set Obj.timeQuality 1).set Obj.slotInForce 7, by decide⟩
  · exact ⟨_, _, _, [1, 0, 0, 0, 0, 0, 0, 0], 2, 7, granted_testReq (State.reset.set Obj.startUpStage 4) rfl (by decide)
      (by decide) (by decide) (by decide), by decide⟩
  · exact ⟨(State.reset.set Obj.timeQuality 1).set Reg.activationDue 1, by decide⟩
  · exact ⟨(State.reset.set Obj.timeQuality 1).set Obj.dstInForce 1, by decide⟩
  · exact ⟨State.reset.set Reg.bdKinds 1, by decide⟩

theorem test_meets_MeteringChain :
    (∃ (s : State) (inputs : List Int), 2 ≤ s.get Obj.powerState ∧ s.waiting = [] ∧ s.is Reg.bdCommitted = false) ∧
    (∃ (s : State) (feeder : Fin 4), mainsCause s feeder ≠ 0) ∧
    (∃ (s : State) (feeder : Fin 4), s.is Obj.noMains feeder = true ∧ 10 ≤ s.get Reg.afGood feeder ∧ ((List.range
      6).any fun j => s.is Reg.channelFault (afChannel feeder j)) = false) ∧
    (∃ (s : State) (channel : Fin 76), s.get Reg.secondDone ≠ s.time / 1000000000 + 1 ∧ s.waiting = []) ∧
    (∃ (s : State) (channel : Fin 76), s.is Reg.channelFault channel = true ∧ s.getN Reg.channelBadAt channel +
      second ≤ s.now) ∧
    (∃ (s : State) (output : Fin 4), 0 < s.get Obj.pulsesOwed output ∧ s.getN Reg.pulseBusyUntil output ≤ s.now) ∧
    (∃ (s : State) (means : List Int) (outlet : Fin 24), s.get Obj.powerState = 1 ∧ means.getD outlet 0 ≤ s.get
      Obj.theftThreshold * 100) ∧
    (∃ (s u : State) (r : Req) (role space : Nat), Granted r Obj.clearTheftLog 0 0 [1] role space s u) ∧
    (∃ (s : State) (v : Nat), s.get Obj.role = roStandby) ∧
    (∃ (s : State) (partner : List Int) (k : Fin 32), s.time / 900000000000 ≠ s.get Reg.windowAt / 900000000000) ∧
    (∃ (s : State), s.is Obj.sealOpen = false) ∧
    (∃ (s : State), s.is Obj.sealOpen = true) ∧
    (∃ (s u : State) (r : Req) (d : List Byte) (role space : Nat), Granted r Obj.metrologyImageData 0 0 d role space
      s u ∧ auditFull s = false ∧ auditFull u = false ∧ u.get Obj.flashWritesPermitted = 1 ∧ u.getN
      Obj.metrologyImageWriteOffset + d.length ≤ 0x400000) ∧
    (∃ (s u : State) (r : Req) (role space : Nat), Granted r Obj.activateMetrologyImage 0 0 [1] role space s u ∧
      auditFull s = false ∧ auditFull u = false ∧ u.get Obj.flashWritesPermitted = 1) := by
  refine ⟨?_, ?_, ?_, ?_, ?_, ?_, ?_, ?_, ?_, ?_, ?_, ?_, ?_, ?_⟩
  · exact ⟨State.reset.set Obj.powerState 2, [], by decide⟩
  · exact ⟨State.reset.set Reg.sampleCount 1000000, 3, by decide +kernel⟩
  · exact ⟨(State.reset.set Obj.noMains 1 3).set Reg.afGood 10 3, 3, by decide⟩
  · exact ⟨State.reset, 75, by decide⟩
  · exact ⟨(State.reset.set Reg.channelFault 1 75).set Reg.elapsed 1000000000, 75, by decide⟩
  · exact ⟨State.reset.set Obj.pulsesOwed 5 3, 3, by decide⟩
  · exact ⟨State.reset.set Obj.powerState 1, [], 23, by decide⟩
  · exact ⟨_, _, _, 2, 7, granted_testReq ((State.reset.set Obj.startUpStage 4).set Obj.sealOpen 1) rfl (by decide) (by
      decide) (by decide) (by decide)⟩
  · exact ⟨State.reset.set Obj.role roStandby, 9, by decide⟩
  · exact ⟨State.reset.set Obj.moduleTime 900000000000, [], 31, by decide⟩
  · exact ⟨State.reset.set Obj.sealOpen 0, by decide⟩
  · exact ⟨State.reset.set Obj.sealOpen 1, by decide⟩
  · exact ⟨_, _, _, [1], 4, 7, granted_testReq (((State.reset.set Obj.startUpStage 4).set Obj.sealOpen 1).set
      Obj.flashWritesPermitted 1) rfl (by decide) (by decide) (by decide) (by decide), by decide⟩
  · exact ⟨_, _, _, 4, 7, granted_testReq (((State.reset.set Obj.startUpStage 4).set Obj.sealOpen 1).set
      Obj.flashWritesPermitted 1) rfl (by decide) (by decide) (by decide) (by decide), by decide⟩

theorem test_meets_StartUpStages :
    (∃ (s : State) (simplexOpen slotOpen : Bool) (rtc : Int) (since : Nat), s.get Obj.startUpStage = 0) ∧
    (∃ (s : State), s.get Obj.startUpStage = 1) ∧
    (∃ (s : State), s.get Obj.startUpStage = 2 ∧ s.is Reg.heldAtStage2 = false) ∧
    (∃ (s : State) (holdUp : Nat), s.get Obj.startUpStage = 3 ∧ holdUpGood holdUp = true) ∧
    (∃ (s : State), s.get Obj.startUpStage = 4 ∧ pairing s = true) ∧
    (∃ (s : State), s.get Obj.startUpStage = 4 ∧ stageOrigin 5 s + stageMax 5 < s.now) := by
  refine ⟨?_, ?_, ?_, ?_, ?_, ?_⟩
  · exact ⟨State.reset, true, true, 5, 0, by decide⟩
  · exact ⟨State.reset.set Obj.startUpStage 1, by decide⟩
  · exact ⟨State.reset.set Obj.startUpStage 2, by decide⟩
  · exact ⟨State.reset.set Obj.startUpStage 3, 48000, by decide⟩
  · exact ⟨(State.reset.set Obj.startUpStage 4).set Obj.backplane 1, by decide⟩
  · exact ⟨(State.reset.set Obj.startUpStage 4).set Reg.elapsed 20000000000, by decide⟩

theorem test_meets_ClockKept :
    (∃ (s : State), s.get Obj.startUpStage ≠ 0 ∧ s.is Reg.supplyHeld = false ∧ s.waiting = [] ∧ s.get Obj.backplane =
      0) ∧
    (∃ (s : State), s.frame % 500 = 0 ∧ s.get Obj.startUpStage = 6 ∧ s.get Obj.safeOutputStates % 16 ≠ 0 ∧ s.waiting
      = []) ∧
    (∃ (s : State) (temps : List (Int × Int)) (supplies offs : List Nat) (fitted : Bool) (k : Fin 40), s.frame % 5000
      = 0 ∧ 4 ≤ s.get Obj.startUpStage) ∧
    (∃ (s u : State) (r : Req) (d : List Byte) (role space : Nat), Granted r Obj.requestedDuneDepth 0 0 d role space
      s u) ∧
    (∃ (s : State), ditherIndex s.frame = 0 ∧ 4 ≤ s.get Obj.startUpStage) ∧
    (∃ (s u : State) (r : Req) (d : List Byte) (role space : Nat), Granted r Obj.samplingLead 0 0 d role space s u ∧
      leadFits u (ofBytes d) = true) ∧
    (∃ (s : State) (a : Announce), ptpHears s a.domain = true ∧ a.identity.length = 8 ∧ s.seq Reg.ptpMasters = []) ∧
    (∃ (s : State) (identity : List Byte) (domain : Nat) (diff : Int), ptpHears s domain = true ∧ s.is Reg.ptpMaster
      = true ∧ s.bytes Obj.masterIdentity = identity ∧ 1000000000 < diff - s.get Reg.ptpDelay) ∧
    (∃ (s : State) (identity : List Byte) (diff : Int), s.is Reg.ptpMaster = true ∧ s.is Obj.ptpEnable = true ∧
      s.bytes Obj.masterIdentity = identity) ∧
    (∃ (s : State), s.is Reg.ptpMaster = true ∧ s.getN Reg.ptpSyncAt + 4 * second ≤ s.now ∧ s.now < s.getN
      Reg.ptpAnnounceAt + announceTimeout ∧ s.get Obj.timeQuality = 3) ∧
    (∃ (s : State), s.get Obj.timeQuality = 2 ∧ s.getN Reg.holdoverAt + 86400 * second ≤ s.now) ∧
    (∃ (s u : State) (r : Req) (d : List Byte) (role space : Nat), Granted r Obj.moduleTime 0 0 d role space s u ∧
      auditBlocks (ofBytesI d) s = false ∧ auditBlocks (ofBytesI d) u = false ∧ u.get Obj.timeQuality = 1 ∧ |ofBytesI
      d - u.time| ≤ 1000000000) ∧
    (∃ (s : State), 2 ≤ s.get Obj.timeQuality ∧ s.getN Reg.rtcUpdatedAt + 60 * second ≤ s.now) ∧
    (∃ (s : State) (ppb : Int), |ppb| ≤ 100000) := by
  refine ⟨?_, ?_, ?_, ?_, ?_, ?_, ?_, ?_, ?_, ?_, ?_, ?_, ?_, ?_⟩
  · exact ⟨(State.reset.set Obj.startUpStage 4).set Reg.supplyHeld 0, by decide⟩
  · exact ⟨(State.reset.set Obj.startUpStage 6).set Obj.safeOutputStates 1, by decide⟩
  · exact ⟨State.reset.set Obj.startUpStage 4, [], [24000], [], true, 39, by decide⟩
  · exact ⟨_, _, _, [1], 2, 7, granted_testReq (State.reset.set Obj.startUpStage 4) rfl (by decide) (by decide) (by
      decide) (by decide)⟩
  · exact ⟨(State.reset.set Obj.startUpStage 4).set Obj.requestedDuneDepth 2, by decide⟩
  · exact ⟨_, _, _, [7, 0xD0], 2, 7, granted_testReq (State.reset.set Obj.startUpStage 4) rfl (by decide) (by decide)
      (by decide) (by decide), by decide⟩
  · exact ⟨((State.reset.set Obj.startUpStage 4).set Obj.ptpEnable 1).set Obj.ethLinkState 1, ⟨[1, 2, 3, 4, 5, 6, 7, 8],
      0, 1, 2, 3, 4, 5, 6⟩, by decide⟩
  · exact ⟨((((State.reset.set Obj.startUpStage 4).set Obj.ptpEnable 1).set Obj.ethLinkState 1).set Reg.ptpMaster
      1).setBytes Obj.masterIdentity [1], [1], 0, 2000000000, by decide⟩
  · exact ⟨((State.reset.set Obj.ptpEnable 1).set Reg.ptpMaster 1).setBytes Obj.masterIdentity [1], [1], 9, by decide⟩
  · exact ⟨(((State.reset.set Reg.ptpMaster 1).set Reg.elapsed 4000000000).set Reg.ptpAnnounceAt 4000000000).set
      Obj.timeQuality 3, by decide⟩
  · exact ⟨(State.reset.set Obj.timeQuality 2).set Reg.elapsed 86400000000000, by decide⟩
  · exact ⟨_, _, _, [0, 0, 0, 0, 0, 0, 0, 9], 5, 7, granted_testReq ((State.reset.set Obj.timeQuality 1).set
      Obj.startUpStage 4) rfl (by decide) (by decide) (by decide) (by decide), by decide⟩
  · exact ⟨(State.reset.set Obj.timeQuality 2).set Reg.elapsed 60000000000, by decide⟩
  · exact ⟨State.reset, 5, by decide⟩

theorem test_meets_RecordsAndTamper :
    (∃ (s : State) (ctx : Fin 250), maySeal s ctx = true) ∧
    (∃ (s u : State) (r : Req) (d : List Byte) (role space : Nat), Granted r Obj.recordSelector 0 0 d role space s u
      ∧ recordOfSerial u (ofBytes d) ≠ none) ∧
    (∃ (s u : State) (r : Req) (d e : List Byte) (role space : Nat), Granted r Obj.collectRecord 0 0 d role space s u
      ∧ u.get Obj.lifeCycleState ≠ lcRetired ∧ recordOfSerial u (ofBytes d) = some e) ∧
    (∃ (s u : State) (r : Req) (d e : List Byte) (role space : Nat), Granted r Obj.releaseUpTo 0 0 d role space s u ∧
      u.get Obj.lifeCycleState ≠ lcRetired ∧ recordOfSerial u (ofBytes d) = some e ∧ isCollected u e = true) ∧
    (∃ (s : State) (input : Fin 8), s.bit Obj.tamperInputStates input = false ∧ s.get Obj.powerState ≠ 0 ∧ s.bit
      Obj.tamperEnable input = true) ∧
    (∃ (s : State) (outlet : Fin 24) (readings : List Int), s.is Reg.magWanted outlet = true ∧ magQuiet s outlet =
      true ∧ readings.length = 100) ∧
    (∃ (s u : State) (r : Req) (d : List Byte) (outlet : Fin 24) (role space : Nat), Granted r Obj.runMagneticTest 0
      0 d role space s u ∧ (ofBytes d).testBit outlet = true) ∧
    (∃ (s u v : State) (r : Req) (index sub role space : Nat) (d : List Byte), r.complete = true ∧ judgeRequest r 1
      index sub [] { s with out := [] } = .accept u space role false ∧ readAddress index sub role u = .ok (d, v)) := by
  refine ⟨?_, ?_, ?_, ?_, ?_, ?_, ?_, ?_⟩
  · exact ⟨(((((State.reset.set Obj.role roSolo).set Obj.ctxState cxClosing 249).set Obj.lifeCycleState lcField).set
      Obj.randomSourceState 1).setBytes Reg.keyShare [1] 0 0).setBytes Reg.keyShare [2] 0 1, 249, by decide⟩
  · exact ⟨_, _, _, [0, 0, 0, 0], 0, 7, granted_testReq ((State.reset.setLog Reg.recordStore [[]]).set Obj.startUpStage
      4) rfl (by decide) (by decide) (by decide) (by decide), by decide⟩
  · exact ⟨_, _, _, [0, 0, 0, 0], [], 1, 7, granted_testReq (((State.reset.setLog Reg.recordStore [[]]).set
      Obj.lifeCycleState lcField).set Obj.startUpStage 4) rfl (by decide) (by decide) (by decide) (by decide), by
      decide⟩
  · exact ⟨_, _, _, [0, 0, 0, 0], [], 2, 7, granted_testReq ((((State.reset.setLog Reg.recordStore [[]]).set
      Obj.lifeCycleState lcField).setSeq Reg.recordCollected [0]).set Obj.startUpStage 4) rfl (by decide) (by
      decide) (by decide) (by decide), by decide⟩
  · exact ⟨State.reset.set Obj.tamperEnable 128, 7, by decide⟩
  · exact ⟨((State.reset.set Reg.magWanted 1 23).set Reg.quietSince 1 23).set Reg.elapsed 1000000000, 23, List.replicate
      100 5, by decide⟩
  · exact ⟨_, _, _, [0, 0x80, 0, 0], 23, 2, 7, granted_testReq (State.reset.set Obj.startUpStage 4) rfl (by decide) (by
      decide) (by decide) (by decide), by decide⟩
  · exact ⟨inSession 2 (State.reset.set Obj.startUpStage 4), _, _, testReqAs 1 2 0x2000 2 [], 0x2000, 2, 2, 7, _, rfl,
      judged_testReq 1 2 0x2000 2 [] (State.reset.set Obj.startUpStage 4) rfl (by decide) (by decide), rfl⟩

theorem test_meets_LifeCycleAndKeys :
    (∃ (s u : State) (r : Req) (role space : Nat), Granted r Obj.requestedTransition 0 0 [2] role space s u ∧
      transitionStatus u 2 role = 0) ∧
    (∃ (s u : State) (r : Req) (role space : Nat), Granted r Obj.requestedTransition 0 0 [3] role space s u ∧
      transitionStatus u 3 role = 0) ∧
    (∃ (s u : State) (r : Req) (role space : Nat), Granted r Obj.requestedTransition 0 0 [4] role space s u ∧
      transitionStatus u 4 role = 0 ∧ role = roleService) ∧
    (∃ (s : State), s.get Reg.retireAskedAt ≠ 0 ∧ s.getN Reg.retireAskedAt + 60 * second < s.now + 1) ∧
    (∃ (s : State), s.get Reg.transitionTo ≠ 0 ∧ s.get Obj.randomSourceState = 1 ∧ s.is Reg.paired = false) ∧
    (∃ (s u : State) (r : Req) (d : List Byte) (role space : Nat), Granted r Obj.fmkVersion 0 0 d role space s u ∧
      anySession u = false) ∧
    (∃ (s : State), s.getN Reg.remaskAt + 12500 ≤ s.frame ∧ kcReady s = true) ∧
    (∃ (s : State), s.get Reg.blobsAt + 86400 * second ≤ s.time ∧ kcReady s = true) ∧
    (∃ (s u : State) (r : Req) (index : Fin 5) (d : List Byte) (role space : Nat), Granted r Obj.rolePublicKey 0
      index d role space s u ∧ index.val < 3) ∧
    (∃ (s u : State) (r : Req) (index : Fin 5) (d : List Byte) (role space ident seq : Nat) (macs : List (List
      Byte)), Granted r Obj.canRoleKey 0 index d role space s u ∧ r.auth = Auth.session ident seq macs ∧ index.val < 3
      ∧ u.get Obj.lifeCycleState = lcField ∧ secretOf u kField ≠ [] ∧ kcReady u = true) ∧
    (∃ (s u : State) (r : Req) (role space : Nat), Granted r Obj.generateSeccKey 0 0 [1] role space s u ∧ u.get
      Obj.lifeCycleState = lcField ∧ secretOf u kField ≠ [] ∧ kcReady u = true ∧ u.waiting = []) ∧
    (∃ (s u : State) (r : Req) (role space : Nat), Granted r Obj.generateSeccKey 0 0 [2] role space s u ∧ u.get
      Obj.lifeCycleState = lcField ∧ secretOf u kField ≠ [] ∧ kcReady u = true ∧ u.waiting = []) ∧
    (∃ (s u : State) (r : Req) (role space : Nat), Granted r Obj.generateSeccKey 0 0 [3] role space s u ∧ u.get
      Obj.lifeCycleState = lcField ∧ secretOf u kField ≠ [] ∧ kcReady u = true ∧ u.waiting = []) ∧
    (∃ (s u : State) (r : Req) (d : List Byte) (role space : Nat), Granted r Obj.attestationNonce 0 0 d role space s
      u ∧ attestable u = true ∧ kcReady u = true ∧ u.waiting = []) ∧
    (∃ (s : State) (test : Fin 3), test.val ≠ 0) ∧
    (∃ (s : State), s.get Obj.randomSourceState = 0) := by
  refine ⟨?_, ?_, ?_, ?_, ?_, ?_, ?_, ?_, ?_, ?_, ?_, ?_, ?_, ?_, ?_, ?_⟩
  · exact ⟨_, _, _, 2, 7, granted_testReq ((State.reset.set Obj.lifeCycleState lcService).set Obj.startUpStage 4) rfl
      (by decide) (by decide) (by decide) (by decide), by decide⟩
  · exact ⟨_, _, _, 3, 7, granted_testReq ((State.reset.set Obj.lifeCycleState lcField).set Obj.startUpStage 4) rfl (by
      decide) (by decide) (by decide) (by decide), by decide⟩
  · exact ⟨_, _, _, 3, 7, granted_testReq (((State.reset.set Obj.lifeCycleState lcField).set Reg.retireAskedAt 1).set
      Obj.startUpStage 4) rfl (by decide) (by decide) (by decide) (by decide), by decide⟩
  · exact ⟨(State.reset.set Reg.retireAskedAt 1).set Reg.elapsed 60000000001, by decide⟩
  · exact ⟨(State.reset.set Reg.transitionTo 4).set Obj.randomSourceState 1, by decide⟩
  · exact ⟨_, _, _, [5], 2, 7, granted_testReq (State.reset.set Obj.startUpStage 4) rfl (by decide) (by decide) (by
      decide) (by decide), by decide⟩
  · exact ⟨(State.reset.set Obj.frameCounter 12500).set Obj.randomSourceState 1, by decide⟩
  · exact ⟨(State.reset.set Obj.moduleTime 86400000000000).set Obj.randomSourceState 1, by decide⟩
  · exact ⟨_, _, _, 2, List.replicate 65 5, 2, 7, granted_testReq (State.reset.set Obj.startUpStage 4) rfl (by decide)
      (by decide) (by decide) (by decide), by decide⟩
  · exact ⟨_, _, _, 2, List.replicate 32 5, 2, 7, 7, 1, _, granted_testReq (((((State.reset.set Obj.lifeCycleState
      lcField).set Obj.randomSourceState 1).setBytes Reg.keyShare [1] 0 0).setBytes Reg.keyShare [2] 0 1).set
      Obj.startUpStage 4) rfl (by decide) (by decide) (by decide) (by decide), rfl, by decide⟩
  · exact ⟨_, _, _, 2, 7, granted_testReq (((((State.reset.set Obj.lifeCycleState lcField).set Obj.randomSourceState
      1).setBytes Reg.keyShare [1] 0 0).setBytes Reg.keyShare [2] 0 1).set Obj.startUpStage 4) rfl (by decide) (by
      decide) (by decide) (by decide), by decide⟩
  · exact ⟨_, _, _, 2, 7, granted_testReq (((((State.reset.set Obj.lifeCycleState lcField).set Obj.randomSourceState
      1).setBytes Reg.keyShare [1] 0 0).setBytes Reg.keyShare [2] 0 1).set Obj.startUpStage 4) rfl (by decide) (by
      decide) (by decide) (by decide), by decide⟩
  · exact ⟨_, _, _, 2, 7, granted_testReq (((((State.reset.set Obj.lifeCycleState lcField).set Obj.randomSourceState
      1).setBytes Reg.keyShare [1] 0 0).setBytes Reg.keyShare [2] 0 1).set Obj.startUpStage 4) rfl (by decide) (by
      decide) (by decide) (by decide), by decide⟩
  · exact ⟨_, _, _, List.replicate 32 5, 0, 7, granted_testReq ((State.reset.set Obj.randomSourceState 1).set
      Obj.startUpStage 4) rfl (by decide) (by decide) (by decide) (by decide), by decide⟩
  · exact ⟨State.reset, 2, by decide⟩
  · exact ⟨State.reset, by decide⟩

theorem test_meets_ImagesActivated :
    (∃ (s u : State) (r : Req) (d : List Byte) (role space : Nat), Granted r Obj.imageData 0 0 d role space s u ∧
      u.get Obj.flashWritesPermitted = 1 ∧ u.getN Obj.imageWriteOffset + d.length ≤ 0x1000000) ∧
    (∃ (s u : State) (r : Req) (role space : Nat), Granted r Obj.activateImage 0 0 [1] role space s u) ∧
    (∃ (s u : State) (r : Req) (role space : Nat), Granted r Obj.confirmTrialImage 0 0 [1] role space s u ∧ u.get
      Obj.trialState = 1 ∧ u.get Obj.imageInUse = u.get Reg.trialSlot ∧ 600 * second ≤ u.now) := by
  refine ⟨?_, ?_, ?_⟩
  · exact ⟨_, _, _, [5, 6, 7], 2, 7, granted_testReq (((State.reset.set Obj.flashWritesPermitted 1).set
      Obj.imageWriteOffset 0xFFFFFD).set Obj.startUpStage 4) rfl (by decide) (by decide) (by decide) (by decide), by
      decide⟩
  · exact ⟨_, _, _, 2, 7, granted_testReq ((State.reset).set Obj.startUpStage 4) rfl (by decide) (by decide) (by decide)
      (by decide)⟩
  · exact ⟨_, _, _, 2, 7, granted_testReq (((State.reset.set Obj.trialState 1).set Reg.elapsed 600000000000).set
      Obj.startUpStage 4) rfl (by decide) (by decide) (by decide) (by decide), by decide⟩

theorem test_meets_SessionsOfHosts :
    (∃ (s : State) (port : Fin 2) (addr tag epoch : Nat) (payload : List Byte), 4 ≤ s.get Obj.startUpStage ∧
      lockedOut s addr = false ∧ s.get Obj.randomSourceState = 1 ∧ s.sessions.length < 16 ∧ payload.length = 98) ∧
    (∃ (s : State) (x : Session) (seq tag epoch : Nat) (sig mac : List Byte), 4 ≤ s.get Obj.startUpStage ∧ s.sessions
      = [x] ∧ x.opening = true ∧ x.lastIn < seq ∧ macsGood x 6 tag epoch 0 0 seq sig [mac] = true ∧ roleKeyOf s x.role
      ≠ [] ∧ sig.length = 64) ∧
    (∃ (s u : State) (r : Req) (ident seq space role : Nat) (macs : List (List Byte)) (plain : Bool), r.auth =
      Auth.session ident seq macs ∧ authenticate r 7 0 0 [] { s with out := [] } = .accept u space role plain) ∧
    (∃ (s : State) (x : Session), s.sessions = [x] ∧ x.traffic + 300 * second ≤ s.now) ∧
    (∃ (s : State) (x : Session), s.sessions = [x] ∧ x.opened + 86400 * second ≤ s.now) := by
  refine ⟨?_, ?_, ?_, ?_, ?_⟩
  · exact ⟨(State.reset.set Obj.startUpStage 4).set Obj.randomSourceState 1, 1, 5, 6, 7, List.replicate 98 1, by decide⟩
  · exact 
      ⟨{ (State.reset.set Obj.startUpStage 4).setBytes Obj.rolePublicKey [1] 0 0 with sessions := [{ testSession 1 with opening := true }] },
      { testSession 1 with opening := true }, 1, 1, 0, List.replicate 64 5, (testMacs 6 1 0 0 (List.replicate 64
      5)).headD [], by decide, rfl, rfl, by decide, macsGood_testMacs 6 1 0 0 (List.replicate 64 5), by decide, by
      decide⟩
  · exact ⟨inSession 1 (State.reset.set Obj.startUpStage 4), _, testReqAs 7 1 0 0 [], 7, 1, _, _, _, _, rfl,
      authenticated_testReq 7 1 0 0 [] (State.reset.set Obj.startUpStage 4) (by decide)⟩
  · exact ⟨{ State.reset.set Reg.elapsed 300000000000 with sessions := [testSession 1] }, testSession 1, by decide⟩
  · exact ⟨{ State.reset.set Reg.elapsed 86400000000000 with sessions := [testSession 1] }, testSession 1, by decide⟩

theorem test_meets_CommitsAndPushes :
    (∃ (s u : State) (r : Req) (role space : Nat), Granted r Obj.commitCommand 0 0 [1] role space s u ∧ commitStatus
      u = 0) ∧
    (∃ (s : State), s.get Reg.commitRunning = 1 ∧ beforeCommit s = []) ∧
    (∃ (s u : State) (r : Req) (channel : Fin 8) (role space : Nat), Granted r Obj.commitCommand 0 0 [2] role space s
      u ∧ commitStatus u = 0 ∧ u.waiting = [] ∧ u.committing = [] ∧ u.dirty = [Obj.flushTime.key channel 0]) ∧
    (∃ (s u : State) (r : Req) (channel : Fin 8) (d : List Byte) (ident seq space role : Nat) (macs : List (List
      Byte)) (plain : Bool), r.auth = Auth.session ident seq macs ∧ judgeRequest r 8 (0x1200 + channel) 0 d
      { s with out := [] } = .accept u space role plain ∧ postStatus u channel role space d = 0) ∧
    (∃ (s : State) (channel : Fin 8) (b : Byte) (item : List Byte), 0 < s.get Obj.windowsPosted channel ∧ s.get
      Reg.pushNext channel = 0 ∧ s.log Reg.pushQueue channel = [b :: item]) ∧
    (∃ (s : State) (channel : Fin 8), s.get Reg.pushWindowAt channel ≠ 0 ∧ nothingReady s channel = true ∧ s.getN
      Reg.pushWindowAt channel + s.getN Obj.flushTime channel * millisecond ≤ s.now + 1) ∧
    (∃ (s : State) (channel : Fin 8) (since : Int) (rest : List Int), s.seq Reg.pushAckDue channel = since :: rest ∧
      since + 10 * second ≤ s.now + 1) ∧
    (∃ (s : State) (channel : Fin 8), 0 < s.get Reg.pushIdleSince channel ∧ s.get Obj.startUpStage = 2 ∧ s.getN
      Reg.pushIdleSince channel + 60 * second ≤ s.now + 1) ∧
    (∃ (s u : State) (r : Req) (d : List Byte) (role space : Nat), Granted r Obj.exportLog 0 0 d role space s u ∧
      u.log Reg.pushQueue (u.getN Obj.exportPushChannel) = [] ∧ kcReady u = true ∧ u.waiting = []) := by
  refine ⟨?_, ?_, ?_, ?_, ?_, ?_, ?_, ?_, ?_⟩
  · exact ⟨_, _, _, 2, 7, granted_testReq ((State.reset.set Obj.flashWritesPermitted 1).set Obj.startUpStage 4) rfl (by
      decide) (by decide) (by decide) (by decide), by decide⟩
  · exact ⟨State.reset.set Reg.commitRunning 1, by decide⟩
  · exact ⟨_, _, _, 7, 2, 7, granted_testReq
      (({ State.reset.set Obj.flashWritesPermitted 1 with dirty := [Obj.flushTime.key 7 0] }).set Obj.startUpStage
      4) rfl (by decide) (by decide) (by decide) (by decide), by decide⟩
  · exact ⟨inSession 2 (State.reset.set Obj.startUpStage 4), _, testReqAs 8 2 (0x1200 + 7) 0 [0, 0, 0, 1, 0, 0, 4, 0, 0,
      0, 0, 0], 7, [0, 0, 0, 1, 0, 0, 4, 0, 0, 0, 0, 0], 7, 1, _, _, _, _, rfl, judged_testReq 8 2 _ 0 [0, 0, 0, 1,
      0, 0, 4, 0, 0, 0, 0, 0] (State.reset.set Obj.startUpStage 4) rfl (by decide) (by decide), by decide⟩
  · exact ⟨((State.reset.setLog Reg.pushQueue [[1, 2, 3]] 7).set Obj.windowsPosted 1 7).setSeq Reg.pushWindows [1, 1024]
      7, 7, 1, [2, 3], by decide⟩
  · exact ⟨((State.reset.set Obj.windowsPosted 1 7).set Reg.pushWindowAt 1 7).set Reg.elapsed 100000000000, 7, by
      decide⟩
  · exact ⟨(State.reset.setSeq Reg.pushAckDue [1] 7).set Reg.elapsed 10000000000, 7, 1, [], by decide⟩
  · exact ⟨((State.reset.set Reg.pushIdleSince 1 7).set Obj.startUpStage 2).set Reg.elapsed 60000000000, 7, by decide⟩
  · exact ⟨_, _, _, [1], 2, 7, granted_testReq ((State.reset.set Obj.randomSourceState 1).set Obj.startUpStage 4) rfl
      (by decide) (by decide) (by decide) (by decide), by decide⟩

theorem test_meets_TransfersOfRequests :
    (∃ (s u : State) (r : Req) (d : List Byte) (role space : Nat), Granted r Obj.efficiency 0 0 d role space s u ∧
      u.waiting = []) ∧
    (∃ (s u : State) (r : Req) (d : List Byte) (role space : Nat), Granted r Obj.idleDelay 0 0 d role space s u) ∧
    (∃ (s : State) (tag : Fin 256), s.bytes Reg.canRest tag ≠ []) ∧
    (∃ (s : State) (space tag : Nat) (w : Waiting), partlyOf s space tag = some w ∧ space ≠ 0 ∧ w.since + second ≤
      s.now) ∧
    (∃ (s : State) (tag : Fin 256) (w : Waiting), partlyOf s 0 tag = some w ∧ w.since + 100 * millisecond ≤ s.now) ∧
    (∃ (s : State) (tag : Fin 256), partlyOf s 0 tag = none ∧ s.bytes Reg.canRest tag ≠ [] ∧ s.getN Reg.canRestAt tag
      + 100 * millisecond ≤ s.now) := by
  refine ⟨?_, ?_, ?_, ?_, ?_, ?_⟩
  · exact ⟨_, _, _, [3, 132], 2, 7, granted_testReq (State.reset.set Obj.startUpStage 4) rfl (by decide) (by decide) (by
      decide) (by decide), by decide⟩
  · exact ⟨_, _, _, [0, 40], 2, 7, granted_testReq (State.reset.set Obj.startUpStage 4) rfl (by decide) (by decide) (by
      decide) (by decide)⟩
  · exact ⟨State.reset.setBytes Reg.canRest (List.replicate 1000 1) 255, 255, by decide⟩
  · exact 
      ⟨({ State.reset.set Reg.elapsed 1000000000 with waiting := [Waiting.mk 7 1 0 0x82 Boundary.atOnce true 0 2 false []] }
      : State), 7, 1, Waiting.mk 7 1 0 0x82 Boundary.atOnce true 0 2 false [], by decide⟩
  · exact 
      ⟨({ State.reset.set Reg.elapsed 100000000 with waiting := [Waiting.mk 0 255 0 0x82 Boundary.atOnce true 0 2 false []] }
      : State), 255, Waiting.mk 0 255 0 0x82 Boundary.atOnce true 0 2 false [], by decide⟩
  · exact ⟨(State.reset.setBytes Reg.canRest [1] 255).set Reg.elapsed 100000000, 255, by decide⟩

theorem test_meets_CanFramesMove :
    (∃ (s : State) (bus : Fin 4) (ext fd : Bool) (ident m : Nat) (data : List Byte), canListens s bus = true ∧
      isHeartbeat s bus ext fd ident data = false ∧ takerOf s bus ext fd ident = some m ∧ s.get Obj.moFifoNext m = 255) ∧
    (∃ (s : State) (bus : Fin 4) (ext fd : Bool) (ident : Nat) (data : List Byte), canListens s bus = true) ∧
    (∃ (s u : State) (r : Req) (mo : Fin 512) (d : List Byte) (role space : Nat), Granted r Obj.moData mo 0 d role
      space s u ∧ moOwned u mo = false) ∧
    (∃ (s : State) (mo : Fin 512), s.get Obj.moUse mo = 2 ∧ s.get Obj.moPeriod mo ≠ 0 ∧ 0 ≤ s.get Obj.moPeriod mo ∧
      s.getN Reg.moPeriodAt mo + s.getN Obj.moPeriod mo * millisecond ≤ s.now) ∧
    (∃ (s : State) (bus : Fin 4) (m : Nat), s.getN Reg.canOnBus bus = m + 1 ∧ s.is Reg.ttEnterDue bus = false) ∧
    (∃ (s u : State) (r : Req) (mo : Fin 512) (field : Fin 4) (d : List Byte) (role space : Nat), Granted r
      (moFieldObj field) mo 0 d role space s u ∧ moStatusOf u mo (moFieldsWith u mo [⟨(moFieldObj field).key mo 0,
      (moFieldObj field).ty.decode d, [], false⟩]) = 0 ∧ moBoundary u mo = Boundary.atOnce) ∧
    (∃ (s u : State) (r : Req) (mo : Fin 512) (f : List Byte) (role space : Nat), Granted r Obj.moAbort mo 0 [1] role
      space s u ∧ moOwned u mo = false ∧ u.log Reg.moFrames mo = [f] ∧ u.getN Reg.canOnBus (busOf mo) ≠ mo + 1 ∧ u.is
      Reg.moAbortDue mo = false) ∧
    (∃ (s u : State) (r : Req) (mo : Fin 512) (role space : Nat), Granted r Obj.moAbort mo 0 [1] role space s u ∧
      moOwned u mo = false ∧ u.getN Reg.canOnBus (busOf mo) = mo + 1) ∧
    (∃ (s : State) (mo : Fin 512), s.get Obj.moUse mo = 1 ∧ s.get Obj.moDeadline mo ≠ 0 ∧ 0 ≤ s.get Obj.moDeadline mo
      ∧ s.getN Reg.moWatchAt mo + s.getN Obj.moDeadline mo * millisecond ≤ s.now) ∧
    (∃ (s : State) (bus : Fin 4) (w : Waiting) (v : Int), s.get Reg.canOnBus bus = 0 ∧ s.waiting = [w] ∧ w.boundary =
      Boundary.busIdle bus ∧ w.partly = false ∧ w.writes = [FieldWrite.mk (Obj.nominalRateCode.key bus 0) v [] false]) ∧
    (∃ (s : State) (bus : Fin 2), isDriving s = true ∧ s.get Obj.controllerState (2 + bus) = csMonitor) := by
  refine ⟨?_, ?_, ?_, ?_, ?_, ?_, ?_, ?_, ?_, ?_, ?_⟩
  · exact ⟨((State.reset.set Obj.controllerState 1 2).set Obj.moUse 1 300).set Obj.moId 291 300, 2, false, false, 291,
      300, [1, 2, 3], by decide⟩
  · exact ⟨State.reset.set Obj.controllerState 1 2, 2, false, false, 291, [1, 2, 3], by decide⟩
  · exact ⟨_, _, _, 300, [1, 2], 1, 7, granted_testReq (State.reset.set Obj.startUpStage 4) rfl (by decide) (by decide)
      (by decide) (by decide), by decide⟩
  · exact ⟨((State.reset.set Obj.moUse 2 300).set Obj.moPeriod 10 300).set Reg.elapsed 10000000, 300, by decide⟩
  · exact ⟨((State.reset.set Obj.controllerState 1 2).set Obj.moUse 2 300).set Reg.canOnBus 301 2, 2, 300, by decide⟩
  · exact ⟨_, _, _, 300, 0, [0, 0, 1, 35], 2, 7, granted_testReq (State.reset.set Obj.startUpStage 4) rfl (by decide)
      (by decide) (by decide) (by decide), by decide⟩
  · exact ⟨_, _, _, 300, [1], 1, 7, granted_testReq ((State.reset.setLog Reg.moFrames [[1]] 300).set Obj.startUpStage 4)
      rfl (by decide) (by decide) (by decide) (by decide), by decide⟩
  · exact ⟨_, _, _, 300, 1, 7, granted_testReq ((State.reset.set Reg.canOnBus 301 2).set Obj.startUpStage 4) rfl (by
      decide) (by decide) (by decide) (by decide), by decide⟩
  · exact ⟨((State.reset.set Obj.moUse 1 300).set Obj.moDeadline 10 300).set Reg.elapsed 10000000, 300, by decide⟩
  · exact 
      ⟨{ State.reset with waiting := [⟨7, 1, 0, 0x82, Boundary.busIdle 2, false, 0, 2, false, [⟨Obj.nominalRateCode.key 2 0, 3, [], false⟩]⟩] },
      2, ⟨7, 1, 0, 0x82, Boundary.busIdle 2, false, 0, 2, false, [⟨Obj.nominalRateCode.key 2 0, 3, [], false⟩]⟩, 3,
      by decide⟩
  · exact ⟨(State.reset.set Obj.controllerState csMonitor 3).set Obj.role 1, 1, by decide⟩

theorem test_meets_CanErrorsAndSchedule :
    (∃ (s u : State) (r : Req) (bus : Fin 2) (role space : Nat), Granted r Obj.timeTriggeredCommand (2 + bus) 0 [1]
      role space s u ∧ u.get Obj.operation (2 + bus) ≠ 1 ∧ canSends u (2 + bus) = true ∧ u.get Reg.canOnBus (2 + bus)
      = 0) ∧
    (∃ (s u : State) (r : Req) (bus : Fin 2) (role space : Nat), Granted r Obj.timeTriggeredCommand (2 + bus) 0 [2]
      role space s u ∧ u.get Obj.operation (2 + bus) = 1 ∧ u.get Obj.controllerState (2 + bus) ≠ csMonitor) ∧
    (∃ (s : State) (bus : Fin 2) (w : Nat), s.get Obj.operation (2 + bus) = 1 ∧ canSends s (2 + bus) = true ∧ s.get
      Reg.ttWindow (2 + bus) = 0 ∧ nextWindow s (2 + bus) 0 = some w) ∧
    (∃ (s : State) (bus : Fin 2), s.get Obj.operation (2 + bus) = 1 ∧ canSends s (2 + bus) = true ∧ s.get
      Reg.ttWindow (2 + bus) = 0 ∧ nextWindow s (2 + bus) 0 = none ∧ s.is Reg.ttLeaveDue (2 + bus) = false) ∧
    (∃ (s : State) (bus : Fin 4) (primary : Bool), canSends s bus = true) ∧
    (∃ (s : State) (bus : Fin 4) (primary : Bool), canSends s bus = true ∧ s.get Reg.canOnBus bus = 0) ∧
    (∃ (s : State) (bus : Fin 4), canSends s bus = true ∧ 256 ≤ s.get Reg.canTec bus ∧ (recentRecoveries s
      bus).length < 8) ∧
    (∃ (s : State) (bus : Fin 4), s.get Obj.controllerState bus = csHoldoff ∧ s.getN Reg.busOffAt bus + second ≤
      s.now) ∧
    (∃ (s : State) (bus : Fin 4), s.get Obj.controllerState bus = csRecovering) ∧
    (∃ (s u : State) (r : Req) (bus : Fin 4) (role space : Nat), Granted r Obj.restartController bus 0 [1] role space
      s u ∧ u.get Obj.controllerState bus = csFault) := by
  refine ⟨?_, ?_, ?_, ?_, ?_, ?_, ?_, ?_, ?_, ?_⟩
  · exact ⟨_, _, _, 1, 2, 7, granted_testReq ((State.reset.set Obj.controllerState 1 3).set Obj.startUpStage 4) rfl (by
      decide) (by decide) (by decide) (by decide), by decide⟩
  · exact ⟨_, _, _, 1, 2, 7, granted_testReq (((State.reset.set Obj.controllerState 1 3).set Obj.operation 1 3).set
      Obj.startUpStage 4) rfl (by decide) (by decide) (by decide) (by decide), by decide⟩
  · exact ⟨((State.reset.set Obj.controllerState 1 3).set Obj.operation 1 3).set Obj.timeMark 500 3 4, 1, 5, by decide⟩
  · exact ⟨((State.reset.set Obj.controllerState 1 3).set Obj.operation 1 3).set Obj.basicCycles 4 3, 1, by decide⟩
  · exact ⟨State.reset.set Obj.controllerState 1 2, 2, true, by decide⟩
  · exact ⟨State.reset.set Obj.controllerState 1 2, 2, true, by decide⟩
  · exact ⟨(State.reset.set Obj.controllerState 1 2).set Reg.canTec 256 2, 2, by decide⟩
  · exact ⟨(State.reset.set Obj.controllerState csHoldoff 2).set Reg.elapsed 1000000000, 2, by decide⟩
  · exact ⟨(State.reset.set Obj.controllerState csRecovering 2).set Reg.canTec 256 2, 2, by decide⟩
  · exact ⟨_, _, _, 2, 2, 7, granted_testReq ((State.reset.set Obj.controllerState csFault 2).set Obj.startUpStage 4)
      rfl (by decide) (by decide) (by decide) (by decide), by decide⟩

theorem test_meets_LoadSwitchesDriven :
    (∃ (s u : State) (r : Req) (channel : Fin 96) (d : List Byte) (role space : Nat), Granted r Obj.lsCommand channel
      0 d role space s u ∧ commandSource u channel = 0 ∧ ofBytes d = 0 ∧ u.get Obj.lsState channel = lsOn) ∧
    (∃ (s u : State) (r : Req) (channel : Fin 96) (d : List Byte) (role space : Nat), Granted r Obj.lsCommand channel
      0 d role space s u ∧ commandSource u channel = 0 ∧ (isDrive channel = true ∨ ofBytes d = 10000) ∧ ofBytes d ≠ 0
      ∧ u.get Obj.lsState channel ≠ lsOff) ∧
    (∃ (s : State) (channel : Fin 96) (current : Nat), lsDriving s channel = true ∧ hardShort channel < current) ∧
    (∃ (s : State) (channel : Fin 96) (current : Nat), s.get Obj.lsState channel = lsInrushing ∧ s.get Obj.lsInrush
      channel < current) ∧
    (∃ (s : State) (channel : Fin 96) (current : Nat), s.get Obj.lsState channel = lsOn ∧ s.get Obj.lsSteady channel
      < current) ∧
    (∃ (s : State) (channel : Fin 96), s.get Obj.lsState channel = lsInrushing ∧ s.get Reg.lsSince channel + s.get
      Obj.lsWindow channel * millisecond ≤ s.now) ∧
    (∃ (s : State) (channel : Fin 96) (junction : Nat), lsDriving s channel = true ∧ 1750 ≤ junction ∧ s.is
      Obj.lsThermalMode channel = true) ∧
    (∃ (s : State) (channel : Fin 96) (junction : Nat), lsDriving s channel = true ∧ 1750 ≤ junction ∧ s.is
      Obj.lsThermalMode channel = false ∧ (recentRetries s channel).length < s.get Obj.lsRetryLimit channel) ∧
    (∃ (s : State) (channel : Fin 96) (junction : Int), s.get Obj.lsState channel = lsThermalWait ∧ junction ≤ 1500 ∧
      s.get Obj.lsCommand channel ≠ 0 ∧ isDriving s = true ∧ lsWanted s channel = true ∧ lsSupplied s channel = true ∧
      coilBlocked s channel = false) ∧
    (∃ (s u : State) (r : Req) (channel : Fin 96) (role space : Nat), Granted r Obj.lsClear channel 0 [1] role space
      s u ∧ u.get Obj.lsState channel = lsLatched ∧ u.get Obj.lsJunction channel ≤ 1500 ∧ u.get Obj.lsCommand channel
      = 0 ∧ lsSupplied u channel = true) := by
  refine ⟨?_, ?_, ?_, ?_, ?_, ?_, ?_, ?_, ?_, ?_⟩
  · exact ⟨_, _, _, 95, [0, 0], 1, 7, granted_testReq (((State.reset.set Obj.lsState lsOn 95).set Obj.lsCommand 10000
      95).set Obj.startUpStage 4) rfl (by decide) (by decide) (by decide) (by decide), by decide⟩
  · exact ⟨_, _, _, 95, [0x27, 0x10], 1, 7, granted_testReq (((State.reset.set Obj.lsState lsOn 95).set Obj.lsCommand
      10000 95).set Obj.startUpStage 4) rfl (by decide) (by decide) (by decide) (by decide), by decide⟩
  · exact ⟨State.reset.set Obj.lsState lsOn 95, 95, 1201, by decide⟩
  · exact ⟨State.reset.set Obj.lsState lsInrushing 95, 95, 60000, by decide⟩
  · exact ⟨State.reset.set Obj.lsState lsOn 95, 95, 60000, by decide⟩
  · exact ⟨(State.reset.set Obj.lsState lsInrushing 95).set Reg.elapsed 10000000000, 95, by decide⟩
  · exact ⟨(State.reset.set Obj.lsState lsOn 95).set Obj.lsThermalMode 1 95, 95, 1750, by decide⟩
  · exact ⟨(State.reset.set Obj.lsState lsOn 95).set Obj.lsRetryLimit 3 95, 95, 1750, by decide⟩
  · exact ⟨((((State.reset.set Obj.lsState lsThermalWait 95).set Obj.role 1).set Obj.lsCommand 10000 95).set
      Obj.startUpStage 6).set Obj.powerState 3, 95, 1500, by decide⟩
  · exact ⟨_, _, _, 95, 2, 7, granted_testReq (((State.reset.set Obj.lsState lsLatched 95).set Obj.lsCause 1 95).set
      Obj.startUpStage 4) rfl (by decide) (by decide) (by decide) (by decide), by decide⟩

theorem test_meets_LoadSwitchGroups :
    (∃ (s : State) (group : Fin 8) (current : Nat), group.val < 4 ∧ groupRating group < current ∧ s.bit
      Obj.groupFlags 2 group = false) ∧
    (∃ (s : State) (group : Fin 8) (voltage : Nat), (voltage : Int) < s.get Obj.undervoltageLevel group) ∧
    (∃ (s : State) (group : Fin 8) (voltage : Nat), s.get Obj.undervoltageLevel group ≤ voltage) ∧
    (∃ (s : State) (group : Fin 8) (current c : Nat), 10 * (current : Int) < 8 * groupRating group ∧ s.get
      Reg.groupRestartAt group = 0 ∧ 4 ≤ group.val ∧ firstShed s group = some c ∧ lsWanted s c = true ∧ lsSupplied s c
      = true ∧ coilBlocked s c = false) ∧
    (∃ (s : State) (group : Fin 4) (current c : Nat), (firstHeld (groupMeasured group current s) group) = some c ∧
      coilBlocked (groupMeasured group current s) c = false ∧ s.get Obj.lsState c ≠ lsThermalWait) ∧
    (∃ (s : State) (group : Fin 8) (voltage : Nat) (c : Fin 96), 3600 < voltage ∧ s.bit Obj.groupFlags 1 group =
      false ∧ groupOf c = group ∧ s.get Obj.lsState c = lsOn) ∧
    (∃ (s : State) (offset : Nat), 150 < offset ∧ s.is Reg.groundLost = false) ∧
    (∃ (s : State) (group : Fin 8) (voltage : Nat), voltage < 50 ∧ s.is Reg.groundLost = true) ∧
    (∃ (s : State) (group : Fin 8) (voltage : Nat), voltage < 3400 ∧ s.bit Obj.groupFlags 1 group = true) := by
  refine ⟨?_, ?_, ?_, ?_, ?_, ?_, ?_, ?_, ?_⟩
  · exact ⟨State.reset, 3, 301, by decide⟩
  · exact ⟨State.reset, 7, 100, by decide⟩
  · exact ⟨State.reset, 7, 60000, by decide⟩
  · exact ⟨((((((State.reset.set Obj.lsState lsShed 63).set Obj.role 1).set Obj.lsCommand 10000 63).set
      Obj.outletDeclared 1 23).set Obj.pumpActuator 1 23).set Obj.pumpDriveChannel 63 23), 5, 10, 63, by decide⟩
  · exact ⟨(((((State.reset.set Obj.lsCommand 10000 47).set Obj.role 1).set Obj.powerState pwRun).set Reg.outletPassed 1
      23).set Obj.safeOutputStates 255).set Obj.lifeCycleState lcField, 3, 10, 47, by decide⟩
  · exact ⟨State.reset.set Obj.lsState lsOn 95, 7, 3601, 95, by decide⟩
  · exact ⟨State.reset, 151, by decide⟩
  · exact ⟨State.reset.set Reg.groundLost 1, 7, 49, by decide⟩
  · exact ⟨State.reset.setBit Obj.groupFlags 1 true 7, 7, 3399, by decide⟩

theorem test_meets_HardpanCycles :
    (∃ (s : State) (levels pulses above5 above18 : Fin 256) (srst : Bool), s.get Obj.hpState = 1 ∧ s.waiting = []) ∧
    (∃ (s : State) (source : Fin 2) (high : Fin 256), s.get Obj.hpState ≠ 2 ∧ pulseDue s source = true) ∧
    (∃ (s : State) (output : Fin 8) (above18 : Bool), s.get Obj.hpState = 1 ∧ s.get Reg.hpCycles % 1000 = 125 *
      (output.val : Int) ∧ isDriving s = true ∧ soOn s output = true) ∧
    (∃ (s : State) (output : Fin 8), s.get Obj.hpState = 1 ∧ s.get Reg.hpCycles % 1000 = 125 * (output.val : Int) ∧
      isDriving s = true ∧ soOn s output = true) ∧
    (∃ (s : State) (diagnostic : Fin 5) (output : Fin 8) (manipulator : Fin 2), s.get Obj.hpState ≠ 2) := by
  refine ⟨?_, ?_, ?_, ?_, ?_⟩
  · exact ⟨State.reset.set Obj.hpState 1, 255, 3, 7, 9, true, by decide⟩
  · exact ⟨(State.reset.set Obj.hpState 1).set Reg.hpCycles 150, 1, 3, by decide⟩
  · exact ⟨(((State.reset.set Obj.hpState 1).set Reg.hpCycles 875).set Obj.role 1).set Obj.safeOutputStates 255, 7,
      true, by decide⟩
  · exact ⟨(((State.reset.set Obj.hpState 1).set Reg.hpCycles 875).set Obj.role 1).set Obj.safeOutputStates 255, 7, by
      decide⟩
  · exact ⟨((State.reset.set Obj.hpState 1).set Obj.safeOutputStates 255).set Reg.brakePhase 1 1, 4, 7, 1, by decide⟩

theorem test_meets_BrakesAndConfiguration :
    (∃ (s u : State) (r : Req) (manipulator : Fin 2) (role space : Nat), Granted r Obj.startBrakeTest manipulator 0
      [1] role space s u ∧ soOn u (4 + manipulator) = false ∧ u.get Reg.brakePhase manipulator = 0 ∧ u.get Obj.hpState
      = 1) ∧
    (∃ (s u : State) (r : Req) (manipulator : Fin 2) (count : Int) (role space : Nat), Granted r
      Obj.testTorqueApplied manipulator 0 [1] role space s u ∧ u.get Reg.brakePhase manipulator = 1) ∧
    (∃ (s : State) (manipulator : Fin 2) (count : Int), s.get Reg.brakePhase manipulator = 2 ∧ s.get Reg.brakeAt
      manipulator + s.get Reg.holdInUse manipulator * millisecond ≤ s.now ∧ |count - s.get Reg.brakeCount manipulator|
      ≤ s.get Reg.countInUse manipulator) ∧
    (∃ (s : State) (manipulator : Fin 2) (count : Int), s.get Reg.brakePhase manipulator = 2 ∧ s.get Reg.brakeAt
      manipulator + s.get Reg.holdInUse manipulator * millisecond ≤ s.now ∧ s.get Reg.countInUse manipulator < |count
      - s.get Reg.brakeCount manipulator|) ∧
    (∃ (s : State) (manipulator : Fin 2), s.get Reg.brakePhase manipulator = 1 ∧ s.get Reg.brakeAt manipulator + 10 *
      second ≤ s.now) ∧
    (∃ (s : State) (manipulator : Fin 2), isDriving s = true ∧ s.get Obj.hpState = 1 ∧ testDue s manipulator = true ∧
      s.bit Obj.outputDemand (4 + manipulator) = true ∧ soOn s (4 + manipulator) = false ∧ s.get Reg.brakePhase
      manipulator = 0 ∧ s.get Reg.brakeLockout manipulator ≠ 2 ∧ s.is Reg.brakeGranted manipulator = false ∧
      functionsAllow s (4 + manipulator) = true ∧ functionsAllow s (6 + manipulator) = true) ∧
    (∃ (s u : State) (r : Req) (manipulator : Fin 2) (role space : Nat), Granted r Obj.clearBrakeLockout manipulator
      0 [1] role space s u ∧ u.get Reg.brakeLockout manipulator = 2) ∧
    (∃ (s u : State) (r : Req) (d : List Byte) (role space : Nat), Granted r Obj.clearOutputFault 0 0 d role space s
      u ∧ u.bit Reg.soAbove5 (ofBytes d) = false) ∧
    (∃ (s u : State) (r : Req) (d : List Byte) (role space : Nat), Granted r Obj.confirmConfiguration 0 0 d role
      space s u ∧ ofBytes d = pendingCrc u ∧ guardPending u = true) ∧
    (∃ (s u : State) (r : Req) (d : List Byte) (role space : Nat), Granted r Obj.outputDemand 0 0 d role space s u ∧
      ofBytes d % 16 = 15) := by
  refine ⟨?_, ?_, ?_, ?_, ?_, ?_, ?_, ?_, ?_, ?_⟩
  · exact ⟨_, _, _, 1, 1, 7, granted_testReq ((State.reset.set Obj.hpState 1).set Obj.startUpStage 4) rfl (by decide)
      (by decide) (by decide) (by decide), by decide⟩
  · exact ⟨_, _, _, 1, -7, 1, 7, granted_testReq (((State.reset.set Obj.hpState 1).set Reg.brakePhase 1 1).set
      Obj.startUpStage 4) rfl (by decide) (by decide) (by decide) (by decide), by decide⟩
  · exact ⟨((State.reset.set Obj.hpState 1).set Reg.brakePhase 2 1).set Reg.elapsed 5000000000000, 1, 0, by decide⟩
  · exact ⟨((State.reset.set Obj.hpState 1).set Reg.brakePhase 2 1).set Reg.elapsed 5000000000000, 1, 1000000, by
      decide⟩
  · exact ⟨((State.reset.set Obj.hpState 1).set Reg.brakePhase 1 1).set Reg.elapsed 10000000000, 1, by decide⟩
  · exact ⟨((((State.reset.set Obj.hpState 1).set Obj.role 1).set Obj.outputDemand 255).set Reg.sfOutputsInUse 255
      0).set Obj.functionState 0 0, 1, by decide⟩
  · exact ⟨_, _, _, 1, 3, 7, granted_testReq ((State.reset.set Reg.brakeLockout 2 1).set Obj.startUpStage 4) rfl (by
      decide) (by decide) (by decide) (by decide), by decide⟩
  · exact ⟨_, _, _, [7], 3, 7, granted_testReq ((State.reset.set Obj.outputFaults 0xFFFF).set Obj.startUpStage 4) rfl
      (by decide) (by decide) (by decide) (by decide), by decide⟩
  · exact ⟨_, _, _, beBytes 4 (pendingCrc ((State.reset.set Obj.siConfig 2 0 7).set Obj.lifeCycleState lcService)), 3,
      7, granted_testReq (((State.reset.set Obj.siConfig 2 0 7).set Obj.lifeCycleState lcService).set
      Obj.startUpStage 4) rfl (by decide +kernel) (by decide +kernel) (by decide +kernel) (by decide +kernel), by
      decide +kernel⟩
  · exact ⟨_, _, _, [0x3F], 1, 7, granted_testReq (State.reset.set Obj.startUpStage 4) rfl (by decide) (by decide) (by
      decide) (by decide), by decide⟩

theorem test_meets_ResetsAndPower :
    (∃ (s u : State) (r : Req) (role space : Nat), Granted r Obj.softwareReset 0 0 [1] role space s u ∧ contextsRest
      u = true ∧ blocksRest u = true) ∧
    (∃ (s u : State) (r : Req) (role space : Nat), Granted r Obj.softwareReset 0 0 [2] role space s u) ∧
    (∃ (s : State), s.get Reg.swrAt ≠ 0 ∧ s.get Reg.swrAt + 100 * millisecond ≤ s.now + 1) ∧
    (∃ (s : State) (vaux cell : Nat), vaux ≤ 1200 ∧ s.is Reg.warningValid = true ∧ dipOpen s = true ∧ 2800 ≤ cell) ∧
    (∃ (s : State) (vaux cell : Nat), vaux ≤ 1200 ∧ s.is Reg.warningValid = true ∧ dipOpen s = true ∧ cell < 2500) ∧
    (∃ (s : State) (vaux cell : Nat), vaux ≤ 1200 ∧ s.is Reg.warningValid = true ∧ dipOpen s = true ∧ 2500 ≤ cell ∧
      cell < 2800) ∧
    (∃ (s : State) (vaux cell : Nat), vaux ≤ 1200 ∧ s.is Reg.warningValid = false ∧ dipOpen s = true) ∧
    (∃ (s : State) (volts : Nat), s.get Obj.powerState = 0 ∧ 2800 ≤ volts ∧ volts < 3000) ∧
    (∃ (s : State) (volts : Nat), s.get Obj.powerState = 0 ∧ 3000 ≤ volts) ∧
    (∃ (s : State) (volts : Nat), s.get Obj.powerState = 1 ∧ 3000 ≤ volts) ∧
    (∃ (s : State) (volts : Nat) (fitted : Bool), s.get Obj.powerState = 1 ∧ (fitted = false ∨ volts < 2500)) ∧
    (∃ (s u : State) (r : Req) (role space : Nat), Granted r Obj.cellReplaced 0 0 [1] role space s u) ∧
    (∃ (s : State), mayIdle s = true ∧ s.get Reg.idleSince ≠ 0 ∧ s.getN Reg.idleSince + s.getN Obj.idleDelay * second
      ≤ s.now + 1) ∧
    (∃ (s u : State) (r : Req) (role space : Nat), Granted r Obj.wake 0 0 [1] role space s u ∧ u.get Obj.powerState =
      pwIdle) := by
  refine ⟨?_, ?_, ?_, ?_, ?_, ?_, ?_, ?_, ?_, ?_, ?_, ?_, ?_, ?_⟩
  · exact ⟨_, _, _, 2, 7, granted_testReq (State.reset.set Obj.startUpStage 4) rfl (by decide +kernel) (by
      decide +kernel) (by decide +kernel) (by decide +kernel), by decide +kernel⟩
  · exact ⟨_, _, _, 2, 7, granted_testReq (State.reset.set Obj.startUpStage 4) rfl (by decide +kernel) (by
      decide +kernel) (by decide +kernel) (by decide +kernel)⟩
  · exact ⟨(State.reset.set Reg.swrAt 1).set Reg.elapsed 100000000, by decide⟩
  · exact ⟨(State.reset.set Reg.warningValid 1).set Obj.quicksandWindow 1, 1200, 2800, by decide⟩
  · exact ⟨(State.reset.set Reg.warningValid 1).set Obj.quicksandWindow 1, 1200, 2499, by decide⟩
  · exact ⟨(State.reset.set Reg.warningValid 1).set Obj.quicksandWindow 1, 1200, 2600, by decide⟩
  · exact ⟨State.reset.set Obj.quicksandWindow 1, 1200, 2800, by decide⟩
  · exact ⟨State.reset.set Obj.powerState 0, 2800, by decide⟩
  · exact ⟨State.reset.set Obj.powerState 0, 3000, by decide⟩
  · exact ⟨State.reset.set Obj.powerState 1, 3000, by decide⟩
  · exact ⟨State.reset.set Obj.powerState 1, 2499, true, by decide⟩
  · exact ⟨_, _, _, 2, 7, granted_testReq (State.reset.set Obj.startUpStage 4) rfl (by decide +kernel) (by
      decide +kernel) (by decide +kernel) (by decide +kernel)⟩
  · exact ⟨(((State.reset.set Obj.powerState pwRun).set Obj.idleEnable 1).set Reg.idleSince 1).set Reg.elapsed
      100000000000000, by decide +kernel⟩
  · exact ⟨_, _, _, 1, 7, granted_testReq ((State.reset.set Obj.powerState pwIdle).set Obj.startUpStage 4) rfl (by
      decide) (by decide) (by decide) (by decide), by decide⟩

theorem test_meets_SupplyDips :
    (∃ (s : State) (vaux : Nat), vaux < 1600 ∧ s.get Obj.quicksandWindow = 0) ∧
    (∃ (s : State), dipOpen s = true ∧ s.getN Reg.dipCommitAt + 100 * millisecond ≤ s.now) ∧
    (∃ (s : State) (vaux : Nat), 1700 < vaux ∧ dipOpen s = true ∧ s.is Reg.brownOut = false) ∧
    (∃ (s : State), s.get Obj.quicksandWindow = 1 ∧ 500 * millisecond < episodeTime s) ∧
    (∃ (s : State) (n : Fin 24) (rest : List Int), s.getN Reg.stopNext ≤ s.frame ∧ s.seq Reg.stopQueue = (n.val :
      Int) :: rest) ∧
    (∃ (s : State) (vaux : Nat), 1700 < vaux ∧ dipOpen s = false ∧ s.get Reg.dipClosedAt ≠ 0 ∧ s.getN Reg.dipClosedAt
      + 990 * millisecond ≤ s.now + 1) ∧
    (∃ (s : State) (input : Fin 3) (volts : Int), volts < -500) ∧
    (∃ (s : State) (input : Fin 3) (volts : Nat), 1800 ≤ volts ∧ volts ≤ 3200 ∧ 3 ≤ s.get Obj.startUpStage) ∧
    (∃ (s : State) (volts : Nat), 3400 < volts) ∧
    (∃ (s : State) (volts : Nat), volts ≤ 3400) := by
  refine ⟨?_, ?_, ?_, ?_, ?_, ?_, ?_, ?_, ?_, ?_⟩
  · exact ⟨State.reset, 1599, by decide⟩
  · exact ⟨(State.reset.set Obj.quicksandWindow 1).set Reg.elapsed 100000000, by decide⟩
  · exact ⟨State.reset.set Obj.quicksandWindow 1, 1701, by decide⟩
  · exact ⟨(State.reset.set Obj.quicksandWindow 1).set Reg.elapsed 500000001, by decide⟩
  · exact ⟨State.reset.setSeq Reg.stopQueue [23, 1], 23, [1], by decide⟩
  · exact ⟨(State.reset.set Reg.dipClosedAt 1).set Reg.elapsed 990000000, 1701, by decide⟩
  · exact ⟨State.reset, 2, -501, by decide⟩
  · exact ⟨State.reset.set Obj.startUpStage 3, 2, 1800, by decide⟩
  · exact ⟨State.reset, 3401, by decide⟩
  · exact ⟨State.reset, 3400, by decide⟩

theorem test_meets_PairLease :
    (∃ (s : State) (f : List Byte) (x : Lease), leaseOf opRequest f = some x ∧ pairing s = true ∧ s.get Obj.role =
      roStandby) ∧
    (∃ (s : State) (f : List Byte) (x : Lease), leaseOf opRequest f = some x ∧ pairing s = true ∧ s.get Obj.role =
      roIsolated ∧ s.get Reg.joinPhase = 1) ∧
    (∃ (s : State) (f : List Byte) (x : Lease), leaseOf opGrant f = some x ∧ pairing s = true ∧ s.get Obj.role =
      roActive ∧ x.frame = s.frame ∧ s.get Reg.grantJudged = 0) ∧
    (∃ (s : State), s.get Obj.role = roActive ∧ s.is Reg.paired = true ∧ s.is Reg.grantJudged = false ∧ s.is
      Reg.granted = true) ∧
    (∃ (s : State), s.get Obj.role = roActive ∧ s.is Reg.paired = true ∧ s.is Reg.grantJudged = false ∧ s.is
      Reg.granted = false) ∧
    (∃ (s : State), s.get Obj.role = roActive ∧ s.is Reg.paired = true ∧ s.get Reg.leaseInUse ≤ s.get
      Reg.ungrantedRun) ∧
    (∃ (s : State), s.get Obj.role = roActive ∧ s.is Reg.paired = true ∧ s.get Reg.leaseInUse ≤ s.get
      Reg.ungrantedRun) ∧
    (∃ (s : State), s.get Obj.role = roStandby ∧ s.get Reg.acceptFrame = 0 ∧ s.get Reg.requestAt + s.get
      Reg.leaseInUse + 2 ≤ s.frame) ∧
    (∃ (s : State), s.get Obj.role = roStandby ∧ s.get Reg.acceptFrame = 0 ∧ s.get Reg.requestAt + s.get
      Reg.leaseInUse + 2 ≤ s.frame) ∧
    (∃ (s : State) (f : List Byte) (x : Lease), leaseOf opRelease f = some x ∧ pairing s = true ∧ s.get Obj.role =
      roStandby ∧ s.is Obj.fitToTakeOver = true ∧ s.is Reg.mirrorLocked = true) ∧
    (∃ (s : State) (f : List Byte) (x : Lease), leaseOf opRelease f = some x ∧ pairing s = true ∧ s.get Obj.role =
      roStandby ∧ s.is Obj.fitToTakeOver = false) ∧
    (∃ (s : State) (f : List Byte) (x : Lease), leaseOf opAccept f = some x ∧ pairing s = true ∧ s.get Obj.role =
      roActive ∧ s.get Reg.handoverFrame = x.frame + 1 ∧ x.frame = s.frame ∧ s.get Reg.grantJudged = 0) ∧
    (∃ (s : State) (f : List Byte) (x : Lease), leaseOf opRefuse f = some x ∧ pairing s = true ∧ s.get Obj.role =
      roActive ∧ s.get Reg.handoverFrame = x.frame + 1) ∧
    (∃ (s : State) (f : List Byte) (x : Lease), leaseOf opResign f = some x ∧ pairing s = true ∧ s.get Obj.role =
      roActive) ∧
    (∃ (s : State) (f : List Byte) (x : Lease), leaseOf opResignAck f = some x ∧ pairing s = true ∧ s.get Obj.role =
      roStandby ∧ s.is Reg.resignDue = true) := by
  refine ⟨?_, ?_, ?_, ?_, ?_, ?_, ?_, ?_, ?_, ?_, ?_, ?_, ?_, ?_, ?_⟩
  · exact ⟨testPair roStandby, testLease 1 5 1, ⟨1, 5, 16, 1, 90, 7, 1⟩, by decide +kernel⟩
  · exact ⟨(testPair roIsolated).set Reg.joinPhase 1, testLease 1 5 1, ⟨1, 5, 16, 1, 90, 7, 1⟩, by decide +kernel⟩
  · exact ⟨(testPair roActive).set Obj.frameCounter 5, testLease 2 5 2, ⟨1, 5, 16, 2, 90, 7, 1⟩, by decide +kernel⟩
  · exact ⟨((testPair roActive).set Reg.paired 1).set Reg.granted 1, by decide⟩
  · exact ⟨(testPair roActive).set Reg.paired 1, by decide⟩
  · exact ⟨((testPair roActive).set Reg.paired 1).set Reg.ungrantedRun 64, by decide⟩
  · exact ⟨((testPair roActive).set Reg.paired 1).set Reg.ungrantedRun 64, by decide⟩
  · exact ⟨(testPair roStandby).set Obj.frameCounter 100, by decide⟩
  · exact ⟨(testPair roStandby).set Obj.frameCounter 100, by decide⟩
  · exact ⟨((testPair roStandby).set Obj.fitToTakeOver 1).set Reg.mirrorLocked 1, testLease opRelease 5 1, ⟨1, 5, 16, 1,
      90, 7, 1⟩, by decide +kernel⟩
  · exact ⟨testPair roStandby, testLease opRelease 5 1, ⟨1, 5, 16, 1, 90, 7, 1⟩, by decide +kernel⟩
  · exact ⟨((testPair roActive).set Obj.frameCounter 5).set Reg.handoverFrame 6, testLease opAccept 5 2, ⟨1, 5, 16, 2,
      90, 7, 1⟩, by decide +kernel⟩
  · exact ⟨(testPair roActive).set Reg.handoverFrame 6, testLease opRefuse 5 2, ⟨1, 5, 16, 2, 90, 7, 1⟩, by
      decide +kernel⟩
  · exact ⟨(testPair roActive).set Reg.paired 1, testLease opResign 5 2, ⟨1, 5, 16, 2, 90, 7, 1⟩, by decide +kernel⟩
  · exact ⟨(testPair roStandby).set Reg.resignDue 1, testLease opResignAck 5 1, ⟨1, 5, 16, 1, 90, 7, 1⟩, by
      decide +kernel⟩

theorem test_meets_PairRoles :
    (∃ (s u : State) (r : Req) (role space : Nat), Granted r Obj.roleCommand 0 0 [1] role space s u ∧ pairing u =
      true ∧ u.get Obj.role = roIsolated ∧ u.get Reg.activeTryAt = 0 ∧ partnerQuiet u = true) ∧
    (∃ (s : State), s.get Reg.activeTryAt ≠ 0 ∧ s.get Reg.activeTryAt + 2 ≤ s.frame + 1 ∧ s.bit Obj.backplane 1 =
      true) ∧
    (∃ (s : State), s.get Reg.activeTryAt ≠ 0 ∧ s.get Reg.activeTryAt + 2 ≤ s.frame + 1) ∧
    (∃ (s u : State) (r : Req) (role space : Nat), Granted r Obj.roleCommand 0 0 [2] role space s u ∧ u.get Obj.role
      = roStandby) ∧
    (∃ (s u : State) (r : Req) (role space : Nat), Granted r Obj.roleCommand 0 0 [3] role space s u ∧ u.get Obj.role
      = roActive ∧ standbyFit u = true) ∧
    (∃ (s u : State) (r : Req) (role space : Nat), Granted r Obj.roleCommand 0 0 [3] role space s u ∧ u.get Obj.role
      = roStandby ∧ u.is Obj.fitToTakeOver = true) ∧
    (∃ (s u : State) (r : Req) (role space : Nat), Granted r Obj.roleCommand 0 0 [4] role space s u ∧ pairing u =
      true ∧ u.get Obj.role = roIsolated) ∧
    (∃ (s : State), pairing s = true ∧ s.get Obj.role = roIsolated ∧ 4 ≤ s.get Obj.startUpStage ∧ s.is
      Reg.partnerSeen = true ∧ s.get Reg.joinPhase = 0 ∧ s.get Reg.joinFailedAt = 0) ∧
    (∃ (s : State) (cause : Fin 5), s.get Obj.role = roIsolated ∧ s.get Reg.joinPhase ≠ 0 ∧ joinFails s (cause + 1) =
      true) ∧
    (∃ (s : State), s.get Obj.role = roIsolated ∧ s.get Reg.joinFailedAt ≠ 0 ∧ s.getN Reg.joinFailedAt + 60 * second
      ≤ s.now + 1) ∧
    (∃ (s : State), s.get Obj.role = roFenced ∧ s.getN Reg.fencedAt + 2 * second ≤ s.now ∧ s.get Reg.partnerHeartbeat
      ≠ roActive) ∧
    (∃ (s : State), s.get Obj.role = roStandby ∧ s.get Reg.resyncAt ≠ 0 ∧ s.getN Reg.resyncAt + 25 * second ≤ s.now +
      1) ∧
    (∃ (s : State) (channel : Fin 96), s.get Obj.role ≠ roSolo ∧ s.get Obj.lsState channel = lsOn) ∧
    (∃ (s : State), s.get Obj.role ≠ roSolo) ∧
    (∃ (s : State) (m : Mirror), followsMirror s = true) ∧
    (∃ (s : State) (m : Mirror), s.get Obj.role = roStandby) ∧
    (∃ (s : State), pairing s = true ∧ s.get Obj.role = roActive ∧ s.waiting = []) ∧
    (∃ (s : State) (v : List Byte), pairing s = true ∧ s.get Obj.role = roStandby ∧ v.length = 2) ∧
    (∃ (s : State) (score : Nat) (fit : Bool), pairing s = true ∧ s.get Obj.role = roStandby) ∧
    (∃ (s : State) (st : Nat), pairing s = true ∧ s.get Obj.role = roStandby ∧ s.get Reg.transitionTo = 0) ∧
    (∃ (s : State), s.get Obj.role = roActive ∧ s.get Reg.syncSentAt ≠ 0 ∧ s.getN Reg.syncSentAt + 50 * millisecond ≤
      s.now + 1 ∧ s.waiting = [] ∧ s.is Reg.outOfSync = false) ∧
    (∃ (s : State) (values : List (Nat × Nat × List Byte)) (items : List (List Byte)) (generation : Nat), s.get
      Obj.role = roActive) ∧
    (∃ (s : State) (generation : Nat), s.get Obj.role = roIsolated ∧ s.get Reg.joinPhase = 2) ∧
    (∃ (s : State), pairing s = true ∧ canSends s 1 = true) := by
  refine ⟨?_, ?_, ?_, ?_, ?_, ?_, ?_, ?_, ?_, ?_, ?_, ?_, ?_, ?_, ?_, ?_, ?_, ?_, ?_, ?_, ?_, ?_, ?_, ?_⟩
  · exact ⟨_, _, _, 2, 7, granted_testReq ((testPair roIsolated).set Obj.startUpStage 4) rfl (by decide) (by decide) (by
      decide) (by decide), by decide⟩
  · exact ⟨((testPair roIsolated).set Obj.backplane 3).set Reg.activeTryAt 1 |>.set Obj.frameCounter 2, by decide⟩
  · exact ⟨((testPair roIsolated).set Reg.activeTryAt 1).set Obj.frameCounter 2, by decide⟩
  · exact ⟨_, _, _, 2, 7, granted_testReq ((testPair roStandby).set Obj.startUpStage 4) rfl (by decide) (by decide) (by
      decide) (by decide), by decide⟩
  · exact ⟨_, _, _, 2, 7, granted_testReq (((((testPair roActive).set Reg.paired 1).set Obj.partnerRole 2).set
      Obj.partnerFit 1).set Obj.startUpStage 4) rfl (by decide) (by decide) (by decide) (by decide), by decide⟩
  · exact ⟨_, _, _, 2, 7, granted_testReq (((testPair roStandby).set Obj.fitToTakeOver 1).set Obj.startUpStage 4) rfl
      (by decide) (by decide) (by decide) (by decide), by decide⟩
  · exact ⟨_, _, _, 2, 7, granted_testReq ((testPair roIsolated).set Obj.startUpStage 4) rfl (by decide) (by decide) (by
      decide) (by decide), by decide⟩
  · exact ⟨((testPair roIsolated).set Reg.partnerSeen 1).set Obj.startUpStage 4, by decide⟩
  · exact ⟨((testPair roIsolated).set Reg.joinPhase 3).set Reg.elapsed 29500000000, 4, by decide⟩
  · exact ⟨((testPair roIsolated).set Reg.joinFailedAt 1).set Reg.elapsed 60000000000, by decide⟩
  · exact ⟨(testPair roFenced).set Reg.elapsed 2000000000, by decide⟩
  · exact ⟨((testPair roStandby).set Reg.resyncAt 1).set Reg.elapsed 25000000000, by decide⟩
  · exact ⟨(testPair roActive).set Obj.lsState lsOn 95, 95, by decide⟩
  · exact ⟨testPair roActive, by decide⟩
  · exact ⟨testPair roStandby, testMirror 5, by decide⟩
  · exact ⟨testPair roStandby, testMirror 5, by decide⟩
  · exact ⟨(testPair roActive).set Reg.syncSentAt 5, by decide⟩
  · exact ⟨testPair roStandby, [3, 132], by decide⟩
  · exact ⟨testPair roStandby, 90, true, by decide⟩
  · exact ⟨testPair roStandby, 3, by decide⟩
  · exact ⟨((testPair roActive).set Reg.syncSentAt 1).set Reg.elapsed 50000000, by decide⟩
  · exact ⟨(testPair roActive).set Reg.outOfSync 1, [], [], 7, by decide⟩
  · exact ⟨(testPair roIsolated).set Reg.joinPhase 2, 4294967297, by decide⟩
  · exact ⟨(testPair roActive).set Obj.controllerState 1 1, by decide⟩

theorem test_meets_PoolAndSilt :
    (∃ (s : State) (processor : Fin 5), processor.val ≠ 3) ∧
    (∃ (s : State), s.get Obj.hpState ≠ 2) ∧
    (∃ (s : State) (address : Fin 6291456) (slot : Fin 1024) (channels : List (Fin 76)) (push : Option (Fin 8)), 6 ≤
      s.get Obj.owner (bankOf address)) ∧
    (∃ (s : State) (address : Fin 6291456) (slot : Fin 1024) (channels : List (Fin 76)) (push : Option (Fin 8)),
      s.get Obj.owner (bankOf address) = 4) ∧
    (∃ (s : State) (address : Fin 6291456) (slot : Fin 1024) (channels : List (Fin 76)) (push : Option (Fin 8)), 1 ≤
      s.get Obj.owner (bankOf address) ∧ s.get Obj.owner (bankOf address) ≤ 3) ∧
    (∃ (s : State) (bank : Fin 24) (requester newOwner : Fin 9), s.get Obj.owner bank = requester.val ∧ requester.val
      ≠ 0 ∧ bank.val ≠ 20 ∧ bank.val ≠ 21 ∧ requester ≠ newOwner) ∧
    (∃ (s : State) (bank : Fin 24) (requester newOwner : Fin 9), s.get Obj.owner bank ≠ requester.val) ∧
    (∃ (s : State) (bank : Fin 24) (requester : Fin 9) (grant : Fin 3), s.get Obj.owner bank = requester.val ∧
      requester.val ≠ 0 ∧ (requester.val : Int) ≠ ownXd ∧ bank.val ≠ 20 ∧ bank.val ≠ 21) ∧
    (∃ (s : State) (singles doubles : List (Fin 64)), s.getN Obj.currentRegion + 1 < siltRegions) ∧
    (∃ (s : State) (singles doubles : List (Fin 64)), siltRegions ≤ s.getN Obj.currentRegion + 1) ∧
    (∃ (s : State) (singles doubles : List (Fin 64)), s.get Reg.siltAbandonRun + 1 < 8) ∧
    (∃ (s : State) (singles doubles : List (Fin 64)), 8 ≤ s.get Reg.siltAbandonRun + 1 ∧ s.getN Obj.currentRegion + 1
      < siltRegions) := by
  refine ⟨?_, ?_, ?_, ?_, ?_, ?_, ?_, ?_, ?_, ?_, ?_, ?_⟩
  · exact ⟨State.reset, 4, by decide⟩
  · exact ⟨State.reset, by decide⟩
  · exact ⟨State.reset.set Obj.owner 6 23, 6291455, 3, [], none, by decide⟩
  · exact ⟨State.reset.set Obj.owner 4 23, 6291455, 3, [], none, by decide⟩
  · exact ⟨State.reset.set Obj.owner 3 23, 6291455, 3, [], none, by decide⟩
  · exact ⟨State.reset.set Obj.owner 2 23, 23, 2, 8, by decide⟩
  · exact ⟨State.reset.set Obj.owner 2 23, 23, 3, 8, by decide⟩
  · exact ⟨State.reset.set Obj.owner 2 23, 23, 2, 2, by decide⟩
  · exact ⟨State.reset, [], [], by decide⟩
  · exact ⟨State.reset.set Obj.currentRegion 24575, [], [], by decide⟩
  · exact ⟨State.reset, [], [], by decide⟩
  · exact ⟨State.reset.set Reg.siltAbandonRun 7, [], [], by decide⟩

theorem test_meets_JournalCommits :
    (∃ (s : State), mayCommit s = true ∧ ringUsed s + (40 + (superseded (s.log Reg.journalItems ++ eventItems
      s)).flatten.length) ≤ ringSize) ∧
    (∃ (s : State), mayCommit s = true ∧ s.getN Reg.journalItemsAt + 2000 ≤ s.frame ∧ ringUsed s + (40 + (superseded
      (s.log Reg.journalItems ++ eventItems s)).flatten.length) ≤ ringSize) ∧
    (∃ (s : State), s.is Reg.commitBusy = true ∧ s.is Reg.brownOut = false) ∧
    (∃ (s : State) (sector : Fin 1024), (s.seq Reg.badSectors).contains (sector.val : Int) = false) := by
  refine ⟨?_, ?_, ?_, ?_⟩
  · exact ⟨((State.reset.set Obj.journalWritesPermitted 1).set Obj.startUpStage 4).setLog Reg.journalItems [[1, 2, 3]],
      by decide +kernel⟩
  · exact ⟨(((State.reset.set Obj.journalWritesPermitted 1).set Obj.startUpStage 4).setLog Reg.journalItems [[1, 2,
      3]]).set Obj.frameCounter 2000, by decide +kernel⟩
  · exact ⟨(State.reset.set Reg.commitBusy 1).setBytes Reg.entryStaged (commitEntry 5 0 0 []), by decide⟩
  · exact ⟨State.reset, 1023, by decide⟩

/-! ### Well-formed commands -/

/-- A well-formed request. -/
def testPlain : Req := { auth := .plain 0, tag := 255, epoch := 15 }

theorem test_wellFormed_accepts :
    Instr.wf (.read testPlain 65535 255) = true ∧
      Instr.wf (.requestField { testPlain with auth := .can 7 63 (some ⟨5, 4294967295, List.replicate 8 0⟩) }) = true ∧
      Instr.wf (.requestField { testPlain with auth := .session 4294967295 18446744073709551615 [List.replicate 16 0] }) = true ∧
      Instr.wf (.join none) = true := by
  decide

/-- Each ill-formed request differs from a well-formed one in one field. -/
theorem test_wellFormed_refuses_requests :
    [{ testPlain with tag := 256 }, { testPlain with epoch := 16 }, { testPlain with auth := .plain 2 },
     { testPlain with auth := .can 8 1 none }, { testPlain with auth := .can 0 0 none }, { testPlain with auth := .can 0 64 none },
     { testPlain with auth := .can 8 1 (some ⟨1, 0, List.replicate 8 0⟩) },
     { testPlain with auth := .can 0 0 (some ⟨1, 0, List.replicate 8 0⟩) },
     { testPlain with auth := .can 0 64 (some ⟨1, 0, List.replicate 8 0⟩) },
     { testPlain with auth := .can 0 1 (some ⟨0, 0, List.replicate 8 0⟩) },
     { testPlain with auth := .can 0 1 (some ⟨6, 0, List.replicate 8 0⟩) },
     { testPlain with auth := .can 0 1 (some ⟨1, 4294967296, List.replicate 8 0⟩) },
     { testPlain with auth := .can 0 1 (some ⟨1, 0, List.replicate 7 0⟩) },
     { testPlain with auth := .session 4294967296 0 [] },
     { testPlain with auth := .session 0 18446744073709551616 [] },
     { testPlain with auth := .session 0 0 [List.replicate 15 0] }].map (fun r => Instr.wf (.requestField r)) =
      List.replicate 16 false := by
  decide

theorem test_wellFormed_refuses_operands :
    Instr.wf (.read testPlain 65536 0) = false ∧ Instr.wf (.read testPlain 0 256) = false ∧
      Instr.wf (.write testPlain 65536 0 []) = false ∧ Instr.wf (.write testPlain 0 256 []) = false ∧
      Instr.wf (.join (some { testPlain with tag := 256 })) = false := by
  decide

/-- A transfer of 65 537 bytes is refused, in every command that carries one. -/
theorem test_wellFormed_refuses_transfers :
    transferFits (List.replicate 65536 0) = true ∧ transferFits (List.replicate 65537 0) = false := by
  unfold transferFits
  rw [List.length_replicate, List.length_replicate]
  decide

/-! ### The opcode table gives no row any bits -/

theorem test_decodeTableWord (nbits w : Nat) : decodeTableWord nbits w = none := rfl

theorem test_withFetchWord (s : State) (nbits w : Nat) : s.withFetchWord nbits w = s := rfl

/-! ### The worked examples of the spec -/

/-- R46: the check value of the cabinet links over "123456789". -/
theorem test_crc32 : crc32 [0x31, 0x32, 0x33, 0x34, 0x35, 0x36, 0x37, 0x38, 0x39] = 0xFC891918 := by
  decide +kernel

/-- R347: the check value of the mains-pulse link over the same string. -/
theorem test_crc16 : crc16 [0x31, 0x32, 0x33, 0x34, 0x35, 0x36, 0x37, 0x38, 0x39] = 0x29B1 := by
  decide +kernel

/-- The control frame: frame 1 000 037 at 8 % has index 101 and 7460 cycles, the next one 7480. -/
theorem test_dither :
    ditherIndex 1000037 = 101 ∧ frameCycles 3 (ditherIndex 1000037) = 7460 ∧ frameCycles 3 (ditherIndex 1000038) = 7480 := by
  decide

/-- Converter phase control: three of the four phases of BK21 switch, duty 0x2000, centred. -/
def testEdges : State :=
  ((((([84, 85, 86].foldl (fun s p => (s.set Obj.phaseState phActive p).set Reg.dutyRaw 0x2000 p) State.reset).set
    Obj.phaseState phRefused 87).set Obj.carrierMultiple 2 21).set Obj.alignment 2 21).set Obj.minimumOnTime 0 21).set
      Obj.minimumOffTime 40 21

theorem test_edges :
    edgesOf testEdges 84 7460 = [(26110, 33570), (85790, 93250)] ∧
      edgesOf testEdges 85 7460 = [(46003, 53463), (105683, 113143)] ∧
      edgesOf testEdges 86 7460 = [(6216, 13676), (65896, 73356)] := by
  decide +kernel

/-- A bootstrap-supplied phase keeps 2560 edge units off and delivers 0.92 of a period of 32 000. -/
theorem test_bootstrap :
    let s := (((State.reset.set Obj.declaredSupplyMap 16 5).set Obj.bootstrapMin 80 84).set Obj.deadTime 40 84).set
      Obj.minimumOffTime 40 21
    toffMin s 84 = 2560 ∧ onTime 0 2560 65536 32000 = .pulse 29440 := by
  decide +kernel

/-- Three usable phases of a block of 480.0 A give an effective rating of 360.0 A. -/
theorem test_effectiveRating :
    ratingOf ([84, 85, 86].foldl (fun s p => s.set Obj.phaseState phActive p)
      ((State.reset.set Obj.blockCurrentRating 4800 21).set Obj.phaseState phRefused 87)) 21 = 3600 := by
  decide +kernel

/-- The loop engine: p and Kp of the first example share exponent 124. -/
theorem test_mantissas :
    stageExponent [871875 / 10000000, 2325 / 1000000] = 124 ∧
      mantissas 124 [871875 / 10000000, 2325 / 1000000] = [5851054, 156028] := by
  decide +kernel

/-- Metrology: a sample of 1 677 000 W adds 29 whole mWh and 7509 units of 2^-16 mWh. -/
theorem test_sampleEnergy : sampleInc 1677000 / 2 ^ 32 = 29 * 65536 + 7509 := by
  decide +kernel

/-- The dictionary: gain table GT12 written over CAN0, and configuration committed over ETH0. -/
theorem test_headers :
    canIdent 3 2 1 0x21 = 0x0C409080 ∧ canHeader 0x580C 0 3 true 261 = [0x58, 0x0C, 0, 0x31, 0, 0, 1, 5] ∧
      udpHeader 2 0x40 7 0x1010 1 0 true 1 = [0x17, 2, 0x40, 1, 0x10, 0x10, 2, 0, 0, 1, 0, 0] := by
  decide

/-- The scope: where OP3, LP700 and MO17 of CAN1 have their objects. -/
theorem test_addresses :
    Obj.outletDeclared.index 3 = 0x40C0 ∧ Obj.slotClass.index 700 = 0x52BC ∧ Obj.moId.index 145 = 0x1511 := by
  decide

/-- CAN: the longest reference message and the longest 8-byte frame with an 11-bit identifier. -/
theorem test_canUnits :
    frameUnits State.reset 2 false false false 1 = 65 ∧ frameUnits State.reset 2 false false false 8 = 135 := by
  decide +kernel

/-- The mains-pulse link: rising loadings 2 2 1 0 0 1 2 2, falling 2 2 2 1 1 2 2 2, a body of 40 bytes takes two blocks. -/
theorem test_bodyBlocks :
    let rising : List Nat := [2, 2, 1, 0, 0, 1, 2, 2]
    let falling : List Nat := [2, 2, 2, 1, 1, 2, 2, 2]
    let map := (falling ++ rising).zipIdx.foldl (fun a x => a + x.1 * 4 ^ x.2) 0
    loadSum map = 24 ∧ bodyBlocks map 40 = 2 := by
  decide

/-- Power sharing: four outlets at 18:00, then a fifth of class 2 at 18:04. -/
def testOutlet (n cls volts amps planned : Nat) (s : State) : State :=
  ((((((((s.set Obj.outletState 6 n).set Obj.boundContext n n).set Obj.ctxClass cls n).set Obj.dcVoltage (volts * 1000) n).set
    Obj.evTargetCurrent (amps * 10) n).set Obj.outletRatedCurrent 30000 n).set Obj.cableLimit 40000 n).set Obj.connectorLimit 40000
      n).set Reg.planned (planned * 10) n

def testSite : State :=
  (((((State.reset.forN 8 fun k u => u.set Obj.classMinimumPower 1500 k).set Obj.staticSiteImportLimit 50000).set
    Obj.auxReserve 2000).set Obj.efficiency 960).set Obj.dynamicSiteImportLimit 100000).set Obj.planningEnable 1

def testEvening : State :=
  testOutlet 3 5 850 3000 1000 (testOutlet 2 3 800 1000 600 (testOutlet 1 3 750 1500 900 (testOutlet 0 1 800 1500 1200 testSite)))

theorem test_eveningPeak : (sharePower testEvening).2.take 4 = [1200000, 1125000, 800000, 1483000] := by
  decide +kernel

theorem test_eveningPeak_fifth :
    (sharePower (testOutlet 4 2 800 1000 800 testEvening)).2.take 5 = [1200000, 954000, 654000, 1000000, 800000] := by
  decide +kernel

end Sys2Proof.Machine
end

section
/-!
SUPPORT. Waiting writes: which functions leave the list of writes that wait for their boundary (R291) as it is. One lemma for
each function that a frame start calls before its boundary, and for each that a setting in effect calls.
-/

namespace Sys2Proof.Machine

/-! ### The named operations of the state -/

@[simp] theorem ite_waiting (c : Prop) [Decidable c] (a b : State) :
    State.waiting (if c then a else b) = if c then a.waiting else b.waiting := by split <;> rfl

@[simp] theorem setB_waiting (s : State) (o : Obj) (v : Bool) (i j : Nat) : (s.setB o v i j).waiting = s.waiting := rfl

@[simp] theorem setBit_waiting (s : State) (o : Obj) (b : Nat) (v : Bool) (i j : Nat) :
    (s.setBit o b v i j).waiting = s.waiting := rfl

@[simp] theorem inc_waiting (s : State) (o : Obj) (i j : Nat) : (s.inc o i j).waiting = s.waiting := rfl

@[simp] theorem setReal_waiting (s : State) (o : Obj) (v : Rat) (i j : Nat) : (s.setReal o v i j).waiting = s.waiting := rfl

@[simp] theorem setBytes_waiting (s : State) (o : Obj) (v : List Byte) (i j : Nat) :
    (s.setBytes o v i j).waiting = s.waiting := rfl

@[simp] theorem setLog_waiting (s : State) (o : Obj) (v : List (List Byte)) (i : Nat) :
    (s.setLog o v i).waiting = s.waiting := rfl

@[simp] theorem when_waiting (s : State) (c : Bool) (f : State → State) :
    (s.when c f).waiting = if c then (f s).waiting else s.waiting := by
  unfold State.when
  split <;> rfl

/-! ### What a frame start calls before its boundary -/

@[simp] theorem advanceTime_waiting (cycles : Int) (s : State) : (advanceTime cycles s).waiting = s.waiting := by
  simp [advanceTime]

@[simp] theorem clearFrame_waiting (s : State) : (clearFrame s).waiting = s.waiting :=
  forN_waiting (fun _ _ => by rfl) _ _

@[simp] theorem takeLease_waiting (s : State) : (takeLease s).waiting = s.waiting := by
  simp [takeLease]

@[simp] theorem watchLink_waiting (s : State) : (watchLink s).waiting = s.waiting := by
  simp [watchLink]

@[simp] theorem missMirror_waiting (s : State) : (missMirror s).waiting = s.waiting := by
  simp [missMirror]

@[simp] theorem enterInrush_waiting (c : Nat) (s : State) : (enterInrush c s).waiting = s.waiting := by
  simp [enterInrush]

@[simp] theorem tryTurnOn_waiting (c : Nat) (s : State) : (tryTurnOn c s).waiting = s.waiting := by
  simp [tryTurnOn]

@[simp] theorem supplyBack_waiting (c : Nat) (bit : Nat) (s : State) : (supplyBack c bit s).waiting = s.waiting := by
  simp [supplyBack]

@[simp] theorem supplyReturn_waiting (b : Nat) (l : List Nat) (s : State) : (supplyReturn b l s).waiting = s.waiting := by
  simp [supplyReturn, forL_waiting]

@[simp] theorem groupEnabled_waiting (g : Nat) (s : State) : (groupEnabled g s).waiting = s.waiting := by
  simp [groupEnabled]

@[simp] theorem supplyOff_waiting (c : Nat) (bit : Nat) (s : State) : (supplyOff c bit s).waiting = s.waiting := by
  simp [supplyOff]

@[simp] theorem recordCause_waiting (n : Nat) (kind cause : Int) (s : State) :
    (recordCause n kind cause s).waiting = s.waiting := by
  unfold recordCause
  generalize (if kind = 1 then (100 : Int) else 0) + cause = rank
  dsimp only
  split
  · split
    · split <;> rfl
    · rfl
  · split
    · split <;> rfl
    · rfl

@[simp] theorem submit_waiting (writer kind key sub : Nat) (payload : List Byte) (urgent : Bool) (s : State) :
    (submit writer kind key sub payload urgent s).waiting = s.waiting := by
  simp [submit]

@[simp] theorem endEpisode_waiting (code elem : Nat) (s : State) : (endEpisode code elem s).waiting = s.waiting := by
  simp [endEpisode]

@[simp] theorem logEntry_waiting (code src held : Nat) (d : List Byte) (s : State) :
    (logEntry code src held d s).waiting = s.waiting := by
  simp [logEntry, enterEvent_waiting]

@[simp] theorem logEpisode_waiting (code src elem : Nat) (d : List Byte) (s : State) :
    (logEpisode code src elem d s).waiting = s.waiting := by
  simp [logEpisode]

@[simp] theorem noteRoom_waiting (s : State) : (noteRoom s).waiting = s.waiting := by
  simp [noteRoom]

@[simp] theorem setContext_waiting (c : Nat) (st : Int) (s : State) : (setContext c st s).waiting = s.waiting := by
  simp [setContext, logEvent_waiting]

@[simp] theorem dropContext_waiting (c : Nat) (reason : Int) (s : State) : (dropContext c reason s).waiting = s.waiting := by
  simp [dropContext, logEvent_waiting]

@[simp] theorem endContext_waiting (n : Nat) (s : State) : (endContext n s).waiting = s.waiting := by
  unfold endContext
  split
  · rfl
  · simp

@[simp] theorem takeStop_waiting (c n : Nat) (s : State) : (takeStop c n s).waiting = s.waiting := by
  unfold takeStop
  dsimp only
  split
  · rfl
  · rw [submit_waiting, ite_waiting, setBit_waiting, ite_self]
    simp only [set_waiting]
    exact forN_waiting (fun _ _ => by rfl) _ _

@[simp] theorem takeStart_waiting (c n : Nat) (s : State) : (takeStart c n s).waiting = s.waiting := by
  unfold takeStart
  simp only [submit_waiting, set_waiting]
  exact (forN_waiting (fun _ _ => by rfl) _ _).trans (forN_waiting (fun _ _ => by rfl) _ _)

@[simp] theorem takeBoth_waiting (c n : Nat) (s : State) : (takeBoth c n s).waiting = s.waiting := by
  simp [takeBoth]

@[simp] theorem closeLink_waiting (n : Nat) (s : State) : (closeLink n s).waiting = s.waiting := by
  simp [closeLink]

@[simp] theorem drivePilot_waiting (n : Nat) (s : State) : (drivePilot n s).waiting = s.waiting := by
  simp [drivePilot]

@[simp] theorem setOutlet_waiting (n : Nat) (st : Int) (s : State) : (setOutlet n st s).waiting = s.waiting := by
  simp [setOutlet, logEvent_waiting]

@[simp] theorem toClosing_waiting (n : Nat) (s : State) : (toClosing n s).waiting = s.waiting := by
  unfold toClosing
  dsimp only
  split <;> simp

@[simp] theorem holdSlot_waiting (i : Nat) (s : State) : (holdSlot i s).waiting = s.waiting := by
  simp [holdSlot]

@[simp] theorem holdBlockSlots_waiting (b : Nat) (s : State) : (holdBlockSlots b s).waiting = s.waiting := by
  simp [holdBlockSlots, forL_waiting]

@[simp] theorem setBlock_waiting (b : Nat) (st : Int) (s : State) : (setBlock b st s).waiting = s.waiting := by
  simp [setBlock, logEvent_waiting]

@[simp] theorem refreshBlock_waiting (b : Nat) (s : State) : (refreshBlock b s).waiting = s.waiting := by
  simp [refreshBlock]

@[simp] theorem touchActive_waiting (b : Nat) (s : State) : (touchActive b s).waiting = s.waiting :=
  forL_waiting (fun _ _ => by rfl) _ _

@[simp] theorem setPhase_waiting (p : Nat) (st : Int) (s : State) : (setPhase p st s).waiting = s.waiting := by
  simp [setPhase]

@[simp] theorem movePhases_waiting (b : Nat) (src : List Int) (dst : Int) (s : State) :
    (movePhases b src dst s).waiting = s.waiting := by
  simp [movePhases, forL_waiting]

@[simp] theorem handBank_waiting (b : Nat) (code : Int) (s : State) : (handBank b code s).waiting = s.waiting := by
  simp [handBank]

@[simp] theorem endCapture_waiting (shown : Int) (s : State) : (endCapture shown s).waiting = s.waiting := by
  simp [endCapture, queueItem_waiting, logEvent_waiting]

@[simp] theorem endInjection_waiting (cause : Int) (s : State) : (endInjection cause s).waiting = s.waiting := by
  simp [endInjection, logEvent_waiting]

@[simp] theorem endInjectionOfBlock_waiting (b : Nat) (cause : Int) (s : State) :
    (endInjectionOfBlock b cause s).waiting = s.waiting := by
  simp [endInjectionOfBlock]

@[simp] theorem stopBlock_waiting (b : Nat) (s : State) : (stopBlock b s).waiting = s.waiting := by
  simp [stopBlock]

@[simp] theorem releaseBlocks_waiting (n : Nat) (s : State) : (releaseBlocks n s).waiting = s.waiting := by
  simp [releaseBlocks, forN_waiting]

@[simp] theorem closeEarly_waiting (n : Nat) (kind cause : Int) (s : State) : (closeEarly n kind cause s).waiting = s.waiting := by
  simp [closeEarly]

@[simp] theorem applyRamp_waiting (n : Nat) (s : State) : (applyRamp n s).waiting = s.waiting := by
  unfold applyRamp
  split
  · rfl
  · exact forL_waiting (fun _ _ => by rfl) _ _

@[simp] theorem setRamp_waiting (n : Nat) (v : Int) (s : State) : (setRamp n v s).waiting = s.waiting := by
  simp [setRamp]

@[simp] theorem toWeldCheck_waiting (n : Nat) (s : State) : (toWeldCheck n s).waiting = s.waiting := by
  unfold toWeldCheck
  simp only [setOutlet_waiting, setRamp_waiting, set_waiting]
  exact (forL_waiting (fun _ _ => by rfl) _ _).trans (endContext_waiting n s)

@[simp] theorem normalStop_waiting (n : Nat) (cause : Int) (s : State) : (normalStop n cause s).waiting = s.waiting := by
  simp [normalStop]

@[simp] theorem commandChannel_waiting (c : Nat) (v : Int) (s : State) : (commandChannel c v s).waiting = s.waiting := by
  simp [commandChannel]

@[simp] theorem commandCoils_waiting (n : Nat) (plus minus : Bool) (s : State) :
    (commandCoils n plus minus s).waiting = s.waiting := by
  simp [commandCoils]

@[simp] theorem commandContactors_waiting (n : Nat) (plus minus : Bool) (s : State) :
    (commandContactors n plus minus s).waiting = s.waiting := by
  simp [commandContactors]

@[simp] theorem openContactors_waiting (n : Nat) (forced : Bool) (s : State) : (openContactors n forced s).waiting = s.waiting := by
  unfold openContactors
  dsimp only
  split
  · rfl
  · split <;> simp [logEvent_waiting]

@[simp] theorem emergencyStop_waiting (n : Nat) (cause : Int) (s : State) : (emergencyStop n cause s).waiting = s.waiting := by
  simp [emergencyStop, forL_waiting]

@[simp] theorem hardwareStop_waiting (n : Nat) (cause : Int) (s : State) : (hardwareStop n cause s).waiting = s.waiting := by
  unfold hardwareStop
  dsimp only
  split
  · rfl
  · split
    · simp
    · split <;> simp [forL_waiting, logEvent_waiting]

@[simp] theorem refreshAvail_waiting (n : Nat) (s : State) : (refreshAvail n s).waiting = s.waiting := by
  simp [refreshAvail, logEvent_waiting]

@[simp] theorem weldLeft_waiting (n : Nat) (s : State) : (weldLeft n s).waiting = s.waiting := by
  simp [weldLeft]

@[simp] theorem outletFault_waiting (n : Nat) (cause : Int) (marked : Bool) (s : State) :
    (outletFault n cause marked s).waiting = s.waiting := by
  unfold outletFault
  dsimp only
  repeat' split
  all_goals simp

@[simp] theorem groupDisabled_waiting (g : Nat) (s : State) : (groupDisabled g s).waiting = s.waiting := by
  simp [groupDisabled, forN_waiting, forL_waiting]

@[simp] theorem setOutput_waiting (o : Nat) (s : State) : (setOutput o s).waiting = s.waiting := by
  simp [setOutput]

@[simp] theorem setOutputs_waiting (s : State) : (setOutputs s).waiting = s.waiting := by
  simp [setOutputs, forN_waiting]

@[simp] theorem abortTest_waiting (m : Nat) (s : State) : (abortTest m s).waiting = s.waiting := by
  simp [abortTest]

@[simp] theorem setMpl_waiting (v : Int) (s : State) : (setMpl v s).waiting = s.waiting := by
  simp [setMpl, logEvent_waiting]

@[simp] theorem afterRole_waiting (s : State) : (afterRole s).waiting = s.waiting := by
  simp [afterRole, forN_waiting, forL_waiting]

@[simp] theorem channelsOff_waiting (s : State) : (channelsOff s).waiting = s.waiting := by
  simp [channelsOff, forN_waiting]

@[simp] theorem setRole_waiting (v : Int) (s : State) : (setRole v s).waiting = s.waiting := by
  simp [setRole, logEvent_waiting]

@[simp] theorem fence_waiting (s : State) : (fence s).waiting = s.waiting := by
  unfold fence
  rw [logEvent_waiting, setRole_waiting]
  simp only [set_waiting, channelsOff_waiting]

@[simp] theorem fenceNow_waiting (s : State) : (fenceNow s).waiting = s.waiting := by
  simp [fenceNow]

@[simp] theorem becomeIsolated_waiting (s : State) : (becomeIsolated s).waiting = s.waiting := by
  simp [becomeIsolated]

@[simp] theorem sendLease_waiting (op : Nat) (frame : Int) (s : State) : (sendLease op frame s).waiting = s.waiting := by
  simp [sendLease]

@[simp] theorem pairStart_waiting (s : State) : (pairStart s).waiting = s.waiting := by
  simp [pairStart]

@[simp] theorem presetSlot_waiting (i : Nat) (v : Rat) (s : State) : (presetSlot i v s).waiting = s.waiting := by
  simp [presetSlot]

@[simp] theorem switchSet_waiting (b : Nat) (s : State) : (switchSet b s).waiting = s.waiting := by
  simp [switchSet]

@[simp] theorem loadLimits_waiting (s : State) : (loadLimits s).waiting = s.waiting :=
  forN_waiting (fun _ _ => by rfl) _ _

@[simp] theorem dropBlock_waiting (b : Nat) (s : State) : (dropBlock b s).waiting = s.waiting := by
  simp [dropBlock]

/-! ### What a boundary calls -/

@[simp] theorem emitAnswer_waiting (a : Answer) (s : State) : (emitAnswer a s).waiting = s.waiting := by
  simp only [emitAnswer]
  split
  · split <;> rfl
  · rfl

@[simp] theorem markDirty_waiting (o : Obj) (k : Key) (s : State) : (markDirty o k s).waiting = s.waiting := by
  unfold markDirty
  split <;> rfl

@[simp] theorem auditEntry_waiting (kind role index sub : Nat) (old new : List Byte) (s : State) :
    (auditEntry kind role index sub old new s).waiting = s.waiting := by
  unfold auditEntry
  split <;> rfl

@[simp] theorem startCan_waiting (k : Nat) (s : State) : (startCan k s).waiting = s.waiting := by
  unfold startCan
  split
  · split <;> rfl
  · rfl

@[simp] theorem applyField_waiting (role : Nat) (record : Bool) (w : FieldWrite) (s : State) :
    (applyField role record w s).waiting = s.waiting := by
  unfold applyField
  split
  · rfl
  · simp

@[simp] theorem awaitSync_waiting (w : Waiting) (s : State) : (awaitSync w s).waiting = s.waiting ++ [w] := by
  simp [awaitSync]

theorem foldl_waiting {α : Type} {f : State → α → State} (h : ∀ u a, (f u a).waiting = u.waiting) (l : List α) (s : State) :
    (l.foldl f s).waiting = s.waiting := by
  induction l generalizing s with
  | nil => rfl
  | cons a l ih => exact (ih (f s a)).trans (h s a)

@[simp] theorem answerWaiting_waiting (o : Obj) (i status : Nat) (s : State) :
    (answerWaiting o i status s).waiting = s.waiting.filter fun w => !(waitsFor o i w) := by
  unfold answerWaiting
  refine foldl_waiting (fun u w => ?_) _ _
  split
  · exact emitAnswer_waiting _ _
  · rfl

@[simp] theorem settlePhase_waiting (p : Nat) (s : State) : (settlePhase p s).waiting = s.waiting := by
  simp [settlePhase]

@[simp] theorem settleLevels_waiting (s : State) : (settleLevels s).waiting = s.waiting := by
  unfold settleLevels
  refine forN_waiting (fun k u => ?_) _ _
  dsimp only
  split <;> rfl

@[simp] theorem contextWritten_waiting (c : Nat) (s : State) : (contextWritten c s).waiting = s.waiting := by
  simp [contextWritten]

@[simp] theorem restartChannel_waiting (c : Nat) (s : State) : (restartChannel c s).waiting = s.waiting := rfl

@[simp] theorem abandonFrames_waiting (s : State) : (abandonFrames s).waiting = s.waiting := by
  unfold abandonFrames
  dsimp only
  split
  · simp
  · rfl

end Sys2Proof.Machine
end

section
/-!
SUPPORT. A boundary of Table 1.4 with what follows from the settings that take effect (`applyDue`) leaves every register
outside its footprint that no waiting write names. A setting in effect can reach a further boundary (an aborted CAN frame,
R330), so the register must stay unnamed along the way: `Spares` carries both facts.
-/

namespace Sys2Proof.Machine

/-- From `s` to `t` the register stays as it is, and no write to it joins those that wait. -/
def Spares (o : Obj) (s t : State) : Prop := s.unawaited o → t.unawaited o ∧ t.part o = s.part o

theorem State.unawaited.of_subset {o : Obj} {s t : State} (h : t.waiting ⊆ s.waiting) (n : s.unawaited o) : t.unawaited o :=
  fun w m => n w (h m)

section
variable {o : Obj} {s t u : State}

theorem Spares.refl (s : State) : Spares o s s := fun n => ⟨n, rfl⟩

theorem Spares.trans (h : Spares o s t) (k : Spares o t u) : Spares o s u := fun n =>
  have ⟨m, p⟩ := h n
  have ⟨l, q⟩ := k m
  ⟨l, q.trans p⟩

theorem Spares.of_subset (h : t.waiting ⊆ s.waiting) (p : t.part o = s.part o) : Spares o s t := fun n => ⟨n.of_subset h, p⟩

theorem Spares.of_waiting (h : t.waiting = s.waiting) (p : t.part o = s.part o) : Spares o s t :=
  .of_subset (h ▸ List.Subset.refl _) p

theorem Spares.set (q : Obj) (h : ¬ o.id = q.id) {v : Int} {i j : Nat} {s : State} : Spares o s (s.set q v i j) :=
  .of_waiting rfl (part_set h v i j)

theorem Spares.setLog (q : Obj) (h : ¬ o.id = q.id) {v : List (List Byte)} {i : Nat} {s : State} : Spares o s (s.setLog q v i) :=
  .of_waiting rfl (part_setLog h v i)

theorem Spares.ite_of {c : Prop} [Decidable c] (h : c → Spares o s t) (k : Spares o s u) : Spares o s (if c then t else u) := by
  split
  case isTrue x => exact h x
  case isFalse => exact k

theorem Spares.ite {c : Prop} [Decidable c] (h : Spares o s t) (k : Spares o s u) : Spares o s (if c then t else u) :=
  .ite_of (fun _ => h) k

theorem Spares.foldl {α : Type} {f : State → α → State} (h : ∀ (u : State) a, Spares o u (f u a)) (l : List α) (s : State) :
    Spares o s (l.foldl f s) := by
  induction l generalizing s with
  | nil => exact .refl s
  | cons a l ih => exact (h s a).trans (ih (f s a))

theorem Spares.forN {f : Nat → State → State} (h : ∀ k (u : State), Spares o u (f k u)) (n : Nat) (s : State) :
    Spares o s (s.forN n f) :=
  Spares.foldl (fun u k => h k u) _ s

theorem Spares.get (h : Spares o s t) (n : s.unawaited o) (i j : Nat) : t.get o i j = s.get o i j :=
  get_of_view (view_of_part (h n).2) i j
end

/-! ### Footprints of what a boundary brings about -/

def Footprint.abortAll : List Nat := [Reg.moFrames.id, Reg.canOnBus.id] ++ Footprint.frameDone
def Footprint.enableController : List Nat :=
  [Obj.controllerState.id] ++ Footprint.abortAll ++ Footprint.canIdle ++ Footprint.judgeErrors
def Footprint.settle : List Nat := [Obj.weakOnApplied.id, Obj.weakOffApplied.id, Reg.cableStarted.id, Reg.slotFirst.id,
  Obj.lsCommand.id, Reg.moPeriodAt.id, Reg.moWatchAt.id, Obj.moPendingId.id, Reg.mplLocked.id, Obj.osState.id] ++
  Footprint.settlePhase ++ Footprint.restartChannel ++ Footprint.settleLevels ++ Footprint.contextWritten ++
  Footprint.commandChannel ++ Footprint.refreshAvail ++ Footprint.enableController ++ Footprint.setMpl ++
  Footprint.abandonFrames
def Footprint.applyDue : List Nat := Footprint.atBoundary ++ Footprint.settle

/-! ### Boundaries and settings in effect -/

section
variable {o : Obj} (q : o.quiet = true)

theorem applyWaiting_unawaited (w : Waiting) {s : State} (n : s.unawaited o) : (applyWaiting w s).unawaited o := by
  have fields : (w.writes.foldl (fun u f => applyField w.role w.record f u) s).waiting = s.waiting :=
    foldl_waiting (fun _ _ => applyField_waiting _ _ _ _) _ _
  unfold applyWaiting
  dsimp only
  split
  · have syncs (u : State) : (w.writes.foldl (fun u f => u.emit (.sync f.key f.num f.bytes)) u).waiting = u.waiting :=
      foldl_waiting (fun _ _ => emit_waiting _ _) _ _
    simp only [State.unawaited, awaitSync_waiting, syncs, fields, List.forall_mem_append]
    exact ⟨n, by simp⟩
  · exact n.of_subset (by simp [fields])

theorem endDiscard_waiting_subset (s : State) : (endDiscard s).waiting ⊆ s.waiting := by
  unfold endDiscard
  split
  · rw [answerWaiting_waiting]
    exact List.filter_subset_self _
  · exact List.Subset.refl _

theorem atBoundary_unawaited (b : Boundary) {s : State} (n : s.unawaited o) : (atBoundary b s).unawaited o := by
  have applied (l : List Waiting) (e : List Waiting) (u : State) (m : u.unawaited o) :
      (l.foldl (fun u w =>
        let v := applyWaiting w u
        if w.space = discardSpace ∨ e.contains w then undirty (w.writes.map (·.key)) v else v) u).unawaited o := by
    induction l generalizing u with
    | nil => exact m
    | cons w l ih =>
      refine ih _ ?_
      dsimp only
      split <;> exact applyWaiting_unawaited w m
  unfold atBoundary
  exact (applied _ _ _ (n.of_subset (List.filter_subset_self _))).of_subset (endDiscard_waiting_subset _)

theorem frameDone_unawaited (m : Nat) {s : State} (n : s.unawaited o) : (frameDone m s).unawaited o := by
  have done : (atBoundary (.frameDone m) ((s.setLog Reg.moFrames ((s.log Reg.moFrames m).drop 1) m).setBit
      Obj.moStatus 1 false m)).unawaited o := atBoundary_unawaited _ n
  have answered (t : State) : State.waiting (if t.is Reg.moAbortDue m then answerWaiting Obj.moAbort m 0
      (t.set Reg.moAbortDue 0 m) else t) ⊆ t.waiting := by
    split
    · simp
    · exact List.Subset.refl _
  refine done.of_subset ?_
  unfold frameDone
  refine List.Subset.trans (answered _) ?_
  simp

include q

theorem atBoundary_spares (h : o.id ∉ Footprint.atBoundary) (b : Boundary) (s : State) : Spares o s (atBoundary b s) :=
  fun n => ⟨atBoundary_unawaited b n, atBoundary_part q h b n⟩

theorem frameDone_spares (h : o.id ∉ Footprint.frameDone) (m : Nat) (s : State) : Spares o s (frameDone m s) :=
  fun n => ⟨frameDone_unawaited m n, frameDone_part q h m n⟩

theorem canIdle_spares (h : o.id ∉ Footprint.canIdle) (k : Nat) (s : State) : Spares o s (canIdle k s) := by
  refine .of_subset ?_ (canIdle_part q h k s)
  unfold canIdle
  split
  · simp [logEvent_waiting]
  · rw [startCan_waiting]
    exact List.Subset.refl _

theorem abortAll_spares (h : o.id ∉ Footprint.abortAll) (k : Nat) (s : State) : Spares o s (abortAll k s) := by
  simp only [Footprint.abortAll, List.mem_append, List.mem_cons, List.not_mem_nil, or_false, not_or] at h
  obtain ⟨⟨frames, onBus⟩, done⟩ := h
  refine (Spares.set Reg.canOnBus onBus).trans (.foldl (fun u m => ?_) _ _)
  exact .ite ((Spares.setLog Reg.moFrames frames).trans (frameDone_spares q done m _)) (.refl u)

theorem enableController_spares (h : o.id ∉ Footprint.enableController) (k : Nat) (on : Bool) (s : State) :
    Spares o s (enableController k on s) := by
  simp only [Footprint.enableController, List.mem_append, List.mem_cons, List.not_mem_nil, or_false, not_or] at h
  obtain ⟨⟨⟨state, abort⟩, idle⟩, errors⟩ := h
  unfold enableController
  refine .ite ?_ (.ite (.refl s) (.ite (.set Obj.controllerState state) ?_))
  · exact (abortAll_spares q abort k s).trans (.set Obj.controllerState state)
  · have judged (u : State) : Spares o u (judgeErrors k u) :=
      .of_waiting (judgeErrors_waiting k u) (judgeErrors_part q errors k u)
    exact ((Spares.set Obj.controllerState state).trans (judged _)).trans (canIdle_spares q idle k _)

/-- What follows from a setting in effect (the branches of `settle`, in their order). -/
theorem settle_spares (h : o.id ∉ Footprint.settle) (was : State) (w : FieldWrite) (s : State) : Spares o s (settle was w s) := by
  simp only [Footprint.settle, List.mem_append, List.mem_cons, List.not_mem_nil, or_false, not_or, and_assoc] at h
  obtain ⟨weakOn, weakOff, cable, slot, command, period, watch, pending, locked, osState, phase, restart, levels, context,
    channel, avail, controller, mpl, abandon⟩ := h
  have phases (k : Nat) (u : State) : Spares o u (settlePhase k u) :=
    .of_waiting (settlePhase_waiting k u) (settlePhase_part q phase k u)
  unfold settle
  split
  · exact .refl s
  · rename_i p _
    have setsMpl (v : Int) (u : State) : Spares o u (setMpl v u) := .of_waiting (setMpl_waiting v u) (setMpl_part q mpl v u)
    refine .ite (phases _ s) <| .ite (.forN (fun _ _ => phases _ _) 16 s) <| .ite (.set Obj.weakOnApplied weakOn) <|
      .ite (.set Obj.weakOffApplied weakOff) <| .ite ?tc <| .ite (.set Reg.cableStarted cable) <|
      .ite (.ite (.set Reg.slotFirst slot) (.refl s)) <| .ite ?levels <| .ite ?context <| .ite_of ?channel <|
      .ite ?avail <| .ite (.ite (.refl s) (enableController_spares q controller _ _ s)) <|
      .ite (.set Reg.moPeriodAt period) <| .ite (.set Reg.moWatchAt watch) <|
      .ite (.ite (.refl s) (.set Obj.moPendingId pending)) <| .ite ?link <|
      .ite (.ite (.refl s) (.set Obj.osState osState)) (.refl s)
    case tc => exact .ite (.refl s) (.of_waiting (restartChannel_waiting _ s) (restartChannel_part q restart _ s))
    case levels => exact .of_waiting (settleLevels_waiting s) (settleLevels_part q levels s)
    case context => exact .of_waiting (contextWritten_waiting _ s) (contextWritten_part q context _ s)
    case channel =>
      intro e
      exact (Spares.set p fun x => command (x.trans e)).trans
        (.of_waiting (commandChannel_waiting _ _ _) (commandChannel_part q channel _ _ _))
    case avail => exact .of_waiting (refreshAvail_waiting _ s) (refreshAvail_part q avail _ s)
    case link =>
      have abandons : Spares o s (abandonFrames s) := .of_waiting (abandonFrames_waiting s) (abandonFrames_part q abandon s)
      exact .ite (.refl s) (.ite (setsMpl 1 s) ((abandons.trans (.set Reg.mplLocked locked)).trans (setsMpl 0 _)))

theorem applyDue_spares (h : o.id ∉ Footprint.applyDue) (b : Boundary) (s : State) : Spares o s (applyDue b s) := by
  simp only [Footprint.applyDue, List.mem_append, not_or] at h
  obtain ⟨boundary, settled⟩ := h
  exact (atBoundary_spares q boundary b s).trans (.foldl (fun u w => settle_spares q settled s w u) _ _)

end

end Sys2Proof.Machine
end

section
/-!
THEOREM. The length of a frame (R19): the profile d(k), its sums, and the frame start that sets the length.
-/

namespace Sys2Proof.Machine

/-! ### The dither profile (R19) -/

theorem ditherOffset_rising {k : Nat} (h : k ≤ 32) : ditherOffset k = k := if_pos h

theorem ditherOffset_falling {k : Nat} (h : 33 ≤ k) (h' : k ≤ 96) : ditherOffset k = 64 - k := by
  rw [ditherOffset, if_neg (by omega), if_pos h']

theorem ditherOffset_returning {k : Nat} (h : 97 ≤ k) : ditherOffset k = (k : Int) - 128 := by
  rw [ditherOffset, if_neg (by omega), if_neg (by omega)]

/-- The profile is antisymmetric: half a dither cycle later the offset is the opposite one. -/
theorem ditherOffset_half_cycle_later {k : Nat} (h : k < 64) : ditherOffset (64 + k) = -ditherOffset k := by
  obtain rising | falling := Nat.lt_or_ge 32 k
  · rw [ditherOffset_falling rising (by omega), ditherOffset_returning (by omega)]
    omega
  · rw [ditherOffset_rising falling, ditherOffset_falling (by omega) (by omega)]
    omega

theorem sum_ditherOffset : ((List.range 128).map ditherOffset).sum = 0 := by
  have cancel (l : List Nat) (h : ∀ k ∈ l, k < 64) :
      (l.map ditherOffset).sum + (l.map fun k => ditherOffset (64 + k)).sum = 0 := by
    rw [← List.sum_map_add]
    exact List.sum_eq_zero (by simpa using fun k m => by rw [ditherOffset_half_cycle_later (h k m)]; omega)
  have halves : List.range 128 = List.range 64 ++ (List.range 64).map (64 + ·) := by
    rw [← List.range_add]
  rw [halves, List.map_append, List.sum_append, List.map_map]
  exact cancel _ fun k => List.mem_range.mp

theorem sum_frameCycles (depth : Int) (l : List Nat) :
    (l.map (frameCycles depth)).sum = 8000 * l.length + duneStep depth * (l.map ditherOffset).sum := by
  induction l with
  | nil => simp
  | cons k l ih =>
    simp only [List.map_cons, List.sum_cons, List.length_cons, ih, frameCycles, Nat.cast_add, Nat.cast_one]
    ring

theorem sum_frameCycles_ditherCycle (depth : Int) : ((List.range 128).map (frameCycles depth)).sum = 1024000 := by
  rw [sum_frameCycles, sum_ditherOffset, List.length_range]
  norm_num

/-! ### The frame start -/

/-- What a frame start does once the frame is counted (the second half of `execFrameStart`). -/
def afterCount (s : State) : State :=
  let t := loadLimits ((pairStart (clearFrame s)).forN 64 switchSet)
  applyDue .frameStart (if t.is Reg.allOffNext then (t.forN 64 dropBlock).set Reg.allOffNext 0 else t)

def Footprint.afterCount : List Nat := [Reg.allOffNext.id] ++ Footprint.clearFrame ++ Footprint.pairStart ++
  Footprint.switchSet ++ Footprint.loadLimits ++ Footprint.dropBlock ++ Footprint.applyDue

theorem exec_frameStart {s : State} (stage : s.get Obj.startUpStage ≠ 0) (held : s.is Reg.supplyHeld = false) :
    exec .frameStart s =
      .next ((afterCount (nextFrame (advanceTime (s.get Reg.frameLength) s.fresh))).done s.pending) := by
  have runs : ¬ (s.fresh.get Obj.startUpStage = 0 ∨ s.fresh.is Reg.supplyHeld = true) := by simp [stage, held]
  exact congrArg (fun u => Host.Outcome.next (State.done u s.pending)) (if_neg runs)

theorem afterCount_spares {o : Obj} (q : o.quiet = true) (h : o.id ∉ Footprint.afterCount) (s : State) :
    Spares o s (afterCount s) := by
  simp only [Footprint.afterCount, List.mem_append, List.mem_cons, List.not_mem_nil, or_false, not_or, and_assoc] at h
  obtain ⟨off, clear, pair, switch, limits, drop, due⟩ := h
  have cleared : Spares o s (clearFrame s) := .of_waiting (clearFrame_waiting s) (clearFrame_part q clear s)
  have paired (u : State) : Spares o u (pairStart u) := .of_waiting (pairStart_waiting u) (pairStart_part q pair u)
  have switched (b : Nat) (u : State) : Spares o u (switchSet b u) :=
    .of_waiting (switchSet_waiting b u) (switchSet_part q switch b u)
  have limited (u : State) : Spares o u (loadLimits u) := .of_waiting (loadLimits_waiting u) (loadLimits_part q limits u)
  have dropped (b : Nat) (u : State) : Spares o u (dropBlock b u) :=
    .of_waiting (dropBlock_waiting b u) (dropBlock_part q drop b u)
  unfold afterCount
  refine Spares.trans ?_ (applyDue_spares q due _ _)
  refine (((cleared.trans (paired _)).trans (.forN switched 64 _)).trans (limited _)).trans (.ite ?_ (.refl _))
  exact (Spares.forN dropped 64 _).trans (.set Reg.allOffNext off)

theorem nextFrame_frameCounter (s : State) :
    (nextFrame s).get Obj.frameCounter = (s.get Obj.frameCounter + 1) % 2 ^ 64 := by
  rw [nextFrame, get_set_other, get_set_other, get_set_other, get_set_same] <;> decide

theorem nextFrame_frameLength (s : State) :
    (nextFrame s).get Reg.frameLength = frameCycles (s.get Obj.appliedDuneDepth) (ditherIndex (nextFrame s).frame) := by
  rw [State.frame, State.getN, nextFrame_frameCounter, nextFrame, get_set_other, get_set_other, get_set_same, get_set_other,
    State.frame, State.getN, get_set_same] <;> decide

/-- What `nextFrame` sets stays while the rest of the frame start runs. -/
theorem afterCount_nextFrame_get {o : Obj} {s : State} (q : o.quiet = true) (h : o.id ∉ Footprint.afterCount)
    (n : s.unawaited o) (cycles : Int) :
    (afterCount (nextFrame (advanceTime cycles s.fresh))).get o = (nextFrame (advanceTime cycles s.fresh)).get o :=
  (afterCount_spares q h _).get (n.of_subset (by simp [nextFrame])) 0 0

theorem frameLength_notMem_afterCount : Reg.frameLength.id ∉ Footprint.afterCount := by decide +kernel
theorem frameCounter_notMem_afterCount : Obj.frameCounter.id ∉ Footprint.afterCount := by decide +kernel

/-- The frame that starts has the length of its own dither index, at the depth in use. -/
theorem frameStart_length {s : State} (stage : s.get Obj.startUpStage ≠ 0) (held : s.is Reg.supplyHeld = false)
    (length : s.unawaited Reg.frameLength) (counter : s.unawaited Obj.frameCounter) :
    ∃ t, exec .frameStart s = .next t ∧ 0 ≤ t.get Obj.frameCounter ∧
      t.get Reg.frameLength = frameCycles (s.get Obj.appliedDuneDepth) (ditherIndex t.frame) := by
  refine ⟨_, exec_frameStart stage held, ?_⟩
  have count := afterCount_nextFrame_get (by decide) frameCounter_notMem_afterCount counter (s.get Reg.frameLength)
  have depth : (advanceTime (s.get Reg.frameLength) s.fresh).get Obj.appliedDuneDepth = s.get Obj.appliedDuneDepth :=
    get_advanceTime (by decide) (by decide) _ _ 0 0
  constructor
  · rw [done_get, count, nextFrame_frameCounter]
    exact Int.emod_nonneg _ (by norm_num)
  · rw [done_get, afterCount_nextFrame_get (by decide) frameLength_notMem_afterCount length, nextFrame_frameLength, depth,
      State.frame, State.frame, State.getN, State.getN, done_get, count]

/-- Settles O15: `nextFrame` sets the length from the depth in use and the counter just counted, the rest of the frame start
spares both, and the two halves of the profile cancel in the sum. -/
theorem frameLengths : Obligations.FrameLengths := by
  unfold Obligations.FrameLengths
  refine ⟨fun s stage held length counter _ => ?_, fun depth => ⟨sum_ditherOffset, sum_frameCycles_ditherCycle depth⟩⟩
  obtain ⟨t, run, nonneg, cycles⟩ := frameStart_length stage held length counter
  have index : t.get Obj.frameCounter % 128 = (ditherIndex t.frame : Nat) := by
    simp only [ditherIndex, State.frame, State.getN]
    omega
  rw [frameCycles] at cycles
  refine ⟨t, _, run, index, fun rising => ?_, fun falling short => ?_, fun returning _ => ?_⟩
  · rw [cycles, ditherOffset_rising (by omega)]
  · rw [cycles, ditherOffset_falling (by omega) (by omega)]
  · rw [cycles, ditherOffset_returning (by omega)]

end Sys2Proof.Machine
end

section
/-!
THEOREM. A block's start refused for want of gate-drive ready (R87), and start and stop requests while a block starts or
stops (R90). What each operation of Power leaves in the block's state comes first.
-/

namespace Sys2Proof.Machine

/-! ### The state of a block -/

theorem blockSt_congr {s t : State} {b : Nat} (h : t.get Obj.blockState b = s.get Obj.blockState b) :
    blockSt t b = blockSt s b := congrArg (· / 256) h

@[simp] theorem blockSt_done (u : State) (q : List Instr) (b : Nat) : blockSt (u.done q) b = blockSt u b :=
  blockSt_congr (done_get _ _ _ _ _)

theorem blockSt_set {o : Obj} (h : ¬ Obj.blockState.id = o.id) (s : State) (v : Int) (i j b : Nat) :
    blockSt (s.set o v i j) b = blockSt s b :=
  blockSt_congr (get_set_other _ _ _ _ _ _ _ _ h)

/-- The state stands in the high byte of 0x3200:1C, and `setBlock` leaves a low byte that fits beside it. -/
@[simp] theorem blockSt_setBlock (b : Nat) (st : Int) (s : State) : blockSt (setBlock b st s) b = st := by
  unfold setBlock
  split
  case isTrue same => exact same
  case isFalse =>
    dsimp only
    rw [blockSt, logEvent_get (by decide), get_set_other _ _ _ _ _ _ _ _ (by decide), get_set_same]
    split <;> omega

theorem setBlock_keeps_ramp (b : Nat) (st : Int) (s : State) (i : Nat) :
    (setBlock b st s).real Reg.ramp i = s.real Reg.ramp i :=
  real_of_view (view_of_part (setBlock_part (by decide) (by decide) b st s)) i 0

@[simp] theorem blockSt_holdBlockSlots (b : Nat) (s : State) (c : Nat) : blockSt (holdBlockSlots b s) c = blockSt s c :=
  blockSt_congr (get_holdBlockSlots (by decide) (by decide) _ _ _ _)

@[simp] theorem blockSt_releaseBlockSlots (b : Nat) (s : State) (c : Nat) :
    blockSt (releaseBlockSlots b s) c = blockSt s c :=
  blockSt_congr (get_releaseBlockSlots (by decide) (by decide) _ _ _ _)

/-- A refusal leaves the block in the state it was in. -/
@[simp] theorem blockSt_refuseStart (b : Nat) (cause : Int) (s : State) (c : Nat) :
    blockSt (refuseStart b cause s) c = blockSt s c :=
  blockSt_congr (get_refuseStart (by decide) (by decide) _ _ _ _ _)

@[simp] theorem blockSt_beginTest (b : Nat) (s : State) : blockSt (beginTest b s) b = bkTest := by
  rw [beginTest, blockSt_releaseBlockSlots, blockSt_setBlock]

/-! ### The refusal and the count of starts -/

theorem refuseStart_shows_cause (b : Nat) (cause : Int) (s : State) :
    (refuseStart b cause s).get Obj.lastStartRefusalCause b = cause := by
  have shown : (logEvent 0x3221 srcAp1 (data8 [b, cause]) ((s.set Obj.lastStartRefusalCause cause b).set
      Reg.startWaiting 0 b)).get Obj.lastStartRefusalCause b = cause := by
    rw [logEvent_get (by decide), get_set_other _ _ _ _ _ _ _ _ (by decide), get_set_same]
  unfold refuseStart
  dsimp only
  split
  · rw [get_freeBlock (by decide) (by decide), get_abandonMove (by decide) (by decide), shown]
  · exact shown

theorem beginTest_startCount (b : Nat) (s : State) :
    (beginTest b s).get Obj.startCount b = (s.get Obj.startCount b + 1) % 4294967296 := by
  have cleared (p : Nat) (u : State) :
      ((u.set Reg.testOver 0 p).set Reg.testLargest 0 p).get Obj.startCount b = u.get Obj.startCount b := by
    rw [get_set_other _ _ _ _ _ _ _ _ (by decide), get_set_other _ _ _ _ _ _ _ _ (by decide)]
  rw [beginTest, get_releaseBlockSlots (by decide) (by decide), get_setBlock (by decide) (by decide), forL_get cleared,
    get_inc_same, get_set_other _ _ _ _ _ _ _ _ (by decide), get_set_other _ _ _ _ _ _ _ _ (by decide),
    get_set_other _ _ _ _ _ _ _ _ (by decide)]

/-! ### What a request does, by the state of the block (R83, R90) -/

section
variable {b : Nat} {s : State}

theorem startBlock_of_rampOff (h : blockSt s b = bkRampOff) : startBlock b s = setBlock b bkRampOn s := if_pos h

theorem startBlock_of_stopDelay (h : blockSt s b = bkStopDelay) : startBlock b s = s.set Reg.startHeld 1 b := by
  have ramping : ¬ blockSt s b = bkRampOff := by rw [h]; decide
  exact (if_neg ramping).trans (if_pos h)

/-- The first condition of R83: only a block that is OFF starts. -/
theorem blockSt_of_startCause (h : startCause s b = 0) : blockSt s b = bkOff := by
  by_contra off
  rw [startCause, if_pos off] at h
  exact absurd h (by decide)

theorem startBlock_of_allowed (cause : startCause s b = 0) (low : outputDischarged s b = true) :
    startBlock b s = beginTest b s := by
  have off := blockSt_of_startCause cause
  have ramping : ¬ blockSt s b = bkRampOff := by rw [off]; decide
  have stopping : ¬ blockSt s b = bkStopDelay := by rw [off]; decide
  have running : ¬ (bkTest ≤ blockSt s b ∧ blockSt s b ≤ bkRunning) := by rw [off]; decide
  have allowed : ¬ startCause s b ≠ 0 := not_not.mpr cause
  exact (if_neg ramping).trans <| (if_neg stopping).trans <| (if_neg running).trans <| (if_neg allowed).trans (if_pos low)

/-- A stop request before the block ramps on ends in OFF: neither flag that it clears shows in the state it is judged by. -/
theorem blockSt_stopBlock_of_starting (h : blockSt s b = bkTest ∨ blockSt s b = bkStartDelay) :
    blockSt (stopBlock b s) b = bkOff := by
  have kept : blockSt ((s.set Reg.startHeld 0 b).set Reg.startWaiting 0 b) b = blockSt s b := by
    rw [blockSt_set (by decide), blockSt_set (by decide)]
  rw [stopBlock, kept, if_pos h, blockSt_holdBlockSlots, blockSt_setBlock]

end

/-! ### The commands -/

/-- Settles O16: past its limit the timeout sends the block OFF, and the refusal that follows shows cause 3. -/
theorem gateReadyRefusal : Obligations.GateReadyRefusal := by
  unfold Obligations.GateReadyRefusal
  intro s block delay elapsed late
  refine run_yields ?_
  rw [if_pos ⟨delay, elapsed, late⟩, blockSt_done, done_get]
  constructor
  · rw [blockSt_holdBlockSlots, blockSt_refuseStart, blockSt_setBlock]
  · rw [get_holdBlockSlots (by decide) (by decide), refuseStart_shows_cause]

/-- A start in RAMP_OFF ramps on from the r at which the request finds the block. -/
theorem startRequest_in_rampOff {s : State} {block : Fin 64} (h : blockSt s block = bkRampOff) :
    ∃ t, exec (.blockStartRequest block) s = .next t ∧ blockSt t block = bkRampOn ∧
      t.real Reg.ramp block = s.real Reg.ramp block ∧ t.get Obj.startCount block = s.get Obj.startCount block := by
  refine run_yields ?_
  rw [startBlock_of_rampOff (s := s.fresh) h, blockSt_done, done_real, done_get]
  exact ⟨blockSt_setBlock _ _ _, setBlock_keeps_ramp _ _ _ _, get_setBlock (by decide) (by decide) _ _ _ _ _⟩

theorem startRequest_in_stopDelay {s : State} {block : Fin 64} (h : blockSt s block = bkStopDelay) :
    ∃ t, exec (.blockStartRequest block) s = .next t ∧ blockSt t block = bkStopDelay ∧ t.get Reg.startHeld block = 1 := by
  refine run_yields ?_
  rw [startBlock_of_stopDelay (s := s.fresh) h, blockSt_done, done_get]
  exact ⟨(blockSt_set (by decide) _ _ _ _ _).trans h, get_set_same _ _ _ _ _⟩

/-- The block as the end of its stop delay leaves it for the judgement of a held start: OFF, its slots held. -/
def stopEnded (b : Nat) (s : State) : State := holdBlockSlots b (setBlock b bkOff (s.set Reg.startHeld 0 b))

theorem stopEnded_startCount (b : Nat) (s : State) (i : Nat) :
    (stopEnded b s).get Obj.startCount i = s.get Obj.startCount i := by
  rw [stopEnded, get_holdBlockSlots (by decide) (by decide), get_setBlock (by decide) (by decide),
    get_set_other _ _ _ _ _ _ _ _ (by decide)]

theorem exec_stopDelayEnd_held {s : State} {block : Fin 64} (delay : blockSt s block = bkStopDelay)
    (elapsed : s.getN Reg.blockSince block + s.getN Obj.stopDelay block ≤ s.frame) (held : s.is Reg.startHeld block = true) :
    exec (.stopDelayEnd block) s = .next ((startBlock block (stopEnded block s.fresh)).done s.pending) :=
  congrArg (fun u => Host.Outcome.next (State.done u s.pending)) ((if_pos ⟨delay, elapsed⟩).trans (if_pos held))

/-- A held start that the conditions of R83 allow at the end of the stop delay passes through TEST again. -/
theorem stopDelayEnd_takes_heldStart {s : State} {block : Fin 64} (delay : blockSt s block = bkStopDelay)
    (elapsed : s.getN Reg.blockSince block + s.getN Obj.stopDelay block ≤ s.frame) (held : s.is Reg.startHeld block = true)
    (cause : startCause (stopEnded block s.fresh) block = 0) (low : outputDischarged (stopEnded block s.fresh) block = true) :
    ∃ t, exec (.stopDelayEnd block) s = .next t ∧ blockSt t block = bkTest ∧
      t.get Obj.startCount block = (s.get Obj.startCount block + 1) % 4294967296 := by
  refine ⟨_, exec_stopDelayEnd_held delay elapsed held, ?_⟩
  rw [startBlock_of_allowed cause low, blockSt_done, done_get]
  exact ⟨blockSt_beginTest _ _, by rw [beginTest_startCount, stopEnded_startCount, fresh_get]⟩

theorem stopRequest_in_test_or_startDelay {s : State} {block : Fin 64}
    (h : blockSt s block = bkTest ∨ blockSt s block = bkStartDelay) :
    ∃ t, exec (.blockStopRequest block) s = .next t ∧ blockSt t block = bkOff := by
  refine run_yields ?_
  rw [blockSt_done]
  exact blockSt_stopBlock_of_starting h

/-- Settles O17, one lemma for each of the four requests. -/
theorem startAndStopRequests : Obligations.StartAndStopRequests := by
  unfold Obligations.StartAndStopRequests
  refine ⟨fun _ _ => startRequest_in_rampOff, fun _ _ => startRequest_in_stopDelay, ?_,
    fun _ _ => stopRequest_in_test_or_startDelay⟩
  rintro s _ block delay elapsed held rfl cause low
  exact stopDelayEnd_takes_heldStart delay elapsed held cause low

end Sys2Proof.Machine
end

section
/-!
THEOREM. The site's import registers (R226). First what a field of bytes spells (R41) and how a read shows a register that
is formed when it is read (R291); both serve any other object formed so.
-/

namespace Sys2Proof.Machine

/-! ### Numbers as big-endian bytes (R41) -/

theorem ofBytes_concat (l : List Byte) (b : Byte) : ofBytes (l ++ [b]) = ofBytes l * 256 + b.toNat := by
  simp [ofBytes]

/-- The bytes that `beBytes` lists, the highest first, spell the number without what lies above `n` bytes. -/
theorem ofBytes_digits (n u : Nat) :
    ofBytes ((List.range n).map fun k => BitVec.ofNat 8 (u / 256 ^ (n - 1 - k))) = u % 256 ^ n := by
  induction n generalizing u with
  | zero => simp [ofBytes, Nat.mod_one]
  | succ n ih =>
    have leading : (List.range n).map (fun k => BitVec.ofNat 8 (u / 256 ^ (n + 1 - 1 - k))) =
        (List.range n).map fun k => BitVec.ofNat 8 (u / 256 / 256 ^ (n - 1 - k)) := by
      refine List.map_congr_left fun k hk => ?_
      have hk : k < n := List.mem_range.mp hk
      rw [Nat.div_div_eq_div_mul, ← pow_succ', show n - 1 - k + 1 = n + 1 - 1 - k by omega]
    rw [List.range_succ, List.map_append, leading, List.map_singleton, ofBytes_concat, ih, pow_succ', Nat.mod_mul]
    simp only [Nat.add_sub_cancel, Nat.sub_self, pow_zero, Nat.div_one, BitVec.toNat_ofNat]
    omega

/-- A field of `n` bytes keeps a number modulo its width. -/
theorem ofBytes_beBytes (n : Nat) (v : Int) : ofBytes (beBytes n v) = (v % (256 ^ n : Nat)).toNat := by
  have fits : (v % (256 ^ n : Nat)).toNat < 256 ^ n := by
    have := Int.emod_lt_of_pos v (b := (256 ^ n : Nat)) (by positivity)
    omega
  exact (ofBytes_digits n _).trans (Nat.mod_eq_of_lt fits)

/-- Numbers cut to a width before they are added give the same sum at that width. -/
theorem sum_toNat_emod (l : List Int) {m : Nat} (h : 0 < m) :
    (l.sum % m).toNat = (l.map fun v : Int => (v % m).toNat).sum % m := by
  have natural (v : Int) : ((v % m).toNat : Int) = v % m := Int.toNat_of_nonneg (Int.emod_nonneg v (by omega))
  rw [← Int.natCast_inj, natural, Int.natCast_mod, Nat.cast_list_sum, List.map_map, List.sum_int_mod]
  exact congrArg (fun f => (l.map f).sum % (m : Int)) (funext fun v => (natural v).symm)

/-! ### Reads of registers formed at the read (R291) -/

/-- The objects whose bytes are those of the entry that a selector names. -/
def selectedIds : List Nat := [Obj.auditEntry.id, Obj.theftEntry.id, Obj.boundaryRecord.id, Obj.closedPeriod.id,
  Obj.recordEntry.id, Obj.ocmfView.id, Obj.tamperEntry.id, Obj.eventEntry.id]

theorem selectedEntry_eq_none {o : Obj} (h : o.id ∉ selectedIds) (s : State) : selectedEntry s o = none := by
  simp only [selectedIds, List.mem_cons, List.not_mem_nil, or_false, not_or] at h
  simp only [selectedEntry, h, if_false]

theorem readCell_eq_shownBytes {o : Obj} (message : o.id ≠ Obj.moData.id) (bytes : o.ty.isBytes = true)
    (unselected : o.id ∉ selectedIds) (s : State) (i j : Nat) : readCell s o i j = some (shownBytes s o i j) := by
  rw [readCell, if_neg message, shown, if_pos bytes, selectedEntry_eq_none unselected]

/-- The import registers of the first `k` meters, each cut from its 112-bit sum without the residue (R224), added up. -/
def registerSum (s : State) (r : Obj) (k : Nat) : Int := ((List.range k).map fun n => s.get r n 0 / 2 ^ 32).sum

theorem readCell_dcImport (s : State) (n j : Nat) : readCell s Obj.dcImport n j = some (reg80 (s.get Reg.dmSum n 0)) := by
  rw [readCell_eq_shownBytes (by decide) rfl (by decide), shownBytes, if_pos rfl]

theorem readCell_afEnergy (s : State) (n j : Nat) : readCell s Obj.afEnergy n j = some (reg80 (s.get Reg.afSum n j)) := by
  rw [readCell_eq_shownBytes (by decide) rfl (by decide), shownBytes, if_neg (by decide), if_neg (by decide),
    if_neg (by decide), if_pos rfl]

theorem readCell_siteDcImport (s : State) (i j : Nat) :
    readCell s Obj.siteDcImport i j = some (beBytes 10 (registerSum s Reg.dmSum 24)) := by
  rw [readCell_eq_shownBytes (by decide) rfl (by decide), shownBytes, if_neg (by decide), if_neg (by decide),
    if_neg (by decide), if_neg (by decide), if_pos rfl, registerSum]

theorem readCell_siteAcImport (s : State) (i j : Nat) :
    readCell s Obj.siteAcImport i j = some (beBytes 10 (registerSum s Reg.afSum 4)) := by
  rw [readCell_eq_shownBytes (by decide) rfl (by decide), shownBytes, if_neg (by decide), if_neg (by decide),
    if_neg (by decide), if_neg (by decide), if_neg (by decide), if_pos rfl, registerSum]

/-! ### The site's registers (R226) -/

theorem ofBytes_reg80 (v : Int) : ofBytes (reg80 v) = (v / 2 ^ 32 % (256 ^ 10 : Nat)).toNat := ofBytes_beBytes 10 _

/-- The sum of registers in 80 bits is the sum of what the registers show, modulo 80 bits. -/
theorem ofBytes_registerSum (s : State) (r : Obj) (k : Nat) :
    ofBytes (beBytes 10 (registerSum s r k)) = ((List.range k).map fun n => ofBytes (reg80 (s.get r n 0))).sum % 2 ^ 80 := by
  rw [ofBytes_beBytes, registerSum, sum_toNat_emod _ (by positivity), List.map_map]
  simp [ofBytes_reg80, Function.comp_def]

/-- Settles O22: both sums are formed of the same registers that the outlets and feeders show. -/
theorem siteImportsFormed : Obligations.SiteImportsFormed := by
  unfold Obligations.SiteImportsFormed
  refine ⟨fun s => ?_, fun s => ?_⟩
  · simp only [readCell_siteDcImport, readCell_dcImport, Option.map_some, Option.getD_some, ofBytes_registerSum]
  · simp only [readCell_siteAcImport, readCell_afEnergy, Option.map_some, Option.getD_some, ofBytes_registerSum]

end Sys2Proof.Machine
end

section
/-!
SUPPORT. Requests of hosts: what puts an answer on an interface (R301), which requests are not served (R495), and what the
judgement of a write leaves where the module's role forbids it (R302).
-/

namespace Sys2Proof.Machine

/-- A command answers the state in which its change leaves the module. -/
theorem run_of_eq {s u : State} {f : State → State} (h : f s.fresh = u) : s.run f = .next (u.done s.pending) :=
  congrArg (fun v => Host.Outcome.next (State.done v s.pending)) h

/-! ### Answers -/

/-- An answer that one block carries goes out whole; only those on CAN0 have blocks (R310). -/
theorem emitAnswer_out {a : Answer} (fits : a.space = 0 → a.data.length ≤ firstBlock) (s : State) :
    (emitAnswer a s).out = s.out ++ [.answer a] := by
  unfold emitAnswer
  split
  next can => simp [List.drop_of_length_le (fits can), List.take_of_length_le (fits can)]
  next => rfl

theorem answer_out {space : Nat} (h : space ≠ 0) (s : State) (r : Req) (fn status : Nat) (d : List Byte) :
    (s.answer space r fn status d).out = s.out ++ [.answer ⟨space, r.tag, r.epoch, respCode fn, status, d⟩] :=
  emitAnswer_out (fun can => absurd can h) s

@[simp] theorem answer_waiting (s : State) (space : Nat) (r : Req) (fn status : Nat) (d : List Byte) :
    (s.answer space r fn status d).waiting = s.waiting := emitAnswer_waiting _ s

/-- An answer to a session changes no register. -/
theorem answer_get_of_session {space : Nat} (h : space ≠ 0) (s : State) (r : Req) (fn status : Nat) (d : List Byte)
    (o : Obj) (i j : Nat) : (s.answer space r fn status d).get o i j = s.get o i j := by
  rw [State.answer, emitAnswer, if_neg h, get_emit]
  rfl

/-! ### Requests that are not served (R495) -/

theorem imageService_eq_false {s : State} {port : Nat} (off : s.is Reg.heldAtStage2 = false ∨ port ≠ 1) :
    imageService s port = false := by
  rw [imageService, Bool.and_eq_false_iff, beq_eq_false_iff_ne]
  exact off

theorem serves_eq_false {s : State} {r : Req} (early : s.get Obj.startUpStage < 4)
    (off : s.is Reg.heldAtStage2 = false ∨ arrivesOn s r ≠ 1) (index : Nat) : serves s r index = false := by
  rw [serves, imageService_eq_false off, Bool.false_and, Bool.or_false, decide_eq_false_iff_not]
  omega

section
variable {s : State} {r : Req} {index : Nat} (unserved : serves s r index = false)
include unserved

theorem authenticate_of_unserved (fn sub : Nat) (d : List Byte) : authenticate r fn index sub d s = .drop s :=
  if_pos (Bool.eq_false_iff.mp unserved)

theorem judgeRequest_of_unserved (fn sub : Nat) (d : List Byte) : judgeRequest r fn index sub d s = .drop s := by
  rw [judgeRequest, authenticate_of_unserved unserved]

end

theorem beginPartly_of_unserved {s : State} {r : Req} (unserved : serves s r 0xB210 = false) (fn : Nat) :
    beginPartly r fn s = s :=
  if_pos (.inl (Bool.eq_false_iff.mp unserved))

/-! ### Writes that the role forbids (R302) -/

theorem roleForbids_iff (s : State) (index : Nat) : roleForbids s index = true ↔
    (s.get Obj.role = roStandby ∨ s.get Obj.role = roFenced) ∧ (index < 0x1000 ∨ 0x13FF < index) ∧
      (index < 0xA800 ∨ 0xA8FF < index) ∧ (index < 0xB200 ∨ 0xB2FF < index) ∧ (index < 0xC000 ∨ 0xCFFF < index) := by
  simp only [roleForbids, roStandby, roFenced, Bool.and_eq_true, Bool.or_eq_true, beq_iff_eq, Bool.not_eq_true',
    Bool.and_eq_false_iff, decide_eq_false_iff_not]
  omega

section
variable {s u : State} {r : Req} {role space : Nat} {d : List Byte} (complete : r.complete = true)
include complete

section
variable {o : Obj} {i j : Nat} (judged : judgeRequest r 2 (o.index i) (o.sub + o.subStep * j) d s = .accept u space role false)
  (value : writeStatus u o i role d = 0) (forbidden : roleForbids u (o.index i) = true)
include judged value forbidden

theorem hostWrite_of_forbidden (f : Nat → State → Except Nat State) : hostWrite r o i j d f s = u.answer space r 2 6 := by
  simp [hostWrite, complete, judged, value, forbidden]

theorem hostDefer_of_forbidden (f : Nat → State → Except Nat State) : hostDefer r o i j d f s = u.answer space r 2 6 := by
  simp [hostDefer, complete, judged, value, forbidden]

end

theorem writeAddress_of_forbidden {index sub : Nat} {l : List FieldWrite}
    (judged : judgeRequest r 2 index sub d s = .accept u space role false)
    (fields : writtenFields u index sub role d = .ok l) (forbidden : roleForbids u index = true) :
    writeAddress r index sub d s = u.answer space r 2 6 := by
  simp [writeAddress, complete, judged, fields, forbidden]

end

end Sys2Proof.Machine
end

section
/-!
THEOREM. What a module in STANDBY or FENCED does with reads and writes (R302).
-/

namespace Sys2Proof.Machine

section
variable {s u : State} {r : Req} {index sub role space : Nat} {d : List Byte} (complete : r.complete = true)
include complete

/-- A read of a readable address is answered with its value, whatever the module's role. -/
theorem exec_read_of_accepted {v : State} (judged : judgeRequest r 1 index sub [] s.fresh = .accept u space role false)
    (value : readAddress index sub role u = .ok (d, v)) :
    exec (.read r index sub) s = .next ((v.answer space r 1 0 d).done s.pending) := by
  change execRead r index sub s = _
  refine run_of_eq ?_
  simp [complete, judged, value]

theorem exec_write_of_forbidden {l : List FieldWrite}
    (judged : judgeRequest r 2 index sub d s.fresh = .accept u space role false) (plainRow : actionRow r index sub d = none)
    (fields : writtenFields u index sub role d = .ok l) (forbidden : roleForbids u index = true) :
    exec (.write r index sub d) s = .next ((u.answer space r 2 6).done s.pending) := by
  change execWrite r index sub d s = _
  rw [execWrite, if_pos complete, plainRow]
  exact run_of_eq (writeAddress_of_forbidden complete judged fields forbidden)

end

/-- Settles O19: a read is answered as in any role, and the judgement of a write ends at R302 outside the open areas. -/
theorem standbyAnswersReads : Obligations.StandbyAnswersReads := by
  unfold Obligations.StandbyAnswersReads
  refine ⟨?_, ?_, ?_, ?_⟩
  · intro s u v r index sub role space d complete session judged _ value
    refine ⟨_, exec_read_of_accepted complete judged value, ?_⟩
    rw [done_out, answer_out session]
    exact List.mem_append_right _ (List.mem_singleton_self _)
  · intro s u r index sub role space d l complete session judged plainRow fields standby h10 hA8 hB2 hC0
    have forbidden := (roleForbids_iff u index).mpr ⟨standby, h10, hA8, hB2, hC0⟩
    refine ⟨_, exec_write_of_forbidden complete judged plainRow fields forbidden, ?_, ?_, fun o i j => ?_⟩
    · rw [done_out, answer_out session]
      exact List.mem_append_right _ (List.mem_singleton_self _)
    · rw [done_waiting, answer_waiting]
    · rw [done_get, answer_get_of_session session]
  · intro s u r o i j role space d f complete judged value standby h10 hA8 hB2 hC0
    have forbidden := (roleForbids_iff u (o.index i)).mpr ⟨standby, h10, hA8, hB2, hC0⟩
    exact ⟨hostWrite_of_forbidden complete judged value forbidden f, hostDefer_of_forbidden complete judged value forbidden f⟩
  · intro s index allowed
    rw [← Bool.not_eq_true, roleForbids_iff]
    omega

end Sys2Proof.Machine
end

section
/-!
THEOREM. No request is answered before the dictionary is available (R495): each kind of request is dropped, and a command that
is dropped leaves the module as it was.
-/

namespace Sys2Proof.Machine

/-- A command that changes nothing is silent. -/
theorem silent_of_dropped {c : Instr} {s : State} (h : exec c s = .next (s.fresh.done s.pending)) :
    ∃ t, exec c s = .next t ∧ t.out = [] ∧ t.waiting = s.waiting ∧ t.sessions = s.sessions ∧ t.get = s.get := by
  refine ⟨_, h, rfl, rfl, rfl, funext fun o => ?_⟩
  rw [done_get, fresh_get]

section
variable {s : State} {r : Req} (unserved : ∀ index, serves s.fresh r index = false)
include unserved

theorem read_dropped (index sub : Nat) : exec (.read r index sub) s = .next (s.fresh.done s.pending) := by
  change execRead r index sub s = _
  refine run_of_eq ?_
  rw [beginPartly_of_unserved (unserved _), judgeRequest_of_unserved (unserved _), ite_self]

theorem write_dropped {index sub : Nat} {d : List Byte} (plainRow : actionRow r index sub d = none) :
    exec (.write r index sub d) s = .next (s.fresh.done s.pending) := by
  change execWrite r index sub d s = _
  rw [execWrite, plainRow, ite_self]
  refine run_of_eq ?_
  rw [writeAddress, beginPartly_of_unserved (unserved _), judgeRequest_of_unserved (unserved _), ite_self]

theorem abort_dropped : exec (.abort r) s = .next (s.fresh.done s.pending) := by
  change execAbort r s = _
  exact run_of_eq (if_pos (.inl (Bool.eq_false_iff.mp (unserved _))))

/-- A CLOSE outside a session is not judged; it too is dropped before stage 4. -/
theorem close_dropped (early : s.fresh.get Obj.startUpStage < 4) :
    exec (.close r) s = .next (s.fresh.done s.pending) := by
  change execClose r s = _
  refine run_of_eq ?_
  split
  next => rw [authenticate_of_unserved (unserved _)]
  next => exact if_pos early
  next => exact if_pos early

/-- A WINDOW_POST outside a session is not judged; it too is dropped before stage 4. -/
theorem windowPost_dropped (early : s.fresh.get Obj.startUpStage < 4) (channel : Fin 8) (d : List Byte) :
    exec (.windowPost r channel d) s = .next (s.fresh.done s.pending) := by
  change execWindowPost r channel d s = _
  refine run_of_eq ?_
  split
  next => rw [judgeRequest_of_unserved (unserved _)]
  next => exact if_pos early
  next => exact if_pos early

end

theorem hostWrite_dropped {s : State} {r : Req} (unserved : ∀ index, serves s r index = false) (o : Obj) (i j : Nat)
    (d : List Byte) (f : Nat → State → Except Nat State) : hostWrite r o i j d f s = s := by
  rw [hostWrite, beginPartly_of_unserved (unserved _), judgeRequest_of_unserved (unserved _), ite_self]

theorem hostDefer_dropped {s : State} {r : Req} (unserved : ∀ index, serves s r index = false) (o : Obj) (i j : Nat)
    (d : List Byte) (f : Nat → State → Except Nat State) : hostDefer r o i j d f s = s := by
  rw [hostDefer, beginPartly_of_unserved (unserved _), judgeRequest_of_unserved (unserved _), ite_self]

theorem open_dropped {s : State} {port : Fin 2} (early : s.get Obj.startUpStage < 4)
    (off : s.is Reg.heldAtStage2 = false ∨ port.val ≠ 1) (addr tag epoch : Nat) (payload : List Byte) :
    exec (.open port addr tag epoch payload) s = .next (s.fresh.done s.pending) := by
  change execOpen port addr tag epoch payload s = _
  exact run_of_eq (if_pos ⟨early, Bool.eq_false_iff.mp (imageService_eq_false (s := s.fresh) off)⟩)

/-- A CONFIRM is dropped whether its opening is known or not. -/
theorem confirm_dropped {s : State} (early : s.get Obj.startUpStage < 4)
    (off : s.is Reg.heldAtStage2 = false ∨ ∀ y ∈ s.sessions, y.port ≠ 1) (ident seq tag epoch : Nat) (sig mac : List Byte) :
    exec (.confirm ident seq tag epoch sig mac) s = .next (s.fresh.done s.pending) := by
  change execConfirm ident seq tag epoch sig mac s = _
  refine run_of_eq ?_
  split
  next => exact if_pos early
  next x found =>
    have elsewhere := off.imp_right fun ports => ports x (List.mem_of_find?_eq_some found)
    exact if_pos ⟨early, Bool.eq_false_iff.mp (imageService_eq_false (s := s.fresh) elsewhere)⟩

/-- Settles O20: a request that is not served is dropped by the first test of its command. -/
theorem silentBeforeDictionary : Obligations.SilentBeforeDictionary := by
  unfold Obligations.SilentBeforeDictionary
  have unserved {s : State} {r : Req} (early : s.get Obj.startUpStage < 4)
      (off : s.is Reg.heldAtStage2 = false ∨ arrivesOn s r ≠ 1) : ∀ index, serves s.fresh r index = false :=
    serves_eq_false (s := s.fresh) early off
  refine ⟨?_, ?_, ?_, ?_, ?_, ?_, ?_, ?_⟩
  · exact fun s r index sub early off => silent_of_dropped (read_dropped (unserved early off) index sub)
  · exact fun s r index sub d early off plainRow => silent_of_dropped (write_dropped (unserved early off) plainRow)
  · exact fun s r early off => silent_of_dropped (close_dropped (unserved early off) early)
  · exact fun s r channel d early off => silent_of_dropped (windowPost_dropped (unserved early off) early channel d)
  · exact fun s r early off => silent_of_dropped (abort_dropped (unserved early off))
  · exact fun s port addr tag epoch payload early off => silent_of_dropped (open_dropped early off addr tag epoch payload)
  · exact fun s ident seq tag epoch sig mac early off => silent_of_dropped (confirm_dropped early off ident seq tag epoch sig mac)
  · exact fun s r o i j d f early off =>
      ⟨hostWrite_dropped (serves_eq_false early off) o i j d f, hostDefer_dropped (serves_eq_false early off) o i j d f⟩

end Sys2Proof.Machine
end

section
/-!
THEOREM. The host ends a transfer by ABORT (R303): a request that still arrives, a response that is still sent on CAN0, and
a request that is complete.
-/

namespace Sys2Proof.Machine

/-! ### Tags and their spaces -/

theorem partlyOf_space {s : State} {space tag : Nat} {w : Waiting} (h : partlyOf s space tag = some w) : w.space = space := by
  have found := List.find?_some h
  simp only [Bool.and_eq_true, beq_iff_eq] at found
  exact found.1.2

/-- Requests are taken only from spaces to which an answer can go. -/
theorem spaceLives_of_mayBegin {s : State} {r : Req} (h : mayBegin s r = true) : spaceLives s (spaceOf r) = true := by
  unfold mayBegin at h
  unfold spaceLives spaceOf
  cases auth : r.auth with
  | session x seq macs =>
    rw [auth] at h
    simp only [Bool.or_eq_true]
    exact .inr h
  | plain port => rfl
  | can prio node trailer => rfl

/-- An incomplete request whose space is alive goes, and its answer has status 0x0A. -/
theorem endPartly_of_lives {s : State} {w : Waiting} (alive : spaceLives s w.space = true) :
    endPartly w s =
      emitAnswer ⟨w.space, w.tag, w.epoch, w.code, 10, []⟩ { s with waiting := s.waiting.filter fun x => x != w } :=
  if_pos alive

theorem endResponse_canRest (tag : Nat) (s : State) : (endResponse tag s).bytes Reg.canRest tag = [] := by
  rw [endResponse, bytes_set, bytes_setBytes_same]

/-- With no response being sent, a tag of CAN0 is busy for a complete request that waits (R297). -/
theorem tagBusy_of_sent {s : State} {tag : Nat} (sent : s.bytes Reg.canRest tag = []) :
    tagBusy s 0 tag = s.waiting.any fun w => w.space == 0 && w.tag == tag && !w.partly := by
  simp [tagBusy, sent]

/-! ### The command -/

section
variable {s : State} {r : Req} (served : serves s.fresh r 0xB210 = true) (begins : mayBegin s.fresh r = true)
include served begins

theorem exec_abort_of_arriving {w : Waiting} (arriving : partlyOf s.fresh (spaceOf r) r.tag = some w) :
    exec (.abort r) s = .next ((endPartly w s.fresh).done s.pending) := by
  change execAbort r s = _
  refine run_of_eq ?_
  simp [served, begins, arriving]

theorem exec_abort_of_response (arrived : partlyOf s.fresh (spaceOf r) r.tag = none) (can : spaceOf r = 0) :
    exec (.abort r) s = .next ((endResponse r.tag s.fresh).done s.pending) := by
  change execAbort r s = _
  refine run_of_eq ?_
  simp only [served, begins, arrived, if_pos can, not_true_eq_false, or_self, if_false]

/-- Outside CAN0 a response goes out at once (R301), so that only a complete request can be meant: the ABORT is dropped. -/
theorem exec_abort_of_complete (arrived : partlyOf s.fresh (spaceOf r) r.tag = none) (session : spaceOf r ≠ 0) :
    exec (.abort r) s = .next (s.fresh.done s.pending) := by
  change execAbort r s = _
  refine run_of_eq ?_
  simp [served, begins, arrived, session]

end

/-- Settles O21, one lemma for each of the three transfers that an ABORT can meet. -/
theorem abortsEndTransfers : Obligations.AbortsEndTransfers := by
  unfold Obligations.AbortsEndTransfers
  refine ⟨?_, ?_, ?_⟩
  · intro s r w served begins arriving
    have alive : spaceLives s.fresh w.space = true :=
      partlyOf_space arriving ▸ spaceLives_of_mayBegin (s := s.fresh) begins
    refine ⟨_, exec_abort_of_arriving served begins arriving, ?_, ?_⟩
    · rw [done_waiting, endPartly_of_lives alive, emitAnswer_waiting]
      exact List.filter_congr fun x _ => by rw [Bool.eq_iff_iff, bne_iff_ne, decide_eq_true_iff]
    · rw [done_out, endPartly_of_lives alive, emitAnswer_out fun _ => Nat.zero_le _]
      rfl
  · intro s r served begins arrived can
    have sent : ((endResponse r.tag s.fresh).done s.pending).bytes Reg.canRest r.tag = [] := by
      rw [done_bytes, endResponse_canRest]
    exact ⟨_, exec_abort_of_response served begins arrived can, sent, rfl, rfl, tagBusy_of_sent sent⟩
  · exact fun s r served begins arrived session => silent_of_dropped (exec_abort_of_complete served begins arrived session)

end Sys2Proof.Machine
end

section
/-!
SUPPORT. What a WRITE may stand for (`actionRow`): one of the commands that carry a host's request, the refusal of a value that
names none of them, or the torque confirmation with an encoder count that is drawn first.
-/

namespace Sys2Proof.Machine

section
variable {P : (State → Out) → Prop}

/-- What the commands that a row may stand for have in common. -/
def OfRow (P : (State → Out) → Prop) (x : Option (State → Out)) : Prop := ∀ f ∈ x, P f

theorem ite_holds {c : Prop} [Decidable c] {f g : State → Out} (h : P f) (k : P g) : P (if c then f else g) := by
  split
  · exact h
  · exact k

theorem OfRow.ite {c : Prop} [Decidable c] {x y : Option (State → Out)} (h : OfRow P x) (k : OfRow P y) :
    OfRow P (if c then x else y) := by
  split
  · exact h
  · exact k

theorem OfRow.none : OfRow P none := nofun

theorem OfRow.command {f : State → Out} (h : P f) : OfRow P (some f) := by
  rintro _ ⟨⟩
  exact h

theorem OfRow.once {c : Prop} [Decidable c] {f g : State → Out} (h : P f) (k : P g) : OfRow P (some (if c then f else g)) :=
  .command (ite_holds h k)

theorem OfRow.oneOf {l : List (State → Out)} {g : State → Out} {p : (State → Out) × Nat → Bool} (h : ∀ f ∈ l, P f) (k : P g) :
    OfRow P (some (((l.zipIdx 1).find? p).elim g (·.1))) := by
  refine .command ?_
  cases found : (l.zipIdx 1).find? p with
  | none => exact k
  | some x => exact h x.1 (List.fst_mem_of_mem_zipIdx (List.mem_of_find?_eq_some found))

end

/-- The commands that O12 excepts, and WRITE, which may stand for others. No row of `actionRow` is one of them. -/
def mayStoreInPool : Instr → Bool
  | .fastClassEvaluation _ _ _ _ _ => true
  | .slowTick _ _ _ => true
  | .pllLockLost => true
  | .internalRailFault _ => true
  | .watchdogReset _ => true
  | .softwareResetAssert => true
  | .brownOut _ _ => true
  | .commitValid => true
  | .lockstepMismatch _ => true
  | .poolDoubleBitError _ _ _ _ => true
  | .write _ _ _ _ => true
  | _ => false

/-- The rows of `actionRow`, in its order. -/
theorem actionRow_holds {P : (State → Out) → Prop} (r : Req) (d : List Byte) (cmd : ∀ c, mayStoreInPool c = false → P (exec c))
    (refuse : ∀ o i j, P fun s => s.run (hostWrite r o i j d fun _ _ => .error 5))
    (torque : ∀ m, P fun s => execTestTorqueApplied r m (s.draw 386).1 (s.draw 386).2) (index sub : Nat) :
    OfRow P (actionRow r index sub d) := by
  unfold actionRow
  split
  · exact .none
  · dsimp only
    refine .ite (.command (cmd (.restartBringUp r _ d) rfl)) ?_
    refine .ite (.command (cmd (.firmwareDataWrite r _ d) rfl)) ?_
    refine .ite (.command (cmd (.activateTerminalFirmware r _ d) rfl)) ?_
    refine .ite (.command (cmd (.clearOverVoltageLatch r _ d) rfl)) ?_
    refine .ite (.command (cmd (.clearLockout r _ d) rfl)) ?_
    refine .ite (.command (cmd (.clearWithhold r _ d) rfl)) ?_
    refine .ite (.command (cmd (.presetOutput r _ d) rfl)) ?_
    refine .ite (.command (cmd (.clearIntegrator r _ d) rfl)) ?_
    refine .ite (.command (cmd (.parentSlotWrite r _ false d) rfl)) ?_
    refine .ite (.command (cmd (.parentSlotWrite r _ true d) rfl)) ?_
    refine .ite (.once (cmd (.startInjection r) rfl) (refuse _ _ _)) ?_
    refine .ite (.once (cmd (.stopInjection r) rfl) (refuse _ _ _)) ?_
    refine .ite (.oneOf (by simpa using ⟨cmd (.startCapture r) rfl, cmd (.stopCapture r) rfl⟩) (refuse _ _ _)) ?_
    refine .ite (.command (cmd (.dynamicLimitWrite r d) rfl)) ?_
    refine .ite (.command (cmd (.clearContactorFault r _ d) rfl)) ?_
    refine .ite (.command (cmd (.certificateResponseWrite r _ d) rfl)) ?_
    refine .ite (.oneOf (by simpa using ⟨cmd (.stopSessionNormal r _) rfl, cmd (.stopSessionEmergency r _) rfl⟩) (refuse _ _ _)) ?_
    refine .ite (.command (cmd (.authorisationWrite r _ d) rfl)) ?_
    refine .ite (.oneOf (by simpa using ⟨cmd (.createPending r _) rfl,
      cmd (.createReserved r _) rfl,
      cmd (.cancel r _) rfl,
      cmd (.contextNormalStop r _) rfl,
      cmd (.contextEmergencyStop r _) rfl⟩) (refuse _ _ _)) ?_
    refine .ite (.once (cmd (.clearTheftLog r) rfl) (refuse _ _ _)) ?_
    refine .ite (.command (cmd (.metrologyImageData r d) rfl)) ?_
    refine .ite (.once (cmd (.activateMetrologyImage r) rfl) (refuse _ _ _)) ?_
    refine .ite (.once (cmd (.closePeriod r) rfl) (refuse _ _ _)) ?_
    refine .ite (.command (cmd (.calendarActivationWrite r d) rfl)) ?_
    refine .ite (.command (cmd (.recordSelect r d) rfl)) ?_
    refine .ite (.command (cmd (.collectRecord r d) rfl)) ?_
    refine .ite (.command (cmd (.releaseUpTo r d) rfl)) ?_
    refine .ite (.command (cmd (.runMagneticTest r d) rfl)) ?_
    refine .ite (.command (ite_holds (cmd (.requestField r) rfl) (ite_holds (cmd (.requestService r) rfl) (ite_holds (cmd (.requestRetired r) rfl) (refuse _ _ _))))) ?_
    refine .ite (.command (cmd (.fieldMeteringKeyVersion r d) rfl)) ?_
    refine .ite (.command (cmd (.attestationNonce r d) rfl)) ?_
    refine .ite (.command (cmd (.roleKeyWrite r _ d) rfl)) ?_
    refine .ite (.command (cmd (.canRoleKeyWrite r _ d) rfl)) ?_
    refine .ite (.oneOf (by simpa using ⟨cmd (.generateSeccKeyP256 r) rfl, cmd (.generateSeccKeyP521 r) rfl, cmd (.generateSeccKeyEd448 r) rfl⟩) (refuse _ _ _)) ?_
    refine .ite (.command (cmd (.imageDataWrite r d) rfl)) ?_
    refine .ite (.once (cmd (.activateImage r) rfl) (refuse _ _ _)) ?_
    refine .ite (.once (cmd (.confirmTrialImage r) rfl) (refuse _ _ _)) ?_
    refine .ite (.oneOf (by simpa using ⟨cmd (.commitConfiguration r) rfl, cmd (.discardChanges r) rfl⟩) (refuse _ _ _)) ?_
    refine .ite (.command (cmd (.exportLog r d) rfl)) ?_
    refine .ite (.command (cmd (.canDataWrite r _ d) rfl)) ?_
    refine .ite (.once (cmd (.canAbort r _) rfl) (refuse _ _ _)) ?_
    refine .ite (.command (cmd (.canObjectChange r _ 0 d) rfl)) ?_
    refine .ite (.command (cmd (.canObjectChange r _ 1 d) rfl)) ?_
    refine .ite (.command (cmd (.canObjectChange r _ 2 d) rfl)) ?_
    refine .ite (.command (cmd (.canObjectChange r _ 3 d) rfl)) ?_
    refine .ite (.oneOf (by simpa using ⟨cmd (.ttEnter r _) rfl, cmd (.ttLeave r _) rfl⟩) (refuse _ _ _)) ?_
    refine .ite (.once (cmd (.restartController r _) rfl) (refuse _ _ _)) ?_
    refine .ite (.command (cmd (.outstationCommand r _ d) rfl)) ?_
    refine .ite (.command (cmd (.loadSwitchCommand r _ d) rfl)) ?_
    refine .ite (.once (cmd (.clearLatch r _) rfl) (refuse _ _ _)) ?_
    refine .ite (.once (cmd (.startBrakeTest r _) rfl) (refuse _ _ _)) ?_
    refine .ite (.once (torque _) (refuse _ _ _)) ?_
    refine .ite (.once (cmd (.clearBrakeLockout r _) rfl) (refuse _ _ _)) ?_
    refine .ite (.command (cmd (.clearOutputFault r d) rfl)) ?_
    refine .ite (.command (cmd (.confirmConfiguration r d) rfl)) ?_
    refine .ite (.command (cmd (.outputDemand r d) rfl)) ?_
    refine .ite (.once (cmd (.runTopologyCheck r) rfl) (refuse _ _ _)) ?_
    refine .ite (.oneOf (by simpa using ⟨cmd (.softwareResetQuiet r) rfl, cmd (.softwareResetAtOnce r) rfl⟩) (refuse _ _ _)) ?_
    refine .ite (.once (cmd (.cellReplaced r) rfl) (refuse _ _ _)) ?_
    refine .ite (.once (cmd (.wake r) rfl) (refuse _ _ _)) ?_
    refine .ite (.oneOf (by simpa using ⟨cmd (.becomeActive r) rfl,
      cmd (.isolate r) rfl,
      cmd (.handOver r) rfl,
      cmd (.join (some r)) rfl⟩) (refuse _ _ _)) ?_
    refine .ite (.command (cmd (.duneDepthWrite r d) rfl)) ?_
    refine .ite (.command (cmd (.samplingLeadWrite r d) rfl)) ?_
    refine .ite (.command (cmd (.moduleTimeWrite r d) rfl)) ?_
    exact .none

end Sys2Proof.Machine
end

section
/-!
THEOREM. The step and the queue. Every command is a change that `State.run` completes, so that it answers a next state, leaves
the queue alone and leaves the canonical form; equal readings of canonical data are equal data.
-/

namespace Sys2Proof.Machine

/-! ### Every command is a run -/

/-- A command's answer is that of a change run on the state. -/
def Runs (o : Out) (s : State) : Prop := ∃ f, o = s.run f

section
variable {o : Out} {s t : State} (h : Runs o s)
include h

theorem Runs.completes : ∃ t, o = .next t := by
  obtain ⟨f, rfl⟩ := h
  exact ⟨_, run_next s f⟩

theorem Runs.pending (e : o = .next t) : t.pending = s.pending := by
  obtain ⟨f, rfl⟩ := h
  exact run_pending e

theorem Runs.wf (e : o = .next t) : t.wf = true := by
  obtain ⟨f, rfl⟩ := h
  exact run_wf e

end

/-- A JOIN runs whether the host or the partner's frames ask for it. -/
theorem execJoin_runs (r : Option Req) (s : State) : Runs (execJoin r s) s := by
  cases r with
  | none => exact ⟨_, rfl⟩
  | some r => exact ⟨_, rfl⟩

theorem exec_runs_or_write (c : Instr) (s : State) : Runs (exec c s) s ∨ ∃ r index sub d, c = .write r index sub d := by
  delta exec
  cases c
  case write r index sub d => exact .inr ⟨r, index, sub, d, rfl⟩
  case join r => exact .inl (execJoin_runs r s)
  all_goals exact .inl ⟨_, rfl⟩

/-- The encoder count that a WRITE draws for a torque confirmation is drawn within the run. -/
theorem torque_runs (r : Req) (m : Fin 2) (s : State) : Runs (execTestTorqueApplied r m (s.draw 386).1 (s.draw 386).2) s :=
  ⟨fun u => hostWrite r Obj.testTorqueApplied m 0 [1] (fun _ t => if t.get Reg.brakePhase m ≠ 1 then .error 6
    else .ok (((t.set Reg.brakePhase 2 m).set Reg.brakeAt t.now m).set Reg.brakeCount (u.draw 386).1 m)) (u.draw 386).2, rfl⟩

theorem execWrite_runs (r : Req) (index sub : Nat) (d : List Byte) (s : State) : Runs (execWrite r index sub d s) s := by
  have row (c : Instr) (h : mayStoreInPool c = false) (s : State) : Runs (exec c s) s := by
    refine (exec_runs_or_write c s).resolve_right ?_
    rintro ⟨_, _, _, _, rfl⟩
    cases h
  have rows := actionRow_holds (P := fun f => ∀ s, Runs (f s) s) r d row (fun _ _ _ _ => ⟨_, rfl⟩) (torque_runs r) index sub
  unfold execWrite
  split
  next f named =>
    split at named
    · exact rows f named s
    · cases named
  next => exact ⟨_, rfl⟩

theorem exec_runs (c : Instr) (s : State) : Runs (exec c s) s := by
  obtain runs | ⟨r, index, sub, d, rfl⟩ := exec_runs_or_write c s
  · exact runs
  · exact execWrite_runs r index sub d s

/-! ### The step -/

theorem step_of_pending {s : State} {c : Instr} {l : List Instr} (h : s.pending = c :: l) :
    step s = exec c { s with pending := l } := by
  simp only [step, h]

theorem step_of_idle {s : State} (h : s.pending = []) : step s = .next s := by
  simp only [step, h]

/-- Settles O1. -/
theorem stepTakesFrontCommand : Obligations.StepTakesFrontCommand := by
  unfold Obligations.StepTakesFrontCommand
  exact ⟨fun _ _ _ => step_of_pending, fun _ => step_of_idle⟩

/-- Settles O2. -/
theorem everyCommandCompletes : Obligations.EveryCommandCompletes := by
  unfold Obligations.EveryCommandCompletes
  exact fun c s => (exec_runs c s).completes

/-- Settles O3: a run puts the queue back as it was (log entry 3). -/
theorem queueLeftAlone : Obligations.QueueLeftAlone := by
  unfold Obligations.QueueLeftAlone
  exact fun c s _ => (exec_runs c s).pending

/-- Settles O4: a run ends in the canonical form, and an idle step leaves the form it found. -/
theorem everyStepKeepsForm : Obligations.EveryStepKeepsForm := by
  unfold Obligations.EveryStepKeepsForm
  intro s t canonical stepped
  cases queue : s.pending with
  | nil =>
    rw [step_of_idle queue] at stepped
    cases stepped
    exact canonical
  | cons c l =>
    rw [step_of_pending queue] at stepped
    exact (exec_runs c _).wf stepped

/-- Settles O5. -/
theorem resetIsCanonical : Obligations.ResetIsCanonical := by
  unfold Obligations.ResetIsCanonical
  exact ⟨rfl, rfl, rfl, rfl, rfl, rfl, rfl⟩

/-! ### Equal readings -/

section
variable {α : Type}

theorem storeFind_of_firstAfter {k q : Key} {m : Store α} (after : firstAfter k m = true) (rising : storeRising m = true)
    (h : q = k ∨ Key.lt q k = true) : storeFind m q = none := by
  induction m generalizing k with
  | nil => rfl
  | cons x m ih =>
    obtain ⟨a, v⟩ := x
    have below : Key.lt q a = true := by
      obtain rfl | less := h
      · exact after
      · exact Key.lt_trans less after
    have other : a ≠ q := by
      rintro rfl
      simp [Key.lt_irrefl] at below
    rw [storeRising_cons, Bool.and_eq_true] at rising
    rw [storeFind, if_neg other]
    exact ih rising.1 rising.2 (.inr below)

/-- The first name of a canonical store is found in no store whose names come after it. -/
theorem storeFind_head {k : Key} {v : α} {m : Store α} (rising : storeRising ((k, v) :: m) = true) : storeFind m k = none := by
  rw [storeRising_cons, Bool.and_eq_true] at rising
  exact storeFind_of_firstAfter rising.1 rising.2 (.inl rfl)

theorem store_eq_of_find {m n : Store α} (hm : storeRising m = true) (hn : storeRising n = true)
    (h : ∀ k, storeFind m k = storeFind n k) : m = n := by
  induction m generalizing n with
  | nil =>
    cases n with
    | nil => rfl
    | cons y n => simpa [storeFind] using h y.1
  | cons x m ih =>
    obtain ⟨a, v⟩ := x
    cases n with
    | nil => simpa [storeFind] using h a
    | cons y n =>
      obtain ⟨b, w⟩ := y
      have hm' := hm
      have hn' := hn
      rw [storeRising_cons, Bool.and_eq_true] at hm' hn'
      have names : a = b := by
        by_contra ne
        cases less : Key.lt a b with
        | true =>
          have missing := storeFind_of_firstAfter (k := b) (q := a) hn'.1 hn'.2 (.inr less)
          simpa [storeFind, Ne.symm ne, missing] using h a
        | false =>
          have missing := storeFind_of_firstAfter (k := a) (q := b) hm'.1 hm'.2 (.inr (Key.lt_of_ne ne less))
          simpa [storeFind, ne, missing] using h b
      subst names
      have values : v = w := by simpa [storeFind] using h a
      subst values
      refine congrArg _ (ih hm'.2 hn'.2 fun k => ?_)
      by_cases e : a = k
      · subst e
        rw [storeFind_head hm, storeFind_head hn]
      · simpa [storeFind, e] using h k

end

section
variable {blank : Byte} {lo a b : Nat} {v w : Byte} {m n : List Host.Cell}

theorem memWfFrom_cons : memWfFrom blank lo ((a, v) :: m) = true ↔ lo ≤ a ∧ v ≠ blank ∧ memWfFrom blank (a + 1) m = true := by
  simp [memWfFrom, and_assoc]

/-- A canonical memory shows where its first cell is: the address reads other than blank, and every one below reads blank. -/
theorem memRead_first (h : memWfFrom blank lo ((a, v) :: m) = true) : memRead blank a ((a, v) :: m) ≠ blank := by
  simpa [memRead] using (memWfFrom_cons.mp h).2.1

theorem memRead_before_first (h : memWfFrom blank lo ((a, v) :: m) = true) {k : Nat} (below : k < a) :
    memRead blank k ((a, v) :: m) = blank := by
  obtain ⟨_, listed, tail⟩ := memWfFrom_cons.mp h
  exact memRead_below (memWfFrom_cons.mpr ⟨le_refl a, listed, tail⟩) below

theorem mem_eq_of_read (hm : memWfFrom blank lo m = true) (hn : memWfFrom blank lo n = true)
    (h : ∀ k, memRead blank k m = memRead blank k n) : m = n := by
  induction m generalizing lo n with
  | nil =>
    cases n with
    | nil => rfl
    | cons y n => exact absurd (h y.1).symm (memRead_first hn)
  | cons x m ih =>
    obtain ⟨a, v⟩ := x
    cases n with
    | nil => exact absurd (h a) (memRead_first hm)
    | cons y n =>
      obtain ⟨b, w⟩ := y
      obtain less | rfl | more := Nat.lt_trichotomy a b
      · exact absurd ((h a).trans (memRead_before_first hn less)) (memRead_first hm)
      · obtain ⟨_, _, tail⟩ := memWfFrom_cons.mp hm
        obtain ⟨_, _, tail'⟩ := memWfFrom_cons.mp hn
        have values : v = w := by simpa [memRead] using h a
        subst values
        refine congrArg _ (ih tail tail' fun k => ?_)
        by_cases e : a = k
        · subst e
          rw [memRead_below tail (Nat.lt_succ_self a), memRead_below tail' (Nat.lt_succ_self a)]
        · simpa [memRead, e] using h k
      · exact absurd ((h b).symm.trans (memRead_before_first hm more)) (memRead_first hn)

end

/-- Settles O6: canonical data are found again from the front, cell by cell. -/
theorem equalReadingsEqualData : Obligations.EqualReadingsEqualData := by
  unfold Obligations.EqualReadingsEqualData
  exact ⟨fun _ _ _ hm hn => mem_eq_of_read hm hn, fun _ _ => store_eq_of_find⟩

end Sys2Proof.Machine
end

section
/-!
THEOREM. Frames of the commands: one table of the commands' own frames (Laws/Commands.lean) gives what every command with a
footprint leaves alone, registers and memories.
-/

namespace Sys2Proof.Machine

/-- The frame of every command whose registers the model lists. At a boundary the register must be one that no waiting write
names; a command that may store in a memory leaves the registers alone, any other one the memories too. -/
theorem exec_frame {c : Instr} {s t : State} {W : List Nat} {o : Obj} (q : o.quiet = true) (listed : footprint c = some W)
    (h : o.id ∉ W) (n : atItsBoundary c = true → s.unawaited o) (run : exec c s = .next t) :
    t.view o = s.view o ∧ (touchesMemory c = false → t.still = s.canon.still) := by
  delta exec at run
  delta footprint at listed
  cases c
  all_goals dsimp only at run listed
  all_goals cases listed
  case metrologyImageData => exact ⟨execMetrologyImageData_frame q h (e_ := run), nofun⟩
  case imageDataWrite => exact ⟨execImageDataWrite_frame q h (e_ := run), nofun⟩
  case activateImage => exact ⟨execActivateImage_frame q h (e_ := run), nofun⟩
  case commitConfiguration => exact ⟨execCommitConfiguration_frame q h (e_ := run), nofun⟩
  case commitComplete => exact ⟨execCommitComplete_frame q h (e_ := run), nofun⟩
  case confirmConfiguration => exact ⟨execConfirmConfiguration_frame q h (e_ := run), nofun⟩
  case journalCommit => exact ⟨execJournalCommit_frame q h (e_ := run), nofun⟩
  case batchHoldEnd => exact ⟨execBatchHoldEnd_frame q h (e_ := run), nofun⟩
  case fastClassEvaluation => exact ⟨execFastClassEvaluation_frame q h (e_ := run), nofun⟩
  case imageVerified => exact ⟨execImageVerified_frame q h (e_ := run), nofun⟩
  case startupStageTimeout => exact ⟨execStartupStageTimeout_frame q h (e_ := run), nofun⟩
  all_goals refine And.imp_right (fun still _ => still) ?_
  case authorisationWrite => exact execAuthorisationWrite_frame q h (n := n rfl) (e_ := run)
  case allocatorFastPass => exact execAllocatorFastPass_frame q h (n := n rfl) (e_ := run)
  case meteringSecond => exact execMeteringSecond_frame q h (n := n rfl) (e_ := run)
  case canFrameSent => exact execCanFrameSent_frame q h (n := n rfl) (e_ := run)
  case canAbort => exact execCanAbort_frame q h (n := n rfl) (e_ := run)
  case canBusError => exact execCanBusError_frame q h (n := n rfl) (e_ := run)
  case bitTimingApply => exact execBitTimingApply_frame q h (n := n rfl) (e_ := run)
  case hpCycle => exact execHpCycle_frame q h (n := n rfl) (e_ := run)
  case syncAckTimeout => exact execSyncAckTimeout_frame q h (n := n rfl) (e_ := run)
  case createPending => exact execCreatePending_frame q h (n := n rfl) (e_ := run)
  case createReserved => exact execCreateReserved_frame q h (n := n rfl) (e_ := run)
  case cancel => exact execCancel_frame q h (n := n rfl) (e_ := run)
  case contextNormalStop => exact execContextNormalStop_frame q h (n := n rfl) (e_ := run)
  case contextEmergencyStop => exact execContextEmergencyStop_frame q h (n := n rfl) (e_ := run)
  case eyeScanComplete => exact execEyeScanComplete_frame q h (e_ := run)
  case serviceFrame => exact execServiceFrame_frame q h (e_ := run)
  case serviceResendTimeout => exact execServiceResendTimeout_frame q h (e_ := run)
  case telemetryFrame => exact execTelemetryFrame_frame q h (e_ := run)
  case linkBringUp => exact execLinkBringUp_frame q h (e_ := run)
  case restartBringUp => exact execRestartBringUp_frame q h (e_ := run)
  case ckuDetected => exact execCkuDetected_frame q h (e_ := run)
  case alignComplete => exact execAlignComplete_frame q h (e_ := run)
  case trainingFrame => exact execTrainingFrame_frame q h (e_ := run)
  case identityRead => exact execIdentityRead_frame q h (e_ := run)
  case configurationCrcReturned => exact execConfigurationCrcReturned_frame q h (e_ := run)
  case bringUpTimeout => exact execBringUpTimeout_frame q h (e_ := run)
  case staleLimitReached => exact execStaleLimitReached_frame q h (e_ := run)
  case dispatchDeadline => exact execDispatchDeadline_frame q h (e_ := run)
  case linkLostKeepAliveEnd => exact execLinkLostKeepAliveEnd_frame q h (e_ := run)
  case linkLostRetry => exact execLinkLostRetry_frame q h (e_ := run)
  case firmwareDataWrite => exact execFirmwareDataWrite_frame q h (e_ := run)
  case activateTerminalFirmware => exact execActivateTerminalFirmware_frame q h (e_ := run)
  case blockStartRequest => exact execBlockStartRequest_frame q h (e_ := run)
  case blockStopRequest => exact execBlockStopRequest_frame q h (e_ := run)
  case outputDischargeWaitEnd => exact execOutputDischargeWaitEnd_frame q h (e_ := run)
  case outputDischargeTimeout => exact execOutputDischargeTimeout_frame q h (e_ := run)
  case shortedHighSideEvaluation => exact execShortedHighSideEvaluation_frame q h (e_ := run)
  case startDelayEnd => exact execStartDelayEnd_frame q h (e_ := run)
  case gateDriveReady => exact execGateDriveReady_frame q h (e_ := run)
  case gateDriveTimeout => exact execGateDriveTimeout_frame q h (e_ := run)
  case rampOnComplete => exact execRampOnComplete_frame q h (e_ := run)
  case rampOffComplete => exact execRampOffComplete_frame q h (e_ := run)
  case stopDelayEnd => exact execStopDelayEnd_frame q h (e_ := run)
  case clearOverVoltageLatch => exact execClearOverVoltageLatch_frame q h (e_ := run)
  case retryDelayEnd => exact execRetryDelayEnd_frame q h (e_ := run)
  case clearLockout => exact execClearLockout_frame q h (e_ := run)
  case phaseShed => exact execPhaseShed_frame q h (e_ := run)
  case pilotStateChange => exact execPilotStateChange_frame q h (e_ := run)
  case proximityStateChange => exact execProximityStateChange_frame q h (e_ := run)
  case hvilStateChange => exact execHvilStateChange_frame q h (e_ := run)
  case contactorFeedbackFault => exact execContactorFeedbackFault_frame q h (e_ := run)
  case clearContactorFault => exact execClearContactorFault_frame q h (e_ := run)
  case cmSlacParmReq => exact execCmSlacParmReq_frame q h (e_ := run)
  case slacRunArbitration => exact execSlacRunArbitration_frame q h (e_ := run)
  case sdpRequest => exact execSdpRequest_frame q h (e_ := run)
  case tcpConnection => exact execTcpConnection_frame q h (e_ := run)
  case supportedAppProtocol => exact execSupportedAppProtocol_frame q h (e_ := run)
  case communicationLost => exact execCommunicationLost_frame q h (e_ := run)
  case vehicleIdentified => exact execVehicleIdentified_frame q h (e_ := run)
  case authorisationRequest => exact execAuthorisationRequest_frame q h (e_ := run)
  case authorisationTimeout => exact execAuthorisationTimeout_frame q h (e_ := run)
  case certificateRequest => exact execCertificateRequest_frame q h (e_ := run)
  case certificateResponseWrite => exact execCertificateResponseWrite_frame q h (e_ := run)
  case certificateTimeout => exact execCertificateTimeout_frame q h (e_ := run)
  case cableCheckReq => exact execCableCheckReq_frame q h (e_ := run)
  case imdStatusFrame => exact execImdStatusFrame_frame q h (e_ := run)
  case imdSilent => exact execImdSilent_frame q h (e_ := run)
  case imdKeepAlive => exact execImdKeepAlive_frame q h (e_ := run)
  case outletContactorsClosed => exact execOutletContactorsClosed_frame q h (e_ := run)
  case cableCheckRampEnd => exact execCableCheckRampEnd_frame q h (e_ := run)
  case cableCheckTimeout => exact execCableCheckTimeout_frame q h (e_ := run)
  case preChargeReq => exact execPreChargeReq_frame q h (e_ := run)
  case preChargeCurrentExceeded => exact execPreChargeCurrentExceeded_frame q h (e_ := run)
  case powerDeliveryStart => exact execPowerDeliveryStart_frame q h (e_ := run)
  case preChargeTimeout => exact execPreChargeTimeout_frame q h (e_ := run)
  case currentDemandReq => exact execCurrentDemandReq_frame q h (e_ := run)
  case demandSilenceTimeout => exact execDemandSilenceTimeout_frame q h (e_ := run)
  case evOverVoltage => exact execEvOverVoltage_frame q h (e_ := run)
  case powerDeliveryStop => exact execPowerDeliveryStop_frame q h (e_ := run)
  case stopCurrentDecayed => exact execStopCurrentDecayed_frame q h (e_ := run)
  case stopCurrentTimeout => exact execStopCurrentTimeout_frame q h (e_ := run)
  case outputDischarged => exact execOutputDischarged_frame q h (e_ := run)
  case vehicleVoltageRemains => exact execVehicleVoltageRemains_frame q h (e_ := run)
  case outletContactorsOpen => exact execOutletContactorsOpen_frame q h (e_ := run)
  case weldTestHalfComplete => exact execWeldTestHalfComplete_frame q h (e_ := run)
  case emergencyOpenDelay => exact execEmergencyOpenDelay_frame q h (e_ := run)
  case noCapacityTimeout => exact execNoCapacityTimeout_frame q h (e_ := run)
  case stopSessionNormal => exact execStopSessionNormal_frame q h (e_ := run)
  case stopSessionEmergency => exact execStopSessionEmergency_frame q h (e_ := run)
  case vehicleRequest => exact execVehicleRequest_frame q h (e_ := run)
  case telemetryDeadline => exact execTelemetryDeadline_frame q h (e_ := run)
  case migrationStart => exact execMigrationStart_frame q h (e_ := run)
  case migrationReachOpen => exact execMigrationReachOpen_frame q h (e_ := run)
  case migrationWaitEnd => exact execMigrationWaitEnd_frame q h (e_ := run)
  case migrationPreChargeDone => exact execMigrationPreChargeDone_frame q h (e_ := run)
  case migrationClosedReported => exact execMigrationClosedReported_frame q h (e_ := run)
  case migrationSettled => exact execMigrationSettled_frame q h (e_ := run)
  case migrationOpenTimeout => exact execMigrationOpenTimeout_frame q h (e_ := run)
  case migrationPreChargeTimeout => exact execMigrationPreChargeTimeout_frame q h (e_ := run)
  case migrationCloseTimeout => exact execMigrationCloseTimeout_frame q h (e_ := run)
  case allocationPassComplete => exact execAllocationPassComplete_frame q h (e_ := run)
  case allocatorFastPassOverrun => exact execAllocatorFastPassOverrun_frame q h (e_ := run)
  case fastPassOverrunLimit => exact execFastPassOverrunLimit_frame q h (e_ := run)
  case dynamicLimitWrite => exact execDynamicLimitWrite_frame q h (e_ := run)
  case dynamicLimitExpiry => exact execDynamicLimitExpiry_frame q h (e_ := run)
  case mainsPresentHoldEnd => exact execMainsPresentHoldEnd_frame q h (e_ := run)
  case clearWithhold => exact execClearWithhold_frame q h (e_ := run)
  case crossingMissing => exact execCrossingMissing_frame q h (e_ := run)
  case claimRound => exact execClaimRound_frame q h (e_ := run)
  case responseTimeoutRepeat => exact execResponseTimeoutRepeat_frame q h (e_ := run)
  case poll => exact execPoll_frame q h (e_ := run)
  case outstationCommand => exact execOutstationCommand_frame q h (e_ := run)
  case status => exact execStatus_frame q h (e_ := run)
  case alarm => exact execAlarm_frame q h (e_ := run)
  case ack => exact execAck_frame q h (e_ := run)
  case sound => exact execSound_frame q h (e_ := run)
  case map => exact execMap_frame q h (e_ := run)
  case estimationDue => exact execEstimationDue_frame q h (e_ := run)
  case demandIntervalEnd => exact execDemandIntervalEnd_frame q h (e_ := run)
  case billingPeriodClose => exact execBillingPeriodClose_frame q h (e_ := run)
  case closePeriod => exact execClosePeriod_frame q h (e_ := run)
  case tariffSlotSwitch => exact execTariffSlotSwitch_frame q h (e_ := run)
  case calendarActivationWrite => exact execCalendarActivationWrite_frame q h (e_ := run)
  case calendarActivation => exact execCalendarActivation_frame q h (e_ := run)
  case dstChange => exact execDstChange_frame q h (e_ := run)
  case boundaryRecordCommitted => exact execBoundaryRecordCommitted_frame q h (e_ := run)
  case planningPass => exact execPlanningPass_frame q h (e_ := run)
  case planningPassTimeout => exact execPlanningPassTimeout_frame q h (e_ := run)
  case coolantStatusFrame => exact execCoolantStatusFrame_frame q h (e_ := run)
  case coolantUnitSilent => exact execCoolantUnitSilent_frame q h (e_ := run)
  case pulseEmit => exact execPulseEmit_frame q h (e_ := run)
  case noMains => exact execNoMains_frame q h (e_ := run)
  case mainsReturned => exact execMainsReturned_frame q h (e_ := run)
  case channelFault => exact execChannelFault_frame q h (e_ := run)
  case channelFaultCleared => exact execChannelFaultCleared_frame q h (e_ := run)
  case theftWatchBurst => exact execTheftWatchBurst_frame q h (e_ := run)
  case clearTheftLog => exact execClearTheftLog_frame q h (e_ := run)
  case crossCheckWindowEnd => exact execCrossCheckWindowEnd_frame q h (e_ := run)
  case sealOpened => exact execSealOpened_frame q h (e_ := run)
  case sealClosed => exact execSealClosed_frame q h (e_ := run)
  case activateMetrologyImage => exact execActivateMetrologyImage_frame q h (e_ := run)
  case topologyCheck => exact execTopologyCheck_frame q h (e_ := run)
  case topologyCheckComplete => exact execTopologyCheckComplete_frame q h (e_ := run)
  case runTopologyCheck => exact execRunTopologyCheck_frame q h (e_ := run)
  case recordSealed => exact execRecordSealed_frame q h (e_ := run)
  case recordSelect => exact execRecordSelect_frame q h (e_ := run)
  case collectRecord => exact execCollectRecord_frame q h (e_ := run)
  case releaseUpTo => exact execReleaseUpTo_frame q h (e_ := run)
  case tamperInputChange => exact execTamperInputChange_frame q h (e_ := run)
  case magneticCheck => exact execMagneticCheck_frame q h (e_ := run)
  case runMagneticTest => exact execRunMagneticTest_frame q h (e_ := run)
  case confirm => exact execConfirm_frame q h (e_ := run)
  case close => exact execClose_frame q h (e_ := run)
  case sessionIdleTimeout => exact execSessionIdleTimeout_frame q h (e_ := run)
  case sessionLifetimeEnd => exact execSessionLifetimeEnd_frame q h (e_ := run)
  case openingLockoutEnd => exact execOpeningLockoutEnd_frame q h (e_ := run)
  case requestField => exact execRequestField_frame q h (e_ := run)
  case requestService => exact execRequestService_frame q h (e_ := run)
  case requestRetired => exact execRequestRetired_frame q h (e_ := run)
  case retiredConfirmLapse => exact execRetiredConfirmLapse_frame q h (e_ := run)
  case transitionComplete => exact execTransitionComplete_frame q h (e_ := run)
  case fieldMeteringKeyVersion => exact execFieldMeteringKeyVersion_frame q h (e_ := run)
  case reMask => exact execReMask_frame q h (e_ := run)
  case blobRewrap => exact execBlobRewrap_frame q h (e_ := run)
  case roleKeyWrite => exact execRoleKeyWrite_frame q h (e_ := run)
  case canRoleKeyWrite => exact execCanRoleKeyWrite_frame q h (e_ := run)
  case generateSeccKeyP256 => exact execGenerateSeccKeyP256_frame q h (e_ := run)
  case generateSeccKeyP521 => exact execGenerateSeccKeyP521_frame q h (e_ := run)
  case generateSeccKeyEd448 => exact execGenerateSeccKeyEd448_frame q h (e_ := run)
  case attestationNonce => exact execAttestationNonce_frame q h (e_ := run)
  case healthTestFailed => exact execHealthTestFailed_frame q h (e_ := run)
  case randomSourceRestart => exact execRandomSourceRestart_frame q h (e_ := run)
  case confirmTrialImage => exact execConfirmTrialImage_frame q h (e_ := run)
  case windowPost => exact execWindowPost_frame q h (e_ := run)
  case pushData => exact execPushData_frame q h (e_ := run)
  case windowFlush => exact execWindowFlush_frame q h (e_ := run)
  case pushResend => exact execPushResend_frame q h (e_ := run)
  case pushNoWindow => exact execPushNoWindow_frame q h (e_ := run)
  case exportLog => exact execExportLog_frame q h (e_ := run)
  case canDataWrite => exact execCanDataWrite_frame q h (e_ := run)
  case canSendPeriod => exact execCanSendPeriod_frame q h (e_ := run)
  case canFrameReceived => exact execCanFrameReceived_frame q h (e_ := run)
  case deadlineMiss => exact execDeadlineMiss_frame q h (e_ := run)
  case ttEnter => exact execTtEnter_frame q h (e_ := run)
  case ttLeave => exact execTtLeave_frame q h (e_ := run)
  case ttWindowMark => exact execTtWindowMark_frame q h (e_ := run)
  case busOffRecoveryRequest => exact execBusOffRecoveryRequest_frame q h (e_ := run)
  case busOffRecovered => exact execBusOffRecovered_frame q h (e_ := run)
  case restartController => exact execRestartController_frame q h (e_ := run)
  case busMonitoringExit => exact execBusMonitoringExit_frame q h (e_ := run)
  case loadSwitchCommand => exact execLoadSwitchCommand_frame q h (e_ := run)
  case hardShort => exact execHardShort_frame q h (e_ := run)
  case inrushOverCurrent => exact execInrushOverCurrent_frame q h (e_ := run)
  case steadyOverCurrent => exact execSteadyOverCurrent_frame q h (e_ := run)
  case inrushWindowEnd => exact execInrushWindowEnd_frame q h (e_ := run)
  case thermalShutdown => exact execThermalShutdown_frame q h (e_ := run)
  case junctionCooled => exact execJunctionCooled_frame q h (e_ := run)
  case clearLatch => exact execClearLatch_frame q h (e_ := run)
  case groupOverCurrent => exact execGroupOverCurrent_frame q h (e_ := run)
  case groupUndervoltage => exact execGroupUndervoltage_frame q h (e_ := run)
  case shedRestart => exact execShedRestart_frame q h (e_ := run)
  case coilTurnOnRelease => exact execCoilTurnOnRelease_frame q h (e_ := run)
  case groupOverVoltage => exact execGroupOverVoltage_frame q h (e_ := run)
  case lossOfGround => exact execLossOfGround_frame q h (e_ := run)
  case supplyFaultReturn => exact execSupplyFaultReturn_frame q h (e_ := run)
  case testPulse => exact execTestPulse_frame q h (e_ := run)
  case offPulse => exact execOffPulse_frame q h (e_ := run)
  case hpSafeState => exact execHpSafeState_frame q h (e_ := run)
  case hpWatchdog => exact execHpWatchdog_frame q h (e_ := run)
  case startBrakeTest => exact execStartBrakeTest_frame q h (e_ := run)
  case testTorqueApplied => exact execTestTorqueApplied_frame q h (e_ := run)
  case brakeTestHoldEnd => exact execBrakeTestHoldEnd_frame q h (e_ := run)
  case torqueConfirmTimeout => exact execTorqueConfirmTimeout_frame q h (e_ := run)
  case brakeTestDue => exact execBrakeTestDue_frame q h (e_ := run)
  case clearBrakeLockout => exact execClearBrakeLockout_frame q h (e_ := run)
  case clearOutputFault => exact execClearOutputFault_frame q h (e_ := run)
  case outputDemand => exact execOutputDemand_frame q h (e_ := run)
  case programVerifyFailed => exact execProgramVerifyFailed_frame q h (e_ := run)
  case softwareResetQuiet => exact execSoftwareResetQuiet_frame q h (e_ := run)
  case softwareResetAtOnce => exact execSoftwareResetAtOnce_frame q h (e_ := run)
  case supplyWarning => exact execSupplyWarning_frame q h (e_ := run)
  case dipCommitPeriod => exact execDipCommitPeriod_frame q h (e_ := run)
  case windowRecovery => exact execWindowRecovery_frame q h (e_ := run)
  case dipEpisodeLimit => exact execDipEpisodeLimit_frame q h (e_ := run)
  case stagedSessionStop => exact execStagedSessionStop_frame q h (e_ := run)
  case dipEpisodeEnd => exact execDipEpisodeEnd_frame q h (e_ := run)
  case reverseInput => exact execReverseInput_frame q h (e_ := run)
  case gateOn => exact execGateOn_frame q h (e_ := run)
  case vauxOverVoltage => exact execVauxOverVoltage_frame q h (e_ := run)
  case cellInserted => exact execCellInserted_frame q h (e_ := run)
  case cellReplaced => exact execCellReplaced_frame q h (e_ := run)
  case enterIdle => exact execEnterIdle_frame q h (e_ := run)
  case wake => exact execWake_frame q h (e_ := run)
  case poolSingleBitError => exact execPoolSingleBitError_frame q h (e_ := run)
  case ownerRegisterWrite => exact execOwnerRegisterWrite_frame q h (e_ := run)
  case xdGrant => exact execXdGrant_frame q h (e_ := run)
  case siltRegionTest => exact execSiltRegionTest_frame q h (e_ := run)
  case siltTestAbandon => exact execSiltTestAbandon_frame q h (e_ := run)
  case commandDispatch => exact execCommandDispatch_frame q h (e_ := run)
  case mismatchFreePeriodEnd => exact execMismatchFreePeriodEnd_frame q h (e_ := run)
  case fastClassDeadline => exact execFastClassDeadline_frame q h (e_ := run)
  case fastClassOverrunLimit => exact execFastClassOverrunLimit_frame q h (e_ := run)
  case presetOutput => exact execPresetOutput_frame q h (e_ := run)
  case clearIntegrator => exact execClearIntegrator_frame q h (e_ := run)
  case startInjection => exact execStartInjection_frame q h (e_ := run)
  case stopInjection => exact execStopInjection_frame q h (e_ := run)
  case injectionLengthReached => exact execInjectionLengthReached_frame q h (e_ := run)
  case startCapture => exact execStartCapture_frame q h (e_ := run)
  case stopCapture => exact execStopCapture_frame q h (e_ := run)
  case captureComplete => exact execCaptureComplete_frame q h (e_ := run)
  case request => exact execRequest_frame q h (e_ := run)
  case grant => exact execGrant_frame q h (e_ := run)
  case grantDeadline => exact execGrantDeadline_frame q h (e_ := run)
  case leaseExpiry => exact execLeaseExpiry_frame q h (e_ := run)
  case takeover => exact execTakeover_frame q h (e_ := run)
  case release => exact execRelease_frame q h (e_ := run)
  case accept => exact execAccept_frame q h (e_ := run)
  case refuse => exact execRefuse_frame q h (e_ := run)
  case resign => exact execResign_frame q h (e_ := run)
  case resignAck => exact execResignAck_frame q h (e_ := run)
  case becomeActive => exact execBecomeActive_frame q h (e_ := run)
  case activeLineSample => exact execActiveLineSample_frame q h (e_ := run)
  case isolate => exact execIsolate_frame q h (e_ := run)
  case handOver => exact execHandOver_frame q h (e_ := run)
  case join => exact execJoin_frame q h (e_ := run)
  case joinFailed => exact execJoinFailed_frame q h (e_ := run)
  case joinRetry => exact execJoinRetry_frame q h (e_ := run)
  case fencedTimeout => exact execFencedTimeout_frame q h (e_ := run)
  case resyncTimeout => exact execResyncTimeout_frame q h (e_ := run)
  case partnerActiveLineChange => exact execPartnerActiveLineChange_frame q h (e_ := run)
  case mirrorFrame => exact execMirrorFrame_frame q h (e_ := run)
  case healthReport => exact execHealthReport_frame q h (e_ := run)
  case heartbeat => exact execHeartbeat_frame q h (e_ := run)
  case duneDepthWrite => exact execDuneDepthWrite_frame q h (e_ := run)
  case duneDepthApplied => exact execDuneDepthApplied_frame q h (e_ := run)
  case samplingLeadWrite => exact execSamplingLeadWrite_frame q h (e_ := run)
  case housekeepingRound => exact execHousekeepingRound_frame q h (e_ := run)
  case ptpAnnounce => exact execPtpAnnounce_frame q h (e_ := run)
  case ptpSync => exact execPtpSync_frame q h (e_ := run)
  case ptpDelayResp => exact execPtpDelayResp_frame q h (e_ := run)
  case ptpLockLost => exact execPtpLockLost_frame q h (e_ := run)
  case holdoverTimeout => exact execHoldoverTimeout_frame q h (e_ := run)
  case moduleTimeWrite => exact execModuleTimeWrite_frame q h (e_ := run)
  case rtcUpdate => exact execRtcUpdate_frame q h (e_ := run)
  case clockCheck => exact execClockCheck_frame q h (e_ := run)
  case contextExpiry => exact execContextExpiry_frame q h (e_ := run)
  case roleEstablished => exact execRoleEstablished_frame q h (e_ := run)
  case ethernetLinkUp => exact execEthernetLinkUp_frame q h (e_ := run)
  case read => exact execRead_frame q h (e_ := run)
  case abort => exact execAbort_frame q h (e_ := run)
  case blockAck => exact execBlockAck_frame q h (e_ := run)
  case requestIncomplete => exact execRequestIncomplete_frame q h (e_ := run)
  case canTransferTimeout => exact execCanTransferTimeout_frame q h (e_ := run)
  case terminalCommandAccept => exact execTerminalCommandAccept_frame q h (e_ := run)
  case terminalHold => exact execTerminalHold_frame q h (e_ := run)
  case terminalSafeOff => exact execTerminalSafeOff_frame q h (e_ := run)
  case terminalPhaseFault => exact execTerminalPhaseFault_frame q h (e_ := run)
  case meteringValuesSync => exact execMeteringValuesSync_frame h (e_ := run)
  case parentSlotWrite => exact execParentSlotWrite_frame q h (e_ := run)
  case canObjectChange => exact execCanObjectChange_frame q h (e_ := run)
  -- The case left is that of `open`, a keyword, which cannot be taken by its tag.
  next => exact execOpen_frame q h (e_ := run)

/-- Settles O8: no boundary precedes the command, so that its frame asks nothing of the writes that wait. -/
theorem frameOfCommands : Obligations.FrameOfCommands := by
  unfold Obligations.FrameOfCommands
  intro c s t W o listed inside run quiet outside
  exact (exec_frame quiet listed outside (fun boundary => absurd boundary (by simp [inside])) run).1

/-- Settles O9. -/
theorem frameAtBoundaries : Obligations.FrameAtBoundaries := by
  unfold Obligations.FrameAtBoundaries
  intro c s t W o listed _ run quiet unnamed outside
  exact (exec_frame quiet listed outside (fun _ => unnamed) run).1

/-! ### Memories that read as before -/

/-- The canonical form of a memory reads as the memory does. -/
@[simp] theorem memRead_canon (blank : Byte) (a : Nat) (m : List Host.Cell) : memRead blank a (memCanon blank m) = memRead blank a m := by
  induction m with
  | nil => rfl
  | cons x m ih =>
    obtain ⟨b, v⟩ := x
    rw [memCanon, memRead_write (memCanon_wf blank m), ih, memRead]

/-- Some quiet register lies outside a footprint and is named by no write that waits. -/
theorem exists_unnamed (W : List Nat) (s : State) : ∃ o : Obj, o.quiet = true ∧ o.id ∉ W ∧ s.unawaited o := by
  obtain ⟨n, fresh⟩ := Infinite.exists_notMem_finset
    (busyRegisters ++ W ++ s.waiting.flatMap fun w => w.writes.map (·.key.o)).toFinset
  simp only [List.mem_toFinset, List.mem_append, List.mem_flatMap, List.mem_map, not_or, not_exists, not_and] at fresh
  obtain ⟨⟨busy, outside⟩, unnamed⟩ := fresh
  have name : ({ Obj.efficiency with base := 0, sub := n } : Obj).id = n := by simp [Obj.id]
  refine ⟨{ Obj.efficiency with base := 0, sub := n }, ?_, by rwa [name], fun w hw f hf e => unnamed w hw f hf (e.trans name)⟩
  rw [Obj.quiet, name]
  simpa using busy

/-- The commands without a footprint may store in a memory. -/
theorem footprint_of_touchesMemory_eq_false {c : Instr} (h : touchesMemory c = false) : ∃ W, footprint c = some W := by
  delta touchesMemory at h
  delta footprint
  cases c
  all_goals dsimp only at h ⊢
  all_goals first | exact ⟨_, rfl⟩ | cases h

/-- Settles O10: the frame of any register outside the footprint carries the memories along, which the canonical form leaves
reading alike. -/
theorem memoriesKept : Obligations.MemoriesKept := by
  unfold Obligations.MemoriesKept
  intro c s t a untouched run
  obtain ⟨W, listed⟩ := footprint_of_touchesMemory_eq_false untouched
  obtain ⟨o, quiet, outside, unnamed⟩ := exists_unnamed W s
  have still := (exec_frame quiet listed outside (fun _ => unnamed) run).2 untouched
  simp only [State.still, Prod.mk.injEq] at still
  obtain ⟨pool, flash, -⟩ := still
  rw [pool, flash]
  exact ⟨memRead_canon _ _ _, memRead_canon _ _ _⟩

end Sys2Proof.Machine
end

section
/-!
THEOREM. The line coding of the cabinet links loses nothing (R41 to R47): stuffing, scrambling and the search for a frame, each
with what undoes it, then a frame read back from the line.
-/

namespace Sys2Proof.Machine

/-! ### Stuffing and scrambling (R43, R45) -/

/-- The receiver drops exactly the bits that stuffing put in: both count the run alike, and a run of 31 precedes each of them. -/
theorem destuff_stuff (v : Bool) {c : Nat} (l : List Bool) (h : c < 31) : (destuff v c (stuff v c l).1).1 = l := by
  induction l generalizing v c with
  | nil => rfl
  | cons y t ih =>
    have counting : c ≠ 31 := by omega
    have bound : (if y = v then c + 1 else 1) ≤ 31 := by split <;> omega
    rw [stuff]
    generalize run : (if y = v then c + 1 else 1) = c' at bound ⊢
    dsimp only
    split
    next full => simp [destuff, counting, run, full, ih]
    next short => simp [destuff, counting, run, ih y (show c' < 31 by omega)]

/-- The scrambler's state does not depend on the data. -/
theorem scramble_scramble (seed : Nat) (l : List Bool) : scramble seed (scramble seed l) = l := by
  induction l generalizing seed with
  | nil => rfl
  | cons x t ih => simp [scramble, ih]

@[simp] theorem length_scramble (seed : Nat) (l : List Bool) : (scramble seed l).length = l.length := by
  induction l generalizing seed with
  | nil => rfl
  | cons x t ih => simp [scramble, ih]

/-! ### Bits and bytes (R41) -/

@[simp] theorem length_bitsOf (l : List Byte) : (bitsOf l).length = 8 * l.length := by
  induction l with
  | nil => rfl
  | cons b t ih => simp_all [bitsOf, bitsOfByte]; omega

theorem bitsOf_append (l m : List Byte) : bitsOf (l ++ m) = bitsOf l ++ bitsOf m := List.flatMap_append

theorem natOfBits_bitsOfByte (b : Byte) : natOfBits (bitsOfByte b) = b.toNat := by
  revert b
  decide

theorem bytesOfBits_bitsOf (l : List Byte) (rest : List Bool) : bytesOfBits l.length (bitsOf l ++ rest) = l := by
  induction l with
  | nil => rfl
  | cons b t ih =>
    have byte : (bitsOfByte b).length = 8 := rfl
    rw [List.length_cons, bytesOfBits, bitsOf, List.flatMap_cons, List.append_assoc, List.take_left' byte, List.drop_left' byte,
      natOfBits_bitsOfByte, BitVec.ofNat_toNat, BitVec.setWidth_eq]
    exact congrArg _ ih

/-- Bytes within a stretch are found at their place among its bits. -/
theorem bytesOfBits_within {l m : List Byte} {a k : Nat} (h : a + k ≤ l.length) (e : m = (l.drop a).take k) (rest : List Bool) :
    bytesOfBits k ((bitsOf l ++ rest).drop (8 * a)) = m := by
  have before : (bitsOf (l.take a)).length = 8 * a := by simp; omega
  have here : m.length = k := by simp [e]; omega
  have split : l = l.take a ++ (m ++ (l.drop a).drop k) := by rw [e, List.take_append_drop, List.take_append_drop]
  rw [split, bitsOf_append, bitsOf_append, List.append_assoc, List.append_assoc, List.drop_left' before, ← here, bytesOfBits_bitsOf]

/-! ### The marker -/

theorem findMarker_at_front {l : List Bool} {ty : Nat} (sync : l.take 48 = bitsOf markerSync) (whole : 64 ≤ l.length)
    (type : natOfBits ((l.drop 48).take 8) = ty) (known : ty = typeControl ∨ ty = typeService ∨ ty = typeTraining) :
    findMarker l = some (ty, natOfBits ((l.drop 56).take 8), l.drop 64) := by
  cases l with
  | nil => simp at whole
  | cons x t => rw [findMarker, if_pos ⟨sync, whole, type ▸ known⟩, type]

theorem natOfBits_beBytes_one {n : Nat} (h : n < 256) : natOfBits (bitsOf (beBytes 1 n)) = n := by
  have byte : beBytes 1 n = [BitVec.ofNat 8 n] := by
    simp only [beBytes, List.range_one, List.map_cons, List.map_nil, Nat.sub_self, pow_zero, Nat.div_one, pow_one]
    congr
    omega
  rw [byte, bitsOf, List.flatMap_singleton, natOfBits_bitsOfByte, BitVec.toNat_ofNat, Nat.mod_eq_of_lt h]

theorem findMarker_marker {ty salt : Nat} (known : ty = typeControl ∨ ty = typeService ∨ ty = typeTraining) (h : salt < 256)
    (rest : List Bool) : findMarker (bitsOf (marker ty salt) ++ rest) = some (ty, salt, rest) := by
  have small : ty < 256 := by rcases known with rfl | rfl | rfl <;> decide
  have one (n : Nat) : (bitsOf (beBytes 1 n)).length = 8 := rfl
  have sync : (bitsOf markerSync).length = 48 := rfl
  have split : bitsOf (marker ty salt) ++ rest =
      bitsOf markerSync ++ (bitsOf (beBytes 1 ty) ++ (bitsOf (beBytes 1 salt) ++ rest)) := by
    simp only [marker, bitsOf_append, List.append_assoc]
  have atType : (bitsOf (marker ty salt) ++ rest).drop 48 = bitsOf (beBytes 1 ty) ++ (bitsOf (beBytes 1 salt) ++ rest) := by
    rw [split, List.drop_left' sync]
  have atSalt : (bitsOf (marker ty salt) ++ rest).drop 56 = bitsOf (beBytes 1 salt) ++ rest := by
    rw [show 56 = 48 + 8 from rfl, ← List.drop_drop, atType, List.drop_left' (one ty)]
  have atRest : (bitsOf (marker ty salt) ++ rest).drop 64 = rest := by
    rw [show 64 = 56 + 8 from rfl, ← List.drop_drop, atSalt, List.drop_left' (one salt)]
  rw [findMarker_at_front (ty := ty) (by rw [split, List.take_left' sync]) (by simp [marker, markerSync, beBytes])
    (by rw [atType, List.take_left' (one ty), natOfBits_beBytes_one small]) known, atSalt, List.take_left' (one salt),
    natOfBits_beBytes_one h, atRest]

/-! ### A frame (R46, R47) -/

theorem xor32_lt (a b : Nat) : xor32 a b < 2 ^ 32 := BitVec.isLt _

theorem ofBytes_crc32 (l : List Byte) : ofBytes (beBytes 4 (crc32 l)) = crc32 l := by
  have : crc32 l < 2 ^ 32 := xor32_lt _ _
  rw [ofBytes_beBytes]
  omega

/-- What a frame's type says of the length of its body (Table 3.3). -/
structure BodyFits (type : Nat) (body : List Byte) : Prop where
  known : type = typeControl ∨ type = typeService ∨ type = typeTraining
  length : ∀ rest, bodyLength type (bitsOf body ++ rest) = body.length

theorem bodyFits_of_length {type : Nat} {body : List Byte} (h : (type = typeControl ∧ body.length = 248) ∨
    (type = typeTraining ∧ body.length = 24) ∨ (type = typeService ∧ body.length = 16 + ofBytes ((body.drop 6).take 2))) :
    BodyFits type body := by
  obtain ⟨rfl, length⟩ | ⟨rfl, length⟩ | ⟨rfl, length⟩ := h
  · exact ⟨.inl rfl, fun _ => length.symm⟩
  · exact ⟨.inr (.inr rfl), fun _ => length.symm⟩
  · refine ⟨.inr (.inl rfl), fun rest => ?_⟩
    have field := bytesOfBits_within (a := 6) (k := 2) (by omega) rfl rest (l := body)
    rw [bodyLength, if_neg (by decide), if_neg (by decide), show 48 = 8 * 6 from rfl, field, length]

theorem findFrame_lineFrame {type : Nat} {body : List Byte} (fits : BodyFits type body) (seq link lane dir n : Nat) :
    findFrame link lane dir (n + 1) (lineFrame type seq link lane dir body) = .good type body := by
  have salt : scramblerSeed (seq % 256) link lane dir type = scramblerSeed seq link lane dir type := by
    simp [scramblerSeed]
  have crc : bytesOfBits 4 ((bitsOf (body ++ beBytes 4 (crc32 body))).drop (8 * body.length)) = beBytes 4 (crc32 body) := by
    rw [← List.append_nil (bitsOf _)]
    exact bytesOfBits_within (by simp [beBytes]) (by simp [beBytes]) []
  have frame : bytesOfBits body.length (bitsOf (body ++ beBytes 4 (crc32 body))) = body := by
    rw [bitsOf_append, bytesOfBits_bitsOf]
  have length : bodyLength type (bitsOf (body ++ beBytes 4 (crc32 body))) = body.length := by
    rw [bitsOf_append, fits.length]
  have whole : 8 * (body.length + 4) ≤ (bitsOf (body ++ beBytes 4 (crc32 body))).length := by simp [beBytes]
  rw [findFrame, lineFrame, findMarker_marker fits.known (Nat.mod_lt _ (by decide))]
  dsimp only
  rw [salt, scramble_scramble, length, crc, frame, ofBytes_crc32, if_pos ⟨whole, rfl⟩]

/-- Settles O13: each coding step is undone by its counterpart, and the marker that the search meets first is the frame's own. -/
theorem lineFramesReadBack : Obligations.LineFramesReadBack := by
  unfold Obligations.LineFramesReadBack
  refine ⟨fun v c l h => destuff_stuff v l h, scramble_scramble, fun type seq link lane reg body _ run _ _ fits => ?_⟩
  have bits := destuff_stuff (64 ≤ reg) (lineFrame type seq link lane 1 body) run
  obtain ⟨n, size⟩ : ∃ n, (lineFrame type seq link lane 1 body).length = n + 1 :=
    Nat.exists_eq_succ_of_ne_zero (by simp [lineFrame, marker, markerSync])
  change findFrame link lane 1 (destuff (64 ≤ reg) (reg % 64) _).1.length (destuff (64 ≤ reg) (reg % 64) _).1 = _
  rw [bits, size, findFrame_lineFrame (bodyFits_of_length fits)]

end Sys2Proof.Machine
end

section
/-!
THEOREM. The code flash (R287): what an image write leaves in it. Where the flash lists an address twice, which no step leaves but
a state may hold, a blank byte written there uncovers the older entry.
-/

namespace Sys2Proof.Machine

section
variable {s t : State} {o : Obj} (h : t.part o = s.part o)
include h

theorem pool_of_part : t.pool = s.pool := congrArg (·.2.1) h

theorem flash_of_part : t.flash = s.flash := congrArg (·.2.2.1) h

end

/-- What a granted write leaves in the flash is what its rule left there. -/
theorem hostWrite_flash {r : Req} {o : Obj} {i j : Nat} {d : List Byte} {role space : Nat} {s u t : State}
    {fx : Nat → State → Except Nat State} (g : Granted r o i j d role space s u) (h : fx role u = .ok t) :
    (hostWrite r o i j d fx s.fresh).flash = t.flash := by
  have quiet : Obj.efficiency.quiet = true := by decide
  exact (congrArg State.flash (hostWrite_granted g h)).trans
    (flash_of_part ((accepted_part quiet _ _ _ _ _ _ _ _).trans (markDirty_part quiet _ _ _)))

/-- An image write stores its bytes from the base of the slot not in use. -/
theorem exec_imageDataWrite_flash {s u : State} {r : Req} {d : List Byte} {role space : Nat}
    (g : Granted r Obj.imageData 0 0 d role space s u) (permitted : u.get Obj.flashWritesPermitted ≠ 0)
    (fits : u.getN Obj.imageWriteOffset + d.length ≤ 0x1000000) :
    ∃ t, exec (.imageDataWrite r d) s = .next t ∧ t.flash =
      memCanon flashBlank (memWriteAll flashBlank (imageBase (otherSlot u) + u.getN Obj.imageWriteOffset) d u.flash) := by
  refine run_yields (congrArg (memCanon flashBlank) (hostWrite_flash (t := u.flashWrite _ d) g ?_))
  rw [if_neg permitted, if_neg (by omega)]

/-- A flash in which the first address of slot 1 is listed twice. -/
def listedTwice : State :=
  { (State.reset.set Obj.flashWritesPermitted 1).set Obj.startUpStage 4 with flash := [(0x1000000, 1), (0x1000000, 2)] }

/-- Refutes O11: written to `listedTwice`, the blank byte 0xFF takes the newer entry away, and the address reads as the older. -/
theorem not_onlyImagesReachFlash : ¬ Obligations.OnlyImagesReachFlash := by
  unfold Obligations.OnlyImagesReachFlash
  rintro ⟨-, image, -⟩
  have g : Granted (testReq 2 Obj.imageData 0 0 [0xFF]) Obj.imageData 0 0 [0xFF] 2 7 (inSession 2 listedTwice)
      (afterAuth 2 [0xFF] listedTwice) := granted_testReq listedTwice rfl (by decide) (by decide) (by decide) (by decide)
  obtain ⟨t, run, reads, -⟩ := image _ _ _ _ _ _ 0x1000000 g (by decide) (by decide)
  obtain ⟨t', run', flash⟩ := exec_imageDataWrite_flash g (by decide) (by decide)
  cases run.symm.trans run'
  rw [flash, memRead_canon] at reads
  exact absurd reads (by decide)

end Sys2Proof.Machine
end

section
/-!
THEOREM. What the slow tick stores in the pool (R127). A waiting write that starts a capture (no request leaves one, but a state
may hold it) takes effect at the tick, and the slow class then samples into the bank.
-/

namespace Sys2Proof.Machine

set_option Elab.async false

/-! ### The slots that a slow tick evaluates -/

/-- Registers that decide which slots a slow tick evaluates. -/
def scheduleRegisters : List Obj := [Obj.linkDeclared, Obj.refusedCabinets, Obj.declaredBlockCount, Obj.refusedBlocks, Obj.phaseDeclared,
  Obj.declaredPhaseCount, Obj.phaseState, Obj.outletDeclared, Obj.refusedOutlets, Obj.flowSource, Obj.valveActuator, Obj.slotClass,
  Reg.slotHeld, Obj.blockState]

/-- States that hold the same configuration evaluate the same slots. -/
theorem dueSlow_congr {s t : State} (h : ∀ o ∈ scheduleRegisters, ∀ i j, t.get o i j = s.get o i j) : dueSlow t = dueSlow s := by
  simp only [scheduleRegisters, List.forall_mem_cons, List.not_mem_nil, false_implies, implies_true, and_true] at h
  have enabled : slotEnabled t = slotEnabled s := funext fun i => by
    simp only [slotEnabled, phaseAdmitted, blockAdmitted, outletAdmitted, phaseDeclared, blockDeclared, outletDeclared, cabAdmitted,
      cabDeclared, phaseSt, State.is, State.bit, State.getN, h]
  simp only [dueSlow, enabledSlots, freeSlots, enabled, slotIsHeld, slotClassOf, blockSt, State.is, h]

/-! ### The sample at the end of an evaluation -/

/-- Registers that an evaluation writes before it samples. -/
def slotRegisters : List Nat := [Reg.slotReal.id, Obj.slotFlags.id, Reg.slotLast.id, Reg.slotFirst.id, Reg.slotPresetDue.id,
  Reg.slotClearDue.id, Reg.dutyRaw.id] ++ Footprint.injectionStep

/-- What an evaluation stores for its slot: results, flags, time, the event of an overflow and the duty. -/
def storeSlot (i : Nat) (results : List (Rat × Nat)) (flags : Int) (ovf : Bool) (stage duty : Int) (s : State) : State :=
  let t := results.foldl (fun w x => w.setReal Reg.slotReal x.1 i x.2) s
  let t := ((t.set Obj.slotFlags flags i).set Reg.slotLast (t.get Reg.coreCycles) i).set Reg.slotFirst 0 i
  let t := (t.set Reg.slotPresetDue 0 i).set Reg.slotClearDue 0 i
  let t := if ovf then logLimited 0x5442 srcLe i second (beBytes 2 i ++ data8 [stage]) t else t
  if i < 256 then t.set Reg.dutyRaw duty i else t

theorem storeSlot_part {o : Obj} (q : o.quiet = true) (h : o.id ∉ slotRegisters) (i : Nat) (results : List (Rat × Nat))
    (flags : Int) (ovf : Bool) (stage duty : Int) (s : State) : (storeSlot i results flags ovf stage duty s).part o = s.part o := by
  simp only [slotRegisters, List.mem_append, List.mem_cons, List.not_mem_nil, or_false, not_or] at h
  simp only [storeSlot, part_ite, part_set, part_setReal, foldl_part, logLimited_part, h, q, implies_true, ite_self, not_false_eq_true]

theorem get_slotFlags_storeSlot {i k : Nat} (other : i ≠ k) (results : List (Rat × Nat)) (flags : Int) (ovf : Bool) (stage duty : Int)
    (s : State) : (storeSlot i results flags ovf stage duty s).get Obj.slotFlags k = s.get Obj.slotFlags k := by
  have fold (t : State) : (results.foldl (fun w x => w.setReal Reg.slotReal x.1 i x.2) t).get Obj.slotFlags k = t.get Obj.slotFlags k :=
    foldl_get (fun _ _ => get_setReal ..) results t
  simp (decide := true) [storeSlot, get_set_of_ne_inst, other, fold]

/-- An evaluation stores what it found and then takes the sample that its slot triggers. -/
theorem evaluateSlot_eq (i : Nat) (kids : List Nat) (extra : Int) (s : State) :
    ∃ w results flags ovf stage duty, (w = s ∨ w = (injectionStep s).2) ∧ evaluateSlot i kids extra s =
      let t := storeSlot i results flags ovf stage duty w
      if t.getN Obj.triggerSlot = i then captureSample t else t := by
  refine ⟨(if s.get Obj.injectionState = 1 ∧ s.getN Reg.injectionSlot = i then injectionStep s else (0, s)).2, _, _, _, _, _, ?_, rfl⟩
  split
  · exact .inr rfl
  · exact .inl rfl

theorem storeSlot_start_part {o : Obj} (q : o.quiet = true) (h : o.id ∉ slotRegisters) {s w : State}
    (start : w = s ∨ w = (injectionStep s).2) : w.part o = s.part o := by
  obtain rfl | rfl := start
  · rfl
  · exact injectionStep_part q (fun mem => h (List.mem_append_right _ mem)) s

/-- An evaluation ends with a sample of the capture that its slot triggers, in a state that differs by the slot's own registers. -/
theorem evaluateSlot_ends (i : Nat) (kids : List Nat) (extra : Int) (s : State) :
    ∃ t, evaluateSlot i kids extra s = (if t.getN Obj.triggerSlot = i then captureSample t else t) ∧
      (∀ o : Obj, o.quiet = true → o.id ∉ slotRegisters → t.part o = s.part o) ∧
      ∀ k, i ≠ k → t.get Obj.slotFlags k = s.get Obj.slotFlags k := by
  obtain ⟨w, results, flags, ovf, stage, duty, start, eq⟩ := evaluateSlot_eq i kids extra s
  refine ⟨_, eq, fun o q h => (storeSlot_part q h ..).trans (storeSlot_start_part q h start), fun k other => ?_⟩
  rw [get_slotFlags_storeSlot other]
  obtain rfl | rfl := start
  · rfl
  · exact get_of_view (view_of_part (injectionStep_part (by decide) (by decide) s)) k 0

/-- The first sample of a capture of slot 417's flags alone. -/
theorem captureSample_flags {t : State} (runs : t.get Obj.captureState = 1) (first : t.get Obj.samplesTaken = 0)
    (signal : t.get Obj.captureSignal 0 0 = 417 * 64 + 7) (unused : ∀ q ∈ [1, 2, 3], t.get Obj.captureSignal 0 q = 0xFFFFFFFF) :
    (captureSample t).pool =
      memWriteAll poolBlank (t.getN Reg.captureIn * 0x40000) (beBytes 4 (t.getN Obj.slotFlags 417)) t.pool := by
  simp only [List.forall_mem_cons, List.not_mem_nil, false_implies, implies_true, and_true] at unused
  obtain ⟨one, two, three⟩ := unused
  have four : List.range 4 = [0, 1, 2, 3] := rfl
  simp (decide := true) [captureSample, runs, State.getN, first, State.forN, four, signal, one, two, three, captureValue]
  rfl

/-! ### A capture that a waiting write starts at the tick -/

/-- Slot 416 runs in the slow class and triggers the capture of slot 417's flags into bank 23; no capture runs, but a write that starts
one waits for the tick. -/
def captureAwaited : State :=
  { (((((State.reset.set Obj.startUpStage 4).set Obj.slotClass 2 416).set Obj.triggerSlot 416).set Obj.captureSignal
      (417 * 64 + 7) 0 0).set Obj.slotFlags 255 417) with
    waiting := [⟨discardSpace, 0, 0, 0, .slowTick, false, 0, 0, false, [⟨Obj.captureState.key 0 0, 1, [], false⟩]⟩] }

/-- The state at the tick, with the write in effect. -/
def captureStarted : State := applyDue .slowTick captureAwaited.fresh

theorem captureStarted_reads : captureStarted.get Obj.captureState = 1 ∧ captureStarted.get Obj.samplesTaken = 0 ∧
    captureStarted.get Obj.captureSignal 0 0 = 417 * 64 + 7 ∧ (∀ q ∈ [1, 2, 3], captureStarted.get Obj.captureSignal 0 q = 0xFFFFFFFF) ∧
    captureStarted.get Reg.captureIn = 23 ∧ captureStarted.get Obj.slotFlags 417 = 255 ∧ captureStarted.get Obj.triggerSlot = 416 ∧
    captureStarted.pool = [] ∧ slowOverrun captureStarted = captureStarted := by decide +kernel

theorem dueSlow_captureStarted : dueSlow captureStarted = [416] := by decide +kernel

/-- The slow class evaluates slot 416 and samples the flags of slot 417. -/
theorem pool_slowClass_captureStarted :
    (slowClass [] [] [] (thermalTick captureStarted)).pool = memWriteAll poolBlank (23 * 0x40000) (beBytes 4 255) [] := by
  have due : dueSlow (thermalTick captureStarted) = [416] := (dueSlow_congr fun o mem i j =>
    get_of_view (view_of_part (thermalTick_part (by revert o; decide) (by revert o; decide) captureStarted)) i j).trans
    dueSlow_captureStarted
  obtain ⟨state, taken, signal, unused, bank, flags, trigger, pool, -⟩ := captureStarted_reads
  obtain ⟨t, eq, part, other⟩ :=
    evaluateSlot_ends 416 (enabledSlots (thermalTick captureStarted)) 0 (thermalTick captureStarted)
  have reads {o : Obj} (q : o.quiet = true) (cold : o.id ∉ Footprint.thermalTick) (h : o.id ∉ slotRegisters) (i j : Nat) :
      t.get o i j = captureStarted.get o i j :=
    get_of_view (view_of_part ((part o q h).trans (thermalTick_part q cold captureStarted))) i j
  have sampled : (captureSample t).pool = memWriteAll poolBlank (23 * 0x40000) (beBytes 4 255) t.pool := by
    rw [captureSample_flags]
    · rw [State.getN, reads (by decide) (by decide) (by decide), bank, State.getN, other 417 (by decide), get_thermalTick (by decide)
        (by decide), flags]
      rfl
    · rw [reads (by decide) (by decide) (by decide), state]
    · rw [reads (by decide) (by decide) (by decide), taken]
    · rw [reads (by decide) (by decide) (by decide), signal]
    · exact fun q mem => (reads (by decide) (by decide) (by decide) 0 q).trans (unused q mem)
  have fires : t.getN Obj.triggerSlot = 416 := by rw [State.getN, reads (by decide) (by decide) (by decide), trigger]; rfl
  have empty : t.pool = [] := (pool_of_part (part Obj.efficiency (by decide) (by decide))).trans
    ((pool_of_part (thermalTick_part (o_ := Obj.efficiency) (by decide) (by decide) captureStarted)).trans pool)
  have frees := judgeMismatches_part (o_ := Obj.efficiency) (by decide) (by decide) [416] [] [] (captureSample t)
  have issued : (thermalTick captureStarted).forL [416] (fun i u => issueSlot (enabledSlots (thermalTick captureStarted)) [] [] [] i u) =
      captureSample t := by simp [State.forL, issueSlot, eq, fires]
  rw [empty] at sampled
  refine Eq.trans ?_ sampled
  unfold slowClass
  simp only [due, issued]
  exact (pool_of_part (part_setSeq (o := Obj.efficiency) (q := Reg.slowUnfinished) (by decide) _ 0 0)).trans (pool_of_part frees)

/-- What follows the slow class stores nothing in the pool. -/
theorem pool_execSlowTick {s : State} (tick : s.fresh.frame % 500 = 0) (started : s.fresh.get Obj.startUpStage ≠ 0) :
    ∃ t, exec (.slowTick [] [] []) s = .next t ∧ t.pool =
      memCanon poolBlank (slowClass [] [] [] (thermalTick (slowOverrun (applyDue .slowTick s.fresh)))).pool := by
  have ticks : ¬ (s.fresh.frame % 500 ≠ 0 ∨ s.fresh.get Obj.startUpStage = 0) := not_or.2 ⟨not_not.2 tick, started⟩
  refine ⟨_, rfl, congrArg (memCanon poolBlank) ((congrArg State.pool (if_neg ticks)).trans (pool_of_part (o := Obj.efficiency) ?_))⟩
  simp (decide := true) only [lastStage_part, returnToRun_part, countIdleTime_part, forN_part, weldTick_part, stopOverdue_part,
    trimPhase_part, coolingTick_part, implies_true]
  rfl

/-- Refutes O12: from `captureAwaited`, in which no capture runs, the slow tick starts one and stores its first sample. -/
theorem not_capturesStayInTheirBank : ¬ Obligations.CapturesStayInTheirBank := by
  unfold Obligations.CapturesStayInTheirBank
  rintro ⟨-, slow, -⟩
  obtain ⟨t, run, pool⟩ := pool_execSlowTick (s := captureAwaited) (by decide +kernel) (by decide +kernel)
  have kept := slow captureAwaited t [] [] [] (23 * 0x40000 + 3) run (.inr (.inr (by decide +kernel)))
  obtain ⟨-, -, -, -, -, -, -, -, overrun⟩ := captureStarted_reads
  change _ = memCanon poolBlank (slowClass [] [] [] (thermalTick (slowOverrun captureStarted))).pool at pool
  rw [pool, memRead_canon, overrun, pool_slowClass_captureStarted] at kept
  exact absurd kept (by decide)

end Sys2Proof.Machine
end

section
/-!
THEOREM. The module's own cycles and the configuration (R15, R30, R216, R338), and what a reset keeps of the battery domain (R424).
A boundary that a cycle reaches lets waiting writes in, so `Spares` follows a register through it.
-/

namespace Sys2Proof.Machine

set_option Elab.async false

/-! ### A billing boundary adds nothing to what waits -/

theorem setSeq_waiting (s : State) (o : Obj) (v : List Int) (i j : Nat) : (s.setSeq o v i j).waiting = s.waiting := rfl

theorem rankDemand_waiting (m : Nat) (slot v e : Int) (s : State) : (rankDemand m slot v e s).waiting = s.waiting := by
  unfold rankDemand
  exact foldl_waiting (fun _ _ => by rfl) _ _

theorem judgeDemand_waiting (e slot : Int) (s : State) : (judgeDemand e slot s).waiting = s.waiting := by
  unfold judgeDemand
  dsimp only
  simp only [ite_waiting, logEvent_waiting, set_waiting, setSeq_waiting, ite_self]
  exact forN_waiting (fun _ _ => by rw [rankDemand_waiting]; rfl) 29 s

theorem restartDemand_waiting (t0 : Int) (s : State) : (restartDemand t0 s).waiting = s.waiting := by
  unfold restartDemand
  dsimp only
  simp only [set_waiting, setSeq_waiting]
  exact forN_waiting (fun _ _ => by rfl) 29 s

theorem closePeriod_waiting (cause at_ : Int) (skipped : Bool) (s : State) : (closePeriod cause at_ skipped s).waiting = s.waiting := by
  unfold closePeriod
  dsimp only
  simp only [ite_waiting, restartDemand_waiting, set_waiting, ite_self]
  refine (forN_waiting (fun _ _ => forN_waiting (fun _ _ => by rfl) _ _) 4 _).trans
    ((forN_waiting (fun _ _ => forN_waiting (fun _ _ => by rfl) _ _) 24 _).trans
    ((forN_waiting (fun _ _ => forN_waiting (fun _ _ => by rfl) _ _) 29 _).trans ?_))
  simp only [logEvent_waiting, queueItem_waiting]
  split
  · simp only [ite_waiting, dropItem_waiting, setLog_waiting, ite_self]
  · rfl

theorem activateCalendar_waiting (s : State) : (activateCalendar s).waiting = s.waiting := by
  unfold activateCalendar
  dsimp only
  simp only [logEvent_waiting, set_waiting, inc_waiting]
  exact (forN_waiting (fun _ _ => by rfl) 256 _).trans
    ((forN_waiting (fun _ _ => forN_waiting (fun _ _ => by rfl) _ _) 32 _).trans
    ((forN_waiting (fun _ _ => forN_waiting (fun _ _ => by rfl) _ _) 16 _).trans (forN_waiting (fun _ _ => by rfl) 12 _)))

theorem switchSlot_waiting (v : Int) (s : State) : (switchSlot v s).waiting = s.waiting := by
  simp only [switchSlot, ite_waiting, logEvent_waiting, set_waiting, ite_self]

theorem storeBoundary_waiting (oldSlot flags period : Int) (demands : List Int) (s : State) :
    (storeBoundary oldSlot flags period demands s).waiting = s.waiting := by
  simp only [storeBoundary, ite_waiting, submit_waiting, set_waiting, setLog_waiting, ite_self]

theorem applyBoundary_waiting (s : State) : (applyBoundary s).waiting = s.waiting := by
  simp only [applyBoundary, ite_waiting, logEvent_waiting, storeBoundary_waiting, switchSlot_waiting, activateCalendar_waiting,
    closePeriod_waiting, judgeDemand_waiting, setB_waiting, setBit_waiting, set_waiting, ite_self]

/-! ### The cycles -/

def Footprint.metrologySample : List Nat := [Reg.sampleCount.id, Reg.overloads.id, Reg.windowServed.id, Reg.secCount.id, Reg.meteredAt.id] ++
  Footprint.applyBoundary ++ Footprint.atBoundary ++ Footprint.takeDc ++ Footprint.takeFeeder ++ Footprint.countPulses

def Footprint.slowTick : List Nat := Footprint.applyDue ++ Footprint.slowOverrun ++ Footprint.thermalTick ++ Footprint.slowClass ++
  Footprint.coolingTick ++ Footprint.trimPhase ++ Footprint.stopOverdue ++ Footprint.weldTick ++ Footprint.countIdleTime ++
  Footprint.returnToRun ++ Footprint.lastStage

def Footprint.busOff : List Nat := [Reg.busOffAt.id, Reg.busRecoveries.id, Obj.recoveriesInTheLast3600S.id, Obj.controllerState.id] ++
  Footprint.abortAll ++ Footprint.healthItem

def Footprint.frameStart : List Nat := Footprint.advanceTime ++ Footprint.nextFrame ++ Footprint.afterCount

section
variable {o : Obj} {s t : State} (q : o.quiet = true) (n : s.unawaited o)
include q n

theorem metrologySample_part (h : o.id ∉ Footprint.metrologySample) (inputs : List Int) :
    (metrologySample inputs s).part o = s.part o := by
  simp only [Footprint.metrologySample, List.mem_append, List.mem_cons, List.not_mem_nil, or_false, not_or, and_assoc] at h
  obtain ⟨count, overloads, served, seconds, metered, boundary, due, dc, feeder, pulses⟩ := h
  have counted : Spares o s (s.set Reg.sampleCount (s.get Reg.sampleCount + 1)) := .set Reg.sampleCount count
  have applied (u : State) : Spares o u (if u.is Reg.bdCommitted then applyBoundary u else u) :=
    .ite (.of_waiting (applyBoundary_waiting u) (applyBoundary_part q boundary u)) (.refl u)
  have entered := ((counted.trans (applied _)).trans (atBoundary_spares q due .sample _) n).2
  refine Eq.trans ?_ entered
  unfold metrologySample
  dsimp only
  rw [part_set metered, part_set seconds]
  refine (forN_part (fun m u => ?_) 24 _).trans ((forN_part (fun k u => countPulses_part q pulses _ k u) 4 _).trans
    ((forN_part (fun c u => ?_) 76 _).trans ((forN_part (fun f u => takeFeeder_part q feeder inputs f u) 4 _).trans
    (forN_part (fun m u => takeDc_part q dc m _ _ u) 24 _))))
  · split
    · rw [part_ite, part_setSeq served, ite_self]
    · rfl
  · rw [part_ite, part_set overloads, ite_self]

theorem execMetrologySample_view (h : o.id ∉ Footprint.metrologySample) {inputs : List Int}
    (run : execMetrologySample inputs s = .next t) : t.view o = s.view o := by
  refine (run_frame (f := fun s => if 2 ≤ s.get Obj.powerState then metrologySample inputs s else s) ?_ run).1
  rw [part_ite]
  split
  · exact metrologySample_part q (s := s.fresh) n h inputs
  · rfl

theorem execBusOff_view (h : o.id ∉ Footprint.busOff) {bus : Fin 4} (run : execBusOff bus s = .next t) : t.view o = s.view o := by
  simp only [Footprint.busOff, List.mem_append, List.mem_cons, List.not_mem_nil, or_false, not_or, and_assoc] at h
  obtain ⟨since, recoveries, recent, state, abort, health⟩ := h
  have aborted := (abortAll_spares q abort bus s.fresh n).2
  refine (run_frame ?_ run).1
  dsimp only
  split
  · rfl
  · refine Eq.trans ?_ aborted
    simp only [part_ite, healthItem_part q health, logEvent_part q, part_set since, part_set recent, part_set state, part_setSeq recoveries,
      ite_self]
    rfl

theorem execFrameStart_view (h : o.id ∉ Footprint.frameStart) (run : execFrameStart s = .next t) : t.view o = s.view o := by
  simp only [Footprint.frameStart, List.mem_append, not_or] at h
  obtain ⟨⟨time, next⟩, after⟩ := h
  have counted : Spares o s.fresh (nextFrame (advanceTime (s.get Reg.frameLength) s.fresh)) :=
    .of_waiting (by simp [nextFrame]) ((nextFrame_part q next _).trans (advanceTime_part q time _ _))
  refine (run_frame ?_ run).1
  rw [part_ite]
  split
  · rfl
  · exact ((counted.trans (afterCount_spares q after _)) n).2

theorem execSlowTick_view (h : o.id ∉ Footprint.slowTick) {mism again late : List Nat}
    (run : execSlowTick mism again late s = .next t) : t.view o = s.view o := by
  simp only [Footprint.slowTick, List.mem_append, not_or, and_assoc] at h
  obtain ⟨due, overrun, thermal, slots, cooling, trim, stop, weld, idle, back, last⟩ := h
  have applied := view_of_part (applyDue_spares q due .slowTick s.fresh n).2
  refine run_view ?_ run
  dsimp only
  split
  · rfl
  · refine Eq.trans ?_ applied
    refine (view_of_part ((lastStage_part q last _).trans ((returnToRun_part q back _).trans ((countIdleTime_part q idle _).trans 
      ((forN_part (fun m u => (weldTick_part q weld m _).trans (stopOverdue_part q stop m u)) 24 _).trans 
      ((forN_part (fun p u => trimPhase_part q trim p u) 256 _).trans (coolingTick_part q cooling _))))))).trans 
      ((slowClass_view q slots mism again late _).trans (view_of_part ((thermalTick_part q thermal _).trans (slowOverrun_part q overrun _))))

end
/-! ### The configuration -/

/-- A writable object of class PER, of those that a cycle of the module leaves to the host. -/
def isConfiguration (o : Obj) : Bool := o.cls == .per && (o.right == .rw || o.right == .rws) && o.base != 0x6000 &&
  o.id != Obj.outOfService.id && o.id != Obj.bootSelection.id

def Footprint.cycles : List Nat := Footprint.frameStart ++ (Footprint.slowTick ++ (Footprint.metrologySample ++ Footprint.busOff))

/-- The dictionary's registers come before the hidden ones. -/
theorem id_lt_of_mem_objTable : ∀ o ∈ objTable, o.id < 0x1000000 := by decide +kernel

theorem cycles_hidden_or_free : ∀ n ∈ Footprint.cycles, 0x1000000 ≤ n ∨ ∀ k ∈ (objTable.filter isConfiguration).map Obj.id, k ≠ n := by
  decide +kernel

/-- No cycle writes an object of the configuration. -/
theorem notMem_cycles {o : Obj} (mem : o ∈ objTable) (h : isConfiguration o = true) : o.id ∉ Footprint.cycles := by
  intro written
  obtain hidden | free := cycles_hidden_or_free o.id written
  · exact absurd (id_lt_of_mem_objTable o mem) (Nat.not_lt.2 hidden)
  · exact free o.id (List.mem_map_of_mem (List.mem_filter.2 ⟨mem, h⟩)) rfl

/-! ### The battery domain through a reset -/

theorem storeFind_filter {α : Type} (p : Key → Bool) (m : Store α) {k : Key} (h : p k = true) :
    storeFind (m.filter fun e => p e.1) k = storeFind m k := by
  induction m with
  | nil => rfl
  | cons x m ih =>
    obtain ⟨q, v⟩ := x
    by_cases e : p q = true
    · simp only [List.filter_cons, e, if_true, storeFind, ih]
    · simp only [List.filter_cons, e, Bool.false_eq_true, if_false, storeFind, if_neg (fun x : q = k => e (x ▸ h)), ih]

/-- Cells are dropped without a change to the registers that have not the property. -/
theorem dropCells_view {p : Obj → Bool} {o : Obj} (named : ∀ i j, regOf (o.key i j) = some o) (h : p o = false) (s : State) :
    (s.dropCells p).view o = s.view o := by
  have kept (i j : Nat) : (!cellIs p ⟨o.id, i, j⟩) = true := by
    have r : regOf ⟨o.id, i, j⟩ = some o := named i j
    rw [cellIs, r]
    simp [h]
  simp only [State.view, State.get, State.bytes, State.seq, State.real, State.log, State.dropCells,
    storeFind_filter (fun k => !cellIs p k) _ (kept _ _)]

/-- A power-on reset keeps the battery domain but for the stamp of the reset and the pulses lost. -/
theorem assertReset_view {o : Obj} (named : ∀ i j, regOf (o.key i j) = some o) (bat : o.cls = .bat)
    (h : o.id ∉ [Reg.resetKind.id, Reg.resetSource.id, Reg.resetTime.id, Reg.pulsesLost.id]) (source : Int) (s : State) :
    (assertReset 0 source s).view o = s.view o := by
  simp only [List.mem_cons, List.not_mem_nil, or_false, not_or] at h
  obtain ⟨kind, source', time, lost⟩ := h
  have kept : (!survives 0 o) = false := by simp [survives, bat]
  unfold assertReset
  dsimp only
  simp only [if_neg (by decide : ¬ (2 : Int) ≤ 0), State.forL, List.foldl_nil]
  refine (forN_view (fun k u => view_set lost _ k 0) 4 _).trans ?_
  rw [view_set time, view_set source', view_set kind]
  exact (dropCells_view named kept _).trans (foldl_view (fun n u => by rfl) _ s)

theorem execPllLockLost_view {o : Obj} (named : ∀ i j, regOf (o.key i j) = some o) (bat : o.cls = .bat)
    (h : o.id ∉ [Reg.resetKind.id, Reg.resetSource.id, Reg.resetTime.id, Reg.pulsesLost.id, Reg.supplyHeld.id]) {s t : State}
    (run : execPllLockLost s = .next t) : t.view o = s.view o := by
  simp only [List.mem_cons, List.not_mem_nil, or_false, not_or] at h
  obtain ⟨kind, source, time, lost, held⟩ := h
  refine run_view ?_ run
  exact (view_set held 1 0 0).trans (assertReset_view named bat (by simp [*]) 0 _)

theorem execInternalRailFault_view {o : Obj} (named : ∀ i j, regOf (o.key i j) = some o) (bat : o.cls = .bat)
    (h : o.id ∉ [Reg.resetKind.id, Reg.resetSource.id, Reg.resetTime.id, Reg.pulsesLost.id, Reg.supplyHeld.id, Reg.supplyRaw.id])
    {rail : Fin 27} {s t : State} (run : execInternalRailFault rail s = .next t) : t.view o = s.view o := by
  simp only [List.mem_cons, List.not_mem_nil, or_false, not_or] at h
  obtain ⟨kind, source, time, lost, held, raw⟩ := h
  refine run_view ?_ run
  exact (view_set held 1 0 0).trans ((assertReset_view named bat (by simp [*]) 0 _).trans (view_setSeq raw ..))

/-- Settles O14: the cycles by their footprints and the boundaries by `Spares`; a reset only drops what does not survive it. -/
theorem configurationKept : Obligations.ConfigurationKept := by
  unfold Obligations.ConfigurationKept
  refine ⟨fun c s t o cycle named per right context service boot q n run => ?_, fun s t o named bat h run => ?_,
    fun s t rail o named bat h run => ?_⟩
  · have configured : isConfiguration o = true := by
      obtain rw | rws := right <;> simp [isConfiguration, *]
    have spared := notMem_cycles (List.mem_of_find?_eq_some named) configured
    simp only [Footprint.cycles, List.mem_append, not_or] at spared
    obtain ⟨frame, tick, sample, bus⟩ := spared
    obtain rfl | ⟨m, g, l, rfl⟩ | ⟨p, rfl⟩ | ⟨b, rfl⟩ := cycle
    · exact execFrameStart_view q n frame run
    · exact execSlowTick_view q n tick run
    · exact execMetrologySample_view q n sample run
    · exact execBusOff_view q n bus run
  · exact execPllLockLost_view named bat h run
  · exact execInternalRailFault_view named bat h run

end Sys2Proof.Machine
end

section
/-!
THEOREM. At most 128 transactions are outstanding (R299).
-/

namespace Sys2Proof.Machine

section
variable {s u : State} {r : Req} {space : Nat} (idle : tagBusy u space r.tag = false) (arrived : partlyOf u space r.tag = none)
include idle arrived

/-- Nothing waits under a tag that is neither busy nor arriving. -/
theorem filter_other_tags : (u.waiting.filter fun w => !(w.space == space && w.tag == r.tag)) = u.waiting := by
  refine List.filter_eq_self.2 fun w mem => ?_
  simp only [tagBusy, Bool.or_eq_false_iff, List.any_eq_false] at idle
  have complete := idle.2 w mem
  have partly := List.find?_eq_none.1 arrived w mem
  by_cases mine : w.space = space ∧ w.tag = r.tag
  · simp [mine] at complete partly
    exact absurd (complete.symm.trans partly) (by decide)
  · simpa [imp_iff_not_or] using mine

variable {fn index sub role : Nat} {d : List Byte} {plain : Bool} (known : authenticate r fn index sub d s = .accept u space role plain)
  (full : 128 ≤ outstanding u)
include known full

theorem judgeRequest_of_full : judgeRequest r fn index sub d s = .reply u space 10 := by
  rw [judgeRequest, known]
  simp only [idle, Bool.false_eq_true, if_false, filter_other_tags idle arrived, if_pos full]

end

/-- An answer to a session goes out and leaves what waits. -/
theorem answered {s u : State} {c : Instr} {r : Req} {space fn status : Nat} (session : space ≠ 0)
    (h : exec c s = .next ((u.answer space r fn status).done s.pending)) :
    ∃ t, exec c s = .next t ∧ Emission.answer ⟨space, r.tag, r.epoch, respCode fn, status, []⟩ ∈ t.out ∧ t.waiting = u.waiting := by
  refine ⟨_, h, ?_, ?_⟩
  · rw [done_out, answer_out session]
    exact List.mem_append_right _ (List.mem_singleton_self _)
  · rw [done_waiting, answer_waiting]

/-- Settles O18: the judgement of a request ends at the count of those outstanding. -/
theorem outstandingLimit : Obligations.OutstandingLimit := by
  unfold Obligations.OutstandingLimit
  refine ⟨fun s u r index sub role space d plain complete session known idle full arrived row => ?_,
    fun s u r index sub role space plain complete session known idle full arrived => ?_⟩
  · have judged := judgeRequest_of_full (s := s.fresh) idle arrived known full
    refine answered session (fn := 2) ?_
    change execWrite r index sub d s = _
    rw [execWrite, if_pos complete, row]
    exact run_of_eq (by simp [writeAddress, complete, judged])
  · have judged := judgeRequest_of_full (s := s.fresh) idle arrived known full
    refine answered session (fn := 1) ?_
    change execRead r index sub s = _
    exact run_of_eq (by simp [complete, judged])

end Sys2Proof.Machine
end

section
/-!
THEOREM. The bring-up of a cabinet link (Table 3.11; R58 to R60), one lemma for each step.
-/

namespace Sys2Proof.Machine

/-- A granted write leaves every quiet register as its rule leaves it. -/
theorem granted_leaves {c : Instr} {r : Req} {o : Obj} {i j : Nat} {d : List Byte} {role space : Nat} {s u t : State}
    {fx : Nat → State → Except Nat State} (runs : exec c s = s.run (hostWrite r o i j d fx)) (g : Granted r o i j d role space s u)
    (h : fx role u = .ok t) : ∃ v, exec c s = .next v ∧ ∀ q : Obj, q.quiet = true → ∀ k l, v.get q k l = t.get q k l :=
  ⟨_, runs, fun _ hq k l => (done_get ..).trans (hostWrite_get g h hq k l)⟩

/-! ### The state of a link -/

@[simp] theorem linkState_setLink (c : Nat) (st : Int) (s : State) : (setLink c st s).get Obj.linkState c = st := by
  unfold setLink
  split
  next same => exact same
  next => rw [logEvent_get (by decide), get_set_other _ _ _ _ _ _ _ _ (by decide), get_set_same]

@[simp] theorem linkState_bringUp (c : Nat) (s : State) : (bringUp c s).get Obj.linkState c = lkClock := by
  simp (decide := true) [bringUp, forL_get]

section
variable {s : State} {link : Fin 16}

theorem linkBringUp_begins (may : mayDriveLanes s = true) (down : s.get Obj.linkState link = lkDown)
    (first : s.get Reg.linkSteps link = 0) :
    ∃ t, exec (.linkBringUp link) s = .next t ∧ t.get Obj.linkState link = lkClock ∧ t.get Obj.lanesInService link = 15 ∧
      t.get Reg.linkBringUpAt link = s.now := by
  have begins : mayDriveLanes s.fresh = true := may
  change ∃ t, execLinkBringUp link s = .next t ∧ _
  refine run_yields ?_
  rw [if_pos ⟨begins, .inl ⟨down, .inl first⟩⟩]
  simp (decide := true) [bringUp, forL_get]

theorem restartBringUp_begins {u : State} {r : Req} {d : List Byte} {role space : Nat}
    (g : Granted r Obj.restartBringUp link 0 d role space s u) (off : cabEnergised u link = false) :
    ∃ t, exec (.restartBringUp r link d) s = .next t ∧ t.get Obj.linkState link = lkClock ∧ t.get Reg.linkSteps link = 1 := by
  obtain ⟨t, run, reads⟩ := granted_leaves (c := .restartBringUp r link d) rfl g (if_neg (Bool.eq_false_iff.1 off))
  refine ⟨t, run, ?_, ?_⟩
  · rw [reads _ (by decide), linkState_bringUp]
  · rw [reads _ (by decide)]
    simp (decide := true) [bringUp, forL_get]

theorem ckuDetected_aligns (clock : s.get Obj.linkState link = lkClock) :
    ∃ t, exec (.ckuDetected link) s = .next t ∧ t.get Obj.linkState link = lkAlign ∧ t.get Reg.ckuPresent link = 1 := by
  change ∃ t, execCkuDetected link s = .next t ∧ _
  refine run_yields ?_
  simp (decide := true) [clock]

/-- A lane with 12 scans and a good eye. -/
def LaneReady (s : State) (c l : Nat) : Prop := 12 ≤ s.get Reg.laneScans (4 * c + l) ∧ 96 ≤ s.get Obj.eyeFigure c l

theorem alignComplete_syncs (align : s.get Obj.linkState link = lkAlign) (ready : ∀ l ∈ [0, 1, 2, 3], LaneReady s link l)
    (up : laneIn s link 0 = true) (down : laneIn s link 2 = true) :
    ∃ t, exec (.alignComplete link) s = .next t ∧ t.get Obj.linkState link = lkSync := by
  have lanes : laneIn s.fresh link 0 = true ∧ laneIn s.fresh link 2 = true := ⟨up, down⟩
  change ∃ t, execAlignComplete link s = .next t ∧ _
  refine run_yields ?_
  simp (decide := true) [align, lanes, LaneReady] at ready ⊢
  simp [ready]

theorem trainingFrame_identifies {lane : Fin 2} {arrival : Nat} {line : List Bool} {b : List Byte}
    (received : (receiveLine link lane (s.getN Reg.rxLine (4 * link + lane)) line).1 = Received.good typeTraining b)
    (type : fieldU b 0 1 = 0x14) (mine : fieldU b 1 1 / 16 = link) (confirms : fieldU b 1 1 % 16 = 3)
    (sync : s.get Obj.linkState link = lkSync) :
    ∃ t, exec (.trainingFrame link lane arrival line) s = .next t ∧ t.get Obj.linkState link = lkIdent ∧
      t.get Obj.eyeFigure link 2 = fieldU b 4 1 ∧ t.get Obj.eyeFigure link 3 = fieldU b 5 1 := by
  change ∃ t, execTrainingFrame link lane arrival line s = .next t ∧ _
  refine run_yields ?_
  simp (decide := true) [receive, received, takeTraining, type, mine, confirms, sync, get_set]

theorem configurationCrcReturned_commands (config : s.get Obj.linkState link = lkConfig)
    (crc : s.get Reg.configCrc link = crc32 (s.bytes Obj.terminalConfigurationImage link) + 1) :
    ∃ t, exec (.configurationCrcReturned link) s = .next t ∧ t.get Reg.linkCommanded link = 1 ∧
      t.get Obj.appliedImageCRC link = crc32 (s.bytes Obj.terminalConfigurationImage link) := by
  change ∃ t, execConfigurationCrcReturned link s = .next t ∧ _
  refine run_yields ?_
  simp (decide := true) [config, crc]
  omega

theorem bringUpTimeout_refuses (began : lkClock ≤ s.get Obj.linkState link) (pending : s.get Obj.linkState link ≤ lkConfig)
    (late : s.getN Reg.linkBringUpAt link + 4 * second ≤ s.now) (declared : cabDeclared s link = true) :
    ∃ t, exec (.bringUpTimeout link) s = .next t ∧ t.get Obj.linkState link = lkRefused ∧ t.get Obj.lastRefusalCause link = 1 := by
  have listed : cabDeclared s.fresh link = true := declared
  change ∃ t, execBringUpTimeout link s = .next t ∧ _
  refine run_yields ?_
  dsimp only
  rw [if_pos ⟨began, pending, late⟩, if_pos listed]
  simp (decide := true) [refuseLink, forL_get]

theorem identityRead_configures (ident : s.get Obj.linkState link = lkIdent) (whole : (s.bytes Reg.identityData link).length = 44)
    (declared : cabDeclared s link = true) (version : fieldU (s.bytes Reg.identityData link) 0 2 = s.get Obj.declaredVersion link)
    (phases : fieldU (s.bytes Reg.identityData link) 2 1 = s.get Obj.declaredPhaseCount link)
    (blocks : fieldU (s.bytes Reg.identityData link) 3 1 = s.get Obj.declaredBlockCount link)
    (contactors : fieldU (s.bytes Reg.identityData link) 4 1 = s.get Obj.declaredContactorCount link)
    (anySerial : s.bytes Obj.declaredSerial link = List.replicate 8 0)
    (ready : fieldU (s.bytes Reg.identityData link) 8 2 ≤ s.get Obj.samplingLead + 400) :
    ∃ t, exec (.identityRead link) s = .next t ∧ t.get Obj.linkState link = lkConfig ∧
      t.bytes Obj.idSerial link = ((s.bytes Reg.identityData link).drop 32).take 8 := by
  have listed : cabDeclared (storeIdentity link (s.bytes Reg.identityData link) s.fresh) link = true := by
    simpa (decide := true) [cabDeclared, State.is] using declared
  have matched : identityMatches (storeIdentity link (s.bytes Reg.identityData link) s.fresh) link = true := by
    simp (decide := true) [identityMatches, storeIdentity, version, phases, blocks, contactors, anySerial]
  have time : ¬ s.get Obj.samplingLead + 400 <
      (storeIdentity link (s.bytes Reg.identityData link) s.fresh).get Obj.idReadyTime link := by
    simpa (decide := true) [storeIdentity] using ready
  have serial (d : List Byte) (u : State) : (sendInPieces link 2 0 d u).bytes Obj.idSerial link = u.bytes Obj.idSerial link :=
    bytes_of_view (view_of_part (sendInPieces_part (by decide) (by decide) ..)) ..
  have linked (st : Int) (u : State) : (setLink link st u).bytes Obj.idSerial link = u.bytes Obj.idSerial link :=
    bytes_of_view (view_of_part (setLink_part (by decide) (by decide) ..)) ..
  change ∃ t, execIdentityRead link s = .next t ∧ _
  refine run_yields ?_
  simp (decide := true) [ident, whole, listed, matched, time, serial, linked]
  simp (decide := true) [storeIdentity]

end

/-- Settles O23, one lemma for each step. -/
theorem cabinetLinkBringUp : Obligations.CabinetLinkBringUp := by
  unfold Obligations.CabinetLinkBringUp
  refine ⟨fun _ _ => linkBringUp_begins, fun _ _ _ _ _ _ _ => restartBringUp_begins, fun _ _ => ckuDetected_aligns, ?_,
    fun _ _ _ _ _ _ => trainingFrame_identifies, fun _ _ => identityRead_configures,
    fun _ _ => configurationCrcReturned_commands, fun _ _ => bringUpTimeout_refuses⟩
  intro s link align scans0 eye0 scans1 eye1 scans2 eye2 scans3 eye3 up down
  have ready : ∀ l ∈ [0, 1, 2, 3], LaneReady s link l := by
    simp only [List.forall_mem_cons]
    exact ⟨⟨scans0, eye0⟩, ⟨scans1, eye1⟩, ⟨scans2, eye2⟩, ⟨scans3, eye3⟩, nofun⟩
  exact alignComplete_syncs align ready up down

end Sys2Proof.Machine
end

section
/-!
THEOREM. A running cabinet link (R28, R53, R54, R56, R64 to R66), one lemma for each of what it takes, counts and loses.
-/

namespace Sys2Proof.Machine

theorem queueItem_get {o : Obj} (q : o.quiet = true) (ch kind : Nat) (item : List Byte) (s : State) (i j : Nat) :
    (queueItem ch kind item s).get o i j = s.get o i j := get_of_view (queueItem_view q ch kind item s) i j

/-- A service frame of the terminal itself shows what the terminal has acknowledged. -/
theorem takeService_acked {c l : Nat} {b : List Byte} (mine : ofBytes ((b.drop 1).take 1) / 16 = c) (s : State) :
    (takeService c l b s).get Reg.serviceTxAcked (2 * c + l) = ofBytes ((b.drop 12).take 2) := by
  rw [takeService, if_neg (not_not.2 mine)]
  simp (decide := true) only [get_ite, queueItem_get, get_set_other, get_setBytes, get_sendAck, get_pumpService, get_set_same, ite_self]

section
variable {s : State} {link : Fin 16}

theorem telemetryFrame_marks_good {lane : Fin 2} {line : List Bool} {b : List Byte}
    (received : (receiveLine link lane (s.getN Reg.rxLine (4 * link + lane)) line).1 = Received.good typeControl b)
    (fits : telemetryFits s link b = true) (early : s.is Reg.deadlinePassed = false) :
    ∃ t, exec (.telemetryFrame link lane line) s = .next t ∧ t.get Reg.linkGood link = 1 := by
  have due : telemetryFits (s.fresh.set Reg.rxLine (receiveLine link lane (s.getN Reg.rxLine (4 * link + lane)) line).2
      (4 * link + lane)) link b = true := by
    simpa (decide := true) [telemetryFits] using fits
  change ∃ t, execTelemetryFrame link lane line s = .next t ∧ _
  refine run_yields ?_
  have awaited : ¬ s.get Reg.deadlinePassed = 1 := by simpa [State.is] using early
  simp (decide := true) [receive, received, takeTelemetry, due, State.is, awaited]

theorem serviceFrame_acknowledged {lane : Fin 2} {line : List Bool} {b : List Byte}
    (received : (receiveLine link lane (s.getN Reg.rxLine (4 * link + lane)) line).1 = Received.good typeService b)
    (mine : ofBytes ((b.drop 1).take 1) / 16 = link) :
    ∃ t, exec (.serviceFrame link lane line) s = .next t ∧
      t.get Reg.serviceTxAcked (2 * link + lane) = ofBytes ((b.drop 12).take 2) := by
  change ∃ t, execServiceFrame link lane line s = .next t ∧ _
  refine run_yields ?_
  simp only [receive, fresh_getN, received, if_true, done_get, takeService_acked mine]

theorem eyeScan_recorded {lane : Fin 4} {ef : Fin 256} (began : lkAlign ≤ s.get Obj.linkState link)
    (up : s.get Obj.linkState link ≤ lkOneLane) (low : 64 ≤ ef.val) (high : ef.val < 96) :
    ∃ t, exec (.eyeScanComplete link lane ef) s = .next t ∧ t.get Obj.eyeFigure link lane = ef.val ∧
      t.get Reg.laneGoodScans (4 * link + lane) = 0 ∧ t.get Reg.laneLowScans (4 * link + lane) = 0 ∧
      t.get Reg.laneScans (4 * link + lane) = s.get Reg.laneScans (4 * link + lane) + 1 := by
  change ∃ t, execEyeScanComplete link lane ef s = .next t ∧ _
  refine run_yields ?_
  simp (decide := true) [began, up, eyeScan, low.not_gt, high.not_ge]

theorem serviceResend_repeats {lane : Fin 2} {b : List Byte} {rest : List (List Byte)}
    (queued : s.log Reg.serviceQueue (2 * link + lane) = b :: rest)
    (stuck : s.getN Reg.serviceProgressAt (2 * link + lane) + 16 ≤ s.frame)
    (again : s.get Reg.serviceResendRun (2 * link + lane) < 8) :
    ∃ t, exec (.serviceResendTimeout link lane) s = .next t ∧
      t.get Obj.serviceResends link = (s.get Obj.serviceResends link + 1) % 4294967296 ∧
      t.get Reg.serviceResendRun (2 * link + lane) = s.get Reg.serviceResendRun (2 * link + lane) + 1 := by
  change ∃ t, execServiceResendTimeout link lane s = .next t ∧ _
  refine run_yields ?_
  simp (decide := true) [queued, stuck.not_gt, again.not_ge, foldl_get]

theorem staleLimit_loses (up : linkUp s link = true) (stale : s.get Obj.staleLimit ≤ s.get Reg.linkMisses link) :
    ∃ t, exec (.staleLimitReached link) s = .next t ∧ t.get Obj.linkState link = lkLost := by
  change ∃ t, execStaleLimitReached link s = .next t ∧ _
  refine run_yields ?_
  have running : linkUp s.fresh link = true := up
  rw [if_pos ⟨running, .inl stale⟩]
  simp (decide := true) [loseLink]

theorem dispatchMiss_counted (up : linkUp s link = true) (missed : s.getN Reg.dispatchedFrame link ≠ s.frame + 1) :
    ∃ t, exec (.dispatchDeadline link) s = .next t ∧ t.get Obj.dispatchMisses = (s.get Obj.dispatchMisses + 1) % 4294967296 ∧
      t.get Reg.linkDispatchMisses link = s.get Reg.linkDispatchMisses link + 1 := by
  have running : linkUp s.fresh link = true := up
  change ∃ t, execDispatchDeadline link s = .next t ∧ _
  refine run_yields ?_
  rw [if_pos ⟨running, missed⟩]
  simp (decide := true)

theorem lostKeepAlive_opens (lost : s.get Obj.linkState link = lkLost) (late : s.getN Reg.linkSince link + 50 ≤ s.frame) :
    ∃ t, exec (.linkLostKeepAliveEnd link) s = .next t ∧ t.get Reg.contactorWord link = 0 := by
  change ∃ t, execLinkLostKeepAliveEnd link s = .next t ∧ _
  refine run_yields ?_
  rw [if_pos ⟨lost, late⟩, done_get, forL_get, get_set_same]
  intro b u
  simp (decide := true)

theorem lostRetry_aligns (lost : s.get Obj.linkState link = lkLost) (late : s.getN Reg.linkSince link + 500 ≤ s.frame)
    (clocked : s.is Reg.ckuPresent link = true) (steady : s.is Reg.firmwareActivating link = false) :
    ∃ t, exec (.linkLostRetry link) s = .next t ∧ t.get Obj.linkState link = lkAlign ∧ t.get Reg.linkBringUpAt link = s.now := by
  change ∃ t, execLinkLostRetry link s = .next t ∧ _
  refine run_yields ?_
  simp (decide := true) [lost, late, clocked, steady, bringUp, forL_get]

variable {u : State} {r : Req} {d : List Byte} {role space : Nat}

theorem firmwareData_advances (g : Granted r Obj.firmwareData link 0 d role space s u) :
    ∃ t, exec (.firmwareDataWrite r link d) s = .next t ∧
      t.get Obj.firmwareWriteOffset link = (u.get Obj.firmwareWriteOffset link + d.length) % 4294967296 := by
  obtain ⟨t, run, reads⟩ := granted_leaves (c := .firmwareDataWrite r link d) rfl g rfl
  exact ⟨t, run, by rw [reads _ (by decide), get_set_same]⟩

theorem activateTerminalFirmware_begins (g : Granted r Obj.activateTerminalFirmware link 0 d role space s u)
    (off : cabEnergised u link = false) :
    ∃ t, exec (.activateTerminalFirmware r link d) s = .next t ∧ t.get Reg.firmwareActivating link = 1 := by
  obtain ⟨t, run, reads⟩ := granted_leaves (c := .activateTerminalFirmware r link d) rfl g (if_neg (Bool.eq_false_iff.1 off))
  exact ⟨t, run, by rw [reads _ (by decide), get_sendService (by decide) (by decide), get_set_same]⟩

end

/-- Settles O24, one lemma for each clause. -/
theorem cabinetLinkRuns : Obligations.CabinetLinkRuns := by
  unfold Obligations.CabinetLinkRuns
  exact ⟨fun _ _ _ _ _ => telemetryFrame_marks_good, fun _ _ _ _ _ => serviceFrame_acknowledged, fun _ _ _ _ => eyeScan_recorded,
    fun _ _ _ _ _ => serviceResend_repeats, fun _ _ => staleLimit_loses, fun _ _ => dispatchMiss_counted,
    fun _ _ => lostKeepAlive_opens, fun _ _ => lostRetry_aligns, fun _ _ _ _ _ _ _ => firmwareData_advances,
    fun _ _ _ _ _ _ _ => activateTerminalFirmware_begins⟩

end Sys2Proof.Machine
end

section
/-!
SUPPORT. Single bits of a register (`State.bit`, `State.setBit`).
-/

namespace Sys2Proof.Machine

/-- Adding a power of two whose bit is clear sets that bit and no other. -/
theorem testBit_add_two_pow {n b : Nat} (clear : n.testBit b = false) (k : Nat) :
    (n + 2 ^ b).testBit k = (decide (k = b) || n.testBit k) := by
  obtain lower | rfl | upper := Nat.lt_trichotomy k b
  · rw [Nat.add_comm, Nat.testBit_two_pow_add_gt lower, decide_eq_false lower.ne, Bool.false_or]
  · simp [Nat.add_comm n, Nat.testBit_two_pow_add_eq, clear]
  · obtain ⟨j, rfl⟩ := Nat.exists_eq_add_of_lt upper
    have even : n / 2 ^ b % 2 = 0 := by
      simpa [Nat.testBit_eq_decide_div_mod_eq] using clear
    have half : (n + 2 ^ b) / 2 ^ (b + j + 1) = n / 2 ^ (b + j + 1) := by
      rw [show b + j + 1 = b + (1 + j) by omega, pow_add, ← Nat.div_div_eq_div_mul, ← Nat.div_div_eq_div_mul,
        Nat.add_div_right _ (by positivity), pow_add, ← Nat.div_div_eq_div_mul, ← Nat.div_div_eq_div_mul, pow_one,
        show (n / 2 ^ b).succ / 2 = n / 2 ^ b / 2 by omega]
    rw [Nat.testBit_eq_decide_div_mod_eq, half, decide_eq_false upper.ne', Bool.false_or, Nat.testBit_eq_decide_div_mod_eq]

/-- `withBit` changes the bit it names and no other. -/
theorem testBit_withBit (v : Int) (b : Nat) (on : Bool) (k : Nat) :
    (withBit v b on).toNat.testBit k = if k = b then on else v.toNat.testBit k := by
  unfold withBit
  dsimp only
  split
  next same => split <;> simp_all
  next differs =>
    cases on
    · have set : v.toNat.testBit b = true := by simpa using differs
      have split : v.toNat - 2 ^ b + 2 ^ b = v.toNat := Nat.sub_add_cancel (Nat.ge_two_pow_of_testBit set)
      have clear : (v.toNat - 2 ^ b).testBit b = false := by
        have flipped := Nat.testBit_two_pow_add_eq (v.toNat - 2 ^ b) b
        rw [Nat.add_comm, split, set] at flipped
        simpa using flipped.symm
      have bits := testBit_add_two_pow clear k
      rw [split] at bits
      simp only [Bool.false_eq_true, if_false, Int.toNat_natCast]
      split
      next same => simpa [same] using clear
      next other => simpa [other] using bits.symm
    · have clear : v.toNat.testBit b = false := by simpa using differs
      simp only [if_true, Int.toNat_natCast, testBit_add_two_pow clear]
      split <;> simp_all

theorem ne_zero_of_testBit {v : Int} {k : Nat} (h : v.toNat.testBit k = true) : v ≠ 0 := by
  rintro rfl
  simp at h

/-- Setting a bit of a register changes that bit alone. -/
theorem bit_setBit (s : State) (o : Obj) (b : Nat) (on : Bool) (i j k : Nat) :
    (s.setBit o b on i j).bit o k i j = if k = b then on else s.bit o k i j := by
  rw [State.bit, State.getN, State.setBit, get_set_same, testBit_withBit]
  rfl

end Sys2Proof.Machine
end

section
/-!
THEOREM. What an outlet takes from its inputs (R157 to R160, R173, R181).
-/

namespace Sys2Proof.Machine

set_option Elab.async false

section
variable {s : State} {outlet : Fin 24}

/-- Before the pilot is driven its readings are shown and judged no further. -/
theorem pilot_shown {a b : Int} (undriven : s.get Obj.pilotState outlet = 5) :
    ∃ t, exec (.pilotStateChange outlet [(a, b)]) s = .next t ∧ t.get Obj.pilotPositive outlet = a ∧
      t.get Obj.pilotNegative outlet = b ∧ t.get Obj.pilotState outlet = 5 := by
  change ∃ t, execPilotStateChange outlet [(a, b)] s = .next t ∧ _
  refine run_yields ?_
  simp (decide := true) [takePilot, threeAgree, undriven]

theorem proximity_shown (x : Nat) : ∃ t, exec (.proximityStateChange outlet [x]) s = .next t ∧
    t.get Obj.proximityResistance outlet = (min 65535 x : Nat) := by
  change ∃ t, execProximityStateChange outlet [x] s = .next t ∧ _
  refine run_yields ?_
  simp [takeProximity, threeAgree]

theorem hvil_shown (x : Nat) : ∃ t, exec (.hvilStateChange outlet [x]) s = .next t ∧
    t.get Obj.hvilResistance outlet = (min 65535 x : Nat) := by
  change ∃ t, execHvilStateChange outlet [x] s = .next t ∧ _
  refine run_yields ?_
  simp [takeHvil, threeAgree]

theorem contactorFault_cleared {u : State} {r : Req} {d : List Byte} {role space : Nat}
    (g : Granted r Obj.clearContactorFault outlet 0 d role space s u) (open_ : u.get Obj.contactorFeedback outlet = 0) :
    ∃ t, exec (.clearContactorFault r outlet d) s = .next t ∧ t.get Reg.contactorFault outlet = 0 := by
  obtain ⟨t, run, reads⟩ := granted_leaves (c := .clearContactorFault r outlet d) rfl g (if_neg (not_not.2 open_))
  refine ⟨t, run, ?_⟩
  rw [reads _ (by decide)]
  simp (decide := true)

theorem imdStatus_taken {frame : List Byte} (whole : frame.length = 8) :
    ∃ t, exec (.imdStatusFrame outlet frame) s = .next t ∧ t.get Reg.imdStatus outlet = ofBytes (frame.take 1) ∧
      t.get Obj.insulationResistance outlet = ofBytes ((frame.drop 2).take 4) ∧ t.get Reg.imdAt outlet = s.now := by
  have silence : ∀ n ∈ [Reg.imdStatus.id, Obj.insulationResistance.id, Reg.imdAt.id], n ∉ Footprint.imdSilence := by decide +kernel
  have judged : ∀ n ∈ [Reg.imdStatus.id, Obj.insulationResistance.id, Reg.imdAt.id], n ∉ Footprint.judgeInsulation := by decide +kernel
  simp only [List.forall_mem_cons] at silence judged
  change ∃ t, execImdStatusFrame outlet frame s = .next t ∧ _
  refine run_yields ?_
  simp (decide := true) only [silence, judged, takeImd, whole, ne_eq, if_false, done_get, get_ite, get_imdSilence,
    get_tryCloseContactors, get_judgeInsulation, get_set_other, get_set_same, fresh_now, ite_self, and_self]

theorem imdSilence_noticed (silent : s.getN Reg.imdAt outlet + 300 * millisecond ≤ s.now) :
    ∃ t, exec (.imdSilent outlet) s = .next t ∧ t.get Reg.imdSilent outlet = 1 := by
  change ∃ t, execImdSilent outlet s = .next t ∧ _
  refine run_yields ?_
  simp (decide := true) [silent, imdSilence, State.is]

theorem imdKeepAlive_sent (due : s.getN Reg.imdSentAt outlet + second ≤ s.now) :
    ∃ t, exec (.imdKeepAlive outlet) s = .next t ∧
      t.get Reg.imdSequence outlet = (s.get Reg.imdSequence outlet + 1) % 256 ∧ t.get Reg.imdSentAt outlet = s.now := by
  change ∃ t, execImdKeepAlive outlet s = .next t ∧ _
  refine run_yields ?_
  simp (decide := true) [due, imdSend]

theorem weldTest_second_half (first : s.get Reg.weldHalf outlet = 1) (whole : 100 ≤ s.get Reg.weldRun outlet) :
    ∃ t, exec (.weldTestHalfComplete outlet) s = .next t ∧ t.get Reg.weldHalf outlet = 2 ∧ t.get Reg.weldRun outlet = 0 := by
  change ∃ t, execWeldTestHalfComplete outlet s = .next t ∧ _
  refine run_yields ?_
  simp (decide := true) [first, whole.not_gt, beginWeldHalf]

/-! ### A contactor whose feedback differs from its command -/

/-- The judgement of one contactor of the outlet (R160). -/
def judgeFeedback (n cmd fb k : Nat) (s : State) : State :=
  if bitDiffers cmd fb k then
    logEvent 0x4016 srcAp0 (data8 [n, k]) (s.setBit Reg.contactorFault (if fb.testBit k then k else k + 2) true n)
  else s.setBit Reg.contactorFault (k + 2) false n

theorem bit_judgeFeedback (n cmd fb k : Nat) (s : State) (b : Nat) :
    (judgeFeedback n cmd fb k s).bit Reg.contactorFault b n =
      if bitDiffers cmd fb k then (if b = if fb.testBit k then k else k + 2 then true else s.bit Reg.contactorFault b n)
      else if b = k + 2 then false else s.bit Reg.contactorFault b n := by
  have logged (d : List Byte) (u : State) :
      (logEvent 0x4016 srcAp0 d u).bit Reg.contactorFault b n = u.bit Reg.contactorFault b n := by
    rw [State.bit, State.getN, logEvent_get (by decide)]
    rfl
  unfold judgeFeedback
  split
  · rw [logged, bit_setBit]
  · rw [bit_setBit]

/-- Of two contactors one at least is marked when the patterns differ. -/
theorem marked_of_differs {n cmd fb : Nat} (s : State) (differs : bitDiffers cmd fb 0 = true ∨ bitDiffers cmd fb 1 = true) :
    (judgeFeedback n cmd fb 1 (judgeFeedback n cmd fb 0 s)).get Reg.contactorFault n ≠ 0 := by
  suffices h : ∃ b, (judgeFeedback n cmd fb 1 (judgeFeedback n cmd fb 0 s)).bit Reg.contactorFault b n = true from
    ne_zero_of_testBit h.choose_spec
  by_cases second : bitDiffers cmd fb 1 = true
  · exact ⟨if fb.testBit 1 then 1 else 3, by rw [bit_judgeFeedback, if_pos second, if_pos rfl]⟩
  · have first := differs.resolve_right second
    refine ⟨if fb.testBit 0 then 0 else 2, ?_⟩
    rw [bit_judgeFeedback, if_neg second, if_neg (by split <;> decide), bit_judgeFeedback, if_pos first, if_pos rfl]

/-- Patterns of two contactors that differ differ in one of them. -/
theorem bitDiffers_of_ne : ∀ a < 4, ∀ b < 4, a ≠ b → bitDiffers a b 0 = true ∨ bitDiffers a b 1 = true := by decide

theorem commandedBits_lt (s : State) (n : Nat) : commandedBits s n < 4 := by
  unfold commandedBits
  split <;> split <;> decide

theorem contactorFault_marked {feedback : Fin 4} (settled : s.getN Reg.coilsAt outlet + 100 * millisecond < s.now)
    (differs : commandedBits s outlet ≠ feedback) :
    ∃ t, exec (.contactorFeedbackFault outlet feedback) s = .next t ∧
      t.get Obj.contactorFeedback outlet = feedback.val ∧ t.get Reg.contactorFault outlet ≠ 0 := by
  have late : s.fresh.getN Reg.coilsAt outlet + 100 * millisecond < s.fresh.now ∧ commandedBits s.fresh outlet ≠ feedback :=
    ⟨settled, differs⟩
  have bits := bitDiffers_of_ne _ (commandedBits_lt s.fresh outlet) _ feedback.isLt differs
  change ∃ t, execContactorFeedbackFault outlet feedback s = .next t ∧ _
  refine run_yields ?_
  unfold feedbackFault
  dsimp only
  rw [if_pos late]
  simp only [done_get]
  rw [get_refreshAvail (by decide) (by decide), get_refreshAvail (by decide) (by decide), get_outletFault (by decide) (by decide),
    get_outletFault (by decide) (by decide)]
  refine ⟨?_, marked_of_differs _ bits⟩
  rw [forL_get, get_set_same]
  intro k u
  simp (decide := true)

end

/-- Settles O25, one lemma for each input. -/
theorem outletInputsTaken : Obligations.OutletInputsTaken := by
  unfold Obligations.OutletInputsTaken
  exact ⟨fun _ _ _ _ => pilot_shown, fun _ _ => proximity_shown, fun _ _ => hvil_shown, fun _ _ _ => contactorFault_marked,
    fun _ _ _ _ _ _ _ => contactorFault_cleared, fun _ _ _ => imdStatus_taken, fun _ _ => imdSilence_noticed,
    fun _ _ => imdKeepAlive_sent, fun _ _ => weldTest_second_half⟩

end Sys2Proof.Machine
end

section
/-!
THEOREM. A charging session opens (R162 to R165, R167, R169, R182, R187, R188), one lemma for each step.
-/

namespace Sys2Proof.Machine

/-! ### The state of an outlet -/

@[simp] theorem outletState_setOutlet (n : Nat) (st : Int) (s : State) : (setOutlet n st s).get Obj.outletState n = st := by
  unfold setOutlet
  split
  next same => exact same
  next => simp (decide := true)

@[simp] theorem outletState_toClosing (n : Nat) (s : State) : (toClosing n s).get Obj.outletState n = 9 := by
  simp (decide := true) [toClosing]

@[simp] theorem outletState_closeEarly (n : Nat) (kind cause : Int) (s : State) :
    (closeEarly n kind cause s).get Obj.outletState n = 9 := by
  rw [closeEarly, outletState_toClosing]

theorem bytes_setB (s : State) (o q : Obj) (v : Bool) (i j k l : Nat) : (s.setB q v i j).bytes o k l = s.bytes o k l := rfl

theorem bytes_logEvent {o : Obj} (q : o.quiet = true) (code src : Nat) (d : List Byte) (s : State) (i j : Nat) :
    (logEvent code src d s).bytes o i j = s.bytes o i j := bytes_of_view (view_of_part (logEvent_part q code src d s)) i j

/-- A fault before CABLE_CHECK takes the outlet to CLOSING. -/
theorem outletFault_early {n : Nat} {s : State} (connected : 1 ≤ s.get Obj.outletState n) (early : s.get Obj.outletState n < 4)
    (cause : Int) (marked : Bool) :
    outletFault n cause marked s = closeEarly n (kindOf (reactionOf cause 4 marked)) cause s := by
  unfold outletFault
  dsimp only
  rw [if_neg (by omega : ¬ (7 ≤ s.get Obj.outletState n ∧ s.get Obj.outletState n < 9 ∧ s.get Reg.stopKind n = 1 ∧
    s.getN Reg.stopFrame n = s.frame)), if_neg (by omega), if_pos early]

section
variable {s : State} {outlet : Fin 24}

theorem slacParm_begins_run {runId : Nat} (ccs : s.get Obj.outletMode outlet = 0) (pwm : pwmRuns s outlet = true)
    (connected : s.get Obj.pilotState outlet = 1) (random : randomGood s = true) :
    ∃ t, exec (.cmSlacParmReq outlet runId) s = .next t ∧ t.get Reg.slacRun outlet = runId + 1 := by
  have runs : pwmRuns s.fresh outlet = true ∧ randomGood s.fresh = true := ⟨pwm, random⟩
  change ∃ t, execCmSlacParmReq outlet runId s = .next t ∧ _
  refine run_yields ?_
  simp [ccs, connected, runs, respond]

theorem slacArbitration_records {runId a : Nat} (connected : s.get Obj.outletState outlet = 1) :
    ∃ t, exec (.slacRunArbitration runId [(outlet, a)]) s = .next t ∧
      t.get Obj.slacMeanAttenuation outlet = (min 255 a : Nat) := by
  change ∃ t, execSlacRunArbitration runId [(outlet, a)] s = .next t ∧ _
  refine run_yields ?_
  simp [arbitrate, connected, respond]

theorem sdp_answered (secure : (s.getN Obj.protocolMask outlet).testBit 2 = true) :
    ∃ t, exec (.sdpRequest outlet true) s = .next t ∧
      t.out = [Emission.vehicle outlet 3 [noticeOf s outlet, 49152 + (outlet.val : Int), 0]] := by
  change ∃ t, execSdpRequest outlet true s = .next t ∧ _
  refine run_yields ?_
  simp [secure, respond]
  rfl

theorem tcp_opens (closed : s.is Reg.tcpOpen outlet = false) :
    ∃ t, exec (.tcpConnection outlet) s = .next t ∧ t.get Reg.tcpOpen outlet = 1 := by
  change ∃ t, execTcpConnection outlet s = .next t ∧ _
  refine run_yields ?_
  simp [closed, respond]

theorem appProtocol_identifies {option : Nat} (connected : s.get Obj.outletState outlet = 1)
    (allowed : optionAllowed s outlet option = true) :
    ∃ t, exec (.supportedAppProtocol outlet [option]) s = .next t ∧ t.get Obj.outletState outlet = 2 ∧
      t.get Obj.protocolInUse outlet = protocolOf option := by
  have offered : optionAllowed s.fresh outlet option = true := allowed
  change ∃ t, execSupportedAppProtocol outlet [option] s = .next t ∧ _
  refine run_yields ?_
  simp (decide := true) [connected, offered, respond]

theorem communicationLost_closes (connected : 1 ≤ s.get Obj.outletState outlet) (early : s.get Obj.outletState outlet < 4) :
    ∃ t, exec (.communicationLost outlet) s = .next t ∧ t.get Reg.vehicleStopped outlet = 1 ∧
      t.get Obj.outletState outlet = 9 := by
  change ∃ t, execCommunicationLost outlet s = .next t ∧ _
  refine run_yields ?_
  rw [outletFault_early (by simpa (decide := true) using connected) (by simpa (decide := true) using early)]
  simp (decide := true)

theorem identifier_shown {contract good : Bool} {evccid emaid : List Byte} (identifying : s.get Obj.outletState outlet = 2)
    (free : contextOf s outlet = none) :
    ∃ t, exec (.vehicleIdentified outlet contract good evccid emaid) s = .next t ∧
      t.bytes Obj.evccid outlet = fitBytes 6 evccid := by
  have unbound : contextOf s.fresh outlet = none := free
  have refused (cause : Int) (u : State) : (refuseSession outlet cause u).bytes Obj.evccid outlet = u.bytes Obj.evccid outlet :=
    bytes_of_view (view_of_part (refuseSession_part (by decide) (by decide) ..)) ..
  have bound (c : Nat) (u : State) :
      (bindContext outlet c contract evccid emaid u).bytes Obj.evccid outlet = u.bytes Obj.evccid outlet :=
    bytes_of_view (view_of_part (bindContext_part (by decide) (by decide) ..)) ..
  change ∃ t, execVehicleIdentified outlet contract good evccid emaid s = .next t ∧ _
  refine run_yields ?_
  rw [identified, if_neg (by simp [identifying, unbound]), done_bytes]
  dsimp only
  split
  · simp [respond]
  · split
    · simp [refused, bytes_setB]
    · split
      · simp [refused, bytes_setB]
      · split
        · simp [refused, bytes_setB]
        · simp [refused, bound, bytes_setB]

theorem authorisation_granted (authorised : s.get Obj.outletState outlet = 3) :
    ∃ t, exec (.authorisationRequest outlet) s = .next t ∧ t.out = [Emission.vehicle outlet 7 [noticeOf s outlet, 1]] := by
  change ∃ t, execAuthorisationRequest outlet s = .next t ∧ _
  refine run_yields ?_
  simp [authorised, respond]
  rfl

theorem authorisation_written {u : State} {r : Req} {ctx : Fin 250} {outlet : Nat} {d : List Byte} {role space : Nat}
    (g : Granted r Obj.ctxAuthorisation ctx 0 d role space s u) (one : ofBytes d = 1) (flushed : flushContext ctx u = u)
    (bound : outletOf u ctx = some outlet) (open_ : u.get Obj.ctxState ctx = cxBound) (identifying : u.get Obj.outletState outlet = 2)
    (undecided : u.get Obj.ctxAuthorisation ctx = 0) :
    ∃ t, exec (.authorisationWrite r ctx d) s = .next t ∧ t.get Obj.ctxAuthorisation ctx = 1 ∧
      t.get Obj.outletState outlet = 3 := by
  obtain ⟨t, run, reads⟩ := granted_leaves (c := .authorisationWrite r ctx d) (t := authoriseOutlet outlet ctx u) rfl g
    (by simp [flushed, one, bound, open_, identifying, undecided])
  refine ⟨t, run, ?_, ?_⟩
  · rw [reads _ (by decide)]
    simp (decide := true) [authoriseOutlet]
  · rw [reads _ (by decide), authoriseOutlet, outletState_setOutlet]

theorem authorisation_expires (identifying : s.get Obj.outletState outlet = 2) (bound : contextOf s outlet ≠ none)
    (late : s.get Reg.authorisationAt outlet + s.get Obj.authorisationTimeout outlet * second ≤ s.now) :
    ∃ t, exec (.authorisationTimeout outlet) s = .next t ∧ t.get Obj.outletState outlet = 9 := by
  have expired : s.fresh.get Obj.outletState outlet = 2 ∧ (contextOf s.fresh outlet).isSome = true ∧
      s.fresh.get Reg.authorisationAt outlet + s.fresh.get Obj.authorisationTimeout outlet * second ≤ s.fresh.now :=
    ⟨identifying, Option.isSome_iff_ne_none.2 bound, late⟩
  change ∃ t, execAuthorisationTimeout outlet s = .next t ∧ _
  refine run_yields ?_
  rw [if_pos expired, done_get, outletState_closeEarly]

theorem certificate_relayed {body : List Byte} (secure : 2 ≤ s.get Obj.protocolInUse outlet) :
    ∃ t, exec (.certificateRequest outlet body) s = .next t ∧
      t.bytes Obj.certificateRequestBody outlet = body.take 8192 ∧ t.get Reg.certificateAt outlet = s.now + 1 := by
  change ∃ t, execCertificateRequest outlet body s = .next t ∧ _
  refine run_yields ?_
  simp (decide := true) [secure.not_gt, respond, bytes_logEvent]

theorem certificate_answered {u : State} {r : Req} {d : List Byte} {role space : Nat}
    (g : Granted r Obj.certificateResponseBody outlet 0 d role space s u) :
    ∃ t, exec (.certificateResponseWrite r outlet d) s = .next t ∧ t.get Reg.certificateAt outlet = 0 := by
  obtain ⟨t, run, reads⟩ := granted_leaves (c := .certificateResponseWrite r outlet d) rfl g rfl
  refine ⟨t, run, ?_⟩
  rw [reads _ (by decide)]
  split
  next none => exact none
  next => simp [respond]

theorem certificate_lapses (asked : s.get Reg.certificateAt outlet ≠ 0)
    (late : s.getN Reg.certificateAt outlet + 60 * second ≤ s.now + 1) :
    ∃ t, exec (.certificateTimeout outlet) s = .next t ∧ t.get Reg.certificateAt outlet = 0 := by
  change ∃ t, execCertificateTimeout outlet s = .next t ∧ _
  refine run_yields ?_
  simp [asked, late, respond]

end

/-- Settles O26, one lemma for each step. -/
theorem chargingSessionOpens : Obligations.ChargingSessionOpens := by
  unfold Obligations.ChargingSessionOpens
  exact ⟨fun _ _ _ => slacParm_begins_run, fun _ _ _ _ => slacArbitration_records, fun _ _ => sdp_answered, fun _ _ => tcp_opens,
    fun _ _ _ => appProtocol_identifies, fun _ _ => communicationLost_closes, fun _ _ _ _ _ _ => identifier_shown,
    fun _ _ => authorisation_granted, fun _ _ _ _ _ _ _ _ => authorisation_written, fun _ _ => authorisation_expires,
    fun _ _ _ => certificate_relayed, fun _ _ _ _ _ _ _ => certificate_answered, fun _ _ => certificate_lapses⟩

end Sys2Proof.Machine
end

section
/-!
THEOREM. Cable check, pre-charge and delivery (R168, R172, R174 to R178, R227), one lemma for each step.
-/

namespace Sys2Proof.Machine

/-! ### Stops of an outlet that delivers or is about to -/

/-- An emergency stop before delivery ends in WELD_CHECK, whether its contactors open at once or later (R180). -/
theorem emergencyStop_preCharge {n : Nat} {s : State} (preCharge : s.get Obj.outletState n = 5) (first : s.get Reg.stopKind n = 0)
    (cause : Int) : (emergencyStop n cause s).get Reg.stopKind n = 2 ∧ (emergencyStop n cause s).get Obj.outletState n = 8 := by
  simp (decide := true) [emergencyStop, preCharge, first, forL_get]

theorem emergencyStop_delivering {n : Nat} {s : State} (delivering : s.get Obj.outletState n = 6) (first : s.get Reg.stopKind n = 0)
    (cause : Int) : (emergencyStop n cause s).get Reg.stopKind n = 2 := by
  simp (decide := true) [emergencyStop, delivering, first, forL_get]

theorem outletState_toWeldCheck (n : Nat) (s : State) : (toWeldCheck n s).get Obj.outletState n = 8 := by
  rw [toWeldCheck, outletState_setOutlet]

theorem normalStop_preCharge {n : Nat} {s : State} (preCharge : s.get Obj.outletState n = 5) (first : s.get Reg.stopKind n = 0)
    (cause : Int) : (normalStop n cause s).get Reg.stopKind n = 1 ∧ (normalStop n cause s).get Obj.outletState n = 8 := by
  simp (decide := true) [normalStop, preCharge, first, outletState_toWeldCheck]

theorem normalStop_delivering {n : Nat} {s : State} (delivering : s.get Obj.outletState n = 6) (first : s.get Reg.stopKind n = 0) :
    (normalStop n 11 s).get Obj.outletState n = 7 ∧ (normalStop n 11 s).get Reg.vehicleStopped n = 1 := by
  simp (decide := true) [normalStop, delivering, first]

section
variable {s : State} {outlet : Fin 24}

/-! ### Cable check -/

theorem cableCheck_begins (authorised : s.get Obj.outletState outlet = 3) (may : mayCableCheck s outlet = true) :
    ∃ t, exec (.cableCheckReq outlet) s = .next t ∧ t.get Obj.outletState outlet = 4 ∧ t.get Reg.checkStep outlet = 1 ∧
      t.get Reg.checkAt outlet = s.now := by
  have checks : mayCableCheck s.fresh outlet = true := may
  change ∃ t, execCableCheckReq outlet s = .next t ∧ _
  refine run_yields ?_
  simp (decide := true) [authorised, checks, respond]

theorem closedContactors_shown (plus : plusCommanded s outlet = true) (minus : minusCommanded s outlet = true) :
    ∃ t, exec (.outletContactorsClosed outlet) s = .next t ∧
      t.get Obj.contactorFeedback outlet = (commandedBits s outlet : Nat) := by
  have closed : plusCommanded s.fresh outlet = true ∧ minusCommanded s.fresh outlet = true := ⟨plus, minus⟩
  have shown : (feedbackAgrees outlet s.fresh).get Obj.contactorFeedback outlet = (commandedBits s outlet : Nat) := by
    unfold feedbackAgrees
    dsimp only
    split <;> simp (decide := true) <;> rfl
  change ∃ t, execOutletContactorsClosed outlet s = .next t ∧ _
  refine run_yields ?_
  rw [if_neg (not_not.2 closed), done_get]
  dsimp only
  split
  · simp (decide := true) [shown]
  · simp (decide := true) [shown]

theorem cableCheck_ramped (checking : s.get Obj.outletState outlet = 4) (ramping : s.get Reg.checkStep outlet = 3)
    (running : s.get Reg.pausedAt outlet = 0) (elapsed : s.get Reg.rampStart outlet + 2500 ≤ s.frame) :
    ∃ t, exec (.cableCheckRampEnd outlet) s = .next t ∧ t.get Reg.checkStep outlet = 4 ∧ t.get Reg.checkStepAt outlet = s.now := by
  change ∃ t, execCableCheckRampEnd outlet s = .next t ∧ _
  refine run_yields ?_
  simp (decide := true) [checking, ramping, running, elapsed]

theorem cableCheck_fails_late (checking : s.get Obj.outletState outlet = 4) (first : s.get Reg.checkStep outlet = 1)
    (running : s.get Reg.pausedAt outlet = 0)
    (late : s.get Reg.checkAt outlet + s.get Obj.cableCheckTimeout outlet * second ≤ s.now) :
    ∃ t, exec (.cableCheckTimeout outlet) s = .next t ∧ t.get Obj.outletState outlet = 9 := by
  change ∃ t, execCableCheckTimeout outlet s = .next t ∧ _
  refine run_yields ?_
  simp (decide := true) [checking, first, running, late, cableCheckFails]

/-! ### Pre-charge -/

theorem preCharge_takes_target {target : Nat} (preCharge : s.get Obj.outletState outlet = 5) (running : s.get Reg.pausedAt outlet = 0) :
    ∃ t, exec (.preChargeReq outlet target) s = .next t ∧ t.get Reg.preTarget outlet = (min 150000 target : Nat) ∧
      t.get Obj.evTargetVoltage outlet = target := by
  change ∃ t, execPreChargeReq outlet target s = .next t ∧ _
  refine run_yields ?_
  simp (decide := true) [preCharge, running, respond]

theorem preCharge_overCurrent (preCharge : s.get Obj.outletState outlet = 5) (exceeded : 50 ≤ s.get Reg.preCurrentRun outlet)
    (first : s.get Reg.stopKind outlet = 0) :
    ∃ t, exec (.preChargeCurrentExceeded outlet) s = .next t ∧ t.get Reg.stopKind outlet = 2 ∧ t.get Obj.outletState outlet = 8 := by
  change ∃ t, execPreChargeCurrentExceeded outlet s = .next t ∧ _
  refine run_yields ?_
  rw [if_pos ⟨preCharge, exceeded⟩, done_get, done_get]
  exact emergencyStop_preCharge (s := s.fresh) preCharge first 10

theorem powerDelivery_starts (preCharge : s.get Obj.outletState outlet = 5) (running : s.get Reg.pausedAt outlet = 0)
    (charged : 8 ≤ s.get Reg.preChargeRun outlet) :
    ∃ t, exec (.powerDeliveryStart outlet) s = .next t ∧ t.get Obj.outletState outlet = 6 ∧ t.get Reg.demandAt outlet = s.now := by
  change ∃ t, execPowerDeliveryStart outlet s = .next t ∧ _
  refine run_yields ?_
  simp (decide := true) [preCharge, running, charged.not_gt, respond, forL_get]
  split <;> simp (decide := true)

theorem preCharge_late (preCharge : s.get Obj.outletState outlet = 5) (running : s.get Reg.pausedAt outlet = 0)
    (late : s.get Reg.outletSince outlet + s.get Obj.preChargeTimeout outlet * (100 * millisecond) ≤ s.now)
    (first : s.get Reg.stopKind outlet = 0) :
    ∃ t, exec (.preChargeTimeout outlet) s = .next t ∧ t.get Reg.stopKind outlet = 1 ∧ t.get Obj.outletState outlet = 8 := by
  have expired : s.fresh.get Obj.outletState outlet = 5 ∧ s.fresh.get Reg.pausedAt outlet = 0 ∧
      s.fresh.get Reg.outletSince outlet + s.fresh.get Obj.preChargeTimeout outlet * (100 * millisecond) ≤ s.fresh.now :=
    ⟨preCharge, running, late⟩
  change ∃ t, execPreChargeTimeout outlet s = .next t ∧ _
  refine run_yields ?_
  rw [if_pos expired, done_get, done_get]
  exact normalStop_preCharge (s := s.fresh) preCharge first 10

/-! ### Delivery -/

theorem demand_recorded {tv ti mv mi soc : Nat} {marked : Bool} (delivering : s.get Obj.outletState outlet = 6) :
    ∃ t, exec (.currentDemandReq outlet tv ti mv mi soc 0 marked) s = .next t ∧ t.get Obj.evTargetVoltage outlet = tv ∧
      t.get Obj.evMaximumVoltage outlet = mv ∧ t.get Reg.demandAt outlet = s.now := by
  change ∃ t, execCurrentDemandReq outlet tv ti mv mi soc 0 marked s = .next t ∧ _
  refine run_yields ?_
  simp (decide := true) [currentDemand, delivering, demandResponse, respond]

theorem demandSilence_stops (delivering : s.get Obj.outletState outlet = 6)
    (silent : s.get Reg.demandAt outlet + s.get Obj.demandSilenceLimit outlet * millisecond ≤ s.now)
    (first : s.get Reg.stopKind outlet = 0) :
    ∃ t, exec (.demandSilenceTimeout outlet) s = .next t ∧ t.get Obj.outletState outlet = 7 ∧
      t.get Reg.vehicleStopped outlet = 1 := by
  change ∃ t, execDemandSilenceTimeout outlet s = .next t ∧ _
  refine run_yields ?_
  rw [if_pos ⟨delivering, silent⟩, done_get, done_get]
  exact normalStop_delivering (s := s.fresh) delivering first

theorem overVoltage_stops (delivering : s.get Obj.outletState outlet = 6) (exceeded : 10 ≤ s.get Reg.evOverRun outlet)
    (first : s.get Reg.stopKind outlet = 0) :
    ∃ t, exec (.evOverVoltage outlet) s = .next t ∧ t.get Reg.stopKind outlet = 2 := by
  change ∃ t, execEvOverVoltage outlet s = .next t ∧ _
  refine run_yields ?_
  rw [if_pos ⟨delivering, exceeded⟩, done_get]
  exact emergencyStop_delivering (s := s.fresh) delivering first 20

theorem vehicleLimits_recorded {mv mi tv soc : Nat} (percent : soc ≤ 100) :
    ∃ t, exec (.vehicleRequest outlet 0 mv mi tv soc) s = .next t ∧ t.get Obj.evMaximumVoltage outlet = mv ∧
      t.get Obj.evTargetVoltage outlet = tv ∧ t.get Obj.stateOfCharge outlet = soc := by
  change ∃ t, execVehicleRequest outlet 0 mv mi tv soc s = .next t ∧ _
  refine run_yields ?_
  simp (decide := true) [vehicleRequest, respond, percent]

end

/-- Settles O27, one lemma for each step. -/
theorem chargingSessionDelivers : Obligations.ChargingSessionDelivers := by
  unfold Obligations.ChargingSessionDelivers
  exact ⟨fun _ _ => cableCheck_begins, fun _ _ => closedContactors_shown, fun _ _ => cableCheck_ramped,
    fun _ _ => cableCheck_fails_late, fun _ _ _ => preCharge_takes_target, fun _ _ => preCharge_overCurrent,
    fun _ _ => powerDelivery_starts, fun _ _ => preCharge_late, fun _ _ _ _ _ _ _ _ => demand_recorded,
    fun _ _ => demandSilence_stops, fun _ _ => overVoltage_stops, fun _ _ _ _ _ _ => vehicleLimits_recorded⟩

end Sys2Proof.Machine
end

section
/-!
THEOREM. The commands of a host to a charging context, and its expiry (R185 to R188).
-/

namespace Sys2Proof.Machine

@[simp] theorem ctxState_setContext (c : Nat) (st : Int) (s : State) : (setContext c st s).get Obj.ctxState c = st := by
  unfold setContext
  split
  next same => exact same
  next => simp (decide := true)

theorem createContext_leaves (c : Nat) (st : Int) (s : State) :
    (createContext c st s).get Obj.ctxState c = st ∧ (createContext c st s).get Obj.ctxAuthorisation c = 0 := by
  simp (decide := true) [createContext]

theorem dropContext_leaves (c : Nat) (reason : Int) (s : State) : (dropContext c reason s).get Obj.ctxState c = cxFree ∧
    (dropContext c reason s).get Obj.ctxSerial c = 0 ∧ (dropContext c reason s).get Obj.regSetOutlet c = 255 := by
  simp (decide := true) [dropContext]

theorem normalStop_leaves_delivery {n : Nat} {s : State} (delivering : s.get Obj.outletState n = 6)
    (first : s.get Reg.stopKind n = 0) (cause : Int) :
    (normalStop n cause s).get Reg.stopKind n = 1 ∧ (normalStop n cause s).get Obj.outletState n = 7 := by
  simp (decide := true) [normalStop, delivering, first]

section
variable {s u : State} {r : Req} {ctx : Fin 250} {role space : Nat}

theorem createPending_creates (g : Granted r Obj.ctxCommand ctx 0 [1] role space s u)
    (may : createStatus (flushContext ctx u) ctx false = 0) :
    ∃ t, exec (.createPending r ctx) s = .next t ∧ t.get Obj.ctxState ctx = cxPending ∧ t.get Obj.ctxAuthorisation ctx = 0 := by
  obtain ⟨t, run, reads⟩ := granted_leaves (c := .createPending r ctx) rfl g (if_neg (not_not.2 may))
  exact ⟨t, run, by rw [reads _ (by decide), reads _ (by decide)]; exact createContext_leaves ..⟩

theorem createReserved_creates (g : Granted r Obj.ctxCommand ctx 0 [2] role space s u)
    (may : createStatus (flushContext ctx u) ctx true = 0) :
    ∃ t, exec (.createReserved r ctx) s = .next t ∧ t.get Obj.ctxState ctx = cxReserved ∧ t.get Obj.ctxAuthorisation ctx = 0 := by
  obtain ⟨t, run, reads⟩ := granted_leaves (c := .createReserved r ctx) rfl g (if_neg (not_not.2 may))
  exact ⟨t, run, by rw [reads _ (by decide), reads _ (by decide)]; exact createContext_leaves ..⟩

theorem cancel_frees (g : Granted r Obj.ctxCommand ctx 0 [3] role space s u) (flushed : flushContext ctx u = u)
    (pending : u.get Obj.ctxState ctx = cxPending) :
    ∃ t, exec (.cancel r ctx) s = .next t ∧ t.get Obj.ctxState ctx = cxFree ∧ t.get Obj.ctxSerial ctx = 0 ∧
      t.get Obj.regSetOutlet ctx = 255 := by
  obtain ⟨t, run, reads⟩ := granted_leaves (c := .cancel r ctx) (t := dropContext ctx 1 u) rfl g (by simp [flushed, pending])
  exact ⟨t, run, by rw [reads _ (by decide), reads _ (by decide), reads _ (by decide)]; exact dropContext_leaves ..⟩

/-- A stop command of a delivering context stops the outlet it is bound to. -/
theorem contextStop_of_delivering {outlet : Nat} (delivering : u.get Obj.ctxState ctx = cxDelivering)
    (bound : outletOf u ctx = some outlet) (stop : Nat → State → State) : contextStop ctx stop u = .ok (stop outlet u) := by
  rw [contextStop, if_pos (.inr delivering), bound]

theorem contextNormalStop_stops {outlet : Nat} (g : Granted r Obj.ctxCommand ctx 0 [4] role space s u)
    (flushed : flushContext ctx u = u) (delivering : u.get Obj.ctxState ctx = cxDelivering) (bound : outletOf u ctx = some outlet)
    (live : u.get Obj.outletState outlet = 6) (first : u.get Reg.stopKind outlet = 0) :
    ∃ t, exec (.contextNormalStop r ctx) s = .next t ∧ t.get Reg.stopKind outlet = 1 ∧ t.get Obj.outletState outlet = 7 := by
  obtain ⟨t, run, reads⟩ := granted_leaves (c := .contextNormalStop r ctx) rfl g
    (by rw [flushed]; exact contextStop_of_delivering delivering bound _)
  exact ⟨t, run, by rw [reads _ (by decide), reads _ (by decide)]; exact normalStop_leaves_delivery live first 2⟩

theorem contextEmergencyStop_stops {outlet : Nat} (g : Granted r Obj.ctxCommand ctx 0 [5] role space s u)
    (flushed : flushContext ctx u = u) (delivering : u.get Obj.ctxState ctx = cxDelivering) (bound : outletOf u ctx = some outlet)
    (live : u.get Obj.outletState outlet = 6) (first : u.get Reg.stopKind outlet = 0) :
    ∃ t, exec (.contextEmergencyStop r ctx) s = .next t ∧ t.get Reg.stopKind outlet = 2 := by
  obtain ⟨t, run, reads⟩ := granted_leaves (c := .contextEmergencyStop r ctx) rfl g
    (by rw [flushed]; exact contextStop_of_delivering delivering bound _)
  exact ⟨t, run, by rw [reads _ (by decide)]; exact emergencyStop_delivering live first 2⟩

theorem contextExpiry_frees (pending : s.get Obj.ctxState ctx = cxPending) (limited : s.get Obj.ctxExpiry ctx ≠ 0)
    (past : s.get Obj.ctxExpiry ctx ≤ s.time) :
    ∃ t, exec (.contextExpiry ctx) s = .next t ∧ t.get Obj.ctxState ctx = cxFree ∧ t.get Obj.ctxSerial ctx = 0 := by
  change ∃ t, execContextExpiry ctx s = .next t ∧ _
  refine run_yields ?_
  rw [if_pos ⟨.inl pending, limited, past⟩, done_get, done_get]
  obtain ⟨free, serial, -⟩ := dropContext_leaves ctx 2 s.fresh
  exact ⟨free, serial⟩

end

/-- Settles O29, one lemma for each command. -/
theorem chargingContexts : Obligations.ChargingContexts := by
  unfold Obligations.ChargingContexts
  exact ⟨fun _ _ _ _ _ _ => createPending_creates, fun _ _ _ _ _ _ => createReserved_creates, fun _ _ _ _ _ _ => cancel_frees,
    fun _ _ _ _ _ _ _ => contextNormalStop_stops, fun _ _ _ _ _ _ _ => contextEmergencyStop_stops, fun _ _ => contextExpiry_frees⟩

end Sys2Proof.Machine
end

section
/-!
THEOREM. The start and the stop of a block, the recovery of its phases and shedding (R83, R85 to R87, R89, R93, R94, R96,
R102), one lemma for each step.
-/

namespace Sys2Proof.Machine

set_option Elab.async false

/-! ### Blocks and phases -/

@[simp] theorem real_ramp_movePhases (b : Nat) (src : List Int) (dst : Int) (s : State) (i : Nat) :
    (movePhases b src dst s).real Reg.ramp i = s.real Reg.ramp i :=
  real_of_view (view_of_part (movePhases_part (by decide) (by decide) b src dst s)) i 0

@[simp] theorem real_ramp_presetSlot (k : Nat) (v : Rat) (s : State) (i : Nat) :
    (presetSlot k v s).real Reg.ramp i = s.real Reg.ramp i :=
  real_of_view (view_of_part (presetSlot_part (by decide) (by decide) k v s)) i 0

@[simp] theorem blockSt_movePhases (b : Nat) (src : List Int) (dst : Int) (s : State) (c : Nat) :
    blockSt (movePhases b src dst s) c = blockSt s c :=
  blockSt_congr (get_movePhases (by decide) (by decide) _ _ _ _ _ _)

@[simp] theorem phaseSt_setPhase (p : Nat) (st : Int) (s : State) : phaseSt (setPhase p st s) p = st := by
  unfold setPhase
  dsimp only
  split
  next same => exact same
  next =>
    rw [phaseSt]
    split <;> simp (decide := true)

theorem forL_of_unchanged {l : List Nat} {f : Nat → State → State} {s : State} (h : ∀ p ∈ l, f p s = s) : s.forL l f = s := by
  induction l with
  | nil => rfl
  | cons p l ih =>
    have front : s.forL (p :: l) f = (f p s).forL l f := rfl
    rw [front, h p (List.mem_cons_self ..)]
    exact ih fun q hq => h q (List.mem_cons_of_mem _ hq)

/-- Without three high samples of a phase no phase is found with a shorted high side. -/
theorem judgeShorts_of_sound {b : Nat} {s : State} (sound : ∀ p, p ∈ usablePhases s b → s.get Reg.testOver p < 3) :
    judgeShorts b s = s :=
  forL_of_unchanged fun p hp => if_neg (sound p hp).not_ge

theorem refuseStart_ends_waiting (b : Nat) (cause : Int) (s : State) : (refuseStart b cause s).get Reg.startWaiting b = 0 := by
  unfold refuseStart
  dsimp only
  split <;> simp (decide := true)

theorem beginTest_ends_waiting (b : Nat) (s : State) : (beginTest b s).get Reg.startWaiting b = 0 := by
  simp (decide := true) [beginTest, forL_get]

theorem rampOn_leaves (b : Nat) (s : State) : blockSt (rampOn b s) b = bkRampOn ∧ (rampOn b s).real Reg.ramp b = 0 := by
  have ramping : (movePhases b [phOff] phActive ((setBlock b bkRampOn s).setReal Reg.ramp 0 b)).get Obj.blockState b =
      (setBlock b bkRampOn s).get Obj.blockState b := by simp (decide := true)
  constructor
  · rw [← blockSt_setBlock b bkRampOn s]
    refine blockSt_congr ((forL_get ?_ _ _).trans ramping)
    intro p u
    exact get_presetSlot (by decide) (by decide) ..
  · refine (forL_real ?_ _ _).trans ?_
    · exact fun p u => real_ramp_presetSlot ..
    · simp

section
variable {s u : State} {r : Req} {block : Fin 64} {phase : Fin 256} {d : List Byte} {role space : Nat}

/-! ### Start -/

theorem startRequest_tests (allowed : startCause s block = 0) (low : outputDischarged s block = true) :
    ∃ t, exec (.blockStartRequest block) s = .next t ∧ blockSt t block = bkTest ∧
      t.get Obj.startCount block = (s.get Obj.startCount block + 1) % 4294967296 := by
  refine run_yields ?_
  rw [startBlock_of_allowed (s := s.fresh) allowed low, blockSt_done, done_get]
  exact ⟨blockSt_beginTest .., beginTest_startCount ..⟩

theorem dischargeWaitEnd_tests (waits : s.is Reg.startWaiting block = true) (off : blockSt s block = bkOff)
    (low : outputDischarged s block = true) :
    ∃ t, exec (.outputDischargeWaitEnd block) s = .next t ∧ blockSt t block = bkTest ∧ t.get Reg.startWaiting block = 0 := by
  refine run_yields ?_
  rw [if_pos ⟨waits, off, low⟩, blockSt_done, done_get]
  exact ⟨blockSt_beginTest .., beginTest_ends_waiting ..⟩

theorem dischargeTimeout_refuses (waits : s.is Reg.startWaiting block = true)
    (late : s.getN Reg.startAt block + 2500 ≤ s.frame) (high : outputDischarged s block = false) :
    ∃ t, exec (.outputDischargeTimeout block) s = .next t ∧ t.get Obj.lastStartRefusalCause block = 1 ∧
      t.get Reg.startWaiting block = 0 := by
  refine run_yields ?_
  rw [if_pos ⟨waits, late, Bool.not_eq_true _ ▸ high⟩, done_get, done_get]
  exact ⟨refuseStart_shows_cause .., refuseStart_ends_waiting ..⟩

theorem evaluation_passes (testing : blockSt s block = bkTest) (sampled : s.getN Reg.startAt block + 4 ≤ s.frame)
    (sound : ∀ p, p ∈ usablePhases s block → s.get Reg.testOver p < 3) :
    ∃ t, exec (.shortedHighSideEvaluation block) s = .next t ∧ blockSt t block = bkStartDelay := by
  have unchanged : judgeShorts block s.fresh = s.fresh := judgeShorts_of_sound sound
  have tested : blockSt s.fresh block = bkTest := testing
  change ∃ t, execShortedHighSideEvaluation block s = .next t ∧ _
  refine run_yields ?_
  rw [if_pos ⟨testing, sampled⟩, unchanged]
  dsimp only
  rw [if_pos tested, blockSt_done, blockSt_setBlock]

theorem startDelayEnd_asks_gateDrive (delay : blockSt s block = bkStartDelay) (first : s.get Reg.gateReadyBy block = 0)
    (elapsed : s.getN Reg.startAt block + 5 + s.getN Obj.startDelay block ≤ s.frame + 1) :
    ∃ t, exec (.startDelayEnd block) s = .next t ∧ t.get Reg.gateReadyBy block = s.frame := by
  refine run_yields ?_
  rw [if_pos ⟨delay, first, elapsed⟩, done_get, get_set_same]
  rfl

theorem gateDriveReady_rampsOn (delay : blockSt s block = bkStartDelay) (asked : s.get Reg.gateReadyBy block ≠ 0)
    (ready : gateReady s (cabOfBlock block) = true) :
    ∃ t, exec (.gateDriveReady block) s = .next t ∧ blockSt t block = bkRampOn ∧ t.real Reg.ramp block = 0 := by
  refine run_yields ?_
  rw [if_pos ⟨delay, asked, ready⟩, blockSt_done, done_real]
  exact rampOn_leaves ..

theorem rampOnComplete_runs (ramping : blockSt s block = bkRampOn) (ramped : 1 ≤ s.real Reg.ramp block) :
    ∃ t, exec (.rampOnComplete block) s = .next t ∧ blockSt t block = bkRunning ∧ t.real Reg.ramp block = 1 := by
  have state (v : State) : blockSt (joinRuns block v) block = blockSt v block :=
    blockSt_congr (get_joinRuns (by decide) (by decide) ..)
  have ramp (v : State) : (joinRuns block v).real Reg.ramp block = v.real Reg.ramp block :=
    real_of_view (view_of_part (joinRuns_part (by decide) (by decide) _ v)) _ 0
  refine run_yields ?_
  rw [if_pos ⟨ramping, ramped⟩, blockSt_done, done_real, state, ramp, blockSt_setBlock, setBlock_keeps_ramp, real_setReal_same]
  exact ⟨rfl, rfl⟩

theorem telemetryDeadline_passes : ∃ t, exec .telemetryDeadline s = .next t ∧ t.get Reg.deadlinePassed = 1 := by
  have outlets (n : Nat) (v : State) : (outletFrame n v).get Reg.deadlinePassed = v.get Reg.deadlinePassed :=
    get_outletFrame (by decide) (by decide) ..
  have latches (n : Nat) (v : State) : (judgeLatch n v).get Reg.deadlinePassed = v.get Reg.deadlinePassed :=
    get_judgeLatch (by decide) (by decide +kernel) ..
  have cabinets (c : Nat) (v : State) : (judgeCabinet c v).get Reg.deadlinePassed = v.get Reg.deadlinePassed :=
    get_judgeCabinet (by decide) (by decide +kernel) ..
  change ∃ t, execTelemetryDeadline s = .next t ∧ _
  refine run_yields ?_
  rw [done_get, telemetryDeadline, forN_get outlets, forN_get latches, forN_get cabinets]
  simp (decide := true) [forN_get]

/-! ### Stop -/

theorem stopRequest_rampsOff (running : blockSt s block = bkRunning) :
    ∃ t, exec (.blockStopRequest block) s = .next t ∧ blockSt t block = bkRampOff ∧ t.get Reg.startHeld block = 0 := by
  have kept : blockSt ((s.fresh.set Reg.startHeld 0 block).set Reg.startWaiting 0 block) block = bkRunning := by
    rw [blockSt_set (by decide), blockSt_set (by decide)]
    exact running
  refine run_yields ?_
  rw [stopBlock, kept, blockSt_done, done_get]
  simp (decide := true)

theorem rampOffComplete_delays (ramping : blockSt s block = bkRampOff) (ramped : s.real Reg.ramp block ≤ 0) :
    ∃ t, exec (.rampOffComplete block) s = .next t ∧ blockSt t block = bkStopDelay ∧ t.real Reg.ramp block = 0 := by
  refine run_yields ?_
  rw [if_pos ⟨ramping, ramped⟩, blockSt_done, done_real, blockSt_setBlock, setBlock_keeps_ramp, real_ramp_movePhases,
    real_setReal_same]
  exact ⟨rfl, rfl⟩

theorem stopDelayEnd_leaves_off (delay : blockSt s block = bkStopDelay) (free : s.is Reg.startHeld block = false)
    (elapsed : s.getN Reg.blockSince block + s.getN Obj.stopDelay block ≤ s.frame) :
    ∃ t, exec (.stopDelayEnd block) s = .next t ∧ blockSt t block = bkOff := by
  have unheld : ¬ s.fresh.is Reg.startHeld block = true := Bool.not_eq_true _ ▸ free
  change ∃ t, execStopDelayEnd block s = .next t ∧ _
  refine run_yields ?_
  rw [if_pos ⟨delay, elapsed⟩]
  dsimp only
  rw [if_neg unheld, blockSt_done, blockSt_holdBlockSlots, blockSt_setBlock]

/-! ### Latch, retry, lockout, shedding -/

theorem clearLatch_clears (n : Nat) (s : State) : (clearLatch n s).get Reg.outletLatch n = 0 := by
  simp (decide := true) [clearLatch]

theorem clearOverVoltageLatch_clears (g : Granted r Obj.clearOverVoltageLatch block 0 d role space s u)
    (latched : blockSt u block = bkLatched) (low : u.get Obj.dcVoltage (u.getN Obj.latchingOutlet block) < 50000)
    (others : ((List.range 64).any fun b => blockSt u b == bkLatched &&
      u.getN Obj.latchingOutlet b == u.getN Obj.latchingOutlet block &&
      !latchedLow u (u.getN Obj.latchingOutlet block) b) = false) :
    ∃ t, exec (.clearOverVoltageLatch r block d) s = .next t ∧ t.get Reg.outletLatch (u.getN Obj.latchingOutlet block) = 0 := by
  obtain ⟨t, run, reads⟩ := granted_leaves (c := .clearOverVoltageLatch r block d)
    (t := clearLatch (u.getN Obj.latchingOutlet block) u) rfl g
    ((if_neg (not_not.2 latched)).trans ((if_neg (not_not.2 low)).trans (if_neg (Bool.not_eq_true _ ▸ others))))
  exact ⟨t, run, by rw [reads _ (by decide)]; exact clearLatch_clears ..⟩

theorem retryDelayEnd_turns_off (retry : phaseSt s phase = phRetry)
    (elapsed : s.getN Reg.retryAt phase + s.getN Obj.retryDelay phase ≤ s.frame) (still : switching s (blockOf phase) = false) :
    ∃ t, exec (.retryDelayEnd phase) s = .next t ∧ phaseSt t phase = phOff := by
  have idle : ¬ switching s.fresh (blockOf phase) = true := Bool.not_eq_true _ ▸ still
  have elapses : phaseSt s.fresh phase = phRetry ∧ s.fresh.getN Reg.retryAt phase + s.fresh.getN Obj.retryDelay phase ≤
      s.fresh.frame := ⟨retry, elapsed⟩
  change ∃ t, execRetryDelayEnd phase s = .next t ∧ _
  refine run_yields ?_
  dsimp only
  rw [if_pos elapses, if_neg idle, phaseSt, done_get]
  exact phaseSt_setPhase ..

theorem clearLockout_clears (g : Granted r Obj.clearLockout phase 0 d role space s u) (locked : phaseSt u phase = phLocked)
    (cause : u.get Obj.lockoutCause phase ≠ 1) (off : blockSt u (blockOf phase) = bkOff) :
    ∃ t, exec (.clearLockout r phase d) s = .next t ∧ phaseSt t phase = phOff ∧ t.get Obj.lockoutCause phase = 0 := by
  obtain ⟨t, run, reads⟩ := granted_leaves (c := .clearLockout r phase d) rfl g
    ((if_neg (not_not.2 locked)).trans ((if_neg fun h => cause h.1).trans (if_neg fun h => h.1 off)))
  refine ⟨t, run, ?_⟩
  rw [phaseSt, reads _ (by decide), reads _ (by decide)]
  constructor
  · simp (decide := true)
    exact phaseSt_setPhase ..
  · simp (decide := true)

theorem phaseShed_sheds {p : Nat} (allowed : shedAllowed s block = true) (held : 500 ≤ s.get Reg.shedHold block)
    (choice : shedChoice s block = some p) :
    ∃ t, exec (.phaseShed block) s = .next t ∧ phaseSt t p = phShed ∧ t.get Reg.shedHold block = 0 := by
  have chosen : shedChoice s.fresh block = some p := choice
  change ∃ t, execPhaseShed block s = .next t ∧ _
  refine run_yields ?_
  rw [if_pos ⟨allowed, held⟩, chosen, phaseSt, done_get, done_get]
  exact ⟨phaseSt_setPhase .., by simp (decide := true)⟩

end

/-- Settles O30, one lemma for each step. -/
theorem blockStartSequence : Obligations.BlockStartSequence := by
  unfold Obligations.BlockStartSequence
  exact ⟨fun _ _ _ => startRequest_tests, fun _ _ => dischargeWaitEnd_tests, fun _ _ => dischargeTimeout_refuses,
    fun _ _ => evaluation_passes, fun _ _ => startDelayEnd_asks_gateDrive, fun _ _ => gateDriveReady_rampsOn,
    fun _ _ => rampOnComplete_runs, fun _ => telemetryDeadline_passes⟩

/-- Settles O31, one lemma for each step. -/
theorem blockStopAndPhases : Obligations.BlockStopAndPhases := by
  unfold Obligations.BlockStopAndPhases
  exact ⟨fun _ _ => stopRequest_rampsOff, fun _ _ => rampOffComplete_delays, fun _ _ => stopDelayEnd_leaves_off,
    fun _ _ _ _ _ _ _ => clearOverVoltageLatch_clears, fun _ _ => retryDelayEnd_turns_off,
    fun _ _ _ _ _ _ _ => clearLockout_clears, fun _ _ _ => phaseShed_sheds⟩

end Sys2Proof.Machine
end

section
/-!
THEOREM. The allocator's passes and its limits, the planning pass, the topology check and the coolant units (R6, R9, R11,
R129, R130, R132, R136, R137, R141, R148, R213), one lemma for each command.
-/

namespace Sys2Proof.Machine

set_option Elab.async false

/-! ### Blocks that stop -/

theorem stopBlock_ends_start (b : Nat) (s : State) :
    (stopBlock b s).get Reg.startHeld b = 0 ∧ (stopBlock b s).get Reg.startWaiting b = 0 := by
  unfold stopBlock
  dsimp only
  split
  · simp (decide := true)
  · split <;> simp (decide := true)

theorem startHeld_stopBlock_of_ne {b i : Nat} (h : i ≠ b) (s : State) :
    (stopBlock b s).get Reg.startHeld i = s.get Reg.startHeld i := by
  unfold stopBlock
  dsimp only
  split
  · simp (decide := true) [get_set, h.symm]
  · split <;> simp (decide := true) [get_set, h.symm]

theorem startWaiting_stopBlock_of_ne {b i : Nat} (h : i ≠ b) (s : State) :
    (stopBlock b s).get Reg.startWaiting i = s.get Reg.startWaiting i := by
  unfold stopBlock
  dsimp only
  split
  · simp (decide := true) [get_set, h.symm]
  · split <;> simp (decide := true) [get_set, h.symm]

theorem stopAllBlocks_ends_starts {b : Nat} (h : b < 64) (s : State) :
    (stopAllBlocks s).get Reg.startHeld b = 0 ∧ (stopAllBlocks s).get Reg.startWaiting b = 0 := by
  constructor
  · refine forN_get_at (v := fun _ => 0) (fun k u => (stopBlock_ends_start k u).1) ?_ h s
    exact fun k i u ne => startHeld_stopBlock_of_ne ne u
  · refine forN_get_at (v := fun _ => 0) (fun k u => (stopBlock_ends_start k u).2) ?_ h s
    exact fun k i u ne => startWaiting_stopBlock_of_ne ne u

theorem freeBlock_unbinds {b : Nat} {s : State} (kept : s.get Obj.allocState b = 0) :
    (freeBlock b s).get Obj.allocState b = 0 ∧ (freeBlock b s).get Obj.boundOutlet b = 255 := by
  simp (decide := true) [freeBlock, kept]

section
variable {s u : State} {r : Req} {block : Fin 64} {outlet : Fin 24} {d : List Byte} {role space : Nat}

/-! ### Passes -/

theorem fastPass_clears_overruns : ∃ t, exec .allocatorFastPass s = .next t ∧ t.get Reg.fastPassRun = 0 := by
  change ∃ t, execAllocatorFastPass s = .next t ∧ _
  refine run_yields ?_
  simp (decide := true) [fastPass, judgeShadow]

theorem fastPassOverrun_counts : ∃ t, exec .allocatorFastPassOverrun s = .next t ∧
    t.get Obj.fastPassOverruns = (s.get Obj.fastPassOverruns + 1) % 4294967296 ∧
    t.get Reg.fastPassRun = s.get Reg.fastPassRun + 1 := by
  change ∃ t, execAllocatorFastPassOverrun s = .next t ∧ _
  refine run_yields ?_
  simp (decide := true)

theorem overrunLimit_stops_blocks (overrun : 4 ≤ s.get Reg.fastPassRun) :
    ∃ t, exec .fastPassOverrunLimit s = .next t ∧ t.get Reg.startHeld block = 0 ∧ t.get Reg.startWaiting block = 0 := by
  have limit : 4 ≤ s.fresh.get Reg.fastPassRun := overrun
  change ∃ t, execFastPassOverrunLimit s = .next t ∧ _
  refine run_yields ?_
  rw [if_pos limit, done_get, done_get]
  exact stopAllBlocks_ends_starts block.isLt _

theorem allocationPass_completes (running : s.is Reg.allocRunning = true) :
    ∃ t, exec .allocationPassComplete s = .next t ∧ t.get Reg.allocRunning = 0 ∧ t.get Reg.allocReady = 1 := by
  change ∃ t, execAllocationPassComplete s = .next t ∧ _
  refine run_yields ?_
  simp (decide := true) [running]

/-! ### Limits -/

theorem dynamicLimit_taken (g : Granted r Obj.dynamicSiteImportLimit 0 0 d role space s u) :
    ∃ t, exec (.dynamicLimitWrite r d) s = .next t ∧ t.get Obj.dynamicSiteImportLimit = ofBytes d ∧
      t.get Reg.dynamicAt = u.now ∧ t.get Reg.dynamicExpired = 0 := by
  obtain ⟨t, run, reads⟩ := granted_leaves (c := .dynamicLimitWrite r d) rfl g rfl
  refine ⟨t, run, ?_⟩
  rw [reads _ (by decide), reads _ (by decide), reads _ (by decide)]
  simp (decide := true)

theorem dynamicLimit_expires (limited : s.getN Obj.dynamicLimitHoldTime ≠ 0) (fresh : s.is Reg.dynamicExpired = false)
    (passed : s.getN Reg.dynamicAt + s.getN Obj.dynamicLimitHoldTime * second ≤ s.now) :
    ∃ t, exec .dynamicLimitExpiry s = .next t ∧ t.get Reg.dynamicExpired = 1 := by
  change ∃ t, execDynamicLimitExpiry s = .next t ∧ _
  refine run_yields ?_
  simp (decide := true) [limited, fresh, passed]

theorem mainsHold_ends {feeder : Fin 4} (held : s.get Reg.mainsAt feeder ≠ 0)
    (passed : s.getN Reg.mainsAt feeder + 10 * second ≤ s.now + 1) :
    ∃ t, exec (.mainsPresentHoldEnd feeder) s = .next t ∧ t.get Reg.mainsAt feeder = 0 := by
  change ∃ t, execMainsPresentHoldEnd feeder s = .next t ∧ _
  refine run_yields ?_
  simp (decide := true) [held, passed, forN_get]

theorem withhold_cleared (g : Granted r Obj.clearWithhold block 0 d role space s u) (opened : allReportedOpen u block = true)
    (withheld : u.get Obj.allocState block = 7) (cause : u.get Obj.withholdCause block ≠ 3) :
    ∃ t, exec (.clearWithhold r block d) s = .next t ∧ t.get Obj.allocState block = 0 ∧ t.get Obj.withholdCause block = 0 ∧
      t.get Obj.boundOutlet block = 255 := by
  obtain ⟨t, run, reads⟩ := granted_leaves (c := .clearWithhold r block d) rfl g
    ((if_neg (not_not.2 opened)).trans (if_pos ⟨withheld, cause⟩))
  obtain ⟨state, outlet⟩ := freeBlock_unbinds (b := block) (s := (u.set Obj.allocState 0 block).set Obj.withholdCause 0 block)
    (by simp (decide := true))
  refine ⟨t, run, ?_⟩
  rw [reads _ (by decide), reads _ (by decide), reads _ (by decide)]
  exact ⟨state, by simp (decide := true), outlet⟩

/-! ### Planning -/

theorem planning_begins (enabled : s.is Obj.planningEnable = true) (idle : s.is Reg.planDue = false)
    (due : timeSecond s % 10 = 0) (first : s.get Reg.planSecond ≠ timeSecond s + 1) :
    ∃ t, exec (.planningPass false) s = .next t ∧ t.get Reg.planAt = s.now + 1 ∧ t.get Reg.planDue = 1 := by
  have free : ¬ (¬ s.fresh.is Obj.planningEnable = true ∨ s.fresh.is Reg.planDue = true ∨ timeSecond s.fresh % 10 ≠ 0 ∨
      s.fresh.get Reg.planSecond = timeSecond s.fresh + 1) := by
    rintro (h | h | h | h)
    · exact h enabled
    · exact Bool.false_ne_true (idle.symm.trans h)
    · exact h due
    · exact first h
  change ∃ t, execPlanningPass false s = .next t ∧ _
  refine run_yields ?_
  rw [if_neg free]
  simp (decide := true)

theorem planning_times_out (running : s.is Reg.planDue = true) (late : s.getN Reg.planAt + 10 * second ≤ s.now + 1) :
    ∃ t, exec .planningPassTimeout s = .next t ∧ t.get Reg.planDue = 0 := by
  change ∃ t, execPlanningPassTimeout s = .next t ∧ _
  refine run_yields ?_
  simp (decide := true) [running, late]

/-! ### Topology check -/

theorem beginTopology_begins (s : State) : (beginTopology s).get Obj.topologyResult = 1 := by
  unfold beginTopology
  split
  next begun => exact begun
  next => simp (decide := true) [forN_get]

theorem topologyResult_judgeTopology (s : State) : (judgeTopology s).get Obj.topologyResult = s.get Obj.topologyResult :=
  get_judgeTopology (by decide) (by decide +kernel) ..

theorem topologyCheck_begins (may : mayCheck s = true) (solo : s.get Obj.role = roSolo) (unchecked : s.get Obj.topologyResult = 0) :
    ∃ t, exec .topologyCheck s = .next t ∧ t.get Obj.topologyResult = 1 := by
  have alone : ¬ (s.fresh.get Obj.role = roStandby ∧ 5 ≤ s.fresh.get Obj.startUpStage) := by
    intro h
    have standby : s.get Obj.role = roStandby := h.1
    exact absurd (solo.symm.trans standby) (by decide)
  have due : mayCheck s.fresh = true ∧ (s.fresh.get Obj.topologyResult ≤ 1 ∨ s.fresh.is Reg.topologyDue = true) :=
    ⟨may, .inl (by rw [fresh_get, unchecked]; decide)⟩
  change ∃ t, execTopologyCheck s = .next t ∧ _
  refine run_yields ?_
  rw [if_neg alone, if_pos due, done_get, topologyResult_judgeTopology]
  exact beginTopology_begins _

theorem topologyCheck_completes (may : mayCheck s = true) (running : s.get Obj.topologyResult = 1)
    (judged : topologyAwaits s = false) :
    ∃ t, exec .topologyCheckComplete s = .next t ∧ t.get Reg.topologyDue = 0 ∧ t.get Reg.topologyFull = 0 := by
  have ends : ¬ (¬ mayCheck s.fresh = true ∨ s.fresh.get Obj.topologyResult ≠ 1 ∨ topologyAwaits s.fresh = true) := by
    rintro (h | h | h)
    · exact h may
    · exact h running
    · exact Bool.false_ne_true (judged.symm.trans h)
  have recovered (b : Nat) (v : State) : (recoverBlock b v).get Reg.topologyDue = v.get Reg.topologyDue :=
    get_recoverBlock (by decide) (by decide) ..
  have recoveredFull (b : Nat) (v : State) : (recoverBlock b v).get Reg.topologyFull = v.get Reg.topologyFull :=
    get_recoverBlock (by decide) (by decide) ..
  change ∃ t, execTopologyCheckComplete s = .next t ∧ _
  refine run_yields ?_
  rw [if_neg ends, done_get, done_get]
  simp (decide := true) only [get_sendTopology, get_refreshAll]
  generalize (judgeTopology s.fresh).forN 16 _ = t
  split <;> simp (decide := true) only [get_set_other, get_set_same, forN_get recovered, forN_get recoveredFull, logEvent_get]

theorem topologyCheck_asked (g : Granted r Obj.runTopologyCheck 0 0 [1] role space s u) :
    ∃ t, exec (.runTopologyCheck r) s = .next t ∧ t.get Reg.topologyDue = 1 ∧ t.get Reg.topologyFull = 1 ∧
      t.get Obj.topologyResult = 1 := by
  obtain ⟨t, run, reads⟩ := granted_leaves (c := .runTopologyCheck r) rfl g rfl
  refine ⟨t, run, ?_⟩
  rw [reads _ (by decide), reads _ (by decide), reads _ (by decide)]
  exact ⟨by simp (decide := true), by simp (decide := true), beginTopology_begins _⟩

/-! ### Coolant units -/

theorem coolantStatus_taken {frame : List Byte} (unit : s.get Obj.coolantBus outlet ≠ 0xFF) (whole : frame.length = 8) :
    ∃ t, exec (.coolantStatusFrame outlet frame) s = .next t ∧
      t.get Obj.coolantStatus outlet = ((frame.headD 0).toNat : Nat) ∧
      t.get Reg.coolantFlow outlet = ofBytes ((frame.drop 2).take 2) ∧ t.get Reg.coolantAt outlet = s.now := by
  change ∃ t, execCoolantStatusFrame outlet frame s = .next t ∧ _
  refine run_yields ?_
  simp (decide := true) [unit, whole]

theorem coolantUnit_falls_silent (unit : s.get Obj.coolantBus outlet ≠ 0xFF) (heard : s.is Obj.coolantSilent outlet = false)
    (silent : s.getN Reg.coolantAt outlet + 500 * millisecond ≤ s.now) :
    ∃ t, exec (.coolantUnitSilent outlet) s = .next t ∧ t.get Obj.coolantSilent outlet = 1 ∧ t.get Obj.flowUsed outlet = 0 := by
  change ∃ t, execCoolantUnitSilent outlet s = .next t ∧ _
  refine run_yields ?_
  simp (decide := true) [unit, heard, silent, unitSilent]

end

/-- Settles O32, one lemma for each clause. -/
theorem allocatorPasses : Obligations.AllocatorPasses := by
  unfold Obligations.AllocatorPasses
  exact ⟨fun _ => fastPass_clears_overruns, fun _ => fastPassOverrun_counts, fun _ _ => overrunLimit_stops_blocks,
    fun _ => allocationPass_completes, fun _ _ _ _ _ _ => dynamicLimit_taken, fun _ => dynamicLimit_expires,
    fun _ _ => mainsHold_ends, fun _ _ _ _ _ _ _ => withhold_cleared, fun _ => planning_begins, fun _ => planning_times_out,
    fun _ => topologyCheck_begins, fun _ => topologyCheck_completes, fun _ _ _ _ _ => topologyCheck_asked,
    fun _ _ _ => coolantStatus_taken, fun _ _ => coolantUnit_falls_silent⟩

end Sys2Proof.Machine
end

section
/-!
THEOREM. The migration of a block between outlets (R149 to R151), one lemma for each step and timeout of Table 6.3.
-/

namespace Sys2Proof.Machine

set_option Elab.async false

theorem putShare_nothing (b : Nat) (s : State) : (putShare b 0 s).get Obj.blockShare b = 0 := by
  have nothing : clampI 0 65535 (roundAway (0 * 65536)) = 0 := by decide +kernel
  rw [putShare, get_set_same, nothing]

theorem freeBlock_clears (b : Nat) (s : State) :
    (freeBlock b s).get Obj.boundOutlet b = 255 ∧ (freeBlock b s).get Obj.blockShare b = 0 := by
  simp (decide := true) [freeBlock]

theorem withholdBlock_withholds (b r : Nat) (cause : Int) (s : State) :
    (withholdBlock b r cause s).get Obj.allocState b = 7 ∧ (withholdBlock b r cause s).get Obj.withholdCause b = cause := by
  simp (decide := true) [withholdBlock]

theorem completeMove_counts (b : Nat) (s : State) :
    (completeMove b s).get Obj.migrationsCompleted = (s.get Obj.migrationsCompleted + 1) % 4294967296 := by
  simp (decide := true) [completeMove, endMove]

/-- No reach of a block that reports all of them open reports otherwise. -/
theorem find_reported_of_open {s : State} {b : Nat} (h : allReportedOpen s b = true) :
    ([0, 1, 2, 3].find? fun r => contactorReported s b r != 0) = none := by
  simpa [allReportedOpen] using h

section
variable {s : State} {block : Fin 64} {reach : Nat}

theorem migration_starts (queued : s.get Reg.mvQueued block ≠ 0) (idle : s.get Reg.mvKind block = 0)
    (may : mayMove s block (s.get Reg.mvQueued block) (s.getN Reg.mvQueuedTo block) = true) :
    ∃ t, exec (.migrationStart block) s = .next t ∧ t.get Reg.mvKind block = s.get Reg.mvQueued block ∧
      t.get Reg.mvStep block = 1 ∧ t.get Reg.mvM block = s.frame ∧ t.get Reg.mvQueued block = 0 := by
  change ∃ t, execMigrationStart block s = .next t ∧ _
  refine run_yields ?_
  rw [if_pos ⟨queued, idle, may⟩]
  simp (decide := true) [startMove]

theorem migration_opens_source (first : s.get Reg.mvStep block = 1) (idle : mayOpenReach s block = true)
    (elapsed : s.getN Reg.mvM block + 1003 ≤ s.frame) :
    ∃ t, exec (.migrationReachOpen block) s = .next t ∧ t.get Reg.mvStep block = 3 ∧ t.get Reg.mvO block = s.frame ∧
      t.get Obj.blockShare block = 0 := by
  have frame : (openReaches block s.fresh).frame = s.frame := by simp (decide := true) [State.frame, State.getN]
  change ∃ t, execMigrationReachOpen block s = .next t ∧ _
  refine run_yields ?_
  dsimp only
  rw [if_pos ⟨first, idle, .inl elapsed⟩, done_get, done_get, done_get, putShare_nothing]
  simp (decide := true) [frame]

theorem migration_waits (third : s.get Reg.mvStep block = 3) (elapsed : s.getN Reg.mvO block + 1500 ≤ s.frame)
    (opened : allReportedOpen s block = true) :
    ∃ t, exec (.migrationWaitEnd block) s = .next t ∧ t.get Reg.mvStep block = 4 ∧ t.get Obj.boundOutlet block = 255 := by
  have waited : s.fresh.get Reg.mvStep block = 3 ∧ s.fresh.getN Reg.mvO block + 1500 ≤ s.fresh.frame := ⟨third, elapsed⟩
  change ∃ t, execMigrationWaitEnd block s = .next t ∧ _
  refine run_yields ?_
  dsimp only
  rw [if_pos waited, find_reported_of_open (s := s.fresh) opened]
  dsimp only
  split <;> simp (decide := true)

theorem migration_closes_target (reaches : reachTo s block (s.getN Reg.mvTarget block) = some reach)
    (fourth : s.get Reg.mvStep block = 4) (moves : s.get Reg.mvKind block = 1) (near : 8 ≤ s.get Reg.nearRun block)
    (elapsed : preChargeFrom s block + 1008 ≤ s.frame) (may : mayCloseReach s block (s.getN Reg.mvTarget block) = true) :
    ∃ t, exec (.migrationPreChargeDone block) s = .next t ∧ t.get Reg.mvStep block = 6 ∧ t.get Obj.allocState block = 4 ∧
      t.get Obj.boundOutlet block = s.getN Reg.mvTarget block := by
  have target : reachTo s.fresh block (s.fresh.getN Reg.mvTarget block) = some reach := reaches
  have least : preChargeFrom s.fresh block + (if s.fresh.get Reg.mvKind block = 2 then 8 else 1008) ≤ s.fresh.frame := by
    rw [fresh_get, moves]
    exact elapsed
  have charged : s.fresh.get Reg.mvStep block = 4 ∧ s.fresh.get Reg.mvKind block ≠ 3 ∧ 8 ≤ s.fresh.get Reg.nearRun block ∧
      preChargeFrom s.fresh block + (if s.fresh.get Reg.mvKind block = 2 then 8 else 1008) ≤ s.fresh.frame ∧
      mayCloseReach s.fresh block (s.fresh.getN Reg.mvTarget block) = true :=
    ⟨fourth, by rw [fresh_get, moves]; decide, near, least, may⟩
  change ∃ t, execMigrationPreChargeDone block s = .next t ∧ _
  refine run_yields ?_
  dsimp only
  rw [target]
  dsimp only
  rw [if_pos charged]
  simp (decide := true) [moves]

theorem migration_rises (reaches : reachTo s block (s.getN Reg.mvTarget block) = some reach)
    (sixth : s.get Reg.mvStep block = 6) (closed : contactorReported s block reach = 1) :
    ∃ t, exec (.migrationClosedReported block) s = .next t ∧ t.get Reg.mvStep block = 7 ∧ t.get Reg.mvK block = s.frame := by
  have target : reachTo s.fresh block (s.fresh.getN Reg.mvTarget block) = some reach := reaches
  have reported : s.fresh.get Reg.mvStep block = 6 ∧ contactorReported s.fresh block reach = 1 := ⟨sixth, closed⟩
  change ∃ t, execMigrationClosedReported block s = .next t ∧ _
  refine run_yields ?_
  dsimp only
  rw [target]
  dsimp only
  rw [if_pos reported]
  simp (decide := true)

theorem migration_settles (seventh : s.get Reg.mvStep block = 7) (elapsed : s.getN Reg.mvK block + 1000 ≤ s.frame) :
    ∃ t, exec (.migrationSettled block) s = .next t ∧ t.get Obj.allocState block = 1 ∧
      t.get Obj.migrationsCompleted = (s.get Obj.migrationsCompleted + 1) % 4294967296 := by
  change ∃ t, execMigrationSettled block s = .next t ∧ _
  refine run_yields ?_
  rw [if_pos ⟨seventh, elapsed⟩, done_get, done_get, get_set_same, get_set_other _ _ _ _ _ _ _ _ (by decide), completeMove_counts]
  exact ⟨rfl, rfl⟩

theorem migration_stays_unopened (first : s.get Reg.mvStep block = 1) (late : s.getN Reg.mvM block + 1250 ≤ s.frame)
    (loaded : mayOpenReach s block = false) :
    ∃ t, exec (.migrationOpenTimeout block) s = .next t ∧ t.get Obj.allocState block = 1 := by
  have unopened : ¬ mayOpenReach s.fresh block = true := fun h => Bool.false_ne_true (loaded.symm.trans h)
  change ∃ t, execMigrationOpenTimeout block s = .next t ∧ _
  refine run_yields ?_
  rw [if_pos ⟨first, late, unopened⟩, done_get, resettle, get_set_same]

theorem migration_drops_uncharged (fourth : s.get Reg.mvStep block = 4) (moves : s.get Reg.mvKind block = 1)
    (late : preChargeFrom s block + 5000 ≤ s.frame) :
    ∃ t, exec (.migrationPreChargeTimeout block) s = .next t ∧ t.get Obj.boundOutlet block = 255 ∧
      t.get Obj.blockShare block = 0 := by
  have expired : s.fresh.get Reg.mvStep block = 4 ∧ s.fresh.get Reg.mvKind block ≠ 3 ∧
      preChargeFrom s.fresh block + 5000 ≤ s.fresh.frame := ⟨fourth, by rw [fresh_get, moves]; decide, late⟩
  change ∃ t, execMigrationPreChargeTimeout block s = .next t ∧ _
  refine run_yields ?_
  dsimp only
  rw [if_pos expired, done_get, done_get]
  exact freeBlock_clears ..

theorem migration_withholds_unclosed (reaches : reachTo s block (s.getN Reg.mvTarget block) = some reach)
    (sixth : s.get Reg.mvStep block = 6) (late : s.getN Reg.mvC block + 2000 ≤ s.frame) :
    ∃ t, exec (.migrationCloseTimeout block) s = .next t ∧ t.get Obj.allocState block = 7 ∧
      t.get Obj.withholdCause block = (if contactorReported s block reach = 3 then 2 else 1) := by
  have target : reachTo s.fresh block (s.fresh.getN Reg.mvTarget block) = some reach := reaches
  have expired : s.fresh.get Reg.mvStep block = 6 ∧ s.fresh.getN Reg.mvC block + 2000 ≤ s.fresh.frame := ⟨sixth, late⟩
  change ∃ t, execMigrationCloseTimeout block s = .next t ∧ _
  refine run_yields ?_
  dsimp only
  rw [target]
  dsimp only
  rw [if_pos expired, done_get, done_get]
  exact withholdBlock_withholds ..

end

/-- Settles O33, one lemma for each step and timeout. -/
theorem blockMigration : Obligations.BlockMigration := by
  unfold Obligations.BlockMigration
  exact ⟨fun _ _ => migration_starts, fun _ _ => migration_opens_source, fun _ _ => migration_waits,
    fun _ _ _ => migration_closes_target, fun _ _ _ => migration_rises, fun _ _ => migration_settles,
    fun _ _ => migration_stays_unopened, fun _ _ => migration_drops_uncharged, fun _ _ _ => migration_withholds_unclosed⟩

end Sys2Proof.Machine
end

section
/-!
THEOREM. The fast class, the slots, injections and captures of the loop engine, and the dispatch of command frames (R28,
R50, R112, R119, R120, R123, R126, R127), one lemma for each command. First what a granted write leaves besides numbers,
and what a write of one field leaves.
-/

namespace Sys2Proof.Machine

set_option Elab.async false

/-! ### Writes -/

theorem view_done (u : State) (q : List Instr) (o : Obj) : (u.done q).view o = u.view o := by
  simp only [State.view, done_get, done_bytes, done_seq, done_real, done_log]

/-- A granted write shows every quiet register as its rule leaves it. -/
theorem granted_shows {c : Instr} {r : Req} {o : Obj} {i j : Nat} {d : List Byte} {role space : Nat} {s u t : State}
    {fx : Nat → State → Except Nat State} (runs : exec c s = s.run (hostWrite r o i j d fx)) (g : Granted r o i j d role space s u)
    (h : fx role u = .ok t) : ∃ v, exec c s = .next v ∧ ∀ q : Obj, q.quiet = true → v.view q = t.view q := by
  refine ⟨_, runs, fun q hq => (view_done ..).trans ?_⟩
  exact (congrArg (State.view · q) (hostWrite_granted g h)).trans ((accepted_view hq ..).trans (markDirty_view hq ..))

/-- The write of a number in a field of the dictionary that no Ethernet staging takes. -/
theorem applyField_get {o q : Obj} (known : (objById o.id).isSome = true) (plain : ∀ p ∈ objTable, p.id = o.id → isEth p = false)
    (quiet : q.quiet = true) (unaudited : q.id ∉ Footprint.auditEntry) (role : Nat) (record : Bool) (i j : Nat) (v : Int)
    (d : List Byte) (s : State) (k l : Nat) :
    (applyField role record ⟨o.key i j, v, d, false⟩ s).get q k l = (s.set o v i j).get q k l := by
  obtain ⟨p, found⟩ := Option.isSome_iff_exists.1 known
  have same : p.id = o.id := by simpa using List.find?_some found
  have numeric : isEth p = false := plain p (List.mem_of_find?_eq_some found) same
  have written : objById (FieldWrite.key ⟨o.key i j, v, d, false⟩).o = some p := found
  have field : (s.set p v i j).get q k l = (s.set o v i j).get q k l := by rw [get_set, get_set, same]
  rw [applyField, written, ← field]
  simp only [numeric, if_false, Bool.false_eq_true]
  split
  · rw [get_auditEntry quiet unaudited, markDirty_get quiet]; rfl
  · rw [markDirty_get quiet]; rfl

/-- A parent that the levels allow stands in both fields; the levels that are shown follow. -/
theorem setParent_of_fit {i : Nat} {parent source : Int} {s : State}
    (fit : levelsFit (applyField 0 false ⟨Obj.slotParent.key i 0, parent, [], false⟩
      (applyField 0 false ⟨Obj.slotRefSource.key i 0, source, [], false⟩ s)) = true) :
    ∃ t, setParent i parent source s = .ok t ∧ t.get Obj.slotParent i = parent ∧ t.get Obj.slotRefSource i = source := by
  have parentField {q : Obj} (quiet : q.quiet = true) (unaudited : q.id ∉ Footprint.auditEntry) :=
    applyField_get (o := Obj.slotParent) (by decide +kernel) (by decide +kernel) quiet unaudited
  have sourceField {q : Obj} (quiet : q.quiet = true) (unaudited : q.id ∉ Footprint.auditEntry) :=
    applyField_get (o := Obj.slotRefSource) (by decide +kernel) (by decide +kernel) quiet unaudited
  have levels {q : Obj} (h : ¬ q.id = Obj.slotLevel.id) (k : Nat) (w : State) :
      (if w.get Obj.slotLevel k = ((levelOf w k).getD 0 : Nat) then w
        else w.set Obj.slotLevel ((levelOf w k).getD 0 : Nat) k).get q i = w.get q i := by
    simp [h]
  unfold setParent
  dsimp only
  rw [if_pos fit]
  refine ⟨_, rfl, ?_, ?_⟩
  · rw [forN_get (levels (by decide)), parentField (by decide) (by decide), get_set_same]
  · rw [forN_get (levels (by decide)), parentField (by decide) (by decide), get_set_other _ _ _ _ _ _ _ _ (by decide),
      sourceField (by decide) (by decide), get_set_same]

/-! ### Command frames -/

theorem dispatch_marks {c : Nat} {s : State} (sent : commanded s c = true) :
    (dispatch c s).get Reg.dispatchedFrame c = (s.frame + 1 : Nat) := by
  simp (decide := true) [dispatch, sent, foldl_get]

theorem commanded_dispatch (k c : Nat) (s : State) : commanded (dispatch k s) c = commanded s c := by
  simp (decide := true) [commanded, linkUp, laneIn, State.bit, State.is, State.getN]

theorem frame_dispatch (k : Nat) (s : State) : (dispatch k s).frame = s.frame := by
  simp (decide := true) [State.frame, State.getN]

theorem dispatchedFrame_dispatch_of_ne {k i : Nat} (ne : i ≠ k) (s : State) :
    (dispatch k s).get Reg.dispatchedFrame i = s.get Reg.dispatchedFrame i := by
  unfold dispatch
  split
  · rfl
  · simp (decide := true) [foldl_get, get_set, ne.symm]

/-- Of the frames dispatched in a row each commanded link notes its own. -/
theorem dispatchAll_marks {n c : Nat} (within : c < n) {s : State} (sent : commanded s c = true) :
    (s.forN n dispatch).get Reg.dispatchedFrame c = (s.frame + 1 : Nat) := by
  have front (n : Nat) : s.forN (n + 1) dispatch = dispatch n (s.forN n dispatch) := by
    simp [State.forN, List.range_succ, List.foldl_append]
  have kept (n : Nat) : commanded (s.forN n dispatch) c = true ∧ (s.forN n dispatch).frame = s.frame := by
    induction n with
    | zero => exact ⟨sent, rfl⟩
    | succ n ih => rw [front, commanded_dispatch, frame_dispatch]; exact ih
  induction n with
  | zero => omega
  | succ n ih =>
    rw [front]
    obtain rfl | earlier := Nat.eq_or_lt_of_le (Nat.le_of_lt_succ within)
    · obtain ⟨still, frame⟩ := kept c
      rw [dispatch_marks still, frame]
    · rw [dispatchedFrame_dispatch_of_ne earlier.ne, ih earlier]

section
variable {s u : State} {r : Req} {block : Fin 64} {slot : Fin 1024} {d : List Byte} {role space : Nat}

theorem commandFrames_noted {link : Fin 16} (may : mayDriveLanes s = true) (alone : s.get Reg.partnerActive = 0)
    (sent : commanded s link = true) :
    ∃ t, exec (.commandDispatch []) s = .next t ∧ t.get Reg.dispatchedFrame link = s.frame + 1 := by
  have drives : mayDriveLanes s.fresh = true ∧ s.fresh.get Reg.partnerActive = 0 := ⟨may, alone⟩
  have noted : (s.fresh.forN 16 dispatch).get Reg.dispatchedFrame link = (s.frame + 1 : Nat) :=
    dispatchAll_marks (s := s.fresh) link.isLt sent
  change ∃ t, execCommandDispatch [] s = .next t ∧ _
  refine run_yields ?_
  simp only [List.any_nil, Bool.false_eq_true, if_false, if_pos drives, done_get]
  simp (decide := true) [noted]

/-! ### The fast class -/

theorem fastClass_shows_window {mism again late : List Nat} {finished peak : Nat} :
    ∃ t, exec (.fastClassEvaluation mism again late finished peak) s = .next t ∧
      t.get Obj.fastWindowLast = (min 65535 finished : Nat) := by
  change ∃ t, execFastClassEvaluation mism again late finished peak s = .next t ∧ _
  refine run_yields ?_
  simp (decide := true)

theorem mismatchFreePeriod_allows_starts (free : s.getN Reg.lastMismatch + 50000 ≤ s.frame) :
    ∃ t, exec .mismatchFreePeriodEnd s = .next t ∧ t.get Reg.startRefused block = 0 := by
  have elapsed : s.fresh.getN Reg.lastMismatch + 50000 ≤ s.fresh.frame := free
  change ∃ t, execMismatchFreePeriodEnd s = .next t ∧ _
  refine run_yields ?_
  rw [if_pos elapsed, done_get]
  refine forN_get_at (v := fun _ => 0) (fun k w => get_set_same ..) ?_ block.isLt _
  intro k i w ne
  simp [get_set, ne.symm]

theorem fastDeadline_counts (unfinished : s.seq Reg.unfinished ≠ []) :
    ∃ t, exec .fastClassDeadline s = .next t ∧ t.get Obj.fastOverruns = (s.get Obj.fastOverruns + 1) % 4294967296 ∧
      t.get Reg.fastOverrunRun = s.get Reg.fastOverrunRun + 1 ∧ t.seq Reg.unfinished = [] := by
  have logged (code src elem period : Nat) (text : List Byte) (w : State) :
      (logLimited code src elem period text w).seq Reg.unfinished = w.seq Reg.unfinished :=
    seq_of_view (view_of_part (logLimited_part (by decide) ..)) 0 0
  change ∃ t, execFastClassDeadline s = .next t ∧ _
  refine run_yields ?_
  simp (decide := true) [unfinished, forL_get, logged]

theorem overrunLimit_hands_over (overruns : 8 ≤ s.get Reg.fastOverrunRun) (fit : standbyFit s = true) :
    ∃ t, exec .fastClassOverrunLimit s = .next t ∧ t.get Reg.handoverDue = 1 := by
  have limit : 8 ≤ s.fresh.get Reg.fastOverrunRun := overruns
  have partner : standbyFit s.fresh = true := fit
  change ∃ t, execFastClassOverrunLimit s = .next t ∧ _
  refine run_yields ?_
  rw [if_pos limit, handOverOr, if_pos partner, done_get, get_set_same]

theorem overrunLimit_stops_alone (overruns : 8 ≤ s.get Reg.fastOverrunRun) (alone : standbyFit s = false) :
    ∃ t, exec .fastClassOverrunLimit s = .next t ∧ t.get Reg.startHeld block = 0 := by
  have limit : 8 ≤ s.fresh.get Reg.fastOverrunRun := overruns
  have partner : ¬ standbyFit s.fresh = true := fun h => Bool.false_ne_true (alone.symm.trans h)
  change ∃ t, execFastClassOverrunLimit s = .next t ∧ _
  refine run_yields ?_
  rw [if_pos limit, handOverOr, if_neg partner, done_get]
  exact (stopAllBlocks_ends_starts block.isLt _).1

/-! ### Presets, clears, cascades -/

theorem preset_taken (g : Granted r Obj.slotPreset slot 0 d role space s u) :
    ∃ t, exec (.presetOutput r slot d) s = .next t ∧ t.get Reg.slotPresetDue slot = 1 ∧
      t.real Reg.slotPresetValue slot = f32Val (ofBytes d) := by
  obtain ⟨t, run, shows_⟩ := granted_shows (c := .presetOutput r slot d) rfl g rfl
  refine ⟨t, run, ?_⟩
  rw [get_of_view (shows_ _ (by decide)), real_of_view (shows_ _ (by decide))]
  simp (decide := true) [presetSlot]

theorem clear_taken (g : Granted r Obj.slotClear slot 0 d role space s u) :
    ∃ t, exec (.clearIntegrator r slot d) s = .next t ∧ t.get Reg.slotClearDue slot = 1 := by
  obtain ⟨t, run, reads⟩ := granted_leaves (c := .clearIntegrator r slot d) rfl g rfl
  exact ⟨t, run, by rw [reads _ (by decide)]; exact get_set_same ..⟩

theorem parent_taken (g : Granted r Obj.slotParent slot 0 d role space s u)
    (fit : levelsFit (applyField 0 false ⟨Obj.slotParent.key slot 0, ofBytes d, [], false⟩
      (applyField 0 false ⟨Obj.slotRefSource.key slot 0, sourceOfParent (ofBytes d), [], false⟩ u)) = true) :
    ∃ t, exec (.parentSlotWrite r slot false d) s = .next t ∧ t.get Obj.slotParent slot = ofBytes d ∧
      t.get Obj.slotRefSource slot = sourceOfParent (ofBytes d) := by
  obtain ⟨t, taken, parent, source⟩ := setParent_of_fit fit
  have runs : exec (.parentSlotWrite r slot false d) s = s.run (hostWrite r Obj.slotParent slot 0 d
      fun _ t => setParent slot (ofBytes d) (sourceOfParent (ofBytes d)) t) := rfl
  obtain ⟨v, run, reads⟩ := granted_leaves runs g taken
  exact ⟨v, run, by rw [reads _ (by decide), parent], by rw [reads _ (by decide), source]⟩

/-! ### Injection and capture -/

theorem injectionState_endInjection (cause : Int) (s : State) : (endInjection cause s).get Obj.injectionState = 0 := by
  unfold endInjection
  split
  next ended => exact ended
  next => simp (decide := true)

theorem captureState_endCapture {shown : Int} {s : State} (runs : s.get Obj.captureState = 1) :
    (endCapture shown s).get Obj.captureState = shown := by
  simp (decide := true) [endCapture, runs, queueItem_get]

theorem injection_starts (g : Granted r Obj.startInjection 0 0 [1] role space s u) (freeSlot : 416 ≤ u.getN Obj.injectionTarget)
    (runs : slotIsHeld u (u.getN Obj.injectionTarget) = false) (enabled : slotEnabled u (u.getN Obj.injectionTarget) = true)
    (idle : u.get Obj.injectionState = 0) :
    ∃ t, exec (.startInjection r) s = .next t ∧ t.get Obj.injectionState = 1 ∧
      t.get Reg.injectionSlot = u.getN Obj.injectionTarget ∧ t.get Reg.injectionCount = 0 := by
  have may : ¬ ((u.getN Obj.injectionTarget < 416 ∧ (u.get Obj.lifeCycleState ≠ lcService ∨ role ≠ roleService)) ∨
      slotIsHeld u (u.getN Obj.injectionTarget) = true ∨ ¬ slotEnabled u (u.getN Obj.injectionTarget) = true ∨
      u.get Obj.injectionState = 1) := by
    rintro (h | h | h | h)
    · exact freeSlot.not_gt h.1
    · exact Bool.false_ne_true (runs.symm.trans h)
    · exact h enabled
    · exact absurd (idle.symm.trans h) (by decide)
  obtain ⟨t, run, reads⟩ := granted_leaves (c := .startInjection r) rfl g (if_neg may)
  refine ⟨t, run, ?_⟩
  rw [reads _ (by decide), reads _ (by decide), reads _ (by decide)]
  simp (decide := true)

theorem injection_stops (g : Granted r Obj.stopInjection 0 0 [1] role space s u) :
    ∃ t, exec (.stopInjection r) s = .next t ∧ t.get Obj.injectionState = 0 := by
  obtain ⟨t, run, reads⟩ := granted_leaves (c := .stopInjection r) rfl g rfl
  exact ⟨t, run, by rw [reads _ (by decide)]; exact injectionState_endInjection ..⟩

theorem injection_ends_at_length (runs : s.get Obj.injectionState = 1) (chirp : s.get Obj.injectionSignal = 1)
    (reached : s.getN Obj.injectionLength + 16384 ≤ s.getN Reg.injectionCount) :
    ∃ t, exec .injectionLengthReached s = .next t ∧ t.get Obj.injectionState = 0 := by
  change ∃ t, execInjectionLengthReached s = .next t ∧ _
  refine run_yields ?_
  rw [if_pos ⟨runs, .inl chirp, reached⟩, done_get]
  exact injectionState_endInjection ..

theorem capture_starts (g : Granted r Obj.captureCommand 0 0 [1] role space s u)
    (free : bankFree u (u.getN Obj.captureBank) = true) (idle : u.get Obj.captureState = 0) :
    ∃ t, exec (.startCapture r) s = .next t ∧ t.get Obj.captureState = 1 ∧ t.get Obj.samplesTaken = 0 ∧
      t.get Obj.captureStartFrame = u.frame := by
  have may : ¬ (¬ bankFree u (u.getN Obj.captureBank) = true ∨ u.get Obj.captureState = 1) := by
    rintro (h | h)
    · exact h free
    · exact absurd (idle.symm.trans h) (by decide)
  obtain ⟨t, run, reads⟩ := granted_leaves (c := .startCapture r) rfl g (if_neg may)
  refine ⟨t, run, ?_⟩
  rw [reads _ (by decide), reads _ (by decide), reads _ (by decide)]
  simp (decide := true) [State.frame, State.getN]

theorem capture_stops (g : Granted r Obj.captureCommand 0 0 [2] role space s u) (runs : u.get Obj.captureState = 1) :
    ∃ t, exec (.stopCapture r) s = .next t ∧ t.get Obj.captureState = 2 := by
  obtain ⟨t, run, reads⟩ := granted_leaves (c := .stopCapture r) rfl g rfl
  exact ⟨t, run, by rw [reads _ (by decide)]; exact captureState_endCapture runs⟩

theorem capture_completes (runs : s.get Obj.captureState = 1) (full : 16384 ≤ s.get Obj.samplesTaken) :
    ∃ t, exec .captureComplete s = .next t ∧ t.get Obj.captureState = 2 := by
  have sampled : 16384 ≤ s.fresh.get Obj.samplesTaken := full
  change ∃ t, execCaptureComplete s = .next t ∧ _
  refine run_yields ?_
  rw [if_pos sampled, done_get]
  exact captureState_endCapture (s := s.fresh) runs

end

/-- Settles O34, one lemma for each command. -/
theorem loopSlotsAndCaptures : Obligations.LoopSlotsAndCaptures := by
  unfold Obligations.LoopSlotsAndCaptures
  exact ⟨fun _ _ _ _ _ _ => fastClass_shows_window, fun _ _ => mismatchFreePeriod_allows_starts, fun _ => fastDeadline_counts,
    fun _ => overrunLimit_hands_over, fun _ _ => overrunLimit_stops_alone, fun _ _ _ _ _ _ _ => preset_taken,
    fun _ _ _ _ _ _ _ => clear_taken, fun _ _ _ _ _ _ _ => parent_taken, fun _ _ _ _ _ => injection_starts,
    fun _ _ _ _ _ => injection_stops, fun _ => injection_ends_at_length, fun _ _ _ _ _ => capture_starts,
    fun _ _ _ _ _ => capture_stops, fun _ => capture_completes, fun _ _ => commandFrames_noted⟩

end Sys2Proof.Machine
end

section
/-!
THEOREM. What a cabinet terminal does with its commands and without them (R61, R62), one lemma for each case.
-/

namespace Sys2Proof.Machine

/-- A loop makes true of one step what the other steps neither hinder before it nor undo after it. -/
theorem forN_establishes {P Q : State → Prop} {f : Nat → State → State} {n i : Nat} (inside : i < n)
    (before : ∀ k u, k ≠ i → P u → P (f k u)) (made : ∀ u, P u → Q (f i u)) (after : ∀ k u, k ≠ i → Q u → Q (f k u))
    {s : State} (start : P s) : Q (s.forN n f) := by
  have front (n : Nat) : s.forN (n + 1) f = f n (s.forN n f) := by
    simp [State.forN, List.range_succ, List.foldl_append]
  have kept (n : Nat) (le : n ≤ i) : P (s.forN n f) := by
    induction n with
    | zero => exact start
    | succ n ih => rw [front]; exact before n _ (by omega) (ih (by omega))
  induction n with
  | zero => omega
  | succ n ih =>
    rw [front]
    obtain rfl | earlier := Nat.eq_or_lt_of_le (Nat.le_of_lt_succ inside)
    · exact made _ (kept i le_rfl)
    · exact after n _ earlier.ne' (ih earlier)

theorem forN_bytes {o : Obj} {i j : Nat} {f : Nat → State → State} (h : ∀ k u, (f k u).bytes o i j = u.bytes o i j) (n : Nat)
    (s : State) : (s.forN n f).bytes o i j = s.bytes o i j := by
  unfold State.forN
  induction List.range n generalizing s with
  | nil => rfl
  | cons k l ih => exact (ih (f k s)).trans (h k s)

section
variable {s : State} {link : Fin 16} {f : List Byte}

theorem terminal_accepts (whole : f.length = 536) (crc : ofBytes (f.drop 532) = crc32 (f.take 532)) (kind : fieldU f 0 1 = 0x11)
    (own : fieldU f 1 1 / 16 = link) (due : fieldU f 4 4 = (s.get Reg.termNow link + 1) % 4294967296)
    (synced : s.is Reg.termSynced link = true) :
    ∃ t, exec (.terminalCommandAccept link false f) s = .next t ∧ t.get Reg.termNow link = s.get Reg.termNow link + 1 ∧
      t.get Reg.termMissed link = 0 ∧ t.get Reg.termLength link = fieldU f 8 2 % 16384 ∧
      t.bytes Reg.termCommand link = f.take 532 ∧ t.get Reg.termDrops link = s.get Reg.termDrops link := by
  have fits : f.length = 536 ∧ ofBytes (f.drop 532) = crc32 (f.take 532) ∧ fieldU f 0 1 = 0x11 ∧ fieldU f 1 1 / 16 = link ∧
      fieldU f 4 4 = ((s.fresh.get Reg.termNow link + 1) % 4294967296) ∧ ¬ false = true ∧ s.fresh.is Reg.termSynced link = true :=
    ⟨whole, crc, kind, own, due, Bool.false_ne_true, synced⟩
  have command (mode len : Int) (frame p : Nat) (record : PhaseRecord) (u : State) :
      (termRecord mode len frame p record u).bytes Reg.termCommand link = u.bytes Reg.termCommand link :=
    bytes_of_view (view_of_part (termRecord_part (by decide) (by decide) ..)) ..
  change ∃ t, execTerminalCommandAccept link false f s = .next t ∧ _
  refine run_yields ?_
  rw [termAccept, if_neg (not_not.2 fits)]
  simp (decide := true) [forN_get, forN_bytes, command]

theorem terminal_drops_late :
    ∃ t, exec (.terminalCommandAccept link true f) s = .next t ∧ t.get Reg.termNow link = s.get Reg.termNow link ∧
      t.get Reg.termDrops link = (s.get Reg.termDrops link + 1) % 65536 := by
  change ∃ t, execTerminalCommandAccept link true f s = .next t ∧ _
  refine run_yields ?_
  simp (decide := true) [termAccept]

theorem terminal_holds (held : s.get Reg.termMissed link < 40) (synced : s.is Reg.termSynced link = true) :
    ∃ t, exec (.terminalHold link) s = .next t ∧ t.get Reg.termMissed link = s.get Reg.termMissed link + 1 ∧
      t.get Reg.termNow link = s.get Reg.termNow link + 1 ∧
      t.get Reg.termIndex link = ((s.getN Reg.termIndex link + 1) % 128 : Nat) := by
  have holds : ¬ (40 < s.fresh.get Reg.termMissed link + 1 ∨ ¬ s.fresh.is Reg.termSynced link = true) := by
    rintro (late | unsynced)
    · exact absurd late (by rw [fresh_get]; omega)
    · exact unsynced synced
  change ∃ t, execTerminalHold link s = .next t ∧ _
  refine run_yields ?_
  rw [termHold, if_neg holds]
  simp (decide := true) [forN_get]

theorem terminal_turns_off {i : Fin 16} (last : s.get Reg.termMissed link = 40)
    (driven : s.get Reg.termPhaseCmd (16 * link + i) ≠ 2) :
    ∃ t, exec (.terminalSafeOff link) s = .next t ∧ t.get Reg.termMode link = 2 ∧ t.get Reg.termSynced link = 0 ∧
      t.get Reg.termPhaseCmd (16 * link + i) = 0 ∧ t.seq Reg.termEdges (16 * link + i) = [] := by
  have limit : ¬ s.fresh.get Reg.termMissed link ≠ 40 := not_not.2 last
  change ∃ t, execTerminalSafeOff link s = .next t ∧ _
  refine run_yields ?_
  rw [termSafeOff, if_neg limit]
  refine ⟨by simp (decide := true) [forN_get], by simp (decide := true) [forN_get], ?_⟩
  rw [done_get, done_seq]
  refine forN_establishes (i := i) (P := fun u => u.get Reg.termPhaseCmd (16 * link + i) ≠ 2)
    (Q := fun u => u.get Reg.termPhaseCmd (16 * link + i) = 0 ∧ u.seq Reg.termEdges (16 * link + i) = []) i.isLt ?_ ?_ ?_ ?_
  · intro k u ne unlatched
    dsimp only
    split
    · exact unlatched
    · simpa [get_set, ne] using unlatched
  · intro u unlatched
    rw [if_neg unlatched]
    simp (decide := true)
  · intro k u ne off
    dsimp only
    split
    · exact off
    · simpa [get_set, seq_setSeq, ne] using off
  · simpa (decide := true) using driven

theorem terminal_keeps_fault {phase : Fin 256} {cause : Fin 8} (fault : cause.val ≠ 0) :
    ∃ t, exec (.terminalPhaseFault phase cause) s = .next t ∧ t.get Reg.termFault phase = cause.val ∧
      t.get Reg.termPhaseCmd phase = 0 ∧ t.seq Reg.termEdges phase = [] ∧
      t.get Reg.termFaultFrame phase = s.get Reg.termNow (cabOf phase) := by
  change ∃ t, execTerminalPhaseFault phase cause s = .next t ∧ _
  refine run_yields ?_
  rw [termFaultOff, if_neg fault]
  simp (decide := true)

end

/-- Settles O35, one lemma for each case. -/
theorem terminalPlays : Obligations.TerminalPlays := by
  unfold Obligations.TerminalPlays
  exact ⟨fun _ _ _ => terminal_accepts, fun _ _ _ => terminal_drops_late, fun _ _ => terminal_holds,
    fun _ _ _ => terminal_turns_off, fun _ _ _ => terminal_keeps_fault⟩

end Sys2Proof.Machine
end

section
/-!
THEOREM. The mains link: lost half cycles, claim rounds, repeats, polls and commands, and the frames of outstations (R340,
R344, R345, R350 to R352), one lemma for each command.
-/

namespace Sys2Proof.Machine

/-! ### Frames sent -/

theorem log_logEvent {o : Obj} (q : o.quiet = true) (code src : Nat) (d : List Byte) (s : State) (i : Nat) :
    (logEvent code src d s).log o i = s.log o i := log_of_view (view_of_part (logEvent_part q code src d s)) i

theorem queueFrame_queues (n typ prio : Nat) (payload : List Byte) (s : State) :
    ((queueFrame n typ prio payload s).log Reg.mplQueue).length = (s.log Reg.mplQueue).length + 1 := by
  simp [queueFrame, nextSeq]

/-- The only frame that waits goes out in an unclaimed round. -/
theorem pickFrame_only {f : List Byte} (prio : frPrio f < 4) : pickFrame [f] 4 = some (f, []) := by
  have cases : frPrio f = 0 ∨ frPrio f = 1 ∨ frPrio f = 2 ∨ frPrio f = 3 := by omega
  obtain h | h | h | h := cases <;> simp [pickFrame, h]

/-! ### Frames received -/

theorem log_osAnswers (n : Nat) (s : State) : (osAnswers n s).log Reg.mplAwait = s.log Reg.mplAwait :=
  log_of_view (view_of_part (osAnswers_part (by decide) (by decide) n s)) 0

/-- A good frame is acted on once: its sequence is kept and its outstation answers. -/
theorem takeFrame_acts {typ : Nat} {header body : List Byte} {s : State} (again act : Nat → List Byte → State → State)
    (good : goodFrame s typ header body = true)
    (new : s.getN Reg.osRxSeq (frSource (header.take 13)) ≠ frSeq (header.take 13) + 1) :
    takeFrame typ header body again act s = act (frSource (header.take 13)) (header.take 13) (osAnswers (frSource (header.take 13))
      ((s.set Reg.osRxSeq (frSeq (header.take 13) + 1) (frSource (header.take 13))).set Reg.osRxAt s.now
        (frSource (header.take 13)))) := by
  have source : frSource (header.take 13) ≠ 0 := by
    simp only [goodFrame, Bool.and_eq_true, bne_iff_ne] at good
    exact good.1.2
  unfold takeFrame
  dsimp only
  rw [if_neg source, if_neg (not_not.2 good), if_neg fun h => new h.1]

theorem installMap_installs (n dir gen map : Nat) (s : State) : (installMap n dir gen map s).get Obj.osMap n dir = map := by
  unfold installMap
  dsimp only
  split <;> split <;> simp (decide := true)

theorem log_installMap (n dir gen map : Nat) (s : State) : (installMap n dir gen map s).log Reg.mplAwait = s.log Reg.mplAwait := by
  unfold installMap
  dsimp only
  split <;> split <;> simp (decide := true) [log_logEvent, State.setBit]

/-- The map that a sounding gives rests on the two thresholds. -/
theorem mapFrom_congr {s t : State} (first : t.get Obj.loading1Threshold = s.get Obj.loading1Threshold)
    (second : t.get Obj.loading2Threshold = s.get Obj.loading2Threshold) (snr : List Int) : mapFrom t snr = mapFrom s snr := by
  have same : loadingBy t = loadingBy s := funext fun v => by rw [loadingBy, loadingBy, first, second]
  rw [mapFrom, mapFrom, same]

section
variable {s u : State} {r : Req} {f header body d : List Byte} {role space n : Nat} {outstation : Fin 63}

/-! ### Rounds -/

theorem crossing_missed (enabled : s.is Obj.linkEnable = true) (locked : s.is Reg.mplLocked = true)
    (runs : s.get Obj.mplState = 2) (few : s.get Reg.mplRun < 7) :
    ∃ t, exec .crossingMissing s = .next t ∧ t.get Reg.mplRun = s.get Reg.mplRun + 1 := by
  have below : s.get Reg.mplRun + 1 < 8 := by omega
  change ∃ t, execCrossingMissing s = .next t ∧ _
  refine run_yields ?_
  simp (decide := true) [enabled, locked, runs, lostHalf, below]

theorem claim_sends (may : mayClaim s = true) (free : s.log Reg.mplAwait = []) (queued : s.log Reg.mplQueue = [f])
    (prio : frPrio f < 4) (calls : callsFor (frType f) = true) :
    ∃ t, exec (.claimRound []) s = .next t ∧ t.log Reg.mplQueue = [] ∧ (t.log Reg.mplAwait).length = 1 ∧
      t.get Reg.mplAttempts = 1 := by
  have claims : ¬ ¬ mayClaim s.fresh = true := not_not.2 may
  change ∃ t, execClaimRound [] s = .next t ∧ _
  refine run_yields ?_
  rw [if_neg claims]
  simp (decide := true) [free, queued, pickFrame_only prio, calls, transmit]

theorem response_repeated (awaits : s.log Reg.mplAwait = [f]) (missed : s.is Reg.mplMissed = true) (may : mayClaim s = true)
    (few : s.get Reg.mplAttempts < attemptLimit s (frType f)) :
    ∃ t, exec .responseTimeoutRepeat s = .next t ∧ t.get Reg.mplAttempts = s.get Reg.mplAttempts + 1 ∧
      t.get Reg.mplMissed = 0 := by
  have claims : ¬ (¬ s.fresh.is Reg.mplMissed = true ∨ ¬ mayClaim s.fresh = true) := not_or.2 ⟨not_not.2 missed, not_not.2 may⟩
  have again : ¬ attemptLimit s.fresh (frType f) ≤ s.fresh.get Reg.mplAttempts := few.not_ge
  change ∃ t, execResponseTimeoutRepeat s = .next t ∧ _
  refine run_yields ?_
  rw [fresh_log, awaits, List.head?_cons]
  dsimp only
  rw [if_neg claims, if_neg again]
  split <;> simp (decide := true) [State.draw]

theorem poll_queued (some_ : outstation.val ≠ 0) (declared : s.is Obj.osDeclared outstation = true) (may : mayClaim s = true)
    (empty : s.log Reg.mplQueue = []) (free : s.log Reg.mplAwait = []) (first : s.getN Reg.osPolledAt outstation = 0) :
    ∃ t, exec (.poll outstation) s = .next t ∧ t.get Reg.osPolledAt outstation = s.now + 1 ∧
      (t.log Reg.mplQueue).length = 1 := by
  have claims : mayClaim s.fresh = true := may
  change ∃ t, execPoll outstation s = .next t ∧ _
  refine run_yields ?_
  simp (decide := true) [some_, declared, claims, empty, free, first, queueFrame_queues]

theorem command_queued (g : Granted r Obj.osCommand outstation 0 d role space s u) (some_ : outstation.val ≠ 0) :
    ∃ t, exec (.outstationCommand r outstation d) s = .next t ∧ t.bytes Obj.osCommand outstation = d ∧
      t.get Obj.osOutcome outstation = 1 := by
  obtain ⟨t, run, reads⟩ := granted_shows (c := .outstationCommand r outstation d) rfl g (if_neg some_)
  refine ⟨t, run, ?_⟩
  rw [bytes_of_view (reads _ (by decide)), get_of_view (reads _ (by decide))]
  simp (decide := true) [queueFrame, nextSeq]

theorem estimation_begins (declared : s.is Obj.osDeclared outstation = true) (present : 2 ≤ s.get Obj.osState outstation)
    (may : mayClaim s = true) (due : s.is Reg.osDue outstation 0 = true) (idle : s.is Reg.osEstimating outstation 0 = false) :
    ∃ t, exec (.estimationDue outstation false) s = .next t ∧ t.get Reg.osEstimating outstation 0 = 1 ∧
      t.get Obj.osState outstation = 3 := by
  have claims : mayClaim s.fresh = true := may
  change ∃ t, execEstimationDue outstation false s = .next t ∧ _
  refine run_yields ?_
  simp (decide := true) [declared, present, claims, due, idle]

/-! ### What an outstation sends -/

theorem status_taken (good : goodFrame s 1 header body = true) (source : frSource (header.take 13) = n)
    (new : s.getN Reg.osRxSeq n ≠ frSeq (header.take 13) + 1) :
    ∃ t, exec (.status header body) s = .next t ∧ t.get Obj.osInputs n = ofBytes ((frPayload (header.take 13)).take 2) ∧
      t.get Obj.osOutputs n = ofBytes (((frPayload (header.take 13)).drop 2).take 2) := by
  subst source
  change ∃ t, execStatus header body s = .next t ∧ _
  refine run_yields ?_
  rw [takeFrame_acts (s := s.fresh) _ _ good new]
  dsimp only
  split <;> split <;> simp (decide := true)

theorem alarm_taken (good : goodFrame s 4 header body = true) (source : frSource (header.take 13) = n)
    (new : s.getN Reg.osRxSeq n ≠ frSeq (header.take 13) + 1) :
    ∃ t, exec (.alarm header body) s = .next t ∧
      t.get Obj.osInputs n = ofBytes (((frPayload (header.take 13)).drop 2).take 2) ∧
      t.get Obj.osAlarms n = (s.get Obj.osAlarms n + 1) % 4294967296 := by
  subst source
  change ∃ t, execAlarm header body s = .next t ∧ _
  refine run_yields ?_
  rw [takeFrame_acts (s := s.fresh) _ _ good new]
  simp (decide := true)

theorem ack_settles_map (good : goodFrame s 3 header body = true) (source : frSource (header.take 13) = n)
    (new : s.getN Reg.osRxSeq n ≠ frSeq (header.take 13) + 1) (awaits : s.log Reg.mplAwait = [f]) (dest : frDest f = n)
    (kind : frType f = 7) (seq : frSeq f = ofBytes ((frPayload (header.take 13)).take 1)) :
    ∃ t, exec (.ack header body) s = .next t ∧ t.log Reg.mplAwait = [] ∧ t.get Obj.osMap n 1 = s.getN Reg.osMapNew n := by
  subst source
  change ∃ t, execAck header body s = .next t ∧ _
  refine run_yields ?_
  rw [takeFrame_acts (s := s.fresh) _ _ good new]
  simp (decide := true) [log_osAnswers, awaits, dest, kind, seq, installMap_installs, log_installMap, settleAwait, State.getN]

theorem sound_gives_map {snr : List Int} (good : goodFrame s 6 header [] = true) (source : frSource (header.take 13) = n)
    (new : s.getN Reg.osRxSeq n ≠ frSeq (header.take 13) + 1) (drives : isDriving s = true) :
    ∃ t, exec (.sound header snr) s = .next t ∧ t.get Reg.osMapNew n = mapFrom s snr := by
  subst source
  change ∃ t, execSound header snr s = .next t ∧ _
  refine run_yields ?_
  rw [takeFrame_acts (s := s.fresh) _ _ good new]
  generalize heard : osAnswers (frSource (header.take 13)) _ = t
  have drives : isDriving t = true := by subst heard; simpa (decide := true) [isDriving] using drives
  have loads : mapFrom t snr = mapFrom s snr := by
    subst heard
    exact mapFrom_congr (by simp (decide := true)) (by simp (decide := true)) snr
  have still : isDriving (settleAwait t) = true := by simpa (decide := true) [isDriving] using drives
  dsimp only
  rw [loads]
  split <;> simp (decide := true)

theorem map_installed (good : goodFrame s 7 header body = true) (source : frSource (header.take 13) = n)
    (new : s.getN Reg.osRxSeq n ≠ frSeq (header.take 13) + 1)
    (fits : mapFits (ofBytes ((frPayload (header.take 13)).take 4)) = true)
    (generation : ofBytes (((frPayload (header.take 13)).drop 4).take 1) < 2) :
    ∃ t, exec (.map header body) s = .next t ∧ t.get Obj.osMap n 0 = ofBytes ((frPayload (header.take 13)).take 4) := by
  subst source
  change ∃ t, execMap header body s = .next t ∧ _
  refine run_yields ?_
  rw [takeFrame_acts (s := s.fresh) _ _ good new]
  simp (decide := true) [fits, generation, installMap_installs]

end

/-- Settles O36, one lemma for each command. -/
theorem mainsLinkExchanges : Obligations.MainsLinkExchanges := by
  unfold Obligations.MainsLinkExchanges
  exact ⟨fun _ => crossing_missed, fun _ _ => claim_sends, fun _ _ => response_repeated, fun _ _ => poll_queued,
    fun _ _ _ _ _ _ _ => command_queued, fun _ _ _ _ => status_taken, fun _ _ _ _ => alarm_taken,
    fun _ _ _ _ _ => ack_settles_map, fun _ _ _ _ => sound_gives_map, fun _ _ _ _ => map_installed,
    fun _ _ => estimation_begins⟩

end Sys2Proof.Machine
end

section
/-!
THEOREM. Billing boundaries of one kind: their instants, the host's closing and the commit of their record (R245 to R248,
R252, R255), one lemma for each command.
-/

namespace Sys2Proof.Machine

/-- Where no boundary waits, the closure alone makes one. -/
theorem joinBoundary_of_none {kind : Nat} {inst : Int} {s : State} (none_ : s.get Reg.bdKinds = 0) :
    joinBoundary kind inst s = (s.set Reg.bdKinds (withBit 0 kind true)).set Reg.bdInstant inst := by
  have pending : ¬ (s.get Reg.bdKinds ≠ 0 ∧ s.get Reg.bdInstant ≠ inst) := fun h => h.1 none_
  rw [joinBoundary, if_neg pending, State.setBit, none_]

theorem hasKind_of_none {s : State} (none_ : s.get Reg.bdKinds = 0) (kind : Nat) : hasKind s kind = false := by
  rw [hasKind, State.bit, State.getN, none_]
  exact Nat.zero_testBit kind

/-! The calendar reads nothing of the interfaces, which a command finds empty. -/

theorem closingFrom_fresh (s : State) (after : Int) (n y m : Nat) : closingFrom s.fresh after n y m = closingFrom s after n y m := by
  have closings (y m : Nat) : closingsIn s.fresh y m = closingsIn s y m := rfl
  induction n generalizing y m with
  | zero => rfl
  | succ n ih => simp only [closingFrom, closings, ih]

theorem nextClosing_fresh (s : State) (after : Int) : nextClosing s.fresh after = nextClosing s after := closingFrom_fresh ..

theorem civilTime_fresh (s : State) (at_ : Int) : civilTime s.fresh at_ = civilTime s at_ := rfl

section
variable {s u : State} {r : Req} {d : List Byte} {role space : Nat}

theorem interval_ends (due : intervalDue s = true) (none_ : s.get Reg.bdKinds = 0) :
    ∃ t, exec .demandIntervalEnd s = .next t ∧ t.get Reg.bdKinds = 1 ∧ t.get Reg.bdEnd = nextEnd s (s.get Reg.demandFrom) ∧
      t.get Reg.bdInstant = nextEnd s (s.get Reg.demandFrom) := by
  have ends : intervalDue s.fresh = true := due
  change ∃ t, execDemandIntervalEnd s = .next t ∧ _
  refine run_yields ?_
  rw [if_pos ends]
  dsimp only
  rw [joinBoundary_of_none (s := s.fresh) none_]
  simp (decide := true)
  rfl

theorem period_closes {c : Int} (runs : billingRuns s = true) (none_ : s.get Reg.bdKinds = 0)
    (closing : nextClosing s (max (s.get Reg.lastClosing) (civilTime s (s.get Reg.periodOpened))) = some c)
    (passed : c ≤ civilTime s s.time) :
    ∃ t, exec .billingPeriodClose s = .next t ∧ t.get Reg.bdKinds = 2 ∧ t.get Reg.bdCause = 1 ∧ t.get Reg.bdClosing = c := by
  have may : ¬ (¬ billingRuns s.fresh = true ∨ hasKind s.fresh 1 = true) := by
    rintro (h | h)
    · exact h runs
    · exact Bool.false_ne_true ((hasKind_of_none (s := s.fresh) none_ 1).symm.trans h)
  change ∃ t, execBillingPeriodClose s = .next t ∧ _
  refine run_yields ?_
  simp only [nextClosing_fresh, civilTime_fresh, fresh_get, fresh_time, if_neg may, closing, if_neg passed.not_gt,
    joinBoundary_of_none (s := s.fresh) none_]
  simp (decide := true)

theorem host_closes_period (g : Granted r Obj.closePeriod 0 0 [1] role space s u) (none_ : u.get Reg.bdKinds = 0) :
    ∃ t, exec (.closePeriod r) s = .next t ∧ t.get Reg.bdKinds = 2 ∧ t.get Reg.bdCause = 2 ∧ t.get Reg.bdInstant = u.time := by
  obtain ⟨t, run, reads⟩ := granted_leaves (c := .closePeriod r) rfl g rfl
  refine ⟨t, run, ?_⟩
  rw [reads _ (by decide), reads _ (by decide), reads _ (by decide), if_neg (Bool.not_eq_true _ ▸ hasKind_of_none none_ 1),
    joinBoundary_of_none none_]
  simp (decide := true)

theorem slot_switches (runs : billingRuns s = true) (none_ : s.get Reg.bdKinds = 0)
    (other : slotAt s s.time ≠ s.get Obj.slotInForce) :
    ∃ t, exec .tariffSlotSwitch s = .next t ∧ t.get Reg.bdKinds = 4 ∧ t.get Reg.bdInstant = s.time / minuteNs * minuteNs := by
  have due : billingRuns s.fresh = true ∧ ¬ hasKind s.fresh 2 = true ∧ slotAt s.fresh s.fresh.time ≠ s.fresh.get Obj.slotInForce :=
    ⟨runs, Bool.not_eq_true _ ▸ hasKind_of_none (s := s.fresh) none_ 2, other⟩
  change ∃ t, execTariffSlotSwitch s = .next t ∧ _
  refine run_yields ?_
  rw [if_pos due, joinBoundary_of_none (s := s.fresh) none_]
  simp (decide := true)

theorem activation_set (g : Granted r Obj.activationInstant 0 0 d role space s u) (later : u.time < ofBytesI d) :
    ∃ t, exec (.calendarActivationWrite r d) s = .next t ∧ t.get Obj.activationInstant = ofBytesI d ∧
      t.get Reg.activationDue = 1 ∧ t.get Reg.activationAt = ofBytesI d := by
  obtain ⟨t, run, reads⟩ := granted_leaves (c := .calendarActivationWrite r d) rfl g rfl
  refine ⟨t, run, ?_⟩
  rw [reads _ (by decide), reads _ (by decide), reads _ (by decide), setActivation, if_neg later.not_ge]
  simp (decide := true)

theorem calendar_activates (runs : billingRuns s = true) (none_ : s.get Reg.bdKinds = 0)
    (due : s.is Reg.activationDue = true) (passed : s.get Reg.activationAt ≤ s.time) :
    ∃ t, exec .calendarActivation s = .next t ∧ t.get Reg.bdKinds = 16 ∧ t.get Reg.bdInstant = s.get Reg.activationAt := by
  have may : billingRuns s.fresh = true ∧ s.fresh.is Reg.activationDue = true ∧ ¬ hasKind s.fresh 4 = true ∧
      s.fresh.get Reg.activationAt ≤ s.fresh.time :=
    ⟨runs, due, Bool.not_eq_true _ ▸ hasKind_of_none (s := s.fresh) none_ 4, passed⟩
  change ∃ t, execCalendarActivation s = .next t ∧ _
  refine run_yields ?_
  rw [if_pos may, joinBoundary_of_none (s := s.fresh) none_]
  simp (decide := true)

theorem dst_ends (runs : billingRuns s = true) (none_ : s.get Reg.bdKinds = 0) (ended : dstShiftAt s s.time = 0)
    (summer : s.is Obj.dstInForce = true) :
    ∃ t, exec .dstChange s = .next t ∧ t.get Reg.bdKinds = 64 ∧ t.get Reg.bdInstant = s.time / minuteNs * minuteNs := by
  have changed : (dstShiftAt s.fresh s.fresh.time != 0) ≠ s.fresh.is Obj.dstInForce := by
    have shift : dstShiftAt s.fresh s.fresh.time = 0 := ended
    rw [shift, fresh_is, summer]
    decide
  have due : billingRuns s.fresh = true ∧ ¬ hasKind s.fresh 6 = true ∧
      (dstShiftAt s.fresh s.fresh.time != 0) ≠ s.fresh.is Obj.dstInForce :=
    ⟨runs, Bool.not_eq_true _ ▸ hasKind_of_none (s := s.fresh) none_ 6, changed⟩
  change ∃ t, execDstChange s = .next t ∧ _
  refine run_yields ?_
  dsimp only
  rw [if_pos due, joinBoundary_of_none (s := s.fresh) none_]
  simp (decide := true)

theorem record_committed (pending : s.get Reg.bdKinds ≠ 0) :
    ∃ t, exec .boundaryRecordCommitted s = .next t ∧ t.get Reg.bdCommitted = 1 := by
  change ∃ t, execBoundaryRecordCommitted s = .next t ∧ _
  refine run_yields ?_
  simp [pending]

end

/-- Settles O37, one lemma for each command. -/
theorem billingBoundaries : Obligations.BillingBoundaries := by
  unfold Obligations.BillingBoundaries
  exact ⟨fun _ => interval_ends, fun _ _ => period_closes, fun _ _ _ _ _ => host_closes_period, fun _ => slot_switches,
    fun _ _ _ _ _ _ => activation_set, fun _ => calendar_activates, fun _ => dst_ends, fun _ => record_committed⟩

end Sys2Proof.Machine
end

section
/-!
THEOREM. Metering: samples and seconds, mains and channel faults, pulses, the theft watch, the pair's values, the
cross-check window, the seal and the metrology image (R218, R219, R222, R228, R231, R233 to R235, R237, R239), one lemma for
each command.
-/

namespace Sys2Proof.Machine

set_option Elab.async false

/-! ### Boundaries without waiting writes -/

theorem get_atBoundary_of_empty {o : Obj} (quiet : o.quiet = true) (h : o.id ∉ Footprint.atBoundary) {s : State}
    (empty : s.waiting = []) (b : Boundary) (i j : Nat) : (atBoundary b s).get o i j = s.get o i j :=
  get_of_view (view_of_part (atBoundary_part quiet h b fun _ hw => absurd (empty ▸ hw) List.not_mem_nil)) i j

/-! ### The audit log -/

/-- A refusal is noted only when the audit log is full. -/
theorem noteFull_of_room {s : State} (room : auditFull s = false) (index : Nat) (t : State) : noteFull index s t = t := by
  unfold noteFull
  split
  · simp [room]
  · rfl

theorem auditRoom_of_room {s : State} (room : auditFull s = false) (f : State → Except Nat State) : auditRoom s f = f s :=
  if_neg (Bool.not_eq_true _ ▸ room)

theorem auditEntry_counts {s : State} (room : auditFull s = false) (kind role index sub : Nat) (old new : List Byte) :
    (auditEntry kind role index sub old new s).get Obj.lastAuditSequence = s.get Obj.lastAuditSequence + 1 := by
  simp (decide := true) [auditEntry, room]

theorem loseMains_keeps_fault (f : Nat) (cause : Int) (s : State) (c : Nat) :
    (loseMains f cause s).get Reg.channelFault c = s.get Reg.channelFault c ∧
      (loseMains f cause s).get Reg.channelBadAt c = s.get Reg.channelBadAt c := by
  simp (decide := true)

theorem faultChannel_faults (c : Nat) (cause : Int) (s : State) :
    (faultChannel c cause s).get Reg.channelFault c = 1 ∧ (faultChannel c cause s).get Reg.channelBadAt c = s.now := by
  unfold faultChannel
  dsimp only
  split
  next known => exact ⟨of_decide_eq_true known, get_set_same ..⟩
  next =>
    split
    · split <;> split <;> simp (decide := true)
    · split <;> simp (decide := true)

theorem forN_log {o : Obj} {i : Nat} {f : Nat → State → State} (h : ∀ k u, (f k u).log o i = u.log o i) (n : Nat) (s : State) :
    (s.forN n f).log o i = s.log o i := by
  unfold State.forN
  induction List.range n generalizing s with
  | nil => rfl
  | cons k l ih => exact (ih (f k s)).trans (h k s)

section
variable {s u : State} {r : Req} {d : List Byte} {role space : Nat} {feeder : Fin 4} {channel : Fin 76} {output : Fin 4}

/-! ### Samples and seconds -/

theorem sample_counted {inputs : List Int} (runs : 2 ≤ s.get Obj.powerState) (empty : s.waiting = [])
    (uncommitted : s.is Reg.bdCommitted = false) :
    ∃ t, exec (.metrologySample inputs) s = .next t ∧ t.get Reg.sampleCount = s.get Reg.sampleCount + 1 := by
  have samples : 2 ≤ s.fresh.get Obj.powerState := runs
  have pending : ¬ (s.fresh.set Reg.sampleCount (s.fresh.get Reg.sampleCount + 1)).is Reg.bdCommitted = true := by
    simpa (decide := true) [State.is] using uncommitted
  change ∃ t, execMetrologySample inputs s = .next t ∧ _
  refine run_yields ?_
  have dc (m : Nat) (w : State) : (takeDc m (inputs.getD (2 * m) 0) (inputs.getD (2 * m + 1) 0) w).get Reg.sampleCount =
      w.get Reg.sampleCount := get_takeDc (by decide) (by decide +kernel) ..
  have ac (f : Nat) (w : State) : (takeFeeder inputs f w).get Reg.sampleCount = w.get Reg.sampleCount :=
    get_takeFeeder (by decide) (by decide +kernel) ..
  have loads (c : Nat) (w : State) : (if codeOver (inputs.getD c 0) then w.set Reg.overloads (w.get Reg.overloads c + 1) c else
      w).get Reg.sampleCount = w.get Reg.sampleCount := by simp (decide := true)
  have pulses (before : State) (k : Nat) (w : State) : (countPulses before k w).get Reg.sampleCount = w.get Reg.sampleCount :=
    get_countPulses (by decide) (by decide) ..
  rw [if_pos samples, metrologySample, if_neg pending, done_get, get_set_other _ _ _ _ _ _ _ _ (by decide),
    get_set_other _ _ _ _ _ _ _ _ (by decide), forN_get, forN_get (pulses _), forN_get loads, forN_get ac, forN_get dc,
    get_atBoundary_of_empty (s := s.fresh.set ..) (by decide) (by decide) empty, get_set_same]
  · rfl
  · intro m w
    split
    · simp
    · rfl

theorem second_taken (new : s.get Reg.secondDone ≠ s.time / 1000000000 + 1) (empty : s.waiting = []) :
    ∃ t, exec .meteringSecond s = .next t ∧ t.get Reg.secondDone = s.time / 1000000000 + 1 ∧ t.get Reg.secCount = 0 ∧
      t.get Reg.overloads channel = 0 := by
  have due : ¬ s.fresh.get Reg.secondDone = s.fresh.time / 1000000000 + 1 := new
  have cleared (w : State) : (w.forN 76 fun c u => u.set Reg.overloads 0 c).get Reg.overloads channel = 0 :=
    forN_get_at (v := fun _ => 0) (fun k w => get_set_same ..) (fun k i w ne => by simp [get_set, ne.symm]) channel.isLt w
  change ∃ t, execMeteringSecond s = .next t ∧ _
  refine run_yields ?_
  dsimp only
  rw [if_neg due]
  refine ⟨?_, ?_, ?_⟩
  · simp (decide := true) [forN_get, get_atBoundary_of_empty, empty]
  · simp (decide := true) [forN_get]
  · simp (decide := true) [forN_get, cleared]

/-! ### Mains and channels -/

theorem mains_lost (cause : mainsCause s feeder ≠ 0) :
    ∃ t, exec (.noMains feeder) s = .next t ∧ t.get Obj.noMains feeder = 1 := by
  have lost : mainsCause s.fresh feeder ≠ 0 := cause
  change ∃ t, execNoMains feeder s = .next t ∧ _
  refine run_yields ?_
  rw [if_pos lost, done_get, loseMains]
  split
  next known => exact of_decide_eq_true known
  next => simp (decide := true)

theorem mains_returned (lost : s.is Obj.noMains feeder = true) (good : 10 ≤ s.get Reg.afGood feeder)
    (sound : ((List.range 6).any fun j => s.is Reg.channelFault (afChannel feeder j)) = false) :
    ∃ t, exec (.mainsReturned feeder) s = .next t ∧ t.get Obj.noMains feeder = 0 ∧ t.get Reg.mainsAt feeder = s.now + 1 := by
  have back : s.fresh.is Obj.noMains feeder = true ∧ 10 ≤ s.fresh.get Reg.afGood feeder ∧
      ¬ ((List.range 6).any fun j => s.fresh.is Reg.channelFault (afChannel feeder j)) = true :=
    ⟨lost, good, Bool.not_eq_true _ ▸ sound⟩
  change ∃ t, execMainsReturned feeder s = .next t ∧ _
  refine run_yields ?_
  dsimp only
  rw [if_pos back]
  simp (decide := true)

theorem channel_faulted :
    ∃ t, exec (.channelFault channel true) s = .next t ∧ t.get Reg.channelFault channel = 1 ∧
      t.get Reg.channelBadAt channel = s.now := by
  change ∃ t, execChannelFault channel true s = .next t ∧ _
  refine run_yields ?_
  simp only [not_true_eq_false, false_and, if_false, done_get]
  exact faultChannel_faults ..

theorem channel_cleared (faulted : s.is Reg.channelFault channel = true) (passed : s.getN Reg.channelBadAt channel + second ≤ s.now) :
    ∃ t, exec (.channelFaultCleared channel) s = .next t ∧ t.get Reg.channelFault channel = 0 := by
  change ∃ t, execChannelFaultCleared channel s = .next t ∧ _
  refine run_yields ?_
  simp (decide := true) [faulted, passed]

/-! ### Pulses and the theft watch -/

theorem pulse_emitted (owed : 0 < s.get Obj.pulsesOwed output) (free : s.getN Reg.pulseBusyUntil output ≤ s.now) :
    ∃ t, exec (.pulseEmit output) s = .next t ∧ t.get Obj.pulsesOwed output = s.get Obj.pulsesOwed output - 1 ∧
      t.get Obj.pulsesEmitted output = (s.get Obj.pulsesEmitted output + 1) % 4294967296 ∧ t.out = [Emission.pulse output] := by
  have due : ¬ (s.fresh.get Obj.pulsesOwed output ≤ 0 ∨ s.fresh.now < s.fresh.getN Reg.pulseBusyUntil output) :=
    not_or.2 ⟨owed.not_ge, free.not_gt⟩
  change ∃ t, execPulseEmit output s = .next t ∧ _
  refine run_yields ?_
  dsimp only
  rw [if_neg due]
  split <;> simp (decide := true) [State.setBit, State.inc]

theorem theftWatch_ends_entry {means : List Int} {outlet : Fin 24} (backup : s.get Obj.powerState = 1)
    (low : means.getD outlet 0 ≤ s.get Obj.theftThreshold * 100) :
    ∃ t, exec (.theftWatchBurst means) s = .next t ∧ t.get Reg.theftExceeded outlet = 0 ∧ t.get Reg.theftOpen outlet = 0 := by
  have watches : s.fresh.get Obj.powerState = 1 := backup
  have other {k : Nat} (ne : k ≠ outlet.val) (w : State) :
      (theftMean k (means.getD k 0) w).get Reg.theftExceeded outlet = w.get Reg.theftExceeded outlet ∧
        (theftMean k (means.getD k 0) w).get Reg.theftOpen outlet = w.get Reg.theftOpen outlet := by
    unfold theftMean
    dsimp only
    split
    · simp (decide := true) [get_set, ne]
    · split <;> split <;> simp (decide := true) [get_set, ne]
  change ∃ t, execTheftWatchBurst means s = .next t ∧ _
  refine run_yields ?_
  rw [if_pos watches, done_get, done_get]
  refine forN_establishes (i := outlet) (P := fun w => means.getD outlet 0 ≤ w.get Obj.theftThreshold * 100)
    (Q := fun w => w.get Reg.theftExceeded outlet = 0 ∧ w.get Reg.theftOpen outlet = 0) outlet.isLt ?_ ?_ ?_ low
  · intro k w _ kept
    rw [get_theftMean (by decide) (by decide)]
    exact kept
  · intro w kept
    rw [theftMean, if_pos kept]
    simp (decide := true)
  · intro k w ne ended
    rw [(other ne w).1, (other ne w).2]
    exact ended

theorem theftLog_cleared (g : Granted r Obj.clearTheftLog 0 0 [1] role space s u) :
    ∃ t, exec (.clearTheftLog r) s = .next t ∧ t.log Reg.theftLog = [] ∧ t.get Obj.theftEntriesInUse = 0 := by
  obtain ⟨t, run, reads⟩ := granted_shows (c := .clearTheftLog r) rfl g rfl
  refine ⟨t, run, ?_⟩
  rw [log_of_view (reads _ (by decide)), get_of_view (reads _ (by decide))]
  have log := forN_log (o := Reg.theftLog) (i := 0) (f := fun n w => w.set Reg.theftOpen 0 n) (fun _ _ => rfl)
  exact ⟨(log ..).trans (by simp), by simp (decide := true) [forN_get]⟩

/-! ### The pair -/

theorem meterValues_taken {v : Nat} (standby : s.get Obj.role = roStandby) :
    ∃ t, exec (.meteringValuesSync [v]) s = .next t ∧ t.get Reg.dmSum 0 0 = v * 2 ^ 32 := by
  have follows : ¬ s.fresh.get Obj.role ≠ roStandby := not_not.2 standby
  have first : meterCells.zip [v] = [((Reg.dmSum, 0, 0), v)] := rfl
  change ∃ t, execMeteringValuesSync [v] s = .next t ∧ _
  refine run_yields ?_
  rw [if_neg follows, first]
  simp (decide := true)

theorem window_ends {partner : List Int} {k : Fin 32} (passed : s.time / 900000000000 ≠ s.get Reg.windowAt / 900000000000) :
    ∃ t, exec (.crossCheckWindowEnd partner) s = .next t ∧ t.get Reg.windowSum k = 0 ∧ t.get Reg.windowBad = 0 := by
  have ended : ¬ s.fresh.time / (900 * 1000000000 : Int) = s.fresh.get Reg.windowAt / (900 * 1000000000 : Int) := passed
  have cleared (w : State) : (w.forN 32 fun k u => u.set Reg.windowSum 0 k).get Reg.windowSum k = 0 :=
    forN_get_at (v := fun _ => 0) (fun k w => get_set_same ..) (fun k i w ne => by simp [get_set, ne.symm]) k.isLt w
  have served (w : State) : (w.forN 24 fun n u => u.setSeq Reg.windowServed [] n).get Reg.windowSum k = w.get Reg.windowSum k :=
    forN_get (fun n w => get_setSeq ..) 24 w
  change ∃ t, execCrossCheckWindowEnd partner s = .next t ∧ _
  refine run_yields ?_
  dsimp only
  rw [if_neg ended]
  simp (decide := true) [served, cleared]

/-! ### Seal and image -/

theorem seal_opened (closed : s.is Obj.sealOpen = false) :
    ∃ t, exec .sealOpened s = .next t ∧ t.get Obj.sealOpen = 1 := by
  change ∃ t, execSealOpened s = .next t ∧ _
  refine run_yields ?_
  simp (decide := true) [setSeal, closed, forN_get]

theorem seal_closed (opened : s.is Obj.sealOpen = true) :
    ∃ t, exec .sealClosed s = .next t ∧ t.get Obj.sealOpen = 0 := by
  change ∃ t, execSealClosed s = .next t ∧ _
  refine run_yields ?_
  simp (decide := true) [setSeal, opened]

theorem metrologyImage_audited (g : Granted r Obj.metrologyImageData 0 0 d role space s u) (room : auditFull s = false)
    (still : auditFull u = false) (permitted : u.get Obj.flashWritesPermitted = 1)
    (fits : u.getN Obj.metrologyImageWriteOffset + d.length ≤ 0x400000) :
    ∃ t, exec (.metrologyImageData r d) s = .next t ∧ t.get Obj.lastAuditSequence = u.get Obj.lastAuditSequence + 1 := by
  have free : auditFull s.fresh = false := room
  change ∃ t, execMetrologyImageData r d s = .next t ∧ _
  refine run_yields ?_
  rw [noteFull_of_room free, done_get]
  have allowed : u.get Obj.flashWritesPermitted ≠ 0 := by rw [permitted]; decide
  refine (hostWrite_get g ((auditRoom_of_room still _).trans ((if_neg allowed).trans (if_neg fits.not_gt))) (by decide) 0 0).trans ?_
  exact auditEntry_counts (s := u.flashWrite ..) still ..

theorem metrologyImage_armed (g : Granted r Obj.activateMetrologyImage 0 0 [1] role space s u) (room : auditFull s = false)
    (still : auditFull u = false) (permitted : u.get Obj.flashWritesPermitted = 1) :
    ∃ t, exec (.activateMetrologyImage r) s = .next t ∧ t.get Reg.metrologyPending = 1 := by
  have free : auditFull s.fresh = false := room
  change ∃ t, execActivateMetrologyImage r s = .next t ∧ _
  refine run_yields ?_
  rw [noteFull_of_room free, done_get]
  have allowed : u.get Obj.flashWritesPermitted ≠ 0 := by rw [permitted]; decide
  refine (hostWrite_get g ((auditRoom_of_room still _).trans (if_neg allowed)) (by decide) 0 0).trans ?_
  simp (decide := true)

end

/-- Settles O38, one lemma for each command. -/
theorem meteringChain : Obligations.MeteringChain := by
  unfold Obligations.MeteringChain
  exact ⟨fun _ _ => sample_counted, fun _ _ => mains_lost, fun _ _ => mains_returned, fun _ _ => second_taken,
    fun _ _ => channel_faulted, fun _ _ => channel_cleared, fun _ _ => pulse_emitted, fun _ _ _ => theftWatch_ends_entry,
    fun _ _ _ _ _ => theftLog_cleared, fun _ _ => meterValues_taken, fun _ _ _ => window_ends, fun _ => seal_opened,
    fun _ => seal_closed, fun _ _ _ _ _ _ => metrologyImage_audited, fun _ _ _ _ _ => metrologyImage_armed⟩

end Sys2Proof.Machine
end

section
/-!
THEOREM. The stages of the start-up (Table 1.9; R15, R16, R286, R424, R452, R482), one lemma for each.
-/

namespace Sys2Proof.Machine

set_option Elab.async false

theorem storeFind_append_of_absent {α : Type} {l m : Store α} {k : Key} (absent : ∀ e ∈ l, e.1 ≠ k) :
    storeFind (l ++ m) k = storeFind m k := by
  induction l with
  | nil => rfl
  | cons e l ih =>
    obtain ⟨q, v⟩ := e
    have other : q ≠ k := absent (q, v) (List.mem_cons_self ..)
    rw [List.cons_append, storeFind, if_neg other]
    exact ih fun x hx => absent x (List.mem_cons_of_mem _ hx)

/-- What KC restores leaves the cells that are not its own. -/
theorem get_restoreKc {o : Obj} {i j : Nat} (own : cellIs isKc (o.key i j) = false) (s : State) :
    (restoreKc s).get o i j = s.get o i j := by
  have kept (m : Store Int) : ∀ e ∈ m.filter (fun e => cellIs isKc e.1), e.1 ≠ o.key i j := by
    intro e he same
    have yes : cellIs isKc e.1 = true := (List.mem_filter.1 he).2
    rw [same, own] at yes
    exact Bool.false_ne_true yes
  have found : storeFind (restoreKc s).regs (o.key i j) = storeFind s.regs (o.key i j) :=
    (storeFind_append_of_absent (kept _)).trans (storeFind_append_of_absent (kept _))
  exact congrArg (fun v : Option Int => match v with | some v => v | none => o.dflt i j) found

/-- A controller that is enabled enters its bus or waits for it to be idle. -/
theorem get_enableController_on {o : Obj} (quiet : o.quiet = true) (state : ¬ o.id = Obj.controllerState.id)
    (errors : o.id ∉ Footprint.judgeErrors) (idle : o.id ∉ Footprint.canIdle) (k : Nat) (s : State) (i j : Nat) :
    (enableController k true s).get o i j = s.get o i j := by
  simp [enableController, get_canIdle, get_judgeErrors, *]

theorem reachStage_reaches (k : Int) (s : State) :
    (reachStage k s).get Obj.startUpStage = k ∧ (reachStage k s).get Reg.stageAt = s.now := by
  simp (decide := true) [reachStage]

section
variable {s : State}

theorem reset_released {simplexOpen slotOpen : Bool} {rtc : Int} {since : Nat} (held : s.get Obj.startUpStage = 0) :
    ∃ t, exec (.porRelease simplexOpen slotOpen rtc since) s = .next t ∧ t.get Obj.startUpStage = 1 ∧
      t.get Reg.supplyHeld = 0 := by
  have first : ¬ s.fresh.get Obj.startUpStage ≠ 0 := not_not.2 held
  have restored (u : State) : (restoreKc u).get Reg.supplyHeld = u.get Reg.supplyHeld := get_restoreKc (by decide +kernel) u
  change ∃ t, execPorRelease simplexOpen slotOpen rtc since s = .next t ∧ _
  refine run_yields ?_
  rw [if_neg first]
  dsimp only
  constructor
  · simp (decide := true) [reachStage]
  · simp (decide := true) [reachStage, restored, readStraps]

/-- What the choice of the images leaves when stage 2 is reached. -/
def ChosenAside (o : Obj) : Prop :=
  o.id ∉ Footprint.chooseMetrology ∧ o.id ∉ Footprint.rejectTrial ∧ o.id ∉ Footprint.showImages ∧ o.id ≠ Obj.imageInUse.id ∧
    o.id ≠ Reg.heldAtStage2.id

theorem imageVerified_shows {o : Obj} (quiet : o.quiet = true) (aside : ChosenAside o) (begun : s.get Obj.startUpStage = 1) :
    ∃ t, exec .imageVerified s = .next t ∧ t.view o = (reachStage 2 s.fresh).view o := by
  obtain ⟨metrology, trial, images, inUse, held⟩ := aside
  have first : ¬ s.fresh.get Obj.startUpStage ≠ 1 := not_not.2 begun
  change ∃ t, execImageVerified s = .next t ∧ _
  refine run_yields ?_
  rw [if_neg first, view_done]
  simp only [view_ite, view_set, logEvent_view, chooseMetrology_view, rejectTrial_view, showImages_view, quiet, metrology, trial,
    images, inUse, held, not_false_eq_true, ite_self]

theorem images_verified (begun : s.get Obj.startUpStage = 1) :
    ∃ t, exec .imageVerified s = .next t ∧ t.get Obj.startUpStage = 2 ∧ t.get Reg.stageAt = s.now := by
  obtain ⟨t, run, stage⟩ := imageVerified_shows (o := Obj.startUpStage) (by decide) ⟨by decide, by decide, by decide, by decide, by decide⟩ begun
  obtain ⟨_, run2, at2⟩ := imageVerified_shows (o := Reg.stageAt) (by decide) ⟨by decide, by decide, by decide, by decide, by decide⟩ begun
  cases run.symm.trans run2
  obtain ⟨reached, timed⟩ := reachStage_reaches 2 s.fresh
  exact ⟨t, run, (get_of_view stage ..).trans reached, (get_of_view at2 ..).trans timed⟩

theorem journal_mounted (verified : s.get Obj.startUpStage = 2) (free : s.is Reg.heldAtStage2 = false) :
    ∃ t, exec (.journalMount true 0 false true []) s = .next t ∧ t.get Obj.startUpStage = 3 := by
  have mounts : ¬ (s.fresh.get Obj.startUpStage ≠ 2 ∨ s.fresh.is Reg.heldAtStage2 = true) :=
    not_or.2 ⟨not_not.2 verified, Bool.not_eq_true _ ▸ free⟩
  change ∃ t, execJournalMount true 0 false true [] s = .next t ∧ _
  refine run_yields ?_
  rw [if_neg mounts, done_get]
  exact (reachStage_reaches 3 _).1

theorem dictionary_available {holdUp : Nat} (mounted : s.get Obj.startUpStage = 3) (good : holdUpGood holdUp = true) :
    ∃ t, exec (.dictionaryAvailable holdUp) s = .next t ∧ t.get Obj.startUpStage = 4 ∧ t.get Obj.powerState = pwRun ∧
      t.get Obj.supplyMonitor 0 12 = holdUp := by
  have opens : ¬ (s.fresh.get Obj.startUpStage ≠ 3 ∨ ¬ holdUpGood holdUp = true) := not_or.2 ⟨not_not.2 mounted, not_not.2 good⟩
  change ∃ t, execDictionaryAvailable holdUp s = .next t ∧ _
  refine run_yields ?_
  rw [if_neg opens]
  dsimp only
  split <;> split <;> simp (decide := true) [reachStage, forN_get, get_enableController_on]

theorem role_established (available : s.get Obj.startUpStage = 4) (pair : pairing s = true) :
    ∃ t, exec .roleEstablished s = .next t ∧ t.get Obj.startUpStage = 5 ∧ t.get Reg.stageAt = s.now := by
  have first : ¬ s.fresh.get Obj.startUpStage ≠ 4 := not_not.2 available
  have paired : pairing s.fresh = true := pair
  change ∃ t, execRoleEstablished s = .next t ∧ _
  refine run_yields ?_
  rw [if_neg first, if_pos paired, done_get, done_get]
  exact reachStage_reaches 5 s.fresh

theorem stage_noted_late (available : s.get Obj.startUpStage = 4) (late : stageOrigin 5 s + stageMax 5 < s.now) :
    ∃ t, exec .startupStageTimeout s = .next t ∧ t.get Reg.stageLate = 1 := by
  change ∃ t, execStartupStageTimeout s = .next t ∧ _
  refine run_yields ?_
  have stage : ¬ (s.fresh.get Obj.startUpStage + 1 < 2 ∨ 6 < s.fresh.get Obj.startUpStage + 1 ∨
      (s.fresh.now : Int) ≤ stageOrigin (s.fresh.get Obj.startUpStage + 1) s.fresh + stageMax (s.fresh.get Obj.startUpStage + 1) ∨
      (s.fresh.get Obj.startUpStage + 1 = 6 ∧ pairing s.fresh = true ∧ ¬ isDriving s.fresh = true)) := by
    rw [fresh_get, available]
    rintro (h | h | h | h)
    · exact absurd h (by decide)
    · exact absurd h (by decide)
    · exact late.not_ge h
    · exact absurd h.1 (by decide)
  dsimp only
  rw [if_neg stage]
  simp (decide := true) [available]
  exact fun known => of_decide_eq_true known

theorem ethernet_shown {port : Fin 2} {gigabit : Bool} :
    ∃ t, exec (.ethernetLinkUp port true gigabit) s = .next t ∧ t.get Obj.ethLinkState port = (if gigabit then 1 else 0) := by
  change ∃ t, execEthernetLinkUp port true gigabit s = .next t ∧ _
  refine run_yields ?_
  rw [Bool.true_and, done_get, get_setB_same]

end

/-- Settles O39, one lemma for each stage. -/
theorem startUpStages : Obligations.StartUpStages := by
  unfold Obligations.StartUpStages
  exact ⟨fun _ _ _ _ _ => reset_released, fun _ => images_verified, fun _ => journal_mounted, fun _ _ => dictionary_available,
    fun _ => role_established, fun _ => stage_noted_late, fun _ _ _ => ethernet_shown⟩

end Sys2Proof.Machine
end

section
/-!
THEOREM. Frames, slow ticks, housekeeping rounds, Dune, PTP, module time, the RTC and the clock check (R21, R30, R33 to R37,
R55), one lemma for each command.
-/

namespace Sys2Proof.Machine

set_option Elab.async false

section
variable {s u : State} {r : Req} {d : List Byte} {role space : Nat}

/-! ### Cycles -/

theorem frame_counted (begun : s.get Obj.startUpStage ≠ 0) (free : s.is Reg.supplyHeld = false) (empty : s.waiting = []) :
    ∃ t, exec .frameStart s = .next t ∧ t.get Obj.frameCounter = (s.get Obj.frameCounter + 1) % 2 ^ 64 := by
  have unawaited : (nextFrame (advanceTime (s.get Reg.frameLength) s.fresh)).unawaited Obj.frameCounter := by
    have none : (nextFrame (advanceTime (s.get Reg.frameLength) s.fresh)).waiting = [] := by simpa [nextFrame] using empty
    exact fun w mem => absurd (none ▸ mem) List.not_mem_nil
  have kept := (afterCount_spares (o := Obj.frameCounter) (by decide) (by decide +kernel) _ unawaited).2
  refine ⟨_, exec_frameStart begun free, ?_⟩
  rw [done_get, get_of_view (view_of_part kept)]
  simp (decide := true) [nextFrame]

theorem tick_reaches_last_stage (due : s.frame % 500 = 0) (stage : s.get Obj.startUpStage = 6)
    (enabled : s.get Obj.safeOutputStates % 16 ≠ 0) (empty : s.waiting = []) :
    ∃ t, exec (.slowTick [] [] []) s = .next t ∧ t.get Obj.startUpStage = 7 := by
  have ticks : ¬ (s.fresh.frame % 500 ≠ 0 ∨ s.fresh.get Obj.startUpStage = 0) :=
    not_or.2 ⟨not_not.2 due, fun h => absurd (stage.symm.trans h) (by decide)⟩
  have unawaited (o : Obj) : s.fresh.unawaited o := fun w mem => absurd (empty ▸ mem : w ∈ []) List.not_mem_nil
  have applied {o : Obj} (quiet : o.quiet = true) (h : o.id ∉ Footprint.applyDue) :
      (applyDue .slowTick s.fresh).get o = s.get o :=
    get_of_view (view_of_part (applyDue_spares quiet h .slowTick s.fresh (unawaited o)).2) ..
  have slots {o : Obj} (quiet : o.quiet = true) (h : o.id ∉ Footprint.slowClass) (w : State) :
      (slowClass [] [] [] w).get o = w.get o :=
    get_of_view (slowClass_view quiet h [] [] [] w) ..
  have stops (n : Nat) (w : State) : (weldTick n (stopOverdue n w)).get Obj.startUpStage = w.get Obj.startUpStage ∧
      (weldTick n (stopOverdue n w)).get Obj.safeOutputStates = w.get Obj.safeOutputStates := by simp (decide := true)
  have trims (p : Nat) (w : State) : (trimPhase p w).get Obj.startUpStage = w.get Obj.startUpStage ∧
      (trimPhase p w).get Obj.safeOutputStates = w.get Obj.safeOutputStates := by simp (decide := true)
  change ∃ t, execSlowTick [] [] [] s = .next t ∧ _
  refine run_yields ?_
  dsimp only
  rw [if_neg ticks, lastStage, if_pos, done_get, get_set_other _ _ _ _ _ _ _ _ (by decide), get_set_same]
  rw [get_returnToRun (by decide) (by decide), get_countIdleTime (by decide) (by decide), get_returnToRun (by decide) (by decide),
    get_countIdleTime (by decide) (by decide), forN_get fun n w => (stops n w).1, forN_get fun n w => (stops n w).2,
    forN_get fun p w => (trims p w).1, forN_get fun p w => (trims p w).2, get_coolingTick (by decide) (by decide),
    get_coolingTick (by decide) (by decide), slots (by decide) (by decide), slots (by decide) (by decide),
    get_thermalTick (by decide) (by decide), get_thermalTick (by decide) (by decide), get_slowOverrun (by decide) (by decide),
    get_slowOverrun (by decide) (by decide), applied (by decide) (by decide), applied (by decide) (by decide)]
  exact ⟨stage, enabled⟩

/-- A supply monitor shows the filtered value of its last readings (R193). -/
theorem supplyRound_shows (supplies : List Nat) (fitted : Bool) (k : Fin 40) (s : State) :
    (supplyRound supplies fitted s).get Obj.supplyMonitor 0 k =
      filterOf ((((supplies.getD k 0 : Nat) : Int) :: s.seq Reg.supplyRaw k).take 3) := by
  have voltages (i : Nat) (w : State) : ((w.set Obj.supplyVoltage (w.get Obj.supplyMonitor 0 i / 10) 0 i).setBit Obj.inputFlags i
      (w.get Obj.supplyMonitor 0 i < 18000 || 32000 < w.get Obj.supplyMonitor 0 i)).get Obj.supplyMonitor 0 k =
        w.get Obj.supplyMonitor 0 k := by simp (decide := true) [State.setBit]
  have raw (w : State) (j : Nat) (o : Obj) (c : Prop) [Decidable c] (data : List Byte) :
      (if c then logEpisode 0x2114 srcSupply j data w else endEpisode 0x2114 j w).seq Reg.supplyRaw k = w.seq Reg.supplyRaw k := by
    refine seq_of_view (view_of_part ?_) ..
    rw [part_ite, logEpisode_part (by decide), endEpisode_part (by decide), ite_self]
  unfold supplyRound
  dsimp only
  rw [get_judgeCell (by decide) (by decide), forN_get voltages]
  refine forN_establishes (i := k) (P := fun w => w.seq Reg.supplyRaw k = s.seq Reg.supplyRaw k)
    (Q := fun w => w.get Obj.supplyMonitor 0 k = filterOf ((((supplies.getD k 0 : Nat) : Int) :: s.seq Reg.supplyRaw k).take 3))
    k.isLt ?_ ?_ ?_ rfl
  · intro j w ne kept
    rw [raw _ _ Obj.supplyMonitor]
    simpa [seq_setSeq, ne] using kept
  · intro w kept
    rw [get_ite, logEpisode_get (by decide), endEpisode_get (by decide), ite_self, get_set_same, kept]
  · intro j w ne shown
    rw [get_ite, logEpisode_get (by decide), endEpisode_get (by decide), ite_self]
    simpa [get_set, ne] using shown

theorem housekeeping_shows_supplies {temps : List (Int × Int)} {supplies offs : List Nat} {fitted : Bool} {k : Fin 40}
    (due : s.frame % 5000 = 0) (stage : 4 ≤ s.get Obj.startUpStage) :
    ∃ t, exec (.housekeepingRound temps supplies fitted offs) s = .next t ∧
      t.get Obj.supplyMonitor 0 k = filterOf ((((supplies.getD k 0 : Nat) : Int) :: s.seq Reg.supplyRaw k).take 3) := by
  have rounds : ¬ (s.fresh.frame % 5000 ≠ 0 ∨ s.fresh.get Obj.startUpStage < 4) := not_or.2 ⟨not_not.2 due, stage.not_gt⟩
  have raw : (thermalRound temps s.fresh).seq Reg.supplyRaw k = s.seq Reg.supplyRaw k :=
    seq_of_view (view_of_part (thermalRound_part (by decide) (by decide +kernel) temps s.fresh)) ..
  change ∃ t, execHousekeepingRound temps supplies fitted offs s = .next t ∧ _
  refine run_yields ?_
  dsimp only
  rw [if_neg rounds, done_get, get_ite, get_beginAllocation (by decide) (by decide), ite_self, get_countHours (by decide) (by decide),
    forN_get fun n w => get_weldAgain (by decide) (by decide) .., forN_get fun n w => get_offStateTest (by decide) (by decide) ..,
    supplyRound_shows, raw]

/-! ### Dune and the sampling lead -/

theorem duneDepth_requested (g : Granted r Obj.requestedDuneDepth 0 0 d role space s u) :
    ∃ t, exec (.duneDepthWrite r d) s = .next t ∧ t.get Obj.requestedDuneDepth = ofBytes d := by
  obtain ⟨t, run, reads⟩ := granted_leaves (c := .duneDepthWrite r d) rfl g rfl
  exact ⟨t, run, by rw [reads _ (by decide), get_set_same]⟩

theorem duneDepth_applied (first : ditherIndex s.frame = 0) (stage : 4 ≤ s.get Obj.startUpStage) :
    ∃ t, exec .duneDepthApplied s = .next t ∧ t.get Obj.appliedDuneDepth = s.get Obj.requestedDuneDepth := by
  change ∃ t, execDuneDepthApplied s = .next t ∧ _
  refine run_yields ?_
  dsimp only
  split
  next => simp (decide := true)
  next same =>
    have equal : ¬ s.fresh.get Obj.appliedDuneDepth ≠ s.fresh.get Obj.requestedDuneDepth := fun ne => same ⟨first, stage, ne⟩
    exact (done_get ..).trans (not_not.1 equal)

theorem samplingLead_taken (g : Granted r Obj.samplingLead 0 0 d role space s u) (fits : leadFits u (ofBytes d) = true) :
    ∃ t, exec (.samplingLeadWrite r d) s = .next t ∧ t.get Obj.samplingLead = ofBytes d := by
  obtain ⟨t, run, reads⟩ := granted_leaves (c := .samplingLeadWrite r d) rfl g (if_pos fits)
  exact ⟨t, run, by rw [reads _ (by decide), get_set_same]⟩

/-! ### PTP -/

theorem selectMaster_of_one (x : List Int) (s : State) :
    (selectMaster [x] s).get Reg.ptpMaster = 1 ∧ (selectMaster [x] s).bytes Obj.masterIdentity = beBytes 8 (x.getD 5 0) := by
  unfold selectMaster
  dsimp only
  split
  next known => exact ⟨of_decide_eq_true known.1, known.2⟩
  next => simp (decide := true)

theorem first_master_selected {a : Announce} (hears : ptpHears s a.domain = true) (named : a.identity.length = 8)
    (none : s.seq Reg.ptpMasters = []) :
    ∃ t, exec (.ptpAnnounce a) s = .next t ∧ t.get Reg.ptpMaster = 1 ∧
      t.bytes Obj.masterIdentity = beBytes 8 (ofBytes a.identity) := by
  have heard : ¬ (¬ ptpHears s.fresh a.domain = true ∨ a.identity.length ≠ 8) := not_or.2 ⟨not_not.2 hears, not_not.2 named⟩
  have alone : s.fresh.seq Reg.ptpMasters = [] := none
  change ∃ t, execPtpAnnounce a s = .next t ∧ _
  refine run_yields ?_
  rw [if_neg heard]
  dsimp only
  rw [alone]
  obtain ⟨master, identity⟩ := selectMaster_of_one (announceKey a ++ [(s.fresh.now : Int)]) s.fresh
  rw [done_get, done_bytes, get_ite, get_set_other _ _ _ _ _ _ _ _ (by decide), ite_self]
  refine ⟨master, ?_⟩
  split <;> exact identity

theorem offset_above_a_second_kept {identity : List Byte} {domain : Nat} {diff : Int} (hears : ptpHears s domain = true)
    (master : s.is Reg.ptpMaster = true) (same : s.bytes Obj.masterIdentity = identity)
    (far : 1000000000 < diff - s.get Reg.ptpDelay) :
    ∃ t, exec (.ptpSync identity domain diff) s = .next t ∧ t.get Obj.lastPTPOffset = diff - s.get Reg.ptpDelay ∧
      t.get Reg.ptpDiff = diff ∧ t.get Reg.goodSyncs = 0 := by
  have heard : ¬ (¬ ptpHears s.fresh domain = true ∨ ¬ s.fresh.is Reg.ptpMaster = true ∨ s.fresh.bytes Obj.masterIdentity ≠ identity) :=
    not_or.2 ⟨not_not.2 hears, not_or.2 ⟨not_not.2 master, not_not.2 same⟩⟩
  have above : 1000000000 < |diff - s.fresh.get Reg.ptpDelay| := far.trans_le (le_abs_self _)
  change ∃ t, execPtpSync identity domain diff s = .next t ∧ _
  refine run_yields ?_
  rw [if_neg heard]
  dsimp only
  rw [if_pos above]
  simp (decide := true)

theorem pathDelay_taken {identity : List Byte} {diff : Int} (master : s.is Reg.ptpMaster = true) (enabled : s.is Obj.ptpEnable = true)
    (same : s.bytes Obj.masterIdentity = identity) :
    ∃ t, exec (.ptpDelayResp identity diff) s = .next t ∧ t.get Reg.ptpDelay = (s.get Reg.ptpDiff + diff) / 2 := by
  change ∃ t, execPtpDelayResp identity diff s = .next t ∧ _
  refine run_yields ?_
  simp (decide := true) [master, enabled, same]

theorem lockLoss_begins_holdover (master : s.is Reg.ptpMaster = true) (silent : s.getN Reg.ptpSyncAt + 4 * second ≤ s.now)
    (announced : s.now < s.getN Reg.ptpAnnounceAt + announceTimeout) (locked : s.get Obj.timeQuality = 3) :
    ∃ t, exec .ptpLockLost s = .next t ∧ t.get Obj.timeQuality = 2 ∧ t.get Reg.holdoverAt = s.now ∧ t.get Reg.goodSyncs = 0 := by
  have lost : ¬ (¬ s.fresh.is Reg.ptpMaster = true ∨ ¬ (s.fresh.getN Reg.ptpAnnounceAt + announceTimeout ≤ s.fresh.now ∨
      s.fresh.getN Reg.ptpSyncAt + 4 * second ≤ s.fresh.now)) :=
    not_or.2 ⟨not_not.2 master, not_not.2 (Or.inr silent)⟩
  have there : ¬ s.fresh.getN Reg.ptpAnnounceAt + announceTimeout ≤ s.fresh.now := announced.not_ge
  change ∃ t, execPtpLockLost s = .next t ∧ _
  refine run_yields ?_
  dsimp only
  rw [if_neg lost, if_neg there]
  simp (decide := true) [locked]

theorem holdover_ends (held : s.get Obj.timeQuality = 2) (passed : s.getN Reg.holdoverAt + 86400 * second ≤ s.now) :
    ∃ t, exec .holdoverTimeout s = .next t ∧ t.get Obj.timeQuality = 1 := by
  have ends : s.fresh.get Obj.timeQuality = 2 ∧ s.fresh.getN Reg.holdoverAt + 86400 * second ≤ s.fresh.now := ⟨held, passed⟩
  change ∃ t, execHoldoverTimeout s = .next t ∧ _
  refine run_yields ?_
  rw [if_pos ends, done_get, get_set_same]

/-! ### Module time, the RTC and the clock check -/

theorem setTime_slews {v : Int} (set : s.get Obj.timeQuality = 1) (near : |v - s.time| ≤ 1000000000) :
    (setTime v s).real Reg.slewLeft = v - s.time := by
  have first : ¬ s.get Obj.timeQuality = 0 := fun h => absurd (set.symm.trans h) (by decide)
  have refreshed (w : State) : (timeFirstSet (s.get Obj.timeQuality) w).real Reg.slewLeft = w.real Reg.slewLeft := by
    rw [timeFirstSet, if_neg fun h => first h.1]
    exact real_of_view (view_of_part (refreshAll_part (by decide) (by decide) w)) ..
  unfold setTime
  dsimp only
  rw [if_pos near, if_neg first, refreshed, real_setReal_same, Int.cast_sub]

theorem moduleTime_slewed (g : Granted r Obj.moduleTime 0 0 d role space s u) (room : auditBlocks (ofBytesI d) s = false)
    (still : auditBlocks (ofBytesI d) u = false) (set : u.get Obj.timeQuality = 1) (near : |ofBytesI d - u.time| ≤ 1000000000) :
    ∃ t, exec (.moduleTimeWrite r d) s = .next t ∧ t.real Reg.slewLeft = ofBytesI d - u.time := by
  have free : ¬ auditBlocks (ofBytesI d) s.fresh = true := Bool.not_eq_true _ ▸ room
  have unblocked : ¬ auditBlocks (ofBytesI d) u = true := Bool.not_eq_true _ ▸ still
  have written := hostWrite_granted (fx := fun _ t => if auditBlocks (ofBytesI d) t then .error 6 else .ok (setTime (ofBytesI d) t)) g
    (if_neg unblocked)
  have slewed := (congrArg (State.real · Reg.slewLeft) written).trans ((real_of_view ((accepted_view (by decide) ..).trans
    (markDirty_view (by decide) ..)) 0 0).trans (setTime_slews set near))
  change ∃ t, execModuleTimeWrite r d s = .next t ∧ _
  refine run_yields ?_
  dsimp only
  split
  · rw [if_neg fun refused => free refused.2.1, done_real]
    exact slewed
  · exact (done_real ..).trans slewed

theorem rtc_written (known : 2 ≤ s.get Obj.timeQuality) (due : s.getN Reg.rtcUpdatedAt + 60 * second ≤ s.now) :
    ∃ t, exec .rtcUpdate s = .next t ∧ t.get Reg.rtcTime = s.time ∧ t.get Reg.rtcValid = 1 ∧ t.get Reg.rtcUpdatedAt = s.now := by
  have writes : 2 ≤ s.fresh.get Obj.timeQuality ∧ s.fresh.getN Reg.rtcUpdatedAt + 60 * second ≤ s.fresh.now := ⟨known, due⟩
  change ∃ t, execRtcUpdate s = .next t ∧ _
  refine run_yields ?_
  rw [if_pos writes]
  simp (decide := true)

theorem crystal_good {ppb : Int} (near : |ppb| ≤ 100000) :
    ∃ t, exec (.clockCheck ppb) s = .next t ∧ t.get Obj.crystalDeviationAgainstRTC = ppb ∧
      t.get Reg.clockGood = min 4 (s.get Reg.clockGood + 1) ∧ t.get Reg.clockBad = 0 := by
  have within : clampI (-2147483648) 2147483647 ppb = ppb := by
    obtain ⟨low, high⟩ := abs_le.1 near
    unfold clampI
    omega
  have good : ¬ 100000 < |ppb| := near.not_gt
  change ∃ t, execClockCheck ppb s = .next t ∧ _
  refine run_yields ?_
  dsimp only
  rw [if_neg good, within]
  split <;> simp (decide := true)

end

/-- Settles O40, one lemma for each command. -/
theorem clockKept : Obligations.ClockKept := by
  unfold Obligations.ClockKept
  exact ⟨fun _ begun free empty _ => frame_counted begun free empty, fun _ => tick_reaches_last_stage,
    fun _ _ _ _ _ _ => housekeeping_shows_supplies, fun _ _ _ _ _ _ => duneDepth_requested, fun _ => duneDepth_applied,
    fun _ _ _ _ _ _ => samplingLead_taken, fun _ _ => first_master_selected, fun _ _ _ _ => offset_above_a_second_kept,
    fun _ _ _ => pathDelay_taken, fun _ => lockLoss_begins_holdover, fun _ => holdover_ends, fun _ _ _ _ _ _ => moduleTime_slewed,
    fun _ => rtc_written, fun _ _ => crystal_good⟩

end Sys2Proof.Machine
end

section
/-!
THEOREM. Session records, the tamper log, magnetic checks and reads (R261, R263, R265, R266, R291), one lemma for each command.
-/

namespace Sys2Proof.Machine

section
variable {s u v : State} {r : Req} {d e : List Byte} {role space : Nat}

/-! ### Records -/

theorem record_sealed {ctx : Fin 250} (may : maySeal s ctx = true) :
    ∃ t, exec (.recordSealed ctx) s = .next t ∧ t.get Reg.recordSeq = s.get Reg.recordSeq + 1 ∧
      (t.log Reg.recordStore).length = (s.log Reg.recordStore).length + 1 := by
  have seals : ¬ ¬ maySeal s.fresh ctx = true := not_not.2 may
  have seq : (recordEntryOf s.fresh ctx).2.view Reg.recordSeq = s.view Reg.recordSeq :=
    view_of_part (recordEntryOf_part (by decide) (by decide) s.fresh ctx)
  have store : (recordEntryOf s.fresh ctx).2.view Reg.recordStore = s.view Reg.recordStore :=
    view_of_part (recordEntryOf_part (by decide) (by decide) s.fresh ctx)
  have kept {o : Obj} (quiet : o.quiet = true) (h : o.id ∉ Footprint.refreshAll ∧ o.id ∉ Footprint.showRecords) (w : State) :
      (refreshAll (showRecords w)).view o = w.view o :=
    view_of_part ((refreshAll_part quiet h.1 _).trans (showRecords_part quiet h.2 w))
  have entered {o : Obj} (quiet : o.quiet = true) (c : Prop) [Decidable c] (w : State) :
      (if c then logEvent 0x9018 srcKc [] w else w).view o = w.view o := by
    rw [view_ite, logEvent_view quiet, ite_self]
  have told {o : Obj} (quiet : o.quiet = true) (c : Prop) [Decidable c] (x : Emission) (w : State) :
      (if c then w.emit x else w).view o = w.view o := by
    rw [view_ite]
    exact ite_self _
  have bound {o : Obj} (quiet : o.quiet = true) (h : o.id ∉ Footprint.setContext) (st : Int) (w : State) :
      (setContext ctx st w).view o = w.view o := view_of_part (setContext_part quiet h ..)
  have queued {o : Obj} (quiet : o.quiet = true) (ch kind : Nat) (item : List Byte) (w : State) :
      (queueItem ch kind item w).view o = w.view o := view_of_part (queueItem_part quiet ..)
  have given {o : Obj} (quiet : o.quiet = true) (a b c f : Nat) (item : List Byte) (x : Bool) (w : State) :
      (submit a b c f item x w).view o = w.view o := view_of_part (submit_part quiet ..)
  change ∃ t, exec (.recordSealed ctx) s = .next t ∧ _
  refine run_yields (f := sealContext ctx) ?_
  rw [sealContext, if_neg seals]
  dsimp only
  rw [done_get, done_log]
  constructor
  · rw [get_of_view (kept (by decide) (by decide) _), get_of_view (told (by decide) _ _ _), get_of_view (entered (by decide) _ _),
      logEvent_get (by decide), get_of_view (queued (by decide) ..), get_of_view (bound (by decide) (by decide) ..),
      get_of_view (given (by decide) ..), get_setSeq, get_setLog, get_set_same, get_of_view seq]
  · rw [log_of_view (kept (by decide) (by decide) _), log_of_view (told (by decide) _ _ _), log_of_view (entered (by decide) _ _),
      log_of_view (logEvent_view (by decide) ..), log_of_view (queued (by decide) ..), log_of_view (bound (by decide) (by decide) ..),
      log_of_view (given (by decide) ..), log_setSeq, log_setLog_same, List.length_cons, log_set, log_of_view store]

theorem record_selected (g : Granted r Obj.recordSelector 0 0 d role space s u) (known : recordOfSerial u (ofBytes d) ≠ none) :
    ∃ t, exec (.recordSelect r d) s = .next t ∧ t.get Obj.recordSelector = ofBytes d := by
  have found : ¬ (recordOfSerial u (ofBytes d)).isNone = true := fun h => known (Option.isNone_iff_eq_none.1 h)
  obtain ⟨t, run, reads⟩ := granted_leaves (c := .recordSelect r d) rfl g (if_neg found)
  exact ⟨t, run, by rw [reads _ (by decide), get_set_same]⟩

/-- Whether an entry is collected is read off the list of the collected ones. -/
theorem isCollected_of_view {s t : State} (h : s.view Reg.recordCollected = t.view Reg.recordCollected) (e : List Byte) :
    isCollected s e = isCollected t e :=
  congrArg (List.contains · (entrySeq e : Int)) (seq_of_view h 0 0)

theorem collectRecord_collects (field : u.get Obj.lifeCycleState ≠ lcRetired) (known : recordOfSerial u (ofBytes d) = some e) :
    ∃ t, collectRecord d u = .ok t ∧ isCollected t e = true := by
  unfold collectRecord
  rw [if_neg field, known]
  refine ⟨_, rfl, ?_⟩
  rw [isCollected_of_view (view_of_part ((refreshAll_part (by decide) (by decide) _).trans
    (showRecords_part (by decide) (by decide) _)))]
  have marked : isCollected (if isCollected u e then u else u.setSeq Reg.recordCollected ((entrySeq e : Int) :: u.seq Reg.recordCollected))
      e = true := by
    split
    next yes => exact yes
    next => simp [isCollected]
  split
  next c found =>
    refine Eq.trans (isCollected_of_view ?_ e) marked
    simp (decide := true) only [view_set]
    exact view_of_part (setContext_part (by decide) (by decide) ..)
  next => exact marked

theorem record_collected (g : Granted r Obj.collectRecord 0 0 d role space s u) (field : u.get Obj.lifeCycleState ≠ lcRetired)
    (known : recordOfSerial u (ofBytes d) = some e) : ∃ t, exec (.collectRecord r d) s = .next t ∧ isCollected t e = true := by
  obtain ⟨v, made, marked⟩ := collectRecord_collects field known
  obtain ⟨t, run, reads⟩ := granted_shows (c := .collectRecord r d) rfl g made
  exact ⟨t, run, (isCollected_of_view (reads _ (by decide)) e).trans marked⟩

theorem releaseUpTo_releases (field : u.get Obj.lifeCycleState ≠ lcRetired) (known : recordOfSerial u (ofBytes d) = some e)
    (collected : isCollected u e = true) :
    ∃ t, releaseUpTo d u = .ok t ∧ ∀ x ∈ t.log Reg.recordStore, ¬ (isCollected u x = true ∧ entrySerial x ≤ ofBytes d) := by
  unfold releaseUpTo
  rw [if_neg field, known]
  dsimp only
  rw [if_neg (not_not.2 collected)]
  refine ⟨_, rfl, fun x kept => ?_⟩
  rw [log_of_view (view_of_part ((refreshAll_part (by decide) (by decide) _).trans (showRecords_part (by decide) (by decide) _))),
    log_setSeq, log_setSeq, log_setLog_same] at kept
  obtain ⟨y, mem, rfl⟩ := List.mem_map.1 kept
  simpa [Classical.or_iff_not_imp_left] using (List.mem_filter.1 mem).2

theorem records_released (g : Granted r Obj.releaseUpTo 0 0 d role space s u) (field : u.get Obj.lifeCycleState ≠ lcRetired)
    (known : recordOfSerial u (ofBytes d) = some e) (collected : isCollected u e = true) :
    ∃ t, exec (.releaseUpTo r d) s = .next t ∧
      ∀ x ∈ t.log Reg.recordStore, ¬ (isCollected u x = true ∧ entrySerial x ≤ ofBytes d) := by
  obtain ⟨v, made, gone⟩ := releaseUpTo_releases field known collected
  obtain ⟨t, run, reads⟩ := granted_shows (c := .releaseUpTo r d) rfl g made
  exact ⟨t, run, fun x mem => gone x (log_of_view (reads Reg.recordStore (by decide)) 0 ▸ mem)⟩

/-! ### Tamper inputs and magnetic checks -/

theorem tamper_entered {input : Fin 8} (open_ : s.bit Obj.tamperInputStates input = false) (powered : s.get Obj.powerState ≠ 0)
    (enabled : s.bit Obj.tamperEnable input = true) :
    ∃ t, exec (.tamperInputChange input true) s = .next t ∧ t.bit Obj.tamperInputStates input = true ∧
      t.get Reg.tamperCount = s.get Reg.tamperCount + 1 := by
  have new : ¬ (s.fresh.bit Obj.tamperInputStates input = true ∨ s.fresh.get Obj.powerState = 0) :=
    not_or.2 ⟨fun h => Bool.false_ne_true (open_.symm.trans h), powered⟩
  have watched : ¬ ¬ (s.fresh.setBit Obj.tamperInputStates input true).bit Obj.tamperEnable input = true := by
    simpa (decide := true) [State.bit, State.getN, State.setBit] using enabled
  have counted (kind source value : Int) (w : State) : (tamperEntryOf kind source value w).get Reg.tamperCount =
      w.get Reg.tamperCount + 1 := by simp (decide := true) [tamperEntryOf]
  have bits (kind source value : Int) (w : State) : (tamperEntryOf kind source value w).get Obj.tamperInputStates =
      w.get Obj.tamperInputStates := by simp (decide := true)
  have flags (o : Obj) (h : ¬ o.id = Reg.recordFlags.id) (w : State) :
      (w.forN 250 fun c x => if ctxInSession x c then x.setBit Reg.recordFlags 3 true c else x).get o = w.get o :=
    forN_get (fun c x => by rw [get_ite, State.setBit, get_set_other _ _ _ _ _ _ _ _ h, ite_self]) ..
  change ∃ t, execTamperInputChange input true s = .next t ∧ _
  refine run_yields ?_
  dsimp only
  rw [if_neg new, if_neg watched]
  generalize (true == (s.fresh.setBit Obj.tamperInputStates input true).bit Obj.tamperPolarity input) = opened
  have marked {o : Obj} (h : ¬ o.id = Reg.recordFlags.id) (w : State) : (if opened then w.forN 250 fun c x => if ctxInSession x c then
      x.setBit Reg.recordFlags 3 true c else x else w).get o = w.get o := by
    rw [get_ite, flags o h, ite_self]
  constructor
  · rw [State.bit, State.getN, done_get, marked (by decide), bits]
    exact (bit_setBit ..).trans (if_pos rfl)
  · rw [done_get, marked (by decide), counted, State.setBit, get_set_other _ _ _ _ _ _ _ _ (by decide), fresh_get]

theorem field_measured {outlet : Fin 24} {readings : List Int} (wanted : s.is Reg.magWanted outlet = true)
    (quiet : magQuiet s outlet = true) (full : readings.length = 100) :
    ∃ t, exec (.magneticCheck outlet readings) s = .next t ∧ t.get Reg.magWanted outlet = 0 ∧
      t.get Obj.magLastField outlet = fieldOf s outlet ((readings.sum : Int) / 100 : Rat) ∧ t.get Obj.magLastTime outlet = s.time := by
  have checks : ¬ (¬ s.fresh.is Reg.magWanted outlet = true ∨ ¬ magQuiet s.fresh outlet = true ∨ readings.length ≠ 100) :=
    not_or.2 ⟨not_not.2 wanted, not_or.2 ⟨not_not.2 quiet, not_not.2 full⟩⟩
  change ∃ t, execMagneticCheck outlet readings s = .next t ∧ _
  refine run_yields ?_
  dsimp only
  have same : fieldOf s.fresh = fieldOf s := rfl
  rw [if_neg checks, same]
  split
  · simp (decide := true) [State.setBit]
  · split <;> simp (decide := true)

theorem magneticTest_asked {outlet : Fin 24} (g : Granted r Obj.runMagneticTest 0 0 d role space s u)
    (named : (ofBytes d).testBit outlet = true) :
    ∃ t, exec (.runMagneticTest r d) s = .next t ∧ t.get Reg.magWanted outlet = 1 := by
  obtain ⟨t, run, reads⟩ := granted_leaves (c := .runMagneticTest r d) rfl g rfl
  refine ⟨t, run, (reads _ (by decide) ..).trans ?_⟩
  refine forN_establishes (i := outlet) (P := fun _ => True) (Q := fun w => w.get Reg.magWanted outlet = 1) outlet.isLt
    (fun _ _ _ _ => trivial) (fun w _ => ?_) (fun k w ne asked => ?_) trivial
  · rw [if_pos named, get_set_same]
  · split
    · simpa [get_set, ne] using asked
    · exact asked

/-! ### Reads -/

theorem read_answered {index sub : Nat} (whole : r.complete = true)
    (judged : judgeRequest r 1 index sub [] { s with out := [] } = .accept u space role false)
    (readable : readAddress index sub role u = .ok (d, v)) :
    ∃ t, exec (.read r index sub) s = .next t ∧ t.out = (v.answer space r 1 0 d).out := by
  have begun : ¬ r.complete = false := fun h => Bool.false_ne_true (h.symm.trans whole)
  have accepted : judgeRequest r 1 index sub [] s.fresh = .accept u space role false := judged
  change ∃ t, execRead r index sub s = .next t ∧ _
  refine run_yields ?_
  rw [if_neg begun, accepted]
  simp [readable]

end

/-- Settles O41, one lemma for each command. -/
theorem recordsAndTamper : Obligations.RecordsAndTamper := by
  unfold Obligations.RecordsAndTamper
  exact ⟨fun _ _ => record_sealed, fun _ _ _ _ _ _ => record_selected, fun _ _ _ _ _ _ _ => record_collected,
    fun _ _ _ _ _ _ _ => records_released, fun _ _ => tamper_entered, fun _ _ _ => field_measured,
    fun _ _ _ _ _ _ _ => magneticTest_asked, fun _ _ _ _ _ _ _ _ _ => read_answered⟩

end Sys2Proof.Machine
end

section
/-!
THEOREM. Life-cycle transitions, the field key, shares and blobs, role keys, SECC keys, attestation and the random source (R268,
R269, R273 to R276, R278, R279, R282, R283), one lemma for each command.
-/

namespace Sys2Proof.Machine

/-! ### What waits for KC -/

theorem answerWaiting_of_none {o : Obj} {i : Nat} {s : State} (none : s.waiting.filter (waitsFor o i) = []) (status : Nat) :
    answerWaiting o i status s = s := by
  have all : s.waiting.filter (fun w => !waitsFor o i w) = s.waiting :=
    List.filter_eq_self.2 fun w mem => by
      have unmatched := List.filter_eq_nil_iff.1 none w mem
      simpa using unmatched
  rw [answerWaiting, none, all]
  rfl

section
variable {s : State} {w : Waiting} (alone : s.waiting = [w])
include alone

/-- The SECC key that alone waits is made. -/
theorem resumeKc_makes_secc (ready : kcReady s = true) (usable : fieldKeysUsable s = true)
    (other : waitsFor Obj.attestationNonce 0 w = false) (waits : waitsFor Obj.generateSeccKey 0 w = true) :
    (resumeKc s).get Reg.seccKind = (w.writes.headD ⟨Obj.generateSeccKey.key 0 0, 1, [], false⟩).num.toNat := by
  have idle : s.waiting.filter (waitsFor Obj.attestationNonce 0) = [] := by simp [alone, other]
  have due : s.waiting.filter (waitsFor Obj.generateSeccKey 0) = [w] := by simp [alone, waits]
  have exported (l : List Waiting) (u : State) : (l.foldl (fun u w =>
      exportLog (w.writes.headD ⟨Obj.exportLog.key 0 0, 1, [], false⟩).num.toNat u) u).get Reg.seccKind = u.get Reg.seccKind :=
    foldl_get (fun w u => get_exportLog (by decide) (by decide) ..) ..
  have made (k : Nat) (u : State) : (makeSecc k u).get Reg.seccKind = k := by
    simp (decide := true) [makeSecc]
  unfold resumeKc
  rw [if_neg (not_not.2 ready)]
  dsimp only
  rw [idle, List.foldl_nil, answerWaiting_of_none idle, due, List.foldl_cons, List.foldl_nil, if_pos usable,
    forN_get fun c u => get_sealContext (by decide) (by decide) .., get_answerWaiting (by decide), exported,
    get_answerWaiting (by decide), made]

/-- The statement that alone waits is made. -/
theorem resumeKc_attests (ready : kcReady s = true) (waits : waitsFor Obj.attestationNonce 0 w = true) :
    (resumeKc s).get Reg.attestationSequence = s.get Reg.attestationSequence + 1 := by
  have due : s.waiting.filter (waitsFor Obj.attestationNonce 0) = [w] := by simp [alone, waits]
  have exported (l : List Waiting) (u : State) : (l.foldl (fun u w =>
      exportLog (w.writes.headD ⟨Obj.exportLog.key 0 0, 1, [], false⟩).num.toNat u) u).get Reg.attestationSequence =
        u.get Reg.attestationSequence := foldl_get (fun w u => get_exportLog (by decide) (by decide) ..) ..
  have secc (l : List Waiting) (u : State) : (l.foldl (fun u w => if fieldKeysUsable u then
      makeSecc (w.writes.headD ⟨Obj.generateSeccKey.key 0 0, 1, [], false⟩).num.toNat u else u) u).get Reg.attestationSequence =
        u.get Reg.attestationSequence :=
    foldl_get (fun w u => by rw [get_ite, get_makeSecc (by decide) (by decide), ite_self]) ..
  have made (nonce : List Byte) (u : State) : (attest nonce u).get Reg.attestationSequence = u.get Reg.attestationSequence + 1 := by
    have signed := get_of_view (view_of_part (signWith_part (o_ := Reg.attestationSequence) (by decide) (by decide) 384
      Config.deviceIdentityKey (statementBody u nonce) u)) 0 0
    simp (decide := true) [attest, signed]
  unfold resumeKc
  rw [if_neg (not_not.2 ready)]
  dsimp only
  rw [forN_get fun c u => get_sealContext (by decide) (by decide) .., get_answerWaiting (by decide), exported,
    get_answerWaiting (by decide), secc, get_answerWaiting (by decide), due, List.foldl_cons, List.foldl_nil, made]

end

section
variable {s u : State} {r : Req} {d : List Byte} {role space : Nat}

/-! ### Transitions -/

theorem transition_requested {dst : Nat} (g : Granted r Obj.requestedTransition 0 0 [BitVec.ofNat 8 dst] role space s u)
    (status : transitionStatus u dst role = 0) (starts : ¬ (dst = 4 ∧ role = roleAdmin)) :
    ((requestTransition r dst s.fresh).done s.pending).get Reg.transitionTo = dst + 1 ∧
      ((requestTransition r dst s.fresh).done s.pending).get Reg.retireAskedAt = 0 := by
  have accepted : ¬ transitionStatus u dst role ≠ 0 := not_not.2 status
  have reads {q : Obj} (quiet : q.quiet = true) := hostDefer_get (fx := fun role t => if transitionStatus t dst role ≠ 0 then
    .error (transitionStatus t dst role) else .ok (startTransition dst role t)) g (if_neg accepted) quiet 0 0
  have begun : (startTransition dst role u).get Reg.transitionTo = dst + 1 := by
    rw [startTransition, if_neg starts]
    simp (decide := true)
  have asked : (startTransition dst role u).get Reg.retireAskedAt = 0 := by
    rw [startTransition, if_neg starts]
    simp (decide := true)
  have runs : ¬ (hostDefer r Obj.requestedTransition 0 0 [BitVec.ofNat 8 dst] (fun role t => if transitionStatus t dst role ≠ 0 then
    .error (transitionStatus t dst role) else .ok (startTransition dst role t)) s.fresh).get Reg.transitionTo = 0 := by
    intro none
    have zero := ((reads (q := Reg.transitionTo) (by decide)).trans begun).symm.trans none
    omega
  unfold requestTransition
  dsimp only
  rw [if_neg runs, done_get, done_get]
  exact ⟨(reads (by decide)).trans begun, (reads (by decide)).trans asked⟩

theorem retirement_lapses (asked : s.get Reg.retireAskedAt ≠ 0) (passed : s.getN Reg.retireAskedAt + 60 * second < s.now + 1) :
    ∃ t, exec .retiredConfirmLapse s = .next t ∧ t.get Reg.retireAskedAt = 0 := by
  have lapses : s.fresh.get Reg.retireAskedAt ≠ 0 ∧ s.fresh.getN Reg.retireAskedAt + 60 * second < s.fresh.now + 1 := ⟨asked, passed⟩
  change ∃ t, execRetiredConfirmLapse s = .next t ∧ _
  refine run_yields ?_
  rw [if_pos lapses, done_get, get_set_same]

theorem carryOut_leaves (s : State) :
    (carryOut s).get Obj.lifeCycleState = s.get Reg.transitionTo - 1 ∧ (carryOut s).get Reg.transitionTo = 0 ∧
      (carryOut s).get Obj.timeOfLastTransition = s.time := by
  unfold carryOut
  dsimp only
  refine ⟨?_, ?_, ?_⟩
  · simp (decide := true)
  · simp (decide := true)
  · simp (decide := true) [State.time]

theorem transition_completed (begun : s.get Reg.transitionTo ≠ 0) (healthy : s.get Obj.randomSourceState = 1)
    (single : s.is Reg.paired = false) :
    ∃ t, exec (.transitionComplete 0) s = .next t ∧ t.get Obj.lifeCycleState = s.get Reg.transitionTo - 1 ∧
      t.get Reg.transitionTo = 0 ∧ t.get Obj.timeOfLastTransition = s.time := by
  have alone : s.fresh.is Reg.paired = false := single
  have works : ¬ s.fresh.get Obj.randomSourceState ≠ 1 := not_not.2 healthy
  obtain ⟨state, over_, time⟩ := carryOut_leaves s.fresh
  change ∃ t, execTransitionComplete 0 s = .next t ∧ _
  refine run_yields ?_
  dsimp only
  rw [if_neg (show ¬ s.fresh.get Reg.transitionTo = 0 from begun), alone]
  simp only [Bool.false_and, Bool.false_eq_true, false_and, if_false, or_false, if_neg works, done_get]
  rw [get_resumeKc (by decide) (by decide), get_resumeKc (by decide) (by decide), get_resumeKc (by decide) (by decide),
    get_answerWaiting (by decide), get_answerWaiting (by decide), get_answerWaiting (by decide)]
  exact ⟨state, over_, time⟩

/-! ### Keys -/

theorem fieldKeyVersion_set (g : Granted r Obj.fmkVersion 0 0 d role space s u) (idle : anySession u = false) :
    ∃ t, exec (.fieldMeteringKeyVersion r d) s = .next t ∧ t.get Obj.fmkVersion = ofBytes d := by
  have free : ¬ anySession u = true := Bool.not_eq_true _ ▸ idle
  have runs : exec (.fieldMeteringKeyVersion r d) s =
    s.run (hostWrite r Obj.fmkVersion 0 0 d fun _ t => setFieldKeyVersion (ofBytes d) t) := rfl
  obtain ⟨t, run, reads⟩ := granted_leaves runs g (if_neg free)
  refine ⟨t, run, (reads _ (by decide) ..).trans ?_⟩
  rw [logEvent_get (by decide), get_ite, get_publishFieldKey (by decide) (by decide), ite_self, get_set_same]

theorem shares_masked (due : s.getN Reg.remaskAt + 12500 ≤ s.frame) (ready : kcReady s = true) :
    ∃ t, exec .reMask s = .next t ∧ t.get Reg.remaskAt = s.frame := by
  have masks : s.fresh.getN Reg.remaskAt + 12500 ≤ s.fresh.frame ∧ kcReady s.fresh = true := ⟨due, ready⟩
  change ∃ t, execReMask s = .next t ∧ _
  refine run_yields ?_
  rw [if_pos masks, done_get, get_set_same]
  rfl

theorem blobs_wrapped (due : s.get Reg.blobsAt + 86400 * second ≤ s.time) (ready : kcReady s = true) :
    ∃ t, exec .blobRewrap s = .next t ∧ t.get Reg.blobGeneration = s.get Reg.blobGeneration + 1 ∧ t.get Reg.blobsAt = s.time := by
  have wraps : s.fresh.get Reg.blobsAt + 86400 * second ≤ s.fresh.time ∧ kcReady s.fresh = true := ⟨due, ready⟩
  change ∃ t, execBlobRewrap s = .next t ∧ _
  refine run_yields ?_
  rw [if_pos wraps, rewrapBlobs]
  rw [done_get, done_get, forN_get fun k u => get_writeBlob (by decide) (by decide) ..,
    forN_get fun k u => get_writeBlob (by decide) (by decide) ..]
  simp (decide := true)

theorem roleKey_installed {index : Fin 5} (g : Granted r Obj.rolePublicKey 0 index d role space s u) (own : index.val < 3) :
    ∃ t, exec (.roleKeyWrite r index d) s = .next t ∧ t.bytes Obj.rolePublicKey 0 index = d := by
  have unaudited : ¬ index.val + 1 = 4 := by omega
  have other : ¬ index.val + 1 = 5 := by omega
  have entry : roleKeyObj (index.val + 1) = (Obj.rolePublicKey, index.val) := by
    rw [roleKeyObj, if_neg unaudited, if_neg other, Nat.add_sub_cancel]
  have set : setRoleKey (index.val + 1) role d u =
      .ok (endSessions (fun y => y.role == index.val + 1) 5 (u.setBytes Obj.rolePublicKey d 0 index)) := by
    rw [setRoleKey, if_neg unaudited, if_neg other, Nat.add_sub_cancel]
  have runs : exec (.roleKeyWrite r index d) s = s.run (hostWrite r Obj.rolePublicKey 0 index d fun by_ t =>
      setRoleKey (index.val + 1) by_ d t) := by
    change s.run (fun v => if index.val + 1 = 4 then noteFull 0xB100 v _ else _) = _
    simp only [if_neg unaudited, entry]
  obtain ⟨t, run, reads⟩ := granted_shows runs g set
  refine ⟨t, run, ?_⟩
  rw [bytes_of_view (reads _ (by decide)), bytes_of_view (view_of_part (endSessions_part (by decide) (by decide) ..)),
    bytes_setBytes_same]

theorem canKey_installed {index : Fin 5} {ident seq : Nat} {macs : List (List Byte)} (g : Granted r Obj.canRoleKey 0 index d role space s u)
    (session : r.auth = Auth.session ident seq macs) (own : index.val < 3) (field : u.get Obj.lifeCycleState = lcField)
    (root : secretOf u kField ≠ []) (ready : kcReady u = true) :
    ∃ t, exec (.canRoleKeyWrite r index d) s = .next t ∧ t.get Obj.canCounter 0 index = 0 ∧ t.get Reg.canFloor index = 0 := by
  have unaudited : ¬ index.val + 1 = 4 := by omega
  have other : ¬ index.val + 1 = 5 := by omega
  have entry : canKeyObj (index.val + 1) = (Obj.canRoleKey, index.val) := by
    rw [canKeyObj, if_neg unaudited, if_neg other, Nat.add_sub_cancel]
  have keyed : ¬ (rootInForce u = [] ∨ ¬ kcReady u = true) := by
    rw [rootInForce, if_pos field]
    exact not_or.2 ⟨root, not_not.2 ready⟩
  have runs : exec (.canRoleKeyWrite r index d) s = s.run (hostWrite r Obj.canRoleKey 0 index d fun by_ t =>
      setCanKey r (index.val + 1) by_ d t) := by
    change s.run (fun v => if index.val + 1 = 4 then noteFull 0xB101 v _ else _) = _
    simp only [if_neg unaudited, entry]
  have set : ∃ v, setCanKey r (index.val + 1) role d u = .ok v ∧ v.get Obj.canCounter 0 index = 0 ∧ v.get Reg.canFloor index = 0 := by
    unfold setCanKey
    rw [session]
    dsimp only
    rw [if_neg keyed, if_neg unaudited, Nat.add_sub_cancel]
    exact ⟨_, rfl, by simp (decide := true), get_set_same ..⟩
  obtain ⟨v, made, counter, floor⟩ := set
  obtain ⟨t, run, reads⟩ := granted_leaves runs g made
  exact ⟨t, run, (reads _ (by decide) ..).trans counter, (reads _ (by decide) ..).trans floor⟩

theorem kcReady_deferred (o : Obj) (k : Key) (l : List Waiting) (u : State) :
    kcReady { markDirty o k u with waiting := l } = kcReady u := by
  have kept {q : Obj} (quiet : q.quiet = true) : State.get { markDirty o k u with waiting := l } q = u.get q :=
    (markDirty_get quiet ..)
  rw [kcReady, kept (by decide), kept (by decide), kcReady]

theorem secretOf_deferred (o : Obj) (k : Key) (l : List Waiting) (n : Nat) (u : State) :
    secretOf { markDirty o k u with waiting := l } n = secretOf u n := by
  have kept (i j : Nat) : State.bytes { markDirty o k u with waiting := l } Reg.keyShare i j = u.bytes Reg.keyShare i j :=
    bytes_of_view (markDirty_view (by decide) ..) i j
  rw [secretOf, kept, kept, secretOf]

theorem secc_made {kind : Nat} (byte : (Obj.generateSeccKey.ty.decode [BitVec.ofNat 8 kind]).toNat = kind)
    (g : Granted r Obj.generateSeccKey 0 0 [BitVec.ofNat 8 kind] role space s u)
    (field : u.get Obj.lifeCycleState = lcField) (root : secretOf u kField ≠ []) (ready : kcReady u = true) (empty : u.waiting = []) :
    (generateSecc r kind s.fresh).get Reg.seccKind = kind := by
  have allowed : ¬ (u.get Obj.lifeCycleState ≠ lcField ∨ secretOf u kField = []) := not_or.2 ⟨not_not.2 field, root⟩
  have deferred := hostDefer_granted (fx := fun _ t =>
    if t.get Obj.lifeCycleState ≠ lcField ∨ secretOf t kField = [] then .error 6 else .ok t) g (if_neg allowed)
  rw [empty, List.nil_append] at deferred
  have usable (l : List Waiting) : fieldKeysUsable { markDirty Obj.generateSeccKey (Obj.generateSeccKey.key 0 0) u with
      waiting := l } = true := by
    rw [fieldKeysUsable, kcReady_deferred, secretOf_deferred, ready]
    have state : State.get { markDirty Obj.generateSeccKey (Obj.generateSeccKey.key 0 0) u with waiting := l }
      Obj.lifeCycleState = u.get Obj.lifeCycleState := markDirty_get (by decide) ..
    simp [state, field, root]
  refine (congrArg (fun v => (resumeKc v).get Reg.seccKind) deferred).trans ?_
  refine (resumeKc_makes_secc rfl ((kcReady_deferred ..).trans ready) (usable _) rfl rfl).trans ?_
  exact congrArg Nat.cast byte

theorem attestation_made (g : Granted r Obj.attestationNonce 0 0 d role space s u) (existed : attestable u = true)
    (ready : kcReady u = true) (empty : u.waiting = []) :
    ∃ t, exec (.attestationNonce r d) s = .next t ∧ t.get Reg.attestationSequence = u.get Reg.attestationSequence + 1 := by
  have deferred := hostDefer_granted (fx := fun _ t => if attestable t then .ok t else .error 5) g (if_pos existed)
  rw [empty, List.nil_append] at deferred
  change ∃ t, execAttestationNonce r d s = .next t ∧ _
  refine run_yields ((done_get ..).trans ?_)
  refine (congrArg (fun v => (resumeKc v).get Reg.attestationSequence) deferred).trans ?_
  refine (resumeKc_attests rfl ((kcReady_deferred ..).trans ready) rfl).trans ?_
  exact congrArg (· + 1) (markDirty_get (by decide) ..)

/-! ### The random source -/

theorem healthTest_fails {test : Fin 3} (named : test.val ≠ 0) :
    ∃ t, exec (.healthTestFailed test) s = .next t ∧ t.get Reg.sourceStartAt = s.now ∧
      t.get Obj.healthTestFailures = (s.get Obj.healthTestFailures + 1) % 4294967296 ∧ t.get Obj.randomSourceState ≠ 1 := by
  change ∃ t, execHealthTestFailed test s = .next t ∧ _
  refine run_yields ?_
  rw [if_neg named]
  dsimp only
  split
  next failed =>
    refine ⟨by simp (decide := true) [State.now, State.getN], by simp (decide := true) [State.inc], ?_⟩
    rw [done_get, failed]
    decide
  next =>
    split <;> simp (decide := true) [State.inc, State.now, State.getN]

theorem source_restarts (starting : s.get Obj.randomSourceState = 0) :
    ∃ t, exec (.randomSourceRestart true) s = .next t ∧ t.get Obj.randomSourceState = 1 := by
  have tests : ¬ (s.fresh.get Obj.randomSourceState = 1 ∨ (s.fresh.get Obj.randomSourceState = 2 ∧
      s.fresh.now < s.fresh.getN Reg.sourceStartAt + 10 * second)) := by
    rintro (h | h)
    · exact absurd (starting.symm.trans h) (by decide)
    · exact absurd (starting.symm.trans h.1) (by decide)
  change ∃ t, execRandomSourceRestart true s = .next t ∧ _
  refine run_yields ?_
  dsimp only
  rw [if_neg tests, if_pos rfl, done_get, get_resumeKc (by decide) (by decide), get_set_same]

end

/-- Settles O42, one lemma for each command. -/
theorem lifeCycleAndKeys : Obligations.LifeCycleAndKeys := by
  unfold Obligations.LifeCycleAndKeys
  exact ⟨fun s _ r _ _ g status => ⟨_, rfl, transition_requested (s := s) (r := r) (dst := 2) g status (by omega)⟩,
    fun s _ r _ _ g status => ⟨_, rfl, transition_requested (s := s) (r := r) (dst := 3) g status (by omega)⟩,
    fun s _ r _ _ g status service => ⟨_, rfl, transition_requested (s := s) (r := r) (dst := 4) g status (by rw [service]; decide)⟩,
    fun _ => retirement_lapses, fun _ => transition_completed, fun _ _ _ _ _ _ => fieldKeyVersion_set, fun _ => shares_masked,
    fun _ => blobs_wrapped, fun _ _ _ _ _ _ _ => roleKey_installed, fun _ _ _ _ _ _ _ _ _ _ => canKey_installed,
    fun s _ r _ _ g field root ready empty =>
      ⟨_, rfl, (done_get ..).trans (secc_made (s := s) (r := r) (kind := 1) (by decide) g field root ready empty)⟩,
    fun s _ r _ _ g field root ready empty =>
      ⟨_, rfl, (done_get ..).trans (secc_made (s := s) (r := r) (kind := 2) (by decide) g field root ready empty)⟩,
    fun s _ r _ _ g field root ready empty =>
      ⟨_, rfl, (done_get ..).trans (secc_made (s := s) (r := r) (kind := 3) (by decide) g field root ready empty)⟩,
    fun _ _ _ _ _ _ => attestation_made, fun _ _ => healthTest_fails, fun _ => source_restarts⟩

end Sys2Proof.Machine
end

section
/-!
THEOREM. Image writes over a flash that lists an address twice (R287).
-/

namespace Sys2Proof.Machine

/-- Refutes O43: written to `listedTwice`, the blank byte 0xFF does not read back, as the older entry of its address does. -/
theorem not_imagesActivated : ¬ Obligations.ImagesActivated := by
  unfold Obligations.ImagesActivated
  rintro ⟨image, -⟩
  have g : Granted (testReq 2 Obj.imageData 0 0 [0xFF]) Obj.imageData 0 0 [0xFF] 2 7 (inSession 2 listedTwice)
      (afterAuth 2 [0xFF] listedTwice) := granted_testReq listedTwice rfl (by decide) (by decide) (by decide) (by decide)
  obtain ⟨t, run, reads⟩ := image _ _ _ _ _ _ g (by decide) (by decide)
  obtain ⟨t', run', flash⟩ := exec_imageDataWrite_flash g (by decide) (by decide)
  cases run.symm.trans run'
  have first : memRead flashBlank 0x1000000 t.flash = 0xFF := (List.cons.inj reads).1
  rw [flash, memRead_canon] at first
  exact absurd first (by decide)

end Sys2Proof.Machine
end

section
/-!
THEOREM. Host sessions: opened, confirmed, closed, ended by time; the end of a lockout (R282, R307), one lemma for each command.
-/

namespace Sys2Proof.Machine

/-! ### What leaves the sessions -/

theorem foldl_sessions {α : Type} {f : State → α → State} (h : ∀ u a, (f u a).sessions = u.sessions) (l : List α) (s : State) :
    (l.foldl f s).sessions = s.sessions := by
  induction l generalizing s with
  | nil => rfl
  | cons a l ih => exact (ih (f s a)).trans (h s a)

@[simp] theorem queueItem_sessions (ch kind : Nat) (item : List Byte) (s : State) :
    (queueItem ch kind item s).sessions = s.sessions := by
  unfold queueItem
  dsimp only
  split <;> rfl

theorem dropItem_sessions (kind : Nat) (item : List Byte) (s : State) : (dropItem kind item s).sessions = s.sessions := by
  refine foldl_sessions (fun u ch => ?_) _ _
  dsimp only
  split <;> rfl

@[simp] theorem ringEntry_sessions (e : List Byte) (s : State) : (ringEntry e s).sessions = s.sessions := by
  unfold ringEntry
  dsimp only
  split
  · split
    · rw [dropItem_sessions]
      rfl
    · rfl
  · rfl

@[simp] theorem logEvent_sessions (code src : Nat) (d : List Byte) (s : State) : (logEvent code src d s).sessions = s.sessions := by
  have queued (v : State) (ch : Nat) (e : List Byte) :
      State.sessions (if v.get Obj.startUpStage < 3 then v else queueItem ch 4 e v) = v.sessions := by
    split
    · rfl
    · exact queueItem_sessions ..
  unfold logEvent logEntry enterEvent
  dsimp only
  split
  · rfl
  · split
    · exact queued ..
    · exact (ringEntry_sessions ..).trans (queued ..)

/-- An answer counts in its session, but neither ends nor opens one. -/
theorem emitAnswer_sessions (a : Answer) (s : State) :
    (emitAnswer a s).sessions.map Session.ident = s.sessions.map Session.ident := by
  unfold emitAnswer
  dsimp only
  split
  · split <;> rfl
  · rw [emit_sessions, List.map_map]
    refine List.map_congr_left fun y _ => ?_
    dsimp only [Function.comp]
    split <;> rfl

/-- The end of a session takes it away, and no other. -/
theorem endSession_sessions (x : Session) (cause : Int) (s : State) :
    (endSession x cause s).sessions = s.sessions.filter fun y => y.ident != x.ident := by
  have unbound (u : State) : (u.forN 8 fun ch u => if u.getN Obj.boundSession ch = x.ident then unbindChannel ch u else u).sessions =
      u.sessions := foldl_sessions (fun u ch => by dsimp only; split <;> rfl) ..
  unfold endSession showSessions
  dsimp only
  split <;> simp [unbound]

theorem failOpening_sessions (addr : Nat) (s : State) : (failOpening addr s).sessions = s.sessions := by
  unfold failOpening
  dsimp only
  split <;> simp [State.setSeq]

/-- Every session of a list of one that meets the condition ends. -/
theorem endSessions_of_one {p : Session → Bool} {x : Session} {s : State} (alone : s.sessions = [x]) (cause : Int) :
    (endSessions p cause s).sessions = if p x then [] else [x] := by
  unfold endSessions
  rw [alone]
  by_cases ends : p x = true
  · simp [ends, endSession_sessions, alone]
  · simp [ends, alone]

theorem endSessions_now (p : Session → Bool) (cause : Int) (s : State) : (endSessions p cause s).now = s.now :=
  congrArg Int.toNat (get_endSessions (by decide) (by decide) ..)

theorem pairsOf_flatPairs (l : List (Int × Int)) : pairsOf (flatPairs l) = l := by
  induction l with
  | nil => rfl
  | cons x l ih => exact congrArg (x :: ·) ih

section
variable {s u : State} {r : Req} {port : Fin 2} {addr tag epoch : Nat} {payload sig mac : List Byte} {x : Session}

theorem session_opened (serving : 4 ≤ s.get Obj.startUpStage) (free : lockedOut s addr = false)
    (healthy : s.get Obj.randomSourceState = 1) (room : s.sessions.length < 16) (whole : payload.length = 98) :
    ∃ t, exec (.open port addr tag epoch payload) s = .next t ∧ t.sessions.length = s.sessions.length + 1 ∧
      t.get Reg.nextSession = (s.getN Reg.nextSession + 1 : Nat) % 4294967296 := by
  have serves : ¬ (s.fresh.get Obj.startUpStage < 4 ∧ ¬ imageService s.fresh port = true) := fun h => serving.not_gt h.1
  have welcome : ¬ lockedOut s.fresh addr = true := Bool.not_eq_true _ ▸ free
  have works : ¬ s.fresh.get Obj.randomSourceState ≠ 1 := not_not.2 healthy
  have fits : ¬ 16 ≤ s.fresh.sessions.length := room.not_ge
  have counted (a : Answer) (v : State) : (emitAnswer a v).sessions.length = v.sessions.length := by
    simpa using congrArg List.length (emitAnswer_sessions a v)
  change ∃ t, execOpen port addr tag epoch payload s = .next t ∧ _
  refine run_yields ?_
  rw [if_neg serves, if_neg welcome, if_neg works, if_neg fits, if_neg (not_not.2 whole)]
  dsimp only
  constructor
  · rw [done_sessions, answerOpen, counted]
    exact List.length_append
  · rw [done_get, answerOpen, emitAnswer_get (by decide)]
    have shown (v : State) (l : List Session) (n : Int) :
        State.get { v.set Reg.nextSession n with sessions := l } Reg.nextSession = n := get_set_same v Reg.nextSession n 0 0
    have drawn (v : State) (n : Nat) : (v.random n).2.view Reg.nextSession = v.view Reg.nextSession := view_random (by decide) n
    have signed (m : List Byte) (v : State) : (signWith 384 Config.deviceIdentityKey m v).2.view Reg.nextSession =
        v.view Reg.nextSession := view_of_part (signWith_part (by decide) (by decide) ..)
    rw [shown, State.getN, get_of_view (signed ..), get_of_view (drawn ..), get_of_view (drawn ..), fresh_get]
    rfl

theorem session_confirmed {seq : Nat} (serving : 4 ≤ s.get Obj.startUpStage) (alone : s.sessions = [x]) (opening : x.opening = true)
    (new : x.lastIn < seq) (authentic : macsGood x 6 tag epoch 0 0 seq sig [mac] = true) (keyed : roleKeyOf s x.role ≠ [])
    (whole : sig.length = 64) :
    ∃ t, exec (.confirm x.ident seq tag epoch sig mac) s = .next t ∧ t.sessions.length =
      (if Config.ecdsaVerify 256 (roleKeyOf s x.role) (Config.sha256 x.transcript) sig then 1 else 0) := by
  have found : (s.fresh.sessions.find? fun y => y.ident == x.ident && y.opening) = some x := by
    simp [alone, opening]
  have serves : ¬ (s.fresh.get Obj.startUpStage < 4 ∧ ¬ imageService s.fresh x.port = true) := fun h => serving.not_gt h.1
  have counted (a : Answer) (v : State) : (emitAnswer a v).sessions.length = v.sessions.length := by
    simpa using congrArg List.length (emitAnswer_sessions a v)
  change ∃ t, execConfirm x.ident seq tag epoch sig mac s = .next t ∧ _
  refine run_yields ?_
  rw [found]
  dsimp only
  rw [if_neg serves, if_neg (not_or.2 ⟨new.not_ge, not_not.2 authentic⟩), done_sessions]
  by_cases good : Config.ecdsaVerify 256 (roleKeyOf s x.role) (Config.sha256 x.transcript) sig = true
  · rw [if_pos good, if_pos ⟨keyed, whole, good⟩, answerOpen, counted, logEvent_sessions]
    simp [showSessions, alone]
  · have only (z : Session) (mem : z ∈ (answerOpen x.ident tag epoch 6 9 [] s.fresh).sessions) : z.ident = x.ident := by
      have named := List.mem_map_of_mem (f := Session.ident) mem
      rw [answerOpen, emitAnswer_sessions] at named
      simpa [alone] using named
    rw [if_neg good, if_neg fun h => good h.2.2, failOpening_sessions]
    have gone : (endSession x 1 (answerOpen x.ident tag epoch 6 9 [] s.fresh)).sessions = [] := by
      rw [endSession_sessions]
      exact List.filter_eq_nil_iff.2 fun z mem => by simp [only z mem]
    exact congrArg List.length gone

theorem session_closed {ident seq space role : Nat} {macs : List (List Byte)} {plain : Bool}
    (session : r.auth = Auth.session ident seq macs)
    (verified : authenticate r 7 0 0 [] { s with out := [] } = .accept u space role plain) :
    ∃ t, exec (.close r) s = .next t ∧ ∀ y ∈ t.sessions, y.ident ≠ ident := by
  have accepted : authenticate r 7 0 0 [] s.fresh = .accept u space role plain := verified
  change ∃ t, execClose r s = .next t ∧ _
  refine run_yields ?_
  rw [session]
  dsimp only
  rw [accepted]
  dsimp only
  split
  next x found =>
    intro y mem
    rw [done_sessions, endSession_sessions] at mem
    have named : x.ident = ident := by simpa using List.find?_some found
    simpa [named] using (List.mem_filter.1 mem).2
  next none =>
    intro y mem named
    have other := List.find?_eq_none.1 none y mem
    exact other (by simpa using named)

theorem silent_session_ends (alone : s.sessions = [x]) (silent : x.traffic + 300 * second ≤ s.now) :
    ∃ t, exec .sessionIdleTimeout s = .next t ∧ t.sessions = [] := by
  change ∃ t, execSessionIdleTimeout s = .next t ∧ _
  refine run_yields ((endSessions_of_one (s := s.fresh) alone _).trans (if_pos ?_))
  exact decide_eq_true silent

theorem old_session_ends (alone : s.sessions = [x]) (old : x.opened + 86400 * second ≤ s.now) :
    ∃ t, exec .sessionLifetimeEnd s = .next t ∧ t.sessions = [] := by
  change ∃ t, execSessionLifetimeEnd s = .next t ∧ _
  refine run_yields ?_
  dsimp only
  rw [done_sessions, endSessions_now]
  generalize first : endSessions (fun y => 2 ^ 32 ≤ y.lastIn || 2 ^ 32 ≤ y.lastOut) 4 s.fresh = v
  have due : x.opened + 86400 * second ≤ s.fresh.now := old
  have left := endSessions_of_one (s := s.fresh) (p := fun y => 2 ^ 32 ≤ y.lastIn || 2 ^ 32 ≤ y.lastOut) alone 4
  rw [first] at left
  split at left
  · rw [endSessions, left]
    exact left
  · rw [endSessions_of_one left, if_pos (decide_eq_true due)]

theorem lockouts_end :
    ∃ t, exec .openingLockoutEnd s = .next t ∧ ∀ x ∈ pairsOf (t.seq Reg.lockedOut), (s.now : Int) < x.2 := by
  change ∃ t, execOpeningLockoutEnd s = .next t ∧ _
  refine run_yields fun x mem => ?_
  rw [done_seq, seq_setSeq_same, pairsOf_flatPairs] at mem
  exact of_decide_eq_true (List.mem_filter.1 mem).2

end

/-- Settles O44, one lemma for each command. -/
theorem sessionsOfHosts : Obligations.SessionsOfHosts := by
  unfold Obligations.SessionsOfHosts
  exact ⟨fun _ _ _ _ _ _ => session_opened, fun _ _ _ _ _ _ _ => session_confirmed, fun _ _ _ _ _ _ _ _ _ => session_closed,
    fun _ _ => silent_session_ends, fun _ _ => old_session_ends, fun _ => lockouts_end⟩

end Sys2Proof.Machine
end

section
/-!
THEOREM. The end of a frame at which a write of the object's time waits (R329, R330).
-/

namespace Sys2Proof.Machine

set_option Elab.async false

/-- A bus on which object 0 sends, whose change waiting for that frame is of the object's own time. -/
def timeAwaitsFrame : State :=
  { State.reset.set Reg.canOnBus 1 with
    waiting := [⟨1, 0, 0, 0, .frameDone 0, false, 0, 0, false, [⟨Obj.moTime.key 0 0, 5, [], false⟩]⟩] }

theorem timeAwaitsFrame_sent : ∃ t, exec (.canFrameSent 0) timeAwaitsFrame = .next t ∧ t.get Obj.moTime 0 = 5 := by
  change ∃ t, execCanFrameSent 0 timeAwaitsFrame = .next t ∧ _
  refine run_yields ((done_get ..).trans ?_)
  decide +kernel

/-- Refutes O47: sent from `timeAwaitsFrame`, the frame's time 0 is written over by the change that waited for its end. -/
theorem not_canFramesMove : ¬ Obligations.CanFramesMove := by
  unfold Obligations.CanFramesMove
  rintro ⟨-, -, -, -, sent, -⟩
  obtain ⟨t, run, time, -⟩ := sent timeAwaitsFrame 0 0 (by decide) (by decide)
  obtain ⟨t', run', late⟩ := timeAwaitsFrame_sent
  cases run.symm.trans run'
  exact absurd (late.symm.trans time) (by decide)

end Sys2Proof.Machine
end

section
/-!
THEOREM. What a waiting write cannot name: a write takes effect on an object of the dictionary only, so that the registers outside
it are left by every boundary, whatever waits there.
-/

namespace Sys2Proof.Machine

section
variable {o : Obj} (quiet : o.quiet = true) (unlisted : objById o.id = none)
include quiet unlisted

theorem applyField_hidden (h : o.id ∉ Footprint.applyField) (role : Nat) (record : Bool) (w : FieldWrite) (s : State) :
    (applyField role record w s).part o = s.part o := by
  by_cases named : w.key.o = o.id
  · rw [applyField, named, unlisted]
  · exact applyField_part quiet h role record named s

theorem applyWaiting_hidden (h : o.id ∉ Footprint.applyField) (w : Waiting) (s : State) :
    (applyWaiting w s).part o = s.part o := by
  have applied (l : List FieldWrite) (u : State) :
      (l.foldl (fun u f => applyField w.role w.record f u) u).part o = u.part o :=
    foldl_part (fun f u => applyField_hidden quiet unlisted h w.role w.record f u) l u
  have told (l : List FieldWrite) (u : State) : (l.foldl (fun (u : State) f => u.emit (.sync f.key f.num f.bytes)) u).part o = u.part o :=
    foldl_part (f := fun (u : State) f => u.emit (.sync f.key f.num f.bytes)) (fun _ _ => rfl) l u
  unfold applyWaiting
  dsimp only
  split
  · rw [awaitSync_part quiet, told, applied]
  · split
    · rw [emitAnswer_part quiet, applied]
    · rw [applied]

theorem atBoundary_hidden (h : o.id ∉ Footprint.atBoundary) (b : Boundary) (s : State) : (atBoundary b s).part o = s.part o := by
  simp only [Footprint.atBoundary, List.mem_append, not_or, and_assoc] at h
  obtain ⟨field, discard, clean⟩ := h
  unfold atBoundary
  dsimp only
  rw [endDiscard_part quiet discard]
  refine foldl_part (fun w u => ?_) _ _
  split
  · rw [undirty_part quiet clean, applyWaiting_hidden quiet unlisted field]
  · exact applyWaiting_hidden quiet unlisted field w u

theorem frameDone_hidden (h : o.id ∉ Footprint.frameDone) (m : Nat) (s : State) : (frameDone m s).part o = s.part o := by
  simp only [Footprint.frameDone, List.mem_append, List.mem_cons, List.not_mem_nil, or_false, not_or, and_assoc] at h
  obtain ⟨frames, status, pending, due, boundary⟩ := h
  unfold frameDone
  simp only [part_ite, answerWaiting_part quiet, part_set due, part_set pending, part_setBit status, part_setLog frames,
    atBoundary_hidden quiet unlisted boundary, ite_self]

theorem abortAll_hidden (h : o.id ∉ Footprint.abortAll) (k : Nat) (s : State) : (abortAll k s).part o = s.part o := by
  simp only [Footprint.abortAll, List.mem_append, List.mem_cons, List.not_mem_nil, or_false, not_or] at h
  obtain ⟨⟨frames, onBus⟩, done⟩ := h
  refine (foldl_part (fun m u => ?_) _ _).trans (part_set onBus _ _ _)
  rw [part_ite, frameDone_hidden quiet unlisted done, part_setLog frames, ite_self]

end

end Sys2Proof.Machine
end

section
/-!
THEOREM. Time-triggered operation and bus errors (R333, R336 to R338), one lemma for each command.
-/

namespace Sys2Proof.Machine

set_option Elab.async false

section
variable {s u : State} {r : Req} {role space : Nat}

/-! ### Time-triggered operation -/

theorem canIdle_enters {k : Nat} (due : s.is Reg.ttEnterDue k = true) (sends : canSends s k = true) :
    (canIdle k s).get Obj.operation k = 1 ∧ (canIdle k s).get Obj.cycleCount k = 0 ∧ (canIdle k s).get Reg.ttEnterDue k = 0 := by
  unfold canIdle
  rw [if_pos ⟨due, sends⟩]
  simp (decide := true) [State.inc]

theorem canSends_of_get {s t : State} {k : Nat} (h : s.get Obj.controllerState k = t.get Obj.controllerState k) :
    canSends s k = canSends t k := by
  rw [canSends, h, canSends]

theorem not_monitor_of_sends {k : Nat} (sends : canSends s k = true) : s.get Obj.controllerState k ≠ csMonitor := by
  intro monitor
  simp [canSends, monitor, csMonitor] at sends

theorem ttEnter_begins {bus : Fin 2} (g : Granted r Obj.timeTriggeredCommand (2 + bus) 0 [1] role space s u)
    (driven : u.get Obj.operation (2 + bus) ≠ 1) (sends : canSends u (2 + bus) = true) (idle : u.get Reg.canOnBus (2 + bus) = 0) :
    ∃ t, exec (.ttEnter r bus) s = .next t ∧ t.get Obj.operation (2 + bus) = 1 ∧ t.get Obj.cycleCount (2 + bus) = 0 ∧
      t.get Reg.ttEnterDue (2 + bus) = 0 := by
  have reads {q : Obj} (quiet : q.quiet = true) (i : Nat) := hostDefer_get (fx := fun _ t =>
    if t.get Obj.controllerState (2 + bus) = csMonitor then .error 6
    else if t.get Obj.operation (2 + bus) = 1 then .ok t
    else .ok (((t.set Reg.ttEnterDue 1 (2 + bus)).set Reg.ttCause 1 (2 + bus)).set Reg.ttObject 255 (2 + bus))) g
    ((if_neg (not_monitor_of_sends sends)).trans (if_neg driven)) quiet i 0
  have kept {q : Obj} (others : ¬ q.id = Reg.ttEnterDue.id ∧ ¬ q.id = Reg.ttCause.id ∧ ¬ q.id = Reg.ttObject.id) (i : Nat) :
      (((u.set Reg.ttEnterDue 1 (2 + bus)).set Reg.ttCause 1 (2 + bus)).set Reg.ttObject 255 (2 + bus)).get q i = u.get q i := by
    rw [get_set_other _ _ _ _ _ _ _ _ others.2.2, get_set_other _ _ _ _ _ _ _ _ others.2.1, get_set_other _ _ _ _ _ _ _ _ others.1]
  have due := (reads (q := Reg.ttEnterDue) (by decide) (2 + bus)).trans (c := 1) (by simp (decide := true))
  have onBus := (reads (q := Reg.canOnBus) (by decide) (2 + bus)).trans (kept (by decide) _)
  have state := (reads (q := Obj.controllerState) (by decide) (2 + bus)).trans (kept (by decide) _)
  change ∃ t, execTtEnter r bus s = .next t ∧ _
  refine run_yields ?_
  dsimp only
  rw [if_pos, if_pos, done_get, done_get, done_get]
  · exact canIdle_enters (decide_eq_true due) ((canSends_of_get state).trans sends)
  · exact onBus.trans idle
  · exact decide_eq_true due

theorem ttLeave_waits {bus : Fin 2} (g : Granted r Obj.timeTriggeredCommand (2 + bus) 0 [2] role space s u)
    (running : u.get Obj.operation (2 + bus) = 1) (takesPart : u.get Obj.controllerState (2 + bus) ≠ csMonitor) :
    ∃ t, exec (.ttLeave r bus) s = .next t ∧ t.get Reg.ttLeaveDue (2 + bus) = 1 ∧ t.get Obj.operation (2 + bus) = 1 := by
  have reads {q : Obj} (quiet : q.quiet = true) (i : Nat) := hostDefer_get (fx := fun _ t =>
    if t.get Obj.controllerState (2 + bus) = csMonitor then .error 6
    else .ok (if t.get Obj.operation (2 + bus) = 1 then t.set Reg.ttLeaveDue 1 (2 + bus) else t.set Reg.ttEnterDue 0 (2 + bus))) g
    (if_neg takesPart) quiet i 0
  simp only [running, if_true] at reads
  have due := (reads (q := Reg.ttLeaveDue) (by decide) (2 + bus)).trans (get_set_same ..)
  have operates := (reads (q := Obj.operation) (by decide) (2 + bus)).trans (get_set_other _ _ _ _ _ _ _ _ (by decide))
  change ∃ t, execTtLeave r bus s = .next t ∧ _
  refine run_yields ?_
  dsimp only
  rw [if_pos, done_get, done_get]
  · exact ⟨due, operates.trans running⟩
  · exact decide_eq_true due

theorem endTtWindow_of_none {k : Nat} (none : s.get Reg.ttWindow k = 0) : endTtWindow k s = s :=
  if_neg fun h => h.1 none

theorem window_opened {bus : Fin 2} {w : Nat} (running : s.get Obj.operation (2 + bus) = 1) (sends : canSends s (2 + bus) = true)
    (first : s.get Reg.ttWindow (2 + bus) = 0) (next : nextWindow s (2 + bus) 0 = some w) :
    ∃ t, exec (.ttWindowMark bus) s = .next t ∧ t.get Reg.ttWindow (2 + bus) = w ∧ t.get Reg.ttTaken (2 + bus) = 0 := by
  have marks : ¬ (s.fresh.get Obj.operation (2 + bus) ≠ 1 ∨ ¬ canSends s.fresh (2 + bus) = true) :=
    not_or.2 ⟨not_not.2 running, not_not.2 sends⟩
  have found : nextWindow s.fresh (2 + bus) (s.fresh.getN Reg.ttWindow (2 + bus)) = some w := by
    rw [State.getN, fresh_get, first]
    exact next
  change ∃ t, execTtWindowMark bus s = .next t ∧ _
  refine run_yields ?_
  rw [if_neg marks]
  dsimp only
  rw [endTtWindow_of_none (s := s.fresh) first, found]
  dsimp only
  split
  · simp (decide := true)
  · split
    · simp (decide := true) [State.setBit]
    · split <;> simp (decide := true)

theorem basicCycle_begun {bus : Fin 2} (running : s.get Obj.operation (2 + bus) = 1) (sends : canSends s (2 + bus) = true)
    (first : s.get Reg.ttWindow (2 + bus) = 0) (last : nextWindow s (2 + bus) 0 = none)
    (stays : s.is Reg.ttLeaveDue (2 + bus) = false) :
    ∃ t, exec (.ttWindowMark bus) s = .next t ∧ t.get Reg.ttWindow (2 + bus) = 0 ∧
      t.get Obj.cycleCount (2 + bus) = (s.get Obj.cycleCount (2 + bus) + 1) % s.get Obj.basicCycles (2 + bus) := by
  have marks : ¬ (s.fresh.get Obj.operation (2 + bus) ≠ 1 ∨ ¬ canSends s.fresh (2 + bus) = true) :=
    not_or.2 ⟨not_not.2 running, not_not.2 sends⟩
  have found : nextWindow s.fresh (2 + bus) (s.fresh.getN Reg.ttWindow (2 + bus)) = none := by
    rw [State.getN, fresh_get, first]
    exact last
  have goesOn : ¬ ((s.fresh.get Obj.cycleCount (2 + bus) + 1) % s.fresh.get Obj.basicCycles (2 + bus) = 0 ∧
      s.fresh.is Reg.ttLeaveDue (2 + bus) = true) := fun h => Bool.false_ne_true (stays.symm.trans h.2)
  change ∃ t, execTtWindowMark bus s = .next t ∧ _
  refine run_yields ?_
  rw [if_neg marks]
  dsimp only
  rw [endTtWindow_of_none (s := s.fresh) first, found]
  dsimp only
  rw [nextBasicCycle]
  dsimp only
  rw [if_neg goesOn]
  split <;> simp (decide := true) [State.inc]

/-! ### Bus errors -/

theorem reception_failed {bus : Fin 4} {primary : Bool} (sends : canSends s bus = true) :
    ∃ t, exec (.canBusError bus false primary) s = .next t ∧
      t.get Obj.receiveErrors bus = min 255 (s.get Obj.receiveErrors bus + (if primary then 8 else 1)) ∧
      t.get Reg.canTec bus = s.get Reg.canTec bus := by
  have takesPart : ¬ ¬ canSends s.fresh bus = true := not_not.2 sends
  change ∃ t, execCanBusError bus false primary s = .next t ∧ _
  refine run_yields ?_
  rw [if_neg takesPart]
  simp (decide := true)

theorem transmission_failed {bus : Fin 4} {primary : Bool} (sends : canSends s bus = true) (ended : s.get Reg.canOnBus bus = 0) :
    ∃ t, exec (.canBusError bus true primary) s = .next t ∧ t.get Reg.canTec bus = min 256 (s.get Reg.canTec bus + 8) ∧
      t.get Obj.receiveErrors bus = s.get Obj.receiveErrors bus := by
  have takesPart : ¬ ¬ canSends s.fresh bus = true := not_not.2 sends
  have off (v : State) (none : v.get Reg.canOnBus bus = 0) : attemptFailed bus v = v := by
    rw [attemptFailed, State.getN, none]
    rfl
  change ∃ t, execCanBusError bus true primary s = .next t ∧ _
  refine run_yields ?_
  rw [if_neg takesPart]
  dsimp only
  rw [if_pos rfl, if_pos rfl, off]
  · simp (decide := true)
  · rw [get_judgeErrors (by decide) (by decide), get_set_other _ _ _ _ _ _ _ _ (by decide), fresh_get, ended]

theorem recentRecoveries_of_view {s t : State} (l : s.view Reg.busRecoveries = t.view Reg.busRecoveries)
    (n : s.view Reg.elapsed = t.view Reg.elapsed) (k : Nat) : recentRecoveries s k = recentRecoveries t k := by
  rw [recentRecoveries, seq_of_view l, State.now, State.getN, get_of_view n]
  rfl

theorem busOff_holds_off {bus : Fin 4} (sends : canSends s bus = true) (off : 256 ≤ s.get Reg.canTec bus)
    (few : (recentRecoveries s bus).length < 8) :
    ∃ t, exec (.busOff bus) s = .next t ∧ t.get Obj.controllerState bus = csHoldoff ∧ t.get Reg.busOffAt bus = s.now := by
  have falls : ¬ (¬ canSends s.fresh bus = true ∨ s.fresh.get Reg.canTec bus < 256) := not_or.2 ⟨not_not.2 sends, off.not_gt⟩
  have left {o : Obj} (quiet : o.quiet = true) (h : objById o.id = none ∧ o.id ∉ Footprint.abortAll ∧ ¬ o.id = Reg.busOffAt.id) :
      (logEvent 0x1412 srcAp1 (data8 [bus.val]) ((abortAll bus s.fresh).set Reg.busOffAt s.fresh.now bus)).view o = s.view o := by
    rw [logEvent_view quiet, view_set h.2.2, view_of_part (abortAll_hidden quiet h.1 h.2.1 bus s.fresh)]
    rfl
  have same := recentRecoveries_of_view (left (o := Reg.busRecoveries) (by decide) (by decide +kernel))
    (left (o := Reg.elapsed) (by decide) (by decide +kernel)) bus
  change ∃ t, execBusOff bus s = .next t ∧ _
  refine run_yields ?_
  rw [if_neg falls]
  dsimp only
  rw [same, if_neg few.not_ge]
  simp (decide := true)

theorem recovery_begun {bus : Fin 4} (held : s.get Obj.controllerState bus = csHoldoff)
    (passed : s.getN Reg.busOffAt bus + second ≤ s.now) :
    ∃ t, exec (.busOffRecoveryRequest bus) s = .next t ∧ t.get Obj.controllerState bus = csRecovering := by
  have begins : s.fresh.get Obj.controllerState bus = csHoldoff ∧ s.fresh.getN Reg.busOffAt bus + second ≤ s.fresh.now := ⟨held, passed⟩
  change ∃ t, execBusOffRecoveryRequest bus s = .next t ∧ _
  refine run_yields ?_
  dsimp only
  rw [if_pos begins, beginRecovery]
  simp (decide := true)

theorem recovery_ended {bus : Fin 4} (recovering : s.get Obj.controllerState bus = csRecovering) :
    ∃ t, exec (.busOffRecovered bus) s = .next t ∧ t.get Obj.controllerState bus = 1 ∧ t.get Reg.canTec bus = 0 ∧
      t.get Obj.receiveErrors bus = 0 := by
  have ends : ¬ s.fresh.get Obj.controllerState bus ≠ csRecovering := not_not.2 recovering
  change ∃ t, execBusOffRecovered bus s = .next t ∧ _
  refine run_yields ?_
  rw [if_neg ends]
  dsimp only
  split <;> simp (decide := true) [State.inc, csActive]

theorem controller_restarted {bus : Fin 4} (g : Granted r Obj.restartController bus 0 [1] role space s u)
    (faulted : u.get Obj.controllerState bus = csFault) :
    ∃ t, exec (.restartController r bus) s = .next t ∧ t.get Obj.controllerState bus = csRecovering ∧
      t.get Obj.recoveriesInTheLast3600S bus = 1 := by
  obtain ⟨t, run, reads⟩ := granted_leaves (c := .restartController r bus) rfl g rfl
  refine ⟨t, run, (reads _ (by decide) ..).trans ?_, (reads _ (by decide) ..).trans ?_⟩
  · rw [if_pos faulted, beginRecovery]
    simp (decide := true)
  · rw [if_pos faulted, beginRecovery]
    simp (decide := true) [recentRecoveries]

end

/-- Settles O48, one lemma for each command. -/
theorem canErrorsAndSchedule : Obligations.CanErrorsAndSchedule := by
  unfold Obligations.CanErrorsAndSchedule
  exact ⟨fun _ _ _ _ _ _ => ttEnter_begins, fun _ _ _ _ _ _ => ttLeave_waits, fun _ _ _ => window_opened, fun _ _ => basicCycle_begun,
    fun _ _ _ => reception_failed, fun _ _ _ => transmission_failed, fun _ _ => busOff_holds_off, fun _ _ => recovery_begun,
    fun _ _ => recovery_ended, fun _ _ _ _ _ _ => controller_restarted⟩

end Sys2Proof.Machine
end

section
/-!
THEOREM. The thermal shutdown of a coil in a delivering outlet (R363, R372).
-/

namespace Sys2Proof.Machine

set_option Elab.async false

/-- Coil 0 is on in restart mode with a restart left, and its outlet 0 delivers. -/
def hotCoil : State :=
  (((State.reset.set Obj.lsState lsOn).set Obj.lsThermalMode 0).set Obj.lsRetryLimit 1).set Obj.outletState 6

theorem hotCoil_off : ∃ t, exec (.thermalShutdown 0 1750) hotCoil = .next t ∧ t.get Obj.lsState = lsOff := by
  change ∃ t, execThermalShutdown 0 1750 hotCoil = .next t ∧ _
  refine run_yields ((done_get ..).trans ?_)
  decide +kernel

/-- Refutes O49: in `hotCoil` the coil's wait for cooling is an H fault of its outlet, whose stop commands the coil off. -/
theorem not_loadSwitchesDriven : ¬ Obligations.LoadSwitchesDriven := by
  unfold Obligations.LoadSwitchesDriven
  rintro ⟨-, -, -, -, -, -, -, waits, -⟩
  obtain ⟨t, run, state⟩ := waits hotCoil 0 1750 (by decide) (by decide) (by decide) (by decide)
  obtain ⟨t', run', off⟩ := hotCoil_off
  cases run.symm.trans run'
  exact absurd (off.symm.trans state) (by decide)

end Sys2Proof.Machine
end

section
/-!
THEOREM. The supply groups of the load switches (R368 to R372), one lemma for each command.
-/

namespace Sys2Proof.Machine

/-! ### A channel off by a supply fault -/

/-- A channel without supply is off until the supply returns, whatever is commanded off. -/
theorem commandChannel_keeps_supplyOff {c : Nat} {s : State} (off : s.get Obj.lsState c = lsSupplyOff) (k : Nat) :
    (commandChannel k 0 s).get Obj.lsState c = lsSupplyOff := by
  have kept : (s.set Obj.lsCommand 0 k).get Obj.lsState c = lsSupplyOff :=
    (get_set_other _ _ _ _ _ _ _ _ (by decide)).trans off
  simp only [commandChannel, ne_eq, not_true_eq_false, and_false, if_false, if_true]
  split
  next driven =>
    by_cases same : c = k
    · subst same
      rw [kept] at driven
      exact absurd driven (by decide)
    · simpa [get_set, Ne.symm same] using off
  next => exact kept

theorem hardwareStop_keeps_supplyOff {c : Nat} {s : State} (off : s.get Obj.lsState c = lsSupplyOff) (n : Nat) (cause : Int) :
    (hardwareStop n cause s).get Obj.lsState c = lsSupplyOff := by
  have opened (w : State) (h : w.get Obj.lsState c = lsSupplyOff) : (commandContactors n false false w).get Obj.lsState c = lsSupplyOff :=
    commandChannel_keeps_supplyOff (commandChannel_keeps_supplyOff ((get_set_other _ _ _ _ _ _ _ _ (by decide)).trans h) _) _
  unfold hardwareStop
  dsimp only
  split
  · exact off
  · split
    · rw [get_closeEarly (by decide) (by decide), off]
    · rw [get_setOutlet (by decide) (by decide)]
      refine opened _ ?_
      rw [get_set_other _ _ _ _ _ _ _ _ (by decide), get_set_other _ _ _ _ _ _ _ _ (by decide)]
      split <;> simp (decide := true) [forL_get, off]

theorem coilFault_keeps_supplyOff {c : Nat} {s : State} (off : s.get Obj.lsState c = lsSupplyOff) (cause : Int) (before : State)
    (l : List Nat) : (coilFault cause before l s).get Obj.lsState c = lsSupplyOff := by
  unfold coilFault State.forN
  induction List.range 24 generalizing s with
  | nil => exact off
  | cons n m ih =>
    refine ih ?_
    dsimp only
    split
    · exact hardwareStop_keeps_supplyOff off n cause
    · exact off

/-- A supply fault of channels takes every one that is on off. -/
theorem supplyFault_takes_off {c : Nat} {l : List Nat} {s : State} (mem : c ∈ l)
    (works : ¬ (s.get Obj.lsState c = lsLatched ∨ s.get Obj.lsState c = lsShed)) (b : Nat) :
    (supplyFault b l s).get Obj.lsState c = lsSupplyOff := by
  have other {k : Nat} (ne : k ≠ c) (w : State) : (supplyOff k b w).get Obj.lsState c = w.get Obj.lsState c := by
    simp only [supplyOff]
    split <;> simp (decide := true) [get_set, ne]
  have hit (w : State) (h : ¬ (w.get Obj.lsState c = lsLatched ∨ w.get Obj.lsState c = lsShed)) :
      (supplyOff c b w).get Obj.lsState c = lsSupplyOff := by
    simp only [supplyOff]
    rw [if_neg (by simpa (decide := true) using h), get_set_same]
  have stays (w : State) (h : w.get Obj.lsState c = lsSupplyOff) (m : List Nat) :
      (w.forL m fun k u => supplyOff k b u).get Obj.lsState c = lsSupplyOff := by
    unfold State.forL
    induction m generalizing w with
    | nil => exact h
    | cons k m ih =>
      refine ih _ ?_
      by_cases same : k = c
      · subst same
        exact hit w (by rw [h]; decide)
      · rw [other same, h]
  refine coilFault_keeps_supplyOff ?_ _ _ _
  unfold State.forL
  induction l generalizing s with
  | nil => exact absurd mem List.not_mem_nil
  | cons k m ih =>
    by_cases same : k = c
    · subst same
      exact stays _ (hit s works) m
    · refine ih ((List.mem_cons.1 mem).resolve_left (Ne.symm same)) ?_
      rw [other same]
      exact works

/-! ### The commands -/

section
variable {s : State} {group : Fin 8} {voltage current : Nat}

theorem coilGroup_holds (coils : group.val < 4) (over_ : groupRating group < current) (new : s.bit Obj.groupFlags 2 group = false) :
    ∃ t, exec (.groupOverCurrent group current) s = .next t ∧ t.get Reg.groupHold group = 1 ∧
      t.bit Obj.groupFlags 2 group = true ∧ t.get Obj.groupCurrent group = current := by
  have rating : groupRating group = 300 := if_pos coils
  have measured : groupMeasured group current s.fresh = s.fresh.set Obj.groupCurrent current group := by
    rw [groupMeasured, if_neg (by omega), if_neg fun h => coils.not_ge h.2]
  have first : (s.fresh.set Obj.groupCurrent current group).bit Obj.groupFlags 2 group = false := by
    simpa (decide := true) [State.bit, State.getN] using new
  change ∃ t, execGroupOverCurrent group current s = .next t ∧ _
  refine run_yields ?_
  dsimp only
  rw [if_pos over_, measured, groupOver]
  dsimp only
  rw [first, if_pos coils]
  simp (decide := true) [groupEvent, State.when, State.setBit, State.inc, State.bit, State.getN, testBit_withBit]

theorem lowSupply_flagged (low : (voltage : Int) < s.get Obj.undervoltageLevel group) :
    ∃ t, exec (.groupUndervoltage group voltage) s = .next t ∧ t.bit Obj.groupFlags 0 group = true ∧
      t.get Obj.groupVoltage group = voltage := by
  have under : (voltage : Int) < (s.fresh.set Obj.groupVoltage voltage group).get Obj.undervoltageLevel group := by
    simpa (decide := true) using low
  change ∃ t, execGroupUndervoltage group voltage s = .next t ∧ _
  refine run_yields ?_
  dsimp only
  rw [if_pos under]
  constructor
  · rw [State.bit, State.getN, done_get, logEpisode_get (by decide)]
    exact (bit_setBit ..).trans (if_pos rfl)
  · simp (decide := true) [State.setBit]

theorem goodSupply_unflagged (good : s.get Obj.undervoltageLevel group ≤ voltage) :
    ∃ t, exec (.groupUndervoltage group voltage) s = .next t ∧ t.bit Obj.groupFlags 0 group = false ∧
      t.get Obj.groupVoltage group = voltage := by
  have within : ¬ (voltage : Int) < (s.fresh.set Obj.groupVoltage voltage group).get Obj.undervoltageLevel group := by
    simpa (decide := true) using good
  change ∃ t, execGroupUndervoltage group voltage s = .next t ∧ _
  refine run_yields ?_
  dsimp only
  rw [if_neg within]
  constructor
  · rw [State.bit, State.getN, done_get, endEpisode_get (by decide)]
    exact (bit_setBit ..).trans (if_pos rfl)
  · simp (decide := true) [State.setBit]

/-- A group's measurement below 80 % of its rating ends its excess. -/
theorem groupMeasured_of_low {g : Nat} (others : 4 ≤ g) (low : 10 * (current : Int) < 8 * groupRating g) (s : State) :
    groupMeasured g current s = ((s.set Obj.groupCurrent current g).setBit Obj.groupFlags 2 false g).set Reg.groupShedAt 0 g := by
  have positive : 0 ≤ groupRating g := by unfold groupRating; split <;> [decide; split <;> decide]
  have within : (current : Int) ≤ groupRating g ∧ 4 ≤ g := ⟨by omega, others⟩
  rw [groupMeasured, if_pos within, if_neg fun h => h.2.not_ge others]

theorem shed_restarts {c : Nat} (low : 10 * (current : Int) < 8 * groupRating group) (first : s.get Reg.groupRestartAt group = 0)
    (others : 4 ≤ group.val) (shed : firstShed s group = some c) (wanted : lsWanted s c = true) (supplied : lsSupplied s c = true)
    (free : coilBlocked s c = false) :
    ∃ t, exec (.shedRestart group current) s = .next t ∧ t.get Obj.lsState c = lsInrushing ∧ t.get Obj.lsCause c = 0 ∧
      t.get Reg.groupRestartAt group = s.now + 1 := by
  have same : firstShed (groupMeasured group current s.fresh) group = some c := by
    rw [groupMeasured_of_low others low, ← shed]
    simp (decide := true) [firstShed, commandSource, driveCommand, outletDeclared, State.is, State.getN, State.setBit]
  have wants (v : Int) : lsWanted ((groupMeasured group current s.fresh).set Reg.groupRestartAt v group) c = true := by
    rw [groupMeasured_of_low others low, ← wanted]
    simp (decide := true) [lsWanted, isDriving, mayEnable, mayCloseOutlet, mayAct, State.is, State.bit, State.getN, State.setBit]
  have feeds (v : Int) : lsSupplied ((groupMeasured group current s.fresh).set Reg.groupRestartAt v group) c = true := by
    rw [groupMeasured_of_low others low, ← supplied]
    simp (decide := true) [lsSupplied, State.setBit]
  have unblocked (v : Int) : ¬ coilBlocked ((groupMeasured group current s.fresh).set Reg.groupRestartAt v group) c = true := by
    rw [groupMeasured_of_low others low, Bool.not_eq_true, ← free]
    simp (decide := true) [coilBlocked, State.is, State.setBit]
  have untouched : (groupMeasured group current s.fresh).get Reg.groupRestartAt group = 0 := by
    simpa (decide := true) using first
  have now : (groupMeasured group current s.fresh).now = s.now := congrArg Int.toNat (by simp (decide := true))
  have may : lsWanted (groupMeasured group current s.fresh) c = true ∧ lsSupplied (groupMeasured group current s.fresh) c = true := by
    have same (v : Int) := And.intro (wants v) (feeds v)
    simpa (decide := true) [lsWanted, lsSupplied, isDriving, mayEnable, mayCloseOutlet, mayAct, State.is, State.bit, State.getN] using same 0
  change ∃ t, execShedRestart group current s = .next t ∧ _
  refine run_yields ?_
  dsimp only
  rw [if_pos ⟨low, Or.inl untouched⟩, same]
  dsimp only
  rw [if_pos may, restartShed, if_pos ⟨wants _, feeds _, unblocked _⟩, enterInrush]
  simp (decide := true) [now]

theorem heldCoil_released {group : Fin 4} {c : Nat} (held : firstHeld (groupMeasured group current s) group = some c)
    (free : coilBlocked (groupMeasured group current s) c = false) (cold : s.get Obj.lsState c ≠ lsThermalWait) :
    ∃ t, exec (.coilTurnOnRelease group current) s = .next t ∧ t.get Obj.lsState c = lsInrushing ∧ t.get Reg.lsSince c = s.now := by
  have held' : firstHeld (groupMeasured group current s.fresh) group = some c := by
    refine Eq.trans ?_ held
    unfold groupMeasured
    dsimp only
    split <;> split <;> rfl
  have free' : ¬ coilBlocked (groupMeasured group current s.fresh) c = true := by
    rw [Bool.not_eq_true]
    refine Eq.trans ?_ free
    unfold groupMeasured
    dsimp only
    split <;> split <;> rfl
  have state : (groupMeasured group current s.fresh).get Obj.lsState c = s.get Obj.lsState c := by simp (decide := true)
  have now : (groupMeasured group current s.fresh).now = s.now := congrArg Int.toNat (by simp (decide := true))
  change ∃ t, execCoilTurnOnRelease group current s = .next t ∧ _
  refine run_yields ?_
  dsimp only
  rw [held']
  dsimp only
  rw [if_neg free', if_neg (state ▸ cold), enterInrush]
  simp (decide := true) [now]

theorem overVoltage_takes_off {c : Fin 96} (high : 3600 < voltage) (new : s.bit Obj.groupFlags 1 group = false)
    (member : groupOf c = group) (on : s.get Obj.lsState c = lsOn) :
    ∃ t, exec (.groupOverVoltage group voltage) s = .next t ∧ t.bit Obj.groupFlags 1 group = true ∧
      t.get Obj.lsState c = lsSupplyOff := by
  have first : ¬ (s.fresh.set Obj.groupVoltage voltage group).bit Obj.groupFlags 1 group = true := by
    simpa (decide := true) [State.bit, State.getN] using new
  have listed : c.val ∈ channelsOf group := List.mem_filter.2 ⟨List.mem_range.2 c.isLt, by simp [member]⟩
  have flags (b : Nat) (l : List Nat) (w : State) : (supplyFault b l w).get Obj.groupFlags group = w.get Obj.groupFlags group :=
    get_supplyFault (by decide) (by decide) ..
  change ∃ t, execGroupOverVoltage group voltage s = .next t ∧ _
  refine run_yields ?_
  dsimp only
  rw [if_pos ⟨high, first⟩]
  constructor
  · rw [State.bit, State.getN, done_get, flags, logEvent_get (by decide)]
    exact (bit_setBit ..).trans (if_pos rfl)
  · rw [done_get]
    refine supplyFault_takes_off listed ?_ 0
    rw [logEvent_get (by decide), State.setBit, get_set_other _ _ _ _ _ _ _ _ (by decide), get_set_other _ _ _ _ _ _ _ _ (by decide),
      fresh_get, on]
    decide

theorem ground_lost {offset : Nat} (high : 150 < offset) (new : s.is Reg.groundLost = false) :
    ∃ t, exec (.lossOfGround offset) s = .next t ∧ t.get Reg.groundLost = 1 := by
  have first : ¬ s.fresh.is Reg.groundLost = true := Bool.not_eq_true _ ▸ new
  have kept (b : Nat) (l : List Nat) (w : State) : (supplyFault b l w).get Reg.groundLost = w.get Reg.groundLost :=
    get_supplyFault (by decide) (by decide) ..
  change ∃ t, execLossOfGround offset s = .next t ∧ _
  refine run_yields ?_
  rw [if_pos ⟨high, first⟩, done_get, kept, logEvent_get (by decide), get_set_same]

theorem ground_returns (low : voltage < 50) (lost : s.is Reg.groundLost = true) :
    ∃ t, exec (.supplyFaultReturn true group voltage) s = .next t ∧ t.get Reg.groundLost = 0 := by
  change ∃ t, execSupplyFaultReturn true group voltage s = .next t ∧ _
  refine run_yields ?_
  rw [if_pos rfl, if_pos (show voltage < 50 ∧ s.fresh.is Reg.groundLost = true from ⟨low, lost⟩), done_get,
    get_supplyReturn (by decide) (by decide), get_set_same]

theorem supply_returns (low : voltage < 3400) (out : s.bit Obj.groupFlags 1 group = true) :
    ∃ t, exec (.supplyFaultReturn false group voltage) s = .next t ∧ t.bit Obj.groupFlags 1 group = false ∧
      t.get Obj.groupVoltage group = voltage := by
  have returns : voltage < 3400 ∧ (s.fresh.set Obj.groupVoltage voltage group).bit Obj.groupFlags 1 group = true := by
    refine ⟨low, ?_⟩
    simpa (decide := true) [State.bit, State.getN] using out
  change ∃ t, execSupplyFaultReturn false group voltage s = .next t ∧ _
  refine run_yields ?_
  rw [if_neg Bool.false_ne_true, groupBack, if_pos returns]
  simp (decide := true) [State.setBit, State.bit, State.getN, testBit_withBit]

end

/-- Settles O50, one lemma for each command. -/
theorem loadSwitchGroups : Obligations.LoadSwitchGroups := by
  unfold Obligations.LoadSwitchGroups
  exact ⟨fun _ _ _ => coilGroup_holds, fun _ _ _ => lowSupply_flagged, fun _ _ _ => goodSupply_unflagged, fun _ _ _ _ => shed_restarts,
    fun _ _ _ _ => heldCoil_released, fun _ _ _ _ => overVoltage_takes_off, fun _ _ => ground_lost, fun _ _ _ => ground_returns,
    fun _ _ _ => supply_returns⟩

end Sys2Proof.Machine
end

section
/-!
THEOREM. The cycles of Hardpan: samples, test pulses, off pulses, the safe state and the watchdog (R374, R375, R379, R384, R385,
R425), one lemma for each command.
-/

namespace Sys2Proof.Machine

set_option Elab.async false

/-! ### What the safe outputs leave -/

/-- Setting the safe outputs leaves what is outside its footprint, which holds many registers of the outlets. -/
def LeftByOutputs (o : Obj) : Prop := o.quiet = true ∧ o.id ∉ Footprint.setOutputs

theorem get_setOutputs_of {o : Obj} (left : LeftByOutputs o) (s : State) (i j : Nat) : (setOutputs s).get o i j = s.get o i j :=
  get_setOutputs left.1 left.2 ..

theorem left_hpCycles : LeftByOutputs Reg.hpCycles := ⟨by decide, by decide +kernel⟩
theorem left_hpState : LeftByOutputs Obj.hpState := ⟨by decide, by decide +kernel⟩
theorem left_tpAt : LeftByOutputs Reg.tpAt := ⟨by decide, by decide +kernel⟩
theorem left_brakePhase : LeftByOutputs Reg.brakePhase := ⟨by decide, by decide +kernel⟩
theorem left_functionState : LeftByOutputs Obj.functionState := ⟨by decide, by decide +kernel⟩
theorem left_hpWatchdogResets : LeftByOutputs Obj.hpWatchdogResets := ⟨by decide, by decide +kernel⟩
theorem left_outputFaults : LeftByOutputs Obj.outputFaults := ⟨by decide, by decide +kernel⟩

theorem get_outputFaults_setOutput (o : Nat) (s : State) (i j : Nat) :
    (setOutput o s).get Obj.outputFaults i j = s.get Obj.outputFaults i j := get_setOutput left_outputFaults.1 (by decide +kernel) ..

/-- With Hardpan halted no safe output is wanted. -/
theorem outputWanted_halted {s : State} (halted : s.get Obj.hpState = 2) (o : Nat) : outputWanted s o = false := by
  simp [outputWanted, halted]

/-- Of the safe outputs, setting one changes its own bit, to what is wanted. -/
theorem safeOutputStates_setOutput (o : Nat) (s : State) :
    (setOutput o s).get Obj.safeOutputStates = withBit (s.get Obj.safeOutputStates) o (outputWanted s o) := by
  have disabled (g : Nat) (w : State) : (groupDisabled g w).get Obj.safeOutputStates = w.get Obj.safeOutputStates :=
    get_groupDisabled (by decide) (by decide +kernel) ..
  have enabled (g : Nat) (w : State) : (groupEnabled g w).get Obj.safeOutputStates = w.get Obj.safeOutputStates :=
    get_groupEnabled (by decide) (by decide) ..
  have low (c : Bool) (w : State) : (w.when c fun u => u.set Reg.soLowRun 0 o).get Obj.safeOutputStates = w.get Obj.safeOutputStates := by
    cases c <;> simp (decide := true) [State.when]
  have granted (c : Prop) [Decidable c] (w : State) :
      (if c then w.set Reg.brakeGranted 0 (o - 4) else w).get Obj.safeOutputStates = w.get Obj.safeOutputStates := by
    rw [get_ite, get_set_other _ _ _ _ _ _ _ _ (by decide), ite_self]
  unfold setOutput
  dsimp only
  split
  · rw [granted, low, State.setBit, get_set_same]
  · split
    · rw [get_ite, enabled, ite_self, granted, low, State.setBit, get_set_same]
    · rw [get_ite, disabled, ite_self, granted, low, State.setBit, get_set_same]

theorem safeOutput_setOutputs_halted {s : State} (halted : s.get Obj.hpState = 2) {o : Nat} (below : o < 8) :
    (setOutputs s).bit Obj.safeOutputStates o = false := by
  have bits (k : Nat) (w : State) (h : w.get Obj.hpState = 2) :
      (setOutput k w).bit Obj.safeOutputStates o = if o = k then false else w.bit Obj.safeOutputStates o := by
    rw [State.bit, State.getN, safeOutputStates_setOutput, testBit_withBit, outputWanted_halted h]
    rfl
  have kept (k : Nat) (w : State) (h : w.get Obj.hpState = 2) : (setOutput k w).get Obj.hpState = 2 :=
    (get_setOutput left_hpState.1 (by decide +kernel) ..).trans h
  refine (forN_establishes (i := o) (P := fun w => w.get Obj.hpState = 2)
    (Q := fun w => w.get Obj.hpState = 2 ∧ w.bit Obj.safeOutputStates o = false) below (fun k w _ => kept k w) (fun w h => ?_)
    (fun k w ne h => ?_) halted).2
  · exact ⟨kept o w h, (bits o w h).trans (if_pos rfl)⟩
  · exact ⟨kept k w h.1, (bits k w h.1).trans ((if_neg (Ne.symm ne)).trans h.2)⟩

section
variable {s : State}

/-! ### Cycles and pulses -/

theorem hpCycle_counts {levels pulses above5 above18 : Fin 256} {srst : Bool} (runs : s.get Obj.hpState = 1) (empty : s.waiting = []) :
    ∃ t, exec (.hpCycle levels srst pulses above5 above18) s = .next t ∧ t.get Reg.hpCycles = s.get Reg.hpCycles + 1 ∧
      t.get Obj.hpState = 1 ∧ t.get Reg.soAbove5 = above5.val ∧ t.get Obj.readBackAbove18V = above18.val := by
  have entered {o : Obj} (quiet : o.quiet = true) (h : o.id ∉ Footprint.atBoundary) :
      (atBoundary .hpCycle s.fresh).get o = s.get o := get_atBoundary_of_empty (s := s.fresh) quiet h empty ..
  have started : hpStart (atBoundary .hpCycle s.fresh) = atBoundary .hpCycle s.fresh :=
    if_neg (by rw [entered (by decide) (by decide), runs]; decide)
  have running : ¬ (atBoundary .hpCycle s.fresh).get Obj.hpState = 2 := by
    rw [entered (by decide) (by decide), runs]
    decide
  have sampled {o : Obj} (quiet : o.quiet = true) (h : o.id ∉ Footprint.judgeOssd ∧ o.id ∉ Footprint.sampleInput) (w : State) :
      (w.forN 8 fun n u => judgeOssd n (pulses.val.testBit n) (sampleInput n (levels.val.testBit n) u)).get o = w.get o :=
    forN_get (fun n u => (get_judgeOssd quiet h.1 ..).trans (get_sampleInput quiet h.2 ..)) ..
  have reset {o : Obj} (quiet : o.quiet = true) (h : o.id ∉ Footprint.sampleReset) (w : State) :
      (sampleReset srst w).2.get o = w.get o := get_of_view (view_of_part (sampleReset_part quiet h srst w)) ..
  have faults (o : Nat) (cause : Int) (w : State) : (outputFault o cause w).get Reg.soAbove5 = w.get Reg.soAbove5 ∧
      (outputFault o cause w).get Obj.readBackAbove18V = w.get Obj.readBackAbove18V :=
    ⟨get_outputFault (by decide) (by decide +kernel) .., get_outputFault (by decide) (by decide +kernel) ..⟩
  have judged (before w : State) : (judgeReadBack above5 above18 before w).get Reg.soAbove5 = above5.val ∧
      (judgeReadBack above5 above18 before w).get Obj.readBackAbove18V = above18.val := by
    unfold judgeReadBack
    dsimp only
    split
    · simp (decide := true)
    · constructor
      · rw [forN_get, get_set_same]
        intro o u
        simp (decide := true) only [get_ite, (faults ..).1, get_set_other, ite_self]
      · rw [forN_get, get_set_other _ _ _ _ _ _ _ _ (by decide), get_set_same]
        intro o u
        simp (decide := true) only [get_ite, (faults ..).2, get_set_other, ite_self]
  change ∃ t, s.run (hpCycle levels srst pulses above5 above18) = .next t ∧ _
  refine run_yields ?_
  unfold hpCycle
  rw [started]
  dsimp only
  rw [if_neg running, done_get, done_get, done_get, done_get]
  refine ⟨?_, ?_, judged ..⟩
  · rw [get_judgeReadBack (by decide) (by decide +kernel), get_setOutputs_of left_hpCycles, get_startDueTests (by decide) (by decide),
      get_judgeFunctions (by decide) (by decide), get_judgeStartUp (by decide) (by decide), reset (by decide) (by decide),
      sampled (by decide) (by decide), get_set_same, entered (by decide) (by decide)]
  · rw [get_judgeReadBack (by decide) (by decide +kernel), get_setOutputs_of left_hpState, get_startDueTests (by decide) (by decide),
      get_judgeFunctions (by decide) (by decide), get_judgeStartUp (by decide) (by decide), reset (by decide) (by decide),
      sampled (by decide) (by decide), get_set_other _ _ _ _ _ _ _ _ (by decide), entered (by decide) (by decide), runs]

theorem testPulse_noted {source : Fin 2} {high : Fin 256} (runs : s.get Obj.hpState ≠ 2) (due : pulseDue s source = true) :
    ∃ t, exec (.testPulse source high) s = .next t ∧ t.get Reg.tpAt source = s.get Reg.hpCycles := by
  have pulses : s.fresh.get Obj.hpState ≠ 2 ∧ pulseDue s.fresh source = true := ⟨runs, due⟩
  change ∃ t, execTestPulse source high s = .next t ∧ _
  refine run_yields ?_
  rw [if_pos pulses, testPulse]
  dsimp only
  rw [done_get, get_setOutputs_of left_tpAt, get_judgeFunctions (by decide) (by decide), forN_get, get_set_same]
  · rfl
  · intro n u
    split
    · rfl
    · split
      · split <;> simp (decide := true)
      · simp (decide := true)

/-- A fault of an output, stuck on, is latched. -/
theorem outputFault_latches (o : Nat) (s : State) : (outputFault o 1 s).bit Obj.outputFaults o = true := by
  have stopped (n : Nat) (cause : Int) (w : State) : (emergencyStop n cause w).get Obj.outputFaults = w.get Obj.outputFaults :=
    get_emergencyStop (by decide) (by decide +kernel) ..
  unfold outputFault
  dsimp only
  rw [if_pos rfl]
  split
  next known => exact known
  next =>
    have latched : ((s.setBit Obj.outputFaults o true).get Obj.outputFaults).toNat.testBit o = true := (bit_setBit ..).trans (if_pos rfl)
    have left : (setOutput o (submitObject wrHp jkObject Obj.outputFaults 0 0 true
        (logEvent 0xA013 srcHp (data8 [o, 1]) (s.setBit Obj.outputFaults o true)))).get Obj.outputFaults =
          (s.setBit Obj.outputFaults o true).get Obj.outputFaults := by
      rw [get_outputFaults_setOutput, submitObject_get (by decide), logEvent_get (by decide)]
    rw [State.bit, State.getN]
    split
    · rw [forN_get, left, latched]
      intro k u
      simp (decide := true) only [get_refreshAvail, get_commandCoils, get_ite, stopped, ite_self]
    · rw [left, latched]

theorem offPulse_faults {output : Fin 8} {above18 : Bool} (runs : s.get Obj.hpState = 1)
    (due : s.get Reg.hpCycles % 1000 = 125 * (output.val : Int)) (drives : isDriving s = true) (on : soOn s output = true) :
    ∃ t, exec (.offPulse output false above18) s = .next t ∧ t.bit Obj.outputFaults output = true := by
  have pulses : ¬ (s.fresh.get Obj.hpState ≠ 1 ∨ s.fresh.get Reg.hpCycles % 1000 ≠ 125 * (output.val : Int)) :=
    not_or.2 ⟨not_not.2 runs, not_not.2 due⟩
  have acts : ¬ ¬ isDriving s.fresh = true := not_not.2 drives
  have enabled : ¬ ¬ soOn s.fresh output = true := not_not.2 on
  change ∃ t, execOffPulse output false above18 s = .next t ∧ _
  refine run_yields ?_
  rw [if_neg pulses, if_neg acts, if_neg enabled, if_pos Bool.false_ne_true, State.bit, State.getN, done_get]
  exact outputFault_latches ..

theorem offPulse_passes {output : Fin 8} (runs : s.get Obj.hpState = 1)
    (due : s.get Reg.hpCycles % 1000 = 125 * (output.val : Int)) (drives : isDriving s = true) (on : soOn s output = true) :
    ∃ t, exec (.offPulse output true true) s = .next t ∧ t.get Obj.outputFaults = s.get Obj.outputFaults ∧
      t.get Obj.safeOutputStates = s.get Obj.safeOutputStates := by
  have pulses : ¬ (s.fresh.get Obj.hpState ≠ 1 ∨ s.fresh.get Reg.hpCycles % 1000 ≠ 125 * (output.val : Int)) :=
    not_or.2 ⟨not_not.2 runs, not_not.2 due⟩
  have acts : ¬ ¬ isDriving s.fresh = true := not_not.2 drives
  have enabled : ¬ ¬ soOn s.fresh output = true := not_not.2 on
  change ∃ t, execOffPulse output true true s = .next t ∧ _
  refine run_yields ?_
  rw [if_neg pulses, if_neg acts, if_neg enabled, if_neg (not_not.2 rfl), if_neg (not_not.2 rfl), done_get, done_get]
  exact ⟨rfl, rfl⟩

/-! ### The safe state and the watchdog -/

theorem safeState_entered {diagnostic : Fin 5} {output : Fin 8} {manipulator : Fin 2} (runs : s.get Obj.hpState ≠ 2) :
    ∃ t, exec (.hpSafeState diagnostic) s = .next t ∧ t.get Obj.hpState = 2 ∧ t.bit Obj.safeOutputStates output = false ∧
      t.get Reg.brakePhase manipulator = 0 := by
  have enters : ¬ s.fresh.get Obj.hpState = 2 := runs
  have halted (w : State) : ((w.set Obj.hpState 2).forN 2 fun m u => abortTest m u).get Obj.hpState = 2 := by
    rw [forN_get fun m u => get_abortTest (by decide) (by decide) .., get_set_same]
  have aborted (w : State) : (w.forN 2 fun m u => abortTest m u).get Reg.brakePhase manipulator = 0 :=
    forN_get_at (v := fun _ => 0) (fun k u => get_set_same ..) (fun k i u ne => by simp [get_set, ne.symm]) manipulator.isLt w
  change ∃ t, s.run (enterSafeState (diagnosticRow diagnostic)) = .next t ∧ _
  refine run_yields ?_
  rw [enterSafeState, if_neg enters, State.bit, State.getN, done_get, done_get, done_get]
  refine ⟨?_, ?_, ?_⟩
  · rw [get_setOutputs_of left_hpState, logEvent_get (by decide), halted]
  · exact safeOutput_setOutputs_halted (by rw [logEvent_get (by decide), halted]) output.isLt
  · rw [get_setOutputs_of left_brakePhase, logEvent_get (by decide), aborted]

theorem hardpan_restarted {function : Fin 8} :
    ∃ t, exec .hpWatchdog s = .next t ∧ t.get Obj.hpState = 0 ∧ t.get Reg.hpCycles = 0 ∧ t.get Obj.functionState function = 1 ∧
      t.get Obj.hpWatchdogResets = (s.get Obj.hpWatchdogResets + 1) % 4294967296 := by
  have tripped (w : State) : (w.forN 8 fun k u =>
      let u := ((u.set Obj.functionState 1 k).set Reg.sfEdge 0 k).set Reg.sfClosedRun 0 k
      let u := ((u.set Reg.sfNeedsEdge 1 k).set Reg.guardSeen 0 k).setSeq Reg.siSamples [] k
      let u := ((u.set Reg.siSuspect 0 k).set Reg.siPasses 0 k).set Reg.soLowRun 0 k
      (u.set Reg.ossdAt 0 k).set Reg.ossdSeen 0 k).get Obj.functionState function = 1 :=
    forN_get_at (v := fun _ => 1) (fun k u => by simp (decide := true))
      (fun k i u ne => by simp (decide := true) [get_set, ne.symm]) function.isLt w
  change ∃ t, execHpWatchdog s = .next t ∧ _
  refine run_yields ?_
  rw [resetHp]
  dsimp only
  refine ⟨?_, ?_, ?_, ?_⟩
  · rw [done_get, get_setOutputs_of left_hpState]
    simp (decide := true) [forN_get]
  · rw [done_get, get_setOutputs_of left_hpCycles]
    simp (decide := true) [forN_get]
  · rw [done_get, get_setOutputs_of left_functionState, get_set_other _ _ _ _ _ _ _ _ (by decide),
      get_set_other _ _ _ _ _ _ _ _ (by decide), forN_get, tripped]
    intro m u
    simp (decide := true)
  · rw [done_get, get_setOutputs_of left_hpWatchdogResets]
    simp (decide := true) [forN_get, State.inc]

end

/-- Settles O51, one lemma for each command. -/
theorem hardpanCycles : Obligations.HardpanCycles := by
  unfold Obligations.HardpanCycles
  exact ⟨fun _ _ _ _ _ _ => hpCycle_counts, fun _ _ _ => testPulse_noted, fun _ _ _ => offPulse_faults, fun _ _ => offPulse_passes,
    fun _ _ _ _ => safeState_entered, fun _ _ => hardpan_restarted⟩

end Sys2Proof.Machine
end

section
/-!
THEOREM. Brake tests and the safety configuration (R383, R385 to R388), one lemma for each command.
-/

namespace Sys2Proof.Machine

set_option Elab.async false

theorem left_brakeAt : LeftByOutputs Reg.brakeAt := ⟨by decide, by decide +kernel⟩
theorem left_brakeTestResult : LeftByOutputs Obj.brakeTestResult := ⟨by decide, by decide +kernel⟩
theorem left_brakeTestTime : LeftByOutputs Obj.brakeTestTime := ⟨by decide, by decide +kernel⟩
theorem left_brakePassed : LeftByOutputs Reg.brakePassed := ⟨by decide, by decide +kernel⟩
theorem left_brakeLockout : LeftByOutputs Reg.brakeLockout := ⟨by decide, by decide +kernel⟩
theorem left_configurationCRCInUse : LeftByOutputs Obj.configurationCRCInUse := ⟨by decide, by decide +kernel⟩
theorem left_pendingConfigurationCRC : LeftByOutputs Obj.pendingConfigurationCRC := ⟨by decide, by decide +kernel⟩
theorem left_startPassed : LeftByOutputs Reg.startPassed := ⟨by decide, by decide +kernel⟩
theorem left_inputFaults : LeftByOutputs Obj.inputFaults := ⟨by decide, by decide +kernel⟩
theorem left_outputDemand : LeftByOutputs Obj.outputDemand := ⟨by decide, by decide +kernel⟩

section
variable {s u : State} {r : Req} {d : List Byte} {role space : Nat} {manipulator : Fin 2}

/-! ### Brake tests -/

theorem brakeTest_started (g : Granted r Obj.startBrakeTest manipulator 0 [1] role space s u) (engaged : soOn u (4 + manipulator) = false)
    (idle : u.get Reg.brakePhase manipulator = 0) (runs : u.get Obj.hpState = 1) :
    ∃ t, exec (.startBrakeTest r manipulator) s = .next t ∧ t.get Reg.brakePhase manipulator = 1 ∧
      t.get Reg.brakeAt manipulator = u.now := by
  have may : ¬ (soOn u (4 + manipulator) = true ∨ u.get Reg.brakePhase manipulator ≠ 0 ∨ u.get Obj.hpState ≠ 1) :=
    not_or.2 ⟨Bool.not_eq_true _ ▸ engaged, not_or.2 ⟨not_not.2 idle, not_not.2 runs⟩⟩
  obtain ⟨t, run, reads⟩ := granted_leaves (c := .startBrakeTest r manipulator) rfl g (if_neg may)
  refine ⟨t, run, (reads _ (by decide) ..).trans ?_, (reads _ (by decide) ..).trans ?_⟩
  · rw [get_setOutputs_of left_brakePhase, startTest]
    simp (decide := true)
  · rw [get_setOutputs_of left_brakeAt, startTest, get_set_same]

theorem torque_confirmed {count : Int} (g : Granted r Obj.testTorqueApplied manipulator 0 [1] role space s u)
    (waits : u.get Reg.brakePhase manipulator = 1) :
    ∃ t, exec (.testTorqueApplied r manipulator count) s = .next t ∧ t.get Reg.brakePhase manipulator = 2 ∧
      t.get Reg.brakeCount manipulator = count ∧ t.get Reg.brakeAt manipulator = u.now := by
  obtain ⟨t, run, reads⟩ := granted_leaves (c := .testTorqueApplied r manipulator count) rfl g (if_neg (not_not.2 waits))
  refine ⟨t, run, (reads _ (by decide) ..).trans ?_, (reads _ (by decide) ..).trans ?_, (reads _ (by decide) ..).trans ?_⟩ <;>
    simp (decide := true)

/-- A test that ends shows its result, and one that failed locks the manipulator out. -/
theorem endTest_shows (m : Nat) (passed : Bool) (s : State) :
    (endTest m passed s).get Reg.brakePhase m = 0 ∧ (endTest m passed s).get Obj.brakeTestResult m = (if passed then 1 else 2) ∧
      (endTest m passed s).get Obj.brakeTestTime m = s.time ∧ (passed = true → (endTest m passed s).get Reg.brakePassed m = 1) ∧
      (passed = false → (endTest m passed s).get Reg.brakeLockout m = 2) := by
  unfold endTest
  dsimp only
  rw [get_setOutputs_of left_brakePhase, get_setOutputs_of left_brakeTestResult, get_setOutputs_of left_brakeTestTime,
    get_setOutputs_of left_brakePassed, get_setOutputs_of left_brakeLockout]
  cases passed with
  | false => simp (decide := true)
  | true => refine ⟨?_, ?_, ?_, fun _ => ?_, fun h => nomatch h⟩ <;> simp (decide := true)

theorem brakeTest_passes {count : Int} (holds : s.get Reg.brakePhase manipulator = 2)
    (passed : s.get Reg.brakeAt manipulator + s.get Reg.holdInUse manipulator * millisecond ≤ s.now)
    (within : |count - s.get Reg.brakeCount manipulator| ≤ s.get Reg.countInUse manipulator) :
    ∃ t, exec (.brakeTestHoldEnd manipulator count) s = .next t ∧ t.get Reg.brakePhase manipulator = 0 ∧
      t.get Obj.brakeTestResult manipulator = 1 ∧ t.get Obj.brakeTestTime manipulator = s.time ∧
      t.get Reg.brakePassed manipulator = 1 := by
  have ends : s.fresh.get Reg.brakePhase manipulator = 2 ∧
      s.fresh.get Reg.brakeAt manipulator + s.fresh.get Reg.holdInUse manipulator * millisecond ≤ s.fresh.now := ⟨holds, passed⟩
  obtain ⟨phase, result, time, pass, -⟩ := endTest_shows manipulator true s.fresh
  change ∃ t, execBrakeTestHoldEnd manipulator count s = .next t ∧ _
  refine run_yields ?_
  rw [if_pos ends, decide_eq_true (show |count - s.fresh.get Reg.brakeCount manipulator| ≤ s.fresh.get Reg.countInUse manipulator from within),
    done_get, done_get, done_get, done_get]
  exact ⟨phase, result, time, pass rfl⟩

theorem brakeTest_fails {count : Int} (holds : s.get Reg.brakePhase manipulator = 2)
    (passed : s.get Reg.brakeAt manipulator + s.get Reg.holdInUse manipulator * millisecond ≤ s.now)
    (moved : s.get Reg.countInUse manipulator < |count - s.get Reg.brakeCount manipulator|) :
    ∃ t, exec (.brakeTestHoldEnd manipulator count) s = .next t ∧ t.get Reg.brakePhase manipulator = 0 ∧
      t.get Obj.brakeTestResult manipulator = 2 ∧ t.get Reg.brakeLockout manipulator = 2 := by
  have ends : s.fresh.get Reg.brakePhase manipulator = 2 ∧
      s.fresh.get Reg.brakeAt manipulator + s.fresh.get Reg.holdInUse manipulator * millisecond ≤ s.fresh.now := ⟨holds, passed⟩
  have outside : ¬ |count - s.fresh.get Reg.brakeCount manipulator| ≤ s.fresh.get Reg.countInUse manipulator := moved.not_ge
  obtain ⟨phase, result, -, -, lockout⟩ := endTest_shows manipulator false s.fresh
  change ∃ t, execBrakeTestHoldEnd manipulator count s = .next t ∧ _
  refine run_yields ?_
  rw [if_pos ends, decide_eq_false outside, done_get, done_get, done_get]
  exact ⟨phase, result, lockout rfl⟩

theorem brakeTest_times_out (waits : s.get Reg.brakePhase manipulator = 1) (passed : s.get Reg.brakeAt manipulator + 10 * second ≤ s.now) :
    ∃ t, exec (.torqueConfirmTimeout manipulator) s = .next t ∧ t.get Reg.brakePhase manipulator = 0 := by
  have ends : s.fresh.get Reg.brakePhase manipulator = 1 ∧ s.fresh.get Reg.brakeAt manipulator + 10 * second ≤ s.fresh.now := ⟨waits, passed⟩
  change ∃ t, execTorqueConfirmTimeout manipulator s = .next t ∧ _
  refine run_yields ?_
  rw [if_pos ends, done_get, get_setOutputs_of left_brakePhase, abortTest, get_set_same]

/-- A demanded release waits for a due test of the manipulator. -/
def TestWaits (m : Nat) (u : State) : Prop :=
  isDriving u ∧ u.get Obj.hpState = 1 ∧ u.bit Obj.outputDemand (4 + m) ∧ ¬ soOn u (4 + m) ∧ u.get Reg.brakePhase m = 0 ∧
    u.get Reg.brakeLockout m ≠ 2 ∧ (testDue u m ∨ u.get Reg.brakeLockout m = 1) ∧ ¬ u.is Reg.brakeGranted m ∧
    functionsAllow u (4 + m) ∧ functionsAllow u (6 + m)

/-- The start of another manipulator's test changes nothing of that. -/
theorem testWaits_startTest {m k : Nat} (ne : k ≠ m) (u : State) : TestWaits m (startTest k u) ↔ TestWaits m u := by
  have idle : (startTest k u).get Reg.brakePhase m = u.get Reg.brakePhase m := by
    simp (decide := true) [startTest, get_set, ne]
  have due : testDue (startTest k u) m = testDue u m := by
    simp (decide := true) only [testDue, State.time, startTest, get_set_other]
    rfl
  have allow (o : Nat) : functionsAllow (startTest k u) o = functionsAllow u o := by
    simp (decide := true) only [functionsAllow, governs, State.bit, State.getN, startTest, get_set_other]
  rw [TestWaits, TestWaits, idle, due, allow, allow]
  simp (decide := true) only [isDriving, State.bit, State.getN, State.is, soOn, startTest, get_set_other]

theorem dueTest_starts (due : testDue s manipulator = true) (waits : TestWaits manipulator s) :
    ∃ t, exec (.brakeTestDue manipulator) s = .next t ∧ t.get Reg.brakePhase manipulator = 1 := by
  have falls : testDue s.fresh manipulator = true := due
  change ∃ t, execBrakeTestDue manipulator s = .next t ∧ _
  refine run_yields ?_
  rw [if_pos falls, done_get, get_setOutputs_of left_brakePhase]
  refine forN_establishes (i := manipulator) (P := TestWaits manipulator) (Q := fun u => u.get Reg.brakePhase manipulator = 1)
    manipulator.isLt (fun k u ne h => ?_) (fun u h => ?_) (fun k u ne h => ?_) waits
  · split
    · exact (testWaits_startTest ne u).2 h
    · exact h
  · rw [if_pos (show _ ∧ _ from h), startTest]
    simp (decide := true)
  · split
    · simpa (decide := true) [startTest, get_set, ne] using h
    · exact h

theorem lockout_cleared (g : Granted r Obj.clearBrakeLockout manipulator 0 [1] role space s u)
    (locked : u.get Reg.brakeLockout manipulator = 2) :
    ∃ t, exec (.clearBrakeLockout r manipulator) s = .next t ∧ t.get Reg.brakeLockout manipulator = 1 := by
  obtain ⟨t, run, reads⟩ := granted_leaves (c := .clearBrakeLockout r manipulator) rfl g rfl
  exact ⟨t, run, by rw [reads _ (by decide), if_pos locked, get_set_same]⟩

/-! ### Output faults, the configuration and the demand -/

theorem outputFault_cleared (g : Granted r Obj.clearOutputFault 0 0 d role space s u) (low : u.bit Reg.soAbove5 (ofBytes d) = false) :
    ∃ t, exec (.clearOutputFault r d) s = .next t ∧ t.bit Obj.outputFaults (ofBytes d) = false ∧
      t.bit Obj.outputFaults (ofBytes d + 8) = false := by
  have off : ¬ u.bit Reg.soAbove5 (ofBytes d) = true := Bool.not_eq_true _ ▸ low
  have runs : exec (.clearOutputFault r d) s = s.run (hostWrite r Obj.clearOutputFault 0 0 d fun _ t => clearOutputFault (ofBytes d) t) := rfl
  obtain ⟨t, run, reads⟩ := granted_leaves runs g (if_neg off)
  have left := reads Obj.outputFaults (by decide) 0 0
  have faults (k : Nat) (w : State) : (refreshAvail k w).get Obj.outputFaults = w.get Obj.outputFaults :=
    get_refreshAvail (by decide) (by decide) ..
  rw [get_setOutputs_of left_outputFaults, get_ite, forN_get fun k w => faults _ w, ite_self, submitObject_get (by decide)] at left
  refine ⟨t, run, ?_, ?_⟩ <;> rw [State.bit, State.getN, left]
  · exact (bit_setBit ..).trans ((if_neg (by omega)).trans ((bit_setBit ..).trans (if_pos rfl)))
  · exact (bit_setBit ..).trans (if_pos rfl)

theorem configuration_confirmed (g : Granted r Obj.confirmConfiguration 0 0 d role space s u) (crc : ofBytes d = pendingCrc u)
    (guarded : guardPending u = true) :
    ∃ t, exec (.confirmConfiguration r d) s = .next t ∧ t.get Obj.configurationCRCInUse = ofBytes d ∧
      t.get Obj.pendingConfigurationCRC = ofBytes d ∧ t.get Reg.startPassed = 0 ∧ t.get Obj.inputFaults = 0 := by
  have fits : ¬ (ofBytes d ≠ pendingCrc u ∨ ¬ guardPending u = true) := not_or.2 ⟨not_not.2 crc, not_not.2 guarded⟩
  have runs : exec (.confirmConfiguration r d) s =
    s.run (hostWrite r Obj.confirmConfiguration 0 0 d fun _ t => confirmSafety (ofBytes d) t) := rfl
  obtain ⟨t, run, reads⟩ := granted_leaves runs g (if_neg fits)
  have committed (q : Obj) (w : State) (l : Store Int) : State.get { w with cfgRegs := l } q = w.get q := rfl
  refine ⟨t, run, (reads _ (by decide) ..).trans ?_, (reads _ (by decide) ..).trans ?_, (reads _ (by decide) ..).trans ?_,
    (reads _ (by decide) ..).trans ?_⟩
  · rw [get_setOutputs_of left_configurationCRCInUse, logEvent_get (by decide), submitObject_get (by decide),
      get_undirty (by decide) (by decide), committed]
    simp (decide := true)
  · rw [get_setOutputs_of left_pendingConfigurationCRC, logEvent_get (by decide), submitObject_get (by decide),
      get_undirty (by decide) (by decide), committed]
    simp (decide := true)
  · rw [get_setOutputs_of left_startPassed, logEvent_get (by decide), submitObject_get (by decide),
      get_undirty (by decide) (by decide), committed]
    simp (decide := true)
  · rw [get_setOutputs_of left_inputFaults, logEvent_get (by decide), submitObject_get (by decide),
      get_undirty (by decide) (by decide), committed]
    simp (decide := true)

theorem demand_taken (g : Granted r Obj.outputDemand 0 0 d role space s u) (fits : ofBytes d % 16 = 15) :
    ∃ t, exec (.outputDemand r d) s = .next t ∧ t.get Obj.outputDemand = ofBytes d := by
  have runs : exec (.outputDemand r d) s = s.run (hostWrite r Obj.outputDemand 0 0 d fun _ t => demandOutputs (ofBytes d) t) := rfl
  obtain ⟨t, run, reads⟩ := granted_leaves runs g (if_neg (not_not.2 fits))
  refine ⟨t, run, (reads _ (by decide) ..).trans ?_⟩
  rw [get_setOutputs_of left_outputDemand, get_startDueTests (by decide) (by decide), get_set_same]

end

/-- Settles O52, one lemma for each command. -/
theorem brakesAndConfiguration : Obligations.BrakesAndConfiguration := by
  unfold Obligations.BrakesAndConfiguration
  refine ⟨fun _ _ _ _ _ _ => brakeTest_started, fun _ _ _ _ _ _ _ => torque_confirmed, fun _ _ _ => brakeTest_passes,
    fun _ _ _ => brakeTest_fails, fun _ _ => brakeTest_times_out, ?_, fun _ _ _ _ _ _ => lockout_cleared,
    fun _ _ _ _ _ _ => outputFault_cleared, fun _ _ _ _ _ _ => configuration_confirmed, fun _ _ _ _ _ _ => demand_taken⟩
  intro s m drives runs due demanded off idle unlocked ungranted brake torque
  exact dueTest_starts due ⟨drives, runs, demanded, Bool.not_eq_true _ ▸ off, idle, unlocked, Or.inl due, Bool.not_eq_true _ ▸ ungranted,
    brake, torque⟩

end Sys2Proof.Machine
end

section
/-!
THEOREM. Resets, the cell and the idle state (R37, R415, R416, R425 to R432), one lemma for each command.
-/

namespace Sys2Proof.Machine

/-! ### What a reset leaves -/

/-- A reset is stamped with its kind, its source and the RTC time, and ends every session and every waiting write. -/
structure ResetStamped (kind source time : Int) (t : State) : Prop where
  kind : t.get Reg.resetKind = kind
  source : t.get Reg.resetSource = source
  time : t.get Reg.resetTime = time
  sessions : t.sessions = []
  waiting : t.waiting = []

theorem assertReset_stamped (kind source : Int) (s : State) :
    ResetStamped kind source (s.get Reg.rtcTime) (assertReset kind source s) := by
  constructor <;> unfold assertReset <;> dsimp only
  case sessions => exact (foldl_sessions (fun _ _ => by rfl) _ _).trans (foldl_sessions (fun _ _ => by rfl) _ _)
  case waiting => exact (forL_waiting (fun _ _ => by rfl) _ _).trans (forN_waiting (fun _ _ => by rfl) 4 _)
  all_goals
    rw [forL_get fun _ _ => get_set_other _ _ _ _ _ _ _ _ (by decide), forN_get fun _ _ => get_set_other _ _ _ _ _ _ _ _ (by decide)]
    simp (decide := true)

theorem forL_pool {f : Nat → State → State} (h : ∀ k u, (f k u).pool = u.pool) (l : List Nat) (s : State) : (s.forL l f).pool = s.pool := by
  induction l generalizing s with
  | nil => rfl
  | cons k l ih => exact (ih (f k s)).trans (h k s)

/-- A reset other than by the watchdog or by software clears the pool. -/
theorem assertReset_pool {kind : Int} (cold : ¬ 2 ≤ kind) (source : Int) (s : State) : (assertReset kind source s).pool = [] := by
  unfold assertReset
  dsimp only
  exact (forL_pool (fun _ _ => by rfl) _ _).trans ((forL_pool (fun _ _ => by rfl) _ _).trans (if_neg cold))

section
variable {s u : State} {r : Req} {role space : Nat} {vaux cell volts : Nat}

/-! ### Resets -/

theorem pllLoss_resets : ∃ t, exec .pllLockLost s = .next t ∧ t.get Reg.resetKind = 0 ∧ t.get Reg.supplyHeld = 1 ∧
    t.sessions = [] ∧ t.pool = [] := by
  have stamped := assertReset_stamped 0 0 s.fresh
  change ∃ t, execPllLockLost s = .next t ∧ _
  refine run_yields ⟨?_, ?_, stamped.sessions, congrArg (memCanon poolBlank) (assertReset_pool (by decide) 0 s.fresh)⟩
  · simp (decide := true) [stamped.kind]
  · simp

theorem railFault_resets {rail : Fin 27} : ∃ t, exec (.internalRailFault rail) s = .next t ∧ t.get Reg.resetKind = 0 ∧
    t.get Reg.supplyHeld = 1 ∧ t.sessions = [] ∧ t.pool = [] := by
  have stamped := assertReset_stamped 0 0 (s.fresh.setSeq Reg.supplyRaw [] (13 + rail))
  change ∃ t, execInternalRailFault rail s = .next t ∧ _
  refine run_yields ⟨?_, ?_, stamped.sessions, congrArg (memCanon poolBlank) (assertReset_pool (by decide) 0 _)⟩
  · simp (decide := true) [stamped.kind]
  · simp

/-- The image on trial is judged before the reset, which does not touch the time. -/
theorem watchdogReset_stamped (source : Int) (s : State) : ResetStamped 2 source (s.get Reg.rtcTime) (watchdogReset source s) := by
  have kept (v : Int) : (s.keep Reg.trialWdt v).get Reg.rtcTime = s.get Reg.rtcTime := get_set_other _ _ _ _ _ _ _ _ (by decide)
  have time : (if s.get Obj.trialState ≠ 1 then s else if s.get Reg.trialWdt + 1 < 3 then s.keep Reg.trialWdt (s.get Reg.trialWdt + 1)
      else (endTrial s).set Reg.trialLost 1).get Reg.rtcTime = s.get Reg.rtcTime := by
    simp (decide := true) [get_ite, kept]
  exact time ▸ assertReset_stamped 2 source _

theorem watchdog_resets {processor : Fin 4} : ∃ t, exec (.watchdogReset processor) s = .next t ∧ t.get Reg.resetKind = 2 ∧
    t.get Reg.resetSource = (processor.val : Int) + 1 ∧ t.get Reg.resetTime = s.get Reg.rtcTime ∧ t.sessions = [] ∧
    t.waiting = [] := by
  have stamped := watchdogReset_stamped (processor.val + 1 : Nat) s.fresh
  change ∃ t, execWatchdogReset processor s = .next t ∧ _
  refine run_yields ⟨?_, ?_, ?_, stamped.sessions, stamped.waiting⟩
  · rw [done_get, stamped.kind]
  · rw [done_get, stamped.source, Int.natCast_succ]
  · rw [done_get, stamped.time, fresh_get]

theorem quietReset_accepted (g : Granted r Obj.softwareReset 0 0 [1] role space s u) (contexts : contextsRest u = true)
    (blocks : blocksRest u = true) :
    ∃ t, exec (.softwareResetQuiet r) s = .next t ∧ t.get Reg.swrAt = u.now + 1 ∧ t.get Reg.warningDue = 1 := by
  have rest : ¬ (¬ contextsRest u = true ∨ ¬ blocksRest u = true) := not_or.2 ⟨not_not.2 contexts, not_not.2 blocks⟩
  obtain ⟨t, run, reads⟩ := granted_leaves (c := .softwareResetQuiet r) rfl g (if_neg rest)
  refine ⟨t, run, (reads _ (by decide) ..).trans ?_, (reads _ (by decide) ..).trans ?_⟩ <;> simp (decide := true) [acceptSwr]

theorem resetAtOnce_accepted (g : Granted r Obj.softwareReset 0 0 [2] role space s u) :
    ∃ t, exec (.softwareResetAtOnce r) s = .next t ∧ t.get Reg.swrAt = u.now + 1 ∧ t.get Reg.warningDue = 1 := by
  obtain ⟨t, run, reads⟩ := granted_leaves (c := .softwareResetAtOnce r) rfl g rfl
  refine ⟨t, run, (reads _ (by decide) ..).trans ?_, (reads _ (by decide) ..).trans ?_⟩ <;> simp (decide := true) [acceptSwr]

theorem softwareReset_asserted (accepted : s.get Reg.swrAt ≠ 0) (passed : s.get Reg.swrAt + 100 * millisecond ≤ s.now + 1) :
    ∃ t, exec .softwareResetAssert s = .next t ∧ t.get Reg.resetKind = 3 ∧ t.sessions = [] ∧ t.waiting = [] := by
  have due : s.fresh.get Reg.swrAt ≠ 0 ∧ s.fresh.get Reg.swrAt + 100 * millisecond ≤ s.fresh.now + 1 := ⟨accepted, passed⟩
  have stamped := assertReset_stamped 3 0 (finishCommit s.fresh)
  change ∃ t, execSoftwareResetAssert s = .next t ∧ _
  refine run_yields ?_
  rw [if_pos due]
  exact ⟨(done_get ..).trans stamped.kind, stamped.sessions, stamped.waiting⟩

/-! ### Brown-out -/

theorem goOff_powerState (s : State) : (goOff s).get Obj.powerState = 0 := get_set_same ..

theorem brownOutReset_backup (full : 2800 ≤ s.getN Reg.brownCell) :
    (brownOutReset s).get Reg.resetKind = 1 ∧ (brownOutReset s).get Obj.powerState = 1 := by
  have stamped := assertReset_stamped 1 0 s
  rw [brownOutReset, if_pos full]
  simp (decide := true) [stamped.kind]

theorem brownOutReset_off (empty : s.getN Reg.brownCell < 2500) : (brownOutReset s).get Obj.powerState = 0 := by
  rw [brownOutReset, if_neg (by omega), if_pos empty, goOff_powerState]

/-- Between the two voltages the outcome is a free value. -/
theorem brownOutReset_either (low : 2500 ≤ s.getN Reg.brownCell) (notFull : s.getN Reg.brownCell < 2800) :
    (brownOutReset s).get Obj.powerState = 0 ∨ ((brownOutReset s).get Obj.powerState = 1 ∧ (brownOutReset s).get Reg.resetKind = 1) := by
  have stamped := assertReset_stamped 1 0 s
  rw [brownOutReset, if_neg (by omega), if_neg (by omega), State.draw]
  dsimp only
  split
  · exact .inr ⟨get_set_same .., by simp (decide := true) [stamped.kind]⟩
  · exact .inl (goOff_powerState _)

/-- The state a brown-out is judged in. -/
def brownOutSeen (vaux cell : Nat) (s : State) : State :=
  let t := s.set Reg.brownCell cell
  t.set Reg.dipLowest (min (t.get Reg.dipLowest) vaux)

theorem brownOut_runs {P : State → Prop} (low : vaux ≤ 1200) (opened : dipOpen s = true)
    (h : P ((if (brownOutSeen vaux cell s.fresh).is Reg.warningValid then brownOutReset (brownOutSeen vaux cell s.fresh)
      else (brownOutSeen vaux cell s.fresh).set Reg.brownOut 1).done s.pending)) :
    ∃ t, exec (.brownOut vaux cell) s = .next t ∧ P t := by
  have dips : dipOpen s.fresh = true := opened
  change ∃ t, execBrownOut vaux cell s = .next t ∧ _
  refine run_yields ?_
  rw [if_neg low.not_gt, if_pos dips]
  exact h

theorem brownOutSeen_cell (s : State) : (brownOutSeen vaux cell s).getN Reg.brownCell = cell := by
  simp (decide := true) [State.getN, brownOutSeen]

theorem brownOutSeen_valid (s : State) : (brownOutSeen vaux cell s).is Reg.warningValid = s.is Reg.warningValid := by
  simp (decide := true) [State.is, brownOutSeen]

theorem brownOut_backup (low : vaux ≤ 1200) (valid : s.is Reg.warningValid = true) (opened : dipOpen s = true) (full : 2800 ≤ cell) :
    ∃ t, exec (.brownOut vaux cell) s = .next t ∧ t.get Reg.resetKind = 1 ∧ t.get Obj.powerState = 1 := by
  refine brownOut_runs low opened ?_
  rw [if_pos ((brownOutSeen_valid s.fresh).trans valid), done_get, done_get]
  exact brownOutReset_backup ((brownOutSeen_cell _).symm ▸ full)

theorem brownOut_off (low : vaux ≤ 1200) (valid : s.is Reg.warningValid = true) (opened : dipOpen s = true) (empty : cell < 2500) :
    ∃ t, exec (.brownOut vaux cell) s = .next t ∧ t.get Obj.powerState = 0 := by
  refine brownOut_runs low opened ?_
  rw [if_pos ((brownOutSeen_valid s.fresh).trans valid), done_get]
  exact brownOutReset_off ((brownOutSeen_cell _).symm ▸ empty)

theorem brownOut_either (low : vaux ≤ 1200) (valid : s.is Reg.warningValid = true) (opened : dipOpen s = true) (notEmpty : 2500 ≤ cell)
    (notFull : cell < 2800) : ∃ t, exec (.brownOut vaux cell) s = .next t ∧
      (t.get Obj.powerState = 0 ∨ (t.get Obj.powerState = 1 ∧ t.get Reg.resetKind = 1)) := by
  refine brownOut_runs low opened ?_
  rw [if_pos ((brownOutSeen_valid s.fresh).trans valid), done_get, done_get]
  exact brownOutReset_either ((brownOutSeen_cell _).symm ▸ notEmpty) ((brownOutSeen_cell _).symm ▸ notFull)

theorem brownOut_waits (low : vaux ≤ 1200) (due : s.is Reg.warningValid = false) (opened : dipOpen s = true) :
    ∃ t, exec (.brownOut vaux cell) s = .next t ∧ t.get Reg.brownOut = 1 ∧ t.get Reg.brownCell = cell := by
  refine brownOut_runs low opened ?_
  rw [if_neg (Bool.eq_false_iff.1 ((brownOutSeen_valid s.fresh).trans due))]
  simp (decide := true) [brownOutSeen]

/-! ### The cell -/

theorem cell_inserted (off : s.get Obj.powerState = 0) (full : 2800 ≤ volts) {judged : Int}
    (h : (if volts < 3000 then 1 else 2) = judged) :
    ∃ t, exec (.cellInserted volts) s = .next t ∧ t.get Obj.powerState = 1 ∧ t.get Obj.vbatVoltage = volts ∧
      t.get Obj.cellState = judged := by
  have backs : s.fresh.get Obj.powerState = 0 ∧ 2800 ≤ volts := ⟨off, full⟩
  change ∃ t, execCellInserted volts s = .next t ∧ _
  refine run_yields ?_
  rw [if_pos backs]
  simp (decide := true) [h]

theorem minute_counted (backup : s.get Obj.powerState = 1) (good : 3000 ≤ volts) :
    ∃ t, exec (.rtcMinuteCellCheck volts true) s = .next t ∧ t.get Obj.powerState = 1 ∧
      t.get Reg.rtcTime = s.get Reg.rtcTime + 60 * second ∧ t.get Obj.cellState = 2 ∧
      t.get Obj.timeInBackupTotal = (s.get Obj.timeInBackupTotal + 60) % 4294967296 := by
  have runs : ¬ s.fresh.get Obj.powerState ≠ 1 := not_not.2 backup
  have stays : ¬ (¬ true = true ∨ volts < 2500) := not_or.2 ⟨not_not.2 rfl, by omega⟩
  have judged (t : State) : judgeCell volts true t =
      endEpisode 0x2117 0 (((t.set Obj.vbatVoltage (clampI 0 65535 volts)).set Obj.cellState 2).set Reg.cellJudged 1) := by
    rw [judgeCell, if_neg (not_or.2 ⟨not_not.2 rfl, by omega⟩), if_neg (by omega)]
  change ∃ t, execRtcMinuteCellCheck volts true s = .next t ∧ _
  refine run_yields ?_
  rw [if_neg runs]
  dsimp only
  rw [if_neg stays, judged]
  have power : s.get Obj.powerState = 1 := backup
  simp (decide := true) [power]

theorem minute_off {fitted : Bool} (backup : s.get Obj.powerState = 1) (gone : fitted = false ∨ volts < 2500) :
    ∃ t, exec (.rtcMinuteCellCheck volts fitted) s = .next t ∧ t.get Obj.powerState = 0 := by
  have runs : ¬ s.fresh.get Obj.powerState ≠ 1 := not_not.2 backup
  have lost : ¬ fitted = true ∨ volts < 2500 := gone.imp_left fun h => Bool.eq_false_iff.1 h
  change ∃ t, execRtcMinuteCellCheck volts fitted s = .next t ∧ _
  refine run_yields ?_
  rw [if_neg runs]
  dsimp only
  rw [if_pos lost, done_get, goOff_powerState]

theorem cell_replaced (g : Granted r Obj.cellReplaced 0 0 [1] role space s u) :
    ∃ t, exec (.cellReplaced r) s = .next t ∧ t.get Obj.chargeDrawnFromCell = 0 ∧ t.get Reg.chargeSixths = 0 := by
  obtain ⟨t, run, reads⟩ := granted_leaves (c := .cellReplaced r) rfl g rfl
  refine ⟨t, run, (reads _ (by decide) ..).trans ?_, (reads _ (by decide) ..).trans ?_⟩ <;> simp (decide := true)

/-! ### The idle state -/

theorem idle_entered (may : mayIdle s = true) (counted : s.get Reg.idleSince ≠ 0)
    (passed : s.getN Reg.idleSince + s.getN Obj.idleDelay * second ≤ s.now + 1) :
    ∃ t, exec .enterIdle s = .next t ∧ t.get Obj.powerState = pwIdle ∧ t.get Reg.wakeCause = 0 := by
  have rests : mayIdle s.fresh = true := may
  have since : countIdleTime s.fresh = s.fresh := by
    rw [countIdleTime, if_neg (not_not.2 rests), if_neg (show ¬ s.fresh.get Reg.idleSince = 0 from counted)]
  have enters : mayIdle s.fresh ∧ s.fresh.getN Reg.idleSince + s.fresh.getN Obj.idleDelay * second ≤ s.fresh.now + 1 := ⟨rests, passed⟩
  change ∃ t, execEnterIdle s = .next t ∧ _
  refine run_yields ?_
  rw [since, if_pos enters]
  simp (decide := true)

theorem wake_noted (g : Granted r Obj.wake 0 0 [1] role space s u) (idle : u.get Obj.powerState = pwIdle) :
    ∃ t, exec (.wake r) s = .next t ∧ t.get Reg.wakeCause = 2 := by
  obtain ⟨t, run, reads⟩ := granted_leaves (c := .wake r) rfl g rfl
  exact ⟨t, run, by rw [reads _ (by decide), if_pos idle, get_set_same]⟩

end

/-- Settles O53, one lemma for each command. -/
theorem resetsAndPower : Obligations.ResetsAndPower := by
  unfold Obligations.ResetsAndPower
  exact ⟨fun _ => pllLoss_resets, fun _ _ => railFault_resets, fun _ _ => watchdog_resets,
    fun _ _ _ _ _ g contexts blocks => quietReset_accepted g contexts blocks, fun _ _ _ _ _ g => resetAtOnce_accepted g,
    fun _ accepted passed => softwareReset_asserted accepted passed,
    fun _ _ _ low valid opened full => brownOut_backup low valid opened full,
    fun _ _ _ low valid opened empty => brownOut_off low valid opened empty,
    fun _ _ _ low valid opened notEmpty notFull => brownOut_either low valid opened notEmpty notFull,
    fun _ _ _ low due opened => brownOut_waits low due opened,
    fun _ _ off full below => cell_inserted off full (if_pos below),
    fun _ _ off good => cell_inserted off (by omega) (if_neg (Nat.not_lt.2 good)),
    fun _ _ backup good => minute_counted backup good, fun _ _ _ backup gone => minute_off backup gone,
    fun _ _ _ _ _ g => cell_replaced g, fun _ may counted passed => idle_entered may counted passed,
    fun _ _ _ _ _ g idle => wake_noted g idle⟩

end Sys2Proof.Machine
end

section
/-!
THEOREM. The Quicksand window and the input gates (R414, R416, R417, R420, R421), one lemma for each command.
-/

namespace Sys2Proof.Machine

set_option Elab.async false

theorem bit_of_get {t u : State} {o : Obj} {i j : Nat} (h : t.get o i j = u.get o i j) (k : Nat) : t.bit o k i j = u.bit o k i j := by
  rw [State.bit, State.getN, h]
  rfl

theorem bit_setBit_other {k b : Nat} (ne : k ≠ b) (s : State) (o : Obj) (on : Bool) (i j : Nat) :
    (s.setBit o b on i j).bit o k i j = s.bit o k i j := (bit_setBit ..).trans (if_neg ne)

theorem bit_ite (c : Prop) [Decidable c] (a b : State) (o : Obj) (k i j : Nat) :
    (if c then a else b).bit o k i j = if c then a.bit o k i j else b.bit o k i j :=
  apply_ite (fun w : State => w.bit o k i j) ..

section
variable {s : State} {vaux volts : Nat}

/-! ### The window -/

/-- What an opening window marks before it is recorded and its commit falls due. -/
def dipMarked (vaux : Nat) (s : State) : State :=
  let t := if s.get Reg.dipClosedAt ≠ 0 then s else ((s.set Reg.dipElapsed 0).set Obj.episodeElapsedTime 0).set Reg.dipLowest vaux
  let t := ((t.set Obj.quicksandWindow 1).set Reg.dipOpenedAt t.now).set Reg.dipCommitAt t.now
  let t := t.set Reg.dipLowest (min (t.get Reg.dipLowest) vaux)
  t.set Obj.timeOfLastWarning t.time

theorem get_openWindow_of {o : Obj} (q : o.quiet = true)
    (named : o.id ∉ [Reg.dipTarget.id, Reg.pausedAt.id, Reg.warningDue.id, Reg.warningValid.id]) (vaux : Nat) (s : State) (i j : Nat) :
    (openWindow vaux s).get o i j = (dipMarked vaux s).get o i j := by
  simp only [List.mem_cons, List.not_mem_nil, or_false, not_or] at named
  obtain ⟨target, pause, due, valid⟩ := named
  unfold openWindow
  dsimp only
  rw [get_set_other _ o Reg.warningValid _ _ _ _ _ valid, get_set_other _ o Reg.warningDue _ _ _ _ _ due,
    get_commitMeters q]
  refine (forN_get (fun n u => ?_) ..).trans ((logEvent_get q ..).trans (submitObject_get q ..))
  rw [get_ite, get_set_other _ o Reg.pausedAt _ _ _ _ _ pause, ite_self, get_set_other _ o Reg.dipTarget _ _ _ _ _ target]

theorem dipMarked_now (vaux : Nat) (s : State) :
    (if s.get Reg.dipClosedAt ≠ 0 then s else ((s.set Reg.dipElapsed 0).set Obj.episodeElapsedTime 0).set Reg.dipLowest vaux).now = s.now := by
  split
  · rfl
  · exact congrArg Int.toNat (by simp (decide := true))

theorem dipWindow_opened (low : vaux < 1600) (closed : s.get Obj.quicksandWindow = 0) :
    ∃ t, exec (.supplyWarning vaux) s = .next t ∧ t.get Obj.quicksandWindow = 1 ∧ t.get Obj.supplyVoltage = vaux ∧
      t.get Reg.dipOpenedAt = s.now ∧ t.get Reg.warningDue = 1 ∧ t.get Reg.warningValid = 0 := by
  have opens : vaux < 1600 ∧ (s.fresh.set Obj.supplyVoltage vaux 0 0).get Obj.quicksandWindow = 0 :=
    ⟨low, (get_set_other _ _ _ _ _ _ _ _ (by decide)).trans closed⟩
  have now : (s.fresh.set Obj.supplyVoltage vaux 0 0).now = s.now := congrArg Int.toNat (by simp (decide := true))
  change ∃ t, execSupplyWarning vaux s = .next t ∧ _
  refine run_yields ?_
  dsimp only
  rw [if_pos opens]
  refine ⟨?_, ?_, ?_, ?_, ?_⟩
  · rw [done_get, get_openWindow_of (by decide) (by decide), dipMarked]
    simp (decide := true)
  · rw [done_get, get_openWindow_of (by decide) (by decide), dipMarked]
    simp (decide := true) [get_ite]
  · rw [done_get, get_openWindow_of (by decide) (by decide), dipMarked, dipMarked_now, now]
    simp (decide := true)
  all_goals
    rw [done_get, openWindow]
    simp (decide := true)

theorem episodeTime_of_get {t u : State} (elapsed : t.get Reg.dipElapsed = u.get Reg.dipElapsed)
    (window : t.get Obj.quicksandWindow = u.get Obj.quicksandWindow) (now : t.now = u.now)
    (since : t.get Reg.dipOpenedAt = u.get Reg.dipOpenedAt) : episodeTime t = episodeTime u := by
  simp only [episodeTime, dipOpen, State.getN, elapsed, window, now, since]
  rfl

theorem dipWindow_committed (opened : dipOpen s = true) (passed : s.getN Reg.dipCommitAt + 100 * millisecond ≤ s.now) :
    ∃ t, exec .dipCommitPeriod s = .next t ∧ t.get Reg.dipCommitAt = s.now ∧
      t.get Obj.episodeElapsedTime = (min 65535 (episodeTime s / millisecond) : Nat) := by
  have due : dipOpen s.fresh ∧ s.fresh.getN Reg.dipCommitAt + 100 * millisecond ≤ s.fresh.now := ⟨opened, passed⟩
  have time : episodeTime ((commitMeters s.fresh).set Reg.dipCommitAt s.fresh.now) = episodeTime s := by
    refine episodeTime_of_get ?_ ?_ ?_ ?_ <;> simp (decide := true) [State.now, State.getN]
  change ∃ t, execDipCommitPeriod s = .next t ∧ _
  refine run_yields ?_
  rw [if_pos due, showEpisode, time]
  simp (decide := true)

theorem dipWindow_closed (high : 1700 < vaux) (opened : dipOpen s = true) (powered : s.is Reg.brownOut = false) :
    ∃ t, exec (.windowRecovery vaux) s = .next t ∧ t.get Obj.quicksandWindow = 0 ∧ t.get Reg.dipClosedAt = s.now + 1 ∧
      t.get Obj.lowestVauxInLastDip = s.get Reg.dipLowest := by
  have window : dipOpen (s.fresh.set Obj.supplyVoltage vaux 0 0) = true := by
    rw [dipOpen, get_set_other _ _ _ _ _ _ _ _ (by decide)]
    exact opened
  have held : (s.fresh.set Obj.supplyVoltage vaux 0 0).is Reg.brownOut = false := by
    rw [State.is, get_set_other _ _ _ _ _ _ _ _ (by decide)]
    exact powered
  change ∃ t, execWindowRecovery vaux s = .next t ∧ _
  refine run_yields ?_
  dsimp only
  rw [if_pos ⟨high, window, Bool.eq_false_iff.1 held⟩, closeDip]
  dsimp only
  refine ⟨?_, ?_, ?_⟩ <;>
    rw [done_get, forN_get fun n u => get_resumeOutlet (by decide) (by decide) n u _ _] <;>
    simp (decide := true) [get_ite, State.inc, showEpisode, State.now, State.getN]

theorem limit_passed (opened : s.get Obj.quicksandWindow = 1) (passed : 500 * millisecond < episodeTime s) :
    ∃ t, exec .dipEpisodeLimit s = .next t ∧ t.get Obj.quicksandWindow = 2 := by
  have passes : s.fresh.get Obj.quicksandWindow = 1 ∧ 500 * millisecond < episodeTime s.fresh := ⟨opened, passed⟩
  change ∃ t, execDipEpisodeLimit s = .next t ∧ _
  refine run_yields ?_
  rw [if_pos passes, done_get, episodePasses]
  rw [get_stopNextOutlet (by decide) (by decide +kernel), get_setSeq,
    forL_get fun n u => get_outletFault (by decide) (by decide +kernel) n 21 false u _ _]
  simp (decide := true)

theorem outlet_stopped {n : Fin 24} {rest : List Int} (due : s.getN Reg.stopNext ≤ s.frame)
    (queued : s.seq Reg.stopQueue = (n.val : Int) :: rest) :
    ∃ t, exec .stagedSessionStop s = .next t ∧ t.seq Reg.stopQueue = rest ∧ t.get Reg.stopNext = s.frame + 250 := by
  have falls : s.fresh.getN Reg.stopNext ≤ s.fresh.frame := due
  have first : s.fresh.seq Reg.stopQueue = (n.val : Int) :: rest := queued
  change ∃ t, execStagedSessionStop s = .next t ∧ _
  refine run_yields ?_
  rw [if_pos falls, stopNextOutlet, first]
  dsimp only
  constructor
  · rw [done_seq, seq_of_view (view_of_part (outletFault_part (by decide) (by decide +kernel) ..))]
    simp (decide := true)
  · rw [done_get, get_outletFault (by decide) (by decide +kernel)]
    simp (decide := true)

theorem episode_ended (high : 1700 < vaux) (closed : dipOpen s = false) (was : s.get Reg.dipClosedAt ≠ 0)
    (passed : s.getN Reg.dipClosedAt + 990 * millisecond ≤ s.now + 1) :
    ∃ t, exec (.dipEpisodeEnd vaux) s = .next t ∧ t.get Reg.dipElapsed = 0 ∧ t.get Obj.episodeElapsedTime = 0 ∧
      t.get Reg.dipClosedAt = 0 := by
  have kept {o : Obj} (ne : o.id ≠ Obj.supplyVoltage.id) : (s.fresh.set Obj.supplyVoltage vaux 0 0).get o = s.fresh.get o :=
    get_set_other _ _ _ _ _ _ _ _ ne
  have now : (s.fresh.set Obj.supplyVoltage vaux 0 0).now = s.now := congrArg Int.toNat (by simp (decide := true))
  have still : dipOpen (s.fresh.set Obj.supplyVoltage vaux 0 0) = dipOpen s.fresh := by
    rw [dipOpen, kept (by decide), dipOpen]
  have ends : 1700 < vaux ∧ ¬ dipOpen (s.fresh.set Obj.supplyVoltage vaux 0 0) ∧
      (s.fresh.set Obj.supplyVoltage vaux 0 0).get Reg.dipClosedAt ≠ 0 ∧
      (s.fresh.set Obj.supplyVoltage vaux 0 0).getN Reg.dipClosedAt + 990 * millisecond ≤ (s.fresh.set Obj.supplyVoltage vaux 0 0).now + 1 := by
    rw [State.getN, kept (by decide), now]
    exact ⟨high, Bool.eq_false_iff.1 (still.trans closed), was, passed⟩
  change ∃ t, execDipEpisodeEnd vaux s = .next t ∧ _
  refine run_yields ?_
  dsimp only
  rw [if_pos ends]
  simp (decide := true)

/-! ### The input gates -/

theorem reverseInput_shuts {input : Fin 3} {v : Int} (reverse : v < -500) :
    ∃ t, exec (.reverseInput input v) s = .next t ∧ t.bit Obj.inputFlags input = true ∧
      t.bit Obj.inputFlags (6 + input) = false := by
  change ∃ t, execReverseInput input v s = .next t ∧ _
  refine run_yields ?_
  dsimp only
  rw [if_neg reverse.not_ge]
  constructor <;> rw [bit_of_get (done_get ..), bit_of_get (get_supplyFault (by decide) (by decide) ..)]
  · rw [bit_ite, bit_of_get (logEvent_get (by decide) ..), ite_self, bit_setBit, if_pos rfl]
  · rw [bit_ite, bit_of_get (logEvent_get (by decide) ..), ite_self,
      bit_setBit_other (show 6 + input.val ≠ input.val by omega), bit_ite,
      bit_setBit_other (show 6 + input.val ≠ 3 + input.val by omega), ite_self, bit_setBit, if_pos rfl]

theorem gate_opened {input : Fin 3} (low : 1800 ≤ volts) (high : volts ≤ 3200) (stage : 3 ≤ s.get Obj.startUpStage) :
    ∃ t, exec (.gateOn input volts) s = .next t ∧ t.bit Obj.inputFlags (6 + input) = true ∧ t.bit Obj.inputFlags input = false ∧
      t.get Obj.supplyVoltage 0 input = volts := by
  have staged : 3 ≤ (s.fresh.set Obj.supplyVoltage volts 0 input).get Obj.startUpStage := by
    rw [get_set_other _ _ _ _ _ _ _ _ (by decide)]
    exact stage
  have may : ¬ ¬ (if input.val = 0 then 600 ≤ volts else
      (1800 ≤ volts ∧ volts ≤ 3200) ∧ 3 ≤ (s.fresh.set Obj.supplyVoltage volts 0 input).get Obj.startUpStage) := by
    split
    · omega
    · exact not_not.2 ⟨⟨low, high⟩, staged⟩
  change ∃ t, execGateOn input volts s = .next t ∧ _
  refine run_yields ?_
  dsimp only
  rw [if_neg may, if_pos (show 1800 ≤ volts ∧ volts ≤ 3200 from ⟨low, high⟩)]
  refine ⟨?_, ?_, ?_⟩
  · rw [bit_of_get (done_get ..), bit_of_get (get_supplyReturn (by decide) (by decide) ..), bit_ite,
      bit_setBit_other (show 6 + input.val ≠ 3 + input.val by omega), ite_self,
      bit_setBit_other (show 6 + input.val ≠ input.val by omega),
      bit_setBit, if_pos rfl]
  · rw [bit_of_get (done_get ..), bit_of_get (get_supplyReturn (by decide) (by decide) ..), bit_ite,
      bit_setBit_other (show input.val ≠ 3 + input.val by omega), ite_self, bit_setBit, if_pos rfl]
  · rw [done_get, get_supplyReturn (by decide) (by decide), get_ite]
    simp (decide := true) [State.setBit]

theorem overVoltage_flagged (high : 3400 < volts) :
    ∃ t, exec (.vauxOverVoltage volts) s = .next t ∧ t.get Reg.vauxHigh = 1 ∧ t.bit Obj.inputFlags 3 = true := by
  change ∃ t, execVauxOverVoltage volts s = .next t ∧ _
  refine run_yields ?_
  dsimp only
  rw [if_pos high]
  constructor
  · simp (decide := true) [State.setBit, State.setB, high]
  · rw [bit_of_get (done_get ..), bit_of_get (logEpisode_get (by decide) ..), bit_setBit, if_pos rfl]

theorem overVoltage_cleared (good : volts ≤ 3400) :
    ∃ t, exec (.vauxOverVoltage volts) s = .next t ∧ t.get Reg.vauxHigh = 0 ∧ t.bit Obj.inputFlags 3 = false := by
  change ∃ t, execVauxOverVoltage volts s = .next t ∧ _
  refine run_yields ?_
  dsimp only
  rw [if_neg good.not_gt]
  constructor
  · simp (decide := true) [State.setBit, State.setB, good.not_gt]
  · rw [bit_of_get (done_get ..), bit_of_get (endEpisode_get (by decide) ..), bit_setBit, if_pos rfl]

end

/-- Settles O54, one lemma for each command. -/
theorem supplyDips : Obligations.SupplyDips := by
  unfold Obligations.SupplyDips
  exact ⟨fun _ _ low closed => dipWindow_opened low closed, fun _ opened passed => dipWindow_committed opened passed,
    fun _ _ high opened powered => dipWindow_closed high opened powered, fun _ opened passed => limit_passed opened passed,
    fun _ _ _ due queued => outlet_stopped due queued, fun _ _ high closed was passed => episode_ended high closed was passed,
    fun _ _ _ reverse => reverseInput_shuts reverse, fun _ _ _ low high stage => gate_opened low high stage,
    fun _ _ high => overVoltage_flagged high, fun _ _ good => overVoltage_cleared good⟩

end Sys2Proof.Machine
end

section
/-!
THEOREM. The lease between the two modules (R390, R398 to R404, R410), one lemma for each command.
-/

namespace Sys2Proof.Machine

set_option Elab.async false

/-- A good lease frame is heard by a module of a pair. -/
theorem onLease_hears {op : Nat} {d : List Byte} {x : Lease} {s : State} (good : leaseOf op d = some x) (pair : pairing s = true)
    (notSolo : s.get Obj.role ≠ roSolo) (f : Lease → State → State) :
    onLease op d f s.fresh = f x (hearLease x s.fresh) := by
  rw [onLease, good]
  exact if_pos ⟨pair, notSolo⟩

theorem hearLease_frame (x : Lease) (s : State) : (hearLease x s).frame = s.frame :=
  congrArg Int.toNat (by simp (decide := true))

theorem hearLease_is {o : Obj} (q : o.quiet = true) (h : o.id ∉ Footprint.hearLease) (x : Lease) (s : State) :
    (hearLease x s).is o = s.is o := by
  rw [State.is, get_hearLease q h, State.is]

theorem setRole_role (v : Int) (s : State) : (setRole v s).get Obj.role = v := by
  unfold setRole
  split
  next same => exact same
  · simp (decide := true)

theorem sendLease_seq (op : Nat) (frame : Int) (s : State) : (sendLease op frame s).get Reg.leaseSeq = (s.get Reg.leaseSeq + 1) % 65536 := by
  rw [sendLease, get_emit, get_set_same]

theorem sendLease_get {o : Obj} (ne : o.id ≠ Reg.leaseSeq.id) (op : Nat) (frame : Int) (s : State) (i j : Nat) :
    (sendLease op frame s).get o i j = s.get o i j := by
  rw [sendLease, get_emit, get_set_other _ _ _ _ _ _ _ _ ne]

theorem noteSync_get {o : Obj} (q : o.quiet = true) (h : o.id ∉ Reg.outOfSync.id :: Reg.resyncAt.id :: Footprint.healthItem)
    (was : Nat) (x : Lease) (s : State) (i j : Nat) : (noteSync was x s).get o i j = s.get o i j := by
  simp only [List.mem_cons, not_or] at h
  obtain ⟨sync, at_, item⟩ := h
  rw [noteSync, get_ite, get_healthItem q item, get_set_other _ _ _ _ _ _ _ _ at_, get_set_other _ _ _ _ _ _ _ _ sync, ite_self]

theorem unpair_leaves (cause : Int) (s : State) : (unpair cause s).get Reg.paired = 0 ∧ (unpair cause s).get Obj.partnerRole = 255 ∧
    (unpair cause s).get Obj.role = s.get Obj.role ∧ (unpair cause s).get Reg.leaseSeq = s.get Reg.leaseSeq := by
  simp (decide := true) [unpair]

/-- The token taken, before what follows the change of role. -/
theorem takeToken_leaves (cause : Int) (s : State) : (takeToken cause s).get Obj.role = roActive ∧
    (takeToken cause s).get Obj.lastCause = cause ∧ (takeToken cause s).get Reg.ownActive = 1 ∧
    (takeToken cause s).get Obj.takeovers = (s.get Obj.takeovers + 1) % 4294967296 := by
  unfold takeToken
  refine ⟨?_, ?_, ?_, ?_⟩ <;>
    rw [get_channelsFollow (by decide) (by decide), logEvent_get (by decide)] <;> simp (decide := true) [State.inc, setRole_role]

/-- Of the token taken, a change of role leaves what it does not set. -/
theorem takeOver_get {o : Obj} (q : o.quiet = true) (meters : o.id ∉ Footprint.adoptMeters) (role : o.id ∉ Footprint.afterRole)
    (all : o.id ∉ Footprint.refreshAll) (cause : Int) (s : State) (i j : Nat) :
    (takeOver cause s).get o i j = (takeToken cause s).get o i j := by
  rw [takeOver, get_refreshAll q all, get_emit, get_afterRole q role]
  exact get_of_view (view_of_part (adoptMeters_part q meters _)) i j

theorem takeOver_leaves (cause : Int) (s : State) : (takeOver cause s).get Obj.role = roActive ∧
    (takeOver cause s).get Obj.lastCause = cause ∧ (takeOver cause s).get Reg.ownActive = 1 ∧
    (takeOver cause s).get Obj.takeovers = (s.get Obj.takeovers + 1) % 4294967296 := by
  obtain ⟨role, last, line, count⟩ := takeToken_leaves cause s
  refine ⟨.trans ?_ role, .trans ?_ last, .trans ?_ line, .trans ?_ count⟩ <;>
    exact takeOver_get (by decide) (by decide +kernel) (by decide +kernel) (by decide) ..

theorem fence_get {o : Obj} (q : o.quiet = true) (channels : o.id ∉ Footprint.channelsOff) (role : o.id ∉ Footprint.setRole)
    (named : o.id ∉ [Reg.ungrantedRun.id, Reg.handoverFrame.id, Reg.fenceDue.id, Reg.fencedAt.id]) (s : State) :
    (fence s).get o = (((s.set Reg.ownActive 0).set Obj.safeOutputStates 0).set Reg.paired 0).get o := by
  simp only [List.mem_cons, List.not_mem_nil, or_false, not_or] at named
  obtain ⟨run, handover, due, since⟩ := named
  rw [fence, logEvent_get q, get_setRole q role, get_set_other _ _ _ _ _ _ _ _ run, get_set (o := Reg.paired),
    get_set (o := Reg.paired), get_set_other _ _ _ _ _ _ _ _ handover, get_set_other _ _ _ _ _ _ _ _ due,
    get_set_other _ _ _ _ _ _ _ _ since, get_channelsOff q channels]

theorem fence_leaves (s : State) : (fence s).get Obj.role = roFenced ∧ (fence s).get Reg.ownActive = 0 ∧ (fence s).get Reg.paired = 0 ∧
    (fence s).get Obj.partnerLinkState = s.get Obj.partnerLinkState := by
  refine ⟨(logEvent_get (by decide) ..).trans (setRole_role ..), ?_, ?_, ?_⟩ <;>
    rw [fence_get (by decide) (by decide) (by decide) (by decide)] <;> simp (decide := true)

section
variable {s : State} {f : List Byte} {x : Lease}

/-! ### Requests and grants -/

theorem request_granted (good : leaseOf opRequest f = some x) (pair : pairing s = true) (standby : s.get Obj.role = roStandby) :
    ∃ t, exec (.request f) s = .next t ∧ t.get Reg.requestAt = s.frame ∧ t.get Obj.partnerRole = x.role ∧
      t.get Reg.leaseSeq = (s.get Reg.leaseSeq + 1) % 65536 ∧ t.get Reg.heldLogged = 0 := by
  have role : (((hearLease x s.fresh).set Reg.requestAt (hearLease x s.fresh).frame).set Reg.heldLogged 0).get Obj.role = roStandby := by
    simpa (decide := true) using standby
  change ∃ t, execRequest f s = .next t ∧ _
  refine run_yields ?_
  rw [onLease_hears good pair (standby ▸ by decide)]
  dsimp only
  rw [if_pos role, hearLease_frame]
  refine ⟨?_, ?_, ?_, ?_⟩
  case refine_3 =>
    rw [done_get, sendLease_seq, noteSync_get (by decide) (by decide)]
    simp (decide := true)
  all_goals
    rw [done_get, sendLease_get (by decide), noteSync_get (by decide) (by decide)]
    simp (decide := true) [hearLease]

theorem request_synchronises (good : leaseOf opRequest f = some x) (pair : pairing s = true) (isolated : s.get Obj.role = roIsolated)
    (joins : s.get Reg.joinPhase = 1) : ∃ t, exec (.request f) s = .next t ∧ t.get Reg.joinPhase = 2 ∧ t.get Obj.partnerRole = x.role := by
  have role : (((hearLease x s.fresh).set Reg.requestAt (hearLease x s.fresh).frame).set Reg.heldLogged 0).get Obj.role = roIsolated := by
    simpa (decide := true) using isolated
  have phase : (((hearLease x s.fresh).set Reg.requestAt (hearLease x s.fresh).frame).set Reg.heldLogged 0).get Reg.joinPhase = 1 := by
    simpa (decide := true) using joins
  change ∃ t, execRequest f s = .next t ∧ _
  refine run_yields ?_
  rw [onLease_hears good pair (isolated ▸ by decide)]
  dsimp only
  rw [if_neg (role ▸ by decide), if_pos ⟨role, phase⟩]
  simp (decide := true) [hearLease]

theorem grant_pairs (good : leaseOf opGrant f = some x) (pair : pairing s = true) (active : s.get Obj.role = roActive)
    (present : x.frame = s.frame) (early : s.get Reg.grantJudged = 0) :
    ∃ t, exec (.grant f) s = .next t ∧ t.get Reg.granted = 1 ∧ t.get Reg.paired = 1 := by
  have counts : (hearLease x s.fresh).get Obj.role = roActive ∧ x.frame = (hearLease x s.fresh).frame ∧
      (hearLease x s.fresh).get Reg.grantJudged = 0 := by
    rw [get_hearLease (by decide) (by decide), get_hearLease (by decide) (by decide), hearLease_frame]
    exact ⟨active, present, early⟩
  change ∃ t, execGrant f s = .next t ∧ _
  refine run_yields ?_
  rw [onLease_hears good pair (active ▸ by decide), if_pos counts]
  simp (decide := true)

theorem deadline_passes {P : State → Prop} (active : s.get Obj.role = roActive) (paired : s.is Reg.paired = true)
    (first : s.is Reg.grantJudged = false)
    (h : ∀ t : State, (∀ {o : Obj}, o.id ≠ Reg.grantJudged.id → o.id ≠ Reg.handoverFrame.id → t.get o = s.get o) →
      t.get Reg.grantJudged = 1 → P ((if t.is Reg.granted then t.set Reg.ungrantedRun 0
        else (t.set Reg.ungrantedRun (t.get Reg.ungrantedRun + 1)).inc Obj.framesUngranted).done s.pending)) :
    ∃ t, exec .grantDeadline s = .next t ∧ P t := by
  have judges : ¬ (s.fresh.get Obj.role ≠ roActive ∨ ¬ s.fresh.is Reg.paired ∨ s.fresh.is Reg.grantJudged) :=
    not_or.2 ⟨not_not.2 active, not_or.2 ⟨not_not.2 paired, Bool.eq_false_iff.1 first⟩⟩
  change ∃ t, execGrantDeadline s = .next t ∧ _
  refine run_yields ?_
  rw [if_neg judges]
  refine h _ (fun judged handover => ?_) ?_
  · rw [get_ite, get_set_other _ _ _ _ _ _ _ _ handover, ite_self, get_set_other _ _ _ _ _ _ _ _ judged, fresh_get]
  · rw [get_ite, get_set_other _ _ Reg.handoverFrame _ _ _ _ _ (by decide), ite_self, get_set_same]

theorem frame_granted (active : s.get Obj.role = roActive) (paired : s.is Reg.paired = true) (first : s.is Reg.grantJudged = false)
    (granted : s.is Reg.granted = true) : ∃ t, exec .grantDeadline s = .next t ∧ t.get Reg.grantJudged = 1 ∧ t.get Reg.ungrantedRun = 0 := by
  refine deadline_passes active paired first fun t kept judged => ?_
  have given : t.is Reg.granted = true := by rwa [State.is, kept (by decide) (by decide)]
  rw [if_pos given]
  simp (decide := true) [judged]

theorem frame_ungranted (active : s.get Obj.role = roActive) (paired : s.is Reg.paired = true) (first : s.is Reg.grantJudged = false)
    (ungranted : s.is Reg.granted = false) : ∃ t, exec .grantDeadline s = .next t ∧ t.get Reg.grantJudged = 1 ∧
      t.get Reg.ungrantedRun = s.get Reg.ungrantedRun + 1 ∧ t.get Obj.framesUngranted = (s.get Obj.framesUngranted + 1) % 4294967296 := by
  refine deadline_passes active paired first fun t kept judged => ?_
  have missing : t.is Reg.granted = false := by rwa [State.is, kept (by decide) (by decide)]
  have run : t.get Reg.ungrantedRun = s.get Reg.ungrantedRun := kept (by decide) (by decide)
  have count : t.get Obj.framesUngranted = s.get Obj.framesUngranted := kept (by decide) (by decide)
  rw [if_neg (Bool.eq_false_iff.1 missing)]
  simp (decide := true) [State.inc, judged, run, count]

/-! ### The lease's end -/

theorem lease_fences (active : s.get Obj.role = roActive) (paired : s.is Reg.paired = true)
    (ended : s.get Reg.leaseInUse ≤ s.get Reg.ungrantedRun) :
    ∃ t, exec (.leaseExpiry true) s = .next t ∧ t.get Obj.role = roFenced ∧ t.get Reg.ownActive = 0 ∧
      t.get Obj.partnerLinkState = lkLost ∧ t.get Reg.paired = 0 := by
  have ends : s.fresh.get Obj.role = roActive ∧ s.fresh.is Reg.paired ∧ s.fresh.get Reg.leaseInUse ≤ s.fresh.get Reg.ungrantedRun :=
    ⟨active, paired, ended⟩
  obtain ⟨role, line, pair, link⟩ := fence_leaves (s.fresh.set Obj.partnerLinkState lkLost)
  change ∃ t, execLeaseExpiry true s = .next t ∧ _
  refine run_yields ?_
  rw [if_pos ends]
  dsimp only
  rw [if_pos rfl, fenceNow]
  refine ⟨.trans ?_ role, .trans ?_ line, .trans ?_ (link.trans (get_set_same ..)), .trans ?_ pair⟩ <;>
    exact (done_get ..).trans (get_afterRole (by decide) (by decide +kernel) ..)

theorem lease_unpairs (active : s.get Obj.role = roActive) (paired : s.is Reg.paired = true)
    (ended : s.get Reg.leaseInUse ≤ s.get Reg.ungrantedRun) :
    ∃ t, exec (.leaseExpiry false) s = .next t ∧ t.get Obj.role = roActive ∧ t.get Reg.paired = 0 ∧ t.get Obj.partnerRole = 255 := by
  have ends : s.fresh.get Obj.role = roActive ∧ s.fresh.is Reg.paired ∧ s.fresh.get Reg.leaseInUse ≤ s.fresh.get Reg.ungrantedRun :=
    ⟨active, paired, ended⟩
  obtain ⟨pair, partner, role, -⟩ := unpair_leaves 1 (s.fresh.set Obj.partnerLinkState lkLost)
  change ∃ t, execLeaseExpiry false s = .next t ∧ _
  refine run_yields ?_
  rw [if_pos ends]
  dsimp only
  rw [if_neg (by decide), done_get, done_get, done_get]
  exact ⟨role.trans ((get_set_other _ _ _ _ _ _ _ _ (by decide)).trans active), pair, partner⟩

/-- A standby without an ACCEPT of its own judges the partner's silence. -/
theorem takeover_judges {line : Bool} {P : State → Prop} (standby : s.get Obj.role = roStandby) (open_ : s.get Reg.acceptFrame = 0)
    (silent : s.get Reg.requestAt + s.get Reg.leaseInUse + 2 ≤ s.frame)
    (h : ∀ t : State, t = s.fresh.setB Reg.partnerActive line → P ((if ¬ line then takeOver 1 t else if t.is Reg.heldLogged then t
      else logEvent 0xA815 srcAp1 [] (t.set Reg.heldLogged 1)).done s.pending)) :
    ∃ t, exec (.takeover line) s = .next t ∧ P t := by
  have kept {o : Obj} (ne : o.id ≠ Reg.partnerActive.id) : (s.fresh.setB Reg.partnerActive line).get o = s.get o :=
    get_set_other _ _ _ _ _ _ _ _ ne
  have frame : (s.fresh.setB Reg.partnerActive line).frame = s.frame := congrArg Int.toNat (kept (by decide))
  have waits : ¬ ((s.fresh.setB Reg.partnerActive line).get Reg.acceptFrame ≠ 0 ∧
      (s.fresh.setB Reg.partnerActive line).get Reg.acceptFrame ≤ (s.fresh.setB Reg.partnerActive line).frame) :=
    fun accepted => accepted.1 ((kept (by decide)).trans open_)
  have passed : (s.fresh.setB Reg.partnerActive line).get Reg.requestAt + (s.fresh.setB Reg.partnerActive line).get Reg.leaseInUse + 2 ≤
      (s.fresh.setB Reg.partnerActive line).frame := by
    rw [kept (by decide), kept (by decide), frame]
    exact silent
  change ∃ t, execTakeover line s = .next t ∧ _
  refine run_yields ?_
  dsimp only
  rw [if_neg (not_not.2 ((kept (by decide)).trans standby)), if_neg waits, if_pos passed]
  exact h _ rfl

theorem silent_takenOver (standby : s.get Obj.role = roStandby) (open_ : s.get Reg.acceptFrame = 0)
    (silent : s.get Reg.requestAt + s.get Reg.leaseInUse + 2 ≤ s.frame) :
    ∃ t, exec (.takeover false) s = .next t ∧ t.get Obj.role = roActive ∧ t.get Obj.lastCause = 1 ∧ t.get Reg.ownActive = 1 ∧
      t.get Obj.takeovers = (s.get Obj.takeovers + 1) % 4294967296 := by
  refine takeover_judges standby open_ silent fun t line => ?_
  have count : t.get Obj.takeovers = s.get Obj.takeovers := line ▸ get_set_other _ _ _ _ _ _ _ _ (by decide)
  rw [if_pos (by decide), done_get, done_get, done_get, done_get, ← count]
  exact takeOver_leaves 1 t

theorem assertedLine_holds (standby : s.get Obj.role = roStandby) (open_ : s.get Reg.acceptFrame = 0)
    (silent : s.get Reg.requestAt + s.get Reg.leaseInUse + 2 ≤ s.frame) :
    ∃ t, exec (.takeover true) s = .next t ∧ t.get Obj.role = roStandby ∧ t.get Reg.heldLogged ≠ 0 ∧ t.get Reg.partnerActive = 1 := by
  refine takeover_judges standby open_ silent fun t line => ?_
  have role : t.get Obj.role = roStandby := line ▸ (get_set_other _ _ _ _ _ _ _ _ (by decide)).trans standby
  have asserted : t.get Reg.partnerActive = 1 := line ▸ get_set_same ..
  rw [if_neg (by decide)]
  split
  next logged => exact ⟨(done_get ..).trans role, by rw [done_get, eq_of_beq logged]; decide, (done_get ..).trans asserted⟩
  · simp (decide := true) [role, asserted]

/-! ### Orderly handover -/

theorem release_accepted (good : leaseOf opRelease f = some x) (pair : pairing s = true) (standby : s.get Obj.role = roStandby)
    (fit : s.is Obj.fitToTakeOver = true) (locked : s.is Reg.mirrorLocked = true) :
    ∃ t, exec (.release f) s = .next t ∧ t.get Reg.acceptFrame = x.frame + 1 := by
  have role : (hearLease x s.fresh).get Obj.role = roStandby := (get_hearLease (by decide) (by decide) ..).trans standby
  have ready : (hearLease x s.fresh).is Obj.fitToTakeOver ∧ (hearLease x s.fresh).is Reg.mirrorLocked := by
    rw [hearLease_is (by decide) (by decide), hearLease_is (by decide) (by decide)]
    exact ⟨fit, locked⟩
  change ∃ t, execRelease f s = .next t ∧ _
  refine run_yields ?_
  rw [onLease_hears good pair (standby ▸ by decide), if_neg (not_not.2 role), if_pos ready, done_get,
    sendLease_get (by decide), get_set_same]

theorem release_refused (good : leaseOf opRelease f = some x) (pair : pairing s = true) (standby : s.get Obj.role = roStandby)
    (unfit : s.is Obj.fitToTakeOver = false) :
    ∃ t, exec (.release f) s = .next t ∧ t.get Reg.acceptFrame = s.get Reg.acceptFrame ∧
      t.get Reg.leaseSeq = (s.get Reg.leaseSeq + 1) % 65536 := by
  have role : (hearLease x s.fresh).get Obj.role = roStandby := (get_hearLease (by decide) (by decide) ..).trans standby
  have notReady : ¬ ((hearLease x s.fresh).is Obj.fitToTakeOver ∧ (hearLease x s.fresh).is Reg.mirrorLocked) := by
    rw [hearLease_is (by decide) (by decide)]
    exact fun ready => Bool.eq_false_iff.1 unfit ready.1
  change ∃ t, execRelease f s = .next t ∧ _
  refine run_yields ?_
  rw [onLease_hears good pair (standby ▸ by decide), if_neg (not_not.2 role), if_neg notReady, done_get,
    done_get, sendLease_get (by decide), sendLease_seq]
  simp (decide := true)

theorem accept_fences (good : leaseOf opAccept f = some x) (pair : pairing s = true) (active : s.get Obj.role = roActive)
    (released : s.get Reg.handoverFrame = x.frame + 1) (present : x.frame = s.frame) (early : s.get Reg.grantJudged = 0) :
    ∃ t, exec (.accept f) s = .next t ∧ t.get Reg.fenceDue = 1 := by
  have accepts : (hearLease x s.fresh).get Obj.role = roActive ∧ (hearLease x s.fresh).get Reg.handoverFrame = x.frame + 1 ∧
      x.frame = (hearLease x s.fresh).frame ∧ (hearLease x s.fresh).get Reg.grantJudged = 0 := by
    rw [get_hearLease (by decide) (by decide), get_hearLease (by decide) (by decide), get_hearLease (by decide) (by decide), hearLease_frame]
    exact ⟨active, released, present, early⟩
  change ∃ t, execAccept f s = .next t ∧ _
  refine run_yields ?_
  rw [onLease_hears good pair (active ▸ by decide), if_pos accepts]
  simp (decide := true)

theorem refuse_cancels (good : leaseOf opRefuse f = some x) (pair : pairing s = true) (active : s.get Obj.role = roActive)
    (released : s.get Reg.handoverFrame = x.frame + 1) : ∃ t, exec (.refuse f) s = .next t ∧ t.get Reg.handoverFrame = 0 := by
  have refused : (hearLease x s.fresh).get Obj.role = roActive ∧ (hearLease x s.fresh).get Reg.handoverFrame = x.frame + 1 := by
    rw [get_hearLease (by decide) (by decide), get_hearLease (by decide) (by decide)]
    exact ⟨active, released⟩
  change ∃ t, execRefuse f s = .next t ∧ _
  refine run_yields ?_
  rw [onLease_hears good pair (active ▸ by decide), if_pos refused]
  simp (decide := true)

theorem resign_unpairs (good : leaseOf opResign f = some x) (pair : pairing s = true) (active : s.get Obj.role = roActive) :
    ∃ t, exec (.resign f) s = .next t ∧ t.get Reg.paired = 0 ∧ t.get Obj.partnerRole = 255 ∧
      t.get Reg.leaseSeq = (s.get Reg.leaseSeq + 1) % 65536 := by
  have role : (hearLease x s.fresh).get Obj.role = roActive := (get_hearLease (by decide) (by decide) ..).trans active
  obtain ⟨paired, partner, -, seq⟩ := unpair_leaves 2 (sendLease opResignAck x.frame (hearLease x s.fresh))
  change ∃ t, execResign f s = .next t ∧ _
  refine run_yields ?_
  rw [onLease_hears good pair (active ▸ by decide), if_pos role]
  refine ⟨(done_get ..).trans paired, (done_get ..).trans partner, (done_get ..).trans (seq.trans ?_)⟩
  rw [sendLease_seq, get_hearLease (by decide) (by decide), fresh_get]

theorem resignAck_isolates (good : leaseOf opResignAck f = some x) (pair : pairing s = true) (standby : s.get Obj.role = roStandby)
    (resigns : s.is Reg.resignDue = true) : ∃ t, exec (.resignAck f) s = .next t ∧ t.get Reg.isolateDue = 1 := by
  have acknowledged : (hearLease x s.fresh).get Obj.role = roStandby ∧ (hearLease x s.fresh).is Reg.resignDue := by
    rw [get_hearLease (by decide) (by decide), hearLease_is (by decide) (by decide)]
    exact ⟨standby, resigns⟩
  change ∃ t, execResignAck f s = .next t ∧ _
  refine run_yields ?_
  rw [onLease_hears good pair (standby ▸ by decide), if_pos acknowledged]
  simp (decide := true)

end

/-- Settles O55, one lemma for each command. -/
theorem pairLease : Obligations.PairLease := by
  unfold Obligations.PairLease
  exact ⟨fun _ _ _ good pair standby => request_granted good pair standby,
    fun _ _ _ good pair isolated joins => request_synchronises good pair isolated joins,
    fun _ _ _ good pair active present early => grant_pairs good pair active present early,
    fun _ active paired first granted => frame_granted active paired first granted,
    fun _ active paired first ungranted => frame_ungranted active paired first ungranted,
    fun _ active paired ended => lease_fences active paired ended, fun _ active paired ended => lease_unpairs active paired ended,
    fun _ standby open_ silent => silent_takenOver standby open_ silent,
    fun _ standby open_ silent => assertedLine_holds standby open_ silent,
    fun _ _ _ good pair standby fit locked => release_accepted good pair standby fit locked,
    fun _ _ _ good pair standby unfit => release_refused good pair standby unfit,
    fun _ _ _ good pair active released present early => accept_fences good pair active released present early,
    fun _ _ _ good pair active released => refuse_cancels good pair active released,
    fun _ _ _ good pair active => resign_unpairs good pair active,
    fun _ _ _ good pair standby resigns => resignAck_isolates good pair standby resigns⟩

end Sys2Proof.Machine
end

section
/-!
THEOREM. The partner's ACTIVE line at a module that drives a coil (R371, R383, R393).
-/

namespace Sys2Proof.Machine

set_option Elab.async false

/-- An ACTIVE module has coil 0 on. -/
def drivenCoil : State := (State.reset.set Obj.role roActive).set Obj.lsState lsOn

theorem drivenCoil_losesSupply :
    ∃ t, exec (.partnerActiveLineChange true) drivenCoil = .next t ∧ t.get Obj.lsState = lsSupplyOff := by
  change ∃ t, execPartnerActiveLineChange true drivenCoil = .next t ∧ _
  refine run_yields ((done_get ..).trans ?_)
  decide +kernel

/-- Refutes O56: in `drivenCoil` the asserted line also takes safe output 0 off, which disables the coil's group, so that the
channel is in SUPPLY_OFF and not OFF. -/
theorem not_pairRoles : ¬ Obligations.PairRoles := by
  unfold Obligations.PairRoles
  rintro ⟨-, -, -, -, -, -, -, -, -, -, -, -, line, -⟩
  obtain ⟨t, run, -, off⟩ := line drivenCoil 0 (by decide) (by decide)
  obtain ⟨t', run', supplyOff⟩ := drivenCoil_losesSupply
  cases run.symm.trans run'
  exact absurd (supplyOff.symm.trans off) (by decide)

end Sys2Proof.Machine
end

section
/-!
THEOREM. A commit whose staged image lists a cell twice (R448).
-/

namespace Sys2Proof.Machine

set_option Elab.async false

/-- A commit runs whose staged image lists the start-up stage twice. -/
def doublyStaged : State :=
  { State.reset.set Reg.commitBusy 1 with staged := ⟨[(Obj.startUpStage.key 0 0, 1), (Obj.startUpStage.key 0 0, 2)], [], [], []⟩ }

theorem doublyStaged_kept : ∃ t, exec .commitValid doublyStaged = .next t ∧ t.journal.regs = [(Obj.startUpStage.key 0 0, 1)] := by
  change ∃ t, execCommitValid doublyStaged = .next t ∧ _
  refine run_yields ?_
  decide +kernel

/-- Refutes O58: the journal is kept in canonical form, so that of `doublyStaged` it keeps one of the two cells. The statement
asks for the staged image itself in every state. -/
theorem not_journalCommits : ¬ Obligations.JournalCommits := by
  unfold Obligations.JournalCommits
  rintro ⟨-, -, commit, -⟩
  obtain ⟨t, run, -, -, journal, -⟩ := commit doublyStaged (by decide) (by decide)
  obtain ⟨t', run', kept⟩ := doublyStaged_kept
  cases run.symm.trans run'
  exact absurd (kept.symm.trans (congrArg Kept.regs journal)) (by decide)

end Sys2Proof.Machine
end

section
/-!
THEOREM. Faults of the processors and of the pool, its owners and the background test (R436 to R446), one lemma for each command.
-/

namespace Sys2Proof.Machine

set_option Elab.async false

/-! ### A processor that halts, Hardpan in its safe state -/

theorem haltProcessor_leaves (source : Nat) (s : State) :
    (haltProcessor source s).get Reg.lockstepHeld = source ∧ (haltProcessor source s).get Reg.resetKind = 2 := by
  have stamped := watchdogReset_stamped source s
  simp (decide := true) [haltProcessor, stamped.kind]

theorem enterSafeState_hpState (diagnostic : Int) (s : State) : (enterSafeState diagnostic s).get Obj.hpState = 2 := by
  unfold enterSafeState
  split
  next safe => exact safe
  · rw [get_setOutputs_of left_hpState, logEvent_get (by decide),
      forN_get fun m u => get_abortTest (by decide) (by decide) .., get_set_same]

section
variable {s : State}

theorem lockstep_halts {processor : Fin 5} (notHp : processor.val ≠ 3) :
    ∃ t, exec (.lockstepMismatch processor) s = .next t ∧
      t.get Reg.lockstepHeld = (if processor.val = 4 then 4 else processor.val + 1 : Nat) ∧ t.get Reg.resetKind = 2 := by
  change ∃ t, execLockstepMismatch processor s = .next t ∧ _
  refine run_yields ?_
  rw [if_neg notHp, done_get, done_get]
  exact haltProcessor_leaves _ _

theorem lockstep_ofHp (runs : s.get Obj.hpState ≠ 2) : ∃ t, exec (.lockstepMismatch 3) s = .next t ∧ t.get Obj.hpState = 2 ∧
    t.get Obj.lockstepFaults 0 3 = (s.get Obj.lockstepFaults 0 3 + 1) % 4294967296 := by
  have left : LeftByOutputs Obj.lockstepFaults := ⟨by decide, by decide +kernel⟩
  have enters : ¬ (s.fresh.inc Obj.lockstepFaults 0 3).get Obj.hpState = 2 := by
    rw [State.inc, get_set_other _ _ _ _ _ _ _ _ (by decide)]
    exact runs
  change ∃ t, execLockstepMismatch 3 s = .next t ∧ _
  refine run_yields ?_
  rw [if_pos (by decide), done_get, done_get, submitObject_get (by decide), submitObject_get (by decide)]
  refine ⟨enterSafeState_hpState .., ?_⟩
  rw [enterSafeState, if_neg enters, get_setOutputs_of left, logEvent_get (by decide),
    forN_get fun m u => get_abortTest (by decide) (by decide) ..]
  simp (decide := true) [State.inc]

/-! ### Errors of the pool -/

theorem correctedError_counted {address : Fin 6291456} : ∃ t, exec (.poolSingleBitError address) s = .next t ∧
    t.get Obj.correctedErrors (bankOf address) = (s.get Obj.correctedErrors (bankOf address) + 1) % 4294967296 ∧
    t.get Obj.lastErrorAddress (bankOf address) = poolWord address := by
  change ∃ t, s.run (singleError address) = .next t ∧ _
  refine run_yields ?_
  rw [singleError]
  simp (decide := true) [get_ite, State.inc]

/-- What is counted of an uncorrectable error, before the bank's owner reacts. -/
def doubleErrorNoted (address : Nat) (s : State) : State :=
  let b := bankOf address
  logEvent 0x2431 srcSupply (data8 [b] ++ data32 (poolWord address) ++ data8 [s.get Obj.owner b])
    (healthItem 3 b ((s.inc Obj.uncorrectableErrors b).set Obj.lastErrorAddress (poolWord address) b))

theorem doubleError_runs {address : Fin 6291456} {slot : Fin 1024} {channels : List (Fin 76)} {push : Option (Fin 8)} {P : State → Prop}
    (owned : s.get Obj.owner (bankOf address) ≠ 0)
    (h : P ((ownerReacts (s.get Obj.owner (bankOf address)) slot (channels.map (·.val)) (push.map (·.val))
      (doubleErrorNoted address s.fresh)).done s.pending)) :
    ∃ t, exec (.poolDoubleBitError address slot channels push) s = .next t ∧ P t := by
  have read : ¬ s.fresh.get Obj.owner (bankOf address) = 0 := owned
  change ∃ t, execPoolDoubleBitError address slot channels push s = .next t ∧ _
  refine run_yields ?_
  dsimp only
  rw [if_neg read]
  exact h

/-- What the loop engine, metering, the exchange unit or nobody does about an error leaves the counts of the pool. -/
theorem ownerReacts_get {o : Obj} (q : o.quiet = true) (slots : o.id ∉ Footprint.leError) (channel : o.id ∉ Footprint.faultChannel)
    (resend : o.id ∉ Footprint.resendFrom) (drawn : o.id ≠ Reg.freeCount.id) {owner : Int} (other : 6 ≤ owner) (slot : Nat)
    (channels : List Nat) (push : Option Nat) (s : State) (i j : Nat) :
    (ownerReacts owner slot channels push s).get o i j = s.get o i j := by
  unfold ownerReacts
  rw [if_neg (show ¬ owner = 4 by omega), if_neg (show ¬ (1 ≤ owner ∧ owner ≤ 3) by omega), if_neg (show ¬ owner = 5 by omega)]
  split
  · exact get_leError q slots ..
  split
  · exact (forL_get (fun c u => get_faultChannel q channel ..) ..).trans (get_set_other _ _ _ _ _ _ _ _ drawn)
  split
  · cases push with
    | some ch => exact get_resendFrom q resend ..
    | none => rfl
  · rfl

section
variable {address : Fin 6291456} {slot : Fin 1024} {channels : List (Fin 76)} {push : Option (Fin 8)}

theorem uncorrectableError_counted (other : 6 ≤ s.get Obj.owner (bankOf address)) :
    ∃ t, exec (.poolDoubleBitError address slot channels push) s = .next t ∧
      t.get Obj.uncorrectableErrors (bankOf address) = (s.get Obj.uncorrectableErrors (bankOf address) + 1) % 4294967296 ∧
      t.get Obj.lastErrorAddress (bankOf address) = poolWord address := by
  refine doubleError_runs (by omega) ?_
  rw [done_get, done_get,
    ownerReacts_get (o := Obj.uncorrectableErrors) (by decide) (by decide +kernel) (by decide) (by decide) (by decide) other,
    ownerReacts_get (o := Obj.lastErrorAddress) (by decide) (by decide +kernel) (by decide) (by decide) (by decide) other, doubleErrorNoted]
  simp (decide := true) [State.inc]

theorem uncorrectableError_ofHp (owner : s.get Obj.owner (bankOf address) = 4) :
    ∃ t, exec (.poolDoubleBitError address slot channels push) s = .next t ∧ t.get Obj.hpState = 2 := by
  refine doubleError_runs (by omega) ?_
  rw [done_get, owner]
  exact enterSafeState_hpState ..

theorem uncorrectableError_halts (low : 1 ≤ s.get Obj.owner (bankOf address)) (high : s.get Obj.owner (bankOf address) ≤ 3) :
    ∃ t, exec (.poolDoubleBitError address slot channels push) s = .next t ∧ t.get Reg.resetKind = 2 ∧
      t.get Reg.lockstepHeld = s.get Obj.owner (bankOf address) := by
  refine doubleError_runs (by omega) ?_
  obtain ⟨held, kind⟩ := haltProcessor_leaves (s.get Obj.owner (bankOf address)).toNat (doubleErrorNoted address s.fresh)
  unfold ownerReacts
  rw [if_neg (by omega), if_neg (by omega), if_neg (by omega), if_pos ⟨low, high⟩, done_get, done_get]
  exact ⟨kind, held.trans (Int.toNat_of_nonneg (by omega))⟩

end

/-! ### Owners -/

theorem bank_handed {bank : Fin 24} {requester newOwner : Fin 9} (owns : s.get Obj.owner bank = requester.val) (real : requester.val ≠ 0)
    (not20 : bank.val ≠ 20) (not21 : bank.val ≠ 21) (new : requester ≠ newOwner) :
    ∃ t, exec (.ownerRegisterWrite bank requester newOwner) s = .next t ∧ t.get Obj.owner bank = newOwner.val ∧
      t.get Obj.xdSecondaryAccess bank = 0 ∧ t.get Obj.handovers bank = (s.get Obj.handovers bank + 1) % 4294967296 := by
  have owner : s.fresh.get Obj.owner bank = requester.val := owns
  have differs : requester.val ≠ newOwner.val := fun same => new (Fin.ext same)
  change ∃ t, execOwnerRegisterWrite bank requester newOwner s = .next t ∧ _
  refine run_yields ?_
  dsimp only
  rw [owner, if_neg (by omega), if_neg (by omega), handBank]
  simp (decide := true) [State.inc]

theorem bank_refused {bank : Fin 24} {requester newOwner : Fin 9} (other : s.get Obj.owner bank ≠ requester.val) :
    ∃ t, exec (.ownerRegisterWrite bank requester newOwner) s = .next t ∧ t.get Obj.owner bank = s.get Obj.owner bank ∧
      t.get Obj.refusedOwnerWrites bank = (s.get Obj.refusedOwnerWrites bank + 1) % 4294967296 := by
  have refused : s.fresh.get Obj.owner bank = 0 ∨ s.fresh.get Obj.owner bank ≠ requester.val := .inr other
  change ∃ t, execOwnerRegisterWrite bank requester newOwner s = .next t ∧ _
  refine run_yields ?_
  dsimp only
  rw [if_pos refused]
  simp (decide := true) [State.inc]

theorem access_granted {bank : Fin 24} {requester : Fin 9} {grant : Fin 3} (owns : s.get Obj.owner bank = requester.val)
    (real : requester.val ≠ 0) (notXd : (requester.val : Int) ≠ ownXd) (not20 : bank.val ≠ 20) (not21 : bank.val ≠ 21) :
    ∃ t, exec (.xdGrant bank requester grant) s = .next t ∧ t.get Obj.xdSecondaryAccess bank = grant.val := by
  have owner : s.fresh.get Obj.owner bank = requester.val := owns
  change ∃ t, execXdGrant bank requester grant s = .next t ∧ _
  refine run_yields ?_
  dsimp only
  rw [owner, if_neg (by omega)]
  simp (decide := true)

/-! ### The background test -/

section
variable {singles doubles : List (Fin 64)}

theorem nextRegion_moves (more : s.getN Obj.currentRegion + 1 < siltRegions) :
    (nextRegion s).get Obj.currentRegion = s.getN Obj.currentRegion + 1 ∧ (nextRegion s).get Reg.siltAbandonRun = 0 := by
  rw [nextRegion]
  dsimp only
  rw [if_pos more]
  simp (decide := true)

theorem nextRegion_endsPass (last : siltRegions ≤ s.getN Obj.currentRegion + 1) :
    (nextRegion s).get Obj.currentRegion = 0 ∧ (nextRegion s).get Obj.siltPasses = (s.get Obj.siltPasses + 1) % 4294967296 := by
  rw [nextRegion]
  dsimp only
  rw [if_neg last.not_gt, forN_get fun b u => get_set_other _ _ _ _ _ _ _ _ (by decide),
    forN_get fun b u => get_set_other _ _ _ _ _ _ _ _ (by decide)]
  simp (decide := true) [State.inc]

/-- A saved region is the current one still. -/
theorem saveRegion_getN : (saveRegion singles doubles s).getN Obj.currentRegion = s.getN Obj.currentRegion :=
  congrArg Int.toNat (get_saveRegion (by decide) (by decide) ..)

theorem region_tested (more : s.getN Obj.currentRegion + 1 < siltRegions) :
    ∃ t, exec (.siltRegionTest singles doubles false) s = .next t ∧
      t.get Obj.currentRegion = s.getN Obj.currentRegion + 1 ∧ t.get Reg.siltAbandonRun = 0 := by
  have current : (saveRegion singles doubles s.fresh).getN Obj.currentRegion = s.getN Obj.currentRegion := saveRegion_getN
  obtain ⟨region, run⟩ := nextRegion_moves (current.symm ▸ more)
  change ∃ t, execSiltRegionTest singles doubles false s = .next t ∧ _
  exact run_yields ⟨(done_get ..).trans (region.trans (by rw [current])), (done_get ..).trans run⟩

theorem pass_ended (last : siltRegions ≤ s.getN Obj.currentRegion + 1) :
    ∃ t, exec (.siltRegionTest singles doubles false) s = .next t ∧ t.get Obj.currentRegion = 0 ∧
      t.get Obj.siltPasses = (s.get Obj.siltPasses + 1) % 4294967296 := by
  have current : (saveRegion singles doubles s.fresh).getN Obj.currentRegion = s.getN Obj.currentRegion := saveRegion_getN
  have passes : (saveRegion singles doubles s.fresh).get Obj.siltPasses = s.get Obj.siltPasses := get_saveRegion (by decide) (by decide) ..
  obtain ⟨region, count⟩ := nextRegion_endsPass (current.symm ▸ last)
  change ∃ t, execSiltRegionTest singles doubles false s = .next t ∧ _
  exact run_yields ⟨(done_get ..).trans region, (done_get ..).trans (count.trans (by rw [passes]))⟩

/-- The state an abandoned test is judged in. -/
theorem abandoned_get {o : Obj} (q : o.quiet = true) (h : o.id ∉ Footprint.saveRegion) (ne : o.id ≠ Obj.abandonedRegionTests.id) :
    ((saveRegion singles doubles s.fresh).inc Obj.abandonedRegionTests).get o = s.get o := by
  rw [State.inc, get_set_other _ _ _ _ _ _ _ _ ne, get_saveRegion q h, fresh_get]

theorem test_abandoned (few : s.get Reg.siltAbandonRun + 1 < 8) : ∃ t, exec (.siltTestAbandon singles doubles) s = .next t ∧
    t.get Reg.siltAbandonRun = s.get Reg.siltAbandonRun + 1 ∧ t.get Obj.currentRegion = s.get Obj.currentRegion ∧
    t.get Obj.abandonedRegionTests = (s.get Obj.abandonedRegionTests + 1) % 4294967296 := by
  change ∃ t, execSiltTestAbandon singles doubles s = .next t ∧ _
  refine run_yields ?_
  dsimp only
  rw [abandoned_get (by decide) (by decide) (by decide), if_pos few]
  simp (decide := true) [State.inc]

theorem region_skipped (many : 8 ≤ s.get Reg.siltAbandonRun + 1) (more : s.getN Obj.currentRegion + 1 < siltRegions) :
    ∃ t, exec (.siltTestAbandon singles doubles) s = .next t ∧ t.get Reg.siltAbandonRun = 0 ∧
      t.get Obj.currentRegion = s.getN Obj.currentRegion + 1 ∧
      t.get Obj.skippedRegions = (s.get Obj.skippedRegions + 1) % 4294967296 := by
  have current (code : Nat) (d : List Byte) :
      (logEvent code srcSupply d (((saveRegion singles doubles s.fresh).inc Obj.abandonedRegionTests).inc Obj.skippedRegions)).getN
        Obj.currentRegion = s.getN Obj.currentRegion := by
    rw [State.getN, logEvent_get (by decide), State.inc, get_set_other _ _ _ _ _ _ _ _ (by decide),
      abandoned_get (by decide) (by decide) (by decide), State.getN]
  change ∃ t, execSiltTestAbandon singles doubles s = .next t ∧ _
  refine run_yields ?_
  dsimp only
  rw [abandoned_get (by decide) (by decide) (by decide), if_neg many.not_gt, done_get, done_get, done_get]
  obtain ⟨region, run⟩ := nextRegion_moves (s := logEvent 0x2433 srcSupply _ _) ((current ..).symm ▸ more)
  refine ⟨run, region.trans (by rw [current]), ?_⟩
  rw [get_nextRegion (by decide) (by decide), logEvent_get (by decide)]
  simp (decide := true) [State.inc]

end
end

/-- Settles O57, one lemma for each command. -/
theorem poolAndSilt : Obligations.PoolAndSilt := by
  unfold Obligations.PoolAndSilt
  exact ⟨fun _ _ notHp => lockstep_halts notHp, fun _ runs => lockstep_ofHp runs, fun _ _ => correctedError_counted,
    fun _ _ _ _ _ other => uncorrectableError_counted other, fun _ _ _ _ _ owner => uncorrectableError_ofHp owner,
    fun _ _ _ _ _ low high => uncorrectableError_halts low high,
    fun _ _ _ _ owns real not20 not21 new => bank_handed owns real not20 not21 new, fun _ _ _ _ other => bank_refused other,
    fun _ _ _ _ owns real notXd not20 not21 => access_granted owns real notXd not20 not21, fun _ _ _ more => region_tested more,
    fun _ _ _ last => pass_ended last, fun _ _ _ few => test_abandoned few, fun _ _ _ many more => region_skipped many more⟩

end Sys2Proof.Machine
end
